-- ==== Sys2Proof/Word.lean ====
section
/-! DEFINITION. The words the model computes with and the one shape of sparse data: a list of index and value pairs,
read with a default for an index that is not listed. -/

namespace Sys2Proof

/-- One byte of an addressed memory. -/
abbrev Byte := BitVec 8

/-- A 32-bit register word (R3). -/
abbrev Word := BitVec 32

/-- A position in 48.16 format (R14), a device time in ns (R16) or another 64-bit quantity. -/
abbrev Quad := BitVec 64

/-- One vector register of an engine: 32 lanes of 16 bits (R176). -/
abbrev Vec := Vector (BitVec 16) 32

/-- Sparse data: what the list does not name holds a default the reader supplies. -/
abbrev AMap (α : Type) := List (Nat × α)

/-- The value at an index, `d` where the index is not listed. -/
def AMap.get {α : Type} (d : α) : AMap α → Nat → α
  | [], _ => d
  | (k, v) :: m, i => if k = i then v else AMap.get d m i

/-- Write the value at an index, keeping the list in rising order of index. -/
def AMap.set {α : Type} : AMap α → Nat → α → AMap α
  | [], i, v => [(i, v)]
  | (k, w) :: m, i, v =>
    if i < k then (i, v) :: (k, w) :: m
    else if i = k then (i, v) :: m
    else (k, w) :: AMap.set m i v

/-- Bits `lo + w - 1` to `lo` of a number. -/
def bitsOf (v lo w : Nat) : Nat := v / 2 ^ lo % 2 ^ w

/-- The signed number that the low `w` bits of `v` spell in two's complement. -/
def sint (w v : Nat) : Int :=
  if v % 2 ^ w < 2 ^ (w - 1) then ((v % 2 ^ w : Nat) : Int) else ((v % 2 ^ w : Nat) : Int) - 2 ^ w

/-- The `w`-bit two's-complement pattern of a number, wrapping. -/
def uwrap (w : Nat) (x : Int) : Nat := (x % (2 ^ w : Nat)).toNat

/-- `1` for true, `0` for false. -/
def b2n (b : Bool) : Nat := if b then 1 else 0

end Sys2Proof
end

