-- ==== Sys2Proof/Syntax.lean ====
section
/-! DEFINITION. The commands the module takes: one constructor for each row of the opcode table, with the operands that
the row's rule names. Operands that name an instance are bounded by their type; times `t` are elapsed ns (log 1). -/

namespace Sys2Proof

/-- A command packet as the sender posts it (R367): CID, FLAGS, the reserved bytes 5 to 7, its ring index and the words
W0 to W13. The opcode is the constructor's. -/
structure Cmd where
  cid   : BitVec 16
  flags : BitVec 8
  resv  : BitVec 24
  idx   : BitVec 16
  w     : List Word
  deriving DecidableEq, Repr

/-- How a two-wire transaction was acknowledged (R403). -/
inductive TwEnd where
  | acked
  | addrNack (second : Bool)
  | dataNack (i : Nat)
  | arbLost (i : Nat)
  deriving DecidableEq, Repr


/-- A read request of the host (R4, R9): the offset of its first byte in BAR0 and how many bytes it asks for. -/
structure BarRead where
  off : BitVec 26
  len : Nat
  deriving DecidableEq, Repr

/-- A line of a two-wire bus that is held low: SDA or else SCL, and the instant from which it has been low (R408). -/
structure TwLow where
  sda   : Bool
  since : Nat
  deriving DecidableEq, Repr

/-- VCAM in mV, and the instant from which it has been in range (R463). -/
structure VcamSense where
  mV    : BitVec 16
  since : Nat
  deriving DecidableEq, Repr

/-- A current measured at a camera power output in mA, and for how many ns voltage and current have been what they are (R138). -/
structure PocAmps where
  mA   : BitVec 16
  held : Nat
  deriving DecidableEq, Repr

/-- A NAND page that was read (R272): which page, in the numbering of the row; corrected bits; and the decode stage used, 0 where no
stage corrects it. -/
structure NandPage where
  page  : Nat
  bits  : Nat
  stage : BitVec 2
  deriving DecidableEq, Repr

/-- What an Announce says (R350): domain, log2 of its interval, priority1, clock quality with priority2, grandmasterIdentity, and
stepsRemoved with the source port. -/
structure AnnounceMsg where
  dom     : BitVec 7
  log     : Byte
  prio1   : Byte
  quality : BitVec 40
  gm      : BitVec 64
  steps   : BitVec 96
  deriving DecidableEq, Repr

/-- What carries the grandmaster's time (R356, R357): preciseOriginTimestamp and correctionField in ns, and the cumulative rate ratio
less 1 in 2^-41. -/
structure GmTime where
  origin : Nat
  corr   : Int
  cum    : Int
  deriving DecidableEq, Repr

/-- What the module measures at a management tick (R256, R276, R417, R420, R462): mean power of rails 0 to 6 and input power in
mW, the six diodes, the case sensor and the valid GDDR7 device readouts in 1/64 °C, the supplies in mV, and the background GDDR7
rate in MB/s. -/
structure TickIn where
  rails  : List Word
  pin    : Word
  diodes : List (BitVec 16)
  case   : BitVec 16
  gddr   : List (BitVec 16)
  vin    : BitVec 16
  vaux   : BitVec 16
  vcam   : BitVec 16
  vio    : BitVec 16
  bg     : Word
  deriving DecidableEq, Repr

/-- The commands and events of the table, one constructor a row. -/
inductive Instr where
  /-- A BAR0 write to a register that has no row of its own sets its RW, W1C and W1S fields by type, or sets the staged value of staged fields, or is discarded (R7). -/
  | registerWrite (off : BitVec 26) (val : Word) (be : BitVec 4) (t : Nat)
  /-- A read of a _LO register returns its value and latches the _HI value for the next _HI read (R9). -/
  | loReadLatch (off : BarRead) (t : Nat)
  /-- The 1 ms management tick interprets commands, renews armed epochs, retests admission, updates the thermal model and wear governor, and emits event records (R21). -/
  | managementTick (x : TickIn) (t : Nat)
  /-- In the sample that meets an armed boundary every differing staged value becomes active in every block and the seal lifts (R380). -/
  | epochCommitSample (t : Nat)
  /-- A filtered level change on an encoder signal is stamped, checked and, if counted, updates count, axis position, speed, motion state and the ledger (R33). -/
  | encoderEdge (n : Fin 8) (lv : BitVec 3) (mid : BitVec 3) (t : Nat)
  /-- A rising edge of C in QUAD mode latches the port count into ZLATCH (R38). -/
  | indexPulse (n : Fin 8) (t : Nat)
  /-- A biased input stays in the undefined window for 50 µs and becomes OPEN, faulting the port (R40). -/
  | openWire (n : Fin 8) (sig : Fin 3) (t : Nat)
  /-- A signal at a valid level for 50 µs leaves OPEN (R40). -/
  | openClear (n : Fin 8) (sig : Fin 3) (t : Nat)
  /-- ENC_PWRn in current limit for 2 ms or below half voltage latches off and sets TRIP (R41). -/
  | pwrOvercurrent (n : Fin 8) (t : Nat)
  /-- Writing 1 to EPn_PWR.TRIP clears it and turns the switch back on if enabled (R41). -/
  | encPwrTripClear (n : Fin 8) (t : Nat)
  /-- The reading period expires and the port starts an SSI or BiSS reading (R43). -/
  | serialReadingStart (n : Fin 8) (t : Nat)
  /-- A serial reading ends and yields a delta, no motion or a serial error (R46). -/
  | serialReading (n : Fin 8) (early : Bool) (raw : BitVec 40) (errs : BitVec 2) (crc : BitVec 6) (t : Nat)
  /-- No counted step for SSTO puts the port or axis into STANDSTILL with speed 0 (R54). -/
  | standstillTimeout (n : Fin 8) (t : Nat)
  /-- Every 10 µs past the expected step time the speed magnitude decays (R56). -/
  | speedDecay (n : Fin 8) (t : Nat)
  /-- The speed mismatch persists for TIME ms and AXn_STAT.SLIP sets (R50). -/
  | slip (n : Fin 8) (t : Nat)
  /-- The slip condition is absent for TIME ms and SLIP clears (R50). -/
  | slipClear (n : Fin 8) (t : Nat)
  /-- A write copies position, speed, status, uncertainty and time of selected axes into snapshot registers (R62). -/
  | axsSnap (axes : BitVec 8) (t : Nat)
  /-- EPn_CTL.CLR_UNC clears the port uncertainty (R60). -/
  | epClrUnc (n : Fin 8)
  /-- EPn_CTL.CLR_CNT clears the port fault counters (R63). -/
  | epClrCnt (n : Fin 8)
  /-- AXn_CTL.CLR_UNC clears the axis uncertainty (R60). -/
  | axClrUnc (n : Fin 8)
  /-- TRG_WIN_CMD OP 1 writes D0–D7 to the staged copy of an entry (R69). -/
  | ledgerWinWrite
  /-- TRG_WIN_CMD OP 2 copies the staged entry to D0–D7 (R95). -/
  | ledgerWinReadStaged
  /-- TRG_WIN_CMD OP 3 copies the active entry and its state to the window (R95). -/
  | ledgerWinReadActive
  /-- TRG_CTL.CLR_CNT clears the ledger counters (R95). -/
  | trgClrCnt
  /-- An issue time 1 µs from due freezes, after the link and collision checks (R75). -/
  | issueFreeze (e : Fin 4096) (ch : Fin 32) (t : Nat)
  /-- At t_issue the TRIGGER symbol leaves the back-channel transmitter with its FINE value (R118). -/
  | triggerIssue (c : Fin 24) (t : Nat)
  /-- EXPOSURE ns after the trigger the EXPOSURE_END symbol is sent (R120). -/
  | exposureEndIssue (c : Fin 24) (t : Nat)
  /-- A strobe pulse starts on TROn at its issue time (R87). -/
  | strobeIssue (n : Fin 8) (t : Nat)
  /-- The pulse width elapses and the output returns inactive (R87). -/
  | strobePulseEnd (n : Fin 8) (t : Nat)
  /-- An output held on for MAXW is cut (R87). -/
  | strobeClip (n : Fin 8) (t : Nat)
  /-- BLANK µs after opening the settings window closes (R88). -/
  | blankingWindowClose (c : Fin 24) (t : Nat)
  /-- At the end of each flicker window the context forms a frequency, phase and depth report (R167). -/
  | flickerReport (ctx : Fin 24) (t : Nat)
  /-- No valid report for 4 expected periods moves LOCKED to HOLDOVER (R93). -/
  | lightHoldover (t : Nat)
  /-- HOLDOVER lasting LOSS ms returns to SEARCH (R93). -/
  | lightLost (t : Nat)
  /-- Signal energy appears at FLRn_IO and the receiver enters LOCKING (R104). -/
  | signalDetect (n : Fin 24) (t : Nat)
  /-- The CDR locks and the receiver enters SEARCH and adapts its equaliser (R104). -/
  | cdrLock (n : Fin 24) (t : Nat)
  /-- Loss of CDR lock moves the receiver to LOCKING or DOWN (R106). -/
  | signalLost (n : Fin 24) (energy : Bool) (t : Nat)
  /-- A destuffed cell is matched against the sync word, descrambled and parsed into packets (R105). -/
  | forwardCell (n : Fin 24) (head : List Bool) (rest : List Bool) (ps : Nat) (t : Nat)
  /-- The 66-word hit window ends and LNK_ALIGN.DONE sets (R107). -/
  | hitWindowDone (n : Fin 24) (t : Nat)
  /-- LNK_CTL.BITSLIP moves the word boundary one bit later (R107). -/
  | bitslip (n : Fin 24) (t : Nat)
  /-- Service firmware slips the word boundary until sync words appear (R107). -/
  | alignProcedure (n : Fin 24) (t : Nat)
  /-- A FRAME_START packet is routed, opens a frame, is stamped and is admitted or refused by delivery (R151). -/
  | frameStart (link : Fin 24) (vc : Fin 4) (num : Word) (tseq : BitVec 8) (valid : Bool) (w : BitVec 16) (h : BitVec 16) (t : Nat)
  /-- A LINE packet is placed in the line buffer or resolved as orphan, extra, lost or short (R152). -/
  | line (link : Fin 24) (vc : Fin 4) (num : BitVec 16) (ofs : BitVec 16) (fmt : BitVec 8) (data : List Byte) (bad : Bool) (cut : Bool) (t : Nat)
  /-- A FRAME_END packet closes the frame and opens the next blanking window (R153). -/
  | frameEnd (link : Fin 24) (vc : Fin 4) (num : Word) (lines : BitVec 16) (ovf : Bool) (t : Nat)
  /-- An EMBEDDED packet of an open frame is kept or discarded (R157). -/
  | embedded (link : Fin 24) (vc : Fin 4) (index : BitVec 8) (data : List Byte) (mark : Bool) (t : Nat)
  /-- A BC_ACK answers the outstanding CONTROL or TWO_WIRE frame (R122). -/
  | bcAck (n : Fin 24) (seq : BitVec 4) (result : BitVec 4) (resp : List Byte) (t : Nat)
  /-- An ECHO_REPLY is stamped and yields one latency measurement (R125). -/
  | echoReply (n : Fin 24) (id : Byte) (ps : Nat) (turn : Word) (tpath : Word) (t : Nat)
  /-- A GPIO_IN packet updates LNK_GPIO.IN (R124). -/
  | gpioIn (n : Fin 24) (levels : BitVec 4) (t : Nat)
  /-- A TELEMETRY packet updates LNK_SER0 and LNK_SER1 and may start a burst (R111). -/
  | telemetry (n : Fin 24) (temp : Byte) (supply : BitVec 16) (bcErr : BitVec 16) (trigBad : Byte) (relock : Byte) (fwdOvf : Byte) (t : Nat)
  /-- A LOOP packet from the far end is compared by the loop checker (R134). -/
  | loopPacket (n : Fin 24) (pairs : Nat) (data : List Byte) (flags : List Byte) (t : Nat)
  /-- No BC_ACK within 20 µs retransmits the frame or fails it (R122). -/
  | bcAckTimeout (n : Fin 24) (t : Nat)
  /-- 1 ms after a failed READ_ID the link sends it again (R131). -/
  | readIdRetry (n : Fin 24) (t : Nat)
  /-- An ECHO of a burst or periodic series leaves and is stamped (R126). -/
  | echoSend (n : Fin 24) (ps : Nat) (t : Nat)
  /-- A reply not arrived 50 µs after its ECHO is lost (R125). -/
  | echoReplyTimeout (n : Fin 24) (id : Byte) (ps : Nat) (t : Nat)
  /-- The burst is judged and LLAT and LLAT_VALID are set or the failure counted (R126). -/
  | echoBurstEnd (n : Fin 24) (t : Nat)
  /-- 1 ms or 100 ms after a failure a new burst starts (R126). -/
  | echoBurstRetry (n : Fin 24) (t : Nat)
  /-- Every PERIOD ms an aligned calibrated link sends one ECHO (R127). -/
  | periodicEcho (n : Fin 24) (ps : Nat) (t : Nat)
  /-- LNK_CTL.ECHO_NOW starts a burst (R127). -/
  | echoNow (n : Fin 24) (t : Nat)
  /-- Every 1 ms the link sends a GPIO symbol (R124). -/
  | gpioRefresh (n : Fin 24) (t : Nat)
  /-- A link not ACTIVE by the exit time is reported (R129). -/
  | bankExitLate (n : Fin 24) (t : Nat)
  /-- 2 ms without CDR lock returns the link to RATE 0 (R132). -/
  | rateFallback (n : Fin 24) (t : Nat)
  /-- VOUT reaches 90% of VCAM and the switch enters ON (R137). -/
  | pocVoutReached (n : Fin 24) (vout : BitVec 16) (iout : BitVec 16) (t : Nat)
  /-- START not completed in 20 ms trips with OVERCUR (R137). -/
  | pocStartTimeout (n : Fin 24) (t : Nat)
  /-- Overcurrent or collapsed VOUT turns the switch off with SHORT (R138). -/
  | pocShort (n : Fin 24) (vout : BitVec 16) (iout : PocAmps) (t : Nat)
  /-- Current at LIM for 1 ms in ON turns the switch off (R138). -/
  | pocOvercurrent (n : Fin 24) (vout : BitVec 16) (iout : PocAmps) (t : Nat)
  /-- Current below 8 mA for 10 ms sets OPEN (R138). -/
  | pocOpen (n : Fin 24) (vout : BitVec 16) (iout : PocAmps) (t : Nat)
  /-- Current of 12 mA for 10 ms clears OPEN (R138). -/
  | pocOpenClear (n : Fin 24) (vout : BitVec 16) (iout : PocAmps) (t : Nat)
  /-- The centre conductor exceeds VCAM + 0.3 V (R138). -/
  | pocBackfeed (n : Fin 24) (live : Bool) (t : Nat)
  /-- Switches admitted at one commit enter START 100 µs apart (R139). -/
  | pocStaggerStart (n : Fin 24) (t : Nat)
  /-- Clearing SHORT and OVERCUR leaves TRIPPED (R137). -/
  | pocFaultClear (n : Fin 24) (t : Nat)
  /-- LNK_CTL.CLR_CNT clears the link counters (R140). -/
  | lnkClrCnt (n : Fin 24)
  /-- Injects an open-load detection (R140). -/
  | lnkInjPocOpen (n : Fin 24)
  /-- Injects a short and turns the switch off (R140). -/
  | lnkInjPocShort (n : Fin 24)
  /-- Corrupts the next sync word in 3 bits (R140). -/
  | lnkInjSync (n : Fin 24)
  /-- Corrupts the next payload CRC (R140). -/
  | lnkInjPcrc (n : Fin 24)
  /-- Corrupts the next HCRC (R140). -/
  | lnkInjHcrc (n : Fin 24)
  /-- The datapath serves one ready line through crop, correction, statistics and output to the flue (R147). -/
  | datapathTurn (p : Fin 12) (idle : Bool) (t : Nat)
  /-- The output writer writes a fill line once the lines before it are written (R155). -/
  | fillLineWrite (c : Fin 24) (r : Fin 4) (t : Nat)
  /-- The frame record item is written when credit allows (R170). -/
  | frameRecordWrite (c : Fin 24) (r : Fin 4) (t : Nat)
  /-- No FRAME_END within TMO closes the frame with TIMEOUT (R153). -/
  | frameTimeout (c : Fin 24) (t : Nat)
  /-- ING_PCTL.CLR_CNT clears the counters of both slots (R171). -/
  | ingClrCnt (p : Fin 12)
  /-- Marks the next flicker report invalid (R171). -/
  | ingInjFlkBad (c : Fin 24)
  /-- Treats the next map entry as out of order (R171). -/
  | ingInjMaperr (c : Fin 24)
  /-- Discards the next ready line (R171). -/
  | ingInjLinedrop (c : Fin 24)
  /-- The loader copies code and parameters and starts a rank with its registers set (R178). -/
  | kernelStart (n : Fin 128) (t : Nat)
  /-- D = A + B modulo 2^32 (R189). -/
  | add (g : Fin 132) (t : Nat)
  /-- D = A − B modulo 2^32 (R189). -/
  | sub (g : Fin 132) (t : Nat)
  /-- D = A and B (R189). -/
  | and (g : Fin 132) (t : Nat)
  /-- D = A or B (R189). -/
  | or (g : Fin 132) (t : Nat)
  /-- D = A xor B (R189). -/
  | xor (g : Fin 132) (t : Nat)
  /-- Shift left by B & 31 (R189). -/
  | shl (g : Fin 132) (t : Nat)
  /-- Logical shift right by B & 31 (R189). -/
  | shr (g : Fin 132) (t : Nat)
  /-- Arithmetic shift right by B & 31 (R189). -/
  | sra (g : Fin 132) (t : Nat)
  /-- Signed less-than (R189). -/
  | slt (g : Fin 132) (t : Nat)
  /-- Unsigned less-than (R189). -/
  | sltu (g : Fin 132) (t : Nat)
  /-- Signed minimum (R189). -/
  | min (g : Fin 132) (t : Nat)
  /-- Signed maximum (R189). -/
  | max (g : Fin 132) (t : Nat)
  /-- Low 32 bits of the product (R189). -/
  | mul (g : Fin 132) (t : Nat)
  /-- High 32 bits of the signed product (R189). -/
  | mulh (g : Fin 132) (t : Nat)
  /-- High 32 bits of the unsigned product (R189). -/
  | mulhu (g : Fin 132) (t : Nat)
  /-- Saturating signed add, setting SSAT on clamp (R189). -/
  | adds (g : Fin 132) (t : Nat)
  /-- Saturating signed subtract (R189). -/
  | subs (g : Fin 132) (t : Nat)
  /-- Count leading zeros (R189). -/
  | clz (g : Fin 132) (t : Nat)
  /-- Count one bits (R189). -/
  | popc (g : Fin 132) (t : Nat)
  /-- Add sign-extended immediate (R189). -/
  | addi (g : Fin 132) (t : Nat)
  /-- And zero-extended immediate (R189). -/
  | andi (g : Fin 132) (t : Nat)
  /-- Or zero-extended immediate (R189). -/
  | ori (g : Fin 132) (t : Nat)
  /-- Xor zero-extended immediate (R189). -/
  | xori (g : Fin 132) (t : Nat)
  /-- Signed less-than immediate (R189). -/
  | slti (g : Fin 132) (t : Nat)
  /-- Load immediate into the upper 16 bits (R189). -/
  | lui (g : Fin 132) (t : Nat)
  /-- Shift by an immediate amount (R189). -/
  | shi (g : Fin 132) (t : Nat)
  /-- 32-bit load (R192). -/
  | ldw (g : Fin 132) (t : Nat)
  /-- 32-bit store (R192). -/
  | stw (g : Fin 132) (t : Nat)
  /-- 16-bit sign-extended load (R192). -/
  | ldh (g : Fin 132) (t : Nat)
  /-- 16-bit zero-extended load (R192). -/
  | ldhu (g : Fin 132) (t : Nat)
  /-- 16-bit store (R192). -/
  | sth (g : Fin 132) (t : Nat)
  /-- 8-bit zero-extended load (R192). -/
  | ldbu (g : Fin 132) (t : Nat)
  /-- 8-bit store (R192). -/
  | stb (g : Fin 132) (t : Nat)
  /-- Atomic add on cluster SRAM (R194). -/
  | amoadd (g : Fin 132) (t : Nat)
  /-- Atomic swap on cluster SRAM (R194). -/
  | amoswap (g : Fin 132) (t : Nat)
  /-- Atomic unsigned maximum on cluster SRAM (R194). -/
  | amomaxu (g : Fin 132) (t : Nat)
  /-- Branch if equal (R189). -/
  | beq (g : Fin 132) (t : Nat)
  /-- Branch if not equal (R189). -/
  | bne (g : Fin 132) (t : Nat)
  /-- Branch if signed less (R189). -/
  | blt (g : Fin 132) (t : Nat)
  /-- Branch if signed greater or equal (R189). -/
  | bge (g : Fin 132) (t : Nat)
  /-- Branch if unsigned less (R189). -/
  | bltu (g : Fin 132) (t : Nat)
  /-- Branch if unsigned greater or equal (R189). -/
  | bgeu (g : Fin 132) (t : Nat)
  /-- Jump and link (R189). -/
  | jal (g : Fin 132) (t : Nat)
  /-- Jump to register and link (R189). -/
  | jalr (g : Fin 132) (t : Nat)
  /-- Starts a zero-overhead loop of a counted body (R198). -/
  | loop (g : Fin 132) (t : Nat)
  /-- Waits for DMA idle and ends the kernel (R200). -/
  | halt (g : Fin 132) (t : Nat)
  /-- Completes every earlier memory access (R194). -/
  | fence (g : Fin 132) (t : Nat)
  /-- Raises the TRAP exception with code B (R203). -/
  | trap (g : Fin 132) (t : Nat)
  /-- Waits at a cluster barrier until all masked engines arrive (R199). -/
  | bar (g : Fin 132) (t : Nat)
  /-- Reads a CSR (R179). -/
  | csrr (g : Fin 132) (t : Nat)
  /-- Writes an RW CSR (R179). -/
  | csrw (g : Fin 132) (t : Nat)
  /-- Starts a DMA transfer on a channel (R197). -/
  | dmago (g : Fin 132) (t : Nat)
  /-- Waits until a DMA channel is idle (R197). -/
  | dmawt (g : Fin 132) (t : Nat)
  /-- A DMA transfer completes or stops (R197). -/
  | dmaTransferDone (g : Fin 132) (ch : Fin 4) (t : Nat)
  /-- Makes the next input item current and returns its length (R195). -/
  | slen (g : Fin 132) (t : Nat)
  /-- Reads 4 bytes of the current item (R195). -/
  | srdw (g : Fin 132) (t : Nat)
  /-- Opens an output item after claiming a credit (R196). -/
  | sbeg (g : Fin 132) (t : Nat)
  /-- Appends 4 bytes to the open item (R196). -/
  | swrw (g : Fin 132) (t : Nat)
  /-- Closes the item and makes it available (R196). -/
  | send (g : Fin 132) (t : Nat)
  /-- Returns the number of items waiting (R195). -/
  | savail (g : Fin 132) (t : Nat)
  /-- An engine waiting in SLEN or SBEG resumes when an item becomes visible or a slot frees (R217). -/
  | streamWaitEnd (g : Fin 132) (t : Nat)
  /-- Lane add modulo 2^16 (R189). -/
  | vadd (g : Fin 132) (t : Nat)
  /-- Lane subtract modulo 2^16 (R189). -/
  | vsub (g : Fin 132) (t : Nat)
  /-- Signed saturating lane add (R189). -/
  | vaddsS (g : Fin 132) (t : Nat)
  /-- Unsigned saturating lane add (R189). -/
  | vaddsU (g : Fin 132) (t : Nat)
  /-- Signed saturating lane subtract (R189). -/
  | vsubsS (g : Fin 132) (t : Nat)
  /-- Unsigned saturating lane subtract (R189). -/
  | vsubsU (g : Fin 132) (t : Nat)
  /-- Lane and (R189). -/
  | vand (g : Fin 132) (t : Nat)
  /-- Lane or (R189). -/
  | vor (g : Fin 132) (t : Nat)
  /-- Lane xor (R189). -/
  | vxor (g : Fin 132) (t : Nat)
  /-- Signed lane minimum (R189). -/
  | vminS (g : Fin 132) (t : Nat)
  /-- Unsigned lane minimum (R189). -/
  | vminU (g : Fin 132) (t : Nat)
  /-- Signed lane maximum (R189). -/
  | vmaxS (g : Fin 132) (t : Nat)
  /-- Unsigned lane maximum (R189). -/
  | vmaxU (g : Fin 132) (t : Nat)
  /-- Unsigned absolute difference (R189). -/
  | vabsdU (g : Fin 132) (t : Nat)
  /-- Unsigned rounded average (R189). -/
  | vavgU (g : Fin 132) (t : Nat)
  /-- Lane product modulo 2^16 (R189). -/
  | vmul (g : Fin 132) (t : Nat)
  /-- High half of signed lane product (R189). -/
  | vmulhS (g : Fin 132) (t : Nat)
  /-- High half of unsigned lane product (R189). -/
  | vmulhU (g : Fin 132) (t : Nat)
  /-- Rounded saturating Q15 product (R189). -/
  | vmulq (g : Fin 132) (t : Nat)
  /-- Lane shift left (R189). -/
  | vshl (g : Fin 132) (t : Nat)
  /-- Lane logical shift right (R189). -/
  | vshrU (g : Fin 132) (t : Nat)
  /-- Lane arithmetic shift right (R189). -/
  | vshrS (g : Fin 132) (t : Nat)
  /-- Selects lanes by predicate (R189). -/
  | vsel (g : Fin 132) (t : Nat)
  /-- Saturating lane absolute value (R189). -/
  | vabsS (g : Fin 132) (t : Nat)
  /-- Vector ALU forms with a scalar operand in every lane (R189). -/
  | valui (g : Fin 132) (t : Nat)
  /-- Lane shift by immediate with rounding (R189). -/
  | vshi (g : Fin 132) (t : Nat)
  /-- Lane compare into a predicate (R189). -/
  | vcmp (g : Fin 132) (t : Nat)
  /-- Broadcasts a scalar to every lane (R189). -/
  | vsplat (g : Fin 132) (t : Nat)
  /-- Extracts a lane to a scalar (R189). -/
  | vext (g : Fin 132) (t : Nat)
  /-- Inserts a scalar into a lane (R189). -/
  | vins (g : Fin 132) (t : Nat)
  /-- Permutes lanes (R189). -/
  | vperm (g : Fin 132) (t : Nat)
  /-- Writes lane indices (R189). -/
  | vidx (g : Fin 132) (t : Nat)
  /-- Packs lanes to saturated bytes (R189). -/
  | vpackb (g : Fin 132) (t : Nat)
  /-- Unpacks low bytes to lanes (R189). -/
  | vunpkl (g : Fin 132) (t : Nat)
  /-- Unpacks high bytes to lanes (R189). -/
  | vunpkh (g : Fin 132) (t : Nat)
  /-- Signed sum of active lanes (R189). -/
  | vredaddS (g : Fin 132) (t : Nat)
  /-- Unsigned sum of active lanes (R189). -/
  | vredaddU (g : Fin 132) (t : Nat)
  /-- Maximum of active lanes (R189). -/
  | vredmaxU (g : Fin 132) (t : Nat)
  /-- Minimum of active lanes (R189). -/
  | vredminU (g : Fin 132) (t : Nat)
  /-- Lane move (R189). -/
  | vmov (g : Fin 132) (t : Nat)
  /-- Slides lanes across two vectors (R189). -/
  | vsldi (g : Fin 132) (t : Nat)
  /-- Predicate and (R189). -/
  | pand (g : Fin 132) (t : Nat)
  /-- Predicate or (R189). -/
  | por (g : Fin 132) (t : Nat)
  /-- Predicate xor (R189). -/
  | pxor (g : Fin 132) (t : Nat)
  /-- Predicate and-not (R189). -/
  | pandn (g : Fin 132) (t : Nat)
  /-- Predicate not (R189). -/
  | pnot (g : Fin 132) (t : Nat)
  /-- Predicate from scalar (R189). -/
  | pfromx (g : Fin 132) (t : Nat)
  /-- Scalar from predicate (R189). -/
  | ptox (g : Fin 132) (t : Nat)
  /-- Predicate of the first n lanes (R189). -/
  | pfirst (g : Fin 132) (t : Nat)
  /-- Signed multiply-accumulate (R188). -/
  | vmacS (g : Fin 132) (t : Nat)
  /-- Unsigned multiply-accumulate (R188). -/
  | vmacU (g : Fin 132) (t : Nat)
  /-- Signed by unsigned multiply-accumulate (R188). -/
  | vmacSu (g : Fin 132) (t : Nat)
  /-- Signed multiply-subtract (R188). -/
  | vmsuS (g : Fin 132) (t : Nat)
  /-- Signed product into the accumulator (R188). -/
  | vmulaS (g : Fin 132) (t : Nat)
  /-- Unsigned product into the accumulator (R188). -/
  | vmulaU (g : Fin 132) (t : Nat)
  /-- Clears accumulator lanes (R189). -/
  | vaclr (g : Fin 132) (t : Nat)
  /-- Shifts, rounds and narrows accumulator lanes (R188). -/
  | vacc (g : Fin 132) (t : Nat)
  /-- Vector load of 64 bytes (R189). -/
  | vld (g : Fin 132) (t : Nat)
  /-- Vector store of 64 bytes (R189). -/
  | vst (g : Fin 132) (t : Nat)
  /-- Gathers halfwords from DMEM (R189). -/
  | vgath (g : Fin 132) (t : Nat)
  /-- Scatters halfwords to DMEM (R193). -/
  | vscat (g : Fin 132) (t : Nat)
  /-- Reads 64 bytes of the current input item (R195). -/
  | vsrd (g : Fin 132) (t : Nat)
  /-- Appends 64 bytes to the open output item (R196). -/
  | vswr (g : Fin 132) (t : Nat)
  /-- Bilinear sample of a surface per lane (R201). -/
  | smp (g : Fin 132) (t : Nat)
  /-- Executes an I-format instruction with a 32-bit immediate (R183). -/
  | longForm (g : Fin 132) (t : Nat)
  /-- LIMIT µs without SLEN or SEND raises WATCHDOG (R204). -/
  | watchdog (g : Fin 132) (t : Nat)
  /-- Treats the next instruction as illegal (R207). -/
  | engInjIllegal (g : Fin 132)
  /-- Expires the watchdog now (R207). -/
  | engInjWdog (g : Fin 132)
  /-- Makes the next DMEM read uncorrectable (R207). -/
  | engInjDmemEcc (g : Fin 132)
  /-- Makes the next IMEM fetch uncorrectable (R207). -/
  | engInjImemEcc (g : Fin 132)
  /-- A drained engine is loaded with the new graph's kernel and started (R214). -/
  | engineChangeover (n : Fin 128) (t : Nat)
  /-- An engine not drained DRAIN ms after the commit is stopped (R214). -/
  | graphDrainLate (n : Fin 128) (t : Nat)
  /-- A faulted rank restarts at the next frame on its SI0 (R223). -/
  | nodeRestart (n : Fin 128) (t : Nat)
  /-- The delivery engine reads a visible flue item and appends it to an admitted item or discards it (R292). -/
  | deliveryItem (q : Fin 63) (t : Nat)
  /-- CHKn_CTL.SWAP exchanges VALUE and SAVE (R232). -/
  | chkSwap (n : Fin 16)
  /-- CHKn_CTL.RESET loads INIT and latches the result (R231). -/
  | chkReset (n : Fin 16)
  /-- A write to CHKn_VALUE replaces the register (R232). -/
  | chkValueWrite (n : Fin 16) (v : Word)
  /-- Inverts bit 0 of the next absorbed byte (R233). -/
  | chkInjFlip (n : Fin 16)
  /-- A line item of a swath input is stored in a frame buffer (R239). -/
  | swathLineItem (w : Fin 2) (inp : Fin 16) (t : Nat)
  /-- At the frame record item the synthesiser accepts or rejects the frame and decides rows (R240). -/
  | swathFrameRecord (w : Fin 2) (inp : Fin 16) (t : Nat)
  /-- Every 10 µs rows reached by the axis plus FORCE are forced (R243). -/
  | swathForceEval (w : Fin 2) (t : Nat)
  /-- The next backlog row is computed and written to the output flue when credit allows (R248). -/
  | rowCompute (w : Fin 2) (t : Nat)
  /-- STRIP_TMO without a row closes the strip early (R251). -/
  | stripTimeout (w : Fin 2) (t : Nat)
  /-- Patrol scrubbing reads, corrects and counts memory words in the background (R275). -/
  | patrolScrub (sram : Bool) (words : Word) (t : Nat)
  /-- Every LEAK ms the bucket level falls by 1 (R274). -/
  | ceBucketLeak (r : Fin 60) (t : Nat)
  /-- MEM_SCRUB_CTL.GO starts a software scrub or is rejected (R277). -/
  | scrubGo (t : Nat)
  /-- MEM_SCRUB_CTL.ABORT ends the scrub at the next word (R277). -/
  | scrubAbort (words : Word) (t : Nat)
  /-- A software scrub ends and reports its summary (R278). -/
  | scrubDone (t : Nat)
  /-- One granule of a fenced channel is copied to its new place (R282). -/
  | granuleMigrate (t : Nat)
  /-- At the next refresh a channel adopts the band's margin set (R267). -/
  | marginSwitch (ch : Fin 4) (t : Nat)
  /-- MEM_CTL.CLR_CNT clears every region's counters (R283). -/
  | memClrCnt
  /-- Arms a 1-bit fault in the next write to a region (R283). -/
  | memInj1bit (r : BitVec 6)
  /-- Arms a 2-bit fault (R283). -/
  | memInj2bit (r : BitVec 6)
  /-- Arms an uncorrectable word fault (R283). -/
  | memInj3bit (r : BitVec 6)
  /-- Makes the next SRAM page unrecoverable (R283). -/
  | memInjPage (r : BitVec 6)
  /-- Fails the next four GDDR7 data CRC checks (R283). -/
  | memInjCrc (r : BitVec 6)
  /-- The USB4 link trains, changes mode or goes down (R285). -/
  | hostLink (mode : Fin 5) (t : Nat)
  /-- A conventional reset resets DLV and CMD and closes streams (R287). -/
  | pcieReset (t : Nat)
  /-- A function level reset does the same (R287). -/
  | functionLevelReset (t : Nat)
  /-- Entry to D3hot does the same (R287). -/
  | d3hotEntry (t : Nat)
  /-- A write to DLV_Qn_TAIL posts descriptors (R290). -/
  | queueDoorbell (q : Fin 64) (v : BitVec 16) (t : Nat)
  /-- A fetched descriptor becomes a credit or completes with DESC_ERR (R290). -/
  | descriptorFetch (q : Fin 64) (t : Nat)
  /-- The engine writes one 4,096-byte chunk of the most urgent item (R305). -/
  | chunkWrite (t : Nat)
  /-- After the last entry the tag and completion record are written, then MSI-X (R293). -/
  | itemComplete (q : Fin 64) (t : Nat)
  /-- No frame record ITMO ms after ADMIT completes the item INCOMPLETE (R306). -/
  | itemTimeout (q : Fin 64) (t : Nat)
  /-- Stall in a tick exceeds BPA and suspends every contract (R309). -/
  | linkStall (ns : BitVec 32) (t : Nat)
  /-- DLV_Qn_CTL.FLUSH requests a flush of a queue (R310). -/
  | queueFlush (q : Fin 64) (t : Nat)
  /-- At the item boundary pending items and credits complete FLUSHED (R310). -/
  | flushDone (q : Fin 64) (t : Nat)
  /-- DLV_Qn_CTL.CLR_CNT clears queue counters (R318). -/
  | dlvClrCnt (q : Fin 64)
  /-- Fails the next fetched descriptor (R318). -/
  | dlvInjDesc (q : Fin 64)
  /-- Marks the next completion LATE (R318). -/
  | dlvInjLate (q : Fin 64)
  /-- Refuses the next frame (R318). -/
  | dlvInjRefuse (q : Fin 64)
  /-- Counts the next tick as a stall above BPA (R318). -/
  | dlvInjStall
  /-- DLV_CTL.CLR clears DLV_STALL (R318). -/
  | dlvStallClr
  /-- A read of DLV_EVPK_DATA pops one word of the event peek FIFO (R314). -/
  | eventPeekPop
  /-- DLV_EVR_CFG.EN changing to 1 restarts the ring at record 0 (R315). -/
  | eventRingEnable
  /-- A raised event record is written to the ring when space allows, or lost (R315). -/
  | eventRecord (t : Nat)
  /-- COALT µs after the oldest unsignalled completion an MSI-X message is sent (R317). -/
  | coalesceTimeout (k : Fin 66) (t : Nat)
  /-- A recorder input reads a flue item, recording or dropping its frame (R324). -/
  | recorderItem (n : Fin 16) (t : Nat)
  /-- XTMO ms after its first unit an extent closes with a pad (R330). -/
  | extentTimeout (t : Nat)
  /-- A data page program completes or fails (R331). -/
  | nandProgramDone (fail : Bool) (t : Nat)
  /-- 10 ms after its first entry a journal page is programmed (R332). -/
  | journalPageTimeout (t : Nat)
  /-- A journal copy program completes and the next copy starts (R332). -/
  | journalProgramDone (t : Nat)
  /-- The writer journals RECLAIM and marks, then erases the next group (R333). -/
  | groupErase (t : Nat)
  /-- A group erase completes or fails (R333). -/
  | groupEraseDone (fail : Bool) (die : Fin 16) (t : Nat)
  /-- The readout cursor delivers one record or gap unit on its queue (R340). -/
  | readoutItem (pages : List NandPage) (t : Nat)
  /-- At start-up the recorder rebuilds the ring from the journal (R345). -/
  | recorderRecovery (pages : List NandPage) (t : Nat)
  /-- REC_CTL.CLR_CNT clears recorder counters (R346). -/
  | recClrCnt
  /-- Programs the next J2 copy with one entry altered (R346). -/
  | recInjJsplit
  /-- Treats the next readout page as uncorrectable (R346). -/
  | recInjReadUe
  /-- Fails the next data page program (R346). -/
  | recInjProgfail
  /-- A USXGMII link changes state after auto-negotiation (R348). -/
  | ethLink (n : Fin 2) (rate : Fin 5) (t : Nat)
  /-- A non-gPTP frame is discarded (R349). -/
  | ethFrameDiscard (n : Fin 2) (t : Nat)
  /-- An accepted Sync locks or disciplines device time (R357). -/
  | sync (n : Fin 2) (dom : BitVec 7) (seq : BitVec 16) (log : Byte) (twoStep : Bool) (g : GmTime) (t : Nat)
  /-- A Follow_Up completes a two-step Sync (R357). -/
  | followUp (n : Fin 2) (dom : BitVec 7) (seq : BitVec 16) (g : GmTime) (t : Nat)
  /-- An Announce feeds the BMCA and may name a new grandmaster (R358). -/
  | announce (n : Fin 2) (a : AnnounceMsg) (t : Nat)
  /-- A received Pdelay_Req is answered (R350). -/
  | pdelayReq (n : Fin 2) (dom : BitVec 7) (seq : BitVec 16) (out : Nat) (t : Nat)
  /-- A Pdelay response updates link delay and neighbour rate ratio (R351). -/
  | pdelayResp (n : Fin 2) (dom : BitVec 7) (seq : BitVec 16) (turn : Word) (nrr : Int) (t : Nat)
  /-- A message interval request is accepted (R350). -/
  | signaling (n : Fin 2) (dom : BitVec 7) (link : Byte) (sync : Byte) (t : Nat)
  /-- At PDLOG the port sends Pdelay_Req (R351). -/
  | pdelayReqSend (n : Fin 2) (t : Nat)
  /-- As grandmaster the port sends two-step Sync (R350). -/
  | syncSend (n : Fin 2) (t : Nat)
  /-- No Sync within SYNCTO intervals switches ports or enters HOLDOVER (R358). -/
  | syncTimeout (n : Fin 2) (t : Nat)
  /-- SETTLE seconds in HOLDOVER adopt a new grandmaster (R358). -/
  | gmSettle (t : Nat)
  /-- Treats the next Announce as naming a new grandmaster (R365). -/
  | timInjGmchg
  /-- Expires the Sync timeout now (R365). -/
  | timInjSyncto (t : Nat)
  /-- Treats the next Pdelay response as missing (R365). -/
  | ethInjPdelay (n : Fin 2)
  /-- ETHn_CTL.CLR_CNT clears port counters (R365). -/
  | ethClrCnt (n : Fin 2)
  /-- A write to CMD_SQ_TAIL posts commands (R368). -/
  | cmdDoorbell (tail : BitVec 16) (t : Nat)
  /-- A command not finished at its limit replies TIMEOUT (R374). -/
  | commandTimeout (t : Nat)
  /-- Returns identity and firmware versions (R382). -/
  | sysIdent (p : Cmd) (t : Nat)
  /-- Validates the staged configuration and arms an epoch at a boundary (R377). -/
  | epochCommit (p : Cmd) (t : Nat)
  /-- Drops the armed epoch (R379). -/
  | epochCancel (p : Cmd) (t : Nat)
  /-- Returns the armed and last committed epochs (R382). -/
  | epochStatus (p : Cmd) (t : Nat)
  /-- An arm not renewed for 2 ticks is dropped (R379). -/
  | epochLapse (t : Nat)
  /-- Device time reaching the expiry drops the epoch (R379). -/
  | epochExpiry (t : Nat)
  /-- Every staged copy becomes equal to its active copy (R382). -/
  | stageDiscard (p : Cmd) (t : Nat)
  /-- Starts a warm reset after the reply (R503). -/
  | sysResetWarm (p : Cmd) (t : Nat)
  /-- Starts a full reset after the reply (R502). -/
  | sysResetFull (p : Cmd) (t : Nat)
  /-- SYS_POWER with W0 0 replies OK with no effect (R470). -/
  | sysPowerRun (p : Cmd) (t : Nat)
  /-- Enters SMOULDER unless refused (R470). -/
  | sysPowerSmoulder (p : Cmd) (t : Nat)
  /-- Resolves a store record and writes it to host memory (R391). -/
  | storeRead (p : Cmd) (pages : List NandPage) (t : Nat)
  /-- Writes three copies of a record in order (R392). -/
  | storeWrite (p : Cmd) (err : Bool) (t : Nat)
  /-- Returns the copy state of a record (R382). -/
  | storeStatus (p : Cmd) (t : Nat)
  /-- Returns link alignment, calibration and power bitmaps (R382). -/
  | linkSummary (p : Cmd) (t : Nat)
  /-- Makes a link repeat its bring-up (R382). -/
  | linkRestart (p : Cmd) (t : Nat)
  /-- Stages a settings set from host memory (R382). -/
  | settingsLoad (p : Cmd) (err : Bool) (t : Nat)
  /-- Stages many ledger entries from host memory (R382). -/
  | ledgerBulk (p : Cmd) (err : Bool) (t : Nat)
  /-- Copies active ledger entries to host memory (R382). -/
  | ledgerRead (p : Cmd) (t : Nat)
  /-- Copies host memory to GDDR7 (R383). -/
  | gddrWrite (p : Cmd) (got : Option Nat) (t : Nat)
  /-- Copies GDDR7 to host memory (R383). -/
  | gddrRead (p : Cmd) (t : Nat)
  /-- Checks a graph descriptor and stages it (R212). -/
  | graphLoad (p : Cmd) (t : Nat)
  /-- Returns flue fill and crossings and clears HIGH_STKY (R218). -/
  | flueStatus (p : Cmd) (t : Nat)
  /-- Sets the GRF event enables (R234). -/
  | graphEvten (p : Cmd) (t : Nat)
  /-- Checks a swath descriptor and stages it (R238). -/
  | swathLoad (p : Cmd) (t : Nat)
  /-- Clears the swath status counters (R253). -/
  | swathClrCnt (p : Cmd) (t : Nat)
  /-- Decides the next row with every input missing (R253). -/
  | swathInjGap (p : Cmd) (t : Nat)
  /-- Rejects the next frame as STORE_FULL (R253). -/
  | swathInjFull (p : Cmd) (t : Nat)
  /-- Emits the next decided row as overspeed (R253). -/
  | swathInjOverspeed (p : Cmd) (t : Nat)
  /-- Sets the SWT event enables (R253). -/
  | swathEvten (p : Cmd) (t : Nat)
  /-- Writes the swath status record to host memory (R254). -/
  | swathStatus (p : Cmd) (t : Nat)
  /-- Tests and stages a new stream contract (R296). -/
  | streamOpen (p : Cmd) (t : Nat)
  /-- Stages the close of a stream (R296). -/
  | streamClose (p : Cmd) (t : Nat)
  /-- Stages the resumption of a suspended stream (R296). -/
  | streamResume (p : Cmd) (t : Nat)
  /-- Tests and stages a changed contract (R296). -/
  | streamModify (p : Cmd) (t : Nat)
  /-- Sets a recorder mark and journals it (R337). -/
  | markSet (p : Cmd) (t : Nat)
  /-- Clears a recorder mark (R337). -/
  | markClear (p : Cmd) (t : Nat)
  /-- Protects the groups between two marks (R339). -/
  | pinSet (p : Cmd) (t : Nat)
  /-- Releases a pin (R339). -/
  | pinClear (p : Cmd) (t : Nat)
  /-- Starts a readout on a queue (R340). -/
  | readStart (p : Cmd) (t : Nat)
  /-- Ends the readout at the next item boundary (R341). -/
  | readStop (p : Cmd) (t : Nat)
  /-- Stages a return of the time unit to FREE (R356). -/
  | timeRearm (p : Cmd) (t : Nat)
  /-- Returns time unit state, offset, holdover and rate (R382). -/
  | timeStatus (p : Cmd) (t : Nat)
  /-- Runs a two-wire WRITE transaction (R401). -/
  | twWrite (p : Cmd) (t : Nat)
  /-- Runs a two-wire READ transaction (R401). -/
  | twRead (p : Cmd) (t : Nat)
  /-- Runs a write then repeated-start read (R401). -/
  | twWriteRead (p : Cmd) (t : Nat)
  /-- Runs an SMBus block write (R401). -/
  | twBlockWrite (p : Cmd) (t : Nat)
  /-- Runs an SMBus block read (R402). -/
  | twBlockRead (p : Cmd) (t : Nat)
  /-- A transaction on a controller port ends in success or an error code (R403). -/
  | twXferDone (p : Fin 26) (how : TwEnd) (rx : List Byte) (t : Nat)
  /-- Runs the bus clear and lifts a fence on success (R409). -/
  | twClear (p : Cmd) (t : Nat)
  /-- SCL or SDA held low for its timeout aborts the transaction (R408). -/
  | twTimeout (p : Fin 26) (low : TwLow) (t : Nat)
  /-- Requests a channel fence through the warden (R279). -/
  | fenceChannel (p : Cmd) (t : Nat)
  /-- Requests a cluster fence through the warden (R444). -/
  | fenceCluster (p : Cmd) (t : Nat)
  /-- Self-tests one engine out of turn (R442). -/
  | engineTest (p : Cmd) (t : Nat)
  /-- Verifies and writes a firmware image (R388). -/
  | fwUpdate (p : Cmd) (err : Bool) (t : Nat)
  /-- Delivers a signed attestation report on DQ63 (R389). -/
  | attest (p : Cmd) (t : Nat)
  /-- Returns a fresh nonce (R390). -/
  | debugChallenge (p : Cmd) (t : Nat)
  /-- Checks a token and unlocks debug scopes (R390). -/
  | debugUnlock (p : Cmd) (err : Bool) (t : Nat)
  /-- Locks every scope (R390). -/
  | debugLock (p : Cmd) (t : Nat)
  /-- Delivers the last 256 log entries on DQ63 (R389). -/
  | securityLog (p : Cmd) (t : Nat)
  /-- A nonce becomes invalid after 60 s (R390). -/
  | debugNonceExpiry (t : Nat)
  /-- A warden lockstep mismatch restarts or halts the warden (R386). -/
  | lockstepMismatch (t : Nat)
  /-- The restarted warden resumes after verifying its image (R386). -/
  | wardenResume (t : Nat)
  /-- A blocked access to warden resources is discarded and logged (R384). -/
  | accessViolation (a : BitVec 64) (t : Nat)
  /-- Omits the next two epoch renewals (R395). -/
  | cmdInjLapse
  /-- Makes the next store read see a split (R395). -/
  | cmdInjSplit
  /-- Treats the next service-core access as blocked (R395). -/
  | cmdInjAccess (a : BitVec 64) (t : Nat)
  /-- STP block read returns IDENT (R393). -/
  | smbusIdent (t : Nat)
  /-- STP block read returns STATUS (R393). -/
  | smbusStatus (t : Nat)
  /-- STP block write submits one command packet (R394). -/
  | smbusSubmit (data : List (BitVec 8)) (pec : Option (BitVec 8)) (t : Nat)
  /-- STP block read returns the last reply or IN_PROGRESS (R394). -/
  | smbusReply (t : Nat)
  /-- A start in an acknowledge slot abandons the transaction (R413). -/
  | stpAbandon (t : Nat)
  /-- An address phase to STP in SMOULDER wakes the module (R414). -/
  | stpWake (t : Nat)
  /-- SCL low for TLOTMO makes STP release the bus (R412). -/
  | stpSclTimeout (since : Nat) (t : Nat)
  /-- TWB_Pp_CTL.CLR_CNT clears port counters (R415). -/
  | twbClrCnt (p : Fin 26)
  /-- Expires the clock-low timeout in the next transaction (R415). -/
  | twbInjScltmo (p : Fin 26)
  /-- Makes the next bus clear fail (R415). -/
  | twbInjStuck (p : Fin 26)
  /-- Treats the next address byte as not acknowledged (R415). -/
  | twbInjNack (p : Fin 26)
  /-- 100 ticks of large residual enter FALLBACK, or 1,000 good ticks leave it (R421). -/
  | modelFallback (t : Nat)
  /-- A diode or case reading fails its tests and the sensor becomes invalid (R422). -/
  | sensorFault (k : Fin 7) (reading : BitVec 16) (t : Nat)
  /-- 1 s of good readings makes a sensor valid again (R422). -/
  | sensorValid (k : Fin 7) (t : Nat)
  /-- The program in progress ends or 3 ms pass and rails go off into SMOULDER (R427). -/
  | shutdownDeferralEnd (t : Nat)
  /-- Two diode samples at 150 °C start shutdown without deferral (R428). -/
  | hardwareTrip (k : Fin 6) (r0 : BitVec 16) (r1 : BitVec 16) (t : Nat)
  /-- A read of THM_TLPK_DATA pops the telemetry peek FIFO (R314). -/
  | telemetryPeekPop
  /-- Clears SHUT_CAUSE and THM_DEFER (R431). -/
  | thmClrShut
  /-- Sets PEAK to TJ (R431). -/
  | thmClrPeak
  /-- Treats the next diode 0 sample as invalid (R431). -/
  | thmInjDiode
  /-- Treats the next case sample as invalid (R431). -/
  | thmInjCase
  /-- Enters FALLBACK now (R431). -/
  | thmInjFallback (t : Nat)
  /-- Service firmware sends the warden a heartbeat (R435). -/
  | serviceHeartbeat (t : Nat)
  /-- No heartbeat for TMO ms holds the service cores in reset (R435). -/
  | serviceStopped (t : Nat)
  /-- The reloaded service firmware reads RUNNING (R435). -/
  | serviceRestarted (t : Nat)
  /-- At each PERIOD a standby takes the next engine of its group (R438). -/
  | rotationTake (n : Fin 4) (t : Nat)
  /-- At the engine's first drained clock its state moves to the standby (R439). -/
  | standbyTakeover (n : Fin 4) (t : Nat)
  /-- An engine not drained in DRAINTMO is skipped (R439). -/
  | takeoverSkipped (n : Fin 4) (t : Nat)
  /-- A 24,000,000-clock self-test ends with its result (R440). -/
  | selftestDone (g : Fin 132) (res : Fin 5) (addr : Word) (t : Nat)
  /-- After a PASS the state moves back at the standby's first drained clock (R439). -/
  | standbyRelease (n : Fin 4) (t : Nat)
  /-- Each second a refused automatic fence is reported again (R443). -/
  | fenceWanted (t : Nat)
  /-- Every PERIOD ms the warden writes a telemetry record (R448). -/
  | telemetryRecord (t : Nat)
  /-- DIA_LOCK.INJ locks every injection until power-on reset (R434). -/
  | diaLock
  /-- Injects a double step on a port (R433). -/
  | diaInjEpDoubleStep (p : Fin 8) (t : Nat)
  /-- Injects a fast edge (R433). -/
  | diaInjEpEdgeFast (p : Fin 8) (t : Nat)
  /-- Injects an invalid Hall state (R433). -/
  | diaInjEpHallInvalid (p : Fin 8) (t : Nat)
  /-- Injects a Hall skip (R433). -/
  | diaInjEpHallSkip (p : Fin 8) (t : Nat)
  /-- Injects OPEN on A (R433). -/
  | diaInjEpOpen (p : Fin 8) (t : Nat)
  /-- Injects a sensor supply trip (R433). -/
  | diaInjEpTrip (p : Fin 8) (t : Nat)
  /-- Injects a serial error (R433). -/
  | diaInjEpSerial (p : Fin 8) (t : Nat)
  /-- Injects an index mismatch (R433). -/
  | diaInjEpIndex (p : Fin 8) (t : Nat)
  /-- Holds the slip condition for TIME ms (R433). -/
  | diaInjAxSlip (n : Fin 8) (t : Nat)
  /-- Drops the next strobe pulse (R433). -/
  | diaInjTroSkip (n : Fin 8)
  /-- Cuts the next strobe pulse (R433). -/
  | diaInjTroClip (n : Fin 8)
  /-- Loses the next FRAME_END as a missing marker (R433). -/
  | diaInjLnkFrameEnd (n : Fin 24)
  /-- Withholds BC_ACK for the next frame and its retransmissions (R433). -/
  | diaInjLnkBcAck (n : Fin 24)
  /-- Loses the next echo reply (R433). -/
  | diaInjLnkEcho (n : Fin 24)
  /-- Loses CDR lock for 1 µs (R433). -/
  | diaInjLnkCdr (n : Fin 24) (t : Nat)
  /-- Injects a 1 ms VIN dip below warning (R433). -/
  | diaInjSysVindip (t : Nat)
  /-- Sets STP STRAP_BAD (R433). -/
  | diaInjSysStrapTw (t : Nat)
  /-- Sets MODID STRAP_BAD (R433). -/
  | diaInjSysStrapMod (t : Nat)
  /-- Suppresses service heartbeats (R433). -/
  | diaInjSysSvcHang
  /-- Injects one warden lockstep mismatch (R433). -/
  | diaInjSysLockstep (t : Nat)
  /-- Makes the next self-test of an engine report DMEM (R433). -/
  | diaInjStFail (g : Fin 132)
  /-- VIN above 8.8 V for 20 ms starts start-up from OFF (R466). -/
  | powerOn (since : Nat) (t : Nat)
  /-- VIN warning sets and the module enters HOLD or counts a further dip (R467). -/
  | holdEnter (t : Nat)
  /-- VIN warning clears and the dip is reported (R467). -/
  | vinDip (min : BitVec 16) (t : Nat)
  /-- VIN above 8.8 V for 20 ms ends HOLD (R468). -/
  | holdExit (since : Nat) (t : Nat)
  /-- HOLD lasting HOLDMAX runs the shutdown sequence (R469). -/
  | undervoltageShutdown (t : Nat)
  /-- VIN over sets (R469). -/
  | vinOver (set : Bool) (vin : BitVec 16) (t : Nat)
  /-- VIN over for 400 ms runs the shutdown sequence (R469). -/
  | overvoltageShutdown (t : Nat)
  /-- VIN reset removes power outside the keep-alive domain at once (R469). -/
  | brownOut (t : Nat)
  /-- VIN and VAUX below 5.5 V put the module in OFF (R460). -/
  | keepaliveLoss (t : Nat)
  /-- VAUX low sets or clears (R460). -/
  | vauxLow (low : Bool) (t : Nat)
  /-- VCAM under or over turns every camera switch off (R463). -/
  | vcamFault (high : Bool) (vcam : BitVec 16) (t : Nat)
  /-- VCAM clear for 10 ms restarts the blocked switches (R463). -/
  | vcamRestore (vcam : VcamSense) (t : Nat)
  /-- VIO_H absent sets and the bank stops driving (R464). -/
  | vioLost (t : Nat)
  /-- VIO_H absent clears (R464). -/
  | vioRestored (t : Nat)
  /-- Recorder work ends and every domain outside keep-alive is off (R470). -/
  | smoulderReached (t : Nat)
  /-- WAKE_N low for 1 ms makes a wake pending (R472). -/
  | wakeNAssert (t : Nat)
  /-- Device time reaches SYS_WAKE_TIME (R472). -/
  | wakeTimer (t : Nat)
  /-- VIN returns in range for 20 ms after a supply shutdown (R472). -/
  | wakeVinReturn (since : Nat) (t : Nat)
  /-- A pending wake with VIN present starts start-up (R472). -/
  | wake (since : Nat) (case : BitVec 16) (t : Nat)
  /-- RESET_N low for 10 µs starts a full reset (R475). -/
  | resetNAssert (t : Nat)
  /-- Release of RESET_N begins start-up from STAGE 1 (R502). -/
  | resetNRelease (t : Nat)
  /-- Sets SYS_VIN.MIN to NOW (R478). -/
  | sysClrMin
  /-- Clears LAST_DOWN and WAKE_SRC (R478). -/
  | sysClrDown
  /-- Clears SYS_DIP (R478). -/
  | sysClrCnt
  /-- Warden ROM runs, reads straps and selects the warden image (R497). -/
  | stageRom (lo : BitVec 4) (loBad : Bool) (hi : BitVec 4) (hiBad : Bool) (tw : BitVec 4) (twBad : Bool) (t : Nat)
  /-- The warden runs and starts the thermal model (R497). -/
  | stageWarden (t : Nat)
  /-- GDDR7 margin sets are trained (R497). -/
  | stageTrain (fails : BitVec 4) (t : Nat)
  /-- Memories are cleared and store records resolved (R497). -/
  | stageClear (pages : List (Fin 7 × NandPage)) (t : Nat)
  /-- The service image is verified and the service cores released (R497). -/
  | stageService (t : Nat)
  /-- Service firmware runs and ring entries are taken (R497). -/
  | stageReady (t : Nat)
  /-- No Announce arrives within ETHn_INTV.ANNTO intervals and the best master clock algorithm reselects roles and grandmaster (R350). -/
  | announceReceiptTimeout (n : Fin 2) (t : Nat)
  /-- VAUX or VIN reaches 7.0 V and the keep-alive domain starts with a keep-alive power-on reset, leaving the module in OFF when only VAUX is present (R460). -/
  | keepaliveStart (t : Nat)
  /-- In a sample, an axis position that moves without a counted step (TIME or LIGHT mode, or interpolation) reaches a ledger target whose occurrence has no camera or strobe, such as a SETTINGS entry, and the occurrence fires and ends (R77). -/
  | ledgerTargetReached (e : Fin 4096) (t : Nat)
  /-- Every 100 µs after a band change, a link receiver moves its equaliser one step toward the new band's preset (R133). -/
  | equaliserStep (n : Fin 24) (t : Nat)
  /-- While the warden is halted, a valid diode sample at or above 140 °C starts shutdown with cause 3 (R429). -/
  | haltedWardenDiodeTrip (k : Fin 6) (reading : BitVec 16) (t : Nat)
  /-- In a near-end loop (mode 1 or 2), the checker finds its PRBS or CELL pattern, sets LOCK, counts compared and errored bits and raises LOOP_ERROR at the first error (R136). -/
  | loopPatternCheck (n : Fin 24) (head : List Bool) (rest : List Bool) (ps : Nat) (t : Nat)
  /-- A transaction on the debug port balls reaches service cores or puts engines into DEBUG within the unlocked scopes (R390). -/
  | debugPortAccess (k : Fin 3) (g : Fin 132) (t : Nat)
  /-- ETHn_RST_N is released 10 ms after VIO_H and the PHY reference are present with the port enabled (R495). -/
  | ethResetRelease (n : Fin 2) (ref : Nat) (t : Nat)
  deriving DecidableEq, Repr

end Sys2Proof
end

