-- ==== Sys2Proof/WellFormed.lean ====
section
/-! DEFINITION. What the types of the operands leave open: writes go to offsets of 32-bit registers, a read has at least one byte,
a LOOP packet has as many data bytes as flags, command packets carry their fourteen argument words, lists of readings have the length the spec gives them. -/

namespace Sys2Proof

/-- A command packet carries W0 to W13 (R367); its ring index is below 4096, or 0xFFFF on the SMBus path. -/
def Cmd.wf (p : Cmd) : Bool := p.w.length == 14 && (decide (p.idx.toNat < 4096) || p.idx == 0xFFFF)

/-- A tick brings eight rail powers, six diodes and at most sixteen device readouts (R417, R418, R420). -/
def TickIn.wf (x : TickIn) : Bool := x.rails.length == 7 && x.diodes.length == 6 && decide (x.gddr.length ≤ 16)

/-- Operands that are in the spec's range. -/
def Instr.wf : Instr → Bool
  | .registerWrite off _ _ _ => off.toNat % 4 == 0
  | .loReadLatch req _ => decide (1 ≤ req.len)
  | .loopPacket _ pairs data flags _ => data.length == pairs && flags.length == pairs
  | .managementTick x _ => x.wf
  | .sysIdent p _ | .epochCommit p _ | .epochCancel p _ | .epochStatus p _ | .stageDiscard p _ | .sysResetWarm p _
  | .sysResetFull p _ | .sysPowerRun p _ | .sysPowerSmoulder p _ | .storeRead p _ _ | .storeWrite p _ _ | .storeStatus p _
  | .linkSummary p _ | .linkRestart p _ | .settingsLoad p _ _ | .ledgerBulk p _ _ | .ledgerRead p _ | .gddrWrite p _ _
  | .gddrRead p _ | .graphLoad p _ | .flueStatus p _ | .graphEvten p _ | .swathLoad p _ | .swathClrCnt p _
  | .swathInjGap p _ | .swathInjFull p _ | .swathInjOverspeed p _ | .swathEvten p _ | .swathStatus p _ | .streamOpen p _
  | .streamClose p _ | .streamResume p _ | .streamModify p _ | .markSet p _ | .markClear p _ | .pinSet p _ | .pinClear p _
  | .readStart p _ | .readStop p _ | .timeRearm p _ | .timeStatus p _ | .twWrite p _ | .twRead p _ | .twWriteRead p _
  | .twBlockWrite p _ | .twBlockRead p _ | .twClear p _ | .fenceChannel p _ | .fenceCluster p _ | .engineTest p _
  | .fwUpdate p _ _ | .attest p _ | .debugChallenge p _ | .debugUnlock p _ _ | .debugLock p _ | .securityLog p _ => p.wf
  | .twXferDone _ _ rx _ => decide (rx.length ≤ 256)
  | .smbusSubmit data _ _ => decide (data.length ≤ 64)
  | _ => true

end Sys2Proof
end

