-- ==== Sys2Proof/Decode.lean ====
section
/-! DEFINITION. The commands that a word spells by the table's bits. -/

namespace Sys2Proof

/-- No row of the table gives its command bits, so no word spells a command: a command reaches the module as one of the
constructors of `Instr` (log 1). -/
def decodeTableWord (_nbits _w : Nat) : Option Instr := none

end Sys2Proof
end

