-- ==== Sys2Proof/Config.lean ====
section
/-! DEFINITION. What an implementation fixes and the free values: opaque constants that no proof can see into, applied
to a counter that the state holds or to the operands that the open value depends on. -/

namespace Sys2Proof

/-- A fresh value that the spec leaves open, drawn with the counter of the state (log 2). -/
opaque freeValue : Nat → Nat

/-- The 32-bit pattern of a result that falls outside its number format, of which the spec states no value (log 2). -/
opaque freeOverflow : Int → Word

/-- The result of a keyed or digest function over bytes, which the spec names but does not spell out: SHA-384 digests,
ECDSA signatures and checks, nonces (log 2). The first number says which function. -/
opaque freeCrypto : Nat → List Nat → Nat

/-- A sample of which the spec states no value, such as a neighbour that has no reflection (log 2). The list says which. -/
opaque freeSample : List Nat → Nat

/-- Parts of a flicker report that R167 leaves without a value, over the rows of the window (log 2): 1 the argument of a sum that is 0, 2 the
depth of a window without rows, 4 the relative deviation of a row in a frame whose rows are all 0. -/
opaque freeFlicker : Nat → List (Nat × Nat × Nat) → Nat

/-- The factory value of a store record, which the spec does not list (R391). -/
opaque factoryRecord : Nat → List Nat

/-- The factory firmware image of a kind: 1 warden, 2 service (R387). -/
opaque factoryImage : Nat → List Nat

/-- SHA-384 of bytes, as a number (R387). -/
opaque sha384 : List Nat → Nat

/-- An ECDSA P-384 signature verifies: public key bytes, signed bytes, signature bytes (R387). -/
opaque ecdsaOk : List Nat → List Nat → List Nat → Bool

/-- The signature of bytes by the module's factory identity key, 96 bytes (R389). -/
opaque ecdsaSign : List Nat → List Nat

/-- The module's X.509 certificate in DER form (R389). -/
opaque certificate : List Nat

/-- The one-time-programmable hash, revocation bit and debug flag of key 0 to 3 (table "Image header, 512 bytes"). -/
opaque otpHash : Nat → Nat
opaque otpRevoked : Nat → Bool
opaque otpDebug : Nat → Bool

/-- The code and the detail bytes of a security log entry, which the spec does not list, by event code and value (R389). -/
opaque logCode : Nat → Nat
opaque logDetail : Nat → Nat → Nat

/-- The parameters that a THERMAL_CAL record holds (R419), whose format the spec does not give: the heat capacity C_i in mJ/K, the
conductance G_ij in mW/K, and the share of rail r that node i takes in 2^-16. -/
opaque thermCap : List Nat → Nat → Nat
opaque thermCond : List Nat → Nat → Nat → Nat
opaque thermShare : List Nat → Nat → Nat → Nat

/-- The module's factory EUI-64, its clockIdentity (R350, R389). -/
opaque factoryEui : Nat

/-- The clock quality and priority2 that the module announces of itself, which the spec does not state (log 2). -/
opaque ownQuality : BitVec 40

end Sys2Proof
end

