-- ==== Sys2Proof/Machine/State.lean ====
section
/-! DEFINITION. The state of the module as plain data, the reasons a step can stop, and the state after power-on reset.
Sparse arrays (`AMap`) hold the instances of a block (ports, axes, links, engines, queues ...) that differ from the
instance at reset. -/

namespace Sys2Proof.Machine

/-- The reasons a step can stop with a fault. There is none: R4 to R7 give every register access an effect, and every
command, event or instruction of the table has one (an engine that stops in EXCEPTION under R205, a refused command
reply under R370 and a lost supply are states of the module). -/
inductive Fault where
  deriving DecidableEq, Repr

/-- The reasons a step can be refused. -/
inductive Refusal where
  /-- Raised by a dispatch arm whose command has no meaning in the model yet. Safe: the machine stops. -/
  | notModelled (mnemonic : String)
  deriving DecidableEq, Repr

/-! ### Register fields -/

/-- The field types of R7. -/
inductive FType where
  | rw | ro | w1c | w1s | wo | ros | rwl
  deriving DecidableEq, Repr

/-- Which half of a 64-bit quantity a register is (R9, R10). -/
inductive Half where
  | none | lo | hi
  deriving DecidableEq, Repr

/-- A register field: the BAR0 offset of its register, its least significant bit and width, its type, its reset value,
whether it has a staged and an active value (R23), and whether its six low bits read 0. -/
structure Fld where
  off    : Nat
  lo     : Nat
  w      : Nat
  ty     : FType
  reset  : Nat
  staged : Bool := false
  half   : Half := .none
  al6    : Bool := false
  deriving DecidableEq, Repr

/-- The index under which the state keeps a field: no two fields of BAR0 share one. -/
def Fld.key (f : Fld) : Nat := f.off * 32 + f.lo

/-! ### Events (R11, R314 to R316) -/

/-- The occurrences of one event code and index since its last record. -/
structure EvPend where
  code  : Nat := 0
  idx   : Nat := 0
  count : Nat := 0
  time  : Nat := 0
  first : List Nat := []
  last  : List Nat := []
  deriving DecidableEq, Repr

/-- An event record raised: code, index, occurrences, device time of the first, 12 value bytes. -/
structure EvRec where
  code  : Nat := 0
  idx   : Nat := 0
  count : Nat := 0
  time  : Nat := 0
  vals  : List Nat := []
  deriving DecidableEq, Repr

/-- The event ring side of the delivery block: occurrences waiting for the tick, records raised and not yet written,
the peek FIFO (words of each record left), the word last read, ring position and phase, and records unwritten since the last EVENT_LOST. -/
structure EventUnit where
  pend     : List EvPend := []
  out      : List EvRec := []
  peek     : List (List Nat) := []
  peekLast : Nat := 0
  phase    : Nat := 1
  lost     : Nat := 0
  grfEn    : Nat := 0xFE
  deriving DecidableEq, Repr

/-! ### Encoder ports and axes (R29 to R64) -/

/-- What an encoder port holds beside its registers. -/
structure Port where
  /-- Last valid Hall state; none since the port was last enabled (R34, R37). -/
  ref     : Option Nat := none
  /-- Stamp of the previous observed edge on a counting signal (R34 check 2, R35). -/
  prevObs : Option Nat := none
  /-- Counted steps in the speed window, newest first: stamp and counts (R55). -/
  win     : List (Nat × Int) := []
  /-- The last counted step was negative. -/
  neg     : Bool := false
  /-- Time of the last counted step, or from which the standstill timeout runs (R54). -/
  stepAt  : Nat := 0
  /-- An index latch has been taken (R38). -/
  zSeen   : Bool := false
  /-- The previous good serial position (R46). -/
  serPrev : Option Nat := none
  /-- Consecutive serial errors (R42). -/
  serErr  : Nat := 0
  /-- Start of the reading in progress (R43). -/
  reading : Option Nat := none
  /-- End of the last reading, from which a postponed reading is due (R43). -/
  readEnd : Nat := 0
  /-- Start of the last reading (R43). -/
  readAt  : Option Nat := none
  /-- Levels at the inputs A, B and C (bits 0 to 2), which of them lie inside their undefined window, and the level each last had at a
  valid level, low where it has shown none since the port was enabled (R33). -/
  raw     : Nat := 0
  mid     : Nat := 0
  held    : Nat := 0
  /-- Stamp of the latest counted step (R54). -/
  countAt : Nat := 0
  deriving DecidableEq, Repr

/-- What an axis holds beside its registers. -/
structure Axis where
  /-- Base position of R52, 48.16 (R14). -/
  pos     : Quad := 0
  /-- Instant from which interpolation runs. -/
  baseAt  : Nat := 0
  /-- Half units of 2^-16 count carried into the next increment (R51). -/
  rem     : Int := 0
  /-- Time of the last counted step that reached the axis, or from which the standstill timeout runs. -/
  stepAt  : Nat := 0
  /-- The slip condition of R50 as last evaluated; none while the test is suspended. -/
  slip    : Option Bool := none
  /-- Instant at which `slip` last changed. -/
  slipAt  : Nat := 0
  /-- UNC_LIMIT has been raised since the last clear (R61). -/
  uncHit  : Bool := false
  /-- An injected slip condition is held (R433). -/
  slipInj : Bool := false
  /-- The commit sample in which an AVERAGE axis was rebuilt: it is derived from its sources from the next sample (R59). -/
  rest    : Option Nat := none
  /-- Wraps of a TIME or LIGHT axis since its base that have been reported (R51). -/
  wraps   : Int := 0
  deriving DecidableEq, Repr

/-! ### Trigger ledger, strobes, settings, lighting lock (R65 to R96) -/

/-- The eight words of a ledger entry (R65). -/
structure LEnt where
  d0 : Nat := 0
  d1 : Nat := 0
  d2 : Nat := 0
  d3 : Nat := 0
  d4 : Nat := 0
  d5 : Nat := 0
  d6 : Nat := 0
  d7 : Nat := 0
  deriving DecidableEq, Repr

/-- The states of R72. -/
inductive LState where
  | empty | armed | predicting | frozen | done
  deriving DecidableEq, Repr

/-- Where one camera or strobe of an occurrence stands. -/
inductive ChSt where
  | waiting
  | predicted (at_ : Int)
  | frozen (at_ : Int)
  | issued
  | skipped
  | collided
  deriving DecidableEq, Repr

/-- An active entry: its words as committed, current target and COUNT, state, and the channels of the occurrence in
progress (0 to 23 cameras, 24 to 31 strobes TRO0 to TRO7). `serial` tells a replacing entry from the one it replaced. -/
structure LAct where
  w      : LEnt := {}
  target : Quad := 0
  count  : Nat := 0
  st     : LState := .empty
  chan   : AMap ChSt := []
  serial : Nat := 0
  deriving DecidableEq, Repr

/-- A frozen issue (R75). It survives the replacement of its entry (R70). -/
structure Frozen where
  entry  : Nat := 0
  serial : Nat := 0
  chan   : Nat := 0
  at_    : Int := 0
  lead   : Nat := 0
  width  : Nat := 0
  axis   : Nat := 0
  /-- Slot start of the symbol in thirds of ns, its FINE, its delay in thirds of ns (R118, R119). -/
  slot   : Int := 0
  fine   : Nat := 0
  delay  : Int := 0
  /-- Slot start, FINE and delay of the EXPOSURE_END placed with it (R120). -/
  fin    : Option (Int × Nat × Int) := none
  /-- An EXPOSURE_END follows (R84); the instant at which the symbols were placed; how many of them have slipped (R118, R119). -/
  wide   : Bool := false
  madeAt : Nat := 0
  slips  : Nat := 0
  deriving DecidableEq, Repr

/-- The ledger. -/
structure Ledger where
  staged : AMap LEnt := []
  active : AMap LAct := []
  frozen : List Frozen := []
  serial : Nat := 0
  deriving DecidableEq, Repr

/-- The record of an issued trigger until its frame starts (R83, R86). `pos` is taken when the axis passes the
exposure-centre instant. -/
structure TrigRec where
  seq    : Nat := 0
  entry  : Nat := 0
  axis   : Nat := 0
  centre : Nat := 0
  pos    : Option (Quad × Nat) := none
  /-- A frame with its number has started. -/
  begun  : Bool := false
  deriving DecidableEq, Repr

/-- A settings set being written to a sensor: set, the frame whose window it started in, writes sent. -/
structure SetWrite where
  set    : Nat := 0
  frame  : Nat := 0
  left   : Nat := 0
  deriving DecidableEq, Repr

/-- The ledger's side of one camera. -/
structure Cam where
  seq      : Nat := 0
  lastIss  : Option Int := none
  recs     : List TrigRec := []
  pendSet  : Option (Nat × Nat) := none
  winOpen  : Option Nat := none
  /-- The frame whose blanking window it is (R88). -/
  winFrame : Nat := 0
  frameNo  : Nat := 0
  writing  : Option SetWrite := none
  genNext  : List (Nat × Nat) := []
  missed   : Bool := false
  deriving DecidableEq, Repr

/-- The pulses on one strobe output: end of each pulse in force, when the output turned on and last turned off. -/
structure Strobe where
  pulses : List Nat := []
  onAt   : Option Nat := none
  offAt  : Option Nat := none
  injSkip : Bool := false
  injClip : Bool := false
  deriving DecidableEq, Repr

/-- The lighting oscillator: phase in 2^-32 cycle at an instant, and the lock's counters. -/
structure Lite where
  phase  : Int := 0
  at_    : Nat := 0
  run    : Nat := 0
  heldAt : Nat := 0
  seen   : Bool := false
  lastAt : Nat := 0
  period : Nat := 0
  deriving DecidableEq, Repr

/-! ### Byte memories -/

/-- A byte memory: rising addresses, no entry 0; an unlisted address reads 0 (log 3). -/
abbrev Mem := List Host.Cell

/-- The byte memories: host memory, GDDR7, the 1 MiB SRAM of each cluster, and DMEM and IMEM of each engine. -/
structure Mems where
  host : Mem := []
  gddr : Mem := []
  sram : AMap Mem := []
  dmem : AMap Mem := []
  imem : AMap Mem := []
  deriving DecidableEq, Repr

/-! ### Commands, replies and epochs (R367 to R394) -/

/-- Completions not yet signalled by MSI-X: how many, and when the oldest was written (R317). -/
structure Coal where
  n   : Nat := 0
  at_ : Option Nat := none
  deriving DecidableEq, Repr

/-- A command packet that has been taken (R367): opcode, CID, FLAGS, reserved bytes 5 to 7, ring index (0xFFFF on the
SMBus path), the words W0 to W13, and when it started. -/
structure CmdPkt where
  op    : Nat := 0
  cid   : Nat := 0
  flags : Nat := 0
  resv  : Nat := 0
  idx   : Nat := 0
  w     : List Nat := []
  start : Nat := 0
  deriving DecidableEq, Repr

/-- A reply but for what the packet supplies (R367, R375). -/
structure Reply where
  status  : Nat := 0
  detail  : Nat := 0
  res     : List Nat := []
  staged  : Bool := false
  notDur  : Bool := false
  deriving DecidableEq, Repr

/-- The command unit: commands taken and not started, started and not replied, the replies that wait for the host link,
the completion ring phase, the SMBus command and its last reply, and the injections of R395. -/
structure CmdUnit where
  waiting  : List CmdPkt := []
  running  : List CmdPkt := []
  outbox   : List (List Nat) := []
  phase    : Nat := 1
  smbWait  : Option CmdPkt := none
  smbCid   : Nat := 0
  smbOp    : Nat := 0
  smbReply : Option (List Nat) := none
  injLapse : Nat := 0
  deriving DecidableEq, Repr

/-- An armed epoch (R376): its number, boundary kind (1 FRAME, 2 AXIS, 3 TIME), link and VC or axis, direction (0
positive, 1 negative), value, expiry (elapsed time), whether the boundary held at arming, and the ticks since its last
renewal. A TIME boundary keeps its physical instant (R381), so its value is elapsed time. -/
structure Epoch where
  number : Nat := 0
  kind   : Nat := 0
  sel    : Nat := 0
  vc     : Nat := 0
  dir    : Nat := 0
  value  : Int := 0
  target : Quad := 0
  expiry : Option Int := none
  past   : Bool := false
  missed : Nat := 0
  at_    : Nat := 0
  deriving DecidableEq, Repr

/-- The epoch unit: the armed epoch and the number of epochs armed so far (R376). -/
structure EpochUnit where
  armed : Option Epoch := none
  count : Nat := 0
  deriving DecidableEq, Repr

/-! ### Fiesque links (R97 to R141) and the remote two-wire side of them (R405 to R407) -/

/-- Who asked for a back-channel frame (R122). -/
inductive Who where
  | readId
  | setRate (rate : Nat)
  | setPower (pwr : Nat)
  | setLoop (mode : Nat)
  | config
  | xfer
  | settings
  | clear
  deriving DecidableEq, Repr

/-- A CONTROL or TWO_WIRE frame of the back channel (R116); `held` withholds its BC_ACKs (R433). -/
structure BcFrame where
  /-- The slot from which its characters leave, in thirds of ns (R117). -/
  from_ : Int := 0
  tw    : Bool := false
  op    : Nat := 0
  body  : List Nat := []
  who   : Who := .readId
  seq   : Nat := 0
  tries : Nat := 0
  endAt : Nat := 0
  held  : Bool := false
  deriving DecidableEq, Repr

/-- A burst of eight ECHO symbols (R126): the next ID, the stamps in ps of those whose replies are due, by ID, the measurements
M of the replies in half ps, and when it began. -/
structure Burst where
  next    : Nat := 0
  sent    : List (Nat × Nat) := []
  replies : List Int := []
  start   : Nat := 0
  deriving DecidableEq, Repr

/-- An EXPOSURE_END symbol placed with its TRIGGER: slot start in thirds of ns, FINE, SEQ (R118, R120). -/
structure EndSym where
  slot : Int := 0
  fine : Nat := 0
  seq  : Nat := 0
  deriving DecidableEq, Repr

/-- What a link receiver holds beside its registers. -/
structure Link where
  /-- Signal energy at FLRn_IO (R104). -/
  sig       : Bool := false
  /-- Sync matches in CANDIDATE, and whether the hunt began in LOST (R105). -/
  cand      : Nat := 0
  fromLost  : Bool := false
  /-- Consecutive misses in ALIGNED (R106). -/
  misses    : Nat := 0
  /-- Words of the hit window seen (R107). -/
  winWords  : Nat := 0
  /-- The run of identical line bits in progress (R102); the bits of the word being assembled, first bit first, when its first bit passed
  FLRn_IO in ps, and whether a stuff violation fell in it; bits that a bit slip still drops (R107). -/
  runBit    : Bool := false
  runLen    : Nat := 0
  acc       : List Bool := []
  accAt     : Nat := 0
  accBad    : Bool := false
  slipBits  : Nat := 0
  /-- Words since the expected place of the last sync word, that one included, those of the cell in progress, the stamp of its sync word, and
  whether it is to be discarded (R105, R106, R113). -/
  wordPos   : Nat := 0
  cell      : List Nat := []
  cellAt    : Nat := 0
  cellBad   : Bool := false
  /-- Slips of the alignment procedure in progress (R107). -/
  alignProc : Option Nat := none
  /-- Last CSEQ, the packet bytes in progress, and whether parsing waits for the next FPO (R100, R113). -/
  cseq      : Option Nat := none
  part      : List Nat := []
  resync    : Bool := true
  /-- Sync stamp of the cell in which the packet in progress began (R114). -/
  partAt    : Nat := 0
  injSync   : Bool := false
  injPcrc   : Bool := false
  injHcrc   : Bool := false
  injEnd    : Bool := false
  injAck    : Bool := false
  injEcho   : Bool := false
  /-- Priority-1 symbols placed: slot starts in thirds of ns (R118, R119). -/
  placed    : List Int := []
  /-- Phase of the character slots in thirds of ns, 0 to 159; the spec leaves it open (log 32). -/
  phase     : Nat := 0
  /-- EXPOSURE_END symbols to send. -/
  ends      : List EndSym := []
  /-- Characters of the symbol or frame last sent, and when its first bit left, in thirds of ns. -/
  tx        : List Nat := []
  txAt      : Int := 0
  /-- Frames waiting, the frame outstanding, the next SEQ (R122). -/
  bcq       : List BcFrame := []
  out       : Option BcFrame := none
  seq       : Nat := 0
  /-- Burst in progress, failed bursts in a row, retry instant, success since EN (R126, R127). -/
  burst     : Option Burst := none
  fails     : Nat := 0
  retryAt   : Option Nat := none
  everOk    : Bool := false
  /-- Last accepted M, replies outside TOL in a row, the periodic ECHO outstanding, and when the last one left. -/
  ms        : List Int := []
  outTol    : Nat := 0
  perSent   : Option Nat := none
  perAt     : Nat := 0
  /-- BC_RELOCK of the previous TELEMETRY. -/
  relock    : Option Nat := none
  /-- READ_ID: none until it succeeds; false after a mismatch (R131); when to send it again. -/
  idOk      : Option Bool := none
  idRetry   : Option Nat := none
  /-- A rate change or exit from BANKED is recovering (R129, R130), and the instant by which it is to be ACTIVE. -/
  recover   : Bool := false
  exitBy    : Option Nat := none
  /-- Since when the link has had no CDR lock (R132). -/
  noLockAt  : Option Nat := none
  /-- Equaliser preset in use (R133), and when it last moved. -/
  eq        : Nat := 0
  eqAt      : Nat := 0
  /-- When the GPIO symbol last left (R124). -/
  gpioAt    : Nat := 0
  /-- A GPIO symbol waits for the end of the frame in progress (R117). -/
  gpioDue   : Bool := false
  /-- Start of the power switch (R137), place in the stagger of R139. -/
  pocAt     : Nat := 0
  pocWait   : Option Nat := none
  /-- When the power switch entered ON (R138). -/
  pocOnAt   : Nat := 0
  /-- Loop running (R134). -/
  loop      : Nat := 0
  /-- The checker of the loop: its generator's stages or last counted value, and bits or values found so far (R134, R136); characters of a
  symbol that a LOOP packet still returns, and whether it is inside a frame (R116, R134). -/
  chkSt     : Nat := 0
  chkRun    : Nat := 0
  loopSkip  : Nat := 0
  loopFrame : Bool := false
  /-- TWO_WIRE CONFIG to be sent before the next XFER (R406). -/
  cfgDue    : Bool := true
  /-- VC contexts with a frame in progress on the link. -/
  open_     : List Nat := []
  deriving DecidableEq, Repr

/-- A transaction that a two-wire controller port runs (R401). -/
structure TwXfer where
  cid    : Nat := 0
  flags  : Nat := 0
  ring   : Nat := 0
  addr   : Nat := 0
  kind   : Nat := 0
  pec    : Bool := false
  wr     : List Nat := []
  rn     : Nat := 0
  replied : Bool := false
  set    : Bool := false
  start  : Nat := 0
  deriving DecidableEq, Repr

/-- What a two-wire controller port holds beside its registers. -/
structure TwPort where
  cur      : Option TwXfer := none
  clearCmd : Option CmdPkt := none
  injScl   : Bool := false
  injStuck : Bool := false
  injNack  : Bool := false
  deriving DecidableEq, Repr
/-! ### Memory protection, graphs and engines (R173 to R234, R256 to R284) -/

/-- A word that does not decode clean: the positions of its flipped bits, whether the page code around it is broken, and the
poison mark (R262, R263, R270, R283). -/
structure WFault where
  flips  : List Nat := []
  page   : Bool := false
  poison : Bool := false
  deriving DecidableEq, Repr

/-- A software scrub that runs (R277, R278). -/
structure Scrub where
  target : Nat := 0
  addr   : Nat := 0
  len    : Nat := 0
  rate   : Nat := 1
  start  : Nat := 0
  deriving DecidableEq, Repr

/-- What the memory controllers hold beside their registers. A stored word is named by memory, byte address divided by 8
(see `wordKey`). -/
structure MemUnit where
  /-- Words that do not decode clean. -/
  faults  : AMap WFault := []
  /-- Injection armed by region (R283). -/
  arm     : AMap Nat := []
  /-- Next GDDR7 byte address of the patrol (R275). -/
  patrol  : Nat := 0
  /-- Instant at which the GDDR7 patrol last read, and at which the SRAM pass began. -/
  patrolAt : Nat := 0
  sramAt  : Nat := 0
  /-- Data CRC checks that are still to fail, by channel (R257, R283). -/
  crc     : AMap Nat := []
  /-- Instant of the last leak of each bucket (R274). -/
  leakAt  : AMap Nat := []
  scrub   : Option Scrub := none
  /-- Migration: granules copied and poisoned words met (R282). -/
  copied  : Nat := 0
  poisoned : Nat := 0
  /-- Channels that have not adopted the band's margin set yet (R267). -/
  margin  : List Nat := []
  /-- The channel fence staged with the next epoch (R279). -/
  fenceNext : Option Nat := none
  deriving DecidableEq, Repr

/-- A port word of R211. -/
structure GPort where
  used  : Bool := false
  mode  : Nat := 0
  chunk : Nat := 1
  flue  : Nat := 0
  deriving DecidableEq, Repr

/-- A node of a graph (R210); code and parameters are named by GDDR7 address and length. -/
structure GNode where
  kind    : Nat := 0
  lib     : Nat := 0
  codeAt  : Nat := 0
  codeLen : Nat := 0
  entry   : Nat := 0
  engines : Nat := 0
  parAt   : Nat := 0
  parLen  : Nat := 0
  parDmem : Nat := 0
  stack   : Nat := 0
  grants  : Nat := 0
  si      : List GPort := []
  so      : List GPort := []
  cost    : Nat := 0
  wdog    : Nat := 0
  deriving DecidableEq, Repr

/-- A flue of a graph (R211). Endpoint words are kept whole (R215). -/
structure GFlue where
  loc   : Nat := 0
  slots : Nat := 0
  bytes : Nat := 0
  base  : Nat := 0
  prod  : Nat := 0
  cons  : List Nat := []
  hiwm  : Nat := 0
  lowm  : Nat := 0
  deriving DecidableEq, Repr

/-- A grant (R211). -/
structure GGrant where
  base  : Nat := 0
  len   : Nat := 0
  flags : Nat := 0
  deriving DecidableEq, Repr

/-- A loaded descriptor (R209), with the range of GDDR7 it was loaded from (R279). -/
structure Graph where
  id     : Nat := 0
  drain  : Nat := 1
  smpc   : Nat := 0
  nodes  : List GNode := []
  flues  : List GFlue := []
  grants : List GGrant := []
  addr   : Nat := 0
  total  : Nat := 0
  /-- Instant of the commit that made it active (R214). -/
  since  : Nat := 0
  deriving DecidableEq, Repr

/-- An item in a slot (R215 to R217): ring claim, length, bytes written, the producing rank, whether it is closed, its
place in the order of visibility, and the readers that have not finished with it (consumer, rank; 255 any rank, 254 the
next live rank). -/
structure Item where
  seq    : Nat := 0
  len    : Nat := 0
  wr     : Nat := 0
  rank   : Nat := 0
  closed : Bool := false
  /-- Instant at which it was closed (R221). -/
  clAt   : Nat := 0
  vis    : Option Nat := none
  left   : List (Nat × Nat) := []
  deriving DecidableEq, Repr

/-- A flue as it runs: items not yet free, slots claimed and items shown since load, watermarks (R218), the number of the
next item of its frame by consumer (R220), and the turn of the ORDERED merge (R221). -/
structure Flue where
  items   : List Item := []
  claimed : Nat := 0
  shown   : Nat := 0
  high    : Bool := false
  sticky  : Bool := false
  cross   : Nat := 0
  deal    : AMap Nat := []
  mrank   : Nat := 0
  mcount  : Nat := 0
  /-- An item has been shown since the last frame record item (R231). -/
  mid     : Bool := false
  /-- FRAME_NUM of the last frame record item closed in it (R214). -/
  recd    : Option Nat := none
  deriving DecidableEq, Repr

/-- A node as it runs: instants of exceptions, ranks out until a restart, ranks out for good, and by output port the
FRAME_NUM of frames that have lost items (R222, R223). -/
structure Node where
  excAt  : List Nat := []
  faulted : List Nat := []
  gone   : List Nat := []
  lost   : AMap (List Nat) := []
  deriving DecidableEq, Repr

/-- The graph unit: staged and active graph, the generation of the active one, the graphs being drained by generation (flues
and nodes are kept by generation too), the engines still to change over or to halt, whether GRAPH_ACTIVE is owed, and the
generations that have stopped (R212 to R214, R223). -/
structure GraphUnit where
  staged : Option Graph := none
  active : Option Graph := none
  olds   : AMap Graph := []
  gen    : Nat := 0
  due    : List Nat := []
  owed   : Bool := false
  stopped : List Nat := []
  flues  : AMap Flue := []
  nodes  : AMap Node := []
  deriving DecidableEq, Repr

/-- A level of the loop stack (R198). -/
structure LoopLvl where
  start : Nat := 0
  fin   : Nat := 0
  left  : Nat := 0
  deriving DecidableEq, Repr

/-- Why an engine waits: for an item or a credit (R195, R196), a barrier (R199), or a DMA channel (R197, R200). -/
inductive Wait where
  | item (port : Nat)
  | credit (port : Nat)
  | barrier (id mask : Nat)
  | dma (ch : Nat)
  | allDma
  deriving DecidableEq, Repr

/-- A DMA transfer of R197 in progress. -/
structure Dma where
  src  : Nat := 0
  dst  : Nat := 0
  row  : Nat := 0
  rows : Nat := 0
  mode : Nat := 0
  sstr : Int := 0
  dstr : Int := 0
  deriving DecidableEq, Repr

/-- What the previous issue leaves for the pairing of R180: its slot, whether it is a control instruction, the registers
it writes, its stream port. -/
structure Issued where
  vec    : Bool := false
  ctrl   : Bool := false
  writes : List Nat := []
  port   : Option Nat := none
  deriving DecidableEq, Repr

/-- A line item as a library kernel holds it (R506): its header bytes, its line number, whether it is a fill line or a
damaged one, and its samples in the 16-bit scale. -/
structure KLine where
  hdr  : List Nat := []
  num  : Nat := 0
  fill : Bool := false
  dam  : Bool := false
  px   : List Nat := []
  deriving DecidableEq, Repr

/-- What a library kernel keeps of the frame it works on (R506 to R512, R226): FRAME_NUM in progress plus one, the lines
received by input port (computed levels of the pyramid from 8), by output port the items produced and the next line to
produce, output items that wait for SEND with their ports, the lines that the Peat encoder has coded as reconstructed,
input ports whose record has arrived with that of SI0, embedded items held back, frames stored so far, and items received
of the present run of a ROUND deal. -/
structure Lib where
  num    : Nat := 0
  lines  : AMap (List KLine) := []
  count  : AMap Nat := []
  next   : AMap Nat := []
  queue  : List (Nat × List Nat) := []
  peat   : AMap (List Nat) := []
  ended  : List Nat := []
  record : List Nat := []
  held   : List (List Nat) := []
  frames : Nat := 0
  run    : Nat := 0
  /-- Places of the input lines whose output line has been written (R509). -/
  wrote  : List Nat := []
  deriving DecidableEq, Repr

/-- An engine beside its registers (R176): sparse register files whose unlisted entries hold 0, loop stack innermost
first, CSRs that software writes, latched _HI halves, kernel start, stream port cursors (item and bytes read; item open),
DMA channels, watchdog, waits and injections. -/
structure Engine where
  x      : AMap Word := []
  v      : AMap Vec := []
  p      : AMap Word := []
  a      : AMap (Vector (BitVec 40) 32) := []
  loops  : List LoopLvl := []
  csr    : AMap Word := []
  /-- What CYCLE_HI and TIME_HI read next, latched by a read of their _LO (R9, R179). -/
  cycHi  : Option Word := none
  timeHi : Option Word := none
  cyc0   : Nat := 0
  /-- Generation of the graph, node and rank it runs. -/
  gen    : Nat := 0
  node   : Nat := 0
  rank   : Nat := 0
  bound  : Bool := false
  inCur  : AMap (Nat × Nat) := []
  outCur : AMap Nat := []
  dma    : AMap (List Dma) := []
  dmaErr : Option Nat := none
  wait   : Option Wait := none
  /-- Instant at which it began to wait (R220). -/
  waitAt : Nat := 0
  /-- Watchdog: the limit in force in µs, counting since, and what it had counted before (R204, R207). -/
  wdLim  : Nat := 0
  wdAt   : Nat := 0
  wdHeld : Nat := 0
  prev   : Option Issued := none
  lib    : Lib := {}
  stopAt : Bool := false
  injIll : Bool := false
  injDmem : Bool := false
  injImem : Bool := false
  deriving DecidableEq, Repr

/-! ### Ingest and check units (R142 to R172, R230 to R233) -/

/-- A line of a frame as the line buffer took it: pixels in the 16-bit scale, none for a marked pixel, whether it was
damaged, and the device time at which it became ready (R152, R155, R167). -/
structure RLine where
  px   : List (Option Nat) := []
  dam  : Bool := false
  at_  : Nat := 0
  deriving DecidableEq, Repr

/-- The line being received: its number and format, its pixels so far, whether a packet of it carried a BAD mark. -/
structure RecvLine where
  num  : Nat := 0
  px   : List (Option Nat) := []
  bad  : Bool := false
  deriving DecidableEq, Repr

/-- A frame of a context from its FRAME_START to its last record (R150 to R158): a serial number apart for each frame of
the slot, the values of its packets, `flags` of the frame record, lines served by the datapath, the last line accepted or
passed over, the counts of R152 and R153 (DROPPED by region), the instants of its close and its end instant once known,
embedded lines (INDEX, bytes, mark), the configuration in force for it (R144), the generation of its graph, the next
output row of each region, the regions that have written their embedded lines and their record, the regions that write
nothing (R158, R170), the static map and the shading grid as read, and whether its statistics are written. -/
structure Frm where
  serial : Nat := 0
  num    : Nat := 0
  tseq   : Nat := 0
  link   : Nat := 0
  vc     : Nat := 0
  sof    : Nat := 0
  start  : Nat := 0
  flags  : Nat := 0
  lines  : AMap RLine := []
  last   : Option Nat := none
  lost   : Nat := 0
  dam    : Nat := 0
  extra  : Nat := 0
  drops  : AMap Nat := []
  filled : Nat := 0
  closed : Option Nat := none
  endAt  : Option Nat := none
  emb    : List (Nat × List Nat × Bool) := []
  embOut : List Nat := []
  use    : AMap Nat := []
  gen    : Nat := 0
  rgn    : AMap Nat := []
  done   : List Nat := []
  mute   : List Nat := []
  chkAt  : List (Nat × Nat) := []
  defects : List (Nat × Nat) := []
  grid   : List Nat := []
  statOk : Bool := false
  deriving DecidableEq, Repr

/-- A context slot: the configuration it serves with, the line being received, the ready line (serial number of its frame,
line number, line), the frames not yet written whole, oldest first, the next serial number, whether the present run of
orphan packets has been reported (R152, R154), the statistics ring position, the rows of the flicker window (row time, sum
over the window's columns, frame), when it began, and injections. -/
structure Ctx where
  /-- The line completed at WIDTH of which more packets may come, and whether it counts as longer than WIDTH already (R152). -/
  tail   : Option (Nat × Bool) := none
  /-- A turn of the slot has been served since the last tick (R147, R171). -/
  turned : Bool := false
  /-- Of the pipeline's lower slot: the regions of the pipeline, 4 x slot + region, whose next row is a fill line, in the order in which these
  fell due (R155). -/
  fillQ  : List Nat := []
  use    : AMap Nat := []
  recv   : Option RecvLine := none
  ready  : Option (Nat × Nat × RLine) := none
  frames : List Frm := []
  serial : Nat := 0
  orphan : Bool := false
  ring   : Nat := 0
  rows   : List (Nat × Nat × Nat) := []
  winAt  : Option Nat := none
  injFlk : Bool := false
  injMap : Bool := false
  injDrop : Bool := false
  deriving DecidableEq, Repr

/-- A check unit: the configuration in use for its stream, the armed bit flip, and the flue it absorbs, by generation and
index, since a reset there (R230 to R233). -/
structure ChkUnit where
  use   : AMap Nat := []
  flip  : Bool := false
  flue  : Option (Nat × Nat) := none
  deriving DecidableEq, Repr

/-- What the ledger and the receiver hand to the tag of a frame, kept for the delivery engine, the recorder and the swaths
(R86): camera (4 x link + VC), FRAME_NUM, settings generation, MISSED_NEIGHBOUR, start-of-frame time, TSEQ, and the trigger
record that matches. -/
structure FTag where
  cam    : Nat := 0
  num    : Nat := 0
  gen    : Nat := 0
  missed : Bool := false
  sof    : Nat := 0
  tseq   : Nat := 0
  trig   : Option TrigRec := none
  deriving DecidableEq, Repr

/-! ### Swaths (R235 to R255) -/

/-- An input of a swath descriptor (R237): H0 to H8 as binary64 patterns, YREF and ZONE in µm, buffers, and the GDDR7
address of its sharpness grid. -/
structure SwIn where
  h     : List Nat := []
  yref  : Int := 0
  zone  : Nat := 0
  nbuf  : Nat := 2
  bytes : Nat := 0
  grid  : Nat := 0
  deriving DecidableEq, Repr

/-- A swath descriptor (R236), with the range of GDDR7 it was loaded from; `seams` is the address of its seam table. -/
structure SwDesc where
  swath  : Nat := 0
  axis   : Nat := 0
  ch     : Nat := 1
  out8   : Bool := false
  mask   : Bool := false
  hard   : Bool := false
  w      : Nat := 8
  gsd    : Nat := 250
  umpc   : Nat := 1
  origin : Nat := 0
  force  : Int := 0
  rows   : Nat := 1
  tmo    : Nat := 0
  rmax   : Nat := 1
  x0     : Int := 0
  lo     : Nat := 0
  hi     : Nat := 1
  ramp   : Nat := 0
  gap    : Nat := 0
  store  : Nat := 0
  addr   : Nat := 0
  total  : Nat := 0
  seams  : Nat := 0
  inputs : List SwIn := []
  deriving DecidableEq, Repr

/-- A frame of a swath input: its number, its buffer, none free at its first line item, the length of that item (0 before it),
width and height, the lines stored with a mark on those kept as fill lines, a line that does not fit, the exposure-centre
position, and GRAPH_FAULT (R239, R240). -/
structure SwFrame where
  num   : Nat := 0
  buf   : Option Nat := none
  full  : Bool := false
  len   : Nat := 0
  win   : Nat := 0
  hin   : Nat := 0
  lines : AMap Bool := []
  big   : Bool := false
  pf    : Nat := 0
  fault : Bool := false
  deriving DecidableEq, Repr

/-- A swath input: the frame being collected, the accepted frames that hold buffers, oldest first, and HWA (R240). -/
structure SwInput where
  cur    : Option SwFrame := none
  frames : List SwFrame := []
  hwa    : Option Nat := none
  deriving DecidableEq, Repr

/-- A decided row: k, the device time of its decision, the frame chosen for each input, FORCED, OVERSPEED, and the axis
speed at its decision (R243, R248, R250). -/
structure SwRow where
  k      : Int := 0
  at_    : Nat := 0
  choice : List (Option SwFrame) := []
  forced : Bool := false
  fast   : Bool := false
  speed  : Nat := 0
  deriving DecidableEq, Repr

/-- The open strip (R251): rows and counts of flagged rows, first row, decision times, flags. -/
structure SwStrip where
  rows    : Nat := 0
  gaps    : Nat := 0
  holes   : Nat := 0
  forced  : Nat := 0
  fast    : Nat := 0
  fault   : Bool := false
  gap     : Bool := false
  restart : Bool := false
  k       : Int := 0
  pos     : Nat := 0
  first   : Nat := 0
  last    : Nat := 0
  deriving DecidableEq, Repr

/-- A computed row or the close of a strip, waiting for a credit of the output flue (R248, R251). Of a row: its row header and
pixels, the flags of its line header, its k where NEXT follows it, P_k, flags, axis, speed, the time of its decision, ROWS and W of
its descriptor. Of a close: W, and, at a restart, that the next strip is the first after it and whether strips count from 0. -/
structure SwOut where
  bytes : List Nat := []
  rcd   : Bool := false
  hflags : Nat := 0
  k     : Option Int := none
  kval  : Int := 0
  pos   : Nat := 0
  flags : Nat := 0
  axis  : Nat := 0
  speed : Nat := 0
  at_   : Nat := 0
  rows  : Nat := 1
  wpx   : Nat := 0
  restart : Bool := false
  fresh : Bool := false
  deriving DecidableEq, Repr

/-- One swath (R235 to R255): descriptors, inputs, the next row to emit and to decide, the backlog, computed items that wait for
credit, the strip and its number, the instant of the last row, the position of the last row, the highest axis position reached,
whether the axis has run back and not passed that position again, and whether it runs back now, the instant of the last restart,
whether overspeed rows are being emitted, counters. -/
structure Swath where
  evten   : Nat := 0x13E
  staged  : Option SwDesc := none
  active  : Option SwDesc := none
  inputs  : AMap SwInput := []
  next    : Int := 0
  dec     : Int := 0
  backlog : List SwRow := []
  outq    : List SwOut := []
  strip   : SwStrip := {}
  num     : Nat := 0
  rowAt   : Nat := 0
  lastPos : Option Nat := none
  top     : Nat := 0
  back    : Bool := false
  stop    : Bool := false
  since   : Nat := 0
  slow    : Bool := false
  cnt     : AMap Nat := []
  injFull : Bool := false
  injOver : Bool := false
  deriving DecidableEq, Repr

/-! ### Delivery (R288 to R313) -/

/-- The ledger's and the context's values of a tag, taken at the origin frame start (R86, R293, R294). -/
structure TagInfo where
  graph  : Nat := 0
  strip  : Bool := false
  num    : Nat := 0
  gen    : Nat := 0
  flags  : Nat := 0
  speed  : Nat := 0
  pos    : Nat := 0
  axis   : Nat := 255
  tseq   : Nat := 0
  centre : Nat := 0
  offer  : Nat := 0
  admitted  : Nat := 0
  deriving DecidableEq, Repr

/-- An admitted item, or a diagnostic or warden item: its KIND, origin (context slot, or 64 and the swath) and
camera (4 x link + VC), descriptor (index, buffer, length), D, MAXB and PRIO of its contract, end instant and PROMISED once known, payload so far with the bytes
written, entries, the frame record once it has arrived, whether it was cut, the causes of R307 met in flight (bit 0 stall,
bit 1 link, bit 2 an item lost to poison), and the capacities at ADMIT. -/
structure DItem where
  tag    : TagInfo := {}
  kind   : Nat := 0
  src    : Nat := 0
  cam    : Nat := 0
  desc   : Nat := 0
  buf    : Nat := 0
  blen   : Nat := 0
  d      : Nat := 0
  maxb   : Nat := 0
  prio   : Nat := 0
  endAt  : Option Nat := none
  prom   : Option Nat := none
  pay    : List Nat := []
  sent   : Nat := 0
  count  : Nat := 0
  rcd    : Option (List Nat) := none
  cut    : Bool := false
  causes : Nat := 0
  caps   : List Nat := []
  gen    : Nat := 0
  deriving DecidableEq, Repr

/-- A completion that waits for its turn in the ring or for the link: descriptor index, LEN, STATUS, bits of byte 6. -/
structure DComp where
  desc   : Nat := 0
  len    : Nat := 0
  status : Nat := 0
  bits   : Nat := 0
  deriving DecidableEq, Repr

/-- A contract of R295. -/
structure Contract where
  prio  : Nat := 0
  burst : Nat := 1
  d     : Nat := 0
  rate  : Nat := 0
  maxb  : Nat := 0
  deriving DecidableEq, Repr

/-- What a command has staged for a stream (R296). -/
inductive StreamOp where
  | opened (c : Contract)
  | closed
  | resumed
  | modified (c : Contract)
  deriving DecidableEq, Repr

/-- A delivery queue beside its registers: descriptors posted, fetched and completed since it was enabled, credits (index,
address, length), completions that wait, items in flight in order of descriptor, the PHASE, the bucket level in 10^-6 byte
with its instant, refusals since the last item, frames offered, the staged stream command, close at the end of a flush,
and injections. -/
structure DQueue where
  posted  : Nat := 0
  fetched : Nat := 0
  done    : Nat := 0
  credits : List (Nat × Nat × Nat) := []
  comps   : List DComp := []
  items   : List DItem := []
  bucket  : Nat := 0
  bktAt   : Nat := 0
  refs    : Nat := 0
  offer   : Nat := 0
  next    : Option StreamOp := none
  closing : Bool := false
  injDesc : Bool := false
  injLate : Bool := false
  injRef  : Bool := false
  deriving DecidableEq, Repr

/-- The delivery engine beside its registers: queues, low-class bytes written in this tick (R305), stall accumulated in
this tick and an injected one (R309), streams shed in order with the latest first (R308), the causes to retest, the end
instants of frames and strips by origin and number (R294), and the tag values of strips with the decision time of their first row. -/
structure Deliv where
  queues : AMap DQueue := []
  low    : Nat := 0
  stall  : Nat := 0
  stalled : Bool := false
  injStall : Bool := false
  shed   : List Nat := []
  seen   : List Nat := []
  ends   : List (Nat × Nat × Nat) := []
  strips : List (Nat × Nat × TagInfo × Nat) := []
  deriving DecidableEq, Repr


/-! ### Rewind recorder (R320 to R347) -/

/-- A unit of the ring (R326): its RPOS, kind (0 record header, 1 entry, 2 trailer, 3 gap unit, 4 pad), input and record number, which
the ring holds only in some kinds, start-of-frame time of a header, and its bytes. A pad fills the rest of its extent: `fill` counts
the bytes after its first word, whose values no rule states (log 78). -/
structure RUnit where
  pos   : Nat := 0
  kind  : Nat := 0
  input : Nat := 0
  rseq  : Nat := 0
  sof   : Nat := 0
  bytes : List Nat := []
  fill  : Nat := 0
  deriving DecidableEq, Repr

/-- An extent since its group's last erase (R321, R322, R330, R331): ESEQ, place (group, extent) once its first page is to be
programmed, instant of its first unit, closed, pages programmed, FRO, RSEQ of its first header, start-of-frame times of its
first and last header, inputs with units, instant at which its data was complete, whether it is valid, and whether it is dead:
abandoned, discarded, or in a group about to be erased. -/
structure RExt where
  eseq  : Nat := 0
  place : Option (Nat × Nat) := none
  since : Nat := 0
  closed : Bool := false
  pages : Nat := 0
  fro   : Option Nat := none
  rseq  : Nat := 0
  sof0  : Nat := 0
  sof1  : Nat := 0
  ins   : Nat := 0
  full  : Option Nat := none
  valid : Bool := false
  gone  : Bool := false
  deriving DecidableEq, Repr

/-- A journal entry (R332): TYPE, byte 1, group, extent, byte 5, the quantities of bytes 8 and 16 (for RECLAIM first and last
ESEQ, an empty range where nothing is erased), FRO, inputs, start-of-frame times, total erases and powered seconds; the
command that waits for it, and whether the erase that is being prepared waits for it (R333). -/
structure JEnt where
  ty     : Nat := 0
  idx    : Nat := 0
  group  : Nat := 0
  ext    : Nat := 0
  flags  : Nat := 0
  a      : Nat := 0
  b      : Nat := 0
  fro    : Nat := 0
  ins    : Nat := 0
  sof0   : Nat := 0
  sof1   : Nat := 0
  erases : Nat := 0
  secs   : Nat := 0
  cmd    : Option (CmdPkt × List Nat) := none
  own    : Bool := false
  deriving DecidableEq, Repr

/-- A journal page (R332): GENERATION and entries. -/
structure JPage where
  gen  : Nat := 0
  ents : List JEnt := []
  deriving DecidableEq, Repr

/-- A journal page being programmed: slot, page, copies already programmed, and whether the next copy is under way (R332, R334). -/
structure JProg where
  slot : Nat := 0
  page : JPage := {}
  done : Nat := 0
  run  : Bool := true
  deriving DecidableEq, Repr

/-- The record that an input has open (R325, R327, R328): frame number, RSEQ, bytes written, entry payload, items, and the tag
values taken at its first item. `open_` is false while the rest of a frame is passed over. -/
structure RRec where
  num   : Nat := 0
  open_ : Bool := false
  rseq  : Nat := 0
  wr    : Nat := 0
  pay   : List Nat := []
  count : Nat := 0
  tag   : TagInfo := {}
  cam   : Nat := 0
  src   : Nat := 0
  fault : Bool := false
  deriving DecidableEq, Repr

/-- A recorder input beside its registers: bucket in 10^-6 byte with its instant, the frame in progress, frames dropped since its
last gap unit with the times of the first and last, frames seen since the commit. -/
structure RIn where
  bucket : Nat := 0
  at_    : Nat := 0
  cur    : Option RRec := none
  drops  : Nat := 0
  first  : Nat := 0
  last   : Nat := 0
  offer  : Nat := 0
  deriving DecidableEq, Repr

/-- A readout (R340 to R343): queue, input mask, MAXB, rate in MB/s, FOLLOW, cursor, whether the cursor stands past its start point,
newest extent valid at READ_START, bytes skipped since the previous item, and the instant from which the rate allows the next item. -/
structure RRead where
  queue  : Nat := 0
  mask   : Nat := 0
  maxb   : Nat := 0
  rate   : Nat := 0
  follow : Bool := false
  pos    : Nat := 0
  begun  : Bool := false
  lim    : Option Nat := none
  skip   : Nat := 0
  at_    : Nat := 0
  deriving DecidableEq, Repr

/-- The stages of a group erase (R333): RECLAIM being journalled, journalled, the erase running. -/
inductive REraseSt where
  | idle | journal | ready | running
  deriving DecidableEq, Repr

/-- The recorder beside its registers. `units`, `exts`, `slots`, `retired`, `spares`, `wpos`, `rseq` and `low` outlast power. -/
structure Recorder where
  /-- The unit last written at the lowest RPOS first. -/
  units  : List RUnit := []
  exts   : List RExt := []
  /-- Journal slots, three copies each; a copy that is not intact is none (R331). -/
  slots  : AMap (List (Option JPage)) := []
  retired : List Nat := []
  /-- Spare blocks used, by die (R336). -/
  spares : AMap Nat := []
  /-- RPOS of the next unit, next RSEQ, records that ended without a trailer, and whether WEAR_LOW has been raised (R344). -/
  wpos   : Nat := 0
  rseq   : Nat := 0
  cuts   : List Nat := []
  low    : Nat := 0
  /-- Group being filled with the extents placed in it, the group last taken, the group erased ahead, the group in erase. -/
  fill   : Option (Nat × Nat) := none
  lastG  : Option Nat := none
  ahead  : Option Nat := none
  erase  : REraseSt := .idle
  eraseG : Nat := 0
  /-- A data page is being programmed: the ESEQ of its extent. -/
  prog   : Option Nat := none
  jq     : List JEnt := []
  jAt    : Nat := 0
  jDue   : Bool := false
  jprog  : Option JProg := none
  jslot  : Nat := 0
  jgen   : Nat := 0
  ins    : AMap RIn := []
  read   : Option RRead := none
  /-- Frames dropped since recording was held (R334). -/
  held   : Nat := 0
  /-- Powered ns, erases, wear bucket in 2^-64 erase, and when they were last brought up to date (R344). -/
  ns     : Nat := 0
  erases : Nat := 0
  wear   : Nat := 0
  at_    : Nat := 0
  injSplit : Bool := false
  injUe  : Bool := false
  injFail : Bool := false
  deriving DecidableEq, Repr

/-! ### Network time (R348 to R360) -/

/-- An Ethernet port beside its registers: priority vector and grandmaster named by the last Announce with its instant and interval,
an injected new grandmaster, the last accepted Sync, whether the Syncs are lost, the two-step Sync that waits for its
Follow_Up (sequence number, receive stamp, its instant, correction), the unanswered Pdelay_Req (sequence number, transmit stamp),
exchanges without a response, when the last request left, its next sequence number, the intervals that Signaling asked
for, when the last Sync left, and the last message sent (type, sequence number, transmit stamp). -/
structure EthPort where
  vec    : Option Nat := none
  gm     : Option Nat := none
  isNew  : Bool := false
  annAt  : Nat := 0
  annLog : Nat := 0
  syncAt : Option Nat := none
  lost   : Bool := false
  pend   : Option (Nat × Nat × Int) := none
  req    : Option (Nat × Nat) := none
  missed : Nat := 0
  reqAt  : Option Nat := none
  reqSeq : Nat := 0
  pdLog  : Option Nat := none
  mute   : Bool := false
  sentAt : Option Nat := none
  syncSeq : Nat := 0
  sent   : Option (Nat × Nat × Nat) := none
  rstN   : Bool := false
  injPd  : Bool := false
  deriving DecidableEq, Repr

/-- The time unit beside its registers: consecutive Syncs within and beyond LOCKTH, when HOLDOVER began, a staged TIME_REARM, and an
injected grandmaster change. -/
structure TimeUnit where
  ports  : AMap EthPort := []
  near   : Nat := 0
  far    : Nat := 0
  holdAt : Nat := 0
  rearm  : Bool := false
  injGm  : Bool := false
  deriving DecidableEq, Repr

/-! ### Supplies, power states and start-up (R458 to R504) -/

/-- Where the module stands (R465, R466): off, in start-up, held in reset by RESET_N, in RUN or HOLD, entering SMOULDER (R470), in the
deferral of a shutdown (R427), in SMOULDER. -/
inductive PState where
  | off | startup | resetHeld | up | entering | deferral | smoulder
  deriving DecidableEq, Repr

/-- Supplies, dips, HOLD, SMOULDER and start-up beside the registers of SYS. -/
structure PowerUnit where
  st      : PState := .startup
  /-- Start of the dip in progress and its lowest VIN in mV (R467). -/
  dipAt   : Option Nat := none
  dipMin  : Nat := 0
  dipEnd  : Nat := 0
  /-- Start of HOLD, dips counted in it. -/
  holdAt  : Nat := 0
  holdDips : Nat := 0
  overAt  : Option Nat := none
  vcamLow : Bool := false
  vcamOver : Bool := false
  vioAt   : Nat := 0
  /-- SYS_POWER with W0 = 2 has replied (R470). -/
  ask     : Bool := false
  /-- Start of the SMOULDER entry, the deferral or SMOULDER; position of the wake axis and the wake settings at entry (R471, R472, R478). -/
  downAt  : Nat := 0
  axisPos : Quad := 0
  wakeCfg : List Nat := []
  encKeep : Nat := 0
  wakeVin : Bool := false
  wake    : Option Nat := none
  /-- After a thermal shutdown the wake waits for the case sensor (R430), with the cause. -/
  thermal : Bool := false
  resume  : Bool := false
  /-- T0 of start-up (R497), a dip met during start-up (R473), a wake owed to the host (R472). -/
  t0      : Nat := 0
  woken   : Bool := false
  /-- The last start-up stage that has ended (R497); a dip during the SMOULDER entry (R473); the keep-alive domain runs (R460); STP has
  woken the module (R414) and the instant of that address phase; the reset that SYS_RESET asks for after its reply (1 warm, 2 full). -/
  done    : Nat := 0
  noProg  : Bool := false
  alive   : Bool := true
  stpWoke : Bool := false
  stpAt   : Option Nat := none
  resetAsk : Nat := 0
  /-- The last management tick, or the instant at which STAGE 2 began: ticks fall 1 ms apart from it (R21). -/
  tickAt  : Option Nat := none
  deriving DecidableEq, Repr

/-- The thermal model and its sensors beside the registers of THM (R417 to R431): node temperatures in 2^-16 of 1/64 °C, ticks of large
residual by diode, ticks of small residuals, last sample and last failed sample by sensor (diodes 0 to 5, case 6), whether the
model has updated since start-up, instructions retired by node at the last tick, TJ at or above ALARM, injections, and the
largest residual's diode with its residual. -/
structure ThermUnit where
  nodes   : List Int := []
  bigRun  : AMap Nat := []
  good    : Nat := 0
  last    : AMap Nat := []
  badAt   : AMap Nat := []
  seen    : Bool := false
  retired : AMap Nat := []
  alarm   : Bool := false
  injDiode : Bool := false
  injCase : Bool := false
  resid   : AMap Int := []
  tlPeek  : List (List Nat) := []
  tlLast  : Nat := 0
  deriving DecidableEq, Repr

/-! ### Diagnostics and the warden (R384 to R390, R433 to R448) -/

/-- A standby engine beside DIA_SBn (R438 to R442): the engine it is to take, with the instant from which the drain limit runs, engines
to be taken out of turn, whether it has passed the self-test of this cycle, and whether the engine it serves has passed its own. -/
structure Standby where
  take    : Option (Nat × Nat) := none
  first   : List Nat := []
  ready   : Bool := false
  back    : Bool := false
  deriving DecidableEq, Repr

/-- An automatic fence (R443): kind (0 channel, 1 cluster), index, and its commit instant. -/
structure AutoFence where
  kind : Nat := 0
  idx  : Nat := 0
  at_  : Nat := 0
  deriving DecidableEq, Repr

/-- An automatic fence that is refused (R443): kind, index, case, and when it was last reported. -/
structure Wanted where
  kind : Nat := 0
  idx  : Nat := 0
  case : Nat := 0
  at_  : Nat := 0
  deriving DecidableEq, Repr

/-- The warden and the watch over service firmware beside the registers: last heartbeat, instants of earlier stops, a hang, when BOOTING began,
standbys, self-tests in progress (engine clock count at the start, the STATE to restore) and the ENGINE_TEST commands that wait for them by
engine, engines whose next self-test fails, uncorrectable words by region in the last second, automatic fences, the staged
cluster fence, the telemetry record's counters at its last record, the security log, when the warden restarted and last
mismatched, the debug nonce with its instant, and items that wait for DQ63. -/
structure DiagUnit where
  beatAt  : Nat := 0
  stops   : List Nat := []
  hang    : Bool := false
  bootAt  : Nat := 0
  standby : AMap Standby := []
  tests   : AMap (Nat × Nat) := []
  tcmds   : AMap CmdPkt := []
  stFail  : List Nat := []
  ues     : AMap (List Nat) := []
  autos   : List AutoFence := []
  wanted  : List Wanted := []
  clNext  : Option Nat := none
  telAt   : Nat := 0
  telBase : List Nat := []
  secLog  : List (Nat × Nat × Nat) := []
  restart : Nat := 0
  mism    : Option Nat := none
  nonce   : Option (Nat × Nat) := none
  held    : List (List Nat) := []
  deriving DecidableEq, Repr

/-! ### The configuration store (R387, R391, R392) -/

/-- A copy of a store record: FORMAT, GENERATION and data. -/
structure StoreCopy where
  format : Nat := 0
  gen    : Nat := 0
  data   : List Nat := []
  deriving DecidableEq, Repr

/-- The store: the three copies of each record (none where a copy is not intact), the copies with which a record is to be rewritten once
programs are permitted (R391, R497), the rollback counters of OTP by image kind, and the injection of R395. -/
structure Firm where
  copies : AMap (List (Option StoreCopy)) := []
  owed   : AMap StoreCopy := []
  wcnt   : Nat := 0
  scnt   : Nat := 0
  injSplit : Bool := false
  deriving DecidableEq, Repr

/-- The whole state of the module. -/
structure State where
  /-- Elapsed corrected-reference time in ns (R21, R353); log 1. -/
  now : Nat := 0
  /-- Device time less elapsed time (R353, R356). -/
  timeOfs : Int := 0
  /-- The model's own counter of free values drawn (log 2). -/
  freeCount : Nat := 0
  /-- What the last modelled register read returned (R4, R9). -/
  busRead : Nat := 0
  /-- The value software sees in each register field, where it differs from reset. -/
  regs : AMap Nat := []
  /-- The active value of each staged field, where it differs from reset (R23). -/
  active : AMap Nat := []
  /-- Latched _HI values waiting for the next read of _HI (R9). -/
  hiLatch : AMap Nat := []
  /-- _HI values written and waiting for the write of _LO (R10). -/
  hiHold : AMap Nat := []
  /-- By key of a W1C field, the instant at which the device last set bits of it, and which (R8). -/
  w1cSet : AMap (Nat × Nat) := []
  /-- The byte memories. -/
  mems : Mems := {}
  /-- Event occurrences, records and the event ring (R314 to R317). -/
  events : EventUnit := {}
  /-- Encoder ports EP0 to EP7. -/
  ports : AMap Port := []
  /-- Axes AX0 to AX7. -/
  axes : AMap Axis := []
  /-- The trigger ledger (R65 to R80). -/
  ledger : Ledger := {}
  /-- Settings sets 0 to 63 as staged: 128 bytes each (R88, R382). -/
  setsStaged : AMap (List Nat) := []
  /-- Settings sets 0 to 63 in force. -/
  sets : AMap (List Nat) := []
  /-- The ledger's side of cameras 0 to 23. -/
  cams : AMap Cam := []
  /-- Strobe outputs TRO0 to TRO7 (R87). -/
  strobes : AMap Strobe := []
  /-- The lighting oscillator (R92 to R94). -/
  lite : Lite := {}
  /-- Link receivers FLR0 to FLR23. -/
  links : AMap Link := []
  /-- Two-wire controller ports 0 to 25 (R397). -/
  tw : AMap TwPort := []
  /-- Swaths 0 and 1 (R235 to R255). -/
  swaths : AMap Swath := []
  /-- Unsignalled completions of queues 0 to 63, of the event ring (64) and of the command ring (65). -/
  coal : AMap Coal := []
  /-- The 256 words of the MSI-X table that differ from reset (R317); word 3 of an entry resets to 1, masked. -/
  msix : AMap Nat := []
  /-- The MSI-X pending bits. -/
  msixPend : Nat := 0
  /-- MSI-X messages sent by each vector. -/
  msixSent : AMap Nat := []
  /-- Commands and replies (R367 to R374). -/
  cmd : CmdUnit := {}
  /-- Configuration epochs (R376 to R380). -/
  epoch : EpochUnit := {}
  /-- Memory protection (R256 to R284) -/
  memu : MemUnit := {}
  /-- Stage graphs and flues (R209 to R223) -/
  graph : GraphUnit := {}
  /-- Engines 0 to 127 and standbys 128 to 131 (R173) -/
  engines : AMap Engine := []
  /-- Engine clocks before the last change of the clock, with `clkAt` (R19, R179) -/
  clk0 : Nat := 0
  /-- Instant of the last change of the engine clock -/
  clkAt : Nat := 0
  /-- Context slots: slot s of pipeline p is 2p + s (R142) -/
  ctxs : AMap Ctx := []
  /-- Tag values of every frame started so far, latest first (R86) -/
  frameTags : List FTag := []
  /-- FRAME_NUM plus one of the last FRAME_START forwarded, by 4 x link + VC (R376) -/
  lastFrame : AMap Nat := []
  /-- Check units CHK0 to CHK15 (R230) -/
  chk : AMap ChkUnit := []
  /-- Delivery queues and admission (R288 to R313) -/
  dlv : Deliv := {}
  /-- The rewind recorder (R320 to R347) -/
  rcd : Recorder := {}
  /-- The time unit and the Ethernet ports (R348 to R360) -/
  time : TimeUnit := {}
  /-- Supplies, power states and start-up (R458 to R504) -/
  pwr : PowerUnit := {}
  /-- The thermal model (R417 to R431) -/
  thm : ThermUnit := {}
  /-- The warden, the standbys and telemetry (R384 to R390, R433 to R448) -/
  diag : DiagUnit := {}
  /-- The configuration store and OTP (R387, R391, R392) -/
  firm : Firm := {}
  /-- Commands waiting, first in first out. -/
  pending : List Instr := []
  deriving DecidableEq, Repr

/-- The module right after power-on reset: every field at the value the spec gives, and at the value its log entry names
where the spec gives none. -/
def State.reset : State := {}

end Sys2Proof.Machine
end

