-- ==== Sys2Proof/Machine/Regs.lean ====
section
/-! DEFINITION. The register fields of BAR0, one definition a field, from the register tables of the chapters, and the
fields found at an offset (R3 to R7, R505). A field of an array of registers takes the instance index. -/

namespace Sys2Proof.Machine

/-- Base of the registers of engine `n` (0 to 127) or of standby `n - 128`: header of R207. -/
def engBase (n : Nat) : Nat :=
  if n < 128 then 0x1000000 + 0x100000 * (n / 8) + 0x1000 * (n % 8)
  else 0x1008000 + 0x400000 * (n - 128)

/-- SYS_ID of R2, a register of one read-only field. -/
def SYS.ID : Fld := { off := 0, lo := 0, w := 32, ty := .ro, reset := 0x4A4B2412 }

/-- SYS_STEPPING.STEPPING_LETTER (R2). -/
def SYS.STEPPING_LETTER : Fld := { off := 0x4, lo := 8, w := 8, ty := .ro, reset := 75 }
/-- SYS_STEPPING.STEPPING_DIGIT (R2). -/
def SYS.STEPPING_DIGIT : Fld := { off := 0x4, lo := 0, w := 8, ty := .ro, reset := 1 }

/-- AXS_SNAP.SNAP_AXES (R63). -/
def AXS.SNAP_AXES : Fld := { off := 0x40000 + 0x0, lo := 0, w := 8, ty := .wo, reset := 0 }

/-- AXS_EVTEN.EVTEN_EN (R63). -/
def AXS.EVTEN_EN : Fld := { off := 0x40000 + 0x4, lo := 1, w := 15, ty := .rw, reset := 15359 }

/-- EPn_CFG.CFG_WIN (R63). -/
def EP.CFG_WIN (n : Nat) : Fld := { off := 0x41000 + 0x100 * n + 0x0, lo := 17, w := 4, ty := .rw, reset := 4, staged := true }
/-- EPn_CFG.CFG_OPEN_EN (R63). -/
def EP.CFG_OPEN_EN (n : Nat) : Fld := { off := 0x41000 + 0x100 * n + 0x0, lo := 16, w := 1, ty := .rw, reset := 1, staged := true }
/-- EPn_CFG.CFG_FILT (R63). -/
def EP.CFG_FILT (n : Nat) : Fld := { off := 0x41000 + 0x100 * n + 0x0, lo := 12, w := 4, ty := .rw, reset := 1, staged := true }
/-- EPn_CFG.CFG_ZMODE (R63). -/
def EP.CFG_ZMODE (n : Nat) : Fld := { off := 0x41000 + 0x100 * n + 0x0, lo := 10, w := 2, ty := .rw, reset := 0, staged := true }
/-- EPn_CFG.CFG_DIRINV (R63). -/
def EP.CFG_DIRINV (n : Nat) : Fld := { off := 0x41000 + 0x100 * n + 0x0, lo := 9, w := 1, ty := .rw, reset := 0, staged := true }
/-- EPn_CFG.CFG_INV (R63). -/
def EP.CFG_INV (n : Nat) : Fld := { off := 0x41000 + 0x100 * n + 0x0, lo := 6, w := 3, ty := .rw, reset := 0, staged := true }
/-- EPn_CFG.CFG_ELEC (R63). -/
def EP.CFG_ELEC (n : Nat) : Fld := { off := 0x41000 + 0x100 * n + 0x0, lo := 4, w := 2, ty := .rw, reset := 0, staged := true }
/-- EPn_CFG.CFG_MODE (R63). -/
def EP.CFG_MODE (n : Nat) : Fld := { off := 0x41000 + 0x100 * n + 0x0, lo := 0, w := 3, ty := .rw, reset := 0, staged := true }

/-- EPn_MINIV.MINIV (R63). -/
def EP.MINIV (n : Nat) : Fld := { off := 0x41000 + 0x100 * n + 0x4, lo := 0, w := 16, ty := .rw, reset := 0, staged := true }

/-- EPn_SSTO.SSTO (R63). -/
def EP.SSTO (n : Nat) : Fld := { off := 0x41000 + 0x100 * n + 0x8, lo := 0, w := 16, ty := .rw, reset := 10000, staged := true }

/-- EPn_PWR.PWR_TRIP (R63). -/
def EP.PWR_TRIP (n : Nat) : Fld := { off := 0x41000 + 0x100 * n + 0xc, lo := 8, w := 1, ty := .w1c, reset := 0 }
/-- EPn_PWR.PWR_VSEL (R63). -/
def EP.PWR_VSEL (n : Nat) : Fld := { off := 0x41000 + 0x100 * n + 0xc, lo := 1, w := 1, ty := .rw, reset := 0, staged := true }
/-- EPn_PWR.PWR_EN (R63). -/
def EP.PWR_EN (n : Nat) : Fld := { off := 0x41000 + 0x100 * n + 0xc, lo := 0, w := 1, ty := .rw, reset := 0, staged := true }

/-- EPn_SER.SER_ERRBITS (R63). -/
def EP.SER_ERRBITS (n : Nat) : Fld := { off := 0x41000 + 0x100 * n + 0x10, lo := 18, w := 2, ty := .rw, reset := 0, staged := true }
/-- EPn_SER.SER_GRAY (R63). -/
def EP.SER_GRAY (n : Nat) : Fld := { off := 0x41000 + 0x100 * n + 0x10, lo := 17, w := 1, ty := .rw, reset := 0, staged := true }
/-- EPn_SER.SER_BITS (R63). -/
def EP.SER_BITS (n : Nat) : Fld := { off := 0x41000 + 0x100 * n + 0x10, lo := 11, w := 6, ty := .rw, reset := 25, staged := true }
/-- EPn_SER.SER_CLKDIV (R63). -/
def EP.SER_CLKDIV (n : Nat) : Fld := { off := 0x41000 + 0x100 * n + 0x10, lo := 0, w := 10, ty := .rw, reset := 49, staged := true }

/-- EPn_SER2.SER2_TIMEOUT (R63). -/
def EP.SER2_TIMEOUT (n : Nat) : Fld := { off := 0x41000 + 0x100 * n + 0x14, lo := 16, w := 8, ty := .rw, reset := 20, staged := true }
/-- EPn_SER2.SER2_PERIOD (R63). -/
def EP.SER2_PERIOD (n : Nat) : Fld := { off := 0x41000 + 0x100 * n + 0x14, lo := 0, w := 16, ty := .rw, reset := 100, staged := true }

/-- EPn_SLAT.SLAT (R63). -/
def EP.SLAT (n : Nat) : Fld := { off := 0x41000 + 0x100 * n + 0x18, lo := 0, w := 16, ty := .rw, reset := 0, staged := true }

/-- EPn_CPR.CPR (R63). -/
def EP.CPR (n : Nat) : Fld := { off := 0x41000 + 0x100 * n + 0x1c, lo := 0, w := 32, ty := .rw, reset := 0, staged := true }

/-- EPn_COUNT.COUNT (R63). -/
def EP.COUNT (n : Nat) : Fld := { off := 0x41000 + 0x100 * n + 0x20, lo := 0, w := 32, ty := .ro, reset := 0 }

/-- EPn_ZLATCH.ZLATCH (R63). -/
def EP.ZLATCH (n : Nat) : Fld := { off := 0x41000 + 0x100 * n + 0x24, lo := 0, w := 32, ty := .ro, reset := 0 }

/-- EPn_STAT.STAT_MOTION (R63). -/
def EP.STAT_MOTION (n : Nat) : Fld := { off := 0x41000 + 0x100 * n + 0x28, lo := 12, w := 3, ty := .ro, reset := 0 }
/-- EPn_STAT.STAT_FAULTED (R63). -/
def EP.STAT_FAULTED (n : Nat) : Fld := { off := 0x41000 + 0x100 * n + 0x28, lo := 11, w := 1, ty := .ro, reset := 0 }
/-- EPn_STAT.STAT_OPEN_STKY (R63). -/
def EP.STAT_OPEN_STKY (n : Nat) : Fld := { off := 0x41000 + 0x100 * n + 0x28, lo := 8, w := 3, ty := .w1c, reset := 0 }
/-- EPn_STAT.STAT_OPEN (R63). -/
def EP.STAT_OPEN (n : Nat) : Fld := { off := 0x41000 + 0x100 * n + 0x28, lo := 4, w := 3, ty := .ro, reset := 0 }
/-- EPn_STAT.STAT_LEVELS (R63). -/
def EP.STAT_LEVELS (n : Nat) : Fld := { off := 0x41000 + 0x100 * n + 0x28, lo := 0, w := 3, ty := .ro, reset := 0 }

/-- EPn_FCNT0.FCNT0_EDGE_FAST (R63). -/
def EP.FCNT0_EDGE_FAST (n : Nat) : Fld := { off := 0x41000 + 0x100 * n + 0x2c, lo := 16, w := 16, ty := .ro, reset := 0 }
/-- EPn_FCNT0.FCNT0_DOUBLE_STEP (R63). -/
def EP.FCNT0_DOUBLE_STEP (n : Nat) : Fld := { off := 0x41000 + 0x100 * n + 0x2c, lo := 0, w := 16, ty := .ro, reset := 0 }

/-- EPn_FCNT1.FCNT1_HALL_SKIP (R63). -/
def EP.FCNT1_HALL_SKIP (n : Nat) : Fld := { off := 0x41000 + 0x100 * n + 0x30, lo := 16, w := 16, ty := .ro, reset := 0 }
/-- EPn_FCNT1.FCNT1_HALL_INVALID (R63). -/
def EP.FCNT1_HALL_INVALID (n : Nat) : Fld := { off := 0x41000 + 0x100 * n + 0x30, lo := 0, w := 16, ty := .ro, reset := 0 }

/-- EPn_FCNT2.FCNT2_INDEX_MISMATCH (R63). -/
def EP.FCNT2_INDEX_MISMATCH (n : Nat) : Fld := { off := 0x41000 + 0x100 * n + 0x34, lo := 16, w := 16, ty := .ro, reset := 0 }
/-- EPn_FCNT2.FCNT2_SERIAL_ERR (R63). -/
def EP.FCNT2_SERIAL_ERR (n : Nat) : Fld := { off := 0x41000 + 0x100 * n + 0x34, lo := 0, w := 16, ty := .ro, reset := 0 }

/-- EPn_UNC.UNC (R63). -/
def EP.UNC (n : Nat) : Fld := { off := 0x41000 + 0x100 * n + 0x38, lo := 0, w := 16, ty := .ro, reset := 0 }

/-- EPn_SPEED.SPEED (R63). -/
def EP.SPEED (n : Nat) : Fld := { off := 0x41000 + 0x100 * n + 0x3c, lo := 0, w := 32, ty := .ro, reset := 0 }

/-- EPn_EDGE_TIME.EDGE_TIME_TIME (R63). -/
def EP.EDGE_TIME_TIME (n : Nat) : Fld := { off := 0x41000 + 0x100 * n + 0x40, lo := 0, w := 32, ty := .ro, reset := 0 }

/-- EPn_SERDATA.SERDATA_DATA (R63). -/
def EP.SERDATA_DATA (n : Nat) : Fld := { off := 0x41000 + 0x100 * n + 0x44, lo := 0, w := 32, ty := .ro, reset := 0 }

/-- EPn_CTL.CTL_CLR_UNC (R63). -/
def EP.CTL_CLR_UNC (n : Nat) : Fld := { off := 0x41000 + 0x100 * n + 0x48, lo := 1, w := 1, ty := .wo, reset := 0 }
/-- EPn_CTL.CTL_CLR_CNT (R63). -/
def EP.CTL_CLR_CNT (n : Nat) : Fld := { off := 0x41000 + 0x100 * n + 0x48, lo := 0, w := 1, ty := .wo, reset := 0 }

/-- AXn_CFG.CFG_COMB (R63). -/
def AX.CFG_COMB (n : Nat) : Fld := { off := 0x42000 + 0x100 * n + 0x0, lo := 8, w := 3, ty := .rw, reset := 0, staged := true }
/-- AXn_CFG.CFG_SRC1 (R63). -/
def AX.CFG_SRC1 (n : Nat) : Fld := { off := 0x42000 + 0x100 * n + 0x0, lo := 4, w := 3, ty := .rw, reset := 0, staged := true }
/-- AXn_CFG.CFG_SRC0 (R63). -/
def AX.CFG_SRC0 (n : Nat) : Fld := { off := 0x42000 + 0x100 * n + 0x0, lo := 0, w := 3, ty := .rw, reset := n, staged := true }

/-- AXn_GAIN0.GAIN0 (R63). -/
def AX.GAIN0 (n : Nat) : Fld := { off := 0x42000 + 0x100 * n + 0x4, lo := 0, w := 32, ty := .rw, reset := 65536, staged := true }

/-- AXn_GAIN1.GAIN1 (R63). -/
def AX.GAIN1 (n : Nat) : Fld := { off := 0x42000 + 0x100 * n + 0x8, lo := 0, w := 32, ty := .rw, reset := 65536, staged := true }

/-- AXn_SLIP.SLIP_TIME (R63). -/
def AX.SLIP_TIME (n : Nat) : Fld := { off := 0x42000 + 0x100 * n + 0xc, lo := 8, w := 8, ty := .rw, reset := 50, staged := true }
/-- AXn_SLIP.SLIP_THR (R63). -/
def AX.SLIP_THR (n : Nat) : Fld := { off := 0x42000 + 0x100 * n + 0xc, lo := 0, w := 8, ty := .rw, reset := 26, staged := true }

/-- AXn_TIMEUNIT.TIMEUNIT (R63). -/
def AX.TIMEUNIT (n : Nat) : Fld := { off := 0x42000 + 0x100 * n + 0x10, lo := 0, w := 16, ty := .rw, reset := 1000, staged := true }

/-- AXn_UNCLIM.UNCLIM (R63). -/
def AX.UNCLIM (n : Nat) : Fld := { off := 0x42000 + 0x100 * n + 0x14, lo := 0, w := 32, ty := .rw, reset := 0, staged := true }

/-- AXn_PRESET_LO.PRESET_LO_PRESET (R63). -/
def AX.PRESET_LO_PRESET (n : Nat) : Fld := { off := 0x42000 + 0x100 * n + 0x18, lo := 0, w := 32, ty := .rw, reset := 0, staged := true, half := .lo }

/-- AXn_PRESET_HI.PRESET_HI_PRESET (R63). -/
def AX.PRESET_HI_PRESET (n : Nat) : Fld := { off := 0x42000 + 0x100 * n + 0x1c, lo := 0, w := 32, ty := .rw, reset := 0, staged := true, half := .hi }

/-- AXn_CTL.CTL_CLR_UNC (R63). -/
def AX.CTL_CLR_UNC (n : Nat) : Fld := { off := 0x42000 + 0x100 * n + 0x20, lo := 2, w := 1, ty := .wo, reset := 0 }
/-- AXn_CTL.CTL_REVERT_ARM (R63). -/
def AX.CTL_REVERT_ARM (n : Nat) : Fld := { off := 0x42000 + 0x100 * n + 0x20, lo := 1, w := 1, ty := .rw, reset := 0, staged := true }
/-- AXn_CTL.CTL_PRESET_ARM (R63). -/
def AX.CTL_PRESET_ARM (n : Nat) : Fld := { off := 0x42000 + 0x100 * n + 0x20, lo := 0, w := 1, ty := .rw, reset := 0, staged := true }

/-- AXn_POS_LO.POS_LO_POS (R63). -/
def AX.POS_LO_POS (n : Nat) : Fld := { off := 0x42000 + 0x100 * n + 0x30, lo := 0, w := 32, ty := .ro, reset := 0, half := .lo }

/-- AXn_POS_HI.POS_HI_POS (R63). -/
def AX.POS_HI_POS (n : Nat) : Fld := { off := 0x42000 + 0x100 * n + 0x34, lo := 0, w := 32, ty := .ro, reset := 0, half := .hi }

/-- AXn_SPEED.SPEED (R63). -/
def AX.SPEED (n : Nat) : Fld := { off := 0x42000 + 0x100 * n + 0x38, lo := 0, w := 32, ty := .ro, reset := 0 }

/-- AXn_STAT.STAT_SOURCE_LOST (R63). -/
def AX.STAT_SOURCE_LOST (n : Nat) : Fld := { off := 0x42000 + 0x100 * n + 0x3c, lo := 11, w := 1, ty := .w1c, reset := 0 }
/-- AXn_STAT.STAT_WRAPPED (R63). -/
def AX.STAT_WRAPPED (n : Nat) : Fld := { off := 0x42000 + 0x100 * n + 0x3c, lo := 10, w := 1, ty := .w1c, reset := 0 }
/-- AXn_STAT.STAT_PRESET (R63). -/
def AX.STAT_PRESET (n : Nat) : Fld := { off := 0x42000 + 0x100 * n + 0x3c, lo := 9, w := 1, ty := .w1c, reset := 0 }
/-- AXn_STAT.STAT_FAILED_OVER (R63). -/
def AX.STAT_FAILED_OVER (n : Nat) : Fld := { off := 0x42000 + 0x100 * n + 0x3c, lo := 8, w := 1, ty := .ro, reset := 0 }
/-- AXn_STAT.STAT_SLIP (R63). -/
def AX.STAT_SLIP (n : Nat) : Fld := { off := 0x42000 + 0x100 * n + 0x3c, lo := 7, w := 1, ty := .ro, reset := 0 }
/-- AXn_STAT.STAT_DEGRADED (R63). -/
def AX.STAT_DEGRADED (n : Nat) : Fld := { off := 0x42000 + 0x100 * n + 0x3c, lo := 6, w := 1, ty := .ro, reset := 0 }
/-- AXn_STAT.STAT_DIR (R63). -/
def AX.STAT_DIR (n : Nat) : Fld := { off := 0x42000 + 0x100 * n + 0x3c, lo := 3, w := 1, ty := .ro, reset := 0 }
/-- AXn_STAT.STAT_MOTION (R63). -/
def AX.STAT_MOTION (n : Nat) : Fld := { off := 0x42000 + 0x100 * n + 0x3c, lo := 0, w := 3, ty := .ro, reset := 5 }

/-- AXn_UNC.UNC (R63). -/
def AX.UNC (n : Nat) : Fld := { off := 0x42000 + 0x100 * n + 0x40, lo := 0, w := 32, ty := .ro, reset := 0 }

/-- AXn_EDGE_TIME.EDGE_TIME_TIME (R63). -/
def AX.EDGE_TIME_TIME (n : Nat) : Fld := { off := 0x42000 + 0x100 * n + 0x44, lo := 0, w := 32, ty := .ro, reset := 0 }

/-- AXn_SNAP_POS_LO.SNAP_POS_LO_POS (R63). -/
def AX.SNAP_POS_LO_POS (n : Nat) : Fld := { off := 0x42000 + 0x100 * n + 0x50, lo := 0, w := 32, ty := .ro, reset := 0, half := .lo }

/-- AXn_SNAP_POS_HI.SNAP_POS_HI_POS (R63). -/
def AX.SNAP_POS_HI_POS (n : Nat) : Fld := { off := 0x42000 + 0x100 * n + 0x54, lo := 0, w := 32, ty := .ro, reset := 0, half := .hi }

/-- AXn_SNAP_SPEED.SNAP_SPEED_SPEED (R63). -/
def AX.SNAP_SPEED_SPEED (n : Nat) : Fld := { off := 0x42000 + 0x100 * n + 0x58, lo := 0, w := 32, ty := .ro, reset := 0 }

/-- AXn_SNAP_STAT.SNAP_STAT_STAT (R63). -/
def AX.SNAP_STAT_STAT (n : Nat) : Fld := { off := 0x42000 + 0x100 * n + 0x5c, lo := 0, w := 32, ty := .ro, reset := 0 }

/-- AXn_SNAP_UNC.SNAP_UNC_UNC (R63). -/
def AX.SNAP_UNC_UNC (n : Nat) : Fld := { off := 0x42000 + 0x100 * n + 0x60, lo := 0, w := 32, ty := .ro, reset := 0 }

/-- AXn_SNAP_TIME.SNAP_TIME_TIME (R63). -/
def AX.SNAP_TIME_TIME (n : Nat) : Fld := { off := 0x42000 + 0x100 * n + 0x64, lo := 0, w := 32, ty := .ro, reset := 0 }

/-- TRG_CFG.CFG_EN (R95). -/
def TRG.CFG_EN : Fld := { off := 0x50000 + 0x0, lo := 0, w := 1, ty := .rw, reset := 0, staged := true }

/-- TRG_EVTEN.EVTEN_EN (R95). -/
def TRG.EVTEN_EN : Fld := { off := 0x50000 + 0x4, lo := 1, w := 15, ty := .rw, reset := 511 }

/-- TRG_STAT.STAT_ARMED (R95). -/
def TRG.STAT_ARMED : Fld := { off := 0x50000 + 0x8, lo := 0, w := 13, ty := .ro, reset := 0 }

/-- TRG_WIN_IDX.WIN_IDX_INDEX (R95). -/
def TRG.WIN_IDX_INDEX : Fld := { off := 0x50000 + 0xc, lo := 0, w := 12, ty := .rw, reset := 0 }

/-- TRG_WIN_CMD.WIN_CMD_OP (R95). -/
def TRG.WIN_CMD_OP : Fld := { off := 0x50000 + 0x10, lo := 0, w := 2, ty := .wo, reset := 0 }

/-- TRG_WIN_STATE.WIN_STATE_DIFF (R95). -/
def TRG.WIN_STATE_DIFF : Fld := { off := 0x50000 + 0x14, lo := 3, w := 1, ty := .ro, reset := 0 }
/-- TRG_WIN_STATE.WIN_STATE_STATE (R95). -/
def TRG.WIN_STATE_STATE : Fld := { off := 0x50000 + 0x14, lo := 0, w := 3, ty := .ro, reset := 0 }

/-- TRG_WIN_D.WIN_D_D (R95). -/
def TRG.WIN_D_D (k : Nat) : Fld := { off := 0x50000 + 0x20 + 4 * k, lo := 0, w := 32, ty := .rw, reset := 0 }

/-- TRG_NFIRE.NFIRE (R95). -/
def TRG.NFIRE : Fld := { off := 0x50000 + 0x40, lo := 0, w := 32, ty := .ro, reset := 0 }

/-- TRG_NMISS.NMISS (R95). -/
def TRG.NMISS : Fld := { off := 0x50000 + 0x44, lo := 0, w := 32, ty := .ro, reset := 0 }

/-- TRG_NCOLL.NCOLL (R95). -/
def TRG.NCOLL : Fld := { off := 0x50000 + 0x48, lo := 0, w := 32, ty := .ro, reset := 0 }

/-- TRG_CTL.CTL_CLR_CNT (R95). -/
def TRG.CTL_CLR_CNT : Fld := { off := 0x50000 + 0x4c, lo := 0, w := 1, ty := .wo, reset := 0 }

/-- TRG_CAMc_LAT.LAT_SENS (R95). -/
def CAM.LAT_SENS (n : Nat) : Fld := { off := 0x50100 + 0x20 * n + 0x0, lo := 0, w := 24, ty := .rw, reset := 0, staged := true }

/-- TRG_CAMc_SET.SET_BLANK (R95). -/
def CAM.SET_BLANK (n : Nat) : Fld := { off := 0x50100 + 0x20 * n + 0x4, lo := 16, w := 16, ty := .rw, reset := 100, staged := true }
/-- TRG_CAMc_SET.SET_WIDTH (R95). -/
def CAM.SET_WIDTH (n : Nat) : Fld := { off := 0x50100 + 0x20 * n + 0x4, lo := 2, w := 1, ty := .rw, reset := 0, staged := true }
/-- TRG_CAMc_SET.SET_SDLY (R95). -/
def CAM.SET_SDLY (n : Nat) : Fld := { off := 0x50100 + 0x20 * n + 0x4, lo := 0, w := 2, ty := .rw, reset := 0, staged := true }

/-- TRG_CAMc_MINTI.MINTI (R95). -/
def CAM.MINTI (n : Nat) : Fld := { off := 0x50100 + 0x20 * n + 0x8, lo := 0, w := 24, ty := .rw, reset := 0, staged := true }

/-- TRG_CAMc_LINK.LINK_LLAT (R95). -/
def CAM.LINK_LLAT (n : Nat) : Fld := { off := 0x50100 + 0x20 * n + 0xc, lo := 0, w := 24, ty := .ro, reset := 0 }

/-- TRG_CAMc_GEN.GEN_SET (R95). -/
def CAM.GEN_SET (n : Nat) : Fld := { off := 0x50100 + 0x20 * n + 0x10, lo := 16, w := 8, ty := .ro, reset := 0 }
/-- TRG_CAMc_GEN.GEN (R95). -/
def CAM.GEN (n : Nat) : Fld := { off := 0x50100 + 0x20 * n + 0x10, lo := 0, w := 16, ty := .ro, reset := 0 }

/-- TRG_TROn_CFG.CFG_POL (R95). -/
def TRO.CFG_POL (n : Nat) : Fld := { off := 0x50400 + 0x10 * n + 0x0, lo := 1, w := 1, ty := .rw, reset := 0, staged := true }
/-- TRG_TROn_CFG.CFG_EN (R95). -/
def TRO.CFG_EN (n : Nat) : Fld := { off := 0x50400 + 0x10 * n + 0x0, lo := 0, w := 1, ty := .rw, reset := 0, staged := true }

/-- TRG_TROn_LAT.LAT (R95). -/
def TRO.LAT (n : Nat) : Fld := { off := 0x50400 + 0x10 * n + 0x4, lo := 0, w := 24, ty := .rw, reset := 0, staged := true }

/-- TRG_TROn_LIM.LIM_MINGAP (R95). -/
def TRO.LIM_MINGAP (n : Nat) : Fld := { off := 0x50400 + 0x10 * n + 0x8, lo := 16, w := 16, ty := .rw, reset := 0, staged := true }
/-- TRG_TROn_LIM.LIM_MAXW (R95). -/
def TRO.LIM_MAXW (n : Nat) : Fld := { off := 0x50400 + 0x10 * n + 0x8, lo := 0, w := 16, ty := .rw, reset := 1000, staged := true }

/-- TRG_TROn_CNT.CNT_SKIP (R95). -/
def TRO.CNT_SKIP (n : Nat) : Fld := { off := 0x50400 + 0x10 * n + 0xc, lo := 16, w := 16, ty := .ro, reset := 0 }
/-- TRG_TROn_CNT.CNT_CLIP (R95). -/
def TRO.CNT_CLIP (n : Nat) : Fld := { off := 0x50400 + 0x10 * n + 0xc, lo := 0, w := 16, ty := .ro, reset := 0 }

/-- TRG_LITE_CFG.LITE_CFG_LOSS (R95). -/
def TRG.LITE_CFG_LOSS : Fld := { off := 0x50000 + 0x500, lo := 16, w := 16, ty := .rw, reset := 500, staged := true }
/-- TRG_LITE_CFG.LITE_CFG_KI (R95). -/
def TRG.LITE_CFG_KI : Fld := { off := 0x50000 + 0x500, lo := 12, w := 4, ty := .rw, reset := 8, staged := true }
/-- TRG_LITE_CFG.LITE_CFG_KP (R95). -/
def TRG.LITE_CFG_KP : Fld := { off := 0x50000 + 0x500, lo := 8, w := 4, ty := .rw, reset := 3, staged := true }
/-- TRG_LITE_CFG.LITE_CFG_SRC (R95). -/
def TRG.LITE_CFG_SRC : Fld := { off := 0x50000 + 0x500, lo := 2, w := 5, ty := .rw, reset := 0, staged := true }
/-- TRG_LITE_CFG.LITE_CFG_EN (R95). -/
def TRG.LITE_CFG_EN : Fld := { off := 0x50000 + 0x500, lo := 0, w := 1, ty := .rw, reset := 0, staged := true }

/-- TRG_LITE_OFS.LITE_OFS_OFS (R95). -/
def TRG.LITE_OFS_OFS : Fld := { off := 0x50000 + 0x504, lo := 0, w := 16, ty := .rw, reset := 0, staged := true }

/-- TRG_LITE_STAT.LITE_STAT_LOST_STKY (R95). -/
def TRG.LITE_STAT_LOST_STKY : Fld := { off := 0x50000 + 0x508, lo := 8, w := 1, ty := .w1c, reset := 0 }
/-- TRG_LITE_STAT.LITE_STAT_STATE (R95). -/
def TRG.LITE_STAT_STATE : Fld := { off := 0x50000 + 0x508, lo := 0, w := 2, ty := .ro, reset := 0 }

/-- TRG_LITE_FREQ.LITE_FREQ_FREQ (R95). -/
def TRG.LITE_FREQ_FREQ : Fld := { off := 0x50000 + 0x50c, lo := 0, w := 32, ty := .ro, reset := 0 }

/-- TRG_LITE_PERR.LITE_PERR_PERR (R95). -/
def TRG.LITE_PERR_PERR : Fld := { off := 0x50000 + 0x510, lo := 0, w := 16, ty := .ro, reset := 0 }

/-- LNK_CFG.CFG_PWR (R140). -/
def LNK.CFG_PWR (n : Nat) : Fld := { off := 0x80000 + 0x1000 * n + 0x0, lo := 12, w := 2, ty := .rw, reset := 0, staged := true }
/-- LNK_CFG.CFG_RATE (R140). -/
def LNK.CFG_RATE (n : Nat) : Fld := { off := 0x80000 + 0x1000 * n + 0x0, lo := 8, w := 2, ty := .rw, reset := 0, staged := true }
/-- LNK_CFG.CFG_ECHO_EN (R140). -/
def LNK.CFG_ECHO_EN (n : Nat) : Fld := { off := 0x80000 + 0x1000 * n + 0x0, lo := 1, w := 1, ty := .rw, reset := 1, staged := true }
/-- LNK_CFG.CFG_EN (R140). -/
def LNK.CFG_EN (n : Nat) : Fld := { off := 0x80000 + 0x1000 * n + 0x0, lo := 0, w := 1, ty := .rw, reset := 0, staged := true }

/-- LNK_STAT.STAT_RATE_ACT (R140). -/
def LNK.STAT_RATE_ACT (n : Nat) : Fld := { off := 0x80000 + 0x1000 * n + 0x4, lo := 14, w := 2, ty := .ro, reset := 0 }
/-- LNK_STAT.STAT_PWR_ACT (R140). -/
def LNK.STAT_PWR_ACT (n : Nat) : Fld := { off := 0x80000 + 0x1000 * n + 0x4, lo := 12, w := 2, ty := .ro, reset := 2 }
/-- LNK_STAT.STAT_LOST_STKY (R140). -/
def LNK.STAT_LOST_STKY (n : Nat) : Fld := { off := 0x80000 + 0x1000 * n + 0x4, lo := 11, w := 1, ty := .w1c, reset := 0 }
/-- LNK_STAT.STAT_LLAT_VALID (R140). -/
def LNK.STAT_LLAT_VALID (n : Nat) : Fld := { off := 0x80000 + 0x1000 * n + 0x4, lo := 10, w := 1, ty := .ro, reset := 0 }
/-- LNK_STAT.STAT_CDR_LOCK (R140). -/
def LNK.STAT_CDR_LOCK (n : Nat) : Fld := { off := 0x80000 + 0x1000 * n + 0x4, lo := 9, w := 1, ty := .ro, reset := 0 }
/-- LNK_STAT.STAT_BC_UP (R140). -/
def LNK.STAT_BC_UP (n : Nat) : Fld := { off := 0x80000 + 0x1000 * n + 0x4, lo := 8, w := 1, ty := .ro, reset := 0 }
/-- LNK_STAT.STAT_STATE (R140). -/
def LNK.STAT_STATE (n : Nat) : Fld := { off := 0x80000 + 0x1000 * n + 0x4, lo := 0, w := 3, ty := .ro, reset := 0 }

/-- LNK_ALIGN.ALIGN_DONE (R140). -/
def LNK.ALIGN_DONE (n : Nat) : Fld := { off := 0x80000 + 0x1000 * n + 0x8, lo := 16, w := 1, ty := .ro, reset := 0 }
/-- LNK_ALIGN.ALIGN_HITS (R140). -/
def LNK.ALIGN_HITS (n : Nat) : Fld := { off := 0x80000 + 0x1000 * n + 0x8, lo := 8, w := 8, ty := .ro, reset := 0 }
/-- LNK_ALIGN.ALIGN_SLIP (R140). -/
def LNK.ALIGN_SLIP (n : Nat) : Fld := { off := 0x80000 + 0x1000 * n + 0x8, lo := 0, w := 5, ty := .ro, reset := 0 }

/-- LNK_CTL.CTL_ECHO_NOW (R140). -/
def LNK.CTL_ECHO_NOW (n : Nat) : Fld := { off := 0x80000 + 0x1000 * n + 0xc, lo := 2, w := 1, ty := .wo, reset := 0 }
/-- LNK_CTL.CTL_CLR_CNT (R140). -/
def LNK.CTL_CLR_CNT (n : Nat) : Fld := { off := 0x80000 + 0x1000 * n + 0xc, lo := 1, w := 1, ty := .wo, reset := 0 }
/-- LNK_CTL.CTL_BITSLIP (R140). -/
def LNK.CTL_BITSLIP (n : Nat) : Fld := { off := 0x80000 + 0x1000 * n + 0xc, lo := 0, w := 1, ty := .wo, reset := 0 }

/-- LNK_LLAT.LLAT (R140). -/
def LNK.LLAT (n : Nat) : Fld := { off := 0x80000 + 0x1000 * n + 0x10, lo := 0, w := 24, ty := .ro, reset := 0 }

/-- LNK_ECHO_CFG.ECHO_CFG_TOL (R140). -/
def LNK.ECHO_CFG_TOL (n : Nat) : Fld := { off := 0x80000 + 0x1000 * n + 0x14, lo := 24, w := 8, ty := .rw, reset := 4, staged := true }
/-- LNK_ECHO_CFG.ECHO_CFG_PERIOD (R140). -/
def LNK.ECHO_CFG_PERIOD (n : Nat) : Fld := { off := 0x80000 + 0x1000 * n + 0x14, lo := 0, w := 16, ty := .rw, reset := 100, staged := true }

/-- LNK_ECHO_RTT.ECHO_RTT_RTT (R140). -/
def LNK.ECHO_RTT_RTT (n : Nat) : Fld := { off := 0x80000 + 0x1000 * n + 0x18, lo := 0, w := 32, ty := .ro, reset := 0 }

/-- LNK_ECHO_TURN.ECHO_TURN_TURN (R140). -/
def LNK.ECHO_TURN_TURN (n : Nat) : Fld := { off := 0x80000 + 0x1000 * n + 0x1c, lo := 0, w := 32, ty := .ro, reset := 0 }

/-- LNK_ECHO_TPATH.ECHO_TPATH_TPATH (R140). -/
def LNK.ECHO_TPATH_TPATH (n : Nat) : Fld := { off := 0x80000 + 0x1000 * n + 0x20, lo := 0, w := 32, ty := .ro, reset := 0 }

/-- LNK_SOF_TIME.SOF_TIME_TIME (R140). -/
def LNK.SOF_TIME_TIME (n : Nat) : Fld := { off := 0x80000 + 0x1000 * n + 0x24, lo := 0, w := 32, ty := .ro, reset := 0 }

/-- LNK_CNT0.CNT0_SYNC_MISS (R140). -/
def LNK.CNT0_SYNC_MISS (n : Nat) : Fld := { off := 0x80000 + 0x1000 * n + 0x28, lo := 16, w := 16, ty := .ro, reset := 0 }
/-- LNK_CNT0.CNT0_CELL_LOST (R140). -/
def LNK.CNT0_CELL_LOST (n : Nat) : Fld := { off := 0x80000 + 0x1000 * n + 0x28, lo := 0, w := 16, ty := .ro, reset := 0 }

/-- LNK_CNT1.CNT1_PAY_CRC (R140). -/
def LNK.CNT1_PAY_CRC (n : Nat) : Fld := { off := 0x80000 + 0x1000 * n + 0x2c, lo := 16, w := 16, ty := .ro, reset := 0 }
/-- LNK_CNT1.CNT1_HDR_CRC (R140). -/
def LNK.CNT1_HDR_CRC (n : Nat) : Fld := { off := 0x80000 + 0x1000 * n + 0x2c, lo := 0, w := 16, ty := .ro, reset := 0 }

/-- LNK_CNT2.CNT2_BC_RETRY (R140). -/
def LNK.CNT2_BC_RETRY (n : Nat) : Fld := { off := 0x80000 + 0x1000 * n + 0x30, lo := 16, w := 16, ty := .ro, reset := 0 }
/-- LNK_CNT2.CNT2_BC_FAIL (R140). -/
def LNK.CNT2_BC_FAIL (n : Nat) : Fld := { off := 0x80000 + 0x1000 * n + 0x30, lo := 0, w := 16, ty := .ro, reset := 0 }

/-- LNK_CNT3.CNT3_UNKNOWN_TYPE (R140). -/
def LNK.CNT3_UNKNOWN_TYPE (n : Nat) : Fld := { off := 0x80000 + 0x1000 * n + 0x34, lo := 16, w := 16, ty := .ro, reset := 0 }
/-- LNK_CNT3.CNT3_SYMBOL_SLIP (R140). -/
def LNK.CNT3_SYMBOL_SLIP (n : Nat) : Fld := { off := 0x80000 + 0x1000 * n + 0x34, lo := 0, w := 16, ty := .ro, reset := 0 }

/-- LNK_GPIO.GPIO_IN (R140). -/
def LNK.GPIO_IN (n : Nat) : Fld := { off := 0x80000 + 0x1000 * n + 0x38, lo := 8, w := 4, ty := .ro, reset := 0 }
/-- LNK_GPIO.GPIO_OUT (R140). -/
def LNK.GPIO_OUT (n : Nat) : Fld := { off := 0x80000 + 0x1000 * n + 0x38, lo := 0, w := 4, ty := .rw, reset := 0, staged := true }

/-- LNK_EQ.EQ_PRESET (R140). -/
def LNK.EQ_PRESET (n : Nat) : Fld := { off := 0x80000 + 0x1000 * n + 0x3c, lo := 0, w := 20, ty := .rw, reset := 209990, staged := true }

/-- LNK_POC_CFG.POC_CFG_LIM (R140). -/
def LNK.POC_CFG_LIM (n : Nat) : Fld := { off := 0x80000 + 0x1000 * n + 0x40, lo := 8, w := 7, ty := .rw, reset := 55, staged := true }
/-- LNK_POC_CFG.POC_CFG_EN (R140). -/
def LNK.POC_CFG_EN (n : Nat) : Fld := { off := 0x80000 + 0x1000 * n + 0x40, lo := 0, w := 1, ty := .rw, reset := 0, staged := true }

/-- LNK_POC_STAT.POC_STAT_BLOCK_STKY (R140). -/
def LNK.POC_STAT_BLOCK_STKY (n : Nat) : Fld := { off := 0x80000 + 0x1000 * n + 0x44, lo := 8, w := 1, ty := .w1c, reset := 0 }
/-- LNK_POC_STAT.POC_STAT_OPEN_STKY (R140). -/
def LNK.POC_STAT_OPEN_STKY (n : Nat) : Fld := { off := 0x80000 + 0x1000 * n + 0x44, lo := 7, w := 1, ty := .w1c, reset := 0 }
/-- LNK_POC_STAT.POC_STAT_BACKFEED (R140). -/
def LNK.POC_STAT_BACKFEED (n : Nat) : Fld := { off := 0x80000 + 0x1000 * n + 0x44, lo := 6, w := 1, ty := .ro, reset := 0 }
/-- LNK_POC_STAT.POC_STAT_OPEN (R140). -/
def LNK.POC_STAT_OPEN (n : Nat) : Fld := { off := 0x80000 + 0x1000 * n + 0x44, lo := 5, w := 1, ty := .ro, reset := 0 }
/-- LNK_POC_STAT.POC_STAT_OVERCUR (R140). -/
def LNK.POC_STAT_OVERCUR (n : Nat) : Fld := { off := 0x80000 + 0x1000 * n + 0x44, lo := 4, w := 1, ty := .w1c, reset := 0 }
/-- LNK_POC_STAT.POC_STAT_SHORT (R140). -/
def LNK.POC_STAT_SHORT (n : Nat) : Fld := { off := 0x80000 + 0x1000 * n + 0x44, lo := 3, w := 1, ty := .w1c, reset := 0 }
/-- LNK_POC_STAT.POC_STAT_STATE (R140). -/
def LNK.POC_STAT_STATE (n : Nat) : Fld := { off := 0x80000 + 0x1000 * n + 0x44, lo := 0, w := 3, ty := .ro, reset := 0 }

/-- LNK_POC_MEAS.POC_MEAS_VOUT (R140). -/
def LNK.POC_MEAS_VOUT (n : Nat) : Fld := { off := 0x80000 + 0x1000 * n + 0x48, lo := 16, w := 16, ty := .ro, reset := 0 }
/-- LNK_POC_MEAS.POC_MEAS_IOUT (R140). -/
def LNK.POC_MEAS_IOUT (n : Nat) : Fld := { off := 0x80000 + 0x1000 * n + 0x48, lo := 0, w := 16, ty := .ro, reset := 0 }

/-- LNK_LOOP_CFG.LOOP_CFG_PAT (R140). -/
def LNK.LOOP_CFG_PAT (n : Nat) : Fld := { off := 0x80000 + 0x1000 * n + 0x4c, lo := 4, w := 2, ty := .rw, reset := 0, staged := true }
/-- LNK_LOOP_CFG.LOOP_CFG_MODE (R140). -/
def LNK.LOOP_CFG_MODE (n : Nat) : Fld := { off := 0x80000 + 0x1000 * n + 0x4c, lo := 0, w := 2, ty := .rw, reset := 0, staged := true }

/-- LNK_LOOP_STAT.LOOP_STAT_REFUSED (R140). -/
def LNK.LOOP_STAT_REFUSED (n : Nat) : Fld := { off := 0x80000 + 0x1000 * n + 0x50, lo := 1, w := 1, ty := .ro, reset := 0 }
/-- LNK_LOOP_STAT.LOOP_STAT_LOCK (R140). -/
def LNK.LOOP_STAT_LOCK (n : Nat) : Fld := { off := 0x80000 + 0x1000 * n + 0x50, lo := 0, w := 1, ty := .ro, reset := 0 }

/-- LNK_LOOP_BITS_LO.LOOP_BITS_LO_BITS (R140). -/
def LNK.LOOP_BITS_LO_BITS (n : Nat) : Fld := { off := 0x80000 + 0x1000 * n + 0x54, lo := 0, w := 32, ty := .ro, reset := 0, half := .lo }

/-- LNK_LOOP_BITS_HI.LOOP_BITS_HI_BITS (R140). -/
def LNK.LOOP_BITS_HI_BITS (n : Nat) : Fld := { off := 0x80000 + 0x1000 * n + 0x58, lo := 0, w := 32, ty := .ro, reset := 0, half := .hi }

/-- LNK_LOOP_ERR.LOOP_ERR_ERR (R140). -/
def LNK.LOOP_ERR_ERR (n : Nat) : Fld := { off := 0x80000 + 0x1000 * n + 0x5c, lo := 0, w := 32, ty := .ro, reset := 0 }

/-- LNK_SER0.SER0_TEMP (R140). -/
def LNK.SER0_TEMP (n : Nat) : Fld := { off := 0x80000 + 0x1000 * n + 0x60, lo := 24, w := 8, ty := .ro, reset := 0 }
/-- LNK_SER0.SER0_TRIG_BAD (R140). -/
def LNK.SER0_TRIG_BAD (n : Nat) : Fld := { off := 0x80000 + 0x1000 * n + 0x60, lo := 16, w := 8, ty := .ro, reset := 0 }
/-- LNK_SER0.SER0_SUPPLY (R140). -/
def LNK.SER0_SUPPLY (n : Nat) : Fld := { off := 0x80000 + 0x1000 * n + 0x60, lo := 0, w := 16, ty := .ro, reset := 0 }

/-- LNK_SER1.SER1_FWD_OVF (R140). -/
def LNK.SER1_FWD_OVF (n : Nat) : Fld := { off := 0x80000 + 0x1000 * n + 0x64, lo := 24, w := 8, ty := .ro, reset := 0 }
/-- LNK_SER1.SER1_BC_RELOCK (R140). -/
def LNK.SER1_BC_RELOCK (n : Nat) : Fld := { off := 0x80000 + 0x1000 * n + 0x64, lo := 16, w := 8, ty := .ro, reset := 0 }
/-- LNK_SER1.SER1_BC_ERR (R140). -/
def LNK.SER1_BC_ERR (n : Nat) : Fld := { off := 0x80000 + 0x1000 * n + 0x64, lo := 0, w := 16, ty := .ro, reset := 0 }

/-- LNK_SER_ID.SER_ID_DEVICE (R140). -/
def LNK.SER_ID_DEVICE (n : Nat) : Fld := { off := 0x80000 + 0x1000 * n + 0x68, lo := 16, w := 16, ty := .ro, reset := 0 }
/-- LNK_SER_ID.SER_ID_PROTO (R140). -/
def LNK.SER_ID_PROTO (n : Nat) : Fld := { off := 0x80000 + 0x1000 * n + 0x68, lo := 8, w := 8, ty := .ro, reset := 0 }
/-- LNK_SER_ID.SER_ID_STEP (R140). -/
def LNK.SER_ID_STEP (n : Nat) : Fld := { off := 0x80000 + 0x1000 * n + 0x68, lo := 0, w := 8, ty := .ro, reset := 0 }

/-- LNK_INJ.INJ_POC_OPEN (R140). -/
def LNK.INJ_POC_OPEN (n : Nat) : Fld := { off := 0x80000 + 0x1000 * n + 0x6c, lo := 4, w := 1, ty := .wo, reset := 0 }
/-- LNK_INJ.INJ_POC_SHORT (R140). -/
def LNK.INJ_POC_SHORT (n : Nat) : Fld := { off := 0x80000 + 0x1000 * n + 0x6c, lo := 3, w := 1, ty := .wo, reset := 0 }
/-- LNK_INJ.INJ_SYNC (R140). -/
def LNK.INJ_SYNC (n : Nat) : Fld := { off := 0x80000 + 0x1000 * n + 0x6c, lo := 2, w := 1, ty := .wo, reset := 0 }
/-- LNK_INJ.INJ_PCRC (R140). -/
def LNK.INJ_PCRC (n : Nat) : Fld := { off := 0x80000 + 0x1000 * n + 0x6c, lo := 1, w := 1, ty := .wo, reset := 0 }
/-- LNK_INJ.INJ_HCRC (R140). -/
def LNK.INJ_HCRC (n : Nat) : Fld := { off := 0x80000 + 0x1000 * n + 0x6c, lo := 0, w := 1, ty := .wo, reset := 0 }

/-- LNK_EVTEN.EVTEN_EN (R140). -/
def LNKG.EVTEN_EN : Fld := { off := 0x80000 + 0x18000, lo := 1, w := 20, ty := .rw, reset := 1048575 }

/-- LNK_POC_TOTAL.POC_TOTAL_TOTAL (R140). -/
def LNKG.POC_TOTAL_TOTAL : Fld := { off := 0x80000 + 0x18004, lo := 0, w := 32, ty := .ro, reset := 0 }

/-- ING_PSTAT.PSTAT_LAST (R171). -/
def ING.PSTAT_LAST (n : Nat) : Fld := { off := 0xA0000 + 0x1000 * n + 0x0, lo := 16, w := 1, ty := .ro, reset := 0 }
/-- ING_PSTAT.PSTAT_BUSY (R171). -/
def ING.PSTAT_BUSY (n : Nat) : Fld := { off := 0xA0000 + 0x1000 * n + 0x0, lo := 0, w := 10, ty := .ro, reset := 0 }

/-- ING_PCTL.PCTL_CLR_CNT (R171). -/
def ING.PCTL_CLR_CNT (n : Nat) : Fld := { off := 0xA0000 + 0x1000 * n + 0x4, lo := 0, w := 1, ty := .wo, reset := 0 }

/-- ING_CTXs_SRC.SRC_FMT (R171). -/
def CTX.SRC_FMT (n : Nat) : Fld := { off := 0xA0100 + 0x1000 * (n / 2) + 0x200 * (n % 2) + 0x0, lo := 24, w := 8, ty := .rw, reset := 12, staged := true }
/-- ING_CTXs_SRC.SRC_VC (R171). -/
def CTX.SRC_VC (n : Nat) : Fld := { off := 0xA0100 + 0x1000 * (n / 2) + 0x200 * (n % 2) + 0x0, lo := 16, w := 2, ty := .rw, reset := 0, staged := true }
/-- ING_CTXs_SRC.SRC_LINK (R171). -/
def CTX.SRC_LINK (n : Nat) : Fld := { off := 0xA0100 + 0x1000 * (n / 2) + 0x200 * (n % 2) + 0x0, lo := 8, w := 5, ty := .rw, reset := 0, staged := true }
/-- ING_CTXs_SRC.SRC_BAYER (R171). -/
def CTX.SRC_BAYER (n : Nat) : Fld := { off := 0xA0100 + 0x1000 * (n / 2) + 0x200 * (n % 2) + 0x0, lo := 2, w := 1, ty := .rw, reset := 1, staged := true }
/-- ING_CTXs_SRC.SRC_BADFILL (R171). -/
def CTX.SRC_BADFILL (n : Nat) : Fld := { off := 0xA0100 + 0x1000 * (n / 2) + 0x200 * (n % 2) + 0x0, lo := 1, w := 1, ty := .rw, reset := 0, staged := true }
/-- ING_CTXs_SRC.SRC_EN (R171). -/
def CTX.SRC_EN (n : Nat) : Fld := { off := 0xA0100 + 0x1000 * (n / 2) + 0x200 * (n % 2) + 0x0, lo := 0, w := 1, ty := .rw, reset := 0, staged := true }

/-- ING_CTXs_GEOM.GEOM_HEIGHT (R171). -/
def CTX.GEOM_HEIGHT (n : Nat) : Fld := { off := 0xA0100 + 0x1000 * (n / 2) + 0x200 * (n % 2) + 0x4, lo := 16, w := 16, ty := .rw, reset := 1080, staged := true }
/-- ING_CTXs_GEOM.GEOM_WIDTH (R171). -/
def CTX.GEOM_WIDTH (n : Nat) : Fld := { off := 0xA0100 + 0x1000 * (n / 2) + 0x200 * (n % 2) + 0x4, lo := 0, w := 16, ty := .rw, reset := 1920, staged := true }

/-- ING_CTXs_LRATE.LRATE (R171). -/
def CTX.LRATE (n : Nat) : Fld := { off := 0xA0100 + 0x1000 * (n / 2) + 0x200 * (n % 2) + 0x8, lo := 0, w := 24, ty := .rw, reset := 100000, staged := true }

/-- ING_CTXs_FILL.FILL_TMO (R171). -/
def CTX.FILL_TMO (n : Nat) : Fld := { off := 0xA0100 + 0x1000 * (n / 2) + 0x200 * (n % 2) + 0xc, lo := 16, w := 16, ty := .rw, reset := 100, staged := true }
/-- ING_CTXs_FILL.FILL (R171). -/
def CTX.FILL (n : Nat) : Fld := { off := 0xA0100 + 0x1000 * (n / 2) + 0x200 * (n % 2) + 0xc, lo := 0, w := 16, ty := .rw, reset := 0, staged := true }

/-- ING_CTXs_BYP.BYP (R171). -/
def CTX.BYP (n : Nat) : Fld := { off := 0xA0100 + 0x1000 * (n / 2) + 0x200 * (n % 2) + 0x10, lo := 0, w := 4, ty := .rw, reset := 0, staged := true }

/-- ING_CTXs_BLACK0.BLACK0_BL1 (R171). -/
def CTX.BLACK0_BL1 (n : Nat) : Fld := { off := 0xA0100 + 0x1000 * (n / 2) + 0x200 * (n % 2) + 0x14, lo := 16, w := 16, ty := .rw, reset := 0, staged := true }
/-- ING_CTXs_BLACK0.BLACK0_BL0 (R171). -/
def CTX.BLACK0_BL0 (n : Nat) : Fld := { off := 0xA0100 + 0x1000 * (n / 2) + 0x200 * (n % 2) + 0x14, lo := 0, w := 16, ty := .rw, reset := 0, staged := true }

/-- ING_CTXs_BLACK1.BLACK1_BL3 (R171). -/
def CTX.BLACK1_BL3 (n : Nat) : Fld := { off := 0xA0100 + 0x1000 * (n / 2) + 0x200 * (n % 2) + 0x18, lo := 16, w := 16, ty := .rw, reset := 0, staged := true }
/-- ING_CTXs_BLACK1.BLACK1_BL2 (R171). -/
def CTX.BLACK1_BL2 (n : Nat) : Fld := { off := 0xA0100 + 0x1000 * (n / 2) + 0x200 * (n % 2) + 0x18, lo := 0, w := 16, ty := .rw, reset := 0, staged := true }

/-- ING_CTXs_DPC.DPC_DTHR (R171). -/
def CTX.DPC_DTHR (n : Nat) : Fld := { off := 0xA0100 + 0x1000 * (n / 2) + 0x200 * (n % 2) + 0x1c, lo := 16, w := 16, ty := .rw, reset := 4096, staged := true }
/-- ING_CTXs_DPC.DPC_DYN (R171). -/
def CTX.DPC_DYN (n : Nat) : Fld := { off := 0xA0100 + 0x1000 * (n / 2) + 0x200 * (n % 2) + 0x1c, lo := 1, w := 1, ty := .rw, reset := 0, staged := true }
/-- ING_CTXs_DPC.DPC_STATIC (R171). -/
def CTX.DPC_STATIC (n : Nat) : Fld := { off := 0xA0100 + 0x1000 * (n / 2) + 0x200 * (n % 2) + 0x1c, lo := 0, w := 1, ty := .rw, reset := 0, staged := true }

/-- ING_CTXs_DPC_MAP.DPC_MAP_COUNT (R171). -/
def CTX.DPC_MAP_COUNT (n : Nat) : Fld := { off := 0xA0100 + 0x1000 * (n / 2) + 0x200 * (n % 2) + 0x20, lo := 0, w := 17, ty := .rw, reset := 0, staged := true }

/-- ING_CTXs_DPC_ADDR_LO.DPC_ADDR_LO_ADDR (R171). -/
def CTX.DPC_ADDR_LO_ADDR (n : Nat) : Fld := { off := 0xA0100 + 0x1000 * (n / 2) + 0x200 * (n % 2) + 0x24, lo := 0, w := 32, ty := .rw, reset := 0, staged := true, half := .lo, al6 := true }

/-- ING_CTXs_DPC_ADDR_HI.DPC_ADDR_HI_ADDR (R171). -/
def CTX.DPC_ADDR_HI_ADDR (n : Nat) : Fld := { off := 0xA0100 + 0x1000 * (n / 2) + 0x200 * (n % 2) + 0x28, lo := 0, w := 32, ty := .rw, reset := 0, staged := true, half := .hi }

/-- ING_CTXs_SHD.SHD_GH (R171). -/
def CTX.SHD_GH (n : Nat) : Fld := { off := 0xA0100 + 0x1000 * (n / 2) + 0x200 * (n % 2) + 0x2c, lo := 16, w := 6, ty := .rw, reset := 2, staged := true }
/-- ING_CTXs_SHD.SHD_GW (R171). -/
def CTX.SHD_GW (n : Nat) : Fld := { off := 0xA0100 + 0x1000 * (n / 2) + 0x200 * (n % 2) + 0x2c, lo := 8, w := 7, ty := .rw, reset := 2, staged := true }
/-- ING_CTXs_SHD.SHD_SY (R171). -/
def CTX.SHD_SY (n : Nat) : Fld := { off := 0xA0100 + 0x1000 * (n / 2) + 0x200 * (n % 2) + 0x2c, lo := 4, w := 4, ty := .rw, reset := 10, staged := true }
/-- ING_CTXs_SHD.SHD_SX (R171). -/
def CTX.SHD_SX (n : Nat) : Fld := { off := 0xA0100 + 0x1000 * (n / 2) + 0x200 * (n % 2) + 0x2c, lo := 0, w := 4, ty := .rw, reset := 10, staged := true }

/-- ING_CTXs_SHD_ADDR_LO.SHD_ADDR_LO_ADDR (R171). -/
def CTX.SHD_ADDR_LO_ADDR (n : Nat) : Fld := { off := 0xA0100 + 0x1000 * (n / 2) + 0x200 * (n % 2) + 0x30, lo := 0, w := 32, ty := .rw, reset := 0, staged := true, half := .lo, al6 := true }

/-- ING_CTXs_SHD_ADDR_HI.SHD_ADDR_HI_ADDR (R171). -/
def CTX.SHD_ADDR_HI_ADDR (n : Nat) : Fld := { off := 0xA0100 + 0x1000 * (n / 2) + 0x200 * (n % 2) + 0x34, lo := 0, w := 32, ty := .rw, reset := 0, staged := true, half := .hi }

/-- ING_CTXs_STATWIN_XY.STATWIN_XY_Y (R171). -/
def CTX.STATWIN_XY_Y (n : Nat) : Fld := { off := 0xA0100 + 0x1000 * (n / 2) + 0x200 * (n % 2) + 0x38, lo := 16, w := 16, ty := .rw, reset := 0, staged := true }
/-- ING_CTXs_STATWIN_XY.STATWIN_XY_X (R171). -/
def CTX.STATWIN_XY_X (n : Nat) : Fld := { off := 0xA0100 + 0x1000 * (n / 2) + 0x200 * (n % 2) + 0x38, lo := 0, w := 16, ty := .rw, reset := 0, staged := true }

/-- ING_CTXs_STATWIN_WH.STATWIN_WH_H (R171). -/
def CTX.STATWIN_WH_H (n : Nat) : Fld := { off := 0xA0100 + 0x1000 * (n / 2) + 0x200 * (n % 2) + 0x3c, lo := 16, w := 16, ty := .rw, reset := 65535, staged := true }
/-- ING_CTXs_STATWIN_WH.STATWIN_WH_W (R171). -/
def CTX.STATWIN_WH_W (n : Nat) : Fld := { off := 0xA0100 + 0x1000 * (n / 2) + 0x200 * (n % 2) + 0x3c, lo := 0, w := 16, ty := .rw, reset := 65535, staged := true }

/-- ING_CTXs_FOCWIN_XY.FOCWIN_XY_Y (R171). -/
def CTX.FOCWIN_XY_Y (n : Nat) : Fld := { off := 0xA0100 + 0x1000 * (n / 2) + 0x200 * (n % 2) + 0x40, lo := 16, w := 16, ty := .rw, reset := 0, staged := true }
/-- ING_CTXs_FOCWIN_XY.FOCWIN_XY_X (R171). -/
def CTX.FOCWIN_XY_X (n : Nat) : Fld := { off := 0xA0100 + 0x1000 * (n / 2) + 0x200 * (n % 2) + 0x40, lo := 0, w := 16, ty := .rw, reset := 0, staged := true }

/-- ING_CTXs_FOCWIN_WH.FOCWIN_WH_H (R171). -/
def CTX.FOCWIN_WH_H (n : Nat) : Fld := { off := 0xA0100 + 0x1000 * (n / 2) + 0x200 * (n % 2) + 0x44, lo := 16, w := 16, ty := .rw, reset := 65535, staged := true }
/-- ING_CTXs_FOCWIN_WH.FOCWIN_WH_W (R171). -/
def CTX.FOCWIN_WH_W (n : Nat) : Fld := { off := 0xA0100 + 0x1000 * (n / 2) + 0x200 * (n % 2) + 0x44, lo := 0, w := 16, ty := .rw, reset := 65535, staged := true }

/-- ING_CTXs_STATCFG.STATCFG_FLK_WIN (R171). -/
def CTX.STATCFG_FLK_WIN (n : Nat) : Fld := { off := 0xA0100 + 0x1000 * (n / 2) + 0x200 * (n % 2) + 0x48, lo := 16, w := 16, ty := .rw, reset := 100, staged := true }
/-- ING_CTXs_STATCFG.STATCFG_FLK_EN (R171). -/
def CTX.STATCFG_FLK_EN (n : Nat) : Fld := { off := 0xA0100 + 0x1000 * (n / 2) + 0x200 * (n % 2) + 0x48, lo := 8, w := 1, ty := .rw, reset := 0, staged := true }
/-- ING_CTXs_STATCFG.STATCFG_HCH (R171). -/
def CTX.STATCFG_HCH (n : Nat) : Fld := { off := 0xA0100 + 0x1000 * (n / 2) + 0x200 * (n % 2) + 0x48, lo := 0, w := 3, ty := .rw, reset := 4, staged := true }

/-- ING_CTXs_FLK_TOFS.FLK_TOFS_TOFS (R171). -/
def CTX.FLK_TOFS_TOFS (n : Nat) : Fld := { off := 0xA0100 + 0x1000 * (n / 2) + 0x200 * (n % 2) + 0x4c, lo := 0, w := 24, ty := .rw, reset := 0, staged := true }

/-- ING_CTXs_FLK_THR.FLK_THR_THR (R171). -/
def CTX.FLK_THR_THR (n : Nat) : Fld := { off := 0xA0100 + 0x1000 * (n / 2) + 0x200 * (n % 2) + 0x50, lo := 0, w := 8, ty := .rw, reset := 16, staged := true }

/-- ING_CTXs_STAT_ADDR_LO.STAT_ADDR_LO_ADDR (R171). -/
def CTX.STAT_ADDR_LO_ADDR (n : Nat) : Fld := { off := 0xA0100 + 0x1000 * (n / 2) + 0x200 * (n % 2) + 0x54, lo := 0, w := 32, ty := .rw, reset := 0, staged := true, half := .lo, al6 := true }

/-- ING_CTXs_STAT_ADDR_HI.STAT_ADDR_HI_ADDR (R171). -/
def CTX.STAT_ADDR_HI_ADDR (n : Nat) : Fld := { off := 0xA0100 + 0x1000 * (n / 2) + 0x200 * (n % 2) + 0x58, lo := 0, w := 32, ty := .rw, reset := 0, staged := true, half := .hi }

/-- ING_CTXs_RGNr_XY.RGN_XY_Y (R171). -/
def CTX.RGN_XY_Y (n k : Nat) : Fld := { off := 0xA0100 + 0x1000 * (n / 2) + 0x200 * (n % 2) + 0x60 + 16 * k, lo := 16, w := 16, ty := .rw, reset := 0, staged := true }
/-- ING_CTXs_RGNr_XY.RGN_XY_X (R171). -/
def CTX.RGN_XY_X (n k : Nat) : Fld := { off := 0xA0100 + 0x1000 * (n / 2) + 0x200 * (n % 2) + 0x60 + 16 * k, lo := 0, w := 16, ty := .rw, reset := 0, staged := true }

/-- ING_CTXs_RGNr_WH.RGN_WH_H (R171). -/
def CTX.RGN_WH_H (n k : Nat) : Fld := { off := 0xA0100 + 0x1000 * (n / 2) + 0x200 * (n % 2) + 0x64 + 16 * k, lo := 16, w := 16, ty := .rw, reset := 1080, staged := true }
/-- ING_CTXs_RGNr_WH.RGN_WH_W (R171). -/
def CTX.RGN_WH_W (n k : Nat) : Fld := { off := 0xA0100 + 0x1000 * (n / 2) + 0x200 * (n % 2) + 0x64 + 16 * k, lo := 0, w := 16, ty := .rw, reset := 1920, staged := true }

/-- ING_CTXs_RGNr_CFG.RGN_CFG_FLUE (R171). -/
def CTX.RGN_CFG_FLUE (n k : Nat) : Fld := { off := 0xA0100 + 0x1000 * (n / 2) + 0x200 * (n % 2) + 0x68 + 16 * k, lo := 24, w := 8, ty := .rw, reset := 0, staged := true }
/-- ING_CTXs_RGNr_CFG.RGN_CFG_CHK (R171). -/
def CTX.RGN_CFG_CHK (n k : Nat) : Fld := { off := 0xA0100 + 0x1000 * (n / 2) + 0x200 * (n % 2) + 0x68 + 16 * k, lo := 8, w := 5, ty := .rw, reset := 0, staged := true }
/-- ING_CTXs_RGNr_CFG.RGN_CFG_CHK_EN (R171). -/
def CTX.RGN_CFG_CHK_EN (n k : Nat) : Fld := { off := 0xA0100 + 0x1000 * (n / 2) + 0x200 * (n % 2) + 0x68 + 16 * k, lo := 7, w := 1, ty := .rw, reset := 0, staged := true }
/-- ING_CTXs_RGNr_CFG.RGN_CFG_OUT8 (R171). -/
def CTX.RGN_CFG_OUT8 (n k : Nat) : Fld := { off := 0xA0100 + 0x1000 * (n / 2) + 0x200 * (n % 2) + 0x68 + 16 * k, lo := 3, w := 1, ty := .rw, reset := 0, staged := true }
/-- ING_CTXs_RGNr_CFG.RGN_CFG_BIN (R171). -/
def CTX.RGN_CFG_BIN (n k : Nat) : Fld := { off := 0xA0100 + 0x1000 * (n / 2) + 0x200 * (n % 2) + 0x68 + 16 * k, lo := 1, w := 2, ty := .rw, reset := 0, staged := true }
/-- ING_CTXs_RGNr_CFG.RGN_CFG_EN (R171). -/
def CTX.RGN_CFG_EN (n k : Nat) : Fld := { off := 0xA0100 + 0x1000 * (n / 2) + 0x200 * (n % 2) + 0x68 + 16 * k, lo := 0, w := 1, ty := .rw, reset := if k = 0 then 1 else 0, staged := true }

/-- ING_CTXs_STAT.STAT_FLK_VALID (R171). -/
def CTX.STAT_FLK_VALID (n : Nat) : Fld := { off := 0xA0100 + 0x1000 * (n / 2) + 0x200 * (n % 2) + 0xa0, lo := 3, w := 1, ty := .ro, reset := 0 }
/-- ING_CTXs_STAT.STAT_OPEN (R171). -/
def CTX.STAT_OPEN (n : Nat) : Fld := { off := 0xA0100 + 0x1000 * (n / 2) + 0x200 * (n % 2) + 0xa0, lo := 2, w := 1, ty := .ro, reset := 0 }
/-- ING_CTXs_STAT.STAT_ACTIVE (R171). -/
def CTX.STAT_ACTIVE (n : Nat) : Fld := { off := 0xA0100 + 0x1000 * (n / 2) + 0x200 * (n % 2) + 0xa0, lo := 1, w := 1, ty := .ro, reset := 0 }

/-- ING_CTXs_FNUM.FNUM (R171). -/
def CTX.FNUM (n : Nat) : Fld := { off := 0xA0100 + 0x1000 * (n / 2) + 0x200 * (n % 2) + 0xa4, lo := 0, w := 32, ty := .ro, reset := 0 }

/-- ING_CTXs_CNT0.CNT0_TRUNC (R171). -/
def CTX.CNT0_TRUNC (n : Nat) : Fld := { off := 0xA0100 + 0x1000 * (n / 2) + 0x200 * (n % 2) + 0xa8, lo := 16, w := 16, ty := .ro, reset := 0 }
/-- ING_CTXs_CNT0.CNT0_OVERLONG (R171). -/
def CTX.CNT0_OVERLONG (n : Nat) : Fld := { off := 0xA0100 + 0x1000 * (n / 2) + 0x200 * (n % 2) + 0xa8, lo := 0, w := 16, ty := .ro, reset := 0 }

/-- ING_CTXs_CNT1.CNT1_LOST_LINES (R171). -/
def CTX.CNT1_LOST_LINES (n : Nat) : Fld := { off := 0xA0100 + 0x1000 * (n / 2) + 0x200 * (n % 2) + 0xac, lo := 16, w := 16, ty := .ro, reset := 0 }
/-- ING_CTXs_CNT1.CNT1_DAMAGED (R171). -/
def CTX.CNT1_DAMAGED (n : Nat) : Fld := { off := 0xA0100 + 0x1000 * (n / 2) + 0x200 * (n % 2) + 0xac, lo := 0, w := 16, ty := .ro, reset := 0 }

/-- ING_CTXs_CNT2.CNT2_ORPHAN (R171). -/
def CTX.CNT2_ORPHAN (n : Nat) : Fld := { off := 0xA0100 + 0x1000 * (n / 2) + 0x200 * (n % 2) + 0xb0, lo := 16, w := 16, ty := .ro, reset := 0 }
/-- ING_CTXs_CNT2.CNT2_LINE_WIDTH (R171). -/
def CTX.CNT2_LINE_WIDTH (n : Nat) : Fld := { off := 0xA0100 + 0x1000 * (n / 2) + 0x200 * (n % 2) + 0xb0, lo := 0, w := 16, ty := .ro, reset := 0 }

/-- ING_CTXs_CNT3.CNT3_LINEBUF_OVF (R171). -/
def CTX.CNT3_LINEBUF_OVF (n : Nat) : Fld := { off := 0xA0100 + 0x1000 * (n / 2) + 0x200 * (n % 2) + 0xb4, lo := 16, w := 16, ty := .ro, reset := 0 }
/-- ING_CTXs_CNT3.CNT3_FLUE_FULL (R171). -/
def CTX.CNT3_FLUE_FULL (n : Nat) : Fld := { off := 0xA0100 + 0x1000 * (n / 2) + 0x200 * (n % 2) + 0xb4, lo := 0, w := 16, ty := .ro, reset := 0 }

/-- ING_CTXs_CNT4.CNT4_MAP_ORDER (R171). -/
def CTX.CNT4_MAP_ORDER (n : Nat) : Fld := { off := 0xA0100 + 0x1000 * (n / 2) + 0x200 * (n % 2) + 0xb8, lo := 16, w := 16, ty := .ro, reset := 0 }
/-- ING_CTXs_CNT4.CNT4_GEOM_DECL (R171). -/
def CTX.CNT4_GEOM_DECL (n : Nat) : Fld := { off := 0xA0100 + 0x1000 * (n / 2) + 0x200 * (n % 2) + 0xb8, lo := 8, w := 8, ty := .ro, reset := 0 }
/-- ING_CTXs_CNT4.CNT4_FNUM_MISMATCH (R171). -/
def CTX.CNT4_FNUM_MISMATCH (n : Nat) : Fld := { off := 0xA0100 + 0x1000 * (n / 2) + 0x200 * (n % 2) + 0xb8, lo := 0, w := 8, ty := .ro, reset := 0 }

/-- ING_CTXs_FLK_FREQ.FLK_FREQ_FREQ (R171). -/
def CTX.FLK_FREQ_FREQ (n : Nat) : Fld := { off := 0xA0100 + 0x1000 * (n / 2) + 0x200 * (n % 2) + 0xbc, lo := 0, w := 32, ty := .ro, reset := 0 }

/-- ING_CTXs_FLK_BRIGHT_LO.FLK_BRIGHT_LO_TIME (R171). -/
def CTX.FLK_BRIGHT_LO_TIME (n : Nat) : Fld := { off := 0xA0100 + 0x1000 * (n / 2) + 0x200 * (n % 2) + 0xc0, lo := 0, w := 32, ty := .ro, reset := 0, half := .lo }

/-- ING_CTXs_FLK_BRIGHT_HI.FLK_BRIGHT_HI_TIME (R171). -/
def CTX.FLK_BRIGHT_HI_TIME (n : Nat) : Fld := { off := 0xA0100 + 0x1000 * (n / 2) + 0x200 * (n % 2) + 0xc4, lo := 0, w := 32, ty := .ro, reset := 0, half := .hi }

/-- ING_CTXs_FLK_DEPTH.FLK_DEPTH_DEPTH (R171). -/
def CTX.FLK_DEPTH_DEPTH (n : Nat) : Fld := { off := 0xA0100 + 0x1000 * (n / 2) + 0x200 * (n % 2) + 0xc8, lo := 0, w := 16, ty := .ro, reset := 0 }

/-- ING_CTXs_INJ.INJ_FLK_BAD (R171). -/
def CTX.INJ_FLK_BAD (n : Nat) : Fld := { off := 0xA0100 + 0x1000 * (n / 2) + 0x200 * (n % 2) + 0xcc, lo := 2, w := 1, ty := .wo, reset := 0 }
/-- ING_CTXs_INJ.INJ_MAPERR (R171). -/
def CTX.INJ_MAPERR (n : Nat) : Fld := { off := 0xA0100 + 0x1000 * (n / 2) + 0x200 * (n % 2) + 0xcc, lo := 1, w := 1, ty := .wo, reset := 0 }
/-- ING_CTXs_INJ.INJ_LINEDROP (R171). -/
def CTX.INJ_LINEDROP (n : Nat) : Fld := { off := 0xA0100 + 0x1000 * (n / 2) + 0x200 * (n % 2) + 0xcc, lo := 0, w := 1, ty := .wo, reset := 0 }

/-- ING_EVTEN.EVTEN_EN (R171). -/
def INGG.EVTEN_EN : Fld := { off := 0xA0000 + 0x10000, lo := 1, w := 15, ty := .rw, reset := 12287 }

/-- ENG_STAT.STAT_SERVING (R207). -/
def ENG.STAT_SERVING (n : Nat) : Fld := { off := engBase n + 0x0, lo := 23, w := 1, ty := .ro, reset := 0 }
/-- ENG_STAT.STAT_SERVES (R207). -/
def ENG.STAT_SERVES (n : Nat) : Fld := { off := engBase n + 0x0, lo := 16, w := 7, ty := .ro, reset := 0 }
/-- ENG_STAT.STAT_STATE (R207). -/
def ENG.STAT_STATE (n : Nat) : Fld := { off := engBase n + 0x0, lo := 0, w := 3, ty := .ro, reset := 0 }

/-- ENG_PC.PC (R207). -/
def ENG.PC (n : Nat) : Fld := { off := engBase n + 0x4, lo := 0, w := 32, ty := .ro, reset := 0 }

/-- ENG_EXC.EXC_IMPRECISE (R207). -/
def ENG.EXC_IMPRECISE (n : Nat) : Fld := { off := engBase n + 0x8, lo := 15, w := 1, ty := .ro, reset := 0 }
/-- ENG_EXC.EXC_SECOND (R207). -/
def ENG.EXC_SECOND (n : Nat) : Fld := { off := engBase n + 0x8, lo := 14, w := 1, ty := .ro, reset := 0 }
/-- ENG_EXC.EXC_CAUSE (R207). -/
def ENG.EXC_CAUSE (n : Nat) : Fld := { off := engBase n + 0x8, lo := 0, w := 8, ty := .ro, reset := 0 }

/-- ENG_EXC_PC.EXC_PC_PC (R207). -/
def ENG.EXC_PC_PC (n : Nat) : Fld := { off := engBase n + 0xc, lo := 0, w := 32, ty := .ro, reset := 0 }

/-- ENG_EXC_ADDR.EXC_ADDR_ADDR (R207). -/
def ENG.EXC_ADDR_ADDR (n : Nat) : Fld := { off := engBase n + 0x10, lo := 0, w := 32, ty := .ro, reset := 0 }

/-- ENG_EXC_INSN.EXC_INSN_INSN (R207). -/
def ENG.EXC_INSN_INSN (n : Nat) : Fld := { off := engBase n + 0x14, lo := 0, w := 32, ty := .ro, reset := 0 }

/-- ENG_RET_LO.RET_LO_RET (R207). -/
def ENG.RET_LO_RET (n : Nat) : Fld := { off := engBase n + 0x18, lo := 0, w := 32, ty := .ro, reset := 0, half := .lo }

/-- ENG_RET_HI.RET_HI_RET (R207). -/
def ENG.RET_HI_RET (n : Nat) : Fld := { off := engBase n + 0x1c, lo := 0, w := 32, ty := .ro, reset := 0, half := .hi }

/-- ENG_STALL.STALL_MEM (R207). -/
def ENG.STALL_MEM (n : Nat) : Fld := { off := engBase n + 0x20, lo := 16, w := 10, ty := .ro, reset := 0 }
/-- ENG_STALL.STALL_STRM (R207). -/
def ENG.STALL_STRM (n : Nat) : Fld := { off := engBase n + 0x20, lo := 0, w := 10, ty := .ro, reset := 0 }

/-- ENG_WDOG.WDOG_LIMIT (R207). -/
def ENG.WDOG_LIMIT (n : Nat) : Fld := { off := engBase n + 0x24, lo := 0, w := 16, ty := .rw, reset := 0, staged := true }

/-- ENG_INJ.INJ_ILLEGAL (R207). -/
def ENG.INJ_ILLEGAL (n : Nat) : Fld := { off := engBase n + 0x30, lo := 3, w := 1, ty := .wo, reset := 0 }
/-- ENG_INJ.INJ_WDOG (R207). -/
def ENG.INJ_WDOG (n : Nat) : Fld := { off := engBase n + 0x30, lo := 2, w := 1, ty := .wo, reset := 0 }
/-- ENG_INJ.INJ_DMEM_ECC (R207). -/
def ENG.INJ_DMEM_ECC (n : Nat) : Fld := { off := engBase n + 0x30, lo := 1, w := 1, ty := .wo, reset := 0 }
/-- ENG_INJ.INJ_IMEM_ECC (R207). -/
def ENG.INJ_IMEM_ECC (n : Nat) : Fld := { off := engBase n + 0x30, lo := 0, w := 1, ty := .wo, reset := 0 }

/-- CLc_STAT.STAT_BARWAIT (R207). -/
def CL.STAT_BARWAIT (n : Nat) : Fld := { off := 0x1000000 + 0x100000 * n + 0xf0000, lo := 16, w := 8, ty := .ro, reset := 0 }
/-- CLc_STAT.STAT_FENCED (R207). -/
def CL.STAT_FENCED (n : Nat) : Fld := { off := 0x1000000 + 0x100000 * n + 0xf0000, lo := 8, w := 1, ty := .ro, reset := 0 }
/-- CLc_STAT.STAT_ENGFENCED (R207). -/
def CL.STAT_ENGFENCED (n : Nat) : Fld := { off := 0x1000000 + 0x100000 * n + 0xf0000, lo := 0, w := 8, ty := .ro, reset := 0 }

/-- CLU_EVTEN.EVTEN_EN (R207). -/
def CL.EVTEN_EN (n : Nat) : Fld := { off := 0x1000000 + 0x100000 * n + 0xf0004, lo := 1, w := 2, ty := .rw, reset := 1 }

/-- CHKn_CFG.CFG_WIDTH (R233). -/
def CHK.CFG_WIDTH (n : Nat) : Fld := { off := 0xC0000 + 0x40 * n + 0x0, lo := 24, w := 6, ty := .rw, reset := 32, staged := true }
/-- CHKn_CFG.CFG_INV (R233). -/
def CHK.CFG_INV (n : Nat) : Fld := { off := 0xC0000 + 0x40 * n + 0x0, lo := 3, w := 1, ty := .rw, reset := 1, staged := true }
/-- CHKn_CFG.CFG_REFOUT (R233). -/
def CHK.CFG_REFOUT (n : Nat) : Fld := { off := 0xC0000 + 0x40 * n + 0x0, lo := 2, w := 1, ty := .rw, reset := 1, staged := true }
/-- CHKn_CFG.CFG_REFIN (R233). -/
def CHK.CFG_REFIN (n : Nat) : Fld := { off := 0xC0000 + 0x40 * n + 0x0, lo := 1, w := 1, ty := .rw, reset := 1, staged := true }
/-- CHKn_CFG.CFG_EN (R233). -/
def CHK.CFG_EN (n : Nat) : Fld := { off := 0xC0000 + 0x40 * n + 0x0, lo := 0, w := 1, ty := .rw, reset := 0, staged := true }

/-- CHKn_POLY.POLY (R233). -/
def CHK.POLY (n : Nat) : Fld := { off := 0xC0000 + 0x40 * n + 0x4, lo := 0, w := 32, ty := .rw, reset := 517762881, staged := true }

/-- CHKn_INIT.INIT (R233). -/
def CHK.INIT (n : Nat) : Fld := { off := 0xC0000 + 0x40 * n + 0x8, lo := 0, w := 32, ty := .rw, reset := 4294967295, staged := true }

/-- CHKn_SRC.SRC_RESET (R233). -/
def CHK.SRC_RESET (n : Nat) : Fld := { off := 0xC0000 + 0x40 * n + 0xc, lo := 30, w := 2, ty := .rw, reset := 0, staged := true }
/-- CHKn_SRC.SRC_STAMP (R233). -/
def CHK.SRC_STAMP (n : Nat) : Fld := { off := 0xC0000 + 0x40 * n + 0xc, lo := 29, w := 1, ty := .rw, reset := 0, staged := true }
/-- CHKn_SRC.SRC_HDRSKIP (R233). -/
def CHK.SRC_HDRSKIP (n : Nat) : Fld := { off := 0xC0000 + 0x40 * n + 0xc, lo := 28, w := 1, ty := .rw, reset := 0, staged := true }
/-- CHKn_SRC.SRC_VALID (R233). -/
def CHK.SRC_VALID (n : Nat) : Fld := { off := 0xC0000 + 0x40 * n + 0xc, lo := 8, w := 1, ty := .rw, reset := 0, staged := true }
/-- CHKn_SRC.SRC_FLUE (R233). -/
def CHK.SRC_FLUE (n : Nat) : Fld := { off := 0xC0000 + 0x40 * n + 0xc, lo := 0, w := 7, ty := .rw, reset := 0, staged := true }

/-- CHKn_VALUE.VALUE (R233). -/
def CHK.VALUE (n : Nat) : Fld := { off := 0xC0000 + 0x40 * n + 0x10, lo := 0, w := 32, ty := .rw, reset := 0 }

/-- CHKn_SAVE.SAVE (R233). -/
def CHK.SAVE (n : Nat) : Fld := { off := 0xC0000 + 0x40 * n + 0x14, lo := 0, w := 32, ty := .rw, reset := 0 }

/-- CHKn_RESULT.RESULT (R233). -/
def CHK.RESULT (n : Nat) : Fld := { off := 0xC0000 + 0x40 * n + 0x18, lo := 0, w := 32, ty := .ro, reset := 0 }

/-- CHKn_LAST.LAST (R233). -/
def CHK.LAST (n : Nat) : Fld := { off := 0xC0000 + 0x40 * n + 0x1c, lo := 0, w := 32, ty := .ro, reset := 0 }

/-- CHKn_COUNT.COUNT (R233). -/
def CHK.COUNT (n : Nat) : Fld := { off := 0xC0000 + 0x40 * n + 0x20, lo := 0, w := 32, ty := .ro, reset := 0 }

/-- CHKn_CTL.CTL_SWAP (R233). -/
def CHK.CTL_SWAP (n : Nat) : Fld := { off := 0xC0000 + 0x40 * n + 0x24, lo := 1, w := 1, ty := .wo, reset := 0 }
/-- CHKn_CTL.CTL_RESET (R233). -/
def CHK.CTL_RESET (n : Nat) : Fld := { off := 0xC0000 + 0x40 * n + 0x24, lo := 0, w := 1, ty := .wo, reset := 0 }

/-- CHKn_INJ.INJ_FLIP (R233). -/
def CHK.INJ_FLIP (n : Nat) : Fld := { off := 0xC0000 + 0x40 * n + 0x28, lo := 0, w := 1, ty := .wo, reset := 0 }

/-- MEM_STAT.STAT_MIGRATING (R283). -/
def MEM.STAT_MIGRATING : Fld := { off := 0xE0000 + 0x0, lo := 11, w := 1, ty := .ro, reset := 0 }
/-- MEM_STAT.STAT_FENCE (R283). -/
def MEM.STAT_FENCE : Fld := { off := 0xE0000 + 0x0, lo := 8, w := 3, ty := .ro, reset := 4 }
/-- MEM_STAT.STAT_BAND (R283). -/
def MEM.STAT_BAND : Fld := { off := 0xE0000 + 0x0, lo := 0, w := 3, ty := .ro, reset := 1 }

/-- MEM_TOP_LO.TOP_LO_TOP (R283). -/
def MEM.TOP_LO_TOP : Fld := { off := 0xE0000 + 0x4, lo := 0, w := 32, ty := .ro, reset := 1717960704, half := .lo }

/-- MEM_TOP_HI.TOP_HI_TOP (R283). -/
def MEM.TOP_HI_TOP : Fld := { off := 0xE0000 + 0x8, lo := 0, w := 32, ty := .ro, reset := 2, half := .hi }

/-- MEM_MIGR.MIGR_LEFT (R283). -/
def MEM.MIGR_LEFT : Fld := { off := 0xE0000 + 0xc, lo := 0, w := 32, ty := .ro, reset := 0 }

/-- MEM_PATROL.PATROL_SPER (R283). -/
def MEM.PATROL_SPER : Fld := { off := 0xE0000 + 0x10, lo := 16, w := 16, ty := .rw, reset := 100 }
/-- MEM_PATROL.PATROL_GRATE (R283). -/
def MEM.PATROL_GRATE : Fld := { off := 0xE0000 + 0x10, lo := 0, w := 16, ty := .rw, reset := 400 }

/-- MEM_PASS.PASS_SRAM (R283). -/
def MEM.PASS_SRAM : Fld := { off := 0xE0000 + 0x14, lo := 16, w := 16, ty := .ro, reset := 0 }
/-- MEM_PASS.PASS_GDDR7 (R283). -/
def MEM.PASS_GDDR7 : Fld := { off := 0xE0000 + 0x14, lo := 0, w := 16, ty := .ro, reset := 0 }

/-- MEM_SCRUB_CTL.SCRUB_CTL_RATE (R283). -/
def MEM.SCRUB_CTL_RATE : Fld := { off := 0xE0000 + 0x20, lo := 16, w := 16, ty := .rw, reset := 4000 }
/-- MEM_SCRUB_CTL.SCRUB_CTL_TARGET (R283). -/
def MEM.SCRUB_CTL_TARGET : Fld := { off := 0xE0000 + 0x20, lo := 2, w := 6, ty := .rw, reset := 0 }
/-- MEM_SCRUB_CTL.SCRUB_CTL_ABORT (R283). -/
def MEM.SCRUB_CTL_ABORT : Fld := { off := 0xE0000 + 0x20, lo := 1, w := 1, ty := .wo, reset := 0 }
/-- MEM_SCRUB_CTL.SCRUB_CTL_GO (R283). -/
def MEM.SCRUB_CTL_GO : Fld := { off := 0xE0000 + 0x20, lo := 0, w := 1, ty := .wo, reset := 0 }

/-- MEM_SCRUB_STAT.SCRUB_STAT_REJ (R283). -/
def MEM.SCRUB_STAT_REJ : Fld := { off := 0xE0000 + 0x24, lo := 2, w := 1, ty := .w1c, reset := 0 }
/-- MEM_SCRUB_STAT.SCRUB_STAT_DONE (R283). -/
def MEM.SCRUB_STAT_DONE : Fld := { off := 0xE0000 + 0x24, lo := 1, w := 1, ty := .w1c, reset := 0 }
/-- MEM_SCRUB_STAT.SCRUB_STAT_BUSY (R283). -/
def MEM.SCRUB_STAT_BUSY : Fld := { off := 0xE0000 + 0x24, lo := 0, w := 1, ty := .ro, reset := 0 }

/-- MEM_SCRUB_ADDR_LO.SCRUB_ADDR_LO_ADDR (R283). -/
def MEM.SCRUB_ADDR_LO_ADDR : Fld := { off := 0xE0000 + 0x28, lo := 0, w := 32, ty := .rw, reset := 0, half := .lo, al6 := true }

/-- MEM_SCRUB_ADDR_HI.SCRUB_ADDR_HI_ADDR (R283). -/
def MEM.SCRUB_ADDR_HI_ADDR : Fld := { off := 0xE0000 + 0x2c, lo := 0, w := 32, ty := .rw, reset := 0, half := .hi }

/-- MEM_SCRUB_LEN_LO.SCRUB_LEN_LO_LEN (R283). -/
def MEM.SCRUB_LEN_LO_LEN : Fld := { off := 0xE0000 + 0x30, lo := 0, w := 32, ty := .rw, reset := 0, half := .lo, al6 := true }

/-- MEM_SCRUB_LEN_HI.SCRUB_LEN_HI_LEN (R283). -/
def MEM.SCRUB_LEN_HI_LEN : Fld := { off := 0xE0000 + 0x34, lo := 0, w := 32, ty := .rw, reset := 0, half := .hi }

/-- MEM_SCRUB_WORDS_LO.SCRUB_WORDS_LO_WORDS (R283). -/
def MEM.SCRUB_WORDS_LO_WORDS : Fld := { off := 0xE0000 + 0x38, lo := 0, w := 32, ty := .ro, reset := 0, half := .lo }

/-- MEM_SCRUB_WORDS_HI.SCRUB_WORDS_HI_WORDS (R283). -/
def MEM.SCRUB_WORDS_HI_WORDS : Fld := { off := 0xE0000 + 0x3c, lo := 0, w := 32, ty := .ro, reset := 0, half := .hi }

/-- MEM_SCRUB_CE.SCRUB_CE_CE (R283). -/
def MEM.SCRUB_CE_CE : Fld := { off := 0xE0000 + 0x40, lo := 0, w := 32, ty := .ro, reset := 0 }

/-- MEM_SCRUB_UE.SCRUB_UE_UE (R283). -/
def MEM.SCRUB_UE_UE : Fld := { off := 0xE0000 + 0x44, lo := 0, w := 32, ty := .ro, reset := 0 }

/-- MEM_SCRUB_WORST_LO.SCRUB_WORST_LO_WORST (R283). -/
def MEM.SCRUB_WORST_LO_WORST : Fld := { off := 0xE0000 + 0x48, lo := 0, w := 32, ty := .ro, reset := 0, half := .lo }

/-- MEM_SCRUB_WORST_HI.SCRUB_WORST_HI_WORST (R283). -/
def MEM.SCRUB_WORST_HI_WORST : Fld := { off := 0xE0000 + 0x4c, lo := 0, w := 32, ty := .ro, reset := 0, half := .hi }

/-- MEM_EVTEN.EVTEN_EN (R283). -/
def MEM.EVTEN_EN : Fld := { off := 0xE0000 + 0x50, lo := 1, w := 8, ty := .rw, reset := 119 }

/-- MEM_INJ.INJ_REGION (R283). -/
def MEM.INJ_REGION : Fld := { off := 0xE0000 + 0x54, lo := 8, w := 6, ty := .wo, reset := 0 }
/-- MEM_INJ.INJ_KIND (R283). -/
def MEM.INJ_KIND : Fld := { off := 0xE0000 + 0x54, lo := 0, w := 3, ty := .wo, reset := 0 }

/-- MEM_CTL.CTL_CLR_CNT (R283). -/
def MEM.CTL_CLR_CNT : Fld := { off := 0xE0000 + 0x58, lo := 0, w := 1, ty := .wo, reset := 0 }

/-- MEM_Rr_CE.CE (R283). -/
def MEMR.CE (n : Nat) : Fld := { off := 0xE0100 + 0x10 * n + 0x0, lo := 0, w := 32, ty := .ro, reset := 0 }

/-- MEM_Rr_UE.UE (R283). -/
def MEMR.UE (n : Nat) : Fld := { off := 0xE0100 + 0x10 * n + 0x4, lo := 0, w := 32, ty := .ro, reset := 0 }

/-- MEM_Rr_BKT.BKT_LIMIT (R283). -/
def MEMR.BKT_LIMIT (n : Nat) : Fld := { off := 0xE0100 + 0x10 * n + 0x8, lo := 16, w := 16, ty := .rw, reset := 16 }
/-- MEM_Rr_BKT.BKT_LEVEL (R283). -/
def MEMR.BKT_LEVEL (n : Nat) : Fld := { off := 0xE0100 + 0x10 * n + 0x8, lo := 0, w := 16, ty := .ro, reset := 0 }

/-- MEM_Rr_LEAK.LEAK_OVF_STKY (R283). -/
def MEMR.LEAK_OVF_STKY (n : Nat) : Fld := { off := 0xE0100 + 0x10 * n + 0xc, lo := 16, w := 1, ty := .w1c, reset := 0 }
/-- MEM_Rr_LEAK.LEAK (R283). -/
def MEMR.LEAK (n : Nat) : Fld := { off := 0xE0100 + 0x10 * n + 0xc, lo := 0, w := 16, ty := .rw, reset := 1000 }

/-- DLV_Qn_CFG.CFG_COALN (R318). -/
def DQ.CFG_COALN (n : Nat) : Fld := { off := 0x20000 + 0x200 * n + 0x0, lo := 24, w := 8, ty := .rw, reset := 1 }
/-- DLV_Qn_CFG.CFG_VEC (R318). -/
def DQ.CFG_VEC (n : Nat) : Fld := { off := 0x20000 + 0x200 * n + 0x0, lo := 16, w := 6, ty := .rw, reset := 0 }
/-- DLV_Qn_CFG.CFG_RSZ (R318). -/
def DQ.CFG_RSZ (n : Nat) : Fld := { off := 0x20000 + 0x200 * n + 0x0, lo := 8, w := 4, ty := .rw, reset := 0, staged := true }
/-- DLV_Qn_CFG.CFG_EN (R318). -/
def DQ.CFG_EN (n : Nat) : Fld := { off := 0x20000 + 0x200 * n + 0x0, lo := 0, w := 1, ty := .rw, reset := 0, staged := true }

/-- DLV_Qn_COALT.COALT (R318). -/
def DQ.COALT (n : Nat) : Fld := { off := 0x20000 + 0x200 * n + 0x4, lo := 0, w := 16, ty := .rw, reset := 20 }

/-- DLV_Qn_DRING_LO.DRING_LO_BASE (R318). -/
def DQ.DRING_LO_BASE (n : Nat) : Fld := { off := 0x20000 + 0x200 * n + 0x8, lo := 0, w := 32, ty := .rw, reset := 0, staged := true, half := .lo, al6 := true }

/-- DLV_Qn_DRING_HI.DRING_HI_BASE (R318). -/
def DQ.DRING_HI_BASE (n : Nat) : Fld := { off := 0x20000 + 0x200 * n + 0xc, lo := 0, w := 32, ty := .rw, reset := 0, staged := true, half := .hi }

/-- DLV_Qn_CRING_LO.CRING_LO_BASE (R318). -/
def DQ.CRING_LO_BASE (n : Nat) : Fld := { off := 0x20000 + 0x200 * n + 0x10, lo := 0, w := 32, ty := .rw, reset := 0, staged := true, half := .lo, al6 := true }

/-- DLV_Qn_CRING_HI.CRING_HI_BASE (R318). -/
def DQ.CRING_HI_BASE (n : Nat) : Fld := { off := 0x20000 + 0x200 * n + 0x14, lo := 0, w := 32, ty := .rw, reset := 0, staged := true, half := .hi }

/-- DLV_Qn_TAIL.TAIL (R318). -/
def DQ.TAIL (n : Nat) : Fld := { off := 0x20000 + 0x200 * n + 0x18, lo := 0, w := 16, ty := .rw, reset := 0 }

/-- DLV_Qn_PTR.PTR_DONE (R318). -/
def DQ.PTR_DONE (n : Nat) : Fld := { off := 0x20000 + 0x200 * n + 0x1c, lo := 16, w := 16, ty := .ro, reset := 0 }
/-- DLV_Qn_PTR.PTR_RESV (R318). -/
def DQ.PTR_RESV (n : Nat) : Fld := { off := 0x20000 + 0x200 * n + 0x1c, lo := 0, w := 16, ty := .ro, reset := 0 }

/-- DLV_Qn_STAT.STAT_INFLIGHT (R318). -/
def DQ.STAT_INFLIGHT (n : Nat) : Fld := { off := 0x20000 + 0x200 * n + 0x20, lo := 16, w := 16, ty := .ro, reset := 0 }
/-- DLV_Qn_STAT.STAT_LASTREF (R318). -/
def DQ.STAT_LASTREF (n : Nat) : Fld := { off := 0x20000 + 0x200 * n + 0x20, lo := 8, w := 3, ty := .ro, reset := 0 }
/-- DLV_Qn_STAT.STAT_FLUSHING (R318). -/
def DQ.STAT_FLUSHING (n : Nat) : Fld := { off := 0x20000 + 0x200 * n + 0x20, lo := 3, w := 1, ty := .ro, reset := 0 }
/-- DLV_Qn_STAT.STAT_STATE (R318). -/
def DQ.STAT_STATE (n : Nat) : Fld := { off := 0x20000 + 0x200 * n + 0x20, lo := 0, w := 3, ty := .ro, reset := 0 }

/-- DLV_Qn_CREDIT.CREDIT (R318). -/
def DQ.CREDIT (n : Nat) : Fld := { off := 0x20000 + 0x200 * n + 0x24, lo := 0, w := 16, ty := .ro, reset := 0 }

/-- DLV_Qn_CTL.CTL_CLR_CNT (R318). -/
def DQ.CTL_CLR_CNT (n : Nat) : Fld := { off := 0x20000 + 0x200 * n + 0x28, lo := 1, w := 1, ty := .wo, reset := 0 }
/-- DLV_Qn_CTL.CTL_FLUSH (R318). -/
def DQ.CTL_FLUSH (n : Nat) : Fld := { off := 0x20000 + 0x200 * n + 0x28, lo := 0, w := 1, ty := .wo, reset := 0 }

/-- DLV_Qn_NADM.NADM (R318). -/
def DQ.NADM (n : Nat) : Fld := { off := 0x20000 + 0x200 * n + 0x2c, lo := 0, w := 32, ty := .ro, reset := 0 }

/-- DLV_Qn_NREF.NREF (R318). -/
def DQ.NREF (n : Nat) : Fld := { off := 0x20000 + 0x200 * n + 0x30, lo := 0, w := 32, ty := .ro, reset := 0 }

/-- DLV_Qn_NLATE.NLATE (R318). -/
def DQ.NLATE (n : Nat) : Fld := { off := 0x20000 + 0x200 * n + 0x34, lo := 0, w := 32, ty := .ro, reset := 0 }

/-- DLV_Qn_BYTES_LO.BYTES_LO_BYTES (R318). -/
def DQ.BYTES_LO_BYTES (n : Nat) : Fld := { off := 0x20000 + 0x200 * n + 0x38, lo := 0, w := 32, ty := .ro, reset := 0, half := .lo }

/-- DLV_Qn_BYTES_HI.BYTES_HI_BYTES (R318). -/
def DQ.BYTES_HI_BYTES (n : Nat) : Fld := { off := 0x20000 + 0x200 * n + 0x3c, lo := 0, w := 32, ty := .ro, reset := 0, half := .hi }

/-- DLV_Qn_D.D (R318). -/
def DQ.D (n : Nat) : Fld := { off := 0x20000 + 0x200 * n + 0x40, lo := 0, w := 32, ty := .ro, reset := 0 }

/-- DLV_Qn_RATE.RATE (R318). -/
def DQ.RATE (n : Nat) : Fld := { off := 0x20000 + 0x200 * n + 0x44, lo := 0, w := 32, ty := .ro, reset := 0 }

/-- DLV_Qn_MAXB.MAXB (R318). -/
def DQ.MAXB (n : Nat) : Fld := { off := 0x20000 + 0x200 * n + 0x48, lo := 0, w := 32, ty := .ro, reset := 0 }

/-- DLV_Qn_CPARM.CPARM_BURST (R318). -/
def DQ.CPARM_BURST (n : Nat) : Fld := { off := 0x20000 + 0x200 * n + 0x4c, lo := 8, w := 8, ty := .ro, reset := 0 }
/-- DLV_Qn_CPARM.CPARM_PRIO (R318). -/
def DQ.CPARM_PRIO (n : Nat) : Fld := { off := 0x20000 + 0x200 * n + 0x4c, lo := 0, w := 3, ty := .ro, reset := 0 }

/-- DLV_Qn_DMIN.DMIN (R318). -/
def DQ.DMIN (n : Nat) : Fld := { off := 0x20000 + 0x200 * n + 0x50, lo := 0, w := 32, ty := .ro, reset := 0 }

/-- DLV_Qn_WORST.WORST (R318). -/
def DQ.WORST (n : Nat) : Fld := { off := 0x20000 + 0x200 * n + 0x54, lo := 0, w := 32, ty := .ro, reset := 0 }

/-- DLV_Qn_BUCKET.BUCKET_LEVEL (R318). -/
def DQ.BUCKET_LEVEL (n : Nat) : Fld := { off := 0x20000 + 0x200 * n + 0x58, lo := 0, w := 32, ty := .ro, reset := 0 }

/-- DLV_Qn_INJ.INJ_DESC (R318). -/
def DQ.INJ_DESC (n : Nat) : Fld := { off := 0x20000 + 0x200 * n + 0x5c, lo := 2, w := 1, ty := .wo, reset := 0 }
/-- DLV_Qn_INJ.INJ_LATE (R318). -/
def DQ.INJ_LATE (n : Nat) : Fld := { off := 0x20000 + 0x200 * n + 0x5c, lo := 1, w := 1, ty := .wo, reset := 0 }
/-- DLV_Qn_INJ.INJ_REFUSE (R318). -/
def DQ.INJ_REFUSE (n : Nat) : Fld := { off := 0x20000 + 0x200 * n + 0x5c, lo := 0, w := 1, ty := .wo, reset := 0 }

/-- DLV_LINK.LINK_LHOST (R318). -/
def DLV.LINK_LHOST : Fld := { off := 0x20000 + 0x8000, lo := 16, w := 16, ty := .ro, reset := 0 }
/-- DLV_LINK.LINK_ASYM_EN (R318). -/
def DLV.LINK_ASYM_EN : Fld := { off := 0x20000 + 0x8000, lo := 3, w := 1, ty := .rw, reset := 1 }
/-- DLV_LINK.LINK_MODE (R318). -/
def DLV.LINK_MODE : Fld := { off := 0x20000 + 0x8000, lo := 0, w := 3, ty := .ro, reset := 0 }

/-- DLV_ADM.ADM_BPA (R318). -/
def DLV.ADM_BPA : Fld := { off := 0x20000 + 0x8004, lo := 16, w := 16, ty := .rw, reset := 20 }
/-- DLV_ADM.ADM_HEADROOM (R318). -/
def DLV.ADM_HEADROOM : Fld := { off := 0x20000 + 0x8004, lo := 0, w := 6, ty := .rw, reset := 1 }

/-- DLV_ADM2.ADM2_ITMO (R318). -/
def DLV.ADM2_ITMO : Fld := { off := 0x20000 + 0x8008, lo := 0, w := 16, ty := .rw, reset := 1000 }

/-- DLV_ADM_STAT.ADM_STAT_SHED (R318). -/
def DLV.ADM_STAT_SHED : Fld := { off := 0x20000 + 0x800c, lo := 8, w := 8, ty := .ro, reset := 0 }
/-- DLV_ADM_STAT.ADM_STAT_LINKDOWN (R318). -/
def DLV.ADM_STAT_LINKDOWN : Fld := { off := 0x20000 + 0x800c, lo := 2, w := 1, ty := .ro, reset := 1 }
/-- DLV_ADM_STAT.ADM_STAT_THROTTLED (R318). -/
def DLV.ADM_STAT_THROTTLED : Fld := { off := 0x20000 + 0x800c, lo := 1, w := 1, ty := .ro, reset := 0 }
/-- DLV_ADM_STAT.ADM_STAT_HOLD (R318). -/
def DLV.ADM_STAT_HOLD : Fld := { off := 0x20000 + 0x800c, lo := 0, w := 1, ty := .ro, reset := 0 }

/-- DLV_CAP_HOST.CAP_HOST_CAP (R318). -/
def DLV.CAP_HOST_CAP : Fld := { off := 0x20000 + 0x8010, lo := 0, w := 32, ty := .ro, reset := 0 }

/-- DLV_CAP_GDDR.CAP_GDDR_CAP (R318). -/
def DLV.CAP_GDDR_CAP : Fld := { off := 0x20000 + 0x8014, lo := 0, w := 32, ty := .ro, reset := 0 }

/-- DLV_USE_HOST.USE_HOST_USE (R318). -/
def DLV.USE_HOST_USE : Fld := { off := 0x20000 + 0x8018, lo := 0, w := 32, ty := .ro, reset := 0 }

/-- DLV_USE_GDDR.USE_GDDR_USE (R318). -/
def DLV.USE_GDDR_USE : Fld := { off := 0x20000 + 0x801c, lo := 0, w := 32, ty := .ro, reset := 0 }

/-- DLV_STALL.STALL_MAX (R318). -/
def DLV.STALL_MAX : Fld := { off := 0x20000 + 0x8020, lo := 0, w := 32, ty := .ro, reset := 0 }

/-- DLV_CTL.CTL_INJ_STALL (R318). -/
def DLV.CTL_INJ_STALL : Fld := { off := 0x20000 + 0x8024, lo := 1, w := 1, ty := .wo, reset := 0 }
/-- DLV_CTL.CTL_CLR (R318). -/
def DLV.CTL_CLR : Fld := { off := 0x20000 + 0x8024, lo := 0, w := 1, ty := .wo, reset := 0 }

/-- DLV_EVTEN.EVTEN_EN (R318). -/
def DLV.EVTEN_EN : Fld := { off := 0x20000 + 0x8030, lo := 1, w := 15, ty := .rw, reset := 14335 }

/-- DLV_WMm_CFG.WM_CFG_Q (R318). -/
def DLV.WM_CFG_Q (k : Nat) : Fld := { off := 0x20000 + 0x8040 + 16 * k, lo := 8, w := 6, ty := .rw, reset := 0 }
/-- DLV_WMm_CFG.WM_CFG_SRC (R318). -/
def DLV.WM_CFG_SRC (k : Nat) : Fld := { off := 0x20000 + 0x8040 + 16 * k, lo := 4, w := 3, ty := .rw, reset := 0 }
/-- DLV_WMm_CFG.WM_CFG_INV (R318). -/
def DLV.WM_CFG_INV (k : Nat) : Fld := { off := 0x20000 + 0x8040 + 16 * k, lo := 2, w := 1, ty := .rw, reset := 0 }
/-- DLV_WMm_CFG.WM_CFG_POL (R318). -/
def DLV.WM_CFG_POL (k : Nat) : Fld := { off := 0x20000 + 0x8040 + 16 * k, lo := 1, w := 1, ty := .rw, reset := 0 }
/-- DLV_WMm_CFG.WM_CFG_EN (R318). -/
def DLV.WM_CFG_EN (k : Nat) : Fld := { off := 0x20000 + 0x8040 + 16 * k, lo := 0, w := 1, ty := .rw, reset := 0 }

/-- DLV_WMm_THR.WM_THR_HIGH (R318). -/
def DLV.WM_THR_HIGH (k : Nat) : Fld := { off := 0x20000 + 0x8044 + 16 * k, lo := 16, w := 16, ty := .rw, reset := 65535 }
/-- DLV_WMm_THR.WM_THR_LOW (R318). -/
def DLV.WM_THR_LOW (k : Nat) : Fld := { off := 0x20000 + 0x8044 + 16 * k, lo := 0, w := 16, ty := .rw, reset := 0 }

/-- DLV_WMm_STAT.WM_STAT_CROSS (R318). -/
def DLV.WM_STAT_CROSS (k : Nat) : Fld := { off := 0x20000 + 0x8048 + 16 * k, lo := 16, w := 8, ty := .ro, reset := 0 }
/-- DLV_WMm_STAT.WM_STAT_STKY (R318). -/
def DLV.WM_STAT_STKY (k : Nat) : Fld := { off := 0x20000 + 0x8048 + 16 * k, lo := 1, w := 1, ty := .w1c, reset := 0 }
/-- DLV_WMm_STAT.WM_STAT_LIVE (R318). -/
def DLV.WM_STAT_LIVE (k : Nat) : Fld := { off := 0x20000 + 0x8048 + 16 * k, lo := 0, w := 1, ty := .ro, reset := 0 }

/-- DLV_WMm_VAL.WM_VAL_VAL (R318). -/
def DLV.WM_VAL_VAL (k : Nat) : Fld := { off := 0x20000 + 0x804c + 16 * k, lo := 0, w := 32, ty := .ro, reset := 0 }

/-- DLV_EVR_BASE_LO.EVR_BASE_LO_BASE (R318). -/
def DLV.EVR_BASE_LO_BASE : Fld := { off := 0x20000 + 0x8100, lo := 0, w := 32, ty := .rw, reset := 0, half := .lo, al6 := true }

/-- DLV_EVR_BASE_HI.EVR_BASE_HI_BASE (R318). -/
def DLV.EVR_BASE_HI_BASE : Fld := { off := 0x20000 + 0x8104, lo := 0, w := 32, ty := .rw, reset := 0, half := .hi }

/-- DLV_EVR_CFG.EVR_CFG_COALN (R318). -/
def DLV.EVR_CFG_COALN : Fld := { off := 0x20000 + 0x8108, lo := 24, w := 8, ty := .rw, reset := 1 }
/-- DLV_EVR_CFG.EVR_CFG_VEC (R318). -/
def DLV.EVR_CFG_VEC : Fld := { off := 0x20000 + 0x8108, lo := 16, w := 6, ty := .rw, reset := 0 }
/-- DLV_EVR_CFG.EVR_CFG_RSZ (R318). -/
def DLV.EVR_CFG_RSZ : Fld := { off := 0x20000 + 0x8108, lo := 8, w := 4, ty := .rw, reset := 0 }
/-- DLV_EVR_CFG.EVR_CFG_EN (R318). -/
def DLV.EVR_CFG_EN : Fld := { off := 0x20000 + 0x8108, lo := 0, w := 1, ty := .rw, reset := 0 }

/-- DLV_EVR_HEAD.EVR_HEAD_HEAD (R318). -/
def DLV.EVR_HEAD_HEAD : Fld := { off := 0x20000 + 0x810c, lo := 0, w := 16, ty := .rw, reset := 0 }

/-- DLV_EVR_TAIL.EVR_TAIL_TAIL (R318). -/
def DLV.EVR_TAIL_TAIL : Fld := { off := 0x20000 + 0x8110, lo := 0, w := 16, ty := .ro, reset := 0 }

/-- DLV_EVR_LOST.EVR_LOST_LOST (R318). -/
def DLV.EVR_LOST_LOST : Fld := { off := 0x20000 + 0x8114, lo := 0, w := 32, ty := .ro, reset := 0 }

/-- DLV_EVR_COALT.EVR_COALT_COALT (R318). -/
def DLV.EVR_COALT_COALT : Fld := { off := 0x20000 + 0x8118, lo := 0, w := 16, ty := .rw, reset := 20 }

/-- DLV_EVPK_DATA.EVPK_DATA_DATA (R318). -/
def DLV.EVPK_DATA_DATA : Fld := { off := 0x20000 + 0x8200, lo := 0, w := 32, ty := .ro, reset := 0 }

/-- DLV_EVPK_STAT.EVPK_STAT_UNDERRUN (R318). -/
def DLV.EVPK_STAT_UNDERRUN : Fld := { off := 0x20000 + 0x8204, lo := 8, w := 1, ty := .w1c, reset := 0 }
/-- DLV_EVPK_STAT.EVPK_STAT_LEVEL (R318). -/
def DLV.EVPK_STAT_LEVEL : Fld := { off := 0x20000 + 0x8204, lo := 0, w := 5, ty := .ro, reset := 0 }

/-- REC_CFG.CFG_XTMO (R346). -/
def REC.CFG_XTMO : Fld := { off := 0x110000 + 0x0, lo := 16, w := 16, ty := .rw, reset := 1000, staged := true }
/-- REC_CFG.CFG_EN (R346). -/
def REC.CFG_EN : Fld := { off := 0x110000 + 0x0, lo := 0, w := 1, ty := .rw, reset := 0, staged := true }

/-- REC_STAT.STAT_CAUSE (R346). -/
def REC.STAT_CAUSE : Fld := { off := 0x110000 + 0x4, lo := 8, w := 4, ty := .ro, reset := 0 }
/-- REC_STAT.STAT_STATE (R346). -/
def REC.STAT_STATE : Fld := { off := 0x110000 + 0x4, lo := 0, w := 3, ty := .ro, reset := 1 }

/-- REC_GROUPS.GROUPS_PINNED (R346). -/
def REC.GROUPS_PINNED : Fld := { off := 0x110000 + 0x8, lo := 16, w := 16, ty := .ro, reset := 0 }
/-- REC_GROUPS.GROUPS_INSERV (R346). -/
def REC.GROUPS_INSERV : Fld := { off := 0x110000 + 0x8, lo := 0, w := 16, ty := .ro, reset := 0 }

/-- REC_ESEQ_LO.ESEQ_LO_ESEQ (R346). -/
def REC.ESEQ_LO_ESEQ : Fld := { off := 0x110000 + 0xc, lo := 0, w := 32, ty := .ro, reset := 0, half := .lo }

/-- REC_ESEQ_HI.ESEQ_HI_ESEQ (R346). -/
def REC.ESEQ_HI_ESEQ : Fld := { off := 0x110000 + 0x10, lo := 0, w := 32, ty := .ro, reset := 0, half := .hi }

/-- REC_OLD_LO.OLD_LO_ESEQ (R346). -/
def REC.OLD_LO_ESEQ : Fld := { off := 0x110000 + 0x14, lo := 0, w := 32, ty := .ro, reset := 0, half := .lo }

/-- REC_OLD_HI.OLD_HI_ESEQ (R346). -/
def REC.OLD_HI_ESEQ : Fld := { off := 0x110000 + 0x18, lo := 0, w := 32, ty := .ro, reset := 0, half := .hi }

/-- REC_WEAR.WEAR_LIFE (R346). -/
def REC.WEAR_LIFE : Fld := { off := 0x110000 + 0x1c, lo := 0, w := 24, ty := .rw, reset := 16000, staged := true }

/-- REC_LIFE.LIFE_REMAIN (R346). -/
def REC.LIFE_REMAIN : Fld := { off := 0x110000 + 0x20, lo := 0, w := 16, ty := .ro, reset := 10000 }

/-- REC_ERASES_LO.ERASES_LO_ERASES (R346). -/
def REC.ERASES_LO_ERASES : Fld := { off := 0x110000 + 0x24, lo := 0, w := 32, ty := .ro, reset := 0, half := .lo }

/-- REC_ERASES_HI.ERASES_HI_ERASES (R346). -/
def REC.ERASES_HI_ERASES : Fld := { off := 0x110000 + 0x28, lo := 0, w := 32, ty := .ro, reset := 0, half := .hi }

/-- REC_HOURS.HOURS (R346). -/
def REC.HOURS : Fld := { off := 0x110000 + 0x2c, lo := 0, w := 32, ty := .ro, reset := 0 }

/-- REC_WBKT.WBKT_LEVEL (R346). -/
def REC.WBKT_LEVEL : Fld := { off := 0x110000 + 0x30, lo := 0, w := 32, ty := .ro, reset := 0 }

/-- REC_GRATE.GRATE_RATE (R346). -/
def REC.GRATE_RATE : Fld := { off := 0x110000 + 0x34, lo := 0, w := 32, ty := .ro, reset := 0 }

/-- REC_CNT.CNT_PROG_FAIL (R346). -/
def REC.CNT_PROG_FAIL : Fld := { off := 0x110000 + 0x38, lo := 16, w := 16, ty := .ro, reset := 0 }
/-- REC_CNT.CNT_JOURNAL (R346). -/
def REC.CNT_JOURNAL : Fld := { off := 0x110000 + 0x38, lo := 0, w := 16, ty := .ro, reset := 0 }

/-- REC_PIN_VALID.PIN_VALID_VALID (R346). -/
def REC.PIN_VALID_VALID : Fld := { off := 0x110000 + 0x3c, lo := 0, w := 16, ty := .ro, reset := 0 }

/-- REC_EVTEN.EVTEN_EN (R346). -/
def REC.EVTEN_EN : Fld := { off := 0x110000 + 0x40, lo := 1, w := 13, ty := .rw, reset := 8191 }

/-- REC_CTL.CTL_CLR_CNT (R346). -/
def REC.CTL_CLR_CNT : Fld := { off := 0x110000 + 0x44, lo := 0, w := 1, ty := .wo, reset := 0 }

/-- REC_INJ.INJ_JSPLIT (R346). -/
def REC.INJ_JSPLIT : Fld := { off := 0x110000 + 0x48, lo := 2, w := 1, ty := .wo, reset := 0 }
/-- REC_INJ.INJ_READ_UE (R346). -/
def REC.INJ_READ_UE : Fld := { off := 0x110000 + 0x48, lo := 1, w := 1, ty := .wo, reset := 0 }
/-- REC_INJ.INJ_PROGFAIL (R346). -/
def REC.INJ_PROGFAIL : Fld := { off := 0x110000 + 0x48, lo := 0, w := 1, ty := .wo, reset := 0 }

/-- REC_RD_STAT.RD_STAT_QUEUE (R346). -/
def REC.RD_STAT_QUEUE : Fld := { off := 0x110000 + 0x80, lo := 16, w := 6, ty := .ro, reset := 0 }
/-- REC_RD_STAT.RD_STAT_OVERTAKEN (R346). -/
def REC.RD_STAT_OVERTAKEN : Fld := { off := 0x110000 + 0x80, lo := 8, w := 1, ty := .w1c, reset := 0 }
/-- REC_RD_STAT.RD_STAT_STATE (R346). -/
def REC.RD_STAT_STATE : Fld := { off := 0x110000 + 0x80, lo := 0, w := 2, ty := .ro, reset := 0 }

/-- REC_RD_POS_LO.RD_POS_LO_RPOS (R346). -/
def REC.RD_POS_LO_RPOS : Fld := { off := 0x110000 + 0x84, lo := 0, w := 32, ty := .ro, reset := 0, half := .lo }

/-- REC_RD_POS_HI.RD_POS_HI_RPOS (R346). -/
def REC.RD_POS_HI_RPOS : Fld := { off := 0x110000 + 0x88, lo := 0, w := 32, ty := .ro, reset := 0, half := .hi }

/-- REC_RD_LOST_LO.RD_LOST_LO_LOST (R346). -/
def REC.RD_LOST_LO_LOST : Fld := { off := 0x110000 + 0x8c, lo := 0, w := 32, ty := .ro, reset := 0, half := .lo }

/-- REC_RD_LOST_HI.RD_LOST_HI_LOST (R346). -/
def REC.RD_LOST_HI_LOST : Fld := { off := 0x110000 + 0x90, lo := 0, w := 32, ty := .ro, reset := 0, half := .hi }

/-- REC_RD_NREC.RD_NREC_NREC (R346). -/
def REC.RD_NREC_NREC : Fld := { off := 0x110000 + 0x94, lo := 0, w := 32, ty := .ro, reset := 0 }

/-- REC_MKm_POS_LO.POS_LO_RPOS (R346). -/
def MK.POS_LO_RPOS (n : Nat) : Fld := { off := 0x110100 + 0x10 * n + 0x0, lo := 0, w := 32, ty := .ro, reset := 0, half := .lo }

/-- REC_MKm_POS_HI.POS_HI_RPOS (R346). -/
def MK.POS_HI_RPOS (n : Nat) : Fld := { off := 0x110100 + 0x10 * n + 0x4, lo := 0, w := 32, ty := .ro, reset := 0, half := .hi }

/-- REC_MKm_STAT.STAT_TRIMMED (R346). -/
def MK.STAT_TRIMMED (n : Nat) : Fld := { off := 0x110100 + 0x10 * n + 0x8, lo := 2, w := 1, ty := .w1c, reset := 0 }
/-- REC_MKm_STAT.STAT_OVERTAKEN (R346). -/
def MK.STAT_OVERTAKEN (n : Nat) : Fld := { off := 0x110100 + 0x10 * n + 0x8, lo := 1, w := 1, ty := .w1c, reset := 0 }
/-- REC_MKm_STAT.STAT_VALID (R346). -/
def MK.STAT_VALID (n : Nat) : Fld := { off := 0x110100 + 0x10 * n + 0x8, lo := 0, w := 1, ty := .ro, reset := 0 }

/-- REC_MKm_LOST.LOST (R346). -/
def MK.LOST (n : Nat) : Fld := { off := 0x110100 + 0x10 * n + 0xc, lo := 0, w := 32, ty := .ro, reset := 0 }

/-- REC_PNp_FIRST_LO.FIRST_LO_ESEQ (R346). -/
def PN.FIRST_LO_ESEQ (n : Nat) : Fld := { off := 0x110500 + 0x10 * n + 0x0, lo := 0, w := 32, ty := .ro, reset := 0, half := .lo }

/-- REC_PNp_FIRST_HI.FIRST_HI_ESEQ (R346). -/
def PN.FIRST_HI_ESEQ (n : Nat) : Fld := { off := 0x110500 + 0x10 * n + 0x4, lo := 0, w := 32, ty := .ro, reset := 0, half := .hi }

/-- REC_PNp_LAST_LO.LAST_LO_ESEQ (R346). -/
def PN.LAST_LO_ESEQ (n : Nat) : Fld := { off := 0x110500 + 0x10 * n + 0x8, lo := 0, w := 32, ty := .ro, reset := 0, half := .lo }

/-- REC_PNp_LAST_HI.LAST_HI_ESEQ (R346). -/
def PN.LAST_HI_ESEQ (n : Nat) : Fld := { off := 0x110500 + 0x10 * n + 0xc, lo := 0, w := 32, ty := .ro, reset := 0, half := .hi }

/-- REC_INn_CFG.CFG_STREAM (R346). -/
def IN.CFG_STREAM (n : Nat) : Fld := { off := 0x110600 + 0x20 * n + 0x0, lo := 24, w := 8, ty := .rw, reset := 255, staged := true }
/-- REC_INn_CFG.CFG_EN (R346). -/
def IN.CFG_EN (n : Nat) : Fld := { off := 0x110600 + 0x20 * n + 0x0, lo := 0, w := 1, ty := .rw, reset := 0, staged := true }

/-- REC_INn_MAXB.MAXB (R346). -/
def IN.MAXB (n : Nat) : Fld := { off := 0x110600 + 0x20 * n + 0x4, lo := 0, w := 32, ty := .rw, reset := 1048576, staged := true }

/-- REC_INn_RATE.RATE (R346). -/
def IN.RATE (n : Nat) : Fld := { off := 0x110600 + 0x20 * n + 0x8, lo := 0, w := 32, ty := .rw, reset := 0, staged := true }

/-- REC_INn_REC.REC (R346). -/
def IN.REC (n : Nat) : Fld := { off := 0x110600 + 0x20 * n + 0xc, lo := 0, w := 32, ty := .ro, reset := 0 }

/-- REC_INn_DROP.DROP (R346). -/
def IN.DROP (n : Nat) : Fld := { off := 0x110600 + 0x20 * n + 0x10, lo := 0, w := 32, ty := .ro, reset := 0 }

/-- REC_INn_CUT.CUT (R346). -/
def IN.CUT (n : Nat) : Fld := { off := 0x110600 + 0x20 * n + 0x14, lo := 0, w := 32, ty := .ro, reset := 0 }

/-- SYS_MODID.MODID_STRAP_BAD (R365). -/
def SYS.MODID_STRAP_BAD : Fld := { off := 0x10, lo := 31, w := 1, ty := .ro, reset := 0 }
/-- SYS_MODID.MODID_FACTORY (R365). -/
def SYS.MODID_FACTORY : Fld := { off := 0x10, lo := 30, w := 1, ty := .ro, reset := 0 }
/-- SYS_MODID.MODID_STRAP (R365). -/
def SYS.MODID_STRAP : Fld := { off := 0x10, lo := 16, w := 8, ty := .ro, reset := 0 }
/-- SYS_MODID.MODID_ID (R365). -/
def SYS.MODID_ID : Fld := { off := 0x10, lo := 0, w := 16, ty := .ro, reset := 0 }

/-- TIM_NOW_LO.NOW_LO_NOW (R365). -/
def TIM.NOW_LO_NOW : Fld := { off := 0x60000 + 0x0, lo := 0, w := 32, ty := .ro, reset := 0, half := .lo }

/-- TIM_NOW_HI.NOW_HI_NOW (R365). -/
def TIM.NOW_HI_NOW : Fld := { off := 0x60000 + 0x4, lo := 0, w := 32, ty := .ro, reset := 0, half := .hi }

/-- TIM_STAT.STAT_CLAMP (R365). -/
def TIM.STAT_CLAMP : Fld := { off := 0x60000 + 0x8, lo := 16, w := 1, ty := .ro, reset := 0 }
/-- TIM_STAT.STAT_STEPGEN (R365). -/
def TIM.STAT_STEPGEN : Fld := { off := 0x60000 + 0x8, lo := 8, w := 8, ty := .ro, reset := 0 }
/-- TIM_STAT.STAT_PORT (R365). -/
def TIM.STAT_PORT : Fld := { off := 0x60000 + 0x8, lo := 4, w := 2, ty := .ro, reset := 3 }
/-- TIM_STAT.STAT_STATE (R365). -/
def TIM.STAT_STATE : Fld := { off := 0x60000 + 0x8, lo := 0, w := 3, ty := .ro, reset := 0 }

/-- TIM_RATE.RATE (R365). -/
def TIM.RATE : Fld := { off := 0x60000 + 0xc, lo := 0, w := 32, ty := .ro, reset := 0 }

/-- TIM_OFFSET.OFFSET_O (R365). -/
def TIM.OFFSET_O : Fld := { off := 0x60000 + 0x10, lo := 0, w := 32, ty := .ro, reset := 0 }

/-- TIM_HOLD.HOLD_MS (R365). -/
def TIM.HOLD_MS : Fld := { off := 0x60000 + 0x14, lo := 0, w := 32, ty := .ro, reset := 0 }

/-- TIM_SERVO.SERVO_TPH (R365). -/
def TIM.SERVO_TPH : Fld := { off := 0x60000 + 0x18, lo := 16, w := 16, ty := .rw, reset := 1000 }
/-- TIM_SERVO.SERVO_LOCKTH (R365). -/
def TIM.SERVO_LOCKTH : Fld := { off := 0x60000 + 0x18, lo := 0, w := 16, ty := .rw, reset := 100 }

/-- TIM_SERVO2.SERVO2_SETTLE (R365). -/
def TIM.SERVO2_SETTLE : Fld := { off := 0x60000 + 0x1c, lo := 16, w := 16, ty := .rw, reset := 2 }
/-- TIM_SERVO2.SERVO2_MAXADJ (R365). -/
def TIM.SERVO2_MAXADJ : Fld := { off := 0x60000 + 0x1c, lo := 0, w := 16, ty := .rw, reset := 500 }

/-- TIM_STEP_OLD_LO.STEP_OLD_LO_OLD (R365). -/
def TIM.STEP_OLD_LO_OLD : Fld := { off := 0x60000 + 0x20, lo := 0, w := 32, ty := .ro, reset := 0, half := .lo }

/-- TIM_STEP_OLD_HI.STEP_OLD_HI_OLD (R365). -/
def TIM.STEP_OLD_HI_OLD : Fld := { off := 0x60000 + 0x24, lo := 0, w := 32, ty := .ro, reset := 0, half := .hi }

/-- TIM_STEP_NEW_LO.STEP_NEW_LO_NEW (R365). -/
def TIM.STEP_NEW_LO_NEW : Fld := { off := 0x60000 + 0x28, lo := 0, w := 32, ty := .ro, reset := 0, half := .lo }

/-- TIM_STEP_NEW_HI.STEP_NEW_HI_NEW (R365). -/
def TIM.STEP_NEW_HI_NEW : Fld := { off := 0x60000 + 0x2c, lo := 0, w := 32, ty := .ro, reset := 0, half := .hi }

/-- TIM_GM_LO.GM_LO_GM (R365). -/
def TIM.GM_LO_GM : Fld := { off := 0x60000 + 0x30, lo := 0, w := 32, ty := .ro, reset := 0, half := .lo }

/-- TIM_GM_HI.GM_HI_GM (R365). -/
def TIM.GM_HI_GM : Fld := { off := 0x60000 + 0x34, lo := 0, w := 32, ty := .ro, reset := 0, half := .hi }

/-- TIM_CFG.CFG_SRC (R365). -/
def TIM.CFG_SRC : Fld := { off := 0x60000 + 0x38, lo := 0, w := 2, ty := .rw, reset := 0 }

/-- TIM_EVTEN.EVTEN_EN (R365). -/
def TIM.EVTEN_EN : Fld := { off := 0x60000 + 0x3c, lo := 1, w := 7, ty := .rw, reset := 127 }

/-- TIM_INJ.INJ_GMCHG (R365). -/
def TIM.INJ_GMCHG : Fld := { off := 0x60000 + 0x40, lo := 1, w := 1, ty := .wo, reset := 0 }
/-- TIM_INJ.INJ_SYNCTO (R365). -/
def TIM.INJ_SYNCTO : Fld := { off := 0x60000 + 0x40, lo := 0, w := 1, ty := .wo, reset := 0 }

/-- ETHn_CFG.CFG_PRIO1 (R365). -/
def ETH.CFG_PRIO1 (n : Nat) : Fld := { off := 0x120000 + 0x100 * n + 0x0, lo := 24, w := 8, ty := .rw, reset := 248 }
/-- ETHn_CFG.CFG_DOMAIN (R365). -/
def ETH.CFG_DOMAIN (n : Nat) : Fld := { off := 0x120000 + 0x100 * n + 0x0, lo := 16, w := 7, ty := .rw, reset := 0 }
/-- ETHn_CFG.CFG_ROLE (R365). -/
def ETH.CFG_ROLE (n : Nat) : Fld := { off := 0x120000 + 0x100 * n + 0x0, lo := 3, w := 2, ty := .rw, reset := 1 }
/-- ETHn_CFG.CFG_STATIC (R365). -/
def ETH.CFG_STATIC (n : Nat) : Fld := { off := 0x120000 + 0x100 * n + 0x0, lo := 2, w := 1, ty := .rw, reset := 0 }
/-- ETHn_CFG.CFG_GMCAP (R365). -/
def ETH.CFG_GMCAP (n : Nat) : Fld := { off := 0x120000 + 0x100 * n + 0x0, lo := 1, w := 1, ty := .rw, reset := 0 }
/-- ETHn_CFG.CFG_EN (R365). -/
def ETH.CFG_EN (n : Nat) : Fld := { off := 0x120000 + 0x100 * n + 0x0, lo := 0, w := 1, ty := .rw, reset := 0 }

/-- ETHn_STAT.STAT_ROLE_ACT (R365). -/
def ETH.STAT_ROLE_ACT (n : Nat) : Fld := { off := 0x120000 + 0x100 * n + 0x4, lo := 5, w := 2, ty := .ro, reset := 0 }
/-- ETHn_STAT.STAT_ASCAP (R365). -/
def ETH.STAT_ASCAP (n : Nat) : Fld := { off := 0x120000 + 0x100 * n + 0x4, lo := 4, w := 1, ty := .ro, reset := 0 }
/-- ETHn_STAT.STAT_LINK (R365). -/
def ETH.STAT_LINK (n : Nat) : Fld := { off := 0x120000 + 0x100 * n + 0x4, lo := 3, w := 1, ty := .ro, reset := 0 }
/-- ETHn_STAT.STAT_RATE_ACT (R365). -/
def ETH.STAT_RATE_ACT (n : Nat) : Fld := { off := 0x120000 + 0x100 * n + 0x4, lo := 0, w := 3, ty := .ro, reset := 0 }

/-- ETHn_LAT25.LAT25_RX (R365). -/
def ETH.LAT25_RX (n : Nat) : Fld := { off := 0x120000 + 0x100 * n + 0x8, lo := 16, w := 16, ty := .rw, reset := 0 }
/-- ETHn_LAT25.LAT25_TX (R365). -/
def ETH.LAT25_TX (n : Nat) : Fld := { off := 0x120000 + 0x100 * n + 0x8, lo := 0, w := 16, ty := .rw, reset := 0 }

/-- ETHn_LAT5.LAT5_RX (R365). -/
def ETH.LAT5_RX (n : Nat) : Fld := { off := 0x120000 + 0x100 * n + 0xc, lo := 16, w := 16, ty := .rw, reset := 0 }
/-- ETHn_LAT5.LAT5_TX (R365). -/
def ETH.LAT5_TX (n : Nat) : Fld := { off := 0x120000 + 0x100 * n + 0xc, lo := 0, w := 16, ty := .rw, reset := 0 }

/-- ETHn_LAT10.LAT10_RX (R365). -/
def ETH.LAT10_RX (n : Nat) : Fld := { off := 0x120000 + 0x100 * n + 0x10, lo := 16, w := 16, ty := .rw, reset := 0 }
/-- ETHn_LAT10.LAT10_TX (R365). -/
def ETH.LAT10_TX (n : Nat) : Fld := { off := 0x120000 + 0x100 * n + 0x10, lo := 0, w := 16, ty := .rw, reset := 0 }

/-- ETHn_PDELAY.PDELAY_DELAY (R365). -/
def ETH.PDELAY_DELAY (n : Nat) : Fld := { off := 0x120000 + 0x100 * n + 0x14, lo := 0, w := 32, ty := .ro, reset := 0 }

/-- ETHn_NRR.NRR (R365). -/
def ETH.NRR (n : Nat) : Fld := { off := 0x120000 + 0x100 * n + 0x18, lo := 0, w := 32, ty := .ro, reset := 0 }

/-- ETHn_INTV.INTV_ANNTO (R365). -/
def ETH.INTV_ANNTO (n : Nat) : Fld := { off := 0x120000 + 0x100 * n + 0x1c, lo := 24, w := 8, ty := .rw, reset := 3 }
/-- ETHn_INTV.INTV_SYNCTO (R365). -/
def ETH.INTV_SYNCTO (n : Nat) : Fld := { off := 0x120000 + 0x100 * n + 0x1c, lo := 16, w := 8, ty := .rw, reset := 3 }
/-- ETHn_INTV.INTV_PDLOG (R365). -/
def ETH.INTV_PDLOG (n : Nat) : Fld := { off := 0x120000 + 0x100 * n + 0x1c, lo := 8, w := 8, ty := .rw, reset := 0 }
/-- ETHn_INTV.INTV_SYNCLOG (R365). -/
def ETH.INTV_SYNCLOG (n : Nat) : Fld := { off := 0x120000 + 0x100 * n + 0x1c, lo := 0, w := 8, ty := .ro, reset := 253 }

/-- ETHn_TXSTAMP.TXSTAMP_TIME (R365). -/
def ETH.TXSTAMP_TIME (n : Nat) : Fld := { off := 0x120000 + 0x100 * n + 0x20, lo := 0, w := 32, ty := .ro, reset := 0 }

/-- ETHn_RXSTAMP.RXSTAMP_TIME (R365). -/
def ETH.RXSTAMP_TIME (n : Nat) : Fld := { off := 0x120000 + 0x100 * n + 0x24, lo := 0, w := 32, ty := .ro, reset := 0 }

/-- ETHn_CNT0.CNT0_RX_PTP (R365). -/
def ETH.CNT0_RX_PTP (n : Nat) : Fld := { off := 0x120000 + 0x100 * n + 0x28, lo := 16, w := 16, ty := .ro, reset := 0 }
/-- ETHn_CNT0.CNT0_RX_DISCARD (R365). -/
def ETH.CNT0_RX_DISCARD (n : Nat) : Fld := { off := 0x120000 + 0x100 * n + 0x28, lo := 0, w := 16, ty := .ro, reset := 0 }

/-- ETHn_CNT1.CNT1_SYNC_TMO (R365). -/
def ETH.CNT1_SYNC_TMO (n : Nat) : Fld := { off := 0x120000 + 0x100 * n + 0x2c, lo := 16, w := 16, ty := .ro, reset := 0 }
/-- ETHn_CNT1.CNT1_PDELAY_LOST (R365). -/
def ETH.CNT1_PDELAY_LOST (n : Nat) : Fld := { off := 0x120000 + 0x100 * n + 0x2c, lo := 0, w := 16, ty := .ro, reset := 0 }

/-- ETHn_CTL.CTL_CLR_CNT (R365). -/
def ETH.CTL_CLR_CNT (n : Nat) : Fld := { off := 0x120000 + 0x100 * n + 0x30, lo := 0, w := 1, ty := .wo, reset := 0 }

/-- ETHn_INJ.INJ_PDELAY (R365). -/
def ETH.INJ_PDELAY (n : Nat) : Fld := { off := 0x120000 + 0x100 * n + 0x34, lo := 0, w := 1, ty := .wo, reset := 0 }

/-- ETH_EVTEN.EVTEN_EN (R365). -/
def ETHG.EVTEN_EN : Fld := { off := 0x120000 + 0x1000, lo := 1, w := 5, ty := .rw, reset := 31 }

/-- CMD_SQ_BASE_LO.SQ_BASE_LO_BASE (R395). -/
def CMD.SQ_BASE_LO_BASE : Fld := { off := 0x10000 + 0x0, lo := 0, w := 32, ty := .rw, reset := 0, half := .lo, al6 := true }

/-- CMD_SQ_BASE_HI.SQ_BASE_HI_BASE (R395). -/
def CMD.SQ_BASE_HI_BASE : Fld := { off := 0x10000 + 0x4, lo := 0, w := 32, ty := .rw, reset := 0, half := .hi }

/-- CMD_CQ_BASE_LO.CQ_BASE_LO_BASE (R395). -/
def CMD.CQ_BASE_LO_BASE : Fld := { off := 0x10000 + 0x8, lo := 0, w := 32, ty := .rw, reset := 0, half := .lo, al6 := true }

/-- CMD_CQ_BASE_HI.CQ_BASE_HI_BASE (R395). -/
def CMD.CQ_BASE_HI_BASE : Fld := { off := 0x10000 + 0xc, lo := 0, w := 32, ty := .rw, reset := 0, half := .hi }

/-- CMD_CFG.CFG_COALN (R395). -/
def CMD.CFG_COALN : Fld := { off := 0x10000 + 0x10, lo := 24, w := 8, ty := .rw, reset := 1 }
/-- CMD_CFG.CFG_VEC (R395). -/
def CMD.CFG_VEC : Fld := { off := 0x10000 + 0x10, lo := 16, w := 6, ty := .rw, reset := 0 }
/-- CMD_CFG.CFG_RSZ (R395). -/
def CMD.CFG_RSZ : Fld := { off := 0x10000 + 0x10, lo := 8, w := 3, ty := .rw, reset := 0 }
/-- CMD_CFG.CFG_EN (R395). -/
def CMD.CFG_EN : Fld := { off := 0x10000 + 0x10, lo := 0, w := 1, ty := .rw, reset := 0 }

/-- CMD_COALT.COALT (R395). -/
def CMD.COALT : Fld := { off := 0x10000 + 0x14, lo := 0, w := 16, ty := .rw, reset := 20 }

/-- CMD_SQ_TAIL.SQ_TAIL_TAIL (R395). -/
def CMD.SQ_TAIL_TAIL : Fld := { off := 0x10000 + 0x18, lo := 0, w := 16, ty := .rw, reset := 0 }

/-- CMD_SQ_HEAD.SQ_HEAD_HEAD (R395). -/
def CMD.SQ_HEAD_HEAD : Fld := { off := 0x10000 + 0x1c, lo := 0, w := 16, ty := .ro, reset := 0 }

/-- CMD_CQ_HEAD.CQ_HEAD_HEAD (R395). -/
def CMD.CQ_HEAD_HEAD : Fld := { off := 0x10000 + 0x20, lo := 0, w := 16, ty := .rw, reset := 0 }

/-- CMD_CQ_TAIL.CQ_TAIL_TAIL (R395). -/
def CMD.CQ_TAIL_TAIL : Fld := { off := 0x10000 + 0x24, lo := 0, w := 16, ty := .ro, reset := 0 }

/-- CMD_STAT.STAT_SMB_BUSY (R395). -/
def CMD.STAT_SMB_BUSY : Fld := { off := 0x10000 + 0x28, lo := 16, w := 1, ty := .ro, reset := 0 }
/-- CMD_STAT.STAT_DEBUG (R395). -/
def CMD.STAT_DEBUG : Fld := { off := 0x10000 + 0x28, lo := 12, w := 3, ty := .ro, reset := 0 }
/-- CMD_STAT.STAT_RINGERR (R395). -/
def CMD.STAT_RINGERR : Fld := { off := 0x10000 + 0x28, lo := 10, w := 1, ty := .w1c, reset := 0 }
/-- CMD_STAT.STAT_SEALED_WR (R395). -/
def CMD.STAT_SEALED_WR : Fld := { off := 0x10000 + 0x28, lo := 9, w := 1, ty := .w1c, reset := 0 }
/-- CMD_STAT.STAT_ARMED (R395). -/
def CMD.STAT_ARMED : Fld := { off := 0x10000 + 0x28, lo := 8, w := 1, ty := .ro, reset := 0 }
/-- CMD_STAT.STAT_WARDEN (R395). -/
def CMD.STAT_WARDEN : Fld := { off := 0x10000 + 0x28, lo := 4, w := 2, ty := .ro, reset := 0 }
/-- CMD_STAT.STAT_SVC (R395). -/
def CMD.STAT_SVC : Fld := { off := 0x10000 + 0x28, lo := 0, w := 3, ty := .ro, reset := 0 }

/-- CMD_EPOCH_ARM.EPOCH_ARM_ARM (R395). -/
def CMD.EPOCH_ARM_ARM : Fld := { off := 0x10000 + 0x2c, lo := 0, w := 32, ty := .ro, reset := 0 }

/-- CMD_EPOCH_LAST.EPOCH_LAST_LAST (R395). -/
def CMD.EPOCH_LAST_LAST : Fld := { off := 0x10000 + 0x30, lo := 0, w := 32, ty := .ro, reset := 0 }

/-- CMD_EPOCH_TIME_LO.EPOCH_TIME_LO_TIME (R395). -/
def CMD.EPOCH_TIME_LO_TIME : Fld := { off := 0x10000 + 0x34, lo := 0, w := 32, ty := .ro, reset := 0, half := .lo }

/-- CMD_EPOCH_TIME_HI.EPOCH_TIME_HI_TIME (R395). -/
def CMD.EPOCH_TIME_HI_TIME : Fld := { off := 0x10000 + 0x38, lo := 0, w := 32, ty := .ro, reset := 0, half := .hi }

/-- CMD_BOOT.BOOT_SCNT (R395). -/
def CMD.BOOT_SCNT : Fld := { off := 0x10000 + 0x3c, lo := 16, w := 6, ty := .ro, reset := 0 }
/-- CMD_BOOT.BOOT_WCNT (R395). -/
def CMD.BOOT_WCNT : Fld := { off := 0x10000 + 0x3c, lo := 8, w := 6, ty := .ro, reset := 0 }
/-- CMD_BOOT.BOOT_SSPLIT (R395). -/
def CMD.BOOT_SSPLIT : Fld := { off := 0x10000 + 0x3c, lo := 5, w := 1, ty := .ro, reset := 0 }
/-- CMD_BOOT.BOOT_WSPLIT (R395). -/
def CMD.BOOT_WSPLIT : Fld := { off := 0x10000 + 0x3c, lo := 4, w := 1, ty := .ro, reset := 0 }
/-- CMD_BOOT.BOOT_SCOPY (R395). -/
def CMD.BOOT_SCOPY : Fld := { off := 0x10000 + 0x3c, lo := 2, w := 2, ty := .ro, reset := 0 }
/-- CMD_BOOT.BOOT_WCOPY (R395). -/
def CMD.BOOT_WCOPY : Fld := { off := 0x10000 + 0x3c, lo := 0, w := 2, ty := .ro, reset := 0 }

/-- CMD_FWVER_WDN.FWVER_WDN_VERSION (R395). -/
def CMD.FWVER_WDN_VERSION : Fld := { off := 0x10000 + 0x40, lo := 0, w := 32, ty := .ro, reset := 0 }

/-- CMD_FWVER_SVC.FWVER_SVC_VERSION (R395). -/
def CMD.FWVER_SVC_VERSION : Fld := { off := 0x10000 + 0x44, lo := 0, w := 32, ty := .ro, reset := 0 }

/-- CMD_EVTEN.EVTEN_EN (R395). -/
def CMD.EVTEN_EN : Fld := { off := 0x10000 + 0x48, lo := 1, w := 11, ty := .rw, reset := 2047 }

/-- CMD_INJ.INJ_LAPSE (R395). -/
def CMD.INJ_LAPSE : Fld := { off := 0x10000 + 0x4c, lo := 2, w := 1, ty := .wo, reset := 0 }
/-- CMD_INJ.INJ_SPLIT (R395). -/
def CMD.INJ_SPLIT : Fld := { off := 0x10000 + 0x4c, lo := 1, w := 1, ty := .wo, reset := 0 }
/-- CMD_INJ.INJ_ACCESS (R395). -/
def CMD.INJ_ACCESS : Fld := { off := 0x10000 + 0x4c, lo := 0, w := 1, ty := .wo, reset := 0 }

/-- TWB_Pp_CFG.CFG_TLOTMO (R415). -/
def TWB.CFG_TLOTMO (n : Nat) : Fld := { off := 0xD0000 + 0x40 * n + 0x0, lo := 16, w := 8, ty := .rw, reset := 30 }
/-- TWB_Pp_CFG.CFG_TDLTMO (R415). -/
def TWB.CFG_TDLTMO (n : Nat) : Fld := { off := 0xD0000 + 0x40 * n + 0x0, lo := 8, w := 8, ty := .rw, reset := 35 }
/-- TWB_Pp_CFG.CFG_PEC (R415). -/
def TWB.CFG_PEC (n : Nat) : Fld := { off := 0xD0000 + 0x40 * n + 0x0, lo := 1, w := 1, ty := .rw, reset := 0 }
/-- TWB_Pp_CFG.CFG_EN (R415). -/
def TWB.CFG_EN (n : Nat) : Fld := { off := 0xD0000 + 0x40 * n + 0x0, lo := 0, w := 1, ty := .rw, reset := 1 }

/-- TWB_Pp_TIM0.TIM0_HIGH (R415). -/
def TWB.TIM0_HIGH (n : Nat) : Fld := { off := 0xD0000 + 0x40 * n + 0x4, lo := 16, w := 16, ty := .rw, reset := 108 }
/-- TWB_Pp_TIM0.TIM0_LOW (R415). -/
def TWB.TIM0_LOW (n : Nat) : Fld := { off := 0xD0000 + 0x40 * n + 0x4, lo := 0, w := 16, ty := .rw, reset := 192 }

/-- TWB_Pp_TIM1.TIM1_HDSTA (R415). -/
def TWB.TIM1_HDSTA (n : Nat) : Fld := { off := 0xD0000 + 0x40 * n + 0x8, lo := 16, w := 16, ty := .rw, reset := 72 }
/-- TWB_Pp_TIM1.TIM1_SUSTA (R415). -/
def TWB.TIM1_SUSTA (n : Nat) : Fld := { off := 0xD0000 + 0x40 * n + 0x8, lo := 0, w := 16, ty := .rw, reset := 72 }

/-- TWB_Pp_TIM2.TIM2_SUSTO (R415). -/
def TWB.TIM2_SUSTO (n : Nat) : Fld := { off := 0xD0000 + 0x40 * n + 0xc, lo := 16, w := 16, ty := .rw, reset := 72 }
/-- TWB_Pp_TIM2.TIM2_BUF (R415). -/
def TWB.TIM2_BUF (n : Nat) : Fld := { off := 0xD0000 + 0x40 * n + 0xc, lo := 0, w := 16, ty := .rw, reset := 156 }

/-- TWB_Pp_TIM3.TIM3_HDDAT (R415). -/
def TWB.TIM3_HDDAT (n : Nat) : Fld := { off := 0xD0000 + 0x40 * n + 0x10, lo := 16, w := 16, ty := .rw, reset := 36 }
/-- TWB_Pp_TIM3.TIM3_SUDAT (R415). -/
def TWB.TIM3_SUDAT (n : Nat) : Fld := { off := 0xD0000 + 0x40 * n + 0x10, lo := 0, w := 16, ty := .rw, reset := 12 }

/-- TWB_Pp_STAT.STAT_LASTERR (R415). -/
def TWB.STAT_LASTERR (n : Nat) : Fld := { off := 0xD0000 + 0x40 * n + 0x14, lo := 16, w := 8, ty := .ro, reset := 0 }
/-- TWB_Pp_STAT.STAT_NACK_STKY (R415). -/
def TWB.STAT_NACK_STKY (n : Nat) : Fld := { off := 0xD0000 + 0x40 * n + 0x14, lo := 11, w := 1, ty := .w1c, reset := 0 }
/-- TWB_Pp_STAT.STAT_ARB_STKY (R415). -/
def TWB.STAT_ARB_STKY (n : Nat) : Fld := { off := 0xD0000 + 0x40 * n + 0x14, lo := 10, w := 1, ty := .w1c, reset := 0 }
/-- TWB_Pp_STAT.STAT_SDA_TMO_STKY (R415). -/
def TWB.STAT_SDA_TMO_STKY (n : Nat) : Fld := { off := 0xD0000 + 0x40 * n + 0x14, lo := 9, w := 1, ty := .w1c, reset := 0 }
/-- TWB_Pp_STAT.STAT_SCL_TMO_STKY (R415). -/
def TWB.STAT_SCL_TMO_STKY (n : Nat) : Fld := { off := 0xD0000 + 0x40 * n + 0x14, lo := 8, w := 1, ty := .w1c, reset := 0 }
/-- TWB_Pp_STAT.STAT_SDA_LOW (R415). -/
def TWB.STAT_SDA_LOW (n : Nat) : Fld := { off := 0xD0000 + 0x40 * n + 0x14, lo := 3, w := 1, ty := .ro, reset := 0 }
/-- TWB_Pp_STAT.STAT_SCL_LOW (R415). -/
def TWB.STAT_SCL_LOW (n : Nat) : Fld := { off := 0xD0000 + 0x40 * n + 0x14, lo := 2, w := 1, ty := .ro, reset := 0 }
/-- TWB_Pp_STAT.STAT_FENCED (R415). -/
def TWB.STAT_FENCED (n : Nat) : Fld := { off := 0xD0000 + 0x40 * n + 0x14, lo := 1, w := 1, ty := .ro, reset := 0 }
/-- TWB_Pp_STAT.STAT_BUSY (R415). -/
def TWB.STAT_BUSY (n : Nat) : Fld := { off := 0xD0000 + 0x40 * n + 0x14, lo := 0, w := 1, ty := .ro, reset := 0 }

/-- TWB_Pp_CNT0.CNT0_NACK (R415). -/
def TWB.CNT0_NACK (n : Nat) : Fld := { off := 0xD0000 + 0x40 * n + 0x18, lo := 16, w := 16, ty := .ro, reset := 0 }
/-- TWB_Pp_CNT0.CNT0_XFER (R415). -/
def TWB.CNT0_XFER (n : Nat) : Fld := { off := 0xD0000 + 0x40 * n + 0x18, lo := 0, w := 16, ty := .ro, reset := 0 }

/-- TWB_Pp_CNT1.CNT1_TIMEOUT (R415). -/
def TWB.CNT1_TIMEOUT (n : Nat) : Fld := { off := 0xD0000 + 0x40 * n + 0x1c, lo := 16, w := 16, ty := .ro, reset := 0 }
/-- TWB_Pp_CNT1.CNT1_ARB_LOST (R415). -/
def TWB.CNT1_ARB_LOST (n : Nat) : Fld := { off := 0xD0000 + 0x40 * n + 0x1c, lo := 0, w := 16, ty := .ro, reset := 0 }

/-- TWB_Pp_CNT2.CNT2_CLEAR (R415). -/
def TWB.CNT2_CLEAR (n : Nat) : Fld := { off := 0xD0000 + 0x40 * n + 0x20, lo := 16, w := 16, ty := .ro, reset := 0 }
/-- TWB_Pp_CNT2.CNT2_PEC_ERR (R415). -/
def TWB.CNT2_PEC_ERR (n : Nat) : Fld := { off := 0xD0000 + 0x40 * n + 0x20, lo := 0, w := 16, ty := .ro, reset := 0 }

/-- TWB_Pp_CTL.CTL_CLR_CNT (R415). -/
def TWB.CTL_CLR_CNT (n : Nat) : Fld := { off := 0xD0000 + 0x40 * n + 0x24, lo := 0, w := 1, ty := .wo, reset := 0 }

/-- TWB_Pp_INJ.INJ_SCLTMO (R415). -/
def TWB.INJ_SCLTMO (n : Nat) : Fld := { off := 0xD0000 + 0x40 * n + 0x28, lo := 2, w := 1, ty := .wo, reset := 0 }
/-- TWB_Pp_INJ.INJ_STUCK (R415). -/
def TWB.INJ_STUCK (n : Nat) : Fld := { off := 0xD0000 + 0x40 * n + 0x28, lo := 1, w := 1, ty := .wo, reset := 0 }
/-- TWB_Pp_INJ.INJ_NACK (R415). -/
def TWB.INJ_NACK (n : Nat) : Fld := { off := 0xD0000 + 0x40 * n + 0x28, lo := 0, w := 1, ty := .wo, reset := 0 }

/-- TWB_STP_CFG.STP_CFG_TLOTMO (R415). -/
def TWBG.STP_CFG_TLOTMO : Fld := { off := 0xD0000 + 0x800, lo := 16, w := 8, ty := .rw, reset := 30 }
/-- TWB_STP_CFG.STP_CFG_PEC_REQ (R415). -/
def TWBG.STP_CFG_PEC_REQ : Fld := { off := 0xD0000 + 0x800, lo := 1, w := 1, ty := .rw, reset := 0 }
/-- TWB_STP_CFG.STP_CFG_EN (R415). -/
def TWBG.STP_CFG_EN : Fld := { off := 0xD0000 + 0x800, lo := 0, w := 1, ty := .rw, reset := 1 }

/-- TWB_STP_TIM.STP_TIM_HDDAT (R415). -/
def TWBG.STP_TIM_HDDAT : Fld := { off := 0xD0000 + 0x804, lo := 0, w := 16, ty := .rw, reset := 36 }

/-- TWB_STP_STAT.STP_STAT_ADDR (R415). -/
def TWBG.STP_STAT_ADDR : Fld := { off := 0xD0000 + 0x808, lo := 16, w := 7, ty := .ro, reset := 0 }
/-- TWB_STP_STAT.STP_STAT_STRAP_BAD (R415). -/
def TWBG.STP_STAT_STRAP_BAD : Fld := { off := 0xD0000 + 0x808, lo := 15, w := 1, ty := .ro, reset := 0 }
/-- TWB_STP_STAT.STP_STAT_WAKE_STKY (R415). -/
def TWBG.STP_STAT_WAKE_STKY : Fld := { off := 0xD0000 + 0x808, lo := 3, w := 1, ty := .w1c, reset := 0 }
/-- TWB_STP_STAT.STP_STAT_PEC_STKY (R415). -/
def TWBG.STP_STAT_PEC_STKY : Fld := { off := 0xD0000 + 0x808, lo := 2, w := 1, ty := .w1c, reset := 0 }
/-- TWB_STP_STAT.STP_STAT_ABANDON_STKY (R415). -/
def TWBG.STP_STAT_ABANDON_STKY : Fld := { off := 0xD0000 + 0x808, lo := 1, w := 1, ty := .w1c, reset := 0 }
/-- TWB_STP_STAT.STP_STAT_BUSY (R415). -/
def TWBG.STP_STAT_BUSY : Fld := { off := 0xD0000 + 0x808, lo := 0, w := 1, ty := .ro, reset := 0 }

/-- TWB_STP_CNT.STP_CNT_PEC_ERR (R415). -/
def TWBG.STP_CNT_PEC_ERR : Fld := { off := 0xD0000 + 0x80c, lo := 16, w := 16, ty := .ro, reset := 0 }
/-- TWB_STP_CNT.STP_CNT_ABANDONED (R415). -/
def TWBG.STP_CNT_ABANDONED : Fld := { off := 0xD0000 + 0x80c, lo := 0, w := 16, ty := .ro, reset := 0 }

/-- TWB_EVTEN.EVTEN_EN (R415). -/
def TWBG.EVTEN_EN : Fld := { off := 0xD0000 + 0xc00, lo := 1, w := 8, ty := .rw, reset := 247 }

/-- THM_STAT.STAT_THROTTLE (R431). -/
def THM.STAT_THROTTLE : Fld := { off := 0xF0000 + 0x0, lo := 24, w := 4, ty := .ro, reset := 0 }
/-- THM_STAT.STAT_SHUT_CAUSE (R431). -/
def THM.STAT_SHUT_CAUSE : Fld := { off := 0xF0000 + 0x0, lo := 18, w := 2, ty := .ros, reset := 0 }
/-- THM_STAT.STAT_FALLBACK (R431). -/
def THM.STAT_FALLBACK : Fld := { off := 0xF0000 + 0x0, lo := 17, w := 1, ty := .ro, reset := 0 }
/-- THM_STAT.STAT_NAND_OK (R431). -/
def THM.STAT_NAND_OK : Fld := { off := 0xF0000 + 0x0, lo := 16, w := 1, ty := .ro, reset := 0 }
/-- THM_STAT.STAT_BAND (R431). -/
def THM.STAT_BAND : Fld := { off := 0xF0000 + 0x0, lo := 0, w := 3, ty := .ro, reset := 1 }

/-- THM_TJ.TJ_PEAK (R431). -/
def THM.TJ_PEAK : Fld := { off := 0xF0000 + 0x4, lo := 16, w := 16, ty := .ro, reset := 0 }
/-- THM_TJ.TJ (R431). -/
def THM.TJ : Fld := { off := 0xF0000 + 0x4, lo := 0, w := 16, ty := .ro, reset := 0 }

/-- THM_TBAND.TBAND (R431). -/
def THM.TBAND : Fld := { off := 0xF0000 + 0x8, lo := 0, w := 16, ty := .ro, reset := 0 }

/-- THM_TNAND.TNAND_MAX (R431). -/
def THM.TNAND_MAX : Fld := { off := 0xF0000 + 0xc, lo := 16, w := 16, ty := .ro, reset := 0 }
/-- THM_TNAND.TNAND_MIN (R431). -/
def THM.TNAND_MIN : Fld := { off := 0xF0000 + 0xc, lo := 0, w := 16, ty := .ro, reset := 0 }

/-- THM_TCASE.TCASE_INVALID (R431). -/
def THM.TCASE_INVALID : Fld := { off := 0xF0000 + 0x10, lo := 31, w := 1, ty := .ro, reset := 0 }
/-- THM_TCASE.TCASE_CASE (R431). -/
def THM.TCASE_CASE : Fld := { off := 0xF0000 + 0x10, lo := 0, w := 16, ty := .ro, reset := 0 }

/-- THM_CLK.CLK_MHZ (R431). -/
def THM.CLK_MHZ : Fld := { off := 0xF0000 + 0x14, lo := 0, w := 16, ty := .ro, reset := 1200 }

/-- THM_THR_MS.THR_MS_MS (R431). -/
def THM.THR_MS_MS : Fld := { off := 0xF0000 + 0x18, lo := 0, w := 32, ty := .ro, reset := 0 }

/-- THM_DEFER.DEFER_US (R431). -/
def THM.DEFER_US : Fld := { off := 0xF0000 + 0x1c, lo := 0, w := 16, ty := .ros, reset := 0 }

/-- THM_DIODEd.DIODE_INVALID (R431). -/
def THM.DIODE_INVALID (k : Nat) : Fld := { off := 0xF0000 + 0x20 + 4 * k, lo := 31, w := 1, ty := .ro, reset := 0 }
/-- THM_DIODEd.DIODE_TEMP (R431). -/
def THM.DIODE_TEMP (k : Nat) : Fld := { off := 0xF0000 + 0x20 + 4 * k, lo := 0, w := 16, ty := .ro, reset := 0 }

/-- THM_NODEk.NODE_TEMP (R431). -/
def THM.NODE_TEMP (k : Nat) : Fld := { off := 0xF0000 + 0x40 + 4 * k, lo := 0, w := 16, ty := .ro, reset := 0 }

/-- THM_RAILr_P.RAIL_P_MW (R431). -/
def THM.RAIL_P_MW (k : Nat) : Fld := { off := 0xF0000 + 0xa0 + 4 * k, lo := 0, w := 32, ty := .ro, reset := 0 }

/-- THM_PIN.PIN_MW (R431). -/
def THM.PIN_MW : Fld := { off := 0xF0000 + 0xc0, lo := 0, w := 32, ty := .ro, reset := 0 }

/-- THM_CFG.CFG_ALARM (R431). -/
def THM.CFG_ALARM : Fld := { off := 0xF0000 + 0xd0, lo := 0, w := 16, ty := .rw, reset := 7680 }

/-- THM_TLPK_DATA.TLPK_DATA_DATA (R431). -/
def THM.TLPK_DATA_DATA : Fld := { off := 0xF0000 + 0xd4, lo := 0, w := 32, ty := .ro, reset := 0 }

/-- THM_TLPK_STAT.TLPK_STAT_UNDERRUN (R431). -/
def THM.TLPK_STAT_UNDERRUN : Fld := { off := 0xF0000 + 0xd8, lo := 8, w := 1, ty := .w1c, reset := 0 }
/-- THM_TLPK_STAT.TLPK_STAT_LEVEL (R431). -/
def THM.TLPK_STAT_LEVEL : Fld := { off := 0xF0000 + 0xd8, lo := 0, w := 3, ty := .ro, reset := 0 }

/-- THM_EVTEN.EVTEN_EN (R431). -/
def THM.EVTEN_EN : Fld := { off := 0xF0000 + 0xdc, lo := 1, w := 8, ty := .rw, reset := 255 }

/-- THM_CTL.CTL_CLR_SHUT (R431). -/
def THM.CTL_CLR_SHUT : Fld := { off := 0xF0000 + 0xe0, lo := 1, w := 1, ty := .wo, reset := 0 }
/-- THM_CTL.CTL_CLR_PEAK (R431). -/
def THM.CTL_CLR_PEAK : Fld := { off := 0xF0000 + 0xe0, lo := 0, w := 1, ty := .wo, reset := 0 }

/-- THM_INJ_OFS.INJ_OFS_OFS (R431). -/
def THM.INJ_OFS_OFS : Fld := { off := 0xF0000 + 0xe4, lo := 0, w := 16, ty := .rw, reset := 0 }

/-- THM_INJ.INJ_DIODE (R431). -/
def THM.INJ_DIODE : Fld := { off := 0xF0000 + 0xe8, lo := 2, w := 1, ty := .wo, reset := 0 }
/-- THM_INJ.INJ_CASE (R431). -/
def THM.INJ_CASE : Fld := { off := 0xF0000 + 0xe8, lo := 1, w := 1, ty := .wo, reset := 0 }
/-- THM_INJ.INJ_FALLBACK (R431). -/
def THM.INJ_FALLBACK : Fld := { off := 0xF0000 + 0xe8, lo := 0, w := 1, ty := .wo, reset := 0 }

/-- DIA_SVC_CFG.SVC_CFG_AUTORESTART (R449). -/
def DIA.SVC_CFG_AUTORESTART : Fld := { off := 0x100000 + 0x0, lo := 16, w := 1, ty := .rw, reset := 1 }
/-- DIA_SVC_CFG.SVC_CFG_TMO (R449). -/
def DIA.SVC_CFG_TMO : Fld := { off := 0x100000 + 0x0, lo := 0, w := 16, ty := .rw, reset := 50 }

/-- DIA_SVC_STAT.SVC_STAT_RESTARTS (R449). -/
def DIA.SVC_STAT_RESTARTS : Fld := { off := 0x100000 + 0x4, lo := 16, w := 16, ty := .ro, reset := 0 }
/-- DIA_SVC_STAT.SVC_STAT_STOPPED_STKY (R449). -/
def DIA.SVC_STAT_STOPPED_STKY : Fld := { off := 0x100000 + 0x4, lo := 0, w := 1, ty := .w1c, reset := 0 }

/-- DIA_ROT_CFG.ROT_CFG_PERIOD (R449). -/
def DIA.ROT_CFG_PERIOD : Fld := { off := 0x100000 + 0x10, lo := 16, w := 16, ty := .rw, reset := 100 }
/-- DIA_ROT_CFG.ROT_CFG_DRAINTMO (R449). -/
def DIA.ROT_CFG_DRAINTMO : Fld := { off := 0x100000 + 0x10, lo := 8, w := 8, ty := .rw, reset := 10 }
/-- DIA_ROT_CFG.ROT_CFG_EN (R449). -/
def DIA.ROT_CFG_EN : Fld := { off := 0x100000 + 0x10, lo := 0, w := 1, ty := .rw, reset := 1 }

/-- DIA_ROT_CNT.ROT_CNT_SKIPPED (R449). -/
def DIA.ROT_CNT_SKIPPED : Fld := { off := 0x100000 + 0x14, lo := 16, w := 16, ty := .ro, reset := 0 }
/-- DIA_ROT_CNT.ROT_CNT_PASSES (R449). -/
def DIA.ROT_CNT_PASSES : Fld := { off := 0x100000 + 0x14, lo := 0, w := 16, ty := .ro, reset := 0 }

/-- DIA_ST_LAST.ST_LAST_ENGINE (R449). -/
def DIA.ST_LAST_ENGINE : Fld := { off := 0x100000 + 0x18, lo := 16, w := 8, ty := .ro, reset := 0 }
/-- DIA_ST_LAST.ST_LAST_RESULT (R449). -/
def DIA.ST_LAST_RESULT : Fld := { off := 0x100000 + 0x18, lo := 0, w := 8, ty := .ro, reset := 0 }

/-- DIA_ST_ADDR.ST_ADDR_ADDR (R449). -/
def DIA.ST_ADDR_ADDR : Fld := { off := 0x100000 + 0x1c, lo := 0, w := 32, ty := .ro, reset := 0 }

/-- DIA_SBn.SB_NEXT (R449). -/
def DIA.SB_NEXT (k : Nat) : Fld := { off := 0x100000 + 0x20 + 4 * k, lo := 16, w := 8, ty := .ro, reset := 32 * k }
/-- DIA_SBn.SB_SERVES (R449). -/
def DIA.SB_SERVES (k : Nat) : Fld := { off := 0x100000 + 0x20 + 4 * k, lo := 8, w := 8, ty := .ro, reset := 255 }
/-- DIA_SBn.SB_STATE (R449). -/
def DIA.SB_STATE (k : Nat) : Fld := { off := 0x100000 + 0x20 + 4 * k, lo := 0, w := 3, ty := .ro, reset := 0 }

/-- DIA_AUTO.AUTO_CLUE (R449). -/
def DIA.AUTO_CLUE : Fld := { off := 0x100000 + 0x30, lo := 24, w := 8, ty := .rw, reset := 16 }
/-- DIA_AUTO.AUTO_CHUE (R449). -/
def DIA.AUTO_CHUE : Fld := { off := 0x100000 + 0x30, lo := 16, w := 8, ty := .rw, reset := 16 }
/-- DIA_AUTO.AUTO_CL_EN (R449). -/
def DIA.AUTO_CL_EN : Fld := { off := 0x100000 + 0x30, lo := 2, w := 1, ty := .rw, reset := 0 }
/-- DIA_AUTO.AUTO_CH_EN (R449). -/
def DIA.AUTO_CH_EN : Fld := { off := 0x100000 + 0x30, lo := 1, w := 1, ty := .rw, reset := 0 }
/-- DIA_AUTO.AUTO_ENG_EN (R449). -/
def DIA.AUTO_ENG_EN : Fld := { off := 0x100000 + 0x30, lo := 0, w := 1, ty := .rw, reset := 1 }

/-- DIA_TEL_CFG.TEL_CFG_PERIOD (R449). -/
def DIA.TEL_CFG_PERIOD : Fld := { off := 0x100000 + 0x40, lo := 16, w := 16, ty := .rw, reset := 100 }
/-- DIA_TEL_CFG.TEL_CFG_DQ62 (R449). -/
def DIA.TEL_CFG_DQ62 : Fld := { off := 0x100000 + 0x40, lo := 1, w := 1, ty := .rw, reset := 0 }
/-- DIA_TEL_CFG.TEL_CFG_EN (R449). -/
def DIA.TEL_CFG_EN : Fld := { off := 0x100000 + 0x40, lo := 0, w := 1, ty := .rw, reset := 1 }

/-- DIA_TEL_SEQ.TEL_SEQ_SEQ (R449). -/
def DIA.TEL_SEQ_SEQ : Fld := { off := 0x100000 + 0x44, lo := 0, w := 32, ty := .ro, reset := 0 }

/-- DIA_TEL_DROP.TEL_DROP_DROP (R449). -/
def DIA.TEL_DROP_DROP : Fld := { off := 0x100000 + 0x48, lo := 0, w := 32, ty := .ro, reset := 0 }

/-- DIA_BG.BG_MBPS (R449). -/
def DIA.BG_MBPS : Fld := { off := 0x100000 + 0x4c, lo := 0, w := 32, ty := .ro, reset := 0 }

/-- DIA_EVTEN.EVTEN_EN (R449). -/
def DIA.EVTEN_EN : Fld := { off := 0x100000 + 0x50, lo := 1, w := 11, ty := .rw, reset := 1523 }

/-- DIA_LOCK.LOCK_INJ (R449). -/
def DIA.LOCK_INJ : Fld := { off := 0x100000 + 0x54, lo := 0, w := 1, ty := .w1s, reset := 0 }

/-- DIA_INJ_EP.INJ_EP_PORT (R449). -/
def DIA.INJ_EP_PORT : Fld := { off := 0x100000 + 0x60, lo := 8, w := 3, ty := .wo, reset := 0 }
/-- DIA_INJ_EP.INJ_EP_KIND (R449). -/
def DIA.INJ_EP_KIND : Fld := { off := 0x100000 + 0x60, lo := 0, w := 4, ty := .wo, reset := 0 }

/-- DIA_INJ_AX.INJ_AX_AXIS (R449). -/
def DIA.INJ_AX_AXIS : Fld := { off := 0x100000 + 0x64, lo := 8, w := 3, ty := .wo, reset := 0 }
/-- DIA_INJ_AX.INJ_AX_SLIP (R449). -/
def DIA.INJ_AX_SLIP : Fld := { off := 0x100000 + 0x64, lo := 0, w := 1, ty := .wo, reset := 0 }

/-- DIA_INJ_TRO.INJ_TRO_STROBE (R449). -/
def DIA.INJ_TRO_STROBE : Fld := { off := 0x100000 + 0x68, lo := 8, w := 3, ty := .wo, reset := 0 }
/-- DIA_INJ_TRO.INJ_TRO_SKIP (R449). -/
def DIA.INJ_TRO_SKIP : Fld := { off := 0x100000 + 0x68, lo := 1, w := 1, ty := .wo, reset := 0 }
/-- DIA_INJ_TRO.INJ_TRO_CLIP (R449). -/
def DIA.INJ_TRO_CLIP : Fld := { off := 0x100000 + 0x68, lo := 0, w := 1, ty := .wo, reset := 0 }

/-- DIA_INJ_LNK.INJ_LNK_LINK (R449). -/
def DIA.INJ_LNK_LINK : Fld := { off := 0x100000 + 0x6c, lo := 8, w := 5, ty := .wo, reset := 0 }
/-- DIA_INJ_LNK.INJ_LNK_KIND (R449). -/
def DIA.INJ_LNK_KIND : Fld := { off := 0x100000 + 0x6c, lo := 0, w := 3, ty := .wo, reset := 0 }

/-- DIA_INJ_SYS.INJ_SYS_VINDIP (R449). -/
def DIA.INJ_SYS_VINDIP : Fld := { off := 0x100000 + 0x70, lo := 5, w := 1, ty := .wo, reset := 0 }
/-- DIA_INJ_SYS.INJ_SYS_STRAP_TW (R449). -/
def DIA.INJ_SYS_STRAP_TW : Fld := { off := 0x100000 + 0x70, lo := 4, w := 1, ty := .wo, reset := 0 }
/-- DIA_INJ_SYS.INJ_SYS_STRAP_MOD (R449). -/
def DIA.INJ_SYS_STRAP_MOD : Fld := { off := 0x100000 + 0x70, lo := 3, w := 1, ty := .wo, reset := 0 }
/-- DIA_INJ_SYS.INJ_SYS_SVC_HANG (R449). -/
def DIA.INJ_SYS_SVC_HANG : Fld := { off := 0x100000 + 0x70, lo := 1, w := 1, ty := .wo, reset := 0 }
/-- DIA_INJ_SYS.INJ_SYS_LOCKSTEP (R449). -/
def DIA.INJ_SYS_LOCKSTEP : Fld := { off := 0x100000 + 0x70, lo := 0, w := 1, ty := .wo, reset := 0 }

/-- DIA_INJ_ST.INJ_ST_FAIL (R449). -/
def DIA.INJ_ST_FAIL : Fld := { off := 0x100000 + 0x74, lo := 8, w := 1, ty := .wo, reset := 0 }
/-- DIA_INJ_ST.INJ_ST_ENGINE (R449). -/
def DIA.INJ_ST_ENGINE : Fld := { off := 0x100000 + 0x74, lo := 0, w := 8, ty := .wo, reset := 0 }

/-- SYS_PWR_CFG.PWR_CFG_HOLDMAX (R478). -/
def SYS.PWR_CFG_HOLDMAX : Fld := { off := 0x40, lo := 16, w := 16, ty := .rw, reset := 1000 }
/-- SYS_PWR_CFG.PWR_CFG_ENCKEEP (R478). -/
def SYS.PWR_CFG_ENCKEEP : Fld := { off := 0x40, lo := 8, w := 8, ty := .rw, reset := 0 }
/-- SYS_PWR_CFG.PWR_CFG_FAULTEN (R478). -/
def SYS.PWR_CFG_FAULTEN : Fld := { off := 0x40, lo := 0, w := 4, ty := .rw, reset := 15 }

/-- SYS_PWR_STAT.PWR_STAT_LAST_DOWN (R478). -/
def SYS.PWR_STAT_LAST_DOWN : Fld := { off := 0x44, lo := 28, w := 4, ty := .ros, reset := 7 }
/-- SYS_PWR_STAT.PWR_STAT_WAKE_SRC (R478). -/
def SYS.PWR_STAT_WAKE_SRC : Fld := { off := 0x44, lo := 24, w := 3, ty := .ros, reset := 0 }
/-- SYS_PWR_STAT.PWR_STAT_VAUX_OK (R478). -/
def SYS.PWR_STAT_VAUX_OK : Fld := { off := 0x44, lo := 8, w := 1, ty := .ro, reset := 0 }
/-- SYS_PWR_STAT.PWR_STAT_VIO_OK (R478). -/
def SYS.PWR_STAT_VIO_OK : Fld := { off := 0x44, lo := 7, w := 1, ty := .ro, reset := 0 }
/-- SYS_PWR_STAT.PWR_STAT_VCAM_FAULT (R478). -/
def SYS.PWR_STAT_VCAM_FAULT : Fld := { off := 0x44, lo := 6, w := 1, ty := .ro, reset := 0 }
/-- SYS_PWR_STAT.PWR_STAT_VIN_OVER_STKY (R478). -/
def SYS.PWR_STAT_VIN_OVER_STKY : Fld := { off := 0x44, lo := 5, w := 1, ty := .w1c, reset := 0 }
/-- SYS_PWR_STAT.PWR_STAT_VIN_WARN (R478). -/
def SYS.PWR_STAT_VIN_WARN : Fld := { off := 0x44, lo := 4, w := 1, ty := .w1c, reset := 0 }
/-- SYS_PWR_STAT.PWR_STAT_STATE (R478). -/
def SYS.PWR_STAT_STATE : Fld := { off := 0x44, lo := 0, w := 2, ty := .ro, reset := 0 }

/-- SYS_DIP.DIP_HOLDS (R478). -/
def SYS.DIP_HOLDS : Fld := { off := 0x48, lo := 16, w := 16, ty := .ro, reset := 0 }
/-- SYS_DIP.DIP_COUNT (R478). -/
def SYS.DIP_COUNT : Fld := { off := 0x48, lo := 0, w := 16, ty := .ro, reset := 0 }

/-- SYS_VIN.VIN_MIN (R478). -/
def SYS.VIN_MIN : Fld := { off := 0x4c, lo := 16, w := 16, ty := .ro, reset := 65535 }
/-- SYS_VIN.VIN_NOW (R478). -/
def SYS.VIN_NOW : Fld := { off := 0x4c, lo := 0, w := 16, ty := .ro, reset := 0 }

/-- SYS_VSUP.VSUP_VAUX (R478). -/
def SYS.VSUP_VAUX : Fld := { off := 0x50, lo := 16, w := 16, ty := .ro, reset := 0 }
/-- SYS_VSUP.VSUP_VCAM (R478). -/
def SYS.VSUP_VCAM : Fld := { off := 0x50, lo := 0, w := 16, ty := .ro, reset := 0 }

/-- SYS_VIO.VIO_VIO_H (R478). -/
def SYS.VIO_VIO_H : Fld := { off := 0x54, lo := 0, w := 16, ty := .ro, reset := 0 }

/-- SYS_SMLD_MS.SMLD_MS_MS (R478). -/
def SYS.SMLD_MS_MS : Fld := { off := 0x58, lo := 0, w := 32, ty := .ro, reset := 0 }

/-- SYS_WAKE_CFG.WAKE_CFG_AXIS (R478). -/
def SYS.WAKE_CFG_AXIS : Fld := { off := 0x5c, lo := 8, w := 3, ty := .rw, reset := 0 }
/-- SYS_WAKE_CFG.WAKE_CFG_VIN (R478). -/
def SYS.WAKE_CFG_VIN : Fld := { off := 0x5c, lo := 4, w := 1, ty := .rw, reset := 1 }
/-- SYS_WAKE_CFG.WAKE_CFG_TIME (R478). -/
def SYS.WAKE_CFG_TIME : Fld := { off := 0x5c, lo := 3, w := 1, ty := .rw, reset := 0 }
/-- SYS_WAKE_CFG.WAKE_CFG_AXIS_EN (R478). -/
def SYS.WAKE_CFG_AXIS_EN : Fld := { off := 0x5c, lo := 2, w := 1, ty := .rw, reset := 0 }
/-- SYS_WAKE_CFG.WAKE_CFG_WAKE_N (R478). -/
def SYS.WAKE_CFG_WAKE_N : Fld := { off := 0x5c, lo := 1, w := 1, ty := .rw, reset := 1 }

/-- SYS_WAKE_DIST.WAKE_DIST_DIST (R478). -/
def SYS.WAKE_DIST_DIST : Fld := { off := 0x60, lo := 0, w := 32, ty := .rw, reset := 0 }

/-- SYS_WAKE_TIME_LO.WAKE_TIME_LO_TIME (R478). -/
def SYS.WAKE_TIME_LO_TIME : Fld := { off := 0x64, lo := 0, w := 32, ty := .rw, reset := 0, half := .lo }

/-- SYS_WAKE_TIME_HI.WAKE_TIME_HI_TIME (R478). -/
def SYS.WAKE_TIME_HI_TIME : Fld := { off := 0x68, lo := 0, w := 32, ty := .rw, reset := 0, half := .hi }

/-- SYS_PWR_CTL.PWR_CTL_CLR_MIN (R478). -/
def SYS.PWR_CTL_CLR_MIN : Fld := { off := 0x6c, lo := 2, w := 1, ty := .wo, reset := 0 }
/-- SYS_PWR_CTL.PWR_CTL_CLR_DOWN (R478). -/
def SYS.PWR_CTL_CLR_DOWN : Fld := { off := 0x6c, lo := 1, w := 1, ty := .wo, reset := 0 }
/-- SYS_PWR_CTL.PWR_CTL_CLR_CNT (R478). -/
def SYS.PWR_CTL_CLR_CNT : Fld := { off := 0x6c, lo := 0, w := 1, ty := .wo, reset := 0 }

/-- SYS_EVTEN.EVTEN_EN (R478). -/
def SYS.EVTEN_EN : Fld := { off := 0x70, lo := 1, w := 10, ty := .rw, reset := 1023 }

/-- SYS_DIP_LAST.DIP_LAST_US (R478). -/
def SYS.DIP_LAST_US : Fld := { off := 0x74, lo := 0, w := 32, ty := .ro, reset := 0 }

/-- SYS_BOOT.BOOT_CHFAIL (R498). -/
def SYS.BOOT_CHFAIL : Fld := { off := 0x20, lo := 16, w := 4, ty := .ro, reset := 0 }
/-- SYS_BOOT.BOOT_KIND (R498). -/
def SYS.BOOT_KIND : Fld := { off := 0x20, lo := 12, w := 3, ty := .ro, reset := 0 }
/-- SYS_BOOT.BOOT_FAIL (R498). -/
def SYS.BOOT_FAIL : Fld := { off := 0x20, lo := 8, w := 4, ty := .ro, reset := 0 }
/-- SYS_BOOT.BOOT_STAGE (R498). -/
def SYS.BOOT_STAGE : Fld := { off := 0x20, lo := 0, w := 3, ty := .ro, reset := 1 }

/-- SYS_BOOT_MS.BOOT_MS_MS (R498). -/
def SYS.BOOT_MS_MS : Fld := { off := 0x24, lo := 0, w := 32, ty := .ro, reset := 0 }

/-- Every field of the block SYS. -/
def SYS.fields : List Fld :=
  [SYS.ID, SYS.STEPPING_LETTER, SYS.STEPPING_DIGIT, SYS.MODID_STRAP_BAD, SYS.MODID_FACTORY, SYS.MODID_STRAP, SYS.MODID_ID, SYS.PWR_CFG_HOLDMAX, SYS.PWR_CFG_ENCKEEP, SYS.PWR_CFG_FAULTEN] ++
  [SYS.PWR_STAT_LAST_DOWN, SYS.PWR_STAT_WAKE_SRC, SYS.PWR_STAT_VAUX_OK, SYS.PWR_STAT_VIO_OK, SYS.PWR_STAT_VCAM_FAULT, SYS.PWR_STAT_VIN_OVER_STKY, SYS.PWR_STAT_VIN_WARN, SYS.PWR_STAT_STATE, SYS.DIP_HOLDS, SYS.DIP_COUNT] ++
  [SYS.VIN_MIN, SYS.VIN_NOW, SYS.VSUP_VAUX, SYS.VSUP_VCAM, SYS.VIO_VIO_H, SYS.SMLD_MS_MS, SYS.WAKE_CFG_AXIS, SYS.WAKE_CFG_VIN, SYS.WAKE_CFG_TIME, SYS.WAKE_CFG_AXIS_EN] ++
  [SYS.WAKE_CFG_WAKE_N, SYS.WAKE_DIST_DIST, SYS.WAKE_TIME_LO_TIME, SYS.WAKE_TIME_HI_TIME, SYS.PWR_CTL_CLR_MIN, SYS.PWR_CTL_CLR_DOWN, SYS.PWR_CTL_CLR_CNT, SYS.EVTEN_EN, SYS.DIP_LAST_US, SYS.BOOT_CHFAIL] ++
  [SYS.BOOT_KIND, SYS.BOOT_FAIL, SYS.BOOT_STAGE, SYS.BOOT_MS_MS]

/-- Every field of the block AXS. -/
def AXS.fields : List Fld :=
  [AXS.SNAP_AXES, AXS.EVTEN_EN]

/-- Every field of the block EP. -/
def EP.fields (n : Nat) : List Fld :=
  [EP.CFG_WIN n, EP.CFG_OPEN_EN n, EP.CFG_FILT n, EP.CFG_ZMODE n, EP.CFG_DIRINV n, EP.CFG_INV n, EP.CFG_ELEC n, EP.CFG_MODE n, EP.MINIV n, EP.SSTO n] ++
  [EP.PWR_TRIP n, EP.PWR_VSEL n, EP.PWR_EN n, EP.SER_ERRBITS n, EP.SER_GRAY n, EP.SER_BITS n, EP.SER_CLKDIV n, EP.SER2_TIMEOUT n, EP.SER2_PERIOD n, EP.SLAT n] ++
  [EP.CPR n, EP.COUNT n, EP.ZLATCH n, EP.STAT_MOTION n, EP.STAT_FAULTED n, EP.STAT_OPEN_STKY n, EP.STAT_OPEN n, EP.STAT_LEVELS n, EP.FCNT0_EDGE_FAST n, EP.FCNT0_DOUBLE_STEP n] ++
  [EP.FCNT1_HALL_SKIP n, EP.FCNT1_HALL_INVALID n, EP.FCNT2_INDEX_MISMATCH n, EP.FCNT2_SERIAL_ERR n, EP.UNC n, EP.SPEED n, EP.EDGE_TIME_TIME n, EP.SERDATA_DATA n, EP.CTL_CLR_UNC n, EP.CTL_CLR_CNT n]

/-- Every field of the block AX. -/
def AX.fields (n : Nat) : List Fld :=
  [AX.CFG_COMB n, AX.CFG_SRC1 n, AX.CFG_SRC0 n, AX.GAIN0 n, AX.GAIN1 n, AX.SLIP_TIME n, AX.SLIP_THR n, AX.TIMEUNIT n, AX.UNCLIM n, AX.PRESET_LO_PRESET n] ++
  [AX.PRESET_HI_PRESET n, AX.CTL_CLR_UNC n, AX.CTL_REVERT_ARM n, AX.CTL_PRESET_ARM n, AX.POS_LO_POS n, AX.POS_HI_POS n, AX.SPEED n, AX.STAT_SOURCE_LOST n, AX.STAT_WRAPPED n, AX.STAT_PRESET n] ++
  [AX.STAT_FAILED_OVER n, AX.STAT_SLIP n, AX.STAT_DEGRADED n, AX.STAT_DIR n, AX.STAT_MOTION n, AX.UNC n, AX.EDGE_TIME_TIME n, AX.SNAP_POS_LO_POS n, AX.SNAP_POS_HI_POS n, AX.SNAP_SPEED_SPEED n] ++
  [AX.SNAP_STAT_STAT n, AX.SNAP_UNC_UNC n, AX.SNAP_TIME_TIME n]

/-- Every field of the block TRG. -/
def TRG.fields : List Fld :=
  [TRG.CFG_EN, TRG.EVTEN_EN, TRG.STAT_ARMED, TRG.WIN_IDX_INDEX, TRG.WIN_CMD_OP, TRG.WIN_STATE_DIFF, TRG.WIN_STATE_STATE, TRG.NFIRE, TRG.NMISS, TRG.NCOLL] ++
  [TRG.CTL_CLR_CNT, TRG.LITE_CFG_LOSS, TRG.LITE_CFG_KI, TRG.LITE_CFG_KP, TRG.LITE_CFG_SRC, TRG.LITE_CFG_EN, TRG.LITE_OFS_OFS, TRG.LITE_STAT_LOST_STKY, TRG.LITE_STAT_STATE, TRG.LITE_FREQ_FREQ] ++
  [TRG.LITE_PERR_PERR] ++
  (List.range 8).flatMap (fun k => [TRG.WIN_D_D k])

/-- Every field of the block CAM. -/
def CAM.fields (n : Nat) : List Fld :=
  [CAM.LAT_SENS n, CAM.SET_BLANK n, CAM.SET_WIDTH n, CAM.SET_SDLY n, CAM.MINTI n, CAM.LINK_LLAT n, CAM.GEN_SET n, CAM.GEN n]

/-- Every field of the block TRO. -/
def TRO.fields (n : Nat) : List Fld :=
  [TRO.CFG_POL n, TRO.CFG_EN n, TRO.LAT n, TRO.LIM_MINGAP n, TRO.LIM_MAXW n, TRO.CNT_SKIP n, TRO.CNT_CLIP n]

/-- Every field of the block LNK. -/
def LNK.fields (n : Nat) : List Fld :=
  [LNK.CFG_PWR n, LNK.CFG_RATE n, LNK.CFG_ECHO_EN n, LNK.CFG_EN n, LNK.STAT_RATE_ACT n, LNK.STAT_PWR_ACT n, LNK.STAT_LOST_STKY n, LNK.STAT_LLAT_VALID n, LNK.STAT_CDR_LOCK n, LNK.STAT_BC_UP n] ++
  [LNK.STAT_STATE n, LNK.ALIGN_DONE n, LNK.ALIGN_HITS n, LNK.ALIGN_SLIP n, LNK.CTL_ECHO_NOW n, LNK.CTL_CLR_CNT n, LNK.CTL_BITSLIP n, LNK.LLAT n, LNK.ECHO_CFG_TOL n, LNK.ECHO_CFG_PERIOD n] ++
  [LNK.ECHO_RTT_RTT n, LNK.ECHO_TURN_TURN n, LNK.ECHO_TPATH_TPATH n, LNK.SOF_TIME_TIME n, LNK.CNT0_SYNC_MISS n, LNK.CNT0_CELL_LOST n, LNK.CNT1_PAY_CRC n, LNK.CNT1_HDR_CRC n, LNK.CNT2_BC_RETRY n, LNK.CNT2_BC_FAIL n] ++
  [LNK.CNT3_UNKNOWN_TYPE n, LNK.CNT3_SYMBOL_SLIP n, LNK.GPIO_IN n, LNK.GPIO_OUT n, LNK.EQ_PRESET n, LNK.POC_CFG_LIM n, LNK.POC_CFG_EN n, LNK.POC_STAT_BLOCK_STKY n, LNK.POC_STAT_OPEN_STKY n, LNK.POC_STAT_BACKFEED n] ++
  [LNK.POC_STAT_OPEN n, LNK.POC_STAT_OVERCUR n, LNK.POC_STAT_SHORT n, LNK.POC_STAT_STATE n, LNK.POC_MEAS_VOUT n, LNK.POC_MEAS_IOUT n, LNK.LOOP_CFG_PAT n, LNK.LOOP_CFG_MODE n, LNK.LOOP_STAT_REFUSED n, LNK.LOOP_STAT_LOCK n] ++
  [LNK.LOOP_BITS_LO_BITS n, LNK.LOOP_BITS_HI_BITS n, LNK.LOOP_ERR_ERR n, LNK.SER0_TEMP n, LNK.SER0_TRIG_BAD n, LNK.SER0_SUPPLY n, LNK.SER1_FWD_OVF n, LNK.SER1_BC_RELOCK n, LNK.SER1_BC_ERR n, LNK.SER_ID_DEVICE n] ++
  [LNK.SER_ID_PROTO n, LNK.SER_ID_STEP n, LNK.INJ_POC_OPEN n, LNK.INJ_POC_SHORT n, LNK.INJ_SYNC n, LNK.INJ_PCRC n, LNK.INJ_HCRC n]

/-- Every field of the block LNKG. -/
def LNKG.fields : List Fld :=
  [LNKG.EVTEN_EN, LNKG.POC_TOTAL_TOTAL]

/-- Every field of the block ING. -/
def ING.fields (n : Nat) : List Fld :=
  [ING.PSTAT_LAST n, ING.PSTAT_BUSY n, ING.PCTL_CLR_CNT n]

/-- Every field of the block CTX. -/
def CTX.fields (n : Nat) : List Fld :=
  [CTX.SRC_FMT n, CTX.SRC_VC n, CTX.SRC_LINK n, CTX.SRC_BAYER n, CTX.SRC_BADFILL n, CTX.SRC_EN n, CTX.GEOM_HEIGHT n, CTX.GEOM_WIDTH n, CTX.LRATE n, CTX.FILL_TMO n] ++
  [CTX.FILL n, CTX.BYP n, CTX.BLACK0_BL1 n, CTX.BLACK0_BL0 n, CTX.BLACK1_BL3 n, CTX.BLACK1_BL2 n, CTX.DPC_DTHR n, CTX.DPC_DYN n, CTX.DPC_STATIC n, CTX.DPC_MAP_COUNT n] ++
  [CTX.DPC_ADDR_LO_ADDR n, CTX.DPC_ADDR_HI_ADDR n, CTX.SHD_GH n, CTX.SHD_GW n, CTX.SHD_SY n, CTX.SHD_SX n, CTX.SHD_ADDR_LO_ADDR n, CTX.SHD_ADDR_HI_ADDR n, CTX.STATWIN_XY_Y n, CTX.STATWIN_XY_X n] ++
  [CTX.STATWIN_WH_H n, CTX.STATWIN_WH_W n, CTX.FOCWIN_XY_Y n, CTX.FOCWIN_XY_X n, CTX.FOCWIN_WH_H n, CTX.FOCWIN_WH_W n, CTX.STATCFG_FLK_WIN n, CTX.STATCFG_FLK_EN n, CTX.STATCFG_HCH n, CTX.FLK_TOFS_TOFS n] ++
  [CTX.FLK_THR_THR n, CTX.STAT_ADDR_LO_ADDR n, CTX.STAT_ADDR_HI_ADDR n, CTX.STAT_FLK_VALID n, CTX.STAT_OPEN n, CTX.STAT_ACTIVE n, CTX.FNUM n, CTX.CNT0_TRUNC n, CTX.CNT0_OVERLONG n, CTX.CNT1_LOST_LINES n] ++
  [CTX.CNT1_DAMAGED n, CTX.CNT2_ORPHAN n, CTX.CNT2_LINE_WIDTH n, CTX.CNT3_LINEBUF_OVF n, CTX.CNT3_FLUE_FULL n, CTX.CNT4_MAP_ORDER n, CTX.CNT4_GEOM_DECL n, CTX.CNT4_FNUM_MISMATCH n, CTX.FLK_FREQ_FREQ n, CTX.FLK_BRIGHT_LO_TIME n] ++
  [CTX.FLK_BRIGHT_HI_TIME n, CTX.FLK_DEPTH_DEPTH n, CTX.INJ_FLK_BAD n, CTX.INJ_MAPERR n, CTX.INJ_LINEDROP n] ++
  (List.range 4).flatMap (fun k => [CTX.RGN_XY_Y n k, CTX.RGN_XY_X n k, CTX.RGN_WH_H n k, CTX.RGN_WH_W n k, CTX.RGN_CFG_FLUE n k, CTX.RGN_CFG_CHK n k, CTX.RGN_CFG_CHK_EN n k, CTX.RGN_CFG_OUT8 n k, CTX.RGN_CFG_BIN n k, CTX.RGN_CFG_EN n k])

/-- Every field of the block INGG. -/
def INGG.fields : List Fld :=
  [INGG.EVTEN_EN]

/-- Every field of the block ENG. -/
def ENG.fields (n : Nat) : List Fld :=
  [ENG.STAT_SERVING n, ENG.STAT_SERVES n, ENG.STAT_STATE n, ENG.PC n, ENG.EXC_IMPRECISE n, ENG.EXC_SECOND n, ENG.EXC_CAUSE n, ENG.EXC_PC_PC n, ENG.EXC_ADDR_ADDR n, ENG.EXC_INSN_INSN n] ++
  [ENG.RET_LO_RET n, ENG.RET_HI_RET n, ENG.STALL_MEM n, ENG.STALL_STRM n, ENG.WDOG_LIMIT n, ENG.INJ_ILLEGAL n, ENG.INJ_WDOG n, ENG.INJ_DMEM_ECC n, ENG.INJ_IMEM_ECC n]

/-- Every field of the block CL. -/
def CL.fields (n : Nat) : List Fld :=
  [CL.STAT_BARWAIT n, CL.STAT_FENCED n, CL.STAT_ENGFENCED n, CL.EVTEN_EN n]

/-- Every field of the block CHK. -/
def CHK.fields (n : Nat) : List Fld :=
  [CHK.CFG_WIDTH n, CHK.CFG_INV n, CHK.CFG_REFOUT n, CHK.CFG_REFIN n, CHK.CFG_EN n, CHK.POLY n, CHK.INIT n, CHK.SRC_RESET n, CHK.SRC_STAMP n, CHK.SRC_HDRSKIP n] ++
  [CHK.SRC_VALID n, CHK.SRC_FLUE n, CHK.VALUE n, CHK.SAVE n, CHK.RESULT n, CHK.LAST n, CHK.COUNT n, CHK.CTL_SWAP n, CHK.CTL_RESET n, CHK.INJ_FLIP n]

/-- Every field of the block MEM. -/
def MEM.fields : List Fld :=
  [MEM.STAT_MIGRATING, MEM.STAT_FENCE, MEM.STAT_BAND, MEM.TOP_LO_TOP, MEM.TOP_HI_TOP, MEM.MIGR_LEFT, MEM.PATROL_SPER, MEM.PATROL_GRATE, MEM.PASS_SRAM, MEM.PASS_GDDR7] ++
  [MEM.SCRUB_CTL_RATE, MEM.SCRUB_CTL_TARGET, MEM.SCRUB_CTL_ABORT, MEM.SCRUB_CTL_GO, MEM.SCRUB_STAT_REJ, MEM.SCRUB_STAT_DONE, MEM.SCRUB_STAT_BUSY, MEM.SCRUB_ADDR_LO_ADDR, MEM.SCRUB_ADDR_HI_ADDR, MEM.SCRUB_LEN_LO_LEN] ++
  [MEM.SCRUB_LEN_HI_LEN, MEM.SCRUB_WORDS_LO_WORDS, MEM.SCRUB_WORDS_HI_WORDS, MEM.SCRUB_CE_CE, MEM.SCRUB_UE_UE, MEM.SCRUB_WORST_LO_WORST, MEM.SCRUB_WORST_HI_WORST, MEM.EVTEN_EN, MEM.INJ_REGION, MEM.INJ_KIND] ++
  [MEM.CTL_CLR_CNT]

/-- Every field of the block MEMR. -/
def MEMR.fields (n : Nat) : List Fld :=
  [MEMR.CE n, MEMR.UE n, MEMR.BKT_LIMIT n, MEMR.BKT_LEVEL n, MEMR.LEAK_OVF_STKY n, MEMR.LEAK n]

/-- Every field of the block DQ. -/
def DQ.fields (n : Nat) : List Fld :=
  [DQ.CFG_COALN n, DQ.CFG_VEC n, DQ.CFG_RSZ n, DQ.CFG_EN n, DQ.COALT n, DQ.DRING_LO_BASE n, DQ.DRING_HI_BASE n, DQ.CRING_LO_BASE n, DQ.CRING_HI_BASE n, DQ.TAIL n] ++
  [DQ.PTR_DONE n, DQ.PTR_RESV n, DQ.STAT_INFLIGHT n, DQ.STAT_LASTREF n, DQ.STAT_FLUSHING n, DQ.STAT_STATE n, DQ.CREDIT n, DQ.CTL_CLR_CNT n, DQ.CTL_FLUSH n, DQ.NADM n] ++
  [DQ.NREF n, DQ.NLATE n, DQ.BYTES_LO_BYTES n, DQ.BYTES_HI_BYTES n, DQ.D n, DQ.RATE n, DQ.MAXB n, DQ.CPARM_BURST n, DQ.CPARM_PRIO n, DQ.DMIN n] ++
  [DQ.WORST n, DQ.BUCKET_LEVEL n, DQ.INJ_DESC n, DQ.INJ_LATE n, DQ.INJ_REFUSE n]

/-- Every field of the block DLV. -/
def DLV.fields : List Fld :=
  [DLV.LINK_LHOST, DLV.LINK_ASYM_EN, DLV.LINK_MODE, DLV.ADM_BPA, DLV.ADM_HEADROOM, DLV.ADM2_ITMO, DLV.ADM_STAT_SHED, DLV.ADM_STAT_LINKDOWN, DLV.ADM_STAT_THROTTLED, DLV.ADM_STAT_HOLD] ++
  [DLV.CAP_HOST_CAP, DLV.CAP_GDDR_CAP, DLV.USE_HOST_USE, DLV.USE_GDDR_USE, DLV.STALL_MAX, DLV.CTL_INJ_STALL, DLV.CTL_CLR, DLV.EVTEN_EN, DLV.EVR_BASE_LO_BASE, DLV.EVR_BASE_HI_BASE] ++
  [DLV.EVR_CFG_COALN, DLV.EVR_CFG_VEC, DLV.EVR_CFG_RSZ, DLV.EVR_CFG_EN, DLV.EVR_HEAD_HEAD, DLV.EVR_TAIL_TAIL, DLV.EVR_LOST_LOST, DLV.EVR_COALT_COALT, DLV.EVPK_DATA_DATA, DLV.EVPK_STAT_UNDERRUN] ++
  [DLV.EVPK_STAT_LEVEL] ++
  (List.range 4).flatMap (fun k => [DLV.WM_CFG_Q k, DLV.WM_CFG_SRC k, DLV.WM_CFG_INV k, DLV.WM_CFG_POL k, DLV.WM_CFG_EN k, DLV.WM_THR_HIGH k, DLV.WM_THR_LOW k, DLV.WM_STAT_CROSS k, DLV.WM_STAT_STKY k, DLV.WM_STAT_LIVE k, DLV.WM_VAL_VAL k])

/-- Every field of the block REC. -/
def REC.fields : List Fld :=
  [REC.CFG_XTMO, REC.CFG_EN, REC.STAT_CAUSE, REC.STAT_STATE, REC.GROUPS_PINNED, REC.GROUPS_INSERV, REC.ESEQ_LO_ESEQ, REC.ESEQ_HI_ESEQ, REC.OLD_LO_ESEQ, REC.OLD_HI_ESEQ] ++
  [REC.WEAR_LIFE, REC.LIFE_REMAIN, REC.ERASES_LO_ERASES, REC.ERASES_HI_ERASES, REC.HOURS, REC.WBKT_LEVEL, REC.GRATE_RATE, REC.CNT_PROG_FAIL, REC.CNT_JOURNAL, REC.PIN_VALID_VALID] ++
  [REC.EVTEN_EN, REC.CTL_CLR_CNT, REC.INJ_JSPLIT, REC.INJ_READ_UE, REC.INJ_PROGFAIL, REC.RD_STAT_QUEUE, REC.RD_STAT_OVERTAKEN, REC.RD_STAT_STATE, REC.RD_POS_LO_RPOS, REC.RD_POS_HI_RPOS] ++
  [REC.RD_LOST_LO_LOST, REC.RD_LOST_HI_LOST, REC.RD_NREC_NREC]

/-- Every field of the block MK. -/
def MK.fields (n : Nat) : List Fld :=
  [MK.POS_LO_RPOS n, MK.POS_HI_RPOS n, MK.STAT_TRIMMED n, MK.STAT_OVERTAKEN n, MK.STAT_VALID n, MK.LOST n]

/-- Every field of the block PN. -/
def PN.fields (n : Nat) : List Fld :=
  [PN.FIRST_LO_ESEQ n, PN.FIRST_HI_ESEQ n, PN.LAST_LO_ESEQ n, PN.LAST_HI_ESEQ n]

/-- Every field of the block IN. -/
def IN.fields (n : Nat) : List Fld :=
  [IN.CFG_STREAM n, IN.CFG_EN n, IN.MAXB n, IN.RATE n, IN.REC n, IN.DROP n, IN.CUT n]

/-- Every field of the block TIM. -/
def TIM.fields : List Fld :=
  [TIM.NOW_LO_NOW, TIM.NOW_HI_NOW, TIM.STAT_CLAMP, TIM.STAT_STEPGEN, TIM.STAT_PORT, TIM.STAT_STATE, TIM.RATE, TIM.OFFSET_O, TIM.HOLD_MS, TIM.SERVO_TPH] ++
  [TIM.SERVO_LOCKTH, TIM.SERVO2_SETTLE, TIM.SERVO2_MAXADJ, TIM.STEP_OLD_LO_OLD, TIM.STEP_OLD_HI_OLD, TIM.STEP_NEW_LO_NEW, TIM.STEP_NEW_HI_NEW, TIM.GM_LO_GM, TIM.GM_HI_GM, TIM.CFG_SRC] ++
  [TIM.EVTEN_EN, TIM.INJ_GMCHG, TIM.INJ_SYNCTO]

/-- Every field of the block ETH. -/
def ETH.fields (n : Nat) : List Fld :=
  [ETH.CFG_PRIO1 n, ETH.CFG_DOMAIN n, ETH.CFG_ROLE n, ETH.CFG_STATIC n, ETH.CFG_GMCAP n, ETH.CFG_EN n, ETH.STAT_ROLE_ACT n, ETH.STAT_ASCAP n, ETH.STAT_LINK n, ETH.STAT_RATE_ACT n] ++
  [ETH.LAT25_RX n, ETH.LAT25_TX n, ETH.LAT5_RX n, ETH.LAT5_TX n, ETH.LAT10_RX n, ETH.LAT10_TX n, ETH.PDELAY_DELAY n, ETH.NRR n, ETH.INTV_ANNTO n, ETH.INTV_SYNCTO n] ++
  [ETH.INTV_PDLOG n, ETH.INTV_SYNCLOG n, ETH.TXSTAMP_TIME n, ETH.RXSTAMP_TIME n, ETH.CNT0_RX_PTP n, ETH.CNT0_RX_DISCARD n, ETH.CNT1_SYNC_TMO n, ETH.CNT1_PDELAY_LOST n, ETH.CTL_CLR_CNT n, ETH.INJ_PDELAY n]

/-- Every field of the block ETHG. -/
def ETHG.fields : List Fld :=
  [ETHG.EVTEN_EN]

/-- Every field of the block CMD. -/
def CMD.fields : List Fld :=
  [CMD.SQ_BASE_LO_BASE, CMD.SQ_BASE_HI_BASE, CMD.CQ_BASE_LO_BASE, CMD.CQ_BASE_HI_BASE, CMD.CFG_COALN, CMD.CFG_VEC, CMD.CFG_RSZ, CMD.CFG_EN, CMD.COALT, CMD.SQ_TAIL_TAIL] ++
  [CMD.SQ_HEAD_HEAD, CMD.CQ_HEAD_HEAD, CMD.CQ_TAIL_TAIL, CMD.STAT_SMB_BUSY, CMD.STAT_DEBUG, CMD.STAT_RINGERR, CMD.STAT_SEALED_WR, CMD.STAT_ARMED, CMD.STAT_WARDEN, CMD.STAT_SVC] ++
  [CMD.EPOCH_ARM_ARM, CMD.EPOCH_LAST_LAST, CMD.EPOCH_TIME_LO_TIME, CMD.EPOCH_TIME_HI_TIME, CMD.BOOT_SCNT, CMD.BOOT_WCNT, CMD.BOOT_SSPLIT, CMD.BOOT_WSPLIT, CMD.BOOT_SCOPY, CMD.BOOT_WCOPY] ++
  [CMD.FWVER_WDN_VERSION, CMD.FWVER_SVC_VERSION, CMD.EVTEN_EN, CMD.INJ_LAPSE, CMD.INJ_SPLIT, CMD.INJ_ACCESS]

/-- Every field of the block TWB. -/
def TWB.fields (n : Nat) : List Fld :=
  [TWB.CFG_TLOTMO n, TWB.CFG_TDLTMO n, TWB.CFG_PEC n, TWB.CFG_EN n, TWB.TIM0_HIGH n, TWB.TIM0_LOW n, TWB.TIM1_HDSTA n, TWB.TIM1_SUSTA n, TWB.TIM2_SUSTO n, TWB.TIM2_BUF n] ++
  [TWB.TIM3_HDDAT n, TWB.TIM3_SUDAT n, TWB.STAT_LASTERR n, TWB.STAT_NACK_STKY n, TWB.STAT_ARB_STKY n, TWB.STAT_SDA_TMO_STKY n, TWB.STAT_SCL_TMO_STKY n, TWB.STAT_SDA_LOW n, TWB.STAT_SCL_LOW n, TWB.STAT_FENCED n] ++
  [TWB.STAT_BUSY n, TWB.CNT0_NACK n, TWB.CNT0_XFER n, TWB.CNT1_TIMEOUT n, TWB.CNT1_ARB_LOST n, TWB.CNT2_CLEAR n, TWB.CNT2_PEC_ERR n, TWB.CTL_CLR_CNT n, TWB.INJ_SCLTMO n, TWB.INJ_STUCK n] ++
  [TWB.INJ_NACK n]

/-- Every field of the block TWBG. -/
def TWBG.fields : List Fld :=
  [TWBG.STP_CFG_TLOTMO, TWBG.STP_CFG_PEC_REQ, TWBG.STP_CFG_EN, TWBG.STP_TIM_HDDAT, TWBG.STP_STAT_ADDR, TWBG.STP_STAT_STRAP_BAD, TWBG.STP_STAT_WAKE_STKY, TWBG.STP_STAT_PEC_STKY, TWBG.STP_STAT_ABANDON_STKY, TWBG.STP_STAT_BUSY] ++
  [TWBG.STP_CNT_PEC_ERR, TWBG.STP_CNT_ABANDONED, TWBG.EVTEN_EN]

/-- Every field of the block THM. -/
def THM.fields : List Fld :=
  [THM.STAT_THROTTLE, THM.STAT_SHUT_CAUSE, THM.STAT_FALLBACK, THM.STAT_NAND_OK, THM.STAT_BAND, THM.TJ_PEAK, THM.TJ, THM.TBAND, THM.TNAND_MAX, THM.TNAND_MIN] ++
  [THM.TCASE_INVALID, THM.TCASE_CASE, THM.CLK_MHZ, THM.THR_MS_MS, THM.DEFER_US, THM.PIN_MW, THM.CFG_ALARM, THM.TLPK_DATA_DATA, THM.TLPK_STAT_UNDERRUN, THM.TLPK_STAT_LEVEL] ++
  [THM.EVTEN_EN, THM.CTL_CLR_SHUT, THM.CTL_CLR_PEAK, THM.INJ_OFS_OFS, THM.INJ_DIODE, THM.INJ_CASE, THM.INJ_FALLBACK] ++
  (List.range 6).flatMap (fun k => [THM.DIODE_INVALID k, THM.DIODE_TEMP k]) ++
  (List.range 24).flatMap (fun k => [THM.NODE_TEMP k]) ++
  (List.range 8).flatMap (fun k => [THM.RAIL_P_MW k])

/-- Every field of the block DIA. -/
def DIA.fields : List Fld :=
  [DIA.SVC_CFG_AUTORESTART, DIA.SVC_CFG_TMO, DIA.SVC_STAT_RESTARTS, DIA.SVC_STAT_STOPPED_STKY, DIA.ROT_CFG_PERIOD, DIA.ROT_CFG_DRAINTMO, DIA.ROT_CFG_EN, DIA.ROT_CNT_SKIPPED, DIA.ROT_CNT_PASSES, DIA.ST_LAST_ENGINE] ++
  [DIA.ST_LAST_RESULT, DIA.ST_ADDR_ADDR, DIA.AUTO_CLUE, DIA.AUTO_CHUE, DIA.AUTO_CL_EN, DIA.AUTO_CH_EN, DIA.AUTO_ENG_EN, DIA.TEL_CFG_PERIOD, DIA.TEL_CFG_DQ62, DIA.TEL_CFG_EN] ++
  [DIA.TEL_SEQ_SEQ, DIA.TEL_DROP_DROP, DIA.BG_MBPS, DIA.EVTEN_EN, DIA.LOCK_INJ, DIA.INJ_EP_PORT, DIA.INJ_EP_KIND, DIA.INJ_AX_AXIS, DIA.INJ_AX_SLIP, DIA.INJ_TRO_STROBE] ++
  [DIA.INJ_TRO_SKIP, DIA.INJ_TRO_CLIP, DIA.INJ_LNK_LINK, DIA.INJ_LNK_KIND, DIA.INJ_SYS_VINDIP, DIA.INJ_SYS_STRAP_TW, DIA.INJ_SYS_STRAP_MOD, DIA.INJ_SYS_SVC_HANG, DIA.INJ_SYS_LOCKSTEP, DIA.INJ_ST_FAIL] ++
  [DIA.INJ_ST_ENGINE] ++
  (List.range 4).flatMap (fun k => [DIA.SB_NEXT k, DIA.SB_SERVES k, DIA.SB_STATE k])

/-- The fields of the block (or of the array element) that holds offset `off`, by the address map of R505. -/
def blockFields (off : Nat) : List Fld :=
  if off < 0x10000 then SYS.fields
  else if off < 0x20000 then CMD.fields
  else if off < 0x28000 then DQ.fields ((off - 0x20000) / 0x200)
  else if off < 0x2C000 then DLV.fields
  else if off < 0x40000 then []
  else if off < 0x41000 then AXS.fields
  else if off < 0x41800 then EP.fields ((off - 0x41000) / 0x100)
  else if off < 0x42000 then []
  else if off < 0x42800 then AX.fields ((off - 0x42000) / 0x100)
  else if off < 0x50000 then []
  else if off < 0x50100 then TRG.fields
  else if off < 0x50400 then CAM.fields ((off - 0x50100) / 0x20)
  else if off < 0x50480 then TRO.fields ((off - 0x50400) / 0x10)
  else if off < 0x60000 then TRG.fields
  else if off < 0x80000 then TIM.fields
  else if off < 0x98000 then LNK.fields ((off - 0x80000) / 0x1000)
  else if off < 0xA0000 then LNKG.fields
  else if off < 0xAC000 then
    ING.fields ((off - 0xA0000) / 0x1000) ++
    (if (off - 0xA0000) % 0x1000 < 0x100 then []
     else CTX.fields (2 * ((off - 0xA0000) / 0x1000) + ((off - 0xA0000) % 0x1000 - 0x100) / 0x200 % 2))
  else if off < 0xC0000 then INGG.fields
  else if off < 0xC0400 then CHK.fields ((off - 0xC0000) / 0x40)
  else if off < 0xD0000 then []
  else if off < 0xD0680 then TWB.fields ((off - 0xD0000) / 0x40)
  else if off < 0xE0000 then TWBG.fields
  else if off < 0xE0100 then MEM.fields
  else if off < 0xE04C0 then MEMR.fields ((off - 0xE0100) / 0x10)
  else if off < 0xF0000 then []
  else if off < 0x100000 then THM.fields
  else if off < 0x110000 then DIA.fields
  else if off < 0x110100 then REC.fields
  else if off < 0x110500 then MK.fields ((off - 0x110100) / 0x10)
  else if off < 0x110600 then PN.fields ((off - 0x110500) / 0x10)
  else if off < 0x110800 then IN.fields ((off - 0x110600) / 0x20)
  else if off < 0x120000 then []
  else if off < 0x120200 then ETH.fields ((off - 0x120000) / 0x100)
  else if off < 0x130000 then ETHG.fields
  else if off < 0x1000000 then []
  else if off < 0x2000000 then
    (if (off - 0x1000000) % 0x100000 < 0x8000 then
       ENG.fields (8 * ((off - 0x1000000) / 0x100000) + (off - 0x1000000) % 0x100000 / 0x1000)
     else if (off - 0x1000000) % 0x100000 < 0x9000 then
       (if (off - 0x1000000) / 0x100000 % 4 = 0 then ENG.fields (128 + (off - 0x1000000) / 0x400000) else [])
     else CL.fields ((off - 0x1000000) / 0x100000))
  else []

/-- The fields of the register at offset `off`; none where no register is mapped (R6). CLU_EVTEN exists in the CL0
window only (the table of R207). -/
def fieldsAt (off : Nat) : List Fld :=
  (blockFields off).filter fun f => f.off == off && !(f.off % 0x100000 == 0xF0004 && f.off > 0x10F0004)

end Sys2Proof.Machine
end

