-- ==== Sys2Proof/Machine/Ops.lean ====
section
/-! DEFINITION. The named operations every family shares: byte memories, register fields, time, the free-value counter
and events. -/

namespace Sys2Proof.Machine

/-! ### Byte memories -/

/-- The byte at an address; an unlisted address reads 0 (log 3). -/
def Mem.read (m : Mem) (a : Nat) : Byte := AMap.get 0 m a

/-- Store one byte; a 0 is stored by removing the entry, so equal memories are equal lists. -/
def Mem.write (m : Mem) (a : Nat) (b : Byte) : Mem :=
  if b = 0 then m.filter (fun c => c.1 != a) else AMap.set m a b

/-- `n` bytes from an address, lowest first, as numbers. -/
def Mem.readBytes (m : Mem) (a n : Nat) : List Nat := (List.range n).map fun i => (Mem.read m (a + i)).toNat

/-- Store bytes from an address up. -/
def Mem.writeBytes (m : Mem) (a : Nat) : List Nat → Mem
  | [] => m
  | b :: bs => Mem.writeBytes (Mem.write m a (BitVec.ofNat 8 b)) (a + 1) bs

/-- The little-endian number in `n` bytes from an address (R3). -/
def Mem.readLE (m : Mem) (a : Nat) : Nat → Nat
  | 0 => 0
  | n + 1 => (Mem.read m a).toNat + 256 * Mem.readLE m (a + 1) n

/-- The low `n` bytes of a number, least significant first. -/
def leBytes : Nat → Nat → List Nat
  | 0, _ => []
  | n + 1, v => v % 256 :: leBytes n (v / 256)

/-- The number that bytes spell, least significant first. -/
def leNat : List Nat → Nat
  | [] => 0
  | b :: bs => b % 256 + 256 * leNat bs

/-- Store the low `n` bytes of a number little-endian. -/
def Mem.writeLE (m : Mem) (a n v : Nat) : Mem := Mem.writeBytes m a (leBytes n v)

/-- Rising addresses from `lo`, none holding 0. -/
def Mem.wfFrom (lo : Nat) : Mem → Bool
  | [] => true
  | (k, c) :: m => decide (lo ≤ k) && decide (c ≠ 0) && Mem.wfFrom (k + 1) m

/-- The canonical form of a memory. -/
def Mem.wf (m : Mem) : Bool := Mem.wfFrom 0 m

/-- A sparse array of memories is in canonical form from index `lo` on: rising indices, no empty memory listed, each memory in
canonical form. -/
def memsWfFrom (lo : Nat) : AMap Mem → Bool
  | [] => true
  | (k, m) :: a => decide (lo ≤ k) && decide (m ≠ []) && Mem.wf m && memsWfFrom (k + 1) a

/-- The canonical form of a sparse array of memories. -/
def memsWf (a : AMap Mem) : Bool := memsWfFrom 0 a

/-- Replace one memory of a sparse array; an empty one is not listed, so that equal memories are equal lists. -/
def memsPut (a : AMap Mem) (k : Nat) (m : Mem) : AMap Mem := if m = [] then a.filter (fun c => c.1 != k) else AMap.set a k m

/-- Every memory of the module is in canonical form. -/
def Mems.wf (m : Mems) : Bool := Mem.wf m.host && Mem.wf m.gddr && memsWf m.sram && memsWf m.dmem && memsWf m.imem

/-- Bytes of host memory. -/
def State.hostBytes (s : State) (a n : Nat) : List Nat := Mem.readBytes s.mems.host a n

/-- A little-endian number in host memory. -/
def State.hostLE (s : State) (a n : Nat) : Nat := Mem.readLE s.mems.host a n

/-- The module writes bytes into host memory. -/
def State.hostWrite (s : State) (a : Nat) (bs : List Nat) : State :=
  { s with mems := { s.mems with host := Mem.writeBytes s.mems.host a bs } }

/-- A little-endian number in GDDR7. -/
def State.gddrLE (s : State) (a n : Nat) : Nat := Mem.readLE s.mems.gddr a n

/-- The module writes bytes into GDDR7. -/
def State.gddrWrite (s : State) (a : Nat) (bs : List Nat) : State :=
  { s with mems := { s.mems with gddr := Mem.writeBytes s.mems.gddr a bs } }

/-! ### Register fields (R7, R23) -/

/-- The value software sees in a field: the staged value where the field is staged. -/
def State.rd (s : State) (f : Fld) : Nat := AMap.get f.reset s.regs f.key

/-- The value the data plane reads: the active value where the field is staged (R23). -/
def State.cfg (s : State) (f : Fld) : Nat :=
  if f.staged then AMap.get f.reset s.active f.key else s.rd f

/-- Set a field, cut to its width. -/
def State.wr (s : State) (f : Fld) (v : Nat) : State := { s with regs := AMap.set s.regs f.key (v % 2 ^ f.w) }

/-- Set the active value of a field, cut to its width. -/
def State.wrActive (s : State) (f : Fld) (v : Nat) : State :=
  { s with active := AMap.set s.active f.key (v % 2 ^ f.w) }

/-- Set the staged and the active value of a field. -/
def State.wrBoth (s : State) (f : Fld) (v : Nat) : State := (s.wr f v).wrActive f v

/-- Add to a counter that saturates at the maximum of its field. -/
def State.addSat (s : State) (f : Fld) (k : Nat) : State := s.wr f (min (s.rd f + k) (2 ^ f.w - 1))

/-- Set bit 0 of a one-bit field by a condition. -/
def State.wrB (s : State) (f : Fld) (b : Bool) : State := s.wr f (b2n b)

/-- Do something `k` times. -/
def State.times (s : State) (f : State → State) : Nat → State
  | 0 => s
  | k + 1 => (f s).times f k

/-- Bits of a W1C field that the device has set at the present instant: a write of the same instant does not clear them (R8). -/
def State.justSet (s : State) (f : Fld) : Nat :=
  let e := AMap.get (0, 0) s.w1cSet f.key
  if e.1 = s.now then e.2 else 0

/-- The device sets bits of a W1C field (R7, R8). -/
def State.sets1 (s : State) (f : Fld) (m : Nat) : State :=
  { s.wr f ((s.rd f).lor m) with w1cSet := AMap.set s.w1cSet f.key (s.now, (s.justSet f).lor m) }

/-- The device sets a one-bit W1C field. -/
def State.set1 (s : State) (f : Fld) : State := s.sets1 f 1

/-- Host software writes `m` to a W1C field: each bit written 1 clears, but for those that the device sets at the same instant (R7, R8). -/
def State.clear1 (s : State) (f : Fld) (m : Nat) : State :=
  let keep := s.justSet f
  s.wr f ((List.range f.w).foldl (fun a i => if (s.rd f).testBit i ∧ (m.testBit i = false ∨ keep.testBit i) then a + 2 ^ i else a) 0)

/-- A one-bit field reads 1. -/
def State.is (s : State) (f : Fld) : Bool := s.rd f == 1

/-- A one-bit field is 1 for the data plane. -/
def State.on (s : State) (f : Fld) : Bool := s.cfg f == 1

/-! ### Time (R16, R21) -/

/-- The state at elapsed time `t`: time does not run backwards (log 1). -/
def State.at (s : State) (t : Nat) : State := { s with now := max s.now t }

/-- Device time at elapsed time `t` (R16, R353). -/
def State.devAt (s : State) (t : Nat) : Nat := uwrap 64 ((t : Int) + s.timeOfs)

/-- Device time now. -/
def State.dev (s : State) : Nat := s.devAt s.now

/-- The 32-bit hardware stamp of elapsed time `t` (R16). -/
def State.stamp (s : State) (t : Nat) : Nat := s.devAt t % 2 ^ 32

/-! ### Free values (log 2) -/

/-- The next free value, of `w` bits. -/
def State.free (s : State) (w : Nat) : Nat := freeValue s.freeCount % 2 ^ w

/-- Step past the free value just used. -/
def State.used (s : State) : State := { s with freeCount := s.freeCount + 1 }

/-! ### Arithmetic of the chapters -/

/-- A quotient rounded to nearest, ties away from zero; the divisor is positive. -/
def roundDiv (a : Int) (b : Nat) : Int :=
  if 0 ≤ a then (2 * a + b) / (2 * b) else -((2 * -a + b) / (2 * b))

/-- The 32-bit register pattern of a signed result; a result outside the format has no stated value (log 2). -/
def fit32 (x : Int) : Nat :=
  if -2147483648 ≤ x ∧ x ≤ 2147483647 then uwrap 32 x else (freeOverflow x).toNat

/-- A quotient rounded up. -/
def ceilDiv (a b : Nat) : Nat := (a + b - 1) / b

end Sys2Proof.Machine
end

