-- ==== Sys2Proof/Machine/Flags.lean ====
section
/-! DEFINITION. Event enables and the raising of events (R11, R64, R314 to R316). -/

namespace Sys2Proof.Machine

/-- The enable bits of a block of event codes, bit c for the code whose low byte is c (R11); the block is the high byte
of the code. The graph and swath enables are set by commands (R234, R253), and swath k holds its own. -/
def State.evBits (s : State) (block idx : Nat) : Nat :=
  match block with
  | 0x00 => 2 * s.rd SYS.EVTEN_EN
  | 0x01 => 2 * s.rd CMD.EVTEN_EN
  | 0x02 => 2 * s.rd DLV.EVTEN_EN
  | 0x04 => 2 * s.rd AXS.EVTEN_EN
  | 0x05 => 2 * s.rd TRG.EVTEN_EN
  | 0x06 => 2 * s.rd TIM.EVTEN_EN
  | 0x08 => 2 * s.rd LNKG.EVTEN_EN
  | 0x0A => 2 * s.rd INGG.EVTEN_EN
  | 0x0D => 2 * s.rd TWBG.EVTEN_EN
  | 0x0E => 2 * s.rd MEM.EVTEN_EN
  | 0x0F => 2 * s.rd THM.EVTEN_EN
  | 0x10 => 2 * s.rd DIA.EVTEN_EN
  | 0x11 => 2 * s.rd REC.EVTEN_EN
  | 0x12 => 2 * s.rd ETHG.EVTEN_EN
  | 0x13 => 2 * s.rd (CL.EVTEN_EN 0)
  | 0x14 => s.events.grfEn
  | 0x15 => (AMap.get {} s.swaths idx).evten
  | _ => 0

/-- Occurrences raise events outside SMOULDER and OFF (R471). -/
def State.evAwake (s : State) : Bool := s.pwr.st != .smoulder && s.pwr.st != .off

/-- An event code is enabled for an index; EVENT_LOST always is (R316, R471). -/
def State.evOn (s : State) (code idx : Nat) : Bool :=
  s.evAwake && (code == 0x020E || (s.evBits (code / 256) idx).testBit (code % 256))

/-- Merge one more occurrence into the occurrences waiting for the tick. `join` forms the values that are held from the first of those
held and those of the new occurrence. -/
def evMerge (join : List Nat → List Nat → List Nat × List Nat) (code idx time : Nat) (vals : List Nat) :
    List EvPend → List EvPend
  | [] => [{ code := code, idx := idx, count := 1, time := time, first := vals, last := vals }]
  | e :: es =>
    if e.code = code ∧ e.idx = idx then
      { e with count := min (e.count + 1) 65535, first := (join e.first vals).1, last := (join e.first vals).2 } :: es
    else e :: evMerge join code idx time vals es

/-- An occurrence of an event at elapsed time `t`: it waits for the tick where its code is enabled (R11, R64), with
`join` for the values of several occurrences. -/
def State.raiseBy (s : State) (join : List Nat → List Nat → List Nat × List Nat) (code idx t : Nat) (vals : List Nat) : State :=
  if s.evOn code idx then
    { s with events := { s.events with pend := evMerge join code idx (s.devAt t) vals s.events.pend } }
  else s

/-- An occurrence of an event at elapsed time `t` whose rule says which values the record of several occurrences carries. -/
def State.raiseJoin (s : State) (join : List Nat → List Nat → List Nat) (code idx t : Nat) (vals : List Nat) : State :=
  s.raiseBy (fun a b => (join a b, join a b)) code idx t vals

/-- An occurrence of an event now, whose record carries the values of the first of several occurrences (R255, R264). -/
def State.raiseFirst (s : State) (code idx : Nat) (vals : List Nat) : State := s.raiseJoin (fun a _ => a) code idx s.now vals

/-- An occurrence of an event now. The record of several occurrences carries the values of the first or the latest of
them, which of the two the spec does not say (log 11). -/
def State.raise (s : State) (code idx : Nat) (vals : List Nat) : State :=
  s.raiseBy (fun a b => (a, b)) code idx s.now vals

/-- Injections are locked until the next power-on reset (R434). -/
def State.injLocked (s : State) : Bool := s.rd DIA.LOCK_INJ == 1

end Sys2Proof.Machine
end

