-- ==== Sys2Proof/Machine/Operands.lean ====
section
/-! DEFINITION. The quantities that several blocks read: ports, axes and their interpolated positions (R47 to R56). -/

namespace Sys2Proof.Machine

/-- Encoder port `n` beside its registers. -/
def State.port (s : State) (n : Nat) : Port := AMap.get {} s.ports n

/-- Change encoder port `n`. -/
def State.setPort (s : State) (n : Nat) (p : Port) : State := { s with ports := AMap.set s.ports n p }

/-- Axis `n` beside its registers. -/
def State.axis (s : State) (n : Nat) : Axis := AMap.get {} s.axes n

/-- Change axis `n`. -/
def State.setAxis (s : State) (n : Nat) (a : Axis) : State := { s with axes := AMap.set s.axes n a }

/-- The port mode in force; 6 and 7 act as 0 (R31, R63). -/
def State.portMode (s : State) (n : Nat) : Nat := if s.cfg (EP.CFG_MODE n) < 6 then s.cfg (EP.CFG_MODE n) else 0

/-- The axis composition in force; 7 acts as 0, and 6 acts as 0 on AX0 to AX6 (R47, R63). -/
def State.comb (s : State) (n : Nat) : Nat :=
  if s.cfg (AX.CFG_COMB n) = 7 ∨ (s.cfg (AX.CFG_COMB n) = 6 ∧ n ≠ 7) then 0 else s.cfg (AX.CFG_COMB n)

/-- The signed 16.16 gain of source `k` of axis `n` (R47). -/
def State.gain (s : State) (n k : Nat) : Int :=
  sint 32 (if k = 0 then s.cfg (AX.GAIN0 n) else s.cfg (AX.GAIN1 n))

/-- The port of source `k` of axis `n`. -/
def State.src (s : State) (n k : Nat) : Nat := if k = 0 then s.cfg (AX.CFG_SRC0 n) else s.cfg (AX.CFG_SRC1 n)

/-- A port is faulted (R42). -/
def State.portFaulted (s : State) (p : Nat) : Bool := s.is (EP.STAT_FAULTED p)

/-- The source in use of an axis that runs on one source (R47, R48). -/
def State.useSrc (s : State) (n : Nat) : Nat := if s.comb n = 4 ∧ s.is (AX.STAT_FAILED_OVER n) then 1 else 0

/-- The speed of a port in register units (R15). -/
def State.portSpeed (s : State) (p : Nat) : Int := sint 32 (s.rd (EP.SPEED p))

/-- The scaled speed of source `k` of axis `n`, to nearest, ties away from zero (R47). -/
def State.scaledSpeed (s : State) (n k : Nat) : Int := roundDiv (s.gain n k * s.portSpeed (s.src n k)) 65536

/-- The speed of an axis in register units (R15). -/
def State.axisSpeed (s : State) (n : Nat) : Int := sint 32 (s.rd (AX.SPEED n))

/-- The motion state of an axis (R54). -/
def State.axisMotion (s : State) (n : Nat) : Nat := s.rd (AX.STAT_MOTION n)

/-- The travel since the base position at elapsed time `t`, in units of 2^-16 count: exact in TIME mode, 256 counts per
lighting cycle in LIGHT mode, otherwise speed times elapsed time cut toward zero and held to 0xFFFF in the direction of
DIR (R47, R52). -/
def State.travel (s : State) (n t : Nat) : Int :=
  let dt : Int := (t : Int) - (s.axis n).baseAt
  if s.comb n = 5 then (dt * 65536).tdiv (max (s.cfg (AX.TIMEUNIT n)) 1)
  else if s.comb n = 6 then
    (if s.axisMotion n = 4 then (dt * 256 * 65536 * (s.rd TRG.LITE_FREQ_FREQ : Nat)).tdiv 1000000000000 else 0)
  else
    let x := (s.axisSpeed n * 256 * dt).tdiv 1000000
    if s.is (AX.STAT_DIR n) then max (min x 0) (-65535) else min (max x 0) 65535

/-- The position of axis `n` at elapsed time `t` (R14, R52). -/
def State.posAt (s : State) (n t : Nat) : Quad := (s.axis n).pos + BitVec.ofInt 64 (s.travel n t)

/-- The direction of the motion of an axis is negative: that of the last counted step, positive in TIMEBASE (R47, R54, R67). -/
def State.motionBack (s : State) (n : Nat) : Bool := s.comb n != 5 && s.comb n != 6 && s.is (AX.STAT_DIR n)

/-- The axis moves so that the ledger predicts (R74): MOVING or TIMEBASE. -/
def State.predicts (s : State) (n : Nat) : Bool := s.axisMotion n == 3 || s.axisMotion n == 4

/-- The speed the ledger uses: 0 in STANDSTILL, FIRST_EDGE and REVERSED (R76, R81). -/
def State.ledgerSpeed (s : State) (n : Nat) : Int := if s.predicts n then s.axisSpeed n else 0

end Sys2Proof.Machine
end

