-- ==== Sys2Proof/Machine/BackChannel.lean ====
section
/-! DEFINITION. The back channel of a link: character slots, priority-1 symbols and acknowledged frames (R115 to R122). -/

namespace Sys2Proof.Machine

/-- Link `n` beside its registers. -/
def State.link (s : State) (n : Nat) : Link := AMap.get {} s.links n

/-- Change link `n`. -/
def State.setLink (s : State) (n : Nat) (l : Link) : State := { s with links := AMap.set s.links n l }

/-- One step of the CRC-8 of R110: polynomial x^8 + x^2 + x + 1, most significant bit first. -/
def crc8Bit (c : Nat) : Nat := if c < 128 then 2 * c else (2 * c % 256).xor 7

/-- CRC-8 after one more byte (R110). -/
def crc8Byte (c b : Nat) : Nat :=
  crc8Bit (crc8Bit (crc8Bit (crc8Bit (crc8Bit (crc8Bit (crc8Bit (crc8Bit (c.xor (b % 256)))))))))

/-- CRC-8 of R110 over bytes. -/
def crc8 (bs : List Nat) : Nat := bs.foldl crc8Byte 0

/-- The number of bits that differ among the low `k` bits. -/
def bitDiff : Nat → Nat → Nat → Nat
  | 0, _, _ => 0
  | k + 1, a, b => (if a % 2 = b % 2 then 0 else 1) + bitDiff k (a / 2) (b / 2)

/-- One character slot in thirds of ns: 53.333 ns (R115). -/
def slotLen : Nat := 160

/-- Move a slot start past the priority-1 symbols already placed, four slots each (R119). -/
def dodge (placed : List Int) : Nat → Int → Int
  | 0, x => x
  | k + 1, x =>
    match placed.find? (fun q => decide (q - 4 * slotLen < x ∧ x < q + 4 * slotLen)) with
    | none => x
    | some q => dodge placed k (q + 4 * slotLen)

/-- Where a priority-1 symbol due at `want` thirds of ns starts: slot start, FINE, the delay in thirds of ns, and whether
it slipped (R118, R119). -/
def placeSym (l : Link) (now3 want : Int) : Int × Nat × Int × Bool :=
  let s0 := l.phase + slotLen * ((want - l.phase) / slotLen)
  let f0 := ((want - s0 + 1) / 2).toNat
  let (s1, f1) := if f0 = 80 then (s0 + slotLen, 0) else (s0, f0)
  let s2 := if s1 < now3 then l.phase + slotLen * ((now3 - l.phase + slotLen - 1) / slotLen) else s1
  let s3 := dodge l.placed (l.placed.length + 1) s2
  (s3, f1, s3 - s1, decide (s3 ≠ s2))

/-- Slipped symbols count and are reported (R119). -/
def State.symbolSlips (s : State) (n : Nat) : Nat → State
  | 0 => s
  | k + 1 => ((s.addSat (LNK.CNT3_SYMBOL_SLIP n) 1).raise 0x080B n []).symbolSlips n k

/-- The first slot from `x` on that no placed priority-1 symbol takes. -/
def freeSlot (placed : List Int) : Nat → Int → Int
  | 0, x => x
  | k + 1, x =>
    match placed.find? fun q => decide (q ≤ x ∧ x < q + 4 * slotLen) with
    | some q => freeSlot placed k (q + 4 * slotLen)
    | none => x

/-- The end of the `k`-th character from slot `x` on, a frame resuming in the next free slot after each symbol that interrupts it (R117). -/
def frameEnd (placed : List Int) : Nat → Int → Int
  | 0, x => x
  | k + 1, x => frameEnd placed k (freeSlot placed placed.length x + slotLen)

/-- Characters that a frame puts on the back channel (R116): start, HDR, body, CRC-8, K29.7. K characters carry bit 8. -/
def BcFrame.chars (f : BcFrame) : List Nat :=
  let hdr := f.seq * 16 + f.op
  [if f.tw then 0x1FB else 0x15C, hdr] ++ f.body ++ [crc8 (hdr :: f.body), 0x1FD]

/-- A frame ends, in ns, with the last of its characters (R117). -/
def BcFrame.ending (f : BcFrame) (placed : List Int) : BcFrame :=
  { f with endAt := (-(-(frameEnd placed f.chars.length f.from_) / 3)).toNat }

/-- Keep a placed symbol, dropping those that are past and interrupt no frame outstanding; the frame that it interrupts ends later. -/
def Link.withSym (l : Link) (now3 x : Int) : Link :=
  let old := l.placed.filter fun q => decide (now3 < q + 4 * slotLen) || l.out.any fun f => decide (f.from_ < q + 4 * slotLen)
  { l with placed := old ++ [x], out := l.out.map fun f => if now3 < 3 * f.endAt then f.ending (old ++ [x]) else f }

/-- An ECHO or GPIO may leave in slot `x`: no frame is in progress and no symbol takes the slot (R117). -/
def Link.freeAt (l : Link) (x : Int) : Bool :=
  !(l.placed.any fun q => decide (q ≤ x ∧ x < q + 4 * slotLen)) && l.out.all fun f => decide (x < f.from_ ∨ 3 * (f.endAt : Int) ≤ x)

/-- An ECHO of a burst waits to leave (R117, R126). -/
def Link.echoDue (l : Link) (now : Nat) : Bool := l.burst.any fun b => decide (b.next < 8 ∧ b.start + 10000 * b.next ≤ now)

/-- The slot from which a frame sent now leaves: the first that has not begun, after a symbol in progress and after the two slots of an ECHO,
and before a TWO_WIRE frame of a GPIO, that waits (R116, R117). -/
def Link.frameSlot (l : Link) (now : Nat) (tw : Bool) : Int :=
  let x := l.phase + slotLen * (-(-((3 * now : Int) - l.phase) / slotLen))
  let y := if l.tx.length = 2 then max x (l.txAt + 2 * slotLen) else x
  y + (if l.echoDue now then 2 * slotLen else 0) + (if tw ∧ l.gpioDue then 2 * slotLen else 0)

/-- The character in slot `x`: of the symbol last sent, of a frame in progress, else K28.5 (R115 to R117). Characters of a symbol not yet sent
are not known. -/
def Link.slotChar (l : Link) (x : Int) : Nat :=
  let sym := l.tx.getD ((x - l.txAt) / slotLen).toNat 0x1BC
  if l.txAt ≤ x ∧ x < l.txAt + slotLen * l.tx.length ∧ [0x13C, 0x11C, 0x1F7].contains (l.tx.getD 0 0) then sym
  else match l.out with
    | some f =>
      if f.from_ ≤ x ∧ x < 3 * f.endAt then
        f.chars.getD (((x - f.from_) / slotLen).toNat - 4 * (l.placed.filter fun q => decide (f.from_ ≤ q ∧ q < x)).length) 0x1BC
      else 0x1BC
    | none => 0x1BC

/-- Send a frame: its characters leave from the next slot free for it, and it waits for its BC_ACK (R117, R122). -/
def State.bcLaunch (s : State) (n : Nat) (f : BcFrame) : State :=
  let l := s.link n
  let x := l.frameSlot s.now f.tw
  let f' := ({ f with from_ := x } : BcFrame).ending l.placed
  s.setLink n { l with out := some f', tx := f.chars, txAt := x }

/-- Start the next waiting frame when none is outstanding: CONTROL goes before TWO_WIRE (R116, R117), a settings write
before a host transaction (R89); a new frame takes the next SEQ (R122). -/
def State.bcNext (s : State) (n : Nat) : State :=
  let l := s.link n
  match l.out with
  | some _ => s
  | none =>
    let rank (f : BcFrame) : Nat := if ¬ f.tw then 0 else if f.who = .config then 1 else if f.who = .settings then 2 else 3
    match (List.range 4).findSome? (fun r => l.bcq.find? (fun f => rank f == r)) with
    | none => s
    | some f =>
      let s1 := s.setLink n { l with bcq := l.bcq.erase f, seq := (l.seq + 1) % 16, injAck := false }
      s1.bcLaunch n { f with seq := l.seq, held := l.injAck }

/-- Queue a frame and start it when the link is free. -/
def State.bcSend (s : State) (n : Nat) (f : BcFrame) : State :=
  let l := s.link n
  (s.setLink n { l with bcq := l.bcq ++ [f] }).bcNext n

/-- A CONTROL frame (R123). -/
def State.bcControl (s : State) (n op : Nat) (args : List Nat) (who : Who) : State :=
  s.bcSend n { op := op, body := args, who := who }

/-- The link is up for frames: enabled and not BANKED (R122). -/
def State.bcAvailable (s : State) (n : Nat) : Bool := s.on (LNK.CFG_EN n) && s.is (LNK.STAT_BC_UP n)

/-- The CONFIG frame of a remote two-wire port: TIM0 to TIM3, TLOTMO, TDLTMO (R405). -/
def State.twConfigBody (s : State) (p : Nat) : List Nat :=
  leBytes 4 (s.rd (TWB.TIM0_LOW p) + 65536 * s.rd (TWB.TIM0_HIGH p)) ++
  leBytes 4 (s.rd (TWB.TIM1_SUSTA p) + 65536 * s.rd (TWB.TIM1_HDSTA p)) ++
  leBytes 4 (s.rd (TWB.TIM2_BUF p) + 65536 * s.rd (TWB.TIM2_SUSTO p)) ++
  leBytes 4 (s.rd (TWB.TIM3_SUDAT p) + 65536 * s.rd (TWB.TIM3_HDDAT p)) ++
  [s.rd (TWB.CFG_TLOTMO p), s.rd (TWB.CFG_TDLTMO p)]

/-- Send CONFIG where it is due: at ALIGNED entry, or after a timing change before the next XFER (R406). -/
def State.twConfig (s : State) (n : Nat) : State :=
  (s.setLink n { s.link n with cfgDue := false }).bcSend n
    { tw := true, op := 1, body := s.twConfigBody n, who := .config }

/-- Send CONFIG only if it is due (R406). -/
def State.twConfigDue (s : State) (n : Nat) : State := if (s.link n).cfgDue then s.twConfig n else s

/-- A link takes a trigger (R121): ALIGNED, ACTIVE and calibrated. -/
def State.linkReady (s : State) (n : Nat) : Bool :=
  s.rd (LNK.STAT_STATE n) == 4 && s.rd (LNK.STAT_PWR_ACT n) == 0 && s.is (LNK.STAT_LLAT_VALID n)

/-- The receiver forwards what the camera sends: ALIGNED, and no near-end loop takes it off the line (R105, R135). -/
def State.heard (s : State) (n : Nat) : Bool := s.rd (LNK.STAT_STATE n) == 4 && (s.link n).loop != 1 && (s.link n).loop != 2

/-- Frame packets reach ingest only while the link is ACTIVE (R128, R131). -/
def State.videoOn (s : State) (n : Nat) : Bool := s.heard n && s.rd (LNK.STAT_PWR_ACT n) == 0

end Sys2Proof.Machine
end

