-- ==== Sys2Proof/Machine/Ledger.lean ====
section
/-! DEFINITION. The trigger ledger: entries, prediction, passing, issues, strobes and the window (R65 to R87, R95). -/

namespace Sys2Proof.Machine

/-! ### Entry fields (R65) -/

/-- Target position of an entry as written. -/
def LEnt.target (e : LEnt) : Quad := BitVec.ofNat 64 (e.d0 + e.d1 * 2 ^ 32)
/-- Axis of an entry. -/
def LEnt.axis (e : LEnt) : Nat := bitsOf e.d2 27 3
/-- ACTION; 4 to 7 act as 0. -/
def LEnt.action (e : LEnt) : Nat := if bitsOf e.d2 24 3 < 4 then bitsOf e.d2 24 3 else 0
/-- APPROACH; 3 acts as 0. -/
def LEnt.approach (e : LEnt) : Nat := if bitsOf e.d2 30 2 = 3 then 0 else bitsOf e.d2 30 2
/-- CAMMASK. -/
def LEnt.cams (e : LEnt) : Nat := bitsOf e.d2 0 24
/-- STRB. -/
def LEnt.strb (e : LEnt) : Nat := bitsOf e.d6 16 8
/-- SET. -/
def LEnt.set (e : LEnt) : Nat := bitsOf e.d6 24 6
/-- COUNT as written. -/
def LEnt.count (e : LEnt) : Nat := bitsOf e.d6 0 16
/-- HOSTREF. -/
def LEnt.hostref (e : LEnt) : Nat := bitsOf e.d7 0 16

/-- The cameras (0 to 23) and strobes (24 + n) an occurrence issues to (R66). -/
def LEnt.channels (e : LEnt) : List Nat :=
  (if e.action = 1 then (List.range 24).filter (fun c => e.cams.testBit c) else []) ++
  (if e.action = 1 ∨ e.action = 2 then ((List.range 8).filter (fun n => e.strb.testBit n)).map (24 + ·) else [])

/-- Active entry `i`. -/
def State.ent (s : State) (i : Nat) : LAct := AMap.get {} s.ledger.active i

/-- Change active entry `i`. -/
def State.setEnt (s : State) (i : Nat) (e : LAct) : State :=
  { s with ledger := { s.ledger with active := AMap.set s.ledger.active i e } }

/-- Set the frozen issues. -/
def State.setFrozen (s : State) (fs : List Frozen) : State := { s with ledger := { s.ledger with frozen := fs } }

/-- The ledger's side of camera `c`. -/
def State.cam (s : State) (c : Nat) : Cam := AMap.get {} s.cams c

/-- Change the ledger's side of camera `c`. -/
def State.setCam (s : State) (c : Nat) (x : Cam) : State := { s with cams := AMap.set s.cams c x }

/-- Strobe output `n`. -/
def State.strobe (s : State) (n : Nat) : Strobe := AMap.get {} s.strobes n

/-- Change strobe output `n`. -/
def State.setStrobe (s : State) (n : Nat) (x : Strobe) : State := { s with strobes := AMap.set s.strobes n x }

/-- Active entries in ARMED, PREDICTING or FROZEN, as TRG_STAT shows (R95). -/
def State.armedCount (s : State) : Nat :=
  (s.ledger.active.filter fun e => e.2.st == .armed || e.2.st == .predicting || e.2.st == .frozen).length

/-! ### Latency (R73) -/

/-- The exposure in force: below 267 ns it acts as 267 ns where an EXPOSURE_END is sent (R120). -/
def State.exposure (s : State) (e : LEnt) (c : Nat) : Nat :=
  if c < 24 ∧ s.on (CAM.SET_WIDTH c) then max e.d3 267 else e.d3

/-- L of a channel of an entry in ns (R73). -/
def State.lead (s : State) (e : LEnt) (c : Nat) : Nat :=
  if c < 24 then s.rd (CAM.LINK_LLAT c) + s.cfg (CAM.LAT_SENS c) + s.exposure e c / 2
  else s.cfg (TRO.LAT (c - 24)) + e.d3 / 2

/-! ### Direction and distance (R67, R68, R76, R79) -/

/-- +1 or -1: the approach direction; with APPROACH 2, the direction of the motion (R67). -/
def State.approachSign (s : State) (e : LEnt) : Int :=
  if e.approach = 1 ∨ (e.approach = 2 ∧ s.motionBack e.axis) then -1 else 1

/-- The axis moves in the approach direction of the entry (R79). -/
def State.movesToward (s : State) (e : LEnt) : Bool :=
  let m := s.axisMotion e.axis
  (m == 1 || m == 2 || m == 3 || m == 4) &&
  decide ((if s.motionBack e.axis then (-1 : Int) else 1) = s.approachSign e)

/-- O of R76: how far the predicted exposure-centre position lies beyond the target in the approach direction, in units
of 2^-16 count. A fraction of a unit counts as a whole one, so that comparing it with 0 and with TOL is comparing O itself. -/
def State.beyond (s : State) (a : LAct) (c t : Nat) : Int :=
  let p := s.posAt a.w.axis t
  let v := s.ledgerSpeed a.w.axis * 256 * s.lead a.w c
  let x := if s.approachSign a.w = 1 then -(-v / 1000000) else v / 1000000
  s.approachSign a.w * (p + BitVec.ofInt 64 x - a.target).toInt

/-- The issue time that R74 predicts for a channel. -/
def State.issueTime (s : State) (a : LAct) (c t : Nat) : Int :=
  let d := (a.target - s.posAt a.w.axis t).toInt
  let v := s.axisSpeed a.w.axis
  t + roundDiv (d * 1000000 * (if v < 0 then -1 else 1)) (256 * v.natAbs) - s.lead a.w c

/-! ### Issues -/

/-- Another issue to the camera lies within MINTI of `x` and wins over it (R85): an issue that is FROZEN or has been
made, or a predicted one that is earlier, or as early with a lower entry index. -/
def State.collides (s : State) (i c : Nat) (x : Int) : Bool :=
  let gap : Int := s.cfg (CAM.MINTI c) * 1000
  let near (y : Int) : Bool := decide (x - gap < y ∧ y < x + gap)
  c < 24 && s.cfg (CAM.MINTI c) ≠ 0 &&
  (s.ledger.frozen.any (fun f => f.chan == c && near f.at_) ||
   ((s.cam c).lastIss.elim false near) ||
   s.ledger.active.any (fun e =>
     match AMap.get .waiting e.2.chan c with
     | .predicted y => near y && decide (y < x ∨ (y = x ∧ e.1 < i))
     | _ => false))

/-- A symbol of a batch: when it is due in thirds of ns, which frozen issue it belongs to, and whether it is its EXPOSURE_END. -/
structure BatchSym where
  want : Int
  item : Nat
  fin  : Bool

/-- Insert a symbol behind those due no later. -/
def batchInsert (x : BatchSym) : List BatchSym → List BatchSym
  | [] => [x]
  | y :: ys => if x.want < y.want then x :: y :: ys else y :: batchInsert x ys

/-- The symbols of frozen issues in order of issue time, an EXPOSURE_END after its TRIGGER (R119, R120). -/
def batchOrder (fs : List Frozen) : List BatchSym :=
  ((List.range fs.length).flatMap fun k => match fs[k]? with
    | some f => ({ want := 3 * f.at_, item := k, fin := false } : BatchSym) ::
        (if f.wide then [{ want := 3 * f.at_ + 3 * f.width, item := k, fin := true }] else [])
    | none => []).foldl (fun a x => batchInsert x a) []

/-- Place the symbols of a batch one after the other (R118 to R120). -/
def batchPlace (now3 : Int) : List BatchSym → Link → List Frozen → Link × List Frozen
  | [], l, fs => (l, fs)
  | x :: xs, l, fs =>
    match fs[x.item]? with
    | none => batchPlace now3 xs l fs
    | some f =>
      let want : Int := if x.fin then f.slot + 2 * f.fine + 3 * f.width else x.want
      let (st, fine, dl, slip) := placeSym l now3 want
      let f1 := { f with slips := f.slips + b2n slip }
      let f2 := if x.fin then { f1 with fin := some (st, fine, dl) } else { f1 with slot := st, fine := fine, delay := dl }
      batchPlace now3 xs (l.withSym now3 st) (fs.set x.item f2)

/-- The symbols of a camera placed in the present sample are placed again together with those of `f`, in order of issue time; a symbol that
has begun keeps its place (R118 to R120). -/
def State.placeFrozen (s : State) (c : Nat) (f : Frozen) : State :=
  let here (x : Frozen) : Bool := x.chan == c && x.madeAt / 10 == s.now / 10
  let old := s.ledger.frozen.filter here
  let l := s.link c
  let l0 := { l with placed := l.placed.filter fun q => !old.any fun x => x.slot == q || x.fin.any fun y => y.1 == q }
  let fs := old.map (fun x => { x with slips := 0 }) ++ [{ f with madeAt := s.now }]
  let r := batchPlace (3 * s.now) (batchOrder fs) l0 fs
  let slips (l : List Frozen) : Nat := l.foldl (fun a x => a + x.slips) 0
  ((s.setLink c r.1).symbolSlips c (slips r.2 - slips old)).setFrozen ((s.ledger.frozen.filter fun x => !here x) ++ r.2)

/-- Freeze an issue: a camera's symbols are placed on its link (R75, R118 to R120). -/
def State.freeze (s : State) (i c : Nat) (x : Int) : State :=
  let a := s.ent i
  let f : Frozen :=
    { entry := i, serial := a.serial, chan := c, at_ := x, lead := s.lead a.w c, width := s.exposure a.w c, axis := a.w.axis,
      wide := decide (c < 24) && s.on (CAM.SET_WIDTH c), madeAt := s.now }
  let s1 := s.setEnt i { a with st := .frozen, chan := AMap.set a.chan c (.frozen x) }
  if c < 24 then s1.placeFrozen c f else s1.setFrozen (s1.ledger.frozen ++ [f])

/-- Skip a channel for the occurrence (R76, R77, R121): the camera's next frame carries MISSED_NEIGHBOUR (R86). -/
def State.skip (s : State) (i c : Nat) (st : ChSt) : State :=
  let a := s.ent i
  let s1 := s.setEnt i { a with chan := AMap.set a.chan c st }
  if c < 24 then s1.setCam c { s1.cam c with missed := true } else s1

/-- Skip a camera that loses to another issue (R85). -/
def State.collide (s : State) (i c : Nat) : State :=
  ((s.skip i c .collided).addSat TRG.NCOLL 1).raise 0x0503 c []

/-! ### The end of an occurrence (R67, R77, R78) -/

/-- The channel has issued or been skipped. -/
def ChSt.closed : ChSt → Bool
  | .issued | .skipped | .collided => true
  | .waiting | .predicted _ | .frozen _ => false

/-- The channel is decided for the occurrence: frozen, issued or skipped. -/
def ChSt.over : ChSt → Bool
  | .waiting | .predicted _ => false
  | .frozen _ | .issued | .skipped | .collided => true

/-- Every channel of the entry has issued or been skipped. -/
def LAct.ended (a : LAct) : Bool := a.w.channels.all fun c => (AMap.get ChSt.waiting a.chan c).closed

/-- The channels in a state, as a bit mask over channels `lo` to `lo + n - 1`. -/
def LAct.mask (a : LAct) (st : ChSt) (lo n : Nat) : Nat :=
  (List.range n).foldl (fun m k => if AMap.get .waiting a.chan (lo + k) = st then m + 2 ^ k else m) 0

/-- Channels skipped in the occurrence, for any reason. -/
def LAct.skips (a : LAct) : Nat :=
  (a.w.channels.filter fun c =>
    AMap.get ChSt.waiting a.chan c = ChSt.skipped ∨ AMap.get ChSt.waiting a.chan c = ChSt.collided).length

/-- The record of several MISSED carries the union of the masks and the sum of the occurrences charged (R77). -/
def missedJoin (x y : List Nat) : List Nat :=
  x.take 2 ++ (List.range 6).map (fun k => (x.getD (k + 2) 0).lor (y.getD (k + 2) 0)) ++
  leBytes 4 (min (leNat (x.drop 8) + leNat (y.drop 8)) 0xFFFFFFFF)

/-- Raise MISSED with the values of R77. Its masks name the cameras skipped under R76 and R121; whether they also name those that R85
skipped, for which TRIG_COLLIDE stands, the spec does not say: they do not (DESIGN CHOICE, log 73). -/
def State.raiseMissed (s : State) (i : Nat) (a : LAct) (charged : Nat) : State :=
  if a.mask .skipped 0 24 = 0 ∧ a.mask .skipped 24 8 = 0 then s
  else s.raiseJoin missedJoin 0x0501 i s.now
    (leBytes 2 a.w.hostref ++ leBytes 4 (a.mask .skipped 0 24) ++ [a.mask .skipped 24 8, 0] ++ leBytes 4 charged)

/-- The entry becomes DONE (R67). -/
def State.entryDone (s : State) (i : Nat) : State :=
  let a := s.ent i
  (s.setEnt i { a with st := .done, chan := [] }).raise 0x050A i (leBytes 2 a.w.hostref)

/-- Charge `k` occurrences to COUNT, or those left where fewer are; 0xFFFF repeats without limit (R67, R78). -/
def State.charge (s : State) (i k : Nat) : State :=
  let a := s.ent i
  s.setEnt i { a with count := if a.count = 0xFFFF then 0xFFFF else a.count - k }

/-- Move on by `k` strides, charging `k` to COUNT (R67, R78). -/
def State.advance (s : State) (i k : Nat) : State :=
  let s1 := s.charge i k
  let a := s1.ent i
  let step : Int := s1.approachSign a.w * (k * a.w.d5)
  s1.setEnt i { a with target := a.target + BitVec.ofInt 64 step, chan := [], st := .armed }

/-- Strides that R78 advances after a skip: the fewest that leave every channel within TOL. -/
def State.strides (s : State) (a : LAct) (t : Nat) : Nat :=
  let o := a.w.channels.foldl (fun m c => max m (s.beyond a c t)) 0
  max 1 (ceilDiv (o - a.w.d4).toNat a.w.d5)

/-- End the occurrence of an entry that has cameras or strobes (R67, R77, R78). -/
def State.endOccurrence (s : State) (i t : Nat) : State :=
  let a := s.ent i
  let n := a.skips
  let s1 := s.addSat TRG.NMISS n
  if a.w.d5 = 0 ∨ a.count = 0 then ((s1.raiseMissed i a 1).charge i 1).entryDone i
  else
    let k := if n = 0 then 1 else s.strides a t
    let left := if a.count = 0xFFFF then k else a.count
    let charged := min k left
    let s2 := (s1.raiseMissed i a charged).addSat TRG.NMISS ((charged - 1) * a.w.channels.length)
    if left < k then (s2.charge i left).entryDone i else s2.advance i k

/-! ### Entries with no camera and no strobe (R77, R89) -/

/-- A SETTINGS occurrence makes its set pending for every camera in its mask (R66, R89). -/
def State.fireSettings (s : State) (e : LEnt) : State :=
  if e.action = 3 then
    ((List.range 24).filter (fun c => e.cams.testBit c)).foldl
      (fun s c => s.setCam c { s.cam c with pendSet := some (e.set, s.now) }) s
  else s

/-- Fire and end every occurrence that the axis position has reached (R67, R77). -/
def State.fireReached (s : State) (i t : Nat) : State :=
  let a := s.ent i
  let d := s.approachSign a.w * (s.posAt a.w.axis t - a.target).toInt
  if d < 0 then s
  else
    let s1 := s.fireSettings a.w
    if a.w.d5 = 0 ∨ a.count = 0 then (s1.charge i 1).entryDone i
    else
      let m := d.toNat / a.w.d5 + 1
      if a.count ≠ 0xFFFF ∧ a.count < m then (s1.advance i a.count).entryDone i else s1.advance i m

/-! ### Evaluation in a sample (R71, R74, R76, R79 to R81) -/

/-- The axis approaches under prediction: MOVING or TIMEBASE, with speed of the sign that the approach direction requires (R72, R74). -/
def State.approaches (s : State) (e : LEnt) : Bool :=
  s.movesToward e && s.predicts e.axis && decide (0 < s.approachSign e * s.axisSpeed e.axis)

/-- One channel of an armed entry: passed within tolerance issues at once, passed beyond it is skipped, otherwise its
issue time is predicted (R74, R76, R85, R121). `fresh`: the entry is evaluated at a standstill too. An entry committed with its target
behind while the axis moves the other way passes nothing and stays ARMED: R79 says both that it does and that the sample of the commit
resolves it (DESIGN CHOICE, log 73). -/
def State.evalChannel (s : State) (i t : Nat) (fresh : Bool) (c : Nat) : State :=
  let a := s.ent i
  if (AMap.get ChSt.waiting a.chan c).over then s
  else if s.movesToward a.w ∨ (fresh ∧ s.axisMotion a.w.axis = 0) then
    let o := s.beyond a c t
    if 0 < o then
      if o ≤ a.w.d4 then
        if c < 24 ∧ s.linkReady c = false then s.skip i c .skipped
        else if s.collides i c t then s.collide i c
        else (s.freeze i c t).raise 0x0502 i (leBytes 2 a.w.hostref)
      else s.skip i c .skipped
    else if s.approaches a.w then s.setEnt i { a with chan := AMap.set a.chan c (.predicted (s.issueTime a c t)) }
    else s.setEnt i { a with chan := AMap.set a.chan c .waiting }
  else s.setEnt i { a with chan := AMap.set a.chan c .waiting }

/-- The state that an entry's channels show (R72). -/
def LAct.settle (a : LAct) : LAct :=
  let has (p : ChSt → Bool) : Bool := a.w.channels.any fun c => p (AMap.get .waiting a.chan c)
  { a with st :=
      if has (fun x => match x with | .frozen _ => true | _ => false) then .frozen
      else if has (fun x => match x with | .predicted _ => true | _ => false) then .predicting
      else .armed }

/-- An entry that is not FROZEN returns to ARMED: nothing of it is predicted (R80). -/
def State.disarm (s : State) (i : Nat) : State :=
  let a := s.ent i
  if a.st = .frozen then s
  else s.setEnt i { a with st := .armed, chan := a.chan.map fun x =>
    (x.1, match x.2 with | .predicted _ => .waiting | y => y) }

/-- An entry with no camera and no strobe: the occurrences that the axis has reached fire; it is PREDICTING while the axis approaches the
target (R72, R77). -/
def State.evalBare (s : State) (i t : Nat) (fresh : Bool) : State :=
  let e := (s.ent i).w
  let s1 := if s.movesToward e ∨ (fresh ∧ s.axisMotion e.axis = 0) then s.fireReached i t else s
  if (s1.ent i).st = .done then s1
  else s1.setEnt i { s1.ent i with st := if s1.approaches e then .predicting else .armed }

/-- Evaluate the channels of an entry, and again after each occurrence that ends in the same sample (R71, R76 to R78). After a skip a target
still passed within tolerance fires at once, at a standstill too (R78). -/
def State.evalLoop (s : State) (i t : Nat) (fresh : Bool) : Nat → State
  | 0 => s
  | k + 1 =>
    let s1 := (s.ent i).w.channels.foldl (fun s c => s.evalChannel i t fresh c) s
    let s2 := s1.setEnt i (s1.ent i).settle
    if (s2.ent i).ended then
      let s3 := s2.endOccurrence i t
      if (s3.ent i).st = .done then s3 else s3.evalLoop i t (fresh || decide ((s2.ent i).skips ≠ 0)) k
    else s2

/-- The occurrences of an entry that can end in one sample: one for each stride that the axis is beyond the target, and the present one. -/
def State.evalFuel (s : State) (a : LAct) (t : Nat) : Nat :=
  if a.w.d5 = 0 then 2 else (a.w.channels.foldl (fun m c => max m (s.beyond a c t)) 0).toNat / a.w.d5 + 3

/-- Evaluate one active entry at elapsed time `t`; `fresh` in the sample of its commit, of a preset of its axis, or of EN set (R71, R76 to
R81). -/
def State.evalEntry (s : State) (t : Nat) (fresh : Bool) (i : Nat) : State :=
  let a := s.ent i
  if a.st = .empty ∨ a.st = .done then s
  else if s.on TRG.CFG_EN = false ∨ s.axisMotion a.w.axis = 5 then s.disarm i
  else if a.w.channels = [] then s.evalBare i t fresh
  else s.evalLoop i t fresh (s.evalFuel a t)

/-- A trigger record whose exposure centre the axis has passed by `t` takes the position and speed there (R86). -/
def State.captureRec (s : State) (n t : Nat) (r : TrigRec) : TrigRec :=
  if r.axis = n ∧ r.pos = none ∧ r.centre ≤ t then { r with pos := some (s.posAt n r.centre, s.rd (AX.SPEED n)) } else r

/-- Capture the position and speed at exposure centres that the axis passes by `t` (R86). -/
def State.captureCentres (s : State) (n t : Nat) : State :=
  { s with
    cams := s.cams.map fun c => (c.1, { c.2 with recs := c.2.recs.map (s.captureRec n t) }),
    frameTags := s.frameTags.map fun e => { e with trig := e.trig.map (s.captureRec n t) } }

/-- Evaluate every active entry of an axis, in order of index (R71). -/
def State.evalAxis (s : State) (n t : Nat) : State :=
  (s.ledger.active.map Prod.fst).foldl (fun s i => if (s.ent i).w.axis = n then s.evalEntry t false i else s) s

/-! ### Rows: the ledger window (R69, R95) -/

/-- The words D0 to D7 of the window. -/
def State.winEnt (s : State) : LEnt :=
  { d0 := s.rd (TRG.WIN_D_D 0), d1 := s.rd (TRG.WIN_D_D 1), d2 := s.rd (TRG.WIN_D_D 2), d3 := s.rd (TRG.WIN_D_D 3),
    d4 := s.rd (TRG.WIN_D_D 4), d5 := s.rd (TRG.WIN_D_D 5), d6 := s.rd (TRG.WIN_D_D 6), d7 := s.rd (TRG.WIN_D_D 7) }

/-- Load the window words from an entry. -/
def State.setWin (s : State) (e : LEnt) : State :=
  (((((((s.wr (TRG.WIN_D_D 0) e.d0).wr (TRG.WIN_D_D 1) e.d1).wr (TRG.WIN_D_D 2) e.d2).wr (TRG.WIN_D_D 3) e.d3).wr
    (TRG.WIN_D_D 4) e.d4).wr (TRG.WIN_D_D 5) e.d5).wr (TRG.WIN_D_D 6) e.d6).wr (TRG.WIN_D_D 7) e.d7

/-- Staged copy of entry `i` (R69). -/
def State.stagedEnt (s : State) (i : Nat) : LEnt := AMap.get {} s.ledger.staged i

/-- Set the staged copy of entry `i`. -/
def State.setStagedEnt (s : State) (i : Nat) (e : LEnt) : State :=
  { s with ledger := { s.ledger with staged := AMap.set s.ledger.staged i e } }

/-- An epoch is armed (R378). -/
def State.sealed (s : State) : Bool := s.epoch.armed.isSome

/-- A write that would have changed staged configuration while an epoch is armed is discarded and reported with its offset (R378). -/
def State.sealedWrite (s : State) (off : Nat) : State := (s.set1 CMD.STAT_SEALED_WR).raise 0x0103 0 (leBytes 4 off)

/-- OP 1: D0 to D7 to the staged copy, discarded while an epoch is armed (R69, R95, R378). -/
def execLedgerWinWrite (s : State) : Host.Outcome State Fault Refusal :=
  let i := s.rd TRG.WIN_IDX_INDEX
  .next (if s.sealed = false then s.setStagedEnt i s.winEnt
    else if s.winEnt = s.stagedEnt i then s else s.sealedWrite 0x50010)

/-- OP 2: the staged copy to D0 to D7 (R95). -/
def execLedgerWinReadStaged (s : State) : Host.Outcome State Fault Refusal :=
  .next (s.setWin (s.stagedEnt (s.rd TRG.WIN_IDX_INDEX)))

/-- The code of an entry state (R72). -/
def LState.code : LState → Nat
  | .empty => 0
  | .armed => 1
  | .predicting => 2
  | .frozen => 3
  | .done => 4

/-- An active entry with its current target and COUNT (R95). -/
def LAct.current (a : LAct) : LEnt :=
  { a.w with d0 := a.target.toNat % 2 ^ 32, d1 := a.target.toNat / 2 ^ 32, d6 := a.w.d6 / 65536 * 65536 + a.count }

/-- OP 3: the active copy, with current target and COUNT, to D0 to D7, and its state to TRG_WIN_STATE (R95). -/
def execLedgerWinReadActive (s : State) : Host.Outcome State Fault Refusal :=
  let i := s.rd TRG.WIN_IDX_INDEX
  let a := s.ent i
  .next (((s.setWin a.current).wr TRG.WIN_STATE_STATE a.st.code).wrB TRG.WIN_STATE_DIFF (s.stagedEnt i ≠ a.w))

/-- TRG_CTL.CLR_CNT clears NFIRE, NMISS and NCOLL (R95). -/
def execTrgClrCnt (s : State) : Host.Outcome State Fault Refusal :=
  .next (((s.wr TRG.NFIRE 0).wr TRG.NMISS 0).wr TRG.NCOLL 0)

/-! ### Rows: issues (R75, R83 to R87, R118 to R121) -/

/-- Re-evaluate an entry whose channel has just issued or been skipped outside an evaluation. While CFG.EN is 0 nothing advances: an
occurrence all of whose frozen issues have completed meanwhile ends at the commit that sets EN (R80; DESIGN CHOICE, log 73). -/
def State.afterChannel (s : State) (i t : Nat) : State :=
  let s1 := s.setEnt i (s.ent i).settle
  if s.on TRG.CFG_EN = false then s1
  else if (s1.ent i).ended then
    let s2 := s1.endOccurrence i t
    if (s2.ent i).st = .done then s2 else s2.evalEntry t (decide ((s1.ent i).skips ≠ 0)) i
  else s1

/-- An issue time 1 µs from due freezes, after the link and collision checks (R75, R85, R121). -/
def State.issueFreeze (s : State) (i c t : Nat) : State :=
  match AMap.get .waiting (s.ent i).chan c with
  | .predicted x =>
    if x - 1000 ≤ t ∧ s.on TRG.CFG_EN then
      let s0 := s.at t
      if c < 24 ∧ s.linkReady c = false then (s0.skip i c .skipped).afterChannel i t
      else if s.collides i c x then (s0.collide i c).afterChannel i t
      else s0.freeze i c x
    else s
  | _ => s

/-- A channel of an entry has issued; a replaced entry has no repeat (R70, R77). -/
def State.issuedOf (s : State) (f : Frozen) (st : ChSt) (t : Nat) : State :=
  let a := s.ent f.entry
  if a.serial = f.serial ∧ a.st ≠ .empty ∧ a.st ≠ .done then
    (s.setEnt f.entry { a with chan := AMap.set a.chan f.chan st }).afterChannel f.entry t
  else s

/-- Remove a frozen issue. -/
def State.unfreeze (s : State) (f : Frozen) : State :=
  s.setFrozen (s.ledger.frozen.erase f)

/-- The exposure-centre instant that R86, R118 and R119 give: t_issue + L plus the delay of the TRIGGER, and half the
delay of its EXPOSURE_END. -/
def Frozen.centre (f : Frozen) : Nat :=
  (f.at_ + f.lead + roundDiv f.delay 3 + (match f.fin with | some (_, _, d) => roundDiv d 6 | none => 0)).toNat

/-- The blanking window of a camera closes. A set that has waited in it for an earlier one still being written did not fit (R88, R89). -/
def State.windowShut (s : State) (c : Nat) : State :=
  let x := s.cam c
  let late := match x.winOpen, x.pendSet, x.writing with
    | some o, some (_, fired), some _ => decide (fired ≤ o)
    | _, _, _ => false
  let s1 := s.setCam c { x with winOpen := none }
  if late then s1.raise 0x0504 c [] else s1

/-- The TRIGGER symbol leaves with the camera's next sequence number; the ledger records it (R83, R118, R120). -/
def State.triggerSend (s : State) (f : Frozen) (t : Nat) : State :=
  let c := f.chan
  let sw := s.windowShut c
  let x := sw.cam c
  let l := sw.link c
  let chk := crc8 [x.seq, f.fine]
  let ends := match f.fin with
    | some (se, fe, _) => l.ends ++ [{ slot := se, fine := fe, seq := x.seq }]
    | none => l.ends
  let s1 := sw.setLink c { l with tx := [0x13C, x.seq, f.fine, chk], txAt := f.slot, ends := ends }
  let r : TrigRec := { seq := x.seq, entry := f.entry, axis := f.axis, centre := f.centre }
  let s2 := s1.setCam c { x with seq := (x.seq + 1) % 256, lastIss := some f.at_, recs := x.recs ++ [r] }
  (s2.addSat TRG.NFIRE 1).issuedOf f .issued t

/-- The frozen issue of a channel that is due first, if it is due by `t`. -/
def State.due (s : State) (c t : Nat) : Option Frozen :=
  (s.ledger.frozen.filter (fun f => f.chan == c && decide (3 * f.at_ + f.delay ≤ 3 * (t : Int)))).foldl
    (fun best f => match best with
      | none => some f
      | some b => if f.at_ < b.at_ then some f else some b) none

/-- Row TRIGGER_ISSUE: the due issue of a camera is sent while its back channel runs (R75, R118, R121). -/
def execTriggerIssue (c : Fin 24) (t : Nat) (s : State) : Host.Outcome State Fault Refusal :=
  .next (match s.due c t with
    | none => s
    | some f =>
      if s.is (LNK.STAT_BC_UP c) then ((s.at t).unfreeze f).triggerSend f t
      else (((s.at t).unfreeze f).setCam c { s.cam c with missed := true }).issuedOf f .skipped t)

/-- The EXPOSURE_END of a link that is due first. -/
def Link.nextEnd (l : Link) : Option EndSym :=
  l.ends.foldl (fun best e => match best with
    | none => some e
    | some b => if e.slot < b.slot then some e else some b) none

/-- Row EXPOSURE_END_ISSUE: the EXPOSURE_END symbol that is due first leaves when its slot has come (R84, R120). -/
def execExposureEndIssue (c : Fin 24) (t : Nat) (s : State) : Host.Outcome State Fault Refusal :=
  .next (match (s.link c).nextEnd with
    | some e =>
      if e.slot ≤ 3 * (t : Int) ∧ s.is (LNK.STAT_BC_UP c) then
        (s.at t).setLink c { s.link c with
          ends := (s.link c).ends.erase e, tx := [0x13C, e.seq, 128 + e.fine, crc8 [e.seq, 128 + e.fine]], txAt := e.slot }
      else s
    | none => s)

/-! ### Rows: strobes (R87) -/

/-- The output of a strobe is on (R87). -/
def Strobe.isOn (x : Strobe) : Bool := x.onAt.isSome

/-- The level of ball TROn: the OR of its pulses, by POL; inactive while EN is 0 (R87). -/
def State.strobeLevel (s : State) (n : Nat) : Bool :=
  (s.on (TRO.CFG_EN n) && (s.strobe n).isOn) != (s.on (TRO.CFG_POL n))

/-- A pulse starting within MINGAP of the output's last turn-off, or after an injected skip, is dropped (R87, R433). -/
def State.strobeGap (s : State) (n t : Nat) : Bool :=
  let x := s.strobe n
  x.injSkip || (!x.isOn && x.offAt.elim false (fun o => decide (t < o + s.cfg (TRO.LIM_MINGAP n) * 1000)))

/-- A pulse of `width` ns placed on strobe `n` at `t` (R87). -/
def State.strobePulse (s : State) (n t width : Nat) : State :=
  let x := s.strobe n
  if s.strobeGap n t then
    ((s.setStrobe n { x with injSkip := false }).addSat (TRO.CNT_SKIP n) 1).raise 0x0507 n []
  else
    s.setStrobe n { x with pulses := x.pulses ++ [t + width], onAt := some (x.onAt.getD t) }

/-- Row STROBE_ISSUE: the due pulse of a strobe starts, at least 10 ns long, or is dropped (R75, R87, R492). -/
def execStrobeIssue (n : Fin 8) (t : Nat) (s : State) : Host.Outcome State Fault Refusal :=
  .next (match s.due (24 + n) t with
    | none => s
    | some f =>
      let s1 := ((s.at t).unfreeze f).addSat TRG.NFIRE 1
      (if s.on (TRO.CFG_EN n) then s1.strobePulse n t (max 10 f.width) else s1).issuedOf f .issued t)

/-- Row STROBE_PULSE_END: pulses whose width has elapsed end; with none left the output returns inactive (R87). -/
def execStrobePulseEnd (n : Fin 8) (t : Nat) (s : State) : Host.Outcome State Fault Refusal :=
  let x := s.strobe n
  let ps := x.pulses.filter fun e => decide (t < e)
  .next (if ps.length = x.pulses.length then s
    else if ps = [] then (s.at t).setStrobe n { x with pulses := [], onAt := none, offAt := some t }
    else (s.at t).setStrobe n { x with pulses := ps })

/-- Pulses that are cut: each counts and is reported (R87). -/
def State.strobeCuts (s : State) (n : Nat) : Nat → State
  | 0 => s
  | k + 1 => ((s.addSat (TRO.CNT_CLIP n) 1).raise 0x0506 n []).strobeCuts n k

/-- Row STROBE_CLIP: an output held on for MAXW is cut, and with it every pulse that would hold it on longer (R87); an injection cuts the
pulse placed last (R433). -/
def execStrobeClip (n : Fin 8) (t : Nat) (s : State) : Host.Outcome State Fault Refusal :=
  let x := s.strobe n
  .next (match x.onAt with
    | some o =>
      let cut := o + max (s.cfg (TRO.LIM_MAXW n)) 1 * 1000
      let long := x.pulses.filter fun e => decide (cut < e)
      if cut ≤ t ∧ long ≠ [] then
        ((s.at t).setStrobe n { x with pulses := [], onAt := none, offAt := some t }).strobeCuts n long.length
      else if x.injClip ∧ x.pulses ≠ [] then
        let rest := x.pulses.dropLast.filter fun e => decide (t < e)
        ((s.at t).setStrobe n { x with pulses := rest, injClip := false, onAt := if rest = [] then none else x.onAt,
                                       offAt := if rest = [] then some t else x.offAt }).strobeCuts n 1
      else s
    | none => s)

end Sys2Proof.Machine
end

