-- ==== Sys2Proof/Machine/AxisHooks.lean ====
section
/-! DEFINITION. What follows an axis beside the ledger: the swaths on it (R244, R255) and the wake distance (R471). -/

namespace Sys2Proof.Machine

/-- The difference of two positions modulo 2^64, signed (R68). -/
def pdiff (a b : Int) : Int := sint 64 (uwrap 64 (a - b))

/-- A swath whose axis is `n` follows it: the highest position, SWATH_REVERSE whenever the axis turns back, and SWATH_RESUME when it
passes the highest position it had reached (R244, R255). -/
def State.swathFollow (s : State) (n t k : Nat) : State :=
  let x := AMap.get {} s.swaths k
  match x.active with
  | none => s
  | some d =>
    if d.axis ≠ n then s
    else
      let pos := (s.posAt n t).toNat
      let put (y : Swath) : State := { s with swaths := AMap.set s.swaths k y }
      if s.is (AX.STAT_DIR n) then
        if x.stop then s else (put { x with back := true, stop := true }).raise 0x1506 k []
      else if 0 < pdiff pos x.top then
        let s1 := put { x with top := pos, back := false, stop := false }
        if x.back then s1.raise 0x1507 k [] else s1
      else if x.stop then put { x with stop := false }
      else s

/-- The swaths follow axis `n`. -/
def State.swathAxis (s : State) (n t : Nat) : State := (s.swathFollow n t 0).swathFollow n t 1

/-- A wake becomes pending; the first one counts (R472). -/
def State.wakePend (s : State) (src : Nat) : State :=
  { s with pwr := { s.pwr with wake := s.pwr.wake.or (some src) } }

/-- SMOULDER is entered or held: wake conditions count (R472, R473). -/
def State.wakeArmed (s : State) : Bool := s.pwr.st == .smoulder || s.pwr.st == .entering || s.pwr.st == .deferral

/-- A wake setting as it was at entry (R478): 0 AXIS, 1 VIN, 2 TIME, 3 AXIS_EN, 4 WAKE_N, 5 DIST, 6 the wake time. -/
def State.wakeSet (s : State) (k : Nat) : Nat := s.pwr.wakeCfg.getD k 0

/-- Axis travel wakes the module: whole counts from the position at entry, in either direction (R472). -/
def State.wakeAxis (s : State) (n t : Nat) : State :=
  if s.wakeArmed && s.wakeSet 3 == 1 && s.wakeSet 0 == n && decide (max 1 (s.wakeSet 5) ≤ (pdiff (s.posAt n t).toNat s.pwr.axisPos.toNat).natAbs / 65536)
  then s.wakePend 3 else s

end Sys2Proof.Machine
end

