-- ==== Sys2Proof/Machine/Axes.lean ====
section
/-! DEFINITION. Encoder ports and axes: edges, serial readings, faults, composition, motion and uncertainty
(R29 to R64). -/

namespace Sys2Proof.Machine

/-! ### Axis state -/

/-- Change an axis's motion state, reporting the change (R54, R64). -/
def State.setMotion (s : State) (n m : Nat) : State :=
  if s.axisMotion n = m then s else (s.wr (AX.STAT_MOTION n) m).raise 0x040B n []

/-- Set an axis speed (R15). -/
def State.setSpeed (s : State) (n : Nat) (v : Int) : State := s.wr (AX.SPEED n) (fit32 v)

/-- The sources of an axis whose counts it takes now: source number and port (R47). -/
def State.sources (s : State) (n : Nat) : List (Nat × Nat) :=
  match s.comb n with
  | 1 | 3 => [(0, s.src n 0)]
  | 4 => [(s.useSrc n, s.src n (s.useSrc n))]
  | 2 => [(0, s.src n 0), (1, s.src n 1)].filter fun x => !s.portFaulted x.2
  | _ => []

/-- Every source the axis needs is faulted, or it is OFF (R54): NO_SOURCE. -/
def State.noSource (s : State) (n : Nat) : Bool :=
  match s.comb n with
  | 0 => true
  | 1 | 3 => s.portFaulted (s.src n 0)
  | 2 => s.portFaulted (s.src n 0) && s.portFaulted (s.src n 1)
  | 4 => s.portFaulted (s.src n (s.useSrc n))
  | 5 => false
  | _ => s.rd TRG.LITE_STAT_STATE == 0

/-- The sources whose port an axis uses: those of `sources`, and in AVERAGE mode a faulted one too, which still widens the uncertainty (R42,
R60). -/
def State.usedSources (s : State) (n : Nat) : List (Nat × Nat) :=
  if s.comb n = 2 then [(0, s.src n 0), (1, s.src n 1)] else s.sources n

/-- An AVERAGE axis still shows the commit sample in which it was rebuilt (R59). -/
def State.resting (s : State) (n t : Nat) : Bool := s.comb n == 2 && (s.axis n).rest.elim false fun a => decide (t ≤ a)

/-- AVERAGE mode: the motion state derived from the sources (R54). Where neither is MOVING and the latest counted steps of both have one
stamp, which of the two states holds the spec does not say: that of source 0 (DESIGN CHOICE, log 72). -/
def State.averageMotion (s : State) (n : Nat) : Nat :=
  match s.sources n with
  | [] => 5
  | [(_, p)] => s.rd (EP.STAT_MOTION p)
  | (_, p) :: (_, q) :: _ =>
    let a := s.rd (EP.STAT_MOTION p)
    let b := s.rd (EP.STAT_MOTION q)
    if a = 0 ∧ b = 0 then 0
    else if a = 3 ∨ b = 3 then 3
    else if (s.port q).countAt ≤ (s.port p).countAt then a else b

/-- AVERAGE mode: the mean of the scaled speeds of the sources in MOVING (R47). -/
def State.averageSpeed (s : State) (n : Nat) : Int :=
  match (s.sources n).filter (fun x => s.rd (EP.STAT_MOTION x.2) = 3) with
  | [] => 0
  | [(k, _)] => s.scaledSpeed n k
  | (k, _) :: (j, _) :: _ => roundDiv (s.scaledSpeed n k + s.scaledSpeed n j) 2

/-- Follow the slip condition of R50; the test is suspended while source 1 is faulted. -/
def State.slipTrack (s : State) (n t : Nat) : State :=
  let a := s.axis n
  let v0 := s.scaledSpeed n 0
  let v1 := s.scaledSpeed n 1
  let c : Option Bool :=
    if s.comb n ≠ 3 ∨ s.portFaulted (s.src n 1) ∨ s.portFaulted (s.src n 0) then none
    else some (decide (s.cfg (AX.SLIP_THR n) * max v0.natAbs v1.natAbs < (v0 - v1).natAbs * 256))
  if a.slip = c then s else s.setAxis n { a with slip := c, slipAt := t }

/-- The speed that the state of an axis shows (R47, R49, R54). -/
def State.speedNow (s : State) (n : Nat) : Int :=
  match s.comb n with
  | 1 | 3 => if s.axisMotion n = 3 then s.scaledSpeed n 0 else 0
  | 4 => if s.axisMotion n = 3 then s.scaledSpeed n (s.useSrc n) else 0
  | 2 => s.averageSpeed n
  | 5 => roundDiv (256 * 1000000) (max (s.cfg (AX.TIMEUNIT n)) 1)
  | 6 => if s.axisMotion n = 4 then roundDiv (256 * 256 * (s.rd TRG.LITE_FREQ_FREQ : Nat)) 1000000 else 0
  | _ => 0

/-- UNC_LIMIT is raised once when the uncertainty reaches its limit from below (R61). -/
def State.uncLimit (s : State) (n old : Nat) : State :=
  let lim := s.cfg (AX.UNCLIM n)
  if lim ≠ 0 ∧ old < lim ∧ lim ≤ s.rd (AX.UNC n) ∧ (s.axis n).uncHit = false then
    (s.setAxis n { s.axis n with uncHit := true }).raise 0x040D n []
  else s

/-- Bring an axis up to date after a change of its sources: faults and failover, motion, speed, slip (R42, R47, R48,
R54). SOURCE_LOST is set by every update that finds a source faulted, so one that software has cleared meanwhile sets again (DESIGN
CHOICE, log 72). -/
def State.followSources (s : State) (n t : Nat) : State :=
  let s0 := s.captureCentres n t
  let lost := (s.comb n == 1 || s.comb n == 2 || s.comb n == 3 || s.comb n == 4) &&
    (s.portFaulted (s.src n 0) || (s.comb n != 1 && s.portFaulted (s.src n 1)))
  let s1 := if lost then s0.set1 (AX.STAT_SOURCE_LOST n) else s0
  let s2 :=
    if s1.comb n = 4 ∧ s1.is (AX.STAT_FAILED_OVER n) = false ∧ s1.portFaulted (s1.src n 0) then
      (((s1.wr (AX.STAT_FAILED_OVER n) 1).addSat (AX.UNC n) 65536).uncLimit n (s1.rd (AX.UNC n))).raise 0x040A n []
    else s1
  let s3 := s2.wrB (AX.STAT_DEGRADED n) (s2.comb n == 2 && (s2.portFaulted (s2.src n 0) != s2.portFaulted (s2.src n 1)))
  let s4 :=
    if s3.noSource n then s3.setMotion n 5
    else if s3.comb n = 2 then s3.setMotion n (if s3.resting n t then 0 else s3.averageMotion n)
    else if s3.comb n = 5 ∨ s3.comb n = 6 then s3.setMotion n 4
    else if s3.axisMotion n = 5 ∨ s3.axisMotion n = 4 then s3.setMotion n 0
    else s3
  (s4.setSpeed n (if s4.resting n t then 0 else s4.speedNow n)).slipTrack n t

/-- After a change of axis `n` at `t`: the ledger evaluates its entries, then the swaths follow (R71). -/
def State.axisChanged (s : State) (n t : Nat) : State := (s.evalAxis n t).swathAxis n t

/-- Axes fold. -/
def State.forAxes (s : State) (f : State → Nat → State) : State := (List.range 8).foldl f s

/-- The first sample after the commit that rebuilt an AVERAGE axis: its state follows from its sources (R59). -/
def State.axisDerive (s : State) (t n : Nat) : State :=
  match (s.axis n).rest with
  | some a =>
    if a < t then
      let s1 := s.setAxis n { s.axis n with rest := none }
      if s1.comb n = 2 then (s1.followSources n (a + 10)).axisChanged n (a + 10) else s1
    else s
  | none => s

/-- Wraps of a TIME or LIGHT axis by `t` that have not been reported: WRAPPED sets and AXIS_WRAP is raised (R51). -/
def State.axisWrap (s : State) (t n : Nat) : State :=
  let a := s.axis n
  let k := (a.pos.toInt + s.travel n t + 2 ^ 63) / 2 ^ 64
  if (s.comb n = 5 ∨ s.comb n = 6) ∧ k ≠ a.wraps then
    ((s.setAxis n { a with wraps := k }).set1 (AX.STAT_WRAPPED n)).raise 0x040C n []
  else s

/-- Position of axis `n` after `h` half units of 2^-16 count more; the odd half unit is carried (R51). -/
def State.shiftPos (s : State) (n : Nat) (h : Int) : State :=
  let a := s.axis n
  let x := a.rem + h
  let add := x.tdiv 2
  let old := a.pos.toInt
  let new := a.pos + BitVec.ofInt 64 add
  let s1 := s.setAxis n { a with pos := new, rem := x.tmod 2 }
  if new.toInt = old + add then s1 else (s1.set1 (AX.STAT_WRAPPED n)).raise 0x040C n []

/-- The position of an axis now, moved by `add` in 2^-16 count, becomes its base (R51, R52). -/
def State.rebase (s : State) (n : Nat) (add : Int) : State :=
  let s1 := s.axisWrap s.now n
  (s1.setAxis n { s1.axis n with pos := s1.posAt n s1.now, baseAt := s1.now, wraps := 0 }).shiftPos n (2 * add)

/-- Elapsed time goes on to `t` and every axis shows what it is then (R51, R59). -/
def State.sampled (s : State) (t : Nat) : State := (s.at t).forAxes fun s n => (s.axisDerive s.now n).axisWrap s.now n

/-- The axis takes source port `p` in some slot. -/
def State.uses (s : State) (n p : Nat) : Bool := (s.sources n).any fun x => x.2 == p

/-- The axis depends on port `p` at all: as a source in use, a fallback or a slip reference (R47). -/
def State.dependsOn (s : State) (n p : Nat) : Bool :=
  match s.comb n with
  | 1 => s.src n 0 == p
  | 2 | 3 | 4 => s.src n 0 == p || s.src n 1 == p
  | _ => false

/-- Every axis that depends on port `p` follows a change of its speed or fault at `t`. -/
def State.portChanged (s : State) (p t : Nat) : State :=
  s.forAxes fun s n =>
    if s.dependsOn n p then
      let v := s.axisSpeed n
      let m := s.axisMotion n
      let s1 := s.followSources n t
      if s1.axisSpeed n = v ∧ s1.axisMotion n = m then s1 else s1.axisChanged n t
    else s

/-! ### Faults of a port (R42) -/

/-- A port is faulted by OPEN, by TRIP, or from the third consecutive serial error (R42). -/
def State.faultCond (s : State) (p : Nat) : Bool :=
  s.rd (EP.STAT_OPEN p) ≠ 0 || s.is (EP.PWR_TRIP p) || decide (3 ≤ (s.port p).serErr)

/-- Bring a port's fault up to date: at its start and its end the port is in STANDSTILL with speed 0 (R42). -/
def State.portFault (s : State) (p t : Nat) : State :=
  let f := s.faultCond p
  if f = s.portFaulted p then s
  else
    let s1 := (((s.wrB (EP.STAT_FAULTED p) f).wr (EP.STAT_MOTION p) 0).wr (EP.SPEED p) 0).setPort p
      { s.port p with win := [], stepAt := t, serPrev := if f then (s.port p).serPrev else none }
    s1.portChanged p t

/-! ### Uncertainty (R60) -/

/-- Add `k` counts to a port's uncertainty and its share to every axis that uses the port (R60, R61). An odd half unit of 2^-16 count, in
AVERAGE mode, is dropped: the spec does not say how it rounds (DESIGN CHOICE, log 72). -/
def State.addUnc (s : State) (p k : Nat) : State :=
  (s.addSat (EP.UNC p) k).forAxes fun s n =>
    let both := s.comb n = 2 ∧ (s.sources n).length = 2
    let g := ((s.usedSources n).filter fun x => x.2 == p).foldl (fun a x => a + (s.gain n x.1).natAbs) 0
    if g = 0 ∨ k = 0 then s
    else
      let old := s.rd (AX.UNC n)
      (s.addSat (AX.UNC n) (if both then k * g / 2 else k * g)).uncLimit n old

/-! ### Counted steps (R34, R47, R51, R54, R55) -/

/-- The motion state after a counted step, from the one before it (R54). -/
def nextMotion (m : Nat) (same : Bool) : Nat :=
  match m with
  | 1 => if same then 3 else 2
  | 2 => if same then 3 else 2
  | 3 => if same then 3 else 2
  | _ => 1

/-- Speed of a window of counted steps, newest first: N over T; no value is stated for steps of one stamp (R55, log 2). -/
def windowSpeed (w : List (Nat × Int)) : Int :=
  match w.head?, w.getLast? with
  | some (t1, _), some (t0, _) =>
    let n := (w.dropLast.map Prod.snd).foldl (· + ·) 0
    if t0 < t1 then roundDiv (256 * n * 1000000) (t1 - t0) else (freeOverflow n).toInt
  | _, _ => 0

/-- A counted step of `d` counts on port `p`, stamped `t` (R36, R39, R42, R54, R55, R57). -/
def State.portStep (s : State) (p t : Nat) (d : Int) : State :=
  let x := s.port p
  let neg := decide (d < 0)
  let s1 := (s.wr (EP.COUNT p) (uwrap 32 (sint 32 (s.rd (EP.COUNT p)) + d))).wr (EP.EDGE_TIME_TIME p) (s.stamp t)
  if s.portFaulted p then s1.setPort p { x with neg := neg, stepAt := t, countAt := t }
  else
    let m := nextMotion (s.rd (EP.STAT_MOTION p)) (neg == x.neg)
    let w := if m = 3 then ((t, d) :: x.win).take (max (s.cfg (EP.CFG_WIN p)) 1 + 1) else [(t, d)]
    let s2 := (s1.setPort p { x with neg := neg, stepAt := t, countAt := t, win := w }).wr (EP.STAT_MOTION p) m
    s2.wr (EP.SPEED p) (if m = 3 then fit32 (windowSpeed w) else 0)

/-- The position moves at a counted step stamped `t`, from which interpolation runs on (R51, R52). -/
def State.movePos (s : State) (n t : Nat) (h : Int) : State :=
  (s.setAxis n { s.axis n with baseAt := t }).shiftPos n h

/-- Half units of 2^-16 count that `d` counts of port `p` add to axis `n` (R47): the mean of both sources in AVERAGE mode. -/
def State.axisHalves (s : State) (n p : Nat) (d : Int) : Int :=
  let srcs := s.sources n
  let g := (srcs.filter fun x => x.2 == p).foldl (fun a x => a + s.gain n x.1) 0
  if s.comb n = 2 ∧ srcs.length = 2 then g * d else 2 * g * d

/-- The counts of a counted step reach an axis that uses the port: position, direction, motion state, speed (R47, R51, R54). -/
def State.axisStep (s : State) (n p t : Nat) (d : Int) : State :=
  if s.uses n p then
    let h := s.axisHalves n p d
    let s0 := s.captureCentres n t
    let s1 := s0.movePos n t h
    let neg := decide (h < 0)
    let was := s1.is (AX.STAT_DIR n)
    let s2 := ((s1.wrB (AX.STAT_DIR n) neg).wr (AX.EDGE_TIME_TIME n) (s1.stamp t)).setAxis n
      { s1.axis n with stepAt := t }
    let s3 := if s2.comb n = 2 then s2 else s2.setMotion n (nextMotion (s2.axisMotion n) (neg == was))
    ((s3.followSources n t).axisChanged n t).wakeAxis n t
  else s

/-- The counts of a faulted edge reach an axis that uses the port: its position moves; direction, motion state, speed and the base of
interpolation in time stay, since a faulted edge is not motion (R34, R36). -/
def State.axisSkip (s : State) (n p t : Nat) (d : Int) : State :=
  if s.uses n p then (((s.captureCentres n t).shiftPos n (s.axisHalves n p d)).axisChanged n t).wakeAxis n t else s

/-- Counts of a port with their sign under DIRINV (R32). -/
def State.signed (s : State) (p : Nat) (d : Int) : Int := if s.on (EP.CFG_DIRINV p) then -d else d

/-- A counted step, delivered to the axes that use the port unless it is faulted (R42, R58). -/
def State.countedStep (s : State) (p t : Nat) (d : Int) : State :=
  let e := s.signed p d
  let s1 := s.portStep p t e
  if s.portFaulted p then s1
  else
    s1.forAxes fun s n =>
      if s.uses n p then s.axisStep n p t e
      else if s.dependsOn n p then s.followSources n t else s

/-- Counts that a faulted edge gives, check 4 of R34: they enter the port's count and the positions of its axes, and nothing of motion
(R36, R39, R42). -/
def State.skippedStep (s : State) (p t : Nat) (d : Int) : State :=
  let e := s.signed p d
  let s1 := s.wr (EP.COUNT p) (uwrap 32 (sint 32 (s.rd (EP.COUNT p)) + e))
  if s.portFaulted p then s1 else s1.forAxes fun s n => s.axisSkip n p t e

/-! ### Edge checks (R32 to R37) -/

/-- The place of an (A, B) state in the positive QUAD sequence 00, 10, 11, 01 (R32); A is bit 0, B bit 1. -/
def quadPos (ab : Nat) : Nat :=
  match ab with
  | 0 => 0
  | 1 => 1
  | 3 => 2
  | _ => 3

/-- The place of a valid Hall state (U, V, W) in the positive sequence (R32); U is bit 0, V bit 1, W bit 2. -/
def hallPos (u : Nat) : Option Nat :=
  match u with
  | 1 => some 0   -- 0b100 as (U, V, W)
  | 3 => some 1
  | 2 => some 2
  | 6 => some 3
  | 4 => some 4
  | 5 => some 5
  | _ => none

/-- Check 2: the stamp lies less than MINIV x 10 ns after the previous observed edge (R34, R35). -/
def State.edgeFast (s : State) (p t : Nat) : Bool :=
  s.cfg (EP.MINIV p) ≠ 0 && (s.port p).prevObs.elim false (fun q => decide (t < q + s.cfg (EP.MINIV p) * 10))

/-- Count a fault of the edge checks, report it and widen the uncertainty (R34). -/
def State.edgeFault (s : State) (p t : Nat) (f : Fld) (code unc : Nat) : State :=
  ((s.addSat f 1).raiseJoin (fun a _ => a) code p t []).addUnc p unc

/-- An observed edge in QUAD mode (R34). -/
def State.quadEdge (s : State) (p t old new : Nat) : State :=
  let a := old % 4
  let b := new % 4
  if a = b then s
  else
    let fast := s.edgeFast p t
    let s1 := s.setPort p { s.port p with prevObs := some t }
    let d := (quadPos b + 4 - quadPos a) % 4
    if d = 2 then s1.edgeFault p t (EP.FCNT0_DOUBLE_STEP p) 0x0401 2
    else if fast then s1.edgeFault p t (EP.FCNT0_EDGE_FAST p) 0x0402 1
    else s1.countedStep p t (if d = 1 then 1 else -1)

/-- An observed edge in HALL mode (R34, R37). The reference is the last valid state: an edge into 0b000 or 0b111 that check 2 decides keeps
it, although the table says updated, and the first valid state after enable becomes the reference and counts nothing (DESIGN CHOICE, log
72). -/
def State.hallEdge (s : State) (p t old new : Nat) : State :=
  if old = new then s
  else
    let fast := s.edgeFast p t
    let x := s.port p
    let s1 := s.setPort p { x with prevObs := some t }
    match x.ref.bind hallPos, hallPos new with
    | _, none =>
      if fast then s1.edgeFault p t (EP.FCNT0_EDGE_FAST p) 0x0402 1
      else s1.edgeFault p t (EP.FCNT1_HALL_INVALID p) 0x0403 0
    | none, some _ =>
      let s2 := s1.setPort p { s1.port p with ref := some new }
      if fast then s2.edgeFault p t (EP.FCNT0_EDGE_FAST p) 0x0402 1 else s2
    | some r, some q =>
      let s2 := s1.setPort p { s1.port p with ref := some new }
      if fast then s2.edgeFault p t (EP.FCNT0_EDGE_FAST p) 0x0402 1
      else
        match (q + 6 - r) % 6 with
        | 0 => s2
        | 1 => s2.countedStep p t 1
        | 5 => s2.countedStep p t (-1)
        | 2 => (s2.edgeFault p t (EP.FCNT1_HALL_SKIP p) 0x0404 1).skippedStep p t 2
        | 4 => (s2.edgeFault p t (EP.FCNT1_HALL_SKIP p) 0x0404 1).skippedStep p t (-2)
        | _ => s2.edgeFault p t (EP.FCNT1_HALL_SKIP p) 0x0404 3

/-- A rising edge of A in STEP_DIR mode; B low, or inside the undefined window, counts positive (R31, R33, R35). -/
def State.stepEdge (s : State) (p t old new : Nat) (mid : Bool) : State :=
  if old % 2 = 0 ∧ new % 2 = 1 then
    let fast := s.edgeFast p t
    let s1 := s.setPort p { s.port p with prevObs := some t }
    if fast then s1.edgeFault p t (EP.FCNT0_EDGE_FAST p) 0x0402 1
    else s1.countedStep p t (if mid ∨ new / 2 % 2 = 0 then 1 else -1)
  else s

/-- An index latch (R38). ZMODE 3, of which the spec states no meaning, latches nothing (DESIGN CHOICE, log 72). -/
def State.indexLatch (s : State) (p t : Nat) : State :=
  let z := s.cfg (EP.CFG_ZMODE p)
  let lv := s.rd (EP.STAT_LEVELS p)
  if z = 1 ∨ (z = 2 ∧ lv % 4 = 3) then
    let old := s.rd (EP.ZLATCH p)
    let new := s.rd (EP.COUNT p)
    let cpr := s.cfg (EP.CPR p)
    let seen := (s.port p).zSeen
    let s1 := (s.wr (EP.ZLATCH p) new).setPort p { s.port p with zSeen := true }
    let d := (sint 32 (new + 2 ^ 32 - old)).natAbs
    if seen ∧ cpr ≠ 0 ∧ d ≠ cpr then
      s1.edgeFault p t (EP.FCNT2_INDEX_MISMATCH p) 0x0408 (min ((d : Int) - cpr).natAbs 65535)
    else s1
  else s

/-- The levels of a port as its filter takes them (R32, R33): a signal inside its undefined window is sensed at its last valid level, low
before any, and INV inverts what is sensed. -/
def State.sense (s : State) (n lv mid : Nat) : State × Nat :=
  let x := s.port n
  let held := (List.range 3).foldl (fun a g => if (if mid.testBit g then x.held else lv).testBit g then a + 2 ^ g else a) 0
  (s.setPort n { x with raw := lv, mid := mid, held := held }, held.xor (s.cfg (EP.CFG_INV n) % 8))

/-- Row ENCODER_EDGE: `lv` are the levels at the inputs C, B, A from the sample stamped `t` on, `mid` the inputs inside their undefined
window; the filter has accepted the levels that are sensed, and the effect is applied FILT samples later (R33). -/
def execEncoderEdge (n : Fin 8) (lv mid : BitVec 3) (t : Nat) (s : State) : Host.Outcome State Fault Refusal :=
  let old := s.rd (EP.STAT_LEVELS n)
  let r := (s.sampled (t + 10 * s.cfg (EP.CFG_FILT n))).sense n lv.toNat mid.toNat
  let new := r.2
  let s1 := r.1.wr (EP.STAT_LEVELS n) new
  .next (if (s.port n).prevObs.elim false (fun q => decide (t ≤ q)) then s
    else match s.portMode n with
    | 1 =>
      let s2 := s1.quadEdge n t old new
      if old / 4 = 0 ∧ new / 4 = 1 then s2.indexLatch n t else s2
    | 2 => s1.hallEdge n t old new
    | 3 => s1.stepEdge n t old new (mid.getLsbD 1)
    | _ => s1)

/-- Row INDEX_PULSE: a rising edge of C, after INV, in QUAD mode (R32, R38). -/
def execIndexPulse (n : Fin 8) (t : Nat) (s : State) : Host.Outcome State Fault Refusal :=
  let x := s.port n
  let c := 1 - bitsOf (s.cfg (EP.CFG_INV n)) 2 1
  let put (v : Nat) : Nat := v % 4 + 4 * c
  .next (if s.portMode n = 1 ∧ s.rd (EP.STAT_LEVELS n) / 4 = 0 then
      (((s.at t).setPort n { x with raw := put x.raw, mid := x.mid % 4, held := put x.held }).wr (EP.STAT_LEVELS n)
        (s.rd (EP.STAT_LEVELS n) % 4 + 4)).indexLatch n t
    else s)

/-! ### Open wires and supply (R40 to R42) -/

/-- Signal `g` (0 A, 1 B, 2 C) of a port is in use as an input and may be reported OPEN (R40); with ZMODE 3 C is in use, since ZMODE is not 0
(log 72). -/
def State.openable (s : State) (p g : Nat) : Bool :=
  s.on (EP.CFG_OPEN_EN p) &&
  (match s.portMode p with
   | 1 => g < 2 || (g == 2 && s.cfg (EP.CFG_ZMODE p) ≠ 0)
   | 2 => g < 3
   | 3 => g == 0
   | 4 | 5 => g == 1
   | _ => false)

/-- A signal becomes OPEN: live and sticky bits, event, fault (R40, R42). -/
def State.openWire (s : State) (p g t : Nat) : State :=
  let o := s.rd (EP.STAT_OPEN p)
  let s1 := (s.wr (EP.STAT_OPEN p) (o.lor (2 ^ g))).sets1 (EP.STAT_OPEN_STKY p) (2 ^ g)
  (s1.raise 0x0405 p []).portFault p t

/-- Row OPEN_WIRE (R40). -/
def execOpenWire (n : Fin 8) (sig : Fin 3) (t : Nat) (s : State) : Host.Outcome State Fault Refusal :=
  .next (if s.openable n sig ∧ (s.rd (EP.STAT_OPEN n)).testBit sig = false then (s.at t).openWire n sig t else s)

/-- Row OPEN_CLEAR: 50 µs at a valid level (R40). -/
def execOpenClear (n : Fin 8) (sig : Fin 3) (t : Nat) (s : State) : Host.Outcome State Fault Refusal :=
  let o := s.rd (EP.STAT_OPEN n)
  .next (if o.testBit sig then ((s.at t).wr (EP.STAT_OPEN n) (o - 2 ^ sig.val)).portFault n t else s)

/-- ENC_PWRn is on (R41); in SMOULDER only where ENCKEEP keeps it, in OFF never (R458, R471). -/
def State.encPower (s : State) (n : Nat) : Bool :=
  s.on (EP.PWR_EN n) && !s.is (EP.PWR_TRIP n) && s.pwr.st != .off && (s.pwr.st != .smoulder || s.pwr.encKeep.testBit n)

/-- The sensor supply latches off (R41). -/
def State.encTrip (s : State) (p t : Nat) : State :=
  ((s.set1 (EP.PWR_TRIP p)).raise 0x0406 p []).portFault p t

/-- Row PWR_OVERCURRENT (R41). -/
def execPwrOvercurrent (n : Fin 8) (t : Nat) (s : State) : Host.Outcome State Fault Refusal :=
  .next (if s.encPower n then (s.at t).encTrip n t else s)

/-- Row ENC_PWR_TRIP_CLEAR: clearing TRIP turns the switch on again where EN is 1 (R41): `encPower` follows. -/
def execEncPwrTripClear (n : Fin 8) (t : Nat) (s : State) : Host.Outcome State Fault Refusal :=
  .next (((s.at t).clear1 (EP.PWR_TRIP n) 1).portFault n t)

/-! ### Serial sensors (R43 to R46, R57) -/

/-- BITS in force, 8 to 40 (R44, R63). -/
def State.serBits (s : State) (p : Nat) : Nat := max 8 (min 40 (s.cfg (EP.SER_BITS p)))

/-- PERIOD in force in ns, 2 to 10,000 µs (R43, R63). -/
def State.serPeriod (s : State) (p : Nat) : Nat := max 2 (min 10000 (s.cfg (EP.SER2_PERIOD p))) * 1000

/-- Half a period of the serial clock in ns: CLKDIV below 4 acts as 4 (R43). -/
def State.serHalf (s : State) (p : Nat) : Nat := 10 * (max (s.cfg (EP.SER_CLKDIV p)) 4 + 1)

/-- TIMEOUT in force in ns: the monoflop time of SSI, the start-bit timeout of BISS; 0 acts as 1 µs (R44, R45, R63). -/
def State.serTimeout (s : State) (p : Nat) : Nat := max 1 (s.cfg (EP.SER2_TIMEOUT p)) * 1000

/-- The earliest end of a reading begun at `start` (R44, R45). An SSI reading with data low before the first clock ends there; another
ends a monoflop time after the last clock of its position and status bits. A BISS reading without a start bit ends at the timeout;
another after start bit, CDS bit, position, nE, nW and CRC. -/
def State.serEnd (s : State) (p start : Nat) (early : Bool) : Nat :=
  let clocks (k : Nat) : Nat := start + 2 * s.serHalf p * (s.serBits p + k)
  if s.portMode p = 4 then (if early then clocks (min 2 (s.cfg (EP.SER_ERRBITS p))) + s.serTimeout p else start)
  else if early then clocks 10 else start + s.serTimeout p

/-- Row SERIAL_READING_START: the period has passed since the last start and the last reading has ended at least 1 µs
ago where it postponed this one (R43). The first reading after enable starts at once: the spec does not say when it is due (DESIGN
CHOICE, log 72). -/
def execSerialReadingStart (n : Fin 8) (t : Nat) (s : State) : Host.Outcome State Fault Refusal :=
  let x := s.port n
  let ready := (s.portMode n == 4 || s.portMode n == 5) && x.reading.isNone &&
    x.readAt.elim true (fun a => decide (a + s.serPeriod n ≤ t) &&
      (decide (x.readEnd ≤ a + s.serPeriod n) || decide (x.readEnd + 1000 ≤ t)))
  .next (if ready then (s.at t).setPort n { x with reading := some t, readAt := some t } else s)

/-- Gray code to binary (R44). -/
def grayToBin : Nat → Nat → Nat
  | 0, _ => 0
  | k + 1, g => if g = 0 then 0 else g.xor (grayToBin k (g / 2))

/-- One bit through the BiSS CRC x^6 + x + 1 (R45). -/
def crc6Bit (c : Nat) (b : Bool) : Nat :=
  let x := (2 * c) % 64
  if (c.testBit 5) != b then x.xor 3 else x

/-- The BiSS CRC over `k` bits, most significant first (R45). -/
def crc6 (c v : Nat) : Nat → Nat
  | 0 => c
  | k + 1 => crc6 (crc6Bit c (v.testBit k)) v k

/-- A serial error (R42, R46). -/
def State.serialError (s : State) (p t : Nat) : State :=
  let x := s.port p
  (((s.setPort p { x with serErr := x.serErr + 1 }).addSat (EP.FCNT2_SERIAL_ERR p) 1).raise 0x0407 p [0]).portFault p t

/-- A good reading of a position: the delta from the previous good one, or none for the first (R46, R57). -/
def State.serialGood (s : State) (p t v : Nat) : State :=
  let b := s.serBits p
  let s1 := ((s.setPort p { s.port p with serErr := 0 }).wr (EP.SERDATA_DATA p) v).portFault p t
  let prev := (s1.port p).serPrev
  let s2 := s1.setPort p { s1.port p with serPrev := some v }
  match prev with
  | none => s2
  | some q =>
    let d := sint b (v + 2 ^ b - q)
    if d = 0 then s2 else s2.countedStep p t d

/-- Row SERIAL_READING: the reading ends. `early`: data high before the first clock (SSI), start bit within TIMEOUT
(BISS). A reading does not end before `serEnd`. `errs`: SSI status bits as received, or nE (bit 0) and nW (bit 1) of BISS. `crc`: the BISS CRC as received. -/
def execSerialReading (n : Fin 8) (early : Bool) (raw : BitVec 40) (errs : BitVec 2) (crc : BitVec 6) (t : Nat)
    (s : State) : Host.Outcome State Fault Refusal :=
  let x := s.port n
  let b := s.serBits n
  let v := raw.toNat % 2 ^ b
  .next (match x.reading with
    | none => s
    | some start =>
      if t < s.serEnd n start early then s
      else
      let s1 := (s.at t).setPort n { x with reading := none, readEnd := t }
      let inst := start - s.cfg (EP.SLAT n)
      if s.portMode n = 4 then
        if early = false ∨ errs.toNat % 2 ^ min 2 (s.cfg (EP.SER_ERRBITS n)) ≠ 0 then s1.serialError n t
        else s1.serialGood n inst (if s.on (EP.SER_GRAY n) then grayToBin b v else v)
      else if s.portMode n = 5 then
        let nE := errs.getLsbD 0
        let nW := errs.getLsbD 1
        let want := 63 - crc6Bit (crc6Bit (crc6 0 v b) nE) nW
        if early = false ∨ crc.toNat ≠ want ∨ nE = false then s1.serialError n t
        else (if nW then s1 else s1.raise 0x0407 n [1]).serialGood n inst v
      else s1)

/-! ### Timeouts (R54, R56, R58) -/

/-- SSTO in force in ns; 0 acts as 1 (R54, R63). -/
def State.ssto (s : State) (p : Nat) : Nat := max (s.cfg (EP.SSTO p)) 1 * 10000

/-- Row STANDSTILL_TIMEOUT: the port, and each axis that runs the table on it, without a counted step for SSTO (R54). -/
def execStandstillTimeout (n : Fin 8) (t : Nat) (s : State) : Host.Outcome State Fault Refusal :=
  let hit := decide ((s.port n).stepAt + s.ssto n ≤ t) && s.rd (EP.STAT_MOTION n) ≠ 0 && !s.portFaulted n
  let axisHit (s : State) (k : Nat) : Bool :=
    (s.comb k == 1 || s.comb k == 3 || s.comb k == 4) && s.src k (s.useSrc k) == n.val &&
    (s.axisMotion k == 1 || s.axisMotion k == 2 || s.axisMotion k == 3) &&
    decide ((s.axis k).stepAt + s.ssto n ≤ t)
  let any := hit || (List.range 8).any (axisHit s)
  let s0 := if any then s.at t else s
  let s1 := if hit then ((s0.wr (EP.STAT_MOTION n) 0).wr (EP.SPEED n) 0).setPort n { s0.port n with win := [] } else s0
  .next (s1.forAxes fun s k =>
    if axisHit s k then ((s.setMotion k 0).followSources k t).axisChanged k t
    else if hit ∧ s.dependsOn k n then (s.followSources k t).axisChanged k t
    else s)

/-- Row SPEED_DECAY: past the time the speed gives for one count, the magnitude is that of one count in the time elapsed
(R56). -/
def execSpeedDecay (n : Fin 8) (t : Nat) (s : State) : Host.Outcome State Fault Refusal :=
  let e := t - (s.port n).stepAt
  let v := s.portSpeed n
  .next (if s.rd (EP.STAT_MOTION n) = 3 ∧ 256000000 < e * v.natAbs then
      let m := roundDiv 256000000 e
      (((s.at t).wr (EP.SPEED n) (fit32 (if v < 0 then -m else m)))).portChanged n t
    else s)

/-! ### Slip (R50) -/

/-- TIME of AXn_SLIP in ns; 0 acts as 1. -/
def State.slipTime (s : State) (n : Nat) : Nat := max (s.cfg (AX.SLIP_TIME n)) 1 * 1000000

/-- Row SLIP: the mismatch has lasted TIME ms, or an injection holds it (R50, R433). -/
def execSlip (n : Fin 8) (t : Nat) (s : State) : Host.Outcome State Fault Refusal :=
  let a := s.axis n
  .next (if (a.slip = some true ∨ a.slipInj) ∧ a.slipAt + s.slipTime n ≤ t ∧ s.is (AX.STAT_SLIP n) = false then
      ((((s.at t).setAxis n { a with slipInj := false })).wr (AX.STAT_SLIP n) 1).raise 0x0409 n []
    else s)

/-- Row SLIP_CLEAR: the condition has been absent for TIME ms (R50). While the test does not run, since COMB has left SLIP or a source is
faulted, a set SLIP stays: the spec does not say what becomes of it (DESIGN CHOICE, log 72). -/
def execSlipClear (n : Fin 8) (t : Nat) (s : State) : Host.Outcome State Fault Refusal :=
  let a := s.axis n
  .next (if a.slip = some false ∧ a.slipInj = false ∧ a.slipAt + s.slipTime n ≤ t ∧ s.is (AX.STAT_SLIP n) then
      (s.at t).wr (AX.STAT_SLIP n) 0
    else s)

/-! ### Snapshots and clears (R60, R62, R63) -/

/-- AXn_STAT as it reads. -/
def State.axisStat (s : State) (n : Nat) : Nat :=
  s.rd (AX.STAT_MOTION n) + 8 * s.rd (AX.STAT_DIR n) + 64 * s.rd (AX.STAT_DEGRADED n) + 128 * s.rd (AX.STAT_SLIP n) +
  256 * s.rd (AX.STAT_FAILED_OVER n) + 512 * s.rd (AX.STAT_PRESET n) + 1024 * s.rd (AX.STAT_WRAPPED n) +
  2048 * s.rd (AX.STAT_SOURCE_LOST n)

/-- Snapshot one axis at `t` (R62). -/
def State.snapAxis (s : State) (t n : Nat) : State :=
  let p := (s.posAt n t).toNat
  (((((s.wr (AX.SNAP_POS_LO_POS n) p).wr (AX.SNAP_POS_HI_POS n) (p / 2 ^ 32)).wr
    (AX.SNAP_SPEED_SPEED n) (s.rd (AX.SPEED n))).wr (AX.SNAP_STAT_STAT n) (s.axisStat n)).wr
    (AX.SNAP_UNC_UNC n) (s.rd (AX.UNC n))).wr (AX.SNAP_TIME_TIME n) (s.stamp t)

/-- Row AXS_SNAP: every axis whose bit is 1, in one sample (R62). -/
def execAxsSnap (axes : BitVec 8) (t : Nat) (s : State) : Host.Outcome State Fault Refusal :=
  .next ((s.sampled t).forAxes fun s n => if axes.getLsbD n then s.snapAxis t n else s)

/-- Row EP_CLR_UNC (R60). -/
def execEpClrUnc (n : Fin 8) (s : State) : Host.Outcome State Fault Refusal := .next (s.wr (EP.UNC n) 0)

/-- Row EP_CLR_CNT: EPn_FCNT0 to EPn_FCNT2 clear (R63). -/
def execEpClrCnt (n : Fin 8) (s : State) : Host.Outcome State Fault Refusal :=
  .next ((((((s.wr (EP.FCNT0_EDGE_FAST n) 0).wr (EP.FCNT0_DOUBLE_STEP n) 0).wr (EP.FCNT1_HALL_SKIP n) 0).wr
    (EP.FCNT1_HALL_INVALID n) 0).wr (EP.FCNT2_INDEX_MISMATCH n) 0).wr (EP.FCNT2_SERIAL_ERR n) 0)

/-- Row AX_CLR_UNC: the uncertainty clears and UNC_LIMIT may be raised again (R60, R61). -/
def execAxClrUnc (n : Fin 8) (s : State) : Host.Outcome State Fault Refusal :=
  .next ((s.wr (AX.UNC n) 0).setAxis n { s.axis n with uncHit := false })

end Sys2Proof.Machine
end

