-- ==== Sys2Proof/Machine/HostIf.lean ====
section
/-! DEFINITION. The host side of the module: MSI-X, completion coalescing, the event ring and the peek FIFO
(R286, R314 to R317). -/

namespace Sys2Proof.Machine

/-! ### The PCIe function (R286) -/

/-- The fixed part of the endpoint's configuration space: header type, device ID, class code, BAR0 and what it supports. The vendor
ID is the vendor's own (log 77). -/
structure PcieFn where
  headerType   : Nat := 0
  deviceId     : Nat := 0x2412
  classCode    : Nat := 0x048000
  barBits      : Nat := 64
  prefetchable : Bool := false
  barBytes     : Nat := 0x4000000
  payloads     : List Nat := [128, 256, 512]
  readMax      : Nat := 4096
  tagBits      : Nat := 10
  vectors      : Nat := 64
  aer          : Bool := true
  flr          : Bool := true
  d3hot        : Bool := true
  aspmL1       : Bool := true
  absent       : List String := ["legacy interrupts", "MSI", "ATS", "PASID", "SR-IOV", "L0s", "relaxed ordering", "no snoop"]
  deriving DecidableEq, Repr

/-- The function of this module (R286). -/
def pcieFn : PcieFn := {}

/-- An offset lies in the function's BAR0 (R286). -/
def inBar0 (off : Nat) : Bool := decide (off < pcieFn.barBytes)

/-- The endpoint may enter ASPM L1: no stream is OPEN, SHED or SUSPENDED (R286). -/
def State.aspmL1 (s : State) : Bool := (List.range 62).all fun q => s.rd (DQ.STAT_STATE q) == 0

/-! ### Queues and the traffic that stands behind admitted items (R305, R310) -/

/-- Delivery queue `q` beside its registers. -/
def State.dq (s : State) (q : Nat) : DQueue := AMap.get {} s.dlv.queues q

/-- An item has data ready to be written: a whole chunk, or what is left of a payload that is complete (R305). -/
def DItem.ready (i : DItem) : Bool :=
  decide (i.sent + 4096 ≤ i.pay.length) || ((i.rcd.isSome || i.cut) && decide (i.sent < i.pay.length))

/-- The items of a queue that a chunk may be taken from: those with data ready; while a stream's queue is to flush, only those
already begun (R305, R310). -/
def State.dlvCan (s : State) (q : Nat) : List DItem :=
  (s.dq q).items.filter fun i => i.ready && (decide (62 ≤ q) || i.sent != 0 || !s.is (DQ.STAT_FLUSHING q))

/-- `n` bytes of DQ62, DQ63, events or command completions stand behind the admitted items: the 100,000 bytes of the tick are used
and some admitted item has data ready (R305). -/
def State.lowHeld (s : State) (n : Nat) : Bool :=
  decide (100000 < s.dlv.low + n) && s.dlv.queues.any fun e => decide (e.1 < 62) && !(s.dlvCan e.1).isEmpty

/-! ### MSI-X and coalescing (R317) -/

/-- Word `k` of the MSI-X table; the vector control word of an entry resets to masked (log 12). -/
def State.msixWord (s : State) (k : Nat) : Nat := AMap.get (if k % 4 = 3 then 1 else 0) s.msix k

/-- Send the message of a vector, or leave it pending while the vector is masked. -/
def State.msixSend (s : State) (v : Nat) : State :=
  if (s.msixWord (4 * v + 3)).testBit 0 then { s with msixPend := s.msixPend.lor (2 ^ v) }
  else
    { (s.hostWrite (s.msixWord (4 * v) / 4 * 4 + 2 ^ 32 * s.msixWord (4 * v + 1)) (leBytes 4 (s.msixWord (4 * v + 2)))) with
      msixSent := AMap.set s.msixSent v (AMap.get 0 s.msixSent v + 1) }

/-- Set a word of the MSI-X table; a pending vector whose mask clears sends its message. -/
def State.msixWrite (s : State) (k val : Nat) : State :=
  let s1 := { s with msix := AMap.set s.msix k (val % 2 ^ 32) }
  let v := k / 4
  if s1.msixPend.testBit v ∧ (s1.msixWord (4 * v + 3)).testBit 0 = false then
    { s1 with msixPend := s1.msixPend - 2 ^ v }.msixSend v
  else s1

/-- COALN of a coalescing source: queues 0 to 63, the event ring 64, the command ring 65 (R317, R371). -/
def State.coalN (s : State) (k : Nat) : Nat :=
  if k = 64 then s.rd DLV.EVR_CFG_COALN else if k = 65 then s.rd CMD.CFG_COALN else s.rd (DQ.CFG_COALN k)

/-- COALT in ns; 0 acts as 1 µs. -/
def State.coalT (s : State) (k : Nat) : Nat :=
  1000 * max 1 (if k = 64 then s.rd DLV.EVR_COALT_COALT else if k = 65 then s.rd CMD.COALT else s.rd (DQ.COALT k))

/-- The vector of a coalescing source. -/
def State.coalVec (s : State) (k : Nat) : Nat :=
  if k = 64 then s.rd DLV.EVR_CFG_VEC else if k = 65 then s.rd CMD.CFG_VEC else s.rd (DQ.CFG_VEC k)

/-- Forget the completions just signalled. -/
def State.coalReset (s : State) (k : Nat) : State := { s with coal := AMap.set s.coal k {} }

/-- One more completion of a source: at COALN of them the message is sent (R317). -/
def State.signal (s : State) (k : Nat) : State :=
  let c := AMap.get {} s.coal k
  if s.coalN k ≠ 0 ∧ s.coalN k ≤ c.n + 1 then (s.coalReset k).msixSend (s.coalVec k)
  else { s with coal := AMap.set s.coal k { n := c.n + 1, at_ := some (c.at_.getD s.now) } }

/-- Row COALESCE_TIMEOUT: COALT after the oldest completion not yet signalled the message is sent (R317). -/
def execCoalesceTimeout (k : Fin 66) (t : Nat) (s : State) : Host.Outcome State Fault Refusal :=
  .next (match (AMap.get {} s.coal k.val).at_ with
    | some o => if o + s.coalT k ≤ t ∧ s.coalN k ≠ 0 ∧ s.rd DLV.LINK_MODE ≠ 0 then ((s.at t).coalReset k).msixSend (s.coalVec k) else s
    | none => s)

/-! ### Events become records (R314 to R316) -/

/-- The module ID in use (R361). -/
def State.moduleId (s : State) : Nat := s.rd SYS.MODID_ID

/-- Pad or cut to 12 value bytes. -/
def evVals (v : List Nat) : List Nat := (v ++ List.replicate 12 0).take 12

/-- The 32 bytes of an event record (R315). -/
def State.evBytes (s : State) (r : EvRec) (phase : Nat) : List Nat :=
  leBytes 2 r.code ++ leBytes 2 s.moduleId ++ leBytes 2 r.idx ++ leBytes 2 r.count ++ leBytes 8 r.time ++
  evVals r.vals ++ [0, 0, 0, phase % 2]

/-- Bytes as 32-bit little-endian words. -/
def toWords : List Nat → List Nat
  | a :: b :: c :: d :: r => leNat [a, b, c, d] :: toWords r
  | _ => []

/-- A copy of a record enters the peek FIFO of 16 records (R314). The PHASE bit of the copy is not stated (log 2). -/
def State.evPeek (s : State) (r : EvRec) : State :=
  let e := s.events
  let p := (e.peek ++ [toWords (s.evBytes r (s.free 1))])
  let peek := p.drop (p.length - 16)
  { s.used with events := { e with peek := peek } }.wr DLV.EVPK_STAT_LEVEL peek.length

/-- A record is raised: a copy enters the peek FIFO, and it waits for the ring while the ring is enabled (R314 to
R316). -/
def State.evRaise (s : State) (r : EvRec) : State :=
  let s1 := s.evPeek r
  if s.rd DLV.EVR_CFG_EN = 1 then { s1 with events := { s1.events with out := s1.events.out ++ [r] } }
  else { s1 with events := { s1.events with lost := s1.events.lost + 1 } }.addSat DLV.EVR_LOST_LOST 1

/-- At the tick every waiting occurrence becomes one record of its code and index (R64). Which of several occurrences
gives the values is not stated (log 11). -/
def State.evTick (s : State) : State :=
  s.events.pend.foldl
    (fun s e => s.used.evRaise { code := e.code, idx := e.idx, count := e.count, time := e.time,
                                 vals := if s.free 1 = 0 then e.first else e.last })
    { s with events := { s.events with pend := [] } }

/-- Records of the event ring: 2^(RSZ + 6), RSZ above 10 acting as 10 (R315). -/
def State.evrSize (s : State) : Nat := 2 ^ (min 10 (s.rd DLV.EVR_CFG_RSZ) + 6)

/-- The host link is up (R285). -/
def State.hostUp (s : State) : Bool := s.rd DLV.LINK_MODE ≠ 0

/-- A record fits: TAIL would not equal HEAD after it (R316). -/
def State.evrRoom (s : State) : Bool :=
  s.rd DLV.EVR_CFG_EN == 1 && s.hostUp && (s.rd DLV.EVR_TAIL_TAIL + 1) % s.evrSize ≠ s.rd DLV.EVR_HEAD_HEAD % s.evrSize

/-- Count bytes of the class that R305 lets go ahead in a tick: events, command completions, DQ62 and DQ63. -/
def State.lowWrite (s : State) (n : Nat) : State := { s with dlv := { s.dlv with low := s.dlv.low + n } }

/-- Write a record at TAIL and step on; PHASE alternates at each wrap (R291, R315). -/
def State.evrWrite (s : State) (r : EvRec) : State :=
  let i := s.rd DLV.EVR_TAIL_TAIL % s.evrSize
  let base := s.rd DLV.EVR_BASE_LO_BASE / 64 * 64 + 2 ^ 32 * s.rd DLV.EVR_BASE_HI_BASE
  let s1 := s.hostWrite (base + 32 * i) (s.evBytes r s.events.phase)
  let s2 := s1.wr DLV.EVR_TAIL_TAIL ((i + 1) % s.evrSize)
  let s3 := if i + 1 = s.evrSize then { s2 with events := { s2.events with phase := 1 - s2.events.phase } } else s2
  (s3.lowWrite 32).signal 64

/-- EVENT_LOST is the first record written once there is space after records have gone unwritten (R316); like every record it enters
the peek FIFO (R314), and it may stand behind admitted items (R305). -/
def State.evLost (s : State) : State :=
  if s.events.lost ≠ 0 ∧ s.evrRoom ∧ s.lowHeld 32 = false then
    let r : EvRec := { code := 0x020E, idx := 0, count := 1, time := s.dev, vals := leBytes 4 s.events.lost }
    (({ s with events := { s.events with lost := 0 } }).evPeek r).evrWrite r
  else s

/-- Row EVENT_RECORD: after an EVENT_LOST that is due, the oldest raised record is written to the ring, or is lost; within a tick
records may stand behind admitted items (R305, R315, R316). -/
def execEventRecord (t : Nat) (s : State) : Host.Outcome State Fault Refusal :=
  .next (if s.rd DLV.EVR_CFG_EN = 1 ∧ (s.hostUp = false ∨ s.lowHeld 32) then s
    else
      let s1 := (s.at t).evLost
      match s1.events.out with
      | [] => s1
      | r :: rs =>
        if s1.rd DLV.EVR_CFG_EN = 1 ∧ s1.lowHeld 32 then s1
        else
          let s2 : State := { s1 with events := { s1.events with out := rs } }
          if s2.evrRoom then s2.evrWrite r
          else { s2 with events := { s2.events with lost := s2.events.lost + 1 } }.addSat DLV.EVR_LOST_LOST 1)

/-- EN changes from 0 to 1 and the event ring restarts at record 0 with PHASE 1 (R315, R316). -/
def State.evrEnable (s : State) : State :=
  if s.rd DLV.EVR_CFG_EN = 1 then s
  else ({ (s.wr DLV.EVR_CFG_EN 1).wr DLV.EVR_TAIL_TAIL 0 with events := { s.events with phase := 1 } }).evLost

/-- Row EVENT_RING_ENABLE (R315, R316). -/
def execEventRingEnable (s : State) : Host.Outcome State Fault Refusal := .next s.evrEnable

/-- A read of DLV_EVPK_DATA: one word of the oldest record in the FIFO; an empty FIFO answers the previous word (R314). -/
def State.evPop (s : State) : State :=
  match s.events.peek with
    | (w :: ws) :: rest =>
      let left := if ws = [] then rest else ws :: rest
      (({ s with events := { s.events with peek := left, peekLast := w }, busRead := w }).wr DLV.EVPK_DATA_DATA w).wr
        DLV.EVPK_STAT_LEVEL left.length
    | _ => { s with busRead := s.events.peekLast }.set1 DLV.EVPK_STAT_UNDERRUN

/-- Row EVENT_PEEK_POP (R314). -/
def execEventPeekPop (s : State) : Host.Outcome State Fault Refusal := .next s.evPop

end Sys2Proof.Machine
end

