-- ==== Sys2Proof/Machine/CmdOps.lean ====
section
/-! DEFINITION. Commands and replies: packets, checks, the completion ring and the SMBus reply (R367 to R375, R394). -/

namespace Sys2Proof.Machine

/-- Argument word `k` of a packet. -/
def CmdPkt.arg (c : CmdPkt) (k : Nat) : Nat := c.w.getD k 0

/-- The 64-bit number in words `k` and `k + 1`. -/
def CmdPkt.arg64 (c : CmdPkt) (k : Nat) : Nat := c.arg k + 2 ^ 32 * c.arg (k + 1)

/-- The packet a sender posts, with the opcode of its row. -/
def cmdPkt (p : Cmd) (op t : Nat) : CmdPkt :=
  { op := op, cid := p.cid.toNat, flags := p.flags.toNat, resv := p.resv.toNat, idx := p.idx.toNat,
    w := (p.w.take 14).map BitVec.toNat, start := t }

/-- The first byte that is not 0 in a number, counted from its least significant byte. -/
def firstByte (v : Nat) : Nat :=
  if v % 256 ≠ 0 then 0 else if v / 256 % 256 ≠ 0 then 1 else if v / 65536 % 256 ≠ 0 then 2 else 3

/-- Offset of the first offending byte: reserved flag bits, reserved bytes, argument words the command does not use
(R373). -/
def CmdPkt.badField (c : CmdPkt) (used : List Nat) : Option Nat :=
  if 2 ≤ c.flags then some 4
  else if c.resv ≠ 0 then some (5 + firstByte c.resv)
  else ((List.range 14).find? (fun k => decide (c.arg k ≠ 0) && !used.contains k)).map fun k => 8 + 4 * k + firstByte (c.arg k)

/-- A reply of one status and detail. -/
def Reply.err (status detail : Nat) : Reply := { status := status, detail := detail }

/-- OK with results. -/
def Reply.ok (res : List Nat) : Reply := { res := res }

/-- OK of a command that changed staged configuration. -/
def Reply.staged_ (res : List Nat) : Reply := { res := res, staged := true }

/-- What every command refuses before its own checks: BAD_FIELD, and STAGE_SEALED for a mode S command while an epoch is
armed (R373, R378). -/
def State.cmdRefuses (s : State) (c : CmdPkt) (used : List Nat) (modeS : Bool) : Option Reply :=
  match c.badField used with
  | some o => some (.err 0x0102 o)
  | none =>
    match s.epoch.armed with
    | some e => if modeS then some (.err 0x0303 (e.number % 65536)) else none
    | none => none

/-- The 32 bytes of a reply (R367). -/
def Reply.bytes (r : Reply) (c : CmdPkt) (phase : Nat) : List Nat :=
  leBytes 2 c.op ++ leBytes 2 c.cid ++ leBytes 2 r.status ++ leBytes 2 r.detail ++
  leBytes 4 (r.res.getD 0 0) ++ leBytes 4 (r.res.getD 1 0) ++ leBytes 4 (r.res.getD 2 0) ++ leBytes 4 (r.res.getD 3 0) ++
  leBytes 2 c.idx ++ [b2n r.staged + 2 * b2n r.notDur, 0, 0, 0, 0, phase % 2]

/-- Entries of the command rings: 2^(RSZ + 6), 7 acting as 6 (R367, R395). -/
def State.cmdSize (s : State) : Nat := 2 ^ (min 6 (s.rd CMD.CFG_RSZ) + 6)

/-- Write one reply at CQ_TAIL and step on; PHASE alternates at each wrap (R291, R367, R371). -/
def State.cqWrite (s : State) (bytes : List Nat) : State :=
  let i := s.rd CMD.CQ_TAIL_TAIL % s.cmdSize
  let base := s.rd CMD.CQ_BASE_LO_BASE / 64 * 64 + 2 ^ 32 * s.rd CMD.CQ_BASE_HI_BASE
  let s1 := s.hostWrite (base + 32 * i) (bytes.take 31 ++ [s.cmd.phase % 2])
  let s2 := s1.wr CMD.CQ_TAIL_TAIL ((i + 1) % s.cmdSize)
  let s3 := if i + 1 = s.cmdSize then { s2 with cmd := { s2.cmd with phase := 1 - s2.cmd.phase } } else s2
  (s3.lowWrite 32).signal 65

/-- Write up to `k` of the replies that wait, in order, while none stands behind admitted items (R305). -/
def State.cqDrain (s : State) : Nat → State
  | 0 => s
  | k + 1 =>
    match s.cmd.outbox with
    | [] => s
    | b :: bs => if s.lowHeld 32 then s else (({ s with cmd := { s.cmd with outbox := bs } }).cqWrite b).cqDrain k

/-- Write the replies that wait, while the host link is up. -/
def State.cqFlush (s : State) : State := if s.hostUp then s.cqDrain s.cmd.outbox.length else s

/-- A command replies: in the completion ring, or to the SMBus (R369, R394). It no longer runs. -/
def State.cmdReply (s : State) (c : CmdPkt) (r : Reply) : State :=
  let s1 := { s with cmd := { s.cmd with running := s.cmd.running.filter fun x => !(x.idx == c.idx && x.cid == c.cid && x.op == c.op) } }
  if c.idx = 0xFFFF then
    ({ s1 with cmd := { s1.cmd with smbReply := some (r.bytes c 0) } }).wr CMD.STAT_SMB_BUSY 0
  else { s1 with cmd := { s1.cmd with outbox := s1.cmd.outbox ++ [r.bytes c 0] } }.cqFlush

/-- A command that has not ended yet keeps running (R374). -/
def State.cmdKeep (s : State) (c : CmdPkt) : State :=
  { s with cmd := { s.cmd with running := s.cmd.running ++ [c] } }

/-- What a command does once it starts: the state and its reply, or none while its work goes on. -/
abbrev CmdBody := CmdPkt → State → State × Option Reply

/-- A command whose read of host memory completes with an error: the refusals that its words and the state give come first, then
HOST_READ (R373, R375). -/
def cmdHostErr (err : Bool) (body : CmdBody) : CmdBody := fun c s =>
  if err = false then body c s
  else
    match (body c s).2 with
    | some r => (s, some (if r.status / 256 = 2 ∨ r.status = 0x0703 then r else .err 0x0603 0))
    | none => (s, some (.err 0x0603 0))

/-- Start a command: the common refusals, then its body (R369, R373, R374, R378). -/
def State.cmdStart (s : State) (c : CmdPkt) (used : List Nat) (modeS : Bool) (body : CmdBody) : State :=
  match s.cmdRefuses c used modeS with
  | some r => s.cmdReply c r
  | none =>
    match body c s with
    | (s1, some r) => s1.cmdReply c r
    | (s1, none) => s1.cmdKeep c

/-- Service firmware runs (R367, R435). -/
def State.svcRunning (s : State) : Bool := s.rd CMD.STAT_SVC == 2

/-- Service firmware has stopped, or the start has failed after the warden runs, and the warden takes the ring entries (R436, R499). -/
def State.svcStopped (s : State) : Bool :=
  (s.rd CMD.STAT_SVC == 3 || decide (2 ≤ s.rd SYS.BOOT_FAIL)) && s.rd CMD.STAT_WARDEN == 1

/-- A command row of service firmware: it is interpreted only while service firmware runs; while it is stopped the warden replies FAULT
(R22, R367, R436). -/
def State.svcCommand (s : State) (c : CmdPkt) (used : List Nat) (modeS : Bool) (body : CmdBody) : State :=
  if s.svcRunning then (s.at c.start).cmdStart c used modeS body
  else if s.svcStopped then (s.at c.start).cmdReply c (.err 0x0A01 0)
  else s

/-- A command row that the warden answers too while service firmware is stopped (R436). -/
def State.anyCommand (s : State) (c : CmdPkt) (used : List Nat) (body : CmdBody) : State :=
  if s.svcRunning || s.svcStopped then (s.at c.start).cmdStart c used false body else s

/-- A command row of the warden: halted, it replies FAULT; it runs only while the warden runs (R370, R386). -/
def State.wardenCommand (s : State) (c : CmdPkt) (used : List Nat) (body : CmdBody) : State :=
  match s.rd CMD.STAT_WARDEN with
  | 1 => (s.at c.start).cmdStart c used false body
  | 3 => (s.at c.start).cmdReply c (.err 0x0A01 0)
  | _ => s

end Sys2Proof.Machine
end

