-- ==== Sys2Proof/Machine/Ecc.lean ====
section
/-! DEFINITION. Reads and writes of GDDR7, cluster SRAM and engine memories under their codes: corrections, poison and
injected faults (R256 to R264, R268 to R274, R283). -/

namespace Sys2Proof.Machine

/-! ### Engines (R173, R175) -/

/-- Engine `g`: 0 to 127 in service, 128 to 131 the standbys. -/
def State.eng (s : State) (g : Nat) : Engine := AMap.get {} s.engines g

/-- Change engine `g`. -/
def State.setEng (s : State) (g : Nat) (e : Engine) : State := { s with engines := AMap.set s.engines g e }

/-- The engine that `g` stands for: a standby stands for the one it serves (R175). -/
def State.servedBy (s : State) (g : Nat) : Nat := if g < 128 then g else s.rd (ENG.STAT_SERVES g)

/-- The cluster whose SRAM, barriers and streams `g` acts on (R175). -/
def State.clusterOf (s : State) (g : Nat) : Nat := s.servedBy g / 8

/-- The engine that runs the kernel of in-service engine `n`: a standby that serves it, or itself. -/
def State.runner (s : State) (n : Nat) : Nat :=
  ((List.range 4).map (128 + ·)).find? (fun k => s.is (ENG.STAT_SERVING k) && s.rd (ENG.STAT_SERVES k) == n) |>.getD n

/-! ### Words and their codes -/

/-- A coded memory of the module. -/
inductive MemId where
  | gddr
  | sram (c : Nat)
  | dmem (g : Nat)
  | imem (g : Nat)
  | line (n : Nat)
  deriving DecidableEq, Repr

/-- A number for each memory, apart for each. -/
def MemId.code : MemId → Nat
  | .gddr => 0
  | .sram c => 1 + c
  | .dmem g => 32 + 2 * g
  | .imem g => 33 + 2 * g
  | .line n => 320 + n

/-- The 64-bit word that holds byte `a` of a memory. -/
def wordKey (m : MemId) (a : Nat) : Nat := m.code * 2 ^ 37 + a / 8

/-- The channel that the interleaving gives an address (R260). -/
def channelOf (a : Nat) : Nat := ((a / 256 % 4).xor (a / 4096 % 4)).xor (a / 1048576 % 4)

/-- MEM_TOP (R259, R280). -/
def State.memTop (s : State) : Nat := s.rd MEM.TOP_LO_TOP + 2 ^ 32 * s.rd MEM.TOP_HI_TOP

/-- The place in the withdrawn top region of granule `n` of the fenced channel (R281). -/
def State.fencePlace (s : State) (n : Nat) : Nat :=
  let kb := s.memTop + 1024 * (n / 3)
  let live := [kb, kb + 256, kb + 512, kb + 768].filter fun a => channelOf a != s.rd MEM.STAT_FENCE
  live.getD (n % 3) kb

/-- The channel that serves an address: a granule of the fenced channel that has been copied lives at its new place
(R282). -/
def State.gddrChannel (s : State) (a : Nat) : Nat :=
  if channelOf a = s.rd MEM.STAT_FENCE ∧ a / 1024 < s.memu.copied then channelOf (s.fencePlace (a / 1024))
  else channelOf a

/-- The region of a word (table "Memory regions"). -/
def State.region (s : State) (m : MemId) (a : Nat) : Nat :=
  match m with
  | .gddr => s.gddrChannel a
  | .sram c => 4 + c
  | .dmem g | .imem g => if g < 128 then 20 + g / 8 else 36 + (g - 128)
  | .line n => 40 + n

/-- Bytes of a memory as stored. -/
def State.memBytes (s : State) (m : MemId) (a n : Nat) : List Nat :=
  match m with
  | .gddr => Mem.readBytes s.mems.gddr a n
  | .sram c => Mem.readBytes (AMap.get [] s.mems.sram c) a n
  | .dmem g => Mem.readBytes (AMap.get [] s.mems.dmem g) a n
  | .imem g => Mem.readBytes (AMap.get [] s.mems.imem g) a n
  | .line _ => []

/-- Store bytes in a memory. -/
def State.memPut (s : State) (m : MemId) (a : Nat) (bs : List Nat) : State :=
  match m with
  | .gddr => { s with mems := { s.mems with gddr := Mem.writeBytes s.mems.gddr a bs } }
  | .sram c => { s with mems := { s.mems with
      sram := memsPut s.mems.sram c (Mem.writeBytes (AMap.get [] s.mems.sram c) a bs) } }
  | .dmem g => { s with mems := { s.mems with
      dmem := memsPut s.mems.dmem g (Mem.writeBytes (AMap.get [] s.mems.dmem g) a bs) } }
  | .imem g => { s with mems := { s.mems with
      imem := memsPut s.mems.imem g (Mem.writeBytes (AMap.get [] s.mems.imem g) a bs) } }
  | .line _ => s

/-- `k` corrections in a region: the counter and the leaky bucket, which overflows at LIMIT (R273, R274). -/
def State.memCorrect (s : State) (r : Nat) : Nat → State
  | 0 => s
  | k + 1 =>
    let s0 := s.memCorrect r k
    let s1 := (s0.addSat (MEMR.CE r) 1).addSat (MEMR.BKT_LEVEL r) 1
    if s1.rd (MEMR.BKT_LIMIT r) ≠ 0 ∧ s1.rd (MEMR.BKT_LIMIT r) ≤ s1.rd (MEMR.BKT_LEVEL r) then
      ((s1.wr (MEMR.BKT_LEVEL r) 0).set1 (MEMR.LEAK_OVF_STKY r)).raise 0x0E01 r []
    else s1

/-- An automatic fence is due or already in force for a channel (kind 0) or a cluster (kind 1). -/
def State.autoKnown (s : State) (kind i : Nat) : Bool :=
  s.diag.autos.any (fun x => x.kind == kind && x.idx == i) || s.diag.wanted.any (fun x => x.kind == kind && x.idx == i) ||
  (if kind = 0 then s.rd MEM.STAT_FENCE == i else s.is (CL.STAT_FENCED i))

/-- The warden decides on a fence of its own: it commits 10 ms later (R443). -/
def State.autoAsk (s : State) (kind i : Nat) : State :=
  if s.autoKnown kind i then s
  else { s with diag := { s.diag with autos := s.diag.autos ++ [{ kind := kind, idx := i, at_ := s.now + 10000000 }] } }

/-- Uncorrectable words of a region within 1 s ask for an automatic fence where it is enabled (R443). -/
def State.ueWatch (s : State) (r : Nat) : State :=
  let ch := decide (r < 4) && s.is DIA.AUTO_CH_EN
  let cl := decide (4 ≤ r ∧ r < 20) && s.is DIA.AUTO_CL_EN
  if !(ch || cl) then s
  else
    let xs := ((AMap.get [] s.diag.ues r).filter fun t => decide (s.now < t + 1000000000)) ++ [s.now]
    let full := decide (max 1 (if ch then s.rd DIA.AUTO_CHUE else s.rd DIA.AUTO_CLUE) ≤ xs.length)
    let s1 := { s with diag := { s.diag with ues := AMap.set s.diag.ues r (if full then [] else xs) } }
    if full then (if ch then s1.autoAsk 0 r else s1.autoAsk 1 (r - 4)) else s1

/-- An uncorrectable word counts in its region and raises UE with its address (R264). -/
def State.memUe (s : State) (r a : Nat) : State := ((s.addSat (MEMR.UE r) 1).raiseFirst 0x0E02 r (leBytes 8 a)).ueWatch r

/-- Change the protection unit. -/
def State.setMemu (s : State) (u : MemUnit) : State := { s with memu := u }

/-- The bits in error that the word code corrects (R258, R269). -/
def MemId.corrects : MemId → Nat
  | .gddr => 2
  | _ => 1

/-- The page code backs the word code (R268, R270). -/
def MemId.paged : MemId → Bool
  | .sram _ | .dmem _ | .imem _ => true
  | _ => false

/-- The faulty words of the 4 KiB page that holds a word (R270). -/
def State.pageFaults (s : State) (k : Nat) : AMap WFault := s.memu.faults.filter fun e => e.1 / 512 == k / 512

/-- The page code can correct the page: no symbol of 12 bits beyond any seven is in error (R270). -/
def State.pageFits (s : State) (k : Nat) : Bool :=
  let fs := s.pageFaults k
  fs.all (fun e => !e.2.page) &&
    decide ((fs.flatMap fun e => e.2.flips.map fun b => (64 * (e.1 % 512) + b) / 12).eraseDups.length ≤ 7)

/-- A word met by a read. A faulty one is corrected by its word code; or its page is decoded and every word of it that is not
poisoned is corrected; or it is left poisoned and counted (R262, R263, R269 to R271). The number tells whether it was
uncorrectable. -/
def State.meetWord (s : State) (m : MemId) (k : Nat) : State × Bool :=
  let a := 8 * (k % 2 ^ 37)
  let r := s.region m a
  let u := s.memu
  match u.faults.find? (fun e => e.1 == k) with
  | none => (s, false)
  | some (_, f) =>
    if f.poison = false ∧ f.flips.length ≤ m.corrects then
      ((s.setMemu { u with faults := u.faults.filter fun e => e.1 != k }).memCorrect r 1, false)
    else if f.poison = false ∧ m.paged ∧ s.pageFits k then
      ((s.setMemu { u with faults := u.faults.filter fun e => e.1 / 512 != k / 512 || e.2.poison }).memCorrect r 1, false)
    else ((s.setMemu { u with faults := AMap.set u.faults k { f with poison := true } }).memUe r a, true)

/-- Words met in turn. -/
def State.meetWords (s : State) (m : MemId) (ks : List Nat) : State × Bool :=
  ks.foldl (fun x k => let y := x.1.meetWord m k; (y.1, x.2 || y.2)) (s, false)

/-- The faulty words of `n` bytes at `a`. -/
def State.faultsIn (s : State) (m : MemId) (a n : Nat) : List (Nat × WFault) :=
  if n = 0 then [] else s.memu.faults.filter fun e => decide (wordKey m a ≤ e.1 ∧ e.1 ≤ wordKey m (a + n - 1))

/-- The first 64-byte burst of an access that falls on a channel (R257; the burst of 64 bytes is log 13). -/
def State.burstOn (s : State) (a n ch : Nat) : Option Nat :=
  if n = 0 then none
  else ((List.range (min 64 ((a + n - 1) / 64 - a / 64 + 1))).map (a / 64 + ·)).find? fun b => s.gddrChannel (64 * b) == ch

/-- The words of a burst. -/
def burstWords (b : Nat) : List Nat := (List.range 8).map fun j => wordKey .gddr (64 * b + 8 * j)

/-- The data CRC of the bursts of an access: a check that is to fail is repeated up to 3 times, each repetition one
correction; where the fourth attempt fails too the words of the burst are uncorrectable. Those words are named (R257, R283). -/
def State.crcCheck (s : State) (m : MemId) (a n : Nat) : State × List Nat :=
  if m ≠ .gddr ∨ s.memu.crc = [] then (s, [])
  else (List.range 4).foldl (fun x ch =>
    let left := AMap.get 0 x.1.memu.crc ch
    match (if left = 0 then none else x.1.burstOn a n ch) with
    | none => x
    | some b =>
      let u := x.1.memu
      let rest := u.crc.filter fun e => e.1 != ch
      let s1 := (x.1.setMemu { u with crc := if left ≤ 4 then rest else AMap.set rest ch (left - 4) }).memCorrect ch (min left 3)
      if left < 4 then (s1, x.2)
      else
        (s1.setMemu { s1.memu with faults := (burstWords b).foldl (fun f k => AMap.set f k { poison := true }) s1.memu.faults },
          x.2 ++ burstWords b)) (s, [])

/-- ENG_INJ.DMEM_ECC or IMEM_ECC: the first word of the next read of the memory is uncorrectable (R207). -/
def State.eccInjected (s : State) (m : MemId) (a n : Nat) : State :=
  let spoil (g : Nat) (e : Engine) : State :=
    (s.setEng g e).setMemu { s.memu with faults := AMap.set s.memu.faults (wordKey m a) { poison := true } }
  if n = 0 then s
  else
    match m with
    | .dmem g => let e := s.eng g; if e.injDmem then spoil g { e with injDmem := false } else s
    | .imem g => let e := s.eng g; if e.injImem then spoil g { e with injImem := false } else s
    | _ => s

/-- Read `n` bytes: the bytes, whether a word of them is uncorrectable, and the state after corrections (R262 to R264). -/
def State.memRead (s : State) (m : MemId) (a n : Nat) : List Nat × Bool × State :=
  let x := (s.eccInjected m a n).crcCheck m a n
  let ks := (x.1.faultsIn m a n).map Prod.fst
  let r := x.1.meetWords m (ks ++ x.2.filter fun k => !ks.contains k)
  (s.memBytes m a n, r.2, r.1)

/-- Words that a write replaces whole lose their poison (R263). -/
def State.cleanWords (s : State) (m : MemId) (a n : Nat) : State :=
  if s.memu.faults = [] then s
  else
    let lo := wordKey m (a + 7)
    let hi := wordKey m (a + n)
    s.setMemu { s.memu with faults := s.memu.faults.filter fun e => !decide (lo ≤ e.1 ∧ e.1 < hi) }

/-- `k` different positions of bits, none stated: free values (R283; log 13). -/
def State.someBits (s : State) : Nat → List Nat → List Nat
  | 0, _ => []
  | k + 1, ps =>
    let i := freeValue (s.freeCount + k) % ps.length
    ps.getD i 0 :: s.someBits k (ps.eraseIdx i)

/-- The fault that an injection of a KIND leaves in a word (R283). -/
def State.injFault (s : State) (m : MemId) (kind : Nat) : WFault :=
  let n := if kind = 1 then 1 else if kind = 3 ∧ m = .gddr then 3 else 2
  { flips := s.someBits n (List.range 64), page := kind == 4 }

/-- An injection armed for the region of the write takes the first word written there; a word that stays poisoned, because
the write replaces only part of it, decodes as before (R263, R283). -/
def State.injWrite (s : State) (m : MemId) (a n : Nat) : State :=
  if s.memu.arm = [] ∨ n = 0 then s
  else
    match (List.range ((a + n - 1) / 8 - a / 8 + 1)).find? (fun i => AMap.get 0 s.memu.arm (s.region m (8 * (a / 8 + i))) != 0) with
    | none => s
    | some i =>
      let w := 8 * (a / 8 + i)
      let r := s.region m w
      let u := s.memu
      let f := s.injFault m (AMap.get 0 u.arm r)
      let old := (AMap.get {} u.faults (wordKey m w)).poison
      (s.setMemu { u with arm := u.arm.filter (fun e => e.1 != r),
                          faults := AMap.set u.faults (wordKey m w) { f with poison := old } }).times State.used 3

/-- Words of which a write replaces only some bytes are read under their code and merged (R263, R269). -/
def State.meetPart (s : State) (m : MemId) (a n : Nat) : State :=
  if s.memu.faults = [] then s
  else
    let part := (if a % 8 = 0 ∧ 8 ≤ n then [] else [wordKey m a]) ++ (if (a + n) % 8 = 0 then [] else [wordKey m (a + n)])
    (s.meetWords m part.eraseDups).1

/-- Write bytes: whole words replaced are clean again, a failing data CRC and an armed injection take effect (R257, R262, R263,
R283). -/
def State.memWrite (s : State) (m : MemId) (a : Nat) (bs : List Nat) : State :=
  if bs = [] then s
  else
    let n := bs.length
    let x := (((s.meetPart m a n).memPut m a bs).cleanWords m a n).crcCheck m a n
    (x.1.meetWords m x.2).1.injWrite m a n

/-- Store the words that hold `n` bytes poisoned: a copy of uncorrectable data (R263). -/
def State.memPoison (s : State) (m : MemId) (a n : Nat) : State :=
  if n = 0 then s
  else
    let k0 := wordKey m a
    let k1 := wordKey m (a + n - 1)
    s.setMemu { s.memu with faults :=
      (List.range (k1 - k0 + 1)).foldl (fun f i => AMap.set f (k0 + i) { poison := true }) s.memu.faults }

/-- Copy bytes from one memory to another; each destination word of uncorrectable bytes is poisoned (R263). -/
def State.memCopy (s : State) (ms : MemId) (a : Nat) (md : MemId) (b n : Nat) : State :=
  let r := s.memRead ms a n
  let s1 := r.2.2.memWrite md b r.1
  if r.2.1 then
    ((r.2.2.faultsIn ms a n).filter fun e => e.2.poison).foldl (fun t e =>
      let lo := max a (8 * (e.1 % 2 ^ 37))
      let hi := min (a + n) (8 * (e.1 % 2 ^ 37) + 8)
      t.memPoison md (b + (lo - a)) (hi - lo)) s1
  else s1

end Sys2Proof.Machine
end

