-- ==== Sys2Proof/Machine/Check.lean ====
section
/-! DEFINITION. The check-value units CHK0 to CHK15 (R168, R230 to R233). -/

namespace Sys2Proof.Machine

/-! ### Configuration in use -/

/-- The active values of the staged fields at BAR0 offsets from `lo` below `hi`: what a frame or a unit takes with it
(R144, R233). -/
def State.snapshot (s : State) (lo hi : Nat) : AMap Nat :=
  s.active.filter fun e => decide (lo * 32 ≤ e.1 ∧ e.1 < hi * 32)

/-- A field of a configuration taken earlier. -/
def useGet (use : AMap Nat) (f : Fld) : Nat := AMap.get f.reset use f.key

/-- Check unit `n` beside its registers. -/
def State.chkUnit (s : State) (n : Nat) : ChkUnit := AMap.get {} s.chk n

/-- Change check unit `n`. -/
def State.setChk (s : State) (n : Nat) (u : ChkUnit) : State := { s with chk := AMap.set s.chk n u }

/-! ### The check of R230 -/

/-- The low `w` bits of a number in reverse order. -/
def revBits : Nat → Nat → Nat
  | 0, _ => 0
  | w + 1, v => (v % 2) * 2 ^ w + revBits w (v / 2)

/-- One bit of R230. -/
def chkBit (w poly reg : Nat) (t : Bool) : Nat :=
  let sh := reg * 2 % 2 ^ w
  if reg.testBit (w - 1) != t then sh.xor (poly % 2 ^ w) else sh

/-- One absorbed byte, its bits most significant first (R230). -/
def chkByte (w poly : Nat) (refin : Bool) (reg b : Nat) : Nat :=
  let v := if refin then revBits 8 b else b % 256
  [7, 6, 5, 4, 3, 2, 1, 0].foldl (fun r i => chkBit w poly r (v.testBit i)) reg

/-- The width in use; below 8 acts as 8, above 32 as 32 (R233). -/
def chkWidth (use : AMap Nat) (n : Nat) : Nat := min 32 (max 8 (useGet use (CHK.CFG_WIDTH n)))

/-- The result of the running register (R230). -/
def chkResult (use : AMap Nat) (n reg : Nat) : Nat :=
  let w := chkWidth use n
  let r := reg % 2 ^ w
  let r1 := if useGet use (CHK.CFG_REFOUT n) = 1 then revBits w r else r
  if useGet use (CHK.CFG_INV n) = 1 then r1.xor (2 ^ w - 1) else r1

/-- The result register follows the running register. -/
def State.chkShow (s : State) (n : Nat) : State :=
  s.wr (CHK.RESULT n) (chkResult (s.chkUnit n).use n (s.rd (CHK.VALUE n)))

/-- Latch the result (R231). -/
def State.chkLatch (s : State) (n : Nat) : State :=
  s.wr (CHK.LAST n) (chkResult (s.chkUnit n).use n (s.rd (CHK.VALUE n)))

/-- Take the active configuration of the unit (R233). -/
def State.chkAdopt (s : State) (n : Nat) : State :=
  s.setChk n { s.chkUnit n with use := s.snapshot (0xC0000 + 0x40 * n) (0xC0000 + 0x40 * n + 0x40) }

/-- The flue that the unit absorbs from now on. -/
def State.chkBind (s : State) (n : Nat) (f : Option (Nat × Nat)) : State := s.setChk n { s.chkUnit n with flue := f }

/-- Load INIT (R230); COUNT counts from here. -/
def State.chkLoad (s : State) (n : Nat) : State :=
  let u := (s.chkUnit n).use
  ((s.wr (CHK.VALUE n) (useGet u (CHK.INIT n) % 2 ^ chkWidth u n)).wr (CHK.COUNT n) 0).chkShow n

/-- A reset of the unit: the result is latched, then INIT is loaded (R231). -/
def State.chkReset (s : State) (n : Nat) : State := (s.chkLatch n).chkLoad n

/-- Absorb bytes; a disabled unit absorbs nothing; an armed flip inverts bit 0 of the first (R230, R233). -/
def State.chkAbsorb (s : State) (n : Nat) (bs : List Nat) : State :=
  let u := s.chkUnit n
  if useGet u.use (CHK.CFG_EN n) = 0 then s
  else
    match bs with
    | [] => s
    | b :: r =>
      let bs' := if u.flip then b.xor 1 :: r else bs
      let v := bs'.foldl (chkByte (chkWidth u.use n) (useGet u.use (CHK.POLY n)) (useGet u.use (CHK.CFG_REFIN n) == 1))
        (s.rd (CHK.VALUE n))
      ((((s.setChk n { u with flip := false }).wr (CHK.VALUE n) v).addSat (CHK.COUNT n) bs.length)).chkShow n

/-! ### Binding (R168, R231) -/

/-- An ingest region whose configuration is in use names the unit (R168, R233). -/
def State.chkOfRegion (s : State) (n : Nat) : Bool :=
  (List.range 24).any fun c =>
    let u := (AMap.get {} s.ctxs c).use
    useGet u (CTX.SRC_EN c) == 1 && (List.range 4).any fun r =>
      useGet u (CTX.RGN_CFG_EN c r) == 1 && useGet u (CTX.RGN_CFG_CHK_EN c r) == 1 && useGet u (CTX.RGN_CFG_CHK c r) == n

/-- When the register of a flue's unit is loaded (R231, R233): 3 acts as 0. -/
def chkResetMode (r : Nat) : Nat := if r = 3 then 0 else r

/-- Unit `n` meets an item of flue `f` of graph `gen` as it becomes visible: whether an item has been shown there since the last
record, the item's bytes, whether it is a frame record item. A committed configuration applies at the flue's next reset: the
unit leaves the flue it absorbs there, and takes a newly named flue at that one's own next reset. The number answered is the
check value to stamp into the record (R231, R233). -/
def State.chkItem (s : State) (gen f : Nat) (mid : Bool) (bytes : List Nat) (rec : Bool) (n : Nat) : State × Option Nat :=
  if s.chkOfRegion n then (s, none)
  else
    let u := s.chkUnit n
    let held := u.flue == some (gen, f)
    let named := decide (s.cfg (CHK.SRC_VALID n) = 1 ∧ s.cfg (CHK.SRC_FLUE n) = f)
    let mode := chkResetMode (if held then useGet u.use (CHK.SRC_RESET n) else s.cfg (CHK.SRC_RESET n))
    let reset := !rec && (held || named) && (mode == 1 || (mode == 0 && !mid))
    let s1 := if reset then (((s.chkLatch n).chkAdopt n).chkBind n (if named then some (gen, f) else none)).chkLoad n else s
    let v := (s1.chkUnit n).use
    if (s1.chkUnit n).flue ≠ some (gen, f) then (s1, none)
    else if rec then
      (s1.chkLatch n, if useGet v (CHK.SRC_STAMP n) = 1 ∧ chkResetMode (useGet v (CHK.SRC_RESET n)) = 0 ∧ useGet v (CHK.CFG_EN n) = 1
        then some ((s1.chkLatch n).rd (CHK.LAST n)) else none)
    else (s1.chkAbsorb n (if useGet v (CHK.SRC_HDRSKIP n) = 1 then bytes.drop 8 else bytes), none)

/-! ### Rows -/

/-- Row CHK_SWAP: VALUE and SAVE exchange (R232). -/
def execChkSwap (n : Fin 16) (s : State) : Host.Outcome State Fault Refusal :=
  .next (((s.wr (CHK.VALUE n) (s.rd (CHK.SAVE n))).wr (CHK.SAVE n) (s.rd (CHK.VALUE n))).chkShow n)

/-- Row CHK_RESET: the result is latched and INIT loaded; a unit that serves no region takes its active configuration
(R231, R233). -/
def execChkReset (n : Fin 16) (s : State) : Host.Outcome State Fault Refusal :=
  .next (let s1 := s.chkLatch n
    (if s1.chkOfRegion n then s1
     else (s1.chkAdopt n).chkBind n (if s1.cfg (CHK.SRC_VALID n) = 1 then some (s1.graph.gen, s1.cfg (CHK.SRC_FLUE n)) else none)).chkLoad n)

/-- Row CHK_VALUE_WRITE: the written value replaces the register (R232). -/
def execChkValueWrite (n : Fin 16) (v : Word) (s : State) : Host.Outcome State Fault Refusal :=
  .next ((s.wr (CHK.VALUE n) v.toNat).chkShow n)

/-- Row CHK_INJ_FLIP: bit 0 of the next absorbed byte will be inverted (R233). -/
def execChkInjFlip (n : Fin 16) (s : State) : Host.Outcome State Fault Refusal :=
  .next (if s.injLocked then s else (s.setChk n { s.chkUnit n with flip := true }))

end Sys2Proof.Machine
end

