-- ==== Sys2Proof/Machine/Deliver.lean ====
section
/-! DEFINITION. The delivery engine's queues: credits, items in flight, tags, completion records and watermarks
(R288 to R293, R302 to R307, R312). Admission arithmetic is in Admission.lean, the rows in DeliveryRows.lean. -/

namespace Sys2Proof.Machine

/-- CRC-32C of R110. -/
def crc32c (bs : List Nat) : Nat :=
  (revBits 32 (bs.foldl (chkByte 32 0x1EDC6F41 true) 0xFFFFFFFF)).xor 0xFFFFFFFF

/-- Change delivery queue `q`. -/
def State.setDq (s : State) (q : Nat) (x : DQueue) : State :=
  { s with dlv := { s.dlv with queues := AMap.set s.dlv.queues q x } }

/-- Entries of the rings of queue `q`: 2^(RSZ + 6), above 10 acting as 10 (R289). -/
def State.dqSize (s : State) (q : Nat) : Nat := 2 ^ (min 10 (s.cfg (DQ.CFG_RSZ q)) + 6)

/-- A base from its two halves; bits [5:0] of the low half read 0 (R289). -/
def base64 (lo hi : Nat) : Nat := lo / 64 * 64 + 2 ^ 32 * hi

/-- The pointers, the credits and the items in flight show in the registers of the queue (R318). -/
def State.dqShow (s : State) (q : Nat) : State :=
  let x := s.dq q
  (((s.wr (DQ.PTR_DONE q) (x.done % s.dqSize q)).wr (DQ.PTR_RESV q)
    (match x.credits with
     | c :: _ => c.1 % s.dqSize q
     | [] => x.fetched % s.dqSize q)).wr (DQ.CREDIT q) (min x.credits.length 65535)).wr
    (DQ.STAT_INFLIGHT q) (min x.items.length 65535)

/-- Change a queue and show it. -/
def State.putDq (s : State) (q : Nat) (x : DQueue) : State := (s.setDq q x).dqShow q

/-! ### Watermarks (R312) -/

/-- The fill of a flue of the active graph, by flue index: claimed slots not yet free (R218). -/
def State.flueFill (s : State) (f : Nat) : Nat := (AMap.get {} s.graph.flues (128 * s.graph.gen + f)).items.length

/-- The flue that a stream consumes in the active graph (R215: endpoint kind 4). -/
def State.streamFlue (s : State) (q : Nat) : Option Nat :=
  match s.graph.active with
  | some g => (List.range g.flues.length).find? fun i => (g.flues.getD i {}).cons.contains (4 * 4096 + q)
  | none => none

/-- Bytes read from flues and not yet written to the host: the fill of the delivery buffer. -/
def State.dlvFill (s : State) : Nat :=
  s.dlv.queues.foldl (fun a q => a + q.2.items.foldl (fun b i => b + (i.pay.length - i.sent)) 0) 0

/-- The value a monitor watches (table "Watermark sources"). -/
def State.wmValue (s : State) (m : Nat) : Nat :=
  let q := s.rd (DLV.WM_CFG_Q m)
  match s.rd (DLV.WM_CFG_SRC m) with
  | 1 => (match s.streamFlue q with | some f => s.flueFill f | none => 0)
  | 2 => (s.dq q).items.length
  | 3 => (s.dq q).credits.length
  | _ => s.dlvFill / 1024

/-- One evaluation of a monitor (R312). -/
def State.wmEval1 (s : State) (m : Nat) : State :=
  if s.rd (DLV.WM_CFG_EN m) = 0 then s
  else
    let v := s.wmValue m
    let inv := s.rd (DLV.WM_CFG_INV m) = 1
    let hi := s.rd (DLV.WM_THR_HIGH m)
    let lo := s.rd (DLV.WM_THR_LOW m)
    let live := s.is (DLV.WM_STAT_LIVE m)
    if live = false ∧ (if inv then v ≤ hi else hi ≤ v) then
      ((((s.wr (DLV.WM_STAT_LIVE m) 1).set1 (DLV.WM_STAT_STKY m)).wr (DLV.WM_STAT_CROSS m)
        (s.rd (DLV.WM_STAT_CROSS m) + 1))).raise 0x020B m (leBytes 4 v)
    else if live ∧ (if inv then lo ≤ v else v ≤ lo) then (s.wr (DLV.WM_STAT_LIVE m) 0).raise 0x020C m []
    else s

/-- Every monitor evaluates (R312). -/
def State.wmEval (s : State) : State := (((s.wmEval1 0).wmEval1 1).wmEval1 2).wmEval1 3

/-- The level of ball WMOm in RUN or HOLD: LIVE XOR POL, inactive while EN is 0. In SMOULDER, in OFF and while the module is no longer
or not yet in RUN or HOLD it is not driven (R313). -/
def State.wmoLevel (s : State) (m : Nat) : Option Bool :=
  if s.pwr.st = .up then some (((s.rd (DLV.WM_CFG_EN m) == 1) && s.is (DLV.WM_STAT_LIVE m)) != (s.rd (DLV.WM_CFG_POL m) == 1))
  else none

/-! ### Completion records (R291) -/

/-- Write the completion record of the oldest entry of a queue and step on (R291, R317). -/
def State.compWrite (s : State) (q : Nat) (c : DComp) : State :=
  let x := s.dq q
  let size := s.dqSize q
  let base := base64 (s.cfg (DQ.CRING_LO_BASE q)) (s.cfg (DQ.CRING_HI_BASE q))
  let phase := (x.done / size + 1) % 2
  let s1 := s.hostWrite (base + 16 * (x.done % size))
    (leBytes 4 c.len ++ leBytes 2 c.status ++ [phase + 2 * (c.bits % 4), 0] ++ leBytes 8 s.dev)
  let s2 := (s1.putDq q { x with done := x.done + 1, comps := x.comps.filter fun e => e.desc != c.desc }).signal q
  if 62 ≤ q then s2.lowWrite 16 else s2

/-- Write the completions that wait, in ring order, while the link is up (R291). -/
def State.compFlush (s : State) (q : Nat) : Nat → State
  | 0 => s
  | k + 1 =>
    if s.hostUp = false then s
    else
      match (s.dq q).comps.find? (fun c => c.desc == (s.dq q).done) with
      | some c => (s.compWrite q c).compFlush q k
      | none => s

/-- A descriptor ends without an item, or with one already written: its completion waits for its turn (R291). -/
def State.complete (s : State) (q : Nat) (c : DComp) : State :=
  let s1 := s.setDq q { s.dq q with comps := (s.dq q).comps ++ [c] }
  s1.compFlush q (s1.dq q).comps.length

/-! ### Buckets (R303) -/

/-- Level of the token bucket at elapsed time `t`, in 10^-6 byte: it fills at RATE up to BURST x MAXB. -/
def State.bucketAt (s : State) (q t : Nat) : Nat :=
  let x := s.dq q
  min (s.rd (DQ.CPARM_BURST q) * s.rd (DQ.MAXB q) * 1000000) (x.bucket + s.rd (DQ.RATE q) * (t - x.bktAt))

/-- Set the bucket level now. -/
def State.setBucket (s : State) (q v : Nat) : State :=
  (s.setDq q { s.dq q with bucket := v, bktAt := s.now }).wr (DQ.BUCKET_LEVEL q) (min (v / 1000000) (2 ^ 32 - 1))

/-- Return bytes to the bucket (R303). -/
def State.bucketBack (s : State) (q bytes : Nat) : State :=
  s.setBucket q (min (s.rd (DQ.CPARM_BURST q) * s.rd (DQ.MAXB q) * 1000000) (s.bucketAt q s.now + 1000000 * bytes))

/-! ### Tags and the end of an item (R293, R303, R307) -/

/-- A number in a list of bytes, little-endian. -/
def leAt (b : List Nat) (o n : Nat) : Nat := leNat ((b.drop o).take n)

/-- The frame record of an item; where none has arrived the spec states no value for what it supplies (log 2). -/
def State.itemRec (s : State) (i : DItem) : List Nat := i.rcd.getD (leBytes 64 (s.free 512))

/-- Bit 8 of the flags: the item lost an item to poison (R263), or its record carries it (R222). -/
def State.itemFault (s : State) (i : DItem) : Bool := i.causes.testBit 2 || (leAt (s.itemRec i) 6 2).testBit 8

/-- The tag values of a frame of a camera (R86). -/
def State.frameTag (s : State) (cam num : Nat) : Option FTag := s.frameTags.find? fun e => e.cam == cam && e.num == num

/-- Position and speed at the exposure centre of a trigger record: as taken when the axis passed it, else where the axis now
stands on its way (R86). -/
def State.trigPos (s : State) (r : TrigRec) : Nat × Nat :=
  match r.pos with
  | some p => (p.1.toNat, p.2)
  | none => ((s.posAt r.axis r.centre).toNat, s.rd (AX.SPEED r.axis))

/-- What the ledger hands to a tag; a frame with no matching record names no axis and carries NO_TRIGGER (R86). -/
def State.tagOf (s : State) (e : FTag) : TagInfo :=
  let base : TagInfo := { num := e.num, gen := e.gen, tseq := e.tseq, flags := if e.missed then 0x10000 else 0 }
  match e.trig with
  | some r =>
    let p := s.trigPos r
    { base with axis := r.axis, pos := p.1, speed := p.2, centre := s.devAt r.centre }
  | none => { base with centre := e.sof, flags := base.flags + 0x20000 }

/-- An item of a frame with the ledger's values as they now stand: an exposure centre may lie after the frame start. -/
def State.withLedger (s : State) (i : DItem) : DItem :=
  if i.kind ≠ 0 then i
  else
    match s.frameTag i.cam i.tag.num with
    | some e => let g := s.tagOf e; { i with tag := { i.tag with pos := g.pos, speed := g.speed } }
    | none => i

/-- The 128-byte tag (R293) of a stream with `refs` frames refused, with `flags` above bit 15 beside those taken at admission. -/
def State.tagBytes (s : State) (q refs : Nat) (i : DItem) (flags plen actual : Nat) : List Nat :=
  let r := s.itemRec i
  let g := i.tag
  let strip := g.strip
  let low := (leAt r 6 2 % 2048).lor (if s.itemFault i then 256 else 0)
  leBytes 2 1 ++ leBytes 2 s.moduleId ++ [q, i.kind] ++ leBytes 2 g.graph ++ leBytes 4 g.num ++
  [if strip then 255 else r.getD 4 0,
   if strip then 16 * (r.getD 5 0 / 4 % 4) else r.getD 5 0 % 16] ++
  leBytes 2 (if strip then 0 else g.gen) ++ leBytes 4 (low + g.flags + flags) ++ leBytes 4 g.speed ++ leBytes 8 g.pos ++
  [g.axis, g.tseq] ++ leBytes 2 (min refs 65535) ++ leBytes 4 g.offer ++ leBytes 8 (leAt r 8 8) ++
  leBytes 8 (if strip then 0 else g.centre) ++ leBytes 8 (i.endAt.getD 0) ++ leBytes 8 g.admitted ++
  leBytes 8 (i.prom.getD 0) ++ leBytes 8 actual ++ leBytes 2 (leAt r 24 2) ++ leBytes 2 (leAt r 26 2) ++
  leBytes 2 (leAt r 28 2) ++ leBytes 2 (if strip then 0 else leAt r 30 2) ++ leBytes 4 plen ++ leBytes 4 (leAt r 40 4) ++
  leBytes 4 (crc32c (i.pay.take plen)) ++ leBytes 4 (if plen = 0 then 0 else i.count) ++ leBytes 4 i.d ++
  List.replicate 12 0

/-- Capacity of a number of ranks in units of 1/64 MHz (R298). -/
def State.rankCap (s : State) (n : Nat) : Nat :=
  n * min ((64 - min 32 (s.rd DLV.ADM_HEADROOM)) * 1200) (64 * s.rd THM.CLK_MHZ)

/-- Host, GDDR7 and engine capacity in force, for cause 3 of R307; engine capacity by node of the graph of a generation, as long as
that graph runs. -/
def State.capsOf (s : State) (gen : Nat) : List Nat :=
  let nodes := (if gen = s.graph.gen then s.graph.active.getD {} else AMap.get {} s.graph.olds gen).nodes
  [s.rd DLV.CAP_HOST_CAP, s.rd DLV.CAP_GDDR_CAP] ++
  (List.range nodes.length).map fun k =>
    s.rankCap (((List.range 128).filter fun e => (nodes.getD k {}).engines.testBit e).length -
      (AMap.get {} s.graph.nodes (64 * gen + k)).gone.length)

/-- Capacity is now less by more than H than it was at the item's ADMIT (R307). -/
def State.capFell (s : State) (i : DItem) : Bool :=
  let h := min 32 (s.rd DLV.ADM_HEADROOM)
  (i.caps.zip (s.capsOf i.gen)).any fun x => decide (x.2 * 64 < x.1 * (64 - h))

/-- Capacity has changed: every item in flight notes whether it has fallen since ADMIT, should it recover later (R307). -/
def State.capMark (s : State) : State :=
  { s with dlv := { s.dlv with queues := s.dlv.queues.map fun e =>
    (e.1, { e.2 with items := e.2.items.map fun i => if s.capFell i then { i with causes := i.causes.lor 8 } else i }) } }

/-- The cause of a missed bound: the first of the table of R307 that holds; where none does the spec names none (log 14). -/
def State.missCause (s : State) (i : DItem) : Nat :=
  if i.causes % 2 = 1 then 1
  else if i.causes / 2 % 2 = 1 then 2
  else if i.causes.testBit 3 ∨ s.capFell i then 3
  else if s.itemFault i then 4
  else 1 + s.free 2

/-- An item leaves the list of items in flight. -/
def State.dropItem (s : State) (q : Nat) (i : DItem) : State :=
  s.setDq q { s.dq q with items := (s.dq q).items.filter fun x => x.desc != i.desc }

/-- An item ends: the tag, then its completion; the bucket gets back what it did not use; the counters and WORST
(R293, R303, R307). `status` and `flags` say how it ended. -/
def State.endItem (s : State) (q : Nat) (i : DItem) (status flags plen : Nat) : State :=
  let actual := s.dev
  let late := ((s.dq q).injLate || (i.prom.elim false fun p => decide (p < actual)))
  let len := 128 + plen
  let s0 := s.hostWrite i.buf (s.tagBytes q (s.dq q).refs (s.withLedger i) (flags + (if late then 0x100000 else 0)) plen actual)
  let s1 := s0.dropItem q i
  let s2 := if q < 62 then s1.bucketBack q (if status = 1 then i.maxb else i.maxb - len) else s1
  let s3 := (if i.rcd.isNone ∨ late then s2.used else s2).setDq q { s2.dq q with refs := 0, injLate := false }
  let bytes := s3.rd (DQ.BYTES_LO_BYTES q) + 2 ^ 32 * s3.rd (DQ.BYTES_HI_BYTES q) + len
  let s4 := (s3.wr (DQ.BYTES_LO_BYTES q) bytes).wr (DQ.BYTES_HI_BYTES q) (bytes / 2 ^ 32)
  let s5 := match i.endAt with
    | some e => s4.wr (DQ.WORST q) (max (s4.rd (DQ.WORST q)) (min (actual - e) (2 ^ 32 - 1)))
    | none => s4
  let s6 := if late then
      ((s5.addSat (DQ.NLATE q) 1).raise 0x0202 q
        (leBytes 4 (if (s.dq q).injLate then 3 else s.missCause i) ++ leBytes 4 i.tag.num ++
         leBytes 4 (actual - i.prom.getD actual)))
    else s5
  let s7 := if 62 ≤ q then s6.lowWrite 128 else s6
  (s7.complete q { desc := i.desc, len := len, status := status, bits := b2n late + 2 }).dqShow q

/-- Flag OVERSIZE of an item whose payload was cut (R306). -/
def DItem.over (i : DItem) : Nat := if i.cut then 0x800000 else 0

/-- An item ends INCOMPLETE with what it holds (R306, R309). -/
def State.endCut (s : State) (q : Nat) (i : DItem) : State :=
  (s.hostWrite (i.buf + 128 + i.sent) (i.pay.drop i.sent)).endItem q { i with sent := i.pay.length } 2 (0x400000 + i.over) i.pay.length

/-- Every item in flight of a queue ends INCOMPLETE (R309). -/
def State.endIncomplete (s : State) (q : Nat) : State := (s.dq q).items.foldl (fun s i => s.endCut q i) s

/-- A contract is suspended with a cause (R309). -/
def State.suspend (s : State) (q cause : Nat) : State :=
  if s.rd (DQ.STAT_STATE q) = 1 ∨ s.rd (DQ.STAT_STATE q) = 2 then
    (s.wr (DQ.STAT_STATE q) 3).raise 0x0204 q (leBytes 4 cause)
  else s

end Sys2Proof.Machine
end

