-- ==== Sys2Proof/Machine/Flue.lean ====
section
/-! DEFINITION. Flues: credits, slots, visibility, deal, merge, watermarks, and what a faulted rank does to them
(R213 to R223, R263). -/

namespace Sys2Proof.Machine

/-! ### Graphs, nodes and flues -/

/-- Change the graph unit. -/
def State.setGraph (s : State) (g : GraphUnit) : State := { s with graph := g }

/-- The graph of a generation: the active one, or one being drained (R214). -/
def State.graphOf (s : State) (gen : Nat) : Graph :=
  if gen = s.graph.gen then s.graph.active.getD {} else AMap.get {} s.graph.olds gen

/-- The entry of flue `i` of a generation. -/
def State.flueDef (s : State) (gen i : Nat) : GFlue := (s.graphOf gen).flues.getD i {}

/-- The entry of node `k` of a generation. -/
def State.nodeDef (s : State) (gen k : Nat) : GNode := (s.graphOf gen).nodes.getD k {}

/-- Flue `i` of a generation as it runs. -/
def State.flue (s : State) (gen i : Nat) : Flue := AMap.get {} s.graph.flues (128 * gen + i)

/-- Change flue `i` of a generation. -/
def State.setFlue (s : State) (gen i : Nat) (f : Flue) : State :=
  s.setGraph { s.graph with flues := AMap.set s.graph.flues (128 * gen + i) f }

/-- Node `k` of a generation as it runs. -/
def State.gnode (s : State) (gen k : Nat) : Node := AMap.get {} s.graph.nodes (64 * gen + k)

/-- Change node `k` of a generation. -/
def State.setGnode (s : State) (gen k : Nat) (n : Node) : State :=
  s.setGraph { s.graph with nodes := AMap.set s.graph.nodes (64 * gen + k) n }

/-- The engines of a node in rank order: ascending index (R210). -/
def GNode.ranks (n : GNode) : List Nat := (List.range 128).filter fun i => n.engines.testBit i

/-- Kind and index of an endpoint word (R215). -/
def epKind (w : Nat) : Nat := w / 4096 % 16
/-- Index of an endpoint word (R215). -/
def epIndex (w : Nat) : Nat := w % 4096

/-- The memory that holds a flue, and the address of a slot (R215). -/
def GFlue.mem (f : GFlue) : MemId := if f.loc < 16 then .sram f.loc else .gddr

/-- The address of the slot of a ring claim. -/
def GFlue.slot (f : GFlue) (seq : Nat) : Nat := f.base + seq % max 1 f.slots * f.bytes

/-- A GRF event: the index, with GRAPH_ID (R234). -/
def State.graphEvent (s : State) (code idx gen : Nat) : State := s.raise code idx (leBytes 4 (s.graphOf gen).id)

/-! ### Credits and watermarks (R216, R218) -/

/-- The next slot in ring order is free (R216, R217). -/
def State.flueCredit (s : State) (gen i : Nat) : Bool :=
  let f := s.flue gen i
  let d := s.flueDef gen i
  f.items.all fun x => decide (f.claimed < x.seq + d.slots)

/-- FILL has changed: HIGH, HIGH_STKY and the crossing counter follow (R218), then the monitors (R312). -/
def State.flueMarks (s : State) (gen i : Nat) : State :=
  let f := s.flue gen i
  let d := s.flueDef gen i
  let n := f.items.length
  let s1 :=
    if f.high = false ∧ d.hiwm ≤ n then
      (s.setFlue gen i { f with high := true, sticky := true, cross := (f.cross + 1) % 256 }).graphEvent 0x1403 i gen
    else if f.high ∧ n ≤ d.lowm then s.setFlue gen i { f with high := false }
    else s
  s1.wmEval

/-- Claim a slot for an item of `len` bytes by a rank: the slot header takes the length (R215, R216). -/
def State.flueClaim (s : State) (gen i len rank : Nat) : State :=
  let f := s.flue gen i
  let d := s.flueDef gen i
  let s1 := s.setFlue gen i { f with claimed := f.claimed + 1,
                                     items := f.items ++ [{ seq := f.claimed, len := len, rank := rank }] }
  (s1.memWrite d.mem (d.slot f.claimed) (leBytes 8 len)).flueMarks gen i

/-- The item of a ring claim. -/
def Flue.item (f : Flue) (seq : Nat) : Item := (f.items.find? fun x => x.seq == seq).getD {}

/-- Change the item of a ring claim. -/
def Flue.setItem (f : Flue) (x : Item) : Flue := { f with items := f.items.map fun y => if y.seq = x.seq then x else y }

/-- Append bytes to an open item (R196). -/
def State.flueAppend (s : State) (gen i seq : Nat) (bs : List Nat) : State :=
  let f := s.flue gen i
  let d := s.flueDef gen i
  let x := f.item seq
  (s.memWrite d.mem (d.slot seq + 8 + x.wr) bs).setFlue gen i (f.setItem { x with wr := x.wr + bs.length })

/-- Bytes of an item as stored. -/
def State.itemBytes (s : State) (gen i : Nat) (x : Item) : List Nat :=
  let d := s.flueDef gen i
  s.memBytes d.mem (d.slot x.seq + 8) x.len

/-- FRAME_NUM of the frame an item belongs to: bytes 0 to 3 of its line header (R169, R219). -/
def State.itemFrame (s : State) (gen i : Nat) (x : Item) : Nat := leNat (((s.itemBytes gen i { x with len := min x.len 4 })))

/-- An item is a frame record item: its line header carries line number 0xFFFF (R219). -/
def State.itemIsRec (s : State) (gen i : Nat) (x : Item) : Bool :=
  decide (8 ≤ x.len) && leAt (s.itemBytes gen i { x with len := min x.len 8 }) 4 2 == 0xFFFF

/-- The item leaves its slot (R217). -/
def State.flueFree (s : State) (gen i seq : Nat) : State :=
  let f := s.flue gen i
  (s.setFlue gen i { f with items := f.items.filter fun x => x.seq != seq }).flueMarks gen i

/-- A reader has finished with an item; with none left its slot is free (R217). -/
def State.flueFinish (s : State) (gen i seq : Nat) (reader : Nat × Nat) : State :=
  let f := s.flue gen i
  let x := f.item seq
  let left := x.left.erase reader
  if left = [] then s.flueFree gen i seq else s.setFlue gen i (f.setItem { x with left := left })

/-! ### Deal (R220, R222) -/

/-- The consumer slot of a flue whose endpoint word is `w`. -/
def GFlue.consumer (d : GFlue) (w : Nat) : Nat := ((List.range 4).find? fun j => d.cons.getD j 0 == w).getD 4

/-- A frame has lost an item at a node: its record will carry GRAPH_FAULT on every output port (R219, R222). -/
def State.loseFrame (s : State) (gen k num : Nat) : State :=
  let n := s.gnode gen k
  let ports := (List.range 4).filter fun p => ((s.nodeDef gen k).so.getD p {}).used
  s.setGnode gen k { n with lost := ports.foldl (fun m p =>
    let l := AMap.get [] m p
    AMap.set m p (if l.contains num then l else l ++ [num])) n.lost }

/-- The next live rank after `r`, in rank order (R222); 254 where there is none. -/
def State.nextLive (s : State) (gen k r : Nat) : Nat :=
  let n := (s.nodeDef gen k).ranks.length
  (((List.range n).map fun j => (r + 1 + j) % max 1 n).find? fun j => !(s.gnode gen k).faulted.contains j).getD 254

/-- The engine that runs rank `r` of a node (R210). -/
def State.rankEng (s : State) (gen k r : Nat) : Nat := s.runner ((s.nodeDef gen k).ranks.getD r 0)

/-- The rank that has waited longest in SLEN on a port and has no item there yet; of those that began in one clock the lowest
(R220). -/
def State.waiter (s : State) (gen i j k p : Nat) : Option Nat :=
  let waits (r : Nat) : Bool :=
    let e := s.eng (s.rankEng gen k r)
    e.bound && e.gen == gen && e.node == k && e.wait == some (.item p) && !((s.flue gen i).items.any fun x => x.left.contains (j, r))
  let since (r : Nat) : Nat := (s.eng (s.rankEng gen k r)).waitAt
  ((List.range (s.nodeDef gen k).ranks.length).filter waits).foldl (fun b r =>
    match b with
    | none => some r
    | some q => if since r < since q then some r else some q) none

/-- The readers that consumer `j` of a flue adds for an item, and the ranks that lose it (R220, R222). -/
def State.dealTo (s : State) (gen i j : Nat) (rec : Bool) : List (Nat × Nat) × Bool :=
  let w := (s.flueDef gen i).cons.getD j 0
  match (if (s.flueDef gen i).consumer w < j then 0 else epKind w) with
  | 0 => ([], false)
  | 2 =>
    let k := epIndex w / 4
    let d := s.nodeDef gen k
    let port := d.si.getD (epIndex w % 4) {}
    let n := d.ranks.length
    let out := (s.gnode gen k).faulted
    let one (r : Nat) : List (Nat × Nat) × Bool :=
      if out.contains r = false then ([(j, r)], false)
      else if rec then ([(j, s.nextLive gen k r)], false)
      else ([], true)
    if n ≤ 1 then one 0
    else
      match port.mode with
      | 1 => one (AMap.get 0 (s.flue gen i).deal j / max 1 port.chunk % n)
      | 2 => ([(j, (s.waiter gen i j k (epIndex w % 4)).getD 255)], false)
      | _ =>
        let live := (List.range n).filter fun r => !out.contains r
        (if rec ∧ live = [] then [(j, 254)] else live.map fun r => (j, r), !rec && decide (live.length < n))
  | _ => ([(j, 0)], false)

/-- An item is dealt to consumer `j`; a lost copy is counted and reported (R220, R222). -/
def State.deal (s : State) (gen i seq : Nat) (rec : Bool) (j : Nat) : State :=
  let (add, lost) := s.dealTo gen i j rec
  let f := s.flue gen i
  let x := f.item seq
  let s1 := s.setFlue gen i { f.setItem { x with left := x.left ++ add } with
    deal := AMap.set f.deal j (if rec then 0 else AMap.get 0 f.deal j + 1) }
  if lost then
    let k := epIndex ((s.flueDef gen i).cons.getD j 0) / 4
    (s1.loseFrame gen k (s1.itemFrame gen i x)).graphEvent 0x1404 k gen
  else s1

/-! ### Visibility (R217, R219, R221, R231) -/

/-- A record that leaves a node carries GRAPH_FAULT for a frame that lost items there (R219, R222). -/
def State.stampFault (s : State) (gen i seq : Nat) : State :=
  let d := s.flueDef gen i
  if epKind d.prod ≠ 2 then s
  else
    let k := epIndex d.prod / 4
    let p := epIndex d.prod % 4
    let n := s.gnode gen k
    let l := AMap.get [] n.lost p
    let num := s.itemFrame gen i ((s.flue gen i).item seq)
    if l.contains num then
      let a := d.slot seq + 8 + 8 + 7
      let b := (s.memBytes d.mem a 1).getD 0 0
      (s.setGnode gen k { n with lost := AMap.set n.lost p (l.erase num) }).memWrite d.mem a [b / 2 * 2 + 1]
    else s

/-- The check units meet an item of the active graph as it becomes visible; a stamp goes into bytes 40 to 43 of the
record (R231). -/
def State.checkItem (s : State) (gen i seq : Nat) (rec : Bool) : State :=
  if gen ≠ s.graph.gen then s
  else
    let d := s.flueDef gen i
    (List.range 16).foldl (fun s n =>
      let x := (s.flue gen i).item seq
      let r := s.chkItem gen i (s.flue gen i).mid (s.itemBytes gen i x) rec n
      match r.2 with
      | some v => r.1.memWrite d.mem (d.slot seq + 8 + 48) (leBytes 4 v)
      | none => r.1) s

/-- An item becomes visible: it is dealt to every consumer (R217). -/
def State.makeVisible (s : State) (gen i seq : Nat) : State :=
  let f := s.flue gen i
  let x := f.item seq
  let rec_ := s.itemIsRec gen i x
  let s1 := s.setFlue gen i { f.setItem { x with vis := some f.shown } with shown := f.shown + 1 }
  let s2 := if rec_ then s1.stampFault gen i seq else s1
  let s2a := s2.checkItem gen i seq rec_
  let s3 := s2a.setFlue gen i { s2a.flue gen i with mid := !rec_ }
  let s4 := (List.range 4).foldl (fun s j => s.deal gen i seq rec_ j) s3
  if ((s4.flue gen i).item seq).left = [] then s4.flueFree gen i seq else s4

/-- The producing node's ranks and whether it merges in ORDERED mode (R211, R221). -/
def State.mergeOf (s : State) (gen i : Nat) : Option (Nat × Nat × Nat) :=
  let w := (s.flueDef gen i).prod
  if epKind w = 2 then
    let d := s.nodeDef gen (epIndex w / 4)
    let p := d.so.getD (epIndex w % 4) {}
    if 2 ≤ d.ranks.length ∧ p.mode = 0 then some (epIndex w / 4, d.ranks.length, max 1 p.chunk) else none
  else none

/-- The CLOSE_ORDER merge shows items as they close (R221). -/
def State.closeOrder (s : State) (gen i : Nat) : Bool :=
  let w := (s.flueDef gen i).prod
  let d := s.nodeDef gen (epIndex w / 4)
  decide (epKind w = 2 ∧ 2 ≤ d.ranks.length) && (d.so.getD (epIndex w % 4) {}).mode == 1

/-- Rank `r` of a node has no item of frame `num` left to read, take or send (R221). -/
def State.rankPast (s : State) (gen k r num : Nat) : Bool :=
  (s.eng (s.rankEng gen k r)).lib.queue == [] && (List.range 4).all fun p =>
    let q := (s.nodeDef gen k).si.getD p {}
    let j := (s.flueDef gen q.flue).consumer (2 * 4096 + 4 * k + p)
    !q.used || (s.flue gen q.flue).items.all fun x =>
      !(x.left.contains (j, r) || x.left.contains (j, 255)) || s.itemIsRec gen q.flue x || s.itemFrame gen q.flue x != num

/-- A rank has sent the frame record item of a frame, and the turn of rank `r` will not be used in it any more: the rank's next
item is of another frame, or it has no item of the frame left (R221). -/
def State.turnUnused (s : State) (gen i k r : Nat) (hidden : List Item) : Bool :=
  match hidden.find? (fun x => x.closed && s.itemIsRec gen i x) with
  | none => false
  | some y =>
    let num := s.itemFrame gen i y
    match hidden.find? (fun x => x.rank == r) with
    | some x => x.closed && s.itemFrame gen i x != num
    | none => s.rankPast gen k r num

/-- Show every item that may be shown now (R217, R221). Under ORDERED merge the turns run in rank order, CHUNK items a turn; the
turn of a faulted rank, or one left unused when a rank has sent the frame record item, is skipped; a record restarts at rank 0.
Under CLOSE_ORDER merge the items closed in one clock are shown once it is over, by rank. -/
def State.flueShow (s : State) (gen i : Nat) : Nat → State
  | 0 => s
  | fuel + 1 =>
    let f := s.flue gen i
    let hidden := f.items.filter fun x => x.vis == none
    match s.mergeOf gen i with
    | none =>
      if s.closeOrder gen i then
        let next := (hidden.filter fun x => x.closed && decide (x.clAt < s.now)).foldl (fun b x =>
          match b with
          | none => some x
          | some y => if x.clAt < y.clAt ∨ (x.clAt = y.clAt ∧ x.rank < y.rank) then some x else some y) none
        match next with
        | some x => (s.makeVisible gen i x.seq).flueShow gen i fuel
        | none => s
      else
        match hidden with
        | x :: _ => if x.closed then (s.makeVisible gen i x.seq).flueShow gen i fuel else s
        | [] => s
    | some (k, n, chunk) =>
      let skip (_ : Unit) : State := (s.setFlue gen i { f with mrank := (f.mrank + 1) % n, mcount := 0 }).flueShow gen i fuel
      if s.turnUnused gen i k f.mrank hidden then skip ()
      else
        match hidden.find? (fun x => x.rank == f.mrank) with
        | some x =>
          if x.closed then
            let isRec := s.itemIsRec gen i x
            let s1 := s.makeVisible gen i x.seq
            let g := s1.flue gen i
            let turn := if isRec then (0, 0) else if chunk ≤ g.mcount + 1 then ((g.mrank + 1) % n, 0) else (g.mrank, g.mcount + 1)
            (s1.setFlue gen i { g with mrank := turn.1, mcount := turn.2 }).flueShow gen i fuel
          else s
        | none => if (s.gnode gen k).faulted.contains f.mrank ∧ hidden ≠ [] then skip () else s

/-- Show what may be shown. -/
def State.flueAdvance (s : State) (gen i : Nat) : State :=
  s.flueShow gen i (((s.flue gen i).items.length + 1) * 130)

/-- Show what a CLOSE_ORDER merge has held back to the end of a clock (R221). -/
def State.flueCatch (s : State) (gen i : Nat) : State := if s.closeOrder gen i then s.flueAdvance gen i else s

/-- Close an item: unwritten bytes are 0, and it becomes visible in its turn (R196, R217). -/
def State.flueClose (s : State) (gen i seq : Nat) : State :=
  let f := s.flue gen i
  let x := f.item seq
  let s1 := s.flueAppend gen i seq (List.replicate (x.len - x.wr) 0)
  let g := s1.flue gen i
  let y := { g.item seq with closed := true, clAt := s1.now }
  (s1.setFlue gen i { g.setItem y with recd := if s1.itemIsRec gen i y then some (s1.itemFrame gen i y) else g.recd }).flueAdvance
    gen i

/-- Discard an open item: no byte of it becomes visible (R205). -/
def State.flueDiscard (s : State) (gen i seq : Nat) : State := (s.flueFree gen i seq).flueAdvance gen i

/-- Write a whole item and close it: an ingest line, a swath row, a record. -/
def State.flueItem (s : State) (gen i : Nat) (bs : List Nat) : State :=
  let seq := (s.flue gen i).claimed
  ((s.flueClaim gen i bs.length 0).flueAppend gen i seq bs).flueClose gen i seq

/-! ### Readers -/

/-- The items that wait for a reader, in the order in which they became visible. -/
def Flue.waiting (f : Flue) (j r : Nat) : List Item :=
  let xs := f.items.filter fun x => x.vis.isSome && (x.left.contains (j, r) || x.left.contains (j, 255))
  xs.mergeSort fun a b => decide (a.vis.getD 0 ≤ b.vis.getD 0)

/-- A rank takes an item: under FIRST_FREE it becomes the item's reader (R220). -/
def State.flueTake (s : State) (gen i seq j r : Nat) : State :=
  let f := s.flue gen i
  let x := f.item seq
  if x.left.contains (j, 255) then s.setFlue gen i (f.setItem { x with left := x.left.map fun y => if y = (j, 255) then (j, r) else y })
  else s

/-- Flue and consumer slot of an endpoint that consumes, in a graph. -/
def Graph.consumed (g : Graph) (w : Nat) : Option (Nat × Nat) :=
  ((List.range g.flues.length).find? fun i => ((g.flues.getD i {}).cons.contains w)).map fun i => (i, (g.flues.getD i {}).consumer w)

/-- The generations that an endpoint other than a node port reads, the ones being drained first (R213). -/
def State.gens (s : State) : List Nat := s.graph.olds.map Prod.fst ++ [s.graph.gen]

/-- The next item for an endpoint other than a node port: from the graphs being drained first (R213), then from the active
one. Generation, flue, consumer, item. -/
def State.endpointNext (s : State) (w : Nat) : Option (Nat × Nat × Nat × Item) :=
  s.gens.findSome? fun gen =>
    match (s.graphOf gen).consumed w with
    | none => none
    | some (i, j) => ((s.flue gen i).waiting j 0).head?.map fun x => (gen, i, j, x)

/-- The flues that an endpoint reads show what they held back to the end of a clock before `t` (R221). -/
def State.endpointCatch (s : State) (w t : Nat) : State :=
  s.gens.foldl (fun s gen =>
    match (s.graphOf gen).consumed w with
    | some (i, _) => if s.closeOrder gen i then (s.at t).flueAdvance gen i else s
    | none => s) s

/-- Read an item for an endpoint and free it: bytes, whether a word of it is uncorrectable, and the state (R217, R263). -/
def State.endpointRead (s : State) (gen i j : Nat) (x : Item) : List Nat × Bool × State :=
  let d := s.flueDef gen i
  let r := s.memRead d.mem (d.slot x.seq + 8) x.len
  (r.1, r.2.1, r.2.2.flueFinish gen i x.seq (j, 0))

/-! ### Faulted ranks (R222, R223) -/

/-- A faulted rank's reader entry on an item: a record goes to the next live rank, which under BROADCAST deal has it already; any
other item is discarded (R222). -/
def State.dropReader (s : State) (gen i j r k : Nat) (x : Item) : State :=
  if s.itemIsRec gen i x then
    let f := s.flue gen i
    let heir := s.nextLive gen k r
    let all := ((s.nodeDef gen k).si.getD (epIndex ((s.flueDef gen i).cons.getD j 0) % 4) {}).mode == 0
    if all ∧ heir ≠ 254 then s.flueFinish gen i x.seq (j, r)
    else s.setFlue gen i (f.setItem { x with left := x.left.map fun y => if y = (j, r) then (j, heir) else y })
  else ((s.loseFrame gen k (s.itemFrame gen i x)).graphEvent 0x1404 k gen).flueFinish gen i x.seq (j, r)

/-- Every item dealt to a rank on its input ports is discarded (R222). -/
def State.dropRank (s : State) (gen k r : Nat) : State :=
  (List.range 4).foldl (fun s p =>
    let port := (s.nodeDef gen k).si.getD p {}
    if port.used then
      let j := (s.flueDef gen port.flue).consumer (2 * 4096 + 4 * k + p)
      ((s.flue gen port.flue).items.filter fun x => x.left.contains (j, r)).foldl
        (fun s x => s.dropReader gen port.flue j r k ((s.flue gen port.flue).item x.seq)) s
    else s) s

/-- A graph with a failed node stops; the streams it feeds are suspended and their items completed INCOMPLETE
(R223, R309). -/
def State.graphFail (s : State) (gen k : Nat) : State :=
  let u := s.graph
  let s1 := (s.setGraph { u with stopped := if u.stopped.contains gen then u.stopped else u.stopped ++ [gen] }).graphEvent 0x1407 k gen
  ((List.range 63).foldl (fun s q =>
    if ((s.graphOf gen).consumed (4 * 4096 + q)).isSome then (s.suspend q 3).endIncomplete q else s) s1).wmEval

/-- A rank has entered EXCEPTION: its items are discarded, its turns skipped; three exceptions of the node within 1 s leave
it out for good, and a node with no rank left is failed (R222, R223). -/
def State.rankFault (s : State) (gen k r : Nat) : State :=
  let n := s.gnode gen k
  let recent := (n.excAt.filter fun t => decide (s.now < t + 1000000000)) ++ [s.now]
  let s1 := s.setGnode gen k { n with excAt := recent, faulted := if n.faulted.contains r then n.faulted else n.faulted ++ [r] }
  let s2 := s1.dropRank gen k r
  let s3 := (List.range 4).foldl (fun s p =>
    let port := (s.nodeDef gen k).so.getD p {}
    if port.used then s.flueAdvance gen port.flue else s) s2
  if 3 ≤ recent.length then
    let m := s3.gnode gen k
    let s4 := (s3.setGnode gen k { m with gone := if m.gone.contains r then m.gone else m.gone ++ [r] }).graphEvent 0x1406 k gen
    let s5 : State := State.capMark { s4 with dlv := { s4.dlv with seen := [] } }
    if (s5.nodeDef gen k).ranks.length ≤ (s5.gnode gen k).gone.length then s5.graphFail gen k else s5
  else s3

/-- A rank rejoins the deal and the merge; records that waited for a live rank go to it (R222, R223). -/
def State.rankRejoin (s : State) (gen k r : Nat) : State :=
  let n := s.gnode gen k
  let s1 := s.setGnode gen k { n with faulted := n.faulted.filter fun x => x != r }
  (List.range 4).foldl (fun s p =>
    let port := (s.nodeDef gen k).si.getD p {}
    if port.used then
      let f := s.flue gen port.flue
      let j := (s.flueDef gen port.flue).consumer (2 * 4096 + 4 * k + p)
      s.setFlue gen port.flue { f with items := f.items.map fun x =>
        { x with left := x.left.map fun y => if y = (j, 254) then (j, r) else y } }
    else s) s1

end Sys2Proof.Machine
end

