-- ==== Sys2Proof/Machine/Jeis.lean ====
section
/-! DEFINITION. The JEIS instruction word: its fields, which words are legal, the registers it reads and writes, and the
arithmetic of scalars, lanes and accumulators (R176 to R191). -/

namespace Sys2Proof.Machine

/-! ### Fields (R182) -/

/-- OP, bits [31:26]. -/
def jOp (w : Nat) : Nat := bitsOf w 26 6
/-- D, bits [25:21]. -/
def jD (w : Nat) : Nat := bitsOf w 21 5
/-- A, bits [20:16]. -/
def jA (w : Nat) : Nat := bitsOf w 16 5
/-- B of format R, bits [15:11]. -/
def jB (w : Nat) : Nat := bitsOf w 11 5
/-- PR of format R, bits [10:8]. -/
def jPr (w : Nat) : Nat := bitsOf w 8 3
/-- Z of format R, bit [7]. -/
def jZ (w : Nat) : Nat := bitsOf w 7 1
/-- FN, bits [6:0]. -/
def jFn (w : Nat) : Nat := bitsOf w 0 7
/-- IMM16, bits [15:0]. -/
def jImm (w : Nat) : Nat := bitsOf w 0 16
/-- IMM12 of format VI. -/
def jImm12 (w : Nat) : Nat := bitsOf w 0 12
/-- PR of format VI, bits [15:13]. -/
def viPr (w : Nat) : Nat := bitsOf w 13 3
/-- Z of format VI, bit [12]. -/
def viZ (w : Nat) : Nat := bitsOf w 12 1
/-- BOP of the long form, bits [25:20]. -/
def lBop (w : Nat) : Nat := bitsOf w 20 6
/-- D of the long form, bits [19:15]. -/
def lD (w : Nat) : Nat := bitsOf w 15 5
/-- A of the long form, bits [14:10]. -/
def lA (w : Nat) : Nat := bitsOf w 10 5

/-! ### Legality (R182, R183, R189 to R191) -/

/-- PR and Z of format R are 0 (R190, R191). -/
def noPr (w : Nat) : Bool := jPr w == 0 && jZ w == 0

/-- Legal words of OP 0x28 and 0x29. -/
def legalVAlu (w : Nat) : Bool :=
  decide (jFn w ≤ 0x17) && (jFn w != 0x16 || jZ w == 0) && (jFn w != 0x17 || jB w == 0)

/-- Legal words of OP 0x2C. -/
def legalVMisc (w : Nat) : Bool :=
  match jFn w with
  | 0x00 => jB w == 0
  | 0x01 => noPr w
  | 0x02 | 0x03 => true
  | 0x04 => jA w == 0 && jB w == 0
  | 0x05 => true
  | 0x06 | 0x07 | 0x08 | 0x09 | 0x0A | 0x0B | 0x0C => jB w == 0
  | _ => false

/-- Legal words of OP 0x2E: predicates are 0 to 7 (R190). -/
def legalPAlu (w : Nat) : Bool :=
  noPr w &&
  match jFn w with
  | 0x00 | 0x01 | 0x02 | 0x03 => decide (jD w < 8 ∧ jA w < 8 ∧ jB w < 8)
  | 0x04 => decide (jD w < 8 ∧ jA w < 8) && jB w == 0
  | 0x05 | 0x07 => decide (jD w < 8) && jB w == 0
  | 0x06 => decide (jA w < 8) && jB w == 0
  | _ => false

/-- Legal stream words: OP 0x20; the port is 0 to 3. -/
def legalStream (w : Nat) : Bool :=
  noPr w && decide (jB w < 4) &&
  match jFn w with
  | 0x00 | 0x01 | 0x05 => jA w == 0
  | 0x02 | 0x03 => jD w == 0
  | 0x04 => jD w == 0 && jA w == 0
  | _ => false

/-- The I-format operations that the long form may carry (R183). -/
def legalBop (b : Nat) : Bool :=
  decide ((2 ≤ b ∧ b ≤ 7) ∨ (0x0A ≤ b ∧ b ≤ 0x10) ∨ b = 0x19)

/-- A first word is legal (R182, R183, R189 to R191). CSR numbers are judged when the instruction runs. -/
def jeisLegal (w : Nat) : Bool :=
  match jOp w with
  | 0x01 => noPr w && decide (jFn w ≤ 0x12) && (decide (jFn w < 0x11) || jB w == 0)
  | 0x02 | 0x03 | 0x04 | 0x05 | 0x06 => true
  | 0x07 => jA w == 0
  | 0x08 => decide (jImm w < 96)
  | 0x0A | 0x0B | 0x0C | 0x0D | 0x0E | 0x0F | 0x10 => true
  | 0x11 => noPr w && decide (jFn w ≤ 2)
  | 0x12 | 0x13 | 0x14 | 0x15 | 0x16 | 0x17 | 0x18 | 0x19 => true
  | 0x1A => jD w == 0
  | 0x1B => noPr w && jD w == 0 && jA w == 0 && (jFn w == 2 || (decide (jFn w < 2) && jB w == 0))
  | 0x1C => jD w == 0 && decide (jImm w < 8)
  | 0x1D => jA w == 0 && decide (jImm w < 4096)
  | 0x1E => jD w == 0 && decide (jImm w < 4096)
  | 0x1F => noPr w && jD w == 0 && decide (jB w < 4) && (jFn w == 0 || (jFn w == 1 && jA w == 0))
  | 0x20 => legalStream w
  | 0x28 | 0x29 => legalVAlu w
  | 0x2A => bitsOf w 4 4 == 0
  | 0x2B => decide (jD w < 8) && decide (jFn w ≤ 5 ∨ (8 ≤ jFn w ∧ jFn w ≤ 0x0D))
  | 0x2C => legalVMisc w
  | 0x2D => bitsOf w 10 2 == 0
  | 0x2E => legalPAlu w
  | 0x30 => decide (jD w < 4) && (decide (jFn w ≤ 5) || (jFn w == 6 && jA w == 0 && jB w == 0))
  | 0x31 => decide (jA w < 4) && decide (bitsOf w 10 2 < 3) && bitsOf w 6 2 == 0 && decide (bitsOf w 0 6 ≤ 39)
  | 0x34 => true
  | 0x35 => viZ w == 0
  | 0x36 => jFn w == 0
  | 0x37 => jFn w == 0 && jZ w == 0
  | 0x38 | 0x39 => noPr w && jFn w == 0 && jA w == 0 && decide (jB w < 4)
  | 0x3A => decide (jFn w < 4)
  | 0x3F => legalBop (lBop w) && bitsOf w 0 10 == 0 && (lBop w != 7 || lA w == 0)
  | _ => false

/-! ### Registers read and written, for the pairing of R180 -/

/-- Numbers that tell X, V, P and A registers apart; X0 and P0 are never written (R176). -/
def xId (r : Nat) : List Nat := if r = 0 then [] else [r]
/-- A vector register. -/
def vId (r : Nat) : List Nat := [32 + r]
/-- A predicate register. -/
def pId (r : Nat) : List Nat := if r = 0 then [] else [64 + r]
/-- An accumulator. -/
def aId (r : Nat) : List Nat := [72 + r]

/-- Registers that a word of OP 0x2C reads and writes. -/
def vMiscUse (w : Nat) : List Nat × List Nat :=
  match jFn w with
  | 0x00 => (xId (jA w) ++ pId (jPr w), vId (jD w))
  | 0x01 => (vId (jA w) ++ xId (jB w), xId (jD w))
  | 0x02 => (xId (jA w) ++ xId (jB w) ++ pId (jPr w), vId (jD w))
  | 0x04 => (pId (jPr w), vId (jD w))
  | 0x03 | 0x05 => (vId (jA w) ++ vId (jB w) ++ pId (jPr w), vId (jD w))
  | 0x08 | 0x09 | 0x0A | 0x0B => (vId (jA w) ++ pId (jPr w), xId (jD w))
  | _ => (vId (jA w) ++ pId (jPr w), vId (jD w))

/-- Registers that a word of OP 0x2E reads and writes. -/
def pAluUse (w : Nat) : List Nat × List Nat :=
  match jFn w with
  | 0x05 | 0x07 => (xId (jA w), pId (jD w))
  | 0x06 => (pId (jA w), xId (jD w))
  | _ => (pId (jA w) ++ pId (jB w), pId (jD w))

/-- Registers that an I-format operation reads and writes. -/
def iUse (op d a : Nat) : List Nat × List Nat :=
  if op = 0x0B ∨ op = 0x0E ∨ op = 0x10 then (xId d ++ xId a, []) else (xId a, xId d)

/-- Registers that a word reads and writes. -/
def jeisUse (w : Nat) : List Nat × List Nat :=
  match jOp w with
  | 0x01 | 0x11 => (xId (jA w) ++ xId (jB w), xId (jD w))
  | 0x12 | 0x13 | 0x14 | 0x15 | 0x16 | 0x17 => (xId (jD w) ++ xId (jA w), [])
  | 0x18 | 0x1D => ([], xId (jD w))
  | 0x1A | 0x1C | 0x1E => (xId (jA w), [])
  | 0x1B => (xId (jB w), [])
  | 0x1F => (xId (jA w), [])
  | 0x20 => (xId (jA w), xId (jD w))
  | 0x28 => (vId (jA w) ++ vId (jB w) ++ pId (jPr w), vId (jD w))
  | 0x29 => (vId (jA w) ++ xId (jB w) ++ pId (jPr w), vId (jD w))
  | 0x2A => (vId (jA w) ++ pId (viPr w), vId (jD w))
  | 0x2B => (vId (jA w) ++ (if jFn w < 8 then vId (jB w) else xId (jB w)) ++ pId (jPr w), pId (jD w))
  | 0x2C => vMiscUse w
  | 0x2D => (vId (jA w) ++ vId (bitsOf w 5 5) ++ pId (viPr w), vId (jD w))
  | 0x2E => pAluUse w
  | 0x30 => (vId (jA w) ++ vId (jB w) ++ pId (jPr w), aId (jD w))
  | 0x31 => (aId (jA w) ++ pId (viPr w), vId (jD w))
  | 0x34 => (xId (jA w) ++ pId (viPr w), vId (jD w))
  | 0x35 => (xId (jA w) ++ vId (jD w) ++ pId (viPr w), [])
  | 0x36 => (xId (jA w) ++ vId (jB w) ++ pId (jPr w), vId (jD w))
  | 0x37 => (xId (jA w) ++ vId (jB w) ++ vId (jD w) ++ pId (jPr w), [])
  | 0x38 => ([], vId (jD w))
  | 0x39 => (vId (jD w), [])
  | 0x3A => (vId (jA w) ++ vId (jB w) ++ pId (jPr w), vId (jD w))
  | 0x3F => iUse (lBop w) (lD w) (lA w)
  | op => iUse op (jD w) (jA w)

/-- The slot of an instruction: V for OP 0x28 to 0x3A (R189). -/
def jeisVec (w : Nat) : Bool := decide (0x28 ≤ jOp w ∧ jOp w < 0x3F)

/-- A control instruction of R180: branch, JAL, JALR, LOOP, SYS, BAR, CSRW or DMAWT. -/
def jeisCtrl (w : Nat) : Bool :=
  decide ((0x12 ≤ jOp w ∧ jOp w ≤ 0x1C) ∨ jOp w = 0x1E ∨ (jOp w = 0x1F ∧ jFn w = 1) ∨ (jOp w = 0x3F ∧ lBop w = 0x19))

/-- The stream port that a word addresses: 0 to 3 input, 4 to 7 output. -/
def jeisPort (w : Nat) : Option Nat :=
  match jOp w with
  | 0x20 => if jFn w = 2 ∨ jFn w = 3 ∨ jFn w = 4 then some (4 + jB w) else some (jB w)
  | 0x38 => some (jB w)
  | 0x39 => some (4 + jB w)
  | _ => none

/-- What an issued word leaves for the next one. -/
def jeisIssued (w : Nat) : Issued :=
  { vec := jeisVec w, ctrl := jeisCtrl w, writes := (jeisUse w).2, port := jeisPort w }

/-- A word issues with the previous one in one clock (R180). -/
def jeisPairs (prev : Option Issued) (w : Nat) : Bool :=
  match prev with
  | none => false
  | some i =>
    i.vec != jeisVec w && !i.ctrl && !jeisCtrl w &&
    !(((jeisUse w).1 ++ (jeisUse w).2).any fun r => i.writes.contains r) &&
    !(i.port.isSome && i.port == jeisPort w)

/-! ### Arithmetic (R184, R185) -/

/-- Clamp to a range. -/
def clamp (lo hi x : Int) : Int := max lo (min hi x)

/-- sat_s16 (R184). -/
def satS16 (x : Int) : Int := clamp (-32768) 32767 x
/-- sat_u16 (R184). -/
def satU16 (x : Int) : Int := clamp 0 65535 x
/-- sat_s32 (R184). -/
def satS32 (x : Int) : Int := clamp (-2147483648) 2147483647 x
/-- sat_s40 (R184). -/
def satS40 (x : Int) : Int := clamp (-549755813888) 549755813887 x

/-- A right shift with rounding (R185). -/
def shiftRound (x : Int) (n rm : Nat) : Int :=
  if n = 0 then x
  else
    let m : Int := (2 ^ n : Nat)
    match rm with
    | 0 => x / m
    | 1 => (x + m / 2) / m
    | 2 =>
      let q := x / m
      let r := x % m
      if 2 * r < m then q else if m < 2 * r then q + 1 else q + q % 2
    | _ => x.tdiv m

/-- Result of a scalar R-format operation, and whether ADDS or SUBS clamped (R187, R189). -/
def scalarAlu (fn : Nat) (a b : Word) : Word × Bool :=
  let s (x : Int) : Word × Bool := (BitVec.ofInt 32 (satS32 x), decide (satS32 x ≠ x))
  let n := b.toNat % 32
  match fn with
  | 0x00 => (a + b, false)
  | 0x01 => (a - b, false)
  | 0x02 => (a &&& b, false)
  | 0x03 => (a ||| b, false)
  | 0x04 => (a ^^^ b, false)
  | 0x05 => (a <<< n, false)
  | 0x06 => (a >>> n, false)
  | 0x07 => (a.sshiftRight n, false)
  | 0x08 => (if a.toInt < b.toInt then 1 else 0, false)
  | 0x09 => (if a.toNat < b.toNat then 1 else 0, false)
  | 0x0A => (if a.toInt ≤ b.toInt then a else b, false)
  | 0x0B => (if a.toInt ≤ b.toInt then b else a, false)
  | 0x0C => (a * b, false)
  | 0x0D => (BitVec.ofInt 32 (a.toInt * b.toInt / 4294967296), false)
  | 0x0E => (BitVec.ofNat 32 (a.toNat * b.toNat / 4294967296), false)
  | 0x0F => s (a.toInt + b.toInt)
  | 0x10 => s (a.toInt - b.toInt)
  | 0x11 => (BitVec.ofNat 32 (if a.toNat = 0 then 32 else 31 - a.toNat.log2), false)
  | _ => (BitVec.ofNat 32 (((List.range 32).filter fun i => a.toNat.testBit i).length), false)

/-- A shift by an immediate: kind 0 SHL, 1 SHR, 2 SRA (R189). -/
def shiftImm (kind n : Nat) (a : Word) : Word :=
  match kind with
  | 0 => a <<< n
  | 1 => a >>> n
  | _ => a.sshiftRight n

/-- One lane of OP 0x28, and whether it clamped (R187, R189). `p` is the lane's bit of the predicate, for VSEL. -/
def laneAlu (fn : Nat) (a b : BitVec 16) (p : Bool) : BitVec 16 × Bool :=
  let sa := a.toInt
  let sb := b.toInt
  let ua : Int := a.toNat
  let ub : Int := b.toNat
  let ss (x : Int) : BitVec 16 × Bool := (BitVec.ofInt 16 (satS16 x), decide (satS16 x ≠ x))
  let su (x : Int) : BitVec 16 × Bool := (BitVec.ofInt 16 (satU16 x), decide (satU16 x ≠ x))
  let n := b.toNat % 32
  match fn with
  | 0x00 => (a + b, false)
  | 0x01 => (a - b, false)
  | 0x02 => ss (sa + sb)
  | 0x03 => su (ua + ub)
  | 0x04 => ss (sa - sb)
  | 0x05 => su (ua - ub)
  | 0x06 => (a &&& b, false)
  | 0x07 => (a ||| b, false)
  | 0x08 => (a ^^^ b, false)
  | 0x09 => (if sa ≤ sb then a else b, false)
  | 0x0A => (if ua ≤ ub then a else b, false)
  | 0x0B => (if sa ≤ sb then b else a, false)
  | 0x0C => (if ua ≤ ub then b else a, false)
  | 0x0D => (BitVec.ofInt 16 ((ua - ub).natAbs : Int), false)
  | 0x0E => (BitVec.ofInt 16 ((ua + ub + 1) / 2), false)
  | 0x0F => (a * b, false)
  | 0x10 => (BitVec.ofInt 16 (sa * sb / 65536), false)
  | 0x11 => (BitVec.ofInt 16 (ua * ub / 65536), false)
  | 0x12 => ss ((sa * sb + 16384) / 32768)
  | 0x13 => (a <<< n, false)
  | 0x14 => (a >>> n, false)
  | 0x15 => (a.sshiftRight n, false)
  | 0x16 => (if p then a else b, false)
  | _ => ss (sa.natAbs : Int)

/-- One lane of VSHI and whether it clamped (R185, R189). -/
def laneShi (kind rm n : Nat) (a : BitVec 16) : BitVec 16 × Bool :=
  match kind with
  | 0 => (a <<< n, false)
  | 1 => (BitVec.ofInt 16 (satS16 (a.toInt * (2 ^ n : Nat))), decide (satS16 (a.toInt * (2 ^ n : Nat)) ≠ a.toInt * (2 ^ n : Nat)))
  | 2 => (BitVec.ofInt 16 (shiftRound a.toInt n rm), false)
  | _ => (BitVec.ofInt 16 (shiftRound a.toNat n rm), false)

/-- One lane of a compare (R189). -/
def laneCmp (c : Nat) (a b : BitVec 16) : Bool :=
  match c % 8 with
  | 0 => a == b
  | 1 => a != b
  | 2 => decide (a.toInt < b.toInt)
  | 3 => decide (a.toInt ≤ b.toInt)
  | 4 => decide (a.toNat < b.toNat)
  | _ => decide (a.toNat ≤ b.toNat)

/-- One accumulator lane of OP 0x30, and whether it clamped (R187 to R189). -/
def laneMac (fn : Nat) (acc : BitVec 40) (a b : BitVec 16) : BitVec 40 × Bool :=
  let c (x : Int) : BitVec 40 × Bool := (BitVec.ofInt 40 (satS40 x), decide (satS40 x ≠ x))
  match fn with
  | 0 => c (acc.toInt + a.toInt * b.toInt)
  | 1 => c (acc.toInt + (a.toNat : Int) * b.toNat)
  | 2 => c (acc.toInt + a.toInt * b.toNat)
  | 3 => c (acc.toInt - a.toInt * b.toInt)
  | 4 => (BitVec.ofInt 40 (a.toInt * b.toInt), false)
  | 5 => (BitVec.ofInt 40 ((a.toNat : Int) * b.toNat), false)
  | _ => (0, false)

/-- One lane of VACC, and whether it clamped (R188). -/
def laneAcc (mode rm n : Nat) (acc : BitVec 40) : BitVec 16 × Bool :=
  let r := shiftRound acc.toInt n rm
  match mode with
  | 0 => (BitVec.ofInt 16 (satS16 r), decide (satS16 r ≠ r))
  | 1 => (BitVec.ofInt 16 (satU16 r), decide (satU16 r ≠ r))
  | _ => (BitVec.ofInt 16 r, false)

end Sys2Proof.Machine
end

