-- ==== Sys2Proof/Machine/Engine.lean ====
section
/-! DEFINITION. The engine: registers, memories, issue, exceptions, barriers, waits and the watchdog (R173 to R182, R192,
R194, R198 to R200, R203 to R205, R208). The instructions are in Scalar.lean, Control.lean, Stream.lean and Vector.lean. -/

namespace Sys2Proof.Machine

/-! ### Engines (R173, R175, R176) -/

/-- Xr; X0 reads 0 (R176). -/
def Engine.getX (e : Engine) (r : Nat) : Word := if r = 0 then 0 else AMap.get 0 e.x r

/-- Set Xr; writes to X0 are discarded (R176). -/
def Engine.setX (e : Engine) (r : Nat) (v : Word) : Engine := if r = 0 then e else { e with x := AMap.set e.x r v }

/-- A vector of zeros. -/
def zeroVec : Vec := Vector.replicate 32 0

/-- Vr. -/
def Engine.getV (e : Engine) (r : Nat) : Vec := AMap.get zeroVec e.v r

/-- Set Vr. -/
def Engine.setV (e : Engine) (r : Nat) (v : Vec) : Engine := { e with v := AMap.set e.v r v }

/-- Pr; P0 reads all ones (R176). -/
def Engine.getP (e : Engine) (r : Nat) : Word := if r = 0 then 0xFFFFFFFF else AMap.get 0 e.p r

/-- Set Pr; writes to P0 are discarded (R176). -/
def Engine.setP (e : Engine) (r : Nat) (v : Word) : Engine := if r = 0 then e else { e with p := AMap.set e.p r v }

/-- Ar. -/
def Engine.getA (e : Engine) (r : Nat) : Vector (BitVec 40) 32 := AMap.get (Vector.replicate 32 0) e.a r

/-- Set Ar. -/
def Engine.setA (e : Engine) (r : Nat) (v : Vector (BitVec 40) 32) : Engine := { e with a := AMap.set e.a r v }

/-- A CSR that software writes (R179). -/
def Engine.getCsr (e : Engine) (n : Nat) : Word := AMap.get 0 e.csr n

/-- Set sticky bits of FLAGS (R187). -/
def Engine.flag (e : Engine) (bit : Nat) (on : Bool) : Engine :=
  if on then { e with csr := AMap.set e.csr 8 (e.getCsr 8 ||| BitVec.ofNat 32 (2 ^ bit)) } else e

/-- An engine runs a kernel and waits for nothing: STATE is RUNNING, its graph has not stopped (R207, R223). -/
def State.engReady (s : State) (g : Nat) : Bool :=
  s.rd (ENG.STAT_STATE g) == 1 && (s.eng g).wait == none && !((s.eng g).bound && s.graph.stopped.contains (s.eng g).gen)

/-- The kernel an engine runs is a library kernel, whose code the spec does not give (R224; log 15). -/
def State.libKernel (s : State) (g : Nat) : Bool :=
  (s.eng g).bound && (s.nodeDef (s.eng g).gen (s.eng g).node).kind == 1

/-- Program counter of an engine. -/
def State.engPc (s : State) (g : Nat) : Nat := s.rd (ENG.PC g)

/-! ### Watchdog (R204) -/

/-- What the watchdog has counted by `t`, in ns; it pauses in the waits that R204 names. -/
def Engine.wdCount (e : Engine) (t : Nat) : Nat :=
  match e.wait with
  | some (.item _) | some (.credit _) | some (.barrier _ _) => e.wdHeld
  | _ => e.wdHeld + (t - e.wdAt)

/-- Enter a wait: the count so far is kept. -/
def Engine.waitFor (e : Engine) (t : Nat) (w : Wait) : Engine := { e with wdHeld := e.wdCount t, wdAt := t, wait := some w, waitAt := t }

/-- Leave a wait: counting goes on from `t`. -/
def Engine.wake (e : Engine) (t : Nat) : Engine := { e with wdHeld := e.wdCount t, wdAt := t, wait := none }

/-- A completed SLEN or SEND restarts the count. -/
def Engine.kick (e : Engine) (t : Nat) : Engine := { e with wdHeld := 0, wdAt := t }

/-! ### Data memory (R177, R192, R194, R263) -/

/-- The memory that holds `n` bytes at a data address: all in DMEM or all in cluster SRAM (R177, R192). -/
def State.engMem (s : State) (g a n : Nat) : Option (MemId × Nat) :=
  if a + n ≤ 0x8000 then some (.dmem g, a)
  else if 0x100000 ≤ a ∧ a + n ≤ 0x200000 then some (.sram (s.clusterOf g), a - 0x100000)
  else none

/-- What an access does: it completes, or it raises an exception; the state carries what the codes counted. -/
inductive MRes where
  | ok (bytes : List Nat) (s : State)
  | fault (cause addr : Nat) (s : State)

/-- Destination bytes of the transfers in progress of an engine that fall in `n` bytes at `a`, with the bytes their
sources hold now (R197). -/
def State.dmaBytes (s : State) (g a n : Nat) : List (Nat × Nat) :=
  ((s.eng g).dma.flatMap fun c => c.2).flatMap fun d =>
    if d.mode / 2 % 2 = 1 then []
    else (List.range n).filterMap fun (i : Nat) =>
      (List.range d.rows).findSome? fun (r : Nat) =>
        let p : Int := (d.dst : Int) + (r : Int) * d.dstr
        let o : Int := (a : Int) + (i : Int) - p
        if 0 ≤ o ∧ o < d.row then
          let src := ((d.src : Int) + (r : Int) * d.sstr + o).toNat
          if d.mode % 2 = 1 then some (i, (s.memBytes .gddr src 1).getD 0 0)
          else match s.engMem g src 1 with
            | some (m, x) => some (i, (s.memBytes m x 1).getD 0 0)
            | none => none
        else none

/-- A byte that a transfer in progress writes reads old or new, decided per 64-byte block (R197). -/
def State.dmaView (s : State) (g a : Nat) (bs : List Nat) : List Nat :=
  let new := s.dmaBytes g a bs.length
  if new = [] then bs
  else (List.range bs.length).map fun i =>
    match new.find? (fun e => e.1 == i) with
    | some e => if freeValue (s.freeCount + (a + i) / 64) % 2 = 1 then e.2 else bs.getD i 0
    | none => bs.getD i 0

/-- Read `n` bytes: DACCESS outside the memories, MEMERR on an uncorrectable word (R192, R203). -/
def State.engRead (s : State) (g a n : Nat) : MRes :=
  match s.engMem g a n with
  | none => .fault 3 a s
  | some (m, x) =>
    let r := s.memRead m x n
    if r.2.1 then .fault 8 a r.2.2
    else .ok (s.dmaView g a r.1) (if (s.eng g).dma.any (fun c => c.2 != []) then r.2.2.used else r.2.2)

/-- Store bytes: DACCESS outside the memories; a store of fewer than 64 bits into an uncorrectable word raises MEMERR
(R192, R263). -/
def State.engWrite (s : State) (g a : Nat) (bs : List Nat) : MRes :=
  match s.engMem g a bs.length with
  | none => .fault 3 a s
  | some (m, x) =>
    let n := bs.length
    let first := if x % 8 = 0 ∧ 8 ≤ n then (s, false) else let r := s.memRead m x 1; (r.2.2, r.2.1)
    let last := if (x + n) % 8 = 0 ∨ first.2 then first else let r := first.1.memRead m (x + n - 1) 1; (r.2.2, r.2.1)
    if last.2 then .fault 8 a last.1 else .ok [] (last.1.memWrite m x bs)

/-! ### Exceptions (R203, R205, R222) -/

/-- Bit b of BARWAIT: an engine of the cluster waits at barrier b. -/
def State.barShow (s : State) (c : Nat) : State :=
  s.wr (CL.STAT_BARWAIT c) ((List.range 8).foldl (fun m d =>
    match (s.eng (s.runner (8 * c + d))).wait with
    | some (.barrier id _) => m.lor (2 ^ id)
    | _ => m) 0)

/-- An engine in service that raises MEMERR or WATCHDOG is taken next for a self-test (R439). -/
def State.testFirst (s : State) (g cause : Nat) : State :=
  if 128 ≤ g ∨ (cause ≠ 8 ∧ cause ≠ 9) then s
  else
    let x := AMap.get {} s.diag.standby (g / 32)
    if x.first.contains g then s
    else { s with diag := { s.diag with standby := AMap.set s.diag.standby (g / 32) { x with first := x.first ++ [g] } } }

/-- An engine stops in EXCEPTION: the exception registers, open items discarded, ENGINE_EXCEPTION, and its rank faulted.
ADDR and INSN of causes for which the spec names none are not stated (R203, R205, R222; log 2). -/
def State.engStop (s : State) (g cause : Nat) (addr insn : Option Nat) (imprecise second : Bool) : State :=
  let e := s.eng g
  let s0 := s.used.used
  let s1 := (((s0.wr (ENG.EXC_CAUSE g) cause).wrB (ENG.EXC_IMPRECISE g) imprecise).wrB (ENG.EXC_SECOND g) second)
  let s2 := ((s1.wr (ENG.EXC_PC_PC g) (s.engPc g)).wr (ENG.EXC_ADDR_ADDR g) (addr.getD (s.free 32))).wr
    (ENG.EXC_INSN_INSN g) (insn.getD (s.used.free 32))
  let s3 := (s2.wr (ENG.STAT_STATE g) 3).setEng g { e with wait := none, outCur := [], dmaErr := none, prev := none }
  let node := s.nodeDef e.gen e.node
  let s4 := if e.bound then e.outCur.foldl (fun s o => s.flueDiscard e.gen (node.so.getD o.1 {}).flue o.2) s3 else s3
  let s5 := (s4.raise 0x1301 g (leBytes 4 cause ++ leBytes 4 (s.engPc g))).testFirst g cause
  let s6 := if e.bound then s5.rankFault e.gen e.node e.rank else s5
  s6.barShow (s.clusterOf g)

/-- Engines of a cluster that wait at a barrier whose mask names one of `ds` raise BARRIER, and so on from them (R199). -/
def State.barrierFall (s : State) (c : Nat) (ds : List Nat) : Nat → State
  | 0 => s
  | k + 1 =>
    let hit := (List.range 8).filter fun d =>
      match (s.eng (s.runner (8 * c + d))).wait with
      | some (.barrier _ mask) => ds.any fun x => mask.testBit x
      | _ => false
    if hit = [] then s
    else
      (hit.foldl (fun s d =>
        let g := s.runner (8 * c + d)
        let id := match (s.eng g).wait with
          | some (.barrier id _) => id
          | _ => 0
        s.engStop g 6 (some id) (some (leNat (s.memBytes (.imem g) (s.engPc g) 4))) false false) s).barrierFall c hit k

/-- An engine enters EXCEPTION; barriers that name it fall (R199, R203). -/
def State.engExc (s : State) (g cause : Nat) (addr insn : Option Nat) (imprecise second : Bool) : State :=
  (s.engStop g cause addr insn imprecise second).barrierFall (s.clusterOf g) [s.servedBy g % 8] 9

/-- The kernel of in-service engine `g` is lost with its fence, no standby running it: barriers that name it fall (R199; log 75). -/
def State.fenceFall (s : State) (g : Nat) : State :=
  if s.runner g = g then s.barrierFall (g / 8) [g % 8] 9 else s

/-! ### Loops and the end of an instruction (R198) -/

/-- Loops that a jump to `target` leaves: an active loop whose body does not hold the target, and every loop inside it. -/
def loopsAfterJump (ls : List LoopLvl) (target : Nat) : List LoopLvl :=
  match ls with
  | [] => []
  | [o] => if o.start ≤ target ∧ target ≤ o.fin then [o] else []
  | i :: rest =>
    let keep := loopsAfterJump rest target
    if keep.length < rest.length then keep
    else if i.start ≤ target ∧ target ≤ i.fin then i :: keep else keep

/-- Where execution goes after an instruction of `len` bytes at `pc` that does not jump: the back-edge of the innermost
loop that ends there, or the next address (R198). The number tells whether a loop body ended there. -/
def loopNext (pc len : Nat) : List LoopLvl → Nat × List LoopLvl × Bool
  | [] => (pc + len, [], false)
  | l :: rest =>
    if pc ≤ l.fin ∧ l.fin < pc + len then
      if 1 < l.left then (l.start, { l with left := l.left - 1 } :: rest, true)
      else
        let r := loopNext pc len rest
        (r.1, r.2.1, true)
    else (pc + len, l :: rest, false)

/-- The instruction at `pc` is the last of the body of an active loop (R198). -/
def atLoopEnd (pc len : Nat) (ls : List LoopLvl) : Bool :=
  ls.any fun l => decide (pc ≤ l.fin ∧ l.fin < pc + len)

/-- What an instruction does: it completes (a jump names its target), it raises a precise exception, or it waits. -/
inductive JRes where
  | done (s : State)
  | jump (target : Nat) (s : State)
  | fault (cause : Nat) (addr : Option Nat) (s : State)
  | wait (w : Wait) (s : State)

/-- One more instruction retired. -/
def State.retired (s : State) (g : Nat) : State :=
  let n := s.rd (ENG.RET_LO_RET g) + 2 ^ 32 * s.rd (ENG.RET_HI_RET g) + 1
  (s.wr (ENG.RET_LO_RET g) n).wr (ENG.RET_HI_RET g) (n / 2 ^ 32 % 2 ^ 32)

/-- An instruction of `len` bytes completes: the loop stack, PC and the retired count (R198, R207). -/
def State.retire (s : State) (g len : Nat) (prev : Option Issued) (target : Option Nat) : State :=
  let e := s.eng g
  let pc := s.engPc g
  match target with
  | some x => ((s.setEng g { e with loops := loopsAfterJump e.loops x, prev := none }).wr (ENG.PC g) x).retired g
  | none =>
    let n := loopNext pc len e.loops
    ((s.setEng g { e with loops := n.2.1, prev := if n.2.2 then none else prev }).wr (ENG.PC g) n.1).retired g

/-! ### Issue (R180 to R183, R203) -/

/-- The 32-bit word at an instruction address. -/
def State.fetchWord (s : State) (g pc : Nat) : Nat := leNat (s.memBytes (.imem g) pc 4)

/-- Bytes of an instruction: 8 for the long form (R183). -/
def jeisLen (w : Nat) : Nat := if jOp w = 0x3F then 8 else 4

/-- Run the instruction at PC of an engine. Where its word is legal and `mine` names it, `act` is its effect; where its word
is not legal it raises ILLEGAL whatever row runs it; another instruction's row leaves the engine alone (R180 to R183,
R189, R198, R203). -/
def State.issue (s0 : State) (g t : Nat) (mine : Nat → Bool) (act : Nat → State → JRes) : State :=
  if s0.engReady g = false ∨ s0.libKernel g then s0
  else
    let s := s0.at t
    let e := s.eng g
    let pc := s.engPc g
    if 0x4000 ≤ pc then s.engExc g 3 (some pc) none false false
    else
      let w := s.fetchWord g pc
      let len := jeisLen w
      let r := s.memRead (.imem g) pc len
      let second := jeisPairs e.prev w
      if r.2.1 then r.2.2.engExc g 8 (some pc) none false second
      else if e.injIll then
        (r.2.2.setEng g { r.2.2.eng g with injIll := false }).engExc g 1 none (some w) false second
      else if jeisLegal w = false then r.2.2.engExc g 1 none (some w) false second
      else if mine w = false then s0
      else
        let last := jeisCtrl w && atLoopEnd pc len e.loops
        let next := if second then none else some (jeisIssued w)
        match act w r.2.2 with
        | .fault c a s1 =>
          if last ∧ 5 < c then r.2.2.engExc g 5 none (some w) false second else s1.engExc g c a (some w) false second
        | .done s1 => if last then r.2.2.engExc g 5 none (some w) false second else s1.retire g len next none
        | .jump x s1 => if last then r.2.2.engExc g 5 none (some w) false second else s1.retire g len next (some x)
        | .wait k s1 =>
          if last then r.2.2.engExc g 5 none (some w) false second
          else s1.setEng g ((s1.eng g).waitFor t k)

/-- An instruction that only changes the engine's own registers. -/
def State.issueReg (s : State) (g t : Nat) (mine : Nat → Bool) (act : Nat → Engine → Engine) : State :=
  s.issue g t mine fun w s1 => .done (s1.setEng g (act w (s1.eng g)))

/-- The word has an OP and FN (format R). -/
def isR (op fn : Nat) (w : Nat) : Bool := jOp w == op && jFn w == fn

/-- The word has an OP. -/
def isOp (op : Nat) (w : Nat) : Bool := jOp w == op

end Sys2Proof.Machine
end

