-- ==== Sys2Proof/Machine/Scalar.lean ====
section
/-! DEFINITION. Scalar instructions, loads, stores and atomics of the engines (R183, R189, R191, R192, R194). -/

namespace Sys2Proof.Machine

/-- A sign-extended IMM16. -/
def sext16 (i : Nat) : Word := BitVec.ofInt 32 (sint 16 i)

/-- An R-format scalar operation: D = A op B; ADDS and SUBS set SSAT when they clamp (R187, R189). -/
def jScalar (w : Nat) (e : Engine) : Engine :=
  let r := scalarAlu (jFn w) (e.getX (jA w)) (e.getX (jB w))
  (e.setX (jD w) r.1).flag 2 r.2

/-- An I-format operation on registers; `imm` is the extended IMM16, or IMM32 of a long form (R183, R189). -/
def jImmAlu (op d a : Nat) (imm : Word) (e : Engine) : Engine :=
  let x := e.getX a
  e.setX d (match op with
    | 0x02 => x + imm
    | 0x03 => x &&& imm
    | 0x04 => x ||| imm
    | 0x05 => x ^^^ imm
    | 0x06 => if x.toInt < imm.toInt then 1 else 0
    | _ => imm <<< 16)

/-- The extended IMM16 of an I-format operation: ANDI, ORI, XORI and LUI extend with zeros (R189). -/
def immOf (op w : Nat) : Word :=
  if op = 0x03 ∨ op = 0x04 ∨ op = 0x05 ∨ op = 0x07 then BitVec.ofNat 32 (jImm w) else sext16 (jImm w)

/-- An I-format operation in its 32-bit form. -/
def jImmOp (w : Nat) (e : Engine) : Engine := jImmAlu (jOp w) (jD w) (jA w) (immOf (jOp w) w) e

/-- SHI (R189). -/
def jShi (w : Nat) (e : Engine) : Engine :=
  e.setX (jD w) (shiftImm (bitsOf w 5 2) (bitsOf w 0 5) (e.getX (jA w)))

/-- Bytes that a load or store moves (R189). -/
def memSize (op : Nat) : Nat :=
  match op with
  | 0x0A | 0x0B => 4
  | 0x0C | 0x0D | 0x0E => 2
  | _ => 1

/-- The value a load writes to D (R189). -/
def loadExt (op v : Nat) : Word := if op = 0x0C then sext16 v else BitVec.ofNat 32 v

/-- A load or store at A plus the immediate: DALIGN, DACCESS and MEMERR as R192 and R203 give them. -/
def jMem (g op d a : Nat) (imm : Word) (s : State) : JRes :=
  let e := s.eng g
  let ea := (e.getX a + imm).toNat
  let n := memSize op
  if ea % n ≠ 0 then .fault 2 (some ea) s
  else if op = 0x0B ∨ op = 0x0E ∨ op = 0x10 then
    match s.engWrite g ea (leBytes n (e.getX d).toNat) with
    | .ok _ s1 => .done s1
    | .fault c x s1 => .fault c (some x) s1
  else
    match s.engRead g ea n with
    | .ok bs s1 => .done (s1.setEng g ((s1.eng g).setX d (loadExt op (leNat bs))))
    | .fault c x s1 => .fault c (some x) s1

/-- A load or store in its 32-bit form. -/
def jMemOp (g w : Nat) (s : State) : JRes := jMem g (jOp w) (jD w) (jA w) (sext16 (jImm w)) s

/-- The value an atomic leaves in memory (R189). -/
def amoNew (fn : Nat) (old b : Word) : Word :=
  match fn with
  | 0 => old + b
  | 1 => b
  | _ => if old.toNat ≤ b.toNat then b else old

/-- AMOADD, AMOSWAP and AMOMAXU: cluster SRAM only (R189, R192, R194). -/
def jAmo (g w : Nat) (s : State) : JRes :=
  let e := s.eng g
  let ea := (e.getX (jA w)).toNat
  if ea % 4 ≠ 0 then .fault 2 (some ea) s
  else if ea < 0x100000 then .fault 3 (some ea) s
  else
    match s.engRead g ea 4 with
    | .fault c x s1 => .fault c (some x) s1
    | .ok bs s1 =>
      let old := BitVec.ofNat 32 (leNat bs)
      match s1.engWrite g ea (leBytes 4 (amoNew (jFn w) old (e.getX (jB w))).toNat) with
      | .fault c x s2 => .fault c (some x) s2
      | .ok _ s2 => .done (s2.setEng g ((s2.eng g).setX (jD w) old))

/-- ADD: D = A + B modulo 2^32 (R189). -/
def execAdd (g : Fin 132) (t : Nat) (s : State) : Host.Outcome State Fault Refusal :=
  .next (s.issueReg g t (isR 0x01 0x00) jScalar)

/-- SUB: D = A - B modulo 2^32 (R189). -/
def execSub (g : Fin 132) (t : Nat) (s : State) : Host.Outcome State Fault Refusal :=
  .next (s.issueReg g t (isR 0x01 0x01) jScalar)

/-- AND: D = A and B (R189). -/
def execAnd (g : Fin 132) (t : Nat) (s : State) : Host.Outcome State Fault Refusal :=
  .next (s.issueReg g t (isR 0x01 0x02) jScalar)

/-- OR: D = A or B (R189). -/
def execOr (g : Fin 132) (t : Nat) (s : State) : Host.Outcome State Fault Refusal :=
  .next (s.issueReg g t (isR 0x01 0x03) jScalar)

/-- XOR: D = A xor B (R189). -/
def execXor (g : Fin 132) (t : Nat) (s : State) : Host.Outcome State Fault Refusal :=
  .next (s.issueReg g t (isR 0x01 0x04) jScalar)

/-- SHL: D = A shifted left by B & 31 (R189). -/
def execShl (g : Fin 132) (t : Nat) (s : State) : Host.Outcome State Fault Refusal :=
  .next (s.issueReg g t (isR 0x01 0x05) jScalar)

/-- SHR: D = A shifted right by B & 31, filled with zeros (R189). -/
def execShr (g : Fin 132) (t : Nat) (s : State) : Host.Outcome State Fault Refusal :=
  .next (s.issueReg g t (isR 0x01 0x06) jScalar)

/-- SRA: D = A shifted right by B & 31, filled with the sign (R189). -/
def execSra (g : Fin 132) (t : Nat) (s : State) : Host.Outcome State Fault Refusal :=
  .next (s.issueReg g t (isR 0x01 0x07) jScalar)

/-- SLT: D = 1 if A < B signed, else 0 (R189). -/
def execSlt (g : Fin 132) (t : Nat) (s : State) : Host.Outcome State Fault Refusal :=
  .next (s.issueReg g t (isR 0x01 0x08) jScalar)

/-- SLTU: D = 1 if A < B unsigned, else 0 (R189). -/
def execSltu (g : Fin 132) (t : Nat) (s : State) : Host.Outcome State Fault Refusal :=
  .next (s.issueReg g t (isR 0x01 0x09) jScalar)

/-- MIN: signed minimum (R189). -/
def execMin (g : Fin 132) (t : Nat) (s : State) : Host.Outcome State Fault Refusal :=
  .next (s.issueReg g t (isR 0x01 0x0A) jScalar)

/-- MAX: signed maximum (R189). -/
def execMax (g : Fin 132) (t : Nat) (s : State) : Host.Outcome State Fault Refusal :=
  .next (s.issueReg g t (isR 0x01 0x0B) jScalar)

/-- MUL: low 32 bits of the product (R189). -/
def execMul (g : Fin 132) (t : Nat) (s : State) : Host.Outcome State Fault Refusal :=
  .next (s.issueReg g t (isR 0x01 0x0C) jScalar)

/-- MULH: high 32 bits of the signed product (R189). -/
def execMulh (g : Fin 132) (t : Nat) (s : State) : Host.Outcome State Fault Refusal :=
  .next (s.issueReg g t (isR 0x01 0x0D) jScalar)

/-- MULHU: high 32 bits of the unsigned product (R189). -/
def execMulhu (g : Fin 132) (t : Nat) (s : State) : Host.Outcome State Fault Refusal :=
  .next (s.issueReg g t (isR 0x01 0x0E) jScalar)

/-- ADDS: sat_s32 of the sum (R189). -/
def execAdds (g : Fin 132) (t : Nat) (s : State) : Host.Outcome State Fault Refusal :=
  .next (s.issueReg g t (isR 0x01 0x0F) jScalar)

/-- SUBS: sat_s32 of the difference (R189). -/
def execSubs (g : Fin 132) (t : Nat) (s : State) : Host.Outcome State Fault Refusal :=
  .next (s.issueReg g t (isR 0x01 0x10) jScalar)

/-- CLZ: leading zeros, 32 for 0 (R189). -/
def execClz (g : Fin 132) (t : Nat) (s : State) : Host.Outcome State Fault Refusal :=
  .next (s.issueReg g t (isR 0x01 0x11) jScalar)

/-- POPC: count of 1 bits (R189). -/
def execPopc (g : Fin 132) (t : Nat) (s : State) : Host.Outcome State Fault Refusal :=
  .next (s.issueReg g t (isR 0x01 0x12) jScalar)

/-- ADDI: D = A + sext(IMM16) (R189). -/
def execAddi (g : Fin 132) (t : Nat) (s : State) : Host.Outcome State Fault Refusal :=
  .next (s.issueReg g t (isOp 0x02) jImmOp)

/-- ANDI: D = A and zext(IMM16) (R189). -/
def execAndi (g : Fin 132) (t : Nat) (s : State) : Host.Outcome State Fault Refusal :=
  .next (s.issueReg g t (isOp 0x03) jImmOp)

/-- ORI: D = A or zext(IMM16) (R189). -/
def execOri (g : Fin 132) (t : Nat) (s : State) : Host.Outcome State Fault Refusal :=
  .next (s.issueReg g t (isOp 0x04) jImmOp)

/-- XORI: D = A xor zext(IMM16) (R189). -/
def execXori (g : Fin 132) (t : Nat) (s : State) : Host.Outcome State Fault Refusal :=
  .next (s.issueReg g t (isOp 0x05) jImmOp)

/-- SLTI: D = 1 if A < sext(IMM16) signed (R189). -/
def execSlti (g : Fin 132) (t : Nat) (s : State) : Host.Outcome State Fault Refusal :=
  .next (s.issueReg g t (isOp 0x06) jImmOp)

/-- LUI: D = IMM16 << 16 (R189). -/
def execLui (g : Fin 132) (t : Nat) (s : State) : Host.Outcome State Fault Refusal :=
  .next (s.issueReg g t (isOp 0x07) jImmOp)

/-- SHI: A shifted by n in the kind that IMM names (R189). -/
def execShi (g : Fin 132) (t : Nat) (s : State) : Host.Outcome State Fault Refusal :=
  .next (s.issueReg g t (isOp 0x08) jShi)

/-- LDW: 32-bit load at A + sext(IMM16) (R189, R192). -/
def execLdw (g : Fin 132) (t : Nat) (s : State) : Host.Outcome State Fault Refusal :=
  .next (s.issue g t (isOp 0x0A) (jMemOp g))

/-- STW: 32-bit store at A + sext(IMM16) (R189, R192). -/
def execStw (g : Fin 132) (t : Nat) (s : State) : Host.Outcome State Fault Refusal :=
  .next (s.issue g t (isOp 0x0B) (jMemOp g))

/-- LDH: 16-bit load, sign-extended at A + sext(IMM16) (R189, R192). -/
def execLdh (g : Fin 132) (t : Nat) (s : State) : Host.Outcome State Fault Refusal :=
  .next (s.issue g t (isOp 0x0C) (jMemOp g))

/-- LDHU: 16-bit load, zero-extended at A + sext(IMM16) (R189, R192). -/
def execLdhu (g : Fin 132) (t : Nat) (s : State) : Host.Outcome State Fault Refusal :=
  .next (s.issue g t (isOp 0x0D) (jMemOp g))

/-- STH: 16-bit store at A + sext(IMM16) (R189, R192). -/
def execSth (g : Fin 132) (t : Nat) (s : State) : Host.Outcome State Fault Refusal :=
  .next (s.issue g t (isOp 0x0E) (jMemOp g))

/-- LDBU: 8-bit load, zero-extended at A + sext(IMM16) (R189, R192). -/
def execLdbu (g : Fin 132) (t : Nat) (s : State) : Host.Outcome State Fault Refusal :=
  .next (s.issue g t (isOp 0x0F) (jMemOp g))

/-- STB: 8-bit store at A + sext(IMM16) (R189, R192). -/
def execStb (g : Fin 132) (t : Nat) (s : State) : Host.Outcome State Fault Refusal :=
  .next (s.issue g t (isOp 0x10) (jMemOp g))

/-- AMOADD (R189, R194). -/
def execAmoadd (g : Fin 132) (t : Nat) (s : State) : Host.Outcome State Fault Refusal :=
  .next (s.issue g t (isR 0x11 0x00) (jAmo g))

/-- AMOSWAP (R189, R194). -/
def execAmoswap (g : Fin 132) (t : Nat) (s : State) : Host.Outcome State Fault Refusal :=
  .next (s.issue g t (isR 0x11 0x01) (jAmo g))

/-- AMOMAXU (R189, R194). -/
def execAmomaxu (g : Fin 132) (t : Nat) (s : State) : Host.Outcome State Fault Refusal :=
  .next (s.issue g t (isR 0x11 0x02) (jAmo g))

end Sys2Proof.Machine
end

