-- ==== Sys2Proof/Machine/Control.lean ====
section
/-! DEFINITION. Control instructions of the engines: branches, jumps, loops, HALT, FENCE, TRAP, barriers, CSRs, DMA, and
the long form (R179, R183, R189, R194, R197 to R200). -/

namespace Sys2Proof.Machine

/-! ### Branches and jumps (R189) -/

/-- The condition of a branch. -/
def branchTaken (op : Nat) (a b : Word) : Bool :=
  match op with
  | 0x12 => a == b
  | 0x13 => a != b
  | 0x14 => decide (a.toInt < b.toInt)
  | 0x15 => decide (b.toInt ≤ a.toInt)
  | 0x16 => decide (a.toNat < b.toNat)
  | _ => decide (b.toNat ≤ a.toNat)

/-- PC plus four times a signed offset. -/
def pcPlus (pc : Nat) (off : Int) : Nat := (BitVec.ofNat 32 pc + BitVec.ofInt 32 (4 * off)).toNat

/-- A branch: A is in bits [25:21] and B in bits [20:16] (R182, R189). -/
def jBranch (g w : Nat) (s : State) : JRes :=
  let e := s.eng g
  if branchTaken (jOp w) (e.getX (jD w)) (e.getX (jA w)) then .jump (pcPlus (s.engPc g) (sint 16 (jImm w))) s else .done s

/-- JAL (R189). -/
def jJal (g w : Nat) (s : State) : JRes :=
  let pc := s.engPc g
  .jump (pcPlus pc (sint 21 (bitsOf w 0 21))) (s.setEng g ((s.eng g).setX (jD w) (BitVec.ofNat 32 (pc + 4))))

/-- JALR; a long form links PC + 8 (R189). -/
def jJalrAt (g d a len : Nat) (imm : Word) (s : State) : JRes :=
  let e := s.eng g
  .jump ((e.getX a + imm).toNat / 4 * 4) (s.setEng g (e.setX d (BitVec.ofNat 32 (s.engPc g + len))))

/-- JALR in its 32-bit form. -/
def jJalr (g w : Nat) (s : State) : JRes := jJalrAt g (jD w) (jA w) 4 (sext16 (jImm w)) s

/-- LOOP (R198): a third level and IMM16 of 0 raise LOOPERR; a count of 0 passes the body. An inner body that would end
later than the outer one breaks R198, which names no effect: LOOPERR or the loop, a free value (log 2). -/
def jLoop (g w : Nat) (s : State) : JRes :=
  let e := s.eng g
  let pc := s.engPc g
  let fin := pc + 4 * jImm w
  let c := (e.getX (jA w)).toNat
  if 2 ≤ e.loops.length ∨ jImm w = 0 then .fault 5 none s
  else if e.loops.any (fun l => decide (l.fin < fin)) ∧ s.free 1 = 1 then .fault 5 none s.used
  else if c = 0 then .jump (fin + 4) s
  else .done (s.setEng g { e with loops := { start := pc + 4, fin := fin, left := c } :: e.loops })

/-! ### System instructions (R194, R199, R200, R203) -/

/-- Some DMA channel of the engine is busy. -/
def Engine.dmaBusy (e : Engine) : Bool := e.dma.any fun c => c.2 != []

/-- HALT: an open output item raises STREAM; it waits for every DMA channel, then the engine enters HALTED (R200). -/
def jHalt (g : Nat) (s : State) : JRes :=
  let e := s.eng g
  match e.outCur with
  | o :: _ => .fault 4 (some (4 + o.1)) s
  | [] =>
    if e.dmaBusy then .wait .allDma s
    else .done ((s.wr (ENG.STAT_STATE g) 2).raise 0x1302 g [])

/-- TRAP: code B (R189, R203). -/
def jTrap (g w : Nat) (s : State) : JRes := .fault 0x0A (some ((s.eng g).getX (jB w)).toNat) s

/-- Engines of a cluster that wait at a barrier, by index in the cluster, with their masks. -/
def State.atBarrier (s : State) (c id : Nat) : List (Nat × Nat) :=
  (List.range 8).filterMap fun d =>
    match (s.eng (s.runner (8 * c + d))).wait with
    | some (.barrier i m) => if i = id then some (d, m) else none
    | _ => none

/-- A waiting participant leaves the barrier: its BAR completes (R199). -/
def State.barLeave (s : State) (g t : Nat) : State := (s.setEng g ((s.eng g).wake t)).retire g 4 none none

/-- BAR (R199): a mask without the engine, or other than a waiting participant's, or naming a fenced engine that no standby
serves, raises BARRIER in the engine and in every engine that waits on the id; the last arrival releases them all (log 75). -/
def jBar (g t w : Nat) (s : State) : JRes :=
  let id := jImm w % 8
  let c := s.clusterOf g
  let mask := ((s.eng g).getX (jA w)).toNat % 256
  let there := s.atBarrier c id
  let lost := (List.range 8).any fun d => mask.testBit d && (s.rd (CL.STAT_ENGFENCED c)).testBit d && s.runner (8 * c + d) == 8 * c + d
  let bad := !mask.testBit (s.servedBy g % 8) || there.any (fun x => x.2 != mask) || lost
  if bad then .fault 6 (some id) s
  else if (List.range 8).all (fun d => !mask.testBit d || d == s.servedBy g % 8 || there.any fun x => x.1 == d) then
    .done ((there.foldl (fun s x => s.barLeave (s.runner (8 * c + x.1)) t) s).barShow c)
  else .wait (.barrier id mask) s

/-- After a BAR that raised BARRIER every engine that still waits on the id raises it too (R199). -/
def State.barrierAll (s : State) (c id : Nat) : State :=
  (List.range 8).foldl (fun s d =>
    let g := s.runner (8 * c + d)
    if (s.atBarrier c id).any fun x => x.1 == d then s.engExc g 6 (some id) (some (s.fetchWord g (s.engPc g))) false false else s) s

/-! ### CSRs (R179) -/

/-- CSR numbers of type RW, with the bits they hold. -/
def csrMask (n : Nat) : Option Nat :=
  if n = 8 then some 7
  else if 0x20 ≤ n ∧ n < 0x40 then
    match (n - 0x20) % 8 with
    | 0 | 1 | 3 => some (2 ^ 32 - 1)
    | 2 => some (2 ^ 24 - 1)
    | 4 => some 255
    | 5 => some 65535
    | _ => none
  else if n = 0x40 ∨ n = 0x41 then some (2 ^ 32 - 1)
  else none

/-- Engine clocks since start-up, in thousandths (R19, R425). -/
def State.clocks (s : State) : Nat := s.clk0 + (s.now - s.clkAt) * s.rd THM.CLK_MHZ

/-- The value of a CSR, or none where the table has none (R179). -/
def State.csrRead (s : State) (g n : Nat) : Option Nat :=
  let e := s.eng g
  let cyc := (s.clocks - e.cyc0) / 1000
  match n with
  | 0x000 => some ((if 128 ≤ g then 65536 else 0) + 256 * s.clusterOf g + s.servedBy g % 8)
  | 0x002 => some (cyc % 2 ^ 32)
  | 0x003 => some ((e.cycHi.map BitVec.toNat).getD (cyc / 2 ^ 32 % 2 ^ 32))
  | 0x004 => some (s.dev % 2 ^ 32)
  | 0x005 => some ((e.timeHi.map BitVec.toNat).getD (s.dev / 2 ^ 32 % 2 ^ 32))
  | 0x010 => some (match e.loops with
    | l :: _ => l.left
    | [] => 0)
  | _ => if (csrMask n).isSome then some (e.getCsr n).toNat else none

/-- CSRR: a read of a _LO latches its _HI, which the next read of that _HI takes (R9, R179). -/
def jCsrr (g w : Nat) (s : State) : JRes :=
  let n := jImm w
  match s.csrRead g n with
  | none => .fault 1 none s
  | some v =>
    let e := (s.eng g).setX (jD w) (BitVec.ofNat 32 v)
    let cyc := (s.clocks - e.cyc0) / 1000
    .done (s.setEng g (match n with
      | 0x002 => { e with cycHi := some (BitVec.ofNat 32 (cyc / 2 ^ 32)) }
      | 0x003 => { e with cycHi := none }
      | 0x004 => { e with timeHi := some (BitVec.ofNat 32 (s.dev / 2 ^ 32)) }
      | 0x005 => { e with timeHi := none }
      | _ => e))

/-- CSRW (R179). -/
def jCsrw (g w : Nat) (s : State) : JRes :=
  let n := jImm w
  match csrMask n with
  | none => .fault 1 none s
  | some m =>
    let e := s.eng g
    .done (s.setEng g { e with csr := AMap.set e.csr n (e.getX (jA w) &&& BitVec.ofNat 32 m) })

/-! ### DMA (R197) -/

/-- The transfer that a descriptor names. -/
def dmaOf (b : List Nat) : Dma :=
  { src := leAt b 0 8, dst := leAt b 8 8, row := leAt b 16 4, rows := leAt b 20 2, mode := leAt b 22 2,
    sstr := sint 32 (leAt b 24 4), dstr := sint 32 (leAt b 28 4) }

/-- DMAGO: waits for a busy channel, then starts the transfer of the descriptor at X[A]. Both mode bits set raise DMAERR at
the next instruction boundary (R197). -/
def jDmago (g w : Nat) (s : State) : JRes :=
  let ch := jB w
  let a := ((s.eng g).getX (jA w)).toNat
  if AMap.get [] (s.eng g).dma ch ≠ [] then .wait (.dma ch) s
  else if 0x8000 < a + 32 then .fault 3 (some a) s
  else
    match s.engRead g a 32 with
    | .fault c x s1 => .fault c (some x) s1
    | .ok bs s1 =>
      let d := dmaOf bs
      let e := s1.eng g
      if d.mode % 4 = 3 then .done (s1.setEng g { e with dmaErr := some (d.src % 2 ^ 32) })
      else .done (s1.setEng g { e with dma := AMap.set e.dma ch [d] })

/-- DMAWT: waits until the channel is idle (R197). -/
def jDmawt (g w : Nat) (s : State) : JRes :=
  if AMap.get [] (s.eng g).dma (jB w) ≠ [] then .wait (.dma (jB w)) s else .done s

/-- A GDDR7 range lies in a grant of the engine's node whose flags have the bit (R197, R201, R211). -/
def State.granted (s : State) (g a n bit : Nat) : Bool :=
  let e := s.eng g
  let gr := s.graphOf e.gen
  let m := (s.nodeDef e.gen e.node).grants
  e.bound && (List.range gr.grants.length).any fun i =>
    let x := gr.grants.getD i {}
    m.testBit i && x.flags.testBit bit && decide (x.base ≤ a ∧ a + n ≤ x.base + x.len)

/-- Where the grants that hold byte `a` end, or `a` itself (R211). -/
def State.grantEnd (s : State) (g bit a : Nat) : Nat :=
  let e := s.eng g
  let gr := s.graphOf e.gen
  let m := (s.nodeDef e.gen e.node).grants
  (List.range gr.grants.length).foldl (fun n i =>
    let x := gr.grants.getD i {}
    if m.testBit i ∧ x.flags.testBit bit ∧ x.base ≤ a ∧ a < x.base + x.len then max n (x.base + x.len) else n) a

/-- Every byte of a GDDR7 range lies in a grant of the engine (R201, R211). -/
def State.grantedAll (s : State) (g a n bit : Nat) : Bool :=
  (s.eng g).bound && decide (a + n ≤ (List.range ((s.graphOf (s.eng g).gen).grants.length)).foldl (fun x _ => s.grantEnd g bit x) a)

/-- The memory of a byte of a transfer, or none where it may not be addressed. -/
def State.dmaPlace (s : State) (g : Nat) (gddr : Bool) (bit : Nat) (a : Int) : Option (MemId × Nat) :=
  if a < 0 then none
  else if gddr then (if s.granted g a.toNat 1 bit then some (.gddr, a.toNat) else none)
  else s.engMem g a.toNat 1

/-- Copy the `n` bytes of a row, as far as both sides may be addressed; the first byte that may not be stops it (R197, R263). -/
def State.dmaRow (s : State) (g : Nat) (d : Dma) (src dst : Int) (n : Nat) : State × Option Nat :=
  let from_ (i : Nat) := s.dmaPlace g (d.mode % 2 == 1) 0 (src + i)
  let to_ (i : Nat) := s.dmaPlace g (d.mode / 2 % 2 == 1) 1 (dst + i)
  let stop := (List.range n).find? fun i => (from_ i).isNone || (to_ i).isNone
  let s1 := match stop.getD n, from_ 0, to_ 0 with
    | k + 1, some (ms, a), some (md, b) => s.memCopy ms a md b (k + 1)
    | _, _, _ => s
  (s1, stop.map fun i => uwrap 32 (if (from_ i).isNone then src + i else dst + i))

/-- Copy the rows of a transfer. -/
def State.dmaRows (s : State) (g : Nat) (d : Dma) : Nat → Nat → State × Option Nat
  | 0, _ => (s, none)
  | n + 1, r =>
    match s.dmaRow g d ((d.src : Int) + r * d.sstr) ((d.dst : Int) + r * d.dstr) d.row with
    | (s1, some a) => (s1, some a)
    | (s1, none) => s1.dmaRows g d n (r + 1)

/-! ### The instructions -/

/-- A long form: the I-format operation BOP with IMM32 (R183). -/
def jLong (g w : Nat) (s : State) : JRes :=
  let imm := BitVec.ofNat 32 (s.fetchWord g (s.engPc g + 4))
  let op := lBop w
  if op = 0x19 then jJalrAt g (lD w) (lA w) 8 imm s
  else if 0x0A ≤ op then jMem g op (lD w) (lA w) imm s
  else .done (s.setEng g (jImmAlu op (lD w) (lA w) imm (s.eng g)))

/-- BEQ: taken if A = B (R189). -/
def execBeq (g : Fin 132) (t : Nat) (s : State) : Host.Outcome State Fault Refusal := .next (s.issue g t (isOp 0x12) (jBranch g))
/-- BNE: taken if A is not B (R189). -/
def execBne (g : Fin 132) (t : Nat) (s : State) : Host.Outcome State Fault Refusal := .next (s.issue g t (isOp 0x13) (jBranch g))
/-- BLT: taken if A < B signed (R189). -/
def execBlt (g : Fin 132) (t : Nat) (s : State) : Host.Outcome State Fault Refusal := .next (s.issue g t (isOp 0x14) (jBranch g))
/-- BGE: taken if A ≥ B signed (R189). -/
def execBge (g : Fin 132) (t : Nat) (s : State) : Host.Outcome State Fault Refusal := .next (s.issue g t (isOp 0x15) (jBranch g))
/-- BLTU: taken if A < B unsigned (R189). -/
def execBltu (g : Fin 132) (t : Nat) (s : State) : Host.Outcome State Fault Refusal := .next (s.issue g t (isOp 0x16) (jBranch g))
/-- BGEU: taken if A ≥ B unsigned (R189). -/
def execBgeu (g : Fin 132) (t : Nat) (s : State) : Host.Outcome State Fault Refusal := .next (s.issue g t (isOp 0x17) (jBranch g))
/-- JAL (R189). -/
def execJal (g : Fin 132) (t : Nat) (s : State) : Host.Outcome State Fault Refusal := .next (s.issue g t (isOp 0x18) (jJal g))
/-- JALR (R189). -/
def execJalr (g : Fin 132) (t : Nat) (s : State) : Host.Outcome State Fault Refusal := .next (s.issue g t (isOp 0x19) (jJalr g))
/-- LOOP (R198). -/
def execLoop (g : Fin 132) (t : Nat) (s : State) : Host.Outcome State Fault Refusal := .next (s.issue g t (isOp 0x1A) (jLoop g))
/-- HALT (R200). -/
def execHalt (g : Fin 132) (t : Nat) (s : State) : Host.Outcome State Fault Refusal :=
  .next (s.issue g t (isR 0x1B 0x00) fun _ => jHalt g)
/-- FENCE: every earlier access of the engine has completed, one instruction being one step (R194). -/
def execFence (g : Fin 132) (t : Nat) (s : State) : Host.Outcome State Fault Refusal :=
  .next (s.issue g t (isR 0x1B 0x01) fun _ s => .done s)
/-- TRAP (R203). -/
def execTrap (g : Fin 132) (t : Nat) (s : State) : Host.Outcome State Fault Refusal :=
  .next (s.issue g t (isR 0x1B 0x02) (jTrap g))
/-- BAR (R199): a bad mask makes every engine that waits on the id raise BARRIER as well. -/
def execBar (g : Fin 132) (t : Nat) (s : State) : Host.Outcome State Fault Refusal :=
  let s1 := s.issue g t (isOp 0x1C) (jBar g t)
  .next (match (s.eng g).wait, (s1.eng g).wait with
    | none, some _ => s1.barShow (s.clusterOf g)
    | _, _ =>
      if s.rd (ENG.STAT_STATE g) = 1 ∧ s1.rd (ENG.STAT_STATE g) = 3 ∧ s1.rd (ENG.EXC_CAUSE g) = 6 then
        s1.barrierAll (s.clusterOf g) (s1.rd (ENG.EXC_ADDR_ADDR g) % 8)
      else s1)
/-- CSRR (R179). -/
def execCsrr (g : Fin 132) (t : Nat) (s : State) : Host.Outcome State Fault Refusal := .next (s.issue g t (isOp 0x1D) (jCsrr g))
/-- CSRW (R179). -/
def execCsrw (g : Fin 132) (t : Nat) (s : State) : Host.Outcome State Fault Refusal := .next (s.issue g t (isOp 0x1E) (jCsrw g))

/-- An imprecise DMAERR is taken at the instruction boundary (R197, R203). -/
def State.dmaFault (s : State) (g : Nat) : State :=
  match (s.eng g).dmaErr with
  | some a => if s.rd (ENG.STAT_STATE g) = 1 then s.engExc g 7 (some a) none true false else s
  | none => s

/-- DMAGO (R197). -/
def execDmago (g : Fin 132) (t : Nat) (s : State) : Host.Outcome State Fault Refusal :=
  .next ((s.issue g t (isR 0x1F 0x00) (jDmago g)).dmaFault g)
/-- DMAWT (R197). -/
def execDmawt (g : Fin 132) (t : Nat) (s : State) : Host.Outcome State Fault Refusal :=
  .next (s.issue g t (isR 0x1F 0x01) (jDmawt g))
/-- LONG_FORM (R183). -/
def execLongForm (g : Fin 132) (t : Nat) (s : State) : Host.Outcome State Fault Refusal := .next (s.issue g t (isOp 0x3F) (jLong g))

end Sys2Proof.Machine
end

