-- ==== Sys2Proof/Machine/Stream.lean ====
section
/-! DEFINITION. Stream instructions of the engines and the ends of their waits (R195 to R197, R204, R216, R217, R220). -/

namespace Sys2Proof.Machine

/-! ### Ports (R210, R211) -/

/-- The port word of input port `p` of the engine's node, where the port is bound. -/
def State.inPort (s : State) (g p : Nat) : Option GPort :=
  let e := s.eng g
  let w := (s.nodeDef e.gen e.node).si.getD p {}
  if e.bound ∧ w.used then some w else none

/-- The port word of output port `p` of the engine's node, where the port is bound. -/
def State.outPort (s : State) (g p : Nat) : Option GPort :=
  let e := s.eng g
  let w := (s.nodeDef e.gen e.node).so.getD p {}
  if e.bound ∧ w.used then some w else none

/-- The consumer slot of the flue that input port `p` reads. -/
def State.inSlot (s : State) (g p flue : Nat) : Nat :=
  let e := s.eng g
  (s.flueDef e.gen flue).consumer (2 * 4096 + 4 * e.node + p)

/-- Drop an entry of a sparse list. -/
def AMap.del {α : Type} (m : AMap α) (k : Nat) : AMap α := m.filter fun x => x.1 != k

/-- The turns of an ORDERED merge that a rank leaves unused may end when it finishes with an item (R221). -/
def State.outAdvance (s : State) (gen k : Nat) : State :=
  (List.range 4).foldl (fun s p =>
    let q := (s.nodeDef gen k).so.getD p {}
    if q.used ∧ (s.mergeOf gen q.flue).isSome then s.flueAdvance gen q.flue else s) s

/-- The engine finishes with its current item on a port (R217). -/
def State.finishCur (s : State) (g p flue : Nat) : State :=
  let e := s.eng g
  match AMap.get none (e.inCur.map fun x => (x.1, some x.2)) p with
  | none => s
  | some c =>
    ((s.setEng g { e with inCur := AMap.del e.inCur p }).flueFinish e.gen flue c.1 (s.inSlot g p flue, e.rank)).outAdvance e.gen e.node

/-- The next item for the engine on a port, if one is visible (R217, R220). -/
def State.nextItem (s : State) (g p flue : Nat) : Option Item :=
  let e := s.eng g
  ((s.flue e.gen flue).waiting (s.inSlot g p flue) e.rank).find? fun x => (AMap.get (x.seq + 1, 0) e.inCur p).1 != x.seq

/-- Make an item the current one of a port. -/
def State.takeItem (s : State) (g p flue : Nat) (x : Item) : State :=
  let e := s.eng g
  (s.setEng g { e with inCur := AMap.set e.inCur p (x.seq, 0) }).flueTake e.gen flue x.seq (s.inSlot g p flue) e.rank

/-- SLEN (R195, R217): the previous item is finished with; it waits until a whole item is present. -/
def jSlen (g t w : Nat) (s : State) : JRes :=
  let p := jB w
  match s.inPort g p with
  | none => .fault 4 (some p) s
  | some q =>
    let s1 := (s.flueCatch (s.eng g).gen q.flue).finishCur g p q.flue
    match s1.nextItem g p q.flue with
    | none => .wait (.item p) s1
    | some x =>
      let s2 := s1.takeItem g p q.flue x
      .done (s2.setEng g (((s2.eng g).setX (jD w) (BitVec.ofNat 32 x.len)).kick t))

/-- The data address an engine reports for a byte of a flue. -/
def flueAddr (m : MemId) (a : Nat) : Nat :=
  match m with
  | .sram _ => (a + 0x100000) % 2 ^ 32
  | _ => a % 2 ^ 32

/-- Read the next `n` bytes of the current item of port `p`: bytes beyond its end read 0 and consume nothing (R195). -/
def State.streamRead (s : State) (g p n : Nat) : MRes :=
  match s.inPort g p with
  | none => .fault 4 p s
  | some q =>
    let e := s.eng g
    match AMap.get none (e.inCur.map fun x => (x.1, some x.2)) p with
    | none => .fault 4 p s
    | some (seq, pos) =>
      let d := s.flueDef e.gen q.flue
      let k := min n (((s.flue e.gen q.flue).item seq).len - pos)
      let a := d.slot seq + 8 + pos
      let r := s.memRead d.mem a k
      if r.2.1 then .fault 8 (flueAddr d.mem a) r.2.2
      else .ok (r.1 ++ List.replicate (n - k) 0) (r.2.2.setEng g { e with inCur := AMap.set e.inCur p (seq, pos + k) })

/-- SRDW (R195). -/
def jSrdw (g w : Nat) (s : State) : JRes :=
  match s.streamRead g (jB w) 4 with
  | .fault c a s1 => .fault c (some a) s1
  | .ok bs s1 => .done (s1.setEng g ((s1.eng g).setX (jD w) (BitVec.ofNat 32 (leNat bs))))

/-- SAVAIL: whole items waiting behind the current one (R195). -/
def jSavail (g w : Nat) (s0 : State) : JRes :=
  let p := jB w
  match s0.inPort g p with
  | none => .fault 4 (some p) s0
  | some q =>
    let s := s0.flueCatch (s0.eng g).gen q.flue
    let e := s.eng g
    let n := (((s.flue e.gen q.flue).waiting (s.inSlot g p q.flue) e.rank).filter
      fun x => (AMap.get (x.seq + 1, 0) e.inCur p).1 != x.seq).length
    .done (s.setEng g (e.setX (jD w) (BitVec.ofNat 32 n)))

/-- SBEG (R196, R216): the length, an open item and the slot size are checked; it waits for a credit. -/
def jSbeg (g w : Nat) (s : State) : JRes :=
  let p := jB w
  let e := s.eng g
  let n := (e.getX (jA w)).toNat
  match s.outPort g p with
  | none => .fault 4 (some (4 + p)) s
  | some q =>
    if n = 0 ∨ 65536 < n ∨ e.outCur.any (fun o => o.1 == p) ∨ (s.flueDef e.gen q.flue).bytes < n + 8 then .fault 4 (some (4 + p)) s
    else if s.flueCredit e.gen q.flue = false then .wait (.credit p) s
    else
      let seq := (s.flue e.gen q.flue).claimed
      .done ((s.setEng g { e with outCur := AMap.set e.outCur p seq }).flueClaim e.gen q.flue n e.rank)

/-- Append bytes to the open item of port `p`: STREAM without one or past its length (R196). -/
def State.streamWrite (s : State) (g p : Nat) (bs : List Nat) : JRes :=
  let e := s.eng g
  match s.outPort g p, AMap.get none (e.outCur.map fun x => (x.1, some x.2)) p with
  | some q, some seq =>
    let x := (s.flue e.gen q.flue).item seq
    if x.len < x.wr + bs.length then .fault 4 (some (4 + p)) s else .done (s.flueAppend e.gen q.flue seq bs)
  | _, _ => .fault 4 (some (4 + p)) s

/-- SWRW (R196). -/
def jSwrw (g w : Nat) (s : State) : JRes := s.streamWrite g (jB w) (leBytes 4 ((s.eng g).getX (jA w)).toNat)

/-- SEND (R196). -/
def jSend (g t w : Nat) (s : State) : JRes :=
  let p := jB w
  let e := s.eng g
  match s.outPort g p, AMap.get none (e.outCur.map fun x => (x.1, some x.2)) p with
  | some q, some seq =>
    .done ((s.setEng g ({ e with outCur := AMap.del e.outCur p }.kick t)).flueClose e.gen q.flue seq)
  | _, _ => .fault 4 (some (4 + p)) s

/-- The bytes of a vector, lane 0 first, little-endian (R176). -/
def vecBytes (v : Vec) : List Nat := v.toList.flatMap fun l => leBytes 2 l.toNat

/-- The vector that 64 bytes spell (R176). -/
def bytesVec (bs : List Nat) : Vec :=
  Vector.ofFn fun i : Fin 32 => BitVec.ofNat 16 (bs.getD (2 * i.val) 0 + 256 * bs.getD (2 * i.val + 1) 0)

/-- VSRD (R195). -/
def jVsrd (g w : Nat) (s : State) : JRes :=
  match s.streamRead g (jB w) 64 with
  | .fault c a s1 => .fault c (some a) s1
  | .ok bs s1 => .done (s1.setEng g ((s1.eng g).setV (jD w) (bytesVec bs)))

/-- VSWR (R196). -/
def jVswr (g w : Nat) (s : State) : JRes := s.streamWrite g (jB w) (vecBytes ((s.eng g).getV (jD w)))

/-! ### Rows -/

/-- SRDW (R195). -/
def execSrdw (g : Fin 132) (t : Nat) (s : State) : Host.Outcome State Fault Refusal := .next (s.issue g t (isR 0x20 0x01) (jSrdw g))
/-- SBEG (R196). -/
def execSbeg (g : Fin 132) (t : Nat) (s : State) : Host.Outcome State Fault Refusal := .next (s.issue g t (isR 0x20 0x02) (jSbeg g))
/-- SWRW (R196). -/
def execSwrw (g : Fin 132) (t : Nat) (s : State) : Host.Outcome State Fault Refusal := .next (s.issue g t (isR 0x20 0x03) (jSwrw g))
/-- SAVAIL (R195). -/
def execSavail (g : Fin 132) (t : Nat) (s : State) : Host.Outcome State Fault Refusal :=
  .next (s.issue g t (isR 0x20 0x05) (jSavail g))
/-- VSRD (R195). -/
def execVsrd (g : Fin 132) (t : Nat) (s : State) : Host.Outcome State Fault Refusal := .next (s.issue g t (isR 0x38 0x00) (jVsrd g))
/-- VSWR (R196). -/
def execVswr (g : Fin 132) (t : Nat) (s : State) : Host.Outcome State Fault Refusal := .next (s.issue g t (isR 0x39 0x00) (jVswr g))

/-- The waiting instruction of an engine runs again; where it would still wait nothing changes. -/
def State.resume (s : State) (g t : Nat) (mine : Nat → Bool) (act : Nat → State → JRes) : State :=
  let s1 := (s.setEng g ((s.eng g).wake t)).issue g t mine act
  if (s1.eng g).wait.isSome then s else s1

/-- Row DMA_TRANSFER_DONE: the transfer of a channel takes effect and the channel is idle, or it stops with DMAERR; a waiting
DMAGO, DMAWT or HALT goes on, and a DMAGO that goes on may raise DMAERR itself (R197, R200, R203). -/
def execDmaTransferDone (g : Fin 132) (ch : Fin 4) (t : Nat) (s : State) : Host.Outcome State Fault Refusal :=
  .next (match AMap.get [] (s.eng g).dma ch with
    | [] => s
    | d :: _ =>
      let r := (s.at t).dmaRows g d d.rows 0
      let e := r.1.eng g
      let s1 := r.1.setEng g { e with dma := AMap.del e.dma ch, dmaErr := r.2.orElse fun _ => e.dmaErr }
      match r.2, e.wait with
      | some _, _ => s1.dmaFault g
      | none, some (.dma c) =>
        if c = ch.val then
          (s1.resume g t (fun w => isR 0x1F 0x00 w || isR 0x1F 0x01 w)
            (fun w s => if jFn w = 0 then jDmago g w s else jDmawt g w s)).dmaFault g
        else s1
      | none, some .allDma => s1.resume g t (isR 0x1B 0x00) (fun _ => jHalt g)
      | none, _ => s1)

/-- Row WATCHDOG: LIMIT µs without a completed SLEN or SEND (R204). -/
def execWatchdog (g : Fin 132) (t : Nat) (s : State) : Host.Outcome State Fault Refusal :=
  let e := s.eng g
  .next (if s.rd (ENG.STAT_STATE g) = 1 ∧ e.wdLim ≠ 0 ∧ e.wdLim * 1000 ≤ e.wdCount t ∧ s.now ≤ t then
      (s.at t).engExc g 9 none none true false
    else s)

/-- ENG_INJ.ILLEGAL: the next instruction is treated as illegal (R207). -/
def execEngInjIllegal (g : Fin 132) (s : State) : Host.Outcome State Fault Refusal :=
  .next (if s.injLocked then s else (s.setEng g { s.eng g with injIll := true }))
/-- ENG_INJ.WDOG: the watchdog expires now (R207). -/
def execEngInjWdog (g : Fin 132) (s : State) : Host.Outcome State Fault Refusal :=
  .next (if s.rd (ENG.STAT_STATE g) = 1 ∧ s.injLocked = false then s.engExc g 9 none none true false else s)
/-- ENG_INJ.DMEM_ECC: the next DMEM read is uncorrectable (R207). -/
def execEngInjDmemEcc (g : Fin 132) (s : State) : Host.Outcome State Fault Refusal :=
  .next (if s.injLocked then s else (s.setEng g { s.eng g with injDmem := true }))
/-- ENG_INJ.IMEM_ECC: the next IMEM fetch is uncorrectable (R207). -/
def execEngInjImemEcc (g : Fin 132) (s : State) : Host.Outcome State Fault Refusal :=
  .next (if s.injLocked then s else (s.setEng g { s.eng g with injImem := true }))

end Sys2Proof.Machine
end

