-- ==== Sys2Proof/Machine/Vector.lean ====
section
/-! DEFINITION. Vector, predicate and accumulator instructions of the engines, vector loads and stores, and the sampler
(R184 to R193, R201, R202). -/

namespace Sys2Proof.Machine

/-! ### Lanes (R176, R186) -/

/-- A vector given lane by lane. -/
def lanesOf (f : Nat → BitVec 16) : Vec := Vector.ofFn fun i : Fin 32 => f i

/-- Lane `i` of a vector. -/
def lane (v : Vec) (i : Nat) : BitVec 16 := v.toList.getD i 0

/-- Lane `i` is active under predicate register `p`. -/
def Engine.on (e : Engine) (p i : Nat) : Bool := (e.getP p).getLsbD i

/-- The active lanes under predicate register `p`, in order. -/
def Engine.active (e : Engine) (p : Nat) : List Nat := (List.range 32).filter (e.on p)

/-- Write the active lanes of Vd; an inactive lane keeps its value, or with Z is written 0 (R186). -/
def Engine.setLanes (e : Engine) (d p z : Nat) (f : Nat → BitVec 16) : Engine :=
  let old := e.getV d
  e.setV d (lanesOf fun i => if e.on p i then f i else if z = 1 then 0 else lane old i)

/-- Write the active lanes with a value and a mark that the lane clamped; VSAT collects the marks (R187). -/
def Engine.setSat (e : Engine) (d p z : Nat) (f : Nat → BitVec 16 × Bool) : Engine :=
  (e.setLanes d p z fun i => (f i).1).flag 0 ((e.active p).any fun i => (f i).2)

/-- A word of 32 bits given bit by bit. -/
def bitsFrom (f : Nat → Bool) : Word := BitVec.ofNat 32 ((List.range 32).foldl (fun n i => if f i then n + 2 ^ i else n) 0)

/-! ### OP 0x28, 0x29 and 0x2A (R189) -/

/-- The result of a lane operation; VSEL takes every lane, `a` where the predicate is 1 and `b` elsewhere. -/
def jVAlu (w : Nat) (b : Nat → BitVec 16) (e : Engine) : Engine :=
  let a := e.getV (jA w)
  if jFn w = 0x16 then e.setV (jD w) (lanesOf fun i => (laneAlu 0x16 (lane a i) (b i) (e.on (jPr w) i)).1)
  else e.setSat (jD w) (jPr w) (jZ w) fun i => laneAlu (jFn w) (lane a i) (b i) false

/-- OP 0x28: B is a vector. -/
def jVec (w : Nat) (e : Engine) : Engine := jVAlu w (lane (e.getV (jB w))) e

/-- The low half of X[B] in every lane. -/
def Engine.half (e : Engine) (r : Nat) : BitVec 16 := BitVec.ofNat 16 (e.getX r).toNat

/-- OP 0x29: b is X[B] bits [15:0] in every lane. -/
def jValui (w : Nat) (e : Engine) : Engine := jVAlu w (fun _ => e.half (jB w)) e

/-- VSHI. -/
def jVshi (w : Nat) (e : Engine) : Engine :=
  let a := e.getV (jA w)
  e.setSat (jD w) (viPr w) (viZ w) fun i => laneShi (bitsOf w 10 2) (bitsOf w 8 2) (bitsOf w 0 4) (lane a i)

/-! ### Compares and OP 0x2C to 0x2E (R189, R190) -/

/-- VCMP: the active lanes of Pd; the forms from 0x08 compare with X[B] bits [15:0]. -/
def jVcmp (w : Nat) (e : Engine) : Engine :=
  let a := e.getV (jA w)
  let b := e.getV (jB w)
  let old := e.getP (jD w)
  e.setP (jD w) (bitsFrom fun i =>
    if e.on (jPr w) i then laneCmp (jFn w) (lane a i) (if jFn w < 8 then lane b i else e.half (jB w))
    else if jZ w = 1 then false else old.getLsbD i)

/-- VSPLAT. -/
def jVsplat (w : Nat) (e : Engine) : Engine := e.setLanes (jD w) (jPr w) (jZ w) fun _ => e.half (jA w)

/-- VEXT. -/
def jVext (w : Nat) (e : Engine) : Engine :=
  e.setX (jD w) (BitVec.ofNat 32 (lane (e.getV (jA w)) ((e.getX (jB w)).toNat % 32)).toNat)

/-- VINS: the other active lanes keep their values. -/
def jVins (w : Nat) (e : Engine) : Engine :=
  let k := (e.getX (jB w)).toNat % 32
  let old := e.getV (jD w)
  e.setLanes (jD w) (jPr w) (jZ w) fun i => if i = k then e.half (jA w) else lane old i

/-- VPERM. -/
def jVperm (w : Nat) (e : Engine) : Engine :=
  let a := e.getV (jA w)
  let b := e.getV (jB w)
  e.setLanes (jD w) (jPr w) (jZ w) fun i => lane a ((lane b i).toNat % 32)

/-- VIDX. -/
def jVidx (w : Nat) (e : Engine) : Engine := e.setLanes (jD w) (jPr w) (jZ w) fun i => BitVec.ofNat 16 i

/-- Byte `k` of VPACKB. -/
def packByte (a b : Vec) (k : Nat) : Nat := min (if k < 32 then lane a k else lane b (k - 32)).toNat 255

/-- VPACKB. -/
def jVpackb (w : Nat) (e : Engine) : Engine :=
  let a := e.getV (jA w)
  let b := e.getV (jB w)
  e.setLanes (jD w) (jPr w) (jZ w) fun i => BitVec.ofNat 16 (packByte a b (2 * i) + 256 * packByte a b (2 * i + 1))

/-- VUNPKL and VUNPKH: byte i, or byte 32 + i, of A. -/
def jVunpk (w : Nat) (e : Engine) : Engine :=
  let bs := vecBytes (e.getV (jA w))
  e.setLanes (jD w) (jPr w) (jZ w) fun i => BitVec.ofNat 16 (bs.getD (i + 32 * (jFn w - 6)) 0)

/-- The reductions over active lanes. -/
def jVred (w : Nat) (e : Engine) : Engine :=
  let a := e.getV (jA w)
  let ls := (e.active (jPr w)).map (lane a)
  e.setX (jD w) (match jFn w with
    | 0x08 => BitVec.ofInt 32 (ls.foldl (fun n x => n + x.toInt) 0)
    | 0x09 => BitVec.ofNat 32 (ls.foldl (fun n x => n + x.toNat) 0)
    | 0x0A => BitVec.ofNat 32 (ls.foldl (fun n x => max n x.toNat) 0)
    | _ => BitVec.ofNat 32 (ls.foldl (fun n x => min n x.toNat) 65535))

/-- VMOV. -/
def jVmov (w : Nat) (e : Engine) : Engine :=
  let a := e.getV (jA w)
  e.setLanes (jD w) (jPr w) (jZ w) (lane a)

/-- VSLDI: lane i + n of the 64 lanes of A then B. -/
def jVsldi (w : Nat) (e : Engine) : Engine :=
  let a := e.getV (jA w)
  let b := e.getV (bitsOf w 5 5)
  e.setLanes (jD w) (viPr w) (viZ w) fun i =>
    let k := i + bitsOf w 0 5
    if k < 32 then lane a k else lane b (k - 32)

/-- OP 0x2E. -/
def jPalu (w : Nat) (e : Engine) : Engine :=
  let a := e.getP (jA w)
  let b := e.getP (jB w)
  match jFn w with
  | 0x00 => e.setP (jD w) (a &&& b)
  | 0x01 => e.setP (jD w) (a ||| b)
  | 0x02 => e.setP (jD w) (a ^^^ b)
  | 0x03 => e.setP (jD w) (a &&& ~~~b)
  | 0x04 => e.setP (jD w) (~~~a)
  | 0x05 => e.setP (jD w) (e.getX (jA w))
  | 0x06 => e.setX (jD w) a
  | _ => e.setP (jD w) (bitsFrom fun i => decide (i < (e.getX (jA w)).toNat))

/-! ### Accumulators (R187, R188) -/

/-- Lane `i` of an accumulator. -/
def accLane (v : Vector (BitVec 40) 32) (i : Nat) : BitVec 40 := v.toList.getD i 0

/-- OP 0x30: the active lanes of Ad; ASAT collects clamps. -/
def jMac (w : Nat) (e : Engine) : Engine :=
  let a := e.getV (jA w)
  let b := e.getV (jB w)
  let old := e.getA (jD w)
  let f (i : Nat) := laneMac (jFn w) (accLane old i) (lane a i) (lane b i)
  (e.setA (jD w) (Vector.ofFn fun i : Fin 32 =>
    if e.on (jPr w) i then (f i).1 else if jZ w = 1 then 0 else accLane old i)).flag 1 ((e.active (jPr w)).any fun i => (f i).2)

/-- VACC. -/
def jVacc (w : Nat) (e : Engine) : Engine :=
  let acc := e.getA (jA w)
  e.setSat (jD w) (viPr w) (viZ w) fun i => laneAcc (bitsOf w 10 2) (bitsOf w 8 2) (bitsOf w 0 6) (accLane acc i)

/-! ### Vector loads and stores (R186, R192, R193) -/

/-- Read halfwords under their code; the first uncorrectable one stops. -/
def State.touch (s : State) (m : MemId) (n : Nat) : List Nat → State × Option Nat
  | [] => (s, none)
  | x :: xs => let r := s.memRead m x n; if r.2.1 then (r.2.2, some x) else r.2.2.touch m n xs

/-- Read a range of `n` bytes at `a` of which only the lanes at offsets `offs` are accessed. -/
def State.engReadLanes (s : State) (g a n : Nat) (offs : List Nat) : MRes :=
  match s.engMem g a n with
  | none => .fault 3 a s
  | some (m, x) =>
    match s.touch m 2 (offs.map (x + ·)) with
    | (s1, some y) => .fault 8 (a + y - x) s1
    | (s1, none) => .ok (s1.dmaView g a (s1.memBytes m x n)) (if (s1.eng g).dmaBusy then s1.used else s1)

/-- The address of VLD and VST. -/
def vAddr (w : Nat) (e : Engine) : Nat := (e.getX (jA w) + BitVec.ofInt 32 (2 * sint 12 (jImm12 w))).toNat

/-- VLD: with no active lane nothing is checked and nothing is read (R186). -/
def jVld (g w : Nat) (s : State) : JRes :=
  let e := s.eng g
  let ls := e.active (viPr w)
  let ea := vAddr w e
  if ls = [] then .done (s.setEng g (e.setLanes (jD w) (viPr w) (viZ w) fun _ => 0))
  else if ea % 2 = 1 then .fault 2 (some ea) s
  else
    match s.engReadLanes g ea 64 (ls.map (2 * ·)) with
    | .fault c x s1 => .fault c (some x) s1
    | .ok bs s1 =>
      let v := bytesVec bs
      .done (s1.setEng g ((s1.eng g).setLanes (jD w) (viPr w) (viZ w) (lane v)))

/-- The words of a store of `n` bytes at each of `starts` that it does not replace whole. -/
def partWords (starts : List Nat) : List Nat :=
  (starts.map (· / 8 * 8)).eraseDups.filter fun k => !((List.range 4).all fun j => starts.any fun x => x == k + 2 * j)

/-- Runs of consecutive lanes, lowest first: the first lane of each and how many. -/
def laneRuns : List Nat → List (Nat × Nat)
  | [] => []
  | x :: xs =>
    match laneRuns xs with
    | (y, n) :: rest => if x + 1 = y then (x, n + 1) :: rest else (x, 1) :: (y, n) :: rest
    | [] => [(x, 1)]

/-- VST: stores of fewer than 64 bits into an uncorrectable word raise MEMERR (R192, R263). -/
def jVst (g w : Nat) (s : State) : JRes :=
  let e := s.eng g
  let ls := e.active (viPr w)
  let ea := vAddr w e
  if ls = [] then .done s
  else if ea % 2 = 1 then .fault 2 (some ea) s
  else
    match s.engMem g ea 64 with
    | none => .fault 3 (some ea) s
    | some (m, x) =>
      match s.touch m 8 (partWords (ls.map (x + 2 * ·))) with
      | (s1, some _) => .fault 8 (some ea) s1
      | (s1, none) =>
        let bs := vecBytes (e.getV (jD w))
        .done ((laneRuns ls).foldl (fun s r => s.memWrite m (x + 2 * r.1) ((bs.drop (2 * r.1)).take (2 * r.2))) s1)

/-- The active lanes of VGATH and VSCAT with their addresses. -/
def gathAddrs (w : Nat) (e : Engine) : List (Nat × Nat) :=
  let b := e.getV (jB w)
  (e.active (jPr w)).map fun i => (i, (e.getX (jA w) + BitVec.ofNat 32 (2 * (lane b i).toNat)).toNat)

/-- Alignment and place of the lanes of VGATH and VSCAT: DMEM only (R192). -/
def gathFault (ls : List (Nat × Nat)) : Option (Nat × Nat) :=
  match ls.find? (fun x => x.2 % 2 == 1), ls.find? (fun x => decide (0x8000 < x.2 + 2)) with
  | some x, _ => some (2, x.2)
  | none, some x => some (3, x.2)
  | none, none => none

/-- VGATH. -/
def jVgath (g w : Nat) (s : State) : JRes :=
  let e := s.eng g
  let ls := gathAddrs w e
  match gathFault ls with
  | some (c, a) => .fault c (some a) s
  | none =>
    if ls = [] then .done (s.setEng g (e.setLanes (jD w) (jPr w) (jZ w) fun _ => 0))
    else
      match s.engReadLanes g 0 0x8000 (ls.map (·.2)) with
      | .fault c x s1 => .fault c (some x) s1
      | .ok bs s1 =>
        .done (s1.setEng g ((s1.eng g).setLanes (jD w) (jPr w) (jZ w) fun i =>
          match ls.find? (fun x => x.1 == i) with
          | some x => BitVec.ofNat 16 (bs.getD x.2 0 + 256 * bs.getD (x.2 + 1) 0)
          | none => 0))

/-- VSCAT: lanes in rising order, so that the highest-numbered lane's value stays (R193). -/
def jVscat (g w : Nat) (s : State) : JRes :=
  let e := s.eng g
  let ls := gathAddrs w e
  match gathFault ls with
  | some (c, a) => .fault c (some a) s
  | none =>
    match s.touch (.dmem g) 2 (ls.map (·.2)) with
    | (s1, some x) => .fault 8 (some x) s1
    | (s1, none) =>
      let v := e.getV (jD w)
      .done (ls.foldl (fun s x => s.memWrite (.dmem g) x.2 (leBytes 2 (lane v x.1).toNat)) s1)

/-! ### The sampler (R201) -/

/-- Sample (u, v) of surface `n`: the border value, or the address of its first byte (steps 3 and 4). With no sample in the
surface the border mode 0 names none; the value is free (log 2). -/
def State.smpPlace (s : State) (e : Engine) (n : Nat) (u v : Int) : Nat ⊕ Int :=
  let c (k : Nat) : Nat := (e.getCsr (0x20 + 8 * n + k)).toNat
  let fmt := c 4
  let wd : Int := c 3 % 65536
  let ht : Int := c 3 / 65536
  let inside := decide (0 ≤ u ∧ u < wd ∧ 0 ≤ v ∧ v < ht)
  if !inside ∧ fmt.testBit 6 then .inl (c 5 % 65536)
  else if !inside ∧ (wd = 0 ∨ ht = 0) then .inl (s.free 16)
  else
    let u := clamp 0 (wd - 1) u
    let v := clamp 0 (ht - 1) v
    let xs : Int := if fmt.testBit 2 then 2 else 1
    let ys : Int := if fmt.testBit 3 then 2 else 1
    let xp : Int := if fmt.testBit 4 then 1 else 0
    let yp : Int := if fmt.testBit 5 then 1 else 0
    let sb : Int := if fmt.testBit 0 then 2 else 1
    .inr ((c 0 + 2 ^ 32 * c 1 : Nat) + (v * ys + yp) * (c 2 % 2 ^ 24 : Nat) + (u * xs + xp) * sb)

/-- The four weighted samples of a lane (steps 1, 2 and 5). -/
def smpTaps (e : Engine) (x y : BitVec 16) : List (Nat × Int × Int) :=
  let sx := (e.getCsr 0x40).toInt * 32 + x.toInt
  let sy := (e.getCsr 0x41).toInt * 32 + y.toInt
  let fx := (sx % 32).toNat
  let fy := (sy % 32).toNat
  let u := sx / 32
  let v := sy / 32
  [((32 - fx) * (32 - fy), u, v), (fx * (32 - fy), u + 1, v), ((32 - fx) * fy, u, v + 1), (fx * fy, u + 1, v + 1)]

/-- The bytes that the samples of surface `n` occupy: the first address and the end (R201, step 3). -/
def smpSpan (e : Engine) (n : Nat) : Nat × Nat :=
  let c (k : Nat) : Nat := (e.getCsr (0x20 + 8 * n + k)).toNat
  let fmt := c 4
  let two (b : Nat) : Nat := if fmt.testBit b then 2 else 1
  let one (b : Nat) : Nat := if fmt.testBit b then 1 else 0
  let base := c 0 + 2 ^ 32 * c 1
  let pitch := c 2 % 2 ^ 24
  let last (k : Nat) : Nat := k - 1
  (base + one 5 * pitch + one 4 * two 0,
    base + (last (c 3 / 65536) * two 3 + one 5) * pitch + (last (c 3 % 65536) * two 2 + one 4) * two 0 + two 0)

/-- The surface has samples, in GDDR7 and not all in the ranges that the graph grants the engine (R201). -/
def State.smpOutside (s : State) (g n : Nat) : Bool :=
  let e := s.eng g
  let d := (e.getCsr (0x23 + 8 * n)).toNat
  let x := smpSpan e n
  (e.getCsr (0x24 + 8 * n)).toNat.testBit 1 && d % 65536 != 0 && d / 65536 != 0 && !(s.grantedAll g x.1 (x.2 - x.1) 2)

/-- The memory of a sample. -/
def State.smpMem (s : State) (g : Nat) (gddr : Bool) (a : Int) (n : Nat) : Option (MemId × Nat) :=
  if a < 0 then none else if gddr then some (.gddr, a.toNat) else s.engMem g a.toNat n

/-- Read samples one by one under their codes. -/
def State.smpTouch (s : State) (n : Nat) : List (MemId × Nat) → State × Option (MemId × Nat)
  | [] => (s, none)
  | x :: xs => let r := s.memRead x.1 x.2 n; if r.2.1 then (r.2.2, some x) else r.2.2.smpTouch n xs

/-- SMP (R201): SMPERR on a surface that is not valid or a GDDR7 surface outside the grants; DACCESS on an engine-space sample
outside the memories; MEMERR on an uncorrectable word. -/
def jSmp (g w : Nat) (s : State) : JRes :=
  let e := s.eng g
  let n := jFn w % 4
  let fmt := (e.getCsr (0x24 + 8 * n)).toNat
  let gddr := fmt.testBit 1
  let sz := if fmt.testBit 0 then 2 else 1
  let a := e.getV (jA w)
  let b := e.getV (jB w)
  if fmt.testBit 7 = false ∨ s.smpOutside g n then .fault 0x0B (some n) s
  else
    let taps := (e.active (jPr w)).flatMap fun i => smpTaps e (lane a i) (lane b i)
    let refs := taps.filterMap fun t => (s.smpPlace e n t.2.1 t.2.2).getRight?
    match refs.find? (fun x => (s.smpMem g gddr x sz).isNone) with
    | some x => .fault 3 (some (uwrap 32 x)) s
    | none =>
      match s.smpTouch sz (refs.filterMap fun x => s.smpMem g gddr x sz) with
      | (s1, some x) => .fault 8 (some (flueAddr x.1 x.2)) s1
      | (s1, none) =>
        let sample (t : Nat × Int × Int) : Nat :=
          match s1.smpPlace e n t.2.1 t.2.2 with
          | .inl k => k
          | .inr x =>
            match s1.smpMem g gddr x sz with
            | some (m, y) => leNat (if gddr then s1.memBytes m y sz else s1.dmaView g x.toNat (s1.memBytes m y sz))
            | none => 0
        let value (i : Nat) : BitVec 16 :=
          BitVec.ofNat 16 (((smpTaps e (lane a i) (lane b i)).foldl (fun n t => n + t.1 * sample t) 512) / 1024)
        .done (s1.used.setEng g ((s1.eng g).setLanes (jD w) (jPr w) (jZ w) value))

/-! ### The instructions -/

/-- VADD: (a + b) mod 2^16 (R189). -/
def execVadd (g : Fin 132) (t : Nat) (s : State) : Host.Outcome State Fault Refusal :=
  .next (s.issueReg g t (isR 0x28 0x00) jVec)

/-- VSUB: (a - b) mod 2^16 (R189). -/
def execVsub (g : Fin 132) (t : Nat) (s : State) : Host.Outcome State Fault Refusal :=
  .next (s.issueReg g t (isR 0x28 0x01) jVec)

/-- VADDS_S: sat_s16(a + b) (R189). -/
def execVaddsS (g : Fin 132) (t : Nat) (s : State) : Host.Outcome State Fault Refusal :=
  .next (s.issueReg g t (isR 0x28 0x02) jVec)

/-- VADDS_U: sat_u16(a + b) (R189). -/
def execVaddsU (g : Fin 132) (t : Nat) (s : State) : Host.Outcome State Fault Refusal :=
  .next (s.issueReg g t (isR 0x28 0x03) jVec)

/-- VSUBS_S: sat_s16(a - b) (R189). -/
def execVsubsS (g : Fin 132) (t : Nat) (s : State) : Host.Outcome State Fault Refusal :=
  .next (s.issueReg g t (isR 0x28 0x04) jVec)

/-- VSUBS_U: sat_u16(a - b) (R189). -/
def execVsubsU (g : Fin 132) (t : Nat) (s : State) : Host.Outcome State Fault Refusal :=
  .next (s.issueReg g t (isR 0x28 0x05) jVec)

/-- VAND: a and b (R189). -/
def execVand (g : Fin 132) (t : Nat) (s : State) : Host.Outcome State Fault Refusal :=
  .next (s.issueReg g t (isR 0x28 0x06) jVec)

/-- VOR: a or b (R189). -/
def execVor (g : Fin 132) (t : Nat) (s : State) : Host.Outcome State Fault Refusal :=
  .next (s.issueReg g t (isR 0x28 0x07) jVec)

/-- VXOR: a xor b (R189). -/
def execVxor (g : Fin 132) (t : Nat) (s : State) : Host.Outcome State Fault Refusal :=
  .next (s.issueReg g t (isR 0x28 0x08) jVec)

/-- VMIN_S: signed minimum (R189). -/
def execVminS (g : Fin 132) (t : Nat) (s : State) : Host.Outcome State Fault Refusal :=
  .next (s.issueReg g t (isR 0x28 0x09) jVec)

/-- VMIN_U: unsigned minimum (R189). -/
def execVminU (g : Fin 132) (t : Nat) (s : State) : Host.Outcome State Fault Refusal :=
  .next (s.issueReg g t (isR 0x28 0x0A) jVec)

/-- VMAX_S: signed maximum (R189). -/
def execVmaxS (g : Fin 132) (t : Nat) (s : State) : Host.Outcome State Fault Refusal :=
  .next (s.issueReg g t (isR 0x28 0x0B) jVec)

/-- VMAX_U: unsigned maximum (R189). -/
def execVmaxU (g : Fin 132) (t : Nat) (s : State) : Host.Outcome State Fault Refusal :=
  .next (s.issueReg g t (isR 0x28 0x0C) jVec)

/-- VABSD_U: |ua - ub| (R189). -/
def execVabsdU (g : Fin 132) (t : Nat) (s : State) : Host.Outcome State Fault Refusal :=
  .next (s.issueReg g t (isR 0x28 0x0D) jVec)

/-- VAVG_U: (ua + ub + 1) >> 1 (R189). -/
def execVavgU (g : Fin 132) (t : Nat) (s : State) : Host.Outcome State Fault Refusal :=
  .next (s.issueReg g t (isR 0x28 0x0E) jVec)

/-- VMUL: (a × b) mod 2^16 (R189). -/
def execVmul (g : Fin 132) (t : Nat) (s : State) : Host.Outcome State Fault Refusal :=
  .next (s.issueReg g t (isR 0x28 0x0F) jVec)

/-- VMULH_S: high half of the signed product (R189). -/
def execVmulhS (g : Fin 132) (t : Nat) (s : State) : Host.Outcome State Fault Refusal :=
  .next (s.issueReg g t (isR 0x28 0x10) jVec)

/-- VMULH_U: high half of the unsigned product (R189). -/
def execVmulhU (g : Fin 132) (t : Nat) (s : State) : Host.Outcome State Fault Refusal :=
  .next (s.issueReg g t (isR 0x28 0x11) jVec)

/-- VMULQ: sat_s16((sa × sb + 2^14) >> 15) (R189). -/
def execVmulq (g : Fin 132) (t : Nat) (s : State) : Host.Outcome State Fault Refusal :=
  .next (s.issueReg g t (isR 0x28 0x12) jVec)

/-- VSHL: a shifted left by b & 31 (R189). -/
def execVshl (g : Fin 132) (t : Nat) (s : State) : Host.Outcome State Fault Refusal :=
  .next (s.issueReg g t (isR 0x28 0x13) jVec)

/-- VSHR_U: a shifted right by b & 31, zero fill (R189). -/
def execVshrU (g : Fin 132) (t : Nat) (s : State) : Host.Outcome State Fault Refusal :=
  .next (s.issueReg g t (isR 0x28 0x14) jVec)

/-- VSHR_S: a shifted right by b & 31, sign fill (R189). -/
def execVshrS (g : Fin 132) (t : Nat) (s : State) : Host.Outcome State Fault Refusal :=
  .next (s.issueReg g t (isR 0x28 0x15) jVec)

/-- VSEL: a where the predicate is 1, else b (R189). -/
def execVsel (g : Fin 132) (t : Nat) (s : State) : Host.Outcome State Fault Refusal :=
  .next (s.issueReg g t (isR 0x28 0x16) jVec)

/-- VABS_S: sat_s16(|sa|) (R189). -/
def execVabsS (g : Fin 132) (t : Nat) (s : State) : Host.Outcome State Fault Refusal :=
  .next (s.issueReg g t (isR 0x28 0x17) jVec)

/-- VALUI: as OP 0x28 with X[B] bits [15:0] in every lane (R189). -/
def execValui (g : Fin 132) (t : Nat) (s : State) : Host.Outcome State Fault Refusal :=
  .next (s.issueReg g t (isOp 0x29) jValui)

/-- VSHI: lane shift by an immediate (R185, R189). -/
def execVshi (g : Fin 132) (t : Nat) (s : State) : Host.Outcome State Fault Refusal :=
  .next (s.issueReg g t (isOp 0x2A) jVshi)

/-- VCMP: lane compare into Pd (R189). -/
def execVcmp (g : Fin 132) (t : Nat) (s : State) : Host.Outcome State Fault Refusal :=
  .next (s.issueReg g t (isOp 0x2B) jVcmp)

/-- VSPLAT: X[A] bits [15:0] in every lane (R189). -/
def execVsplat (g : Fin 132) (t : Nat) (s : State) : Host.Outcome State Fault Refusal :=
  .next (s.issueReg g t (isR 0x2C 0x00) jVsplat)

/-- VEXT: lane X[B] & 31 of A to Xd (R189). -/
def execVext (g : Fin 132) (t : Nat) (s : State) : Host.Outcome State Fault Refusal :=
  .next (s.issueReg g t (isR 0x2C 0x01) jVext)

/-- VINS: X[A] bits [15:0] to lane X[B] & 31 (R189). -/
def execVins (g : Fin 132) (t : Nat) (s : State) : Host.Outcome State Fault Refusal :=
  .next (s.issueReg g t (isR 0x2C 0x02) jVins)

/-- VPERM: lane b & 31 of A (R189). -/
def execVperm (g : Fin 132) (t : Nat) (s : State) : Host.Outcome State Fault Refusal :=
  .next (s.issueReg g t (isR 0x2C 0x03) jVperm)

/-- VIDX: lane i is i (R189). -/
def execVidx (g : Fin 132) (t : Nat) (s : State) : Host.Outcome State Fault Refusal :=
  .next (s.issueReg g t (isR 0x2C 0x04) jVidx)

/-- VPACKB: lanes to bytes (R189). -/
def execVpackb (g : Fin 132) (t : Nat) (s : State) : Host.Outcome State Fault Refusal :=
  .next (s.issueReg g t (isR 0x2C 0x05) jVpackb)

/-- VUNPKL: low bytes to lanes (R189). -/
def execVunpkl (g : Fin 132) (t : Nat) (s : State) : Host.Outcome State Fault Refusal :=
  .next (s.issueReg g t (isR 0x2C 0x06) jVunpk)

/-- VUNPKH: high bytes to lanes (R189). -/
def execVunpkh (g : Fin 132) (t : Nat) (s : State) : Host.Outcome State Fault Refusal :=
  .next (s.issueReg g t (isR 0x2C 0x07) jVunpk)

/-- VREDADD_S: sum of active lanes, sign-extended (R189). -/
def execVredaddS (g : Fin 132) (t : Nat) (s : State) : Host.Outcome State Fault Refusal :=
  .next (s.issueReg g t (isR 0x2C 0x08) jVred)

/-- VREDADD_U: sum of active lanes, zero-extended (R189). -/
def execVredaddU (g : Fin 132) (t : Nat) (s : State) : Host.Outcome State Fault Refusal :=
  .next (s.issueReg g t (isR 0x2C 0x09) jVred)

/-- VREDMAX_U: maximum of active lanes (R189). -/
def execVredmaxU (g : Fin 132) (t : Nat) (s : State) : Host.Outcome State Fault Refusal :=
  .next (s.issueReg g t (isR 0x2C 0x0A) jVred)

/-- VREDMIN_U: minimum of active lanes (R189). -/
def execVredminU (g : Fin 132) (t : Nat) (s : State) : Host.Outcome State Fault Refusal :=
  .next (s.issueReg g t (isR 0x2C 0x0B) jVred)

/-- VMOV: lane move (R189). -/
def execVmov (g : Fin 132) (t : Nat) (s : State) : Host.Outcome State Fault Refusal :=
  .next (s.issueReg g t (isR 0x2C 0x0C) jVmov)

/-- VSLDI: lane i + n of A then B (R189). -/
def execVsldi (g : Fin 132) (t : Nat) (s : State) : Host.Outcome State Fault Refusal :=
  .next (s.issueReg g t (isOp 0x2D) jVsldi)

/-- PAND: A and B (R189). -/
def execPand (g : Fin 132) (t : Nat) (s : State) : Host.Outcome State Fault Refusal :=
  .next (s.issueReg g t (isR 0x2E 0x00) jPalu)

/-- POR: A or B (R189). -/
def execPor (g : Fin 132) (t : Nat) (s : State) : Host.Outcome State Fault Refusal :=
  .next (s.issueReg g t (isR 0x2E 0x01) jPalu)

/-- PXOR: A xor B (R189). -/
def execPxor (g : Fin 132) (t : Nat) (s : State) : Host.Outcome State Fault Refusal :=
  .next (s.issueReg g t (isR 0x2E 0x02) jPalu)

/-- PANDN: A and not B (R189). -/
def execPandn (g : Fin 132) (t : Nat) (s : State) : Host.Outcome State Fault Refusal :=
  .next (s.issueReg g t (isR 0x2E 0x03) jPalu)

/-- PNOT: not A (R189). -/
def execPnot (g : Fin 132) (t : Nat) (s : State) : Host.Outcome State Fault Refusal :=
  .next (s.issueReg g t (isR 0x2E 0x04) jPalu)

/-- PFROMX: Pd = X[A] (R189). -/
def execPfromx (g : Fin 132) (t : Nat) (s : State) : Host.Outcome State Fault Refusal :=
  .next (s.issueReg g t (isR 0x2E 0x05) jPalu)

/-- PTOX: Xd = P[A] (R189). -/
def execPtox (g : Fin 132) (t : Nat) (s : State) : Host.Outcome State Fault Refusal :=
  .next (s.issueReg g t (isR 0x2E 0x06) jPalu)

/-- PFIRST: bits below X[A] (R189). -/
def execPfirst (g : Fin 132) (t : Nat) (s : State) : Host.Outcome State Fault Refusal :=
  .next (s.issueReg g t (isR 0x2E 0x07) jPalu)

/-- VMAC_S: accumulate sa × sb (R188, R189). -/
def execVmacS (g : Fin 132) (t : Nat) (s : State) : Host.Outcome State Fault Refusal :=
  .next (s.issueReg g t (isR 0x30 0x00) jMac)

/-- VMAC_U: accumulate ua × ub (R188, R189). -/
def execVmacU (g : Fin 132) (t : Nat) (s : State) : Host.Outcome State Fault Refusal :=
  .next (s.issueReg g t (isR 0x30 0x01) jMac)

/-- VMAC_SU: accumulate sa × ub (R188, R189). -/
def execVmacSu (g : Fin 132) (t : Nat) (s : State) : Host.Outcome State Fault Refusal :=
  .next (s.issueReg g t (isR 0x30 0x02) jMac)

/-- VMSU_S: subtract sa × sb (R188, R189). -/
def execVmsuS (g : Fin 132) (t : Nat) (s : State) : Host.Outcome State Fault Refusal :=
  .next (s.issueReg g t (isR 0x30 0x03) jMac)

/-- VMULA_S: sa × sb (R188, R189). -/
def execVmulaS (g : Fin 132) (t : Nat) (s : State) : Host.Outcome State Fault Refusal :=
  .next (s.issueReg g t (isR 0x30 0x04) jMac)

/-- VMULA_U: ua × ub (R188, R189). -/
def execVmulaU (g : Fin 132) (t : Nat) (s : State) : Host.Outcome State Fault Refusal :=
  .next (s.issueReg g t (isR 0x30 0x05) jMac)

/-- VACLR: clear accumulator lanes (R188, R189). -/
def execVaclr (g : Fin 132) (t : Nat) (s : State) : Host.Outcome State Fault Refusal :=
  .next (s.issueReg g t (isR 0x30 0x06) jMac)

/-- VACC: shift, round and narrow accumulator lanes (R188). -/
def execVacc (g : Fin 132) (t : Nat) (s : State) : Host.Outcome State Fault Refusal :=
  .next (s.issueReg g t (isOp 0x31) jVacc)

/-- VLD: 64 bytes at X[A] + 2 × sext(IMM12) (R189). -/
def execVld (g : Fin 132) (t : Nat) (s : State) : Host.Outcome State Fault Refusal :=
  .next (s.issue g t (isOp 0x34) (jVld g))

/-- VST: 64 bytes to X[A] + 2 × sext(IMM12) (R189). -/
def execVst (g : Fin 132) (t : Nat) (s : State) : Host.Outcome State Fault Refusal :=
  .next (s.issue g t (isOp 0x35) (jVst g))

/-- VGATH: halfwords from DMEM (R189). -/
def execVgath (g : Fin 132) (t : Nat) (s : State) : Host.Outcome State Fault Refusal :=
  .next (s.issue g t (isR 0x36 0x00) (jVgath g))

/-- VSCAT: halfwords to DMEM (R189, R193). -/
def execVscat (g : Fin 132) (t : Nat) (s : State) : Host.Outcome State Fault Refusal :=
  .next (s.issue g t (isR 0x37 0x00) (jVscat g))

/-- SMP: bilinear sample (R201). -/
def execSmp (g : Fin 132) (t : Nat) (s : State) : Host.Outcome State Fault Refusal :=
  .next (s.issue g t (isOp 0x3A) (jSmp g))

end Sys2Proof.Machine
end

