-- ==== Sys2Proof/Machine/Kernels.lean ====
section
/-! DEFINITION. The built-in kernels as functions of the lines they receive (R506, R508 to R512), and the Peat codec
(R225 to R229). A parameter outside the values that the spec gives acts as a free legal one (log 15). -/

namespace Sys2Proof.Machine

/-! ### Lines (R169, R506) -/

/-- Little-endian 16-bit values. -/
def pairs16 : List Nat → List Nat
  | a :: b :: r => (a + 256 * b) :: pairs16 r
  | _ => []

/-- A line item as its kernel reads it. -/
def kLine (bs : List Nat) : KLine :=
  let f := bs.getD 7 0
  { hdr := bs.take 8, num := leAt bs 4 2, fill := f.testBit 0, dam := f.testBit 1,
    px := if f.testBit 3 then (bs.drop 8).map (· * 256) else pairs16 (bs.drop 8) }

/-- An output line item: bytes 0 to 3 and 6 of `hdr`, its own line number, flags and samples. -/
def kItem (hdr : List Nat) (num : Nat) (fill dam : Bool) (px : List Nat) : List Nat :=
  (List.range 4).map (hdr.getD · 0) ++ leBytes 2 num ++ [hdr.getD 6 0, b2n fill + 2 * b2n dam] ++ px.flatMap (leBytes 2)

/-- Samples per plane of a line of `p` planes. -/
def KLine.width (l : KLine) (p : Nat) : Nat := l.px.length / max 1 p

/-- The sample count of a line is a multiple of its planes. -/
def KLine.whole (l : KLine) (p : Nat) : Bool := l.px.length % max 1 p == 0

/-- sat_u16 of an exact value. -/
def su16 (x : Int) : Nat := (satU16 x).toNat

/-- An unstated sample of 16 bits (log 2). -/
def freePx (key : List Nat) : Nat := freeSample key % 65536

/-- Reflection about the borders of positions `lo` to `hi` (R506). -/
def reflect (lo hi p : Int) : Option Int :=
  if lo ≤ p ∧ p ≤ hi then some p
  else
    let q := if p < lo then 2 * lo - p else 2 * hi - p
    if lo ≤ q ∧ q ≤ hi then some q else none

/-- The line of a number among the lines received. -/
def lineNo (ls : List KLine) (y : Int) : Option KLine := ls.find? fun l => (l.num : Int) == y

/-- How many positions from `c` in the direction `d` are available one after the other. -/
def runLen (ok : Int → Bool) (c d : Int) : Nat → Nat
  | 0 => 0
  | n + 1 => if ok (c + d) then 1 + runLen ok (c + d) d n else 0

/-- The line that stands for line `p` in a computation around line `c`: itself, or its reflection about the border or the
missing line where it has not been received or is a fill line (R506). Where line `c` itself is missing the lines next to it
are the ones it is reflected into, those below it first (log 15). -/
def rowFor (ls : List KLine) (c p : Int) : Option KLine :=
  let ok (y : Int) : Bool :=
    match lineNo ls y with
    | some l => decide (y = c) || !l.fill
    | none => false
  if ok p then lineNo ls p
  else
    let b := if ok c then c else if ok (c + 1) then c + 1 else c - 1
    let n := ls.length
    if !ok b then none
    else
      match reflect (b - runLen ok b (-1) n) (b + runLen ok b 1 n) p with
      | some q => lineNo ls q
      | none => none

/-- Sample `x` of plane `k` of the line that stands for line `p`; a position with no reflection has no stated value. -/
def sampleFor (seed : Nat) (ls : List KLine) (planes k : Nat) (c p x : Int) : Nat :=
  match rowFor ls c p with
  | none => freePx [seed, k, c.toNat, uwrap 32 p, uwrap 32 x]
  | some l =>
    let w := l.width planes
    match reflect 0 ((w : Int) - 1) x with
    | some q => l.px.getD (k * w + q.toNat) 0
    | none => freePx [seed, k, c.toNat, uwrap 32 p, uwrap 32 x, 1]

/-- The lines that a computation around `c` reads at line offsets `ps`, for the flags of R506. -/
def usedRows (ls : List KLine) (c : Int) (ps : List Int) : List KLine := ps.filterMap fun p => rowFor ls c p

/-! ### DEMOSAIC (R509) -/

/-- The colour of a site: 0 R, 1 G, 2 B. -/
def siteColour (order : Nat) (y x : Int) : Nat :=
  let i := 2 * (y % 2).toNat + (x % 2).toNat
  (match order with
  | 0 => [0, 1, 1, 2]
  | 1 => [1, 0, 2, 1]
  | 2 => [1, 2, 0, 1]
  | _ => [2, 1, 1, 0]).getD i 0

/-- A mean of samples (R509). -/
def meanOf (xs : List Nat) : Nat := (xs.foldl (· + ·) 0 + xs.length / 2) / max 1 xs.length

/-- Colour `k` at a site. -/
def demosaicAt (method order k : Nat) (a : Int → Int → Nat) (y x : Int) : Nat :=
  let c := siteColour order y x
  let l := a y (x - 1)
  let r := a y (x + 1)
  let u := a (y - 1) x
  let d := a (y + 1) x
  if c = k then a y x
  else if c = 1 then
    if siteColour order y (x + 1) = k then meanOf [l, r] else meanOf [u, d]
  else if k = 1 then
    let dh := ((l : Int) - r).natAbs
    let dv := ((u : Int) - d).natAbs
    if method = 1 ∧ dh < dv then meanOf [l, r]
    else if method = 1 ∧ dv < dh then meanOf [u, d]
    else meanOf [l, r, u, d]
  else meanOf [a (y - 1) (x - 1), a (y - 1) (x + 1), a (y + 1) (x - 1), a (y + 1) (x + 1)]

/-- The output line of input line `l`: as many samples per plane as the first line of the frame has (R506, R509). -/
def demosaicLine (seed : Nat) (par : List Nat) (ls : List KLine) (l : KLine) : List Nat :=
  let order := if par.getD 0 0 < 4 then par.getD 0 0 else freeSample [seed, 0] % 4
  let y : Int := l.num
  let a (q x : Int) : Nat := sampleFor seed ls 1 0 y q x
  let used := usedRows ls y [y - 1, y, y + 1]
  kItem l.hdr l.num (used.any (·.fill)) (used.any (·.dam))
    ([0, 1, 2].flatMap fun k => (List.range (ls.headD l).px.length).map fun (x : Nat) => demosaicAt (par.getD 1 0) order k a y x)

/-! ### COLOUR_MATRIX (R510) -/

/-- The output line of a line of three planes. -/
def colourLine (par : List Nat) (l : KLine) : List Nat :=
  let w := l.width 3
  let m (i : Nat) : Int := sint 16 (leAt par (2 * i) 2)
  let o (r : Nat) : Int := sint 16 (leAt par (18 + 2 * r) 2)
  let v (k x : Nat) : Int := l.px.getD (k * w + x) 0
  kItem l.hdr l.num l.fill (l.dam || !l.whole 3)
    ([0, 1, 2].flatMap fun r => (List.range w).map fun x =>
      if l.whole 3 then su16 ((m (3 * r) * v 0 x + m (3 * r + 1) * v 1 x + m (3 * r + 2) * v 2 x + 2048) / 4096 + o r) else 0)

/-! ### HDR_MERGE (R508) -/

/-- One sample. -/
def hdrSample (par : List Nat) (e : Nat) (s m l : Nat) : Nat :=
  let r1 := leAt par 2 2
  let r2 := leAt par 4 2
  let k := leAt par 6 2
  let ob := if 16 ≤ leAt par 8 2 ∧ leAt par 8 2 ≤ 24 then leAt par 8 2 else 16
  let sh := 2 ^ (ob - 16)
  -- y in units of 1/65,536
  let y : Nat := if l < k then l * 65536 else if e = 3 ∧ m < k then m * r2 * 256 else if e = 3 then s * r1 * r2 else s * r1 * 256
  su16 (((2 * y + 65536 * sh) / (2 * 65536 * sh) : Nat) : Int)

/-- The output line of the paired lines; a line that an input does not have gives samples of 0. -/
def hdrLine (par : List Nat) (e : Nat) (ls : List (Option KLine)) : List Nat :=
  let s := (ls.getD 0 none).getD {}
  let px (i x : Nat) : Nat := (((ls.getD i none).getD {}).px).getD x 0
  let all := ls.filterMap id
  let odd := all.length < e || all.any (fun l => l.num != s.num || l.px.length != s.px.length)
  kItem s.hdr s.num (all.any (·.fill)) (odd || all.any (·.dam))
    ((List.range s.px.length).map fun x => if e = 3 then hdrSample par e (px 0 x) (px 1 x) (px 2 x) else hdrSample par e (px 0 x) 0 (px 1 x))

/-! ### PYRAMID (R511) -/

/-- Levels that the parameters ask for. -/
def pyrLevels (par : List Nat) : Nat := min 4 (max 1 (par.getD 1 0))

/-- Lines of the level below, relative to 2i, that a line reads. -/
def pyrTaps (par : List Nat) : List Int := if par.getD 0 0 = 1 then [-2, -1, 0, 1, 2] else [0, 1]

/-- Line `i` of a level of `w` samples per plane from the lines of the level below. -/
def pyrLine (seed : Nat) (par : List Nat) (below : List KLine) (hdr : List Nat) (w i : Nat) : KLine :=
  let p := max 1 (par.getD 2 0)
  let c : Int := 2 * (i : Int)
  let used := usedRows below c ((pyrTaps par).map (c + ·))
  let bad := used.any fun l => !l.whole p
  let b (k : Nat) (y x : Int) : Nat := sampleFor seed below p k c y x
  let wt : List Nat := [1, 4, 6, 4, 1]
  let f (k j : Nat) : Nat :=
    let x : Int := 2 * (j : Int)
    if bad then 0
    else if par.getD 0 0 = 1 then
      (((List.range 5).flatMap fun p => (List.range 5).map fun q =>
        wt.getD p 0 * wt.getD q 0 * b k (c + (p : Int) - 2) (x + (q : Int) - 2)).foldl (· + ·) 128) / 256
    else (b k c x + b k c (x + 1) + b k (c + 1) x + b k (c + 1) (x + 1) + 2) / 4
  { hdr := hdr, num := i, fill := used.any (·.fill), dam := bad || used.any (·.dam),
    px := (List.range p).flatMap fun k => (List.range w).map (f k) }

/-! ### REGION (R512) -/

/-- The output items of a line, in ascending rectangle. -/
def regionItems (par : List Nat) (l : KLine) : List (List Nat) :=
  let n := min 16 (max 1 (par.getD 0 0))
  let p := max 1 (par.getD 1 0)
  let w := l.width p
  (List.range n).filterMap fun r =>
    let v (k : Nat) : Nat := leAt par (4 + 8 * r + 2 * k) 2
    if v 1 ≤ l.num ∧ l.num < v 1 + v 3 then
      some (kItem (l.hdr.take 6 ++ [r]) (l.num - v 1) l.fill (l.dam || !l.whole p || decide (w < v 0 + v 2))
        ((List.range p).flatMap fun k => (List.range (v 2)).map fun x =>
          if l.whole p ∧ v 0 + x < w then l.px.getD (k * w + v 0 + x) 0 else 0))
    else none

/-! ### The Peat codec (R225 to R229) -/

/-- The neighbours a, b and c of sample `x`: `cur` holds the line so far as reconstructed, `up` the line `d` above (R226). -/
def peatABC (bits d : Nat) (restart : Bool) (up cur : List Nat) (x : Nat) : Int × Int × Int :=
  let a : Int := cur.getD (x - d) 0
  let b : Int := up.getD x 0
  if restart then (if x < d then (2 ^ (bits - 1), 2 ^ (bits - 1), 2 ^ (bits - 1)) else (a, a, a))
  else if x < d then (b, b, b)
  else (a, b, up.getD (x - d) 0)

/-- The prediction (R227). -/
def peatPredict (n : Int × Int × Int) : Int :=
  let (a, b, c) := n
  if max a b ≤ c then min a b else if c ≤ min a b then max a b else a + b - c

/-- Predictive coding of the samples of a segment: the coded values and the line as reconstructed (R227). -/
def peatSegment (bits n d : Nat) (restart : Bool) (up : List Nat) : List Nat → List Nat → List Int → List Int × List Nat
  | [], cur, qs => (qs, cur)
  | x :: xs, cur, qs =>
    let p := peatPredict (peatABC bits d restart up cur cur.length)
    let e := (x : Int) - p
    let q : Int := e.sign * ((e.natAbs + n) / (2 * n + 1) : Nat)
    let r := clamp 0 (2 ^ bits - 1) (p + q * (2 * n + 1))
    peatSegment bits n d restart up xs (cur ++ [r.toNat]) (qs ++ [q])

/-- The mapped value of a coded value (R227). -/
def peatMap (q : Int) : Nat := if 0 ≤ q then (2 * q).toNat else (-2 * q - 1).toNat

/-- The low `n` bits of a number, most significant first. -/
def msbBits (v n : Nat) : List Bool := (List.range n).map fun i => v.testBit (n - 1 - i)

/-- The Rice code of a mapped value (R228). -/
def riceBits (bits k m : Nat) : List Bool :=
  let u := m / 2 ^ k
  if u < 24 then List.replicate u true ++ [false] ++ msbBits m k else List.replicate 24 true ++ msbBits m (bits + 1)

/-- The bits of a segment under code K. -/
def peatCode (bits k : Nat) (xs : List Nat) (ms : List Nat) : List Bool :=
  msbBits k 4 ++ (if k ≤ 13 then ms.flatMap (riceBits bits k) else if k = 14 then [] else xs.flatMap fun x => msbBits x bits)

/-- The code with the fewest bits, the lower on a tie; ZERO only where every value is 0 (R229). -/
def peatChoose (bits : Nat) (xs ms : List Nat) : Nat :=
  let ok := (List.range 16).filter fun k => k != 14 || ms.all (· == 0)
  ok.foldl (fun best k => if (peatCode bits k xs ms).length < (peatCode bits best xs ms).length then k else best) 0

/-- Code the segments of a line: the bits and the line as reconstructed. -/
def peatSegs (bits n d : Nat) (restart : Bool) (up : List Nat) : Nat → List Nat → List Nat → List Bool → List Bool × List Nat
  | 0, _, cur, out => (out, cur)
  | fuel + 1, xs, cur, out =>
    if xs = [] then (out, cur)
    else
      let seg := xs.take 64
      let r := peatSegment bits n d restart up seg cur []
      let ms := r.1.map peatMap
      let k := peatChoose bits seg ms
      peatSegs bits n d restart up fuel (xs.drop 64) (if k = 15 then cur ++ seg else r.2) (out ++ peatCode bits k seg ms)

/-- Bits packed most significant first into bytes, padded with 0 (R228). -/
def packBits : Nat → List Bool → List Nat
  | 0, _ => []
  | n + 1, bs =>
    if bs = [] then []
    else (((List.range 8).foldl (fun v i => 2 * v + b2n (bs.getD i false)) 0) :: packBits n (bs.drop 8))

/-- A coded line item and the line as reconstructed. `coded` holds the lines this encoder coded of the frame (R225,
R226). -/
def peatLine (bits n bayer : Nat) (coded : AMap (List Nat)) (hdr : List Nat) (y : Nat) (px : List Nat) : List Nat × List Nat :=
  let d := if bayer = 1 then 2 else 1
  let w := px.length
  let had (z : Nat) : Bool := (AMap.get [] coded z).length == w && coded.any fun c => c.1 == z
  let restart := decide (y < d) || !((List.range d).all fun i => had (y - 1 - i))
  let up := if restart then [] else AMap.get [] coded (y - d)
  let r := peatSegs bits n d restart up (w / 64 + 1) (px.map (· / 2 ^ (16 - bits))) [] []
  let pay := packBits (r.1.length / 8 + 1) r.1
  (hdr.take 8 ++ leBytes 2 w ++ [bits, n + 4 * bayer + 8 * b2n restart] ++ leBytes 4 pay.length ++ pay, r.2)

end Sys2Proof.Machine
end

