-- ==== Sys2Proof/Machine/Library.lean ====
section
/-! DEFINITION. Engines that run library kernels: they take an item, form the items that it lets them form, and send them one
by one (R219, R224, R506 to R512; log 15). SLEN, SEND and the ends of stream waits of every engine. -/

namespace Sys2Proof.Machine

/-- Bytes that the parameter block of a library kernel has (R224). -/
def libParLen (lib : Nat) : Nat :=
  match lib with
  | 1 => 20
  | 2 => 10
  | 3 => 2
  | 4 => 24
  | 6 => 132
  | _ => 3

/-- The parameter block of a library kernel, in DMEM (R210, R224). -/
def State.libPar (s : State) (g : Nat) : List Nat :=
  let d := s.nodeDef (s.eng g).gen (s.eng g).node
  s.memBytes (.dmem g) d.parDmem (libParLen d.lib)

/-- Exposures of HDR_MERGE (R508). -/
def hdrCount (par : List Nat) : Nat := if par.getD 0 0 = 3 then 3 else 2

/-- Input ports that a library kernel reads (R224). -/
def libPorts (lib : Nat) (par : List Nat) : List Nat := if lib = 2 then List.range (hdrCount par) else [0]

/-- The rank writes item `i` of an output port: its own turns under BROADCAST deal, everything otherwise (R506). -/
def GNode.mine (d : GNode) (rank p i : Nat) : Bool :=
  decide (d.ranks.length ≤ 1) || (d.si.getD 0 {}).mode != 0 ||
    i / max 1 (d.so.getD p {}).chunk % d.ranks.length == rank

/-- The rank receives every item of its input. -/
def GNode.seesAll (d : GNode) : Bool := decide (d.ranks.length ≤ 1) || (d.si.getD 0 {}).mode == 0

/-- Queue an output item of a port for SEND where it is the rank's to write. -/
def Lib.emitIf (l : Lib) (mine : Nat → Bool) (p : Nat) (bs : List Nat) : Lib :=
  let i := AMap.get 0 l.count p
  { l with count := AMap.set l.count p (i + 1), queue := if mine i then l.queue ++ [(p, bs)] else l.queue }

/-- Count an output item of a port; it waits for SEND where it is the rank's. -/
def Lib.emit (l : Lib) (d : GNode) (rank p : Nat) (bs : List Nat) : Lib := l.emitIf (d.mine rank p) p bs

/-- The frame record item: `heir` names the rank that takes a rank's turn for it, the rank itself or, of a faulted one, the next
live rank (R222). -/
def Lib.emitRec (l : Lib) (d : GNode) (heir : Nat → Nat) (rank p : Nat) (bs : List Nat) : Lib :=
  l.emitIf (fun i => d.seesAll = false || decide (d.ranks.length ≤ 1) ||
    heir (i / max 1 (d.so.getD p {}).chunk % max 1 d.ranks.length) == rank) p bs

/-- The lines received on an input port, or the lines computed of a level. -/
def Lib.got (l : Lib) (p : Nat) : List KLine := AMap.get [] l.lines p

/-- DEMOSAIC lines that may be written: those whose next line has arrived, or every one (R509). -/
def Lib.demosaic (l : Lib) (d : GNode) (rank seed : Nat) (par : List Nat) (all : Bool) : Lib :=
  let ls := l.got 0
  ((List.range ls.length).filter fun j =>
    !l.wrote.contains j && (all || (lineNo ls ((ls.getD j {}).num + 1)).isSome)).foldl (fun l j =>
      { l.emit d rank 0 (demosaicLine seed par ls (ls.getD j {})) with wrote := l.wrote ++ [j] }) l

/-- HDR_MERGE pairs: as many as every input has, or as SI0 has once every record has arrived (R508). -/
def Lib.hdr (l : Lib) (d : GNode) (rank : Nat) (par : List Nat) (all : Bool) : Lib :=
  let e := hdrCount par
  let n := AMap.get 0 l.next 0
  let m := if all then (l.got 0).length else (List.range e).foldl (fun m p => min m (l.got p).length) (l.got 0).length
  let l1 := ((List.range m).drop n).foldl (fun l i =>
    l.emit d rank 0 (hdrLine par e ((List.range e).map fun p => (l.got p)[i]?))) l
  { l1 with next := AMap.set l1.next 0 (max n m) }

/-- Where the lines of a level are kept: level 0 is the input. -/
def levelKey (k : Nat) : Nat := if k = 0 then 0 else 7 + k

/-- One more than the highest line number. -/
def topLine (ls : List KLine) : Nat := ls.foldl (fun n l => max n (l.num + 1)) 0

/-- PYRAMID lines of level `k` that may be written: every line of the level below that they use has been computed, or no more
come. A rank that receives the whole frame knows from the lines so far how many lines the level has at least (R506, R511). -/
def Lib.pyrLevel (l : Lib) (d : GNode) (rank seed : Nat) (par : List Nat) (all : Bool) (k : Nat) : Lib :=
  let below := l.got (levelKey (k - 1))
  let have_ := l.got (levelKey k)
  let first := ((l.got 0).head?).getD {}
  let uses (i : Nat) : List Int := ((pyrTaps par).map (2 * (i : Int) + ·)).filter fun y => decide (0 ≤ y)
  let may (i : Nat) : Bool :=
    if d.seesAll then all || (uses i).all fun y => (lineNo below y).isSome
    else below.any (fun x => x.num == 2 * i + 1) && (all || par.getD 0 0 != 1 || decide (2 * i + 2 < topLine below))
  let ready := (List.range (if d.seesAll then (l.got 0).length / 2 ^ k else topLine below / 2)).filter fun i =>
    !have_.any (fun x => x.num == i) && may i
  ready.foldl (fun l i =>
    let x := pyrLine seed par below first.hdr (first.width (par.getD 2 0) / 2 ^ k) i
    let l1 : Lib := { l with lines := AMap.set l.lines (levelKey k) (l.got (levelKey k) ++ [x]) }
    l1.emit d rank (k - 1) (kItem x.hdr x.num x.fill x.dam x.px)) l

/-- Every level, lowest first. -/
def Lib.pyramid (l : Lib) (d : GNode) (rank seed : Nat) (par : List Nat) (all : Bool) : Lib :=
  (List.range (pyrLevels par)).foldl (fun l k => l.pyrLevel d rank seed par all (k + 1)) l

/-- PEAT: the parameters B, N and BAYER; others than the table's act as free legal ones (log 15). -/
def peatPar (seed : Nat) (par : List Nat) : Nat × Nat × Nat :=
  (if 8 ≤ par.getD 0 0 ∧ par.getD 0 0 ≤ 16 then par.getD 0 0 else 8 + freeSample [seed, 1] % 9,
   if par.getD 1 0 ≤ 3 then par.getD 1 0 else freeSample [seed, 2] % 4,
   if par.getD 2 0 ≤ 1 then par.getD 2 0 else freeSample [seed, 3] % 2)

/-- PEAT codes a line where it is the rank's to write (R226). -/
def Lib.peatCodeLine (l : Lib) (d : GNode) (rank seed : Nat) (par : List Nat) (x : KLine) : Lib :=
  if d.mine rank 0 (AMap.get 0 l.count 0) = false then l.emit d rank 0 []
  else
    let p := peatPar seed par
    let r := peatLine p.1 p.2.1 p.2.2 l.peat x.hdr x.num x.px
    { l.emit d rank 0 r.1 with peat := AMap.set l.peat x.num r.2 }

/-- Everything that the lines so far let a kernel write; `all` where no further line of the frame comes. -/
def Lib.advance (l : Lib) (d : GNode) (rank seed : Nat) (par : List Nat) (all : Bool) : Lib :=
  match d.lib with
  | 2 => l.hdr d rank par all
  | 3 => l.demosaic d rank seed par all
  | 5 => l.pyramid d rank seed par all
  | _ => l

/-- A new line of an input port. -/
def Lib.line (l : Lib) (d : GNode) (rank seed : Nat) (par : List Nat) (p : Nat) (x : KLine) : Lib :=
  let l1 : Lib := { l with lines := AMap.set l.lines p (l.got p ++ [x]) }
  match d.lib with
  | 4 => l1.emit d rank 0 (colourLine par x)
  | 6 => (regionItems par x).foldl (fun l bs => l.emit d rank 0 bs) l1
  | 7 => l1.peatCodeLine d rank seed par x
  | _ => l1.advance d rank seed par false

/-- Width and height that the forwarded record names for an output port (R506). -/
def Lib.shape (l : Lib) (d : GNode) (par record : List Nat) (p : Nat) : Nat × Nat :=
  let rw := leAt record 32 2
  let rh := leAt record 34 2
  let first (planes : Nat) : Nat := match (l.got 0).head? with
    | some x => x.width planes
    | none => rw
  let h : Nat := if d.seesAll then (l.got 0).length else rh
  match d.lib with
  | 1 => (leAt par 0 2, leAt par 2 2)
  | 4 => (first 3, h)
  | 5 => (first (par.getD 2 0) / 2 ^ (p + 1), h / 2 ^ (p + 1))
  | 6 => (leAt par 8 2, leAt par 10 2)
  | _ => (first 1, h)

/-- The embedded items held back, then the record of the frame to every output port that the kernel uses (R219, R506, R511). -/
def Lib.record_ (l0 : Lib) (d : GNode) (heir : Nat → Nat) (rank : Nat) (par record : List Nat) : Lib :=
  let l := l0.held.foldl (fun l b => l.emit d rank 0 b) l0
  let ports := if d.lib = 5 then List.range (pyrLevels par) else [0]
  ports.foldl (fun l p =>
    let sh := l.shape d par record p
    l.emitRec d heir rank p (if d.lib = 7 then record else record.take 32 ++ leBytes 2 sh.1 ++ leBytes 2 sh.2 ++ record.drop 36)) l

/-- The frame is over: what the kernel keeps of it is dropped. -/
def Lib.fresh (l : Lib) : Lib := { queue := l.queue, frames := l.frames + 1 }

/-! ### UNDISTORT (R507) -/

/-- Width and height of the output, planes, BAYER, width and height of the input. -/
def undDims (seed : Nat) (par : List Nat) : Nat × Nat × Nat × Nat × Nat × Nat :=
  (leAt par 0 2, leAt par 2 2, max 1 (par.getD 6 0), if par.getD 7 0 ≤ 1 then par.getD 7 0 else freeSample [seed, 4] % 2,
   leAt par 16 2, leAt par 18 2)

/-- The mesh spacing exponent. -/
def undExp (seed : Nat) (par : List Nat) : Nat :=
  if 4 ≤ par.getD 4 0 ∧ par.getD 4 0 ≤ 7 then par.getD 4 0 else 4 + freeSample [seed, 5] % 4

/-- Columns and rows of mesh nodes. -/
def undMesh (seed : Nat) (par : List Nat) : Nat × Nat :=
  let n := 2 ^ undExp seed par
  (ceilDiv (leAt par 0 2 - 1) n + 1, ceilDiv (leAt par 2 2 - 1) n + 1)

/-- The source of an output pixel in 1/32 pixel (R507 step 1). -/
def undSource (seed : Nat) (par mesh : List Nat) (i j : Nat) : Int × Int :=
  let m := undExp seed par
  let n := 2 ^ m
  let g := undMesh seed par
  let fi := i % n
  let fj := j % n
  let node (o a b : Nat) : Int := sint 16 (leAt mesh (4 * (min b (g.2 - 1) * g.1 + min a (g.1 - 1)) + o) 2)
  let at_ (o : Nat) : Int :=
    let a := j / n
    let b := i / n
    roundDiv (node o a b * ((n - fj) * (n - fi) : Nat) + node o (a + 1) b * (fj * (n - fi) : Nat) +
      node o a (b + 1) * ((n - fj) * fi : Nat) + node o (a + 1) (b + 1) * (fj * fi : Nat)) (n * n)
  (at_ 0, at_ 2)

/-- The weighted input samples of an output pixel: weight, column, row, all within the input (R507 steps 2 and 3). -/
def undTaps (seed : Nat) (par mesh : List Nat) (i j : Nat) : List (Nat × Nat × Nat) :=
  let (_, _, _, bayer, w, h) := undDims seed par
  let s := undSource seed par mesh i j
  let px := if bayer = 1 then j % 2 else 0
  let py := if bayer = 1 then i % 2 else 0
  let st := if bayer = 1 then 2 else 1
  let sx : Int := if bayer = 1 then roundDiv (s.1 - 32 * px) 2 else s.1
  let sy : Int := if bayer = 1 then roundDiv (s.2 - 32 * py) 2 else s.2
  let wp : Int := ((w - px + st - 1) / st : Nat)
  let hp : Int := ((h - py + st - 1) / st : Nat)
  let fx := (sx % 32).toNat
  let fy := (sy % 32).toNat
  let col (u : Int) : Nat := st * (clamp 0 (wp - 1) u).toNat + px
  let row (v : Int) : Nat := st * (clamp 0 (hp - 1) v).toNat + py
  let u := sx / 32
  let v := sy / 32
  [((32 - fx) * (32 - fy), col u, row v), (fx * (32 - fy), col (u + 1), row v),
   ((32 - fx) * fy, col u, row (v + 1)), (fx * fy, col (u + 1), row (v + 1))]

/-- The row that stands for an input row: itself, or once no more rows come the nearest row received (R507); between two
equally near the spec does not choose (log 15). -/
def undRow (seed : Nat) (ls : List KLine) (y : Nat) : Option KLine :=
  let d (l : KLine) : Nat := ((l.num : Int) - y).natAbs
  let best := ls.foldl (fun m l => min m (d l)) (d (ls.head?.getD {}))
  let near := ls.filter fun l => d l == best
  near[(if near.length ≤ 1 then 0 else freeSample [seed, 6, y] % near.length)]?

/-- The grant that keeps the input frame: the lowest-numbered that allows DMA write and sampler read (R507). -/
def State.undGrant (s : State) (gen : Nat) (d : GNode) : GGrant :=
  let gr := (s.graphOf gen).grants
  (((List.range gr.length).filter fun i => d.grants.testBit i).map (gr.getD · {})).find?
    (fun x => x.flags.testBit 1 && x.flags.testBit 2) |>.getD {}

/-- Output line `i` of the stored rows: its item, the places it reads; none where a row is still to come. -/
def State.undLine (s : State) (seed : Nat) (par mesh : List Nat) (l : Lib) (base : Nat) (all : Bool) (i : Nat) :
    Option (List Nat × List (MemId × Nat)) :=
  let (w, _, p, _, wi, hi) := undDims seed par
  let ls := l.got 0
  let taps := (List.range w).map fun j => undTaps seed par mesh i j
  let rows : List Nat := ((taps.flatMap id).filterMap fun t => if t.1 = 0 then none else some t.2.2).eraseDups
  if all = false ∧ rows.any (fun y => (lineNo ls y).isNone) then none
  else
    let place (k c : Nat) (x : KLine) : Nat := base + ((k * hi + x.num) * wi + c) * 2
    let reads := if wi = 0 ∨ hi = 0 then [] else (List.range p).flatMap fun k => (taps.flatMap id).filterMap fun t =>
      (undRow seed ls t.2.2).map fun x => (MemId.gddr, place k t.2.1 x)
    let sample (k : Nat) (t : Nat × Nat × Nat) : Nat :=
      match undRow seed ls t.2.2 with
      | some x => if wi = 0 ∨ hi = 0 then freePx [seed, k, i] else leNat (s.memBytes .gddr (place k t.2.1 x) 2)
      | none => freePx [seed, k, t.2.1, t.2.2]
    let used := rows.filterMap (undRow seed ls)
    let head := ((lineNo ls i).orElse fun _ => ls.head?).map (·.hdr) |>.getD l.record
    let item := kItem head i (used.any (·.fill)) (used.any (·.dam) || rows.any fun y => (lineNo ls y).isNone)
      ((List.range p).flatMap fun k => taps.map fun t => (t.foldl (fun n x => n + x.1 * sample k x) 512) / 1024)
    some (item, reads)

/-- Write the output lines that may be written, in rising order; an uncorrectable sample stops with MEMERR. -/
def State.undRun (s : State) (g seed : Nat) (par mesh : List Nat) (base : Nat) (all : Bool) : Nat → State × Option (Nat × Nat)
  | 0 => (s, none)
  | fuel + 1 =>
    let e := s.eng g
    let d := s.nodeDef e.gen e.node
    let i := AMap.get 0 e.lib.next 0
    if leAt par 2 2 ≤ i then (s, none)
    else
      match s.undLine seed par mesh e.lib base all i with
      | none => (s, none)
      | some (bs, reads) =>
        match s.smpTouch 2 reads with
        | (s1, some x) => (s1, some (8, flueAddr x.1 x.2))
        | (s1, none) =>
          let l := e.lib.emit d e.rank 0 bs
          (s1.setEng g { e with lib := { l with next := AMap.set l.next 0 (i + 1) } }).undRun g seed par mesh base all fuel

/-- Store an input line and write what may be written. -/
def State.undistort (s : State) (g seed : Nat) (par : List Nat) (line : Option KLine) : State × Option (Nat × Nat) :=
  let e := s.eng g
  let d := s.nodeDef e.gen e.node
  let (_, h, p, _, wi, hi) := undDims seed par
  let size := p * wi * hi * 2
  let gr := s.undGrant e.gen d
  let base := gr.base + e.rank * 2 * size + (e.lib.frames % 2) * size
  if line.isSome ∧ (gr.len < d.ranks.length * 2 * size ∨ gr.flags = 0) then (s, some (0x0A, 1))
  else
    let s1 :=
      match line with
      | none => s
      | some x =>
        if hi ≤ x.num ∨ (lineNo (e.lib.got 0) x.num).isSome then s
        else
          let w := x.width p
          let ok := x.whole p
          let px (k c : Nat) : Nat := if ok ∧ c < w then x.px.getD (k * w + c) 0 else 0
          let s1 := (List.range p).foldl (fun s k =>
            s.memWrite .gddr (base + (k * hi + x.num) * wi * 2) ((List.range wi).flatMap fun c => leBytes 2 (px k c))) s
          let y : KLine := { x with px := [], dam := x.dam || !ok || w != wi }
          s1.setEng g { e with lib := { e.lib with lines := AMap.set e.lib.lines 0 (e.lib.got 0 ++ [y]) } }
    let m := undMesh seed par
    let at_ := leAt par 8 8
    if h = 0 ∨ leAt par 0 2 = 0 then (s1, none)
    else if s1.granted g at_ (4 * m.1 * m.2) 0 = false then (s1, some (7, at_ % 2 ^ 32))
    else
      let r := s1.memRead .gddr at_ (4 * m.1 * m.2)
      if r.2.1 then (r.2.2, some (8, at_ % 2 ^ 32))
      else r.2.2.undRun g seed par r.1 base line.isNone (h + 1)

/-! ### Turns of a library kernel -/

/-- Change what an engine keeps of its library kernel. -/
def State.setLib (s : State) (g : Nat) (l : Lib) : State := s.setEng g { s.eng g with lib := l }

/-- An item of port `p` has been read. -/
def State.libItem (s : State) (g p : Nat) (par bs : List Nat) : State × Option (Nat × Nat) :=
  let e := s.eng g
  let d := s.nodeDef e.gen e.node
  let heir (r : Nat) : Nat := if (s.gnode e.gen e.node).faulted.contains r then s.nextLive e.gen e.node r else r
  let seed := s.freeCount
  let round := !d.seesAll
  let isRec := leAt bs 4 2 == 0xFFFF
  let num := leAt bs 0 4 + 1
  let l0 := if p = 0 ∧ e.lib.num ≠ 0 ∧ e.lib.num ≠ num then e.lib.fresh else e.lib
  let l : Lib := { l0 with num := if p = 0 then num else l0.num }
  let s0 := s.used
  if isRec then
    if d.lib = 2 then
      let l1 : Lib := { l with ended := if l.ended.contains p then l.ended else l.ended ++ [p], record := if p = 0 then bs else l.record }
      if (libPorts 2 par).all l1.ended.contains then
        let l2 := l1.hdr d e.rank par true
        (s0.setLib g (l2.record_ d heir e.rank par l2.record).fresh, none)
      else (s0.setLib g l1, none)
    else if d.lib = 1 then
      match (s0.setLib g { l with record := bs }).undistort g seed par none with
      | (s1, some f) => (s1, some f)
      | (s1, none) => (s1.setLib g ((s1.eng g).lib.record_ d heir e.rank par bs).fresh, none)
    else (s0.setLib g ((l.advance d e.rank seed par true).record_ d heir e.rank par bs).fresh, none)
  else if (bs.getD 7 0).testBit 2 then
    if d.seesAll then (s0.setLib g { l with held := l.held ++ [bs] }, none)
    else (s0.setLib g ((l.advance d e.rank seed par true).emit d e.rank 0 bs), none)
  else if d.lib = 1 then (s0.setLib g l).undistort g seed par (some (kLine bs))
  else
    let l1 := l.line d e.rank seed par p (kLine bs)
    let port := d.si.getD 0 {}
    let last := round && (port.mode == 2 || decide (max 1 port.chunk ≤ l1.run + 1))
    let l2 : Lib := { l1 with run := if last then 0 else l1.run + 1 }
    (s0.setLib g (if last ∧ d.lib ≠ 2 then l2.advance d e.rank seed par true else l2), none)

/-- The port that a library kernel reads next: of the inputs whose frame is not over the one with the fewest lines. -/
def libNext (l : Lib) (ports : List Nat) : Nat :=
  let open_ := ports.filter fun p => !l.ended.contains p
  open_.foldl (fun b p => if (l.got p).length < (l.got b).length then p else b) (open_.headD 0)

/-- A library kernel's next instruction is fetched and its parameters are read: none where an injected or real fault there stops it
(R203, R207, R263). -/
def State.libFetch (s : State) (g : Nat) : State × Option (List Nat) :=
  let d := s.nodeDef (s.eng g).gen (s.eng g).node
  let r := s.memRead (.imem g) (s.engPc g) 4
  let q := r.2.2.memRead (.dmem g) d.parDmem (libParLen d.lib)
  if r.2.1 then (r.2.2.engExc g 8 (some (s.engPc g)) none false false, none)
  else if (s.eng g).injIll then
    ((r.2.2.setEng g { r.2.2.eng g with injIll := false }).engExc g 1 none none false false, none)
  else if q.2.1 then (q.2.2.engExc g 8 (some d.parDmem) none false false, none)
  else (q.2.2, some q.1)

/-- SLEN of a library kernel: with nothing left to send it takes its next item, or waits for it. -/
def State.libSlen (s0 : State) (g t : Nat) : State :=
  let e := s0.eng g
  if s0.engReady g = false ∨ e.lib.queue ≠ [] then s0
  else
    match (s0.at t).libFetch g with
    | (s, none) => s
    | (s, some par) =>
      let d := s.nodeDef e.gen e.node
      let p := libNext e.lib (libPorts d.lib par)
      match s.inPort g p with
      | none => s.engExc g 4 (some p) none false false
      | some q =>
        let s1 := (s.flueCatch e.gen q.flue).finishCur g p q.flue
        match s1.nextItem g p q.flue with
        | none => s1.setEng g ((s1.eng g).waitFor t (.item p))
        | some x =>
          let s2 := s1.takeItem g p q.flue x
          let f := s2.flueDef e.gen q.flue
          let r := s2.memRead f.mem (f.slot x.seq + 8) x.len
          if r.2.1 then r.2.2.engExc g 8 (some (flueAddr f.mem (f.slot x.seq + 8))) none false false
          else
            match (r.2.2.setEng g ((r.2.2.eng g).kick t)).libItem g p par r.1 with
            | (s3, none) => s3
            | (s3, some (c, a)) => s3.engExc g c (some a) none (c == 7) false

/-- SEND of a library kernel: its next output item is opened, written and closed, or waits for a credit. -/
def State.libSend (s0 : State) (g t : Nat) : State :=
  if s0.engReady g = false then s0
  else
    match (s0.eng g).lib.queue with
    | [] => s0
    | (p, bs) :: rest =>
      match (s0.at t).libFetch g with
      | (s, none) => s
      | (s, some _) =>
        let e := s.eng g
        match s.outPort g p with
        | none => s.engExc g 4 (some (4 + p)) none false false
        | some q =>
          if (s.flueDef e.gen q.flue).bytes < bs.length + 8 then s.engExc g 4 (some (4 + p)) none false false
          else if s.flueCredit e.gen q.flue = false then s.setEng g (e.waitFor t (.credit p))
          else
            let seq := (s.flue e.gen q.flue).claimed
            let s1 := s.setEng g ({ e with lib := { e.lib with queue := rest } }.kick t)
            (((s1.flueClaim e.gen q.flue bs.length e.rank).flueAppend e.gen q.flue seq bs).flueClose e.gen q.flue seq).outAdvance e.gen e.node

/-! ### Rows -/

/-- SLEN (R195, R217): the instruction of a custom kernel, or a library kernel's turn to take its next item (log 15). -/
def execSlen (g : Fin 132) (t : Nat) (s : State) : Host.Outcome State Fault Refusal :=
  .next (if s.libKernel g then s.libSlen g t else s.issue g t (isR 0x20 0x00) (jSlen g t))

/-- SEND (R196): the instruction of a custom kernel, or a library kernel's turn to send its next item (log 15). -/
def execSend (g : Fin 132) (t : Nat) (s : State) : Host.Outcome State Fault Refusal :=
  .next (if s.libKernel g then s.libSend g t else s.issue g t (isR 0x20 0x04) (jSend g t))

/-- The wait of a library kernel ends where its turn no longer waits. -/
def State.libResume (s : State) (g t : Nat) (act : State → State) : State :=
  let s1 := act (s.setEng g ((s.eng g).wake t))
  if (s1.eng g).wait.isSome then s else s1

/-- Row STREAM_WAIT_END: an item has become visible or a slot free, and SLEN, SBEG or a library kernel goes on (R217). What a
CLOSE_ORDER merge held back is dealt while the engine still counts as waiting (R220, R221). -/
def execStreamWaitEnd (g : Fin 132) (t : Nat) (s : State) : Host.Outcome State Fault Refusal :=
  .next (match (s.eng g).wait with
    | some (.item p) =>
      let s1 := match s.inPort g p with
        | some q => if s.closeOrder (s.eng g).gen q.flue then (s.at t).flueAdvance (s.eng g).gen q.flue else s
        | none => s
      if s1.libKernel g then s1.libResume g t (·.libSlen g t) else s1.resume g t (isR 0x20 0x00) (jSlen g t)
    | some (.credit _) =>
      if s.libKernel g then s.libResume g t (·.libSend g t) else s.resume g t (isR 0x20 0x02) (jSbeg g)
    | _ => s)

end Sys2Proof.Machine
end

