-- ==== Sys2Proof/Machine/EngineCtl.lean ====
section
/-! DEFINITION. The graph loader: descriptors and their checks, the switch of graphs, kernel starts, drained and late engines,
restarts (R178, R207, R209 to R214, R218, R223, R234). -/

namespace Sys2Proof.Machine

/-! ### Descriptors (R209 to R211) -/

/-- A port word (R211). -/
def portWord (w : Nat) : GPort :=
  { used := w.testBit 15, mode := bitsOf w 13 2, chunk := bitsOf w 8 5 + 1, flue := bitsOf w 0 7 }

/-- A node entry of a descriptor at `base` with its parameter and code areas. -/
def nodeEntry (base paramOfs codeOfs : Nat) (b : List Nat) : GNode :=
  { kind := b.getD 0 0, lib := leAt b 2 2, codeAt := base + codeOfs + leAt b 4 4, codeLen := leAt b 8 4, entry := leAt b 12 4,
    engines := leAt b 16 16, parAt := base + paramOfs + leAt b 32 4, parLen := leAt b 36 2, parDmem := leAt b 38 2,
    stack := leAt b 40 2, grants := leAt b 42 2, si := (List.range 4).map fun i => portWord (leAt b (44 + 2 * i) 2),
    so := (List.range 4).map (fun i => portWord (leAt b (52 + 2 * i) 2)), cost := leAt b 60 2, wdog := leAt b 62 2 }

/-- A flue entry. -/
def flueEntry (b : List Nat) : GFlue :=
  { loc := b.getD 0 0, slots := leAt b 2 2, bytes := leAt b 4 4, base := leAt b 8 8, prod := leAt b 16 2,
    cons := (List.range 4).map (fun i => leAt b (18 + 2 * i) 2), hiwm := leAt b 26 2, lowm := leAt b 28 2 }

/-- A grant entry. -/
def grantEntry (b : List Nat) : GGrant := { base := leAt b 0 8, len := leAt b 8 4, flags := leAt b 12 4 }

/-- The graph that a descriptor's bytes spell. -/
def graphEntry (addr : Nat) (b : List Nat) : Graph :=
  { id := leAt b 2 2, drain := leAt b 14 2, smpc := leAt b 40 2, addr := addr, total := leAt b 4 4,
    nodes := (List.range (leAt b 8 2)).map fun k => nodeEntry addr (leAt b 28 4) (leAt b 32 4) ((b.drop (leAt b 16 4 + 64 * k)).take 64),
    flues := (List.range (leAt b 10 2)).map fun i => flueEntry ((b.drop (leAt b 20 4 + 32 * i)).take 32),
    grants := (List.range (leAt b 12 2)).map fun i => grantEntry ((b.drop (leAt b 24 4 + 16 * i)).take 16) }

/-! ### The checks (R212) -/

/-- Two ranges of addresses overlap. -/
def rangesMeet (a n b m : Nat) : Bool := decide (a < b + m ∧ b < a + n)

/-- Bytes that a flue's ring takes. -/
def GFlue.size (f : GFlue) : Nat := f.slots * f.bytes

/-- Two flues overlap: in one cluster SRAM, or in GDDR7. -/
def GFlue.meets (f g : GFlue) : Bool :=
  ((decide (f.loc < 16) && f.loc == g.loc) || decide (16 ≤ f.loc ∧ 16 ≤ g.loc)) && rangesMeet f.base f.size g.base g.size

/-- Some pair of entries at different places satisfies a relation. -/
def anyPair {α : Type} (r : α → α → Bool) : List α → Bool
  | [] => false
  | x :: xs => xs.any (r x) || anyPair r xs

/-- Counts, offsets and lengths in their ranges, and areas within TOTAL (check 2). GRAPH_ID 0, KIND above 1 and MODE 3 are
refused here too, and so is a flue that names stream 63 (R288). -/
def graphCheck2 (b : List Nat) (g : Graph) : Bool :=
  let total := leAt b 4 4
  let area (ofs len : Nat) : Bool := ofs % 64 == 0 && decide (ofs + len ≤ total)
  let nodes := leAt b 8 2
  let flues := leAt b 10 2
  let grants := leAt b 12 2
  let modeOk (p : GPort) : Bool := !p.used || p.mode != 3
  g.id != 0 && decide (1 ≤ nodes ∧ nodes ≤ 64 ∧ 1 ≤ flues ∧ flues ≤ 128 ∧ grants ≤ 16) &&
  area (leAt b 16 4) (64 * nodes) && area (leAt b 20 4) (32 * flues) && area (leAt b 24 4) (16 * grants) &&
  area (leAt b 28 4) 0 && area (leAt b 32 4) (leAt b 36 4) &&
  g.nodes.all (fun n => decide (n.kind ≤ 1) && (n.kind != 0 || decide (4 ≤ n.codeLen ∧ n.codeLen ≤ 16384)) &&
    decide (n.parLen ≤ 16384 ∧ n.parAt + n.parLen ≤ g.addr + total) && n.si.all modeOk && n.so.all modeOk) &&
  g.flues.all (fun f => decide (f.loc ≤ 16 ∧ 2 ≤ f.slots ∧ f.slots ≤ 4096 ∧ 128 ≤ f.bytes ∧ f.bytes ≤ 65600) &&
    f.bytes % 64 == 0 && f.base % 64 == 0 && !f.cons.contains (4 * 4096 + 63)) &&
  g.grants.all (fun x => x.base % 64 == 0 && x.len % 64 == 0)

/-- An engine is fenced, by itself or with its cluster (R207). -/
def State.engFenced (s : State) (n : Nat) : Bool := (s.rd (CL.STAT_ENGFENCED (n / 8))).testBit (n % 8) || s.is (CL.STAT_FENCED (n / 8))

/-- Check 3. -/
def State.graphCheck3 (s : State) (g : Graph) : Bool :=
  g.nodes.all (fun n => n.engines != 0 && n.ranks.all fun i => !s.engFenced i) &&
  !anyPair (fun (a c : GNode) => a.engines.land c.engines != 0) g.nodes

/-- The endpoint words that name a port of a node, with the flue and the side. -/
def Graph.portEnds (g : Graph) : List (Nat × Nat × Bool) :=
  (List.range g.nodes.length).flatMap fun k => (List.range 4).flatMap fun p =>
    let n := g.nodes.getD k {}
    let i := n.si.getD p {}
    let o := n.so.getD p {}
    (if i.used then [(4 * k + p, i.flue, true)] else []) ++ (if o.used then [(4 * k + p, o.flue, false)] else [])

/-- An index of an endpoint kind exists (R215). -/
def epValid (w : Nat) : Bool :=
  match epKind w with
  | 0 => true
  | 1 => decide (epIndex w < 96)
  | 2 => decide (epIndex w < 256)
  | 3 => true
  | 4 => decide (epIndex w < 64)
  | _ => decide (epIndex w < 16)

/-- Check 4. -/
def graphCheck4 (g : Graph) : Bool :=
  let nodeEnd (w : Nat) : Nat := 2 * 4096 + w
  let prods := g.flues.map (·.prod)
  let cons := g.flues.flatMap fun f => (f.cons.filter fun w => epKind w != 0).eraseDups
  g.flues.all (fun f => decide (1 ≤ epKind f.prod ∧ epKind f.prod ≤ 3) && epValid f.prod &&
    f.cons.any (fun w => epKind w != 0) &&
    f.cons.all fun w => (epKind w == 0 || decide (2 ≤ epKind w ∧ epKind w ≤ 5)) && epValid w) &&
  g.portEnds.all (fun e =>
    let f := g.flues.getD e.2.1 {}
    if e.2.2 then f.cons.contains (nodeEnd e.1) else f.prod == nodeEnd e.1) &&
  (prods.filter fun w => epKind w == 2).all (fun w => g.portEnds.any fun e => !e.2.2 && nodeEnd e.1 == w) &&
  (cons.filter fun w => epKind w == 2).all (fun w => g.portEnds.any fun e => e.2.2 && nodeEnd e.1 == w) &&
  !anyPair (fun a c => a == c) (prods.filter fun w => epKind w == 2) &&
  !anyPair (fun a c => a == c) (cons.filter fun w => epKind w == 2)

/-- Check 5. -/
def graphCheck5 (g : Graph) : Bool :=
  let sram := g.flues.filter fun f => decide (f.loc < 16)
  sram.all (fun f => decide (f.base + f.size ≤ 0x100000) &&
    (!g.smpc.testBit f.loc || !rangesMeet f.base f.size 0xF0000 0x10000)) &&
  !anyPair GFlue.meets sram

/-- Check 6. -/
def graphCheck6 (b : List Nat) (g : Graph) : Bool :=
  g.nodes.all fun n =>
    if n.kind = 0 then
      decide (n.codeAt + n.codeLen ≤ g.addr + leAt b 32 4 + leAt b 36 4 ∧ n.entry % 4 = 0 ∧ n.entry < n.codeLen)
    else decide (1 ≤ n.lib ∧ n.lib ≤ 7)

/-- Check 8. -/
def State.graphCheck8 (s : State) (g : Graph) : Bool :=
  let fl := g.flues.filter fun f => decide (16 ≤ f.loc)
  fl.all (fun f => decide (f.base + f.size ≤ s.memTop)) &&
  g.grants.all (fun x => decide (x.base + x.len ≤ s.memTop) && !fl.any fun f => rangesMeet x.base x.len f.base f.size)

/-- The first check of R212 that a descriptor at an address fails. -/
def State.graphChecks (s : State) (addr : Nat) (b : List Nat) : Option Nat :=
  let total := leAt b 4 4
  let g := graphEntry addr b
  if leAt b 0 2 ≠ 1 then some 1
  else if total < 64 ∨ s.memTop < addr + total then some 2
  else if crc32c (b.take 60 ++ List.replicate 4 0 ++ b.drop 64) ≠ leAt b 60 4 then some 1
  else if graphCheck2 b g = false then some 2
  else if s.graphCheck3 g = false then some 3
  else if graphCheck4 g = false then some 4
  else if graphCheck5 g = false then some 5
  else if graphCheck6 b g = false then some 6
  else if g.flues.any (fun f => decide (f.slots < f.hiwm ∨ f.hiwm ≤ f.lowm)) then some 7
  else if s.graphCheck8 g = false then some 8
  else if g.flues.any (fun f => ((s.graph.active.getD {}).flues).any f.meets) then some 9
  else none

/-- GRAPH_LOAD (R212). -/
def cmdGraphLoad : CmdBody := fun c s =>
  let a := c.arg64 0
  if a % 64 ≠ 0 ∨ s.memTop < a + 64 then (s, some (.err 0x0202 0))
  else
    let h := s.memBytes .gddr a 64
    let n := if leAt h 0 2 = 1 ∧ 64 ≤ leAt h 4 4 ∧ a + leAt h 4 4 ≤ s.memTop then leAt h 4 4 else 64
    let r := s.memRead .gddr a n
    match r.2.2.graphChecks a r.1 with
    | some k => (r.2.2, some (.err 0x0601 k))
    | none =>
      let g := graphEntry a r.1
      (r.2.2.setGraph { r.2.2.graph with staged := some g }, some (.staged_ [g.id]))

/-- FLUE_STATUS (R218): an index that names no flue of the active graph is out of range. -/
def cmdFlueStatus : CmdBody := fun c s =>
  let i := c.arg 0
  if (s.graph.active.getD {}).flues.length ≤ i then (s, some (.err 0x0201 0))
  else
    let f := s.flue s.graph.gen i
    (s.setFlue s.graph.gen i { f with sticky := false },
     some (.ok [f.items.length, b2n f.high + 2 * b2n f.sticky + 256 * f.cross, f.shown % 2 ^ 32]))

/-- Occurrences that wait under a code that is no longer enabled are discarded (R11). -/
def State.evDiscard (s : State) : State :=
  { s with events := { s.events with pend := s.events.pend.filter (fun e => s.evOn e.code e.idx),
                                     out := s.events.out.filter fun e => s.evOn e.code e.idx } }

/-- GRAPH_EVTEN (R234). -/
def cmdGraphEvten : CmdBody := fun c s =>
  ({ s with events := { s.events with grfEn := c.arg 0 % 2 ^ 8 } }.evDiscard, some (.ok []))

/-! ### Kernel starts (R178, R207, R210) -/

/-- The node of a graph that places an engine, with the engine's rank. -/
def Graph.place (g : Graph) (n : Nat) : Option (Nat × Nat) :=
  ((List.range g.nodes.length).find? fun k => (g.nodes.getD k {}).engines.testBit n).map fun k =>
    (k, ((g.nodes.getD k {}).ranks.filter fun i => decide (i < n)).length)

/-- Write zeros over a whole memory of an engine. -/
def State.engClear (s : State) (m : MemId) : State :=
  match m with
  | .imem g => { s with mems := { s.mems with imem := memsPut s.mems.imem g [] } }
  | .dmem g => { s with mems := { s.mems with dmem := memsPut s.mems.dmem g [] } }
  | _ => s

/-- Load a kernel into the engine that runs in-service engine `n` and start it (R178): code at IMEM 0 with zeros beyond, the
parameter block in DMEM, X2, X3, X30 and PC set, every other register and RW CSR 0. -/
def State.kernelLoad (s : State) (n gen node rank limit : Nat) : State :=
  let g := s.runner n
  let d := s.nodeDef gen node
  let clean := s.memu.faults.filter fun f => !decide (wordKey (.imem g) 0 ≤ f.1 ∧ f.1 ≤ wordKey (.imem g) 0x3FFF)
  let s1 := (s.engClear (.imem g)).setMemu { s.memu with faults := clean }
  let s2 := if d.kind = 0 then s1.memCopy .gddr d.codeAt (.imem g) 0 d.codeLen else s1
  let s3 := s2.memCopy .gddr d.parAt (.dmem g) d.parDmem (min d.parLen (0x8000 - d.parDmem))
  let e : Engine := { x := [(2, BitVec.ofNat 32 d.stack), (3, BitVec.ofNat 32 d.parDmem), (30, BitVec.ofNat 32 rank)],
                      cyc0 := s.clocks, gen := gen, node := node, rank := rank, bound := true, wdLim := limit, wdAt := s.now }
  let s4 := s3.setEng g { e with injIll := (s.eng g).injIll, injDmem := (s.eng g).injDmem, injImem := (s.eng g).injImem }
  ((s4.wr (ENG.STAT_STATE g) 1).wr (ENG.EXC_CAUSE g) 0).wr (ENG.PC g) (if d.kind = 0 then d.entry else 0)

/-- GRAPH_ACTIVE once every engine of the new graph has started (R214). -/
def State.graphStarted (s : State) : State :=
  let g := s.graph.active.getD {}
  if s.graph.owed ∧ s.graph.due.all (fun n => (g.place n).isNone) then
    (s.setGraph { s.graph with owed := false }).graphEvent 0x1401 0 s.graph.gen
  else s

/-- The generation whose kernel an engine runs next: the next one that places it. -/
def State.nextGen (s : State) (n : Nat) : Nat :=
  let e := s.eng (s.runner n)
  if e.bound then
    (s.gens.find? fun g => decide (e.gen < g) && ((s.graphOf g).place n).isSome).getD s.graph.gen
  else s.graph.gen

/-- An engine has changed over: its kernel starts with the watchdog limit of its node, staged and active, or it halts where no
later graph places it (R207, R214). -/
def State.kernelChange (s : State) (n : Nat) : State :=
  let u := s.graph
  let gen := s.nextGen n
  let s0 := if gen = u.gen then s.setGraph { u with due := u.due.erase n } else s
  match (s.graphOf gen).place n with
  | some (k, r) =>
    let w := (s.nodeDef gen k).wdog
    ((s0.wrBoth (ENG.WDOG_LIMIT n) w).kernelLoad n gen k r w).graphStarted
  | none =>
    let g := s.runner n
    ((s0.setEng g { s.eng g with wait := none, bound := false }).wr (ENG.STAT_STATE g) 2).graphStarted

/-- A graph that is no longer active still has work: an engine runs its kernel, a flue of it holds an item, or a frame of a
context goes through it (R213, R214). -/
def State.genBusy (s : State) (gen : Nat) : Bool :=
  (s.engines.any fun e => e.2.bound && e.2.gen == gen) ||
  (s.graph.flues.any fun f => f.1 / 128 == gen && f.2.items != []) || s.ctxs.any fun c => c.2.frames.any fun m => m.gen == gen

/-- The graph's part of an epoch commit: the staged graph becomes active; engines of it or of an earlier one are due. Graphs with
no work left, up to the first that has some, are dropped (R213, R214). -/
def State.graphCommit (s : State) : State :=
  match s.graph.staged with
  | none => s
  | some g =>
    let u := s.graph
    let engines (x : Option Graph) : List Nat := (List.range 128).filter fun n => ((x.getD {}).place n).isSome
    let was := u.due ++ engines u.active ++ engines (some g)
    let olds := (match u.active with
      | some a => AMap.set u.olds u.gen a
      | none => u.olds).dropWhile fun o => !s.genBusy o.1
    let low := (olds.head?.map Prod.fst).getD (u.gen + 1)
    let s1 := s.setGraph { u with
      staged := none, active := some { g with since := s.now }, olds := olds, gen := u.gen + 1, owed := true,
      due := (List.range 128).filter was.contains, stopped := u.stopped.filter fun x => decide (low ≤ x),
      flues := u.flues.filter (fun f => decide (low ≤ f.1 / 128)), nodes := u.nodes.filter fun f => decide (low ≤ f.1 / 64) }
    s1.graphStarted

/-- The engine runs, or ran, a kernel of a graph that is being drained (R214). -/
def State.engOld (s : State) (n : Nat) : Bool :=
  let e := s.eng (s.runner n)
  e.bound && decide (e.gen < s.graph.gen)

/-- Flues of an engine's input ports. -/
def State.inFlues (s : State) (g : Nat) : List (Nat × Nat) :=
  let e := s.eng g
  (List.range 4).filterMap fun p =>
    let q := (s.nodeDef e.gen e.node).si.getD p {}
    if q.used then some (p, q.flue) else none

/-- An engine of the old graph is drained: it waits in SLEN, no output item is open, and its input flues hold nothing
(R214). -/
def State.engDrained (s : State) (g : Nat) : Bool :=
  let e := s.eng g
  (match e.wait with
    | some (.item _) => true
    | _ => false) && decide (e.outCur = []) && (s.inFlues g).all fun x => decide ((s.flue e.gen x.2).items = [])

/-- Row KERNEL_START: an engine of the new graph alone starts at the commit (R178, R214). -/
def execKernelStart (n : Fin 128) (t : Nat) (s : State) : Host.Outcome State Fault Refusal :=
  .next (if s.graph.due.contains n.val ∧ s.engOld n = false then (s.at t).kernelChange n else s)

/-- Row ENGINE_CHANGEOVER: a drained engine of the old graph is loaded with its new kernel and started, or halts where the new
graph does not place it (R214). -/
def execEngineChangeover (n : Fin 128) (t : Nat) (s : State) : Host.Outcome State Fault Refusal :=
  .next (if s.graph.due.contains n.val ∧ s.engOld n ∧ s.engDrained (s.runner n) then (s.at t).kernelChange n else s)

/-- Stop a late engine: its open items are discarded and their frames carry GRAPH_FAULT (R214, R222). -/
def State.lateStop (s : State) (n : Nat) : State :=
  let g := s.runner n
  let e := s.eng g
  let s1 := e.outCur.foldl (fun s o =>
    let q := (s.nodeDef e.gen e.node).so.getD o.1 {}
    let x := (s.flue e.gen q.flue).item o.2
    let s1 := if 4 ≤ x.wr then s.loseFrame e.gen e.node (s.itemFrame e.gen q.flue x) else s
    s1.flueDiscard e.gen q.flue o.2) s
  (((s1.setEng g { s1.eng g with wait := none, outCur := [], inCur := [], stopAt := true }).wr (ENG.STAT_STATE g) 2).barShow
    (s.clusterOf g)).graphEvent 0x1402 n s.graph.gen



/-- The output flues of a node that have not taken the record of a frame yet. -/
def State.recordOwed (s : State) (gen k num : Nat) : List Nat :=
  (((s.nodeDef gen k).so.filter (·.used)).map GPort.flue).filter fun i => (s.flue gen i).recd != some num

/-- Service firmware forwards a record to the node's output flues in the node's place, once (R214). -/
def State.forwardRecord (s : State) (gen k rank num : Nat) (bs : List Nat) : State :=
  (s.recordOwed gen k num).foldl (fun s i =>
    let seq := (s.flue gen i).claimed
    ((s.flueClaim gen i bs.length rank).flueAppend gen i seq bs).flueClose gen i seq) s

/-- What a late engine leaves in its input flues: items are discarded, records wait for output credit and are forwarded, but for
those that HDR_MERGE consumes (R214, R508). -/
def State.lateDrain (s : State) (n : Nat) : State :=
  let g := s.runner n
  let e := s.eng g
  let d := s.nodeDef e.gen e.node
  (s.inFlues g).foldl (fun s x =>
    let j := (s.flueDef e.gen x.2).consumer (2 * 4096 + 4 * e.node + x.1)
    ((s.flue e.gen x.2).items.filter fun i => i.left.contains (j, e.rank) || i.left.contains (j, 255)).foldl (fun s i =>
      let reader := if i.left.contains (j, e.rank) then (j, e.rank) else (j, 255)
      let num := s.itemFrame e.gen x.2 i
      if s.itemIsRec e.gen x.2 i then
        if d.kind = 1 ∧ d.lib = 2 ∧ x.1 ≠ 0 then s.flueFinish e.gen x.2 i.seq reader
        else if (s.recordOwed e.gen e.node num).all fun f => s.flueCredit e.gen f then
          (s.forwardRecord e.gen e.node e.rank num (s.itemBytes e.gen x.2 i)).flueFinish e.gen x.2 i.seq reader
        else s
      else (s.loseFrame e.gen e.node num).flueFinish e.gen x.2 i.seq reader) s) s

/-- Some record still waits at a late engine for output credit. -/
def State.lateLeft (s : State) (n : Nat) : Bool :=
  let e := s.eng (s.runner n)
  (s.inFlues (s.runner n)).any fun x =>
    let j := (s.flueDef e.gen x.2).consumer (2 * 4096 + 4 * e.node + x.1)
    (s.flue e.gen x.2).items.any fun i => i.left.contains (j, e.rank) || i.left.contains (j, 255)

/-- Row GRAPH_DRAIN_LATE: an engine not drained DRAIN ms after the commit that replaced its graph is stopped; it changes over once
its records have been forwarded, which the row goes on with where output credit came late (R214). -/
def execGraphDrainLate (n : Fin 128) (t : Nat) (s : State) : Host.Outcome State Fault Refusal :=
  let e := s.eng (s.runner n)
  let by_ := s.graphOf (e.gen + 1)
  .next (if s.graph.due.contains n.val ∧ s.engOld n ∧ by_.since + 1000000 * max 1 by_.drain ≤ t ∧
      (e.stopAt ∨ s.engDrained (s.runner n) = false) then
    let s0 := s.at t
    let s1 := if e.stopAt then s0 else s0.lateStop n
    let s2 := s1.lateDrain n
    if s2.lateLeft n then s2 else s2.kernelChange n
  else s)

/-- Row NODE_RESTART: service firmware restarts a faulted rank at the start of the next frame on its SI0 port (R223). -/
def execNodeRestart (n : Fin 128) (t : Nat) (s : State) : Host.Outcome State Fault Refusal :=
  let g := s.runner n
  let e := s.eng g
  let q := (s.nodeDef e.gen e.node).si.getD 0 {}
  let j := (s.flueDef e.gen q.flue).consumer (2 * 4096 + 4 * e.node)
  let frame := !q.used || AMap.get 0 (s.flue e.gen q.flue).deal j == 0
  .next (if s.svcRunning ∧ s.rd (ENG.STAT_STATE g) = 3 ∧ e.bound ∧ s.graph.stopped.contains e.gen = false ∧ frame ∧
      (s.gnode e.gen e.node).gone.contains e.rank = false then
    (((s.at t).kernelLoad n e.gen e.node e.rank (s.cfg (ENG.WDOG_LIMIT n))).rankRejoin e.gen e.node e.rank).graphEvent
      0x1405 e.node e.gen
  else s)

/-- Row GRAPH_LOAD. -/
def execGraphLoad (p : Cmd) (t : Nat) (s : State) : Host.Outcome State Fault Refusal :=
  .next (s.svcCommand (cmdPkt p 0x0501 t) [0, 1] true cmdGraphLoad)
/-- Row FLUE_STATUS. -/
def execFlueStatus (p : Cmd) (t : Nat) (s : State) : Host.Outcome State Fault Refusal :=
  .next (s.svcCommand (cmdPkt p 0x0502 t) [0] false cmdFlueStatus)
/-- Row GRAPH_EVTEN. -/
def execGraphEvten (p : Cmd) (t : Nat) (s : State) : Host.Outcome State Fault Refusal :=
  .next (s.svcCommand (cmdPkt p 0x0503 t) [0] false cmdGraphEvten)

end Sys2Proof.Machine
end

