-- ==== Sys2Proof/Machine/Float.lean ====
section
/-! DEFINITION. IEEE 754 binary64 arithmetic as R245 uses it: exact values rounded to nearest, ties to even. The sign of a
zero is not kept: no result of R245 depends on it. -/

namespace Sys2Proof.Machine

/-- A binary64 value: n × 2^e, an infinity, or not a number. -/
inductive Fl where
  | fin (n : Int) (e : Int)
  | inf (neg : Bool)
  | nan
  deriving DecidableEq, Repr

/-- 2 to a power as a numerator and a denominator. -/
def twoPow (e : Int) : Nat × Nat := if 0 ≤ e then (2 ^ e.toNat, 1) else (1, 2 ^ (-e).toNat)

/-- Round n/d to binary64: 53 bits, least exponent -1074, to nearest, ties to even. -/
def Fl.ofRat (n : Int) (d : Nat) : Fl :=
  let a := n.natAbs
  if a = 0 ∨ d = 0 then .fin 0 0
  else
    let e0 : Int := (a.log2 : Int) - d.log2
    -- e0 is the exponent of the value or one more
    let low := let p := twoPow e0; decide (a * p.2 < d * p.1)
    let e := if low then e0 - 1 else e0
    let q := max (e - 52) (-1074)
    let p := twoPow q
    let num := a * p.2
    let den := d * p.1
    let m := num / den
    let r := num % den
    let m1 := if den < 2 * r ∨ (2 * r = den ∧ m % 2 = 1) then m + 1 else m
    if 2 ^ 1024 ≤ m1 * (twoPow q).1 then .inf (decide (n < 0))
    else .fin (if n < 0 then -(m1 : Int) else m1) q

/-- The value of a binary64 pattern. -/
def Fl.ofBits (b : Nat) : Fl :=
  let neg := b.testBit 63
  let ex := bitsOf b 52 11
  let m := b % 2 ^ 52
  if ex = 2047 then (if m = 0 then .inf neg else .nan)
  else
    let v : Nat := if ex = 0 then m else m + 2 ^ 52
    .fin (if neg then -(v : Int) else v) ((max ex 1 : Nat) - 1075)

/-- An integer. -/
def Fl.ofInt (n : Int) : Fl := Fl.ofRat n 1

/-- n × 2^e as a fraction. -/
def fracOf (n e : Int) : Int × Nat := (n * (twoPow e).1, (twoPow e).2)

/-- Sum. -/
def Fl.add : Fl → Fl → Fl
  | .nan, _ | _, .nan => .nan
  | .inf a, .inf b => if a = b then .inf a else .nan
  | .inf a, _ | _, .inf a => .inf a
  | .fin n e, .fin m f =>
    let a := fracOf n e
    let b := fracOf m f
    Fl.ofRat (a.1 * b.2 + b.1 * a.2) (a.2 * b.2)

/-- Product. -/
def Fl.mul : Fl → Fl → Fl
  | .nan, _ | _, .nan => .nan
  | .inf a, .inf b => .inf (a != b)
  | .inf a, .fin n _ | .fin n _, .inf a => if n = 0 then .nan else .inf (a != decide (n < 0))
  | .fin n e, .fin m f => let a := fracOf (n * m) (e + f); Fl.ofRat a.1 a.2

/-- Quotient. -/
def Fl.div : Fl → Fl → Fl
  | .nan, _ | _, .nan => .nan
  | .inf _, .inf _ => .nan
  | .inf a, .fin m _ => .inf (a != decide (m < 0))
  | .fin _ _, .inf _ => .fin 0 0
  | .fin n e, .fin m f =>
    if m = 0 then (if n = 0 then .nan else .inf (decide (n < 0)))
    else
      let a := fracOf n e
      let b := fracOf m f
      Fl.ofRat (a.1 * b.2 * m.sign) (a.2 * b.1.natAbs)

/-- The value is 0 or less. -/
def Fl.nonPos : Fl → Bool
  | .fin n _ => decide (n ≤ 0)
  | .inf neg => neg
  | .nan => false

/-- The nearest multiple of 1/32, ties away from zero, in units of 1/32; none for a value that is not finite. -/
def Fl.to32 : Fl → Option Int
  | .fin n e => let a := fracOf n (e + 5); some (roundDiv a.1 a.2)
  | _ => none

end Sys2Proof.Machine
end

