-- ==== Sys2Proof/Machine/SwathDefs.lean ====
section
/-! DEFINITION. Swath descriptors: their fields, checks and the figures derived from them (R235 to R239, R250). -/

namespace Sys2Proof.Machine

/-- Swath `k`. -/
def State.swath (s : State) (k : Nat) : Swath := AMap.get {} s.swaths k

/-- Change swath `k`. -/
def State.setSwath (s : State) (k : Nat) (x : Swath) : State := { s with swaths := AMap.set s.swaths k x }

/-! ### Descriptors (R236, R237) -/

/-- An input entry of a descriptor at `addr` (R237). -/
def swInEntry (addr : Nat) (b : List Nat) : SwIn :=
  { h := (List.range 9).map fun i => leAt b (8 * i) 8, yref := sint 32 (leAt b 72 4), zone := leAt b 76 4, nbuf := b.getD 80 0,
    bytes := leAt b 84 4, grid := addr + leAt b 88 4 }

/-- The descriptor that bytes at `addr` spell (R236, R237). -/
def swathEntry (addr : Nat) (b : List Nat) : SwDesc :=
  let n := b.getD 3 0
  { swath := b.getD 2 0, axis := b.getD 4 0, ch := b.getD 5 0, out8 := (b.getD 6 0).testBit 0, mask := (b.getD 6 0).testBit 1,
    hard := (b.getD 6 0).testBit 2, w := leAt b 8 2, gsd := leAt b 10 2, umpc := leAt b 12 4, origin := leAt b 16 8,
    force := sint 32 (leAt b 24 4), rows := leAt b 28 2, tmo := leAt b 30 2, rmax := leAt b 32 4, x0 := sint 32 (leAt b 36 4),
    lo := leAt b 40 2, hi := leAt b 42 2, ramp := leAt b 44 2, gap := leAt b 46 2, store := leAt b 48 8, addr := addr,
    total := leAt b 56 4, seams := addr + 64 + 128 * n,
    inputs := (List.range n).map fun i => swInEntry addr ((b.drop (64 + 128 * i)).take 128) }

/-! ### Derived figures (R239, R250) -/

/-- A quotient rounded to nearest, ties upward; the divisor is positive. -/
def roundUp (a : Int) (b : Nat) : Int := (2 * a + b) / (2 * b)

/-- PITCH in units of 2^-16 count (R239). -/
def SwDesc.pitch (d : SwDesc) : Int := roundUp (d.gsd * 2 ^ 32) d.umpc

/-- P_k as an exact number (R239). -/
def SwDesc.rowPos (d : SwDesc) (k : Int) : Int := d.origin + k * d.pitch

/-- yref of an input in 2^-16 count (R239; ties upward as for PITCH). -/
def SwDesc.yref (d : SwDesc) (i : Nat) : Int := roundUp ((d.inputs.getD i {}).yref * 2 ^ 32) d.umpc

/-- zone of an input in 2^-16 count (R239; ties upward as for PITCH). -/
def SwDesc.zone (d : SwDesc) (i : Nat) : Int := roundUp ((d.inputs.getD i {}).zone * 2 ^ 32) d.umpc

/-- Length of a row item (R250). -/
def SwDesc.itemLen (d : SwDesc) : Nat := 40 + d.ch * d.w * (if d.out8 then 1 else 2) + (if d.mask then d.w / 8 else 0)

/-- Engine clocks of a row (R248). -/
def SwDesc.rowClocks (d : SwDesc) : Nat := ceilDiv d.w 4 + 64

/-- Bytes of the frame store. -/
def SwDesc.storeLen (d : SwDesc) : Nat := d.inputs.foldl (fun a i => a + i.nbuf * i.bytes) 0

/-- GDDR7 address of buffer `j` of input `i`: the buffers of the inputs follow one another from STORE. -/
def SwDesc.bufAt (d : SwDesc) (i j : Nat) : Nat :=
  (d.inputs.take i).foldl (fun a x => a + x.nbuf * x.bytes) d.store + j * (d.inputs.getD i {}).bytes

/-! ### The checks (R238) -/

/-- The rest of check 2: fields in range, tables and grids within TOTAL. -/
def swathCheck2 (b : List Nat) (d : SwDesc) : Bool :=
  let n := b.getD 3 0
  decide (d.swath ≤ 1 ∧ 1 ≤ n ∧ n ≤ 16 ∧ d.axis ≤ 7 ∧ (d.ch = 1 ∨ d.ch = 3) ∧ b.getD 6 0 < 8 ∧ b.getD 7 0 = 0) &&
  decide (8 ≤ d.w ∧ d.w ≤ 16384 ∧ d.w % 8 = 0 ∧ 250 ≤ d.gsd ∧ d.gsd ≤ 20000 ∧ d.umpc ≠ 0) &&
  decide (1 ≤ d.rows ∧ d.rows ≤ 4096 ∧ 1 ≤ d.rmax ∧ d.rmax ≤ 200000 ∧ d.store % 64 = 0) &&
  decide (64 + 128 * n + (if d.hard then d.w else 0) ≤ d.total) &&
  (List.range n).all fun i =>
    let e := (b.drop (64 + 128 * i)).take 128
    let x := d.inputs.getD i {}
    decide (2 ≤ x.nbuf ∧ x.nbuf ≤ 16 ∧ x.bytes % 64 = 0 ∧ leAt e 88 4 + 1089 ≤ d.total) &&
    ((e.drop 81).take 3 ++ (e.drop 92).take 36).all fun v => v == 0

/-- The first check of R238 that a descriptor at an address fails. -/
def State.swathChecks (s : State) (addr : Nat) (b : List Nat) : Option Nat :=
  let d := swathEntry addr b
  if leAt b 0 2 ≠ 1 then some 1
  else if d.total < 64 ∨ s.memTop < addr + d.total then some 2
  else if crc32c (b.take 60 ++ List.replicate 4 0 ++ b.drop 64) ≠ leAt b 60 4 then some 1
  else if swathCheck2 b d = false then some 2
  else if d.pitch < 256 ∨ 2 ^ 31 < d.pitch then some 3
  else if 1200000000 < d.rmax * d.rowClocks then some 4
  else if d.hi ≤ d.lo then some 5
  else if d.hard ∧ ((b.drop (64 + 128 * d.inputs.length)).take d.w).any (fun o => decide (d.inputs.length ≤ o ∧ o ≠ 255)) then some 6
  else if s.memTop < d.store + d.storeLen then some 7
  else none

/-- SWATH_LOAD (R236, R238). -/
def cmdSwathLoad : CmdBody := fun c s =>
  let a := c.arg64 0
  if a % 64 ≠ 0 ∨ s.memTop < a + 64 then (s, some (.err 0x0202 0))
  else
    let h := s.memBytes .gddr a 64
    let n := if leAt h 0 2 = 1 ∧ 64 ≤ leAt h 56 4 ∧ a + leAt h 56 4 ≤ s.memTop then leAt h 56 4 else 64
    let r := s.memRead .gddr a n
    match r.2.2.swathChecks a r.1 with
    | some k => (r.2.2, some (.err 0x0602 k))
    | none =>
      let d := swathEntry a r.1
      (r.2.2.setSwath d.swath { r.2.2.swath d.swath with staged := some d }, some (.staged_ []))

/-- The flue that a swath's rows go to in a graph. -/
def Graph.swathOut (g : Graph) (k : Nat) : Option Nat :=
  (List.range g.flues.length).find? fun i => (g.flues.getD i {}).prod == 3 * 4096 + k

/-- The condition of R238 that a swath fails against the graph that becomes active with it, numbered in the order listed. -/
def swathCondition (g : Graph) (d : SwDesc) : Option Nat :=
  match g.swathOut d.swath with
  | none => some 1
  | some f =>
    if (List.range d.inputs.length).any fun i => (g.consumed (3 * 4096 + 16 * d.swath + i)).isNone then some 1
    else if (g.flues.getD f {}).bytes - 8 < d.itemLen then some 2
    else if g.flues.any (fun x => decide (16 ≤ x.loc) && rangesMeet d.store d.storeLen x.base x.size) ||
        g.grants.any (fun x => rangesMeet d.store d.storeLen x.base x.len) then some 3
    else none

/-- Row SWATH_LOAD. -/
def execSwathLoad (p : Cmd) (t : Nat) (s : State) : Host.Outcome State Fault Refusal :=
  .next (s.svcCommand (cmdPkt p 0x0504 t) [0, 1] true cmdSwathLoad)

end Sys2Proof.Machine
end

