-- ==== Sys2Proof/Machine/IngestDefs.lean ====
section
/-! DEFINITION. The ingest configuration and its checks (R142 to R149), the pixel path, the statistics and the frame record
(R150, R155, R159 to R166, R169, R170). -/

namespace Sys2Proof.Machine

/-- The value listed under an index. -/
def AMap.look {α : Type} (m : AMap α) (k : Nat) : Option α := (m.find? fun e => e.1 == k).map Prod.snd

/-- A configuration: staged, active or taken earlier. -/
abbrev Conf := Fld → Nat

/-! ### Slots and regions (R142, R145, R159, R171) -/

/-- The slot is in use: enabled, and bound to a link that exists (R142, R171). -/
def ctxOn (f : Conf) (c : Nat) : Bool := f (CTX.SRC_EN c) == 1 && decide (f (CTX.SRC_LINK c) < 24)

/-- The pair of link and VC that a slot binds. -/
def ctxPair (f : Conf) (c : Nat) : Nat × Nat := (f (CTX.SRC_LINK c), f (CTX.SRC_VC c))

/-- The slot serves a pair. -/
def ctxServes (f : Conf) (c link vc : Nat) : Bool := ctxOn f c && ctxPair f c == (link, vc)

/-- WIDTH in force. -/
def ctxW (f : Conf) (c : Nat) : Nat := max 1 (f (CTX.GEOM_WIDTH c))
/-- HEIGHT in force. -/
def ctxH (f : Conf) (c : Nat) : Nat := max 1 (f (CTX.GEOM_HEIGHT c))
/-- Bayer phases are in use. -/
def ctxBayer (f : Conf) (c : Nat) : Bool := f (CTX.SRC_BAYER c) == 1
/-- Same-colour distance (R162). -/
def ctxDist (f : Conf) (c : Nat) : Nat := if ctxBayer f c then 2 else 1

/-- A region of a slot is enabled. -/
def rgnOn (f : Conf) (c r : Nat) : Bool := f (CTX.RGN_CFG_EN c r) == 1
/-- BIN in force: 3 acts as 0. -/
def rgnBin (f : Conf) (c r : Nat) : Nat := if f (CTX.RGN_CFG_BIN c r) < 3 then f (CTX.RGN_CFG_BIN c r) else 0
/-- Output width of a region, w_r of R145. -/
def rgnW (f : Conf) (c r : Nat) : Nat := if rgnBin f c r = 0 then f (CTX.RGN_WH_W c r) else f (CTX.RGN_WH_W c r) / 2
/-- Output height of a region (R160). -/
def rgnH (f : Conf) (c r : Nat) : Nat := if rgnBin f c r = 0 then f (CTX.RGN_WH_H c r) else f (CTX.RGN_WH_H c r) / 2
/-- The check unit that a region's bytes go to (R168). -/
def rgnChk (f : Conf) (c r : Nat) : Option Nat :=
  if f (CTX.RGN_CFG_CHK_EN c r) = 1 ∧ f (CTX.RGN_CFG_CHK c r) < 16 then some (f (CTX.RGN_CFG_CHK c r)) else none

/-- Peak turn cost of a slot in ingest clocks (R145). -/
def turnCost (f : Conf) (c : Nat) : Nat :=
  if ctxOn f c then ((List.range 4).filter (rgnOn f c)).foldl (fun a r => a + ceilDiv (rgnW f c r) 2 + 4) 0 else 0

/-- The other slot of the pipeline. -/
def otherSlot (c : Nat) : Nat := if c % 2 = 0 then c + 1 else c - 1

/-- t_w in ingest clocks, without its 2 µs (R149). -/
def tailClocks (f : Conf) (c : Nat) : Nat := turnCost f (otherSlot c) + 3 * turnCost f c + 256

/-- GW, GH, SX and SY in force (R164, R171). -/
def shdGW (f : Conf) (c : Nat) : Nat := max 2 (min 65 (f (CTX.SHD_GW c)))
/-- See `shdGW`. -/
def shdGH (f : Conf) (c : Nat) : Nat := max 2 (min 49 (f (CTX.SHD_GH c)))
/-- See `shdGW`. -/
def shdSX (f : Conf) (c : Nat) : Nat := max 4 (min 10 (f (CTX.SHD_SX c)))
/-- See `shdGW`. -/
def shdSY (f : Conf) (c : Nat) : Nat := max 4 (min 10 (f (CTX.SHD_SY c)))
/-- Base of the shading grid. -/
def shdAddr (f : Conf) (c : Nat) : Nat := base64 (f (CTX.SHD_ADDR_LO_ADDR c)) (f (CTX.SHD_ADDR_HI_ADDR c))
/-- Bytes of the shading grid: four planes, of which a mono context reads the first (R164). -/
def shdLen (f : Conf) (c : Nat) : Nat := 2 * shdGW f c * shdGH f c * (if ctxBayer f c then 4 else 1)
/-- Base of the static map. -/
def mapAddr (f : Conf) (c : Nat) : Nat := base64 (f (CTX.DPC_ADDR_LO_ADDR c)) (f (CTX.DPC_ADDR_HI_ADDR c))
/-- Entries of the static map. -/
def mapCount (f : Conf) (c : Nat) : Nat := min 65536 (f (CTX.DPC_MAP_COUNT c))
/-- A function of the pixel path is bypassed: bit 0 BLACK, 1 DPC, 2 SHADE, 3 STATS (R165). -/
def bypassed (f : Conf) (c k : Nat) : Bool := (f (CTX.BYP c)).testBit k

/-! ### The checks of R146 -/

/-- Checks 1 and 2 of slot `c` under one configuration with the other slot under another; the number of the failing one. -/
def ingShare (f g : Conf) (c : Nat) : Option Nat :=
  let o := otherSlot c
  if ctxOn f c = false then none
  else if 600000000 < f (CTX.LRATE c) * (turnCost f c + turnCost g o) then some 1
  else
    let lim := if ctxOn g o then 8192 else 16384
    let sum := ((List.range 4).filter (rgnOn f c)).foldl (fun a r => a + rgnW f c r) 0
    if lim < ctxW f c ∨ lim < sum then some 2 else none

/-- The crop rules of R159. -/
def cropOk (f : Conf) (c r : Nat) : Bool :=
  let x := f (CTX.RGN_XY_X c r)
  let y := f (CTX.RGN_XY_Y c r)
  let w := f (CTX.RGN_WH_W c r)
  let h := f (CTX.RGN_WH_H c r)
  decide (x + w ≤ ctxW f c ∧ y + h ≤ ctxH f c ∧ 8 ≤ w ∧ 8 ≤ h) &&
  (!ctxBayer f c || (x % 2 == 0 && y % 2 == 0)) &&
  (match rgnBin f c r with
    | 0 => true
    | 1 => w % 2 == 0 && h % 2 == 0
    | _ => w % 4 == 0 && h % 4 == 0)

/-- The shading grid covers the frame (R164). -/
def gridOk (f : Conf) (c : Nat) : Bool :=
  bypassed f c 2 || decide (ctxW f c - 1 ≤ (shdGW f c - 1) * 2 ^ shdSX f c ∧ ctxH f c - 1 ≤ (shdGH f c - 1) * 2 ^ shdSY f c)

/-- The regions of the module that are enabled and name check unit `n`. -/
def chkUsers (f : Conf) (n : Nat) : List Nat :=
  (List.range 24).flatMap fun c => ((List.range 4).filter fun r => ctxOn f c && rgnOn f c r && rgnChk f c r == some n).map fun _ => c

/-- Check 5 fails at slot `c`. -/
def chkClash (f : Conf) (c : Nat) : Bool :=
  ctxOn f c && (List.range 4).any fun r => rgnOn f c r &&
    match rgnChk f c r with
    | some n => decide (2 ≤ (chkUsers f n).length) || f (CHK.SRC_VALID n) == 1
    | none => false

/-- Check 7 of slot `c` against the flues of a graph. -/
def flueNamed (f : Conf) (flues : List GFlue) (c : Nat) : Bool :=
  !ctxOn f c || (List.range 4).all fun r => !rgnOn f c r ||
    (let i := f (CTX.RGN_CFG_FLUE c r)
     decide (flues.length ≤ i) || (flues.getD i {}).prod == 4096 + 4 * c + r)

/-- Check 8 fails at slot `c`. -/
def pairClash (f : Conf) (c : Nat) : Bool :=
  ctxOn f c && (List.range 24).any fun o => o != c && ctxOn f o && ctxPair f o == ctxPair f c

/-- The first slot that fails a test. -/
def firstSlot (bad : Nat → Bool) : Option Nat := (List.range 24).find? bad

/-- R146 over a staged configuration, with the active one for the mixtures of check 6 and the flues of the graph that is
active after the commit: the number of the first check that fails and 2 x pipeline + slot. The checks are taken in order of
number, each over the slots in ascending order. -/
def ingChecks (f old : Conf) (flues : List GFlue) : Option (Nat × Nat) :=
  let at_ (n : Nat) (bad : Nat → Bool) : Option (Nat × Nat) := (firstSlot bad).map fun c => (n, c)
  (((((((at_ 1 fun c => ingShare f f c == some 1).orElse fun _ =>
    at_ 2 fun c => ingShare f f c == some 2).orElse fun _ =>
    at_ 3 fun c => ctxOn f c && (List.range 4).any fun r => rgnOn f c r && !cropOk f c r).orElse fun _ =>
    at_ 4 fun c => ctxOn f c && !gridOk f c).orElse fun _ =>
    at_ 5 (chkClash f)).orElse fun _ =>
    at_ 6 fun c => (ingShare f old c).isSome || (ingShare old f c).isSome).orElse fun _ =>
    at_ 7 fun c => !flueNamed f flues c).orElse fun _ =>
    at_ 8 (pairClash f)

/-! ### Lines of a frame (R150 to R155) -/

/-- What is known of a sensor line. -/
inductive LineSt where
  | got (l : RLine)
  | fill
  | wait
  deriving DecidableEq, Repr

/-- A sensor line of a frame: received, lost or beyond the truncation boundary, or still to come; `pend` is the line of the
frame that waits for the datapath. -/
def Frm.lineSt (m : Frm) (pend : Option Nat) (y : Nat) : LineSt :=
  match AMap.look m.lines y with
  | some l => .got l
  | none =>
    if pend = some y then .wait
    else if m.closed.isSome ∨ m.last.elim false (fun k => decide (y ≤ k)) then .fill
    else .wait

/-- The configuration of a frame. -/
def Frm.conf (m : Frm) : Conf := fun f => useGet m.use f

/-- The sensor lines, or columns, that contribute to output line or column `i` of a region that starts at `o` (R160). -/
def binTaps (bin o i : Nat) : List Nat :=
  match bin with
  | 0 => [o + i]
  | 1 => [o + 2 * i, o + 2 * i + 1]
  | _ => [o + 4 * (i / 2) + i % 2, o + 4 * (i / 2) + i % 2 + 2]

/-- An output row is a fill row where a line that contributes to it is one; otherwise it waits for all of them (R155). -/
def Frm.rowSt (m : Frm) (pend : Option Nat) (c r i : Nat) : LineSt :=
  let ls := (binTaps (rgnBin m.conf c r) (m.conf (CTX.RGN_XY_Y c r)) i).map (m.lineSt pend)
  if ls.contains .fill then .fill
  else
    match ls.find? (fun l => l == .wait) with
    | some w => w
    | none => .got { dam := ls.any fun l => match l with | .got x => x.dam | _ => false }

/-! ### The pixel path (R159 to R165) -/

/-- The phase of a sensor pixel. -/
def phaseOf (bayer : Bool) (y x : Nat) : Nat := if bayer then 2 * (y % 2) + x % 2 else 0

/-- The black level of a phase. -/
def blackOf (f : Conf) (c k : Nat) : Nat :=
  match k with
  | 0 => f (CTX.BLACK0_BL0 c)
  | 1 => f (CTX.BLACK0_BL1 c)
  | 2 => f (CTX.BLACK1_BL2 c)
  | _ => f (CTX.BLACK1_BL3 c)

/-- A sensor pixel after black level; none where it is marked (R155, R161). -/
def Frm.blackPx (m : Frm) (c : Nat) (l : Array (Option Nat)) (y x : Nat) : Option Nat :=
  (l.getD x none).map fun v => if bypassed m.conf c 0 then v else v - blackOf m.conf c (phaseOf (ctxBayer m.conf c) y x)

/-- Output row `i` of a region after binning; none for a row that lies outside the region or is a fill row (R155, R160). -/
def Frm.binRow (m : Frm) (c r : Nat) (i : Int) : Option (Array (Option Nat)) :=
  let f := m.conf
  let bin := rgnBin f c r
  if i < 0 ∨ (rgnH f c r : Int) ≤ i then none
  else
    let ys := binTaps bin (f (CTX.RGN_XY_Y c r)) i.toNat
    let rows := ys.filterMap fun y => (AMap.look m.lines y).map fun l => (y, l.px.toArray)
    if rows.length ≠ ys.length then none
    else
      some (((List.range (rgnW f c r)).map fun j =>
        let ps := rows.flatMap fun l => (binTaps bin (f (CTX.RGN_XY_X c r)) j).map fun x => m.blackPx c l.2 l.1 x
        if ps.contains none then none
        else
          let vs := ps.filterMap id
          if bin = 0 then vs.head? else some ((vs.foldl (· + ·) 0 + 2) / 4)).toArray)

/-- Where a sensor coordinate that a region takes lies in its output (R160). -/
def binPlace (bin o v : Nat) : Nat :=
  match bin with
  | 0 => v - o
  | 1 => (v - o) / 2
  | _ => 2 * ((v - o) / 4) + (v - o) % 2

/-- Rows `i - d`, `i` and `i + d` of a region, and the columns of the pixels that the static map names in each. -/
structure Window where
  up    : Option (Array (Option Nat))
  mid   : Option (Array (Option Nat))
  down  : Option (Array (Option Nat))
  nup   : List Nat
  nmid  : List Nat
  ndown : List Nat

/-- The columns of a region's output row that the static map names (R162). -/
def Frm.named (m : Frm) (c r : Nat) (i : Int) : List Nat :=
  let f := m.conf
  let bin := rgnBin f c r
  let x := f (CTX.RGN_XY_X c r)
  let y := f (CTX.RGN_XY_Y c r)
  (m.defects.filter fun e => decide (y ≤ e.1 ∧ e.1 < y + f (CTX.RGN_WH_H c r) ∧ x ≤ e.2 ∧ e.2 < x + f (CTX.RGN_WH_W c r)) &&
    decide ((binPlace bin y e.1 : Int) = i)).map fun e => binPlace bin x e.2

/-- The correction window of a row (R162). -/
def Frm.window (m : Frm) (c r i : Nat) : Window :=
  let d : Int := ctxDist m.conf c
  { up := m.binRow c r (i - d), mid := m.binRow c r i, down := m.binRow c r (i + d),
    nup := m.named c r (i - d), nmid := m.named c r i, ndown := m.named c r (i + d) }

/-- A row of the window by -1, 0 or 1; a row whose pixels are all marked counts as lying beyond the border. -/
def Window.row (w : Window) (a : Int) : Option (Array (Option Nat)) :=
  let q := if a < 0 then w.up else if a = 0 then w.mid else w.down
  match q with
  | some l => if a ≠ 0 ∧ l.toList.all (·.isNone) then none else some l
  | none => none

/-- The columns named in a row of the window. -/
def Window.names (w : Window) (a : Int) : List Nat := if a < 0 then w.nup else if a = 0 then w.nmid else w.ndown

/-- The neighbour at row step `a` and column step `b` of column `x`, reflected about the border where it is not available, and
left out where the reflected one is not either or the static map names it (R162). Above and below a pixel the border is crossed by rows; where
a row is there and a pixel of it is marked, a neighbour to the side is reflected by columns. -/
def Window.nb (w : Window) (width : Nat) (d : Nat) (x : Nat) (a b : Int) : Option Nat :=
  let a' := if (w.row a).isNone then -a else a
  let inside (v : Int) : Bool := decide (0 ≤ v ∧ v < width)
  let px (a b : Int) : Option Nat :=
    let q : Int := x + b * d
    if inside q then (w.row a).bind fun l => l.getD q.toNat none else none
  let place : Int × Int := if (px a' b).isSome then (a', b) else if b = 0 then (-a', b) else (a', -b)
  let q : Int := x + place.2 * d
  if (w.names place.1).contains q.toNat then none else px place.1 place.2

/-- The median of up to four values (R162). -/
def median4 (vs : List Nat) : Option Nat :=
  let s := vs.mergeSort (fun a b => decide (a ≤ b))
  match s with
  | [] => none
  | [a] => some a
  | [a, b] => some ((a + b) / 2)
  | [_, b, _] => some b
  | _ => some ((s.getD 1 0 + s.getD 2 0) / 2)

/-- A pixel after defect correction, and whether it was replaced (R162). -/
def Window.fix (w : Window) (static dyn : Bool) (thr width d x v : Nat) : Nat × Bool :=
  let straight := ([(0, -1), (0, 1), (-1, 0), (1, 0)] : List (Int × Int)).filterMap fun e => w.nb width d x e.1 e.2
  let swap : Nat × Bool := match median4 straight with
    | some q => (q, true)
    | none => (v, false)
  if static ∧ w.nmid.contains x then swap
  else if dyn then
    let all := ([(-1, -1), (-1, 0), (-1, 1), (0, -1), (0, 1), (1, -1), (1, 0), (1, 1)] : List (Int × Int)).filterMap fun e =>
      w.nb width d x e.1 e.2
    match all with
    | [] => (v, false)
    | n :: ns => if ns.foldl max n + thr < v ∨ v + thr < ns.foldl min n then swap else (v, false)
  else (v, false)

/-- The shading gain at a sensor pixel, to the nearest 2.14 value, ties upward (R164). -/
def Frm.gain (m : Frm) (c y x : Nat) : Nat :=
  let f := m.conf
  let gw := shdGW f c
  let gh := shdGH f c
  let dx := 2 ^ shdSX f c
  let dy := 2 ^ shdSY f c
  let base := phaseOf (ctxBayer f c) y x * gw * gh
  let node (j i : Nat) : Nat := m.grid.getD (base + min j (gh - 1) * gw + min i (gw - 1)) 0
  let gx := x / dx
  let gy := y / dy
  let fx := x % dx
  let fy := y % dy
  let sum := node gy gx * (dx - fx) * (dy - fy) + node gy (gx + 1) * fx * (dy - fy) +
    node (gy + 1) gx * (dx - fx) * fy + node (gy + 1) (gx + 1) * fx * fy
  (2 * sum + dx * dy) / (2 * (dx * dy))

/-- Output row `i` of a region after shading, marked pixels none, and the defect corrections made in it (R159). -/
def Frm.outRow (m : Frm) (c r i : Nat) : List (Option Nat) × Nat :=
  let f := m.conf
  let w := m.window c r i
  let width := rgnW f c r
  let d := ctxDist f c
  let static := f (CTX.DPC_STATIC c) == 1
  let dyn := f (CTX.DPC_DYN c) == 1
  let bin := rgnBin f c r
  let y := (binTaps bin (f (CTX.RGN_XY_Y c r)) i).headD 0
  let px := (List.range width).map fun x =>
    match (w.mid.getD #[]).getD x none with
    | none => (none, false)
    | some v =>
      let p := if bypassed f c 1 then (v, false) else w.fix static dyn (f (CTX.DPC_DTHR c)) width d x v
      let sx := (binTaps bin (f (CTX.RGN_XY_X c r)) x).headD 0
      (some (if bypassed f c 2 then p.1 else min 65535 ((p.1 * m.gain c y sx + 8192) / 16384)), p.2)
  (px.map Prod.fst, (px.filter fun p => p.2).length)

/-- The bytes of pixels as a region writes them; a marked pixel leaves as FILL (R155, R169). -/
def Frm.pixelBytes (m : Frm) (c r : Nat) (px : List (Option Nat)) : List Nat :=
  let fill := m.conf (CTX.FILL c)
  px.flatMap fun p =>
    let v := p.getD fill
    if m.conf (CTX.RGN_CFG_OUT8 c r) = 1 then [min 255 ((v + 128) / 256)] else leBytes 2 v

/-- A line header (R169). -/
def lineHeader (num line region flags : Nat) : List Nat := leBytes 4 num ++ leBytes 2 line ++ [region, flags]

/-- The pixel bytes of a row, fill rows included. -/
def Frm.rowBytes (m : Frm) (c r i : Nat) (fill : Bool) : List Nat :=
  m.pixelBytes c r (if fill then List.replicate (rgnW m.conf c r) none else (m.outRow c r i).1)

/-- The flags of a row's line header. -/
def Frm.rowFlags (m : Frm) (c r : Nat) (st : LineSt) : Nat :=
  (match st with | .fill => 1 | .got l => 2 * b2n l.dam | .wait => 0) + 8 * m.conf (CTX.RGN_CFG_OUT8 c r)

/-! ### Records (R166, R170) -/

/-- The rows of a region that are not fill rows, once its frame is closed. -/
def Frm.liveRows (m : Frm) (c r : Nat) : List Nat :=
  (List.range (rgnH m.conf c r)).filter fun i => m.rowSt none c r i != .fill

/-- Defect corrections of a region in the frame. -/
def Frm.corrections (m : Frm) (c r : Nat) : Nat := (m.liveRows c r).foldl (fun a i => a + (m.outRow c r i).2) 0

/-- The 64-byte frame record of a region (R170). -/
def Frm.record (m : Frm) (c r chk sof endDev : Nat) : List Nat :=
  leBytes 4 m.num ++ [m.link, m.vc + 4 * r] ++ leBytes 2 m.flags ++ leBytes 8 sof ++ leBytes 8 endDev ++
  leBytes 2 (rgnW m.conf c r) ++ leBytes 2 (rgnH m.conf c r) ++ leBytes 2 m.filled ++ leBytes 2 m.lost ++ leBytes 2 m.dam ++
  leBytes 2 (AMap.get 0 m.drops r) ++ leBytes 2 m.extra ++ [m.tseq % 256, 0] ++ leBytes 4 chk ++
  leBytes 4 (m.corrections c r) ++ List.replicate 16 0

/-- A window of region 0's output, clipped to it: first and past-last index. -/
def clipWin (o n lim : Nat) : Nat × Nat := (min o lim, min (o + n) lim)

/-- The statistics of a frame: histogram, pixels at 65,535, sum and count over the window, focus metric (R166). A neighbour
beyond the region has no stated value (log 2); one that is marked leaves its term out. -/
def Frm.stats (m : Frm) (c : Nat) : List Nat × Nat × Nat × Nat × Nat :=
  let f := m.conf
  let w := rgnW f c 0
  let h := rgnH f c 0
  let d := ctxDist f c
  let bin := rgnBin f c 0
  let hch := f (CTX.STATCFG_HCH c)
  let (x0, x1) := clipWin (f (CTX.STATWIN_XY_X c)) (f (CTX.STATWIN_WH_W c)) w
  let (y0, y1) := clipWin (f (CTX.STATWIN_XY_Y c)) (f (CTX.STATWIN_WH_H c)) h
  let (p0, p1) := clipWin (f (CTX.FOCWIN_XY_X c)) (f (CTX.FOCWIN_WH_W c)) w
  let (q0, q1) := clipWin (f (CTX.FOCWIN_XY_Y c)) (f (CTX.FOCWIN_WH_H c)) h
  let rows := (m.liveRows c 0).map fun i => (i, (m.outRow c 0 i).1.toArray)
  let pix := (rows.filter fun r => decide (y0 ≤ r.1 ∧ r.1 < y1)).flatMap fun r =>
    let y := (binTaps bin (f (CTX.RGN_XY_Y c 0)) r.1).headD 0
    (List.range (x1 - x0)).filterMap fun j => (r.2.getD (x0 + j) none).map fun v =>
      (phaseOf (ctxBayer f c) y ((binTaps bin (f (CTX.RGN_XY_X c 0)) (x0 + j)).headD 0), v)
  let counted := pix.filter fun p => decide (4 ≤ hch) || p.1 == hch
  let hist := counted.foldl (fun a p => a.modify (p.2 / 256) (· + 1)) (Array.replicate 256 0)
  let focus := (rows.filter fun r => decide (q0 ≤ r.1 ∧ r.1 < q1)).foldl (fun a r =>
    (List.range (p1 - p0)).foldl (fun a j =>
      let x := p0 + j
      let left := if x < d then some (freeSample [166, m.num, r.1, x, 0] % 65536) else r.2.getD (x - d) none
      let right := if w ≤ x + d then some (freeSample [166, m.num, r.1, x, 1] % 65536) else r.2.getD (x + d) none
      match r.2.getD x none, left, right with
      | some v, some u, some z => a + (2 * (v : Int) - u - z).natAbs
      | _, _, _ => a) a) 0
  (hist.toList, (pix.filter fun p => p.2 == 65535).length, (pix.map Prod.snd).foldl (· + ·) 0, pix.length, focus)

/-- The 1,088 bytes of a statistics record (R166): `mean` is the mean's 16.16 value, `flk` the last flicker report. -/
def statBytes (m : Frm) (st : List Nat × Nat × Nat × Nat × Nat) (sof mean : Nat) (flk : Nat × Nat × Nat × Nat) : List Nat :=
  leBytes 4 m.num ++ [m.link, m.vc] ++ leBytes 2 m.flags ++ leBytes 8 sof ++
  leBytes 4 (min (2 ^ 32 - 1) (st.1.foldl (· + ·) 0)) ++ leBytes 4 (min (2 ^ 32 - 1) st.2.1) ++
  leBytes 8 (min (2 ^ 48 - 1) st.2.2.2.2) ++ leBytes 4 mean ++ leBytes 4 flk.1 ++ leBytes 8 flk.2.1 ++ leBytes 2 flk.2.2.1 ++
  [flk.2.2.2] ++ List.replicate 13 0 ++ st.1.flatMap (fun n => leBytes 4 (min (2 ^ 32 - 1) n))

end Sys2Proof.Machine
end

