-- ==== Sys2Proof/Machine/Admission.lean ====
section
/-! DEFINITION. Admission arithmetic: rates, charges, capacities, tail times, the tests of R300 and DMIN (R296 to R300), and
shedding (R308). Quantities are whole numbers: times are scaled by the common denominator of R299, capacities by 2 for the
share of HOLD. -/

namespace Sys2Proof.Machine

/-! ### Configurations under test (R296, R297) -/

/-- A graph with the configuration it runs under: ingest fields, swath descriptors, ranks out for good by node. -/
structure AdmPart where
  graph  : Graph
  conf   : Conf
  swaths : Nat → Option SwDesc
  gone   : Nat → Nat

/-- The active graph, or the one being drained, under the active configuration. -/
def State.admActive (s : State) (g : Graph) (gen : Nat) : AdmPart :=
  { graph := g, conf := s.cfg, swaths := fun k => (s.swath k).active, gone := fun k => (s.gnode gen k).gone.length }

/-- The graphs being drained that still overlap the active one: some engine has not changed over yet (R214). -/
def State.admOverlap (s : State) : AMap Graph :=
  s.graph.olds.filter fun o => !s.graph.due.isEmpty && (o.1 + 1 == s.graph.gen || s.engines.any fun e => e.2.bound && e.2.gen == o.1)

/-- The active configuration, with the graphs being drained while they overlap it. -/
def State.admNow (s : State) : List AdmPart :=
  [s.admActive (s.graph.active.getD {}) s.graph.gen] ++
  s.admOverlap.map fun o => s.admActive o.2 o.1

/-- The graph that a commit would make active, or leave so. -/
def State.nextGraph (s : State) : Option Graph := if s.graph.staged.isSome then s.graph.staged else s.graph.active

/-- The descriptor of a swath that a commit would make active, or leave so. -/
def State.nextSwath (s : State) (k : Nat) : Option SwDesc :=
  if (s.swath k).staged.isSome then (s.swath k).staged else (s.swath k).active

/-- The staged configuration; a staged graph is charged together with the active graph it would replace (R296). -/
def State.admNext (s : State) : List AdmPart :=
  [{ graph := s.nextGraph.getD {}, conf := s.rd, swaths := s.nextSwath,
     gone := fun k => if s.graph.staged.isSome then 0 else (s.gnode s.graph.gen k).gone.length }] ++
  (if s.graph.staged.isSome ∧ s.graph.active.isSome then [s.admActive (s.graph.active.getD {}) s.graph.gen] else [])

/-- The graphs that a commit now would run: as staged, the active one it replaces, and those that still drain beside it (R214,
R296). -/
def State.admAt (s : State) : List AdmPart := s.admNext ++ (s.admOverlap.map fun o => s.admActive o.2 o.1)

/-! ### Rates (R297) -/

/-- COST in force of a node: the library's worst case where the entry lies below it (R224). -/
def GNode.costOf (n : GNode) : Nat :=
  if n.kind = 1 then max n.cost (([96, 48, 88, 40, 60, 16, 100] : List Nat).getD (n.lib - 1) 0) else n.cost

/-- Items per second, pixels per item and bytes per second of flue `i` (R297). -/
def AdmPart.rate (p : AdmPart) : Nat → Nat → Nat × Nat × Nat
  | 0, _ => (0, 0, 0)
  | fuel + 1, i =>
    let f := p.graph.flues.getD i {}
    let x := epIndex f.prod
    match epKind f.prod with
    | 1 =>
      let c := x / 4
      let r := x % 4
      if ctxOn p.conf c ∧ rgnOn p.conf c r then
        let l := p.conf (CTX.LRATE c)
        let w := rgnW p.conf c r
        (l, w, l * (w * (if p.conf (CTX.RGN_CFG_OUT8 c r) = 1 then 1 else 2) + 8))
      else (0, 0, 0)
    | 2 =>
      let n := p.graph.nodes.getD (x / 4) {}
      let s := n.si.getD 0 {}
      if s.used then
        let q := p.rate fuel s.flue
        (q.1, q.2.1, q.1 * f.bytes)
      else (0, 0, 0)
    | 3 =>
      match p.swaths x with
      | some d => (d.rmax, d.w, d.rmax * d.itemLen)
      | none => (0, 0, 0)
    | _ => (0, 0, 0)

/-- The rates of flue `i`. -/
def AdmPart.rateOf (p : AdmPart) (i : Nat) : Nat × Nat × Nat := p.rate (p.graph.flues.length + 1) i

/-- An endpoint that `hit` names lies downstream of flue `i`: through nodes and swaths (R158, R297). -/
def Graph.reaches (g : Graph) (hit : Nat → Bool) : Nat → Nat → Bool
  | 0, _ => false
  | fuel + 1, i =>
    (g.flues.getD i {}).cons.any fun w =>
      hit w ||
      match epKind w with
      | 2 => ((g.nodes.getD (epIndex w / 4) {}).so.filter (·.used)).any fun o => g.reaches hit fuel o.flue
      | 3 => match g.swathOut (epIndex w / 16) with
        | some j => g.reaches hit fuel j
        | none => false
      | _ => false

/-- An endpoint that `hit` names lies downstream of flue `i`. -/
def Graph.feeds (g : Graph) (hit : Nat → Bool) (i : Nat) : Bool := g.reaches hit (g.flues.length + 1) i

/-- Endpoints whose presence downstream makes an element count: OPEN streams and recorder inputs (R297). -/
def admLive (cs : List (Nat × Contract)) (w : Nat) : Bool :=
  epKind w == 5 || (epKind w == 4 && cs.any fun c => c.1 == epIndex w)

/-! ### Charges and capacities (R249, R298) -/

/-- GDDR7 charge of one graph in bytes per second. -/
def AdmPart.gddr (p : AdmPart) (cs : List (Nat × Contract)) : Nat :=
  let g := p.graph
  let hot := g.feeds (admLive cs)
  let flues := (List.range g.flues.length).foldl (fun a i =>
    let f := g.flues.getD i {}
    if 16 ≤ f.loc ∧ hot i then a + (1 + (f.cons.filter fun w => epKind w != 0).length) * (p.rateOf i).2.2 else a) 0
  let swaths := ([0, 1] : List Nat).foldl (fun a k =>
    if (p.swaths k).isSome ∧ (g.swathOut k).elim false hot then
      (List.range g.flues.length).foldl (fun a i =>
        a + 3 * (p.rateOf i).2.2 * ((g.flues.getD i {}).cons.filter fun w => epKind w == 3 && epIndex w / 16 == k).length) a
    else a) 0
  let nodes := g.nodes.foldl (fun a n =>
    let s := n.si.getD 0 {}
    if s.used ∧ (n.so.filter (·.used)).any (fun o => hot o.flue) then
      let q := p.rateOf s.flue
      a + 2 * q.1 * q.2.1 * ((List.range g.grants.length).filter fun i => n.grants.testBit i).length
    else a) 0
  flues + swaths + nodes

/-- The share of R298 doubled: 2 in RUN, 1 in HOLD. -/
def State.share2 (s : State) : Nat := if s.rd SYS.PWR_STAT_STATE = 1 then 1 else 2

/-- L_host in bytes per second (R285). -/
def State.lHost (s : State) : Int := s.rd DLV.LINK_LHOST * 1000000

/-- Host capacity doubled, in bytes per second. -/
def State.hostCap2 (s : State) : Int := s.share2 * (s.lHost - 100000000)

/-- A channel is fenced (R279). -/
def State.chanFenced (s : State) : Bool := decide (s.rd MEM.STAT_FENCE < 4)

/-- Admissible GDDR7 bandwidth less the background budget (R265, R276). -/
def State.gddrRaw (s : State) : Nat :=
  let b := ([368640000000, 368640000000, 360448000000, 344064000000, 344064000000] : List Nat).getD (s.rd MEM.STAT_BAND) 0
  if s.chanFenced then b * 3 / 4 - 12288000000 else b - 16384000000

/-- GDDR7 capacity doubled, in bytes per second. -/
def State.gddrCap2 (s : State) : Nat := s.share2 * s.gddrRaw

/-- Host charge in bytes per second. -/
def admHost (cs : List (Nat × Contract)) : Nat := cs.foldl (fun a c => a + c.2.rate * 1000) 0

/-- GDDR7 charge of every graph in force. -/
def admGddr (ps : List AdmPart) (cs : List (Nat × Contract)) : Nat := ps.foldl (fun a p => a + p.gddr cs) 0

/-- Some charged node of a graph exceeds its engine capacity (R298). -/
def State.engOver (s : State) (p : AdmPart) (cs : List (Nat × Contract)) : Bool :=
  let g := p.graph
  (List.range g.nodes.length).any fun k =>
    let n := g.nodes.getD k {}
    let i := n.si.getD 0 {}
    let q := p.rateOf i.flue
    i.used && (n.so.filter (·.used)).any (fun o => g.feeds (admLive cs) o.flue) &&
    decide (s.share2 * s.rankCap (n.ranks.length - p.gone k) * 32 * 1000000 < 128 * (q.1 * q.2.1 * n.costOf))

/-- Test 3 of R300: the resource that is exceeded, 0 host, 1 GDDR7, 2 engines. -/
def State.test3 (s : State) (ps : List AdmPart) (cs : List (Nat × Contract)) : Option Nat :=
  if s.hostCap2 < 2 * admHost cs then some 0
  else if s.gddrCap2 < 2 * admGddr ps cs then some 1
  else if ps.any (fun p => s.engOver p cs) then some 2
  else none

/-! ### Tail time and window (R299) -/

/-- Where a stream's frames start: a region of a context slot, or a swath. -/
inductive Origin where
  | region (c r : Nat)
  | swath (k : Nat)
  deriving DecidableEq, Repr

/-- The nodes on the SI0 chain back from a flue, and the origin where there is one. -/
def Graph.chain (g : Graph) : Nat → Nat → List Nat × Option Origin
  | 0, _ => ([], none)
  | fuel + 1, i =>
    let w := (g.flues.getD i {}).prod
    let x := epIndex w
    match epKind w with
    | 1 => ([], some (.region (x / 4) (x % 4)))
    | 3 => ([], some (.swath x))
    | 2 =>
      let s := (g.nodes.getD (x / 4) {}).si.getD 0 {}
      if s.used then
        let q := g.chain fuel s.flue
        (x / 4 :: q.1, q.2)
      else ([x / 4], none)
    | _ => ([], none)

/-- The chain of a stream. -/
def Graph.streamChain (g : Graph) (q : Nat) : List Nat × Option Origin :=
  match g.consumed (4 * 4096 + q) with
  | some (i, _) => g.chain (g.flues.length + 1) i
  | none => ([], none)

/-- The common denominator of the times of R299 in ns: 3 x (64 - HEADROOM). -/
def State.admDen (s : State) : Nat := 3 * (64 - min 32 (s.rd DLV.ADM_HEADROOM))

/-- P_s of R299, scaled. -/
def State.tail (s : State) (p : AdmPart) (q : Nat) : Nat :=
  let den := s.admDen
  let ch := p.graph.streamChain q
  let origin := match ch.2 with
    | some (.region c _) => 5 * tailClocks p.conf c * (den / 3) + 2000 * den
    | _ => 0
  ch.1.foldl (fun a k =>
    let n := p.graph.nodes.getD k {}
    let i := n.si.getD 0 {}
    let chunk := if n.ranks.length ≤ 1 then 1 else max 1 i.chunk
    a + 5 * chunk * (p.rateOf i.flue).2.1 * n.costOf + 2000 * den) origin

/-- e_s of R299 for a bound `d`, scaled. -/
def State.window (s : State) (tail d : Nat) : Int :=
  let n := ceilDiv d 1000000 + 1
  (s.admDen : Int) * ((d : Int) - 20000 - n * (s.rd DLV.ADM_BPA * 1000)) - tail

/-- A stream in test 4: number, e_s, sigma and R, scaled alike. -/
structure AdmEnt where
  q   : Nat
  e   : Int
  sig : Int
  r   : Int

/-- The entry of a contract. -/
def State.admEnt (s : State) (p : AdmPart) (c : Nat × Contract) : AdmEnt :=
  { q := c.1, e := s.window (s.tail p c.1) c.2.d, sig := c.2.burst * c.2.maxb * 1000000000 * s.admDen, r := c.2.rate * 1000 }

/-- The demand that entries make by time `e` (R300). -/
def admDemand (es : List AdmEnt) (e : Int) : Int :=
  es.foldl (fun a j => if j.e ≤ e then a + j.sig + j.r * (e - j.e) else a) 0

/-- Test 4 of R300 over a set of entries with a doubled host capacity: the first stream at which it fails. -/
def test4 (cap2 : Int) (es : List AdmEnt) : Option Nat :=
  (es.find? fun k => decide (k.e ≤ 0) || decide (cap2 * k.e < 2 * admDemand es k.e)).map (·.q)

/-! ### DMIN (R300) -/

/-- A quotient rounded up; the divisor is positive. -/
def ceilInt (a b : Int) : Int := -((-a) / b)

/-- Where the outcome of test 4 can change as e grows past a value: 0, the windows of the other streams, and the solutions of
its linear inequalities, as scaled values rounded up. -/
def dminBreaks (cap2 : Int) (others : List AdmEnt) (sig r : Int) : List Int :=
  let own := (0 :: others.map (·.e)).filterMap fun b =>
    let set := others.filter fun j => decide (j.e ≤ b)
    let slope := cap2 - 2 * (set.foldl (fun a j => a + j.r) 0)
    let rest := 2 * (sig + set.foldl (fun a j => a + j.sig - j.r * j.e) 0)
    if 0 < slope then some (ceilInt rest slope) else none
  let at_ := others.filterMap fun k =>
    if 0 < r then some (k.e - (cap2 * k.e - 2 * (admDemand others k.e + sig)) / (2 * r)) else none
  [1] ++ (others.flatMap fun j => [j.e, j.e + 1]) ++ own ++ at_

/-- The least bound in the millisecond that ends at `m` ms for which the stream passes test 4. -/
def State.dminIn (s : State) (others : List AdmEnt) (q tail : Nat) (sig r : Int) (m : Nat) : Option Nat :=
  let den : Int := s.admDen
  let lo := max 250000 ((m - 1) * 1000000 + 1)
  let hi := m * 1000000
  let base := s.window tail hi - den * hi
  let ds := (dminBreaks s.hostCap2 others sig r).map fun e => (ceilInt (e - base) den).toNat
  let ok (d : Nat) : Bool := decide (lo ≤ d ∧ d ≤ hi) &&
    (test4 s.hostCap2 (others ++ [{ q := q, e := s.window tail d, sig := sig, r := r }])).isNone
  ((lo :: ds).filter ok).foldl (fun b d => some (b.elim d (min d))) none

/-- The first of the milliseconds from `m` on in which some bound passes. -/
def State.dminFrom (s : State) (others : List AdmEnt) (q tail : Nat) (sig r : Int) : Nat → Nat → Option Nat
  | 0, _ => none
  | k + 1, m =>
    match s.dminIn others q tail sig r m with
    | some d => some d
    | none => s.dminFrom others q tail sig r k (m + 1)

/-- DMIN of a contract among others: the smallest D of the range of R295 at which it passes test 4; where none does the spec
states no value (log 2). -/
def State.dmin (s : State) (p : AdmPart) (cs : List (Nat × Contract)) (c : Nat × Contract) : Nat :=
  let es := (cs.filter fun x => x.1 != c.1).map (s.admEnt p)
  let own := s.admEnt p c
  (s.dminFrom es c.1 (s.tail p c.1) own.sig own.r 1000 1).getD (s.free 32)

/-! ### Contracts in force (R295, R296) -/

/-- The contract of a queue as its registers hold it. -/
def State.contract (s : State) (q : Nat) : Contract :=
  { prio := s.rd (DQ.CPARM_PRIO q), burst := s.rd (DQ.CPARM_BURST q), d := s.rd (DQ.D q), rate := s.rd (DQ.RATE q),
    maxb := s.rd (DQ.MAXB q) }

/-- State of a queue: 0 CLOSED, 1 OPEN, 2 SHED, 3 SUSPENDED. -/
def State.qState (s : State) (q : Nat) : Nat := s.rd (DQ.STAT_STATE q)

/-- The OPEN contracts, by stream. -/
def State.openNow (s : State) : List (Nat × Contract) :=
  ((List.range 62).filter fun q => s.qState q == 1).map fun q => (q, s.contract q)

/-- The contracts that would be OPEN after a commit of what is staged. -/
def State.openNext (s : State) : List (Nat × Contract) :=
  (List.range 62).filterMap fun q =>
    match (s.dq q).next with
    | some (.opened c) => some (q, c)
    | some (.modified c) => if s.qState q = 1 then some (q, c) else none
    | some .resumed => some (q, s.contract q)
    | some .closed => none
    | none => if s.qState q = 1 then some (q, s.contract q) else none

/-- A stream is a consumer of a graph and its queue is enabled with rings in a configuration (test 1 of R300). Rings are
present where neither base is 0. -/
def admFed (g : Graph) (f : Conf) (q : Nat) : Bool :=
  (g.consumed (4 * 4096 + q)).isSome && f (DQ.CFG_EN q) == 1 &&
  base64 (f (DQ.DRING_LO_BASE q)) (f (DQ.DRING_HI_BASE q)) != 0 &&
  base64 (f (DQ.CRING_LO_BASE q)) (f (DQ.CRING_HI_BASE q)) != 0

/-- Tests 3 and 4 over a set of contracts; the failing test. -/
def State.admTests (s : State) (ps : List AdmPart) (cs : List (Nat × Contract)) : Option Nat :=
  match ps with
  | [] => none
  | p :: _ =>
    if cs = [] then none
    else if (s.test3 ps cs).isSome then some 3
    else if (test4 s.hostCap2 (cs.map (s.admEnt p))).isSome then some 4
    else none

/-- The last check of R377 over the graphs that will run: the tests of R300 over every contract that would be OPEN; the failing test
and the stream concerned. Test 3 names no stream: the first whose command is staged is named, else the lowest (log 26). -/
def State.admValidOf (s : State) (ps : List AdmPart) : Option (Nat × Nat) :=
  let cs := s.openNext
  match cs.find? (fun c => !admFed (s.nextGraph.getD {}) s.rd c.1) with
  | some c => some (1, c.1)
  | none =>
    match s.admTests ps cs with
    | none => none
    | some 4 => some (4, (test4 s.hostCap2 (cs.map fun c => s.admEnt (ps.headD (s.admActive {} 0)) c)).getD 0)
    | some n =>
      let staged := cs.filter fun c => (s.dq c.1).next.isSome
      some (n, ((staged ++ cs).headD (0, {})).1)

/-- The admission check of a command, of arming and of each renewal (R296, R377, R379). -/
def State.admValid (s : State) : Option (Nat × Nat) := s.admValidOf s.admNext

/-- DMIN of a stream under a contract in the staged configuration; where the stream is no consumer of the graph there is no tail time
and the value is free (R296, R300, log 2). -/
def State.dminNext (s : State) (q : Nat) (c : Contract) : Nat :=
  if ((s.nextGraph.getD {}).consumed (4 * 4096 + q)).isSome then
    s.dmin (s.admNext.headD (s.admActive {} 0)) s.openNext (q, c)
  else s.free 32

/-- A refusal sets DLV_Qn_DMIN of the stream it concerns (R296). -/
def State.dminShow (s : State) (q : Nat) (c : Contract) : State :=
  if q < 62 then s.used.wr (DQ.DMIN q) (s.dminNext q c) else s

/-- The refusal of an epoch by an admission test sets DMIN of the stream named (R296). -/
def State.dminRefused (s : State) (b q : Nat) : State :=
  if b = 2 then s.dminShow q (((s.openNext.find? fun c => c.1 == q).map Prod.snd).getD (s.contract q)) else s

/-! ### Registers of admission (R318) -/

/-- The capacity, charge and status registers follow the present condition. -/
def State.admShow (s : State) : State :=
  let cs := s.openNow
  let shed := ((List.range 62).filter fun q => s.qState q == 2).length
  ((((((((s.wr DLV.CAP_HOST_CAP ((s.hostCap2 / 2).toNat / 1000000)).wr DLV.CAP_GDDR_CAP (s.gddrCap2 / 2 / 1000000)).wr
    DLV.USE_HOST_USE (admHost cs / 1000000)).wr DLV.USE_GDDR_USE (admGddr s.admNow cs / 1000000)).wr
    DLV.ADM_STAT_SHED shed).wrB DLV.ADM_STAT_LINKDOWN (s.rd DLV.LINK_MODE == 0)).wrB
    DLV.ADM_STAT_THROTTLED (decide (s.rd THM.CLK_MHZ < 1200))).wrB DLV.ADM_STAT_HOLD (s.rd SYS.PWR_STAT_STATE == 1)).capMark

/-! ### Shedding (R308) -/

/-- What a change of which makes the engine repeat its tests: band, clock, fence, HOLD, link mode, ranks out. -/
def State.admCond (s : State) : List Nat :=
  [s.rd MEM.STAT_BAND, s.rd THM.CLK_MHZ, s.rd MEM.STAT_FENCE, s.rd SYS.PWR_STAT_STATE, s.rd DLV.LINK_MODE, s.graph.gen,
   (List.range 64).foldl (fun a k => a + (s.gnode s.graph.gen k).gone.length) 0]

/-- The stream shed first: the lowest PRIO, among equals the highest number. -/
def shedPick (cs : List (Nat × Contract)) : Option Nat :=
  (cs.foldl (fun b c => match b with
    | none => some c
    | some x => if c.2.prio < x.2.prio ∨ (c.2.prio = x.2.prio ∧ x.1 < c.1) then some c else some x) none).map Prod.fst

/-- Shed streams one at a time until the tests pass. -/
def State.shedLoop (s : State) : Nat → State
  | 0 => s
  | k + 1 =>
    let cs := s.openNow
    match s.admTests s.admNow cs, shedPick cs with
    | some _, some q =>
      let s1 := s.wr (DQ.STAT_STATE q) 2
      let s2 := { s1 with dlv := { s1.dlv with shed := q :: s1.dlv.shed } }
      (s2.raise 0x0205 q (leBytes 4 ((s.test3 s.admNow cs).getD 0))).shedLoop k
    | _, _ => s

/-- Restore shed streams, the latest first, each while the tests pass with it. -/
def State.restoreLoop (s : State) : Nat → State
  | 0 => s
  | k + 1 =>
    match s.dlv.shed with
    | [] => s
    | q :: rest =>
      if s.qState q ≠ 2 then ({ s with dlv := { s.dlv with shed := rest } }).restoreLoop k
      else if (s.admTests s.admNow ((q, s.contract q) :: s.openNow)).isNone then
        ((({ s with dlv := { s.dlv with shed := rest } }).wr (DQ.STAT_STATE q) 1).raise 0x0206 q []).restoreLoop k
      else s

/-- The tests of a management tick (R308): shedding where a condition has changed, otherwise return of shed streams. -/
def State.admTick (s : State) : State :=
  let failing := (s.admTests s.admNow s.openNow).isSome
  let s1 := { s with dlv := { s.dlv with seen := s.admCond } }
  let s2 := if s.dlv.seen ≠ s.admCond ∧ failing then s1.shedLoop 62 else if failing then s1 else s1.restoreLoop 62
  s2.admShow

end Sys2Proof.Machine
end

