-- ==== Sys2Proof/Machine/DeliveryRows.lean ====
section
/-! DEFINITION. Delivery: contracts and their commands, admission of frames, descriptors, items, chunks, completions, flushes,
stalls and the host link (R285, R290 to R311, R318). -/

namespace Sys2Proof.Machine

/-! ### Contracts (R295, R296, R300, R303) -/

/-- The contract in the argument words of STREAM_OPEN and STREAM_MODIFY (R295). -/
def CmdPkt.contract (c : CmdPkt) : Contract :=
  { prio := bitsOf (c.arg 0) 8 8, burst := bitsOf (c.arg 0) 16 8, d := c.arg 1, rate := c.arg 2, maxb := c.arg 3 }

/-- Every field of a contract lies in its range (test 2 of R300). -/
def Contract.inRange (c : Contract) : Bool :=
  decide (c.prio ≤ 7 ∧ 1 ≤ c.burst ∧ 250000 ≤ c.d ∧ c.d ≤ 1000000000 ∧ 256 ≤ c.maxb ∧ c.maxb ≤ 268435456 ∧ c.maxb % 8 = 0)

/-- A stream has a contract, or one staged for the next commit, and no staged close. -/
def State.streamLive (s : State) (q : Nat) : Bool :=
  match (s.dq q).next with
  | some .closed => false
  | some _ => true
  | none => s.qState q != 0

/-- Stage a stream command after the tests 3 and 4 of R300; DMIN follows in either case (R296, R300). -/
def State.stageStream (s : State) (q : Nat) (op : StreamOp) (c : Contract) (res : Bool) : State × Option Reply :=
  let s1 := s.setDq q { s.dq q with next := some op }
  let dm := s1.dminNext q c
  match s1.admTests s1.admNext s1.openNext with
  | some n => ((s.used.wr (DQ.DMIN q) dm), some (.err 0x0401 n))
  | none => ((s1.used.wr (DQ.DMIN q) dm), some (.staged_ (if res then [dm] else [])))

/-- A stream command is refused by a numbered test (R296, R300). -/
def State.admRefuse (s : State) (q test : Nat) (c : Contract) : State × Option Reply := (s.dminShow q c, some (.err 0x0401 test))

/-- STREAM_OPEN (R296, R300). -/
def cmdStreamOpen : CmdBody := fun c s =>
  let q := c.arg 0 % 256
  let k := c.contract
  if bitsOf (c.arg 0) 24 8 ≠ 0 then (s, some (.err 0x0102 11))
  else if admFed (s.nextGraph.getD {}) s.rd q = false ∨ s.streamLive q then s.admRefuse q 1 k
  else if 62 ≤ q ∨ k.inRange = false then s.admRefuse q 2 k
  else s.stageStream q (.opened k) k true

/-- STREAM_CLOSE (R296): a stream with no contract is in the wrong state. -/
def cmdStreamClose : CmdBody := fun c s =>
  let q := c.arg 0
  if 62 ≤ q then (s, some (.err 0x0201 0))
  else if s.streamLive q = false then (s, some (.err 0x0301 0))
  else if s.qState q = 0 then (s.setDq q { s.dq q with next := none }, some (.staged_ []))
  else (s.setDq q { s.dq q with next := some .closed }, some (.staged_ []))

/-- STREAM_RESUME (R296, R309): a stream that is not SUSPENDED is in the wrong state. -/
def cmdStreamResume : CmdBody := fun c s =>
  let q := c.arg 0
  if 62 ≤ q then (s, some (.err 0x0201 0))
  else if s.qState q ≠ 3 ∨ s.streamLive q = false then (s, some (.err 0x0301 0))
  else if admFed (s.nextGraph.getD {}) s.rd q = false then s.admRefuse q 1 (s.contract q)
  else s.stageStream q .resumed (s.contract q) false

/-- STREAM_MODIFY (R296): a stream with no contract is in the wrong state; then the tests of R300 in their order. -/
def cmdStreamModify : CmdBody := fun c s =>
  let q := c.arg 0 % 256
  let k := c.contract
  if bitsOf (c.arg 0) 24 8 ≠ 0 then (s, some (.err 0x0102 11))
  else if q < 62 ∧ s.streamLive q = false then (s, some (.err 0x0301 0))
  else if admFed (s.nextGraph.getD {}) s.rd q = false then s.admRefuse q 1 k
  else if 62 ≤ q ∨ k.inRange = false then s.admRefuse q 2 k
  else if s.qState q = 0 then s.stageStream q (.opened k) k true
  else s.stageStream q (.modified k) k true

/-- A descriptor fails its test (R290): its completion and its event. -/
def State.descErr (s : State) (q desc : Nat) : State :=
  (s.complete q { desc := desc, len := 0, status := 3, bits := 0 }).raise 0x0207 q (leBytes 4 (desc % s.dqSize q))

/-- The length a descriptor needs on a queue (R290), the readout's on its queue (R340). -/
def State.descMin (s : State) (q : Nat) : Nat :=
  if 62 ≤ q then 16384
  else
    match s.rcd.read with
    | some r => if r.queue = q then r.maxb else s.rd (DQ.MAXB q)
    | none => s.rd (DQ.MAXB q)

/-- Credits taken before a contract is committed are held to its MAXB (R290). -/
def State.retestCredits (s : State) (q : Nat) : State :=
  let bad := (s.dq q).credits.filter fun c => decide (c.2.2 < s.descMin q)
  let s1 := s.setDq q { s.dq q with credits := (s.dq q).credits.filter fun c => decide (s.descMin q ≤ c.2.2) }
  (bad.foldl (fun s c => s.descErr q c.1) s1).dqShow q

/-- A committed contract: its registers, a full bucket (R296, R303). -/
def State.setContract (s : State) (q : Nat) (c : Contract) : State :=
  let s1 := ((((s.wr (DQ.D q) c.d).wr (DQ.RATE q) c.rate).wr (DQ.MAXB q) c.maxb).wr (DQ.CPARM_BURST q) c.burst).wr
    (DQ.CPARM_PRIO q) c.prio
  (s1.setBucket q (c.burst * c.maxb * 1000000)).retestCredits q

/-- A readout ends: READ_DONE with the items delivered (R341). -/
def State.readEnd (s : State) : State :=
  match s.rcd.read with
  | some r => (({ s with rcd := { s.rcd with read := none } }).wr REC.RD_STAT_STATE 0).raise 0x1105 r.queue (leBytes 4 (s.rd REC.RD_NREC_NREC))
  | none => s

/-- A flush of its queue ends a readout at the item boundary (R341). -/
def State.readQueueEnd (s : State) (q : Nat) : State :=
  if s.rcd.read.elim false (fun r => r.queue == q) then s.readEnd else s

/-- A flush is requested (R310, R311). -/
def State.flushAsk (s : State) (q : Nat) : State := s.wr (DQ.STAT_FLUSHING q) 1

/-- What a commit does to a stream with a staged command (R296). -/
def State.streamCommit (s : State) (q : Nat) : State :=
  let x := s.dq q
  let s0 := s.setDq q { x with next := none }
  match x.next with
  | none => s
  | some (.opened c) =>
    let s1 := (s0.setDq q { s0.dq q with offer := 0, refs := 0, closing := false }).wr (DQ.STAT_STATE q) 1
    s1.setContract q c
  | some (.modified c) => s0.setContract q c
  | some .resumed => s0.wr (DQ.STAT_STATE q) 1
  | some .closed => (s0.setDq q { s0.dq q with closing := true }).flushAsk q

/-- A queue whose EN changes from 0 to 1 restarts at entry 0 with the descriptors that TAIL names (R289 to R291). -/
def State.queueEnable (s : State) (q : Nat) : State :=
  s.putDq q { s.dq q with posted := s.rd (DQ.TAIL q) % s.dqSize q, fetched := 0, done := 0, credits := [], comps := [], items := [] }

/-- The delivery engine's part of a commit; `was` is the active configuration before it. -/
def State.dlvCommit (s : State) (was : Conf) : State :=
  let s1 := (List.range 64).foldl (fun s q => if was (DQ.CFG_EN q) = 0 ∧ s.cfg (DQ.CFG_EN q) = 1 then s.queueEnable q else s) s
  (((List.range 62).foldl (fun s q => s.streamCommit q) s1).admShow).wmEval

/-! ### Admission of frames (R301 to R304) -/

/-- Why a stream would refuse a frame now; none where it admits it (R302). -/
def State.refusal (s : State) (q : Nat) : Option Nat :=
  let x := s.dq q
  let st := s.qState q
  if q < 62 ∧ st = 2 then some 1
  else if q < 62 ∧ st = 3 then some 2
  else if s.is (DQ.STAT_FLUSHING q) then some 6
  else if q < 62 ∧ st = 0 then some 7
  else if x.injRef ∨ x.credits = [] then some 3
  else if q < 62 ∧ s.bucketAt q s.now < 1000000 * s.rd (DQ.MAXB q) then some 4
  else if q < 62 ∧ s.rd (DQ.CPARM_BURST q) ≤ x.items.length then some 5
  else none

/-- A frame is refused: counters, event, no effect on host memory (R302, R304). -/
def State.refuse (s : State) (q reason num : Nat) : State :=
  let s1 := (s.addSat (DQ.NREF q) 1).wr (DQ.STAT_LASTREF q) reason
  if reason = 7 then s1
  else
    let x := s1.dq q
    (s1.setDq q { x with refs := x.refs + 1, injRef := if reason = 3 then false else x.injRef }).raise 0x0201 q
      (leBytes 4 reason ++ leBytes 4 num)

/-- A frame is admitted: a credit is reserved and MAXB taken from the bucket (R302). -/
def State.admitItem (s : State) (q src cam : Nat) (tag : TagInfo) : State :=
  match (s.dq q).credits with
  | [] => s
  | cr :: rest =>
    let s1 := if q < 62 then s.setBucket q (s.bucketAt q s.now - 1000000 * s.rd (DQ.MAXB q)) else s
    let x := s1.dq q
    let i : DItem :=
      { tag := { tag with offer := x.offer, admitted := s.dev,
                          flags := tag.flags + (if s.rd THM.CLK_MHZ < 1200 then 0x40000 else 0) +
                            (if s.rd SYS.PWR_STAT_STATE = 1 then 0x80000 else 0) },
        kind := if tag.strip then 1 else 0, src := src, cam := cam, desc := cr.1, buf := cr.2.1, blen := cr.2.2,
        d := if q < 62 then s.rd (DQ.D q) else 0, maxb := if q < 62 then s.rd (DQ.MAXB q) else cr.2.2,
        prio := s.rd (DQ.CPARM_PRIO q), caps := s.capsOf s.graph.gen, gen := s.graph.gen }
    ((s1.putDq q { x with credits := rest, items := x.items ++ [i] }).addSat (DQ.NADM q) 1).wmEval

/-- The decision of one stream on a frame (R301, R302); OFFER counts while the stream has a contract. -/
def State.offer (s : State) (src cam : Nat) (tag : TagInfo) (q : Nat) : State :=
  let x := s.dq q
  let s1 := if s.qState q = 0 ∧ q < 62 then s else s.setDq q { x with offer := (x.offer + 1) % 2 ^ 32 }
  match s1.refusal q with
  | some r => s1.refuse q r tag.num
  | none => s1.admitItem q src cam tag

/-- The streams of a graph whose frames start at an origin (R294, R301): by context slot for a region, or by swath. -/
def Graph.originStreams (g : Graph) (hit : Origin → Bool) : List Nat :=
  (List.range 63).filter fun q => (g.streamChain q).2.elim false hit

/-- The delivery engine decides on a frame of an origin. -/
def State.offerFrame (s : State) (g : Graph) (hit : Origin → Bool) (src cam : Nat) (tag : TagInfo) : State :=
  (g.originStreams hit).foldl (fun s q => s.offer src cam tag q) s

/-- A stream has an admitted item of a frame of an origin that still waits for its record. -/
def State.holds (s : State) (q src num : Nat) : Bool :=
  (s.dq q).items.any fun i => i.src == src && i.tag.num == num && i.rcd.isNone

/-- The end instant of a frame is known: PROMISED is fixed for every item of it (R294, R302). -/
def State.dlvEnd (s : State) (src num endDev : Nat) : State :=
  { s with dlv := { s.dlv with ends := (src, num, endDev) :: s.dlv.ends, queues := s.dlv.queues.map fun e =>
    (e.1, { e.2 with items := e.2.items.map fun i =>
      if i.src = src ∧ i.tag.num = num ∧ i.endAt = none then
        { i with endAt := some endDev, prom := if e.1 < 62 then some (endDev + i.d) else none }
      else i }) } }

/-! ### Descriptors (R290, R318) -/

/-- A write to DLV_Qn_TAIL (R290). -/
def State.dqDoorbell (s : State) (q v : Nat) : State :=
  let x := s.dq q
  let size := s.dqSize q
  let add := (v + size - x.posted % size) % size
  if s.cfg (DQ.CFG_EN q) = 0 then s.wr (DQ.TAIL q) v
  else if size ≤ x.posted + add - x.done then s.raise 0x0208 q (leBytes 4 v)
  else (s.wr (DQ.TAIL q) v).setDq q { x with posted := x.posted + add }

/-- Row QUEUE_DOORBELL (R290). -/
def execQueueDoorbell (q : Fin 64) (v : BitVec 16) (t : Nat) (s : State) : Host.Outcome State Fault Refusal :=
  .next ((s.at t).dqDoorbell q v.toNat)

/-- Row DESCRIPTOR_FETCH: the next posted descriptor becomes a credit or completes with DESC_ERR (R290). -/
def execDescriptorFetch (q : Fin 64) (t : Nat) (s : State) : Host.Outcome State Fault Refusal :=
  let x := s.dq q
  .next (if s.cfg (DQ.CFG_EN q) = 1 ∧ s.hostUp ∧ x.fetched < x.posted then
    let base := base64 (s.cfg (DQ.DRING_LO_BASE q)) (s.cfg (DQ.DRING_HI_BASE q)) + 16 * (x.fetched % s.dqSize q)
    let addr := s.hostLE base 8
    let len := s.hostLE (base + 8) 4
    let s1 := (s.at t).setDq q { x with fetched := x.fetched + 1, injDesc := false }
    (if x.injDesc ∨ addr % 64 ≠ 0 ∨ len < s.descMin q then s1.descErr q x.fetched
      else s1.putDq q { s1.dq q with credits := x.credits ++ [(x.fetched, addr, len)] }).wmEval
  else s)

/-! ### Items and chunks (R292, R301, R305, R306) -/

/-- Append an entry to the payload; a payload that would exceed its limit is cut there (R292, R306). -/
def State.putEntry (s : State) (q : Nat) (i : DItem) (bytes : List Nat) : State × DItem :=
  let e := leBytes 4 bytes.length ++ leBytes 4 i.count ++ bytes ++ List.replicate ((8 - bytes.length % 8) % 8) 0
  let lim := i.maxb - 128
  if i.cut then (s, i)
  else if lim < i.pay.length + e.length then (s.raise 0x0209 q [], { i with pay := (i.pay ++ e).take lim, cut := true })
  else (s, { i with pay := i.pay ++ e, count := i.count + 1 })

/-- Replace an item in flight. -/
def State.setItem (s : State) (q : Nat) (i : DItem) : State :=
  s.setDq q { s.dq q with items := (s.dq q).items.map fun x => if x.desc = i.desc then i else x }

/-- The delivery engine has read an item for a queue: it goes to the admitted item of its frame, or is discarded (R263, R301,
R306). -/
def State.dlvTake (s : State) (q : Nat) (bytes : List Nat) (poison : Bool) : State :=
  match (s.dq q).items.find? (fun i => decide (i.kind ≤ 1) && i.tag.num == leAt bytes 0 4 && i.rcd.isNone) with
  | none => s
  | some i =>
    if poison then s.setItem q { i with causes := i.causes.lor 4 }
    else
      let r := s.putEntry q i bytes
      r.1.setItem q (if leAt bytes 4 2 = 0xFFFF then { r.2 with rcd := some ((bytes.drop 8).take 64) } else r.2)

/-- Row DELIVERY_ITEM: the engine reads the next visible item of a stream's flue, where the 512 KiB delivery buffer has room
for it, and frees its slot (R217, R292, R301, R312). -/
def execDeliveryItem (q : Fin 63) (t : Nat) (s : State) : Host.Outcome State Fault Refusal :=
  let s := s.endpointCatch (4 * 4096 + q.val) t
  .next (match s.endpointNext (4 * 4096 + q.val) with
    | none => s
    | some (gen, f, j, x) =>
      if 524288 < s.dlvFill + x.len + 16 then s
      else
        let r := (s.at t).endpointRead gen f j x
        (r.2.2.dlvTake q r.1 r.2.1).wmEval)

/-- Bytes of the next chunk of an item. -/
def DItem.chunk (i : DItem) : Nat := min 4096 (i.pay.length - i.sent)

/-- Whether item `a` of queue `p` goes before item `b` of queue `q` (R305): earliest PROMISED, then PRIO, then the lower stream;
those whose end instant is not known in order of ADMIT. -/
def dlvBefore (p : Nat) (a : DItem) (q : Nat) (b : DItem) : Bool :=
  match a.prom, b.prom with
  | some x, some y => decide (x < y ∨ (x = y ∧ (b.prio < a.prio ∨ (b.prio = a.prio ∧ (p < q ∨ (p = q ∧ a.desc < b.desc))))))
  | some _, none => true
  | none, some _ => false
  | none, none => decide (a.tag.admitted < b.tag.admitted ∨ (a.tag.admitted = b.tag.admitted ∧ (p < q ∨ (p = q ∧ a.desc < b.desc))))

/-- The best of the items with data ready in a range of queues. -/
def State.dlvPick (s : State) (qs : List Nat) : Option (Nat × DItem) :=
  (qs.flatMap fun q => (s.dlvCan q).map fun i => (q, i)).foldl (fun b c => match b with
    | none => some c
    | some x => if dlvBefore c.1 c.2 x.1 x.2 then some c else some x) none

/-- The item that the next chunk is taken from (R305): items of DQ62 and DQ63 ahead of the others within 100,000 bytes a tick,
otherwise after them. -/
def State.dlvNext (s : State) : Option (Nat × DItem) :=
  match s.dlvPick [62, 63], s.dlvPick (List.range 62) with
  | some c, b => if s.dlv.low + c.2.chunk ≤ 100000 then some c else b.orElse fun _ => some c
  | none, b => b

/-- Row CHUNK_WRITE: the engine writes one chunk of the most urgent item (R305). -/
def execChunkWrite (t : Nat) (s : State) : Host.Outcome State Fault Refusal :=
  .next (match (if s.hostUp then s.dlvNext else none) with
    | none => s
    | some (q, i) =>
      let n := i.chunk
      let s1 := (s.at t).hostWrite (i.buf + 128 + i.sent) ((i.pay.drop i.sent).take n)
      let s2 := s1.setItem q { i with sent := i.sent + n }
      (if 62 ≤ q then s2.lowWrite n else s2).cqFlush.wmEval)

/-- Row ITEM_COMPLETE: after the last entry the tag and the completion record are written, in ring order (R291, R293); those of DQ62
and DQ63 may stand behind admitted items (R305). -/
def execItemComplete (q : Fin 64) (t : Nat) (s : State) : Host.Outcome State Fault Refusal :=
  .next (match (s.dq q).items.find? (fun i => i.desc == (s.dq q).done) with
    | some i =>
      if s.hostUp ∧ i.rcd.isSome ∧ i.sent = i.pay.length ∧ (q.val < 62 ∨ s.lowHeld 144 = false) then
        ((s.at t).endItem q i 0 i.over i.pay.length).wmEval
      else s
    | none => s)

/-- Row ITEM_TIMEOUT: an admitted item without its frame record ITMO ms after ADMIT ends INCOMPLETE with what it holds, in its
turn in the ring (R306); an item not begun in a queue that is to flush is left to the flush (R310). -/
def execItemTimeout (q : Fin 64) (t : Nat) (s : State) : Host.Outcome State Fault Refusal :=
  .next (match (s.dq q).items.find? (fun i => i.desc == (s.dq q).done) with
    | some i =>
      if s.hostUp ∧ i.rcd.isNone ∧ i.tag.admitted + 1000000 * max 1 (s.rd DLV.ADM2_ITMO) ≤ s.devAt t ∧
          (s.is (DQ.STAT_FLUSHING q) = false ∨ i.sent ≠ 0) then
        (((s.at t).endCut q i).raise 0x020A q []).wmEval
      else s
    | none => s)

/-! ### Flushing (R310, R311) -/

/-- Row QUEUE_FLUSH: DLV_Qn_CTL.FLUSH (R310, R311). -/
def execQueueFlush (q : Fin 64) (t : Nat) (s : State) : Host.Outcome State Fault Refusal :=
  .next (((s.at t).readQueueEnd q).flushAsk q)

/-- End a flush: admitted items and credits complete FLUSHED (R310, R311). -/
def State.flushRun (s : State) (q : Nat) : State :=
  let s1 := (s.dq q).items.foldl (fun s i => s.endItem q { i with pay := i.pay.take i.sent } 1 (0x200000 + i.over) i.sent) s
  let s2 := (s1.dq q).credits.foldl (fun s c => s.complete q { desc := c.1, len := 0, status := 1, bits := 0 })
    (s1.setDq q { s1.dq q with credits := [] })
  let s3 := ((s2.wr (DQ.STAT_FLUSHING q) 0).dqShow q).raise 0x020F q []
  if (s3.dq q).closing then
    ((s3.setDq q { s3.dq q with closing := false }).wr (DQ.STAT_STATE q) 0).admShow
  else s3

/-- Row FLUSH_DONE: at the item boundary of a queue, or at once on DQ62 and DQ63, a flush that is pending runs (R310, R311). -/
def execFlushDone (q : Fin 64) (t : Nat) (s : State) : Host.Outcome State Fault Refusal :=
  .next (if s.is (DQ.STAT_FLUSHING q) ∧ s.hostUp ∧ (62 ≤ q.val ∨ (s.dq q).items.all fun i => i.sent == 0) then
    ((s.at t).flushRun q).wmEval
  else s)

/-! ### Stalls and the link (R285, R307, R309) -/

/-- Mark a cause of R307 on every item in flight. -/
def State.markItems (s : State) (bit : Nat) : State :=
  { s with dlv := { s.dlv with queues := s.dlv.queues.map fun e =>
    (e.1, { e.2 with items := e.2.items.map fun i => { i with causes := i.causes.lor bit } }) } }

/-- Suspend every OPEN and SHED contract (R309). -/
def State.suspendAll (s : State) (cause : Nat) : State :=
  let s1 := (List.range 62).foldl (fun s q => s.suspend q cause) s
  { s1 with dlv := { s1.dlv with shed := [] } }

/-- `ns` of stall are counted in the present tick; above BPA every contract is suspended (R309). -/
def State.countStall (s : State) (ns : Nat) : State :=
  let total := s.dlv.stall + ns
  let s1 := (({ s with dlv := { s.dlv with stall := total } }).wr DLV.STALL_MAX
    (max (s.rd DLV.STALL_MAX) (min total (2 ^ 32 - 1)))).markItems 1
  if s.dlv.stalled = false ∧ s.rd DLV.ADM_BPA * 1000 < total then
    ((({ s1 with dlv := { s1.dlv with stalled := true } }).raise 0x0203 0 (leBytes 4 (min total (2 ^ 32 - 1)))).suspendAll 1).admShow
  else s1

/-- Row LINK_STALL: the endpoint has held a posted write for `ns` more in this tick (R309). -/
def execLinkStall (ns : BitVec 32) (t : Nat) (s : State) : Host.Outcome State Fault Refusal :=
  .next (if ns = 0 ∨ s.hostUp = false then s else (s.at t).countStall ns.toNat)

/-- A new management tick for the stall counter and for the bytes of R305, which frees command completions that stood behind items; an
injected stall lies just above BPA (R305, R309, R318). -/
def State.stallTick (s : State) : State :=
  let s1 := { s with dlv := { s.dlv with stall := 0, stalled := false, low := 0, injStall := false } }
  (if s.dlv.injStall then s1.countStall (s.rd DLV.ADM_BPA * 1000 + 1) else s1).cqFlush

/-- L_host in MB/s by link mode (R285). -/
def linkMbps (mode : Nat) : Nat := ([0, 1500, 3000, 6000, 9000] : List Nat).getD mode 0

/-- Items in flight are discarded as the link goes down; their completions LOST wait for its return (R307, R309). -/
def State.loseItems (s : State) (q : Nat) : State :=
  ((s.dq q).items.foldl (fun s i =>
    let s1 := s.dropItem q i
    (if q < 62 then s1.bucketBack q i.maxb else s1).complete q { desc := i.desc, len := 0, status := 4, bits := 0 }) s).dqShow q

/-- Everything that waits for the host link goes out (R291, R309, R316). -/
def State.linkBack (s : State) : State :=
  (((List.range 64).foldl (fun s q => s.compFlush q (s.dq q).comps.length) s).cqFlush).evLost

/-- Row HOST_LINK: the link has trained to a mode, or is down. The router asks for mode 4 only while ASYM_EN is 1 (R285,
R309). -/
def execHostLink (mode : Fin 5) (t : Nat) (s : State) : Host.Outcome State Fault Refusal :=
  let old := s.rd DLV.LINK_MODE
  .next (if mode.val = 4 ∧ s.rd DLV.LINK_ASYM_EN = 0 then s
    else if mode.val = 0 ∧ old = 0 then s
    else
      let s1 := ((s.at t).wr DLV.LINK_MODE mode).wr DLV.LINK_LHOST (linkMbps mode)
      let s2 := if old = mode.val then s1 else s1.raise 0x020D 0 (leBytes 4 mode)
      let s3 :=
        if mode.val = 0 then (List.range 64).foldl (fun s q => s.loseItems q) (s2.suspendAll 2)
        else if old = 0 then s2.linkBack
        else s2.markItems 2
      s3.admShow.wmEval)

/-! ### Rows of the control bits and of the injections (R318) -/

/-- DLV_Qn_CTL.CLR_CNT. -/
def execDlvClrCnt (q : Fin 64) (s : State) : Host.Outcome State Fault Refusal :=
  .next ((((((s.wr (DQ.NADM q) 0).wr (DQ.NREF q) 0).wr (DQ.NLATE q) 0).wr (DQ.BYTES_LO_BYTES q) 0).wr (DQ.BYTES_HI_BYTES q) 0).wr
    (DQ.WORST q) 0)

/-- DLV_Qn_INJ.DESC: the next fetched descriptor fails R290. -/
def execDlvInjDesc (q : Fin 64) (s : State) : Host.Outcome State Fault Refusal :=
  .next (if s.injLocked then s else (s.setDq q { s.dq q with injDesc := true }))

/-- DLV_Qn_INJ.LATE: the next completion is LATE with cause 3. -/
def execDlvInjLate (q : Fin 64) (s : State) : Host.Outcome State Fault Refusal :=
  .next (if s.injLocked then s else (s.setDq q { s.dq q with injLate := true }))

/-- DLV_Qn_INJ.REFUSE: the next frame is refused with reason 3. -/
def execDlvInjRefuse (q : Fin 64) (s : State) : Host.Outcome State Fault Refusal :=
  .next (if s.injLocked then s else (s.setDq q { s.dq q with injRef := true }))

/-- DLV_CTL.INJ_STALL: the next tick counts as a stall above BPA. -/
def execDlvInjStall (s : State) : Host.Outcome State Fault Refusal :=
  .next (if s.injLocked then s else { s with dlv := { s.dlv with injStall := true } })

/-- DLV_CTL.CLR clears DLV_STALL. -/
def execDlvStallClr (s : State) : Host.Outcome State Fault Refusal := .next (s.wr DLV.STALL_MAX 0)

/-- Row STREAM_OPEN. -/
def execStreamOpen (p : Cmd) (t : Nat) (s : State) : Host.Outcome State Fault Refusal :=
  .next (s.svcCommand (cmdPkt p 0x0601 t) [0, 1, 2, 3] true cmdStreamOpen)
/-- Row STREAM_CLOSE. -/
def execStreamClose (p : Cmd) (t : Nat) (s : State) : Host.Outcome State Fault Refusal :=
  .next (s.svcCommand (cmdPkt p 0x0602 t) [0] true cmdStreamClose)
/-- Row STREAM_RESUME. -/
def execStreamResume (p : Cmd) (t : Nat) (s : State) : Host.Outcome State Fault Refusal :=
  .next (s.svcCommand (cmdPkt p 0x0603 t) [0] true cmdStreamResume)
/-- Row STREAM_MODIFY. -/
def execStreamModify (p : Cmd) (t : Nat) (s : State) : Host.Outcome State Fault Refusal :=
  .next (s.svcCommand (cmdPkt p 0x0604 t) [0, 1, 2, 3] true cmdStreamModify)

end Sys2Proof.Machine
end

