-- ==== Sys2Proof/Machine/TwoWire.lean ====
section
/-! DEFINITION. Two-wire controller ports: transactions, error codes, timeouts, bus clear and fencing, and the target
port STP (R397 to R416). -/

namespace Sys2Proof.Machine

/-- Controller port `p` beside its registers. -/
def State.twp (s : State) (p : Nat) : TwPort := AMap.get {} s.tw p

/-- Change controller port `p`. -/
def State.setTwp (s : State) (p : Nat) (x : TwPort) : State := { s with tw := AMap.set s.tw p x }

/-! ### Timing in force (R399, R400, R407) -/

/-- LOW, HIGH and the sum of SUSTA, HDSTA, SUSTO and BUF in counts, with the minimums of R400. -/
def State.twCounts (s : State) (p : Nat) : Nat × Nat × Nat :=
  (max 60 (s.rd (TWB.TIM0_LOW p)), max 32 (s.rd (TWB.TIM0_HIGH p)),
   max 32 (s.rd (TWB.TIM1_SUSTA p)) + max 32 (s.rd (TWB.TIM1_HDSTA p)) + max 32 (s.rd (TWB.TIM2_SUSTO p)) +
   max 60 (s.rd (TWB.TIM2_BUF p)))

/-- The shortest time in ns in which `n` bytes pass on a bus between a START and a STOP: LOW is extended to HDDAT + SUDAT, and no SCL period
is shorter than 120 counts (R399, R400). -/
def State.twLeast (s : State) (p n : Nat) : Nat :=
  let low := max (max 60 (s.rd (TWB.TIM0_LOW p))) (s.rd (TWB.TIM3_HDDAT p) + s.rd (TWB.TIM3_SUDAT p))
  let period := max 120 (low + max 32 (s.rd (TWB.TIM0_HIGH p)) + 2)
  ceilDiv ((max 32 (s.rd (TWB.TIM1_HDSTA p)) + 9 * n * period + max 32 (s.rd (TWB.TIM2_SUSTO p))) * 25) 3

/-- The predicted duration of a transaction in ns, in the formula of R407 (a count is 25/3 ns, a slot 160/3 ns). -/
def State.twPredict (s : State) (p wn rn : Nat) (pec rsta : Bool) : Nat :=
  let (l, h, su) := s.twCounts p
  let bits := 9 * (wn + rn + b2n pec + 1 + b2n rsta) + 1
  ceilDiv (bits * ((l + h + 2) * 25 + 3000) + su * 25 + (4 + wn + 4) * 160 + 75000) 3

/-! ### Outcomes (R403, R408) -/

/-- Record the outcome of a transaction: LASTERR, counters, sticky bits, ARB_LOST event (R403, R415). -/
def State.twOutcome (s : State) (p code idx : Nat) : State :=
  let s1 := (s.wr (TWB.STAT_LASTERR p) code).addSat (TWB.CNT0_XFER p) 1
  match code with
  | 1 | 2 => (s1.addSat (TWB.CNT0_NACK p) 1).set1 (TWB.STAT_NACK_STKY p)
  | 3 => ((s1.addSat (TWB.CNT1_ARB_LOST p) 1).set1 (TWB.STAT_ARB_STKY p)).raise 0x0D03 p [idx % 256]
  | 6 => s1.addSat (TWB.CNT2_PEC_ERR p) 1
  | _ => s1

/-- The packet of the command behind a host transaction. -/
def TwXfer.pkt (x : TwXfer) : CmdPkt := { op := 0x0901, cid := x.cid, flags := x.flags, idx := x.ring }

/-- Bytes as the words RES0 to RES3. -/
def resWords (bs : List Nat) : List Nat := toWords ((bs ++ List.replicate 16 0).take 16)

/-- BUSY follows: a host transaction or a settings write of the camera runs (R407, R415). -/
def State.twBusy (s : State) (p : Nat) : State :=
  s.wr (TWB.STAT_BUSY p) (b2n ((s.twp p).cur.isSome || (decide (p < 24) && (AMap.get {} s.cams p).writing.isSome)))

/-- A host transaction ends: its command replies unless it has timed out already (R403, R404). -/
def State.twReply (s : State) (p : Nat) (x : TwXfer) (r : Reply) : State :=
  let s1 := (s.setTwp p { s.twp p with cur := none }).twBusy p
  if x.replied then s1 else s1.cmdReply x.pkt r

/-- A host transaction ends with a code of R403, the byte index and the bytes read. -/
def State.twEnd (s : State) (p : Nat) (x : TwXfer) (code idx : Nat) (rd : List Nat) : State :=
  (s.twOutcome p code idx).twReply p x
    (if code = 0 then .ok (resWords rd) else { status := 0x0A03, detail := code + 256 * (idx % 256), res := resWords rd })

/-! ### Bus clear and fencing (R409) -/

/-- Pulses until SDA is high: none while SDA is high; otherwise the bus decides, so the count is a free value, above 9
where SDA stays low (log 2). An injected STUCK fails the clear. -/
def State.twPulses (s : State) (p : Nat) : Nat :=
  if (s.twp p).injStuck then 10 else if s.is (TWB.STAT_SDA_LOW p) then 1 + s.free 8 % 10 else 0

/-- A bus clear has ended after `k` pulses: a failure fences the port, a success lifts a fence (R409). -/
def State.twCleared (s : State) (p k : Nat) : State :=
  let s1 := (s.setTwp p { s.twp p with injStuck := false }).addSat (TWB.CNT2_CLEAR p) 1
  if 9 < k then ((s1.wr (TWB.STAT_FENCED p) 1).wr (TWB.STAT_SDA_LOW p) 1).raise 0x0D02 p []
  else ((s1.wr (TWB.STAT_FENCED p) 0).wr (TWB.STAT_SDA_LOW p) 0).raise 0x0D04 p [k]

/-- Run the bus clear of a carrier-board port, or send CLEAR to a remote controller (R405, R409). -/
def State.twBusClear (s : State) (p : Nat) : State :=
  if p < 24 then
    (if s.bcAvailable p then s.bcSend p { tw := true, op := 3, who := .clear } else s)
  else s.used.twCleared p (s.twPulses p)

/-- A transaction on the port replies FENCED: fenced, not enabled, or LTWn without VIO_H (R409, R415, R464). -/
def State.twFenced (s : State) (p : Nat) : Bool :=
  s.is (TWB.STAT_FENCED p) || s.rd (TWB.CFG_EN p) == 0 || (decide (24 ≤ p) && !s.is SYS.PWR_STAT_VIO_OK)

/-- The carrier-board ports are reset: each runs the bus clear where its bank is powered (R409, R464). -/
def State.twReset (s : State) : State :=
  [24, 25].foldl (fun s p => if s.is SYS.PWR_STAT_VIO_OK then s.twBusClear p else s) s

/-! ### Transactions (R401, R402) -/

/-- Kind, Wn and Rn lie within the table of R401; otherwise the index of the offending argument word. -/
def twKindBad (kind wn rn : Nat) : Option Nat :=
  match kind with
  | 0 => if wn ≤ 32 ∧ rn = 0 then none else some 0
  | 1 => if wn = 0 ∧ 1 ≤ rn ∧ rn ≤ 16 then none else some 0
  | 2 => if 1 ≤ wn ∧ wn ≤ 32 ∧ 1 ≤ rn ∧ rn ≤ 16 then none else some 0
  | 3 => if 1 ≤ wn ∧ wn ≤ 32 ∧ rn = 0 then none else some 0
  | 4 => if wn = 1 ∧ 1 ≤ rn ∧ rn ≤ 16 then none else some 0
  | _ => some 1

/-- TLOTMO, or TDLTMO for SDA, in ms; 0 acts as 1 (R408, R415). -/
def State.twTmo (s : State) (p : Nat) (sda : Bool) : Nat :=
  max 1 (if sda then s.rd (TWB.CFG_TDLTMO p) else s.rd (TWB.CFG_TLOTMO p))

/-- A clock-low (0) or data-low (1) timeout on a port (R408): sticky flag, count, event; the transaction is aborted; a
data-low timeout runs the bus clear. -/
def State.twTimeout (s : State) (p kind : Nat) : State :=
  let f := if kind = 0 then TWB.STAT_SCL_TMO_STKY p else TWB.STAT_SDA_TMO_STKY p
  let s1 := ((s.set1 f).addSat (TWB.CNT1_TIMEOUT p) 1).raise 0x0D01 p [kind]
  let s2 := if kind = 0 then s1 else (s1.wr (TWB.STAT_SDA_LOW p) 1).twBusClear p
  match (s.twp p).cur with
  | some x => s2.twEnd p x (if kind = 0 then 4 else if s2.is (TWB.STAT_FENCED p) then 9 else 5) 0 []
  | none => s2

/-- Start a host transaction on a port that is free for it. -/
def State.twBegin (s : State) (p : Nat) (x : TwXfer) : State :=
  let q := s.twp p
  let s1 := (s.setTwp p { q with cur := some x, injNack := false, injScl := false }).wr (TWB.STAT_BUSY p) 1
  if q.injNack then s1.twEnd p x 1 0 []
  else if q.injScl then s1.twTimeout p 0
  else if p < 24 then
    (s1.twConfigDue p).bcSend p
      { tw := true, op := 2, who := .xfer,
        body := [x.addr, x.kind + 16 * b2n x.pec, x.wr.length, x.rn] ++ x.wr }
  else s1

/-- TW_XFER (R401, R403, R404): W0 port, address, Wn, Rn; W1 kind and PEC; W2 to W9 write bytes. -/
def cmdTwXfer (kind : Nat) : CmdBody := fun c s =>
  let p := bitsOf (c.arg 0) 0 5
  let wn := bitsOf (c.arg 0) 16 6
  let rn := bitsOf (c.arg 0) 24 5
  if c.arg 1 / 16 ≠ 0 ∧ c.arg 1 / 16 ≠ 16 then (s, some (.err 0x0102 12))
  else if 25 < p then (s, some (.err 0x0201 0))
  else match twKindBad kind wn rn with
    | some k => (s, some (.err 0x0201 k))
    | none =>
      if s.twFenced p then (s.twOutcome p 8 0, some (.err 0x0A03 8))
      else if p < 24 ∧ s.bcAvailable p = false then (s, some (.err 0x0A02 p))
      else if (s.twp p).cur.isSome then (s, some (.err 0x0302 0))
      else
        let bytes := ((List.range 8).flatMap fun k => leBytes 4 (c.arg (2 + k))).take wn
        let x : TwXfer := { cid := c.cid, flags := c.flags, ring := c.idx, addr := bitsOf (c.arg 0) 8 7, kind := kind,
                            pec := (c.arg 1).testBit 8, wr := bytes, rn := rn, start := s.now }
        ((s.cmdKeep c).twBegin p x, none)

/-- Start TW_XFER: the running command is kept before the transaction begins, so that a transaction that ends at once
finds it. -/
def State.twStart (s : State) (c : CmdPkt) (kind : Nat) : State :=
  match s.cmdRefuses c [0, 1, 2, 3, 4, 5, 6, 7, 8, 9] false with
  | some r => s.cmdReply c r
  | none =>
    match cmdTwXfer kind c s with
    | (s1, some r) => s1.cmdReply c r
    | (s1, none) => s1

/-- A TW_XFER row: the kind of the row stands in W1[3:0] (R401); while service firmware is stopped the warden replies FAULT (R436). -/
def State.twCommand (s : State) (p : Cmd) (kind t : Nat) : State :=
  if s.svcRunning then (s.at t).twStart (cmdPkt p 0x0901 t) kind
  else s.svcCommand (cmdPkt p 0x0901 t) [0, 1, 2, 3, 4, 5, 6, 7, 8, 9] false (cmdTwXfer kind)

/-- Row TW_WRITE: S, address+W, Wn bytes, P. -/
def execTwWrite (p : Cmd) (t : Nat) (s : State) : Host.Outcome State Fault Refusal := .next (s.twCommand p 0 t)

/-- Row TW_READ: S, address+R, Rn bytes, P. -/
def execTwRead (p : Cmd) (t : Nat) (s : State) : Host.Outcome State Fault Refusal := .next (s.twCommand p 1 t)

/-- Row TW_WRITE_READ: a write, then a repeated start and a read. -/
def execTwWriteRead (p : Cmd) (t : Nat) (s : State) : Host.Outcome State Fault Refusal := .next (s.twCommand p 2 t)

/-- Row TW_BLOCK_WRITE: command code, count, data. -/
def execTwBlockWrite (p : Cmd) (t : Nat) (s : State) : Host.Outcome State Fault Refusal := .next (s.twCommand p 3 t)

/-- Row TW_BLOCK_READ: command code, then count and data from the target (R402). -/
def execTwBlockRead (p : Cmd) (t : Nat) (s : State) : Host.Outcome State Fault Refusal := .next (s.twCommand p 4 t)

/-- The bytes the controller sends after the first address (R401). -/
def TwXfer.sends (x : TwXfer) : List Nat :=
  if x.kind = 3 then x.wr.take 1 ++ [x.wr.length - 1] ++ x.wr.drop 1 else x.wr

/-- PEC over every byte of the transaction, address bytes included (R398). -/
def TwXfer.pecOf (x : TwXfer) (rd : List Nat) : Nat :=
  match x.kind with
  | 0 | 3 => crc8 (2 * x.addr :: x.sends)
  | 1 => crc8 ((2 * x.addr + 1) :: rd)
  | _ => crc8 ((2 * x.addr :: x.sends) ++ ((2 * x.addr + 1) :: rd))

/-- The code, byte index and data bytes of a read that was acknowledged throughout, from the bytes received (R401 to
R403). -/
def TwXfer.judge (x : TwXfer) (rx : List Nat) : Nat × Nat × List Nat :=
  match x.kind with
  | 0 | 3 => (0, 0, [])
  | 4 =>
    let n := rx.getD 0 0
    if x.rn < n then (7, n, [])
    else
      let data := (rx.drop 1).take n
      if x.pec ∧ rx.getD (n + 1) 0 ≠ x.pecOf (rx.take (n + 1)) then (6, 0, data) else (0, 0, data)
  | _ =>
    let data := rx.take x.rn
    if x.pec ∧ rx.getD x.rn 0 ≠ x.pecOf data then (6, 0, data) else (0, 0, data)

/-- Bytes that have passed when a transaction ends so: addresses, the bytes sent, PEC, the bytes received (R401, R403). -/
def TwXfer.passed (x : TwXfer) (how : TwEnd) (rx : List Byte) : Nat :=
  match how with
  | .acked =>
    match x.kind with
    | 0 | 3 => 1 + x.sends.length + b2n x.pec
    | 1 => 1 + rx.length
    | _ => 2 + x.sends.length + rx.length
  | .addrNack second => if second then 2 + x.sends.length else 1
  | .dataNack i => 2 + i
  | .arbLost i => i

/-- A transaction can have ended so at `t`: its bytes have had their time on the bus (R399, R400). -/
def State.twDue (s : State) (p : Nat) (x : TwXfer) (how : TwEnd) (rx : List Byte) (t : Nat) : Bool :=
  decide (x.start + s.twLeast p (x.passed how rx) ≤ t)

/-- Row TW_XFER_DONE: the transaction of a carrier-board port ends on the bus, with how it was acknowledged and the bytes
received (R399 to R404). SCL is then not held low. -/
def execTwXferDone (p : Fin 26) (how : TwEnd) (rx : List Byte) (t : Nat) (s : State) : Host.Outcome State Fault Refusal :=
  .next (if p.val < 24 then s else
    match (s.twp p).cur with
    | none => s
    | some x =>
      let bytes := rx.map BitVec.toNat
      let s1 := (s.at t).wr (TWB.STAT_SCL_LOW p) 0
      if s.twDue p x how rx t = false then s
      else match how with
      | .acked => let (code, i, d) := x.judge bytes; s1.twEnd p x code i d
      | .addrNack second => s1.twEnd p x 1 (b2n second) []
      | .dataNack i => s1.twEnd p x 2 i []
      | .arbLost i => s1.twEnd p x 3 i bytes)

/-- TW_CLEAR (R409): a remote controller answers in its BC_ACK. -/
def cmdTwClear : CmdBody := fun c s =>
  let p := c.arg 0
  if 25 < p then (s, some (.err 0x0201 0))
  else if p < 24 then
    if s.bcAvailable p then
      ((s.setTwp p { s.twp p with clearCmd := some c }).bcSend p { tw := true, op := 3, who := .clear }, none)
    else (s, some (.err 0x0A02 p))
  else
    let s1 := s.twBusClear p
    (s1, some (if s1.is (TWB.STAT_FENCED p) then .err 0x0A03 9 else .ok []))

/-- Row TW_CLEAR (R409). -/
def execTwClear (p : Cmd) (t : Nat) (s : State) : Host.Outcome State Fault Refusal :=
  .next (s.svcCommand (cmdPkt p 0x0902 t) [0] false cmdTwClear)

/-- Row TW_TIMEOUT: SCL has been low for TLOTMO ms, or SDA for TDLTMO ms, on a carrier-board port (R408). The bus of a remote port
is the camera's: its timeouts come back in the BC_ACK (R405). SCL reads low after a clock-low timeout (log 5). -/
def execTwTimeout (p : Fin 26) (low : TwLow) (t : Nat) (s : State) : Host.Outcome State Fault Refusal :=
  .next (if p.val < 24 ∨ t < low.since + 1000000 * s.twTmo p low.sda then s
    else (if low.sda then s.at t else (s.at t).wr (TWB.STAT_SCL_LOW p) 1).twTimeout p (b2n low.sda))

/-- Row TWB_CLR_CNT (R415). -/
def execTwbClrCnt (p : Fin 26) (s : State) : Host.Outcome State Fault Refusal :=
  .next ((((((s.wr (TWB.CNT0_NACK p) 0).wr (TWB.CNT0_XFER p) 0).wr (TWB.CNT1_TIMEOUT p) 0).wr
    (TWB.CNT1_ARB_LOST p) 0).wr (TWB.CNT2_CLEAR p) 0).wr (TWB.CNT2_PEC_ERR p) 0)

/-- Row TWB_INJ_SCLTMO (R415). -/
def execTwbInjScltmo (p : Fin 26) (s : State) : Host.Outcome State Fault Refusal :=
  .next (if s.injLocked then s else s.setTwp p { s.twp p with injScl := true })

/-- Row TWB_INJ_STUCK (R415). -/
def execTwbInjStuck (p : Fin 26) (s : State) : Host.Outcome State Fault Refusal :=
  .next (if s.injLocked then s else s.setTwp p { s.twp p with injStuck := true })

/-- Row TWB_INJ_NACK (R415). -/
def execTwbInjNack (p : Fin 26) (s : State) : Host.Outcome State Fault Refusal :=
  .next (if s.injLocked then s else s.setTwp p { s.twp p with injNack := true })

end Sys2Proof.Machine
end

