-- ==== Sys2Proof/Machine/Settings.lean ====
section
/-! DEFINITION. Sensor settings in step with the settings delay: blanking windows, settings writes and generations
(R88 to R91, R407). -/

namespace Sys2Proof.Machine

/-- One write of a settings set: address and bytes, from its 8 bytes (R88, R407). -/
structure SetItem where
  addr : Nat
  data : List Nat

/-- The writes of a set: up to 16, ended by a data length of 0. -/
def setItems : Nat → List Nat → List SetItem
  | 0, _ => []
  | k + 1, b =>
    let n := min 4 (b.getD 1 0 % 8)
    if n = 0 then []
    else
      let reg := if (b.getD 1 0).testBit 3 then [b.getD 3 0, b.getD 2 0] else [b.getD 2 0]
      { addr := b.getD 0 0 % 128, data := reg ++ (b.drop 4).take n } :: setItems k (b.drop 8)

/-- The writes of the settings set `i` in force. -/
def State.setOf (s : State) (i : Nat) : List SetItem := setItems 16 (AMap.get [] s.sets i)

/-- The predicted duration of every write of a set, and of a host transaction in progress on the port (R89, R407). -/
def State.setPredict (s : State) (c i : Nat) : Nat :=
  let pec := s.rd (TWB.CFG_PEC c) == 1
  let own := (s.setOf i).foldl (fun a w => a + s.twPredict c w.data.length 0 pec false) 0
  match (s.twp c).cur with
  | some x => own + s.twPredict c x.wr.length x.rn x.pec (x.kind == 2 || x.kind == 4)
  | none => own

/-- The next trigger issue of a camera, frozen or predicted (R88). -/
def State.nextIssue (s : State) (c : Nat) : Option Int :=
  let fs := (s.ledger.frozen.filter fun f => f.chan == c).map fun f => f.at_
  let ps := s.ledger.active.filterMap fun e =>
    match AMap.get ChSt.waiting e.2.chan c with
    | .predicted x => some x
    | _ => none
  (fs ++ ps).foldl (fun m x => match m with | none => some x | some y => some (min x y)) none

/-- BLANK in force in ns; 0 acts as 1 µs (R88, R95). -/
def State.blank (s : State) (c : Nat) : Nat := max (s.cfg (CAM.SET_BLANK c)) 1 * 1000

/-- When the blanking window opened at `o` closes (R88). A trigger that was issued before the window opened closes it at once: the record of
its frame, which has not begun, still waits. -/
def State.windowClose (s : State) (c o : Nat) : Int :=
  if (s.cam c).recs.any (fun r => !r.begun) then o
  else match s.nextIssue c with
    | some x => min x (o + s.blank c)
    | none => o + s.blank c

/-- A set's writing fails: the rest is abandoned, the generation is 0, SETTINGS_FAIL (R91). -/
def State.setFail (s : State) (c : Nat) : State :=
  (((s.setCam c { s.cam c with writing := none }).wr (CAM.GEN c) 0).raise 0x0505 c []).twBusy c

/-- Generations run from 1 to 65,535 and continue at 1 (R91). -/
def genAfter (g : Nat) : Nat := if g = 65535 then 1 else g + 1

/-- Writes that take effect by the latest frame of the camera step the generation (R90). -/
def State.genDue (s : State) (c : Nat) : State :=
  let x := s.cam c
  let due := x.genNext.filter fun g => decide (g.1 ≤ x.frameNo)
  let s1 := s.setCam c { x with genNext := x.genNext.filter fun g => decide (x.frameNo < g.1) }
  due.foldl (fun s g => (s.wr (CAM.GEN c) (genAfter (s.rd (CAM.GEN c)))).wr (CAM.GEN_SET c) g.2) s1

/-- The writes of a set have all completed: they take effect at frame k + d within the window of frame k, else one frame
later with SETTINGS_LATE (R90). A frame that has begun before its generation is known takes it at once. -/
def State.setDone (s : State) (c : Nat) (w : SetWrite) : State :=
  let x := s.cam c
  let inTime := x.winOpen.elim false (fun o => decide ((s.now : Int) ≤ s.windowClose c o)) && x.winFrame == w.frame
  let eff := w.frame + s.cfg (CAM.SET_SDLY c) + (if inTime then 0 else 1)
  let s1 := (s.setCam c { x with writing := none, genNext := x.genNext ++ [(eff, w.set)] }).genDue c
  if inTime then s1 else s1.raise 0x0504 c []

/-- The first response code of R403 of a remote transaction: timeouts and a stuck bus show on the port; after a data-low timeout the port
has the remote bus cleared (R408, R409). -/
def State.twRemote (s : State) (p code : Nat) : State :=
  let tmo (f : Fld) (kind : Nat) : State := ((s.set1 f).addSat (TWB.CNT1_TIMEOUT p) 1).raise 0x0D01 p [kind]
  match code with
  | 4 => tmo (TWB.STAT_SCL_TMO_STKY p) 0
  | 5 => (tmo (TWB.STAT_SDA_TMO_STKY p) 1).twBusClear p
  | 9 => (tmo (TWB.STAT_SDA_TMO_STKY p) 1).twCleared p 10
  | _ => s

/-- An injection of R415 that the next transaction of the port meets: the code of R403 with which it ends. -/
def TwPort.injected (x : TwPort) : Option Nat := if x.injNack then some 1 else if x.injScl then some 4 else none

/-- Send write number `k` of a set as a TWO_WIRE XFER frame, or finish the set (R89, R405, R407). -/
def State.setStep (s : State) (c : Nat) (w : SetWrite) : State :=
  match (s.setOf w.set)[w.left]? with
  | none => (s.setDone c w).twBusy c
  | some it =>
    if s.twFenced c then (s.twOutcome c 8 0).setFail c
    else if s.bcAvailable c = false then s.setFail c
    else
      let s1 := s.setTwp c { s.twp c with injNack := false, injScl := false }
      match (s.twp c).injected with
      | some code => ((s1.twRemote c code).twOutcome c code 0).setFail c
      | none =>
        (((s1.setCam c { s.cam c with writing := some { w with left := w.left + 1 } }).twBusy c).twConfigDue c).bcSend c
          { tw := true, op := 2, who := .settings,
            body := [it.addr, 16 * b2n (s.rd (TWB.CFG_PEC c) == 1), it.data.length, 0] ++ it.data }

/-- A pending set starts writing in a window that opens after its firing if its predicted duration fits, else it waits and
SETTINGS_LATE is raised (R89). While an earlier set is still being written it starts when that one has ended, if the window is still open. -/
def State.setStart (s : State) (c : Nat) : State :=
  let x := s.cam c
  match x.pendSet, x.winOpen, x.writing with
  | some (i, fired), some o, none =>
    if fired ≤ o then
      if (s.now : Int) + s.setPredict c i ≤ s.windowClose c o then
        (s.setCam c { x with pendSet := none }).setStep c { set := i, frame := x.winFrame, left := 0 }
      else s.raise 0x0504 c []
    else s
  | _, _, _ => s

/-- The blanking window of the next frame opens when a FRAME_END arrives; a trigger issued before closes it at once (R88). -/
def State.windowOpen (s : State) (c : Nat) : State :=
  let s1 := (s.setCam c { s.cam c with winOpen := some s.now, winFrame := (s.cam c).frameNo + 1 }).setStart c
  if s1.windowClose c s.now ≤ s.now then s1.windowShut c else s1

/-- Row BLANKING_WINDOW_CLOSE: BLANK after it opened (R88). -/
def execBlankingWindowClose (c : Fin 24) (t : Nat) (s : State) : Host.Outcome State Fault Refusal :=
  .next (match (s.cam c).winOpen with
    | some o => if o + s.blank c ≤ t then (s.at t).windowShut c else s
    | none => s)

/-- A frame of the camera starts: writes that take effect by it step the generation (R90). -/
def State.genFrame (s : State) (c : Nat) : State := (s.setCam c { s.cam c with frameNo := (s.cam c).frameNo + 1 }).genDue c

/-- The response of a settings write (R90, R91, R405, R408). -/
def State.setAck (s : State) (c code idx : Nat) : State :=
  let s1 := (s.twRemote c code).twOutcome c code idx
  match (s.cam c).writing with
  | none => s1
  | some w =>
    let s2 := if code = 0 then s1.setStep c w else s1.setFail c
    if (s2.cam c).writing = none then s2.setStart c else s2



/-- The response to a host transaction of a remote port (R405). -/
def State.twAck (s : State) (p : Nat) (resp : List Nat) : State :=
  let s1 := s.twRemote p (resp.getD 0 0)
  match (s1.twp p).cur with
  | some x => s1.twEnd p x (resp.getD 0 0) (resp.getD 1 0) (resp.drop 2)
  | none => s1

/-- The response to CLEAR of a remote port; how many pulses it took the response does not say, so that figure is a free value. An injected
STUCK makes the clear fail (R405, R409, R415). -/
def State.clearAck (s : State) (p : Nat) (resp : List Nat) : State :=
  let ok := resp.getD 0 0 == 0 && !(s.twp p).injStuck
  let s1 := s.used.twCleared p (if ok then s.free 8 % 10 else 10)
  match (s1.twp p).clearCmd with
  | some c => (s1.setTwp p { s1.twp p with clearCmd := none }).cmdReply c (if ok then .ok [] else .err 0x0A03 9)
  | none => s1

end Sys2Proof.Machine
end

