-- ==== Sys2Proof/Machine/Ingest.lean ====
section
/-! DEFINITION. The ingest pipelines: frames, lines, turns of the datapath, output, records, statistics (R142 to R158, R163 to
R170). -/

namespace Sys2Proof.Machine

/-! ### Slots -/

/-- Context slot `c` beside its registers. -/
def State.ctx (s : State) (c : Nat) : Ctx := AMap.get {} s.ctxs c

/-- Change context slot `c`. -/
def State.setCtx (s : State) (c : Nat) (x : Ctx) : State := { s with ctxs := AMap.set s.ctxs c x }

/-- The configuration that a slot serves with. -/
def Ctx.conf (x : Ctx) : Conf := fun f => useGet x.use f

/-- The active configuration of a slot and of the check units, as a frame takes it (R144, R233). -/
def State.slotUse (s : State) (c : Nat) : AMap Nat :=
  let o := 0xA0100 + 0x1000 * (c / 2) + 0x200 * (c % 2)
  s.snapshot o (o + 0xA0) ++ s.snapshot 0xC0000 0xC0400

/-- Change the frame of a slot with a serial number. -/
def State.updFrm (s : State) (c serial : Nat) (g : Frm → Frm) : State :=
  let x := s.ctx c
  s.setCtx c { x with frames := x.frames.map fun m => if m.serial = serial then g m else m }

/-- The frame of a slot with a serial number. -/
def State.frm (s : State) (c serial : Nat) : Frm := ((s.ctx c).frames.find? fun m => m.serial == serial).getD {}

/-- The open frame of a slot. -/
def Ctx.opened (x : Ctx) : Option Frm := x.frames.find? fun m => m.closed.isNone

/-- A frame event: it carries the FRAME_NUM of the latest frame concerned (R172). -/
def State.frmEvent (s : State) (code c num : Nat) : State := s.raiseJoin (fun _ b => b) code c s.now (leBytes 4 num)

/-- The line of a frame that waits for the datapath. -/
def Ctx.pendLine (x : Ctx) (m : Frm) : Option Nat :=
  match x.ready with
  | some (k, n, _) => if k = m.serial then some n else none
  | none => none

/-! ### Output (R155, R158, R168 to R170) -/

/-- The flue of the frame's graph that a region writes to, where it names one of its own (R146 check 7, R170). -/
def State.rgnFlue (s : State) (m : Frm) (c r : Nat) : Option Nat :=
  let i := m.conf (CTX.RGN_CFG_FLUE c r)
  if i < (s.graphOf m.gen).flues.length ∧ (s.flueDef m.gen i).prod = 4096 + 4 * c + r then some i else none

/-- The check unit of a region absorbs a row's bytes; at the first row it takes its configuration and is reset (R168). -/
def State.rgnCheck (s : State) (m : Frm) (c r row : Nat) (bytes : List Nat) : State :=
  match rgnChk m.conf c r with
  | none => s
  | some n =>
    let s1 :=
      if row = 0 then
        (s.setChk n { s.chkUnit n with
          flue := none
          use := m.use.filter fun e => decide ((0xC0000 + 0x40 * n) * 32 ≤ e.1 ∧ e.1 < (0xC0000 + 0x40 * n + 0x40) * 32) }).chkReset n
      else s
    s1.chkAbsorb n bytes

/-- A line item that is not written counts (R170). -/
def State.rgnDrop (s : State) (c r : Nat) (m : Frm) : State :=
  ((s.updFrm c m.serial fun m => { m with drops := AMap.set m.drops r (AMap.get 0 m.drops r + 1) }).addSat
    (CTX.CNT3_FLUE_FULL c) 1).frmEvent 0x0A09 c m.num

/-- Put an item of a region into its flue, or drop it where it finds no credit or no room (R170, R216). -/
def State.rgnPut (s : State) (c r : Nat) (m : Frm) (blocked : Bool) (bytes : List Nat) : State :=
  match s.rgnFlue m c r with
  | none => s
  | some i =>
    if m.mute.contains r then s
    else if blocked ∨ s.flueCredit m.gen i = false ∨ (s.flueDef m.gen i).bytes < bytes.length + 8 then s.rgnDrop c r m
    else s.flueItem m.gen i bytes

/-- A row of region 0 enters the flicker measurement: the sum over the statistics window's columns at its row time (R165 to
R167). -/
def State.flkRow (s : State) (c : Nat) (m : Frm) (i : Nat) (px : List (Option Nat)) : State :=
  let f := m.conf
  if f (CTX.STATCFG_FLK_EN c) = 0 ∨ bypassed f c 3 then s
  else
    let (x0, x1) := clipWin (f (CTX.STATWIN_XY_X c)) (f (CTX.STATWIN_WH_W c)) (rgnW f c 0)
    let (y0, y1) := clipWin (f (CTX.STATWIN_XY_Y c)) (f (CTX.STATWIN_WH_H c)) (rgnH f c 0)
    let vs := ((px.drop x0).take (x1 - x0)).filterMap id
    if i < y0 ∨ y1 ≤ i ∨ vs = [] then s
    else
      let y := ((binTaps (rgnBin f c 0) (f (CTX.RGN_XY_Y c 0)) i).getLast?).getD 0
      let at_ := ((AMap.look m.lines y).map (·.at_)).getD 0
      let x := s.ctx c
      s.setCtx c { x with rows := x.rows ++
        [(at_ - f (CTX.FLK_TOFS_TOFS c), vs.foldl (· + ·) 0, m.serial * 2 ^ 20 + vs.length)] }

/-- Write the next row of a region and step on; the last row latches the check value (R168, R169). -/
def State.rgnRow (s : State) (c r : Nat) (m : Frm) (blocked : Bool) (st : LineSt) : State :=
  let i := AMap.get 0 m.rgn r
  let px := if st = .fill then List.replicate (rgnW m.conf c r) none else (m.outRow c r i).1
  let bytes := m.pixelBytes c r px
  let s1 := s.rgnCheck m c r i bytes
  let s2 := s1.rgnPut c r m blocked (lineHeader m.num i r (m.rowFlags c r st) ++ bytes)
  let s3 := if r = 0 ∧ st ≠ .fill then s2.flkRow c m i px else s2
  let s4 := s3.updFrm c m.serial fun m => { m with rgn := AMap.set m.rgn r (i + 1) }
  if i + 1 = rgnH m.conf c r then
    match rgnChk m.conf c r with
    | some n =>
      let s5 := s4.chkLatch n
      s5.updFrm c m.serial fun m => { m with chkAt := (r, s5.rd (CHK.LAST n)) :: m.chkAt }
    | none => s4
  else s4

/-- The embedded lines of a frame, in ascending INDEX, go to region 0's flue before its record (R157). -/
def State.rgnEmbed (s : State) (c : Nat) (m : Frm) : State :=
  if m.embOut.contains 0 then s
  else
    let es := m.emb.mergeSort fun a b => decide (a.1 ≤ b.1)
    (es.foldl (fun s e => s.rgnPut c 0 (s.frm c m.serial) false (lineHeader m.num e.1 0 (4 + 2 * b2n e.2.2) ++ e.2.1)) s).updFrm
      c m.serial fun m => { m with embOut := [0] }

/-- The record of a region whose rows are all written, once the end instant is known: written when its flue has credit
(R156, R169, R170). -/
def State.rgnRecord (s : State) (c r : Nat) (m : Frm) : State :=
  match m.endAt with
  | none => s
  | some e =>
    let s1 := if r = 0 then s.rgnEmbed c m else s
    let m1 := s1.frm c m.serial
    let fin (s : State) : State := s.updFrm c m.serial fun m => { m with done := m.done ++ [r] }
    match s1.rgnFlue m1 c r with
    | none => fin s1
    | some i =>
      if m1.mute.contains r then fin s1
      else if s1.flueCredit m1.gen i then
        let chk := (AMap.look m1.chkAt r).getD 0
        (fin s1).flueItem m1.gen i (lineHeader m1.num 0xFFFF r 0 ++ m1.record c r chk m1.sof e)
      else s1

/-- The next row of a region, if the window that corrects it is resolved (R149, R162). -/
def Ctx.rowReady (x : Ctx) (m : Frm) (c r : Nat) : LineSt :=
  let i := AMap.get 0 m.rgn r
  match m.rowSt (x.pendLine m) c r i with
  | .got l =>
    if (List.range (ctxDist m.conf c)).any fun k =>
      decide (i + k + 1 < rgnH m.conf c r) && m.rowSt (x.pendLine m) c r (i + k + 1) == .wait then .wait else .got l
  | st => st

/-- The oldest frame of a region that it has not written whole. -/
def Ctx.rgnFrame (x : Ctx) (c r : Nat) : Option Frm := x.frames.find? fun m => rgnOn m.conf c r && !m.done.contains r

/-- The next row of a region is a fill line, which has fallen due. -/
def State.rgnFill (s : State) (k : Nat) : Bool :=
  let c := k / 4
  let x := s.ctx c
  match x.rgnFrame c (k % 4) with
  | some m => decide (AMap.get 0 m.rgn (k % 4) < rgnH m.conf c (k % 4)) && x.rowReady m c (k % 4) == .fill
  | none => false

/-- The fill lines of a pipeline that have fallen due, in the order in which they did; those that do at one instant by slot and region
(R155). -/
def State.fillDue (s : State) (c : Nat) : State :=
  let p := c / 2 * 2
  let x := s.ctx p
  let old := x.fillQ.filter s.rgnFill
  let new := (List.range 8).map (4 * p + ·) |>.filter fun k => s.rgnFill k && !old.contains k
  s.setCtx p { x with fillQ := old ++ new }

/-- Write what a region can write of its frames, oldest first. A frame whose record waits for credit lets later rows find none
(R155, R170). -/
def State.rgnRun (s : State) (c r : Nat) : Nat → List Nat → Bool → State
  | 0, _, _ => s
  | _, [], _ => s
  | fuel + 1, k :: ks, blocked =>
    let m := s.frm c k
    if m.done.contains r ∨ rgnOn m.conf c r = false then s.rgnRun c r fuel ks blocked
    else if AMap.get 0 m.rgn r < rgnH m.conf c r then
      match (s.ctx c).rowReady m c r with
      | .got l => (s.rgnRow c r m blocked (.got l)).rgnRun c r fuel (k :: ks) blocked
      | _ => s
    else if blocked ∨ m.endAt.isNone then s
    else
      let s1 := s.rgnRecord c r m
      if (s1.frm c k).done.contains r then s1.rgnRun c r fuel ks false
      else s1.rgnRun c r fuel ks true

/-- A bound on the steps a region can take at once. -/
def Ctx.fuel (x : Ctx) (c r : Nat) : Nat := x.frames.foldl (fun a m => a + rgnH m.conf c r + 2) 2

/-- Rows of every region that can be written now. -/
def State.ctxRows (s : State) (c : Nat) : State :=
  (List.range 4).foldl (fun s r => s.rgnRun c r ((s.ctx c).fuel c r) ((s.ctx c).frames.map (·.serial)) false) s

/-- Every region that is enabled for a frame has passed its last row. -/
def Frm.rowsDone (m : Frm) (c : Nat) : Bool :=
  (List.range 4).all fun r => !rgnOn m.conf c r || decide (rgnH m.conf c r ≤ AMap.get 0 m.rgn r)

/-- The statistics record of a closed frame whose region 0 is through (R165, R166). A mean that is not exact is rounded down or
up, which of the two the spec does not say; with no pixel counted it states none (log 2). -/
def State.statRecord (s : State) (c : Nat) (m : Frm) : State :=
  let f := m.conf
  let thru := !rgnOn f c 0 || decide (rgnH f c 0 ≤ AMap.get 0 m.rgn 0)
  if m.statOk ∨ m.closed.isNone ∨ thru = false ∨ bypassed f c 3 then s
  else
    let st := m.stats c
    let sum := st.2.2.1 * 65536
    let n := st.2.2.2.1
    let mean := if n = 0 then s.free 32 else sum / n + (if sum % n = 0 then 0 else s.free 1)
    let x := s.ctx c
    let addr := base64 (f (CTX.STAT_ADDR_LO_ADDR c)) (f (CTX.STAT_ADDR_HI_ADDR c)) + 1088 * (x.ring % 4)
    let flk := (s.rd (CTX.FLK_FREQ_FREQ c), s.rd (CTX.FLK_BRIGHT_LO_TIME c) + 2 ^ 32 * s.rd (CTX.FLK_BRIGHT_HI_TIME c),
      s.rd (CTX.FLK_DEPTH_DEPTH c), s.rd (CTX.STAT_FLK_VALID c))
    let s1 := s.used.setCtx c { x with ring := (x.ring + 1) % 4 }
    (s1.memWrite .gddr addr (statBytes m st m.sof mean flk)).updFrm c m.serial fun m => { m with statOk := true }

/-- The end instant of a frame is known (R156, R294). -/
def State.frmEnd (s : State) (c : Nat) (m : Frm) (at_ : Nat) : State :=
  (s.updFrm c m.serial fun m => { m with endAt := some (s.devAt at_) }).dlvEnd c m.num (s.devAt at_)

/-- The end instant of a frame with truncation fill lines: the completion of the last of them (R156). -/
def State.frmEnds (s : State) (c : Nat) : State :=
  (s.ctx c).frames.foldl (fun s m => if m.closed.isSome ∧ m.endAt.isNone ∧ m.rowsDone c then s.frmEnd c m s.now else s) s

/-- Frames written whole leave the slot. -/
def State.ctxSweep (s : State) (c : Nat) : State :=
  let x := s.ctx c
  s.setCtx c { x with frames := x.frames.filter fun m =>
    !(m.closed.isSome && (m.statOk || bypassed m.conf c 3) && (List.range 4).all fun r => !rgnOn m.conf c r || m.done.contains r) }

/-- Everything that follows once a line, a row or a close of a slot is known. -/
def State.ctxRun (s : State) (c : Nat) : State :=
  let s1 := (s.ctxRows c).frmEnds c
  let s2 := s1.ctxRows c
  (((s2.ctx c).frames.foldl (fun s m => s.statRecord c (s.frm c m.serial)) s2).ctxSweep c).fillDue c

/-! ### Lines (R148, R152, R155) -/

/-- `k` lines of the open frame are lost; each counts and is reported (R152). -/
def State.loseLines (s : State) (c : Nat) (m : Frm) (k : Nat) : State :=
  if k = 0 then s
  else ((s.updFrm c m.serial fun m => { m with lost := min (m.lost + k) 65535 }).addSat (CTX.CNT1_LOST_LINES c) k).times
    (fun s => s.frmEvent 0x0A06 c m.num) k

/-- Line buffer address of a slot: the buffer is split evenly (R148). -/
def lineBufAt (c : Nat) : Nat := 98304 * (c % 2)

/-- The line being received has its last pixel: it becomes the ready line, or is discarded where one is held or an injection
says so (R148, R152, R155). -/
def State.lineDone (s : State) (c : Nat) : State :=
  let x := s.ctx c
  match x.recv, x.opened with
  | some l, some m =>
    let w := ctxW m.conf c
    let s0 := s.setCtx c { x with recv := none }
    let s1 := if l.px.length < w then (s0.addSat (CTX.CNT2_LINE_WIDTH c) 1).frmEvent 0x0A07 c m.num else s0
    if x.injDrop ∨ x.ready.isSome then
      (((s1.setCtx c { s1.ctx c with injDrop := false }).addSat (CTX.CNT3_LINEBUF_OVF c) 1).frmEvent 0x0A08 c m.num).loseLines c m 1
    else
      let line : RLine := { px := (l.px ++ List.replicate (w - l.px.length) none).take w, dam := l.bad, at_ := s.dev }
      (s1.memWrite (.line (c / 2)) (lineBufAt c) (List.replicate (2 * w) 0)).setCtx c
        { s1.ctx c with ready := some (m.serial, l.num, line) }
  | _, _ => { s with ctxs := AMap.set s.ctxs c { x with recv := none } }

/-- The pixels of a packet in the 16-bit scale (R112, "Pixel path"). -/
def pixelsOf (fmt : Nat) (data : List Nat) : List (Option Nat) :=
  let v := leNat data
  if fmt = 0 then []
  else (List.range (8 * data.length / fmt)).map fun i => some (v / 2 ^ (fmt * i) % 2 ^ fmt * 2 ^ (16 - fmt))

/-- Place pixels at an offset of a line. -/
def placePx (old : List (Option Nat)) (ofs : Nat) (new : List (Option Nat)) : List (Option Nat) :=
  (old ++ List.replicate (ofs - old.length) none).take ofs ++ new ++ old.drop (ofs + new.length)

/-- FMT is one of R112. -/
def fmtValid (f : Nat) : Bool := f == 8 || f == 10 || f == 12 || f == 14 || f == 16

/-- A packet of the line being received adds its pixels; those at and beyond WIDTH are discarded (R152). The line is complete
with its last pixel, with a cut, or with a packet that does not hold a multiple of 8 pixels (R112). -/
def State.linePart (s : State) (c : Nat) (m : Frm) (l : RecvLine) (ofs : Nat) (px : List (Option Nat)) (bad cut : Bool) : State :=
  let w := ctxW m.conf c
  let all := placePx l.px ofs px
  let s1 := if w < all.length ∧ l.px.length ≤ w then (s.addSat (CTX.CNT2_LINE_WIDTH c) 1).frmEvent 0x0A07 c m.num else s
  let s2 := if bad ∧ l.bad = false then
      (s1.updFrm c m.serial fun m => { m with dam := min (m.dam + 1) 65535 }).addSat (CTX.CNT1_DAMAGED c) 1 else s1
  let s3 := s2.setCtx c { s2.ctx c with recv := some { l with px := all.take w, bad := l.bad || bad },
                                         tail := if w ≤ all.length then some (l.num, decide (w < all.length)) else none }
  if w ≤ all.length ∨ cut ∨ px.length % 8 ≠ 0 then s3.lineDone c else s3

/-- A LINE or FRAME_END packet arrives while no frame of the slot is open (R152). -/
def State.orphanPkt (s : State) (c : Nat) (isEnd : Bool) : State :=
  let x := s.ctx c
  let s1 := (s.addSat (CTX.CNT2_ORPHAN c) 1).setCtx c { x with orphan := !isEnd }
  if x.orphan then s1 else s1.frmEvent 0x0A05 c (s.rd (CTX.FNUM c))

/-- The first packet of a line. -/
def State.lineNew (s : State) (c serial num ofs fmt : Nat) (px : List (Option Nat)) (bad cut : Bool) : State :=
  let m := s.frm c serial
  if ctxH m.conf c ≤ num then
    s.updFrm c serial fun m => { m with extra := if ofs = 0 then min (m.extra + 1) 65535 else m.extra, flags := m.flags.lor 2 }
  else if m.last.elim false fun k => decide (num ≤ k) then s.addSat (CTX.CNT2_ORPHAN c) 1
  else
    let s1 := s.loseLines c m (num - m.last.elim 0 (· + 1))
    let s2 := s1.updFrm c serial fun m => { m with last := some num }
    let s3 := (s2.setCtx c { s2.ctx c with tail := none }).fillDue c
    if fmt ≠ m.conf (CTX.SRC_FMT c) then s3.loseLines c m 1
    else s3.linePart c m { num := num } ofs px bad cut

/-- A packet belongs to the line last completed at WIDTH: its pixels lie at and beyond WIDTH (R152). -/
def State.isTail (s : State) (c : Nat) (m : Frm) (num ofs : Nat) : Bool :=
  m.last == some num && ((s.ctx c).tail.any fun x => x.1 == num) && decide (ctxW m.conf c ≤ ofs)

/-- Its pixels are discarded; the line counts as longer than WIDTH once (R152). -/
def State.lineTail (s : State) (c : Nat) (m : Frm) (num : Nat) : State :=
  let x := s.ctx c
  if x.tail = some (num, true) then s
  else ((s.setCtx c { x with tail := some (num, true) }).addSat (CTX.CNT2_LINE_WIDTH c) 1).frmEvent 0x0A07 c m.num

/-- A LINE packet for a slot (R152). -/
def State.lineArrive (s : State) (c num ofs fmt : Nat) (data : List Nat) (bad cut : Bool) : State :=
  match (s.ctx c).opened with
  | none => s.orphanPkt c false
  | some m =>
    let px := pixelsOf fmt data
    match (s.ctx c).recv with
    | some l =>
      if l.num = num ∧ fmt = m.conf (CTX.SRC_FMT c) then s.linePart c m l ofs px bad cut
      else (s.lineDone c).lineNew c m.serial num ofs fmt px bad cut
    | none => if s.isTail c m num ofs then s.lineTail c m num else s.lineNew c m.serial num ofs fmt px bad cut

/-! ### Close of a frame (R153, R156) -/

/-- How a frame closes (R153). -/
inductive Close where
  | frameEnd (lines : Nat)
  | next
  | missing
  | abort
  | timeout
  deriving DecidableEq, Repr

/-- The open frame of a slot closes now (R153, R156). -/
def State.frmClose (s : State) (c : Nat) (how : Close) : State :=
  match (s.ctx c).opened with
  | none => s
  | some m0 =>
    let s0 := s.lineDone c
    let m := s0.frm c m0.serial
    let filled := ctxH m.conf c - m.last.elim 0 (· + 1)
    let long := decide (0 < m.extra) || (match how with | .frameEnd n => decide (ctxH m.conf c < n) | _ => false)
    let flags := ((((m.flags.lor (b2n (decide (0 < filled)))).lor (2 * b2n long)).lor
      (match how with | .abort => 4 | .timeout => 8 | _ => 0)))
    let s1 := s0.updFrm c m.serial fun m => { m with flags := flags, filled := filled, closed := some s.now }
    let s2 := (s1.wr (CTX.FNUM c) m.num).wr (CTX.STAT_OPEN c) 0
    let s3 := if 0 < filled then s2.addSat (CTX.CNT0_TRUNC c) 1 else s2
    let s4 := if flags.testBit 1 then s3.addSat (CTX.CNT0_OVERLONG c) 1 else s3
    let s5 := if flags.testBit 1 then s4.frmEvent 0x0A02 c m.num else s4
    let s6 := match how with
      | .abort => s5.frmEvent 0x0A04 c m.num
      | .timeout => s5.frmEvent 0x0A03 c m.num
      | _ => if 0 < filled ∧ flags.testBit 1 = false then s5.frmEvent 0x0A01 c m.num else s5
    let s7 := if filled = 0 then s6.frmEnd c m s.now else s6
    s7.ctxRun c

/-! ### Start of a frame (R83, R86, R144, R151, R158, R301) -/

/-- The slot takes its active configuration (R144). -/
def State.ctxAdopt (s : State) (c : Nat) : State := s.setCtx c { s.ctx c with use := s.slotUse c }

/-- A committed change of a slot applies at the first FRAME_START of its old or new pair (R144). -/
def State.ctxChange (s : State) (link vc c : Nat) : State :=
  let x := s.ctx c
  if ctxServes s.cfg c link vc then (if ctxServes x.conf c link vc then s else s.frmClose c .next).ctxAdopt c
  else if ctxServes x.conf c link vc then (s.frmClose c .next).ctxAdopt c
  else s

/-- The words of a range of GDDR7 that were met poisoned. -/
def State.poisoned (s : State) (a n : Nat) : List Nat := ((s.faultsIn .gddr a n).filter fun e => e.2.poison).map fun e => e.1

/-- Read the static map: the entries in order, those out of order and those poisoned left out, and how many were out of order
(R163, R263). -/
def State.readMap (s : State) (f : Conf) (c : Nat) : List (Nat × Nat) × Nat × State :=
  if f (CTX.DPC_STATIC c) = 0 ∨ bypassed f c 1 then ([], 0, s)
  else
    let a := mapAddr f c
    let n := mapCount f c
    let r := s.memRead .gddr a (4 * n)
    let bad := r.2.2.poisoned a (4 * n)
    let es := (List.range n).map fun i => (leAt r.1 (4 * i) 4, bad.contains (wordKey .gddr (a + 4 * i)), i)
    let late (e : Nat × Bool × Nat) : Bool :=
      decide (0 < e.2.2 ∧ e.1 ≤ leAt r.1 (4 * e.2.2 - 4) 4) || (e.2.2 == 0 && (s.ctx c).injMap)
    (((es.filter fun e => !e.2.1 && !late e).map fun e => (e.1 / 65536, e.1 % 65536)),
     (es.filter fun e => !e.2.1 && late e).length,
     if 0 < n then r.2.2.setCtx c { r.2.2.ctx c with injMap := false } else r.2.2)

/-- Read the shading grid; a poisoned node is taken as gain 1.0 (R164, R263). -/
def State.readGrid (s : State) (f : Conf) (c : Nat) : List Nat × State :=
  if bypassed f c 2 then ([], s)
  else
    let a := shdAddr f c
    let r := s.memRead .gddr a (shdLen f c)
    let bad := r.2.2.poisoned a (shdLen f c)
    ((List.range (shdLen f c / 2)).map fun i =>
      if bad.contains (wordKey .gddr (a + 2 * i)) then 16384 else leAt r.1 (2 * i) 2, r.2.2)

/-- The trigger record of a frame: records with earlier numbers are discarded (R83, R86). -/
def State.matchTrig (s : State) (link tseq : Nat) (valid : Bool) : Option TrigRec × State :=
  let x := s.cam link
  if valid = false ∨ 24 ≤ link then (none, s)
  else
    let keep := x.recs.filter fun r => decide ((tseq + 256 - r.seq) % 256 = 0 ∨ 128 ≤ (tseq + 256 - r.seq) % 256)
    (keep.find? fun r => r.seq == tseq, s.setCam link { x with recs := keep.map fun r => if r.seq = tseq then { r with begun := true } else r })

/-- The tag values of a starting frame (R86); the first frame of the camera after a skip takes MISSED_NEIGHBOUR. -/
def State.tagStart (s : State) (link vc num tseq : Nat) (valid : Bool) (sof : Nat) : State :=
  let r := s.matchTrig link tseq valid
  let x := r.2.cam link
  let e : FTag := { cam := 4 * link + vc, num := num, gen := s.rd (CAM.GEN link), missed := x.missed, sof := sof, tseq := tseq, trig := r.1 }
  { (r.2.setCam link { x with missed := false }) with frameTags := e :: r.2.frameTags }

/-- The regions of a frame that write nothing: every delivery stream downstream has refused it, and no recorder or swath input
lies downstream (R158). -/
def State.muteOf (s : State) (gen c num : Nat) (f : Conf) : List Nat :=
  let g := s.graphOf gen
  let mine := g.originStreams fun o => match o with | .region k _ => k == c | .swath _ => false
  (List.range 4).filter fun r =>
    let i := f (CTX.RGN_CFG_FLUE c r)
    let refused (w : Nat) : Bool := mine.contains (epIndex w) && !s.holds (epIndex w) c num
    rgnOn f c r && g.feeds (fun w => epKind w == 4) i &&
    !g.feeds (fun w => epKind w == 3 || epKind w == 5 || (epKind w == 4 && !refused w)) i

/-- A frame of a slot opens (R151): geometry, delivery decisions, map and grid. `sof` is the device time of R114. -/
def State.frmOpen (s : State) (c link vc num tseq : Nat) (valid : Bool) (w h sof : Nat) : State :=
  let s1 := s.frmClose c .next
  let x := s1.ctx c
  let f := x.conf
  let gen := s1.graph.gen
  let g := s1.graphOf gen
  let decl := decide (w ≠ f (CTX.GEOM_WIDTH c) ∨ h ≠ f (CTX.GEOM_HEIGHT c))
  let s2 := if decl then (s1.addSat (CTX.CNT4_GEOM_DECL c) 1).frmEvent 0x0A0C c num else s1
  let tag := (s2.frameTag (4 * link + vc) num).elim {} fun e => s2.tagOf e
  let s3 := s2.offerFrame g (fun o => match o with | .region k _ => k == c | .swath _ => false) c (4 * link + vc)
    { tag with graph := g.id }
  let rm := s3.readMap f c
  let s4 := if rm.2.1 = 0 then rm.2.2 else (rm.2.2.addSat (CTX.CNT4_MAP_ORDER c) rm.2.1).frmEvent 0x0A0A c num
  let rg := s4.readGrid f c
  let m : Frm :=
    { serial := x.serial, num := num, tseq := tseq, link := link, vc := vc, sof := sof, start := s.now,
      flags := 32 * b2n decl + 128 * b2n valid, use := x.use, gen := gen, mute := s3.muteOf gen c num f,
      defects := rm.1, grid := rg.1 }
  let y := rg.2.ctx c
  let win := if f (CTX.STATCFG_FLK_EN c) = 1 then some (y.winAt.getD s.now) else none
  (rg.2.setCtx c { y with serial := x.serial + 1, frames := y.frames ++ [m], orphan := false, winAt := win }).wr (CTX.STAT_OPEN c) 1

/-- A FRAME_START packet after any epoch boundary it meets: the generation and the tag, then the slot that serves the pair, or
UNROUTED (R86, R90, R114, R143, R144, R151). -/
def State.frameStart (s : State) (link vc num tseq : Nat) (valid : Bool) (w h sof : Nat) : State :=
  let s0 := (s.wr (LNK.SOF_TIME_TIME link) (sof % 2 ^ 32)).setLink link
    { s.link link with open_ := if (s.link link).open_.contains vc then (s.link link).open_ else (s.link link).open_ ++ [vc] }
  let s1 := if vc = 0 then s0.genFrame link else s0
  let s2 := { (s1.tagStart link vc num tseq valid sof) with lastFrame := AMap.set s.lastFrame (4 * link + vc) (num + 1) }
  let s3 := (List.range 24).foldl (fun s c => s.ctxChange link vc c) s2
  match (List.range 24).find? (fun c => ctxServes (s3.ctx c).conf c link vc) with
  | some c => s3.frmOpen c link vc num tseq valid w h sof
  | none => s3.raise 0x0A0E link []

/-- The slots that serve a pair. -/
def State.servers (s : State) (link vc : Nat) : List Nat := (List.range 24).filter fun c => ctxServes (s.ctx c).conf c link vc

/-- A LINE packet. -/
def State.lineIn (s : State) (link vc num ofs fmt : Nat) (data : List Nat) (bad cut : Bool) : State :=
  (s.servers link vc).foldl (fun s c => s.lineArrive c num ofs fmt data bad cut) s

/-- A FRAME_END packet for a slot (R152 to R154). -/
def State.endArrive (s : State) (c num lines : Nat) (ovf : Bool) : State :=
  match (s.ctx c).opened with
  | none => s.orphanPkt c true
  | some m =>
    let s1 := if num ≠ m.num then
        (s.updFrm c m.serial fun m => { m with flags := m.flags.lor 64 }).addSat (CTX.CNT4_FNUM_MISMATCH c) 1 else s
    let s2 := if ovf then (s1.updFrm c m.serial fun m => { m with flags := m.flags.lor 16 }).frmEvent 0x0A0B c m.num else s1
    s2.frmClose c (.frameEnd lines)

/-- No frame of the pair is open on the link. -/
def State.linkShut (s : State) (link vc : Nat) : State :=
  s.setLink link { s.link link with open_ := (s.link link).open_.filter fun v => v != vc }

/-- A FRAME_END packet: it closes the frame and opens the camera's next blanking window (R88, R153). -/
def State.frameEnd (s : State) (link vc num lines : Nat) (ovf : Bool) : State :=
  let s1 := ((s.linkShut link vc).servers link vc).foldl (fun s c => s.endArrive c num lines ovf) (s.linkShut link vc)
  if vc = 0 then s1.windowOpen link else s1

/-- An EMBEDDED packet of an open frame (R157). -/
def State.embedIn (s : State) (link vc index : Nat) (data : List Nat) (mark : Bool) : State :=
  (s.servers link vc).foldl (fun s c =>
    match (s.ctx c).opened with
    | none => s
    | some m =>
      if 4 ≤ m.emb.length ∨ m.emb.any (fun e => e.1 == index) then s
      else s.updFrm c m.serial fun m => { m with emb := m.emb ++ [(index, data.take 4096, mark)] }) s

/-- A missing-marker indication for FRAME_END closes the open frame; one for FRAME_START also discards what follows
(R153, R154). -/
def State.markerMissing (s : State) (link vc : Nat) (start : Bool) : State :=
  ((s.linkShut link vc).servers link vc).foldl (fun s c =>
    if start then
      let s1 := s.frmClose c .next
      (s1.setCtx c { s1.ctx c with orphan := true }).frmEvent 0x0A05 c (s1.rd (CTX.FNUM c))
    else s.frmClose c .missing) (s.linkShut link vc)

/-- A FRAME_END packet, which an injection of DIA_INJ_LNK turns into a missing marker (R153, R433). -/
def State.endPacket (s : State) (link vc num lines : Nat) (ovf : Bool) : State :=
  if (s.link link).injEnd then (s.setLink link { s.link link with injEnd := false }).markerMissing link vc false
  else s.frameEnd link vc num lines ovf

/-- An abort for every frame that is open on a link (R113, R153). -/
def State.linkAbort (s : State) (link : Nat) : State :=
  (s.link link).open_.foldl (fun s vc => ((s.linkShut link vc).servers link vc).foldl (fun s c => s.frmClose c .abort)
    (s.linkShut link vc)) s

/-! ### Rows -/

/-- Row LINE. -/
def execLine (link : Fin 24) (vc : Fin 4) (num ofs : BitVec 16) (fmt : BitVec 8) (data : List Byte) (bad cut : Bool) (t : Nat)
    (s : State) : Host.Outcome State Fault Refusal :=
  .next (if s.videoOn link ∧ fmtValid fmt.toNat then
    (s.at t).lineIn link vc num.toNat ofs.toNat fmt.toNat (data.map BitVec.toNat) bad cut else s)

/-- Row FRAME_END. -/
def execFrameEnd (link : Fin 24) (vc : Fin 4) (num : Word) (lines : BitVec 16) (ovf : Bool) (t : Nat) (s : State) :
    Host.Outcome State Fault Refusal :=
  .next (if s.videoOn link then (s.at t).endPacket link vc num.toNat lines.toNat ovf else s)

/-- Row EMBEDDED. -/
def execEmbedded (link : Fin 24) (vc : Fin 4) (index : BitVec 8) (data : List Byte) (mark : Bool) (t : Nat) (s : State) :
    Host.Outcome State Fault Refusal :=
  .next (if s.videoOn link then (s.at t).embedIn link vc index.toNat (data.map BitVec.toNat) mark else s)

/-- The slot of a pipeline that the datapath serves next: the only one with a ready line, else the one not served by the previous
turn (R147). -/
def State.turnOf (s : State) (p : Nat) : Option Nat :=
  let r0 := (s.ctx (2 * p)).ready.isSome
  let r1 := (s.ctx (2 * p + 1)).ready.isSome
  if r0 && r1 then some (2 * p + (1 - s.rd (ING.PSTAT_LAST p)))
  else if r0 then some (2 * p) else if r1 then some (2 * p + 1) else none

/-- Both slots of a pipeline became ready in the same ingest clock while the datapath was idle: the lower link, then the lower VC
goes first (R147). -/
def State.turnTie (s : State) (p : Nat) : Option Nat :=
  match (s.ctx (2 * p)).ready, (s.ctx (2 * p + 1)).ready with
  | some (_, _, a), some (_, _, b) =>
    if a.at_ = b.at_ then
      let k (c : Nat) : Nat × Nat := ctxPair (s.ctx c).conf c
      let x := k (2 * p)
      let y := k (2 * p + 1)
      some (if x.1 < y.1 ∨ (x.1 = y.1 ∧ x.2 ≤ y.2) then 2 * p else 2 * p + 1)
    else none
  | _, _ => none

/-- A ready line is served: it joins its frame, as a damaged line where the line buffer lost it, every pixel marked under BADFILL
(R147, R152, R155, R263). -/
def State.serveLine (s : State) (c : Nat) : State :=
  let x := s.ctx c
  match x.ready with
  | none => s
  | some (k, n, l) =>
    let m := s.frm c k
    let r := s.memRead (.line (c / 2)) (lineBufAt c) (2 * ctxW m.conf c)
    let worse := r.2.1 && !l.dam
    let dam := l.dam || r.2.1
    let line := { l with dam := dam, px := if dam ∧ m.conf (CTX.SRC_BADFILL c) = 1 then l.px.map fun _ => none else l.px }
    let s1 := if worse then r.2.2.addSat (CTX.CNT1_DAMAGED c) 1 else r.2.2
    let s2 := (s1.setCtx c { s1.ctx c with ready := none, turned := true }).updFrm c k fun m =>
      { m with lines := AMap.set m.lines n line, dam := if worse then min (m.dam + 1) 65535 else m.dam }
    (s2.wr (ING.PSTAT_LAST (c / 2)) (c % 2)).ctxRun c

/-- Row DATAPATH_TURN: one turn of a pipeline's datapath (R147); `idle` says that it stood idle before. -/
def execDatapathTurn (p : Fin 12) (idle : Bool) (t : Nat) (s : State) : Host.Outcome State Fault Refusal :=
  .next (match (if idle then (s.turnTie p).orElse fun _ => s.turnOf p else s.turnOf p) with
    | some c => (s.at t).serveLine c
    | none => s)

/-- ING_PSTAT.BUSY at a tick: 0 where the datapath has served no turn since the last one. How long a turn keeps it busy the spec does not say
beyond the peak cost of R145 (R171, log 2). -/
def State.busyTick (s : State) : State :=
  (List.range 12).foldl (fun s p =>
    let v := if (s.ctx (2 * p)).turned || (s.ctx (2 * p + 1)).turned then freeSample [171, p, s.now] % 1001 else 0
    ((s.wr (ING.PSTAT_BUSY p) v).setCtx (2 * p) { s.ctx (2 * p) with turned := false }).setCtx (2 * p + 1)
      { s.ctx (2 * p + 1) with turned := false }) s

/-- A fill line of a region is written and leaves the queue of its pipeline (R155). -/
def State.fillWrite (s : State) (c r : Nat) (m : Frm) : State :=
  let p := c / 2 * 2
  ((s.setCtx p { s.ctx p with fillQ := (s.ctx p).fillQ.drop 1 }).rgnRow c r m false .fill).ctxRun c

/-- Row FILL_LINE_WRITE: the next row of a region is a fill line and is written; fill lines of the pipeline that fell due before it go first
(R155). -/
def execFillLineWrite (c : Fin 24) (r : Fin 4) (t : Nat) (s : State) : Host.Outcome State Fault Refusal :=
  let s1 := (s.at t).fillDue c
  .next (match (s1.ctx c).rgnFrame c r with
    | some m => if (s1.ctx (c / 2 * 2)).fillQ.head? = some (4 * c.val + r.val) then s1.fillWrite c r m else s
    | none => s)

/-- Row FRAME_RECORD_WRITE: the record of a region's oldest frame is written once credit allows (R170). -/
def execFrameRecordWrite (c : Fin 24) (r : Fin 4) (t : Nat) (s : State) : Host.Outcome State Fault Refusal :=
  let x := s.ctx c
  .next (match x.rgnFrame c r with
    | some m => if rgnH m.conf c r ≤ AMap.get 0 m.rgn r ∧ m.endAt.isSome then ((s.at t).rgnRecord c r m).ctxRun c else s
    | none => s)

/-- Row FRAME_TIMEOUT: no FRAME_END within TMO ms of FRAME_START (R153). -/
def execFrameTimeout (c : Fin 24) (t : Nat) (s : State) : Host.Outcome State Fault Refusal :=
  .next (match (s.ctx c).opened with
    | some m =>
      if m.start + 1000000 * max 1 (m.conf (CTX.FILL_TMO c)) ≤ t then
        ((s.at t).linkShut m.link m.vc).frmClose c .timeout
      else s
    | none => s)

/-- ING_PCTL.CLR_CNT: the counters of both slots of a pipeline. -/
def execIngClrCnt (p : Fin 12) (s : State) : Host.Outcome State Fault Refusal :=
  .next (([2 * p.val, 2 * p.val + 1] : List Nat).foldl (fun s c =>
    ([CTX.CNT0_TRUNC c, CTX.CNT0_OVERLONG c, CTX.CNT1_LOST_LINES c, CTX.CNT1_DAMAGED c, CTX.CNT2_ORPHAN c, CTX.CNT2_LINE_WIDTH c,
      CTX.CNT3_LINEBUF_OVF c, CTX.CNT3_FLUE_FULL c, CTX.CNT4_MAP_ORDER c, CTX.CNT4_GEOM_DECL c,
      CTX.CNT4_FNUM_MISMATCH c] : List Fld).foldl (fun s f => s.wr f 0) s) s)

/-- ING_CTXs_INJ.FLK_BAD: the next flicker report is invalid. -/
def execIngInjFlkBad (c : Fin 24) (s : State) : Host.Outcome State Fault Refusal :=
  .next (if s.injLocked then s else (s.setCtx c { s.ctx c with injFlk := true }))

/-- ING_CTXs_INJ.MAPERR: the next map entry is out of order. -/
def execIngInjMaperr (c : Fin 24) (s : State) : Host.Outcome State Fault Refusal :=
  .next (if s.injLocked then s else (s.setCtx c { s.ctx c with injMap := true }))

/-- ING_CTXs_INJ.LINEDROP: the next ready line is discarded as under R148. -/
def execIngInjLinedrop (c : Fin 24) (s : State) : Host.Outcome State Fault Refusal :=
  .next (if s.injLocked then s else (s.setCtx c { s.ctx c with injDrop := true }))

end Sys2Proof.Machine
end

