-- ==== Sys2Proof/Machine/Flicker.lean ====
section
/-! DEFINITION. The flicker measurement of a window of rows (R167), in fixed point of 2^-40: the spec gives the formulas in real numbers
and no precision (DESIGN CHOICE, log 30). -/

namespace Sys2Proof.Machine

/-- One in the fixed point of the flicker formulas. -/
def fxOne : Int := 2 ^ 40

/-- The rest of the series of a sine or cosine from a term: each term is the one before times -a^2 / ((i + 1)(i + 2)). -/
def trigTail (a2 : Int) : Nat → Int → Nat → Int
  | 0, _, _ => 0
  | k + 1, term, i => term + trigTail a2 k (-(term * a2 / fxOne / ((i + 1) * (i + 2) : Nat))) (i + 2)

/-- Sine and cosine of `x` 2^-40 turns. -/
def turnTrig (x : Nat) : Int × Int :=
  let a : Int := ((x % 2 ^ 38 * 6908435304715 / 2 ^ 40 : Nat) : Int)
  let a2 := a * a / fxOne
  let si := trigTail a2 12 a 1
  let co := trigTail a2 12 fxOne 0
  match x / 2 ^ 38 % 4 with
  | 0 => (si, co)
  | 1 => (co, -si)
  | 2 => (-si, -co)
  | _ => (-co, si)

/-- The turns of a frequency in 2^-20 mHz up to device time `t`, in 2^-40 turn. -/
def turnsAt (freq t : Nat) : Nat := freq * t * 2 ^ 20 / 10 ^ 12 % 2 ^ 40

/-- The rows of a window as device time and r = (m - μ) / μ, with μ the mean over the rows of the same frame (R167). A frame whose rows are
all 0 has no r that the spec states: it is free (log 2). -/
def flkRows (rows : List (Nat × Nat × Nat)) : List (Nat × Int) :=
  rows.map fun x =>
    let mine := rows.filter fun y => y.2.2 == x.2.2
    let total : Nat := mine.foldl (fun a y => a + y.2.1) 0
    (x.1, if total = 0 then sint 42 (freeFlicker 4 [x]) else (((mine.length * x.2.1 : Nat) : Int) - (total : Int)) * fxOne / (total : Int))

/-- S at a frequency: real and imaginary part (R167). -/
def flkSum (rows : List (Nat × Int)) (freq : Nat) : Int × Int :=
  rows.foldl (fun a x =>
    let sc := turnTrig (turnsAt freq x.1)
    (a.1 + x.2 * sc.2 / fxOne, a.2 - x.2 * sc.1 / fxOne)) (0, 0)

/-- The square of a magnitude. -/
def mag2 (z : Int × Int) : Nat := (z.1 * z.1 + z.2 * z.2).toNat

/-- The largest angle in 2^-40 turn of the first quadrant, below `acc + 2 ^ k`, whose tangent is at most b / a. -/
def turnSearch (a b : Nat) : Nat → Nat → Nat
  | 0, acc => acc
  | k + 1, acc =>
    let y := turnTrig (acc + 2 ^ k)
    if y.1 * a ≤ y.2 * b then turnSearch a b k (acc + 2 ^ k) else turnSearch a b k acc

/-- The argument of a complex number in 2^-40 turn. -/
def turnOf (z : Int × Int) : Nat :=
  let y := turnSearch z.1.natAbs z.2.natAbs 38 0
  (if 0 ≤ z.1 then (if 0 ≤ z.2 then y else 2 ^ 40 - y) else if 0 ≤ z.2 then 2 ^ 39 - y else 2 ^ 39 + y) % 2 ^ 40

/-- A flicker report: frequency in mHz, device time of the bright half's start, depth in 2^-16, validity. -/
structure FlkReport where
  freq   : Nat := 0
  bright : Nat := 0
  depth  : Nat := 0
  valid  : Bool := false
  deriving DecidableEq, Repr

/-- The place of the largest number of a list, the first of equal ones. -/
def argMax (l : List Nat) : Nat :=
  ((List.range l.length).foldl (fun b k => if l.getD b 0 < l.getD k 0 then k else b) 0)

/-- The report of a window that ends at device time `e`, with threshold FLK_THR (R167, steps 1 to 6). Where the sum at the frequency found
is 0 its argument, and with no rows the depth, has no value that the spec states (log 2). -/
def flkReport (win : List (Nat × Nat × Nat)) (e thr : Nat) : FlkReport :=
  let rows := flkRows win
  let n := rows.length
  let bins := (List.range 197).map fun k => mag2 (flkSum rows ((40000 + 10000 * k) * 2 ^ 20))
  let k := argMax bins
  let m (j : Nat) : Int := (Nat.sqrt (bins.getD j 0) : Nat)
  let den := 2 * (2 * m k - m (k - 1) - m (k + 1))
  let delta : Int := if k = 0 ∨ k = 196 ∨ den = 0 then 0 else max (-(2 ^ 19)) (min (2 ^ 19) (((m (k + 1) - m (k - 1)) * 2 ^ 20).tdiv den))
  let freq := (((40000 + 10000 * k) * 2 ^ 20 : Nat) + 10000 * delta).toNat
  let z := flkSum rows freq
  let arg := if mag2 z = 0 then freeFlicker 1 win % 2 ^ 40 else turnOf z
  let past := (turnsAt freq e + arg + 2 ^ 38) % 2 ^ 40
  let rest := bins.foldl (· + ·) 0 - bins.getD k 0
  { freq := (freq + 2 ^ 19) / 2 ^ 20,
    bright := uwrap 64 ((e : Int) - ceilDiv (past * 10 ^ 12) (freq * 2 ^ 20)),
    depth := if n = 0 then freeFlicker 2 win % 2 ^ 16 else Nat.sqrt (mag2 z) / (n * 2 ^ 23),
    valid := decide (64 ≤ n) && decide (thr * thr * rest ≤ bins.getD k 0 * 16 * 196) }

end Sys2Proof.Machine
end

