-- ==== Sys2Proof/Machine/LedgerRows.lean ====
section
/-! DEFINITION. The rows of the ledger that look at an axis between its counted steps (R75, R77). -/

namespace Sys2Proof.Machine

/-- Row ISSUE_FREEZE (R75). -/
def execIssueFreeze (e : Fin 4096) (ch : Fin 32) (t : Nat) (s : State) : Host.Outcome State Fault Refusal :=
  .next (s.issueFreeze e ch t)

/-- Row LEDGER_TARGET_REACHED: an axis that moves without a counted step reaches the target of an entry with no camera
and no strobe; the occurrence fires and ends (R77). -/
def execLedgerTargetReached (e : Fin 4096) (t : Nat) (s0 : State) : Host.Outcome State Fault Refusal :=
  .next (let s := s0.sampled t
    let a := s.ent e
    if a.st ≠ .empty ∧ a.st ≠ .done ∧ a.w.channels = [] ∧ s.on TRG.CFG_EN ∧ s.movesToward a.w ∧
        0 ≤ s.approachSign a.w * (s.posAt a.w.axis t - a.target).toInt then
      s.fireReached e t
    else s0)


end Sys2Proof.Machine
end

