-- ==== Sys2Proof/Machine/Lite.lean ====
section
/-! DEFINITION. Flicker reports and the lighting-phase lock (R92 to R94, R167). -/

namespace Sys2Proof.Machine

/-- The lock is enabled: EN with a SRC that is a link. -/
def State.liteOn (s : State) : Bool := s.on TRG.LITE_CFG_EN && decide (s.cfg TRG.LITE_CFG_SRC < 24)

/-- The context whose reports the lock takes: that of link SRC with FLK_EN, the lower VC first (R167). -/
def State.liteCtx (s : State) : Option Nat :=
  let cs := (List.range 24).filter fun c =>
    let f := (s.ctx c).conf
    ctxOn f c && f (CTX.SRC_LINK c) == s.cfg TRG.LITE_CFG_SRC && f (CTX.STATCFG_FLK_EN c) == 1
  cs.foldl (fun b c => match b with
    | none => some c
    | some d => if (s.ctx c).conf (CTX.SRC_VC c) < (s.ctx d).conf (CTX.SRC_VC d) then some c else some d) none

/-- The oscillator's phase at elapsed time `t`, in 2^-32 cycle, not reduced. -/
def State.litePhase (s : State) (t : Nat) : Int :=
  s.lite.phase + (((t : Int) - s.lite.at_) * s.rd TRG.LITE_FREQ_FREQ * 2 ^ 32).tdiv 1000000000000

/-- Phase wrapped to half a cycle either way. -/
def phaseWrap (x : Int) : Int := sint 32 (uwrap 32 x)

/-- AX7 takes a new base position, moved by `add` in 2^-16 count (R52, R94). -/
def State.liteMove (s : State) (add : Int) : State :=
  if s.comb 7 = 6 then (s.captureCentres 7 s.now).rebase 7 add else s

/-- AX7 follows the lock. -/
def State.liteFollow (s : State) : State := if s.comb 7 = 6 then (s.followSources 7 s.now).axisChanged 7 s.now else s

/-- A correction limited to 1/64 cycle (R92). -/
def limit64 (x : Int) : Int := max (-(2 ^ 26)) (min (2 ^ 26) x)

/-- The step of AX7 at the entry into LOCKED (R94), in 2^-16 count. -/
def State.liteStep (s : State) : Int :=
  let want := (s.litePhase s.now / 65536 + s.cfg TRG.LITE_OFS_OFS) * 256
  sint 24 (uwrap 24 (want - (s.posAt 7 s.now).toNat))

/-- The lock enters LOCKED; from SEARCH, AX7 steps (R93, R94). -/
def State.liteLock (s : State) (search : Bool) : State :=
  let s1 := s.wr TRG.LITE_STAT_STATE 1
  if search then
    let step := s1.liteStep
    (((if s1.comb 7 = 6 then s1.movePos 7 s1.now (2 * step) else s1).raise 0x0508 0 (leBytes 4 (uwrap 32 (roundDiv step 65536))))).liteFollow
  else s1.liteFollow

/-- A valid report reaches the lock: BRIGHT is where the phase is 0 (R92 to R94). `freq` is in mHz, `period` the report period in
ns. -/
def State.liteReport (s : State) (freq bright period : Nat) : State :=
  let heard (s : State) : State := { s with lite := { s.lite with seen := true, lastAt := s.now, period := period } }
  let seen : Int := (((s.dev : Int) - bright) * freq * 2 ^ 32).tdiv 1000000000000
  if s.lite.seen = false then
    (heard { s with lite := { s.lite with phase := seen, at_ := s.now, run := 0 } }).wr TRG.LITE_FREQ_FREQ freq
  else
    let osc := s.litePhase s.now
    let err := phaseWrap (seen - osc)
    let dp := limit64 (err.tdiv (2 ^ s.cfg TRG.LITE_CFG_KP))
    let df := (limit64 (err.tdiv (2 ^ s.cfg TRG.LITE_CFG_KI)) * 1000000000000).tdiv (2 ^ 32 * max 1 period)
    let live := s.rd TRG.LITE_STAT_STATE ≠ 0
    let s1 := s.liteMove (if live then dp.tdiv 256 else 0)
    let run := if err.natAbs < 2 ^ 26 then s1.lite.run + 1 else 0
    let s2 := heard { s1 with lite := { s1.lite with phase := osc + dp, at_ := s1.now, run := run } }
    let s3 := (s2.wr TRG.LITE_FREQ_FREQ (max 0 ((s2.rd TRG.LITE_FREQ_FREQ : Int) + df)).toNat).wr TRG.LITE_PERR_PERR
      (uwrap 16 (err.tdiv 65536))
    match s3.rd TRG.LITE_STAT_STATE with
    | 0 => if 8 ≤ run then s3.liteLock true else s3
    | 2 => s3.liteLock false
    | _ => s3.liteFollow

/-- HOLDOVER begins (R93). -/
def State.liteHold (s : State) : State :=
  { s.wr TRG.LITE_STAT_STATE 2 with lite := { s.lite with heldAt := s.now } }

/-- A report marked invalid reaches the lock (R93). -/
def State.liteBad (s : State) : State :=
  let s1 := { s with lite := { s.lite with run := 0 } }
  if s.rd TRG.LITE_STAT_STATE = 1 then s1.liteHold else s1

/-- The flicker window in force, in ns (R167). -/
def flkWindow (f : Conf) (c : Nat) : Nat := 1000000 * min 1000 (max 100 (f (CTX.STATCFG_FLK_WIN c)))

/-- Row FLICKER_REPORT: a flicker window ends and the context forms a report (R92, R167). -/
def execFlickerReport (ctx : Fin 24) (t : Nat) (s : State) : Host.Outcome State Fault Refusal :=
  let c := ctx.val
  let x := s.ctx c
  let f := x.conf
  .next (match x.winAt with
    | none => s
    | some w =>
      let e := w + flkWindow f c
      if t < e ∨ f (CTX.STATCFG_FLK_EN c) = 0 ∨ bypassed f c 3 then s
      else
        let s0 := s.at t
        let r := flkReport x.rows (s0.devAt e) (f (CTX.FLK_THR_THR c))
        let valid := r.valid && !x.injFlk
        let s1 := ((((((s0.setCtx c { x with rows := [], winAt := some e, injFlk := false }).wr (CTX.FLK_FREQ_FREQ c) r.freq).wr
          (CTX.FLK_BRIGHT_LO_TIME c) r.bright).wr (CTX.FLK_BRIGHT_HI_TIME c) (r.bright / 2 ^ 32)).wr
          (CTX.FLK_DEPTH_DEPTH c) r.depth).wrB (CTX.STAT_FLK_VALID c) valid).raise 0x0A0D c []
        if s.liteOn ∧ s.liteCtx = some c then (if valid then s1.liteReport r.freq r.bright (flkWindow f c) else s1.liteBad) else s1)

/-- Row LIGHT_HOLDOVER: no valid report for 4 expected periods (R93). -/
def execLightHoldover (t : Nat) (s : State) : Host.Outcome State Fault Refusal :=
  .next (if s.rd TRG.LITE_STAT_STATE = 1 ∧ s.lite.lastAt + 4 * s.lite.period ≤ t then (s.at t).liteHold else s)

/-- Row LIGHT_LOST: HOLDOVER has lasted LOSS ms (R93). What the lock does when EN is cleared while LOCKED or HOLDOVER the spec does not say:
it gets no more reports and runs on through HOLDOVER to SEARCH, with LIGHT_LOST (DESIGN CHOICE, log 30). -/
def execLightLost (t : Nat) (s : State) : Host.Outcome State Fault Refusal :=
  .next (if s.rd TRG.LITE_STAT_STATE = 2 ∧ s.lite.heldAt + 1000000 * max 1 (s.cfg TRG.LITE_CFG_LOSS) ≤ t then
    let s1 := (s.at t).liteMove 0
    let s2 := { (s1.wr TRG.LITE_STAT_STATE 0).set1 TRG.LITE_STAT_LOST_STKY with lite := { s1.lite with seen := false, run := 0 } }
    (s2.raise 0x0509 0 []).liteFollow
  else s)

/-- EN of the lock is set: SEARCH begins anew, and AX7 has no source until the lock is entered (R93). -/
def State.liteStart (s : State) : State :=
  ({ (s.liteMove 0).wr TRG.LITE_STAT_STATE 0 with lite := { s.lite with seen := false, run := 0 } }).liteFollow

end Sys2Proof.Machine
end

