-- ==== Sys2Proof/Machine/Swath.lean ====
section
/-! DEFINITION. Swath synthesis: frames, decided rows, pixels, emission, strips, restarts, control and status (R240 to R255). -/

namespace Sys2Proof.Machine

/-! ### Counters and inputs -/

/-- Add to a counter of the status record; the counters of rejected frames hold 16 bits, the others 32 (R254). -/
def Swath.count (x : Swath) (i k : Nat) : Swath :=
  { x with cnt := AMap.set x.cnt i (min (AMap.get 0 x.cnt i + k) (if 8 ≤ i then 65535 else 2 ^ 32 - 1)) }

/-- Input `i` of a swath. -/
def Swath.input (x : Swath) (i : Nat) : SwInput := AMap.get {} x.inputs i

/-- Change input `i` of a swath. -/
def Swath.setInput (x : Swath) (i : Nat) (y : SwInput) : Swath := { x with inputs := AMap.set x.inputs i y }

/-- The first buffer of an input that no accepted frame holds. -/
def SwInput.freeBuf (y : SwInput) (nbuf : Nat) : Option Nat := (List.range nbuf).find? fun j => y.frames.all fun f => f.buf != some j

/-- The frame of an input that an item belongs to: the one being collected, or a new one. -/
def SwInput.frameOf (y : SwInput) (num : Nat) : SwFrame :=
  match y.cur with
  | some f => if f.num = num then f else { num := num }
  | none => { num := num }

/-! ### Line items (R239, "Accepting frames") -/

/-- GDDR7 address of a sample of a stored frame: plane `p`, line `v`, column `u`. -/
def SwDesc.sampleAt (d : SwDesc) (i : Nat) (f : SwFrame) (p v u : Nat) : Nat :=
  d.bufAt i (f.buf.getD 0) + v * (d.ch * f.win * 2) + p * f.win * 2 + 2 * u

/-- The first line item of a frame takes a buffer and gives Win (R239, R240, R253). -/
def Swath.firstLine (x : Swath) (d : SwDesc) (i : Nat) (f : SwFrame) (len e : Nat) : SwFrame × Swath :=
  if f.len ≠ 0 then (f, x)
  else
    let b := if x.injFull then none else (x.input i).freeBuf (d.inputs.getD i {}).nbuf
    ({ f with buf := b, full := b.isNone, len := len, win := (len - 8) / (d.ch * e) }, { x with injFull := false })

/-- A line item of an input is stored in the frame's buffer (R239, R240). -/
def State.swLine (s : State) (w i : Nat) (d : SwDesc) (bytes : List Nat) : State :=
  let fl := bytes.getD 7 0
  if fl.testBit 2 then s
  else
    let e := if fl.testBit 3 then 1 else 2
    let x0 := s.swath w
    let r := x0.firstLine d i ((x0.input i).frameOf (leAt bytes 0 4)) bytes.length e
    let f := r.1
    let line := leAt bytes 4 2
    let row := d.ch * f.win * 2
    let keep (g : SwFrame) : State := s.setSwath w (r.2.setInput i { r.2.input i with cur := some g })
    if f.full ∨ f.big then keep f
    else if (d.inputs.getD i {}).bytes < line * row + row then keep { f with big := true }
    else if fl.testBit 0 ∨ bytes.length ≠ f.len then keep { f with lines := AMap.set f.lines line true }
    else
      let px := if e = 1 then (bytes.drop 8).flatMap (fun b => [0, b]) else bytes.drop 8
      (keep { f with lines := AMap.set f.lines line false }).memWrite .gddr (d.sampleAt i f 0 line 0) (px.take row)

/-- A poisoned line item is discarded and its frame carries GRAPH_FAULT (R263). -/
def State.swPoison (s : State) (w i : Nat) (bytes : List Nat) : State :=
  let x := s.swath w
  let f := (x.input i).frameOf (leAt bytes 0 4)
  s.setSwath w (x.setInput i { x.input i with cur := some { f with fault := true } })

/-- Row SWATH_LINE_ITEM: a swath input reads a line item of its flue (R235, R239). -/
def execSwathLineItem (w : Fin 2) (i : Fin 16) (t : Nat) (s : State) : Host.Outcome State Fault Refusal :=
  let s := s.endpointCatch (3 * 4096 + 16 * w.val + i.val) t
  .next (match (s.swath w).active, s.endpointNext (3 * 4096 + 16 * w.val + i.val) with
    | some d, some (gen, f, j, x) =>
      if d.inputs.length ≤ i.val ∨ s.itemIsRec gen f x then s
      else
        let r := (s.at t).endpointRead gen f j x
        if r.2.1 then r.2.2.swPoison w i r.1 else r.2.2.swLine w i d r.1
    | _, _ => s)

/-! ### Acceptance (R240, R241) -/

/-- P_NEXT has passed the zone of a frame (R241). -/
def SwDesc.passed (d : SwDesc) (i : Nat) (next : Int) (f : SwFrame) : Bool :=
  decide (0 < pdiff (d.rowPos next) (f.pf + d.yref i + d.zone i))

/-- Some row from `next` on lies in the zone of a frame (R240 reason 8). -/
def SwDesc.zoneAhead (d : SwDesc) (i : Nat) (next : Int) (pf : Nat) : Bool :=
  let c := pdiff (pf + d.yref i) (d.rowPos next)
  let first := -((-(max 0 (c - d.zone i))) / d.pitch)
  decide (first * d.pitch ≤ c + d.zone i)

/-- The reason for which a frame is rejected, by its trigger record with position and speed at the exposure centre (R240). -/
def Swath.reject (x : Swath) (d : SwDesc) (i : Nat) (f : SwFrame) (trig : Option (TrigRec × Nat × Nat)) : Option Nat :=
  match trig with
  | none => some 1
  | some (r, pos, speed) =>
    if r.axis ≠ d.axis then some 2
    else if sint 32 speed < 0 then some 3
    else if (x.input i).hwa.elim false (fun h => decide (pdiff pos h ≤ 0)) then some 4
    else if f.full then some 5
    else if f.big then some 6
    else if r.centre < x.since then some 7
    else if d.zoneAhead i x.next pos = false then some 8
    else none

/-- The frame record item of an input: the frame is accepted or rejected (R240). -/
def State.swRecord (s : State) (w i : Nat) (d : SwDesc) (bytes : List Nat) : State :=
  let x := s.swath w
  let y := x.input i
  let rcd := bytes.drop 8
  let f0 := y.frameOf (leAt bytes 0 4)
  let f := { f0 with full := f0.full || (f0.len == 0 && x.injFull), fault := f0.fault || (leAt rcd 6 2).testBit 8, hin := leAt rcd 26 2 }
  let cam := 4 * rcd.getD 4 0 + rcd.getD 5 0 % 4
  let tag := s.frameTag cam (leAt rcd 0 4)
  let trig := (tag.bind (·.trig)).map fun r => (r, s.trigPos r)
  let x1 := { x with injFull := x.injFull && f0.len != 0 }
  match x1.reject d i f trig with
  | some r =>
    let s1 := (s.setSwath w ((x1.setInput i { y with cur := none }).count (7 + r) 1)).raise 0x1505 w (leBytes 4 i ++ leBytes 4 r)
    if r = 8 then s1.raise 0x1508 w [] else s1
  | none =>
    let pf := (trig.map fun e => e.2.1).getD 0
    s.setSwath w (x1.setInput i { cur := none, frames := y.frames ++ [{ f with pf := pf }], hwa := some pf })

/-! ### Decided rows (R242, R243, R248) -/

/-- The accepted frame of an input that serves row `k`: the nearest, a later one on a tie (R242). -/
def SwDesc.choose (d : SwDesc) (i : Nat) (frames : List SwFrame) (k : Int) : Option SwFrame :=
  let dist (f : SwFrame) : Nat := (pdiff (d.rowPos k) (f.pf + d.yref i)).natAbs
  frames.foldl (fun b f =>
    if d.zone i < dist f then b
    else match b with
      | some g => if dist g < dist f then b else some f
      | none => some f) none

/-- The next row is decided and joins the backlog; `gap` decides it with every input missing (R242, R243, R248, R253). -/
def State.swDecide (s : State) (w : Nat) (d : SwDesc) (forced gap : Bool) : State :=
  let x := s.swath w
  let n := x.backlog.length
  let slow := x.slow && decide (2048 < n)
  let start := !slow && decide (4096 ≤ n)
  let row : SwRow :=
    { k := x.dec, at_ := s.dev, forced := forced, fast := slow || start || x.injOver, speed := s.rd (AX.SPEED d.axis),
      choice := (List.range d.inputs.length).map fun i => if gap then none else d.choose i (x.input i).frames x.dec }
  let s1 := s.setSwath w { x with dec := x.dec + 1, backlog := x.backlog ++ [row], slow := slow || start, injOver := false }
  let s2 := if start ∨ (x.injOver ∧ slow = false) then s1.raise 0x1503 w [] else s1
  if forced then s2.raise 0x1502 w [] else s2

/-- Decide a number of rows. -/
def State.swDecideN (s : State) (w : Nat) (d : SwDesc) (forced : Bool) : Nat → State
  | 0 => s
  | n + 1 => (s.swDecide w d forced false).swDecideN w d forced n

/-- Rows from the next undecided one up to position `p`. -/
def Swath.rowsTo (x : Swath) (d : SwDesc) (p : Int) : Nat :=
  let q := pdiff p (d.rowPos x.dec)
  if q < 0 then 0 else (q / d.pitch).toNat + 1

/-- Rows for which every input has an accepted frame at or beyond them (R243). -/
def Swath.rowsClosed (x : Swath) (d : SwDesc) : Nat :=
  let each (i : Nat) : Nat := (x.input i).hwa.elim 0 fun h => x.rowsTo d (h + d.yref i)
  ((List.range d.inputs.length).map each).foldl min (each 0)

/-- Rows that the axis position forces; an axis in NO_SOURCE forces none (R243, R244). -/
def State.swForced (s : State) (w : Nat) (d : SwDesc) : Nat :=
  if s.axisMotion d.axis = 5 then 0 else (s.swath w).rowsTo d ((s.posAt d.axis s.now).toNat - d.force)

/-- One evaluation: closing frames act before forcing (R243). -/
def State.swEval (s : State) (w : Nat) (d : SwDesc) : State :=
  let s1 := s.swDecideN w d false ((s.swath w).rowsClosed d)
  s1.swDecideN w d true (s1.swForced w d)

/-- Row SWATH_FRAME_RECORD: a swath input reads a frame record item (R240, R243). -/
def execSwathFrameRecord (w : Fin 2) (i : Fin 16) (t : Nat) (s : State) : Host.Outcome State Fault Refusal :=
  let s := s.endpointCatch (3 * 4096 + 16 * w.val + i.val) t
  .next (match (s.swath w).active, s.endpointNext (3 * 4096 + 16 * w.val + i.val) with
    | some d, some (gen, f, j, x) =>
      if d.inputs.length ≤ i.val ∨ s.itemIsRec gen f x = false then s
      else
        let r := (s.at t).endpointRead gen f j x
        (if r.2.1 then r.2.2 else r.2.2.swRecord w i d r.1).swEval w d
    | _, _ => s)

/-- Row SWATH_FORCE_EVAL: every 10 µs the rows that the axis has reached are forced (R243). -/
def execSwathForceEval (w : Fin 2) (t : Nat) (s : State) : Host.Outcome State Fault Refusal :=
  .next (match (s.swath w).active with
    | some d => let s0 := s.at t; (s0.swathFollow d.axis s0.now w).swEval w d
    | none => s)

/-! ### Pixels (R245 to R247) -/

/-- X_j of column `j` in mm (R239). -/
def SwDesc.colX (d : SwDesc) (j : Nat) : Fl := (Fl.ofRat (2 * d.x0 + (2 * j + 1) * d.gsd) 2).div (Fl.ofInt 1000)

/-- Y of row `k` for a frame in mm (R245 step 1). -/
def SwDesc.rowY (d : SwDesc) (k : Int) (f : SwFrame) : Fl :=
  (((Fl.ofInt (pdiff (d.rowPos k) f.pf)).mul (Fl.ofInt d.umpc)).div (Fl.ofInt (2 ^ 32))).div (Fl.ofInt 1000)

/-- The sample position in units of 1/32 pixel (R245 steps 2 and 3). -/
def SwIn.project (e : SwIn) (x y : Fl) : Option (Int × Int) :=
  let h (i : Nat) : Fl := Fl.ofBits (e.h.getD i 0)
  let row (i : Nat) : Fl := (((h i).mul x).add ((h (i + 1)).mul y)).add (h (i + 2))
  let z := row 6
  if z.nonPos then none
  else match ((row 0).div z).to32, ((row 3).div z).to32 with
    | some sx, some sy => some (sx, sy)
    | _, _ => none

/-- The neighbours with a weight, as column, line and weight (R201 steps 2 and 5). -/
def swTaps (sx sy : Int) : List (Int × Int × Nat) :=
  let u := sx / 32
  let v := sy / 32
  let fx := (sx % 32).toNat
  let fy := (sy % 32).toNat
  ([(u, v, (32 - fx) * (32 - fy)), (u + 1, v, fx * (32 - fy)), (u, v + 1, (32 - fx) * fy), (u + 1, v + 1, fx * fy)] :
    List (Int × Int × Nat)).filter fun e => decide (e.2.2 ≠ 0)

/-- A neighbour lies inside the frame and on a line that is stored and no fill line (R245 step 3). -/
def SwFrame.has (f : SwFrame) (e : Int × Int × Nat) : Bool :=
  decide (0 ≤ e.1 ∧ e.1 < f.win ∧ 0 ≤ e.2.1 ∧ e.2.1 < f.hin) && f.lines.any fun l => decide ((l.1 : Int) = e.2.1) && !l.2

/-- Where a column of a row samples an input, by geometry: sx, sy and its neighbours. -/
def SwDesc.place (d : SwDesc) (i : Nat) (f : SwFrame) (k : Int) (j : Nat) : Option (Int × Int × List (Int × Int × Nat)) :=
  match (d.inputs.getD i {}).project (d.colX j) (d.rowY k f) with
  | none => none
  | some (sx, sy) => if (swTaps sx sy).all f.has then some (sx, sy, swTaps sx sy) else none

/-- The node of a sharpness grid that a sample takes (R245 step 4): its address. A frame one pixel wide or high has no stated node in
that direction (log 2). -/
def SwIn.node (e : SwIn) (f : SwFrame) (sx sy : Int) : Nat :=
  let node (v : Int) (n which : Nat) : Nat :=
    if n ≤ 1 then freeSample [245, f.num, which] % 33 else (roundDiv v (n - 1)).toNat
  e.grid + node sy f.hin 1 * 33 + node sx f.win 0

/-- GDDR7 addresses of the samples, grid nodes and seam bytes that a row reads. -/
def SwDesc.reads (d : SwDesc) (r : SwRow) : List Nat :=
  (if d.hard then (List.range d.w).map (d.seams + ·) else []) ++
  (List.range d.inputs.length).flatMap fun i =>
    match r.choice.getD i none with
    | none => []
    | some f => (List.range d.w).flatMap fun j =>
      match d.place i f r.k j with
      | none => []
      | some p =>
        (d.inputs.getD i {}).node f p.1 p.2.1 ::
          p.2.2.flatMap fun e => (List.range d.ch).map fun c => d.sampleAt i f c e.2.1.toNat e.1.toNat

/-- The words that a row reads are met: corrected or poisoned (R262 to R264). -/
def State.swMeet (s : State) (addrs : List Nat) : State :=
  if s.memu.faults = [] then s
  else (s.meetWords .gddr ((s.memu.faults.filter fun e => addrs.any fun a => wordKey .gddr a == e.1).map Prod.fst)).1

/-- A byte of a table of the descriptor; what a poisoned one gives is not stated (R263; log 2). -/
def State.swTable (s : State) (a : Nat) : Nat :=
  if (s.faultsIn .gddr a 1).any fun x => x.2.poison then freeSample [263, s.freeCount, a] % 256
  else (s.memBytes .gddr a 1).getD 0 0

/-- An input's contribution to a pixel: weight and channel values; none where it does not cover the pixel (R245). -/
def State.swInputPx (s : State) (d : SwDesc) (i : Nat) (f : SwFrame) (k : Int) (j : Nat) : Option (Nat × List Nat) :=
  match d.place i f k j with
  | none => none
  | some (sx, sy, taps) =>
    let at_ (c : Nat) (e : Int × Int × Nat) : Nat := d.sampleAt i f c e.2.1.toNat e.1.toNat
    let bad := (List.range d.ch).any fun c => taps.any fun e => (s.faultsIn .gddr (at_ c e) 2).any fun x => x.2.poison
    let ws := s.swTable ((d.inputs.getD i {}).node f sx sy)
    if bad ∨ ws = 0 then none
    else
      let vs := (List.range d.ch).map fun c =>
        (taps.foldl (fun a e => a + e.2.2 * leNat (s.memBytes .gddr (at_ c e) 2)) 0 + 512) / 1024
      let margin (v : Nat) : Int := min ((v : Int) - d.lo) ((d.hi : Int) - v)
      let e := (vs.map margin).foldl min (margin (vs.headD 0))
      let ramp := max 1 d.ramp
      some (ws * (1 + 255 * min (max e 0).toNat ramp / ramp), vs)

/-- The weighted mean of the covering inputs (R245). -/
def blend (ch : Nat) (cs : List (Nat × List Nat)) : Option (List Nat) :=
  let sum := cs.foldl (fun a c => a + c.1) 0
  if sum = 0 then none
  else some ((List.range ch).map fun p => (cs.foldl (fun a c => a + c.1 * c.2.getD p 0) 0 + sum / 2) / sum)

/-- A pixel of a row: its values (none where uncovered), the inputs that cover it, and whether it fell back from its column's
owner (R245, R246). -/
def State.swPixel (s : State) (d : SwDesc) (r : SwRow) (j : Nat) : Option (List Nat) × List Nat × Bool :=
  let cs := (List.range d.inputs.length).filterMap fun i =>
    (r.choice.getD i none).bind fun f => (s.swInputPx d i f r.k j).map fun v => (i, v)
  let all := cs.map fun c => c.1
  let owner := s.swTable (d.seams + j)
  if d.hard then
    match cs.find? fun c => c.1 == owner with
    | some c => (some c.2.2, all, false)
    | none => (blend d.ch (cs.map Prod.snd), all, true)
  else (blend d.ch (cs.map Prod.snd), all, false)

/-! ### Row items and strips (R247, R250, R251) -/

/-- A channel value as a row item holds it (R245, R250). -/
def SwDesc.px (d : SwDesc) (v : Nat) : List Nat := if d.out8 then [min 255 ((v + 128) / 256)] else leBytes 2 v

/-- Eight flags a byte, the first in bit 0. -/
def bitBytes (n : Nat) (bits : List Bool) : List Nat :=
  (List.range n).map fun k => (List.range 8).foldl (fun a b => a + (if bits.getD (8 * k + b) false then 2 ^ b else 0)) 0

/-- A set of inputs as a mask. -/
def inputMask (n : Nat) (f : Nat → Bool) : Nat := (List.range n).foldl (fun a i => a + (if f i then 2 ^ i else 0)) 0

/-- The pixels of a row; an overspeed row is not computed, and every pixel of it is uncovered (R247, R248). -/
def State.swPixels (s : State) (d : SwDesc) (r : SwRow) : List (Option (List Nat) × List Nat × Bool) :=
  if r.fast then List.replicate d.w (none, [], false) else (List.range d.w).map (s.swPixel d r)

/-- A decided row is computed and waits for credit (R248, R250). -/
def State.swRowOut (s : State) (w : Nat) (d : SwDesc) (r : SwRow) : State :=
  let s0 := if r.fast then s else s.used.swMeet (d.reads r)
  let x := s0.swath w
  let ps := s0.swPixels d r
  let n := d.inputs.length
  let holes := (ps.filter fun p => p.1.isNone).length
  let missing := inputMask n fun i => (r.choice.getD i none).isNone
  let covered := inputMask n fun i => ps.any fun p => p.2.1.contains i
  let fault := r.choice.any fun f => f.elim false (·.fault)
  let flags := b2n (decide (missing ≠ 0)) + 2 * b2n (decide (holes ≠ 0)) + 4 * b2n r.forced + 8 * b2n r.fast +
    16 * b2n (ps.any fun p => p.2.2)
  let pos := uwrap 64 (d.rowPos r.k)
  let planes := (List.range d.ch).flatMap fun c => ps.flatMap fun p => d.px (p.1.elim d.gap fun v => v.getD c 0)
  let bytes := leBytes 8 (uwrap 64 r.k) ++ leBytes 8 pos ++ leBytes 2 covered ++ leBytes 2 missing ++ leBytes 2 holes ++
    leBytes 2 flags ++ leBytes 8 r.at_ ++ planes ++ (if d.mask then bitBytes (d.w / 8) (ps.map fun p => p.1.isSome) else [])
  let o : SwOut := { bytes := bytes, hflags := b2n (decide (holes = d.w)) + 2 * b2n fault, k := some r.k, kval := r.k, pos := pos,
                     flags := flags, axis := d.axis, at_ := r.at_, speed := r.speed, rows := d.rows, wpx := d.w }
  s0.setSwath w { x with outq := x.outq ++ [o] }

/-- The open strip with one more emitted row (R251). -/
def SwStrip.add (z : SwStrip) (o : SwOut) : SwStrip :=
  let bit (i : Nat) : Nat := b2n (o.flags.testBit i)
  let first := z.rows == 0
  { z with rows := z.rows + 1, gaps := z.gaps + bit 0, holes := z.holes + bit 1, forced := z.forced + bit 2, fast := z.fast + bit 3,
           fault := z.fault || o.hflags.testBit 1, gap := z.gap || o.flags.testBit 0 || o.flags.testBit 1 || o.flags.testBit 3,
           k := if first then o.kval else z.k, pos := if first then o.pos else z.pos,
           first := if first then o.at_ else z.first, last := o.at_ }

/-- The strip record (R251). -/
def Swath.record (x : Swath) (w wpx : Nat) : List Nat :=
  let z := x.strip
  leBytes 4 x.num ++ [255, 4 * w] ++
  leBytes 2 (256 * b2n z.fault + 512 * b2n z.gap + 1024 * b2n z.restart) ++ leBytes 8 z.first ++ leBytes 8 z.last ++
  leBytes 2 wpx ++ leBytes 2 z.rows ++ leBytes 2 z.gaps ++ leBytes 2 z.holes ++ leBytes 2 z.forced ++ leBytes 2 z.fast ++
  List.replicate 12 0 ++ leBytes 8 (uwrap 64 z.k) ++ leBytes 8 z.pos

/-- The open strip closes where it holds an emitted row: its record is the next item (R251). -/
def State.swClose (s : State) (w : Nat) (d : SwDesc) : State :=
  let x := s.swath w
  if x.strip.rows = 0 ∨ (x.outq.head?.any fun o => o.rcd) then s
  else s.setSwath w { x with outq := { rcd := true, wpx := d.w } :: x.outq }

/-- A row has become visible: the strip, counters, events, NEXT, and the buffers that NEXT frees; ROWS rows close the strip (R241,
R244, R251, R254, R255). -/
def State.swEmitted (s : State) (w : Nat) (o : SwOut) : State :=
  let x := s.swath w
  let bit (i : Nat) : Nat := b2n (o.flags.testBit i)
  let z := x.strip.add o
  let x1 := ((((x.count 1 1).count 2 (bit 0)).count 3 (bit 1)).count 4 (bit 2)).count 5 (bit 3)
  let x2 := { x1 with rowAt := s.now, lastPos := some o.pos, strip := z,
                      outq := if o.rows ≤ z.rows then { rcd := true, wpx := o.wpx } :: x.outq else x.outq }
  let x3 := match o.k, x.active with
    | some k, some d => { x2 with
        next := k + 1
        inputs := x2.inputs.map fun e => (e.1, { e.2 with frames := e.2.frames.filter fun f => !d.passed e.1 (k + 1) f }) }
    | _, _ => x2
  let s1 := s.setSwath w x3
  if o.flags.testBit 0 ∨ o.flags.testBit 1 ∨ o.flags.testBit 3 then s1.raiseFirst 0x1501 w (leBytes 8 (uwrap 64 o.kval)) else s1

/-- A strip has closed, or at a restart none was open: the next one begins (R251, R252). -/
def State.swNewStrip (s : State) (w : Nat) (o : SwOut) : State :=
  let x := s.swath w
  s.setSwath w { x with strip := { restart := o.restart }, num := if o.fresh then 0 else if x.strip.rows = 0 then x.num else (x.num + 1) % 2 ^ 32 }

/-- The oldest waiting item goes into the output flue of the active graph, where it has credit and, for a row, the axis does not
run back; none where it has to wait (R244, R248, R251, R294, R301). -/
def State.swPut (s : State) (w : Nat) : Option State :=
  let x := s.swath w
  let gen := s.graph.gen
  match x.outq, (s.graphOf gen).swathOut w with
  | o :: rest, some f =>
    let s1 := s.setSwath w { x with outq := rest }
    let item := if o.rcd then lineHeader x.num 0xFFFF w 0 ++ x.record w o.wpx else lineHeader x.num x.strip.rows w o.hflags ++ o.bytes
    if o.rcd ∧ x.strip.rows = 0 then some (s1.swNewStrip w o)
    else if s.flueCredit gen f = false ∨ (s.flueDef gen f).bytes < item.length + 8 ∨ (o.rcd = false ∧ s.is (AX.STAT_DIR o.axis)) then none
    else if o.rcd then
      let s2 := s1.flueItem gen f item
      some (((s2.setSwath w ((s2.swath w).count 0 1)).dlvEnd (64 + w) x.num s2.dev).swNewStrip w o)
    else
      let s2 := if x.strip.rows = 0 then
          let tag : TagInfo :=
            { graph := (s1.graphOf gen).id, strip := true, num := x.num, axis := o.axis, pos := o.pos, speed := o.speed }
          ({ s1 with dlv := { s1.dlv with strips := (w, x.num, tag, o.at_) :: s1.dlv.strips } }).offerFrame (s1.graphOf gen)
            (fun e => match e with | .swath k => k == w | .region _ _ => false) (64 + w) 0 tag
        else s1
      some ((s2.flueItem gen f item).swEmitted w o)
  | _, _ => none

/-- Items go while each finds credit. -/
def State.swDrain (s : State) (w : Nat) : Nat → State
  | 0 => s
  | n + 1 =>
    match s.swPut w with
    | some s1 => s1.swDrain w n
    | none => s

/-- Every waiting item, with the close of a strip after each row. -/
def State.swDrainAll (s : State) (w : Nat) : State := s.swDrain w (2 * (s.swath w).outq.length + 1)

/-- Row ROW_COMPUTE: the next row of the backlog is computed and written once credit allows; ROWS rows close the strip (R244,
R248, R251). -/
def execRowCompute (w : Fin 2) (t : Nat) (s : State) : Host.Outcome State Fault Refusal :=
  let x := s.swath w
  .next (match x.active, x.outq, x.backlog with
    | some _, _ :: _, _ => (s.at t).swDrainAll w
    | some d, [], r :: rest =>
      if s.is (AX.STAT_DIR d.axis) then s
      else
        let s1 := (s.at t).setSwath w { x with backlog := rest, slow := x.slow && decide (2048 < rest.length) }
        (s1.swRowOut w d r).swDrainAll w
    | _, _, _ => s)

/-- Row STRIP_TIMEOUT: STRIP_TMO ms without an emitted row close the strip (R251). -/
def execStripTimeout (w : Fin 2) (t : Nat) (s : State) : Host.Outcome State Fault Refusal :=
  let x := s.swath w
  .next (match x.active with
    | some d => if x.strip.rows ≠ 0 ∧ x.rowAt + 1000000 * max 1 d.tmo ≤ t then ((s.at t).swClose w d).swDrainAll w else s
    | none => s)

/-! ### Restarts (R252) -/

/-- Rows up to the highest one that the zone of an accepted frame contains. -/
def Swath.rowsHeld (x : Swath) (d : SwDesc) : Nat :=
  (List.range d.inputs.length).foldl (fun a i =>
    (x.input i).frames.foldl (fun a f => max a (x.rowsTo d (f.pf + d.yref i + d.zone i))) a) 0

/-- Steps 1 to 3 of a restart, under the old configuration and before a preset: decided rows, then those forced up to the axis
position, are emitted, forced rows beyond it are dropped, the strip closes behind them, the buffers are freed. -/
def State.swRestartOld (s : State) (w : Nat) : State :=
  match (s.swath w).active with
  | none => s
  | some d =>
    let x := s.swath w
    let held := x.rowsHeld d
    let reach := min held (x.rowsTo d (s.posAt d.axis s.now).toNat)
    let s1 := s.swDecideN w d true reach
    let s2 := (s1.swath w).backlog.foldl (fun s r => s.swRowOut w d r) (s1.setSwath w { s1.swath w with backlog := [] })
    let y := s2.swath w
    (s2.setSwath w { y.count 6 (held - reach) with
      outq := (y.outq.map fun o => { o with k := none }) ++ [{ rcd := true, wpx := d.w, restart := true }],
      lastPos := ((y.outq.filter fun o => !o.rcd).getLast?.map (·.pos)).or y.lastPos, inputs := [], slow := false }).swDrainAll w

/-- Step 4 of a restart, after the sample: NEXT, and what begins anew (R251, R252). `fresh` says that the commit activates a
descriptor, `preset` that the axis of the active descriptor has been preset. -/
def State.swRestartNew (s : State) (w : Nat) (fresh preset : Bool) : State :=
  match (s.swath w).active with
  | none => s
  | some d =>
    let x := s.swath w
    let pos : Int := (s.posAt d.axis s.now).toNat
    let k0 := pdiff pos (d.origin + d.force) / d.pitch + 1
    let k := match x.lastPos with
      | some p => if preset then k0 else max k0 (pdiff p d.origin / d.pitch + 1)
      | none => k0
    let dir := s.is (AX.STAT_DIR d.axis)
    let y := { x with next := k, dec := k, top := pos.toNat, back := dir, stop := dir, since := s.now, inputs := [], backlog := [], slow := false }
    (s.setSwath w (if x.outq.any (·.restart) then { y with outq := x.outq.map fun o => { o with fresh := o.fresh || (o.restart && fresh) } }
      else { y with strip := { restart := true }, num := if fresh then 0 else x.num })).raise 0x1504 w []

/-! ### Control and status (R253, R254) -/

/-- SWATH_CTL (R253). -/
def cmdSwathCtl : CmdBody := fun c s =>
  let w := c.arg 2 % 2
  let x := s.swath w
  let a := c.arg 0
  let s1 := (s.setSwath w { x with
    evten := c.arg 1 % 2 ^ 32, cnt := if a.testBit 0 then [] else x.cnt,
    injFull := x.injFull || (a.testBit 2 && !s.injLocked), injOver := x.injOver || (a.testBit 3 && !s.injLocked) }).evDiscard
  match x.active with
  | some d => (if a.testBit 1 ∧ s.injLocked = false then s1.swDecide w d false true else s1, some (.ok []))
  | none => (s1, some (.ok []))

/-- The status record (R254). -/
def Swath.status (x : Swath) : List Nat :=
  let n (i : Nat) : Nat := AMap.get 0 x.cnt i
  leBytes 8 (uwrap 64 x.next) ++ leBytes 8 x.top ++ leBytes 4 (min x.backlog.length (2 ^ 32 - 1)) ++
  (([0, 1, 2, 3, 4, 5, 6] : List Nat).flatMap fun i => leBytes 4 (n i)) ++ (List.range 8).flatMap fun r => leBytes 2 (n (8 + r))

/-- SWATH_STATUS (R254). -/
def cmdSwathStatus : CmdBody := fun c s => (s.hostWrite (c.arg64 1) (s.swath (c.arg 0 % 2)).status, some (.ok []))

/-- A packet with a bit of W0 set: the rows of SWATH_CTL are named after their bits. -/
def CmdPkt.withBit (c : CmdPkt) (b : Nat) : CmdPkt := { c with w := (c.arg 0).lor (2 ^ b) :: c.w.drop 1 }

/-- Row SWATH_CLR_CNT: SWATH_CTL with CLR_CNT. -/
def execSwathClrCnt (p : Cmd) (t : Nat) (s : State) : Host.Outcome State Fault Refusal :=
  .next (s.svcCommand ((cmdPkt p 0x0505 t).withBit 0) [0, 1, 2] false cmdSwathCtl)

/-- Row SWATH_INJ_GAP: SWATH_CTL with INJ_GAP. -/
def execSwathInjGap (p : Cmd) (t : Nat) (s : State) : Host.Outcome State Fault Refusal :=
  .next (s.svcCommand ((cmdPkt p 0x0505 t).withBit 1) [0, 1, 2] false cmdSwathCtl)

/-- Row SWATH_INJ_FULL: SWATH_CTL with INJ_FULL. -/
def execSwathInjFull (p : Cmd) (t : Nat) (s : State) : Host.Outcome State Fault Refusal :=
  .next (s.svcCommand ((cmdPkt p 0x0505 t).withBit 2) [0, 1, 2] false cmdSwathCtl)

/-- Row SWATH_INJ_OVERSPEED: SWATH_CTL with INJ_OVERSPEED. -/
def execSwathInjOverspeed (p : Cmd) (t : Nat) (s : State) : Host.Outcome State Fault Refusal :=
  .next (s.svcCommand ((cmdPkt p 0x0505 t).withBit 3) [0, 1, 2] false cmdSwathCtl)

/-- Row SWATH_EVTEN: SWATH_CTL, whose W1 is EVTEN. -/
def execSwathEvten (p : Cmd) (t : Nat) (s : State) : Host.Outcome State Fault Refusal :=
  .next (s.svcCommand (cmdPkt p 0x0505 t) [0, 1, 2] false cmdSwathCtl)

/-- Row SWATH_STATUS. -/
def execSwathStatus (p : Cmd) (t : Nat) (s : State) : Host.Outcome State Fault Refusal :=
  .next (s.svcCommand (cmdPkt p 0x0506 t) [0, 1, 2] false cmdSwathStatus)

end Sys2Proof.Machine
end

