-- ==== Sys2Proof/Machine/Link.lean ====
section
/-! DEFINITION. Link receivers: lock, alignment, bring-up, power states and rates, acknowledged frames, latency calibration, GPIO,
test loops and camera power (R104 to R108, R122 to R140). Cells and packets are in Cell.lean. -/

namespace Sys2Proof.Machine

/-! ### Bursts (R125 to R127) -/

/-- A burst starts (R126, R127). -/
def State.burstStart (s : State) (n : Nat) : State :=
  s.setLink n { s.link n with burst := some { start := s.now }, retryAt := none, perSent := none }

/-- LLAT of measurements in half ps: their mean to the nearest ns, ties upward (R126). -/
def meanLat (ms : List Int) : Nat :=
  let k : Int := 2000 * ms.length
  ((2 * ms.foldl (fun a x => a + x) 0 + k) / (2 * k)).toNat

/-- Set LLAT; TRG_CAMc_LINK follows (R127). -/
def State.setLlat (s : State) (n v : Nat) : State := (s.wr (LNK.LLAT n) v).wr (CAM.LINK_LLAT n) v

/-- TOL in half ps; 0 acts as 1 ns. -/
def State.echoTol (s : State) (n : Nat) : Nat := 2000 * max 1 (s.cfg (LNK.ECHO_CFG_TOL n))

/-- The replies of a burst within TOL of their median; the median of an even count is the lower middle value (R126). -/
def goodReplies (ms : List Int) (tol : Nat) : List Int :=
  let s := ms.mergeSort fun a b => decide (a ≤ b)
  match s[(s.length - 1) / 2]? with
  | some m => ms.filter fun x => decide ((x - m).natAbs ≤ tol)
  | none => []

/-! ### Power states and bring-up (R128 to R133) -/

/-- A frame that cannot be sent, or has failed, reaches its requester; `down` says that the link was down (R122, R129 to R131,
R403). The frames that the link itself sends again are sent by the caller. -/
def State.whoFails (s : State) (n : Nat) (down : Bool) : Who → State
  | .readId => s.setLink n { s.link n with idRetry := some (s.now + 1000000) }
  | .setRate _ =>
    let s1 := s.raise 0x0813 n []
    if (s.link n).recover then s1.burstStart n else s1
  | .setPower 2 => ((((s.wr (LNK.STAT_STATE n) 0).wr (LNK.STAT_CDR_LOCK n) 0).wr (LNK.STAT_BC_UP n) 0).wr (LNK.STAT_PWR_ACT n) 2)
  | .setPower p => if p = 1 then s.wr (LNK.STAT_PWR_ACT n) 1 else s
  | .setLoop _ => s
  | .config => s
  | .xfer =>
    match (s.twp n).cur with
    | some x => if down then s.twReply n x (.err 0x0A02 n) else s.twEnd n x 10 0 []
    | none => s
  | .settings => if down then s.setFail n else s.setAck n 10 0
  | .clear =>
    match (s.twp n).clearCmd with
    | some c => (s.setTwp n { s.twp n with clearCmd := none }).cmdReply c (if down then .err 0x0A02 n else .err 0x0A03 10)
    | none => s

/-- The back channel stops: every frame fails with LINK_DOWN (R122). -/
def State.bcStop (s : State) (n : Nat) : State :=
  let l := s.link n
  let fs := l.out.toList ++ l.bcq
  (fs.filter fun f => match f.who with | .xfer | .settings | .clear => true | _ => false).foldl (fun s f => s.whoFails n true f.who)
    ((s.setLink n { l with out := none, bcq := [], tx := [] }).wr (LNK.STAT_BC_UP n) 0)

/-- The receiver leaves ALIGNED: an abort for each open frame, and no burst or echo goes on (R113). -/
def State.leaveAligned (s : State) (n : Nat) : State :=
  let s1 := if s.rd (LNK.STAT_STATE n) = 4 then s.linkAbort n else s
  s1.setLink n { s1.link n with open_ := [], burst := none, retryAt := none, perSent := none, idRetry := none, part := [],
                                cseq := none, resync := true, misses := 0, cand := 0, alignProc := none }

/-- The receiver begins to acquire: LOCKING with signal energy, else DOWN (R104). -/
def State.startLock (s : State) (n : Nat) : State :=
  let s1 := s.leaveAligned n
  let l := s1.link n
  ((s1.setLink n { l with noLockAt := some (l.noLockAt.getD s.now) }).wr (LNK.STAT_CDR_LOCK n) 0).wr (LNK.STAT_STATE n) (if l.sig then 1 else 0)

/-- PWR in force; 3 acts as 2 (R128). -/
def State.pwrSel (s : State) (n : Nat) : Nat := min 2 (s.cfg (LNK.CFG_PWR n))

/-- The link goes BANKED: terminations only (R128, R129). -/
def State.linkBank (s : State) (n : Nat) : State :=
  let s1 := (s.leaveAligned n).bcStop n
  (((s1.setLink n { s1.link n with recover := false, exitBy := none, noLockAt := none, loop := 0 }).wr (LNK.STAT_STATE n) 0).wr
    (LNK.STAT_CDR_LOCK n) 0).wr (LNK.STAT_PWR_ACT n) 2

/-- Send a CONTROL frame, or fail it at once where the link is down (R122). -/
def State.flrControl (s : State) (n op : Nat) (args : List Nat) (who : Who) : State :=
  if s.bcAvailable n then s.bcControl n op args who else s.whoFails n true who

/-- At the end of its bring-up or recovery the link enters the state that PWR selects (R129, R131). -/
def State.linkEnter (s : State) (n : Nat) : State :=
  let s1 := s.setLink n { s.link n with recover := false, exitBy := none }
  match s.pwrSel n with
  | 0 => s1.wr (LNK.STAT_PWR_ACT n) 0
  | p => s1.flrControl n 3 [p] (.setPower p)

/-- EN changes to 1 (R127, R131). -/
def State.linkEnable (s : State) (n : Nat) : State :=
  let l := s.link n
  let s1 := ((((((((s.wr (LNK.SER_ID_DEVICE n) 0).wr (LNK.SER_ID_PROTO n) 0).wr (LNK.SER_ID_STEP n) 0).wr (LNK.STAT_RATE_ACT n) 0).wr
    (LNK.STAT_BC_UP n) 1).wr (LNK.STAT_PWR_ACT n) 3).setLlat n 0))
  (s1.setLink n { l with idOk := none, idRetry := none, everOk := false, fails := 0, ms := [], outTol := 0, relock := none,
                         recover := false, exitBy := none, cfgDue := true, noLockAt := some s.now, loop := 0 }).startLock n

/-- EN changes to 0: receiver and back channel are off (R131). -/
def State.linkDisable (s : State) (n : Nat) : State :=
  let s1 := (s.leaveAligned n).bcStop n
  (((s1.setLink n { s1.link n with recover := false, exitBy := none, noLockAt := none, loop := 0, idOk := none }).wr
    (LNK.STAT_STATE n) 0).wr (LNK.STAT_CDR_LOCK n) 0).wr (LNK.STAT_PWR_ACT n) 2

/-- SET_RATE executed, or a loop of mode 1 or 2 ended: the link recovers as from T0 + 250 µs (R129, R130, R135). -/
def State.linkRecover (s : State) (n : Nat) : State :=
  let s1 := (s.leaveAligned n).wr (LNK.STAT_PWR_ACT n) 3
  (s1.setLink n { s1.link n with recover := true, noLockAt := some s.now }).startLock n

/-- The link applies RATE (R130). -/
def State.linkRate (s : State) (n : Nat) : State := s.flrControl n 2 [s.cfg (LNK.CFG_RATE n)] (.setRate (s.cfg (LNK.CFG_RATE n)))

/-- A commit changes the power state of a link that has been brought up (R129). -/
def State.linkPower (s : State) (n : Nat) : State :=
  let act := s.rd (LNK.STAT_PWR_ACT n)
  match s.pwrSel n with
  | 0 =>
    if act = 2 then
      let s1 := (s.wr (LNK.STAT_BC_UP n) 1).wr (LNK.STAT_PWR_ACT n) 3
      (s1.setLink n { s1.link n with recover := true, exitBy := some (s.now + 1500000), noLockAt := some s.now }).startLock n
    else
      let s1 := s.wr (LNK.STAT_PWR_ACT n) 3
      (s1.setLink n { s1.link n with exitBy := some (s.now + 2000) }).flrControl n 3 [0] (.setPower 0)
  | 1 =>
    if act = 2 then
      let s1 := (s.wr (LNK.STAT_BC_UP n) 1).wr (LNK.STAT_PWR_ACT n) 3
      (s1.setLink n { s1.link n with recover := true, noLockAt := some s.now }).startLock n
    else ((s.linkAbort n).wr (LNK.STAT_PWR_ACT n) 3).flrControl n 3 [1] (.setPower 1)
  | _ => if act = 2 then s else ((s.linkAbort n).wr (LNK.STAT_PWR_ACT n) 3).flrControl n 3 [2] (.setPower 2)

/-! ### Lock and alignment (R104 to R108) -/

/-- The receiver is on: enabled and not BANKED. -/
def State.flrOn (s : State) (n : Nat) : Bool := s.on (LNK.CFG_EN n) && s.is (LNK.STAT_BC_UP n)

/-- The hit window restarts (R107). -/
def State.hitWindow (s : State) (n : Nat) : State :=
  ((s.setLink n { s.link n with winWords := 0 }).wr (LNK.ALIGN_HITS n) 0).wr (LNK.ALIGN_DONE n) 0

/-- The receiver enters SEARCH: the hit window and, where it does not run, the alignment procedure start (R105, R107, R108). -/
def State.enterSearch (s : State) (n : Nat) : State :=
  let s1 := (s.wr (LNK.STAT_STATE n) 2).hitWindow n
  s1.setLink n { s1.link n with cand := 0, fromLost := false, alignProc := some ((s1.link n).alignProc.getD 0) }

/-- The word boundary moves one bit later (R107). -/
def State.bitslip (s : State) (n : Nat) : State :=
  let st := s.rd (LNK.STAT_STATE n)
  if st = 2 ∨ st = 3 ∨ st = 5 then
    let s0 := (s.wr (LNK.ALIGN_SLIP n) ((s.rd (LNK.ALIGN_SLIP n) + 1) % 32)).hitWindow n
    let s1 := s0.setLink n { s0.link n with slipBits := (s0.link n).slipBits + 1 }
    if st = 3 then (s1.wr (LNK.STAT_STATE n) 2).setLink n { s1.link n with cand := 0, fromLost := false } else s1
  else s

/-- The fourth match: the receiver is ALIGNED (R105, R127, R129, R131, R406). The camera is not on the line in a near-end loop: nothing is sent
to it then (R134, R135). -/
def State.enterAligned (s : State) (n : Nat) : State :=
  let l := s.link n
  let s1 := (((s.setLink n { l with misses := 0, cand := 0, alignProc := none, part := [], cseq := none, resync := true }).wr
    (LNK.STAT_STATE n) 4).wr (LNK.STAT_LLAT_VALID n) 0).raise 0x0801 n []
  if l.loop = 1 ∨ l.loop = 2 then s1
  else
    let s2 := (s1.burstStart n).twConfig n
    match l.idOk with
    | none => s2.flrControl n 1 [] .readId
    | some true => if l.recover then s2.flrControl n 3 [0] (.setPower 0) else s2
    | some false => s2

/-- Row SIGNAL_DETECT (R104). -/
def execSignalDetect (n : Fin 24) (t : Nat) (s : State) : Host.Outcome State Fault Refusal :=
  let s1 := (s.at t).setLink n { s.link n with sig := true }
  .next (if s.flrOn n ∧ s.rd (LNK.STAT_STATE n) = 0 then s1.wr (LNK.STAT_STATE n) 1 else s1)

/-- The equaliser preset of the present thermal band (R133). -/
def State.eqPreset (s : State) (n : Nat) : Nat := bitsOf (s.cfg (LNK.EQ_PRESET n)) (4 * s.rd THM.STAT_BAND) 4

/-- Row CDR_LOCK (R104, R133). -/
def execCdrLock (n : Fin 24) (t : Nat) (s : State) : Host.Outcome State Fault Refusal :=
  .next (if s.rd (LNK.STAT_STATE n) = 1 then
    let s1 := (((s.at t).wr (LNK.STAT_CDR_LOCK n) 1).wr (LNK.ALIGN_SLIP n) 0)
    (s1.setLink n { s1.link n with noLockAt := none, eq := s.eqPreset n, eqAt := s1.now, alignProc := none, runBit := false, runLen := 0,
                                   acc := [], accBad := false, slipBits := 0, wordPos := 0, cell := [], cellBad := false }).enterSearch n
  else s)

/-- The CDR loses lock (R106). -/
def State.cdrLoss (s : State) (n : Nat) : State :=
  if s.is (LNK.STAT_CDR_LOCK n) then (s.startLock n).raise 0x0803 n [] else if s.flrOn n then s.startLock n else s

/-- Row SIGNAL_LOST: the CDR loses lock, with or without signal energy left (R106). -/
def execSignalLost (n : Fin 24) (energy : Bool) (t : Nat) (s : State) : Host.Outcome State Fault Refusal :=
  .next (((s.at t).setLink n { s.link n with sig := energy }).cdrLoss n)

/-- Row HIT_WINDOW_DONE: the 66 words of the window have passed (R107). -/
def execHitWindowDone (n : Fin 24) (t : Nat) (s : State) : Host.Outcome State Fault Refusal :=
  let st := s.rd (LNK.STAT_STATE n)
  .next (if (st = 2 ∨ st = 3 ∨ st = 5) ∧ 66 ≤ (s.link n).winWords then (s.at t).wr (LNK.ALIGN_DONE n) 1 else s)

/-- Row BITSLIP (R107). -/
def execBitslip (n : Fin 24) (t : Nat) (s : State) : Host.Outcome State Fault Refusal := .next ((s.at t).bitslip n)

/-- Row ALIGN_PROCEDURE: one pass of the procedure of R107. -/
def execAlignProcedure (n : Fin 24) (t : Nat) (s : State) : Host.Outcome State Fault Refusal :=
  let st := s.rd (LNK.STAT_STATE n)
  .next (match (s.link n).alignProc with
    | none => s
    | some k =>
      if s.svcRunning = false ∨ st = 3 then s
      else if st = 2 ∨ st = 5 then
        if s.is (LNK.ALIGN_DONE n) ∧ s.rd (LNK.ALIGN_HITS n) = 0 then
          let s1 := (s.at t).bitslip n
          if k + 1 = 32 then (s1.setLink n { s1.link n with alignProc := none }).raise 0x0804 n []
          else s1.setLink n { s1.link n with alignProc := some (k + 1) }
        else s
      else (s.at t).setLink n { s.link n with alignProc := none })

/-- Row RATE_FALLBACK: 2 ms without CDR lock (R132). -/
def execRateFallback (n : Fin 24) (t : Nat) (s : State) : Host.Outcome State Fault Refusal :=
  let l := s.link n
  .next (match l.noLockAt with
    | some o =>
      if s.flrOn n ∧ s.is (LNK.STAT_CDR_LOCK n) = false ∧ o + 2000000 ≤ t then
        let s1 := ((s.at t).wr (LNK.STAT_RATE_ACT n) 0).wr (LNK.STAT_PWR_ACT n) 3
        s1.setLink n { l with idOk := if l.idOk = some false then some false else none, recover := false, noLockAt := some s1.now }
      else s
    | none => s)

/-- Row BANK_EXIT_LATE (R129). -/
def execBankExitLate (n : Fin 24) (t : Nat) (s : State) : Host.Outcome State Fault Refusal :=
  .next (match (s.link n).exitBy with
    | some e =>
      if e ≤ t ∧ s.rd (LNK.STAT_PWR_ACT n) = 3 then ((s.at t).setLink n { s.link n with exitBy := none }).raise 0x0811 n [] else s
    | none => s)

/-- Row EQUALISER_STEP: one step toward the preset of the band (R133). -/
def execEqualiserStep (n : Fin 24) (t : Nat) (s : State) : Host.Outcome State Fault Refusal :=
  let l := s.link n
  let p := s.eqPreset n
  .next (if s.is (LNK.STAT_CDR_LOCK n) ∧ l.eq ≠ p ∧ l.eqAt + 100000 ≤ t then
    (s.at t).setLink n { l with eq := if l.eq < p then l.eq + 1 else l.eq - 1, eqAt := t }
  else s)

/-! ### Acknowledged frames (R122, R123) -/

/-- A frame has failed (R122). SET_POWER ACTIVE is sent again, since the link keeps recovering (R129). -/
def State.bcFail (s : State) (n : Nat) (f : BcFrame) : State :=
  let s1 := ((s.setLink n { s.link n with out := none }).addSat (LNK.CNT2_BC_FAIL n) 1).raise 0x0808 n []
  let s2 := match f.who with
    | .setPower 2 => s1.linkBank n
    | .setPower 0 => s1.flrControl n 3 [0] (.setPower 0)
    | w => s1.whoFails n false w
  s2.bcNext n

/-- A frame is sent again, or fails after the third retransmission (R122). -/
def State.bcRetry (s : State) (n : Nat) (f : BcFrame) : State :=
  if 3 ≤ f.tries then s.bcFail n f else (s.addSat (LNK.CNT2_BC_RETRY n) 1).bcLaunch n { f with tries := f.tries + 1 }

/-- READ_ID answered (R131). -/
def State.idDone (s : State) (n : Nat) (resp : List Nat) : State :=
  let dev := leNat (resp.take 2)
  let s1 := (((s.wr (LNK.SER_ID_DEVICE n) dev).wr (LNK.SER_ID_PROTO n) (resp.getD 2 0)).wr (LNK.SER_ID_STEP n) (resp.getD 3 0))
  if dev ≠ 0x1200 ∨ resp.getD 2 0 ≠ 1 then (s1.setLink n { s1.link n with idOk := some false }).raise 0x0814 n []
  else
    let s2 := s1.setLink n { s1.link n with idOk := some true, recover := true }
    if s2.cfg (LNK.CFG_RATE n) ≠ 0 then s2.linkRate n else s2.burstStart n

/-- A frame was EXECUTED, with its response bytes (R122, R129 to R131, R405). -/
def State.whoDone (s : State) (n : Nat) (resp : List Nat) : Who → State
  | .readId => s.idDone n resp
  | .setRate r => (s.wr (LNK.STAT_RATE_ACT n) r).linkRecover n
  | .setPower 2 => s.linkBank n
  | .setPower 1 => s.wr (LNK.STAT_PWR_ACT n) 1
  | .setPower _ =>
    if (s.link n).recover then s
    else (s.setLink n { s.link n with exitBy := none }).wr (LNK.STAT_PWR_ACT n) 0
  | .setLoop m => s.setLink n { s.link n with loop := m }
  | .config => s
  | .xfer => s.twAck n resp
  | .settings => s.setAck n (resp.getD 0 0) (resp.getD 1 0)
  | .clear => s.clearAck n resp

/-- A BC_ACK arrives (R122, R433). -/
def State.bcAck (s : State) (n seq result : Nat) (resp : List Nat) : State :=
  match (s.link n).out with
  | none => s
  | some f =>
    if f.seq ≠ seq ∨ f.held then s
    else match result with
      | 0 => ((s.setLink n { s.link n with out := none }).whoDone n resp f.who).bcNext n
      | 1 => s.bcRetry n f
      | 2 => s.bcFail n f
      | _ => s

/-- Row BC_ACK. -/
def execBcAck (n : Fin 24) (seq result : BitVec 4) (resp : List Byte) (t : Nat) (s : State) : Host.Outcome State Fault Refusal :=
  .next (if s.heard n then (s.at t).bcAck n seq.toNat result.toNat (resp.map BitVec.toNat) else s)

/-- Row BC_ACK_TIMEOUT: 20 µs after the last character (R122). -/
def execBcAckTimeout (n : Fin 24) (t : Nat) (s : State) : Host.Outcome State Fault Refusal :=
  .next (match (s.link n).out with
    | some f => if f.endAt + 20000 ≤ t then (s.at t).bcRetry n f else s
    | none => s)

/-- Row READ_ID_RETRY: 1 ms after a failed READ_ID (R131). -/
def execReadIdRetry (n : Fin 24) (t : Nat) (s : State) : Host.Outcome State Fault Refusal :=
  .next (match (s.link n).idRetry with
    | some r =>
      if r ≤ t ∧ s.rd (LNK.STAT_STATE n) = 4 then
        ((s.at t).setLink n { s.link n with idRetry := none }).flrControl n 1 [] .readId
      else s
    | none => s)

/-! ### Latency calibration (R125 to R127) -/

/-- The characters of an ECHO (R116). -/
def echoChars (id : Nat) : List Nat := [0x11C, id]

/-- Row ECHO_SEND: the next ECHO of a burst leaves, 10 µs after the one before it and not inside a frame (R117); `ps` is its stamp (R125, R126). -/
def execEchoSend (n : Fin 24) (ps : Nat) (t : Nat) (s : State) : Host.Outcome State Fault Refusal :=
  let l := s.link n
  .next (match l.burst with
    | some b =>
      if b.next < 8 ∧ b.start + 10000 * b.next ≤ t ∧ s.rd (LNK.STAT_STATE n) = 4 ∧ l.freeAt (3 * t) then
        (s.at t).setLink n { l with burst := some { b with next := b.next + 1, sent := b.sent ++ [(b.next, ps)] },
                                    tx := echoChars b.next, txAt := 3 * t }
      else s
    | none => s)

/-- Row PERIODIC_ECHO: every PERIOD ms one ECHO; its ID is not stated (R127, log 2). -/
def execPeriodicEcho (n : Fin 24) (ps : Nat) (t : Nat) (s : State) : Host.Outcome State Fault Refusal :=
  let l := s.link n
  .next (if s.rd (LNK.STAT_STATE n) = 4 ∧ s.is (LNK.STAT_LLAT_VALID n) ∧ s.on (LNK.CFG_ECHO_EN n) ∧ l.burst = none ∧ l.freeAt (3 * t) ∧
      l.perAt + 1000000 * max 1 (s.cfg (LNK.ECHO_CFG_PERIOD n)) ≤ t then
    (s.at t).used.setLink n { l with perSent := some ps, perAt := t, tx := echoChars (s.free 8), txAt := 3 * t }
  else s)

/-- A periodic reply (R127). -/
def State.periodicReply (s : State) (n : Nat) (m : Int) : State :=
  let l := s.link n
  if (m - 2000 * s.rd (LNK.LLAT n)).natAbs ≤ s.echoTol n then
    let ms := (l.ms ++ [m]).drop (l.ms.length + 1 - 8)
    (s.setLink n { l with perSent := none, outTol := 0, ms := ms }).setLlat n (meanLat ms)
  else
    let s1 := s.setLink n { l with perSent := none, outTol := l.outTol + 1 }
    if 3 ≤ l.outTol + 1 then (s1.setLink n { s1.link n with outTol := 0 }).burstStart n else s1

/-- An ECHO_REPLY arrives (R125, R127); `arr` is its stamp in ps. -/
def State.echoReply (s : State) (n id arr turn tpath : Nat) : State :=
  let l := s.link n
  if l.injEcho then s.setLink n { l with injEcho := false }
  else
    let sent := match l.burst with
      | some b => (b.sent.find? fun e => e.1 == id).map Prod.snd
      | none => l.perSent
    match sent with
    | none => s
    | some p =>
      if arr < p ∨ p + 50000000 < arr then s
      else
        let rtt := arr - p
        let m : Int := (rtt : Int) - turn + 2 * tpath
        let s1 := ((s.wr (LNK.ECHO_RTT_RTT n) rtt).wr (LNK.ECHO_TURN_TURN n) turn).wr (LNK.ECHO_TPATH_TPATH n) tpath
        match l.burst with
        | some b => s1.setLink n { l with burst := some { b with sent := b.sent.filter (fun e => e.1 != id), replies := b.replies ++ [m] } }
        | none => s1.periodicReply n m

/-- Row ECHO_REPLY. -/
def execEchoReply (n : Fin 24) (id : Byte) (ps : Nat) (turn tpath : Word) (t : Nat) (s : State) : Host.Outcome State Fault Refusal :=
  .next (if s.heard n then (s.at t).echoReply n id.toNat ps turn.toNat tpath.toNat else s)

/-- Row ECHO_REPLY_TIMEOUT: 50 µs after its ECHO a reply is lost (R125). -/
def execEchoReplyTimeout (n : Fin 24) (id : Byte) (ps : Nat) (t : Nat) (s : State) : Host.Outcome State Fault Refusal :=
  let l := s.link n
  .next (match l.burst with
    | some b => (s.at t).setLink n { l with burst := some { b with
        sent := b.sent.filter fun e => !(e.1 == id.toNat && decide (e.2 + 50000000 ≤ ps)) } }
    | none => if l.perSent.elim false (fun p => decide (p + 50000000 ≤ ps)) then (s.at t).setLink n { l with perSent := none } else s)

/-- A burst has succeeded (R126, R127). -/
def State.burstOk (s : State) (n : Nat) (good : List Int) : State :=
  let l := s.link n
  let old := s.rd (LNK.LLAT n)
  let new := meanLat good
  let s1 := ((s.setLlat n new).wr (LNK.STAT_LLAT_VALID n) 1).setLink n
    { l with burst := none, fails := 0, retryAt := none, everOk := true, ms := [], outTol := 0, perAt := s.now }
  if l.everOk ∧ s.echoTol n < 2000 * ((new : Int) - old).natAbs then s1.raise 0x0809 n (leBytes 4 old ++ leBytes 4 new) else s1

/-- A burst has failed (R126). -/
def State.burstBad (s : State) (n : Nat) : State :=
  let l := s.link n
  let k := l.fails + 1
  let s1 := s.setLink n { l with burst := none, fails := k, retryAt := some (s.now + (if k < 3 then 1000000 else 100000000)) }
  if k = 3 then (s1.wr (LNK.STAT_LLAT_VALID n) 0).raise 0x080A n [] else s1

/-- Row ECHO_BURST_END: every reply has come or is lost, and the burst is judged (R126, R127); a link in recovery enters its
power state (R129, R131). -/
def execEchoBurstEnd (n : Fin 24) (t : Nat) (s : State) : Host.Outcome State Fault Refusal :=
  .next (match (s.link n).burst with
    | some b =>
      if b.next < 8 ∨ b.sent ≠ [] then s
      else
        let good := goodReplies b.replies (s.echoTol n)
        let s1 := if 6 ≤ good.length then (s.at t).burstOk n good else (s.at t).burstBad n
        let l := s1.link n
        if l.recover ∧ l.idOk = some true ∧ l.out.elim true (fun f => match f.who with | .setRate _ => false | _ => true) then
          s1.linkEnter n
        else s1
    | none => s)

/-- Row ECHO_BURST_RETRY (R126). -/
def execEchoBurstRetry (n : Fin 24) (t : Nat) (s : State) : Host.Outcome State Fault Refusal :=
  .next (match (s.link n).retryAt with
    | some r => if r ≤ t ∧ s.rd (LNK.STAT_STATE n) = 4 ∧ (s.link n).burst = none then (s.at t).burstStart n else s
    | none => s)

/-- Row ECHO_NOW (R127). -/
def execEchoNow (n : Fin 24) (t : Nat) (s : State) : Host.Outcome State Fault Refusal :=
  .next (if s.on (LNK.CFG_EN n) ∧ s.rd (LNK.STAT_STATE n) = 4 ∧ (s.link n).burst = none then (s.at t).burstStart n else s)

/-! ### GPIO and telemetry (R111, R124, R127) -/

/-- A GPIO symbol leaves, or waits for the end of the frame in progress (R116, R117, R124). -/
def State.gpioSend (s : State) (n : Nat) : State :=
  let l := s.link n
  if l.freeAt (3 * s.now) then
    s.setLink n { l with tx := [0x1F7, s.cfg (LNK.GPIO_OUT n)], txAt := 3 * s.now, gpioAt := s.now, gpioDue := false }
  else s.setLink n { l with gpioDue := true }

/-- Row GPIO_REFRESH: every 1 ms, and where a symbol waits (R117, R124). -/
def execGpioRefresh (n : Fin 24) (t : Nat) (s : State) : Host.Outcome State Fault Refusal :=
  .next (if s.is (LNK.STAT_BC_UP n) ∧ ((s.link n).gpioDue ∨ (s.link n).gpioAt + 1000000 ≤ t) then (s.at t).gpioSend n else s)

/-- Row GPIO_IN (R124). -/
def execGpioIn (n : Fin 24) (levels : BitVec 4) (t : Nat) (s : State) : Host.Outcome State Fault Refusal :=
  .next (if s.heard n then (s.at t).wr (LNK.GPIO_IN n) levels.toNat else s)

/-- The 8 stated bytes of a TELEMETRY packet (R111, R127). -/
def State.telemetry (s : State) (n : Nat) (b : List Nat) : State :=
  let rel := b.getD 6 0
  let s1 := (((((s.wr (LNK.SER0_TEMP n) (b.getD 0 0)).wr (LNK.SER0_SUPPLY n) (leAt b 1 2)).wr (LNK.SER1_BC_ERR n) (leAt b 3 2)).wr
    (LNK.SER0_TRIG_BAD n) (b.getD 5 0)).wr (LNK.SER1_BC_RELOCK n) rel).wr (LNK.SER1_FWD_OVF n) (b.getD 7 0)
  let l := s1.link n
  let s2 := s1.setLink n { l with relock := some rel }
  if l.relock.elim false (fun r => r != rel) then (s2.wr (LNK.STAT_LLAT_VALID n) 0).burstStart n else s2

/-- Row TELEMETRY: TEMP, SUPPLY, BC_ERR, TRIG_BAD, BC_RELOCK and FWD_OVF (R111). -/
def execTelemetry (n : Fin 24) (temp : Byte) (supply bcErr : BitVec 16) (trigBad relock fwdOvf : Byte) (t : Nat) (s : State) :
    Host.Outcome State Fault Refusal :=
  .next (if s.heard n then
    (s.at t).telemetry n ([temp.toNat] ++ leBytes 2 supply.toNat ++ leBytes 2 bcErr.toNat ++ [trigBad.toNat, relock.toNat, fwdOvf.toNat])
  else s)

/-! ### Test loops (R134 to R136) -/

/-- The checker has compared bits (R136). -/
def State.loopBits (s : State) (n bits errs : Nat) : State :=
  let e := min errs bits
  let b := s.rd (LNK.LOOP_BITS_LO_BITS n) + 2 ^ 32 * s.rd (LNK.LOOP_BITS_HI_BITS n) + bits
  let s1 := ((s.wr (LNK.LOOP_BITS_LO_BITS n) b).wr (LNK.LOOP_BITS_HI_BITS n) (b / 2 ^ 32)).addSat (LNK.LOOP_ERR_ERR n) e
  if s.rd (LNK.LOOP_ERR_ERR n) = 0 ∧ 0 < e then s1.raise 0x0812 n [] else s1

/-- One bit at a checker whose pattern obeys x^a + x^b + 1 (R134, R136): the first `a` bits load its generator, and as many that agree with it
have found the pattern; then it runs free. The result: the stages, the bits found so far, bits compared and bits that differ. -/
def loopBit (a b : Nat) (c : Nat × Nat × Nat × Nat) (x : Bool) : Nat × Nat × Nat × Nat :=
  let (st, run, bits, errs) := c
  let want := st.testBit (a - 1) != st.testBit (b - 1)
  let shift (v : Bool) : Nat := (2 * st + b2n v) % 2 ^ a
  if run < a then (shift x, run + 1, bits, errs)
  else if run < 2 * a then (if st ≠ 0 ∧ x = want then (shift x, run + 1, bits, errs) else (shift x, 1, bits, errs))
  else (shift want, run, bits + 1, if x = want then errs else errs + 1)

/-- One 16-bit value at a checker of the counting pattern (R134, R136): the first two values that follow each other have found it. -/
def loopCount (c : Nat × Nat × Nat × Nat) (x : Nat) : Nat × Nat × Nat × Nat :=
  let (st, run, bits, errs) := c
  let want := (st + 1) % 65536
  if run = 0 then (x, 1, bits, errs)
  else if run = 1 then (x, if x = want then 2 else 1, bits, errs)
  else (want, run, bits + 16, errs + bitDiff 16 x want)

/-- The checker of a running loop takes what it has received: `f` runs it from its present state, and `full` is the count with which it has
found its pattern (R136). What the spec leaves open of the patterns: log 31. -/
def State.loopCheck (s : State) (n full : Nat) (f : Nat × Nat × Nat × Nat → Nat × Nat × Nat × Nat) : State :=
  let l := s.link n
  let r := f (l.chkSt, l.chkRun, 0, 0)
  let s1 := s.setLink n { l with chkSt := r.1, chkRun := r.2.1 }
  if r.2.1 < full then s1 else (s1.wr (LNK.LOOP_STAT_LOCK n) 1).loopBits n r.2.2.1 r.2.2.2

/-- Bits of the pattern that PAT selects: PRBS7 or PRBS31 (R134). -/
def State.loopPrbs (s : State) (n : Nat) (prbs31 : Bool) (bs : List Bool) : State :=
  if prbs31 then s.loopCheck n 62 fun c => bs.foldl (loopBit 31 28) c else s.loopCheck n 14 fun c => bs.foldl (loopBit 7 6) c

/-- The bits of a byte, least significant first. -/
def byteBits (b : Nat) : List Bool := (List.range 8).map b.testBit

/-- Of the characters that a far-end loop returns, the data characters sent in place of K28.5: those of symbols and frames are left out
(R116, R134). The result: characters of a symbol still to come, whether a frame is in progress, the data. -/
def loopData : List (Nat × Nat) → Nat × Bool → Nat × Bool × List Nat
  | [], st => (st.1, st.2, [])
  | (d, k) :: xs, (skip, fr) =>
    if k % 2 = 1 then
      match d with
      | 0x3C => loopData xs (3, fr)
      | 0x1C => loopData xs (1, fr)
      | 0xF7 => loopData xs (1, fr)
      | 0x5C => loopData xs (0, true)
      | 0xFB => loopData xs (0, true)
      | 0xFD => loopData xs (0, false)
      | _ => loopData xs (skip, fr)
    else if skip ≠ 0 then loopData xs (skip - 1, fr)
    else if fr then loopData xs (0, true)
    else
      let r := loopData xs (0, false)
      (r.1, r.2.1, d :: r.2.2)

/-- Pairs of bytes, data then flags (R111). -/
def bytePairs : List Nat → List (Nat × Nat)
  | a :: b :: xs => (a, b) :: bytePairs xs
  | _ => []

/-- The content of a LOOP packet of a far-end loop is compared (R111, R134, R136). -/
def State.loopPacket (s : State) (n : Nat) (bs : List Nat) : State :=
  let l := s.link n
  if l.loop = 3 then
    let r := loopData (bytePairs bs) (l.loopSkip, l.loopFrame)
    (s.setLink n { l with loopSkip := r.1, loopFrame := r.2.1 }).loopPrbs n false (r.2.2.flatMap byteBits)
  else s

/-- The payload of a LOOP packet: pairs of a data byte and its flags (R111). -/
def loopPayload (pairs : Nat) (data flags : List Byte) : List Nat :=
  (List.range pairs).flatMap fun i => [(data.getD i 0).toNat, (flags.getD i 0).toNat]

/-- Row LOOP_PACKET: a LOOP packet with these byte pairs is compared (R111, R134, R136). -/
def execLoopPacket (n : Fin 24) (pairs : Nat) (data flags : List Byte) (t : Nat) (s : State) : Host.Outcome State Fault Refusal :=
  .next (if (s.link n).loop = 3 ∧ s.heard n then (s.at t).loopPacket n (loopPayload pairs data flags) else s)

/-- A commit sets or clears MODE of a loop (R135); `routed` says that the active configuration routes the link to a pipeline. -/
def State.loopCommit (s : State) (n : Nat) (routed : Bool) : State :=
  let m := s.cfg (LNK.LOOP_CFG_MODE n)
  let old := (s.link n).loop
  let s0 := s.wr (LNK.LOOP_STAT_REFUSED n) 0
  let s1 := if old = 1 ∨ old = 2 then (s0.setLink n { s0.link n with loop := 0 }).linkRecover n
    else if old = 3 then (s0.setLink n { s0.link n with loop := 0 }).flrControl n 4 [0] (.setLoop 0) else s0
  if m = 0 then s1
  else if s.on (LNK.CFG_EN n) = false ∨ s.rd (LNK.STAT_PWR_ACT n) ≠ 0 ∨ routed then s1.wr (LNK.LOOP_STAT_REFUSED n) 1
  else
    let s2 := (((s1.wr (LNK.LOOP_STAT_LOCK n) 0).wr (LNK.LOOP_BITS_LO_BITS n) 0).wr (LNK.LOOP_BITS_HI_BITS n) 0).wr (LNK.LOOP_ERR_ERR n) 0
    if m = 3 then (s2.setLink n { s2.link n with chkSt := 0, chkRun := 0, loopSkip := 0, loopFrame := false }).flrControl n 4 [1] (.setLoop 3)
    else 
      let s3 := s2.linkAbort n
      s3.setLink n { s3.link n with loop := m, recover := false, chkSt := 0, chkRun := 0 }

/-! ### Camera power (R137 to R139) -/

/-- LIM in force in 10 mA (R137, R140). -/
def State.pocLim (s : State) (n : Nat) : Nat := max 10 (min 60 (s.cfg (LNK.POC_CFG_LIM n)))

/-- State of a camera power switch. -/
def State.poc (s : State) (n : Nat) : Nat := s.rd (LNK.POC_STAT_STATE n)

/-- LNK_POC_TOTAL: the measured currents of the switches that conduct (R139). -/
def State.pocSum (s : State) : State :=
  s.wr LNKG.POC_TOTAL_TOTAL ((List.range 24).foldl (fun a k => if s.poc k = 1 ∨ s.poc k = 2 then a + s.rd (LNK.POC_MEAS_IOUT k) else a) 0)

/-- The measured output of a switch, and the sum over the switches (R139). -/
def State.pocMeas (s : State) (n vout iout : Nat) : State :=
  ((s.wr (LNK.POC_MEAS_VOUT n) vout).wr (LNK.POC_MEAS_IOUT n) iout).pocSum

/-- A switch takes a state in which it does not wait for its place in the stagger. -/
def State.pocSet (s : State) (n st : Nat) : State :=
  ((s.setLink n { s.link n with pocWait := none }).wr (LNK.POC_STAT_STATE n) st).pocSum

/-- A switch enters START, with no current yet; its place in the stagger is `k` (R137, R139). -/
def State.pocStart (s : State) (n k : Nat) : State :=
  (((s.setLink n { s.link n with pocAt := s.now + 100000 * k, pocWait := if k = 0 then none else some (s.now + 100000 * k) }).wr
    (LNK.POC_MEAS_IOUT n) 0).wr (LNK.POC_STAT_STATE n) 1).pocSum

/-- A switch trips (R137, R138). -/
def State.pocTrip (s : State) (n : Nat) (short : Bool) : State :=
  let s1 := s.pocSet n 3
  if short then (s1.set1 (LNK.POC_STAT_SHORT n)).raise 0x080C n [] else (s1.set1 (LNK.POC_STAT_OVERCUR n)).raise 0x080D n []

/-- A switch that is over budget at a commit (R139). -/
def State.pocBlock (s : State) (n : Nat) : State :=
  if s.poc n = 4 then s else ((s.pocSet n 4).set1 (LNK.POC_STAT_BLOCK_STKY n)).raise 0x0810 n []

/-- A switch that VCAM holds off (R463). -/
def State.pocHeld (s : State) (n : Nat) : State := (s.pocSet n 4).set1 (LNK.POC_STAT_BLOCK_STKY n)

/-- SHORT or OVERCUR is set (R137). -/
def State.pocFaulty (s : State) (n : Nat) : Bool := s.is (LNK.POC_STAT_SHORT n) || s.is (LNK.POC_STAT_OVERCUR n)

/-- The switches at a commit: disabled ones turn off, enabled ones are admitted in link order, START, ON and TRIPPED ones among them (R137,
R139). A TRIPPED switch that is disabled counts before them, since it cannot be BLOCKED; where even these exceed the budget it turns off
(DESIGN CHOICE, log 74). The triple holds the sum of LIM admitted and the number that entered START. -/
def State.pocCommit (s : State) : State :=
  let offTrip (s : State) (n : Nat) : Bool := s.poc n == 3 && !s.on (LNK.POC_CFG_EN n)
  let r0 := (List.range 24).foldl (fun (x : State × Nat) n =>
    if offTrip x.1 n then (if 1400 < x.2 + s.pocLim n then (x.1.pocSet n 0, x.2) else (x.1, x.2 + s.pocLim n)) else x) (s, 0)
  ((List.range 24).foldl (fun (x : State × Nat × Nat) n =>
    let s := x.1
    let st := s.poc n
    if offTrip s n then x
    else if s.on (LNK.POC_CFG_EN n) = false then (s.pocSet n 0, x.2.1, x.2.2)
    else if 1400 < x.2.1 + s.pocLim n then (s.pocBlock n, x.2.1, x.2.2)
    else if st = 1 ∨ st = 2 ∨ st = 3 then (s, x.2.1 + s.pocLim n, x.2.2)
    else if s.pocFaulty n then (s.pocSet n 3, x.2.1 + s.pocLim n, x.2.2)
    else if s.is SYS.PWR_STAT_VCAM_FAULT then (s.pocHeld n, x.2.1 + s.pocLim n, x.2.2)
    else (s.pocStart n x.2.2, x.2.1 + s.pocLim n, x.2.2 + 1)) (r0.1, r0.2, 0)).1

/-- TRIPPED ends once SHORT and OVERCUR are both clear: START if EN is 1, otherwise OFF (R137). -/
def State.pocCleared (s : State) (n : Nat) : State :=
  if s.poc n = 3 ∧ s.pocFaulty n = false then
    (if s.on (LNK.POC_CFG_EN n) = false then s.pocSet n 0
      else if s.is SYS.PWR_STAT_VCAM_FAULT then s.pocHeld n else s.pocStart n 0)
  else s

/-- Row POC_VOUT_REACHED: VOUT at 90% of VCAM; past 20 ms of START the switch has tripped instead (R137). VCAM is as SYS_VSUP shows it. -/
def execPocVoutReached (n : Fin 24) (vout iout : BitVec 16) (t : Nat) (s : State) : Host.Outcome State Fault Refusal :=
  let s1 := (s.at t).pocMeas n vout.toNat iout.toNat
  .next (if s.poc n = 1 ∧ (s.link n).pocWait = none then
    if (s.link n).pocAt + 20000000 < t then s1.pocTrip n false
    else if 9 * s.rd SYS.VSUP_VCAM ≤ 10 * vout.toNat then
      ((s1.setLink n { s1.link n with pocOnAt := t }).wr (LNK.POC_STAT_STATE n) 2).pocSum
    else s1
  else s)

/-- Row POC_START_TIMEOUT: START has lasted 20 ms (R137). -/
def execPocStartTimeout (n : Fin 24) (t : Nat) (s : State) : Host.Outcome State Fault Refusal :=
  .next (if s.poc n = 1 ∧ (s.link n).pocWait = none ∧ (s.link n).pocAt + 20000000 ≤ t then (s.at t).pocTrip n false else s)

/-- How long a condition has held in ON, where it has held for `held` ns (R138). -/
def State.pocHeldFor (s : State) (n held t : Nat) : Nat := min held (t - (s.link n).pocOnAt)

/-- The measurement is that of a short (R138): in ON, VOUT below 50% of VCAM for 2 µs or more than 1.2 A; in START, more than 1.2 A, or VOUT
below 1.0 V when 2 ms have passed. -/
def State.pocIsShort (s : State) (n vout iout held t : Nat) : Bool :=
  (s.poc n == 2 && (decide (1200 < iout) || (decide (2 * vout < s.rd SYS.VSUP_VCAM) && decide (2000 ≤ s.pocHeldFor n held t)))) ||
  (s.poc n == 1 && (s.link n).pocWait.isNone && (decide (1200 < iout) || (decide (vout < 1000) && decide ((s.link n).pocAt + 2000000 ≤ t))))

/-- Row POC_SHORT: the output measures `vout` mV and `iout` (R138). -/
def execPocShort (n : Fin 24) (vout : BitVec 16) (iout : PocAmps) (t : Nat) (s : State) : Host.Outcome State Fault Refusal :=
  let s1 := (s.at t).pocMeas n vout.toNat iout.mA.toNat
  .next (if s.poc n = 1 ∨ s.poc n = 2 then (if s.pocIsShort n vout.toNat iout.mA.toNat iout.held t then s1.pocTrip n true else s1) else s)

/-- Row POC_OVERCURRENT: current at LIM for 1 ms in ON (R138). -/
def execPocOvercurrent (n : Fin 24) (vout : BitVec 16) (iout : PocAmps) (t : Nat) (s : State) : Host.Outcome State Fault Refusal :=
  let s1 := (s.at t).pocMeas n vout.toNat iout.mA.toNat
  .next (if s.poc n = 2 then
    (if 10 * s.pocLim n ≤ iout.mA.toNat ∧ 1000000 ≤ s.pocHeldFor n iout.held t then s1.pocTrip n false else s1) else s)

/-- An open load is detected (R138). -/
def State.pocOpen (s : State) (n : Nat) : State :=
  if s.poc n = 2 then
    let s1 := (s.wr (LNK.POC_STAT_OPEN n) 1).set1 (LNK.POC_STAT_OPEN_STKY n)
    if s.is (LNK.POC_STAT_OPEN n) then s1 else s1.raise 0x080E n []
  else s

/-- Row POC_OPEN: below 8 mA for 10 ms (R138). -/
def execPocOpen (n : Fin 24) (vout : BitVec 16) (iout : PocAmps) (t : Nat) (s : State) : Host.Outcome State Fault Refusal :=
  let s1 := (s.at t).pocMeas n vout.toNat iout.mA.toNat
  .next (if s.poc n = 2 then (if iout.mA.toNat < 8 ∧ 10000000 ≤ s.pocHeldFor n iout.held t then s1.pocOpen n else s1) else s)

/-- Row POC_OPEN_CLEAR: at least 12 mA for 10 ms (R138). -/
def execPocOpenClear (n : Fin 24) (vout : BitVec 16) (iout : PocAmps) (t : Nat) (s : State) : Host.Outcome State Fault Refusal :=
  let s1 := (s.at t).pocMeas n vout.toNat iout.mA.toNat
  .next (if s.poc n = 2 then
    (if 12 ≤ iout.mA.toNat ∧ 10000000 ≤ s.pocHeldFor n iout.held t then s1.wr (LNK.POC_STAT_OPEN n) 0 else s1) else s)

/-- Row POC_BACKFEED: the centre conductor rises above VCAM + 0.3 V, or falls below it (R138). -/
def execPocBackfeed (n : Fin 24) (live : Bool) (t : Nat) (s : State) : Host.Outcome State Fault Refusal :=
  let s1 := (s.at t).wrB (LNK.POC_STAT_BACKFEED n) live
  .next (if live ∧ s.is (LNK.POC_STAT_BACKFEED n) = false then s1.raise 0x080F n [] else s1)

/-- Row POC_STAGGER_START: the place of a switch in the stagger has come (R139). -/
def execPocStaggerStart (n : Fin 24) (t : Nat) (s : State) : Host.Outcome State Fault Refusal :=
  .next (match (s.link n).pocWait with
    | some w => if w ≤ t ∧ s.poc n = 1 then (s.at t).setLink n { s.link n with pocWait := none } else s
    | none => s)

/-- Row POC_FAULT_CLEAR: host software clears SHORT and OVERCUR (R137). -/
def execPocFaultClear (n : Fin 24) (t : Nat) (s : State) : Host.Outcome State Fault Refusal :=
  .next ((((s.at t).clear1 (LNK.POC_STAT_SHORT n) 1).clear1 (LNK.POC_STAT_OVERCUR n) 1).pocCleared n)

/-! ### Counters, injections, commands (R140, R382) -/

/-- Row LNK_CLR_CNT (R140). -/
def execLnkClrCnt (n : Fin 24) (s : State) : Host.Outcome State Fault Refusal :=
  .next ((((((((s.wr (LNK.CNT0_SYNC_MISS n) 0).wr (LNK.CNT0_CELL_LOST n) 0).wr (LNK.CNT1_PAY_CRC n) 0).wr (LNK.CNT1_HDR_CRC n) 0).wr
    (LNK.CNT2_BC_RETRY n) 0).wr (LNK.CNT2_BC_FAIL n) 0).wr (LNK.CNT3_UNKNOWN_TYPE n) 0).wr (LNK.CNT3_SYMBOL_SLIP n) 0)

/-- Row LNK_INJ_POC_OPEN (R140, R434). -/
def execLnkInjPocOpen (n : Fin 24) (s : State) : Host.Outcome State Fault Refusal := .next (if s.injLocked then s else s.pocOpen n)

/-- Row LNK_INJ_POC_SHORT (R140, R434). -/
def execLnkInjPocShort (n : Fin 24) (s : State) : Host.Outcome State Fault Refusal :=
  .next (if s.injLocked ∨ (s.poc n ≠ 1 ∧ s.poc n ≠ 2) then s else s.pocTrip n true)

/-- Row LNK_INJ_SYNC (R140, R434). -/
def execLnkInjSync (n : Fin 24) (s : State) : Host.Outcome State Fault Refusal :=
  .next (if s.injLocked then s else s.setLink n { s.link n with injSync := true })

/-- Row LNK_INJ_PCRC (R140, R434). -/
def execLnkInjPcrc (n : Fin 24) (s : State) : Host.Outcome State Fault Refusal :=
  .next (if s.injLocked then s else s.setLink n { s.link n with injPcrc := true })

/-- Row LNK_INJ_HCRC (R140, R434). -/
def execLnkInjHcrc (n : Fin 24) (s : State) : Host.Outcome State Fault Refusal :=
  .next (if s.injLocked then s else s.setLink n { s.link n with injHcrc := true })

/-- A mask of links. -/
def linkMask (f : Nat → Bool) : Nat := (List.range 24).foldl (fun a n => a + (if f n then 2 ^ n else 0)) 0

/-- LINK_SUMMARY (R382). -/
def cmdLinkSummary : CmdBody := fun _ s =>
  (s, some (.ok [linkMask fun n => s.rd (LNK.STAT_STATE n) == 4, linkMask fun n => s.is (LNK.STAT_LLAT_VALID n),
    linkMask fun n => s.poc n == 2,
    linkMask fun n => s.is (LNK.STAT_LOST_STKY n) || s.is (LNK.POC_STAT_BLOCK_STKY n) || s.is (LNK.POC_STAT_OPEN_STKY n) ||
      s.is (LNK.POC_STAT_OVERCUR n) || s.is (LNK.POC_STAT_SHORT n)]))

/-- LINK_RESTART (R382): with EN at 0 there is no bring-up to repeat. -/
def cmdLinkRestart : CmdBody := fun c s =>
  let n := c.arg 0
  if 24 ≤ n then (s, some (.err 0x0201 0))
  else (if s.on (LNK.CFG_EN n) then (s.linkDisable n).linkEnable n else s, some (.ok []))

/-- Row LINK_SUMMARY. -/
def execLinkSummary (p : Cmd) (t : Nat) (s : State) : Host.Outcome State Fault Refusal :=
  .next (s.svcCommand (cmdPkt p 0x0201 t) [] false cmdLinkSummary)

/-- Row LINK_RESTART. -/
def execLinkRestart (p : Cmd) (t : Nat) (s : State) : Host.Outcome State Fault Refusal :=
  .next (s.svcCommand (cmdPkt p 0x0202 t) [0] false cmdLinkRestart)

/-! ### The links at a commit (R129 to R131, R135, R380) -/

/-- Link `n` at a commit; `was` is the active configuration before it. -/
def State.linkCommit (s : State) (was : Conf) (n : Nat) : State :=
  let en0 := was (LNK.CFG_EN n) == 1
  let en1 := s.on (LNK.CFG_EN n)
  let s1 :=
    if en0 && !en1 then s.linkDisable n
    else if !en0 && en1 then s.linkEnable n
    else if en1 then
      let id := (s.link n).idOk == some true
      let up := id && !((s.link n).recover)
      let r := if was (LNK.CFG_RATE n) ≠ s.cfg (LNK.CFG_RATE n) ∧ id then s.linkRate n else s
      if min 2 (was (LNK.CFG_PWR n)) ≠ s.pwrSel n ∧ up then r.linkPower n else r
    else s
  let s2 := if was (LNK.GPIO_OUT n) ≠ s.cfg (LNK.GPIO_OUT n) ∧ s1.is (LNK.STAT_BC_UP n) then s1.gpioSend n else s1
  if was (LNK.LOOP_CFG_MODE n) = s.cfg (LNK.LOOP_CFG_MODE n) then s2
  else s2.loopCommit n ((List.range 24).any fun c => ctxOn s.cfg c && s.cfg (CTX.SRC_LINK c) == n)

end Sys2Proof.Machine
end

