-- ==== Sys2Proof/Machine/MemRows.lean ====
section
/-! DEFINITION. Patrol and software scrubs, leaky buckets, fence migration, margin sets and the injections of the memory
controllers (R265 to R283). -/

namespace Sys2Proof.Machine

/-! ### Leaky buckets (R274) -/

/-- Row CE_BUCKET_LEAK: at a multiple of LEAK ms of device time LEVEL falls by 1 if it is above 0 (R274). -/
def execCeBucketLeak (r : Fin 60) (t : Nat) (s : State) : Host.Outcome State Fault Refusal :=
  let s1 := s.at t
  let p := 1000000 * max 1 (s1.rd (MEMR.LEAK r))
  .next (if s1.dev % p < 10 ∧ (AMap.get none (s1.memu.leakAt.map fun e => (e.1, some e.2)) r).all (fun x => decide (x + 10 ≤ s1.now)) then
    (s1.setMemu { s1.memu with leakAt := AMap.set s1.memu.leakAt r s1.now }).wr (MEMR.BKT_LEVEL r) (s1.rd (MEMR.BKT_LEVEL r) - 1)
  else s)

/-! ### Scrubbing (R275 to R278) -/

/-- Words met by a scan that reads them all: the state, words corrected, words uncorrectable, the first uncorrectable address, and the
corrected word with the most corrected bits (R262, R263, R278). -/
structure ScanSum where
  s     : State
  ce    : Nat := 0
  ue    : Nat := 0
  bad   : Option Nat := none
  worst : Option (Nat × Nat) := none

/-- One faulty word of a scan: it is corrected, alone or with the rest of its page, or uncorrectable. -/
def ScanSum.word (x : ScanSum) (m : MemId) (k : Nat) : ScanSum :=
  let y := x.s.meetWord m k
  if y.2 then { x with s := y.1, ue := x.ue + 1, bad := x.bad.orElse fun _ => some (8 * (k % 2 ^ 37)) }
  else
    ((x.s.pageFaults k).filter fun e => !(y.1.memu.faults.any fun f => f.1 == e.1)).foldl (fun z e =>
      let a := 8 * (e.1 % 2 ^ 37)
      let n := e.2.flips.length
      { z with ce := z.ce + 1, worst :=
        match z.worst with
        | some (b, w) => if b < n ∨ (b = n ∧ a < w) then some (n, a) else some (b, w)
        | none => some (n, a) }) { x with s := y.1 }

/-- A scan of `n` bytes of a memory from `a`: the word code of each word and the page code of each page; a data CRC that is to
fail meets its first burst. -/
def ScanSum.scan (x : ScanSum) (m : MemId) (a n : Nat) : ScanSum :=
  let y := x.s.crcCheck m a (min n 4096)
  ((y.1.faultsIn m a n).map Prod.fst).foldl (fun z k => z.word m k) { x with s := y.1 }

/-- The SRAM memories of a software scrub target (register MEM_SCRUB_CTL). -/
def scrubMems (target : Nat) : List (MemId × Nat) :=
  let eng (g : Nat) : List (MemId × Nat) := [(.dmem g, 32768), (.imem g, 16384)]
  if target = 0 then []
  else if target ≤ 16 then [(.sram (target - 1), 1048576)]
  else if target ≤ 32 then (List.range 8).flatMap fun i => eng (8 * (target - 17) + i)
  else if target ≤ 36 then eng (128 + (target - 33))
  else if target ≤ 48 then [(.line (target - 37), 196608)]
  else []

/-- The ranges of a software scrub (R277). -/
def State.scrubRanges (s : State) (c : Scrub) : List (MemId × Nat × Nat) :=
  if c.target = 0 then
    let n := if c.len = 0 then s.memTop - c.addr else min c.len (s.memTop - c.addr)
    [(.gddr, c.addr, n)]
  else if c.target ≤ 16 then [(.sram (c.target - 1), c.addr, min c.len (1048576 - c.addr))]
  else (scrubMems c.target).map fun m => (m.1, 0, m.2)

/-- The bytes of a software scrub. -/
def State.scrubBytes (s : State) (c : Scrub) : Nat := (s.scrubRanges c).foldl (fun n r => n + r.2.2) 0

/-- The first `k` bytes of a list of ranges. -/
def cutRanges : Nat → List (MemId × Nat × Nat) → List (MemId × Nat × Nat)
  | _, [] => []
  | k, (m, a, n) :: rs => (m, a, min k n) :: cutRanges (k - n) rs

/-- Row SCRUB_GO: GO starts a software scrub with the register values present, or is ignored with REJ (R277). -/
def execScrubGo (t : Nat) (s : State) : Host.Outcome State Fault Refusal :=
  let s := s.at t
  let tgt := s.rd MEM.SCRUB_CTL_TARGET
  if s.is MEM.SCRUB_STAT_BUSY ∨ 48 < tgt ∨ (tgt = 0 ∧ s.is MEM.STAT_MIGRATING) then .next (s.set1 MEM.SCRUB_STAT_REJ)
  else
    let c : Scrub :=
      { target := tgt, addr := (s.rd MEM.SCRUB_ADDR_LO_ADDR + 2 ^ 32 * s.rd MEM.SCRUB_ADDR_HI_ADDR) / 64 * 64,
        len := (s.rd MEM.SCRUB_LEN_LO_LEN + 2 ^ 32 * s.rd MEM.SCRUB_LEN_HI_LEN) / 64 * 64,
        rate := max 1 (s.rd MEM.SCRUB_CTL_RATE), start := s.now }
    .next ((s.setMemu { s.memu with scrub := some c }).wr MEM.SCRUB_STAT_BUSY 1)

/-- Set a 64-bit pair of registers. -/
def State.wrPair (s : State) (lo hi : Fld) (v : Nat) : State := (s.wr lo (v % 2 ^ 32)).wr hi (v / 2 ^ 32)

/-- The scrub ends after its first `n` bytes: summary, DONE, SCRUB_DONE (R278). -/
def State.scrubEnd (s : State) (c : Scrub) (n : Nat) : State :=
  let x := (cutRanges n (s.scrubRanges c)).foldl (fun (x : ScanSum) r => x.scan r.1 r.2.1 r.2.2) { s := s }
  let worst := match x.bad, x.worst with
    | some a, _ => a
    | none, some (_, a) => a
    | none, none => 2 ^ 64 - 1
  let s1 := ((x.s.wrPair MEM.SCRUB_WORDS_LO_WORDS MEM.SCRUB_WORDS_HI_WORDS (n / 8)).wrPair MEM.SCRUB_WORST_LO_WORST
    MEM.SCRUB_WORST_HI_WORST worst).wr MEM.SCRUB_CE_CE (min x.ce (2 ^ 32 - 1))
  let s2 := ((s1.wr MEM.SCRUB_UE_UE (min x.ue (2 ^ 32 - 1))).set1 MEM.SCRUB_STAT_DONE).wr MEM.SCRUB_STAT_BUSY 0
  (s2.setMemu { s2.memu with scrub := none }).raise 0x0E03 c.target (leBytes 4 (n / 8) ++ leBytes 4 x.ce ++ leBytes 4 x.ue)

/-- Row SCRUB_DONE: the scrub has read its whole range at RATE (R278). -/
def execScrubDone (t : Nat) (s : State) : Host.Outcome State Fault Refusal :=
  .next (match s.memu.scrub with
    | some c =>
      let n := s.scrubBytes c
      if c.start + ceilDiv (1000 * n) c.rate ≤ t then (s.at t).scrubEnd c n else s
    | none => s)

/-- Row SCRUB_ABORT: ABORT ends the scrub at the next word; `words` have been read, as many as RATE and the range allow
(R277, R278). -/
def execScrubAbort (words : Word) (t : Nat) (s : State) : Host.Outcome State Fault Refusal :=
  .next (match s.memu.scrub with
    | some c =>
      let n := min (min (8 * words.toNat) (s.scrubBytes c)) ((t - c.start) * c.rate / 1000 / 8 * 8 + 8)
      (s.at t).scrubEnd c n
    | none => s)

/-- Every SRAM memory whose words the patrol checks (R275). -/
def patrolMems : List (MemId × Nat) := (List.range 48).flatMap fun k => scrubMems (k + 1)

/-- Row PATROL_SCRUB: the GDDR7 patrol reads its next `words`, as many as GRATE allows since it last read, or the SRAM patrol
ends a pass, one every SPER ms (R275, R276, R282). -/
def execPatrolScrub (sram : Bool) (words : Word) (t : Nat) (s : State) : Host.Outcome State Fault Refusal :=
  let u := s.memu
  if sram then
    let per := 1000000 * min 10000 (max 10 (s.rd MEM.PATROL_SPER))
    if u.sramAt + per ≤ t then
      let x := patrolMems.foldl (fun (x : ScanSum) m => x.scan m.1 0 m.2) { s := (s.at t).setMemu { u with sramAt := t } }
      .next (x.s.wr MEM.PASS_SRAM (x.s.rd MEM.PASS_SRAM + 1))
    else .next s
  else
    let n := 8 * words.toNat
    if s.is MEM.STAT_MIGRATING ∨ (t - u.patrolAt) * s.rd MEM.PATROL_GRATE < 1000 * n ∨ n = 0 then .next s
    else
      let n := min n (s.memTop - u.patrol)
      let x := ({ s := s.at t } : ScanSum).scan .gddr u.patrol n
      let wrap := decide (s.memTop ≤ u.patrol + n)
      let s1 := x.s.setMemu { x.s.memu with patrol := if wrap then 0 else u.patrol + n, patrolAt := t }
      .next (if wrap then s1.wr MEM.PASS_GDDR7 (s1.rd MEM.PASS_GDDR7 + 1) else s1)

/-! ### Fencing a channel (R279 to R282) -/

/-- The fence of a channel takes effect: the new MEM_TOP, the granules to copy, FENCE_START (R280, R281). -/
def State.fenceCommit (s : State) (ch : Nat) : State :=
  let top := s.memTop / 4 * 3
  let s1 := (s.wrPair MEM.TOP_LO_TOP MEM.TOP_HI_TOP top).wr MEM.STAT_FENCE ch
  let s2 := (s1.wr MEM.STAT_MIGRATING 1).wr MEM.MIGR_LEFT (top / 1024)
  (s2.setMemu { s2.memu with copied := 0, poisoned := 0, fenceNext := none }).raise 0x0E05 ch []

/-- With a channel fenced and nothing to copy every granule lives at its place in the withdrawn region (R266, R282). -/
def State.fenceWhole (s : State) : State :=
  if s.rd MEM.STAT_FENCE < 4 then s.setMemu { s.memu with copied := s.memTop / 1024 } else s

/-- Row GRANULE_MIGRATE: the next granule of the fenced channel is copied; after the last the migration ends (R282). -/
def execGranuleMigrate (t : Nat) (s : State) : Host.Outcome State Fault Refusal :=
  if s.is MEM.STAT_MIGRATING then
    let s := s.at t
    let n := s.memu.copied
    let ch := s.rd MEM.STAT_FENCE
    let a := ([0, 256, 512, 768].map fun o => 1024 * n + o).find? (fun a => channelOf a == ch) |>.getD (1024 * n)
    let x := ({ s := s } : ScanSum).scan .gddr a 256
    let u := x.s.memu
    let left := x.s.rd MEM.MIGR_LEFT - 1
    let s1 := (x.s.setMemu { u with copied := n + 1, poisoned := u.poisoned + x.ue }).wr MEM.MIGR_LEFT left
    .next (if left = 0 then
      ((s1.setMemu { s1.memu with patrol := 0, patrolAt := t }).wr MEM.STAT_MIGRATING 0).raise 0x0E06 ch
        (leBytes 4 (u.poisoned + x.ue))
    else s1)
  else .next s

/-! ### Margin sets (R265 to R267) -/

/-- A band change asks every channel to adopt the settings of the band (R267). -/
def State.marginAsk (s : State) : State := s.setMemu { s.memu with margin := [0, 1, 2, 3] }

/-- Row MARGIN_SWITCH: a channel adopts the margin set of the band in force at its next refresh; after the last the band is
applied (R267). -/
def execMarginSwitch (ch : Fin 4) (t : Nat) (s : State) : Host.Outcome State Fault Refusal :=
  .next (if s.memu.margin.contains ch.val then
    let s1 := s.at t
    let left := s1.memu.margin.filter (fun c => c != ch.val)
    let s2 := s1.setMemu { s1.memu with margin := left }
    if left = [] then (s2.wr MEM.STAT_BAND (s2.rd THM.STAT_BAND)).raise 0x0E04 0 [] else s2
  else s)

/-! ### Counters and injection (R283) -/

/-- Row MEM_CLR_CNT: the counters of every region return to 0. -/
def execMemClrCnt (s : State) : Host.Outcome State Fault Refusal :=
  .next ((List.range 60).foldl (fun s r => (s.wr (MEMR.CE r) 0).wr (MEMR.UE r) 0) s)

/-- An injection of a KIND into a region: 1 to 4 wait for the next write there, 5 makes the next four data CRC checks of the
channel fail; a KIND that does not apply is ignored (R283). -/
def State.memInject (s : State) (r kind : Nat) : State :=
  let fits := decide (r ≤ 51) && (decide (kind ≤ 3) || (kind == 4 && decide (4 ≤ r ∧ r ≤ 39)) || (kind == 5 && decide (r ≤ 3)))
  if s.injLocked ∨ fits = false then s
  else if kind = 5 then s.setMemu { s.memu with crc := AMap.set s.memu.crc r 4 }
  else s.setMemu { s.memu with arm := AMap.set s.memu.arm r kind }

/-- Row MEM_INJ_1BIT. -/
def execMemInj1bit (r : BitVec 6) (s : State) : Host.Outcome State Fault Refusal := .next (s.memInject r.toNat 1)
/-- Row MEM_INJ_2BIT. -/
def execMemInj2bit (r : BitVec 6) (s : State) : Host.Outcome State Fault Refusal := .next (s.memInject r.toNat 2)
/-- Row MEM_INJ_3BIT. -/
def execMemInj3bit (r : BitVec 6) (s : State) : Host.Outcome State Fault Refusal := .next (s.memInject r.toNat 3)
/-- Row MEM_INJ_PAGE. -/
def execMemInjPage (r : BitVec 6) (s : State) : Host.Outcome State Fault Refusal := .next (s.memInject r.toNat 4)
/-- Row MEM_INJ_CRC. -/
def execMemInjCrc (r : BitVec 6) (s : State) : Host.Outcome State Fault Refusal := .next (s.memInject r.toNat 5)

end Sys2Proof.Machine
end

