-- ==== Sys2Proof/Machine/Recorder.lean ====
section
/-! DEFINITION. The rewind recorder: inputs, ring units, extents, the journal, erases, marks, pins and the wear governor
(R272, R320 to R339, R344). -/

namespace Sys2Proof.Machine

/-- Change the recorder. -/
def State.setRcd (s : State) (r : Recorder) : State := { s with rcd := r }

/-- Bytes of an extent (R322). -/
def extBytes : Nat := 1048576

/-! ### Reading NAND pages (R272, R273) -/

/-- Bytes that a unit takes in the ring. -/
def RUnit.size (u : RUnit) : Nat := u.bytes.length + u.fill

/-- The ESEQ of the extent that a unit begins in. -/
def RUnit.ext (u : RUnit) : Nat := u.pos / extBytes

/-- The ESEQ of the extent that a unit ends in. -/
def RUnit.last (u : RUnit) : Nat := (u.pos + u.size - 1) / extBytes

/-- A page is read: corrections count once in its channel's region, a weak page raises NAND_WEAK, an uncorrectable one counts. -/
def State.nandRead (s : State) (ch : Nat) (p : NandPage) : State :=
  let s1 := if 0 < p.bits ∧ p.stage ≠ 0 then s.memCorrect (52 + ch) 1 else s
  if p.stage = 0 then s1.memUe (52 + ch) p.page
  else if 1 < p.stage.toNat ∨ 120 < p.bits then s1.raise 0x0E08 (52 + ch) [] else s1

/-! ### Groups, extents and what the registers show -/

/-- Groups in service (R321, R336). -/
def Recorder.inServ (r : Recorder) : Nat := 1920 - r.retired.length

/-- The extent with an ESEQ. -/
def Recorder.ext? (r : Recorder) (e : Nat) : Option RExt := r.exts.find? fun x => x.eseq == e

/-- Change an extent. -/
def Recorder.updExt (r : Recorder) (e : Nat) (f : RExt → RExt) : Recorder :=
  { r with exts := r.exts.map fun x => if x.eseq = e then f x else x }

/-- The extents placed in a group. -/
def Recorder.inGroup (r : Recorder) (g : Nat) : List RExt := r.exts.filter fun x => x.place.elim false fun p => p.1 == g

/-- The valid extents in order of ESEQ. -/
def Recorder.valids (r : Recorder) : List RExt := r.exts.filter fun x => x.valid

/-- The groups that hold an extent of a range of ESEQ. -/
def Recorder.groupsOf (r : Recorder) (a b : Nat) : List Nat :=
  ((r.exts.filter fun x => decide (a ≤ x.eseq ∧ x.eseq ≤ b)).filterMap fun x => x.place.map Prod.fst).eraseDups

/-- A 64-bit quantity held in two registers. -/
def State.rd64 (s : State) (lo hi : Fld) : Nat := s.rd lo + 2 ^ 32 * s.rd hi

/-- Pin `p` is set. -/
def State.pinOn (s : State) (p : Nat) : Bool := (s.rd REC.PIN_VALID_VALID).testBit p

/-- The ESEQ range of a pin. -/
def State.pinRange (s : State) (p : Nat) : Nat × Nat :=
  (s.rd64 (PN.FIRST_LO_ESEQ p) (PN.FIRST_HI_ESEQ p), s.rd64 (PN.LAST_LO_ESEQ p) (PN.LAST_HI_ESEQ p))

/-- The groups that pins protect, with one more range (R339). -/
def State.pinned (s : State) (more : List (Nat × Nat)) : List Nat :=
  ((((List.range 16).filter fun p => s.pinOn p).map fun p => s.pinRange p) ++ more).flatMap
    (fun x => s.rcd.groupsOf x.1 x.2) |>.eraseDups

/-- The recorder's position shows in its registers. -/
def State.recShow (s : State) : State :=
  let r := s.rcd
  let s1 := s.wrPair REC.ESEQ_LO_ESEQ REC.ESEQ_HI_ESEQ (r.wpos / extBytes)
  let s2 := s1.wrPair REC.OLD_LO_ESEQ REC.OLD_HI_ESEQ (r.valids.head?.elim 0 RExt.eseq)
  ((s2.wr REC.GROUPS_PINNED (s.pinned []).length).wr REC.GROUPS_INSERV r.inServ).wrPair REC.ERASES_LO_ERASES
    REC.ERASES_HI_ERASES r.erases

/-! ### Wear and the causes that hold recording (R334, R344) -/

/-- Powered hours H. -/
def Recorder.hours (r : Recorder) : Nat := r.ns / 3600000000000

/-- The remaining budget R_b. -/
def Recorder.budget (r : Recorder) : Nat := r.inServ * 100000 - r.erases

/-- max(LIFE - H, 1). -/
def State.lifeLeft (s : State) : Nat := max (max 1 (s.cfg REC.WEAR_LIFE) - s.rcd.hours) 1

/-- The next group to erase: cyclic physical order after the group last taken, skipping pinned, retired and filling ones
(R323, R339). -/
def State.nextGroup (s : State) : Option Nat :=
  let r := s.rcd
  let pins := s.pinned []
  let from_ := r.lastG.elim 0 fun g => g + 1
  ((List.range 1920).map fun i => (from_ + i) % 1920).find? fun g =>
    !r.retired.contains g && !pins.contains g && r.fill.elim true fun f => f.1 != g

/-- The writer needs an erase: none is ahead and none is under way (R323). -/
def Recorder.needsErase (r : Recorder) : Bool := r.ahead.isNone && r.erase == .idle

/-- The causes in force (table "Causes of RECORD_HELD"). -/
def State.recCauses (s : State) : Nat :=
  (if s.is THM.STAT_NAND_OK then 0 else 1) + (if s.rd SYS.PWR_STAT_STATE = 1 then 2 else 0) +
  (if s.rcd.needsErase ∧ s.rcd.wear < 2 ^ 64 then 4 else 0) +
  (if s.rcd.needsErase ∧ s.nextGroup = none then 8 else 0)

/-- No program and no erase starts (R334, R335). -/
def State.recHeld (s : State) : Bool :=
  s.rd REC.STAT_CAUSE != 0 || s.rd REC.STAT_STATE == 3 || s.pwr.noProg || s.pwr.st == .deferral || s.pwr.st == .smoulder ||
    s.pwr.st == .off

/-! ### Units (R326, R329, R330) -/

/-- Change a recorder input. -/
def State.setRin (s : State) (n : Nat) (x : RIn) : State := s.setRcd { s.rcd with ins := AMap.set s.rcd.ins n x }

/-- A recorder input beside its registers. -/
def State.rin (s : State) (n : Nat) : RIn := AMap.get {} s.rcd.ins n

/-- The extents that a unit of `len` bytes at the writer's position touches are open and know what lies in them. -/
def Recorder.touch (r : Recorder) (now : Nat) (u : RUnit) (len : Nat) : Recorder :=
  let e0 := u.pos / extBytes
  let e1 := (u.pos + len - 1) / extBytes
  (List.range (e1 - e0 + 1)).foldl (fun r i =>
    let e := e0 + i
    let r1 := if (r.ext? e).isSome then r else { r with exts := r.exts ++ [{ eseq := e, since := now }] }
    r1.updExt e fun x =>
      let y := { x with ins := if u.kind = 4 then x.ins else x.ins.lor (2 ^ u.input),
                        closed := x.closed || decide ((e + 1) * extBytes ≤ u.pos + len) }
      if u.kind = 0 ∧ i = 0 then
        { y with sof1 := u.sof, fro := y.fro.or (some (u.pos % extBytes)),
                 rseq := if y.fro.isNone then u.rseq else y.rseq, sof0 := if y.fro.isNone then u.sof else y.sof0 }
      else y) r

/-- Write a unit at the writer's position. -/
def State.putUnit (s : State) (u : RUnit) : State :=
  let r := s.rcd
  let v := { u with pos := r.wpos }
  s.setRcd ({ r with units := r.units ++ [v], wpos := r.wpos + v.size }.touch s.now v v.size)

/-- The writer leaves the extent it fills: a pad unit fills the rest of it (R326, R330, R336). -/
def State.padExtent (s : State) : State :=
  let n := extBytes - s.rcd.wpos % extBytes
  if n = extBytes then s else s.putUnit { kind := 4, bytes := leBytes 4 0xFFFFFFFD, fill := n - 4 }

/-- The gap unit that is owed to an input precedes its next unit (R329). -/
def State.putGap (s : State) (n : Nat) : State :=
  let x := s.rin n
  if x.drops = 0 then s
  else
    let bytes := leBytes 4 0xFFFFFFFC ++ [n, 0, 0, 0] ++ leBytes 8 x.drops ++ leBytes 8 x.first ++ leBytes 8 x.last
    (s.putUnit { kind := 3, input := n, bytes := bytes }).setRin n { x with drops := 0, first := 0, last := 0 }

/-! ### Journal pages as they lie in NAND (R332) -/

/-- The 64 bytes of a journal entry (table "Journal entry, 64 bytes"). -/
def JEnt.bytes (e : JEnt) : List Nat :=
  [e.ty % 256, e.idx % 256] ++ leBytes 2 e.group ++ [e.ext % 256, e.flags % 256, 0, 0] ++ leBytes 8 e.a ++ leBytes 8 e.b ++
  leBytes 4 e.fro ++ leBytes 2 e.ins ++ [0, 0] ++ leBytes 8 e.sof0 ++ leBytes 8 e.sof1 ++ leBytes 8 e.erases ++ leBytes 8 e.secs

/-- A byte of a journal page that no rule states: free (log 78). -/
def jFree (slot gen i : Nat) : Nat := freeSample [slot, gen, i] % 256

/-- Header bytes 0 to 59 of a journal page: slot, GENERATION, entry count. -/
def JPage.head (p : JPage) (slot : Nat) : List Nat :=
  leBytes 4 slot ++ ((List.range 4).map fun i => jFree slot p.gen (4 + i)) ++ leBytes 8 p.gen ++ leBytes 2 p.ents.length ++
  (List.range 42).map fun i => jFree slot p.gen (18 + i)

/-- Page bytes 64 to 16,383: the entries, then what no rule states. -/
def JPage.body (p : JPage) (slot : Nat) : List Nat :=
  p.ents.flatMap JEnt.bytes ++ (List.range (64 * (255 - p.ents.length))).map fun i => jFree slot p.gen (64 * (p.ents.length + 1) + i)

/-- The 16,384 bytes of a journal page, with the CRC-32C in bytes 60 to 63 of its header. -/
def JPage.image (p : JPage) (slot : Nat) : List Nat :=
  p.head slot ++ leBytes 4 (crc32c (p.head slot ++ p.body slot)) ++ p.body slot

/-! ### Programming (R331, R332, R336) -/

/-- Queue an entry for the journal (R332). -/
def State.jPut (s : State) (e : JEnt) : State :=
  let r := s.rcd
  s.setRcd { r with jq := r.jq ++ [e], jAt := if r.jq = [] then s.now else r.jAt, jDue := r.jDue || decide (3 ≤ e.ty) }

/-- Two entries speak of the same extent, group, mark or pin. -/
def JEnt.same (x y : JEnt) : Bool :=
  x.ty == y.ty && x.idx == y.idx && (if x.ty = 1 then x.a == y.a else x.group == y.group)

/-- The copy of a slot that counts: the highest GENERATION among intact copies, where they agree (R391). -/
def slotPage (c : List (Option JPage)) : Option JPage :=
  let good := c.filterMap id
  let top := good.foldl (fun g p => max g p.gen) 0
  match good.filter fun p => p.gen == top with
  | p :: rest => if rest.all fun q => decide (q = p) then some p else none
  | [] => none

/-- The entries of a slot that no newer entry replaces: they are written again before the slot is overwritten (R332). -/
def Recorder.live (r : Recorder) (slot : Nat) : List JEnt :=
  match slotPage (AMap.get [] r.slots slot) with
  | none => []
  | some p =>
    let newer := (r.slots.filterMap fun c => (slotPage c.2).bind fun q => if p.gen < q.gen then some q.ents else none).flatten
    p.ents.filter fun e => (e.ty ≠ 1 ∨ r.valids.any fun x => x.eseq == e.a) ∧ !newer.any fun f => e.same f

/-- The next journal page is programmed where one is due and none is under way (R332, R334). -/
def State.jStart (s : State) : State :=
  let r := s.rcd
  if s.recHeld then s
  else if r.jprog.isSome then s.setRcd { r with jprog := r.jprog.map fun j => { j with run := true } }
  else if r.jq = [] ∨ !(r.jDue || s.pwr.st == .entering || decide (255 ≤ r.jq.length)) then s
  else
    let old := r.live ((r.jslot + 1) % 2048)
    let ents := (old ++ r.jq).take 255
    let rest := (old ++ r.jq).drop 255
    s.setRcd { r with jq := rest, jAt := s.now, jDue := rest.any fun e => decide (3 ≤ e.ty),
                      jprog := some { slot := r.jslot, page := { gen := r.jgen, ents := ents } },
                      jslot := (r.jslot + 1) % 2048, jgen := r.jgen + 1 }

/-- The next extent with a page ready to be programmed: a whole page of it is written, or it is closed. -/
def Recorder.nextProg (r : Recorder) : Option RExt :=
  (r.exts.find? fun x => !x.gone && decide (x.pages < 64)).bind fun x =>
    if x.closed ∨ x.eseq * extBytes + (x.pages + 1) * 16384 ≤ r.wpos then some x else none

/-- The next page program starts; the first page of an extent takes the extent's place (R323, R331, R334). -/
def State.progStart (s : State) : State :=
  let r := s.rcd
  if s.recHeld ∨ r.prog.isSome then s
  else
    match r.nextProg with
    | none => s
    | some x =>
      if x.place.isSome then s.setRcd { r with prog := some x.eseq }
      else
        match r.fill, r.ahead with
        | some (g, n), ahead =>
          if n < 64 then
            s.setRcd { (r.updExt x.eseq fun y => { y with place := some (g, n) }) with fill := some (g, n + 1), prog := some x.eseq }
          else
            match ahead with
            | some h => s.setRcd { (r.updExt x.eseq fun y => { y with place := some (h, 0) }) with
                                   fill := some (h, 1), ahead := none, prog := some x.eseq }
            | none => s
        | none, some h => s.setRcd { (r.updExt x.eseq fun y => { y with place := some (h, 0) }) with
                                     fill := some (h, 1), ahead := none, prog := some x.eseq }
        | none, none => s

/-- An erase whose entries are programmed starts: what its group held is gone (R333, R334). -/
def State.eraseStart (s : State) : State :=
  let r := s.rcd
  if r.erase = .ready ∧ s.recHeld = false then
    let es := (r.inGroup r.eraseG).map RExt.eseq
    s.setRcd { r with erase := .running, wear := r.wear - 2 ^ 64, erases := r.erases + 1,
                      exts := r.exts.filter fun x => !es.contains x.eseq,
                      units := r.units.filter fun u => !(es.contains u.ext && es.contains u.last) }
  else s

/-! ### Records (R325 to R328) -/

/-- MAXB of an input in force. -/
def State.rinMaxb (s : State) (n : Nat) : Nat := min 268435456 (max 256 (s.cfg (IN.MAXB n)))

/-- The bucket of an input now: it fills at RATE x 1,000 bytes/s to twice MAXB (R325). -/
def State.rinBucket (s : State) (n : Nat) : Nat :=
  min (2 * s.rinMaxb n * 1000000) ((s.rin n).bucket + s.cfg (IN.RATE n) * (s.now - (s.rin n).at_))

/-- The open record of an input ends: the bucket gets back what it did not use (R325). -/
def State.closeRec (s : State) (n : Nat) (c : RRec) : State :=
  let back := s.rinBucket n + (s.rinMaxb n - c.wr) * 1000000
  s.setRin n { s.rin n with cur := some { c with open_ := false }, at_ := s.now,
                            bucket := min (2 * s.rinMaxb n * 1000000) back }

/-- The open record of an input ends without a trailer (R327). -/
def State.cutRec (s : State) (n : Nat) : State :=
  match (s.rin n).cur with
  | some c =>
    if c.open_ then
      let s1 := (s.closeRec n c).addSat (IN.CUT n) 1
      s1.setRcd { s1.rcd with cuts := c.rseq :: s1.rcd.cuts }
    else s
  | none => s

/-- The causes are looked at again: a cause that comes into force holds recording and cuts the open records (R334). -/
def State.recEval (s : State) : State :=
  let c := s.recCauses
  let s1 := s.wr REC.STAT_CAUSE c
  if c ≠ 0 ∧ s.rd REC.STAT_STATE = 2 then
    let s2 := (s1.wr REC.STAT_STATE 3).raise 0x1101 0 (leBytes 4 c)
    (List.range 16).foldl (fun s n => s.cutRec n) (s2.setRcd { s2.rcd with held := 0 })
  else s1

/-- Everything that may start does, unless a cause holds recording; what starts may bring a cause into force (R334). -/
def State.recPump (s : State) : State := s.recEval.progStart.jStart.eraseStart.recEval.recShow

/-- The trailer of the open record: its tag with the record that has arrived, if one has (R327, R328). -/
def State.trailer (s : State) (n : Nat) (c : RRec) (fr : Option (List Nat)) (oversize : Bool) : State :=
  let e := (s.dlv.ends.find? fun x => x.1 == c.src && x.2.1 == c.num).map fun x => x.2.2
  let base := if c.tag.strip then c.tag else (s.frameTag c.cam c.num).elim c.tag fun f =>
    let g := s.tagOf f
    { g with graph := c.tag.graph, flags := g.flags + c.tag.flags, offer := c.tag.offer }
  let i : DItem := { tag := { base with admitted := 0 }, kind := b2n c.tag.strip, cam := c.cam, endAt := e, prom := none, pay := c.pay,
                     count := c.count, rcd := fr, causes := if c.fault then 4 else 0 }
  let tag := s.tagBytes (s.cfg (IN.CFG_STREAM n)) 0 i (if oversize then 0x800000 else 0) c.pay.length 0
  let s1 := (if fr.isNone then s.used else s).putUnit
    { kind := 2, input := n, rseq := c.rseq, bytes := leBytes 4 0xFFFFFFFE ++ leBytes 4 c.count ++ tag }
  (s1.closeRec n { c with wr := c.wr + 136 }).addSat (IN.REC n) 1

/-- The origin of the flue that an input consumes, its camera and the source number of delivery. -/
def State.rinOrigin (s : State) (g : Graph) (f : Nat) : Nat × Nat × Bool :=
  match (g.chain (g.flues.length + 1) f).2 with
  | some (.region c _) => (c, 4 * s.cfg (CTX.SRC_LINK c) + s.cfg (CTX.SRC_VC c), false)
  | some (.swath w) => (64 + w, 0, true)
  | none => (128, 0, false)

/-- The first item of a frame: the input records the frame or drops it whole (R325, R329). -/
def State.rinBegin (s : State) (n gen f num : Nat) : State :=
  let g := s.graphOf gen
  let o := s.rinOrigin g f
  let x := { s.rin n with offer := ((s.rin n).offer + 1) % 2 ^ 32 }
  let strip := s.dlv.strips.find? fun e => e.1 + 64 == o.1 && e.2.1 == num
  let sof := if o.2.2 then strip.elim 0 (fun e => e.2.2.2) else (s.frameTag o.2.1 num).elim 0 FTag.sof
  let maxb := s.rinMaxb n
  let c : RRec := { num := num, cam := o.2.1, src := o.1 }
  if s.rd REC.STAT_STATE = 2 ∧ s.on (IN.CFG_EN n) ∧ maxb * 1000000 ≤ s.rinBucket n then
    let tag := { (if o.2.2 then strip.elim { strip := true } (fun e => e.2.2.1) else ({} : TagInfo)) with
                 num := num, graph := g.id, offer := x.offer,
                 flags := (if s.rd THM.CLK_MHZ < 1200 then 0x40000 else 0) + (if s.rd SYS.PWR_STAT_STATE = 1 then 0x80000 else 0) }
    let q := s.rcd.rseq
    let s1 := s.setRin n { x with bucket := s.rinBucket n - maxb * 1000000, at_ := s.now,
                                  cur := some { c with open_ := true, rseq := q, wr := 32, tag := tag } }
    let s2 := (s1.setRcd { s1.rcd with rseq := q + 1 }).putGap n
    s2.putUnit { kind := 0, input := n, rseq := q, sof := sof,
                 bytes := leBytes 4 0xFFFFFFFF ++ [n, 0, 0, 0] ++ leBytes 8 q ++ leBytes 8 sof ++ leBytes 8 0 }
  else
    let owed := s.on REC.CFG_EN && s.on (IN.CFG_EN n)
    let y := { x with cur := some c, drops := if owed then x.drops + 1 else x.drops,
                      first := if owed ∧ x.drops = 0 then s.dev else x.first, last := if owed then s.dev else x.last }
    let s1 := if s.rd REC.STAT_STATE = 3 then s.setRcd { s.rcd with held := s.rcd.held + 1 } else s
    ((s1.setRin n y).addSat (IN.DROP n) 1).raiseJoin (fun a b => leBytes 4 (leNat a + leNat b)) 0x1107 n s.now (leBytes 4 1)

/-- An item of the open record: an entry, and the trailer after the frame record or where the record would exceed MAXB
(R327, R328). -/
def State.rinEntry (s : State) (n : Nat) (bytes : List Nat) (poison : Bool) : State :=
  match (s.rin n).cur with
  | none => s
  | some c =>
    if c.open_ = false then s
    else if poison then s.setRin n { s.rin n with cur := some { c with fault := true } }
    else
      let fr := if leAt bytes 4 2 = 0xFFFF then some ((bytes.drop 8).take 64) else none
      let e := leBytes 4 bytes.length ++ leBytes 4 c.count ++ bytes ++ List.replicate ((8 - bytes.length % 8) % 8) 0
      if s.rinMaxb n - 136 < c.wr + e.length then s.trailer n c fr true
      else
        let d := { c with wr := c.wr + e.length, pay := c.pay ++ e, count := c.count + 1 }
        let s1 := (s.setRin n { s.rin n with cur := some d }).putUnit { kind := 1, input := n, rseq := c.rseq, bytes := e }
        if fr.isSome then s1.trailer n d fr false else s1

/-- Row RECORDER_ITEM: an input reads the next item of its flue and frees the slot (R324, R325, R327). -/
def execRecorderItem (n : Fin 16) (t : Nat) (s : State) : Host.Outcome State Fault Refusal :=
  let s := s.endpointCatch (5 * 4096 + n.val) t
  .next (match if s.pwr.st = .up then s.endpointNext (5 * 4096 + n.val) else none with
    | none => s
    | some (gen, f, j, x) =>
      let r := (s.at t).endpointRead gen f j x
      let num := leAt r.1 0 4
      let s1 := r.2.2
      let isNew := (s1.rin n).cur.elim true fun c => c.num != num
      let s2 := if isNew then (s1.cutRec n).rinBegin n gen f num else s1
      let s3 := s2.rinEntry n r.1 r.2.1
      let s4 := if s.itemIsRec gen f x then
          (s3.cutRec n).setRin n { (s3.cutRec n).rin n with cur := none }
        else s3
      s4.recPump)

/-! ### Held, resumed, off (R325, R334) -/

/-- The recorder's part of a management tick: wear, powered time, causes; recording resumes at the first tick without a cause, with
the gap units that are owed (R329, R334, R344). -/
def State.recTick (s : State) : State :=
  let r := s.rcd
  let dt := s.now - r.at_
  let on := decide (s.rd SYS.PWR_STAT_STATE ≤ 1)
  let g := r.budget
  let left := s.lifeLeft
  let wear := min (r.inServ * 2 ^ 64) (r.wear + g * dt * 2 ^ 64 / (left * 3600000000000))
  let s1 := s.setRcd { r with at_ := s.now, ns := if on then r.ns + dt else r.ns, wear := wear }
  let remain := g * 10000 / (max 1 r.inServ * 100000)
  let s2 := ((((s1.wr REC.WBKT_LEVEL (wear / 2 ^ 48)).wr REC.LIFE_REMAIN remain).wr REC.HOURS s1.rcd.hours).wr REC.GRATE_RATE
    (g * 67108864 / (left * 3600 * 1000000)))
  let lvl := if remain < 100 then 2 else if remain < 1000 then 1 else 0
  let s3 := if r.low < lvl then (s2.setRcd { s2.rcd with low := lvl }).raise 0x110D 0 (leBytes 4 remain) else s2
  let s4 := s3.recEval
  let s5 := if s4.rd REC.STAT_STATE = 3 ∧ s4.rd REC.STAT_CAUSE = 0 then
      (List.range 16).foldl (fun s n => s.putGap n) ((s4.wr REC.STAT_STATE 2).raise 0x1102 0 (leBytes 4 s4.rcd.held))
    else s4
  s5.recPump

/-- The recorder's part of a commit: inputs whose registers change start with a full bucket; EN starts and stops recording
(R325, register REC_CFG). -/
def State.recCommit (s : State) (was : Fld → Nat) : State :=
  let s1 := (List.range 16).foldl (fun s n =>
    if [IN.CFG_EN n, IN.MAXB n, IN.RATE n, IN.CFG_STREAM n].any fun f => decide (was f ≠ s.cfg f) then
      s.setRin n { s.rin n with bucket := 2 * s.rinMaxb n * 1000000, at_ := s.now, offer := 0 }
    else s) s
  let st := s1.rd REC.STAT_STATE
  if st = 1 then s1
  else if s1.on REC.CFG_EN = false then s1.wr REC.STAT_STATE 0
  else if st = 0 then (s1.wr REC.STAT_STATE 2).recEval.recPump
  else s1

/-! ### Extents (R330, R331, R336) -/

/-- Row EXTENT_TIMEOUT: an extent closes XTMO ms after its first unit (R330). -/
def execExtentTimeout (t : Nat) (s : State) : Host.Outcome State Fault Refusal :=
  .next (match s.rcd.ext? (s.rcd.wpos / extBytes) with
    | some x =>
      if x.closed = false ∧ x.gone = false ∧ x.since + 1000000 * max 1 (s.cfg REC.CFG_XTMO) ≤ t then (s.at t).padExtent.recPump
      else s
    | none => s)

/-- A block of a die is retired and a spare takes its place; with no spare left the group is retired (R336). -/
def State.blockFail (s : State) (g die lost : Nat) : State :=
  let r := s.rcd
  let used := AMap.get 0 r.spares die
  let s1 := (s.addSat REC.CNT_PROG_FAIL 1).raise 0x1108 die (leBytes 4 lost)
  if used < 48 then s1.setRcd { r with spares := AMap.set r.spares die (used + 1) }
  else
    let r1 := { r with retired := g :: r.retired, exts := r.exts.map fun x =>
                         if x.place.elim false (fun p => p.1 == g) then { x with valid := false, gone := true } else x,
                       fill := if r.fill.elim false (fun f => f.1 == g) then none else r.fill,
                       ahead := if r.ahead = some g then none else r.ahead }
    (s1.setRcd r1).raise 0x1109 g (leBytes 4 r1.inServ)

/-- The COMMIT entry of an extent (table "Journal entry, 64 bytes"). -/
def RExt.commit (x : RExt) : JEnt :=
  { ty := 1, group := x.place.elim 0 Prod.fst, ext := x.place.elim 0 Prod.snd, a := x.eseq, b := x.rseq,
    fro := x.fro.getD 0xFFFFFFFF, ins := x.ins, sof0 := x.sof0, sof1 := x.sof1 }

/-- Row NAND_PROGRAM_DONE: the data page program ends; after the last page of an extent its COMMIT entry follows; a failed block
abandons the extent (R331, R336). -/
def execNandProgramDone (fail : Bool) (t : Nat) (s : State) : Host.Outcome State Fault Refusal :=
  .next (match s.rcd.prog.bind s.rcd.ext? with
    | none => s
    | some x =>
      let s0 := s.at t
      let r := { s0.rcd with prog := none, injFail := false }
      if fail ∨ s0.rcd.injFail then
        let lost := min extBytes (r.wpos - x.eseq * extBytes)
        let s1 := s0.setRcd (r.updExt x.eseq fun y => { y with gone := true })
        let s2 := if x.eseq = r.wpos / extBytes then s1.padExtent else s1
        (s2.blockFail (x.place.elim 0 Prod.fst) (x.pages % 16) lost).recEval.recPump
      else
        let y := { x with pages := x.pages + 1, full := if x.pages + 1 = 64 then some t else none }
        let s1 := s0.setRcd (r.updExt x.eseq fun _ => y)
        (if y.pages = 64 then s1.jPut y.commit else s1).recPump)

/-! ### The journal (R331, R332) -/

/-- Row JOURNAL_PAGE_TIMEOUT: 10 ms after its first entry a journal page is programmed (R332). -/
def execJournalPageTimeout (t : Nat) (s : State) : Host.Outcome State Fault Refusal :=
  .next (if s.rcd.jq ≠ [] ∧ s.rcd.jAt + 10000000 ≤ t then
    ((s.at t).setRcd { s.rcd with jDue := true }).recPump
  else s)

/-- An entry is programmed in all three copies (R331, R337). -/
def State.jDurable (s : State) (e : JEnt) : State :=
  let r := s.rcd
  let s1 := if e.ty = 1 then s.setRcd (r.updExt e.a fun x => { x with valid := x.full.isSome && !x.gone })
    else s
  match e.cmd with
  | some (c, res) => if s1.cmd.running.contains c then s1.cmdReply c (.ok res) else s1
  | none => s1

/-- A journal page is programmed in all three copies: its entries are durable, and an erase none of whose entries waits any longer is
ready (R331, R333). -/
def State.jPageDone (s : State) (p : JPage) : State :=
  let s1 := p.ents.foldl (fun s e => s.jDurable e) s
  if s1.rcd.erase = .journal ∧ !(s1.rcd.jq.any fun e => e.own) then s1.setRcd { s1.rcd with erase := .ready } else s1

/-- Store a journal copy in its slot. -/
def Recorder.putCopy (r : Recorder) (slot k : Nat) (p : Option JPage) : Recorder :=
  let c := AMap.get [none, none, none] r.slots slot
  { r with slots := AMap.set r.slots slot (c.set k p) }

/-- Row JOURNAL_PROGRAM_DONE: a copy is programmed and the next copy starts; an armed JSPLIT alters one entry of J2 (R332,
R346). -/
def execJournalProgramDone (t : Nat) (s : State) : Host.Outcome State Fault Refusal :=
  .next (match s.rcd.jprog with
    | none => s
    | some j => if j.run = false then s else
      let s0 := s.at t
      let clean := { j.page with ents := j.page.ents.map fun e => { e with cmd := none, own := false } }
      let split := decide (j.done = 2) && s0.rcd.injSplit
      let copy := if split then
          { clean with ents := (clean.ents.take 1).map (fun e => { e with ext := e.ext.xor 1 }) ++ clean.ents.drop 1 }
        else clean
      let r := { (s0.rcd.putCopy j.slot j.done (some copy)) with injSplit := s0.rcd.injSplit && !split }
      if j.done < 2 then (s0.setRcd { r with jprog := some { j with done := j.done + 1, run := false } }).recPump
      else ((s0.setRcd { r with jprog := none }).jPageDone j.page).recPump)

/-! ### Marks (R337, R338) -/

/-- The point of a mark. -/
def State.markPos (s : State) (m : Nat) : Nat := s.rd64 (MK.POS_LO_RPOS m) (MK.POS_HI_RPOS m)

/-- The MARK entry of a mark as its registers stand. -/
def State.markEnt (s : State) (m : Nat) : JEnt :=
  { ty := 3, idx := m, flags := s.rd (MK.STAT_VALID m) + 2 * s.rd (MK.STAT_OVERTAKEN m) + 4 * s.rd (MK.STAT_TRIMMED m),
    a := s.markPos m, b := s.rd (MK.LOST m) }

/-- The RPOS of the FRO of the oldest valid extent above an ESEQ that has one, else the next unit to be written (R338). -/
def Recorder.after (r : Recorder) (e : Nat) : Nat :=
  ((r.valids.find? fun x => decide (e < x.eseq) && x.fro.isSome).map fun x => x.eseq * extBytes + x.fro.getD 0).getD r.wpos

/-- A mark in a group about to be erased moves (R338). -/
def State.markOvertake (s : State) (last m : Nat) (es : List RExt) : State :=
  let p := s.markPos m
  if s.is (MK.STAT_VALID m) ∧ es.any (fun x => x.eseq == p / extBytes) then
    let n := s.rcd.after last
    let s1 := ((s.wrPair (MK.POS_LO_RPOS m) (MK.POS_HI_RPOS m) n).set1 (MK.STAT_OVERTAKEN m)).wr (MK.LOST m) (min (n - p) (2 ^ 32 - 1))
    (s1.raise 0x1103 m (leBytes 8 (n - p))).jPut { s1.markEnt m with own := true }
  else s

/-- A readout cursor in a group about to be erased moves (R342). -/
def State.readOvertake (s : State) (last : Nat) (es : List RExt) : State :=
  match s.rcd.read with
  | some c =>
    if es.any fun x => x.eseq == c.pos / extBytes then
      let n := s.rcd.after last
      let s1 := s.setRcd { s.rcd with read := some { c with pos := n, skip := c.skip + (n - c.pos) } }
      let s2 := (s1.wrPair REC.RD_POS_LO_RPOS REC.RD_POS_HI_RPOS n).wrPair REC.RD_LOST_LO_LOST REC.RD_LOST_HI_LOST
        (s.rd64 REC.RD_LOST_LO_LOST REC.RD_LOST_HI_LOST + (n - c.pos))
      (s2.set1 REC.RD_STAT_OVERTAKEN).raise 0x1104 c.queue (leBytes 8 (n - c.pos))
    else s
  | none => s

/-! ### Erases (R323, R333) -/

/-- Row GROUP_ERASE: the writer journals RECLAIM and the marks that the erase moves; the group is dead, and the erase starts when those
entries are programmed (R323, R333, R338, R342). -/
def execGroupErase (t : Nat) (s : State) : Host.Outcome State Fault Refusal :=
  let s := (s.at t).recEval
  .next (if s.rd REC.STAT_STATE ≠ 2 ∨ s.recHeld ∨ s.rcd.needsErase = false ∨ s.rcd.wear < 2 ^ 64 then s
    else
      match s.nextGroup with
      | none => s
      | some g =>
        let es := s.rcd.inGroup g
        let last := es.foldl (fun a x => max a x.eseq) 0
        let first := es.foldl (fun a x => min a x.eseq) last
        let exts := s.rcd.exts.map fun x => if es.any fun y => y.eseq == x.eseq then { x with valid := false, gone := true } else x
        let s1 := s.setRcd { s.rcd with erase := .journal, eraseG := g, lastG := some g, exts := exts }
        let s2 := s1.jPut { ty := 2, own := true, group := g, a := if es = [] then 1 else first, b := last, erases := s.rcd.erases + 1,
                            secs := s.rcd.ns / 1000000000 }
        let s3 := (List.range 64).foldl (fun s m => s.markOvertake last m es) s2
        (s3.readOvertake last es).recPump)

/-- Row GROUP_ERASE_DONE: the erase ends, or a block fails (R323, R336). -/
def execGroupEraseDone (fail : Bool) (die : Fin 16) (t : Nat) (s : State) : Host.Outcome State Fault Refusal :=
  .next (if s.rcd.erase = .running then
    let s0 := s.at t
    let g := s0.rcd.eraseG
    let s1 := s0.setRcd { s0.rcd with erase := .idle, ahead := some g }
    (if fail then s1.blockFail g die 0 else s1).recEval.recPump
  else s)

/-! ### Marks and pins by command (R337, R339) -/

/-- The reply of a command that changes a mark or a pin: at once and not durable while recording is held, otherwise when the entry
is programmed (R337, R339). -/
def State.jCommand (s : State) (c : CmdPkt) (e : JEnt) (res : List Nat) : State × Option Reply :=
  if s.recHeld then (s.jPut e, some { (Reply.ok res) with notDur := true })
  else ((s.jPut { e with cmd := some (c, res) }), none)

/-- Both words of a 64-bit result. -/
def words64 (v : Nat) : List Nat := [v % 2 ^ 32, v / 2 ^ 32 % 2 ^ 32]

/-- The first record header of a valid extent that satisfies a test. -/
def Recorder.headerAt (r : Recorder) (p : RUnit → Bool) : Option Nat :=
  (r.units.find? fun u => u.kind == 0 && p u && r.valids.any fun x => x.eseq == u.pos / extBytes).map RUnit.pos

/-- MARK_SET (R337). -/
def cmdMarkSet : CmdBody := fun c s =>
  let m := bitsOf (c.arg 0) 0 6
  let mode := bitsOf (c.arg 0) 8 2
  if mode = 3 then (s, some (.err 0x0201 0))
  else
    let r := s.rcd
    let p := match mode with
      | 0 => r.wpos
      | 1 => (r.headerAt fun u => decide (c.arg64 1 ≤ u.sof)).getD r.wpos
      | _ => ((r.valids.find? fun x => x.fro.isSome).map fun x => x.eseq * extBytes + x.fro.getD 0).getD r.wpos
    let s1 := ((s.wrPair (MK.POS_LO_RPOS m) (MK.POS_HI_RPOS m) p).wr (MK.STAT_VALID m) 1).wr (MK.STAT_OVERTAKEN m) 0
    let s2 := (s1.wr (MK.STAT_TRIMMED m) 0).wr (MK.LOST m) 0
    s2.jCommand c (s2.markEnt m) (words64 p)

/-- MARK_CLEAR (R337). -/
def cmdMarkClear : CmdBody := fun c s =>
  if 64 ≤ c.arg 0 then (s, some (.err 0x0201 0))
  else
    let s1 := s.wr (MK.STAT_VALID (c.arg 0)) 0
    s1.jCommand c (s1.markEnt (c.arg 0)) []

/-- The PIN entry of a pin. -/
def State.pinEnt (s : State) (p : Nat) : JEnt :=
  { ty := 4, idx := p, flags := b2n (s.pinOn p), a := (s.pinRange p).1, b := (s.pinRange p).2 }

/-- PIN_SET (R339). -/
def cmdPinSet : CmdBody := fun c s =>
  let p := bitsOf (c.arg 0) 0 4
  let a := bitsOf (c.arg 0) 8 6
  let b := bitsOf (c.arg 0) 16 8
  let here := decide (b = 255)
  if 64 ≤ b ∧ here = false then (s, some (.err 0x0201 0))
  else
    let pa := s.markPos a
    let pb := if here then s.rcd.wpos else s.markPos b
    if s.pinOn p then (s, some (.err 0x0403 1))
    else if s.is (MK.STAT_VALID a) = false ∨ (here = false ∧ s.is (MK.STAT_VALID b) = false) then (s, some (.err 0x0403 2))
    else if pb < pa then (s, some (.err 0x0403 3))
    else if s.rcd.inServ * 7 / 8 < (s.pinned [(pa / extBytes, pb / extBytes)]).length then (s, some (.err 0x0403 4))
    else
      let s1 := (s.wrPair (PN.FIRST_LO_ESEQ p) (PN.FIRST_HI_ESEQ p) (pa / extBytes)).wrPair (PN.LAST_LO_ESEQ p) (PN.LAST_HI_ESEQ p)
        (pb / extBytes)
      let s2 := (s1.wr REC.PIN_VALID_VALID ((s1.rd REC.PIN_VALID_VALID).lor (2 ^ p))).recShow
      s2.jCommand c (s2.pinEnt p) (words64 (pa / extBytes) ++ words64 (pb / extBytes))

/-- PIN_CLEAR (R339). -/
def cmdPinClear : CmdBody := fun c s =>
  if 16 ≤ c.arg 0 then (s, some (.err 0x0201 0))
  else
    let p := c.arg 0
    let v := s.rd REC.PIN_VALID_VALID
    let s1 := (s.wr REC.PIN_VALID_VALID (if v.testBit p then v - 2 ^ p else v)).recShow
    s1.jCommand c (s1.pinEnt p) []

/-- Row MARK_SET. -/
def execMarkSet (p : Cmd) (t : Nat) (s : State) : Host.Outcome State Fault Refusal :=
  let s1 := s.svcCommand (cmdPkt p 0x0701 t) [0, 1, 2] false cmdMarkSet
  .next (if s.svcRunning then s1.recPump else s1)
/-- Row MARK_CLEAR. -/
def execMarkClear (p : Cmd) (t : Nat) (s : State) : Host.Outcome State Fault Refusal :=
  let s1 := s.svcCommand (cmdPkt p 0x0702 t) [0] false cmdMarkClear
  .next (if s.svcRunning then s1.recPump else s1)
/-- Row PIN_SET. -/
def execPinSet (p : Cmd) (t : Nat) (s : State) : Host.Outcome State Fault Refusal :=
  let s1 := s.svcCommand (cmdPkt p 0x0703 t) [0] false cmdPinSet
  .next (if s.svcRunning then s1.recPump else s1)
/-- Row PIN_CLEAR. -/
def execPinClear (p : Cmd) (t : Nat) (s : State) : Host.Outcome State Fault Refusal :=
  let s1 := s.svcCommand (cmdPkt p 0x0704 t) [0] false cmdPinClear
  .next (if s.svcRunning then s1.recPump else s1)

end Sys2Proof.Machine
end

