-- ==== Sys2Proof/Machine/Readout.lean ====
section
/-! DEFINITION. Reading the ring back, recovery at start-up, and the control bits of the recorder (R340 to R346). -/

namespace Sys2Proof.Machine

/-! ### Reading back (R340 to R343) -/

/-- READ_START: credits already taken are held to the MAXB of the readout (R290, R340, R341). -/
def cmdReadStart : CmdBody := fun c s =>
  let q := bitsOf (c.arg 0) 0 6
  if 62 ≤ q then (s, some (.err 0x0201 0))
  else if s.rcd.read.isSome then (s, some (.err 0x0301 1))
  else if s.cfg (DQ.CFG_EN q) = 0 ∨ base64 (s.cfg (DQ.DRING_LO_BASE q)) (s.cfg (DQ.DRING_HI_BASE q)) = 0 ∨
      base64 (s.cfg (DQ.CRING_LO_BASE q)) (s.cfg (DQ.CRING_HI_BASE q)) = 0 then (s, some (.err 0x0301 2))
  else if s.rd (DQ.STAT_STATE q) ≠ 0 then (s, some (.err 0x0301 3))
  else
    let p := if (c.arg 0).testBit 8 then c.arg64 1 else s.markPos (bitsOf (c.arg 0) 16 6)
    let rd : RRead := { queue := q, mask := c.arg 3 % 65536, maxb := c.arg 4, rate := c.arg 5, follow := (c.arg 0).testBit 24,
                        pos := p, lim := s.rcd.valids.getLast?.map RExt.eseq, at_ := s.now }
    let s1 := ((s.setRcd { s.rcd with read := some rd }).wr REC.RD_STAT_QUEUE q).wr REC.RD_STAT_STATE 1
    let s2 := ((s1.wrPair REC.RD_POS_LO_RPOS REC.RD_POS_HI_RPOS p).wrPair REC.RD_LOST_LO_LOST REC.RD_LOST_HI_LOST 0).wr
      REC.RD_NREC_NREC 0
    ((s2.retestCredits q).wmEval, some (.ok []))

/-- READ_STOP: the readout ends at the item boundary (R341). -/
def cmdReadStop : CmdBody := fun _ s => (s.readEnd, some (.ok []))

/-- Row READ_START. -/
def execReadStart (p : Cmd) (t : Nat) (s : State) : Host.Outcome State Fault Refusal :=
  .next (s.svcCommand (cmdPkt p 0x0705 t) [0, 1, 2, 3, 4, 5] false cmdReadStart)
/-- Row READ_STOP. -/
def execReadStop (p : Cmd) (t : Nat) (s : State) : Host.Outcome State Fault Refusal :=
  .next (s.svcCommand (cmdPkt p 0x0706 t) [] false cmdReadStop)

/-- Every extent that a unit lies in is valid. -/
def Recorder.readable (r : Recorder) (u : RUnit) : Bool :=
  let ok (e : Nat) : Bool := r.valids.any fun x => x.eseq == e
  ok u.ext && ok u.last

/-- A readout may deliver a unit: it lies in valid extents and, without FOLLOW, begins no later than in the newest extent that was
valid at READ_START (R341). -/
def Recorder.inReach (r : Recorder) (c : RRead) (u : RUnit) : Bool :=
  r.readable u && (c.follow || c.lim.elim false fun e => decide (u.ext ≤ e))

/-- The units of a record after its header. -/
def Recorder.parts (r : Recorder) (h : RUnit) : List RUnit :=
  r.units.filter fun u => u.rseq == h.rseq && (u.kind == 1 || u.kind == 2)

/-- Nothing more of a record will become readable. -/
def Recorder.settled (r : Recorder) (h : RUnit) : Bool :=
  let ps := r.parts h
  (ps.any (fun u => u.kind == 2) || r.cuts.contains h.rseq) &&
  ps.all fun u => r.readable u || !(r.exts.any fun x => x.eseq == u.last && !x.gone && !x.valid)

/-- The next unit that the cursor delivers: the first header or gap unit of an input in the mask. The cursor starts at the first record
header at or after the start point (R340, R341). -/
def Recorder.nextRead (r : Recorder) (c : RRead) : Option RUnit :=
  let start := if c.begun then some c.pos
    else (r.units.find? fun u => u.kind == 0 && decide (c.pos ≤ u.pos) && r.inReach c u).map RUnit.pos
  start.bind fun p => r.units.find? fun u => (u.kind == 0 || u.kind == 3) && decide (p ≤ u.pos) && c.mask.testBit u.input && r.inReach c u

/-- The bytes of a unit with those on uncorrectable pages zero (R343). -/
def unitBytes (bad : List Nat) (u : RUnit) : List Nat :=
  if bad = [] then u.bytes
  else (List.range u.bytes.length).map fun i => if bad.contains ((u.pos + i) / 16384) then 0 else u.bytes.getD i 0

/-- The cursor moves, with bytes skipped. -/
def State.readMove (s : State) (c : RRead) (pos skip lost : Nat) : State :=
  ((s.setRcd { s.rcd with read := some { c with pos := pos, skip := skip, begun := true } }).wrPair REC.RD_POS_LO_RPOS REC.RD_POS_HI_RPOS pos).wrPair
    REC.RD_LOST_LO_LOST REC.RD_LOST_HI_LOST (s.rd64 REC.RD_LOST_LO_LOST REC.RD_LOST_HI_LOST + lost)

/-- One item goes to the host in the next credit of the queue (R340). -/
def State.readPut (s : State) (c : RRead) (u : RUnit) (bad : List Nat) (cr : Nat × Nat × Nat) : State :=
  let head := if u.kind = 3 then unitBytes bad u else (unitBytes bad u).take 24 ++ leBytes 8 c.skip
  let ps := (s.rcd.parts u).filter fun p => s.rcd.inReach c p
  let trail := ps.find? fun p => p.kind == 2
  let whole := u.kind == 3 || ((s.rcd.parts u).all fun p => s.rcd.inReach c p) && trail.isSome
  let body := if u.kind = 3 then [] else (ps.filter fun p => p.kind == 1).flatMap fun p => unitBytes bad p
  let room := c.maxb - 160
  let fits := decide (body.length ≤ room)
  let tag := match (if u.kind = 3 then none else trail) with
    | some p => (unitBytes bad p).drop 8
    | none => List.replicate 128 0
  let out := tag ++ head ++ body.take room
  let q := c.queue
  let s1 := (s.setDq q { s.dq q with credits := (s.dq q).credits.drop 1 }).hostWrite cr.2.1 out
  let s2 := s1.complete q { desc := cr.1, len := out.length, status := if whole ∧ fits then 0 else 2,
                            bits := if u.kind ≠ 3 ∧ trail.isSome then 2 else 0 }
  let s3 := (s2.dqShow q).wr REC.RD_NREC_NREC (s.rd REC.RD_NREC_NREC + 1)
  (s3.wr REC.RD_STAT_STATE 1).readMove { c with at_ := s.now + out.length * 1000 / c.rate } (u.pos + u.size) 0 0

/-- Something that R305 orders waits for the host link: a chunk of an item, a completion of DQ62 or DQ63, an event record or a command
completion. A readout goes after all of it (R341). -/
def State.hostBusy (s : State) : Bool :=
  (s.dlv.queues.any fun e => !(s.dlvCan e.1).isEmpty) ||
  (([62, 63] : List Nat).any fun q => (s.dq q).items.any fun i => i.rcd.isSome) ||
  (s.rd DLV.EVR_CFG_EN == 1 && !s.events.out.isEmpty) || !s.cmd.outbox.isEmpty

/-- Row READOUT_ITEM: while no other traffic waits, the cursor delivers one record or gap unit, skips one whose header cannot be read, waits, or reaches its end;
`pages` are the NAND pages read that were not clean (R272, R340 to R343). -/
def execReadoutItem (pages : List NandPage) (t : Nat) (s : State) : Host.Outcome State Fault Refusal :=
  .next (match s.rcd.read with
    | none => s
    | some c =>
      match s.rcd.nextRead c with
      | none => if c.follow then s.wr REC.RD_STAT_STATE 2 else (s.at t).readEnd
      | some u =>
        if s.hostUp = false ∨ s.hostBusy ∨ t < c.at_ ∨ c.rate = 0 then s
        else if c.follow ∧ u.kind = 0 ∧ s.rcd.settled u = false then s.wr REC.RD_STAT_STATE 2
        else
          match (s.dq c.queue).credits with
          | [] => s
          | cr :: _ =>
            let s0 := pages.foldl (fun s p => s.nandRead (p.page % 16 / 2) p) (s.at t)
            let first := u.pos / 16384
            let ue := s0.rcd.injUe
            let s1 := s0.setRcd { s0.rcd with injUe := false }
            let bad := ((pages.filter fun p => p.stage == 0).map NandPage.page) ++ (if ue then [first] else [])
            let c1 := (s1.rcd.read.getD c)
            if u.kind = 0 ∧ (bad.contains first ∨ bad.contains ((u.pos + 31) / 16384)) then
              let n := s1.rcd.after (u.pos / extBytes)
              (s1.readMove c1 n (c1.skip + (n - c1.pos)) (n - c1.pos)).raise 0x1106 c.queue
                (leBytes 8 (u.pos / extBytes) ++ leBytes 4 (n - c1.pos))
            else s1.readPut c1 u bad cr)

/-! ### Recovery (R345) -/

/-- What a reset or a loss of supply leaves of the recorder: the ring, the journal and the blocks; a journal copy whose program was
cut short is not intact (R331, R333, R345). -/
def Recorder.down (r : Recorder) : Recorder :=
  let r1 := match r.jprog with
    | some j => if j.run then r.putCopy j.slot j.done none else r
    | none => r
  { units := r1.units, exts := r1.exts, slots := r1.slots, retired := r1.retired, spares := r1.spares, wpos := r1.wpos,
    rseq := r1.rseq, cuts := r1.cuts, low := r1.low, at_ := r1.at_ }

/-- The entries of all slots that count, oldest GENERATION first. -/
def Recorder.entries (r : Recorder) : List (Nat × JEnt) :=
  let pages := r.slots.filterMap fun c => slotPage c.2
  let rec ins (p : JPage) : List JPage → List JPage
    | [] => [p]
    | q :: qs => if p.gen < q.gen then p :: q :: qs else q :: ins p qs
  (pages.foldl (fun l p => ins p l) []).flatMap fun p => p.ents.map fun e => (p.gen, e)

/-- The last entry of a list that satisfies a test. -/
def lastEnt (es : List (Nat × JEnt)) (p : JEnt → Bool) : Option JEnt := (es.reverse.find? fun e => p e.2).map Prod.snd

/-- One slot is compared (R345, R391). -/
def State.slotCheck (s : State) (k : Nat) (c : List (Option JPage)) : State :=
  let good := c.filterMap id
  if good = [] then (s.addSat REC.CNT_JOURNAL 1).raise 0x110A k []
  else if (slotPage c).isNone then
    (s.addSat REC.CNT_JOURNAL 1).raise 0x110B k (leBytes 4 (good.foldl (fun g p => max g p.gen) 0))
  else s

/-- An extent after recovery: valid with a live COMMIT entry, otherwise dead; one of which no page was to be programmed is not in the
ring (R345). -/
def recovered (es : List (Nat × JEnt)) (x : RExt) : Option RExt :=
  let after := es.reverse.takeWhile fun e => !(e.2.ty == 1 && e.2.a == x.eseq)
  let hit := es.any fun e => e.2.ty == 1 && e.2.a == x.eseq
  if x.place.isNone then none
  else if hit && !(after.any fun e => e.2.ty == 2 && decide (e.2.a ≤ x.eseq ∧ x.eseq ≤ e.2.b)) then
    some { x with valid := true, gone := false, closed := true, pages := 64, full := some 0 }
  else some { x with valid := false, gone := true }

/-- A mark is restored; one beyond the last valid extent is trimmed (R345). -/
def State.markRestore (s : State) (end_ m : Nat) (e : JEnt) : State × Nat :=
  let lapped := decide (end_ < e.a) && e.flags.testBit 0
  let s1 := (s.wrPair (MK.POS_LO_RPOS m) (MK.POS_HI_RPOS m) (if lapped then end_ else e.a)).wr (MK.LOST m)
    (min (2 ^ 32 - 1) (if lapped then e.a - end_ else e.b))
  (((s1.wr (MK.STAT_VALID m) (e.flags % 2)).wr (MK.STAT_OVERTAKEN m) (e.flags / 2 % 2)).wr (MK.STAT_TRIMMED m)
    (if lapped then 1 else e.flags / 4 % 2), b2n lapped)

/-- A pin is restored. -/
def State.pinRestore (s : State) (p : Nat) (e : JEnt) : State :=
  ((s.wrPair (PN.FIRST_LO_ESEQ p) (PN.FIRST_HI_ESEQ p) e.a).wrPair (PN.LAST_LO_ESEQ p) (PN.LAST_HI_ESEQ p) e.b).wr REC.PIN_VALID_VALID
    (s.rd REC.PIN_VALID_VALID + if e.flags.testBit 0 then 2 ^ p else 0)

/-- Row RECORDER_RECOVERY: the ring is rebuilt from the journal; page 3 x slot + copy of `pages` was not read clean (R345). -/
def execRecorderRecovery (pages : List NandPage) (t : Nat) (s : State) : Host.Outcome State Fault Refusal :=
  .next (if s.rd REC.STAT_STATE ≠ 1 then s
    else
      let s0 := pages.foldl (fun s p => s.nandRead (([0, 2, 5] : List Nat).getD (p.page % 3) 0) p) (s.at t)
      let r0 := (pages.filter fun p => p.stage == 0).foldl (fun (r : Recorder) p => r.putCopy (p.page / 3) (p.page % 3) none)
        s0.rcd.down
      let s1 := r0.slots.foldl (fun s c => s.slotCheck c.1 c.2) (s0.wr REC.CNT_JOURNAL 0)
      let es := r0.entries
      let exts := r0.exts.filterMap (recovered es)
      let keep := exts.filter RExt.valid
      let tot := lastEnt es fun e => e.ty == 2
      let top := r0.slots.foldl (fun (a : Nat × Nat) c => match slotPage c.2 with
        | some p => if a.1 < p.gen + 1 then (p.gen + 1, c.1 + 1) else a
        | none => a) (0, 0)
      let newest := keep.getLast?
      let r1 := { r0 with exts := exts, erases := tot.elim 0 JEnt.erases, ns := 1000000000 * tot.elim 0 JEnt.secs, at_ := t,
                          units := r0.units.filter fun u => keep.any fun x => x.eseq == u.ext || x.eseq == u.last,
                          wpos := (r0.wpos + extBytes - 1) / extBytes * extBytes, jgen := top.1, jslot := top.2 % 2048,
                          lastG := newest.bind fun x => x.place.map Prod.fst }
      let cutAll := (r1.units.filter fun u => u.kind == 0 && !(r1.parts u).any fun p => p.kind == 2).map RUnit.rseq
      let s2 := s1.setRcd { r1 with cuts := cutAll }
      let end_ := newest.elim 0 fun x => (x.eseq + 1) * extBytes
      let m := (List.range 64).foldl (fun (a : State × Nat) k => match lastEnt es fun e => e.ty == 3 && e.idx == k with
        | some e => let b := a.1.markRestore end_ k e; (b.1, a.2 + b.2)
        | none => a) (s2, 0)
      let s3 := (List.range 16).foldl (fun s k => match lastEnt es fun e => e.ty == 4 && e.idx == k with
        | some e => s.pinRestore k e
        | none => s) (m.1.wr REC.PIN_VALID_VALID 0)
      let s4 := (s3.raise 0x110C 0 (leBytes 4 keep.length ++ leBytes 4 (exts.length - keep.length) ++ leBytes 4 m.2)).wr
        REC.STAT_STATE (if s3.on REC.CFG_EN then 2 else 0)
      s4.recEval.recPump)

/-! ### Control and injection (R346) -/

/-- Row REC_CLR_CNT. -/
def execRecClrCnt (s : State) : Host.Outcome State Fault Refusal :=
  .next ((List.range 16).foldl (fun s n => (s.wr (IN.REC n) 0).wr (IN.DROP n) 0)
    ((s.wr REC.CNT_PROG_FAIL 0).wr REC.CNT_JOURNAL 0))
/-- Row REC_INJ_JSPLIT. -/
def execRecInjJsplit (s : State) : Host.Outcome State Fault Refusal :=
  .next (if s.injLocked then s else s.setRcd { s.rcd with injSplit := true })
/-- Row REC_INJ_READ_UE. -/
def execRecInjReadUe (s : State) : Host.Outcome State Fault Refusal :=
  .next (if s.injLocked then s else s.setRcd { s.rcd with injUe := true })
/-- Row REC_INJ_PROGFAIL. -/
def execRecInjProgfail (s : State) : Host.Outcome State Fault Refusal :=
  .next (if s.injLocked then s else s.setRcd { s.rcd with injFail := true })

end Sys2Proof.Machine
end

