-- ==== Sys2Proof/Machine/NetTime.lean ====
section
/-! DEFINITION. The Ethernet ports, IEEE 802.1AS messages and the time unit (R348 to R360, R495). -/

namespace Sys2Proof.Machine

/-- An Ethernet port beside its registers. -/
def State.eth (s : State) (n : Nat) : EthPort := AMap.get {} s.time.ports n

/-- Change an Ethernet port. -/
def State.setEth (s : State) (n : Nat) (p : EthPort) : State :=
  { s with time := { s.time with ports := AMap.set s.time.ports n p } }

/-- Change the time unit. -/
def State.setTime (s : State) (u : TimeUnit) : State := { s with time := u }

/-- The MAC of a port runs: enabled, linked, in RUN or HOLD (R349, R355). -/
def State.ethUp (s : State) (n : Nat) : Bool :=
  s.is (ETH.CFG_EN n) && s.is (ETH.STAT_LINK n) && s.evAwake

/-- An interval given as a signed log2 of seconds, in ns. -/
def logNs (v : Nat) : Nat := if v % 256 < 128 then 1000000000 * 2 ^ (v % 256) else 1000000000 / 2 ^ (256 - v % 256)

/-- Receive latency of the active rate (R352). -/
def State.rxLat (s : State) (n : Nat) : Nat :=
  match s.rd (ETH.STAT_RATE_ACT n) with
  | 1 => s.rd (ETH.LAT25_RX n)
  | 2 => s.rd (ETH.LAT5_RX n)
  | _ => s.rd (ETH.LAT10_RX n)

/-- Transmit latency of the active rate (R352). -/
def State.txLat (s : State) (n : Nat) : Nat :=
  match s.rd (ETH.STAT_RATE_ACT n) with
  | 1 => s.rd (ETH.LAT25_TX n)
  | 2 => s.rd (ETH.LAT5_TX n)
  | _ => s.rd (ETH.LAT10_TX n)

/-- The receive stamp of an event message that passes the MAC at `t` (R352). -/
def State.rxStamp (s : State) (n t : Nat) : Nat := uwrap 64 ((s.devAt t : Int) - s.rxLat n)

/-- The transmit stamp of an event message that passes the MAC at `t` (R352). -/
def State.txStamp (s : State) (n t : Nat) : Nat := uwrap 64 ((s.devAt t : Int) + s.txLat n)

/-- An event message is received: its stamp shows, and it counts. -/
def State.ethEvent (s : State) (n t : Nat) : State :=
  (s.wr (ETH.RXSTAMP_TIME n) (s.rxStamp n t % 2 ^ 32)).addSat (ETH.CNT0_RX_PTP n) 1

/-- A 32-bit stamp extends to 64 bits against a reference that lies within 2^31 ns of the stamped instant (R361). -/
def extendStamp (s r : Nat) : Nat :=
  let d : Nat := (s + 2 ^ 32 - r % 2 ^ 32) % 2 ^ 32
  uwrap 64 ((r : Int) + (if 2 ^ 31 ≤ d then (d : Int) - (2 ^ 32 : Nat) else (d : Int)))

/-! ### The time unit (R355 to R360) -/

/-- The preferred port, if time is disciplined at all (R359). -/
def State.timSrc (s : State) : Option Nat := if s.rd TIM.CFG_SRC < 2 then some (s.rd TIM.CFG_SRC) else none

/-- The grandmaster in use, TIM_GM. -/
def State.timGm (s : State) : Nat := s.rd TIM.GM_LO_GM + 2 ^ 32 * s.rd TIM.GM_HI_GM

/-- Set TIM_GM. -/
def State.setGm (s : State) (g : Nat) : State := s.wrPair TIM.GM_LO_GM TIM.GM_HI_GM g

/-- Time spent in HOLDOVER in ms. -/
def State.holdMs (s : State) : Nat := min (2 ^ 32 - 1) ((s.now - s.time.holdAt) / 1000000)

/-- The unit enters HOLDOVER with a cause (R358). -/
def State.timHold (s : State) (cause : Nat) : State :=
  if s.rd TIM.STAT_STATE = 3 then s
  else (((s.setTime { s.time with holdAt := s.now, near := 0, far := 0 }).wr TIM.STAT_STATE 3).wr TIM.HOLD_MS 0).raise 0x0602 0
    (leBytes 4 cause)

/-- The unit leaves HOLDOVER, if it is there, for another state (R358). -/
def State.timLeave (s : State) (port st : Nat) : State :=
  let s1 := if s.rd TIM.STAT_STATE = 3 then (s.raise 0x0603 port (leBytes 4 s.holdMs)).wr TIM.HOLD_MS 0 else s
  (s1.setTime { s1.time with near := 0, far := 0 }).wr TIM.STAT_STATE st

/-- The management tick shows the time spent in HOLDOVER (R358). -/
def State.timTick (s : State) : State := if s.rd TIM.STAT_STATE = 3 then s.wr TIM.HOLD_MS s.holdMs else s

/-- A TIME-mode axis follows a step of device time (R49); a step through the end of the position's range wraps it (R51). -/
def State.axisTimeStep (s : State) (step : Int) (n : Nat) : State :=
  if s.comb n ≠ 5 then s
  else
    let s1 := (s.captureCentres n s.now).axisWrap s.now n
    let add := (step * 65536).tdiv (max (s.cfg (AX.TIMEUNIT n)) 1)
    let a := s1.axis n
    let pos := a.pos + BitVec.ofInt 64 add
    let s2 := s1.setAxis n { a with pos := pos, wraps := (pos.toInt + s1.travel n s1.now + 2 ^ 63) / 2 ^ 64 }
    let s3 := if (s2.posAt n s2.now).toInt = (s1.posAt n s1.now).toInt + add then s2 else (s2.set1 (AX.STAT_WRAPPED n)).raise 0x040C n []
    (s3.raise 0x040E n []).axisChanged n s.now

/-- Device time steps (R356, R360): readings change; PROMISED and ADMIT of items in flight move with it; nothing else does. -/
def State.timStep (s : State) (step : Int) : State :=
  let old := s.dev
  let s1 := { s with timeOfs := s.timeOfs + step }
  let s2 := (s1.wrPair TIM.STEP_OLD_LO_OLD TIM.STEP_OLD_HI_OLD old).wrPair TIM.STEP_NEW_LO_NEW TIM.STEP_NEW_HI_NEW s1.dev
  let s3 := s2.wr TIM.STAT_STEPGEN (s2.rd TIM.STAT_STEPGEN + 1)
  let mv (x : Nat) : Nat := uwrap 64 ((x : Int) + step)
  let queues := s3.dlv.queues.map fun e => (e.1, { e.2 with items := e.2.items.map fun i =>
    { i with prom := i.prom.map mv, tag := { i.tag with admitted := mv i.tag.admitted } } })
  let s4 := { s3 with dlv := { s3.dlv with queues := queues } }
  (List.range 8).foldl (fun s n => s.axisTimeStep step n) s4

/-- RATE from a Sync (R357): rate ratio of the grandmaster to the uncorrected reference from `cum` (2^-41) and the neighbour rate
ratio (2^-16 ppb), and the phase term of an offset; rounded and clamped. -/
def State.timRate (s : State) (n : Nat) (cum : Int) (o : Int) : State :=
  let nrr := sint 32 (s.rd (ETH.NRR n))
  let tph := max 1 (s.rd TIM.SERVO_TPH)
  let maxadj : Int := s.rd TIM.SERVO2_MAXADJ
  -- everything in units of 2^-16 ppb over 2^41 x TPH
  let den : Nat := 2 ^ 41 * tph
  let freq : Int := (cum * 1000000000 * 65536 + nrr * 2 ^ 41 + cum * nrr) * tph
  let lim : Int := maxadj * 65536 * den
  let phase : Int := max (-lim) (min lim (o * 100 * 65536 * 2 ^ 41))
  let r := roundDiv (freq - phase) den
  let c := max (-2147483648) (min 2147483647 r)
  let s1 := (s.wr TIM.RATE (uwrap 32 c)).wrB TIM.STAT_CLAMP (decide (c ≠ r))
  if c = r then s1 else s1.raise 0x0606 0 (leBytes 4 (fit32 (roundDiv r 65536)))

/-- The port has named a grandmaster other than the one in use. -/
def State.otherGm (s : State) (n : Nat) : Bool :=
  (s.eth n).isNew || (s.eth n).gm.elim false fun g => g != s.timGm

/-- A port serves as a time source: slave role, asCapable, running (R351, R359). -/
def State.timSource (s : State) (n : Nat) : Bool :=
  s.ethUp n && s.rd (ETH.STAT_ROLE_ACT n) == 1 && s.is (ETH.STAT_ASCAP n)

/-- A port neither accepts Syncs in the slave role nor has its last one in time (R359). -/
def State.syncsGone (s : State) (p : Nat) : Bool := (s.eth p).lost || (s.eth p).syncAt.isNone || !s.timSource p

/-- Time follows a Sync of port `n` (R359): the preferred port; the other one where the preferred one has lost its Syncs and the
grandmaster is the same. -/
def State.timFollows (s : State) (n : Nat) : Bool :=
  match s.timSrc with
  | none => false
  | some p => n == p || (s.syncsGone p && s.rd TIM.STAT_STATE != 0 && !s.otherGm n)

/-- The port in use changes (R359). -/
def State.timPort (s : State) (n : Nat) : State :=
  let was := s.rd TIM.STAT_PORT
  let s1 := s.wr TIM.STAT_PORT n
  if was = n ∨ was = 3 then s1 else s1.raise 0x0605 n []

/-- A Sync with receive stamp `stamp` is accepted with its grandmaster time (R355 to R359). -/
def State.timSync (s : State) (n stamp : Nat) (g : GmTime) : State :=
  let s0 := s.setEth n { s.eth n with syncAt := some s.now, lost := false }
  let gt : Int := (g.origin : Int) + g.corr + (s.rd (ETH.PDELAY_DELAY n) : Nat)
  let o : Int := (stamp : Int) - gt
  if s0.timFollows n = false then s0
  else if s0.rd TIM.STAT_STATE = 0 then
    let s1 := (s0.wr TIM.STAT_PORT n).setGm ((s0.eth n).gm.getD s0.timGm)
    let s2 := (s1.setEth n { s1.eth n with isNew := false }).timRate n g.cum 0
    let s3 := s2.timStep (-o)
    (s3.timLeave n 1).raise 0x0601 n (leBytes 8 (uwrap 64 (-o)))
  else if s0.rd TIM.STAT_STATE = 4 ∨ s0.otherGm n then s0
  else
    let s1 := s0.timPort n
    let s2 := (s1.wr TIM.OFFSET_O (uwrap 32 (max (-2147483648) (min 2147483647 o)))).timRate n g.cum o
    if s2.rd TIM.STAT_STATE = 3 then s2.timLeave n 1
    else
      let small := decide (o.natAbs ≤ s2.rd TIM.SERVO_LOCKTH)
      let near := if small then s2.time.near + 1 else 0
      let far := if small then 0 else s2.time.far + 1
      let s3 := s2.setTime { s2.time with near := near, far := far }
      if s3.rd TIM.STAT_STATE = 1 ∧ 8 ≤ near then (s3.wr TIM.STAT_STATE 2).raise 0x0607 n []
      else if s3.rd TIM.STAT_STATE = 2 ∧ 8 ≤ far then s3.wr TIM.STAT_STATE 1
      else s3

/-! ### Roles and the best master clock algorithm (R350, R355) -/

/-- A priority vector: priority1, clock quality, grandmaster and the path to it, compared as one number. -/
def prioVec (p1 quality gm path : Nat) : Nat := ((p1 * 2 ^ 40 + quality) * 2 ^ 64 + gm) * 2 ^ 96 + path

/-- The vector the module announces of itself. -/
def State.ownVec (s : State) (n : Nat) : Nat := prioVec (s.rd (ETH.CFG_PRIO1 n)) ownQuality.toNat (factoryEui % 2 ^ 64) 0

/-- The role of a port: static, or by the best master clock algorithm. -/
def State.roleOf (s : State) (n : Nat) : Nat :=
  if s.is (ETH.CFG_EN n) = false then 0
  else if s.is (ETH.CFG_STATIC n) then (if s.rd (ETH.CFG_ROLE n) = 3 then 0 else s.rd (ETH.CFG_ROLE n))
  else if s.is (ETH.CFG_GMCAP n) ∧ (s.eth n).vec.elim true (fun v => decide (s.ownVec n < v)) then 2
  else 1

/-- Roles and grandmaster are selected again; with SRC 2 the unit is in FREE or HOLDOVER (R350, R355, R358, R359). -/
def State.ethReselect (s : State) : State :=
  let s1 := (s.wr (ETH.STAT_ROLE_ACT 0) (s.roleOf 0)).wr (ETH.STAT_ROLE_ACT 1) (s.roleOf 1)
  let master := s1.timSrc.isSome && decide ((s1.rd (ETH.STAT_ROLE_ACT 0) = 2 ∨ s1.rd (ETH.STAT_ROLE_ACT 1) = 2) ∧
    s1.rd (ETH.STAT_ROLE_ACT 0) ≠ 1 ∧ s1.rd (ETH.STAT_ROLE_ACT 1) ≠ 1)
  if master ∧ s1.rd TIM.STAT_STATE ≠ 4 then
    ((s1.timLeave 3 4).wr TIM.STAT_PORT 3).setGm (factoryEui % 2 ^ 64)
  else if master = false ∧ s1.rd TIM.STAT_STATE = 4 then s1.timHold 1
  else if s1.timSrc = none ∧ (s1.rd TIM.STAT_STATE = 1 ∨ s1.rd TIM.STAT_STATE = 2) then s1.timHold 0
  else s1

/-- A grandmaster other than the one in use is named on the port in use (R358). -/
def State.gmCheck (s : State) (n : Nat) : State :=
  if s.otherGm n ∧ s.rd TIM.STAT_PORT = n ∧ (s.rd TIM.STAT_STATE = 1 ∨ s.rd TIM.STAT_STATE = 2) then s.timHold 1 else s

/-! ### Links and frames (R348, R349) -/

/-- A port is asCapable, or not (R351). -/
def State.setAsCap (s : State) (n : Nat) (b : Bool) : State :=
  if s.is (ETH.STAT_ASCAP n) = b then s else (s.wrB (ETH.STAT_ASCAP n) b).raise 0x1204 n (leBytes 4 (b2n b))

/-- ETHn_CFG is written: a port that is not enabled is down (R348, R351, R365; DEDUCED, log 37); roles are selected again. -/
def State.ethConfig (s : State) (n : Nat) : State :=
  if s.is (ETH.CFG_EN n) then s.ethReselect
  else
    let s1 := if s.is (ETH.STAT_LINK n) then ((s.wr (ETH.STAT_RATE_ACT n) 0).wr (ETH.STAT_LINK n) 0).raise 0x1201 n (leBytes 4 0) else s
    ((s1.setEth n { s1.eth n with req := none, missed := 0, pend := none }).setAsCap n false).ethReselect

/-- Row ETH_LINK: auto-negotiation ends: 0 down, 1 to 3 the rates, 4 a rate or duplex that is not supported (R348). -/
def execEthLink (n : Fin 2) (rate : Fin 5) (t : Nat) (s : State) : Host.Outcome State Fault Refusal :=
  .next (if s.is (ETH.CFG_EN n) = false ∨ s.evAwake = false then s
    else
      let s0 := s.at t
      let r := if rate.val = 4 then 0 else rate.val
      let was := s0.is (ETH.STAT_LINK n)
      let s1 := (s0.wr (ETH.STAT_RATE_ACT n) r).wrB (ETH.STAT_LINK n) (r != 0)
      let s2 := if was ≠ (r != 0) then s1.raise 0x1201 n (leBytes 4 r) else s1
      let s3 := if r = 0 then s2.setAsCap n false else s2
      if rate.val = 4 then s3.raise 0x1202 n [] else s3)

/-- Row ETH_FRAME_DISCARD: a frame that is no gPTP frame is counted (R349). -/
def execEthFrameDiscard (n : Fin 2) (t : Nat) (s : State) : Host.Outcome State Fault Refusal :=
  .next (if s.ethUp n then (s.at t).addSat (ETH.CNT0_RX_DISCARD n) 1 else s)

/-- A message of the port's domain reaches a running port; one of another domain is not taken. -/
def State.ptpIn (s : State) (n : Nat) (dom : BitVec 7) : Bool := s.ethUp n && s.rd (ETH.CFG_DOMAIN n) == dom.toNat

/-- Row SYNC: a one-step Sync is processed; a two-step Sync waits for its Follow_Up (R350, R351, R356, R357). -/
def execSync (n : Fin 2) (dom : BitVec 7) (seq : BitVec 16) (log : Byte) (twoStep : Bool) (g : GmTime) (t : Nat)
    (s : State) : Host.Outcome State Fault Refusal :=
  .next (if s.ptpIn n dom = false then s
    else
      let s1 := (s.at t).ethEvent n t
      if s1.timSource n = false then s1
      else
        let s2 := s1.wr (ETH.INTV_SYNCLOG n) log.toNat
        if twoStep then s2.setEth n { s2.eth n with pend := some (seq.toNat, s2.rxStamp n t, g.corr) }
        else s2.timSync n (s2.rxStamp n t) g)

/-- Row FOLLOW_UP: a Follow_Up completes a two-step Sync (R350, R357). -/
def execFollowUp (n : Fin 2) (dom : BitVec 7) (seq : BitVec 16) (g : GmTime) (t : Nat) (s : State) : Host.Outcome State Fault Refusal :=
  .next (if s.ptpIn n dom = false then s
    else
      let s1 := (s.at t).addSat (ETH.CNT0_RX_PTP n) 1
      match (s1.eth n).pend with
      | some (q, stamp, corr) =>
        if q = seq.toNat ∧ s1.timSource n then
          (s1.setEth n { s1.eth n with pend := none }).timSync n stamp { g with corr := g.corr + corr }
        else s1
      | none => s1)

/-- Row ANNOUNCE: an Announce feeds the best master clock algorithm, or with STATIC only names the grandmaster; an armed GMCHG makes it
name a new one (R350, R358, R365). -/
def execAnnounce (n : Fin 2) (a : AnnounceMsg) (t : Nat) (s : State) : Host.Outcome State Fault Refusal :=
  .next (if s.ptpIn n a.dom = false then s
    else
      let s1 := (s.at t).addSat (ETH.CNT0_RX_PTP n) 1
      let inj := s1.time.injGm
      let gm := if inj then s1.free 64 else a.gm.toNat
      let p := { s1.eth n with
        vec := if s1.is (ETH.CFG_STATIC n) then none else some (prioVec a.prio1.toNat a.quality.toNat gm a.steps.toNat),
        gm := some gm, isNew := inj || (s1.eth n).isNew, annAt := s1.now, annLog := a.log.toNat }
      let s2 := ((if inj then s1.used else s1).setTime { s1.time with injGm := false }).setEth n p
      s2.ethReselect.gmCheck n)

/-- Row ANNOUNCE_RECEIPT_TIMEOUT: no Announce within ANNTO intervals (R350). -/
def execAnnounceReceiptTimeout (n : Fin 2) (t : Nat) (s : State) : Host.Outcome State Fault Refusal :=
  let p := s.eth n
  .next (if s.is (ETH.CFG_STATIC n) = false ∧ p.vec.isSome ∧ p.annAt + max 1 (s.rd (ETH.INTV_ANNTO n)) * logNs p.annLog ≤ t then
    ((s.at t).setEth n { p with vec := none, gm := none, isNew := false }).ethReselect
  else s)

/-! ### Peer delay (R350, R351) -/

/-- Row PDELAY_REQ: a request is answered, the response leaving at `out` (R350, R352). -/
def execPdelayReq (n : Fin 2) (dom : BitVec 7) (seq : BitVec 16) (out t : Nat) (s : State) : Host.Outcome State Fault Refusal :=
  .next (if s.ptpIn n dom = false ∨ out < t then s
    else
      let s1 := (s.at t).ethEvent n t
      let tx := s1.txStamp n out
      (s1.wr (ETH.TXSTAMP_TIME n) (tx % 2 ^ 32)).setEth n { s1.eth n with sent := some (3, seq.toNat, tx) })

/-- The exchange in progress ended without a response (R351). -/
def State.pdMiss (s : State) (n : Nat) : State :=
  let p := s.eth n
  let s1 := s.setEth n { p with req := none, missed := p.missed + 1 }
  if p.missed + 1 = 3 then ((s1.addSat (ETH.CNT1_PDELAY_LOST n) 1).raise 0x1203 n []).setAsCap n false else s1

/-- Row PDELAY_REQ_SEND: a request leaves at each interval; the one before may be unanswered (R350, R351). -/
def execPdelayReqSend (n : Fin 2) (t : Nat) (s : State) : Host.Outcome State Fault Refusal :=
  let p := s.eth n
  let gap := logNs (p.pdLog.getD (s.rd (ETH.INTV_PDLOG n)))
  .next (if s.ethUp n = false ∨ p.reqAt.elim false (fun a => decide (t < a + gap)) then s
    else
      let s0 := s.at t
      let s1 := if p.req.isSome then s0.pdMiss n else s0
      let tx := s1.txStamp n t
      let q := s1.eth n
      (s1.wr (ETH.TXSTAMP_TIME n) (tx % 2 ^ 32)).setEth n
        { q with req := some (q.reqSeq, tx), reqAt := some t, reqSeq := (q.reqSeq + 1) % 65536, sent := some (2, q.reqSeq, tx) })

/-- Row PDELAY_RESP: a response, the peer's turnaround and the measured neighbour rate ratio give the link delay and asCapable; an armed
injection makes it missing (R350, R351). -/
def execPdelayResp (n : Fin 2) (dom : BitVec 7) (seq : BitVec 16) (turn : Word) (nrr : Int) (t : Nat) (s : State) :
    Host.Outcome State Fault Refusal :=
  .next (if s.ptpIn n dom = false then s
    else
      let p := s.eth n
      match p.req with
      | none => s
      | some (q, tx) =>
        if q ≠ seq.toNat then s
        else if p.injPd then ((s.at t).setEth n { p with injPd := false }).pdMiss n
        else
          let s1 := (s.at t).ethEvent n t
          let trip : Int := (s1.rxStamp n t : Int) - tx
          let r : Int := (trip * (65536000000000 + nrr)) / 65536000000000
          let d := max 0 ((r - turn.toNat) / 2)
          let s2 := (s1.setEth n { p with req := none, missed := 0 }).wr (ETH.PDELAY_DELAY n) (uwrap 32 d)
          (s2.wr (ETH.NRR n) (fit32 nrr)).setAsCap n (decide (nrr.natAbs ≤ 200000 * 65536)))

/-- Row SIGNALING: a message interval request is accepted: 127 stops a message, 126 restores the initial interval, -128 changes nothing
(R350). -/
def execSignaling (n : Fin 2) (dom : BitVec 7) (link sync : Byte) (t : Nat) (s : State) : Host.Outcome State Fault Refusal :=
  .next (if s.ptpIn n dom = false then s
    else
      let s1 := (s.at t).addSat (ETH.CNT0_RX_PTP n) 1
      let p := s1.eth n
      let pd := if link = 128 then p.pdLog else if link = 126 then none else some link.toNat
      let s2 := s1.setEth n { p with pdLog := pd, mute := if sync = 128 then p.mute else sync == 127 }
      if sync = 128 ∨ sync = 127 then s2 else s2.wr (ETH.INTV_SYNCLOG n) (if sync = 126 then 0xFD else sync.toNat))

/-- Row SYNC_SEND: as grandmaster a master port sends a two-step Sync (R350, R355). -/
def execSyncSend (n : Fin 2) (t : Nat) (s : State) : Host.Outcome State Fault Refusal :=
  let p := s.eth n
  .next (if s.ethUp n = false ∨ s.rd TIM.STAT_STATE ≠ 4 ∨ s.rd (ETH.STAT_ROLE_ACT n) ≠ 2 ∨ p.mute ∨
      p.sentAt.elim false (fun a => decide (t < a + logNs (s.rd (ETH.INTV_SYNCLOG n)))) then s
    else
      let s1 := s.at t
      let tx := s1.txStamp n t
      (s1.wr (ETH.TXSTAMP_TIME n) (tx % 2 ^ 32)).setEth n
        { p with sentAt := some t, syncSeq := (p.syncSeq + 1) % 65536, sent := some (0, p.syncSeq, tx) })

/-! ### Timeouts, grandmaster change, injection (R358, R359, R365) -/

/-- A port has lost its Syncs: time follows the other port, or the unit enters HOLDOVER (R358, R359). -/
def State.syncLost (s : State) (n : Nat) : State :=
  let s1 := ((s.setEth n { s.eth n with lost := true }).addSat (ETH.CNT1_SYNC_TMO n) 1).raise 0x1205 n []
  if s1.rd TIM.STAT_PORT ≠ n ∨ (s1.rd TIM.STAT_STATE ≠ 1 ∧ s1.rd TIM.STAT_STATE ≠ 2) then s1
  else
    let m := 1 - n
    if s1.timSource m ∧ (s1.eth m).syncAt.isSome ∧ (s1.eth m).lost = false ∧ s1.otherGm m = false ∧ s1.timSrc.isSome then s1.timPort m
    else s1.timHold 0

/-- Row SYNC_TIMEOUT: no Sync within SYNCTO intervals (R358). -/
def execSyncTimeout (n : Fin 2) (t : Nat) (s : State) : Host.Outcome State Fault Refusal :=
  let p := s.eth n
  .next (match p.syncAt with
    | some a =>
      if p.lost = false ∧ a + max 1 (s.rd (ETH.INTV_SYNCTO n)) * logNs (s.rd (ETH.INTV_SYNCLOG n)) ≤ t then (s.at t).syncLost n
      else s
    | none => s)

/-- Row TIM_INJ_SYNCTO: the Sync timeout of the port in use expires now (R365). -/
def execTimInjSyncto (t : Nat) (s : State) : Host.Outcome State Fault Refusal :=
  .next (if s.injLocked ∨ s.rd TIM.STAT_PORT = 3 then s else (s.at t).syncLost (s.rd TIM.STAT_PORT))

/-- Row TIM_INJ_GMCHG: the next Announce names a new grandmaster (R365). -/
def execTimInjGmchg (s : State) : Host.Outcome State Fault Refusal :=
  .next (if s.injLocked then s else s.setTime { s.time with injGm := true })

/-- Row GM_SETTLE: SETTLE seconds in HOLDOVER adopt the new grandmaster of the port in use, or of the preferred one (R358). -/
def execGmSettle (t : Nat) (s : State) : Host.Outcome State Fault Refusal :=
  let n := if s.rd TIM.STAT_PORT = 3 then s.timSrc.getD 3 else s.rd TIM.STAT_PORT
  .next (match (s.eth n).gm with
    | some g =>
      if s.rd TIM.STAT_STATE = 3 ∧ s.otherGm n ∧ s.time.holdAt + 1000000000 * s.rd TIM.SERVO2_SETTLE ≤ t then
        (((s.at t).setEth n { s.eth n with isNew := false }).setGm g).raise 0x0604 n (leBytes 8 g)
      else s
    | none => s)

/-- Row ETH_INJ_PDELAY: the next response is missing (R365). -/
def execEthInjPdelay (n : Fin 2) (s : State) : Host.Outcome State Fault Refusal :=
  .next (if s.injLocked then s else s.setEth n { s.eth n with injPd := true })

/-- Row ETH_CLR_CNT. -/
def execEthClrCnt (n : Fin 2) (s : State) : Host.Outcome State Fault Refusal :=
  .next ((((s.wr (ETH.CNT0_RX_PTP n) 0).wr (ETH.CNT0_RX_DISCARD n) 0).wr (ETH.CNT1_SYNC_TMO n) 0).wr (ETH.CNT1_PDELAY_LOST n) 0)

/-- Row ETH_RESET_RELEASE: ETHn_RST_N is released 10 ms after VIO_H and the PHY reference, the latter since `ref`, are present
(R495). -/
def execEthResetRelease (n : Fin 2) (ref t : Nat) (s : State) : Host.Outcome State Fault Refusal :=
  .next (if s.is (ETH.CFG_EN n) ∧ s.is SYS.PWR_STAT_VIO_OK ∧ s.pwr.vioAt + 10000000 ≤ t ∧ ref + 10000000 ≤ t then
    (s.at t).setEth n { s.eth n with rstN := true }
  else s)

/-! ### Commands (R355, R382) -/

/-- TIME_REARM: a return to FREE is staged (R355). -/
def cmdTimeRearm : CmdBody := fun _ s => (s.setTime { s.time with rearm := true }, some (.staged_ []))

/-- A staged TIME_REARM is committed (R355). -/
def State.timCommit (s : State) : State :=
  if s.time.rearm then ((s.setTime { s.time with rearm := false }).timLeave 3 0).wr TIM.STAT_PORT 3 else s

/-- TIM_STAT as one word. -/
def State.timStat (s : State) : Nat :=
  s.rd TIM.STAT_STATE + 16 * s.rd TIM.STAT_PORT + 256 * s.rd TIM.STAT_STEPGEN + 65536 * s.rd TIM.STAT_CLAMP

/-- TIME_STATUS (R382). -/
def cmdTimeStatus : CmdBody := fun _ s =>
  (s, some (.ok [s.timStat, s.rd TIM.OFFSET_O, if s.rd TIM.STAT_STATE = 3 then s.holdMs else 0, s.rd TIM.RATE]))

/-- Row TIME_REARM. -/
def execTimeRearm (p : Cmd) (t : Nat) (s : State) : Host.Outcome State Fault Refusal :=
  .next (s.svcCommand (cmdPkt p 0x0801 t) [] true cmdTimeRearm)
/-- Row TIME_STATUS. -/
def execTimeStatus (p : Cmd) (t : Nat) (s : State) : Host.Outcome State Fault Refusal :=
  .next (s.svcCommand (cmdPkt p 0x0802 t) [] false cmdTimeStatus)

end Sys2Proof.Machine
end

