-- ==== Sys2Proof/Machine/Firmware.lean ====
section
/-! DEFINITION. The configuration store, firmware images, the warden's commands and debug scopes (R384 to R392). -/

namespace Sys2Proof.Machine

/-- Change the store. -/
def State.setFirm (s : State) (f : Firm) : State := { s with firm := f }

/-- Change the warden's state. -/
def State.setDiag (s : State) (d : DiagUnit) : State := { s with diag := d }

/-! ### Records and the copy rule (R391, R392) -/

/-- The three copies of a record; none where a copy is not intact. -/
def Firm.copiesOf (f : Firm) (rec_ : Nat) : List (Option StoreCopy) := AMap.get [none, none, none] f.copies rec_

/-- Outcome and copy used (table "Copy comparison"). -/
def resolveCopies (cs : List (Option StoreCopy)) : Nat × Option StoreCopy :=
  let good := cs.filterMap id
  let top := good.foldl (fun g c => max g c.gen) 0
  match good.filter fun c => c.gen == top with
  | [] => (3, none)
  | c :: rest =>
    if rest.all fun d => decide (d = c) then (if good.all fun d => decide (d = c) then 0 else 1, some c) else (2, none)

/-- Programs for the store are permitted (R392, R424); in start-up they wait for 20 ms after a dip (R473). -/
def State.storeFree (s : State) : Bool :=
  s.is THM.STAT_NAND_OK && s.rd SYS.PWR_STAT_STATE == 0 &&
  (s.pwr.st == .up || (s.pwr.st == .startup && s.pwr.dipAt.isNone && (s.pwr.dipEnd == 0 || decide (s.pwr.dipEnd + 20000000 ≤ s.now))))

/-- Write a copy of a record. -/
def State.putCopyOf (s : State) (rec_ k : Nat) (c : Option StoreCopy) : State :=
  s.setFirm { s.firm with copies := AMap.set s.firm.copies rec_ ((s.firm.copiesOf rec_).set k c) }

/-- The copies of a record that are not intact or older are rewritten from the one used: now, or once programs are permitted (R391, R497). -/
def State.storeMend (s : State) (rec_ : Nat) (c : StoreCopy) : State :=
  let f := s.firm
  let rest := f.owed.filter fun e => e.1 != rec_
  if f.copiesOf rec_ = [some c, some c, some c] then s.setFirm { f with owed := rest }
  else if s.storeFree then s.setFirm { f with copies := AMap.set f.copies rec_ [some c, some c, some c], owed := rest }
  else s.setFirm { f with owed := AMap.set f.owed rec_ c }

/-- Rewrites that have waited for programs to be permitted (R391, R497). -/
def State.storeTick (s : State) : State := if s.storeFree then s.firm.owed.foldl (fun s e => s.storeMend e.1 e.2) s else s

/-- Resolve a record: copies with an uncorrectable page drop out, an armed SPLIT changes what is seen of copy 2, copies that are not
intact or older are rewritten from the one used, and the outcome is reported (R391, R395). -/
def State.storeResolve (s : State) (rec_ : Nat) (pages : List NandPage) : Nat × Option StoreCopy × State :=
  let s0 := pages.foldl (fun s p => s.nandRead (([1, 3, 6] : List Nat).getD (p.page % 3) 0) p) s
  let s1 := (pages.filter fun p => p.stage == 0).foldl (fun s p => s.putCopyOf rec_ (p.page % 3) none) s0
  let cs := s1.firm.copiesOf rec_
  let top := (cs.filterMap id).foldl (fun g c => max g c.gen) 0
  let seen := if s1.firm.injSplit then
      cs.set 2 ((cs.getD 2 none).map fun c => { c with gen := top, data := (c.data.take 1).map (fun b => b.xor 1) ++ c.data.drop 1 })
    else cs
  let r := resolveCopies seen
  let s2 := s1.setFirm { s1.firm with injSplit := false }
  match r.1, r.2 with
  | 2, _ => (2, none, s2.raise 0x0104 rec_ [])
  | 3, _ => (3, none, s2.raise 0x0105 rec_ [])
  | o, some c => (o, some c, s2.storeMend rec_ c)
  | o, none => (o, none, s2)

/-- The factory value of a record: MODULE_ID has MODE 0 and ID_HI 0 (R363), the others are opaque (log 8). -/
def factoryOf (rec_ : Nat) : List Nat :=
  if rec_ = 1 then [0, 0, (factoryRecord 1).getD 0 0 % 256, (factoryRecord 1).getD 1 0 % 256] else factoryRecord rec_

/-- The data of a resolution: that of the copy used, or the factory value (R391). -/
def recordData (rec_ : Nat) (c : Option StoreCopy) : List Nat := c.elim (factoryOf rec_) StoreCopy.data

/-- The data in force for a record, without a read of it. -/
def State.recordNow (s : State) (rec_ : Nat) : List Nat := recordData rec_ (resolveCopies (s.firm.copiesOf rec_)).2

/-- A record is written, copy after copy, one GENERATION above the highest (R392). -/
def State.storePut (s : State) (rec_ : Nat) (data : List Nat) : Nat × State :=
  let g := ((s.firm.copiesOf rec_).filterMap id).foldl (fun g c => max g c.gen) 0 + 1
  let c := some { gen := g, data := data }
  let s1 := ((s.putCopyOf rec_ 0 c).putCopyOf rec_ 1 c).putCopyOf rec_ 2 c
  (g, s1.setFirm { s1.firm with owed := s1.firm.owed.filter fun e => e.1 != rec_ })

/-- The records of the table "Store records". -/
def storeRecords : List Nat := [1, 0x10, 0x11, 0x12, 0x100, 0x101, 0x102]

/-- STORE_READ (R391). -/
def cmdStoreRead (pages : List NandPage) : CmdBody := fun c s =>
  let rec_ := c.arg 0
  if storeRecords.contains rec_ = false then (s, some (.err 0x0201 0))
  else
    let r := s.storeResolve rec_ pages
    let data := recordData rec_ r.2.1
    let s1 := r.2.2.hostWrite (c.arg64 1) (data.take (c.arg 3))
    match r.2.1 with
    | some x => (s1, some (.ok [x.gen % 2 ^ 32, data.length, 0]))
    | none =>
      (s1.used, some { status := if r.1 = 2 then 0x0701 else 0x0702, detail := 0, res := [s1.free 32, data.length, 1] })

/-- The work of STORE_WRITE once programs are permitted (R392). -/
def State.storeWrite (s : State) (c : CmdPkt) : State × Reply :=
  let r := s.storePut (c.arg 0) (s.hostBytes (c.arg64 1) (c.arg 3))
  (r.2, .ok [r.1 % 2 ^ 32])

/-- STORE_WRITE: it waits while programs are not permitted (R391, R392). -/
def cmdStoreWrite : CmdBody := fun c s =>
  if c.arg 0 ≠ 1 ∧ c.arg 0 ≠ 0x10 then (s, some (.err 0x0703 0))
  else if 16777728 < c.arg 3 then (s, some (.err 0x0201 3))
  else if s.storeFree then let r := s.storeWrite c; (r.1, some r.2)
  else (s, none)

/-- STORE_STATUS (R382, R391). -/
def cmdStoreStatus : CmdBody := fun c s =>
  if storeRecords.contains (c.arg 0) = false then (s, some (.err 0x0201 0))
  else
    let cs := s.firm.copiesOf (c.arg 0)
    let mask := (List.range 3).foldl (fun m k => if (cs.getD k none).isSome then m + 2 ^ k else m) 0
    let gen (k : Nat) : Nat := match cs.getD k none with
      | some x => x.gen % 2 ^ 32
      | none => freeValue (s.freeCount + k) % 2 ^ 32
    (s.used.used.used, some (.ok [mask + 256 * (resolveCopies cs).1, gen 0, gen 1, gen 2]))

/-- Row STORE_READ; `pages` are the pages that were not read clean, named by copy. -/
def execStoreRead (p : Cmd) (pages : List NandPage) (t : Nat) (s : State) : Host.Outcome State Fault Refusal :=
  .next (s.svcCommand (cmdPkt p 0x0108 t) [0, 1, 2, 3] false (cmdStoreRead pages))
/-- Row STORE_WRITE. -/
def execStoreWrite (p : Cmd) (err : Bool) (t : Nat) (s : State) : Host.Outcome State Fault Refusal :=
  .next (s.svcCommand (cmdPkt p 0x0109 t) [0, 1, 2, 3] false (cmdHostErr err cmdStoreWrite))
/-- Row STORE_STATUS. -/
def execStoreStatus (p : Cmd) (t : Nat) (s : State) : Host.Outcome State Fault Refusal :=
  .next (s.svcCommand (cmdPkt p 0x010A t) [0] false cmdStoreStatus)

/-! ### Images (R387, R388) -/

/-- Bytes of an image. -/
def imgBytes (img : List Nat) (o n : Nat) : List Nat := (img.drop o).take n

/-- The rollback counter of a kind. -/
def Firm.rollback (f : Firm) (kind : Nat) : Nat := if kind = 1 then f.wcnt else f.scnt

/-- VERSION and SVN of an image. -/
def imgVersion (img : List Nat) : Nat := leAt img 8 4
def imgSvn (img : List Nat) : Nat := leAt img 12 2

/-- The first check of R387 from 2 on that an image of a kind fails; `svn` asks for check 6. -/
def State.imageCheck (s : State) (kind : Nat) (svn : Bool) (img : List Nat) : Option Nat :=
  let key := leAt img 6 2
  let len := leAt img 16 4
  if leAt img 0 4 ≠ 0x574A4B46 ∨ leAt img 4 2 ≠ kind then some 2
  else if 3 < key ∨ sha384 (imgBytes img 256 96) ≠ otpHash key ∨ otpRevoked key then some 3
  else if ecdsaOk (imgBytes img 256 96) (imgBytes img 0 256) (imgBytes img 352 96) = false then some 4
  else if (if kind = 1 then 65536 else 16777216) < len ∨ sha384 (imgBytes img 512 len) ≠ leNat (imgBytes img 64 48) then some 5
  else if svn ∧ imgSvn img < s.firm.rollback kind then some 6
  else none

/-- The store record of an image kind. -/
def imageRec (kind : Nat) : Nat := if kind = 1 then 0x100 else 0x101

/-- Select an image at start-up: rejected copies are reported, the copy rule applies to the others, then the factory image without
check 6; the rollback counter and CMD_BOOT follow. The image, none where nothing can run (R387). -/
def State.imageSelect (s : State) (kind : Nat) : Option (List Nat) × State :=
  let cs := s.firm.copiesOf (imageRec kind)
  let verdict (k : Nat) : Option Nat := match cs.getD k none with
    | none => some 1
    | some c => s.imageCheck kind true c.data
  let s1 := (List.range 3).foldl (fun s k => match verdict k with
    | some n => s.raise 0x0106 k (leBytes 4 kind ++ leBytes 4 n)
    | none => s) s
  let seen := (List.range 3).map fun k => if (verdict k).isNone then cs.getD k none else none
  let r := resolveCopies seen
  let from_ := match r.2 with
    | some c => ((List.range 3).find? fun k => seen.getD k none == some c).getD 3
    | none => 3
  let img := match r.2 with
    | some c => some c.data
    | none => if (s.imageCheck kind false (factoryImage kind)).isNone then some (factoryImage kind) else none
  let fix := match r.2 with
    | some c => s1.storeMend (imageRec kind) c
    | none => s1
  let s2 := match img with
    | some i => fix.setFirm (if kind = 1 then { fix.firm with wcnt := min 63 (max fix.firm.wcnt (imgSvn i)) }
        else { fix.firm with scnt := min 63 (max fix.firm.scnt (imgSvn i)) })
    | none => fix
  let ver := img.elim 0 imgVersion
  (img, if kind = 1 then
      (((s2.wr CMD.BOOT_WCOPY from_).wrB CMD.BOOT_WSPLIT (r.1 == 2)).wr CMD.BOOT_WCNT s2.firm.wcnt).wr CMD.FWVER_WDN_VERSION ver
    else
      (((s2.wr CMD.BOOT_SCOPY from_).wrB CMD.BOOT_SSPLIT (r.1 == 2)).wr CMD.BOOT_SCNT s2.firm.scnt).wr CMD.FWVER_SVC_VERSION ver)

/-- The work of FW_UPDATE once programs are permitted (R388). -/
def State.fwWrite (s : State) (c : CmdPkt) : State × Reply :=
  let kind := c.arg 0
  let img := s.hostBytes (c.arg64 1) (c.arg 3)
  ((s.storePut (imageRec kind) img).2.raise 0x0107 kind (leBytes 4 (imgVersion img) ++ leBytes 4 (imgSvn img)), .ok [])

/-- FW_UPDATE: checks 2 to 6, then the write of R392 (R388). -/
def cmdFwUpdate : CmdBody := fun c s =>
  let kind := c.arg 0
  if kind ≠ 1 ∧ kind ≠ 2 then (s, some (.err 0x0201 0))
  else if 16777728 < c.arg 3 then (s, some (.err 0x0201 3))
  else
    match s.imageCheck kind true (s.hostBytes (c.arg64 1) (c.arg 3)) with
    | some 6 => (s, some (.err 0x0802 (imgSvn (s.hostBytes (c.arg64 1) (c.arg 3)))))
    | some n => (s, some (.err 0x0801 n))
    | none => if s.storeFree then let r := s.fwWrite c; (r.1, some r.2) else (s, none)

/-- Row FW_UPDATE. -/
def execFwUpdate (p : Cmd) (err : Bool) (t : Nat) (s : State) : Host.Outcome State Fault Refusal :=
  .next (s.wardenCommand (cmdPkt p 0x0B01 t) [0, 1, 2, 3] (cmdHostErr err cmdFwUpdate))

/-! ### Items of the warden (R389) -/

/-- An item of the warden or of diagnostics goes into the next credit of its queue as a whole payload of one entry. -/
def State.ownItem (s : State) (q kind : Nat) (body : List Nat) : State :=
  match (s.dq q).credits with
  | [] => s
  | cr :: rest =>
    let e := leBytes 4 body.length ++ leBytes 4 0 ++ body ++ List.replicate ((8 - body.length % 8) % 8) 0
    let i : DItem := { tag := { axis := if kind = 3 then 0 else 255 }, kind := kind, desc := cr.1, buf := cr.2.1, blen := cr.2.2, maxb := cr.2.2,
                       pay := e, count := if kind = 3 then 0 else 1, rcd := some (List.replicate 64 0) }
    (s.putDq q { s.dq q with credits := rest, items := (s.dq q).items ++ [i] }).wmEval

/-- Items that wait for a credit of DQ63 go out, oldest first (R389). -/
def State.wardenPump (s : State) : Nat → State
  | 0 => s
  | k + 1 =>
    match s.diag.held, (s.dq 63).credits with
    | b :: bs, _ :: _ => ((s.setDiag { s.diag with held := bs }).ownItem 63 3 b).wardenPump k
    | _, _ => s

/-- The warden has an item for DQ63. -/
def State.wardenItem (s : State) (body : List Nat) : State :=
  (s.setDiag { s.diag with held := s.diag.held ++ [body] }).wardenPump 4

/-- The header of the image that runs. -/
def State.imageHeader (s : State) (kind : Nat) : List Nat :=
  imgBytes ((resolveCopies (s.firm.copiesOf (imageRec kind))).2.elim (factoryImage kind) StoreCopy.data) 0 512

/-- The attestation report (table "Attestation report, type 1, 288 bytes"). -/
def State.attestation (s : State) (nonce : List Nat) : List Nat :=
  let body := leBytes 2 1 ++ leBytes 2 s.moduleId ++ leBytes 4 0 ++ leBytes 8 factoryEui ++ nonce ++ leBytes 8 s.dev ++
    leBytes 4 (s.rd CMD.FWVER_WDN_VERSION) ++ leBytes 4 (s.rd CMD.FWVER_SVC_VERSION) ++ leBytes 48 (sha384 (s.imageHeader 1)) ++
    leBytes 48 (sha384 (s.imageHeader 2)) ++
    [s.firm.wcnt, s.firm.scnt,
     s.rd CMD.BOOT_WCOPY + 4 * s.rd CMD.BOOT_SCOPY + 16 * s.rd CMD.BOOT_WSPLIT + 32 * s.rd CMD.BOOT_SSPLIT,
     s.rd CMD.STAT_DEBUG] ++ List.replicate 44 0
  body ++ (ecdsaSign body).take 96

/-- ATTEST (R389). -/
def cmdAttest : CmdBody := fun c s =>
  if 4 ≤ s.diag.held.length then (s, some (.err 0x0302 0))
  else
    let nonce := ((List.range 4).flatMap fun k => leBytes 4 (c.arg k))
    let s1 := s.wardenItem (s.attestation nonce)
    if (c.arg 4).testBit 0 then (s1.wardenItem (leBytes 2 2 ++ certificate.take 4096), some (.ok [])) else (s1, some (.ok []))

/-- SECURITY_LOG (R389). -/
def cmdSecurityLog : CmdBody := fun _ s =>
  if 4 ≤ s.diag.held.length then (s, some (.err 0x0302 0))
  else
    let es := s.diag.secLog.drop (s.diag.secLog.length - 256)
    (s.wardenItem (leBytes 2 3 ++ es.flatMap fun e => leBytes 8 e.1 ++ leBytes 2 (logCode e.2.1) ++ leBytes 22 (logDetail e.2.1 e.2.2)),
      some (.ok []))

/-- Enter an occurrence in the security log. -/
def State.secEnter (s : State) (code v : Nat) : State :=
  s.setDiag { s.diag with secLog := s.diag.secLog ++ [(s.dev, code, v)] }

/-- Row ATTEST. -/
def execAttest (p : Cmd) (t : Nat) (s : State) : Host.Outcome State Fault Refusal :=
  .next (s.wardenCommand (cmdPkt p 0x0B02 t) [0, 1, 2, 3, 4] cmdAttest)
/-- Row SECURITY_LOG. -/
def execSecurityLog (p : Cmd) (t : Nat) (s : State) : Host.Outcome State Fault Refusal :=
  .next (s.wardenCommand (cmdPkt p 0x0B06 t) [] cmdSecurityLog)

/-! ### Debug unlock (R390) -/

/-- DEBUG_CHALLENGE: a random nonce, valid for 60 s and one unlock. -/
def cmdDebugChallenge : CmdBody := fun _ s =>
  let n := s.free 128
  ((s.used).setDiag { s.diag with nonce := some (n, s.now) },
    some (.ok [n % 2 ^ 32, n / 2 ^ 32 % 2 ^ 32, n / 2 ^ 64 % 2 ^ 32, n / 2 ^ 96 % 2 ^ 32]))

/-- DEBUG_UNLOCK: the token's nonce, key, signature and identity are checked in this order (R390, table "Status codes"). -/
def cmdDebugUnlock : CmdBody := fun c s =>
  let tok := s.hostBytes (c.arg64 0) 224
  let key := tok.getD 28 0
  let valid := s.diag.nonce.elim false fun n => n.1 == leAt tok 8 16 && decide (s.now < n.2 + 60000000000)
  if valid = false then (s, some (.err 0x0803 1))
  else if 3 < key ∨ sha384 (imgBytes tok 32 96) ≠ otpHash key ∨ otpDebug key = false then (s, some (.err 0x0803 2))
  else if ecdsaOk (imgBytes tok 32 96) (imgBytes tok 0 128) (imgBytes tok 128 96) = false then (s, some (.err 0x0803 3))
  else if leAt tok 0 8 ≠ factoryEui % 2 ^ 64 then (s, some (.err 0x0803 4))
  else
    let sc := leAt tok 24 4 % 8
    let s1 := ((s.setDiag { s.diag with nonce := none }).wr CMD.STAT_DEBUG sc).raise 0x0108 0 (leBytes 4 sc)
    (s1.secEnter 0x0108 sc, some (.ok [sc]))

/-- DEBUG_LOCK: every scope locks. -/
def cmdDebugLock : CmdBody := fun _ s => (s.wr CMD.STAT_DEBUG 0, some (.ok []))

/-- Row DEBUG_CHALLENGE. -/
def execDebugChallenge (p : Cmd) (t : Nat) (s : State) : Host.Outcome State Fault Refusal :=
  .next (s.wardenCommand (cmdPkt p 0x0B03 t) [] cmdDebugChallenge)
/-- Row DEBUG_UNLOCK. -/
def execDebugUnlock (p : Cmd) (err : Bool) (t : Nat) (s : State) : Host.Outcome State Fault Refusal :=
  .next (s.wardenCommand (cmdPkt p 0x0B04 t) [0, 1] (cmdHostErr err cmdDebugUnlock))
/-- Row DEBUG_LOCK. -/
def execDebugLock (p : Cmd) (t : Nat) (s : State) : Host.Outcome State Fault Refusal :=
  .next (s.wardenCommand (cmdPkt p 0x0B05 t) [] cmdDebugLock)

/-- Row DEBUG_NONCE_EXPIRY: 60 s after its challenge a nonce is no longer valid (R390). -/
def execDebugNonceExpiry (t : Nat) (s : State) : Host.Outcome State Fault Refusal :=
  .next (match s.diag.nonce with
    | some n => if n.2 + 60000000000 ≤ t then (s.at t).setDiag { s.diag with nonce := none } else s
    | none => s)

/-! ### Lockstep, access filter, debug port (R384, R386, R390, R395, R429) -/

/-- NAND permission is withdrawn, or granted (R424). -/
def State.nandPermit (s : State) (ok : Bool) : State :=
  if s.is THM.STAT_NAND_OK = ok then s
  else ((s.wrB THM.STAT_NAND_OK ok).raise 0x0F04 0
    (leBytes 4 (b2n ok) ++ leBytes 4 (s.rd THM.TNAND_MAX) ++ leBytes 4 (s.rd THM.TNAND_MIN))).recEval

/-- Set the throttle step and with it the engine clock (R425). -/
def State.setThrottle (s : State) (n : Nat) : State :=
  if s.rd THM.STAT_THROTTLE = n then s
  else
    let mhz := 75 * (16 - n)
    let s1 := { s with clk0 := s.clk0 + (s.now - s.clkAt) * s.rd THM.CLK_MHZ, clkAt := s.now }
    ((s1.wr THM.STAT_THROTTLE n).wr THM.CLK_MHZ mhz).raise 0x0F02 0 (leBytes 4 n ++ leBytes 4 mhz)

/-- Set the band; the memory controllers are asked to adopt it (R267, R423). -/
def State.setBand (s : State) (b : Nat) : State :=
  if s.rd THM.STAT_BAND = b then s
  else ((s.wr THM.STAT_BAND b).raise 0x0F01 0 (leBytes 4 b ++ leBytes 4 (s.rd THM.TBAND))).marginAsk

/-- A lockstep mismatch (R386, R429): area 0x0B commands in progress reply FAULT; the pair restarts, or halts where the second
mismatch falls within 1 s of the first. -/
def State.lockstep (s : State) : State :=
  let old := s.diag.mism
  let again := old.elim false fun a => decide (s.now < a + 1000000000)
  let s1 := ((s.cmd.running ++ s.cmd.waiting).filter fun c => c.op / 256 == 0x0B).foldl (fun s c => s.cmdReply c (.err 0x0A01 0)) s
  let s2 := { s1 with cmd := { s1.cmd with waiting := s1.cmd.waiting.filter fun c => c.op / 256 != 0x0B } }
  let s3 := s2.setDiag { s2.diag with mism := some s.now, restart := s.now }
  let s4 := { s3 with thm := { s3.thm with seen := false } }
  let s5 := s4.nandPermit false
  if again then
    (((s5.wr CMD.STAT_WARDEN 3).raise 0x010A 0 (leBytes 4 2)).setThrottle (max 8 (s5.rd THM.STAT_THROTTLE))).setBand
      (max 3 (s5.rd THM.STAT_BAND))
  else (s5.wr CMD.STAT_WARDEN 2).raise 0x010A 0 (leBytes 4 1)

/-- Row LOCKSTEP_MISMATCH (R386). -/
def execLockstepMismatch (t : Nat) (s : State) : Host.Outcome State Fault Refusal :=
  .next (if s.rd CMD.STAT_WARDEN = 3 then s else (s.at t).lockstep)

/-- Row WARDEN_RESUME: the restarted pair has verified its image, at most 100 ms later (R386). -/
def execWardenResume (t : Nat) (s : State) : Host.Outcome State Fault Refusal :=
  .next (if s.rd CMD.STAT_WARDEN = 2 then (s.at t).wr CMD.STAT_WARDEN 1 else s)

/-- A blocked access (R384). -/
def State.accessViolation (s : State) (a : Nat) : State := (s.secEnter 0x0109 a).raise 0x0109 0 (leBytes 8 a)

/-- Row ACCESS_VIOLATION: a service core or the data plane reaches for what the warden alone may reach; a read returns 0, a write is
discarded (R384). -/
def execAccessViolation (a : BitVec 64) (t : Nat) (s : State) : Host.Outcome State Fault Refusal :=
  .next (({ s.at t with busRead := 0 }).accessViolation a.toNat)

/-- Row CMD_INJ_ACCESS: the next service-core access counts as blocked; service cores access memory all the time (R395). -/
def execCmdInjAccess (a : BitVec 64) (t : Nat) (s : State) : Host.Outcome State Fault Refusal :=
  .next (if s.injLocked ∨ s.svcRunning = false then s else (s.at t).accessViolation a.toNat)

/-- Row CMD_INJ_SPLIT (R395). -/
def execCmdInjSplit (s : State) : Host.Outcome State Fault Refusal :=
  .next (if s.injLocked then s else s.setFirm { s.firm with injSplit := true })

/-- Row CMD_INJ_LAPSE: the next two renewals of an armed epoch are omitted (R395). -/
def execCmdInjLapse (s : State) : Host.Outcome State Fault Refusal :=
  .next (if s.injLocked then s else { s with cmd := { s.cmd with injLapse := 2 } })

end Sys2Proof.Machine
end

