-- ==== Sys2Proof/Machine/Thermal.lean ====
section
/-! DEFINITION. Sensors, the thermal model, bands, NAND permission and throttling (R417 to R431). -/

namespace Sys2Proof.Machine

/-- Change the thermal unit. -/
def State.setThm (s : State) (u : ThermUnit) : State := { s with thm := u }

/-- THM_INJ_OFS, signed, in 1/64 °C (R431). -/
def State.thmOfs (s : State) : Int := sint 16 (s.rd THM.INJ_OFS_OFS)

/-! ### Sensors (R422) -/

/-- The field that shows a sensor invalid: diodes 0 to 5, the case sensor 6. -/
def sensorInvalid (k : Nat) : Fld := if k < 6 then THM.DIODE_INVALID k else THM.TCASE_INVALID

/-- A sensor is valid. -/
def State.sensorOk (s : State) (k : Nat) : Bool := !s.is (sensorInvalid k)

/-- The last reading of a sensor, in 1/64 °C. -/
def State.sensorRaw (s : State) (k : Nat) : Int :=
  sint 16 (if k < 6 then s.rd (THM.DIODE_TEMP k) else s.rd THM.TCASE_CASE)

/-- The last reading of a sensor with the offset of R431, in 1/64 °C. -/
def State.sensor (s : State) (k : Nat) : Int := s.sensorRaw k + s.thmOfs

/-- A reading fails the tests of R422 against the sample before it. -/
def State.sensorBad (s : State) (k reading : Nat) : Bool :=
  let v := sint 16 reading + s.thmOfs
  let step := match s.thm.last.find? fun e => e.1 == k with
    | some e => decide (640 < (sint 16 reading - sint 16 e.2).natAbs)
    | none => false
  decide (v < -3840 ∨ (if k < 6 then 11520 else 10240) < v) || step

/-- A sensor's sample fails: it is invalid from now, and the case sensor takes the NAND permission with it (R422, R424). -/
def State.sensorFail (s : State) (k : Nat) : State :=
  let s1 := s.setThm { s.thm with badAt := AMap.set s.thm.badAt k s.now }
  if s.sensorOk k = false then s1
  else
    let s2 := (s1.wr (sensorInvalid k) 1).raise 0x0F06 k []
    if k = 6 then s2.nandPermit false else s2

/-- Take a sample of a sensor. -/
def State.sensorSample (s : State) (k reading : Nat) : State :=
  let s1 := if s.sensorBad k reading then s.sensorFail k
    else if s.sensorOk k then (if k < 6 then s.wr (THM.DIODE_TEMP k) reading else s.wr THM.TCASE_CASE reading)
    else s
  s1.setThm { s1.thm with last := AMap.set s1.thm.last k reading }

/-- Row SENSOR_FAULT: a sample fails its tests (R422). -/
def execSensorFault (k : Fin 7) (reading : BitVec 16) (t : Nat) (s : State) : Host.Outcome State Fault Refusal :=
  .next (if s.sensorBad k reading.toNat then (s.at t).sensorSample k reading.toNat else s)

/-- Row SENSOR_VALID: 1 s of good readings makes a sensor valid again (R422). -/
def execSensorValid (k : Fin 7) (t : Nat) (s : State) : Host.Outcome State Fault Refusal :=
  .next (if s.sensorOk k = false ∧ AMap.get 0 s.thm.badAt k + 1000000000 ≤ t then (s.at t).wr (sensorInvalid k) 0 else s)

/-! ### The model (R419 to R421) -/

/-- Units of a node temperature in 1/64 °C. -/
def thmUnit : Int := 65536

/-- A node's temperature. -/
def ThermUnit.node (u : ThermUnit) (i : Nat) : Int := u.nodes.getD i 0

/-- Instructions retired so far by the engines of node `i` of 0 to 3, its standby included. -/
def State.retiredOf (s : State) (i : Nat) : Nat :=
  ((List.range 32).map (fun k => 32 * i + k) ++ [128 + i]).foldl
    (fun a g => a + s.rd (ENG.RET_LO_RET g) + 2 ^ 32 * s.rd (ENG.RET_HI_RET g)) 0

/-- The power of a node in mW, from the rails: rail 0 by retired instructions, the others by the shares of THERMAL_CAL (R419); how
rail 0 is split where nothing has retired the spec does not say (log 2). -/
def State.nodePower (s : State) (cal : List Nat) (rails : List Nat) (i : Nat) : Int :=
  let n (k : Nat) : Nat := s.retiredOf k - AMap.get 0 s.thm.retired k
  let total := n 0 + n 1 + n 2 + n 3
  let r0 := if 3 < i then 0
    else if total = 0 then rails.getD 0 0 * (freeSample [s.freeCount, i] % 65537) / 65536
    else rails.getD 0 0 * n i / total
  let rest := (List.range 7).foldl (fun a r => a + rails.getD (r + 1) 0 * thermShare cal (r + 1) i) 0
  ((r0 + rest / 65536 : Nat) : Int)

/-- The update of every node at a tick (R419); node 23 takes the case reading. Nodes are kept without the offset of R431, which adds
to each of them alike and so changes no difference of R419 or R420. -/
def State.modelStep (s : State) (rails : List Nat) : State :=
  let cal := s.recordNow 0x11
  let case_ := s.sensorRaw 6 * thmUnit
  let old : List Int := if s.thm.seen then s.thm.nodes else List.replicate 24 case_
  let t (i : Nat) : Int := old.getD i 0
  let new := (List.range 23).map fun i =>
    let flow := (List.range 24).foldl (fun (a : Int) j => a + (thermCond cal i j : Int) * (t j - t i)) 0
    let c : Int := 1000 * max 1 (thermCap cal i)
    t i + (s.nodePower cal rails i * 64 * thmUnit + flow) / c
  (s.used).setThm { s.thm with nodes := new ++ [case_], retired := (List.range 4).map fun k => (k, s.retiredOf k) }

/-- The node of diode `d` (R418). -/
def diodeNode (d : Nat) : Nat := if d < 4 then d else if d = 4 then 5 else 9

/-- The correction against one diode (R420); the residual counts for R421. -/
def State.diodeFix (s : State) (d : Nat) : State :=
  let u := s.thm
  if s.sensorOk d = false then s.setThm { u with bigRun := AMap.set u.bigRun d 0 }
  else
    let i := diodeNode d
    let r := s.sensorRaw d * thmUnit - u.node i
    let big := decide (512 * 65536 < r.natAbs)
    s.setThm { u with nodes := u.nodes.set i (u.node i + r / 16),
                      bigRun := AMap.set u.bigRun d (if big then AMap.get 0 u.bigRun d + 1 else 0),
                      resid := AMap.set u.resid d r }

/-- Every valid residual is at most 2 °C. -/
def State.residSmall (s : State) : Bool :=
  (List.range 6).all fun d => !s.sensorOk d || decide ((AMap.get 0 s.thm.resid d).natAbs ≤ 128 * 65536)

/-- Highest and lowest of a list of temperatures. -/
def tMax (l : List Int) : Int := l.foldl max (l.headD 0)
def tMin (l : List Int) : Int := l.foldl min (l.headD 0)

/-- The estimates of R419 and R421 in 1/64 °C, with the offset of R431: TJ, TBAND, TNAND_MAX, TNAND_MIN. -/
def State.estimates (s : State) (gddr : List Nat) : Int × Int × Int × Int :=
  let t (i : Nat) : Int := s.thm.node i / thmUnit + s.thmOfs
  let diodes := ((List.range 6).filter fun d => s.sensorOk d).map fun d => s.sensor d
  let nand := [t 16, t 17, t 18, t 19]
  let fall := s.is THM.STAT_FALLBACK
  let tj := if fall ∧ diodes ≠ [] then tMax diodes + 320 else tMax ((List.range 12).map t)
  let tb := tMax ((List.range 16).map t ++ gddr.map (sint 16))
  (tj, tb, if fall then max (tMax nand) (s.sensor 6 + 640) else tMax nand, if fall then min (tMin nand) (s.sensor 6) else tMin nand)

/-- Lower bounds of bands 1 to 4 in 1/64 °C; band 4 lies above its bound (R423). -/
def bandOf (tb : Int) : Nat := if 8000 < tb then 4 else if 6720 ≤ tb then 3 else if 5440 ≤ tb then 2 else if 0 ≤ tb then 1 else 0

/-- The band at a tick (R423): at start-up taken directly, later up to any band whose bound TBAND reaches, down by one at 2 °C below
the present bound. -/
def State.bandTick (s : State) (tb : Int) : State :=
  let b := s.rd THM.STAT_BAND
  let low : Int := ([0, 0, 5440, 6720, 8000] : List Int).getD b 0
  if s.thm.seen = false then s.setBand (bandOf tb)
  else if b < bandOf tb then s.setBand (bandOf tb)
  else if 0 < b ∧ tb ≤ low - 128 then s.setBand (b - 1)
  else s

/-- The throttle step at a tick (R422, R425). -/
def State.throttleTick (s : State) (tj : Int) : State :=
  let n := s.rd THM.STAT_THROTTLE
  let none_ := (List.range 6).all fun d => !s.sensorOk d
  let m := max (min 15 (-((8000 - tj) / 64)).toNat) (if none_ then 8 else 0)
  let s1 := if n < m then s.setThrottle m
    else if m < n ∧ 2 * tj ≤ 2 * (8000 + 64 * (n : Int)) - 192 then s.setThrottle (n - 1)
    else s
  if 0 < s1.rd THM.STAT_THROTTLE then s1.addSat THM.THR_MS_MS 1 else s1

/-- The pattern of a signed temperature in 16 bits. -/
def t16 (x : Int) : Nat := uwrap 16 x

/-- The mean power of the eight rails in mW: rails 0 to 6 as sampled, rail 7 the input power less those (R417). -/
def tickRail (x : TickIn) (r : Nat) : Nat :=
  let mW (k : Nat) : Nat := (x.rails.getD k 0).toNat
  if r < 7 then mW r else x.pin.toNat - (List.range 7).foldl (fun a k => a + mW k) 0

/-- The thermal part of a management tick (R417 to R426), which the warden runs; the last component says that TJ has reached 140 °C
(R427). -/
def State.thermTick (s : State) (x : TickIn) : State × Bool :=
  let s0 := (List.range 6).foldl (fun s d => s.sensorSample d (x.diodes.getD d 0).toNat) s
  let s1 := s0.sensorSample 6 x.case.toNat
  let s2 := if s1.thm.injDiode then (s1.setThm { s1.thm with injDiode := false }).sensorFail 0 else s1
  let s3 := if s2.thm.injCase then (s2.setThm { s2.thm with injCase := false }).sensorFail 6 else s2
  let s4 := ((List.range 8).foldl (fun s r => s.wr (THM.RAIL_P_MW r) (tickRail x r)) s3).wr THM.PIN_MW x.pin.toNat
  if s4.rd CMD.STAT_WARDEN ≠ 1 then (s4, false)
  else
    let s5 := (List.range 6).foldl (fun s d => s.diodeFix d) (s4.modelStep ((List.range 8).map (tickRail x)))
    let s6 := s5.setThm { s5.thm with good := if s5.residSmall then s5.thm.good + 1 else 0 }
    let e := s6.estimates (x.gddr.map BitVec.toNat)
    let tj := e.1
    let s7 := (List.range 24).foldl (fun s k => s.wr (THM.NODE_TEMP k) (t16 (s6.thm.node k / thmUnit))) s6
    let s8 := (((s7.wr THM.TJ (t16 tj)).wr THM.TBAND (t16 e.2.1)).wr THM.TNAND_MAX (t16 e.2.2.1)).wr THM.TNAND_MIN (t16 e.2.2.2)
    let s9 := if sint 16 (s8.rd THM.TJ_PEAK) < tj ∨ s.thm.seen = false then s8.wr THM.TJ_PEAK (t16 tj) else s8
    let s10 := s9.bandTick e.2.1
    let s11 :=
      if s10.sensorOk 6 = false ∨ e.2.2.2 < -1920 ∨ 7360 < e.2.2.1 then s10.nandPermit false
      else if -1792 ≤ e.2.2.2 ∧ e.2.2.1 ≤ 7232 then s10.nandPermit true
      else s10
    let s12 := s11.throttleTick tj
    let hot := decide (sint 16 (s12.rd THM.CFG_ALARM) ≤ tj)
    let s13 := if hot ∧ s12.thm.alarm = false then s12.raise 0x0F03 0 (leBytes 4 (uwrap 32 tj)) else s12
    (s13.setThm { s13.thm with seen := true, alarm := hot }, decide (8960 ≤ tj))

/-- FALLBACK is entered or left, reported for a diode (R421). -/
def State.fallback (s : State) (on : Bool) (d : Nat) : State :=
  if s.is THM.STAT_FALLBACK = on then s
  else ((s.wrB THM.STAT_FALLBACK on).setThm { s.thm with bigRun := [], good := 0 }).raise 0x0F05 d
    (leBytes 4 (b2n on) ++ leBytes 4 (uwrap 32 (AMap.get 0 s.thm.resid d / thmUnit)))

/-- Row MODEL_FALLBACK: 100 ticks of a large residual, or 1,000 ticks of small ones (R421). -/
def execModelFallback (t : Nat) (s : State) : Host.Outcome State Fault Refusal :=
  .next (if s.is THM.STAT_FALLBACK then (if 1000 ≤ s.thm.good then (s.at t).fallback false 0 else s)
    else
      match (List.range 6).find? fun d => s.sensorOk d && decide (100 ≤ AMap.get 0 s.thm.bigRun d) with
      | some d => (s.at t).fallback true d
      | none => s)

/-! ### Control and injection (R431) -/

/-- Row THM_CLR_SHUT: SHUT_CAUSE and THM_DEFER clear. -/
def execThmClrShut (s : State) : Host.Outcome State Fault Refusal := .next ((s.wr THM.STAT_SHUT_CAUSE 0).wr THM.DEFER_US 0)
/-- Row THM_CLR_PEAK: PEAK is set to TJ. -/
def execThmClrPeak (s : State) : Host.Outcome State Fault Refusal := .next (s.wr THM.TJ_PEAK (s.rd THM.TJ))
/-- Row THM_INJ_DIODE: the next sample of diode 0 counts as invalid. -/
def execThmInjDiode (s : State) : Host.Outcome State Fault Refusal :=
  .next (if s.injLocked then s else s.setThm { s.thm with injDiode := true })
/-- Row THM_INJ_CASE: the next case sample counts as invalid. -/
def execThmInjCase (s : State) : Host.Outcome State Fault Refusal :=
  .next (if s.injLocked then s else s.setThm { s.thm with injCase := true })
/-- Row THM_INJ_FALLBACK: FALLBACK is entered now. -/
def execThmInjFallback (t : Nat) (s : State) : Host.Outcome State Fault Refusal :=
  .next (if s.injLocked then s else (s.at t).fallback true 0)

/-- A read of THM_TLPK_DATA: one word of the oldest record; an empty FIFO answers the previous word (R314, R431). -/
def State.tlPop (s : State) : State :=
  match s.thm.tlPeek with
    | (w :: ws) :: rest =>
      let left := if ws = [] then rest else ws :: rest
      (({ (s.setThm { s.thm with tlPeek := left, tlLast := w }) with busRead := w }).wr THM.TLPK_DATA_DATA w).wr
        THM.TLPK_STAT_LEVEL left.length
    | _ => { s with busRead := s.thm.tlLast }.set1 THM.TLPK_STAT_UNDERRUN

/-- Row TELEMETRY_PEEK_POP (R314, R431). -/
def execTelemetryPeekPop (s : State) : Host.Outcome State Fault Refusal := .next s.tlPop

end Sys2Proof.Machine
end

