-- ==== Sys2Proof/Machine/Stage.lean ====
section
/-! DEFINITION. Staged and active configuration and what each block does in a commit sample (R23, R58, R59, R69, R380). -/

namespace Sys2Proof.Machine

/-! ### Staged and active registers (R23, R24) -/

/-- The staged field that a key names. -/
def stagedFld (k : Nat) : Option Fld := (fieldsAt (k / 32)).find? fun f => f.lo == k % 32 && f.staged

/-- Keys of the fields whose staged or active value differs from reset. -/
def State.usedKeys (s : State) : List Nat := s.regs.map Prod.fst ++ s.active.map Prod.fst

/-- Every staged register value becomes active. -/
def State.regsCommit (s : State) : State :=
  { s with active := s.usedKeys.foldl (fun a k => match stagedFld k with
      | some f => AMap.set a k (s.rd f)
      | none => a) s.active }

/-- Every staged register value returns to the active one. -/
def State.regsDiscard (s : State) : State :=
  { s with regs := s.usedKeys.foldl (fun r k => match stagedFld k with
      | some f => AMap.set r k (s.cfg f)
      | none => r) s.regs }

/-- Every staged copy becomes equal to its active copy (R372, R435, command STAGE_DISCARD). -/
def State.discardStaged (s : State) : State :=
  let s1 := s.regsDiscard
  { s1 with
    ledger := { s1.ledger with staged := s1.ledger.active.map fun e => (e.1, e.2.w) },
    setsStaged := s1.sets,
    graph := { s1.graph with staged := none },
    swaths := s1.swaths.map (fun e => (e.1, { e.2 with staged := none })),
    dlv := { s1.dlv with queues := s1.dlv.queues.map fun e => (e.1, { e.2 with next := none }) },
    memu := { s1.memu with fenceNext := none },
    diag := { s1.diag with clNext := none },
    time := { s1.time with rearm := false } }

/-! ### Ports and axes in a commit (R40, R42, R48, R53, R58, R59) -/

/-- A port whose MODE changes starts again in STANDSTILL (R37, R59). At the enable of a port, from MODE 0, the valid levels it had before count
no more: a signal inside its undefined window is sensed low (R33). -/
def State.portRestart (s : State) (p : Nat) (fresh : Bool) : State :=
  let x := s.port p
  let held := if fresh then (List.range 3).foldl (fun a g => if x.raw.testBit g ∧ x.mid.testBit g = false then a + 2 ^ g else a) 0 else x.held
  (((s.wr (EP.STAT_MOTION p) 0).wr (EP.SPEED p) 0).wr (EP.STAT_LEVELS p) (held.xor (s.cfg (EP.CFG_INV p) % 8))).setPort p
    { stepAt := s.now, neg := x.neg, raw := x.raw, mid := x.mid, held := held, countAt := x.countAt }

/-- Port `p` at a commit: its mode, then the signals that can no longer be OPEN (R40, R59). -/
def State.portCommit (s : State) (was : Conf) (p : Nat) : State :=
  let s1 := if was (EP.CFG_MODE p) ≠ s.cfg (EP.CFG_MODE p) then s.portRestart p (decide (was (EP.CFG_MODE p) % 6 = 0 ∨ was (EP.CFG_MODE p) = 7)) else s
  let open_ := s1.rd (EP.STAT_OPEN p)
  let kept := (List.range 3).foldl (fun m g => if open_.testBit g ∧ s1.openable p g then m + 2 ^ g else m) 0
  (s1.wr (EP.STAT_OPEN p) kept).portFault p s.now

/-- The composition of an axis, or the mode of a port it takes, changes (R59). -/
def State.axisRebuilt (s : State) (was : Conf) (n : Nat) : Bool :=
  ([AX.CFG_COMB n, AX.CFG_SRC0 n, AX.CFG_SRC1 n].any fun f => decide (was f ≠ s.cfg f)) ||
  ([was (AX.CFG_SRC0 n), was (AX.CFG_SRC1 n)].any fun p => decide (was (EP.CFG_MODE p) ≠ s.cfg (EP.CFG_MODE p)) && s.dependsOn n p)

/-- Some staged field of an axis changes its value. -/
def State.axisTouched (s : State) (was : Conf) (n : Nat) : Bool :=
  [AX.GAIN0 n, AX.GAIN1 n, AX.TIMEUNIT n, AX.SLIP_THR n, AX.SLIP_TIME n, AX.UNCLIM n].any fun f => decide (was f ≠ s.cfg f)

/-- Axis `n` at a commit; `pos` is its position under the old configuration. A rebuilt axis keeps the position and goes to STANDSTILL,
REVERT_ARM returns a failed-over axis to source 0, PRESET_ARM sets the position, and both bits clear. -/
def State.axisCommit (s : State) (was : Conf) (pos : Quad) (n : Nat) : State :=
  let redo := s.axisRebuilt was n
  let s1 := if redo ∨ was (AX.TIMEUNIT n) ≠ s.cfg (AX.TIMEUNIT n) then
      s.setAxis n { s.axis n with pos := pos, baseAt := s.now, stepAt := if redo then s.now else (s.axis n).stepAt, wraps := 0, rest := if redo then some s.now else (s.axis n).rest }
    else s
  let s2 := if redo then s1.setMotion n 0 else s1
  let back := s2.on (AX.CTL_REVERT_ARM n) && s2.is (AX.STAT_FAILED_OVER n) && !s2.portFaulted (s2.src n 0)
  let s3 := if back then s2.wr (AX.STAT_FAILED_OVER n) 0 else s2
  let s4 := if redo || back || s3.axisTouched was n then s3.followSources n s.now else s3
  let s5 := if s4.on (AX.CTL_PRESET_ARM n) then
      (s4.setAxis n { s4.axis n with
        pos := BitVec.ofNat 64 (s4.cfg (AX.PRESET_LO_PRESET n) + 2 ^ 32 * s4.cfg (AX.PRESET_HI_PRESET n)), baseAt := s.now, wraps := 0 }).set1
        (AX.STAT_PRESET n)
    else s4
  (s5.wrBoth (AX.CTL_PRESET_ARM n) 0).wrBoth (AX.CTL_REVERT_ARM n) 0

/-- Ports, then axes; `pos` gives the positions before the commit. -/
def State.axesCommit (s : State) (was : Conf) (pos : Nat → Quad) : State :=
  let s1 := (List.range 8).foldl (fun s p => s.portCommit was p) s
  s1.forAxes fun s n => s.axisCommit was (pos n) n

/-! ### The ledger in a commit (R69 to R71) -/

/-- An active entry as a commit writes it. -/
def LEnt.arm (e : LEnt) (serial : Nat) : LAct :=
  { w := e, target := e.target, count := e.count, st := if e.action = 0 then .empty else .armed, serial := serial }

/-- Entries whose staged copy differs from the active one (R69). The words that were committed are compared: whether a target or COUNT that has
advanced, or DONE, makes an entry differ, the spec does not say; it does not (DESIGN CHOICE, log 73). -/
def State.ledgerNew (s : State) : List Nat :=
  (s.ledger.staged.map Prod.fst).filter fun i => decide (s.stagedEnt i ≠ (s.ent i).w)

/-- Replace those entries; a frozen issue of a replaced entry stays (R69, R70). -/
def State.ledgerReplace (s : State) (new : List Nat) : State :=
  new.foldl (fun s i =>
    let k := s.ledger.serial + 1
    ({ s with ledger := { s.ledger with serial := k } }).setEnt i ((s.stagedEnt i).arm k)) s

/-- Evaluate every active entry in the commit sample: as committed in it those that it replaces, those on an axis that it presets, and all of
them where it sets EN (R71, R79, R80). -/
def State.ledgerEval (s : State) (new : List Nat) (preset : Nat → Bool) (all : Bool) : State :=
  (s.ledger.active.map Prod.fst).foldl (fun s i => s.evalEntry s.now (all || new.contains i || preset (s.ent i).w.axis) i) s

/-! ### Swaths in a commit (R252) -/

/-- An axis is preset by the commit under way. -/
def State.presetDue (s : State) (n : Nat) : Bool := s.rd (AX.CTL_PRESET_ARM n) == 1

/-- A swath restarts at this commit: a staged descriptor, or a preset of its axis (R251, R252). -/
def State.swRestarts (s : State) (w : Nat) : Bool :=
  (s.swath w).staged.isSome || ((s.swath w).active.elim false fun d => s.presetDue d.axis)

/-- The staged descriptor becomes active. -/
def State.swTake (s : State) (w : Nat) : State :=
  match (s.swath w).staged with
  | some d => s.setSwath w { s.swath w with staged := none, active := some d }
  | none => s

/-! ### Fences in a commit (R280, R444) -/

/-- Engine `g` enters FENCED (R207). -/
def State.engFence (s : State) (g : Nat) : State :=
  let c := g / 8
  (((s.wr (CL.STAT_ENGFENCED c) ((s.rd (CL.STAT_ENGFENCED c)).lor (2 ^ (g % 8)))).wr (ENG.STAT_STATE g) 5).setEng g {}).fenceFall g

/-- Cluster `c` is fenced: its engines enter FENCED, CLUSTER_FENCED is raised (R444). -/
def State.clusterFence (s : State) (c : Nat) : State :=
  let s1 := (List.range 8).foldl (fun s d => s.engFence (8 * c + d)) s
  ((s1.wr (CL.STAT_FENCED c) 1).setDiag { s1.diag with clNext := none }).raise 0x1008 c []

/-- The staged fences take effect. -/
def State.fencesCommit (s : State) : State :=
  let s1 := match s.memu.fenceNext with
    | some ch => s.fenceCommit ch
    | none => s
  match s1.diag.clNext with
  | some c => s1.clusterFence c
  | none => s1

/-! ### The commit sample (R380) -/

/-- Everything staged becomes active in this sample, in the order of R58 and R71. -/
def State.commitAll (s : State) : State :=
  let was : Conf := s.cfg
  let pos := s.posAt
  let now := s.now
  let re (w : Nat) : Bool := s.swRestarts w
  let fresh (w : Nat) : Bool := (s.swath w).staged.isSome
  let s1 := s.forAxes fun s n => s.captureCentres n now
  let s2 := (List.range 2).foldl (fun s w => if re w then s.swRestartOld w else s) s1
  let s3 := s2.regsCommit
  let s4 := s3.axesCommit was (fun n => pos n now)
  let new := s4.ledgerNew
  let s5 := { s4.ledgerReplace new with sets := s4.setsStaged }
  let s6 := (((List.range 24).foldl (fun s n => s.linkCommit was n) s5).pocCommit).ledgerEval new s.presetDue (!s.on TRG.CFG_EN)
  let s7 := (List.range 2).foldl (fun s w => s.swTake w) s6
  let preset (w : Nat) : Bool := (s7.swath w).active.elim false fun d => s.presetDue d.axis
  let s8 := (List.range 2).foldl (fun s w => if re w then s.swRestartNew w (fresh w) (preset w) else s) s7
  let s9 : State := ((s8.graphCommit.dlvCommit was).recCommit was).fencesCommit.timCommit
  if s9.liteOn && !s.liteOn then s9.liteStart else s9

end Sys2Proof.Machine
end

