-- ==== Sys2Proof/Machine/Epochs.lean ====
section
/-! DEFINITION. Configuration epochs: boundaries, validation, arming, renewal, drop and commit; fences asked for by command and by the
warden (R279, R376 to R381, R443, R444). -/

namespace Sys2Proof.Machine

/-- Change the epoch unit. -/
def State.setEpoch (s : State) (u : EpochUnit) : State := { s with epoch := u }

/-! ### Named ranges of GDDR7 and fence cases (R279, R383, R444) -/

/-- Ranges of GDDR7 that the ingest contexts of a configuration name: maps, grids and statistics rings in use. -/
def ctxRanges (f : Conf) : List (Nat × Nat) :=
  ((List.range 24).filter (ctxOn f)).flatMap fun c =>
    (if f (CTX.DPC_STATIC c) = 1 ∧ bypassed f c 1 = false then [(mapAddr f c, 4 * mapCount f c)] else []) ++
    (if bypassed f c 2 then [] else [(shdAddr f c, shdLen f c)]) ++
    (if bypassed f c 3 then [] else [(base64 (f (CTX.STAT_ADDR_LO_ADDR c)) (f (CTX.STAT_ADDR_HI_ADDR c)), 4352)])

/-- Ranges that a graph names: flues, grants, its descriptor. -/
def Graph.ranges (g : Graph) : List (Nat × Nat) :=
  ((g.flues.filter fun x => decide (16 ≤ x.loc)).map fun x => (x.base, x.size)) ++ (g.grants.map fun x => (x.base, x.len)) ++ [(g.addr, g.total)]

/-- Ranges that a swath names: its frame store and its descriptor. -/
def SwDesc.ranges (d : SwDesc) : List (Nat × Nat) := [(d.store, d.storeLen), (d.addr, d.total)]

/-- Ranges of the active configuration. -/
def State.activeRanges (s : State) : List (Nat × Nat) :=
  ctxRanges s.cfg ++ (s.graph.active.toList.flatMap Graph.ranges) ++
  (List.range 2).flatMap fun w => (s.swath w).active.toList.flatMap SwDesc.ranges

/-- Ranges of the staged configuration. -/
def State.stagedRanges (s : State) : List (Nat × Nat) :=
  ctxRanges s.rd ++ (s.graph.staged.toList.flatMap Graph.ranges) ++
  (List.range 2).flatMap fun w => (s.swath w).staged.toList.flatMap SwDesc.ranges

/-- The case of R279 that refuses a channel fence. -/
def State.channelCase (s : State) : Option Nat :=
  if s.rd MEM.STAT_FENCE ≠ 4 then some 1
  else if s.is MEM.STAT_MIGRATING then some 2
  else if (s.activeRanges ++ s.stagedRanges).any (fun r => decide (r.2 ≠ 0 ∧ s.memTop / 4 * 3 < r.1 + r.2)) then some 3
  else none

/-- A graph places a rank on a cluster, or holds a flue or a sampler cache in its SRAM. -/
def Graph.touches (g : Graph) (c : Nat) : Bool :=
  g.nodes.any (fun n => bitsOf n.engines (8 * c) 8 != 0) || g.flues.any (fun x => x.loc == c) || g.smpc.testBit c

/-- The case of R444 that refuses a cluster fence. -/
def State.clusterCase (s : State) (c : Nat) : Option Nat :=
  if s.is (CL.STAT_FENCED c) then some 1
  else if (s.graph.active.toList ++ s.graph.staged.toList).any (fun g => g.touches c) then some 2
  else none

/-! ### Validation (R377) -/

/-- Sum of RATE over the staged enabled recorder inputs (R324). -/
def State.recRate (s : State) : Nat :=
  (List.range 16).foldl (fun a n => a + (if s.rd (IN.CFG_EN n) = 1 then s.rd (IN.RATE n) else 0)) 0

/-- The first check of R377 that the staged configuration fails: block code, check and the index concerned. -/
def State.epochCheck (s : State) : Option (Nat × Nat × Nat) :=
  let g := s.nextGraph.getD {}
  let sw (w : Nat) : Option (Nat × Nat × Nat) := (s.swath w).staged.bind fun d => (swathCondition g d).map fun k => (0x15, k, w)
  let fence : Option (Nat × Nat × Nat) := s.memu.fenceNext.bind fun ch => s.channelCase.map fun k => (0x0E, k, ch)
  ((((((ingChecks s.rd s.cfg g.flues).map fun x => (0x0A, x.1, x.2)).orElse fun _ =>
    sw 0).orElse fun _ =>
    sw 1).orElse fun _ =>
    if 2400000 < s.recRate then some (0x11, 1, 0) else none).orElse fun _ =>
    fence).orElse fun _ =>
    s.admValid.map fun x => (0x02, x.1, x.2)

/-! ### Boundaries (R376, R381) -/

/-- A position has reached or passed a target in a direction (R68). -/
def reached (pos target : Quad) (dir : Nat) : Bool :=
  let d := (pos - target).toInt
  if dir = 0 then decide (0 ≤ d) else decide (d ≤ 0)

/-- FRAME_NUM `num` meets a FRAME boundary `n`. -/
def frameMet (num n : Nat) : Bool := decide ((num + 2 ^ 32 - n % 2 ^ 32) % 2 ^ 32 < 2 ^ 31)

/-- The boundary condition of an AXIS or TIME epoch holds at `t`. -/
def State.boundaryAt (s : State) (e : Epoch) (t : Nat) : Bool :=
  if e.kind = 2 then reached (s.posAt e.sel t) e.target e.dir
  else e.kind == 3 && decide (e.value ≤ t)

/-- The boundary condition held already at arming. -/
def State.boundaryPast (s : State) (e : Epoch) : Bool :=
  if e.kind = 1 then
    match AMap.get 0 s.lastFrame (4 * e.sel + e.vc) with
    | 0 => false
    | k => frameMet (k - 1) e.value.toNat
  else s.boundaryAt e s.now

/-- The epoch that EPOCH_COMMIT names; none where W0 is out of range. Device times become physical instants. -/
def State.epochOf (s : State) (c : CmdPkt) : Option Epoch :=
  let w := c.arg 0
  let exp : Option Int := if c.arg64 3 = 0 then none else some ((c.arg64 3 : Int) - s.timeOfs)
  let e : Option Epoch :=
    match w % 4 with
    | 1 => if bitsOf w 8 5 < 24 then some { kind := 1, sel := bitsOf w 8 5, vc := bitsOf w 16 2, value := c.arg 1 } else none
    | 2 =>
      let target : Quad := BitVec.ofNat 64 (c.arg64 1)
      let side := if (s.posAt (bitsOf w 20 3) s.now - target).toInt ≤ 0 then 0 else 1
      let dir := bitsOf w 24 2
      if dir = 3 then none else some { kind := 2, sel := bitsOf w 20 3, dir := if dir = 2 then side else dir, target := target }
    | 3 => some { kind := 3, value := (c.arg64 1 : Int) - s.timeOfs }
    | _ => none
  e.map fun e => { e with expiry := exp, at_ := s.now }

/-! ### Arming, drop and commit (R377 to R380) -/

/-- EPOCH_COMMIT (R376, R377). -/
def cmdEpochCommit : CmdBody := fun c s =>
  match s.epochOf c with
  | none => (s, some (.err 0x0201 0))
  | some e =>
    match s.epochCheck with
    | some (b, k, i) => (s.dminRefused b i, some { status := 0x0501, detail := 256 * b + k, res := [i] })
    | none =>
      let n := s.epoch.count + 1
      let a := { e with number := n, past := s.boundaryPast e }
      (((s.setEpoch { s.epoch with armed := some a, count := n }).wr CMD.STAT_ARMED 1).wr CMD.EPOCH_ARM_ARM n, some (.ok [n]))

/-- The armed epoch is dropped with a cause (R379). -/
def State.epochDrop (s : State) (cause detail : Nat) : State :=
  match s.epoch.armed with
  | none => s
  | some e =>
    (((s.setEpoch { s.epoch with armed := none }).wr CMD.STAT_ARMED 0).wr CMD.EPOCH_ARM_ARM 0).raise 0x0102 0
      (leBytes 4 e.number ++ leBytes 4 cause ++ leBytes 4 detail)

/-- EPOCH_CANCEL (R379). -/
def cmdEpochCancel : CmdBody := fun _ s =>
  match s.epoch.armed with
  | none => (s, some { status := 0x0304, detail := 0, res := [s.rd CMD.EPOCH_LAST_LAST] })
  | some e => (s.epochDrop 4 0, some (.ok [e.number]))

/-- EPOCH_STATUS. -/
def cmdEpochStatus : CmdBody := fun _ s =>
  (s, some (.ok [s.rd CMD.EPOCH_ARM_ARM, s.rd CMD.EPOCH_LAST_LAST, s.rd CMD.EPOCH_TIME_LO_TIME, s.rd CMD.EPOCH_TIME_HI_TIME]))

/-- STAGE_DISCARD. -/
def cmdStageDiscard : CmdBody := fun _ s => (s.discardStaged, some (.ok []))

/-- Report a commit (R380). -/
def State.epochReport (s : State) (number kind : Nat) (past : Bool) : State :=
  (((s.wr CMD.EPOCH_LAST_LAST number).wr CMD.EPOCH_TIME_LO_TIME s.dev).wr CMD.EPOCH_TIME_HI_TIME (s.dev / 2 ^ 32)).raise 0x0101 0
    (leBytes 4 number ++ leBytes 4 kind ++ leBytes 8 s.dev ++ leBytes 4 (b2n past))

/-- The arm of the epoch has lapsed at `t`: it was not renewed for two ticks, or service firmware sent its last heartbeat 2 ms ago (R379,
R435). -/
def State.epochLapsed (s : State) (t : Nat) : Bool :=
  s.epoch.armed.elim false fun e => decide (min e.at_ s.diag.beatAt + 2000000 ≤ t)

/-- The armed epoch commits now. The admission test runs once more against what the commit makes active, with every graph that will run
(R296); an epoch that fails it is refused whole and dropped (R379). -/
def State.epochCommit (s : State) : State :=
  match s.epoch.armed with
  | none => s
  | some e =>
    match s.admValidOf s.admAt with
    | some (k, i) => (s.dminRefused 2 i).epochDrop 1 (256 * 2 + k)
    | none =>
      let s1 := ((s.setEpoch { s.epoch with armed := none }).wr CMD.STAT_ARMED 0).wr CMD.EPOCH_ARM_ARM 0
      s1.commitAll.epochReport e.number e.kind e.past

/-- A FRAME_START that is about to be forwarded meets the boundary of an armed epoch: the commit precedes it (R376, R380). -/
def State.epochFrame (s : State) (link vc num : Nat) : State :=
  match s.epoch.armed with
  | some e => if e.kind = 1 ∧ e.sel = link ∧ e.vc = vc ∧ frameMet num e.value.toNat ∧ s.epochLapsed s.now = false then s.epochCommit else s
  | none => s

/-- The arm is renewed at a tick, or the epoch is dropped (R379, R395). -/
def State.epochRenew (s : State) : State :=
  match s.epoch.armed with
  | none => s
  | some e =>
    if s.epochLapsed s.now then s.epochDrop 2 0
    else if s.cmd.injLapse ≠ 0 ∨ s.svcRunning = false ∨ s.diag.hang then
      let s1 := { s with cmd := { s.cmd with injLapse := s.cmd.injLapse - 1 } }
      if 1 ≤ e.missed then s1.epochDrop 2 0 else s1.setEpoch { s.epoch with armed := some { e with missed := e.missed + 1 } }
    else
      match s.epochCheck with
      | some (b, k, i) => (s.dminRefused b i).epochDrop 1 (256 * b + k)
      | none => s.setEpoch { s.epoch with armed := some { e with missed := 0, at_ := s.now } }

/-! ### Fences (R279, R385, R443, R444) -/

/-- FENCE_CHANNEL: service firmware checks, the warden checks again and stages the fence (R279, R385). -/
def cmdFenceChannel : CmdBody := fun c s =>
  if 3 < c.arg 0 then (s, some (.err 0x0201 0))
  else
    match s.channelCase with
    | some k => (s, some (.err 0x0402 k))
    | none =>
      match s.rd CMD.STAT_WARDEN with
      | 1 => (s.setMemu { s.memu with fenceNext := some (c.arg 0) }, some (.staged_ []))
      | 3 => (s, some (.err 0x0A01 0))
      | _ => (s, none)

/-- FENCE_CLUSTER (R385, R444). -/
def cmdFenceCluster : CmdBody := fun c s =>
  if 15 < c.arg 0 then (s, some (.err 0x0201 0))
  else
    match s.clusterCase (c.arg 0) with
    | some k => (s, some (.err 0x0301 k))
    | none =>
      match s.rd CMD.STAT_WARDEN with
      | 1 => (s.setDiag { s.diag with clNext := some (c.arg 0) }, some (.staged_ []))
      | 3 => (s, some (.err 0x0A01 0))
      | _ => (s, none)

/-- The case that refuses a fence the warden wants. -/
def State.autoCase (s : State) (kind i : Nat) : Option Nat := if kind = 0 then s.channelCase else s.clusterCase i

/-- Report a fence that the warden wants and may not commit. -/
def State.fenceWanted (s : State) (kind i case : Nat) : State := s.raise 0x1009 0 (leBytes 4 kind ++ leBytes 4 i ++ leBytes 4 case)

/-- The warden commits a fence of its own, or reports it as wanted (R443); a halted warden changes no fence (R386). -/
def State.autoFence (s : State) (x : AutoFence) : State :=
  let s1 := s.setDiag { s.diag with autos := s.diag.autos.erase x }
  if s.rd CMD.STAT_WARDEN = 3 then s1
  else
    match s1.autoCase x.kind x.idx with
    | some k =>
      (s1.setDiag { s1.diag with wanted := s1.diag.wanted ++ [{ kind := x.kind, idx := x.idx, case := k, at_ := s.now }] }).fenceWanted
        x.kind x.idx k
    | none =>
      let n := s.epoch.count + 1
      let s2 := s1.setEpoch { s1.epoch with count := n }
      let keep := s2.memu.fenceNext
      let s3 := if x.kind = 0 then let y := s2.fenceCommit x.idx; y.setMemu { y.memu with fenceNext := keep }
        else let y := s2.clusterFence x.idx; y.setDiag { y.diag with clNext := s2.diag.clNext }
      s3.epochReport n 3 false

/-- Fences of the warden whose commit instant has come. -/
def State.autoFences (s : State) : State :=
  (s.diag.autos.filter fun x => decide (x.at_ ≤ s.now)).foldl (fun s x => s.autoFence x) s

/-! ### Rows -/

/-- Row EPOCH_COMMIT_SAMPLE: the first sample in which the armed AXIS or TIME boundary holds, or the warden's own (R380, R443). -/
def execEpochCommitSample (t : Nat) (s : State) : Host.Outcome State Fault Refusal :=
  let due := s.epoch.armed.elim false fun e => s.boundaryAt e t && !s.epochLapsed t
  let own := s.diag.autos.any fun x => decide (x.at_ ≤ t)
  .next (if due ∨ own then
    let s1 := if due then (s.at t).epochCommit else s.at t
    if own then s1.autoFences else s1
  else s)

/-- Row EPOCH_COMMIT. -/
def execEpochCommit (p : Cmd) (t : Nat) (s : State) : Host.Outcome State Fault Refusal :=
  .next (s.svcCommand (cmdPkt p 0x0102 t) [0, 1, 2, 3, 4] true cmdEpochCommit)
/-- Row EPOCH_CANCEL. -/
def execEpochCancel (p : Cmd) (t : Nat) (s : State) : Host.Outcome State Fault Refusal :=
  .next (s.svcCommand (cmdPkt p 0x0103 t) [] false cmdEpochCancel)
/-- Row EPOCH_STATUS. -/
def execEpochStatus (p : Cmd) (t : Nat) (s : State) : Host.Outcome State Fault Refusal :=
  .next (s.svcCommand (cmdPkt p 0x0104 t) [] false cmdEpochStatus)
/-- Row STAGE_DISCARD: refused while an epoch is armed. -/
def execStageDiscard (p : Cmd) (t : Nat) (s : State) : Host.Outcome State Fault Refusal :=
  .next (s.svcCommand (cmdPkt p 0x0105 t) [] true cmdStageDiscard)

/-- Row EPOCH_LAPSE: the arm has not been renewed for two ticks, or the heartbeats have stopped for 2 ms (R379, R435). -/
def execEpochLapse (t : Nat) (s : State) : Host.Outcome State Fault Refusal :=
  .next (match s.epoch.armed with
    | some _ => if s.epochLapsed t then (s.at t).epochDrop 2 0 else s
    | none => s)

/-- Row EPOCH_EXPIRY: device time reaches the expiry (R379, R381). -/
def execEpochExpiry (t : Nat) (s : State) : Host.Outcome State Fault Refusal :=
  .next (match s.epoch.armed with
    | some e => if e.expiry.elim false (fun x => decide (x ≤ t)) then (s.at t).epochDrop 3 0 else s
    | none => s)

/-- Row FENCE_CHANNEL. -/
def execFenceChannel (p : Cmd) (t : Nat) (s : State) : Host.Outcome State Fault Refusal :=
  .next (s.svcCommand (cmdPkt p 0x0A01 t) [0] true cmdFenceChannel)
/-- Row FENCE_CLUSTER. -/
def execFenceCluster (p : Cmd) (t : Nat) (s : State) : Host.Outcome State Fault Refusal :=
  .next (s.svcCommand (cmdPkt p 0x0A02 t) [0] true cmdFenceCluster)

/-- Row FENCE_WANTED: each second a fence that the warden wants is reported again while its refusal lasts (R443). -/
def execFenceWanted (t : Nat) (s : State) : Host.Outcome State Fault Refusal :=
  .next (match s.diag.wanted.find? fun x => decide (x.at_ + 1000000000 ≤ t) with
    | none => s
    | some x =>
      let s1 := s.at t
      match s1.autoCase x.kind x.idx with
      | some k =>
        (s1.setDiag { s1.diag with wanted := s1.diag.wanted.map fun y => if y = x then { y with case := k, at_ := t } else y }).fenceWanted
          x.kind x.idx k
      | none => s1.setDiag { s1.diag with wanted := s1.diag.wanted.erase x })

end Sys2Proof.Machine
end

