-- ==== Sys2Proof/Machine/Diag.lean ====
section
/-! DEFINITION. The warden's watch over service firmware, engine rotation through self-test, telemetry and the injections of the DIA
block (R433 to R450). -/

namespace Sys2Proof.Machine

/-! ### Commands that end without their own work (R372, R374, R435) -/

/-- A journal entry that replies to nobody. -/
def JEnt.mute (x : JEnt) : JEnt := { x with cmd := none }

/-- A two-wire port whose transfer and bus clear reply to nobody. -/
def TwPort.mute (x : TwPort) : TwPort :=
  { x with cur := x.cur.map (fun y => { y with replied := true }), clearCmd := none }

/-- The recorder's journal entries reply to nobody. -/
def Recorder.mute (r : Recorder) : Recorder :=
  let page (p : JPage) : JPage := { p with ents := p.ents.map JEnt.mute }
  { r with jq := r.jq.map JEnt.mute, jprog := r.jprog.map fun p => { p with page := page p.page } }

/-- Forget the service commands whose work goes on: two-wire transfers, marks and pins being journalled, self-tests. -/
def State.cmdForget (s : State) : State :=
  { s with tw := s.tw.map (fun e => (e.1, e.2.mute)), rcd := s.rcd.mute, diag := { s.diag with tcmds := [] } }

/-- A command of the warden. -/
def CmdPkt.isWarden (c : CmdPkt) : Bool := c.op / 256 == 0x0B

/-! ### The service watch (R435 to R437) -/

/-- TMO in force in ns. -/
def State.svcTmo (s : State) : Nat := 1000000 * max 10 (s.rd DIA.SVC_CFG_TMO)

/-- Row SERVICE_HEARTBEAT: service firmware runs and its heartbeats are not suppressed (R435). -/
def execServiceHeartbeat (t : Nat) (s : State) : Host.Outcome State Fault Refusal :=
  .next (if s.svcRunning ∧ s.diag.hang = false then (s.at t).setDiag { s.diag with beatAt := t } else s)

/-- Service firmware has stopped: FAULT replies for what it had taken, and the reload where it is allowed (R435, R437). -/
def State.svcStop (s : State) : State :=
  let mine := (s.cmd.running ++ s.cmd.waiting).filter fun c => !c.isWarden
  let s1 := mine.foldl (fun s c => s.cmdReply c (.err 0x0A01 0)) ((s.epochDrop 2 0).wr CMD.STAT_SVC 3)
  let s2 := ({ s1 with cmd := { s1.cmd with waiting := s1.cmd.waiting.filter CmdPkt.isWarden } }).cmdForget
  let s3 := (s2.set1 DIA.SVC_STAT_STOPPED_STKY).raise 0x1001 0
    (leBytes 4 ((s.now - s.diag.beatAt) / 1000000) ++ leBytes 4 mine.length)
  let old := s.diag.stops
  let held := decide (2 ≤ old.length) && decide (s.now ≤ old.getD (old.length - 2) 0 + 10000000000)
  let s4 := s3.setDiag { s3.diag with hang := false, stops := (old ++ [s.now]).drop (old.length - 1), bootAt := s.now }
  if held || !s4.is DIA.SVC_CFG_AUTORESTART then s4
  else
    let r := s4.imageSelect 2
    if r.1.isSome then r.2.wr CMD.STAT_SVC 1 else r.2

/-- Row SERVICE_STOPPED: no heartbeat for TMO ms (R435). -/
def execServiceStopped (t : Nat) (s : State) : Host.Outcome State Fault Refusal :=
  .next (if s.svcRunning ∧ s.diag.beatAt + s.svcTmo ≤ t then (s.at t).svcStop else s)

/-- Row SERVICE_RESTARTED: the reloaded firmware reads RUNNING with every staged copy equal to its active copy (R435). -/
def execServiceRestarted (t : Nat) (s : State) : Host.Outcome State Fault Refusal :=
  .next (if s.pwr.st = .up ∧ s.rd CMD.STAT_SVC = 1 then
    let s1 := (((s.at t).wr CMD.STAT_SVC 2).discardStaged).addSat DIA.SVC_STAT_RESTARTS 1
    (s1.setDiag { s1.diag with beatAt := t }).raise 0x1002 0 (leBytes 4 (s1.rd DIA.SVC_STAT_RESTARTS))
  else s)

/-! ### Standbys (R438, R439) -/

/-- Standby `n` beside DIA_SBn. -/
def State.sby (s : State) (n : Nat) : Standby := AMap.get {} s.diag.standby n

/-- Change standby `n`. -/
def State.setSby (s : State) (n : Nat) (x : Standby) : State :=
  s.setDiag { s.diag with standby := AMap.set s.diag.standby n x }

/-- STATE of standby `n`: 0 IDLE, 1 SELFTEST, 2 SERVING, 3 HELD, 4 FAILED. -/
def State.sbState (s : State) (n : Nat) : Nat := s.rd (DIA.SB_STATE n)

/-- A self-test of an engine is in progress. -/
def State.testing (s : State) (g : Nat) : Bool := s.diag.tests.any fun e => e.1 == g

/-- A self-test of an engine begins; the engine's STATE reads SELFTEST (R440). -/
def State.testBegin (s : State) (g : Nat) : State :=
  let old := if s.rd (ENG.STAT_STATE g) = 4 then 0 else s.rd (ENG.STAT_STATE g)
  (s.setDiag { s.diag with tests := AMap.set s.diag.tests g (s.clocks, old) }).wr (ENG.STAT_STATE g) 4

/-- An active placement uses an engine: the active graph, or the one that is being drained (R214). -/
def State.placed (s : State) (e : Nat) : Bool := ((s.graph.active.getD {}).place e).isSome || s.engOld e

/-- The engine is drained for takeover (R439). -/
def State.takeDrained (s : State) (g : Nat) : Bool :=
  let e := s.eng g
  (match e.wait with
    | some (.item _) => true
    | _ => false) && s.rd (ENG.STAT_STATE g) == 1 && decide (e.outCur = []) && e.dma.all fun c => decide (c.2 = [])

/-- Rotation goes on with step 1: the standby tests itself (R438). -/
def State.rotBegin (s : State) (n : Nat) : State :=
  let x := s.sby n
  if s.is DIA.ROT_CFG_EN ∧ s.rd CMD.STAT_WARDEN = 1 ∧ s.sbState n = 0 ∧ x.ready = false ∧ x.take = none then
    ((s.testBegin (128 + n)).wr (DIA.SB_STATE n) 1)
  else s

/-- The next engine of a group in ascending index that is not fenced, from `k` on, with how many wraps lie between. -/
def State.nextEngine (s : State) (n k : Nat) : Nat → Option (Nat × Nat)
  | 0 => none
  | f + 1 =>
    if s.engFenced k then
      let r := if k = 32 * n + 31 then s.nextEngine n (32 * n) f else s.nextEngine n (k + 1) f
      if k = 32 * n + 31 then r.map fun x => (x.1, x.2 + 1) else r
    else some (k, 0)

/-- The engine that the standby takes, with the state in which NEXT and PASSES have stepped on. -/
def State.takeNext (s : State) (n : Nat) : Option (Nat × State) :=
  match (s.sby n).first.find? fun g => !s.engFenced g with
  | some g => some (g, s.setSby n { s.sby n with first := (s.sby n).first.filter fun x => x != g })
  | none =>
    (s.nextEngine n (s.rd (DIA.SB_NEXT n)) 32).map fun r =>
      let last := decide (r.1 = 32 * n + 31)
      let s1 := s.wr DIA.ROT_CNT_PASSES (s.rd DIA.ROT_CNT_PASSES + r.2 + b2n last)
      (r.1, s1.wr (DIA.SB_NEXT n) (if last then 32 * n else r.1 + 1))

/-- Row ROTATION_TAKE: at a multiple of PERIOD, or at once for an engine due out of turn, the standby takes an engine; one that no
active placement uses is tested in place (R438, R439). -/
def execRotationTake (n : Fin 4) (t : Nat) (s : State) : Host.Outcome State Fault Refusal :=
  let x := s.sby n
  let due := s.devAt t % (1000000 * max 1 (s.rd DIA.ROT_CFG_PERIOD)) == 0 || x.first.any fun g => !s.engFenced g
  .next (if s.is DIA.ROT_CFG_EN ∧ s.rd CMD.STAT_WARDEN = 1 ∧ s.sbState n = 0 ∧ x.ready ∧ x.take = none ∧ due then
    match (s.at t).takeNext n with
    | none => s
    | some (g, s1) =>
      if s1.testing g then s
      else if s1.placed g then s1.setSby n { s1.sby n with take := some (g, t), ready := false }
      else (s1.setSby n { s1.sby n with ready := false }).testBegin g
  else s)

/-- Move a kernel from one engine to another: the state of R176, DMEM and the DMA descriptors; IMEM is loaded beforehand (R439). -/
def State.moveKernel (s : State) (src dst : Nat) : State :=
  let e := s.eng src
  let clean := s.memu.faults.filter fun f => !decide (wordKey (.imem dst) 0 ≤ f.1 ∧ f.1 ≤ wordKey (.imem dst) 0x3FFF)
  let s1 := (s.setMemu { s.memu with faults := clean })
  let s2 := { s1 with mems := { s1.mems with imem := memsPut s1.mems.imem dst (AMap.get [] s1.mems.imem src) } }
  let s3 := s2.memCopy (.dmem src) 0 (.dmem dst) 0 0x8000
  let inj (x y : Engine) : Engine := { x with injIll := y.injIll, injDmem := y.injDmem, injImem := y.injImem }
  let s4 := (s3.setEng dst (inj e (s.eng dst))).setEng src (inj {} e)
  ((s4.wr (ENG.STAT_STATE dst) (s.rd (ENG.STAT_STATE src))).wr (ENG.PC dst) (s.engPc src)).wr (ENG.EXC_CAUSE dst) 0

/-- Row STANDBY_TAKEOVER: at the engine's first drained clock its state moves to the standby, and it tests; without a standby that can
serve it the engine tests where it stands (R439, R441). -/
def execStandbyTakeover (n : Fin 4) (t : Nat) (s : State) : Host.Outcome State Fault Refusal :=
  .next (match (s.sby n).take with
    | none => s
    | some (g, _) =>
      if s.takeDrained g = false then s
      else
        let s1 := (s.at t).setSby n { s.sby n with take := none, back := false }
        if s.sbState n = 4 then s1.testBegin g
        else
          let s2 := ((s1.moveKernel g (128 + n)).wr (ENG.STAT_SERVING (128 + n)) 1).wr (ENG.STAT_SERVES (128 + n)) g
          let s3 := ((s2.wr (DIA.SB_SERVES n) g).wr (DIA.SB_STATE n) 2).wr (ENG.STAT_STATE g) 0
          (s3.testBegin g).raise 0x1003 n (leBytes 4 g))

/-- A command that waits for the test of an engine replies. -/
def State.testReply (s : State) (g res addr : Nat) : State :=
  match s.diag.tcmds.find? fun e => e.1 == g with
  | some e => (s.setDiag { s.diag with tcmds := s.diag.tcmds.filter fun x => x.1 != g }).cmdReply e.2 (.ok [res, addr])
  | none => s

/-- Record a result (R440). -/
def State.testResult (s : State) (g res addr : Nat) : State :=
  (((s.wr DIA.ST_LAST_ENGINE g).wr DIA.ST_LAST_RESULT res).wr DIA.ST_ADDR_ADDR addr).testReply g res addr

/-- DRAINTMO in force in ns. -/
def State.drainTmo (s : State) : Nat := 1000000 * max 1 (s.rd DIA.ROT_CFG_DRAINTMO)

/-- Row TAKEOVER_SKIPPED: the engine was not drained within DRAINTMO; the result is NOT_DRAINED (R439, R440). -/
def execTakeoverSkipped (n : Fin 4) (t : Nat) (s : State) : Host.Outcome State Fault Refusal :=
  .next (match (s.sby n).take with
    | none => s
    | some (g, at_) =>
      if at_ + s.drainTmo ≤ t then
        let s1 := ((s.at t).setSby n { s.sby n with take := none }).addSat DIA.ROT_CNT_SKIPPED 1
        ((s1.raise 0x100A g []).testResult g 5 0).rotBegin n
      else s)

/-! ### Results (R440, R441) -/

/-- The warden fences an engine; a second fence in a cluster may ask for the cluster's (R441, R443). -/
def State.fenceEngine (s : State) (g : Nat) : State :=
  let c := g / 8
  let m := (s.rd (CL.STAT_ENGFENCED c)).lor (2 ^ (g % 8))
  let s1 := (((s.wr (CL.STAT_ENGFENCED c) m).wr (ENG.STAT_STATE g) 5).raise 0x1006 g [])
  let s2 := s1.fenceFall g
  let two := decide (2 ≤ ((List.range 8).filter fun d => m.testBit d).length)
  if two && s2.is DIA.AUTO_CL_EN then s2.autoAsk 1 c else s2

/-- A rank leaves its node for good (R222, R223, R441). -/
def State.rankLost (s : State) (gen k r : Nat) : State :=
  let n := s.gnode gen k
  let add (l : List Nat) : List Nat := if l.contains r then l else l ++ [r]
  let s1 := (s.setGnode gen k { n with faulted := add n.faulted, gone := add n.gone }).dropRank gen k r
  let s2 := (List.range 4).foldl (fun s p =>
    let port := (s.nodeDef gen k).so.getD p {}
    if port.used then s.flueAdvance gen port.flue else s) s1
  let s3 := s2.graphEvent 0x1406 k gen
  let s4 : State := { s3 with dlv := { s3.dlv with seen := [] } }
  if (s4.nodeDef gen k).ranks.length ≤ (s4.gnode gen k).gone.length then s4.graphFail gen k else s4

/-- What a result does to an engine in service of group `n` (R439, R441). -/
def State.testService (s : State) (n g res old : Nat) : State :=
  let served := s.runner g != g
  if s.engFenced g then s.wr (ENG.STAT_STATE g) 5
  else if res = 0 then
    if served then s.setSby n { s.sby n with back := true } else s.wr (ENG.STAT_STATE g) old
  else if s.is DIA.AUTO_ENG_EN = false then (if served then s else s.wr (ENG.STAT_STATE g) old)
  else
    let s1 := s.fenceEngine g
    if served then ((s1.wr (DIA.SB_STATE n) 3).setSby n { s1.sby n with back := false }).raise 0x1007 n []
    else
      let e := s.eng g
      if s.placed g ∧ e.bound then (s1.setEng g { e with bound := false }).rankLost e.gen e.node e.rank else s1

/-- A self-test ends with a result (R438 to R442). -/
def State.testEnd (s : State) (g res addr old : Nat) : State :=
  let s0 := s.setDiag { s.diag with tests := s.diag.tests.filter fun e => e.1 != g }
  let s1 := s0.testResult g res addr
  let s2 := if res = 0 then s1 else s1.raise 0x1005 g (leBytes 4 res ++ leBytes 4 addr)
  if 128 ≤ g then
    let n := g - 128
    let s3 := s2.wr (ENG.STAT_STATE g) 6
    if res = 0 then
      if s3.sbState n = 1 then (s3.wr (DIA.SB_STATE n) 0).setSby n { s3.sby n with ready := true } else s3
    else (((s3.wr (DIA.SB_STATE n) 4).setSby n { s3.sby n with ready := false })).raise 0x1007 n []
  else (s2.testService (g / 32) g res old).rotBegin (g / 32)

/-- Row SELFTEST_DONE: 24,000,000 engine clocks after its start a self-test ends; an injected failure reports DMEM (R433, R440). -/
def execSelftestDone (g : Fin 132) (res : Fin 5) (addr : Word) (t : Nat) (s : State) : Host.Outcome State Fault Refusal :=
  .next (match s.diag.tests.find? fun e => e.1 == g.val with
    | none => s
    | some e =>
      let s1 := s.at t
      if s1.clocks < e.2.1 + 24000000 * 1000 then s
      else
        let inj := s.diag.stFail.contains g.val
        let s2 := s1.setDiag { s1.diag with stFail := s1.diag.stFail.filter fun x => x != g.val }
        let r := if inj then 2 else res.val
        s2.testEnd g r (if r = 0 then 0 else addr.toNat) e.2.2)

/-- Row STANDBY_RELEASE: after a PASS the state moves back at the standby's first drained clock; a standby whose engine no active
placement names any longer is released (R439, R441). -/
def execStandbyRelease (n : Fin 4) (t : Nat) (s : State) : Host.Outcome State Fault Refusal :=
  let g := s.rd (DIA.SB_SERVES n)
  let serving := s.sbState n == 2 || s.sbState n == 3
  let back := (s.sby n).back && s.takeDrained (128 + n)
  let idle := !s.placed g && !s.testing g
  .next (if serving && (back || idle) then
    let s0 := s.at t
    let s1 := if idle then
        (s0.setEng (128 + n) {}).wr (ENG.STAT_STATE g) (if s.engFenced g then 5 else 0)
      else s0.moveKernel (128 + n) g
    let s2 := ((s1.wr (ENG.STAT_SERVING (128 + n)) 0).wr (ENG.STAT_SERVES (128 + n)) 0).wr (ENG.STAT_STATE (128 + n)) 6
    let s3 := ((s2.wr (DIA.SB_SERVES n) 255).wr (DIA.SB_STATE n) 0).setSby n { s2.sby n with back := false, ready := false }
    (s3.raise 0x1004 n (leBytes 4 g)).rotBegin n
  else s)

/-- ENGINE_TEST (R442): BUSY while the group's standby serves another engine, is to take one or tests itself. -/
def cmdEngineTest : CmdBody := fun c s =>
  let g := c.arg 0
  let n := if g < 128 then g / 32 else g - 128
  let st := s.sbState n
  let other := (st == 2 || st == 3) && s.rd (DIA.SB_SERVES n) != g
  let wait (s : State) : State := s.setDiag { s.diag with tcmds := AMap.set s.diag.tcmds g c }
  if 131 < g then (s, some (.err 0x0201 0))
  else if st = 1 ∨ other ∨ ((s.sby n).take.elim false fun x => x.1 != g) then (s, some (.err 0x0302 0))
  else if s.testing g ∨ (s.sby n).take.isSome then (wait s, none)
  else if 128 ≤ g then
    let s1 := s.testBegin g
    (wait (if st = 0 then s1.wr (DIA.SB_STATE n) 1 else s1), none)
  else if s.placed g ∧ s.engFenced g = false ∧ s.runner g = g then
    (wait (s.setSby n { s.sby n with take := some (g, s.now), ready := false }), none)
  else (wait ((s.setSby n { s.sby n with back := false }).testBegin g), none)

/-- Row ENGINE_TEST. -/
def execEngineTest (p : Cmd) (t : Nat) (s : State) : Host.Outcome State Fault Refusal :=
  .next (s.svcCommand (cmdPkt p 0x0A03 t) [0] false cmdEngineTest)

/-! ### Telemetry (R448) -/

/-- The counters that the record gives per period: recorder drops, corrections in regions 0-3 and 4-59, uncorrectable words, frames
admitted, refused and LATE. -/
def State.telCounts (s : State) : List Nat :=
  let sum (l : List Nat) (f : Nat → Fld) : Nat := l.foldl (fun a k => a + s.rd (f k)) 0
  [sum (List.range 16) IN.DROP, sum (List.range 4) MEMR.CE, sum ((List.range 56).map (4 + ·)) MEMR.CE, sum (List.range 60) MEMR.UE,
   sum (List.range 62) DQ.NADM, sum (List.range 62) DQ.NREF, sum (List.range 62) DQ.NLATE]

/-- Bit mask of the indexes below `n` that satisfy a test. -/
def maskOf (n : Nat) (p : Nat → Bool) : Nat := (List.range n).foldl (fun m k => if p k then m + 2 ^ k else m) 0

/-- The 256 bytes of a telemetry record. -/
def State.telRecord (s : State) : List Nat :=
  let d := (List.range 7).map fun k => s.telCounts.getD k 0 - s.diag.telBase.getD k 0
  let n (k : Nat) : Nat := d.getD k 0
  let flags := s.rd THM.STAT_FALLBACK + 2 * s.rd THM.STAT_NAND_OK + 4 * b2n (s.rd REC.STAT_STATE == 3) +
    8 * b2n (!s.svcRunning) + 16 * s.rd DIA.LOCK_INJ
  let body := leBytes 2 1 ++ leBytes 2 s.moduleId ++ leBytes 4 (s.rd DIA.TEL_SEQ_SEQ) ++ leBytes 8 s.dev ++
    leBytes 4 (s.rd THM.PIN_MW) ++ ((List.range 8).flatMap fun r => leBytes 4 (s.rd (THM.RAIL_P_MW r))) ++
    leBytes 2 (s.rd THM.TJ) ++ leBytes 2 (s.rd THM.TBAND) ++ leBytes 2 (s.rd THM.TNAND_MAX) ++ leBytes 2 (s.rd THM.TNAND_MIN) ++
    leBytes 2 (s.rd THM.TCASE_CASE) ++
    [s.rd THM.STAT_BAND, s.rd THM.STAT_THROTTLE, s.rd TIM.STAT_STATE, s.rd SYS.PWR_STAT_STATE] ++ leBytes 2 flags ++
    leBytes 4 (s.rd TIM.OFFSET_O) ++ leBytes 4 (if s.rd TIM.STAT_STATE = 3 then s.holdMs else 0) ++ leBytes 2 (s.rd REC.LIFE_REMAIN) ++ [0, 0] ++
    leBytes 4 (s.rcd.budget * 65536 / s.lifeLeft) ++ leBytes 4 (s.rd REC.HOURS) ++ leBytes 4 (n 0) ++ leBytes 4 (n 1) ++ leBytes 4 (n 2) ++ leBytes 4 (n 3) ++
    leBytes 4 (s.rd DLV.USE_HOST_USE) ++ leBytes 4 (s.rd DLV.USE_GDDR_USE) ++ leBytes 4 (s.rd DLV.CAP_HOST_CAP) ++ leBytes 4 (s.rd DLV.CAP_GDDR_CAP) ++
    leBytes 8 (maskOf 64 fun q => s.qState q == 1) ++ leBytes 8 (maskOf 64 fun q => s.qState q == 2 || s.qState q == 3) ++
    leBytes 16 (maskOf 128 s.engFenced) ++ leBytes 2 (maskOf 16 fun c => s.is (CL.STAT_FENCED c)) ++
    [s.rd MEM.STAT_FENCE, s.rd CMD.STAT_SVC] ++ ((List.range 4).map fun k => s.rd (DIA.SB_SERVES k)) ++
    leBytes 4 (maskOf 24 fun k => s.rd (LNK.STAT_STATE k) == 4) ++ leBytes 4 (maskOf 24 fun k => s.is (LNK.STAT_LLAT_VALID k)) ++
    leBytes 4 (maskOf 24 fun k => s.poc k == 2) ++ leBytes 4 (s.rd LNKG.POC_TOTAL_TOTAL) ++
    leBytes 4 (n 4) ++ leBytes 4 (n 5) ++ leBytes 4 (n 6) ++ List.replicate 64 0
  body ++ leBytes 4 (crc32c body)

/-- PERIOD of telemetry in force in ns. -/
def State.telPeriod (s : State) : Nat := 1000000 * max 10 (min 10000 (s.rd DIA.TEL_CFG_PERIOD))

/-- A telemetry record is written: to the peek FIFO, which keeps the last four, and to DQ62 where it is asked for (R431, R448). -/
def State.telWrite (s : State) : State :=
  let b := s.telRecord
  let p := s.thm.tlPeek ++ [toWords b]
  let keep := p.drop (p.length - 4)
  let s1 := (((s.setThm { s.thm with tlPeek := keep }).wr THM.TLPK_STAT_LEVEL keep.length).wr DIA.TEL_SEQ_SEQ (s.rd DIA.TEL_SEQ_SEQ + 1))
  let s2 := s1.setDiag { s1.diag with telAt := s.now, telBase := s.telCounts }
  if s2.is DIA.TEL_CFG_DQ62 = false then s2
  else if (s2.dq 62).credits = [] ∨ s2.cfg (DQ.CFG_EN 62) = 0 then
    (s2.addSat DIA.TEL_DROP_DROP 1).raiseJoin (fun a b => leBytes 4 (leNat a + leNat b)) 0x100B 0 s2.now (leBytes 4 1)
  else s2.ownItem 62 2 b

/-- Row TELEMETRY_RECORD: every PERIOD ms the warden writes a record (R448). -/
def execTelemetryRecord (t : Nat) (s : State) : Host.Outcome State Fault Refusal :=
  .next (if s.pwr.st = .up ∧ s.is DIA.TEL_CFG_EN ∧ s.rd CMD.STAT_WARDEN = 1 ∧ s.diag.telAt + s.telPeriod ≤ t then (s.at t).telWrite else s)

/-! ### Injection (R433, R434) -/

/-- Row DIA_LOCK: injection locks until the next power-on reset, and THM_INJ_OFS becomes 0 (R434). -/
def execDiaLock (s : State) : Host.Outcome State Fault Refusal := .next ((s.wr DIA.LOCK_INJ 1).wr THM.INJ_OFS_OFS 0)

/-- An injection into encoder port `p` acts where the port is in a mode that has the detector, and injection is not locked. -/
def State.injEp (s : State) (p t : Nat) (modes : List Nat) (f : State → State) : State :=
  if s.injLocked ∨ modes.contains (s.portMode p) = false then s else f (s.at t)

/-- Row DIA_INJ_EP_DOUBLE_STEP: check 1 of R34. -/
def execDiaInjEpDoubleStep (p : Fin 8) (t : Nat) (s : State) : Host.Outcome State Fault Refusal :=
  .next (s.injEp p t [1] fun s => s.edgeFault p t (EP.FCNT0_DOUBLE_STEP p) 0x0401 2)
/-- Row DIA_INJ_EP_EDGE_FAST: check 2 of R34. -/
def execDiaInjEpEdgeFast (p : Fin 8) (t : Nat) (s : State) : Host.Outcome State Fault Refusal :=
  .next (s.injEp p t [1, 2, 3] fun s => s.edgeFault p t (EP.FCNT0_EDGE_FAST p) 0x0402 1)
/-- Row DIA_INJ_EP_HALL_INVALID: check 3 of R34. -/
def execDiaInjEpHallInvalid (p : Fin 8) (t : Nat) (s : State) : Host.Outcome State Fault Refusal :=
  .next (s.injEp p t [2] fun s => s.edgeFault p t (EP.FCNT1_HALL_INVALID p) 0x0403 0)
/-- Row DIA_INJ_EP_HALL_SKIP: check 4 or 5 of R34; which of them, and in which direction, the spec does not say (log 2). -/
def execDiaInjEpHallSkip (p : Fin 8) (t : Nat) (s : State) : Host.Outcome State Fault Refusal :=
  .next (s.injEp p t [2] fun s =>
    let k := s.free 2
    if k = 0 then (s.used.edgeFault p t (EP.FCNT1_HALL_SKIP p) 0x0404 1).skippedStep p t 2
    else if k = 1 then (s.used.edgeFault p t (EP.FCNT1_HALL_SKIP p) 0x0404 1).skippedStep p t (-2)
    else s.used.edgeFault p t (EP.FCNT1_HALL_SKIP p) 0x0404 3)
/-- Row DIA_INJ_EP_OPEN: A reads OPEN where it is in use as an input (R40). -/
def execDiaInjEpOpen (p : Fin 8) (t : Nat) (s : State) : Host.Outcome State Fault Refusal :=
  .next (if s.injLocked ∨ s.openable p 0 = false ∨ (s.rd (EP.STAT_OPEN p)).testBit 0 then s else (s.at t).openWire p 0 t)
/-- Row DIA_INJ_EP_TRIP: the sensor supply latches off (R41). -/
def execDiaInjEpTrip (p : Fin 8) (t : Nat) (s : State) : Host.Outcome State Fault Refusal :=
  .next (if s.injLocked ∨ s.encPower p = false then s else (s.at t).encTrip p t)
/-- Row DIA_INJ_EP_SERIAL: one serial error (R42, R46). -/
def execDiaInjEpSerial (p : Fin 8) (t : Nat) (s : State) : Host.Outcome State Fault Refusal :=
  .next (s.injEp p t [4, 5] fun s => s.serialError p t)
/-- Row DIA_INJ_EP_INDEX: INDEX_MISMATCH; the difference the spec does not say (R38, log 2). -/
def execDiaInjEpIndex (p : Fin 8) (t : Nat) (s : State) : Host.Outcome State Fault Refusal :=
  .next (if s.cfg (EP.CPR p) = 0 ∨ (s.cfg (EP.CFG_ZMODE p) ≠ 1 ∧ s.cfg (EP.CFG_ZMODE p) ≠ 2) then s
    else s.injEp p t [1] fun s => s.used.edgeFault p t (EP.FCNT2_INDEX_MISMATCH p) 0x0408 (s.free 16))

/-- Row DIA_INJ_AX_SLIP: the slip condition holds for TIME ms from now (R50, R433). -/
def execDiaInjAxSlip (n : Fin 8) (t : Nat) (s : State) : Host.Outcome State Fault Refusal :=
  let a := s.axis n
  .next (if s.injLocked ∨ a.slip = none then s
    else (s.at t).setAxis n { a with slipInj := true, slipAt := if a.slip = some true then a.slipAt else t })
/-- Row DIA_INJ_TRO_SKIP: the next pulse is dropped (R87). -/
def execDiaInjTroSkip (n : Fin 8) (s : State) : Host.Outcome State Fault Refusal :=
  .next (if s.injLocked then s else s.setStrobe n { s.strobe n with injSkip := true })
/-- Row DIA_INJ_TRO_CLIP: the next pulse is cut (R87). -/
def execDiaInjTroClip (n : Fin 8) (s : State) : Host.Outcome State Fault Refusal :=
  .next (if s.injLocked then s else s.setStrobe n { s.strobe n with injClip := true })
/-- Row DIA_INJ_LNK_FRAME_END: the next FRAME_END is lost as a missing marker. -/
def execDiaInjLnkFrameEnd (n : Fin 24) (s : State) : Host.Outcome State Fault Refusal :=
  .next (if s.injLocked then s else s.setLink n { s.link n with injEnd := true })
/-- Row DIA_INJ_LNK_BC_ACK: the next frame and its retransmissions find no BC_ACK (R122). -/
def execDiaInjLnkBcAck (n : Fin 24) (s : State) : Host.Outcome State Fault Refusal :=
  .next (if s.injLocked then s else s.setLink n { s.link n with injAck := true })
/-- Row DIA_INJ_LNK_ECHO: the next echo reply is lost (R126). -/
def execDiaInjLnkEcho (n : Fin 24) (s : State) : Host.Outcome State Fault Refusal :=
  .next (if s.injLocked then s else s.setLink n { s.link n with injEcho := true })
/-- Row DIA_INJ_LNK_CDR: CDR lock is lost for 1 µs (R106); row CDR_LOCK restores it. -/
def execDiaInjLnkCdr (n : Fin 24) (t : Nat) (s : State) : Host.Outcome State Fault Refusal :=
  .next (if s.injLocked ∨ s.is (LNK.STAT_CDR_LOCK n) = false then s else (s.at t).cdrLoss n)
/-- Row DIA_INJ_SYS_STRAP_TW: STRAP_BAD sets, TW_STRAP_BAD is raised, the address stays (R410). -/
def execDiaInjSysStrapTw (t : Nat) (s : State) : Host.Outcome State Fault Refusal :=
  .next (if s.injLocked then s else ((s.at t).wr TWBG.STP_STAT_STRAP_BAD 1).raise 0x0D08 26 [])
/-- Row DIA_INJ_SYS_STRAP_MOD: STRAP_BAD sets, MODID_FAULT is raised, the module ID stays (R362). -/
def execDiaInjSysStrapMod (t : Nat) (s : State) : Host.Outcome State Fault Refusal :=
  .next (if s.injLocked then s else ((s.at t).wr SYS.MODID_STRAP_BAD 1).raise 0x0001 0 (leBytes 4 (s.rd SYS.MODID_STRAP)))
/-- Row DIA_INJ_SYS_SVC_HANG: heartbeats are suppressed until the cores are reset (R435). -/
def execDiaInjSysSvcHang (s : State) : Host.Outcome State Fault Refusal :=
  .next (if s.injLocked ∨ s.svcRunning = false then s else s.setDiag { s.diag with hang := true })
/-- Row DIA_INJ_SYS_LOCKSTEP: one lockstep mismatch (R386). -/
def execDiaInjSysLockstep (t : Nat) (s : State) : Host.Outcome State Fault Refusal :=
  .next (if s.injLocked ∨ s.rd CMD.STAT_WARDEN = 3 then s else (s.at t).lockstep)
/-- Row DIA_INJ_ST_FAIL: the next self-test of the engine reports DMEM (R440). -/
def execDiaInjStFail (g : Fin 132) (s : State) : Host.Outcome State Fault Refusal :=
  .next (if s.injLocked then s
    else s.setDiag { s.diag with stFail := if s.diag.stFail.contains g.val then s.diag.stFail else s.diag.stFail ++ [g.val] })

/-! ### The debug port (R390) -/

/-- Row DEBUG_PORT_ACCESS: a transaction at the debug balls in the scope `k`: within an unlocked scope it puts engine `g` into DEBUG
(scope ENGINE); through SERVICE and TRACE it reaches the service cores, and the spec names no state that it changes. -/
def execDebugPortAccess (k : Fin 3) (g : Fin 132) (t : Nat) (s : State) : Host.Outcome State Fault Refusal :=
  .next (if (s.rd CMD.STAT_DEBUG).testBit k ∧ s.is SYS.PWR_STAT_VIO_OK then
    (if k = 0 then (s.at t).wr (ENG.STAT_STATE g) 7 else s.at t)
  else s)

end Sys2Proof.Machine
end

