-- ==== Sys2Proof/Machine/Power.lean ====
section
/-! DEFINITION. Supplies, power states, shutdown, resets and the start-up sequence (R287, R372, R427 to R430, R458 to R504). -/

namespace Sys2Proof.Machine

/-- Change the power unit. -/
def State.setPwr (s : State) (p : PowerUnit) : State := { s with pwr := p }

/-- Keep the registers whose key satisfies a test; every other register returns to its reset value. -/
def State.keepRegs (s : State) (p : Nat → Bool) : State :=
  { s with regs := s.regs.filter (fun e => p e.1), active := s.active.filter (fun e => p e.1), hiLatch := [], hiHold := [] }

/-- A key lies among the fields of a list. -/
def inFields (fs : List Fld) (k : Nat) : Bool := fs.any fun f => f.key == k

/-! ### The reset of DLV and CMD (R287, R372) -/

/-- Fields of CMD that show the device as it is and that no reset of the block changes: the state of the cores and what start-up
recorded. -/
def hostKept : List Fld :=
  [CMD.STAT_SVC, CMD.STAT_WARDEN, CMD.BOOT_SCNT, CMD.BOOT_WCNT, CMD.BOOT_SSPLIT, CMD.BOOT_WSPLIT,
   CMD.BOOT_SCOPY, CMD.BOOT_WCOPY, CMD.FWVER_WDN_VERSION, CMD.FWVER_SVC_VERSION]

/-- A conventional reset, a function level reset or D3hot: the armed epoch is dropped, every DLV and CMD register returns to its reset
value, streams close, items and commands are dropped without a word to the host, staged copies equal active ones (R287, R372). DLV_LINK
reads as down until the link is next reported trained (log 77). -/
def State.hostReset (s : State) : State :=
  let s1 := (s.epochDrop 5 0).readEnd
  let s2 := s1.keepRegs fun k => !(decide (0x10000 ≤ k / 32) && decide (k / 32 < 0x40000)) || inFields hostKept k
  let s3 := ({ s2 with dlv := { ends := s2.dlv.ends, strips := s2.dlv.strips }, coal := [], msix := [], msixPend := 0,
                       events := { s2.events with out := [], peek := [], lost := s2.events.lost + s2.events.out.length, phase := 1 },
                       cmd := {} }).cmdForget
  (s3.setDiag { s3.diag with nonce := none, held := [] }).discardStaged.evDiscard

/-- The function is reached by the host: the PCIe endpoint is off in SMOULDER and OFF (R465). -/
def State.hostLive (s : State) : Bool := s.pwr.st == .up || s.pwr.st == .startup || s.pwr.st == .entering

/-- Row PCIE_RESET (R287, R372). -/
def execPcieReset (t : Nat) (s : State) : Host.Outcome State Fault Refusal := .next (if s.hostLive then (s.at t).hostReset else s)
/-- Row FUNCTION_LEVEL_RESET (R287, R372). -/
def execFunctionLevelReset (t : Nat) (s : State) : Host.Outcome State Fault Refusal :=
  .next (if s.hostLive then (s.at t).hostReset else s)
/-- Row D3HOT_ENTRY (R287, R372). -/
def execD3hotEntry (t : Nat) (s : State) : Host.Outcome State Fault Refusal := .next (if s.hostLive then (s.at t).hostReset else s)

/-! ### Domains that lose power or are reset (R466, R471, R502 to R504) -/

/-- Fields of the keep-alive domain outside AXS and TIM: ROS fields, the dip and SMOULDER counts, the supply monitors, the wake detector
of STP (R471, R478, R504). -/
def aliveFields : List Fld :=
  [SYS.PWR_STAT_LAST_DOWN, SYS.PWR_STAT_WAKE_SRC, SYS.PWR_STAT_VAUX_OK, SYS.PWR_STAT_VIO_OK, SYS.PWR_STAT_VCAM_FAULT,
   SYS.DIP_HOLDS, SYS.DIP_COUNT, SYS.SMLD_MS_MS, THM.STAT_SHUT_CAUSE, THM.DEFER_US, TWBG.STP_STAT_ADDR, TWBG.STP_STAT_STRAP_BAD,
   TWBG.STP_STAT_WAKE_STKY]

/-- A key of the keep-alive domain: the AXS block, the time unit, and the fields above (R471, R503). -/
def aliveKey (k : Nat) : Bool :=
  (decide (0x40000 ≤ k / 32) && decide (k / 32 < 0x50000)) || (decide (0x60000 ≤ k / 32) && decide (k / 32 < 0x80000)) ||
  inFields aliveFields k

/-- Every domain outside the keep-alive domain is at its power-on reset: the keep-alive domain, NAND, OTP, host memory and elapsed
time remain (R261, R466, R471, R502). Staged copies of the AXS block equal its active ones (log 62). -/
def State.coldReset (s : State) : State :=
  let k := s.keepRegs aliveKey
  let s1 : State :=
    { now := s.now, timeOfs := s.timeOfs, freeCount := s.freeCount, busRead := s.busRead, regs := k.regs, active := k.active,
      mems := { host := s.mems.host }, ports := s.ports, axes := s.axes, clkAt := s.now, rcd := s.rcd.down,
      time := { s.time with ports := [], rearm := false, injGm := false }, pwr := s.pwr,
      diag := { secLog := s.diag.secLog }, firm := { s.firm with injSplit := false, owed := [] }, pending := s.pending }
  let s2 := s1.regsDiscard
  if s2.comb 7 = 6 then (s2.followSources 7 s2.now).axisChanged 7 s2.now else s2

/-- Fields that a warm reset leaves: the warden, the fences, the trained memory, what the straps and the supplies show (R282, R434,
R441, R444, R503). -/
def warmFields : List Fld :=
  [SYS.MODID_STRAP_BAD, SYS.MODID_FACTORY, SYS.MODID_STRAP, SYS.MODID_ID, SYS.BOOT_CHFAIL, SYS.VIN_NOW, SYS.VIN_MIN, SYS.VSUP_VAUX,
   SYS.VSUP_VCAM, SYS.VIO_VIO_H, SYS.DIP_LAST_US, CMD.STAT_WARDEN, CMD.BOOT_WCNT, CMD.BOOT_WSPLIT, CMD.BOOT_WCOPY,
   CMD.FWVER_WDN_VERSION, DLV.LINK_MODE, DLV.LINK_LHOST, MEM.STAT_FENCE, MEM.STAT_BAND, MEM.TOP_LO_TOP, MEM.TOP_HI_TOP, DIA.LOCK_INJ] ++
  (List.range 16).flatMap fun c => [CL.STAT_FENCED c, CL.STAT_ENGFENCED c]

/-- A key that a warm reset leaves: the keep-alive domain, what the warden keeps of THM, and the fields above. -/
def warmKey (k : Nat) : Bool :=
  aliveKey k || inFields warmFields k ||
  (decide (0xF0000 ≤ k / 32) && decide (k / 32 < 0x100000) && !inFields [THM.CFG_ALARM, THM.EVTEN_EN, THM.INJ_OFS_OFS] k)

/-- A warm reset: every block but the warden, the time unit, the keep-alive domain, the USB4 router and the PCIe configuration space
is reset; start-up goes on from STAGE 4 (R497, R503). DLV_LINK goes on to show the router's link, and the carrier-board buses are as they are. -/
def State.warmReset (s : State) : State :=
  let h := s.hostReset
  let k := h.keepRegs warmKey
  let s1 : State :=
    { now := h.now, timeOfs := h.timeOfs, freeCount := h.freeCount, busRead := h.busRead, regs := k.regs, active := k.active,
      mems := { host := h.mems.host }, ports := h.ports, axes := h.axes, clkAt := h.now, rcd := h.rcd.down,
      time := { h.time with rearm := false, injGm := false }, thm := { h.thm with injDiode := false, injCase := false },
      msixSent := h.msixSent, epoch := h.epoch, events := { lost := h.events.lost },
      diag := { secLog := h.diag.secLog, restart := h.diag.restart, mism := h.diag.mism }, firm := { h.firm with injSplit := false, owed := [] },
      pwr := { h.pwr with st := .startup, done := 3, t0 := h.now, resetAsk := 0, woken := false }, pending := h.pending }
  let s2 := (List.range 128).foldl (fun s g => if s.engFenced g then s.wr (ENG.STAT_STATE g) 5 else s) s1.regsDiscard
  let s3 := ((((s2.wr SYS.BOOT_KIND 1).wr SYS.BOOT_STAGE 4).wr DLV.LINK_MODE (s.rd DLV.LINK_MODE)).wr DLV.LINK_LHOST (s.rd DLV.LINK_LHOST)).fenceWhole
  let s4 := [24, 25].foldl (fun u p => u.wr (TWB.STAT_SDA_LOW p) (s.rd (TWB.STAT_SDA_LOW p))) s3
  if s3.comb 7 = 6 then ((s4.twReset).followSources 7 s3.now).axisChanged 7 s3.now else s4.twReset

/-- A full reset: every domain outside the keep-alive domain receives a power-on reset; T0 is 1 ms later at the earliest (R502). -/
def State.fullReset (s : State) (held : Bool) : State :=
  let s1 := s.coldReset
  (s1.setPwr { s1.pwr with st := if held then .resetHeld else .startup, done := 0, t0 := s1.now + 1000000, downAt := s1.now,
                           resetAsk := 0, ask := false, noProg := false, woken := false, tickAt := none }).wr SYS.BOOT_KIND 2

/-- The reset that SYS_RESET asked for begins once its reply is written (R502, R503). -/
def State.resetPump (s : State) : State :=
  match s.pwr.resetAsk with
  | 1 => s.warmReset
  | 2 => s.fullReset false
  | _ => s

/-- SYS_RESET (R502, R503). -/
def cmdSysReset : CmdBody := fun c s =>
  if c.arg 0 = 1 ∨ c.arg 0 = 2 then (s.setPwr { s.pwr with resetAsk := c.arg 0 }, some (.ok [])) else (s, some (.err 0x0201 0))

/-- A packet whose word 0 holds the value that its row names. -/
def CmdPkt.withW0 (c : CmdPkt) (v : Nat) : CmdPkt := { c with w := v :: c.w.drop 1 }

/-- Row SYS_RESET_WARM (R503). -/
def execSysResetWarm (p : Cmd) (t : Nat) (s : State) : Host.Outcome State Fault Refusal :=
  .next (s.anyCommand ((cmdPkt p 0x0106 t).withW0 1) [0] cmdSysReset).resetPump
/-- Row SYS_RESET_FULL (R502). -/
def execSysResetFull (p : Cmd) (t : Nat) (s : State) : Host.Outcome State Fault Refusal :=
  .next (s.anyCommand ((cmdPkt p 0x0106 t).withW0 2) [0] cmdSysReset).resetPump

/-- Row RESET_N_ASSERT: RESET_N low for 10 µs starts a full reset that lasts while it stays low; it is ignored in SMOULDER and OFF
(R475, R501). -/
def execResetNAssert (t : Nat) (s : State) : Host.Outcome State Fault Refusal :=
  .next (if s.hostLive then (s.at t).fullReset true else s)

/-- Row RESET_N_RELEASE: start-up runs from STAGE 1, with T0 at the release or 1 ms after the reset began, whichever is later (R502). -/
def execResetNRelease (t : Nat) (s : State) : Host.Outcome State Fault Refusal :=
  .next (if s.pwr.st = .resetHeld then (s.at t).setPwr { s.pwr with st := .startup, t0 := max t (s.pwr.downAt + 1000000) } else s)

/-! ### Taking the module down (R427, R469 to R471) -/

/-- A record written straight to the event ring, where the ring is enabled, has space and takes the code (R427, R469, R470). -/
def State.evDirect (s : State) (code : Nat) (vals : List Nat) : State :=
  if s.evrRoom && s.evOn code 0 then s.evrWrite { code := code, idx := 0, count := 1, time := s.dev, vals := vals } else s

/-- What SMOULDER takes at its entry: the wake settings, the sensor supplies to keep, the position of the wake axis (R472, R478). -/
def State.latchWake (s : State) : State :=
  s.setPwr { s.pwr with
    wakeCfg := [s.rd SYS.WAKE_CFG_AXIS, s.rd SYS.WAKE_CFG_VIN, s.rd SYS.WAKE_CFG_TIME, s.rd SYS.WAKE_CFG_AXIS_EN,
                s.rd SYS.WAKE_CFG_WAKE_N, s.rd SYS.WAKE_DIST_DIST, s.rd64 SYS.WAKE_TIME_LO_TIME SYS.WAKE_TIME_HI_TIME],
    encKeep := s.rd SYS.PWR_CFG_ENCKEEP, axisPos := s.posAt (s.rd SYS.WAKE_CFG_AXIS) s.now, wake := none }

/-- The module enters SMOULDER: every domain outside the keep-alive domain is off and the time unit is in HOLDOVER (R358, R470, R471). -/
def State.smoulder (s : State) : State :=
  let s1 := s.coldReset
  (s1.setPwr { s1.pwr with st := .smoulder, downAt := s1.now, ask := false, noProg := false, done := 0, woken := false,
                           stpWoke := false, stpAt := none,
                           wakeVin := [3, 4, 5].contains (s1.rd SYS.PWR_STAT_LAST_DOWN) }).timHold 2

/-- Shutdown begins (R427, R469): the report, LAST_DOWN, and everything stops but a program under way. `cause` is the cause of a
thermal shutdown. -/
def State.shutdown (s : State) (cause : Option Nat) (down : Nat) : State :=
  let s1 := match cause with
    | some c => s.evDirect 0x0F07 (leBytes 4 c ++ leBytes 4 (uwrap 32 (sint 16 (s.rd THM.TJ))))
    | none => s.evDirect 0x0005 (leBytes 4 down)
  let s2 := (if s.pwr.st = .entering then s1 else s1.latchWake).wr SYS.PWR_STAT_LAST_DOWN down
  let s3 := match cause with
    | some c => s2.wr THM.STAT_SHUT_CAUSE c
    | none => s2
  let r := (match s3.rcd.jprog with
    | some j => if j.run then s3.rcd else { s3.rcd with jprog := none }
    | none => s3.rcd).mute
  let s4 := ({ s3 with rcd := { r with jprog := none } }).coldReset
  ({ s4 with rcd := { s4.rcd with prog := r.prog, jprog := r.jprog }, thm := s.thm }).setPwr
    { s4.pwr with st := .deferral, downAt := s.now, thermal := cause.isSome, resume := false, ask := false, noProg := false, done := 0 }

/-- The deferral ends and the module is in SMOULDER (R427). -/
def State.deferEnd (s : State) : State := (s.wr THM.DEFER_US ((s.now - s.pwr.downAt) / 1000)).smoulder

/-- Row SHUTDOWN_DEFERRAL_END: the program in progress has ended, or 3 ms have passed and it is cut (R427). -/
def execShutdownDeferralEnd (t : Nat) (s : State) : Host.Outcome State Fault Refusal :=
  .next (if s.pwr.st = .deferral ∧ ((s.rcd.prog = none ∧ s.rcd.jprog = none) ∨ s.pwr.downAt + 3000000 ≤ t) then (s.at t).deferEnd
    else s)

/-- The states from which a shutdown may begin (R466, R473, R501). -/
def State.canShut (s : State) : Bool := s.pwr.st == .up || s.pwr.st == .entering

/-- Row HARDWARE_TRIP: a valid diode at 150 °C or above on two consecutive samples shuts down without deferral; THM_INJ_OFS does not
count (R428, R431). -/
def execHardwareTrip (k : Fin 6) (r0 r1 : BitVec 16) (t : Nat) (s : State) : Host.Outcome State Fault Refusal :=
  .next (if (s.canShut || s.pwr.st == .startup) && s.sensorOk k && decide (9600 ≤ sint 16 r0.toNat) && decide (9600 ≤ sint 16 r1.toNat) then
    ((s.at t).shutdown (some 2) 2).deferEnd else s)

/-- Row HALTED_WARDEN_DIODE_TRIP: while the warden is halted, a valid diode at 140 °C or above starts shutdown with cause 3 (R429). -/
def execHaltedWardenDiodeTrip (k : Fin 6) (reading : BitVec 16) (t : Nat) (s : State) : Host.Outcome State Fault Refusal :=
  .next (if (s.canShut || s.pwr.st == .startup) && s.sensorOk k && s.rd CMD.STAT_WARDEN == 3 && decide (8960 ≤ sint 16 reading.toNat + s.thmOfs) then
    (s.at t).shutdown (some 3) 2 else s)

/-! ### Dips and HOLD (R467 to R469, R473) -/

/-- A dip begins (R467): it counts; in RUN HOLD begins with it; during a SMOULDER entry the recorder programs nothing further; in
start-up it is latched only (R473). -/
def State.dipBegin (s : State) : State :=
  let s1 := ((s.addSat SYS.DIP_COUNT 1).set1 SYS.PWR_STAT_VIN_WARN).setPwr { s.pwr with dipAt := some s.now, dipMin := 0 }
  if s.pwr.st = .up then
    if s.rd SYS.PWR_STAT_STATE = 1 then s1.setPwr { s1.pwr with holdDips := s1.pwr.holdDips + 1 }
    else
      let s2 := ((s1.wr SYS.PWR_STAT_STATE 1).addSat SYS.DIP_HOLDS 1).setPwr { s1.pwr with holdAt := s.now, holdDips := 1 }
      (s2.raise 0x0003 0 []).recEval
  else if s.pwr.st = .entering then s1.setPwr { s1.pwr with noProg := true }
  else s1

/-- Row HOLD_ENTER: VIN warning sets (R462, R467). -/
def execHoldEnter (t : Nat) (s : State) : Host.Outcome State Fault Refusal :=
  .next (if s.pwr.dipAt = none ∧ s.pwr.st ≠ .off then (s.at t).dipBegin else s)

/-- Row DIA_INJ_SYS_VINDIP: VIN warning sees a 1 ms dip; its end and its lowest VIN come with row VIN_DIP (R433). -/
def execDiaInjSysVindip (t : Nat) (s : State) : Host.Outcome State Fault Refusal :=
  .next (if s.injLocked = false ∧ s.pwr.dipAt = none ∧ s.hostLive then (s.at t).dipBegin else s)

/-- Row VIN_DIP: VIN warning clears; the dip is reported with its lowest VIN in mV, below the 8.5 V at which the warning set, and its duration
in µs (R462, R467). -/
def execVinDip (min_ : BitVec 16) (t : Nat) (s : State) : Host.Outcome State Fault Refusal :=
  .next (match s.pwr.dipAt with
    | none => s
    | some a =>
      if 8500 ≤ min_.toNat then s else
      let us := min ((max t a - a) / 1000) (2 ^ 32 - 1)
      (((s.at t).setPwr { s.pwr with dipAt := none, dipMin := min_.toNat, dipEnd := max t a }).wr SYS.DIP_LAST_US us).raise 0x0002 0
        (leBytes 4 min_.toNat ++ leBytes 4 us))

/-- Row HOLD_EXIT: VIN has been above 8.8 V since `since`, 20 ms before `t` (R468). -/
def execHoldExit (since t : Nat) (s : State) : Host.Outcome State Fault Refusal :=
  .next (if s.pwr.st = .up ∧ s.rd SYS.PWR_STAT_STATE = 1 ∧ s.pwr.dipAt = none ∧ s.pwr.dipEnd ≤ since ∧ since + 20000000 ≤ t then
    let s1 := (s.at t).wr SYS.PWR_STAT_STATE 0
    (s1.raise 0x0004 0 (leBytes 4 ((t - s.pwr.holdAt) / 1000000) ++ leBytes 4 s.pwr.holdDips)).recEval
  else s)

/-- Row UNDERVOLTAGE_SHUTDOWN: HOLD has lasted HOLDMAX ms, at least 20 (R469). -/
def execUndervoltageShutdown (t : Nat) (s : State) : Host.Outcome State Fault Refusal :=
  .next (if s.pwr.st = .up ∧ s.rd SYS.PWR_STAT_STATE = 1 ∧ s.pwr.holdAt + 1000000 * max 20 (s.rd SYS.PWR_CFG_HOLDMAX) ≤ t then
    (s.at t).shutdown none 3 else s)

/-- Row VIN_OVER: VIN over sets, or clears (R462, R469). -/
def execVinOver (set : Bool) (vin : BitVec 16) (t : Nat) (s : State) : Host.Outcome State Fault Refusal :=
  .next (if set = false then (if vin.toNat < 61000 then (s.at t).setPwr { s.pwr with overAt := none } else s)
    else if s.pwr.overAt.isSome ∨ vin.toNat ≤ 62000 then s
    else
      let s1 := ((s.at t).setPwr { s.pwr with overAt := some t }).set1 SYS.PWR_STAT_VIN_OVER_STKY
      s1.raiseJoin (fun a b => leBytes 4 (max (leNat a) (leNat b))) 0x0007 0 t (leBytes 4 vin.toNat))

/-- Row OVERVOLTAGE_SHUTDOWN: VIN over has been set for 400 ms (R469). -/
def execOvervoltageShutdown (t : Nat) (s : State) : Host.Outcome State Fault Refusal :=
  .next (if s.canShut && s.pwr.overAt.elim false (fun a => decide (a + 400000000 ≤ t)) then (s.at t).shutdown none 5 else s)

/-- Row BROWN_OUT: VIN reset sets. Everything outside the keep-alive domain loses power at once; a shutdown or an entry under way
keeps the cause recorded first; in SMOULDER it arms the VIN-return wake (R469, R472, R473). -/
def execBrownOut (t : Nat) (s : State) : Host.Outcome State Fault Refusal :=
  let s0 := s.at t
  .next (match s.pwr.st with
    | .off => s
    | .smoulder => s0.setPwr { s0.pwr with wakeVin := true }
    | .deferral => s0.smoulder
    | .entering => s0.smoulder
    | _ => (s0.latchWake.wr SYS.PWR_STAT_LAST_DOWN 4).smoulder)

/-! ### The other supplies (R460, R463, R464) -/

/-- Row KEEPALIVE_LOSS: VIN and VAUX are both below 5.5 V; the keep-alive domain stops and the module is in OFF (R460, R469). -/
def execKeepaliveLoss (t : Nat) (s : State) : Host.Outcome State Fault Refusal :=
  .next { now := max s.now t, freeCount := s.freeCount, busRead := s.busRead, mems := { host := s.mems.host }, rcd := s.rcd.down,
          diag := { secLog := s.diag.secLog }, firm := { s.firm with injSplit := false, owed := [] },
          pwr := { st := .off, alive := false, downAt := max s.now t }, pending := s.pending }

/-- The keep-alive domain starts: device time starts at 0 and its registers are at their reset values (R353, R460). -/
def State.aliveStart (s : State) : State := { s with timeOfs := -(s.now : Int), pwr := { s.pwr with alive := true } }

/-- Row KEEPALIVE_START: VAUX or VIN reaches 7.0 V (R460). -/
def execKeepaliveStart (t : Nat) (s : State) : Host.Outcome State Fault Refusal :=
  .next (if s.pwr.alive then s else (s.at t).aliveStart)

/-- Row VAUX_LOW: VAUX low sets or clears (R460, R462). -/
def execVauxLow (low : Bool) (t : Nat) (s : State) : Host.Outcome State Fault Refusal :=
  .next (if s.is SYS.PWR_STAT_VAUX_OK = !low then s
    else ((s.at t).wrB SYS.PWR_STAT_VAUX_OK (!low)).raise 0x000A 0 (leBytes 4 (b2n (!low))))

/-- VCAM under, or VCAM over, sets at this voltage in mV (R462). -/
def vcamOut (high : Bool) (mV : Nat) : Bool := if high then decide (17000 < mV) else decide (mV < 8000)

/-- Both comparators of VCAM clear at this voltage in mV (R462). -/
def State.vcamBack (s : State) (mV : Nat) : Bool :=
  (!s.pwr.vcamLow || decide (8500 < mV)) && (!s.pwr.vcamOver || decide (mV < 16500)) && decide (8000 ≤ mV ∧ mV ≤ 17000)

/-- Row VCAM_FAULT: VCAM under or over sets; every switch is off, and those enabled are held in BLOCKED (R463). -/
def execVcamFault (high : Bool) (vcam : BitVec 16) (t : Nat) (s : State) : Host.Outcome State Fault Refusal :=
  let s0 := s.at t
  let s1 := s0.setPwr { s0.pwr with vcamOver := s0.pwr.vcamOver || high, vcamLow := s0.pwr.vcamLow || !high }
  let s2 := (s1.wr SYS.PWR_STAT_VCAM_FAULT 1).raise 0x0008 0 (leBytes 4 (b2n high) ++ leBytes 4 vcam.toNat)
  .next (if s.pwr.st = .off ∨ vcamOut high vcam.toNat = false then s
    else (List.range 24).foldl (fun s n =>
      if s.on (LNK.POC_CFG_EN n) then s.pocHeld n
      else s.pocSet n 0) s2)

/-- Row VCAM_RESTORE: VCAM has been back in range for 10 ms; the blocked switches start in link order within the budget (R462, R463). -/
def execVcamRestore (vcam : VcamSense) (t : Nat) (s : State) : Host.Outcome State Fault Refusal :=
  let s0 := s.at t
  .next (if s.is SYS.PWR_STAT_VCAM_FAULT ∧ s.vcamBack vcam.mV.toNat ∧ vcam.since + 10000000 ≤ t then
    ((((s0.setPwr { s0.pwr with vcamOver := false, vcamLow := false }).wr SYS.PWR_STAT_VCAM_FAULT 0).raise 0x0008 0
      (leBytes 4 2 ++ leBytes 4 vcam.mV.toNat)).pocCommit)
  else s)

/-- Row VIO_LOST: VIO_H absent sets; the bank drives nothing (R464). -/
def execVioLost (t : Nat) (s : State) : Host.Outcome State Fault Refusal :=
  .next (if s.is SYS.PWR_STAT_VIO_OK then ((s.at t).wr SYS.PWR_STAT_VIO_OK 0).raise 0x0009 0 (leBytes 4 0) else s)

/-- Row VIO_RESTORED: VIO_H absent clears (R464). -/
def execVioRestored (t : Nat) (s : State) : Host.Outcome State Fault Refusal :=
  .next (if s.is SYS.PWR_STAT_VIO_OK = false ∧ s.pwr.st ≠ .off then
    (((s.at t).setPwr { s.pwr with vioAt := t }).wr SYS.PWR_STAT_VIO_OK 1).raise 0x0009 0 (leBytes 4 1) else s)

/-! ### SMOULDER (R470 to R472) -/

/-- SYS_POWER (R470). -/
def cmdSysPower : CmdBody := fun c s =>
  match c.arg 0 with
  | 0 => (s, some (.ok []))
  | 2 =>
    if (List.range 62).any fun q => let x := s.qState q; x == 1 || x == 2 || x == 3 then (s, some (.err 0x0301 1))
    else if s.rcd.read.isSome then (s, some (.err 0x0301 2))
    else if s.epoch.armed.isSome then (s, some (.err 0x0301 3))
    else if s.rd SYS.PWR_STAT_STATE = 1 then (s, some (.err 0x0301 4))
    else (s.setPwr { s.pwr with ask := true }, some (.ok []))
  | _ => (s, some (.err 0x0201 0))

/-- Row SYS_POWER_RUN: W0 = 0 has no effect (R470). -/
def execSysPowerRun (p : Cmd) (t : Nat) (s : State) : Host.Outcome State Fault Refusal :=
  .next (s.svcCommand ((cmdPkt p 0x0107 t).withW0 0) [0] false cmdSysPower)
/-- Row SYS_POWER_SMOULDER (R470). -/
def execSysPowerSmoulder (p : Cmd) (t : Nat) (s : State) : Host.Outcome State Fault Refusal :=
  .next (s.svcCommand ((cmdPkt p 0x0107 t).withW0 2) [0] false cmdSysPower)

/-- The tick after the reply of SYS_POWER: ledger, strobes, ingest and camera power stop, POWER_DOWN is written, the recorder closes
its record and its extent and programs what is pending (R470). -/
def State.enterSmoulder (s : State) : State :=
  let s1 := (s.evDirect 0x0005 (leBytes 4 1)).latchWake.wr SYS.PWR_STAT_LAST_DOWN 1
  let s2 : State := { s1 with ledger := {}, strobes := [], ctxs := [] }
  let s3 := (List.range 24).foldl (fun s n => s.pocSet n 0) s2
  let s4 := ((List.range 16).foldl (fun s n => s.cutRec n) s3).padExtent
  (s4.setPwr { s4.pwr with st := .entering, ask := false, downAt := s.now, noProg := s.pwr.dipAt.isSome, thermal := false }).recPump

/-- The recorder has nothing more to program, or may not program it. -/
def State.recIdle (s : State) : Bool :=
  s.rcd.prog.isNone && !(s.rcd.jprog.elim false fun j => j.run) &&
  (s.recHeld || (s.rcd.nextProg.isNone && decide (s.rcd.jq = []) && s.rcd.jprog.isNone))

/-- Row SMOULDER_REACHED: the recorder's work has ended, or 50 ms have passed since T0 (R470). -/
def execSmoulderReached (t : Nat) (s : State) : Host.Outcome State Fault Refusal :=
  .next (if s.pwr.st = .entering ∧ (s.recIdle ∨ s.pwr.downAt + 50000000 ≤ t) then (s.at t).smoulder else s)

/-- Row WAKE_N_ASSERT: WAKE_N low for 1 ms (R472, R474). -/
def execWakeNAssert (t : Nat) (s : State) : Host.Outcome State Fault Refusal :=
  .next (if s.wakeArmed ∧ s.wakeSet 4 = 1 then (s.at t).wakePend 1 else s)

/-- Row WAKE_TIMER: device time reaches SYS_WAKE_TIME (R472). -/
def execWakeTimer (t : Nat) (s : State) : Host.Outcome State Fault Refusal :=
  .next (if s.wakeArmed ∧ s.wakeSet 2 = 1 ∧ s.wakeSet 6 ≤ s.devAt t then (s.at t).wakePend 4 else s)

/-- Row WAKE_VIN_RETURN: VIN above 8.8 V and VIN over clear since `since`, 20 ms before `t`, after a supply shutdown (R472). -/
def execWakeVinReturn (since t : Nat) (s : State) : Host.Outcome State Fault Refusal :=
  .next (if s.pwr.st = .smoulder ∧ s.wakeSet 1 = 1 ∧ s.pwr.wakeVin ∧ s.pwr.overAt = none ∧ since + 20000000 ≤ t then
    (s.at t).wakePend 5 else s)

/-- Start-up begins. The flags of the supply monitors that lie outside the keep-alive domain start again at 0 (R466, R478, R497). -/
def State.startUp (s : State) (kind : Nat) : State :=
  let s1 := (s.setPwr { s.pwr with st := .startup, done := 0, t0 := s.now, dipAt := none, dipEnd := 0, holdDips := 0, tickAt := none }).wr SYS.BOOT_STAGE 1
  (((s1.wr SYS.BOOT_KIND kind).wr SYS.BOOT_FAIL 0).wr SYS.PWR_STAT_VIN_WARN 0).wr SYS.PWR_STAT_VIN_OVER_STKY 0

/-- Row WAKE: a wake is pending, VIN has been above 8.8 V for 20 ms, and after a thermal shutdown the case sensor reads 100 °C or
less; `case` is its reading (R430, R472). -/
def execWake (since : Nat) (case : BitVec 16) (t : Nat) (s : State) : Host.Outcome State Fault Refusal :=
  let s0 := (s.at t).wakeAxis (s.wakeSet 0) t
  .next (match s0.pwr.st, s0.pwr.wake with
    | .smoulder, some src =>
      if since + 20000000 ≤ t ∧ (s.pwr.thermal = false ∨ sint 16 case.toNat ≤ 6400) then
        let s1 := (s0.wr SYS.SMLD_MS_MS (min ((t - s.pwr.downAt) / 1000000) (2 ^ 32 - 1))).wr SYS.PWR_STAT_WAKE_SRC src
        (s1.setPwr { s1.pwr with woken := true, resume := s.pwr.thermal, thermal := false, wake := none }).startUp 3
      else s
    | _, _ => s)

/-- Row POWER_ON: VIN has been above 8.8 V since `since`, 20 ms before `t`: start-up from OFF (R466). -/
def execPowerOn (since t : Nat) (s : State) : Host.Outcome State Fault Refusal :=
  .next (if s.pwr.st = .off ∧ since + 20000000 ≤ t then
    let s0 := s.at t
    let s1 := if s0.pwr.alive then s0 else s0.aliveStart
    (s1.wr SYS.PWR_STAT_WAKE_SRC 0).startUp 0
  else s)

/-- FAULT_N is driven low (R476). -/
def State.faultN (s : State) : Bool :=
  let en := s.rd SYS.PWR_CFG_FAULTEN
  s.pwr.st != .off &&
  ((en.testBit 0 && [2, 3, 4, 5].contains (s.rd SYS.PWR_STAT_LAST_DOWN)) || (en.testBit 1 && s.rd SYS.PWR_STAT_STATE == 1) ||
   (en.testBit 2 && s.rd CMD.STAT_WARDEN == 3) || (en.testBit 3 && s.rd CMD.STAT_SVC == 3))

/-! ### SYS_PWR_CTL (R478) -/

/-- Row SYS_CLR_MIN: MIN is set to NOW. -/
def execSysClrMin (s : State) : Host.Outcome State Fault Refusal := .next (s.wr SYS.VIN_MIN (s.rd SYS.VIN_NOW))
/-- Row SYS_CLR_DOWN: LAST_DOWN and WAKE_SRC clear. -/
def execSysClrDown (s : State) : Host.Outcome State Fault Refusal :=
  .next ((s.wr SYS.PWR_STAT_LAST_DOWN 0).wr SYS.PWR_STAT_WAKE_SRC 0)
/-- Row SYS_CLR_CNT: SYS_DIP clears. -/
def execSysClrCnt (s : State) : Host.Outcome State Fault Refusal := .next ((s.wr SYS.DIP_HOLDS 0).wr SYS.DIP_COUNT 0)

/-! ### The start-up sequence (R497 to R501) -/

/-- A stage may run: the stage above it has ended, no failure holds the start, and T0 has come (R497, R499). -/
def State.stageDue (s : State) (k t : Nat) : Bool :=
  s.pwr.st == .startup && s.pwr.done + 1 == k && s.rd SYS.BOOT_FAIL == 0 && decide (s.pwr.t0 ≤ t)

/-- A stage has ended. -/
def State.stageDone (s : State) (k : Nat) : State := (s.setPwr { s.pwr with done := k }).wr SYS.BOOT_STAGE k

/-- A stage fails and the start is held there (R499). -/
def State.stageFail (s : State) (k fail : Nat) : State := (s.wr SYS.BOOT_STAGE k).wr SYS.BOOT_FAIL fail

/-- The straps and the module ID: a strap that reads between two values counts as 0 (R362, R363). The outcome of record MODULE_ID is reported
and its copies are rewritten in STAGE CLEAR, with those of the other records (R497). -/
def State.strapModid (s : State) (lo hi : Nat) (bad : Bool) : State :=
  let strap := 16 * hi + lo
  let s1 := ((s.wr SYS.MODID_STRAP strap).wrB SYS.MODID_STRAP_BAD bad)
  let c := (resolveCopies (s.firm.copiesOf 1)).2
  let d := recordData 1 c
  let id := if d.getD 0 0 = 1 then leNat (d.drop 2) % 65536 else d.getD 1 0 % 256 * 256 + strap
  let s2 := (s1.wrB SYS.MODID_FACTORY c.isNone).wr SYS.MODID_ID id
  if bad then s2.raise 0x0001 0 (leBytes 4 strap) else s2

/-- The address strap of STP (R410). -/
def State.strapTw (s : State) (tw : Nat) (bad : Bool) : State :=
  let s1 := (s.wr TWBG.STP_STAT_ADDR (0x60 + tw)).wrB TWBG.STP_STAT_STRAP_BAD bad
  if bad then s1.raise 0x0D08 26 [] else s1

/-- STAGE 2 begins: the warden runs, and with it the thermal model; the ticks run from here (R21, R419, R497). -/
def State.stageTwo (s : State) : State :=
  ((s.wr CMD.STAT_WARDEN 1).setThm {}).setPwr { s.pwr with tickAt := some s.now }

/-- Row STAGE_ROM: warden ROM reads the straps and selects the warden image; the carrier-board ports are out of reset (R362, R387, R409, R410,
R477, R497, R499). -/
def execStageRom (lo : BitVec 4) (loBad : Bool) (hi : BitVec 4) (hiBad : Bool) (tw : BitVec 4) (twBad : Bool) (t : Nat) (s : State) :
    Host.Outcome State Fault Refusal :=
  .next (if s.stageDue 1 t then
    let s1 := (s.at t).strapModid (if loBad then 0 else lo.toNat) (if hiBad then 0 else hi.toNat) (loBad || hiBad)
    let s2 := (s1.strapTw (if twBad then 0 else tw.toNat) twBad).twReset
    let r := s2.imageSelect 1
    if r.1.isSome then (r.2.stageDone 1).stageTwo else r.2.stageFail 1 1
  else s)

/-- Row STAGE_WARDEN: the second stage ends with the warden running (R497). -/
def execStageWarden (t : Nat) (s : State) : Host.Outcome State Fault Refusal :=
  .next (if s.stageDue 2 t ∧ s.rd CMD.STAT_WARDEN < 2 then ((s.at t).wr CMD.STAT_WARDEN 1).stageDone 2 else s)

/-- Row STAGE_TRAIN: the margin sets are trained; `fails` names the channels that failed. One is fenced, a second holds the start (R266,
R499). -/
def execStageTrain (fails : BitVec 4) (t : Nat) (s : State) : Host.Outcome State Fault Refusal :=
  .next (if s.stageDue 3 t then
    let s1 := (s.at t).wr SYS.BOOT_CHFAIL fails.toNat
    let bad := (List.range 4).filter fun c => fails.toNat.testBit c
    let s2 := bad.foldl (fun s c => s.raise 0x0E07 c []) s1
    match bad with
    | [] => s2.stageDone 3
    | [c] =>
      let s3 := (s2.wrPair MEM.TOP_LO_TOP MEM.TOP_HI_TOP (s2.memTop / 4 * 3)).wr MEM.STAT_FENCE c
      s3.fenceWhole.stageDone 3
    | _ => s2.stageFail 3 2
  else s)

/-- Row STAGE_CLEAR: GDDR7 and on-die SRAM are written as 0; store records are resolved, `pages` being those not read clean by record
(R261, R391). -/
def execStageClear (pages : List (Fin 7 × NandPage)) (t : Nat) (s : State) : Host.Outcome State Fault Refusal :=
  .next (if s.stageDue 4 t then
    let s0 := s.at t
    let s1 : State := { s0 with mems := { host := s0.mems.host } }
    let s2 := s1.setMemu { s1.memu with faults := [] }
    let s3 := (List.range 7).foldl (fun s k =>
      (s.storeResolve (storeRecords.getD k 0) ((pages.filter fun p => p.1.val == k).map Prod.snd)).2.2) s2
    (s3.wr REC.STAT_STATE 1).stageDone 4
  else s)

/-- Row STAGE_SERVICE: the warden verifies and loads the service image and releases the service cores (R384, R387, R499). -/
def execStageService (t : Nat) (s : State) : Host.Outcome State Fault Refusal :=
  .next (if s.stageDue 5 t then
    let r := (s.at t).imageSelect 2
    if r.1.isSome then (r.2.stageDone 5).wr CMD.STAT_SVC 1 else r.2.stageFail 5 3
  else s)

/-- Row STAGE_READY: service firmware runs; WAKE, THERMAL_RESUME and STP_WAKE are raised where they are due, rotation begins (R414,
R430, R438, R472, R497). -/
def execStageReady (t : Nat) (s : State) : Host.Outcome State Fault Refusal :=
  .next (if s.stageDue 6 t ∧ s.rd CMD.STAT_SVC = 1 then
    let s1 := (((s.at t).wr CMD.STAT_SVC 2).stageDone 6).wr SYS.BOOT_MS_MS (min ((t - s.pwr.t0) / 1000000) (2 ^ 32 - 1))
    let s2 := (s1.setDiag { s1.diag with beatAt := t }).setPwr { s1.pwr with st := .up }
    let s3 := if s2.pwr.woken then
        s2.raise 0x0006 0 (leBytes 4 (s2.rd SYS.PWR_STAT_WAKE_SRC) ++ leBytes 4 (s2.rd SYS.PWR_STAT_LAST_DOWN) ++ leBytes 4 (s2.rd SYS.SMLD_MS_MS))
      else s2
    let s4 := if s3.pwr.resume then s3.raise 0x0F08 0 (leBytes 4 (s3.rd THM.STAT_SHUT_CAUSE) ++ leBytes 4 (s3.rd THM.DEFER_US)) else s3
    let s5 := if s4.pwr.stpWoke then s4.raise 0x0D07 26 [] else s4
    let s6 := s5.setPwr { s5.pwr with woken := false, resume := false, stpWoke := false }
    (List.range 4).foldl (fun s n => s.rotBegin n) s6
  else s)

end Sys2Proof.Machine
end

