-- ==== Sys2Proof/Machine/Commands.lean ====
section
/-! DEFINITION. Bulk commands, the command ring, timeouts and the SMBus subset (R367 to R374, R382, R383, R393, R394, R410 to R414). -/

namespace Sys2Proof.Machine

/-! ### Bodies -/

/-- SYS_IDENT (R382). -/
def cmdSysIdent : CmdBody := fun _ s =>
  (s, some (.ok [s.rd SYS.ID, (256 * s.rd SYS.STEPPING_LETTER + s.rd SYS.STEPPING_DIGIT) * 65536 + s.moduleId,
                 s.rd CMD.FWVER_SVC_VERSION, s.rd CMD.FWVER_WDN_VERSION]))

/-- SETTINGS_LOAD (R382). -/
def cmdSettingsLoad : CmdBody := fun c s =>
  if 63 < c.arg 0 then (s, some (.err 0x0201 0))
  else ({ s with setsStaged := AMap.set s.setsStaged (c.arg 0) (s.hostBytes (c.arg64 1) 128) }, some (.staged_ []))

/-- First entry and count of LEDGER_BULK and LEDGER_READ; none where they are out of range (R382). -/
def CmdPkt.entries (c : CmdPkt) : Option (Nat × Nat) :=
  let first := bitsOf (c.arg 0) 0 12
  let n := bitsOf (c.arg 0) 16 13
  if n = 0 ∨ 4096 < n ∨ 4096 < first + n then none else some (first, n)

/-- The 32 bytes of a ledger entry, D0 first. -/
def LEnt.bytes (e : LEnt) : List Nat := [e.d0, e.d1, e.d2, e.d3, e.d4, e.d5, e.d6, e.d7].flatMap (leBytes 4)

/-- The entry that 32 bytes spell. -/
def entOf (b : List Nat) : LEnt :=
  let w (k : Nat) : Nat := leNat ((b.drop (4 * k)).take 4)
  { d0 := w 0, d1 := w 1, d2 := w 2, d3 := w 3, d4 := w 4, d5 := w 5, d6 := w 6, d7 := w 7 }

/-- LEDGER_BULK: entries to staged copies as TRG_WIN_CMD.OP 1 writes them (R382). -/
def cmdLedgerBulk : CmdBody := fun c s =>
  match c.entries with
  | none => (s, some (.err 0x0201 0))
  | some (first, n) =>
    ((List.range n).foldl (fun s k => s.setStagedEnt (first + k) (entOf (s.hostBytes (c.arg64 1 + 32 * k) 32))) s, some (.staged_ []))

/-- LEDGER_READ: active copies as OP 3 gives them, to host memory (R382). -/
def cmdLedgerRead : CmdBody := fun c s =>
  match c.entries with
  | none => (s, some (.err 0x0201 0))
  | some (first, n) =>
    ((List.range n).foldl (fun s k => s.hostWrite (c.arg64 1 + 32 * k) (s.ent (first + k)).current.bytes) s, some (.ok []))

/-- What GDDR_WRITE and GDDR_READ refuse of their address and length (R383). -/
def State.gddrRefuses (s : State) (c : CmdPkt) : Option Reply :=
  let len := c.arg 4
  if len < 64 ∨ 268435456 < len ∨ len % 64 ≠ 0 then some (.err 0x0201 4)
  else if c.arg64 0 % 64 ≠ 0 ∨ s.memTop < c.arg64 0 + len then some (.err 0x0202 0)
  else none

/-- A range meets one that the active configuration, or an armed epoch, names (R279, R383). -/
def State.gddrNamed (s : State) (a n : Nat) : Bool :=
  (s.activeRanges ++ (if s.epoch.armed.isSome then s.stagedRanges else [])).any fun r =>
    decide (r.2 ≠ 0 ∧ r.1 < a + n ∧ a < r.1 + r.2)

/-- GDDR_WRITE; where a read of host memory fails, `got` bytes have been copied before it (R373, R383). -/
def cmdGddrWrite (got : Option Nat) : CmdBody := fun c s =>
  match s.gddrRefuses c with
  | some r => (s, some r)
  | none =>
    if s.gddrNamed (c.arg64 0) (c.arg 4) then (s, some (.err 0x0203 0))
    else
      match got with
      | none => (s.memWrite .gddr (c.arg64 0) (s.hostBytes (c.arg64 2) (c.arg 4)), some (.ok []))
      | some g => (s.memWrite .gddr (c.arg64 0) (s.hostBytes (c.arg64 2) (min g (c.arg 4))), some (.err 0x0603 0))

/-- GDDR_READ; what the host receives for an uncorrectable word is not stated (log 2). -/
def cmdGddrRead : CmdBody := fun c s =>
  match s.gddrRefuses c with
  | some r => (s, some r)
  | none =>
    let a := c.arg64 0
    let r := s.memRead .gddr a (c.arg 4)
    let s1 := r.2.2.hostWrite (c.arg64 2) r.1
    ((s1.faultsIn .gddr a (c.arg 4)).foldl (fun s e =>
      let w := 8 * (e.1 % 2 ^ 37)
      let lo := max a w
      if e.2.poison then
        s.used.hostWrite (c.arg64 2 + (lo - a)) (((leBytes 8 (s.free 64)).drop (lo - w)).take (min (a + c.arg 4) (w + 8) - lo))
      else s) s1, some (.ok []))

/-- Row SYS_IDENT. -/
def execSysIdent (p : Cmd) (t : Nat) (s : State) : Host.Outcome State Fault Refusal :=
  .next (s.anyCommand (cmdPkt p 0x0101 t) [] cmdSysIdent)
/-- Row SETTINGS_LOAD. -/
def execSettingsLoad (p : Cmd) (err : Bool) (t : Nat) (s : State) : Host.Outcome State Fault Refusal :=
  .next (s.svcCommand (cmdPkt p 0x0301 t) [0, 1, 2] true (cmdHostErr err cmdSettingsLoad))
/-- Row LEDGER_BULK. -/
def execLedgerBulk (p : Cmd) (err : Bool) (t : Nat) (s : State) : Host.Outcome State Fault Refusal :=
  .next (s.svcCommand (cmdPkt p 0x0302 t) [0, 1, 2] true (cmdHostErr err cmdLedgerBulk))
/-- Row LEDGER_READ. -/
def execLedgerRead (p : Cmd) (t : Nat) (s : State) : Host.Outcome State Fault Refusal :=
  .next (s.svcCommand (cmdPkt p 0x0303 t) [0, 1, 2] false cmdLedgerRead)
/-- Row GDDR_WRITE. -/
def execGddrWrite (p : Cmd) (got : Option Nat) (t : Nat) (s : State) : Host.Outcome State Fault Refusal :=
  .next (s.svcCommand (cmdPkt p 0x0401 t) [0, 1, 2, 3, 4] false (cmdGddrWrite got))
/-- Row GDDR_READ. -/
def execGddrRead (p : Cmd) (t : Nat) (s : State) : Host.Outcome State Fault Refusal :=
  .next (s.svcCommand (cmdPkt p 0x0402 t) [0, 1, 2, 3, 4] false cmdGddrRead)

/-! ### The command table (R382) -/

/-- A row of the table "Command opcodes": the argument words in use, whether the mode is S, whether the SMBus subset reaches it, and
what it does. TW_XFER starts by itself. -/
structure CmdRow where
  used : List Nat := []
  modeS : Bool := false
  smb  : Bool := false
  body : CmdBody

/-- The table "Command opcodes"; none for an opcode that is not in it. -/
def cmdRow (op : Nat) : Option CmdRow :=
  match op with
  | 0x0101 => some { smb := true, body := cmdSysIdent }
  | 0x0102 => some { used := [0, 1, 2, 3, 4], modeS := true, body := cmdEpochCommit }
  | 0x0103 => some { body := cmdEpochCancel }
  | 0x0104 => some { smb := true, body := cmdEpochStatus }
  | 0x0105 => some { modeS := true, body := cmdStageDiscard }
  | 0x0106 => some { used := [0], smb := true, body := cmdSysReset }
  | 0x0107 => some { used := [0], smb := true, body := cmdSysPower }
  | 0x0108 => some { used := [0, 1, 2, 3], body := cmdStoreRead [] }
  | 0x0109 => some { used := [0, 1, 2, 3], body := cmdStoreWrite }
  | 0x010A => some { used := [0], smb := true, body := cmdStoreStatus }
  | 0x0201 => some { smb := true, body := cmdLinkSummary }
  | 0x0202 => some { used := [0], body := cmdLinkRestart }
  | 0x0301 => some { used := [0, 1, 2], modeS := true, body := cmdSettingsLoad }
  | 0x0302 => some { used := [0, 1, 2], modeS := true, body := cmdLedgerBulk }
  | 0x0303 => some { used := [0, 1, 2], body := cmdLedgerRead }
  | 0x0401 => some { used := [0, 1, 2, 3, 4], body := cmdGddrWrite none }
  | 0x0402 => some { used := [0, 1, 2, 3, 4], body := cmdGddrRead }
  | 0x0501 => some { used := [0, 1], modeS := true, body := cmdGraphLoad }
  | 0x0502 => some { used := [0], body := cmdFlueStatus }
  | 0x0503 => some { used := [0], body := cmdGraphEvten }
  | 0x0504 => some { used := [0, 1], modeS := true, body := cmdSwathLoad }
  | 0x0505 => some { used := [0, 1, 2], body := cmdSwathCtl }
  | 0x0506 => some { used := [0, 1, 2], body := cmdSwathStatus }
  | 0x0601 => some { used := [0, 1, 2, 3], modeS := true, body := cmdStreamOpen }
  | 0x0602 => some { used := [0], modeS := true, body := cmdStreamClose }
  | 0x0603 => some { used := [0], modeS := true, body := cmdStreamResume }
  | 0x0604 => some { used := [0, 1, 2, 3], modeS := true, body := cmdStreamModify }
  | 0x0701 => some { used := [0, 1, 2], body := cmdMarkSet }
  | 0x0702 => some { used := [0], body := cmdMarkClear }
  | 0x0703 => some { used := [0], body := cmdPinSet }
  | 0x0704 => some { used := [0], body := cmdPinClear }
  | 0x0705 => some { used := [0, 1, 2, 3, 4, 5], body := cmdReadStart }
  | 0x0706 => some { body := cmdReadStop }
  | 0x0801 => some { modeS := true, body := cmdTimeRearm }
  | 0x0802 => some { smb := true, body := cmdTimeStatus }
  | 0x0901 => some { used := [0, 1, 2, 3, 4, 5, 6, 7, 8, 9], body := fun c s => cmdTwXfer (c.arg 1 % 16) c s }
  | 0x0902 => some { used := [0], body := cmdTwClear }
  | 0x0A01 => some { used := [0], modeS := true, body := cmdFenceChannel }
  | 0x0A02 => some { used := [0], modeS := true, body := cmdFenceCluster }
  | 0x0A03 => some { used := [0], body := cmdEngineTest }
  | 0x0B01 => some { used := [0, 1, 2, 3], body := cmdFwUpdate }
  | 0x0B02 => some { used := [0, 1, 2, 3, 4], body := cmdAttest }
  | 0x0B03 => some { body := cmdDebugChallenge }
  | 0x0B04 => some { used := [0, 1], body := cmdDebugUnlock }
  | 0x0B05 => some { body := cmdDebugLock }
  | 0x0B06 => some { body := cmdSecurityLog }
  | _ => none

/-- A command that was taken from the ring, or came over the SMBus, starts (R369, R370, R382, R394, R436). -/
def State.cmdRun (s : State) (c : CmdPkt) : State :=
  let c := { c with start := s.now }
  match cmdRow c.op with
  | none =>
    if c.isWarden then s.wardenCommand c (List.range 14) fun _ s => (s, some (.err 0x0101 0))
    else if s.svcRunning then s.cmdReply c (.err 0x0101 0)
    else s.cmdReply c (.err 0x0A01 0)
  | some r =>
    if c.idx = 0xFFFF ∧ r.smb = false then s.cmdReply c (.err 0x0103 0)
    else if c.isWarden then s.wardenCommand c r.used r.body
    else if c.op = 0x0901 ∧ s.svcRunning then s.twStart c (c.arg 1 % 16)
    else if c.op = 0x0101 ∨ c.op = 0x0106 then s.anyCommand c r.used r.body
    else
      let s1 := s.svcCommand c r.used r.modeS r.body
      if c.op / 256 = 7 then s1.recPump else s1

/-! ### The submission ring (R367 to R369) -/

/-- A write to CMD_SQ_TAIL. A TAIL that would make the posted entries not yet taken fill the ring is discarded (R368). -/
def State.cmdDoorbell (s : State) (v : Nat) : State :=
  let n := s.cmdSize
  if s.rd CMD.CFG_EN = 1 ∧ v % n = s.rd CMD.SQ_HEAD_HEAD % n ∧ v % n ≠ s.rd CMD.SQ_TAIL_TAIL % n then
    (s.set1 CMD.STAT_RINGERR).raise 0x010B 0 (leBytes 4 v)
  else s.wr CMD.SQ_TAIL_TAIL v

/-- Row CMD_DOORBELL (R368). -/
def execCmdDoorbell (tail : BitVec 16) (t : Nat) (s : State) : Host.Outcome State Fault Refusal :=
  .next (if s.hostLive then (s.at t).cmdDoorbell tail.toNat else s)

/-- CMD_CFG.EN changes from 0 to 1: both rings start at entry 0 with PHASE 1 (R367, R291; log 64). -/
def State.cmdEnable (s : State) : State :=
  ({ s with cmd := { s.cmd with waiting := s.cmd.waiting.filter (fun c => c.idx == 0xFFFF), outbox := [], phase := 1 } }.wr
    CMD.SQ_HEAD_HEAD 0).wr CMD.CQ_TAIL_TAIL 0

/-- The packet in entry `i` of the submission ring (table "Command packet, 64 bytes, little-endian"). -/
def State.ringPacket (s : State) (i : Nat) : CmdPkt :=
  let base := s.rd CMD.SQ_BASE_LO_BASE / 64 * 64 + 2 ^ 32 * s.rd CMD.SQ_BASE_HI_BASE + 64 * i
  { op := s.hostLE base 2, cid := s.hostLE (base + 2) 2, flags := s.hostLE (base + 4) 1, resv := s.hostLE (base + 5) 3, idx := i,
    w := (List.range 14).map fun k => s.hostLE (base + 8 + 4 * k) 4 }

/-- Replies that the completion ring owes or holds unread. -/
def State.repliesOwed (s : State) : Nat :=
  let n := s.cmdSize
  (s.rd CMD.CQ_TAIL_TAIL % n + n - s.rd CMD.CQ_HEAD_HEAD % n) % n + s.cmd.outbox.length +
    ((s.cmd.waiting ++ s.cmd.running).filter fun c => c.idx != 0xFFFF).length

/-- Take up to `k` new entries in ring order, each only while the completion ring has room for its reply (R368). -/
def State.cmdTake (s : State) : Nat → State
  | 0 => s
  | k + 1 =>
    let n := s.cmdSize
    let h := s.rd CMD.SQ_HEAD_HEAD % n
    if h = s.rd CMD.SQ_TAIL_TAIL % n ∨ n - 1 ≤ s.repliesOwed then s
    else
      (({ s with cmd := { s.cmd with waiting := s.cmd.waiting ++ [s.ringPacket h] } }).wr CMD.SQ_HEAD_HEAD ((h + 1) % n)).cmdTake k

/-- The oldest waiting command may start: every earlier command of its area has replied, and every earlier command where it carries
BARRIER, is EPOCH_COMMIT or enters SMOULDER (R369, R470). -/
def State.mayStart (s : State) (c : CmdPkt) : Bool :=
  let all := c.flags % 2 == 1 || c.op == 0x0102 || (c.op == 0x0107 && c.arg 0 == 2)
  if all then decide (s.cmd.running = []) else s.cmd.running.all fun x => x.op / 256 != c.op / 256

/-- Waiting commands start in ring order; a reset that one of them asked for ends the work. -/
def State.cmdPump (s : State) : Nat → State
  | 0 => s
  | k + 1 =>
    match s.cmd.waiting with
    | [] => s
    | c :: rest =>
      if s.mayStart c = false ∨ s.pwr.resetAsk ≠ 0 then s
      else (({ s with cmd := { s.cmd with waiting := rest } }).cmdRun c).cmdPump k

/-- The SMBus command runs after the ring entries of its tick (R394). -/
def State.smbPump (s : State) : State :=
  match s.cmd.smbWait with
  | some c => if s.pwr.resetAsk ≠ 0 then s else ({ s with cmd := { s.cmd with smbWait := none } }).cmdRun c
  | none => s

/-- A command that waits for programs to be permitted or for the warden is tried again (R385, R386, R392). -/
def State.cmdRetry (s : State) (c : CmdPkt) : State :=
  match c.op with
  | 0x0109 => if s.storeFree then let r := s.storeWrite c; r.1.cmdReply c r.2 else s
  | 0x0B01 => if s.storeFree ∧ s.rd CMD.STAT_WARDEN = 1 then let r := s.fwWrite c; r.1.cmdReply c r.2 else s
  | 0x0A01 => match cmdFenceChannel c s with
    | (s1, some r) => s1.cmdReply c r
    | _ => s
  | 0x0A02 => match cmdFenceCluster c s with
    | (s1, some r) => s1.cmdReply c r
    | _ => s
  | _ => s

/-- The command part of a tick: commands that wait are tried again, entries are taken and started, then the SMBus command (R368,
R369, R394, R436). -/
def State.cmdTick (s : State) : State :=
  if !(s.svcRunning || s.svcStopped) then s
  else
    let s1 := s.cmd.running.foldl (fun s c => s.cmdRetry c) s
    let s2 := if s1.rd CMD.CFG_EN = 1 then s1.cmdTake 64 else s1
    (s2.cmdPump s2.cmd.waiting.length).smbPump

/-! ### Limits (R374) -/

/-- The limit of a command in ns (R374, table "Command opcodes"). -/
def CmdPkt.limit (c : CmdPkt) : Nat :=
  match c.op with
  | 0x0108 => 100000000
  | 0x0109 => 1000000000
  | 0x0302 | 0x0303 => 20000000
  | 0x0401 | 0x0402 => 10000000 + 1000000 * ceilDiv (c.arg 4) 8388608
  | 0x0501 | 0x0504 | 0x0A03 => 50000000
  | 0x0B01 => 60000000000
  | _ => 10000000

/-- A two-wire transfer whose command has replied goes on without a reply. -/
def TwPort.unreply (x : TwPort) (c : CmdPkt) : TwPort :=
  { x with cur := x.cur.map (fun y => if y.cid = c.cid ∧ y.ring = c.idx then { y with replied := true } else y),
           clearCmd := x.clearCmd.filter fun d => !(d.cid == c.cid && d.idx == c.idx) }

/-- A command has not ended at its limit: TIMEOUT, or NAND_HELD for a write that waits for its permission (R374, R392). -/
def State.cmdTimeout (s : State) (c : CmdPkt) : State :=
  let s1 : State := { s with tw := s.tw.map fun e => (e.1, e.2.unreply c) }
  let s2 := s1.setDiag { s1.diag with tcmds := s1.diag.tcmds.filter fun e => !(e.2.cid == c.cid && e.2.idx == c.idx) }
  s2.cmdReply c (.err (if c.op = 0x0109 ∨ c.op = 0x0B01 then 0x0704 else 0x0901) 0)

/-- Row COMMAND_TIMEOUT (R374). -/
def execCommandTimeout (t : Nat) (s : State) : Host.Outcome State Fault Refusal :=
  .next ((s.cmd.running.filter fun c => decide (c.start + c.limit ≤ t)).foldl (fun s c => s.cmdTimeout c)
    (if s.cmd.running.any fun c => decide (c.start + c.limit ≤ t) then s.at t else s))

/-! ### The local target port (R393, R394, R410 to R414) -/

/-- STP answers its address: enabled, its bank powered, the module outside SMOULDER, OFF and reset, and not within 2 ms of a wake
(R414, R464). -/
def State.stpOn (s : State) (t : Nat) : Bool :=
  s.is TWBG.STP_CFG_EN && s.is SYS.PWR_STAT_VIO_OK &&
  (s.pwr.st == .up || s.pwr.st == .startup || s.pwr.st == .entering || s.pwr.st == .deferral) &&
  s.pwr.stpAt.elim true fun a => decide (a + 2000000 ≤ t)

/-- What a block read returns: count, data and PEC, as one little-endian number in `busRead` (R411). -/
def State.stpRead (s : State) (code : Nat) (data : List Nat) : State :=
  let a := 2 * s.rd TWBG.STP_STAT_ADDR
  let bytes := data.length :: data
  { s with busRead := leNat (bytes ++ [crc8 ([a, code, a + 1] ++ bytes)]) }

/-- The power-state byte of STATUS (R393, R498). -/
def State.stpState (s : State) : Nat :=
  match s.pwr.st with
  | .up => s.rd SYS.PWR_STAT_STATE
  | .startup | .resetHeld => 2
  | _ => 3

/-- Row SMBUS_IDENT: command code 0x01 (R393). -/
def execSmbusIdent (t : Nat) (s : State) : Host.Outcome State Fault Refusal :=
  .next (if s.stpOn t then
    (s.at t).stpRead 0x01 (leBytes 4 (s.rd SYS.ID) ++ [s.rd SYS.STEPPING_DIGIT, s.rd SYS.STEPPING_LETTER] ++ leBytes 2 s.moduleId ++
      leBytes 4 (s.rd CMD.FWVER_WDN_VERSION) ++ leBytes 4 (s.rd CMD.FWVER_SVC_VERSION))
  else s)

/-- Row SMBUS_STATUS: command code 0x02 (R393). -/
def execSmbusStatus (t : Nat) (s : State) : Host.Outcome State Fault Refusal :=
  .next (if s.stpOn t then
    (s.at t).stpRead 0x02 [s.stpState, s.rd CMD.STAT_SVC, s.rd TIM.STAT_STATE, s.rd THM.STAT_BAND,
      s.rd CMD.STAT_ARMED + 2 * s.rd CMD.STAT_SEALED_WR + 4 * s.rd CMD.STAT_RINGERR + 16 * s.rd CMD.STAT_DEBUG, 0, 0, 0]
  else s)

/-- Row SMBUS_SUBMIT: command code 0x10, a packet of 64 bytes with or without PEC (R393, R394, R410, R411, R499). -/
def execSmbusSubmit (data : List (BitVec 8)) (pec : Option (BitVec 8)) (t : Nat) (s : State) : Host.Outcome State Fault Refusal :=
  let d := data.map BitVec.toNat
  let want := crc8 ([2 * s.rd TWBG.STP_STAT_ADDR, 0x10, d.length] ++ d)
  let w (o n : Nat) : Nat := leNat ((d.drop o).take n)
  .next (if s.stpOn t = false ∨ s.rd SYS.BOOT_FAIL ≠ 0 ∨ d.length ≠ 64 then s
    else if pec.elim false fun p => p.toNat != want then
      (((s.at t).addSat TWBG.STP_CNT_PEC_ERR 1).set1 TWBG.STP_STAT_PEC_STKY).raise 0x0D05 26 (leBytes 4 0x10)
    else if pec = none ∧ s.is TWBG.STP_CFG_PEC_REQ then s
    else if s.is CMD.STAT_SMB_BUSY then s
    else
      let c : CmdPkt := { op := w 0 2, cid := w 2 2, flags := w 4 1, resv := w 5 3, idx := 0xFFFF,
                          w := (List.range 14).map fun k => w (8 + 4 * k) 4 }
      ({ s.at t with cmd := { s.cmd with smbWait := some c, smbCid := c.cid, smbOp := c.op, smbReply := none } }).wr
        CMD.STAT_SMB_BUSY 1)

/-- Row SMBUS_REPLY: command code 0x11; IN_PROGRESS with the CID before the command has replied; with no command since reset its content
is not stated (R394; log 2). -/
def execSmbusReply (t : Nat) (s : State) : Host.Outcome State Fault Refusal :=
  .next (if s.stpOn t = false ∨ s.rd SYS.BOOT_FAIL ≠ 0 then s
    else
      let s0 := s.at t
      if s.is CMD.STAT_SMB_BUSY then
        s0.stpRead 0x11 ((Reply.err 0x0902 0).bytes { op := s.cmd.smbOp, cid := s.cmd.smbCid, idx := 0xFFFF } 0)
      else
        match s.cmd.smbReply with
        | some b => s0.stpRead 0x11 b
        | none => s0.used.stpRead 0x11 (leBytes 32 (s.free 256)))

/-- Row STP_ABANDON: a start in an acknowledge slot; the transaction is abandoned and counted (R413). -/
def execStpAbandon (t : Nat) (s : State) : Host.Outcome State Fault Refusal :=
  .next (if s.stpOn t then
    ((((s.at t).addSat TWBG.STP_CNT_ABANDONED 1).set1 TWBG.STP_STAT_ABANDON_STKY).wr TWBG.STP_STAT_BUSY 0).raise 0x0D06 26 []
  else s)

/-- Row STP_SCL_TIMEOUT: SCL has been low since `since`, TLOTMO ms; STP releases the bus and abandons the transaction (R412). -/
def execStpSclTimeout (since t : Nat) (s : State) : Host.Outcome State Fault Refusal :=
  .next (if s.stpOn t ∧ since + 1000000 * max 1 (s.rd TWBG.STP_CFG_TLOTMO) ≤ t then (s.at t).wr TWBG.STP_STAT_BUSY 0 else s)

/-- Row STP_WAKE: an address phase to STP in SMOULDER is not acknowledged and wakes the module (R414, R464, R472). -/
def execStpWake (t : Nat) (s : State) : Host.Outcome State Fault Refusal :=
  .next (if s.pwr.st = .smoulder ∧ s.is SYS.PWR_STAT_VIO_OK ∧ s.pwr.stpWoke = false then
    let s1 := ((s.at t).wakePend 2).set1 TWBG.STP_STAT_WAKE_STKY
    s1.setPwr { s1.pwr with stpWoke := true, stpAt := some t }
  else s)

end Sys2Proof.Machine
end

