-- ==== Sys2Proof/Machine/Cell.lean ====
section
/-! DEFINITION. Cells and packets of the forward channel: matching, descrambling, parsing and the reaction to errors (R99 to R114). -/

namespace Sys2Proof.Machine

/-! ### Cells (R99 to R102) -/

/-- The sync word (R99). -/
def syncWord : Nat := 0x3A5C96E1

/-- One byte of the PRBS31 generator, most significant bit first: stage s(i+1) is bit i of the state (R101). -/
def prbsByte : Nat → Nat → Nat → Nat × Nat
  | 0, st, acc => (acc, st)
  | k + 1, st, acc =>
    let o := (st / 2 ^ 30 + st / 2 ^ 27) % 2
    prbsByte k (2 * st % 2 ^ 31 + o) (2 * acc + o)

/-- A payload under the generator, descrambled byte by byte (R101). -/
def descramble : Nat → List Nat → List Nat
  | _, [] => []
  | st, b :: bs =>
    let r := prbsByte 8 st 0
    b.xor r.1 :: descramble r.2 bs

/-- The bytes of words in line order, most significant first. -/
def lineBytes (ws : List Word) : List Nat :=
  ws.flatMap fun w => [w.toNat / 2 ^ 24, w.toNat / 2 ^ 16 % 256, w.toNat / 2 ^ 8 % 256, w.toNat % 256]

/-! ### Packets (R109 to R114) -/

/-- A forward packet is known: its TYPE, its fixed length, and the FMT of a LINE (R111 to R113). -/
def packetKnown (ty : Nat) (pay : List Nat) : Bool :=
  match ty with
  | 0x10 => decide (pay.length = 12)
  | 0x11 => decide (6 ≤ pay.length) && fmtValid (pay.getD 4 0)
  | 0x12 => decide (pay.length = 8)
  | 0x13 => decide (2 ≤ pay.length)
  | 0x20 => decide (2 ≤ pay.length)
  | 0x21 => decide (pay.length = 12)
  | 0x22 => decide (pay.length = 1)
  | 0x30 => decide (pay.length = 10)
  | 0x31 => true
  | _ => false

/-- FRAME_START is forwarded: a FRAME boundary commits before it (R114, R151, R376). -/
def State.startPacket (s : State) (n vc num tseq : Nat) (valid : Bool) (w h sof : Nat) : State :=
  (s.epochFrame n vc num).frameStart n vc num tseq valid w h sof

/-- A LINE packet of a near-end loop with PAT CELL carries 16-bit values that count; the receiver forwards nothing else (R134, R136). -/
def State.loopLine (s : State) (n ty : Nat) (px : List Nat) : State :=
  if ty = 0x11 then s.loopCheck n 2 fun c => ((bytePairs px).map fun x => x.1 + 256 * x.2).foldl loopCount c else s

/-- A packet is forwarded to the unit it is for; `at_` is the stamp in ps of the cell in which its header begins, `bad` and `cut` are the
marks of R113. -/
def State.packetIn (s : State) (n ty vc : Nat) (p : List Nat) (at_ : Nat) (bad cut : Bool) : State :=
  if (s.link n).loop = 1 ∨ (s.link n).loop = 2 then s.loopLine n ty (p.drop 6)
  else match ty with
  | 0x10 =>
    if s.videoOn n then
      s.startPacket n vc (leAt p 0 4) (p.getD 4 0) ((p.getD 5 0).testBit 0) (leAt p 8 2) (leAt p 10 2) (s.devAt (at_ / 1000))
    else s
  | 0x11 =>
    if s.videoOn n then s.lineIn n vc (leAt p 0 2) (leAt p 2 2) (p.getD 4 0) (p.drop 6) bad cut else s
  | 0x12 => if s.videoOn n then s.endPacket n vc (leAt p 0 4) (leAt p 4 2) ((p.getD 6 0).testBit 0) else s
  | 0x13 => if s.videoOn n then s.embedIn n vc (p.getD 0 0) (p.drop 2) (bad || cut) else s
  | 0x20 => s.bcAck n (p.getD 0 0 % 16) (p.getD 0 0 / 16) ((p.drop 2).take (p.getD 1 0))
  | 0x21 => s.echoReply n (p.getD 0 0) at_ (leAt p 4 4) (leAt p 8 4)
  | 0x22 => s.wr (LNK.GPIO_IN n) (p.getD 0 0)
  | 0x30 => s.telemetry n p
  | 0x31 => s.loopPacket n p
  | _ => s

/-- The packet in progress is cut: LINE and EMBEDDED go on up to the cut, others are discarded (R113). -/
def State.cutPacket (s : State) (n : Nat) : State :=
  let l := s.link n
  let s1 := s.setLink n { l with part := [], resync := true }
  let p := l.part
  let ty := p.getD 0 0
  let len := p.getD 1 0 % 64 * 256 + p.getD 2 0
  let pay := (p.drop 4).take len
  if (ty = 0x11 ∨ ty = 0x13) ∧ packetKnown ty pay then s1.packetIn n ty (p.getD 1 0 / 64) pay l.partAt false true else s1

/-- A header is not good: the rest of the packet area is discarded, and parsing resumes at the next cell's FPO (R113). -/
def State.headerBad (s : State) (n : Nat) : State :=
  ((s.setLink n { s.link n with part := [], resync := true }).addSat (LNK.CNT1_HDR_CRC n) 1).raise 0x0805 n []

/-- A whole packet: its payload CRC, then what it is for (R110, R113). -/
def State.packetDone (s : State) (n ty vc : Nat) (pay crc : List Nat) (at_ : Nat) : State :=
  if packetKnown ty pay = false then s.addSat (LNK.CNT3_UNKNOWN_TYPE n) 1
  else
    let l := s.link n
    let bad := decide (pay ≠ []) && (l.injPcrc || decide (crc32c pay ≠ leNat crc))
    let s1 := if pay = [] then s else s.setLink n { l with injPcrc := false }
    if bad = false then s1.packetIn n ty vc pay at_ false false
    else
      let s2 := (s1.addSat (LNK.CNT1_PAY_CRC n) 1).raise 0x0806 n []
      match ty with
      | 0x11 | 0x13 => s2.packetIn n ty vc pay at_ true false
      | 0x10 => if s2.videoOn n then s2.markerMissing n vc true else s2
      | 0x12 => if s2.videoOn n then s2.markerMissing n vc false else s2
      | _ => s2

/-- Parse packet bytes; the first packet began in the cell stamped `at_`, later ones in the cell stamped `now`. `seen` says that the
first header has been checked before (R109, R110, R113). -/
def State.parse (s : State) (n : Nat) (b : List Nat) (at_ now : Nat) (seen : Bool) : Nat → State
  | 0 => s
  | k + 1 =>
    let keep (s : State) : State := s.setLink n { s.link n with part := b, partAt := at_, resync := false }
    let ty := b.getD 0 0
    if b = [] ∨ ty = 0 then s.setLink n { s.link n with part := [], resync := false }
    else if b.length < 4 then keep s
    else if seen = false ∧ ((s.link n).injHcrc ∨ crc8 (b.take 3) ≠ b.getD 3 0) then (s.setLink n { s.link n with injHcrc := false }).headerBad n
    else
      let len := b.getD 1 0 % 64 * 256 + b.getD 2 0
      let total := if len = 0 then 4 else len + 8
      if b.length < total then keep s
      else
        let s1 := s.packetDone n ty (b.getD 1 0 / 64) ((b.drop 4).take len) ((b.drop (4 + len)).take 4) at_
        s1.parse n (b.drop total) now now false k

/-- The payload of a cell in ALIGNED: CSEQ, FPO and the packet area (R100, R113). -/
def State.cellPayload (s : State) (n : Nat) (pay : List Nat) (ps : Nat) : State :=
  let seq := pay.getD 0 0
  let fpo := pay.getD 1 0 % 128
  let area := pay.drop 2
  let gap := (s.link n).cseq.elim 0 fun c => (seq + 511 - c) % 256
  let s1 := if gap = 0 then s else (((s.addSat (LNK.CNT0_CELL_LOST n) gap).raise 0x0807 n []).cutPacket n)
  let s2 := s1.setLink n { s1.link n with cseq := some seq }
  if fpo = 126 then (s2.cutPacket n).headerBad n
  else
    let l := s2.link n
    if l.resync then (if fpo = 127 then s2 else s2.parse n (area.drop fpo) ps ps false 128)
    else if l.part = [] then s2.parse n area ps ps false 128
    else s2.parse n (l.part ++ area) l.partAt ps (decide (4 ≤ l.part.length)) 128

/-! ### The receiver (R102, R104 to R107) -/

/-- A word of destuffed line bits: its value, when its first bit passed FLRn_IO in ps, and whether a stuff violation fell in it. -/
structure RxWord where
  w   : Nat
  at_ : Nat
  bad : Bool

/-- The number that bits spell, first bit most significant. -/
def bitsNat (bs : List Bool) : Nat := bs.foldl (fun a b => 2 * a + b2n b) 0

/-- One line bit that passed FLRn_IO at `at_`: it ends or continues a run of identical bits; the one after a run of 24 is removed, and is a
violation where it does not oppose the run (R102). A bit slip drops bits before they are assembled (R107). -/
def Link.rxBit (l : Link) (at_ : Nat) (b : Bool) : Link × Option RxWord :=
  let run : Link := { l with runBit := b, runLen := if b = l.runBit then l.runLen + 1 else 1 }
  if l.runLen = 24 then ({ run with runLen := 1, accBad := l.accBad || b == l.runBit }, none)
  else if 0 < l.slipBits then ({ run with slipBits := l.slipBits - 1 }, none)
  else
    let start := if l.acc = [] then at_ else l.accAt
    let acc := l.acc ++ [b]
    if acc.length = 32 then
      ({ run with acc := [], accBad := false }, some { w := bitsNat acc, at_ := start, bad := l.accBad })
    else ({ run with acc := acc, accAt := start }, none)

/-- Line bits, the first of which passed FLRn_IO at `at_`, `step` ps apart: the words that they complete (R102). -/
def Link.rxBits (l : Link) (step at_ : Nat) : List Bool → Link × List RxWord
  | [] => (l, [])
  | b :: bs =>
    let r := l.rxBit at_ b
    let q := r.1.rxBits step (at_ + step) bs
    (q.1, r.2.toList ++ q.2)

/-- Line bits without their stuff bits (R102). -/
def Link.destuff (l : Link) : List Bool → Link × List Bool
  | [] => (l, [])
  | b :: bs =>
    let run : Link := { l with runBit := b, runLen := if b = l.runBit ∧ l.runLen ≠ 24 then l.runLen + 1 else 1 }
    let q := run.destuff bs
    (q.1, if l.runLen = 24 then q.2 else b :: q.2)

/-- A bit time in ps at the rate in use (R98). -/
def State.bitTime (s : State) (n : Nat) : Nat := 640 / 2 ^ s.rd (LNK.STAT_RATE_ACT n)

/-- A word passes the hit window (R107). -/
def State.hitWord (s : State) (n w : Nat) : State :=
  let l := s.link n
  if 66 ≤ l.winWords then s
  else
    let s1 := s.setLink n { l with winWords := l.winWords + 1 }
    if w = syncWord then s1.addSat (LNK.ALIGN_HITS n) 1 else s1

/-- A word at the place of a sync word begins a cell, stamped with it (R105, R114). -/
def State.cellBegin (s : State) (n : Nat) (x : RxWord) (skip : Bool) : State :=
  s.setLink n { s.link n with wordPos := 1, cell := [], cellAt := x.at_, cellBad := x.bad || skip }

/-- A further word of the cell in progress; in ALIGNED its last one hands the payload over, unless the cell is discarded (R105, R106,
R113). -/
def State.cellWord (s : State) (n : Nat) (x : RxWord) : State :=
  let l := s.link n
  let cell := l.cell ++ [x.w]
  let s1 := s.setLink n { l with wordPos := l.wordPos + 1, cell := cell, cellBad := l.cellBad || x.bad }
  if s.rd (LNK.STAT_STATE n) = 4 ∧ cell.length = 32 then
    let s2 := s1.setLink n { s1.link n with cell := [] }
    if (s1.link n).cellBad then s2
    else s2.cellPayload n (descramble 0x5A5A5A5A (lineBytes (cell.map (BitVec.ofNat 32)))) l.cellAt
  else s1

/-- A match in CANDIDATE; the fourth in a row makes the receiver ALIGNED, from this cell on (R105). -/
def State.cellMatch (s : State) (n : Nat) : State :=
  let l := s.link n
  if 3 ≤ l.cand then s.enterAligned n else s.setLink n { l with cand := l.cand + 1 }

/-- A miss in ALIGNED; the eighth loses the link (R106). -/
def State.cellMiss (s : State) (n : Nat) : State :=
  let s1 := s.addSat (LNK.CNT0_SYNC_MISS n) 1
  let k := (s1.link n).misses + 1
  if k < 8 then s1.setLink n { s1.link n with misses := k }
  else
    let s2 := (s1.leaveAligned n).wr (LNK.STAT_STATE n) 5
    ((s2.setLink n { s2.link n with alignProc := some 0 }).set1 (LNK.STAT_LOST_STKY n)).raise 0x0802 n []

/-- A word at the receiver's word boundary (R105, R106). An injection corrupts the next sync word in 3 bits, in every state (R140). -/
def State.wordIn (s : State) (n : Nat) (x : RxWord) : State :=
  let l := s.link n
  let st := s.rd (LNK.STAT_STATE n)
  let due := decide (33 ≤ l.wordPos)
  let sync := (st = 2 ∨ st = 5 ∨ (st = 3 ∧ due)) ∧ x.w = syncWord
  let s0 := if l.injSync ∧ (sync ∨ (st = 4 ∧ due)) then s.setLink n { l with injSync := false } else s
  let w := if l.injSync ∧ sync then x.w.xor 7 else x.w
  match st with
  | 2 | 5 =>
    let s1 := s0.hitWord n w
    if w = syncWord then
      ((s1.setLink n { s1.link n with cand := 1, fromLost := st == 5 }).wr (LNK.STAT_STATE n) 3).cellBegin n x false
    else s1
  | 3 =>
    let s1 := s0.hitWord n w
    if due = false then s1.cellWord n x
    else if w = syncWord then (s1.cellMatch n).cellBegin n x false
    else if l.fromLost then (s1.setLink n { s1.link n with cand := 0 }).wr (LNK.STAT_STATE n) 5
    else s1.enterSearch n
  | 4 =>
    if due = false then s0.cellWord n x
    else if 2 < bitDiff 32 x.w syncWord + (if l.injSync then 3 else 0) then (s0.cellMiss n).cellBegin n x true
    else (s0.setLink n { s0.link n with misses := 0 }).cellBegin n x false
  | _ => s0

/-- Line bits reach the receiver; `ps` is the instant at which the first of them passed FLRn_IO. -/
def State.lineBits (s : State) (n : Nat) (line : List Bool) (ps : Nat) : State :=
  let r := (s.link n).rxBits (s.bitTime n) ps line
  r.2.foldl (fun s x => s.wordIn n x) (s.setLink n r.1)

/-- Row FORWARD_CELL: the line bits of a cell, stuff bits among them, in two parts, those of its first word before the others; the cell may begin in an earlier row and end in a later one (R102,
R105). A near-end loop takes the receiver off the line (R134). -/
def execForwardCell (n : Fin 24) (head rest : List Bool) (ps t : Nat) (s : State) : Host.Outcome State Fault Refusal :=
  .next (if (s.link n).loop = 1 ∨ (s.link n).loop = 2 ∨ s.is (LNK.STAT_CDR_LOCK n) = false then s
    else (s.at t).lineBits n (head ++ rest) ps)

/-- Row LOOP_PATTERN_CHECK: line bits that the pattern transmitter of a near-end loop has sent reach the receiver, destuffed for the checker of
PRBS7 and PRBS31, as cells for that of CELL (R134, R136). -/
def execLoopPatternCheck (n : Fin 24) (head rest : List Bool) (ps t : Nat) (s : State) : Host.Outcome State Fault Refusal :=
  let line := head ++ rest
  let pat := s.cfg (LNK.LOOP_CFG_PAT n)
  .next (if (s.link n).loop ≠ 1 ∧ (s.link n).loop ≠ 2 then s
    else if 2 ≤ pat then (s.at t).lineBits n line ps
    else
      let r := (s.link n).destuff line
      ((s.at t).setLink n r.1).loopPrbs n (pat == 1) r.2)

/-- Row FRAME_START: a FRAME_START packet is forwarded; its first sync bit passed FLRn_IO at `t` (R114, R128, R151). -/
def execFrameStart (link : Fin 24) (vc : Fin 4) (num : Word) (tseq : BitVec 8) (valid : Bool) (w h : BitVec 16) (t : Nat) (s : State) :
    Host.Outcome State Fault Refusal :=
  .next (if s.videoOn link then (s.at t).startPacket link vc num.toNat tseq.toNat valid w.toNat h.toNat (s.devAt t) else s)

end Sys2Proof.Machine
end

