-- ==== Sys2Proof/Machine/Tick.lean ====
section
/-! DEFINITION. The management tick (R21, R462, R470, R473, R501). -/

namespace Sys2Proof.Machine

/-- Ticks run from the beginning of the second stage of a start on, in RUN, HOLD and while SMOULDER is entered (R21, R497). -/
def State.ticks (s : State) : Bool :=
  s.pwr.tickAt.isSome && (s.pwr.st == .up || s.pwr.st == .entering || s.pwr.st == .startup)

/-- A tick falls at `t`: whole ms after the beginning of STAGE 2, later than the last one (R21). -/
def State.tickDue (s : State) (t : Nat) : Bool :=
  s.pwr.tickAt.elim false fun a => decide (a < t) && (t - a) % 1000000 == 0

/-- The supply registers at a tick (R462, R478). -/
def State.supplies (s : State) (x : TickIn) : State :=
  ((((s.wr SYS.VIN_NOW x.vin.toNat).wr SYS.VIN_MIN (min (s.rd SYS.VIN_MIN) x.vin.toNat)).wr SYS.VSUP_VAUX x.vaux.toNat).wr
    SYS.VSUP_VCAM x.vcam.toNat).wr SYS.VIO_VIO_H x.vio.toNat

/-- A thermal shutdown in the tick of an undervoltage or overvoltage shutdown takes its place (R473). -/
def State.thermalWins (s : State) (x : TickIn) : State :=
  let down := s.rd SYS.PWR_STAT_LAST_DOWN
  if s.pwr.downAt = s.now ∧ (down = 3 ∨ down = 5) ∧ ((s.wr CMD.STAT_WARDEN 1).thermTick x).2 then
    ((s.wr SYS.PWR_STAT_LAST_DOWN 2).wr THM.STAT_SHUT_CAUSE 1).setPwr { s.pwr with thermal := true }
  else s

/-- What service firmware does at a tick: the epoch, the commands and the SMBus command (R367 to R370, R379, R394). -/
def State.serviceTick (s : State) : State := if s.diag.hang then s.epochRenew else s.epochRenew.cmdTick

/-- What the other units do at a tick: delivery, time, recorder and warden (R308, R309, R334, R344, R358, R389). -/
def State.unitTick (s : State) (x : TickIn) : State :=
  let s1 := s.stallTick.admTick.wmEval.timTick.busyTick
  let s2 := if 4 ≤ s.pwr.done then s1.recTick else s1
  (s2.storeTick.wardenPump 4).wr DIA.BG_MBPS x.bg.toNat

/-- One management tick. Events of the last tick become records after everything else (R64). -/
def State.tick (s : State) (x : TickIn) : State :=
  let r := (s.supplies x).thermTick x
  if r.2 then r.1.shutdown (some 1) 2
  else
    let s1 := if r.1.pwr.ask then r.1.enterSmoulder else r.1
    let s2 := s1.serviceTick
    if s2.pwr.resetAsk ≠ 0 then s2.resetPump else (s2.unitTick x).evTick

/-- Row MANAGEMENT_TICK (R21). -/
def execManagementTick (x : TickIn) (t : Nat) (s : State) : Host.Outcome State Fault Refusal :=
  let s1 := s.sampled t
  let s0 := s1.setPwr { s1.pwr with tickAt := some t }
  .next (if s.tickDue t = false then s
    else if s.ticks then s0.tick x
    else if s.pwr.st = .deferral then s0.thermalWins x
    else s)

end Sys2Proof.Machine
end

