-- ==== Sys2Proof/Machine/BarAccess.lean ====
section
/-! DEFINITION. Reads and writes of BAR0 by the host (R4 to R11, R23 to R25, R317, R318, R378, R395). -/

namespace Sys2Proof.Machine

/-- The host reaches an offset: the endpoint is on, and before READY only SYS and CMD answer (R465, R497). -/
def State.barReach (s : State) (off : Nat) : Bool :=
  s.hostLive && (s.pwr.st != .startup || decide (off < 0x20000))

/-! ### Reads (R6, R9) -/

/-- A field that shows how busy an engine that has run was in the last tick: MEM and STRM of ENG_STALL. -/
def State.isLoad (s : State) (f : Fld) : Bool :=
  (List.range 132).any fun g => (f == ENG.STALL_MEM g || f == ENG.STALL_STRM g) && (s.rd (ENG.RET_LO_RET g) != 0 || s.rd (ENG.RET_HI_RET g) != 0)

/-- The value a field shows: for fields that report a live input, what that input is now. A figure of busy clocks, in 1/1,000, is
a free value, since the model holds no clock of a datapath (log 70). -/
def State.shown (s : State) (f : Fld) : Nat :=
  if f.ty = .wo then 0
  else if f.ty = .ro ∧ f.w = 10 ∧ s.isLoad f then freeSample [f.key, s.now] % 1001
  else if f = TIM.NOW_LO_NOW then s.dev % 2 ^ 32
  else if f = TIM.NOW_HI_NOW then s.dev / 2 ^ 32
  else if f = TRG.STAT_ARMED then s.armedCount
  else if 0x20000 ≤ f.off ∧ f.off < 0x28000 ∧ f = DQ.BUCKET_LEVEL ((f.off - 0x20000) / 0x200) then
    min (s.bucketAt ((f.off - 0x20000) / 0x200) s.now / 1000000) (2 ^ 32 - 1)
  else if 0x28040 ≤ f.off ∧ f.off < 0x28080 ∧ f = DLV.WM_VAL_VAL ((f.off - 0x28040) / 0x10) then s.wmValue ((f.off - 0x28040) / 0x10)
  else if 0x42000 ≤ f.off ∧ f.off < 0x42800 then
    let n := (f.off - 0x42000) / 0x100
    if f = AX.POS_LO_POS n then (s.posAt n s.now).toNat % 2 ^ 32
    else if f = AX.POS_HI_POS n then (s.posAt n s.now).toNat / 2 ^ 32
    else s.rd f
  else if 0xA0000 ≤ f.off ∧ f.off < 0xAC000 then
    let c := 2 * ((f.off - 0xA0000) / 0x1000) + ((f.off - 0xA0000) % 0x1000 - 0x100) / 0x200 % 2
    if f = CTX.STAT_ACTIVE c then b2n (ctxOn s.cfg c) else s.rd f
  else s.rd f

/-- The 32 bits of the register at an offset; 0 where none is mapped (R5, R6). The MSI-X table and its pending bits lie in BAR0
(R317). -/
def State.regValue (s : State) (off : Nat) : Nat :=
  if 0x2C000 ≤ off ∧ off < 0x2C400 then s.msixWord ((off - 0x2C000) / 4)
  else if off = 0x2D000 then s.msixPend % 2 ^ 32
  else if off = 0x2D004 then s.msixPend / 2 ^ 32
  else (fieldsAt off).foldl (fun a f => a + s.shown f * 2 ^ f.lo) 0

/-- A register is one half of a 64-bit quantity. -/
def isHalf (h : Half) (off : Nat) : Bool := (fieldsAt off).any fun f => f.half == h

/-- What an access to the axis registers at an offset finds: the axes as they are now (R51, R59). -/
def State.axisFresh (s : State) (off : Nat) : State := if 0x42000 ≤ off ∧ off < 0x42800 then s.sampled s.now else s

/-- A read of one register. A _LO register latches its _HI; a _HI register answers from the latch once, else its live value (R9). The
data registers of the peek FIFOs pop (R314). -/
def State.regRead (s : State) (off : Nat) : State :=
  if off = DLV.EVPK_DATA_DATA.off then s.evPop
  else if off = THM.TLPK_DATA_DATA.off then s.tlPop
  else if isHalf .lo off then
    { s with busRead := s.regValue off, hiLatch := AMap.set s.hiLatch (off + 4) (s.regValue (off + 4)) }
  else if isHalf .hi off then
    match s.hiLatch.find? fun e => e.1 == off with
    | some e => { s with busRead := e.2, hiLatch := s.hiLatch.filter fun e => e.1 != off }
    | none => { s with busRead := s.regValue off }
  else { s with busRead := s.regValue off }

/-- The registers that one read request covers are read in rising order, _LO before _HI (R9); the bytes of their values. An offset the
host does not reach reads 0. -/
def State.regsRead (s : State) : List Nat → State × List Nat
  | [] => (s, [])
  | o :: os =>
    let s1 := if s.barReach o then (s.axisFresh o).regRead o else { s with busRead := 0 }
    let r := s1.regsRead os
    (r.1, leBytes 4 s1.busRead ++ r.2)

/-- The registers that `len` bytes from an offset lie in. -/
def regsOf (off len : Nat) : List Nat := (List.range ((off % 4 + len + 3) / 4)).map fun i => off / 4 * 4 + 4 * i

/-- Row LO_READ_LATCH: one read request, which answers the addressed bytes (R4, R9). -/
def execLoReadLatch (req : BarRead) (t : Nat) (s : State) : Host.Outcome State Fault Refusal :=
  .next (if s.hostLive = false then s
    else
      let r := (s.at t).regsRead (regsOf req.off.toNat req.len)
      { r.1 with busRead := leNat ((r.2.drop (req.off.toNat % 4)).take req.len) })

/-! ### Writes (R4, R7, R10, R23, R378) -/

/-- A write to this field is ignored in the present state: ring bases and sizes of enabled rings, the thermal offset under lock (R318,
R395, R434). -/
def State.ignores (s : State) (f : Fld) : Bool :=
  (s.rd DLV.EVR_CFG_EN == 1 && [DLV.EVR_BASE_LO_BASE, DLV.EVR_BASE_HI_BASE, DLV.EVR_CFG_RSZ].contains f) ||
  (s.rd CMD.CFG_EN == 1 && [CMD.SQ_BASE_LO_BASE, CMD.SQ_BASE_HI_BASE, CMD.CQ_BASE_LO_BASE, CMD.CQ_BASE_HI_BASE, CMD.CFG_RSZ].contains f) ||
  (s.injLocked && f == THM.INJ_OFS_OFS)

/-- The bits of a register value that a field takes; an aligned base keeps no low bits. -/
def Fld.part (f : Fld) (v : Nat) : Nat :=
  let x := v / 2 ^ f.lo % 2 ^ f.w
  if f.al6 then x / 64 * 64 else x

/-- One field of a register that is written, by its type (R7). Fields of type WO act through their own rows. -/
def State.fieldWrite (s : State) (v : Nat) (f : Fld) : State :=
  match f.ty with
  | .rw => if s.ignores f then s else s.wr f (f.part v)
  | .rwl => s.wr f (f.part v)
  | .w1c => s.clear1 f (f.part v)
  | .w1s => s.wr f ((s.rd f).lor (f.part v))
  | _ => s

/-- The fields that a write changes at once: while an epoch is armed, staged fields are left out (R378). -/
def State.openFields (s : State) (fs : List Fld) : List Fld := if s.sealed then fs.filter fun f => !f.staged else fs

/-- A write would have changed a staged field. -/
def State.wouldChange (s : State) (v : Nat) (fs : List Fld) : Bool :=
  fs.any fun f => f.staged && f.ty == .rw && s.rd f != f.part v

/-- The plain effect of a write: a _HI half waits for its _LO, whose write applies both (R10); other fields act by type, and what the
seal discards is reported where it differs (R378). -/
def State.plainWrite (s : State) (off v : Nat) : State :=
  let fs := fieldsAt off
  let rwHalf (h : Half) : Bool := fs.any fun f => f.half == h && f.ty == .rw
  let held := s.hiHold.find? fun e => e.1 == off + 4
  let shut := s.sealed && (s.wouldChange v fs || (rwHalf .lo && held.elim false fun e => s.wouldChange e.2 (fieldsAt (off + 4))))
  let s1 : State :=
    if rwHalf .hi then
      (if (s.sealed && fs.any (fun f => f.staged)) || fs.any s.ignores then s else { s with hiHold := AMap.set s.hiHold off v })
    else
      let s2 := (s.openFields fs).foldl (fun s f => s.fieldWrite v f) s
      match (if rwHalf .lo then held else none) with
      | some e =>
        let s3 := (s2.openFields (fieldsAt (off + 4))).foldl (fun s f => s.fieldWrite e.2 f) s2
        { s3 with hiHold := s3.hiHold.filter fun x => x.1 != off + 4 }
      | none => s2
  if shut then s1.sealedWrite off else s1

/-- What follows a write to particular registers. -/
def State.afterWrite (s : State) (was : Conf) (off : Nat) : State :=
  if [AXS.EVTEN_EN, TRG.EVTEN_EN, LNKG.EVTEN_EN, INGG.EVTEN_EN, CL.EVTEN_EN 0, MEM.EVTEN_EN, DLV.EVTEN_EN, REC.EVTEN_EN, TIM.EVTEN_EN,
      ETHG.EVTEN_EN, CMD.EVTEN_EN, TWBG.EVTEN_EN, THM.EVTEN_EN, DIA.EVTEN_EN, SYS.EVTEN_EN].any (fun f => f.off == off) then s.evDiscard
  else if off = CMD.CFG_EN.off then (if was CMD.CFG_EN = 0 ∧ s.rd CMD.CFG_EN = 1 then s.cmdEnable else s)
  else if off = DLV.EVR_HEAD_HEAD.off then s.evLost
  else if off = DIA.ROT_CFG_EN.off then
    (if was DIA.ROT_CFG_EN = 0 then (List.range 4).foldl (fun s n => s.rotBegin n) s else s)
  else if off = DIA.LOCK_INJ.off then (if s.injLocked then s.wr THM.INJ_OFS_OFS 0 else s)
  else if off = TIM.CFG_SRC.off then s.ethReselect
  else if off = (ETH.CFG_EN 0).off then s.ethConfig 0
  else if off = (ETH.CFG_EN 1).off then s.ethConfig 1
  else if (DLV.WM_CFG_EN 0).off ≤ off ∧ off < (DLV.WM_CFG_EN 0).off + 0x40 then s.wmEval
  else if 0x41000 ≤ off ∧ off < 0x41800 ∧ (off - 0x41000) % 0x100 = 0x0C then s.portFault ((off - 0x41000) / 0x100) s.now
  else if 0x80000 ≤ off ∧ off < 0x98000 ∧ off = (LNK.POC_STAT_SHORT ((off - 0x80000) / 0x1000)).off then
    s.pocCleared ((off - 0x80000) / 0x1000)
  else if 0xD0000 ≤ off ∧ off < 0xD0600 ∧ (off - 0xD0000) % 0x40 < 0x14 then
    let n := (off - 0xD0000) / 0x40
    s.setLink n { s.link n with cfgDue := true }
  else s

/-- A write of one register (R4 to R11). Registers with a row of their own act as that row says. -/
def State.regWrite (s : State) (off v : Nat) : State :=
  if 0x2C000 ≤ off ∧ off < 0x2C400 then s.msixWrite ((off - 0x2C000) / 4) v
  else if off = CMD.SQ_TAIL_TAIL.off then s.cmdDoorbell (v % 65536)
  else if 0x20000 ≤ off ∧ off < 0x28000 ∧ off = (DQ.TAIL ((off - 0x20000) / 0x200)).off then
    s.dqDoorbell ((off - 0x20000) / 0x200) (v % 65536)
  else if off = DLV.EVR_CFG_EN.off then
    let s1 := s.plainWrite off v
    if s.rd DLV.EVR_CFG_EN = 0 ∧ s1.rd DLV.EVR_CFG_EN = 1 then (s1.wr DLV.EVR_CFG_EN 0).evrEnable else s1
  else if 0xC0000 ≤ off ∧ off < 0xC0400 ∧ off = (CHK.VALUE ((off - 0xC0000) / 0x40)).off then
    (s.plainWrite off v).chkShow ((off - 0xC0000) / 0x40)
  else (s.plainWrite off v).afterWrite s.rd off

/-- Row REGISTER_WRITE: applied only with all four byte enables set (R4). -/
def execRegisterWrite (off : BitVec 26) (val : Word) (be : BitVec 4) (t : Nat) (s : State) : Host.Outcome State Fault Refusal :=
  let o := off.toNat / 4 * 4
  .next (if be = 15 ∧ s.barReach o then ((s.at t).axisFresh o).regWrite o val.toNat else s)

end Sys2Proof.Machine
end

