-- ==== Sys2Proof/Machine/Dispatch.lean ====
section
/-! DEFINITION. One arm per command of the table. -/

namespace Sys2Proof.Machine

/-- The effect of one command on everything but the queue. -/
def exec (i : Instr) (s : State) : Host.Outcome State Fault Refusal :=
  match i with
  | .registerWrite off val be t => Sys2Proof.Machine.execRegisterWrite off val be t s
  | .loReadLatch off t => Sys2Proof.Machine.execLoReadLatch off t s
  | .managementTick x t => Sys2Proof.Machine.execManagementTick x t s
  | .epochCommitSample t => Sys2Proof.Machine.execEpochCommitSample t s
  | .encoderEdge n lv mid t => Sys2Proof.Machine.execEncoderEdge n lv mid t s
  | .indexPulse n t => Sys2Proof.Machine.execIndexPulse n t s
  | .openWire n sig t => Sys2Proof.Machine.execOpenWire n sig t s
  | .openClear n sig t => Sys2Proof.Machine.execOpenClear n sig t s
  | .pwrOvercurrent n t => Sys2Proof.Machine.execPwrOvercurrent n t s
  | .encPwrTripClear n t => Sys2Proof.Machine.execEncPwrTripClear n t s
  | .serialReadingStart n t => Sys2Proof.Machine.execSerialReadingStart n t s
  | .serialReading n early raw errs crc t => Sys2Proof.Machine.execSerialReading n early raw errs crc t s
  | .standstillTimeout n t => Sys2Proof.Machine.execStandstillTimeout n t s
  | .speedDecay n t => Sys2Proof.Machine.execSpeedDecay n t s
  | .slip n t => Sys2Proof.Machine.execSlip n t s
  | .slipClear n t => Sys2Proof.Machine.execSlipClear n t s
  | .axsSnap axes t => Sys2Proof.Machine.execAxsSnap axes t s
  | .epClrUnc n => Sys2Proof.Machine.execEpClrUnc n s
  | .epClrCnt n => Sys2Proof.Machine.execEpClrCnt n s
  | .axClrUnc n => Sys2Proof.Machine.execAxClrUnc n s
  | .ledgerWinWrite => Sys2Proof.Machine.execLedgerWinWrite s
  | .ledgerWinReadStaged => Sys2Proof.Machine.execLedgerWinReadStaged s
  | .ledgerWinReadActive => Sys2Proof.Machine.execLedgerWinReadActive s
  | .trgClrCnt => Sys2Proof.Machine.execTrgClrCnt s
  | .issueFreeze e ch t => Sys2Proof.Machine.execIssueFreeze e ch t s
  | .triggerIssue c t => Sys2Proof.Machine.execTriggerIssue c t s
  | .exposureEndIssue c t => Sys2Proof.Machine.execExposureEndIssue c t s
  | .strobeIssue n t => Sys2Proof.Machine.execStrobeIssue n t s
  | .strobePulseEnd n t => Sys2Proof.Machine.execStrobePulseEnd n t s
  | .strobeClip n t => Sys2Proof.Machine.execStrobeClip n t s
  | .blankingWindowClose c t => Sys2Proof.Machine.execBlankingWindowClose c t s
  | .flickerReport ctx t => Sys2Proof.Machine.execFlickerReport ctx t s
  | .lightHoldover t => Sys2Proof.Machine.execLightHoldover t s
  | .lightLost t => Sys2Proof.Machine.execLightLost t s
  | .signalDetect n t => Sys2Proof.Machine.execSignalDetect n t s
  | .cdrLock n t => Sys2Proof.Machine.execCdrLock n t s
  | .signalLost n energy t => Sys2Proof.Machine.execSignalLost n energy t s
  | .forwardCell n head rest ps t => Sys2Proof.Machine.execForwardCell n head rest ps t s
  | .hitWindowDone n t => Sys2Proof.Machine.execHitWindowDone n t s
  | .bitslip n t => Sys2Proof.Machine.execBitslip n t s
  | .alignProcedure n t => Sys2Proof.Machine.execAlignProcedure n t s
  | .frameStart link vc num tseq valid w h t => Sys2Proof.Machine.execFrameStart link vc num tseq valid w h t s
  | .line link vc num ofs fmt data bad cut t => Sys2Proof.Machine.execLine link vc num ofs fmt data bad cut t s
  | .frameEnd link vc num lines ovf t => Sys2Proof.Machine.execFrameEnd link vc num lines ovf t s
  | .embedded link vc index data mark t => Sys2Proof.Machine.execEmbedded link vc index data mark t s
  | .bcAck n seq result resp t => Sys2Proof.Machine.execBcAck n seq result resp t s
  | .echoReply n id ps turn tpath t => Sys2Proof.Machine.execEchoReply n id ps turn tpath t s
  | .gpioIn n levels t => Sys2Proof.Machine.execGpioIn n levels t s
  | .telemetry n temp supply bcErr trigBad relock fwdOvf t => Sys2Proof.Machine.execTelemetry n temp supply bcErr trigBad relock fwdOvf t s
  | .loopPacket n pairs data flags t => Sys2Proof.Machine.execLoopPacket n pairs data flags t s
  | .bcAckTimeout n t => Sys2Proof.Machine.execBcAckTimeout n t s
  | .readIdRetry n t => Sys2Proof.Machine.execReadIdRetry n t s
  | .echoSend n ps t => Sys2Proof.Machine.execEchoSend n ps t s
  | .echoReplyTimeout n id ps t => Sys2Proof.Machine.execEchoReplyTimeout n id ps t s
  | .echoBurstEnd n t => Sys2Proof.Machine.execEchoBurstEnd n t s
  | .echoBurstRetry n t => Sys2Proof.Machine.execEchoBurstRetry n t s
  | .periodicEcho n ps t => Sys2Proof.Machine.execPeriodicEcho n ps t s
  | .echoNow n t => Sys2Proof.Machine.execEchoNow n t s
  | .gpioRefresh n t => Sys2Proof.Machine.execGpioRefresh n t s
  | .bankExitLate n t => Sys2Proof.Machine.execBankExitLate n t s
  | .rateFallback n t => Sys2Proof.Machine.execRateFallback n t s
  | .pocVoutReached n vout iout t => Sys2Proof.Machine.execPocVoutReached n vout iout t s
  | .pocStartTimeout n t => Sys2Proof.Machine.execPocStartTimeout n t s
  | .pocShort n vout iout t => Sys2Proof.Machine.execPocShort n vout iout t s
  | .pocOvercurrent n vout iout t => Sys2Proof.Machine.execPocOvercurrent n vout iout t s
  | .pocOpen n vout iout t => Sys2Proof.Machine.execPocOpen n vout iout t s
  | .pocOpenClear n vout iout t => Sys2Proof.Machine.execPocOpenClear n vout iout t s
  | .pocBackfeed n live t => Sys2Proof.Machine.execPocBackfeed n live t s
  | .pocStaggerStart n t => Sys2Proof.Machine.execPocStaggerStart n t s
  | .pocFaultClear n t => Sys2Proof.Machine.execPocFaultClear n t s
  | .lnkClrCnt n => Sys2Proof.Machine.execLnkClrCnt n s
  | .lnkInjPocOpen n => Sys2Proof.Machine.execLnkInjPocOpen n s
  | .lnkInjPocShort n => Sys2Proof.Machine.execLnkInjPocShort n s
  | .lnkInjSync n => Sys2Proof.Machine.execLnkInjSync n s
  | .lnkInjPcrc n => Sys2Proof.Machine.execLnkInjPcrc n s
  | .lnkInjHcrc n => Sys2Proof.Machine.execLnkInjHcrc n s
  | .datapathTurn p idle t => Sys2Proof.Machine.execDatapathTurn p idle t s
  | .fillLineWrite c r t => Sys2Proof.Machine.execFillLineWrite c r t s
  | .frameRecordWrite c r t => Sys2Proof.Machine.execFrameRecordWrite c r t s
  | .frameTimeout c t => Sys2Proof.Machine.execFrameTimeout c t s
  | .ingClrCnt p => Sys2Proof.Machine.execIngClrCnt p s
  | .ingInjFlkBad c => Sys2Proof.Machine.execIngInjFlkBad c s
  | .ingInjMaperr c => Sys2Proof.Machine.execIngInjMaperr c s
  | .ingInjLinedrop c => Sys2Proof.Machine.execIngInjLinedrop c s
  | .kernelStart n t => Sys2Proof.Machine.execKernelStart n t s
  | .add g t => Sys2Proof.Machine.execAdd g t s
  | .sub g t => Sys2Proof.Machine.execSub g t s
  | .and g t => Sys2Proof.Machine.execAnd g t s
  | .or g t => Sys2Proof.Machine.execOr g t s
  | .xor g t => Sys2Proof.Machine.execXor g t s
  | .shl g t => Sys2Proof.Machine.execShl g t s
  | .shr g t => Sys2Proof.Machine.execShr g t s
  | .sra g t => Sys2Proof.Machine.execSra g t s
  | .slt g t => Sys2Proof.Machine.execSlt g t s
  | .sltu g t => Sys2Proof.Machine.execSltu g t s
  | .min g t => Sys2Proof.Machine.execMin g t s
  | .max g t => Sys2Proof.Machine.execMax g t s
  | .mul g t => Sys2Proof.Machine.execMul g t s
  | .mulh g t => Sys2Proof.Machine.execMulh g t s
  | .mulhu g t => Sys2Proof.Machine.execMulhu g t s
  | .adds g t => Sys2Proof.Machine.execAdds g t s
  | .subs g t => Sys2Proof.Machine.execSubs g t s
  | .clz g t => Sys2Proof.Machine.execClz g t s
  | .popc g t => Sys2Proof.Machine.execPopc g t s
  | .addi g t => Sys2Proof.Machine.execAddi g t s
  | .andi g t => Sys2Proof.Machine.execAndi g t s
  | .ori g t => Sys2Proof.Machine.execOri g t s
  | .xori g t => Sys2Proof.Machine.execXori g t s
  | .slti g t => Sys2Proof.Machine.execSlti g t s
  | .lui g t => Sys2Proof.Machine.execLui g t s
  | .shi g t => Sys2Proof.Machine.execShi g t s
  | .ldw g t => Sys2Proof.Machine.execLdw g t s
  | .stw g t => Sys2Proof.Machine.execStw g t s
  | .ldh g t => Sys2Proof.Machine.execLdh g t s
  | .ldhu g t => Sys2Proof.Machine.execLdhu g t s
  | .sth g t => Sys2Proof.Machine.execSth g t s
  | .ldbu g t => Sys2Proof.Machine.execLdbu g t s
  | .stb g t => Sys2Proof.Machine.execStb g t s
  | .amoadd g t => Sys2Proof.Machine.execAmoadd g t s
  | .amoswap g t => Sys2Proof.Machine.execAmoswap g t s
  | .amomaxu g t => Sys2Proof.Machine.execAmomaxu g t s
  | .beq g t => Sys2Proof.Machine.execBeq g t s
  | .bne g t => Sys2Proof.Machine.execBne g t s
  | .blt g t => Sys2Proof.Machine.execBlt g t s
  | .bge g t => Sys2Proof.Machine.execBge g t s
  | .bltu g t => Sys2Proof.Machine.execBltu g t s
  | .bgeu g t => Sys2Proof.Machine.execBgeu g t s
  | .jal g t => Sys2Proof.Machine.execJal g t s
  | .jalr g t => Sys2Proof.Machine.execJalr g t s
  | .loop g t => Sys2Proof.Machine.execLoop g t s
  | .halt g t => Sys2Proof.Machine.execHalt g t s
  | .fence g t => Sys2Proof.Machine.execFence g t s
  | .trap g t => Sys2Proof.Machine.execTrap g t s
  | .bar g t => Sys2Proof.Machine.execBar g t s
  | .csrr g t => Sys2Proof.Machine.execCsrr g t s
  | .csrw g t => Sys2Proof.Machine.execCsrw g t s
  | .dmago g t => Sys2Proof.Machine.execDmago g t s
  | .dmawt g t => Sys2Proof.Machine.execDmawt g t s
  | .dmaTransferDone g ch t => Sys2Proof.Machine.execDmaTransferDone g ch t s
  | .slen g t => Sys2Proof.Machine.execSlen g t s
  | .srdw g t => Sys2Proof.Machine.execSrdw g t s
  | .sbeg g t => Sys2Proof.Machine.execSbeg g t s
  | .swrw g t => Sys2Proof.Machine.execSwrw g t s
  | .send g t => Sys2Proof.Machine.execSend g t s
  | .savail g t => Sys2Proof.Machine.execSavail g t s
  | .streamWaitEnd g t => Sys2Proof.Machine.execStreamWaitEnd g t s
  | .vadd g t => Sys2Proof.Machine.execVadd g t s
  | .vsub g t => Sys2Proof.Machine.execVsub g t s
  | .vaddsS g t => Sys2Proof.Machine.execVaddsS g t s
  | .vaddsU g t => Sys2Proof.Machine.execVaddsU g t s
  | .vsubsS g t => Sys2Proof.Machine.execVsubsS g t s
  | .vsubsU g t => Sys2Proof.Machine.execVsubsU g t s
  | .vand g t => Sys2Proof.Machine.execVand g t s
  | .vor g t => Sys2Proof.Machine.execVor g t s
  | .vxor g t => Sys2Proof.Machine.execVxor g t s
  | .vminS g t => Sys2Proof.Machine.execVminS g t s
  | .vminU g t => Sys2Proof.Machine.execVminU g t s
  | .vmaxS g t => Sys2Proof.Machine.execVmaxS g t s
  | .vmaxU g t => Sys2Proof.Machine.execVmaxU g t s
  | .vabsdU g t => Sys2Proof.Machine.execVabsdU g t s
  | .vavgU g t => Sys2Proof.Machine.execVavgU g t s
  | .vmul g t => Sys2Proof.Machine.execVmul g t s
  | .vmulhS g t => Sys2Proof.Machine.execVmulhS g t s
  | .vmulhU g t => Sys2Proof.Machine.execVmulhU g t s
  | .vmulq g t => Sys2Proof.Machine.execVmulq g t s
  | .vshl g t => Sys2Proof.Machine.execVshl g t s
  | .vshrU g t => Sys2Proof.Machine.execVshrU g t s
  | .vshrS g t => Sys2Proof.Machine.execVshrS g t s
  | .vsel g t => Sys2Proof.Machine.execVsel g t s
  | .vabsS g t => Sys2Proof.Machine.execVabsS g t s
  | .valui g t => Sys2Proof.Machine.execValui g t s
  | .vshi g t => Sys2Proof.Machine.execVshi g t s
  | .vcmp g t => Sys2Proof.Machine.execVcmp g t s
  | .vsplat g t => Sys2Proof.Machine.execVsplat g t s
  | .vext g t => Sys2Proof.Machine.execVext g t s
  | .vins g t => Sys2Proof.Machine.execVins g t s
  | .vperm g t => Sys2Proof.Machine.execVperm g t s
  | .vidx g t => Sys2Proof.Machine.execVidx g t s
  | .vpackb g t => Sys2Proof.Machine.execVpackb g t s
  | .vunpkl g t => Sys2Proof.Machine.execVunpkl g t s
  | .vunpkh g t => Sys2Proof.Machine.execVunpkh g t s
  | .vredaddS g t => Sys2Proof.Machine.execVredaddS g t s
  | .vredaddU g t => Sys2Proof.Machine.execVredaddU g t s
  | .vredmaxU g t => Sys2Proof.Machine.execVredmaxU g t s
  | .vredminU g t => Sys2Proof.Machine.execVredminU g t s
  | .vmov g t => Sys2Proof.Machine.execVmov g t s
  | .vsldi g t => Sys2Proof.Machine.execVsldi g t s
  | .pand g t => Sys2Proof.Machine.execPand g t s
  | .por g t => Sys2Proof.Machine.execPor g t s
  | .pxor g t => Sys2Proof.Machine.execPxor g t s
  | .pandn g t => Sys2Proof.Machine.execPandn g t s
  | .pnot g t => Sys2Proof.Machine.execPnot g t s
  | .pfromx g t => Sys2Proof.Machine.execPfromx g t s
  | .ptox g t => Sys2Proof.Machine.execPtox g t s
  | .pfirst g t => Sys2Proof.Machine.execPfirst g t s
  | .vmacS g t => Sys2Proof.Machine.execVmacS g t s
  | .vmacU g t => Sys2Proof.Machine.execVmacU g t s
  | .vmacSu g t => Sys2Proof.Machine.execVmacSu g t s
  | .vmsuS g t => Sys2Proof.Machine.execVmsuS g t s
  | .vmulaS g t => Sys2Proof.Machine.execVmulaS g t s
  | .vmulaU g t => Sys2Proof.Machine.execVmulaU g t s
  | .vaclr g t => Sys2Proof.Machine.execVaclr g t s
  | .vacc g t => Sys2Proof.Machine.execVacc g t s
  | .vld g t => Sys2Proof.Machine.execVld g t s
  | .vst g t => Sys2Proof.Machine.execVst g t s
  | .vgath g t => Sys2Proof.Machine.execVgath g t s
  | .vscat g t => Sys2Proof.Machine.execVscat g t s
  | .vsrd g t => Sys2Proof.Machine.execVsrd g t s
  | .vswr g t => Sys2Proof.Machine.execVswr g t s
  | .smp g t => Sys2Proof.Machine.execSmp g t s
  | .longForm g t => Sys2Proof.Machine.execLongForm g t s
  | .watchdog g t => Sys2Proof.Machine.execWatchdog g t s
  | .engInjIllegal g => Sys2Proof.Machine.execEngInjIllegal g s
  | .engInjWdog g => Sys2Proof.Machine.execEngInjWdog g s
  | .engInjDmemEcc g => Sys2Proof.Machine.execEngInjDmemEcc g s
  | .engInjImemEcc g => Sys2Proof.Machine.execEngInjImemEcc g s
  | .engineChangeover n t => Sys2Proof.Machine.execEngineChangeover n t s
  | .graphDrainLate n t => Sys2Proof.Machine.execGraphDrainLate n t s
  | .nodeRestart n t => Sys2Proof.Machine.execNodeRestart n t s
  | .deliveryItem q t => Sys2Proof.Machine.execDeliveryItem q t s
  | .chkSwap n => Sys2Proof.Machine.execChkSwap n s
  | .chkReset n => Sys2Proof.Machine.execChkReset n s
  | .chkValueWrite n v => Sys2Proof.Machine.execChkValueWrite n v s
  | .chkInjFlip n => Sys2Proof.Machine.execChkInjFlip n s
  | .swathLineItem w inp t => Sys2Proof.Machine.execSwathLineItem w inp t s
  | .swathFrameRecord w inp t => Sys2Proof.Machine.execSwathFrameRecord w inp t s
  | .swathForceEval w t => Sys2Proof.Machine.execSwathForceEval w t s
  | .rowCompute w t => Sys2Proof.Machine.execRowCompute w t s
  | .stripTimeout w t => Sys2Proof.Machine.execStripTimeout w t s
  | .patrolScrub sram words t => Sys2Proof.Machine.execPatrolScrub sram words t s
  | .ceBucketLeak r t => Sys2Proof.Machine.execCeBucketLeak r t s
  | .scrubGo t => Sys2Proof.Machine.execScrubGo t s
  | .scrubAbort words t => Sys2Proof.Machine.execScrubAbort words t s
  | .scrubDone t => Sys2Proof.Machine.execScrubDone t s
  | .granuleMigrate t => Sys2Proof.Machine.execGranuleMigrate t s
  | .marginSwitch ch t => Sys2Proof.Machine.execMarginSwitch ch t s
  | .memClrCnt => Sys2Proof.Machine.execMemClrCnt s
  | .memInj1bit r => Sys2Proof.Machine.execMemInj1bit r s
  | .memInj2bit r => Sys2Proof.Machine.execMemInj2bit r s
  | .memInj3bit r => Sys2Proof.Machine.execMemInj3bit r s
  | .memInjPage r => Sys2Proof.Machine.execMemInjPage r s
  | .memInjCrc r => Sys2Proof.Machine.execMemInjCrc r s
  | .hostLink mode t => Sys2Proof.Machine.execHostLink mode t s
  | .pcieReset t => Sys2Proof.Machine.execPcieReset t s
  | .functionLevelReset t => Sys2Proof.Machine.execFunctionLevelReset t s
  | .d3hotEntry t => Sys2Proof.Machine.execD3hotEntry t s
  | .queueDoorbell q v t => Sys2Proof.Machine.execQueueDoorbell q v t s
  | .descriptorFetch q t => Sys2Proof.Machine.execDescriptorFetch q t s
  | .chunkWrite t => Sys2Proof.Machine.execChunkWrite t s
  | .itemComplete q t => Sys2Proof.Machine.execItemComplete q t s
  | .itemTimeout q t => Sys2Proof.Machine.execItemTimeout q t s
  | .linkStall ns t => Sys2Proof.Machine.execLinkStall ns t s
  | .queueFlush q t => Sys2Proof.Machine.execQueueFlush q t s
  | .flushDone q t => Sys2Proof.Machine.execFlushDone q t s
  | .dlvClrCnt q => Sys2Proof.Machine.execDlvClrCnt q s
  | .dlvInjDesc q => Sys2Proof.Machine.execDlvInjDesc q s
  | .dlvInjLate q => Sys2Proof.Machine.execDlvInjLate q s
  | .dlvInjRefuse q => Sys2Proof.Machine.execDlvInjRefuse q s
  | .dlvInjStall => Sys2Proof.Machine.execDlvInjStall s
  | .dlvStallClr => Sys2Proof.Machine.execDlvStallClr s
  | .eventPeekPop => Sys2Proof.Machine.execEventPeekPop s
  | .eventRingEnable => Sys2Proof.Machine.execEventRingEnable s
  | .eventRecord t => Sys2Proof.Machine.execEventRecord t s
  | .coalesceTimeout k t => Sys2Proof.Machine.execCoalesceTimeout k t s
  | .recorderItem n t => Sys2Proof.Machine.execRecorderItem n t s
  | .extentTimeout t => Sys2Proof.Machine.execExtentTimeout t s
  | .nandProgramDone fail t => Sys2Proof.Machine.execNandProgramDone fail t s
  | .journalPageTimeout t => Sys2Proof.Machine.execJournalPageTimeout t s
  | .journalProgramDone t => Sys2Proof.Machine.execJournalProgramDone t s
  | .groupErase t => Sys2Proof.Machine.execGroupErase t s
  | .groupEraseDone fail die t => Sys2Proof.Machine.execGroupEraseDone fail die t s
  | .readoutItem pages t => Sys2Proof.Machine.execReadoutItem pages t s
  | .recorderRecovery pages t => Sys2Proof.Machine.execRecorderRecovery pages t s
  | .recClrCnt => Sys2Proof.Machine.execRecClrCnt s
  | .recInjJsplit => Sys2Proof.Machine.execRecInjJsplit s
  | .recInjReadUe => Sys2Proof.Machine.execRecInjReadUe s
  | .recInjProgfail => Sys2Proof.Machine.execRecInjProgfail s
  | .ethLink n rate t => Sys2Proof.Machine.execEthLink n rate t s
  | .ethFrameDiscard n t => Sys2Proof.Machine.execEthFrameDiscard n t s
  | .sync n dom seq log twoStep g t => Sys2Proof.Machine.execSync n dom seq log twoStep g t s
  | .followUp n dom seq g t => Sys2Proof.Machine.execFollowUp n dom seq g t s
  | .announce n a t => Sys2Proof.Machine.execAnnounce n a t s
  | .pdelayReq n dom seq out t => Sys2Proof.Machine.execPdelayReq n dom seq out t s
  | .pdelayResp n dom seq turn nrr t => Sys2Proof.Machine.execPdelayResp n dom seq turn nrr t s
  | .signaling n dom link sync t => Sys2Proof.Machine.execSignaling n dom link sync t s
  | .pdelayReqSend n t => Sys2Proof.Machine.execPdelayReqSend n t s
  | .syncSend n t => Sys2Proof.Machine.execSyncSend n t s
  | .syncTimeout n t => Sys2Proof.Machine.execSyncTimeout n t s
  | .gmSettle t => Sys2Proof.Machine.execGmSettle t s
  | .timInjGmchg => Sys2Proof.Machine.execTimInjGmchg s
  | .timInjSyncto t => Sys2Proof.Machine.execTimInjSyncto t s
  | .ethInjPdelay n => Sys2Proof.Machine.execEthInjPdelay n s
  | .ethClrCnt n => Sys2Proof.Machine.execEthClrCnt n s
  | .cmdDoorbell tail t => Sys2Proof.Machine.execCmdDoorbell tail t s
  | .commandTimeout t => Sys2Proof.Machine.execCommandTimeout t s
  | .sysIdent p t => Sys2Proof.Machine.execSysIdent p t s
  | .epochCommit p t => Sys2Proof.Machine.execEpochCommit p t s
  | .epochCancel p t => Sys2Proof.Machine.execEpochCancel p t s
  | .epochStatus p t => Sys2Proof.Machine.execEpochStatus p t s
  | .epochLapse t => Sys2Proof.Machine.execEpochLapse t s
  | .epochExpiry t => Sys2Proof.Machine.execEpochExpiry t s
  | .stageDiscard p t => Sys2Proof.Machine.execStageDiscard p t s
  | .sysResetWarm p t => Sys2Proof.Machine.execSysResetWarm p t s
  | .sysResetFull p t => Sys2Proof.Machine.execSysResetFull p t s
  | .sysPowerRun p t => Sys2Proof.Machine.execSysPowerRun p t s
  | .sysPowerSmoulder p t => Sys2Proof.Machine.execSysPowerSmoulder p t s
  | .storeRead p pages t => Sys2Proof.Machine.execStoreRead p pages t s
  | .storeWrite p err t => Sys2Proof.Machine.execStoreWrite p err t s
  | .storeStatus p t => Sys2Proof.Machine.execStoreStatus p t s
  | .linkSummary p t => Sys2Proof.Machine.execLinkSummary p t s
  | .linkRestart p t => Sys2Proof.Machine.execLinkRestart p t s
  | .settingsLoad p err t => Sys2Proof.Machine.execSettingsLoad p err t s
  | .ledgerBulk p err t => Sys2Proof.Machine.execLedgerBulk p err t s
  | .ledgerRead p t => Sys2Proof.Machine.execLedgerRead p t s
  | .gddrWrite p got t => Sys2Proof.Machine.execGddrWrite p got t s
  | .gddrRead p t => Sys2Proof.Machine.execGddrRead p t s
  | .graphLoad p t => Sys2Proof.Machine.execGraphLoad p t s
  | .flueStatus p t => Sys2Proof.Machine.execFlueStatus p t s
  | .graphEvten p t => Sys2Proof.Machine.execGraphEvten p t s
  | .swathLoad p t => Sys2Proof.Machine.execSwathLoad p t s
  | .swathClrCnt p t => Sys2Proof.Machine.execSwathClrCnt p t s
  | .swathInjGap p t => Sys2Proof.Machine.execSwathInjGap p t s
  | .swathInjFull p t => Sys2Proof.Machine.execSwathInjFull p t s
  | .swathInjOverspeed p t => Sys2Proof.Machine.execSwathInjOverspeed p t s
  | .swathEvten p t => Sys2Proof.Machine.execSwathEvten p t s
  | .swathStatus p t => Sys2Proof.Machine.execSwathStatus p t s
  | .streamOpen p t => Sys2Proof.Machine.execStreamOpen p t s
  | .streamClose p t => Sys2Proof.Machine.execStreamClose p t s
  | .streamResume p t => Sys2Proof.Machine.execStreamResume p t s
  | .streamModify p t => Sys2Proof.Machine.execStreamModify p t s
  | .markSet p t => Sys2Proof.Machine.execMarkSet p t s
  | .markClear p t => Sys2Proof.Machine.execMarkClear p t s
  | .pinSet p t => Sys2Proof.Machine.execPinSet p t s
  | .pinClear p t => Sys2Proof.Machine.execPinClear p t s
  | .readStart p t => Sys2Proof.Machine.execReadStart p t s
  | .readStop p t => Sys2Proof.Machine.execReadStop p t s
  | .timeRearm p t => Sys2Proof.Machine.execTimeRearm p t s
  | .timeStatus p t => Sys2Proof.Machine.execTimeStatus p t s
  | .twWrite p t => Sys2Proof.Machine.execTwWrite p t s
  | .twRead p t => Sys2Proof.Machine.execTwRead p t s
  | .twWriteRead p t => Sys2Proof.Machine.execTwWriteRead p t s
  | .twBlockWrite p t => Sys2Proof.Machine.execTwBlockWrite p t s
  | .twBlockRead p t => Sys2Proof.Machine.execTwBlockRead p t s
  | .twXferDone p how rx t => Sys2Proof.Machine.execTwXferDone p how rx t s
  | .twClear p t => Sys2Proof.Machine.execTwClear p t s
  | .twTimeout p low t => Sys2Proof.Machine.execTwTimeout p low t s
  | .fenceChannel p t => Sys2Proof.Machine.execFenceChannel p t s
  | .fenceCluster p t => Sys2Proof.Machine.execFenceCluster p t s
  | .engineTest p t => Sys2Proof.Machine.execEngineTest p t s
  | .fwUpdate p err t => Sys2Proof.Machine.execFwUpdate p err t s
  | .attest p t => Sys2Proof.Machine.execAttest p t s
  | .debugChallenge p t => Sys2Proof.Machine.execDebugChallenge p t s
  | .debugUnlock p err t => Sys2Proof.Machine.execDebugUnlock p err t s
  | .debugLock p t => Sys2Proof.Machine.execDebugLock p t s
  | .securityLog p t => Sys2Proof.Machine.execSecurityLog p t s
  | .debugNonceExpiry t => Sys2Proof.Machine.execDebugNonceExpiry t s
  | .lockstepMismatch t => Sys2Proof.Machine.execLockstepMismatch t s
  | .wardenResume t => Sys2Proof.Machine.execWardenResume t s
  | .accessViolation a t => Sys2Proof.Machine.execAccessViolation a t s
  | .cmdInjLapse => Sys2Proof.Machine.execCmdInjLapse s
  | .cmdInjSplit => Sys2Proof.Machine.execCmdInjSplit s
  | .cmdInjAccess a t => Sys2Proof.Machine.execCmdInjAccess a t s
  | .smbusIdent t => Sys2Proof.Machine.execSmbusIdent t s
  | .smbusStatus t => Sys2Proof.Machine.execSmbusStatus t s
  | .smbusSubmit data pec t => Sys2Proof.Machine.execSmbusSubmit data pec t s
  | .smbusReply t => Sys2Proof.Machine.execSmbusReply t s
  | .stpAbandon t => Sys2Proof.Machine.execStpAbandon t s
  | .stpWake t => Sys2Proof.Machine.execStpWake t s
  | .stpSclTimeout since t => Sys2Proof.Machine.execStpSclTimeout since t s
  | .twbClrCnt p => Sys2Proof.Machine.execTwbClrCnt p s
  | .twbInjScltmo p => Sys2Proof.Machine.execTwbInjScltmo p s
  | .twbInjStuck p => Sys2Proof.Machine.execTwbInjStuck p s
  | .twbInjNack p => Sys2Proof.Machine.execTwbInjNack p s
  | .modelFallback t => Sys2Proof.Machine.execModelFallback t s
  | .sensorFault k reading t => Sys2Proof.Machine.execSensorFault k reading t s
  | .sensorValid k t => Sys2Proof.Machine.execSensorValid k t s
  | .shutdownDeferralEnd t => Sys2Proof.Machine.execShutdownDeferralEnd t s
  | .hardwareTrip k r0 r1 t => Sys2Proof.Machine.execHardwareTrip k r0 r1 t s
  | .telemetryPeekPop => Sys2Proof.Machine.execTelemetryPeekPop s
  | .thmClrShut => Sys2Proof.Machine.execThmClrShut s
  | .thmClrPeak => Sys2Proof.Machine.execThmClrPeak s
  | .thmInjDiode => Sys2Proof.Machine.execThmInjDiode s
  | .thmInjCase => Sys2Proof.Machine.execThmInjCase s
  | .thmInjFallback t => Sys2Proof.Machine.execThmInjFallback t s
  | .serviceHeartbeat t => Sys2Proof.Machine.execServiceHeartbeat t s
  | .serviceStopped t => Sys2Proof.Machine.execServiceStopped t s
  | .serviceRestarted t => Sys2Proof.Machine.execServiceRestarted t s
  | .rotationTake n t => Sys2Proof.Machine.execRotationTake n t s
  | .standbyTakeover n t => Sys2Proof.Machine.execStandbyTakeover n t s
  | .takeoverSkipped n t => Sys2Proof.Machine.execTakeoverSkipped n t s
  | .selftestDone g res addr t => Sys2Proof.Machine.execSelftestDone g res addr t s
  | .standbyRelease n t => Sys2Proof.Machine.execStandbyRelease n t s
  | .fenceWanted t => Sys2Proof.Machine.execFenceWanted t s
  | .telemetryRecord t => Sys2Proof.Machine.execTelemetryRecord t s
  | .diaLock => Sys2Proof.Machine.execDiaLock s
  | .diaInjEpDoubleStep p t => Sys2Proof.Machine.execDiaInjEpDoubleStep p t s
  | .diaInjEpEdgeFast p t => Sys2Proof.Machine.execDiaInjEpEdgeFast p t s
  | .diaInjEpHallInvalid p t => Sys2Proof.Machine.execDiaInjEpHallInvalid p t s
  | .diaInjEpHallSkip p t => Sys2Proof.Machine.execDiaInjEpHallSkip p t s
  | .diaInjEpOpen p t => Sys2Proof.Machine.execDiaInjEpOpen p t s
  | .diaInjEpTrip p t => Sys2Proof.Machine.execDiaInjEpTrip p t s
  | .diaInjEpSerial p t => Sys2Proof.Machine.execDiaInjEpSerial p t s
  | .diaInjEpIndex p t => Sys2Proof.Machine.execDiaInjEpIndex p t s
  | .diaInjAxSlip n t => Sys2Proof.Machine.execDiaInjAxSlip n t s
  | .diaInjTroSkip n => Sys2Proof.Machine.execDiaInjTroSkip n s
  | .diaInjTroClip n => Sys2Proof.Machine.execDiaInjTroClip n s
  | .diaInjLnkFrameEnd n => Sys2Proof.Machine.execDiaInjLnkFrameEnd n s
  | .diaInjLnkBcAck n => Sys2Proof.Machine.execDiaInjLnkBcAck n s
  | .diaInjLnkEcho n => Sys2Proof.Machine.execDiaInjLnkEcho n s
  | .diaInjLnkCdr n t => Sys2Proof.Machine.execDiaInjLnkCdr n t s
  | .diaInjSysVindip t => Sys2Proof.Machine.execDiaInjSysVindip t s
  | .diaInjSysStrapTw t => Sys2Proof.Machine.execDiaInjSysStrapTw t s
  | .diaInjSysStrapMod t => Sys2Proof.Machine.execDiaInjSysStrapMod t s
  | .diaInjSysSvcHang => Sys2Proof.Machine.execDiaInjSysSvcHang s
  | .diaInjSysLockstep t => Sys2Proof.Machine.execDiaInjSysLockstep t s
  | .diaInjStFail g => Sys2Proof.Machine.execDiaInjStFail g s
  | .powerOn since t => Sys2Proof.Machine.execPowerOn since t s
  | .holdEnter t => Sys2Proof.Machine.execHoldEnter t s
  | .vinDip min t => Sys2Proof.Machine.execVinDip min t s
  | .holdExit since t => Sys2Proof.Machine.execHoldExit since t s
  | .undervoltageShutdown t => Sys2Proof.Machine.execUndervoltageShutdown t s
  | .vinOver set vin t => Sys2Proof.Machine.execVinOver set vin t s
  | .overvoltageShutdown t => Sys2Proof.Machine.execOvervoltageShutdown t s
  | .brownOut t => Sys2Proof.Machine.execBrownOut t s
  | .keepaliveLoss t => Sys2Proof.Machine.execKeepaliveLoss t s
  | .vauxLow low t => Sys2Proof.Machine.execVauxLow low t s
  | .vcamFault high vcam t => Sys2Proof.Machine.execVcamFault high vcam t s
  | .vcamRestore vcam t => Sys2Proof.Machine.execVcamRestore vcam t s
  | .vioLost t => Sys2Proof.Machine.execVioLost t s
  | .vioRestored t => Sys2Proof.Machine.execVioRestored t s
  | .smoulderReached t => Sys2Proof.Machine.execSmoulderReached t s
  | .wakeNAssert t => Sys2Proof.Machine.execWakeNAssert t s
  | .wakeTimer t => Sys2Proof.Machine.execWakeTimer t s
  | .wakeVinReturn since t => Sys2Proof.Machine.execWakeVinReturn since t s
  | .wake since case t => Sys2Proof.Machine.execWake since case t s
  | .resetNAssert t => Sys2Proof.Machine.execResetNAssert t s
  | .resetNRelease t => Sys2Proof.Machine.execResetNRelease t s
  | .sysClrMin => Sys2Proof.Machine.execSysClrMin s
  | .sysClrDown => Sys2Proof.Machine.execSysClrDown s
  | .sysClrCnt => Sys2Proof.Machine.execSysClrCnt s
  | .stageRom lo loBad hi hiBad tw twBad t => Sys2Proof.Machine.execStageRom lo loBad hi hiBad tw twBad t s
  | .stageWarden t => Sys2Proof.Machine.execStageWarden t s
  | .stageTrain fails t => Sys2Proof.Machine.execStageTrain fails t s
  | .stageClear pages t => Sys2Proof.Machine.execStageClear pages t s
  | .stageService t => Sys2Proof.Machine.execStageService t s
  | .stageReady t => Sys2Proof.Machine.execStageReady t s
  | .announceReceiptTimeout n t => Sys2Proof.Machine.execAnnounceReceiptTimeout n t s
  | .keepaliveStart t => Sys2Proof.Machine.execKeepaliveStart t s
  | .ledgerTargetReached e t => Sys2Proof.Machine.execLedgerTargetReached e t s
  | .equaliserStep n t => Sys2Proof.Machine.execEqualiserStep n t s
  | .haltedWardenDiodeTrip k reading t => Sys2Proof.Machine.execHaltedWardenDiodeTrip k reading t s
  | .loopPatternCheck n head rest ps t => Sys2Proof.Machine.execLoopPatternCheck n head rest ps t s
  | .debugPortAccess k g t => Sys2Proof.Machine.execDebugPortAccess k g t s
  | .ethResetRelease n ref t => Sys2Proof.Machine.execEthResetRelease n ref t s

end Sys2Proof.Machine
end

