-- ==== Sys2Proof/Safety.lean ====
section
/-! DEFINITION. The terms the statements are made of: what a step may change, what an engine that runs an instruction
normally meets, and what a completed instruction leaves. -/

namespace Sys2Proof

open Machine

/-- Every byte memory is in canonical form, so equal contents are equal data. -/
def Machine.State.canonical (s : State) : Prop := Mems.wf s.mems = true

/-- An answer that goes on in a state with the property. -/
def Answers (o : Host.Outcome State Fault Refusal) (P : State → Prop) : Prop := ∃ t, o = .next t ∧ P t

/-! ### What a step leaves alone -/

/-- Register fields other than those listed keep what software sees. -/
def KeepsRegs (fs : List Fld) (s t : State) : Prop := ∀ f : Fld, f.key ∉ fs.map Fld.key → t.rd f = s.rd f

/-- Only register fields of the list change, and elapsed time; `w1cSet`, the model's note of when the device last set a W1C field, goes
with its register. -/
def OnlyRegs (fs : List Fld) (s t : State) : Prop :=
  KeepsRegs fs s t ∧ { t with regs := s.regs, w1cSet := s.w1cSet, now := s.now } = s

/-- Every byte of every module memory outside `n` bytes at `a` of `m` reads as before. -/
def KeepsBytes (m : MemId) (a n : Nat) (s t : State) : Prop :=
  t.mems.host = s.mems.host ∧
  ∀ (k : MemId) (x : Nat), ¬(k = m ∧ a ≤ x ∧ x < a + n) → t.memBytes k x 1 = s.memBytes k x 1

/-- No word of a memory is in error, no memory injection is armed and no failure of a burst's CRC waits (R257, R262, R283). -/
abbrev Machine.State.clean (s : State) : Prop := s.memu.faults = [] ∧ s.memu.arm = [] ∧ s.memu.crc = []

/-! ### Engines -/

/-- Engine `g` is about to run the legal word `w` normally: RUNNING and not waiting, with its own code, fetching clean words
below 0x4000, and not at a place where R198 refuses the instruction (R180 to R183, R198, R203, R207). -/
abbrev Machine.State.Runs (s : State) (g w : Nat) : Prop :=
  s.engReady g = true ∧ s.libKernel g = false ∧ s.engPc g + jeisLen w ≤ 0x4000 ∧
  (s.eng g).injImem = false ∧ (s.eng g).injIll = false ∧ (s.eng g).injDmem = false ∧ s.clean ∧
  s.fetchWord g (s.engPc g) = w ∧ jeisLegal w = true ∧
  (jeisCtrl w && atLoopEnd (s.engPc g) (jeisLen w) (s.eng g).loops) = false

/-- The registers that a completed instruction of engine `g` changes: PC and the retired count (R207). -/
def retireRegs (g : Nat) : List Fld := [ENG.PC g, ENG.RET_LO_RET g, ENG.RET_HI_RET g]

/-- The retired count of engine `g` (R207). -/
def retiredCount (s : State) (g : Nat) : Nat := s.rd (ENG.RET_LO_RET g) + 2 ^ 32 * s.rd (ENG.RET_HI_RET g)

/-- Engine `g` completed an instruction at elapsed time `τ` and went on at `pc` with the loop stack `ls` and otherwise the
engine state `e`: one more instruction is retired, and no other engine and no other register changed. -/
def Retired (s t : State) (τ g pc : Nat) (ls : List LoopLvl) (e : Engine) : Prop :=
  t.engPc g = pc % 2 ^ 32 ∧ retiredCount t g = (retiredCount s g + 1) % 2 ^ 64 ∧ t.now = max s.now τ ∧
  t.eng g = { e with loops := ls, prev := (t.eng g).prev } ∧
  (∀ h, h ≠ g → t.eng h = s.eng h) ∧ KeepsRegs (retireRegs g) s t

/-- Nothing but registers, engines and elapsed time differs: memories, graphs, events and every other unit are as before. -/
def SameRest (s t : State) : Prop := { t with now := s.now, regs := s.regs, engines := s.engines } = s

/-- An instruction that changes the registers of engine `g` only: `e` is what it leaves, and execution goes on after it, or at
the back-edge of a loop that ends with it (R198). -/
def RegisterResult (s t : State) (τ g w : Nat) (e : Engine) : Prop :=
  Retired s t τ g (loopNext (s.engPc g) (jeisLen w) e.loops).1 (loopNext (s.engPc g) (jeisLen w) e.loops).2.1 e ∧ SameRest s t

/-- A jump to `x`: the loops that do not hold it end (R198). -/
def JumpResult (s t : State) (τ g x : Nat) (e : Engine) : Prop :=
  Retired s t τ g x (loopsAfterJump e.loops x) e ∧ SameRest s t

/-- Lanes of Vd after a vector instruction with predicate `p` and Z bit `z`: active lanes take `f`, the others keep their
values or are written 0 (R186); VSAT collects the lanes that clamped (R187); the engine keeps all else. -/
def LaneResult (e e' : Engine) (d p z : Nat) (f : Nat → BitVec 16) (clamps : Nat → Bool) : Prop :=
  (∀ i, i < 32 → lane (e'.getV d) i = if e.on p i then f i else if z = 1 then 0 else lane (e.getV d) i) ∧
  (∀ r, r ≠ d → e'.getV r = e.getV r) ∧
  e'.getCsr 8 = (if (e.active p).any clamps then e.getCsr 8 ||| 1 else e.getCsr 8) ∧
  (∀ n, n ≠ 8 → e'.getCsr n = e.getCsr n) ∧
  { e' with v := e.v, csr := e.csr } = e

/-- An exact value that sat_s16 clamps (R184). -/
def overS16 (x : Int) : Bool := decide (x < -32768 ∨ 32767 < x)

/-- An exact value that sat_u16 clamps (R184). -/
def overU16 (x : Int) : Bool := decide (x < 0 ∨ 65535 < x)

/-- FN of OP 0x28 with the lane result on a and b, and whether it clamps (R184, R189); VSEL, which reads its predicate, is not
in the list. -/
def laneTable : List (Nat × (BitVec 16 → BitVec 16 → BitVec 16) × (BitVec 16 → BitVec 16 → Bool)) :=
  [(0x00, fun a b => a + b, fun _ _ => false),
   (0x01, fun a b => a - b, fun _ _ => false),
   (0x02, fun a b => BitVec.ofInt 16 (satS16 (a.toInt + b.toInt)), fun a b => overS16 (a.toInt + b.toInt)),
   (0x03, fun a b => BitVec.ofInt 16 (satU16 ((a.toNat : Int) + b.toNat)), fun a b => overU16 ((a.toNat : Int) + b.toNat)),
   (0x04, fun a b => BitVec.ofInt 16 (satS16 (a.toInt - b.toInt)), fun a b => overS16 (a.toInt - b.toInt)),
   (0x05, fun a b => BitVec.ofInt 16 (satU16 ((a.toNat : Int) - b.toNat)), fun a b => overU16 ((a.toNat : Int) - b.toNat)),
   (0x06, fun a b => a &&& b, fun _ _ => false),
   (0x07, fun a b => a ||| b, fun _ _ => false),
   (0x08, fun a b => a ^^^ b, fun _ _ => false),
   (0x09, fun a b => if a.sle b then a else b, fun _ _ => false),
   (0x0A, fun a b => if a.ule b then a else b, fun _ _ => false),
   (0x0B, fun a b => if a.sle b then b else a, fun _ _ => false),
   (0x0C, fun a b => if a.ule b then b else a, fun _ _ => false),
   (0x0D, fun a b => if a.ule b then b - a else a - b, fun _ _ => false),
   (0x0E, fun a b => BitVec.ofNat 16 ((a.toNat + b.toNat + 1) / 2), fun _ _ => false),
   (0x0F, fun a b => a * b, fun _ _ => false),
   (0x10, fun a b => BitVec.ofInt 16 (a.toInt * b.toInt / 2 ^ 16), fun _ _ => false),
   (0x11, fun a b => BitVec.ofNat 16 (a.toNat * b.toNat / 2 ^ 16), fun _ _ => false),
   (0x12, fun a b => BitVec.ofInt 16 (satS16 ((a.toInt * b.toInt + 2 ^ 14) / 2 ^ 15)),
     fun a b => overS16 ((a.toInt * b.toInt + 2 ^ 14) / 2 ^ 15)),
   (0x13, fun a b => a <<< (b.toNat % 32), fun _ _ => false),
   (0x14, fun a b => a >>> (b.toNat % 32), fun _ _ => false),
   (0x15, fun a b => a.sshiftRight (b.toNat % 32), fun _ _ => false),
   (0x17, fun a _ => if a = 0x8000 then 0x7FFF else if a.msb then -a else a, fun a _ => a == 0x8000)]

/-- Predicate bits of Pd after a compare: active lanes take `f`, the others keep their bits or are written 0 (R186). -/
def PredicateResult (e e' : Engine) (d p z : Nat) (f : Nat → Bool) : Prop :=
  (d ≠ 0 → ∀ i, i < 32 → (e'.getP d).getLsbD i = if e.on p i then f i else if z = 1 then false else (e.getP d).getLsbD i) ∧
  (∀ r, r ≠ d → e'.getP r = e.getP r) ∧ e'.getP 0 = e.getP 0 ∧ { e' with p := e.p } = e

/-- Lanes of accumulator Ad after a multiply-accumulate: active lanes take `f`, the others keep their values or are written 0
(R186); ASAT collects the lanes that clamped (R187). -/
def AccumulatorResult (e e' : Engine) (d p z : Nat) (f : Nat → BitVec 40) (clamps : Nat → Bool) : Prop :=
  (∀ i, i < 32 → accLane (e'.getA d) i = if e.on p i then f i else if z = 1 then 0 else accLane (e.getA d) i) ∧
  (∀ r, r ≠ d → e'.getA r = e.getA r) ∧
  e'.getCsr 8 = (if (e.active p).any clamps then e.getCsr 8 ||| 2 else e.getCsr 8) ∧
  (∀ n, n ≠ 8 → e'.getCsr n = e.getCsr n) ∧
  { e' with a := e.a, csr := e.csr } = e

/-- An exact value that sat_s40 clamps (R184). -/
def overS40 (x : Int) : Bool := decide (x < -2 ^ 39 ∨ 2 ^ 39 - 1 < x)

/-- Nothing but registers, engines, memories and elapsed time differs. -/
def SameButMemories (s t : State) : Prop := { t with now := s.now, regs := s.regs, engines := s.engines, mems := s.mems } = s

/-! ### Ports, axes and commands -/

/-- No axis takes counts from port `p` or depends on it (R47). -/
def NoAxis (s : State) (p : Nat) : Prop := ∀ k, k < 8 → s.uses k p = false ∧ s.dependsOn k p = false

/-- Time alone changes no axis: none is a TIME or LIGHT axis and none was rebuilt in this sample (R51, R59). -/
def StillAxes (s : State) : Prop := ∀ k, k < 8 → s.comb k ≠ 5 ∧ s.comb k ≠ 6 ∧ (s.axis k).rest = none

/-- Nothing but registers, ports, event occurrences and elapsed time differs. -/
def OnlyPorts (s t : State) : Prop :=
  { t with now := s.now, regs := s.regs, w1cSet := s.w1cSet, ports := s.ports, events := s.events } = s

/-! ### The host side -/

/-- A write to this register does more than set its fields. -/
def writeHook (o : Nat) : Bool :=
  [AXS.EVTEN_EN, TRG.EVTEN_EN, LNKG.EVTEN_EN, INGG.EVTEN_EN, CL.EVTEN_EN 0, MEM.EVTEN_EN, REC.EVTEN_EN, TIM.EVTEN_EN, ETHG.EVTEN_EN,
    CMD.EVTEN_EN, TWBG.EVTEN_EN, THM.EVTEN_EN, DIA.EVTEN_EN, SYS.EVTEN_EN, CMD.CFG_EN, CMD.SQ_TAIL_TAIL, DIA.ROT_CFG_EN, DIA.LOCK_INJ,
    TIM.CFG_SRC, ETH.CFG_EN 0, ETH.CFG_EN 1].any (fun f => f.off == o) ||
  [(0x20000, 0x30000), (0x41000, 0x41800), (0x80000, 0x98000), (0xC0000, 0xC0400), (0xD0000, 0xD0600)].any
    (fun r => decide (r.1 ≤ o ∧ o < r.2))

/-- Service firmware runs and takes the packet `c` of a command that uses the argument words `used`: no bit of it is reserved
(R367, R373). -/
abbrev Machine.State.Takes (s : State) (c : CmdPkt) (used : List Nat) : Prop := s.svcRunning = true ∧ c.badField used = none

/-- A command replies `r` in a state with the property. -/
def Replies (o : Host.Outcome State Fault Refusal) (c : CmdPkt) (r : Reply) (P : State → Prop) : Prop :=
  ∃ u : State, o = .next (u.cmdReply c r) ∧ P u

/-- A command that only reads state replies `r`. -/
def RepliesOnly (o : Host.Outcome State Fault Refusal) (s : State) (τ : Nat) (c : CmdPkt) (r : Reply) : Prop :=
  o = .next ((s.at τ).cmdReply c r)

/-- A command is still running: it replies later. -/
def KeepsRunning (o : Host.Outcome State Fault Refusal) (s : State) (c : CmdPkt) : Prop :=
  Answers o fun t => t.cmd.running = s.cmd.running ++ [c]

/-! ### Links -/

/-- Nothing but registers, links, event occurrences and elapsed time differs, and no link other than `n`. -/
def OnlyLink (n : Nat) (s t : State) : Prop :=
  { t with now := s.now, regs := s.regs, w1cSet := s.w1cSet, links := s.links, events := s.events } = s ∧ ∀ k, k ≠ n → t.link k = s.link k

/-- The registers that show the alignment of link `n` (R107). -/
def alignRegs (n : Nat) : List Fld := [LNK.STAT_STATE n, LNK.STAT_CDR_LOCK n, LNK.ALIGN_HITS n, LNK.ALIGN_DONE n, LNK.ALIGN_SLIP n]

/-! ### Ingest -/

/-- Frame `m` is open in the slot, and no older frame has its serial number. -/
abbrev Machine.Ctx.InFrame (x : Ctx) (m : Machine.Frm) : Prop :=
  x.opened = some m ∧ x.frames.find? (fun z => z.serial == m.serial) = some m

/-- The first line that a frame still expects. -/
def Machine.Frm.nextLine (m : Machine.Frm) : Nat := m.last.elim 0 (· + 1)

/-- No slot other than `c` has changed, but for the queue of fill lines that the two slots of a pipeline share (R155). -/
def OtherSlotsKept (s t : State) (c : Nat) : Prop := ∀ k, k ≠ c → { t.ctx k with fillQ := (s.ctx k).fillQ } = s.ctx k

/-- A state in which frame `m` of slot `c` has closed after `lines` lines said by its end packet (R153). -/
def FrameClosed (s t : State) (c : Nat) (m : Machine.Frm) (lines : Nat) : Prop :=
  t.rd (CTX.FNUM c) = m.num % 2 ^ 32 ∧ t.rd (CTX.STAT_OPEN c) = 0 ∧
  t.rd (CTX.CNT0_TRUNC c) =
    (if m.nextLine < ctxH m.conf c then min (s.rd (CTX.CNT0_TRUNC c) + 1) 65535 else s.rd (CTX.CNT0_TRUNC c)) ∧
  t.rd (CTX.CNT0_OVERLONG c) =
    (if m.flags.testBit 1 = true ∨ 0 < m.extra ∨ ctxH m.conf c < lines then min (s.rd (CTX.CNT0_OVERLONG c) + 1) 65535
     else s.rd (CTX.CNT0_OVERLONG c)) ∧
  (∀ z ∈ (t.ctx c).frames, z.serial = m.serial → z.closed.isSome = true ∧ z.filled = ctxH m.conf c - m.nextLine ∧
    (m.nextLine < ctxH m.conf c → z.flags.testBit 0 = true)) ∧
  OtherSlotsKept s t c

/-! ### Delivery -/

/-- The registers that show watermark monitors (R312). -/
def wmRegs : List Fld :=
  (List.range 4).flatMap fun m => [DLV.WM_VAL_VAL m, DLV.WM_STAT_LIVE m, DLV.WM_STAT_STKY m, DLV.WM_STAT_CROSS m]

/-- The registers that show the pointers and credits of queue `q` (R318). -/
def dqRegs (q : Nat) : List Fld := [DQ.PTR_DONE q, DQ.PTR_RESV q, DQ.CREDIT q, DQ.STAT_INFLIGHT q]

/-- One more completion of source `k` writes no message to the host: none is due, or its vector is masked (R317). -/
abbrev Machine.State.quiet (s : State) (k : Nat) : Prop :=
  s.coalN k ≠ 0 → s.coalN k ≤ (AMap.get {} s.coal k).n + 1 → (s.msixWord (4 * s.coalVec k + 3)).testBit 0 = true

/-- Queue `q` has nothing waiting to complete and no message to write, and its completion ring entry for the oldest
descriptor is at `a` (R291, R317). -/
abbrev Machine.State.CompletesAt (s : State) (q a : Nat) : Prop :=
  (s.dq q).comps = [] ∧ s.quiet q ∧ s.hostUp = true ∧
  a = base64 (s.cfg (DQ.CRING_LO_BASE q)) (s.cfg (DQ.CRING_HI_BASE q)) + 16 * ((s.dq q).done % s.dqSize q)

/-! ### Power and resets -/

/-- The registers outside the keep-alive domain, but for those of the list, show their reset values; engines, command unit and module
memories are as at power-on (R466, R471, R502). -/
def ColdReset (fs : List Fld) (t : State) : Prop :=
  (∀ f : Fld, aliveKey f.key = false → f.key ∉ fs.map Fld.key → t.rd f = f.reset) ∧
  t.mems = { host := t.mems.host } ∧ t.engines = [] ∧ t.cmd = {} ∧ t.dlv = {} ∧ t.graph = {} ∧ t.memu = {}

/-- The module is in SMOULDER (R358, R470, R471). -/
def InSmoulder (t : State) : Prop := t.pwr.st = .smoulder ∧ ColdReset [] t ∧ t.rd TIM.STAT_STATE = 3

/-- A shutdown with the recorded cause waits for the program under way (R427, R469). -/
def InDeferral (t : State) (down : Nat) : Prop :=
  t.pwr.st = .deferral ∧ t.rd SYS.PWR_STAT_LAST_DOWN = down ∧ ColdReset [] t

end Sys2Proof
end

