-- ==== Sys2Proof/Certificates/Slice0/Obligations.lean ====
section
/-! DEFINITION. The statements about the model. Each says in its comment which rules it follows, and names the log entry
where it rests on a choice of the model. -/

open Sys2Proof Sys2Proof.Machine

/-- R189, R187: each scalar R-format instruction writes D with its result on A and B; ADDS and SUBS clamp to 32 bits and set
SSAT when they do. Execution goes on behind it and nothing else changes. -/
def Obligations.ScalarRegisterInstructionsWriteTheirResult : Prop :=
  ∀ row ∈ ([(.add, 0x00, fun a b => a + b), (.sub, 0x01, fun a b => a - b), (.and, 0x02, fun a b => a &&& b),
      (.or, 0x03, fun a b => a ||| b), (.xor, 0x04, fun a b => a ^^^ b),
      (.shl, 0x05, fun a b => a <<< (b.toNat % 32)), (.shr, 0x06, fun a b => a >>> (b.toNat % 32)),
      (.sra, 0x07, fun a b => a.sshiftRight (b.toNat % 32)),
      (.slt, 0x08, fun a b => if a.slt b then 1 else 0), (.sltu, 0x09, fun a b => if a < b then 1 else 0),
      (.min, 0x0A, fun a b => if a.sle b then a else b), (.max, 0x0B, fun a b => if a.sle b then b else a),
      (.mul, 0x0C, fun a b => a * b), (.mulh, 0x0D, fun a b => BitVec.ofInt 32 (a.toInt * b.toInt / 2 ^ 32)),
      (.mulhu, 0x0E, fun a b => BitVec.ofNat 32 (a.toNat * b.toNat / 2 ^ 32)),
      (.adds, 0x0F, fun a b => BitVec.ofInt 32 (satS32 (a.toInt + b.toInt))),
      (.subs, 0x10, fun a b => BitVec.ofInt 32 (satS32 (a.toInt - b.toInt))),
      (.clz, 0x11, fun a _ => a.clz), (.popc, 0x12, fun a _ => a.cpop)] :
        List ((Fin 132 → Nat → Instr) × Nat × (Word → Word → Word))),
    ∀ (g : Fin 132) (τ : Nat) (s : State) (w : Nat), s.Runs g w → jOp w = 0x01 → jFn w = row.2.1 →
      let e := s.eng g
      let a := e.getX (jA w)
      let b := e.getX (jB w)
      let exact : Int := if jFn w = 0x0F then a.toInt + b.toInt else a.toInt - b.toInt
      let clamped := decide ((jFn w = 0x0F ∨ jFn w = 0x10) ∧ (exact < -2147483648 ∨ 2147483647 < exact))
      Answers (exec (row.1 g τ) s) fun t => RegisterResult s t τ g w ((e.setX (jD w) (row.2.2 a b)).flag 2 clamped)

/-- R189: the I-format instructions on registers write D with A and the extended immediate; SHI shifts A by n. -/
def Obligations.ImmediateInstructionsWriteTheirResult : Prop :=
  (∀ row ∈ ([(.addi, 0x02, fun a i => a + BitVec.signExtend 32 i), (.andi, 0x03, fun a i => a &&& BitVec.zeroExtend 32 i),
      (.ori, 0x04, fun a i => a ||| BitVec.zeroExtend 32 i), (.xori, 0x05, fun a i => a ^^^ BitVec.zeroExtend 32 i),
      (.slti, 0x06, fun a i => if a.slt (BitVec.signExtend 32 i) then 1 else 0),
      (.lui, 0x07, fun _ i => BitVec.zeroExtend 32 i <<< 16)] :
        List ((Fin 132 → Nat → Instr) × Nat × (Word → BitVec 16 → Word))),
    ∀ (g : Fin 132) (τ : Nat) (s : State) (w : Nat), s.Runs g w → jOp w = row.2.1 →
      Answers (exec (row.1 g τ) s) fun t =>
        RegisterResult s t τ g w ((s.eng g).setX (jD w) (row.2.2 ((s.eng g).getX (jA w)) (BitVec.ofNat 16 (jImm w))))) ∧
  (∀ (g : Fin 132) (τ : Nat) (s : State) (w : Nat), s.Runs g w → jOp w = 0x08 →
      let a := (s.eng g).getX (jA w)
      let n := bitsOf w 0 5
      Answers (exec (.shi g τ) s) fun t => RegisterResult s t τ g w ((s.eng g).setX (jD w)
        (if bitsOf w 5 2 = 0 then a <<< n else if bitsOf w 5 2 = 1 then a >>> n else a.sshiftRight n)))

/-- R183: the long form runs an I-format operation with IMM32 in place of the extended immediate; its JALR links PC + 8. -/
def Obligations.LongFormTakesAFullImmediate : Prop :=
  ∀ (g : Fin 132) (τ : Nat) (s : State) (w : Nat), s.Runs g w → jOp w = 0x3F →
    let e := s.eng g
    let imm := BitVec.ofNat 32 (s.fetchWord g (s.engPc g + 4))
    let a := e.getX (lA w)
    (∀ row ∈ ([(0x02, a + imm), (0x03, a &&& imm), (0x04, a ||| imm), (0x05, a ^^^ imm),
        (0x06, if a.slt imm then 1 else 0), (0x07, imm <<< 16)] : List (Nat × Word)), lBop w = row.1 →
      Answers (exec (.longForm g τ) s) fun t => RegisterResult s t τ g w (e.setX (lD w) row.2)) ∧
    (lBop w = 0x19 → Answers (exec (.longForm g τ) s) fun t =>
      JumpResult s t τ g ((a + imm).toNat / 4 * 4) (e.setX (lD w) (BitVec.ofNat 32 (s.engPc g + 8)))) ∧
    (∀ (m : MemId) (x : Nat), lBop w = 0x0A → e.dma = [] → (a + imm).toNat % 4 = 0 → s.engMem g (a + imm).toNat 4 = some (m, x) →
      Answers (exec (.longForm g τ) s) fun t =>
        RegisterResult s t τ g w (e.setX (lD w) (BitVec.ofNat 32 (leNat (s.memBytes m x 4))))) ∧
    (∀ (m : MemId) (x : Nat), lBop w = 0x0B → (a + imm).toNat % 4 = 0 → s.engMem g (a + imm).toNat 4 = some (m, x) →
      Answers (exec (.longForm g τ) s) fun t =>
        t.memBytes m x 4 = leBytes 4 (e.getX (lD w)).toNat ∧ KeepsBytes m x 4 s t ∧
        Retired s t τ g (loopNext (s.engPc g) 8 e.loops).1 (loopNext (s.engPc g) 8 e.loops).2.1 e ∧ SameButMemories s t)

/-- R189, R192: an aligned load whose bytes lie in one memory of the engine writes D with them, extended as its name states. -/
def Obligations.LoadsReadAlignedData : Prop :=
  ∀ row ∈ ([(.ldw, 0x0A, 4, fun v => BitVec.ofNat 32 v), (.ldh, 0x0C, 2, fun v => BitVec.signExtend 32 (BitVec.ofNat 16 v)),
      (.ldhu, 0x0D, 2, fun v => BitVec.zeroExtend 32 (BitVec.ofNat 16 v)),
      (.ldbu, 0x0F, 1, fun v => BitVec.zeroExtend 32 (BitVec.ofNat 8 v))] :
        List ((Fin 132 → Nat → Instr) × Nat × Nat × (Nat → Word))),
    ∀ (g : Fin 132) (τ : Nat) (s : State) (w : Nat) (m : MemId) (x : Nat), s.Runs g w → jOp w = row.2.1 → (s.eng g).dma = [] →
      let ea := ((s.eng g).getX (jA w) + BitVec.signExtend 32 (BitVec.ofNat 16 (jImm w))).toNat
      ea % row.2.2.1 = 0 → s.engMem g ea row.2.2.1 = some (m, x) →
      Answers (exec (row.1 g τ) s) fun t =>
        RegisterResult s t τ g w ((s.eng g).setX (jD w) (row.2.2.2 (leNat (s.memBytes m x row.2.2.1))))

/-- R189, R192: an aligned store puts the low bytes of D at the address, least significant first; every other byte, register
and engine keeps its value. -/
def Obligations.StoresWriteOnlyTheirBytes : Prop :=
  ∀ row ∈ ([(.stw, 0x0B, 4), (.sth, 0x0E, 2), (.stb, 0x10, 1)] : List ((Fin 132 → Nat → Instr) × Nat × Nat)),
    ∀ (g : Fin 132) (τ : Nat) (s : State) (w : Nat) (m : MemId) (x : Nat), s.Runs g w → jOp w = row.2.1 →
      let e := s.eng g
      let ea := (e.getX (jA w) + BitVec.signExtend 32 (BitVec.ofNat 16 (jImm w))).toNat
      ea % row.2.2 = 0 → s.engMem g ea row.2.2 = some (m, x) →
      Answers (exec (row.1 g τ) s) fun t =>
        t.memBytes m x row.2.2 = leBytes row.2.2 (e.getX (jD w)).toNat ∧ KeepsBytes m x row.2.2 s t ∧
        Retired s t τ g (loopNext (s.engPc g) 4 e.loops).1 (loopNext (s.engPc g) 4 e.loops).2.1 e ∧ SameButMemories s t

/-- R189, R192: an atomic on an aligned word of the engine's cluster SRAM gives D the old word and leaves the new one. -/
def Obligations.AtomicsExchangeAWordOfClusterSram : Prop :=
  ∀ row ∈ ([(.amoadd, 0, fun old b => old + b), (.amoswap, 1, fun _ b => b),
      (.amomaxu, 2, fun old b => if old < b then b else old)] :
        List ((Fin 132 → Nat → Instr) × Nat × (Word → Word → Word))),
    ∀ (g : Fin 132) (τ : Nat) (s : State) (w : Nat), s.Runs g w → jOp w = 0x11 → jFn w = row.2.1 → (s.eng g).dma = [] →
      let e := s.eng g
      let ea := (e.getX (jA w)).toNat
      let m := MemId.sram (s.clusterOf g)
      let old := BitVec.ofNat 32 (leNat (s.memBytes m (ea - 0x100000) 4))
      ea % 4 = 0 → 0x100000 ≤ ea → ea + 4 ≤ 0x200000 →
      Answers (exec (row.1 g τ) s) fun t =>
        t.memBytes m (ea - 0x100000) 4 = leBytes 4 (row.2.2 old (e.getX (jB w))).toNat ∧
        KeepsBytes m (ea - 0x100000) 4 s t ∧
        Retired s t τ g (loopNext (s.engPc g) 4 e.loops).1 (loopNext (s.engPc g) 4 e.loops).2.1 (e.setX (jD w) old) ∧
        SameButMemories s t

/-- R192, R194: a scalar load or store at an address that is not a multiple of its size raises DALIGN with the address; one whose
bytes are not all in DMEM and not all in cluster SRAM raises DACCESS. An atomic raises DALIGN at an address that is not a multiple
of 4 and DACCESS outside cluster SRAM. -/
def Obligations.MisplacedAccessesRaiseTheirException : Prop :=
  (∀ row ∈ ([(.ldw, 0x0A, 4), (.stw, 0x0B, 4), (.ldh, 0x0C, 2), (.ldhu, 0x0D, 2), (.sth, 0x0E, 2), (.ldbu, 0x0F, 1),
      (.stb, 0x10, 1)] : List ((Fin 132 → Nat → Instr) × Nat × Nat)),
    ∀ (g : Fin 132) (τ : Nat) (s : State) (w : Nat), s.Runs g w → jOp w = row.2.1 →
      let ea := ((s.eng g).getX (jA w) + BitVec.signExtend 32 (BitVec.ofNat 16 (jImm w))).toNat
      (ea % row.2.2 ≠ 0 → Answers (exec (row.1 g τ) s) fun t =>
        t.rd (ENG.STAT_STATE g) = 3 ∧ t.rd (ENG.EXC_CAUSE g) = 0x02 ∧ t.rd (ENG.EXC_ADDR_ADDR g) = ea ∧
        t.rd (ENG.EXC_PC_PC g) = s.engPc g ∧ t.rd (ENG.EXC_IMPRECISE g) = 0) ∧
      (ea % row.2.2 = 0 → s.engMem g ea row.2.2 = none → Answers (exec (row.1 g τ) s) fun t =>
        t.rd (ENG.STAT_STATE g) = 3 ∧ t.rd (ENG.EXC_CAUSE g) = 0x03 ∧ t.rd (ENG.EXC_ADDR_ADDR g) = ea ∧
        t.rd (ENG.EXC_PC_PC g) = s.engPc g ∧ t.rd (ENG.EXC_IMPRECISE g) = 0)) ∧
  ∀ row ∈ ([(.amoadd, 0), (.amoswap, 1), (.amomaxu, 2)] : List ((Fin 132 → Nat → Instr) × Nat)),
    ∀ (g : Fin 132) (τ : Nat) (s : State) (w : Nat), s.Runs g w → jOp w = 0x11 → jFn w = row.2 →
      let ea := ((s.eng g).getX (jA w)).toNat
      (ea % 4 ≠ 0 → Answers (exec (row.1 g τ) s) fun t =>
        t.rd (ENG.STAT_STATE g) = 3 ∧ t.rd (ENG.EXC_CAUSE g) = 0x02 ∧ t.rd (ENG.EXC_ADDR_ADDR g) = ea ∧
        t.rd (ENG.EXC_PC_PC g) = s.engPc g ∧ t.rd (ENG.EXC_IMPRECISE g) = 0) ∧
      (ea % 4 = 0 → ¬(0x100000 ≤ ea ∧ ea + 4 ≤ 0x200000) → Answers (exec (row.1 g τ) s) fun t =>
        t.rd (ENG.STAT_STATE g) = 3 ∧ t.rd (ENG.EXC_CAUSE g) = 0x03 ∧ t.rd (ENG.EXC_ADDR_ADDR g) = ea ∧
        t.rd (ENG.EXC_PC_PC g) = s.engPc g ∧ t.rd (ENG.EXC_IMPRECISE g) = 0)

/-- R189, R198: a branch whose condition holds continues at PC + 4 × OFF16 and ends the loops that do not hold the target; one
whose condition fails goes on behind it. JAL and JALR link and jump. -/
def Obligations.BranchesAndJumpsMoveThePc : Prop :=
  (∀ row ∈ ([(.beq, 0x12, fun a b => a == b), (.bne, 0x13, fun a b => a != b), (.blt, 0x14, fun a b => a.slt b),
      (.bge, 0x15, fun a b => b.sle a), (.bltu, 0x16, fun a b => a.ult b), (.bgeu, 0x17, fun a b => b.ule a)] :
        List ((Fin 132 → Nat → Instr) × Nat × (Word → Word → Bool))),
    ∀ (g : Fin 132) (τ : Nat) (s : State) (w : Nat), s.Runs g w → jOp w = row.2.1 →
      let e := s.eng g
      let target := (BitVec.ofNat 32 (s.engPc g) + 4 * BitVec.signExtend 32 (BitVec.ofNat 16 (jImm w))).toNat
      (row.2.2 (e.getX (jD w)) (e.getX (jA w)) = true →
        Answers (exec (row.1 g τ) s) fun t => JumpResult s t τ g target e) ∧
      (row.2.2 (e.getX (jD w)) (e.getX (jA w)) = false →
        Answers (exec (row.1 g τ) s) fun t => RegisterResult s t τ g w e)) ∧
  (∀ (g : Fin 132) (τ : Nat) (s : State) (w : Nat), s.Runs g w → jOp w = 0x18 →
      Answers (exec (.jal g τ) s) fun t =>
        JumpResult s t τ g (BitVec.ofNat 32 (s.engPc g) + 4 * BitVec.signExtend 32 (BitVec.ofNat 21 w)).toNat
          ((s.eng g).setX (jD w) (BitVec.ofNat 32 (s.engPc g + 4)))) ∧
  (∀ (g : Fin 132) (τ : Nat) (s : State) (w : Nat), s.Runs g w → jOp w = 0x19 →
      Answers (exec (.jalr g τ) s) fun t =>
        JumpResult s t τ g (((s.eng g).getX (jA w) + BitVec.signExtend 32 (BitVec.ofNat 16 (jImm w))).toNat / 4 * 4)
          ((s.eng g).setX (jD w) (BitVec.ofNat 32 (s.engPc g + 4))))

/-- R198, R194, R179, R9: LOOP with a count enters its body, with a count of 0 passes it; FENCE completes; CSRR gives D the CSR and
CSRW writes the bits that can be written; reading CYCLE_LO or TIME_LO gives D the low half and latches the high half, which the next
read of its _HI gives; with nothing latched a read of _HI gives the running high half. -/
def Obligations.LoopFenceAndCsrInstructionsComplete : Prop :=
  (∀ (g : Fin 132) (τ : Nat) (s : State) (w : Nat), s.Runs g w →
    let e := s.eng g
    let pc := s.engPc g
    let fin := pc + 4 * jImm w
    let c := (e.getX (jA w)).toNat
    (jOp w = 0x1A → e.loops.length < 2 → jImm w ≠ 0 → (∀ l ∈ e.loops, fin ≤ l.fin) → c ≠ 0 →
      Answers (exec (.loop g τ) s) fun t =>
        RegisterResult s t τ g w { e with loops := { start := pc + 4, fin := fin, left := c } :: e.loops }) ∧
    (jOp w = 0x1A → e.loops.length < 2 → jImm w ≠ 0 → (∀ l ∈ e.loops, fin ≤ l.fin) → c = 0 →
      Answers (exec (.loop g τ) s) fun t => JumpResult s t τ g (fin + 4) e) ∧
    (jOp w = 0x1B → jFn w = 1 → Answers (exec (.fence g τ) s) fun t => RegisterResult s t τ g w e) ∧
    (∀ v, jOp w = 0x1D → jImm w ≠ 2 → jImm w ≠ 3 → jImm w ≠ 4 → jImm w ≠ 5 → (s.at τ).csrRead g (jImm w) = some v →
      Answers (exec (.csrr g τ) s) fun t => RegisterResult s t τ g w (e.setX (jD w) (BitVec.ofNat 32 v))) ∧
    (∀ m, jOp w = 0x1E → csrMask (jImm w) = some m →
      Answers (exec (.csrw g τ) s) fun t =>
        RegisterResult s t τ g w { e with csr := AMap.set e.csr (jImm w) (e.getX (jA w) &&& BitVec.ofNat 32 m) })) ∧
  (∀ (g : Fin 132) (τ : Nat) (s : State) (w : Nat), s.Runs g w → jOp w = 0x1D →
    let e := s.eng g
    let cyc := ((s.at τ).clocks - e.cyc0) / 1000
    (jImm w = 2 → Answers (exec (.csrr g τ) s) fun t =>
      RegisterResult s t τ g w { (e.setX (jD w) (BitVec.ofNat 32 cyc)) with cycHi := some (BitVec.ofNat 32 (cyc / 2 ^ 32)) }) ∧
    (jImm w = 3 → Answers (exec (.csrr g τ) s) fun t =>
      RegisterResult s t τ g w { (e.setX (jD w) (e.cycHi.getD (BitVec.ofNat 32 (cyc / 2 ^ 32)))) with cycHi := none }) ∧
    (jImm w = 4 → Answers (exec (.csrr g τ) s) fun t =>
      RegisterResult s t τ g w { (e.setX (jD w) (BitVec.ofNat 32 (s.at τ).dev)) with
        timeHi := some (BitVec.ofNat 32 ((s.at τ).dev / 2 ^ 32)) }) ∧
    (jImm w = 5 → Answers (exec (.csrr g τ) s) fun t =>
      RegisterResult s t τ g w { (e.setX (jD w) (e.timeHi.getD (BitVec.ofNat 32 ((s.at τ).dev / 2 ^ 32)))) with timeHi := none }))

/-- R200, R199, R203: HALT with no open item and no busy channel ends the kernel; BAR naming the engine alone completes, naming
absent engines it waits; TRAP raises TRAP with X[B]. -/
def Obligations.HaltBarAndTrapActOnTheEngine : Prop :=
  ∀ (g : Fin 132) (τ : Nat) (s : State) (w : Nat), s.Runs g w →
    let e := s.eng g
    let c := s.clusterOf g
    let d := s.servedBy g % 8
    let mask := (e.getX (jA w)).toNat % 256
    (jOp w = 0x1B → jFn w = 0 → e.outCur = [] → e.dmaBusy = false → Answers (exec (.halt g τ) s) fun t =>
      t.rd (ENG.STAT_STATE g) = 2 ∧ t.engPc g = (loopNext (s.engPc g) 4 e.loops).1 % 2 ^ 32 ∧
      retiredCount t g = (retiredCount s g + 1) % 2 ^ 64 ∧ (t.eng g).x = e.x ∧ (t.eng g).v = e.v ∧ t.mems = s.mems ∧
      KeepsRegs (ENG.STAT_STATE g :: retireRegs g) s t) ∧
    (jOp w = 0x1C → mask = 2 ^ d → (s.rd (CL.STAT_ENGFENCED c)).land mask = 0 → s.atBarrier c (jImm w % 8) = [] →
      Answers (exec (.bar g τ) s) fun t =>
        t.engPc g = (loopNext (s.engPc g) 4 e.loops).1 % 2 ^ 32 ∧ (t.eng g).wait = none ∧ (t.eng g).x = e.x ∧ t.mems = s.mems ∧
        KeepsRegs (CL.STAT_BARWAIT c :: retireRegs g) s t) ∧
    (jOp w = 0x1C → mask.testBit d = true → mask ≠ 2 ^ d → (s.rd (CL.STAT_ENGFENCED c)).land mask = 0 →
      s.atBarrier c (jImm w % 8) = [] → Answers (exec (.bar g τ) s) fun t =>
        (t.eng g).wait = some (.barrier (jImm w % 8) mask) ∧ t.engPc g = s.engPc g ∧ (t.eng g).x = e.x ∧ t.mems = s.mems ∧
        KeepsRegs [CL.STAT_BARWAIT c] s t) ∧
    (jOp w = 0x1B → jFn w = 2 → Answers (exec (.trap g τ) s) fun t =>
      t.rd (ENG.STAT_STATE g) = 3 ∧ t.rd (ENG.EXC_CAUSE g) = 0x0A ∧ t.rd (ENG.EXC_ADDR_ADDR g) = (e.getX (jB w)).toNat ∧
      t.rd (ENG.EXC_INSN_INSN g) = w % 2 ^ 32 ∧ t.rd (ENG.EXC_PC_PC g) = s.engPc g ∧ t.rd (ENG.EXC_IMPRECISE g) = 0 ∧
      (t.eng g).x = e.x ∧ (t.eng g).v = e.v ∧ (t.eng g).p = e.p ∧ (t.eng g).a = e.a)

/-- R184, R186, R187, R189: each lane instruction of OP 0x28 writes the active lanes of Vd with its result on the lanes of A and
B; a clamped lane sets VSAT; the inactive lanes follow Z. -/
def Obligations.LaneInstructionsWriteActiveLanes : Prop :=
  ∀ ctor ∈ ([(.vadd, 0x00), (.vsub, 0x01), (.vaddsS, 0x02), (.vaddsU, 0x03), (.vsubsS, 0x04), (.vsubsU, 0x05), (.vand, 0x06),
      (.vor, 0x07), (.vxor, 0x08), (.vminS, 0x09), (.vminU, 0x0A), (.vmaxS, 0x0B), (.vmaxU, 0x0C), (.vabsdU, 0x0D),
      (.vavgU, 0x0E), (.vmul, 0x0F), (.vmulhS, 0x10), (.vmulhU, 0x11), (.vmulq, 0x12), (.vshl, 0x13), (.vshrU, 0x14),
      (.vshrS, 0x15), (.vabsS, 0x17)] : List ((Fin 132 → Nat → Instr) × Nat)),
    ∀ row ∈ laneTable, row.1 = ctor.2 → ∀ (g : Fin 132) (τ : Nat) (s : State) (w : Nat),
      s.Runs g w → jOp w = 0x28 → jFn w = ctor.2 →
      let e := s.eng g
      let a := lane (e.getV (jA w))
      let b := lane (e.getV (jB w))
      Answers (exec (ctor.1 g τ) s) fun t => ∃ e', RegisterResult s t τ g w e' ∧
        LaneResult e e' (jD w) (jPr w) (jZ w) (fun i => row.2.1 (a i) (b i)) (fun i => row.2.2 (a i) (b i))

/-- R189: VSEL takes every lane from A where the predicate is 1 and from B elsewhere; the VALUI forms take the low half of X[B]
in place of every lane of B. -/
def Obligations.SelectAndScalarOperandFormsFollowTheTable : Prop :=
  ∀ (g : Fin 132) (τ : Nat) (s : State) (w : Nat), s.Runs g w →
    let e := s.eng g
    let a := lane (e.getV (jA w))
    let b := lane (e.getV (jB w))
    let x := BitVec.ofNat 16 (e.getX (jB w)).toNat
    (jOp w = 0x28 → jFn w = 0x16 → Answers (exec (.vsel g τ) s) fun t => ∃ e', RegisterResult s t τ g w e' ∧
      LaneResult e e' (jD w) 0 0 (fun i => if e.on (jPr w) i then a i else b i) (fun _ => false)) ∧
    (jOp w = 0x29 → jFn w = 0x16 → Answers (exec (.valui g τ) s) fun t => ∃ e', RegisterResult s t τ g w e' ∧
      LaneResult e e' (jD w) 0 0 (fun i => if e.on (jPr w) i then a i else x) (fun _ => false)) ∧
    (∀ row ∈ laneTable, jOp w = 0x29 → jFn w = row.1 →
      Answers (exec (.valui g τ) s) fun t => ∃ e', RegisterResult s t τ g w e' ∧
        LaneResult e e' (jD w) (jPr w) (jZ w) (fun i => row.2.1 (a i) x) (fun i => row.2.2 (a i) x))

/-- R185: a right shift by n ≥ 1 rounds down, half up, half to even, or toward zero, as RM says; by 0 it changes nothing. -/
def Obligations.RightShiftsRoundAsTheTableSays : Prop :=
  ∀ (x : Int) (n : Nat),
    (∀ rm, shiftRound x 0 rm = x) ∧
    (1 ≤ n →
      shiftRound x n 0 = x / 2 ^ n ∧ shiftRound x n 1 = (x + 2 ^ (n - 1)) / 2 ^ n ∧ shiftRound x n 3 = Int.tdiv x (2 ^ n) ∧
      2 * |x - shiftRound x n 2 * 2 ^ n| ≤ 2 ^ n ∧
      (2 * |x - shiftRound x n 2 * 2 ^ n| = 2 ^ n → shiftRound x n 2 % 2 = 0))

/-- R185, R188, R189: VSHI shifts the lanes of A by the kind and rounding of its immediate; VACC narrows the lanes of an
accumulator after a rounding shift by the mode of its immediate. -/
def Obligations.ShiftAndNarrowInstructionsFollowTheirImmediate : Prop :=
  ∀ (g : Fin 132) (τ : Nat) (s : State) (w : Nat), s.Runs g w →
    let e := s.eng g
    let a := lane (e.getV (jA w))
    let acc := accLane (e.getA (jA w))
    let k := bitsOf w 10 2
    let rm := bitsOf w 8 2
    let n := bitsOf w 0 4
    let r (i : Nat) := shiftRound (acc i).toInt (bitsOf w 0 6) rm
    (jOp w = 0x2A → Answers (exec (.vshi g τ) s) fun t => ∃ e', RegisterResult s t τ g w e' ∧
      LaneResult e e' (jD w) (viPr w) (viZ w)
        (fun i => if k = 0 then a i <<< n else if k = 1 then BitVec.ofInt 16 (satS16 ((a i).toInt * 2 ^ n))
          else if k = 2 then BitVec.ofInt 16 (shiftRound (a i).toInt n rm) else BitVec.ofInt 16 (shiftRound (a i).toNat n rm))
        (fun i => k == 1 && overS16 ((a i).toInt * 2 ^ n))) ∧
    (jOp w = 0x31 → Answers (exec (.vacc g τ) s) fun t => ∃ e', RegisterResult s t τ g w e' ∧
      LaneResult e e' (jD w) (viPr w) (viZ w)
        (fun i => BitVec.ofInt 16 (if k = 0 then satS16 (r i) else if k = 1 then satU16 (r i) else r i))
        (fun i => (k == 0 && overS16 (r i)) || (k == 1 && overU16 (r i))))

/-- R189: VCMP writes the active lanes of Pd with the comparison of its FN, against the lanes of B or the low half of X[B]. -/
def Obligations.ComparesWritePredicateLanes : Prop :=
  ∀ row ∈ ([(0, fun a b => a == b), (1, fun a b => a != b), (2, fun a b => a.slt b), (3, fun a b => a.sle b),
      (4, fun a b => a.ult b), (5, fun a b => a.ule b)] : List (Nat × (BitVec 16 → BitVec 16 → Bool))),
    ∀ (g : Fin 132) (τ : Nat) (s : State) (w : Nat), s.Runs g w → jOp w = 0x2B →
      let e := s.eng g
      let a := lane (e.getV (jA w))
      (jFn w = row.1 → Answers (exec (.vcmp g τ) s) fun t => ∃ e', RegisterResult s t τ g w e' ∧
        PredicateResult e e' (jD w) (jPr w) (jZ w) fun i => row.2 (a i) (lane (e.getV (jB w)) i)) ∧
      (jFn w = 8 + row.1 → Answers (exec (.vcmp g τ) s) fun t => ∃ e', RegisterResult s t τ g w e' ∧
        PredicateResult e e' (jD w) (jPr w) (jZ w) fun i => row.2 (a i) (BitVec.ofNat 16 (e.getX (jB w)).toNat))

/-- R189: the instructions that move lanes write the active lanes of Vd with the lanes, bytes or halves that the table names. -/
def Obligations.LaneMovesWriteActiveLanes : Prop :=
  ∀ (g : Fin 132) (τ : Nat) (s : State) (w : Nat), s.Runs g w →
    let e := s.eng g
    let a := lane (e.getV (jA w))
    let b := lane (e.getV (jB w))
    let half (r : Nat) := BitVec.ofNat 16 (e.getX r).toNat
    let sat8 (l : BitVec 16) := min l.toNat 255
    let sat8of (j : Nat) := if j < 32 then sat8 (a j) else sat8 (b (j - 32))
    let byte (v : Nat → BitVec 16) (j : Nat) := (v (j / 2)).toNat / 256 ^ (j % 2) % 256
    (∀ row ∈ ([(.vsplat, 0x00, fun _ => half (jA w)),
        (.vins, 0x02, fun i => if i = (e.getX (jB w)).toNat % 32 then half (jA w) else lane (e.getV (jD w)) i),
        (.vperm, 0x03, fun i => a ((b i).toNat % 32)), (.vidx, 0x04, fun i => BitVec.ofNat 16 i),
        (.vpackb, 0x05, fun i => BitVec.ofNat 16 (sat8of (2 * i) + 256 * sat8of (2 * i + 1))),
        (.vunpkl, 0x06, fun i => BitVec.ofNat 16 (byte a i)), (.vunpkh, 0x07, fun i => BitVec.ofNat 16 (byte a (32 + i))),
        (.vmov, 0x0C, a)] : List ((Fin 132 → Nat → Instr) × Nat × (Nat → BitVec 16))),
      jOp w = 0x2C → jFn w = row.2.1 → Answers (exec (row.1 g τ) s) fun t => ∃ e', RegisterResult s t τ g w e' ∧
        LaneResult e e' (jD w) (jPr w) (jZ w) row.2.2 (fun _ => false)) ∧
    (jOp w = 0x2D → Answers (exec (.vsldi g τ) s) fun t => ∃ e', RegisterResult s t τ g w e' ∧
      LaneResult e e' (jD w) (viPr w) (viZ w)
        (fun i => let j := i + bitsOf w 0 5
          if j < 32 then a j else lane (e.getV (bitsOf w 5 5)) (j - 32)) (fun _ => false))

/-- R189, R190: VEXT and the reductions write Xd from the lanes of A; a reduction takes the active lanes and ignores Z. -/
def Obligations.ReductionsWriteAScalar : Prop :=
  ∀ (g : Fin 132) (τ : Nat) (s : State) (w : Nat), s.Runs g w → jOp w = 0x2C →
    let e := s.eng g
    let a := lane (e.getV (jA w))
    let ls := (e.active (jPr w)).map a
    ∀ row ∈ ([(.vext, 0x01, BitVec.zeroExtend 32 (a ((e.getX (jB w)).toNat % 32))),
        (.vredaddS, 0x08, BitVec.ofInt 32 (ls.map BitVec.toInt).sum), (.vredaddU, 0x09, BitVec.ofNat 32 (ls.map BitVec.toNat).sum),
        (.vredmaxU, 0x0A, BitVec.ofNat 32 ((ls.map BitVec.toNat).foldr max 0)),
        (.vredminU, 0x0B, BitVec.ofNat 32 ((ls.map BitVec.toNat).foldr min 65535))] :
          List ((Fin 132 → Nat → Instr) × Nat × Word)),
      jFn w = row.2.1 → Answers (exec (row.1 g τ) s) fun t => RegisterResult s t τ g w (e.setX (jD w) row.2.2)

/-- R189, R176: the predicate instructions write Pd, or Xd; P0 and X0 discard what is written. -/
def Obligations.PredicateInstructionsWriteTheirResult : Prop :=
  ∀ (g : Fin 132) (τ : Nat) (s : State) (w : Nat), s.Runs g w → jOp w = 0x2E →
    let e := s.eng g
    let a := e.getP (jA w)
    let b := e.getP (jB w)
    (∀ row ∈ ([(.pand, 0x00, a &&& b), (.por, 0x01, a ||| b), (.pxor, 0x02, a ^^^ b), (.pandn, 0x03, a &&& ~~~b), (.pnot, 0x04, ~~~a),
        (.pfromx, 0x05, e.getX (jA w)),
        (.pfirst, 0x07, if 32 ≤ (e.getX (jA w)).toNat then 0xFFFFFFFF else BitVec.ofNat 32 (2 ^ (e.getX (jA w)).toNat - 1))] :
          List ((Fin 132 → Nat → Instr) × Nat × Word)),
      jFn w = row.2.1 → Answers (exec (row.1 g τ) s) fun t => RegisterResult s t τ g w (e.setP (jD w) row.2.2)) ∧
    (jFn w = 0x06 → Answers (exec (.ptox g τ) s) fun t => RegisterResult s t τ g w (e.setX (jD w) a))

/-- R187 to R189: the accumulator instructions write the active lanes of Ad; the accumulating ones clamp to 40 bits and set
ASAT when they do. -/
def Obligations.AccumulatorInstructionsClampToFortyBits : Prop :=
  ∀ (g : Fin 132) (τ : Nat) (s : State) (w : Nat), s.Runs g w → jOp w = 0x30 →
    let e := s.eng g
    let a := lane (e.getV (jA w))
    let b := lane (e.getV (jB w))
    let acc (i : Nat) := (accLane (e.getA (jD w)) i).toInt
    (∀ row ∈ ([(.vmacS, 0, fun i => acc i + (a i).toInt * (b i).toInt), (.vmacU, 1, fun i => acc i + (a i).toNat * (b i).toNat),
        (.vmacSu, 2, fun i => acc i + (a i).toInt * (b i).toNat), (.vmsuS, 3, fun i => acc i - (a i).toInt * (b i).toInt),
        (.vmulaS, 4, fun i => (a i).toInt * (b i).toInt), (.vmulaU, 5, fun i => (a i).toNat * (b i).toNat),
        (.vaclr, 6, fun _ => 0)] : List ((Fin 132 → Nat → Instr) × Nat × (Nat → Int))),
      jFn w = row.2.1 → Answers (exec (row.1 g τ) s) fun t => ∃ e', RegisterResult s t τ g w e' ∧
        AccumulatorResult e e' (jD w) (jPr w) (jZ w) (fun i => BitVec.ofInt 40 (satS40 (row.2.2 i)))
          (fun i => overS40 (row.2.2 i)))

/-- R186, R189, R192, R193: vector loads fill the active lanes of Vd from memory, vector stores put the active lanes of Vd there
and change no other byte; of two active lanes of one VSCAT at one halfword the higher stays. -/
def Obligations.VectorMemoryInstructionsMoveActiveLanes : Prop :=
  ∀ (g : Fin 132) (τ : Nat) (s : State) (w : Nat), s.Runs g w → (s.eng g).dma = [] →
    let e := s.eng g
    let ea := (e.getX (jA w) + 2 * BitVec.signExtend 32 (BitVec.ofNat 12 w)).toNat
    let at_ (i : Nat) := (e.getX (jA w) + BitVec.ofNat 32 (2 * (lane (e.getV (jB w)) i).toNat)).toNat
    let half (m : MemId) (x : Nat) := BitVec.ofNat 16 (leNat (s.memBytes m x 2))
    (∀ (m : MemId) (x : Nat), jOp w = 0x34 → ea % 2 = 0 → s.engMem g ea 64 = some (m, x) →
      Answers (exec (.vld g τ) s) fun t => ∃ e', RegisterResult s t τ g w e' ∧
        LaneResult e e' (jD w) (viPr w) (viZ w) (fun i => half m (x + 2 * i)) (fun _ => false)) ∧
    (∀ (m : MemId) (x : Nat), jOp w = 0x35 → ea % 2 = 0 → s.engMem g ea 64 = some (m, x) →
      Answers (exec (.vst g τ) s) fun t =>
        Retired s t τ g (loopNext (s.engPc g) 4 e.loops).1 (loopNext (s.engPc g) 4 e.loops).2.1 e ∧ SameButMemories s t ∧
        (∀ i ∈ e.active (viPr w), t.memBytes m (x + 2 * i) 2 = leBytes 2 (lane (e.getV (jD w)) i).toNat) ∧
        ∀ (k : MemId) (y : Nat), ¬(k = m ∧ ∃ i ∈ e.active (viPr w), x + 2 * i ≤ y ∧ y < x + 2 * i + 2) →
          t.memBytes k y 1 = s.memBytes k y 1) ∧
    (jOp w = 0x36 → (∀ i ∈ e.active (jPr w), at_ i % 2 = 0 ∧ at_ i + 2 ≤ 0x8000) →
      Answers (exec (.vgath g τ) s) fun t => ∃ e', RegisterResult s t τ g w e' ∧
        LaneResult e e' (jD w) (jPr w) (jZ w) (fun i => half (.dmem g) (at_ i)) (fun _ => false)) ∧
    (jOp w = 0x37 → (∀ i ∈ e.active (jPr w), at_ i % 2 = 0 ∧ at_ i + 2 ≤ 0x8000) →
      Answers (exec (.vscat g τ) s) fun t =>
        Retired s t τ g (loopNext (s.engPc g) 4 e.loops).1 (loopNext (s.engPc g) 4 e.loops).2.1 e ∧ SameButMemories s t ∧
        (∀ i ∈ e.active (jPr w), (∀ j ∈ e.active (jPr w), i < j → at_ j ≠ at_ i) →
          t.memBytes (.dmem g) (at_ i) 2 = leBytes 2 (lane (e.getV (jD w)) i).toNat) ∧
        ∀ (k : MemId) (y : Nat), ¬(k = .dmem g ∧ ∃ i ∈ e.active (jPr w), at_ i ≤ y ∧ y < at_ i + 2) →
          t.memBytes k y 1 = s.memBytes k y 1)

/-- R201: SMP on a valid surface, in the engine's memories or in GDDR7 that the graph grants, while no transfer is under way, gives each active lane the rounded weighted mean of four samples; the taps lie
around the sampling point with weights that add to 1024; a tap inside the surface reads its own sample, one outside reads BORDER in
border mode 1 and the clamped sample in border mode 0. -/
def Obligations.SamplerInterpolatesFourSamplesOfItsSurface : Prop :=
  (∀ (g : Fin 132) (τ : Nat) (s : State) (w : Nat), s.Runs g w → jOp w = 0x3A → (s.eng g).dma = [] →
    let e := s.eng g
    let n := jFn w % 4
    let fmt := (e.getCsr (0x24 + 8 * n)).toNat
    let sz := if fmt.testBit 0 then 2 else 1
    let taps (i : Nat) := smpTaps e (lane (e.getV (jA w)) i) (lane (e.getV (jB w)) i)
    let sample (u v : Int) : Nat := match s.smpPlace e n u v with
      | .inl k => k
      | .inr a => match s.smpMem g (fmt.testBit 1) a sz with
        | some (m, x) => leNat (s.memBytes m x sz)
        | none => 0
    fmt.testBit 7 = true → s.smpOutside g n = false →
    (∀ i ∈ e.active (jPr w), ∀ tap ∈ taps i, match s.smpPlace e n tap.2.1 tap.2.2 with
      | .inl _ => True
      | .inr a => (s.smpMem g (fmt.testBit 1) a sz).isSome) →
    Answers (exec (.smp g τ) s) fun t => ∃ e',
      Retired s t τ g (loopNext (s.engPc g) 4 e.loops).1 (loopNext (s.engPc g) 4 e.loops).2.1 e' ∧ t.mems = s.mems ∧
      LaneResult e e' (jD w) (jPr w) (jZ w)
        (fun i => BitVec.ofNat 16 ((((taps i).map fun tap => tap.1 * sample tap.2.1 tap.2.2).sum + 512) / 1024)) (fun _ => false)) ∧
  ((∀ (e : Engine) (x y : BitVec 16), ∃ u v fx fy : Int,
     32 * u + fx = (e.getCsr 0x40).toInt * 32 + x.toInt ∧ 0 ≤ fx ∧ fx < 32 ∧
     32 * v + fy = (e.getCsr 0x41).toInt * 32 + y.toInt ∧ 0 ≤ fy ∧ fy < 32 ∧
     (smpTaps e x y).map (fun t => ((t.1 : Int), t.2)) =
       [((32 - fx) * (32 - fy), u, v), (fx * (32 - fy), u + 1, v), ((32 - fx) * fy, u, v + 1), (fx * fy, u + 1, v + 1)]) ∧
   (∀ (s : State) (e : Engine) (n : Nat) (u v : Int),
     let c (k : Nat) := (e.getCsr (0x20 + 8 * n + k)).toNat
     let W : Int := c 3 % 65536
     let H : Int := c 3 / 65536
     let cu := max 0 (min (W - 1) u)
     let cv := max 0 (min (H - 1) v)
     let step (b : Nat) : Int := if (c 4).testBit b then 2 else 1
     let ph (b : Nat) : Int := if (c 4).testBit b then 1 else 0
     let e_ : Int := if (c 4).testBit 0 then 2 else 1
     let address (u v : Int) : Int :=
       (c 0 : Int) + 2 ^ 32 * (c 1 : Int) + (v * step 3 + ph 5) * ((c 2 % 2 ^ 24 : Nat) : Int) + (u * step 2 + ph 4) * e_
     (0 ≤ u → u < W → 0 ≤ v → v < H → s.smpPlace e n u v = .inr (address u v)) ∧
     (¬(0 ≤ u ∧ u < W ∧ 0 ≤ v ∧ v < H) → (c 4).testBit 6 = true → s.smpPlace e n u v = .inl (c 5 % 65536)) ∧
     (¬(0 ≤ u ∧ u < W ∧ 0 ≤ v ∧ v < H) → (c 4).testBit 6 = false → 0 < W → 0 < H →
       s.smpPlace e n u v = .inr (address cu cv))))


/-- R195, R216, R217, R204: SLEN finishes with the current item of its port, makes the next one current, gives its length to D and
restarts the watchdog count; with no whole item present it waits (what a CLOSE_ORDER merge held back is shown first). STREAM_WAIT_END
completes a waiting SLEN once an item is visible on a flue whose producer does not merge in CLOSE_ORDER, and a waiting SBEG once a slot
is free. -/
def Obligations.SlenTakesTheNextItemAndWaitsEnd : Prop :=
  (∀ (g : Fin 132) (τ : Nat) (s : State) (w : Nat) (q : GPort), s.Runs g w → jOp w = 0x20 → jFn w = 0x00 →
    s.inPort g (jB w) = some q →
    let s1 := ((s.at τ).flueCatch (s.eng g).gen q.flue).finishCur g (jB w) q.flue
    (∀ x, s1.nextItem g (jB w) q.flue = some x → Answers (exec (.slen g τ) s) fun t =>
      (t.eng g).getX (jD w) = (if jD w = 0 then 0 else BitVec.ofNat 32 x.len) ∧
      (∀ r, r ≠ jD w → (t.eng g).getX r = (s.eng g).getX r) ∧
      AMap.get (0, 1) (t.eng g).inCur (jB w) = (x.seq, 0) ∧ (t.eng g).wdCount τ = 0 ∧
      t.engPc g = (loopNext (s.engPc g) 4 (s.eng g).loops).1 % 2 ^ 32 ∧ t.mems = s1.mems) ∧
    (s1.nextItem g (jB w) q.flue = none → Answers (exec (.slen g τ) s) fun t =>
      (t.eng g).wait = some (.item (jB w)) ∧ t.engPc g = s.engPc g ∧ (t.eng g).x = (s.eng g).x ∧ t.mems = s1.mems)) ∧
  (∀ (g : Fin 132) (τ : Nat) (s : State) (w : Nat) (q : GPort),
    let s0 := s.setEng g ((s.eng g).wake τ)
    s0.Runs g w → jOp w = 0x20 →
    (∀ x, (s.eng g).wait = some (.item (jB w)) → jFn w = 0x00 → s.inPort g (jB w) = some q →
      s.closeOrder (s.eng g).gen q.flue = false → ((s0.at τ).finishCur g (jB w) q.flue).nextItem g (jB w) q.flue = some x →
      Answers (exec (.streamWaitEnd g τ) s) fun t =>
        (t.eng g).wait = none ∧ (t.eng g).getX (jD w) = (if jD w = 0 then 0 else BitVec.ofNat 32 x.len) ∧
        AMap.get (0, 1) (t.eng g).inCur (jB w) = (x.seq, 0) ∧ t.mems = ((s0.at τ).finishCur g (jB w) q.flue).mems) ∧
    ((s.eng g).wait = some (.credit (jB w)) → jFn w = 0x02 → s.outPort g (jB w) = some q →
      let n := ((s.eng g).getX (jA w)).toNat
      let seq := (s.flue (s.eng g).gen q.flue).claimed
      1 ≤ n → n ≤ 65536 → (∀ o ∈ (s.eng g).outCur, o.1 ≠ jB w) → n + 8 ≤ (s.flueDef (s.eng g).gen q.flue).bytes →
      s.flueCredit (s.eng g).gen q.flue = true → Answers (exec (.streamWaitEnd g τ) s) fun t =>
        (t.eng g).wait = none ∧ AMap.get (seq + 1) (t.eng g).outCur (jB w) = seq))

/-- R195: SRDW and VSRD give the next 4 or 64 bytes of the current item, with 0 beyond its end, and step on by the bytes there
were; SAVAIL counts the whole items behind the current one, after what
a CLOSE_ORDER merge held back is shown. -/
def Obligations.StreamReadsStepThroughTheItem : Prop :=
  ∀ (g : Fin 132) (τ : Nat) (s : State) (w seq pos : Nat) (q : GPort), s.Runs g w → s.inPort g (jB w) = some q →
    AMap.get none ((s.eng g).inCur.map fun x => (x.1, some x.2)) (jB w) = some (seq, pos) →
    let e := s.eng g
    let d := s.flueDef e.gen q.flue
    let len := ((s.flue e.gen q.flue).item seq).len
    let next (n : Nat) := s.memBytes d.mem (d.slot seq + 8 + pos) (min n (len - pos)) ++ List.replicate (n - (len - pos)) 0
    let moved (n : Nat) : Engine := { e with inCur := AMap.set e.inCur (jB w) (seq, pos + min n (len - pos)) }
    (jOp w = 0x20 → jFn w = 0x01 → Answers (exec (.srdw g τ) s) fun t =>
      RegisterResult s t τ g w ((moved 4).setX (jD w) (BitVec.ofNat 32 (leNat (next 4))))) ∧
    (jOp w = 0x38 → Answers (exec (.vsrd g τ) s) fun t =>
      RegisterResult s t τ g w ((moved 64).setV (jD w) (bytesVec (next 64)))) ∧
    (jOp w = 0x20 → jFn w = 0x05 → Answers (exec (.savail g τ) s) fun t =>
      let s1 := (s.at τ).flueCatch e.gen q.flue
      RegisterResult s1 t τ g w (e.setX (jD w) (BitVec.ofNat 32
        (((s1.flue e.gen q.flue).waiting (s.inSlot g (jB w) q.flue) e.rank).filter fun x => x.seq != seq).length)))

/-- R196, R216, R204: SBEG with a length from 1 to 65,536 that fits a slot, no item open and a credit opens an item whose slot starts
with its length, and without a credit it waits; SWRW and VSWR append 4 and 64 bytes to the open item and store nothing else; SEND closes
it and restarts the watchdog count. -/
def Obligations.StreamWritesOpenAppendToAndCloseAnItem : Prop :=
  (∀ (g : Fin 132) (τ : Nat) (s : State) (w : Nat) (q : GPort), s.Runs g w → jOp w = 0x20 → jFn w = 0x02 →
    s.outPort g (jB w) = some q →
    let e := s.eng g
    let n := (e.getX (jA w)).toNat
    let d := s.flueDef e.gen q.flue
    let seq := (s.flue e.gen q.flue).claimed
    1 ≤ n → n ≤ 65536 → (∀ o ∈ e.outCur, o.1 ≠ jB w) → n + 8 ≤ d.bytes →
    (s.flueCredit e.gen q.flue = true → Answers (exec (.sbeg g τ) s) fun t =>
      AMap.get (seq + 1) (t.eng g).outCur (jB w) = seq ∧ (t.flue e.gen q.flue).claimed = seq + 1 ∧
      t.memBytes d.mem (d.slot seq) 8 = leBytes 8 n ∧ KeepsBytes d.mem (d.slot seq) 8 s t ∧ (t.eng g).x = e.x ∧
      t.engPc g = (loopNext (s.engPc g) 4 e.loops).1 % 2 ^ 32) ∧
    (s.flueCredit e.gen q.flue = false → Answers (exec (.sbeg g τ) s) fun t =>
      (t.eng g).wait = some (.credit (jB w)) ∧ t.engPc g = s.engPc g ∧ t.mems = s.mems)) ∧
  (∀ (g : Fin 132) (τ : Nat) (s : State) (w seq : Nat) (q : GPort), s.Runs g w → s.outPort g (jB w) = some q →
    AMap.get none ((s.eng g).outCur.map fun x => (x.1, some x.2)) (jB w) = some seq →
    let e := s.eng g
    let f := s.flue e.gen q.flue
    let x := f.item seq
    let d := s.flueDef e.gen q.flue
    let at_ := d.slot seq + 8 + x.wr
    (jOp w = 0x20 → jFn w = 0x03 → x.wr + 4 ≤ x.len → Answers (exec (.swrw g τ) s) fun t =>
      t.memBytes d.mem at_ 4 = leBytes 4 (e.getX (jA w)).toNat ∧ KeepsBytes d.mem at_ 4 s t ∧
      (t.flue e.gen q.flue) = f.setItem { x with wr := x.wr + 4 } ∧
      Retired s t τ g (loopNext (s.engPc g) 4 e.loops).1 (loopNext (s.engPc g) 4 e.loops).2.1 e) ∧
    (jOp w = 0x39 → x.wr + 64 ≤ x.len → Answers (exec (.vswr g τ) s) fun t =>
      t.memBytes d.mem at_ 64 = vecBytes (e.getV (jD w)) ∧ KeepsBytes d.mem at_ 64 s t ∧
      (t.flue e.gen q.flue) = f.setItem { x with wr := x.wr + 64 } ∧
      Retired s t τ g (loopNext (s.engPc g) 4 e.loops).1 (loopNext (s.engPc g) 4 e.loops).2.1 e) ∧
    (jOp w = 0x20 → jFn w = 0x04 → Answers (exec (.send g τ) s) fun t =>
      (∀ o ∈ (t.eng g).outCur, o.1 ≠ jB w) ∧ (t.eng g).wdCount τ = 0 ∧ (t.eng g).x = e.x ∧
      (∀ y ∈ (t.flue e.gen q.flue).items, y.seq = seq → y.closed = true) ∧
      t.engPc g = (loopNext (s.engPc g) 4 e.loops).1 % 2 ^ 32))

/-- R197: DMAGO on an idle channel starts the transfer of the descriptor at X[A]; DMAWT on an idle channel completes, and on a busy one
waits; a transfer of one row between places of the engine's memories takes effect when it is done, byte by byte from its source, and leaves
its channel idle. -/
def Obligations.TransfersStartAreAwaitedAndMoveTheirBytes : Prop :=
  (∀ (g : Fin 132) (τ : Nat) (s : State) (w : Nat), s.Runs g w → jOp w = 0x1F →
    let e := s.eng g
    let a := (e.getX (jA w)).toNat
    (jFn w = 0 → e.dma = [] → e.dmaErr = none → a + 32 ≤ 0x8000 →
      (dmaOf (s.memBytes (.dmem g) a 32)).mode % 4 ≠ 3 → Answers (exec (.dmago g τ) s) fun t =>
        RegisterResult s t τ g w { e with dma := AMap.set e.dma (jB w) [dmaOf (s.memBytes (.dmem g) a 32)] }) ∧
    (jFn w = 1 → AMap.get [] e.dma (jB w) = [] → Answers (exec (.dmawt g τ) s) fun t => RegisterResult s t τ g w e) ∧
    (jFn w = 1 → AMap.get [] e.dma (jB w) ≠ [] → Answers (exec (.dmawt g τ) s) fun t =>
      (t.eng g).wait = some (.dma (jB w)) ∧ t.engPc g = s.engPc g ∧ (t.eng g).x = e.x ∧ t.mems = s.mems)) ∧
  (∀ (g : Fin 132) (ch : Fin 4) (τ : Nat) (s : State) (d : Dma) (md : MemId) (y : Nat), s.clean →
    AMap.get [] (s.eng g).dma ch = [d] → (s.eng g).wait = none → d.mode % 4 = 0 → d.rows = 1 → 1 ≤ d.row →
    (d.src + d.row ≤ d.dst ∨ d.dst + d.row ≤ d.src) →
    (∀ i, i < d.row → (s.engMem g (d.src + i) 1).isSome) →
    (∀ i, i < d.row → s.engMem g (d.dst + i) 1 = some (md, y + i)) →
    Answers (exec (.dmaTransferDone g ch τ) s) fun t =>
      AMap.get [] (t.eng g).dma ch = [] ∧ (t.eng g).x = (s.eng g).x ∧ KeepsBytes md y d.row s t ∧
      ∀ i, i < d.row → ∀ m x, s.engMem g (d.src + i) 1 = some (m, x) → t.memBytes md (y + i) 1 = s.memBytes m x 1)

/-- R34, R38, R41, R42, R50, R87, R106, R122, R126, R140, R203, R204, R233, R262, R283, R318, R346, R362, R365, R386, R395, R410, R415, R421, R431,
R433 to R435, R440: the watchdog stops a running engine whose count has reached its limit, with the imprecise cause WATCHDOG. Injections arm or
act as their registers say while they are not locked, and have no effect once DIA_LOCK has locked them (the injection of a dip stands
with the power states, those of swaths with the commands; what HALL_SKIP and INDEX leave open is a free value, log 2). -/
def Obligations.WatchdogActsAndInjectionsAct : Prop :=
  ∀ (g : Fin 132) (τ : Nat) (s : State),
    (s.rd (ENG.STAT_STATE g) = 1 → (s.eng g).wdLim ≠ 0 → (s.eng g).wdLim * 1000 ≤ (s.eng g).wdCount τ → s.now ≤ τ →
      Answers (exec (.watchdog g τ) s) fun t => t.rd (ENG.STAT_STATE g) = 3 ∧ t.rd (ENG.EXC_CAUSE g) = 9 ∧
        t.rd (ENG.EXC_IMPRECISE g) = 1 ∧ t.rd (ENG.EXC_PC_PC g) = s.engPc g % 2 ^ 32 ∧ (t.eng g).x = (s.eng g).x) ∧
    Answers (exec .diaLock s) (fun t => t.injLocked = true ∧ t.rd THM.INJ_OFS_OFS = 0 ∧ OnlyRegs [DIA.LOCK_INJ, THM.INJ_OFS_OFS] s t) ∧
    (s.injLocked = true → ∀ (n : Fin 24) (p n8 : Fin 8) (w : Fin 26) (k : Fin 16) (q : Fin 64) (e : Fin 2) (r : BitVec 6) (a : BitVec 64),
      ∀ i ∈ [Instr.engInjIllegal g, .engInjWdog g, .engInjDmemEcc g, .engInjImemEcc g, .lnkInjPocOpen n, .lnkInjPocShort n, .lnkInjSync n,
        .lnkInjPcrc n, .lnkInjHcrc n, .ingInjFlkBad n, .ingInjMaperr n, .ingInjLinedrop n, .chkInjFlip k, .memInj1bit r, .memInj2bit r,
        .memInj3bit r, .memInjPage r, .memInjCrc r, .dlvInjDesc q, .dlvInjLate q, .dlvInjRefuse q, .dlvInjStall, .recInjJsplit, .recInjReadUe,
        .recInjProgfail, .timInjGmchg, .timInjSyncto τ, .ethInjPdelay e, .cmdInjLapse, .cmdInjSplit, .cmdInjAccess a τ, .twbInjScltmo w,
        .twbInjStuck w, .twbInjNack w, .thmInjDiode, .thmInjCase, .thmInjFallback τ, .diaInjEpDoubleStep p τ, .diaInjEpEdgeFast p τ,
        .diaInjEpHallInvalid p τ, .diaInjEpHallSkip p τ, .diaInjEpOpen p τ, .diaInjEpTrip p τ, .diaInjEpSerial p τ, .diaInjEpIndex p τ,
        .diaInjAxSlip n8 τ, .diaInjTroSkip n8, .diaInjTroClip n8, .diaInjLnkFrameEnd n, .diaInjLnkBcAck n, .diaInjLnkEcho n,
        .diaInjLnkCdr n τ, .diaInjSysVindip τ, .diaInjSysStrapTw τ, .diaInjSysStrapMod τ, .diaInjSysSvcHang, .diaInjSysLockstep τ,
        .diaInjStFail g], exec i s = .next s) ∧
    (s.injLocked = false →
      (s.rd (ENG.STAT_STATE g) = 1 → Answers (exec (.engInjWdog g) s) fun t =>
        t.rd (ENG.STAT_STATE g) = 3 ∧ t.rd (ENG.EXC_CAUSE g) = 9 ∧ (t.eng g).x = (s.eng g).x) ∧
      exec (.engInjIllegal g) s = .next (s.setEng g { s.eng g with injIll := true }) ∧
      exec (.engInjDmemEcc g) s = .next (s.setEng g { s.eng g with injDmem := true }) ∧
      exec (.engInjImemEcc g) s = .next (s.setEng g { s.eng g with injImem := true }) ∧
      (∀ n : Fin 24,
        (s.poc n = 2 → Answers (exec (.lnkInjPocOpen n) s) fun t =>
          t.rd (LNK.POC_STAT_OPEN n) = 1 ∧ t.rd (LNK.POC_STAT_OPEN_STKY n) = 1 ∧
          OnlyRegs [LNK.POC_STAT_OPEN n, LNK.POC_STAT_OPEN_STKY n] s { t with events := s.events }) ∧
        (s.poc n = 1 ∨ s.poc n = 2 → Answers (exec (.lnkInjPocShort n) s) fun t => t.poc n = 3 ∧ t.rd (LNK.POC_STAT_SHORT n) = 1) ∧
        exec (.lnkInjSync n) s = .next (s.setLink n { s.link n with injSync := true }) ∧
        exec (.lnkInjPcrc n) s = .next (s.setLink n { s.link n with injPcrc := true }) ∧
        exec (.lnkInjHcrc n) s = .next (s.setLink n { s.link n with injHcrc := true }) ∧
        exec (.diaInjLnkFrameEnd n) s = .next (s.setLink n { s.link n with injEnd := true }) ∧
        exec (.diaInjLnkBcAck n) s = .next (s.setLink n { s.link n with injAck := true }) ∧
        exec (.diaInjLnkEcho n) s = .next (s.setLink n { s.link n with injEcho := true }) ∧
        (s.is (LNK.STAT_CDR_LOCK n) = true → Answers (exec (.diaInjLnkCdr n τ) s) fun t =>
          t.rd (LNK.STAT_CDR_LOCK n) = 0 ∧ t.rd (LNK.STAT_STATE n) = (if (s.link n).sig then 1 else 0)) ∧
        exec (.ingInjFlkBad n) s = .next (s.setCtx n { s.ctx n with injFlk := true }) ∧
        exec (.ingInjMaperr n) s = .next (s.setCtx n { s.ctx n with injMap := true }) ∧
        exec (.ingInjLinedrop n) s = .next (s.setCtx n { s.ctx n with injDrop := true })) ∧
      (∀ k : Fin 16, exec (.chkInjFlip k) s = .next (s.setChk k { s.chkUnit k with flip := true })) ∧
      (∀ r : BitVec 6,
        let armed (k : Nat) : State := s.setMemu { s.memu with arm := AMap.set s.memu.arm r.toNat k }
        (r.toNat ≤ 51 → exec (.memInj1bit r) s = .next (armed 1) ∧ exec (.memInj2bit r) s = .next (armed 2) ∧
          exec (.memInj3bit r) s = .next (armed 3)) ∧
        (51 < r.toNat → exec (.memInj1bit r) s = .next s ∧ exec (.memInj2bit r) s = .next s ∧ exec (.memInj3bit r) s = .next s) ∧
        exec (.memInjPage r) s = .next (if 4 ≤ r.toNat ∧ r.toNat ≤ 39 then armed 4 else s) ∧
        exec (.memInjCrc r) s = .next (if r.toNat ≤ 3 then s.setMemu { s.memu with crc := AMap.set s.memu.crc r.toNat 4 } else s)) ∧
      (∀ q : Fin 64,
        exec (.dlvInjDesc q) s = .next (s.setDq q { s.dq q with injDesc := true }) ∧
        exec (.dlvInjLate q) s = .next (s.setDq q { s.dq q with injLate := true }) ∧
        exec (.dlvInjRefuse q) s = .next (s.setDq q { s.dq q with injRef := true })) ∧
      exec .dlvInjStall s = .next { s with dlv := { s.dlv with injStall := true } } ∧
      exec .recInjJsplit s = .next (s.setRcd { s.rcd with injSplit := true }) ∧
      exec .recInjReadUe s = .next (s.setRcd { s.rcd with injUe := true }) ∧
      exec .recInjProgfail s = .next (s.setRcd { s.rcd with injFail := true }) ∧
      exec .timInjGmchg s = .next (s.setTime { s.time with injGm := true }) ∧
      (∀ n : Fin 2, exec (.ethInjPdelay n) s = .next (s.setEth n { s.eth n with injPd := true }) ∧
        (s.rd TIM.STAT_PORT = n → Answers (exec (.timInjSyncto τ) s) fun t =>
          (t.eth n).lost = true ∧ t.rd (ETH.CNT1_SYNC_TMO n) = min (s.rd (ETH.CNT1_SYNC_TMO n) + 1) 65535)) ∧
      exec .cmdInjLapse s = .next { s with cmd := { s.cmd with injLapse := 2 } } ∧
      exec .cmdInjSplit s = .next (s.setFirm { s.firm with injSplit := true }) ∧
      (∀ a : BitVec 64, s.svcRunning = true → Answers (exec (.cmdInjAccess a τ) s) fun t =>
        t.diag = { s.diag with secLog := s.diag.secLog ++ [((s.at τ).dev, 0x0109, a.toNat)] } ∧
        OnlyRegs [] s { t with diag := s.diag, events := s.events }) ∧
      (∀ p : Fin 26,
        exec (.twbInjScltmo p) s = .next (s.setTwp p { s.twp p with injScl := true }) ∧
        exec (.twbInjStuck p) s = .next (s.setTwp p { s.twp p with injStuck := true }) ∧
        exec (.twbInjNack p) s = .next (s.setTwp p { s.twp p with injNack := true })) ∧
      exec .thmInjDiode s = .next (s.setThm { s.thm with injDiode := true }) ∧
      exec .thmInjCase s = .next (s.setThm { s.thm with injCase := true }) ∧
      Answers (exec (.thmInjFallback τ) s) (fun t => t.is THM.STAT_FALLBACK = true) ∧
      (∀ p : Fin 8,
        (s.portMode p = 1 → Answers (exec (.diaInjEpDoubleStep p τ) s) fun t =>
          t.rd (EP.FCNT0_DOUBLE_STEP p) = min (s.rd (EP.FCNT0_DOUBLE_STEP p) + 1) 65535) ∧
        (s.portMode p = 1 ∨ s.portMode p = 2 ∨ s.portMode p = 3 → Answers (exec (.diaInjEpEdgeFast p τ) s) fun t =>
          t.rd (EP.FCNT0_EDGE_FAST p) = min (s.rd (EP.FCNT0_EDGE_FAST p) + 1) 65535) ∧
        (s.portMode p = 2 → Answers (exec (.diaInjEpHallInvalid p τ) s) fun t =>
          t.rd (EP.FCNT1_HALL_INVALID p) = min (s.rd (EP.FCNT1_HALL_INVALID p) + 1) 65535) ∧
        (s.portMode p = 2 → Answers (exec (.diaInjEpHallSkip p τ) s) fun t =>
          t.rd (EP.FCNT1_HALL_SKIP p) = min (s.rd (EP.FCNT1_HALL_SKIP p) + 1) 65535) ∧
        (s.portMode p = 4 ∨ s.portMode p = 5 → Answers (exec (.diaInjEpSerial p τ) s) fun t =>
          t.rd (EP.FCNT2_SERIAL_ERR p) = min (s.rd (EP.FCNT2_SERIAL_ERR p) + 1) 65535) ∧
        (s.portMode p = 1 → s.cfg (EP.CPR p) ≠ 0 → s.cfg (EP.CFG_ZMODE p) = 1 ∨ s.cfg (EP.CFG_ZMODE p) = 2 →
          Answers (exec (.diaInjEpIndex p τ) s) fun t =>
            t.rd (EP.FCNT2_INDEX_MISMATCH p) = min (s.rd (EP.FCNT2_INDEX_MISMATCH p) + 1) 65535) ∧
        (s.openable p 0 = true → Answers (exec (.diaInjEpOpen p τ) s) fun t => (t.rd (EP.STAT_OPEN p)).testBit 0 = true) ∧
        (s.encPower p = true → Answers (exec (.diaInjEpTrip p τ) s) fun t => t.rd (EP.PWR_TRIP p) = 1) ∧
        (∀ c, (s.axis p).slip = some c → Answers (exec (.diaInjAxSlip p τ) s) fun t =>
          t.axis p = { s.axis p with slipInj := true, slipAt := if c then (s.axis p).slipAt else τ }) ∧
        exec (.diaInjTroSkip p) s = .next (s.setStrobe p { s.strobe p with injSkip := true }) ∧
        exec (.diaInjTroClip p) s = .next (s.setStrobe p { s.strobe p with injClip := true })) ∧
      Answers (exec (.diaInjSysStrapTw τ) s) (fun t => t.rd TWBG.STP_STAT_STRAP_BAD = 1 ∧
        OnlyRegs [TWBG.STP_STAT_STRAP_BAD] s { t with events := s.events }) ∧
      Answers (exec (.diaInjSysStrapMod τ) s) (fun t => t.rd SYS.MODID_STRAP_BAD = 1 ∧
        OnlyRegs [SYS.MODID_STRAP_BAD] s { t with events := s.events }) ∧
      (s.svcRunning = true → exec .diaInjSysSvcHang s = .next (s.setDiag { s.diag with hang := true })) ∧
      (s.rd CMD.STAT_WARDEN ≠ 3 → Answers (exec (.diaInjSysLockstep τ) s) fun t =>
        (t.rd CMD.STAT_WARDEN = 2 ∨ t.rd CMD.STAT_WARDEN = 3) ∧ t.is THM.STAT_NAND_OK = false ∧ t.diag.mism = some (max s.now τ)) ∧
      Answers (exec (.diaInjStFail g) s) (fun t => t.diag.stFail.contains g.val = true ∧
        { t with diag := { t.diag with stFail := s.diag.stFail } } = s))

/-- R178, R210, R214, R223: an engine of the new graph alone starts at the commit, a drained engine of a replaced graph changes over, and
one that has not drained DRAIN ms after the commit follows (here one without open items or input flues): the kernel of its node in the next
graph that places it runs from its entry with its registers set (library kernels have no entry; log 15); a drained engine that no later
graph places halts. Service firmware restarts a faulted rank that has not been left out, at the start of a frame on SI0. The walk through
several replaced graphs is the model's reading (log 76). -/
def Obligations.KernelsStartWithTheirRegistersSet : Prop :=
  ∀ (n : Fin 128) (τ : Nat) (s : State),
    let g := s.runner n
    let e := s.eng g
    let gen := s.nextGen n
    let place := (s.graphOf gen).place n
    let d (k : Nat) := s.nodeDef gen k
    let by_ := s.graphOf (e.gen + 1)
    let q := (s.nodeDef e.gen e.node).si.getD 0 {}
    let started (t : State) (k r : Nat) : Prop :=
      t.rd (ENG.STAT_STATE g) = 1 ∧ t.rd (ENG.PC g) = (if (d k).kind = 0 then (d k).entry % 2 ^ 32 else 0) ∧
      (t.eng g).getX 2 = BitVec.ofNat 32 (d k).stack ∧ (t.eng g).getX 3 = BitVec.ofNat 32 (d k).parDmem ∧
      (t.eng g).getX 30 = BitVec.ofNat 32 r ∧ (∀ i, i ≠ 2 → i ≠ 3 → i ≠ 30 → (t.eng g).getX i = 0) ∧
      (∀ i, (t.eng g).getV i = zeroVec) ∧ (t.eng g).bound = true ∧ (t.eng g).gen = gen ∧ (t.eng g).node = k ∧ (t.eng g).rank = r
    (s.graph.due.contains n.val = true →
    (∀ k r, s.engOld n = false → place = some (k, r) → Answers (exec (.kernelStart n τ) s) fun t => started t k r) ∧
    (∀ k r, s.engOld n = true → s.engDrained g = true → place = some (k, r) →
      Answers (exec (.engineChangeover n τ) s) fun t => started t k r) ∧
    (s.engOld n = true → s.engDrained g = true → place = none →
      Answers (exec (.engineChangeover n τ) s) fun t => t.rd (ENG.STAT_STATE g) = 2 ∧ (t.eng g).bound = false) ∧
    (∀ k r, s.engOld n = true → by_.since + 1000000 * max 1 by_.drain ≤ τ → s.engDrained g = false → e.stopAt = false →
      e.outCur = [] → s.inFlues g = [] → place = some (k, r) →
      Answers (exec (.graphDrainLate n τ) s) fun t => started t k r)) ∧
    (s.svcRunning = true → s.rd (ENG.STAT_STATE g) = 3 → e.bound = true → s.graph.stopped.contains e.gen = false →
      (q.used = true → AMap.get 0 (s.flue e.gen q.flue).deal ((s.flueDef e.gen q.flue).consumer (2 * 4096 + 4 * e.node)) = 0) →
      (s.gnode e.gen e.node).gone.contains e.rank = false →
      Answers (exec (.nodeRestart n τ) s) fun t =>
        t.rd (ENG.STAT_STATE g) = 1 ∧ t.rd (ENG.EXC_CAUSE g) = 0 ∧ (t.eng g).node = e.node ∧ (t.eng g).rank = e.rank ∧
        (t.gnode e.gen e.node).faulted.contains e.rank = false)

/-- R32, R33, R34, R36: on a port in QUAD mode that no axis uses, an edge not too fast that moves the sensed levels of A and B one place in
the positive sequence counts +1, one place back counts -1, and takes the edge's stamp (the counts negate with DIRINV); one in which A and B
change together counts nothing, adds 2 to the uncertainty and counts DOUBLE_STEP. A signal inside its undefined window is sensed at its
last valid level, and INV inverts what is sensed. -/
def Obligations.QuadratureEdgesCountOrReport : Prop :=
  ∀ (n : Fin 8) (lv mid : BitVec 3) (τ : Nat) (s : State), s.portMode n = 1 → NoAxis s n → StillAxes s →
    (s.port n).prevObs.elim true (fun q => decide (q < τ)) = true → s.edgeFast n τ = false →
    let inv := s.cfg (EP.CFG_INV n)
    let level (g : Nat) : Bool := ((if mid.getLsbD g then (s.port n).held.testBit g else lv.getLsbD g) != inv.testBit g)
    let sensed := b2n (level 0) + 2 * b2n (level 1) + 4 * b2n (level 2)
    s.rd (EP.STAT_LEVELS n) / 4 = sensed / 4 →
    let old := s.rd (EP.STAT_LEVELS n) % 4
    let new := sensed % 4
    let count := s.rd (EP.COUNT n)
    let turn : Int := if s.on (EP.CFG_DIRINV n) then -1 else 1
    ((old, new) ∈ [(0, 1), (1, 3), (3, 2), (2, 0)] → Answers (exec (.encoderEdge n lv mid τ) s) fun t =>
      (t.rd (EP.COUNT n) : Int) = ((count : Int) + turn) % 2 ^ 32 ∧ t.rd (EP.EDGE_TIME_TIME n) = s.stamp τ ∧
      t.rd (EP.STAT_LEVELS n) = sensed ∧ t.rd (EP.UNC n) = s.rd (EP.UNC n) ∧ OnlyPorts s t) ∧
    ((old, new) ∈ [(1, 0), (3, 1), (2, 3), (0, 2)] → Answers (exec (.encoderEdge n lv mid τ) s) fun t =>
      (t.rd (EP.COUNT n) : Int) = ((count : Int) - turn) % 2 ^ 32 ∧ t.rd (EP.EDGE_TIME_TIME n) = s.stamp τ ∧
      t.rd (EP.STAT_LEVELS n) = sensed ∧ t.rd (EP.UNC n) = s.rd (EP.UNC n) ∧ OnlyPorts s t) ∧
    ((old, new) ∈ [(0, 3), (3, 0), (1, 2), (2, 1)] → s.rd (EP.UNC n) + 2 < 2 ^ (EP.UNC n).w →
      s.rd (EP.FCNT0_DOUBLE_STEP n) + 1 < 2 ^ (EP.FCNT0_DOUBLE_STEP n).w →
      Answers (exec (.encoderEdge n lv mid τ) s) fun t =>
        t.rd (EP.COUNT n) = s.rd (EP.COUNT n) ∧ t.rd (EP.UNC n) = s.rd (EP.UNC n) + 2 ∧
        t.rd (EP.FCNT0_DOUBLE_STEP n) = s.rd (EP.FCNT0_DOUBLE_STEP n) + 1 ∧ OnlyPorts s t)

/-- R38, R40 to R42: on a port that no axis uses, an index pulse with ZMODE 1 and CPR 0 latches the count; a signal found open sets its live
and sticky bits and faults the port; its return, with no other cause of a fault, clears the fault; an overcurrent trip latches the supply off
and faults the port; clearing TRIP, with no other cause, ends the fault. -/
def Obligations.PortInputsLatchFaultAndRecover : Prop :=
  ∀ (n : Fin 8) (sig : Fin 3) (τ : Nat) (s : State), NoAxis s n →
    (s.portMode n = 1 → s.rd (EP.STAT_LEVELS n) / 4 = 0 → s.cfg (EP.CFG_ZMODE n) = 1 → s.cfg (EP.CPR n) = 0 →
      Answers (exec (.indexPulse n τ) s) fun t =>
        t.rd (EP.ZLATCH n) = s.rd (EP.COUNT n) % 2 ^ 32 ∧ t.rd (EP.COUNT n) = s.rd (EP.COUNT n) ∧ OnlyPorts s t) ∧
    (s.openable n sig = true → (s.rd (EP.STAT_OPEN n)).testBit sig = false → Answers (exec (.openWire n sig τ) s) fun t =>
      (t.rd (EP.STAT_OPEN n)).testBit sig = true ∧ (t.rd (EP.STAT_OPEN_STKY n)).testBit sig = true ∧
      t.rd (EP.STAT_FAULTED n) = 1 ∧ OnlyPorts s t) ∧
    (s.rd (EP.STAT_OPEN n) = 2 ^ sig.val → s.rd (EP.PWR_TRIP n) = 0 → (s.port n).serErr < 3 →
      Answers (exec (.openClear n sig τ) s) fun t =>
        t.rd (EP.STAT_OPEN n) = 0 ∧ t.rd (EP.STAT_FAULTED n) ≠ 1 ∧ OnlyPorts s t) ∧
    (s.encPower n = true → Answers (exec (.pwrOvercurrent n τ) s) fun t =>
      t.rd (EP.PWR_TRIP n) = 1 ∧ t.encPower n = false ∧ t.rd (EP.STAT_FAULTED n) = 1 ∧
      OnlyPorts s t) ∧
    (s.rd (EP.STAT_OPEN n) = 0 → (s.port n).serErr < 3 → (s.at τ).justSet (EP.PWR_TRIP n) = 0 →
      Answers (exec (.encPwrTripClear n τ) s) fun t =>
      t.rd (EP.PWR_TRIP n) = 0 ∧ t.rd (EP.STAT_FAULTED n) ≠ 1 ∧ OnlyPorts s t)

/-- R43, R44, R46, R57: on a serial port with no reading in progress a reading starts at once after enable (the model's choice, log 72),
and later PERIOD after the start of the last one, or 1 µs after its end where that came later than the period; earlier nothing starts.
On a port that no axis uses and that is not faulted, a good SSI reading in binary with no status bits, ended a monoflop time after its last
clock, gives its position, and the count moves by the signed difference from the previous good one (negated with DIRINV), or not at all
where there is none. -/
def Obligations.SerialReadingsGivePositions : Prop :=
  ∀ (n : Fin 8) (raw : BitVec 40) (errs : BitVec 2) (crc : BitVec 6) (τ start : Nat) (s : State), NoAxis s n →
    let b := max 8 (min 40 (s.cfg (EP.SER_BITS n)))
    let v := raw.toNat % 2 ^ b
    let period := 1000 * max 2 (min 10000 (s.cfg (EP.SER2_PERIOD n)))
    let half := 10 * (max (s.cfg (EP.SER_CLKDIV n)) 4 + 1)
    let monoflop := 1000 * max 1 (s.cfg (EP.SER2_TIMEOUT n))
    ((s.portMode n = 4 ∨ s.portMode n = 5) → (s.port n).reading = none →
      ((s.port n).readAt = none ∨ ∃ a, (s.port n).readAt = some a ∧ a + period ≤ τ ∧
        ((s.port n).readEnd ≤ a + period ∨ (s.port n).readEnd + 1000 ≤ τ)) →
      Answers (exec (.serialReadingStart n τ) s) fun t =>
        (t.port n).reading = some τ ∧ (t.port n).readAt = some τ ∧ (∀ k, k ≠ n.val → t.port k = s.port k) ∧
        { t with now := s.now, ports := s.ports } = s) ∧
    (∀ a, (s.port n).readAt = some a → τ < a + period → exec (.serialReadingStart n τ) s = .next s) ∧
    (s.portMode n = 4 → (s.port n).reading = some start → s.cfg (EP.SER_ERRBITS n) = 0 → s.cfg (EP.SER_GRAY n) = 0 →
      start + 2 * half * b + monoflop ≤ τ → s.rd (EP.STAT_OPEN n) = 0 → s.rd (EP.PWR_TRIP n) = 0 → s.rd (EP.STAT_FAULTED n) = 0 →
      Answers (exec (.serialReading n true raw errs crc τ) s) fun t =>
        t.rd (EP.SERDATA_DATA n) = v % 2 ^ (EP.SERDATA_DATA n).w ∧ (t.port n).serPrev = some v ∧ (t.port n).serErr = 0 ∧
        (t.port n).reading = none ∧ OnlyPorts s t ∧
        ((s.port n).serPrev = none → t.rd (EP.COUNT n) = s.rd (EP.COUNT n)) ∧
        (∀ q, (s.port n).serPrev = some q → q < 2 ^ b → s.rd (EP.COUNT n) < 2 ^ 32 →
          let d := sint b (v + 2 ^ b - q)
          (t.rd (EP.COUNT n) : Int) =
            ((s.rd (EP.COUNT n) : Int) + (if s.on (EP.CFG_DIRINV n) then -d else d)) % 2 ^ 32))

/-- R54, R56, R50: without a counted step for SSTO a port that no axis uses is in STANDSTILL with speed 0; past the time its speed gives for
a count its speed decays to one count over the time elapsed; the slip bit sets with a mismatch that has lasted TIME ms and clears with one
absent for TIME ms. -/
def Obligations.MotionTimersActOnPortsAndAxes : Prop :=
  ∀ (n : Fin 8) (τ : Nat) (s : State),
    (NoAxis s n → (s.port n).stepAt + s.ssto n ≤ τ → s.rd (EP.STAT_MOTION n) ≠ 0 → s.portFaulted n = false →
      Answers (exec (.standstillTimeout n τ) s) fun t =>
        t.rd (EP.STAT_MOTION n) = 0 ∧ t.rd (EP.SPEED n) = 0 ∧ t.rd (EP.COUNT n) = s.rd (EP.COUNT n) ∧ OnlyPorts s t) ∧
    (NoAxis s n → s.rd (EP.STAT_MOTION n) = 3 → 256000000 < (τ - (s.port n).stepAt) * (s.portSpeed n).natAbs →
      Answers (exec (.speedDecay n τ) s) fun t =>
        (0 < s.portSpeed n → t.rd (EP.SPEED n) = fit32 (roundDiv 256000000 (τ - (s.port n).stepAt))) ∧
        (s.portSpeed n < 0 → t.rd (EP.SPEED n) = fit32 (-roundDiv 256000000 (τ - (s.port n).stepAt))) ∧
        OnlyRegs [EP.SPEED n] s t) ∧
    ((s.axis n).slip = some true → (s.axis n).slipAt + s.slipTime n ≤ τ → s.is (AX.STAT_SLIP n) = false →
      Answers (exec (.slip n τ) s) fun t => t.rd (AX.STAT_SLIP n) = 1 ∧ KeepsRegs [AX.STAT_SLIP n] s t) ∧
    ((s.axis n).slip = some false → (s.axis n).slipInj = false → (s.axis n).slipAt + s.slipTime n ≤ τ → s.is (AX.STAT_SLIP n) = true →
      Answers (exec (.slipClear n τ) s) fun t => t.rd (AX.STAT_SLIP n) = 0 ∧ OnlyRegs [AX.STAT_SLIP n] s t)

/-- R62: a snapshot copies position, speed, status, uncertainty and time of every selected axis, all of one instant, as `sampled` brings the
axes up to that instant, and leaves the other snapshot registers and all else. -/
def Obligations.SnapshotsCopyTheSelectedAxes : Prop :=
  ∀ (axes : BitVec 8) (τ : Nat) (s : State), Answers (exec (.axsSnap axes τ) s) fun t =>
    let u := s.sampled τ
    (∀ n, n < 8 → axes.getLsbD n = true →
      t.rd (AX.SNAP_POS_LO_POS n) + 2 ^ 32 * t.rd (AX.SNAP_POS_HI_POS n) = (u.posAt n τ).toNat ∧
      t.rd (AX.SNAP_SPEED_SPEED n) = u.rd (AX.SPEED n) % 2 ^ 32 ∧ t.rd (AX.SNAP_UNC_UNC n) = u.rd (AX.UNC n) % 2 ^ (AX.SNAP_UNC_UNC n).w ∧
      t.rd (AX.SNAP_STAT_STAT n) = u.axisStat n % 2 ^ (AX.SNAP_STAT_STAT n).w ∧ t.rd (AX.SNAP_TIME_TIME n) = u.stamp τ) ∧
    (∀ n, n < 8 → axes.getLsbD n = false → ∀ f ∈ [AX.SNAP_POS_LO_POS n, AX.SNAP_POS_HI_POS n, AX.SNAP_SPEED_SPEED n, AX.SNAP_UNC_UNC n,
      AX.SNAP_STAT_STAT n, AX.SNAP_TIME_TIME n], t.rd f = u.rd f) ∧
    (∀ n, n < 8 → t.rd (AX.SPEED n) = u.rd (AX.SPEED n) ∧ t.rd (AX.UNC n) = u.rd (AX.UNC n)) ∧
    { t with regs := u.regs } = u

/-- R60, R63, R140, R283, R318, R346, R365, R415, R431, R478: the clear commands clear what they name and nothing else. -/
def Obligations.ClearCommandsClearWhatTheyName : Prop :=
  ∀ (s : State),
    let clears (c : Instr) (fs : List Fld) : Prop := Answers (exec c s) fun t => (∀ f ∈ fs, t.rd f = 0) ∧ OnlyRegs fs s t
    (∀ n : Fin 8,
      clears (.epClrUnc n) [EP.UNC n] ∧
      clears (.epClrCnt n) [EP.FCNT0_EDGE_FAST n, EP.FCNT0_DOUBLE_STEP n, EP.FCNT1_HALL_SKIP n, EP.FCNT1_HALL_INVALID n,
        EP.FCNT2_INDEX_MISMATCH n, EP.FCNT2_SERIAL_ERR n] ∧
      Answers (exec (.axClrUnc n) s) fun t => t.rd (AX.UNC n) = 0 ∧ KeepsRegs [AX.UNC n] s t ∧
        t.axis n = { s.axis n with uncHit := false } ∧ (∀ k, k ≠ n.val → t.axis k = s.axis k) ∧
        { t with regs := s.regs, axes := s.axes } = s) ∧
    (∀ n : Fin 24, clears (.lnkClrCnt n) [LNK.CNT0_SYNC_MISS n, LNK.CNT0_CELL_LOST n, LNK.CNT1_PAY_CRC n, LNK.CNT1_HDR_CRC n,
      LNK.CNT2_BC_RETRY n, LNK.CNT2_BC_FAIL n, LNK.CNT3_UNKNOWN_TYPE n, LNK.CNT3_SYMBOL_SLIP n]) ∧
    (∀ p : Fin 12, clears (.ingClrCnt p) (([2 * p.val, 2 * p.val + 1] : List Nat).flatMap fun c =>
      [CTX.CNT0_TRUNC c, CTX.CNT0_OVERLONG c, CTX.CNT1_LOST_LINES c, CTX.CNT1_DAMAGED c, CTX.CNT2_ORPHAN c, CTX.CNT2_LINE_WIDTH c,
        CTX.CNT3_LINEBUF_OVF c, CTX.CNT3_FLUE_FULL c, CTX.CNT4_MAP_ORDER c, CTX.CNT4_GEOM_DECL c, CTX.CNT4_FNUM_MISMATCH c])) ∧
    clears .memClrCnt ((List.range 60).flatMap fun r => [MEMR.CE r, MEMR.UE r]) ∧
    clears .recClrCnt (REC.CNT_PROG_FAIL :: REC.CNT_JOURNAL :: (List.range 16).flatMap fun n => [IN.REC n, IN.DROP n]) ∧
    (∀ n : Fin 2, clears (.ethClrCnt n) [ETH.CNT0_RX_PTP n, ETH.CNT0_RX_DISCARD n, ETH.CNT1_SYNC_TMO n, ETH.CNT1_PDELAY_LOST n]) ∧
    (∀ q : Fin 64, clears (.dlvClrCnt q) [DQ.NADM q, DQ.NREF q, DQ.NLATE q, DQ.BYTES_LO_BYTES q, DQ.BYTES_HI_BYTES q, DQ.WORST q]) ∧
    clears .dlvStallClr [DLV.STALL_MAX] ∧
    (∀ p : Fin 26, clears (.twbClrCnt p) [TWB.CNT0_NACK p, TWB.CNT0_XFER p, TWB.CNT1_TIMEOUT p, TWB.CNT1_ARB_LOST p, TWB.CNT2_CLEAR p,
      TWB.CNT2_PEC_ERR p]) ∧
    clears .thmClrShut [THM.STAT_SHUT_CAUSE, THM.DEFER_US] ∧
    Answers (exec .thmClrPeak s) (fun t => t.rd THM.TJ_PEAK = s.rd THM.TJ % 2 ^ 16 ∧ OnlyRegs [THM.TJ_PEAK] s t) ∧
    Answers (exec .sysClrMin s) (fun t => t.rd SYS.VIN_MIN = s.rd SYS.VIN_NOW % 2 ^ 16 ∧ OnlyRegs [SYS.VIN_MIN] s t) ∧
    clears .sysClrDown [SYS.PWR_STAT_LAST_DOWN, SYS.PWR_STAT_WAKE_SRC] ∧
    clears .sysClrCnt [SYS.DIP_HOLDS, SYS.DIP_COUNT]

/-- R47, R51, R54: counts move an axis by gain times counts in 48.16 format, an odd half unit being carried so that no fraction is
lost, and a wrap sets WRAPPED and raises AXIS_WRAP; two steps of one sense from standstill give MOVING, a step of the other sense gives REVERSED. -/
def Obligations.AxisPositionsMoveExactly : Prop :=
  (∀ (s : State) (n τ : Nat) (h : Int), n < 8 →
    let t := s.movePos n τ h
    (t.axis n).pos = (s.axis n).pos + BitVec.ofInt 64 (((s.axis n).rem + h).tdiv 2) ∧
    2 * ((s.axis n).rem + h).tdiv 2 + (t.axis n).rem = (s.axis n).rem + h ∧ (t.axis n).rem.natAbs ≤ 1 ∧
    (t.axis n).baseAt = τ ∧ (∀ k, k ≠ n → t.axis k = s.axis k) ∧ KeepsRegs [AX.STAT_WRAPPED n] s t ∧
    ((t.axis n).pos.toInt = (s.axis n).pos.toInt + ((s.axis n).rem + h).tdiv 2 → t.regs = s.regs ∧ t.events = s.events) ∧
    ((t.axis n).pos.toInt ≠ (s.axis n).pos.toInt + ((s.axis n).rem + h).tdiv 2 → t.rd (AX.STAT_WRAPPED n) = 1 ∧
      (s.evOn 0x040C n = true → ∃ o ∈ t.events.pend, o.code = 0x040C ∧ o.idx = n ∧ o.last = []))) ∧
  (∀ same : Bool, nextMotion 0 same = 1 ∧ nextMotion 4 same = 1 ∧ nextMotion 5 same = 1) ∧
  (∀ m ∈ [1, 2, 3], nextMotion m true = 3 ∧ nextMotion m false = 2) ∧
  (∀ (s : State) (n τ : Nat), s.comb n ≠ 5 → s.comb n ≠ 6 →
    (s.is (AX.STAT_DIR n) = false → 0 ≤ s.travel n τ ∧ s.travel n τ ≤ 65535) ∧
    (s.is (AX.STAT_DIR n) = true → -65535 ≤ s.travel n τ ∧ s.travel n τ ≤ 0))

/-- R69, R95, R378: the ledger window writes the staged copy of its entry and no other, reads it back, and reads the active entry
with its current target, COUNT and state; while an epoch is armed a write is discarded and reported. -/
def Obligations.LedgerWindowMovesEntries : Prop :=
  ∀ s : State,
    let i := s.rd TRG.WIN_IDX_INDEX
    (s.sealed = false → Answers (exec .ledgerWinWrite s) fun t =>
      t.stagedEnt i = s.winEnt ∧ (∀ j, j ≠ i → t.stagedEnt j = s.stagedEnt j) ∧ t.ledger.active = s.ledger.active ∧
      { t with ledger := s.ledger } = s) ∧
    (s.sealed = true → s.winEnt ≠ s.stagedEnt i → Answers (exec .ledgerWinWrite s) fun t =>
      t.rd CMD.STAT_SEALED_WR = 1 ∧ t.ledger = s.ledger ∧ KeepsRegs [CMD.STAT_SEALED_WR] s t) ∧
    (let e := s.stagedEnt i
     let fs := (List.range 8).map TRG.WIN_D_D
     Answers (exec .ledgerWinReadStaged s) fun t =>
        fs.map t.rd = [e.d0, e.d1, e.d2, e.d3, e.d4, e.d5, e.d6, e.d7].map (· % 2 ^ 32) ∧ OnlyRegs fs s t) ∧
    (let a := s.ent i
     let fs := (List.range 8).map TRG.WIN_D_D
     Answers (exec .ledgerWinReadActive s) fun t =>
        fs.map t.rd = [a.target.toNat, a.target.toNat / 2 ^ 32, a.w.d2, a.w.d3, a.w.d4, a.w.d5,
          a.w.d6 / 2 ^ 16 * 2 ^ 16 + a.count, a.w.d7].map (· % 2 ^ 32) ∧
        t.rd TRG.WIN_STATE_STATE = a.st.code ∧ (t.rd TRG.WIN_STATE_DIFF = 1 ↔ s.stagedEnt i ≠ a.w) ∧
        OnlyRegs (TRG.WIN_STATE_STATE :: TRG.WIN_STATE_DIFF :: fs) s t) ∧
    (Answers (exec .trgClrCnt s) fun t => t.rd TRG.NFIRE = 0 ∧ t.rd TRG.NMISS = 0 ∧ t.rd TRG.NCOLL = 0 ∧
      OnlyRegs [TRG.NFIRE, TRG.NMISS, TRG.NCOLL] s t)

/-- R75, R85, R121: a predicted issue 1 µs from due, to a strobe or to a camera whose link can send, that does not collide freezes with its
issue time, and no other entry changes; earlier nothing happens. -/
def Obligations.IssuesFreezeOneMicrosecondBefore : Prop :=
  ∀ (e : Fin 4096) (ch : Fin 32) (τ : Nat) (x : Int) (s : State), AMap.get .waiting (s.ent e).chan ch = .predicted x →
    s.on TRG.CFG_EN = true →
    (x - 1000 ≤ τ → (ch.val < 24 → s.linkReady ch = true) → s.collides e ch x = false →
      Answers (exec (.issueFreeze e ch τ) s) fun t =>
        (t.ent e).st = .frozen ∧ AMap.get .waiting (t.ent e).chan ch = .frozen x ∧ (t.ent e).target = (s.ent e).target ∧
        (∃ f ∈ t.ledger.frozen, f.entry = e.val ∧ f.chan = ch.val ∧ f.at_ = x) ∧ t.ledger.staged = s.ledger.staged ∧
        (∀ j, j ≠ e.val → t.ent j = s.ent j)) ∧
    (¬ x - 1000 ≤ τ → exec (.issueFreeze e ch τ) s = .next s)

/-- R83, R118, R120: while its back channel runs, the due TRIGGER of a camera leaves in its slot with the camera's next sequence number and
FINE value, and counts in NFIRE; the EXPOSURE_END that is due first leaves when its slot has come. -/
def Obligations.TriggersLeaveWithTheirSequenceNumber : Prop :=
  ∀ (c : Fin 24) (τ : Nat) (s : State), s.is (LNK.STAT_BC_UP c) = true →
    (∀ f : Frozen, s.due c τ = some f → s.rd TRG.NFIRE + 1 < 2 ^ TRG.NFIRE.w → Answers (exec (.triggerIssue c τ) s) fun t =>
      (t.cam c).seq = ((s.cam c).seq + 1) % 256 ∧ (t.cam c).lastIss = some f.at_ ∧
      (t.link c).tx = [0x13C, (s.cam c).seq, f.fine, crc8 [(s.cam c).seq, f.fine]] ∧ (t.link c).txAt = f.slot ∧
      t.rd TRG.NFIRE = s.rd TRG.NFIRE + 1) ∧
    (∀ e : EndSym, (s.link c).nextEnd = some e → e.slot ≤ 3 * (τ : Int) →
      Answers (exec (.exposureEndIssue c τ) s) fun t =>
        t.link c = { s.link c with ends := (s.link c).ends.erase e, tx := [0x13C, e.seq, 128 + e.fine, crc8 [e.seq, 128 + e.fine]], txAt := e.slot } ∧
        (∀ k, k ≠ c.val → t.link k = s.link k) ∧ { t with now := s.now, links := s.links } = s)

/-- R87: a due pulse of an enabled strobe, no gap forbidding it, joins the output's pulses for its width; when every pulse's width has
elapsed the output turns off; an output that has been on for MAXW is cut where a pulse would hold it on longer, and CLIP counts each such
pulse. -/
def Obligations.StrobesPulseEndAndClip : Prop :=
  ∀ (n : Fin 8) (τ : Nat) (s : State),
    let x := s.strobe n
    (∀ f : Frozen, s.due (24 + n) τ = some f → s.on (TRO.CFG_EN n) = true → s.strobeGap n τ = false →
      Answers (exec (.strobeIssue n τ) s) fun t =>
        (t.strobe n).pulses = x.pulses ++ [τ + max 10 f.width] ∧ (t.strobe n).onAt = some (x.onAt.getD τ)) ∧
    (x.pulses ≠ [] → (∀ e ∈ x.pulses, e ≤ τ) → Answers (exec (.strobePulseEnd n τ) s) fun t =>
      t.strobe n = { x with pulses := [], onAt := none, offAt := some τ } ∧ (∀ k, k ≠ n.val → t.strobe k = s.strobe k) ∧
      { t with now := s.now, strobes := s.strobes } = s) ∧
    (∀ o, x.onAt = some o → o + max (s.cfg (TRO.LIM_MAXW n)) 1 * 1000 ≤ τ →
      (∃ e ∈ x.pulses, o + max (s.cfg (TRO.LIM_MAXW n)) 1 * 1000 < e) → Answers (exec (.strobeClip n τ) s) fun t =>
      t.strobe n = { x with pulses := [], onAt := none, offAt := some τ } ∧ (∀ k, k ≠ n.val → t.strobe k = s.strobe k) ∧
      t.rd (TRO.CNT_CLIP n) = min (s.rd (TRO.CNT_CLIP n) +
        (x.pulses.filter fun e => decide (o + max (s.cfg (TRO.LIM_MAXW n)) 1 * 1000 < e)).length) (2 ^ (TRO.CNT_CLIP n).w - 1) ∧
      KeepsRegs [TRO.CNT_CLIP n] s t)

/-- R77, R88, R89, R92, R93, R167: a blanking window closes BLANK after it opened; a SETTINGS entry with no repeat, whose axis moves toward
its target and has reached it, makes its set pending for its cameras and is done; the lighting lock goes to HOLDOVER after 4 expected
periods without a report, and from there is lost after LOSS ms; at the end of its flicker window a context forms a report: a frequency
from 40 Hz to 2 kHz, and fewer than 64 rows, or an injection, make it invalid. -/
def Obligations.WindowsSettingsAndLightingFollowTheirTimers : Prop :=
  (∀ (τ : Nat) (s : State),
    (∀ (c : Fin 24) (o : Nat), (s.cam c).winOpen = some o → o + s.blank c ≤ τ →
      Answers (exec (.blankingWindowClose c τ) s) fun t =>
        t.cam c = { s.cam c with winOpen := none } ∧ (∀ k, k ≠ c.val → t.cam k = s.cam k) ∧
        { t with now := s.now, cams := s.cams, events := s.events } = s) ∧
    (∀ e : Fin 4096, StillAxes s →
      let a := s.ent e
      a.st ≠ .empty → a.st ≠ .done → a.w.action = 3 → a.w.channels = [] → s.on TRG.CFG_EN = true → s.movesToward a.w = true →
      0 ≤ s.approachSign a.w * (s.posAt a.w.axis τ - a.target).toInt → a.w.d5 = 0 →
      Answers (exec (.ledgerTargetReached e τ) s) fun t =>
        (t.ent e).st = .done ∧ (∀ c, c < 24 → a.w.cams.testBit c = true → (t.cam c).pendSet = some (a.w.set, max s.now τ)) ∧
        (∀ j, j ≠ e.val → t.ent j = s.ent j) ∧ t.regs = s.regs) ∧
    (s.rd TRG.LITE_STAT_STATE = 1 → s.lite.lastAt + 4 * s.lite.period ≤ τ → Answers (exec (.lightHoldover τ) s) fun t =>
      t.rd TRG.LITE_STAT_STATE = 2 ∧ t.lite = { s.lite with heldAt := max s.now τ } ∧ KeepsRegs [TRG.LITE_STAT_STATE] s t) ∧
    (s.rd TRG.LITE_STAT_STATE = 2 → s.lite.heldAt + 1000000 * max 1 (s.cfg TRG.LITE_CFG_LOSS) ≤ τ → s.comb 7 ≠ 6 →
      Answers (exec (.lightLost τ) s) fun t =>
        t.rd TRG.LITE_STAT_STATE = 0 ∧ t.rd TRG.LITE_STAT_LOST_STKY = 1 ∧
        KeepsRegs [TRG.LITE_STAT_STATE, TRG.LITE_STAT_LOST_STKY] s t)) ∧
  (∀ (ctx : Fin 24) (τ w : Nat) (s : State),
    let x := s.ctx ctx
    let e := w + 1000000 * min 1000 (max 100 (x.conf (CTX.STATCFG_FLK_WIN ctx)))
    x.winAt = some w → e ≤ τ → x.conf (CTX.STATCFG_FLK_EN ctx) ≠ 0 → bypassed x.conf ctx 3 = false → s.liteOn = false →
    Answers (exec (.flickerReport ctx τ) s) fun t =>
      40000 ≤ t.rd (CTX.FLK_FREQ_FREQ ctx) ∧ t.rd (CTX.FLK_FREQ_FREQ ctx) ≤ 2000000 ∧
      (x.rows.length < 64 → t.rd (CTX.STAT_FLK_VALID ctx) = 0) ∧ (x.injFlk = true → t.rd (CTX.STAT_FLK_VALID ctx) = 0) ∧
      t.ctx ctx = { x with rows := [], winAt := some e, injFlk := false } ∧ (∀ k, k ≠ ctx.val → t.ctx k = s.ctx k) ∧
      KeepsRegs [CTX.FLK_FREQ_FREQ ctx, CTX.FLK_BRIGHT_LO_TIME ctx, CTX.FLK_BRIGHT_HI_TIME ctx, CTX.FLK_DEPTH_DEPTH ctx,
        CTX.STAT_FLK_VALID ctx] s t)


/-- Step takes the command at the front of the queue and carries it out on the queue's rest; with an empty queue it idles (the idling
is the model's choice, log 1). -/
def Obligations.StepRunsTheFrontCommand : Prop :=
  ∀ s : State,
    (∀ (c : Instr) (cs : List Instr), s.pending = c :: cs → step s = exec c { s with pending := cs }) ∧
    (s.pending = [] → step s = .next s)

/-- In every state whose memories are in canonical form, a step leaves them in canonical form (the form is the model's own, log 3). -/
def Obligations.EveryStepKeepsMemoriesCanonical : Prop :=
  ∀ s t : State, s.canonical → step s = .next t → t.canonical

/-- After reset the memories are in canonical form, no command waits, and the register fields have their reset values. -/
def Obligations.ResetIsCanonical : Prop :=
  State.reset.canonical ∧ State.reset.pending = [] ∧ ∀ f : Fld, State.reset.rd f = f.reset ∧ State.reset.cfg f = f.reset

/-- R4, R7, R8, R10, R378: a write with fewer than four byte enables does nothing; one with four, to a register without effects of its own,
sets each field by its type, where a W1C bit that the device sets at the same instant stays set; the halves of a 64-bit RW quantity take
effect together when the low half is written; while an epoch is armed staged fields keep their values and an attempt to change one is
reported. An access to the axis registers finds the axes as they are now (`axisFresh`). -/
def Obligations.RegisterWritesFollowTheirFieldTypes : Prop :=
  ∀ (off : BitVec 26) (v : Word) (be : BitVec 4) (τ : Nat) (s : State),
    let o := off.toNat / 4 * 4
    let fs := fieldsAt o
    let u := (s.at τ).axisFresh o
    (be ≠ 15 → exec (.registerWrite off v be τ) s = .next s) ∧
    (be = 15 → s.barReach o = true → writeHook o = false →
      ((∀ f ∈ fs, f.half = .none) → s.sealed = false → Answers (exec (.registerWrite off v be τ) s) fun t =>
        (∀ f ∈ fs, f.ty = .rw → t.rd f = if u.ignores f then u.rd f else f.part v.toNat) ∧
        (∀ f ∈ fs, f.ty = .w1c → ∀ i, i < f.w →
          (t.rd f).testBit i = ((u.rd f).testBit i && (!v.toNat.testBit (f.lo + i) || (u.justSet f).testBit i))) ∧
        (∀ f ∈ fs, f.ty = .w1s → ∀ i, i < f.w → (t.rd f).testBit i = ((u.rd f).testBit i || v.toNat.testBit (f.lo + i))) ∧
        (∀ f ∈ fs, f.ty = .ro ∨ f.ty = .wo → t.rd f = u.rd f) ∧ OnlyRegs fs u t) ∧
      ((∀ f ∈ fs, f.half = .none) → s.sealed = true → u.wouldChange v.toNat fs = true →
        Answers (exec (.registerWrite off v be τ) s) fun t =>
          (∀ f ∈ fs, f.staged = true → t.rd f = u.rd f) ∧ t.rd CMD.STAT_SEALED_WR = 1 ∧ KeepsRegs (CMD.STAT_SEALED_WR :: fs) u t) ∧
      (∀ f : Fld, fs = [f] → f.half = .hi → f.ty = .rw → s.sealed = false → u.ignores f = false →
        Answers (exec (.registerWrite off v be τ) s) fun t =>
          AMap.get 0 t.hiHold o = v.toNat ∧ { t with hiHold := u.hiHold } = u) ∧
      (∀ f h : Fld, fs = [f] → f.half = .lo → f.ty = .rw → fieldsAt (o + 4) = [h] → h.ty = .rw →
        u.ignores f = false → u.ignores h = false → s.sealed = false → Answers (exec (.registerWrite off v be τ) s) fun t =>
          t.rd f = f.part v.toNat ∧ t.rd h = (s.hiHold.find? fun e => e.1 == o + 4).elim (u.rd h) (fun e => h.part e.2) ∧
          t.hiHold = s.hiHold.filter (fun e => e.1 != o + 4) ∧ KeepsRegs [f, h] u t ∧
          { t with regs := u.regs, hiHold := u.hiHold } = u))

/-- R4, R6, R9, R314: a read request that lies in one register answers the addressed bytes of the register's 32 bits, which `regValue` puts
together from its fields, and 0 where none is mapped; a 4-byte read of a low half latches the high half, whose next read takes the latch
once, and without a latch a high half answers its live value; one request for both halves answers one 64-bit value; a read of the event
peek FIFO pops a word. A request that does not reach the function changes nothing. -/
def Obligations.RegisterReadsLatchTheHighHalf : Prop :=
  ∀ (off : BitVec 26) (len τ : Nat) (s : State),
    let o := off.toNat / 4 * 4
    let k := off.toNat % 4
    let u := (s.at τ).axisFresh o
    let part (v : Nat) : Nat := v % 2 ^ 32 / 2 ^ (8 * k) % 2 ^ (8 * len)
    let peek := o = DLV.EVPK_DATA_DATA.off ∨ o = THM.TLPK_DATA_DATA.off
    (s.hostLive = false → exec (.loReadLatch ⟨off, len⟩ τ) s = .next s) ∧
    (s.hostLive = true → s.barReach o = true → 1 ≤ len → k + len ≤ 4 →
      (¬peek → isHalf .lo o = true → Answers (exec (.loReadLatch ⟨off, len⟩ τ) s) fun t =>
        t.busRead = part (u.regValue o) ∧ AMap.get 0 t.hiLatch (o + 4) = u.regValue (o + 4) ∧
        { t with busRead := u.busRead, hiLatch := u.hiLatch } = u) ∧
      (¬peek → isHalf .lo o = false → isHalf .hi o = true →
        (∀ x, u.hiLatch.find? (fun e => e.1 == o) = some (o, x) → Answers (exec (.loReadLatch ⟨off, len⟩ τ) s) fun t =>
          t.busRead = part x ∧ t.hiLatch = u.hiLatch.filter (fun e => e.1 != o) ∧
          { t with busRead := u.busRead, hiLatch := u.hiLatch } = u) ∧
        (u.hiLatch.find? (fun e => e.1 == o) = none → Answers (exec (.loReadLatch ⟨off, len⟩ τ) s) fun t =>
          t.busRead = part (u.regValue o) ∧ { t with busRead := u.busRead } = u)) ∧
      (¬peek → isHalf .lo o = false → isHalf .hi o = false → Answers (exec (.loReadLatch ⟨off, len⟩ τ) s) fun t =>
        t.busRead = part (u.regValue o) ∧ { t with busRead := u.busRead } = u) ∧
      (¬peek → fieldsAt o = [] → ¬(0x2C000 ≤ o ∧ o < 0x2D008) → Answers (exec (.loReadLatch ⟨off, len⟩ τ) s) fun t => t.busRead = 0) ∧
      (∀ w ws rest, o = DLV.EVPK_DATA_DATA.off → s.events.peek = (w :: ws) :: rest → Answers (exec (.loReadLatch ⟨off, len⟩ τ) s) fun t =>
        t.busRead = part w ∧ t.events.peek = (if ws = [] then rest else ws :: rest))) ∧
    (s.hostLive = true → s.barReach o = true → s.barReach (o + 4) = true → k = 0 → len = 8 → ¬(0x42000 ≤ o ∧ o < 0x42800) →
      isHalf .lo o = true → isHalf .lo (o + 4) = false → isHalf .hi (o + 4) = true → Answers (exec (.loReadLatch ⟨off, len⟩ τ) s) fun t =>
        t.busRead = (s.at τ).regValue o % 2 ^ 32 + 2 ^ 32 * ((s.at τ).regValue (o + 4) % 2 ^ 32))

/-- R291, R305, R314 to R317, R367, R368, R371, R374: while nothing holds it back, the oldest event record is written at TAIL with the
ring's PHASE, and lost where the ring has no room; a read of the peek FIFO gives its next word, or the last one again with UNDERRUN where it
is empty; an enable of the event ring restarts it at record 0; the message of a source is sent, or left pending while masked, once its
oldest completion is COALT old; a command doorbell that would fill the ring is discarded with RINGERR, another sets SQ_TAIL; a reply is 32
bytes at CQ_TAIL, or the SMBus reply; an SMBus command past its limit is answered TIMEOUT, or NAND_HELD for the two that write NAND. -/
def Obligations.RingsCarryEventsCommandsAndReplies : Prop :=
  ∀ (τ : Nat) (s : State),
    (∀ r rs, s.events.out = r :: rs → s.events.lost = 0 → s.hostUp = true → s.lowHeld 32 = false → s.rd DLV.EVR_CFG_EN = 1 → s.quiet 64 →
      let n := 2 ^ (min 10 (s.rd DLV.EVR_CFG_RSZ) + 6)
      let i := s.rd DLV.EVR_TAIL_TAIL % n
      let a := s.rd DLV.EVR_BASE_LO_BASE / 64 * 64 + 2 ^ 32 * s.rd DLV.EVR_BASE_HI_BASE + 32 * i
      ((s.rd DLV.EVR_TAIL_TAIL + 1) % n ≠ s.rd DLV.EVR_HEAD_HEAD % n → Answers (exec (.eventRecord τ) s) fun t =>
        t.events.out = rs ∧ t.rd DLV.EVR_TAIL_TAIL = (i + 1) % n ∧ t.hostLE a 2 = r.code % 2 ^ 16 ∧
        t.hostLE (a + 2) 2 = s.moduleId % 2 ^ 16 ∧ t.hostLE (a + 4) 2 = r.idx % 2 ^ 16 ∧ t.hostLE (a + 6) 2 = r.count % 2 ^ 16 ∧
        t.hostLE (a + 8) 8 = r.time % 2 ^ 64 ∧ t.hostBytes (a + 16) 12 = (evVals r.vals).map (· % 256) ∧
        t.hostLE (a + 31) 1 = s.events.phase % 2 ∧
        (∀ x, ¬(a ≤ x ∧ x < a + 32) → t.hostBytes x 1 = s.hostBytes x 1) ∧
        KeepsRegs [DLV.EVR_TAIL_TAIL] s t) ∧
      ((s.rd DLV.EVR_TAIL_TAIL + 1) % n = s.rd DLV.EVR_HEAD_HEAD % n → Answers (exec (.eventRecord τ) s) fun t =>
        t.events.out = rs ∧ t.events.lost = 1 ∧ t.mems = s.mems ∧ KeepsRegs [DLV.EVR_LOST_LOST] s t)) ∧
    (∀ w ws rest, s.events.peek = (w :: ws) :: rest → Answers (exec .eventPeekPop s) fun t =>
      t.busRead = w ∧ t.rd DLV.EVPK_DATA_DATA = w % 2 ^ 32 ∧ t.events.peek = (if ws = [] then rest else ws :: rest) ∧
      KeepsRegs [DLV.EVPK_DATA_DATA, DLV.EVPK_STAT_LEVEL] s t) ∧
    (s.events.peek = [] → Answers (exec .eventPeekPop s) fun t =>
      t.busRead = s.events.peekLast ∧ t.rd DLV.EVPK_STAT_UNDERRUN = 1 ∧ t.events = s.events ∧ KeepsRegs [DLV.EVPK_STAT_UNDERRUN] s t) ∧
    (s.rd DLV.EVR_CFG_EN = 0 → s.events.lost = 0 → Answers (exec .eventRingEnable s) fun t =>
      t.rd DLV.EVR_CFG_EN = 1 ∧ t.rd DLV.EVR_TAIL_TAIL = 0 ∧ t.events = { s.events with phase := 1 } ∧
      KeepsRegs [DLV.EVR_CFG_EN, DLV.EVR_TAIL_TAIL] s t) ∧
    (∀ (k : Fin 66) (o : Nat), (AMap.get {} s.coal k.val).at_ = some o → o + s.coalT k ≤ τ → s.coalN k ≠ 0 → s.hostUp = true →
      Answers (exec (.coalesceTimeout k τ) s) fun t => AMap.get {} t.coal k.val = {} ∧ t.regs = s.regs ∧ t.cmd = s.cmd ∧
        ((s.msixWord (4 * s.coalVec k + 3)).testBit 0 = true → t.msixPend = s.msixPend.lor (2 ^ s.coalVec k) ∧ t.mems = s.mems) ∧
        ((s.msixWord (4 * s.coalVec k + 3)).testBit 0 = false →
          t.hostLE (s.msixWord (4 * s.coalVec k) / 4 * 4 + 2 ^ 32 * s.msixWord (4 * s.coalVec k + 1)) 4 =
            s.msixWord (4 * s.coalVec k + 2) % 2 ^ 32)) ∧
    (∀ tail : BitVec 16, s.hostLive = true →
      let n := 2 ^ (min 6 (s.rd CMD.CFG_RSZ) + 6)
      let fills := tail.toNat % n = s.rd CMD.SQ_HEAD_HEAD % n ∧ tail.toNat % n ≠ s.rd CMD.SQ_TAIL_TAIL % n
      (s.rd CMD.CFG_EN = 1 → fills → Answers (exec (.cmdDoorbell tail τ) s) fun t =>
        t.rd CMD.STAT_RINGERR = 1 ∧ KeepsRegs [CMD.STAT_RINGERR] s t) ∧
      (¬(s.rd CMD.CFG_EN = 1 ∧ fills) → Answers (exec (.cmdDoorbell tail τ) s) fun t =>
        t.rd CMD.SQ_TAIL_TAIL = tail.toNat ∧ OnlyRegs [CMD.SQ_TAIL_TAIL] s t)) ∧
    (∀ (c : CmdPkt) (r : Reply), c.idx = 0xFFFF →
      let t := s.cmdReply c r
      t.cmd.smbReply = some (r.bytes c 0) ∧ t.rd CMD.STAT_SMB_BUSY = 0 ∧ KeepsRegs [CMD.STAT_SMB_BUSY] s t ∧ t.mems = s.mems) ∧
    (∀ (c : CmdPkt) (r : Reply), c.idx ≠ 0xFFFF → s.cmd.outbox = [] → s.hostUp = true → s.lowHeld 32 = false → s.quiet 65 →
      let n := 2 ^ (min 6 (s.rd CMD.CFG_RSZ) + 6)
      let i := s.rd CMD.CQ_TAIL_TAIL % n
      let a := s.rd CMD.CQ_BASE_LO_BASE / 64 * 64 + 2 ^ 32 * s.rd CMD.CQ_BASE_HI_BASE + 32 * i
      let t := s.cmdReply c r
      t.rd CMD.CQ_TAIL_TAIL = (i + 1) % n ∧ t.hostLE a 2 = c.op % 2 ^ 16 ∧ t.hostLE (a + 2) 2 = c.cid % 2 ^ 16 ∧
      t.hostLE (a + 4) 2 = r.status % 2 ^ 16 ∧ t.hostLE (a + 6) 2 = r.detail % 2 ^ 16 ∧
      (∀ k, k < 4 → t.hostLE (a + 8 + 4 * k) 4 = r.res.getD k 0 % 2 ^ 32) ∧ t.hostLE (a + 24) 2 = c.idx % 2 ^ 16 ∧
      t.hostLE (a + 31) 1 = s.cmd.phase % 2 ∧ (∀ x, ¬(a ≤ x ∧ x < a + 32) → t.hostBytes x 1 = s.hostBytes x 1) ∧
      KeepsRegs [CMD.CQ_TAIL_TAIL] s t) ∧
    (∀ c : CmdPkt, s.cmd.running = [c] → c.idx = 0xFFFF → c.start + c.limit ≤ τ → Answers (exec (.commandTimeout τ) s) fun t =>
      t.cmd.running = [] ∧ t.rd CMD.STAT_SMB_BUSY = 0 ∧
      t.cmd.smbReply = some ((Reply.err (if c.op = 0x0109 ∨ c.op = 0x0B01 then 0x0704 else 0x0901) 0).bytes c 0))

/-- R285, R289 to R293, R301, R305, R306, R309 to R311: a doorbell posts descriptors where they fit; a fetched descriptor becomes a credit
or completes DESC_ERR; an item read from the flue that fits extends the payload of its frame; a chunk goes to the host buffer (here with
no command completion held back); a whole item within its bound gets its tag and an OK completion, an item whose record is overdue an
INCOMPLETE one; a flush is requested, and ends with a FLUSHED completion of the queue's credit (here its only one, with no item); stall is
counted, and above BPA suspends an open stream; a lost host link suspends it too and drops the items in flight; a trained link shows its
mode and rate. Of completions, those that write no further message to the host (R317). -/
def Obligations.DeliveryMovesItemsToTheHost : Prop :=
  ∀ (q : Fin 64) (τ : Nat) (s : State),
    let x := s.dq q
    let size := 2 ^ (min 10 (s.cfg (DQ.CFG_RSZ q)) + 6)
    (∀ v : BitVec 16, s.cfg (DQ.CFG_EN q) = 1 →
      let add := (v.toNat + size - x.posted % size) % size
      (x.posted + add - x.done < size → Answers (exec (.queueDoorbell q v τ) s) fun t =>
        t.rd (DQ.TAIL q) = v.toNat ∧ t.dq q = { x with posted := x.posted + add } ∧ (∀ k, k ≠ q.val → t.dq k = s.dq k) ∧
        KeepsRegs [DQ.TAIL q] s t ∧ t.mems = s.mems) ∧
      (size ≤ x.posted + add - x.done → Answers (exec (.queueDoorbell q v τ) s) fun t =>
        { t with now := s.now, events := s.events } = s)) ∧
    (s.cfg (DQ.CFG_EN q) = 1 → s.hostUp = true → x.fetched < x.posted → x.injDesc = false →
      let d := base64 (s.cfg (DQ.DRING_LO_BASE q)) (s.cfg (DQ.DRING_HI_BASE q)) + 16 * (x.fetched % size)
      let addr := s.hostLE d 8
      let len := s.hostLE (d + 8) 4
      (addr % 64 = 0 → s.descMin q ≤ len → Answers (exec (.descriptorFetch q τ) s) fun t =>
        t.dq q = { x with fetched := x.fetched + 1, credits := x.credits ++ [(x.fetched, addr, len)] } ∧ t.mems = s.mems ∧
        (∀ k, k ≠ q.val → t.dq k = s.dq k) ∧ KeepsRegs (dqRegs q ++ wmRegs) s t) ∧
      (∀ a, (addr % 64 ≠ 0 ∨ len < s.descMin q) → x.fetched = x.done → s.CompletesAt q a →
        Answers (exec (.descriptorFetch q τ) s) fun t =>
          (t.dq q).done = x.done + 1 ∧ (t.dq q).fetched = x.fetched + 1 ∧ (t.dq q).credits = x.credits ∧ t.hostLE (a + 4) 2 = 3 ∧
          (∀ k, k ≠ q.val → t.dq k = s.dq k) ∧ KeepsRegs (dqRegs q ++ wmRegs) s t)) ∧
    (∀ (gen f j : Nat) (y : Item) (i : DItem) (h : q.val < 63),
      let s1 := s.endpointCatch (4 * 4096 + q.val) τ
      s1.endpointNext (4 * 4096 + q.val) = some (gen, f, j, y) → s1.dlvFill + y.len + 16 ≤ 524288 → s1.clean →
      let bytes := s1.memBytes (s1.flueDef gen f).mem ((s1.flueDef gen f).slot y.seq + 8) y.len
      let entry := leBytes 4 bytes.length ++ leBytes 4 i.count ++ bytes ++ List.replicate ((8 - bytes.length % 8) % 8) 0
      (s1.dq q).items.find? (fun i => decide (i.kind ≤ 1) && i.tag.num == leAt bytes 0 4 && i.rcd.isNone) = some i → i.cut = false →
      i.pay.length + entry.length ≤ i.maxb - 128 → Answers (exec (.deliveryItem ⟨q.val, h⟩ τ) s) fun t =>
        (∀ z ∈ (t.dq q).items, z.desc = i.desc →
          z = { i with pay := i.pay ++ entry, count := i.count + 1,
                       rcd := if leAt bytes 4 2 = 0xFFFF then some ((bytes.drop 8).take 64) else none }) ∧
        (∀ k, k ≠ q.val → t.dq k = s1.dq k) ∧ t.mems = s1.mems) ∧
    (∀ i : DItem, s.hostUp = true → s.dlvNext = some (q.val, i) → s.cmd.outbox = [] →
      let n := min 4096 (i.pay.length - i.sent)
      let a := i.buf + 128 + i.sent
      Answers (exec (.chunkWrite τ) s) fun t =>
        t.hostBytes a n = ((i.pay.drop i.sent).take n).map (· % 256) ∧
        (t.dq q).items = x.items.map (fun z => if z.desc = i.desc then { i with sent := i.sent + n } else z) ∧
        (∀ k, ¬(a ≤ k ∧ k < a + n) → t.hostBytes k 1 = s.hostBytes k 1) ∧ KeepsRegs wmRegs s t) ∧
    (∀ (i : DItem) (a : Nat), x.items.find? (fun i => i.desc == x.done) = some i → s.CompletesAt q a →
      (i.rcd.isSome = true → i.sent = i.pay.length → (q.val < 62 ∨ s.lowHeld 144 = false) → x.injLate = false → i.prom.elim true (fun p => decide ((s.at τ).dev ≤ p)) = true →
        (a + 16 ≤ i.buf ∨ i.buf + 128 ≤ a) → Answers (exec (.itemComplete q τ) s) fun t =>
          (t.dq q).done = x.done + 1 ∧ (t.dq q).items = x.items.filter (fun z => z.desc != i.desc) ∧
          t.hostLE a 4 = (128 + i.pay.length) % 2 ^ 32 ∧ t.hostLE (a + 4) 2 = 0 ∧ t.hostLE i.buf 2 = 1 ∧
          t.hostLE (i.buf + 8) 4 = i.tag.num % 2 ^ 32 ∧ t.hostLE (i.buf + 96) 4 = i.pay.length % 2 ^ 32 ∧
          t.rd (DQ.BYTES_LO_BYTES q) + 2 ^ 32 * t.rd (DQ.BYTES_HI_BYTES q) =
            (s.rd (DQ.BYTES_LO_BYTES q) + 2 ^ 32 * s.rd (DQ.BYTES_HI_BYTES q) + 128 + i.pay.length) % 2 ^ 64 ∧
          (∀ k, ¬(a ≤ k ∧ k < a + 16) → ¬(i.buf ≤ k ∧ k < i.buf + 128) → t.hostBytes k 1 = s.hostBytes k 1)) ∧
      (i.rcd = none → i.tag.admitted + 1000000 * max 1 (s.rd DLV.ADM2_ITMO) ≤ s.devAt τ →
        (s.is (DQ.STAT_FLUSHING q) = false ∨ i.sent ≠ 0) →
        Answers (exec (.itemTimeout q τ) s) fun t =>
          (t.dq q).done = x.done + 1 ∧ (t.dq q).items = x.items.filter (fun z => z.desc != i.desc) ∧ t.hostLE (a + 4) 2 = 2)) ∧
    (s.rcd.read = none → Answers (exec (.queueFlush q τ) s) fun t =>
      t.rd (DQ.STAT_FLUSHING q) = 1 ∧ OnlyRegs [DQ.STAT_FLUSHING q] s t) ∧
    (∀ (c : Nat × Nat × Nat) (a : Nat), s.is (DQ.STAT_FLUSHING q) = true → x.items = [] → x.credits = [c] → c.1 = x.done →
      x.closing = false → s.CompletesAt q a → Answers (exec (.flushDone q τ) s) fun t =>
        t.rd (DQ.STAT_FLUSHING q) = 0 ∧ (t.dq q).credits = [] ∧ (t.dq q).done = x.done + 1 ∧ t.hostLE (a + 4) 2 = 1 ∧
        (∀ k, k ≠ q.val → t.dq k = s.dq k) ∧ KeepsRegs (DQ.STAT_FLUSHING q :: (dqRegs q ++ wmRegs)) s t) ∧
    (∀ ns : BitVec 32, ns ≠ 0 → s.hostUp = true →
      let total := s.dlv.stall + ns.toNat
      (total ≤ s.rd DLV.ADM_BPA * 1000 → Answers (exec (.linkStall ns τ) s) fun t =>
        t.dlv.stall = total ∧ t.rd DLV.STALL_MAX = max (s.rd DLV.STALL_MAX) (min total (2 ^ 32 - 1)) % 2 ^ 32 ∧
        OnlyRegs [DLV.STALL_MAX] s { t with dlv := s.dlv }) ∧
      (s.dlv.stalled = false → s.rd DLV.ADM_BPA * 1000 < total → q.val < 62 →
        s.rd (DQ.STAT_STATE q) = 1 ∨ s.rd (DQ.STAT_STATE q) = 2 → Answers (exec (.linkStall ns τ) s) fun t =>
          t.rd (DQ.STAT_STATE q) = 3 ∧ t.dlv.stall = total)) ∧
    (∀ mode : Fin 5, mode.val ≠ s.rd DLV.LINK_MODE →
      (mode.val = 0 → Answers (exec (.hostLink mode τ) s) fun t =>
        t.rd DLV.LINK_MODE = 0 ∧ t.rd DLV.ADM_STAT_LINKDOWN = 1 ∧ (t.dq q).items = [] ∧ t.mems = s.mems ∧
        (q.val < 62 → s.rd (DQ.STAT_STATE q) = 1 ∨ s.rd (DQ.STAT_STATE q) = 2 → t.rd (DQ.STAT_STATE q) = 3)) ∧
      (mode.val ≠ 0 → s.rd DLV.LINK_MODE ≠ 0 → (mode.val = 4 → s.rd DLV.LINK_ASYM_EN ≠ 0) →
        Answers (exec (.hostLink mode τ) s) fun t =>
          t.rd DLV.LINK_MODE = mode.val ∧ t.rd DLV.LINK_LHOST = [0, 1500, 3000, 6000, 9000].getD mode.val 0 ∧ t.mems = s.mems))

/-- R23, R372, R377 to R379, R382, R383, R391, R392, R394, R470, R502, R503: what the commands of areas 0x01 to 0x04 reply and change:
identity, epochs, staged copies, resets and power, the store, the link summary, settings sets, ledger entries and GDDR7 copies; while
an epoch is armed a command that changes staged configuration replies STAGE_SEALED. -/
def Obligations.SystemCommandsReplyAndAct : Prop :=
  ∀ (p : Cmd) (τ : Nat) (s : State),
    let c (op : Nat) := cmdPkt p op τ
    let a (k : Nat) := (cmdPkt p 0 τ).arg k
    let a64 (k : Nat) := (cmdPkt p 0 τ).arg64 k
    let s0 := s.at τ
    let hears (op : Nat) (used : List Nat) := s.Takes (c op) used
    ((s.svcRunning || s.svcStopped) = true → (c 0x0101).badField [] = none →
      RepliesOnly (exec (.sysIdent p τ) s) s τ (c 0x0101) (.ok [s.rd SYS.ID,
        (256 * s.rd SYS.STEPPING_LETTER + s.rd SYS.STEPPING_DIGIT) * 65536 + s.rd SYS.MODID_ID, s.rd CMD.FWVER_SVC_VERSION,
        s.rd CMD.FWVER_WDN_VERSION])) ∧
    (∀ e, hears 0x0102 [0, 1, 2, 3, 4] → s.epoch.armed = none → s0.epochOf (c 0x0102) = some e →
      (s0.epochCheck = none → Replies (exec (.epochCommit p τ) s) (c 0x0102) (.ok [s.epoch.count + 1]) fun u =>
        u.rd CMD.STAT_ARMED = 1 ∧ u.rd CMD.EPOCH_ARM_ARM = (s.epoch.count + 1) % 2 ^ 32 ∧
        u.epoch = { s.epoch with armed := some { e with number := s.epoch.count + 1, past := s0.boundaryPast e }, count := s.epoch.count + 1 } ∧
        KeepsRegs [CMD.STAT_ARMED, CMD.EPOCH_ARM_ARM] s u) ∧
      (∀ b k i, s0.epochCheck = some (b, k, i) → b ≠ 2 → RepliesOnly (exec (.epochCommit p τ) s) s τ (c 0x0102)
        { status := 0x0501, detail := 256 * b + k, res := [i] }) ∧
      (∀ k q, s0.epochCheck = some (2, k, q) →
        Replies (exec (.epochCommit p τ) s) (c 0x0102) { status := 0x0501, detail := 512 + k, res := [q] } fun u =>
          { u with now := s.now, freeCount := s.freeCount, regs := s.regs } = s ∧ KeepsRegs [DQ.DMIN q] s u)) ∧
    (hears 0x0103 [] →
      (∀ e, s.epoch.armed = some e → Replies (exec (.epochCancel p τ) s) (c 0x0103) (.ok [e.number]) fun u =>
        u.epoch = { s.epoch with armed := none } ∧ u.rd CMD.STAT_ARMED = 0 ∧ u.rd CMD.EPOCH_ARM_ARM = 0 ∧
        KeepsRegs [CMD.STAT_ARMED, CMD.EPOCH_ARM_ARM] s u) ∧
      (s.epoch.armed = none → RepliesOnly (exec (.epochCancel p τ) s) s τ (c 0x0103)
        { status := 0x0304, detail := 0, res := [s.rd CMD.EPOCH_LAST_LAST] })) ∧
    (hears 0x0104 [] → RepliesOnly (exec (.epochStatus p τ) s) s τ (c 0x0104)
      (.ok [s.rd CMD.EPOCH_ARM_ARM, s.rd CMD.EPOCH_LAST_LAST, s.rd CMD.EPOCH_TIME_LO_TIME, s.rd CMD.EPOCH_TIME_HI_TIME])) ∧
    (hears 0x0105 [] → s.epoch.armed = none → Replies (exec (.stageDiscard p τ) s) (c 0x0105) (.ok []) fun u =>
      (∀ f : Fld, stagedFld f.key = some f → u.rd f = s.cfg f ∧ u.cfg f = s.cfg f) ∧ (∀ i, u.stagedEnt i = (s.ent i).w ∧ u.ent i = s.ent i) ∧
      u.setsStaged = s.sets ∧ u.graph = { s.graph with staged := none } ∧ (∀ w, (u.swath w).staged = none) ∧
      (∀ q, (u.dq q).next = none) ∧ u.mems = s.mems) ∧
    (let e := (c 0x0106).withW0 1
     (s.svcRunning || s.svcStopped) = true → e.badField [0] = none → Answers (exec (.sysResetWarm p τ) s) fun t =>
      t.pwr.st = .startup ∧ t.pwr.done = 3 ∧ t.rd SYS.BOOT_KIND = 1 ∧ t.rd SYS.BOOT_STAGE = 4 ∧ t.epoch.armed = none ∧
      t.mems.gddr = [] ∧ t.mems.sram = [] ∧ t.cmd = {} ∧ t.pending = s.pending ∧ t.timeOfs = s.timeOfs) ∧
    (let e := (c 0x0106).withW0 2
     (s.svcRunning || s.svcStopped) = true → e.badField [0] = none → Answers (exec (.sysResetFull p τ) s) fun t =>
      t.pwr.st = .startup ∧ t.pwr.done = 0 ∧ t.pwr.t0 = max s.now τ + 1000000 ∧ t.rd SYS.BOOT_KIND = 2 ∧ t.mems.gddr = [] ∧
      t.mems.sram = [] ∧ t.cmd = {} ∧ t.pending = s.pending ∧ t.timeOfs = s.timeOfs) ∧
    (let e := (c 0x0107).withW0 0
     s.Takes e [0] → RepliesOnly (exec (.sysPowerRun p τ) s) s τ e (.ok [])) ∧
    (let e := (c 0x0107).withW0 2
     s.Takes e [0] → (∀ q, q < 62 → s.rd (DQ.STAT_STATE q) ∉ [1, 2, 3]) → s.rcd.read = none →
      (s.epoch.armed = none → s.rd SYS.PWR_STAT_STATE ≠ 1 → Replies (exec (.sysPowerSmoulder p τ) s) e (.ok []) fun u =>
        u = s0.setPwr { s.pwr with ask := true }) ∧
      (s.epoch.armed ≠ none → RepliesOnly (exec (.sysPowerSmoulder p τ) s) s τ e (.err 0x0301 3))) ∧
    (hears 0x0108 [0, 1, 2, 3] →
      (∀ x, a 0 ∈ [1, 0x10, 0x11, 0x12, 0x100, 0x101, 0x102] → s.firm.copiesOf (a 0) = [some x, some x, some x] → s.firm.injSplit = false →
        Replies (exec (.storeRead p [] τ) s) (c 0x0108) (.ok [x.gen % 2 ^ 32, x.data.length, 0]) fun u =>
          u.hostBytes (a64 1) (min (a 3) x.data.length) = (x.data.take (a 3)).map (· % 256) ∧
          u.firm.copiesOf (a 0) = s.firm.copiesOf (a 0) ∧ u.regs = s.regs) ∧
      (a 0 ∉ [1, 0x10, 0x11, 0x12, 0x100, 0x101, 0x102] →
        RepliesOnly (exec (.storeRead p [] τ) s) s τ (c 0x0108) (.err 0x0201 0))) ∧
    (hears 0x0109 [0, 1, 2, 3] → (a 0 = 1 ∨ a 0 = 0x10) → a 3 ≤ 16777728 →
      (∀ x, s0.storeFree = true → s.firm.copiesOf (a 0) = [some x, some x, some x] →
        Replies (exec (.storeWrite p false τ) s) (c 0x0109) (.ok [(x.gen + 1) % 2 ^ 32]) fun u =>
          u.firm.copiesOf (a 0) = List.replicate 3 (some { gen := x.gen + 1, data := s.hostBytes (a64 1) (a 3) }) ∧
          (∀ r, r ≠ a 0 → u.firm.copiesOf r = s.firm.copiesOf r) ∧ { u with now := s.now, firm := s.firm } = s) ∧
      (s0.storeFree = false → KeepsRunning (exec (.storeWrite p false τ) s) s (c 0x0109)) ∧
      RepliesOnly (exec (.storeWrite p true τ) s) s τ (c 0x0109) (.err 0x0603 0)) ∧
    (∀ x, hears 0x010A [0] → a 0 ∈ [1, 0x10, 0x11, 0x12, 0x100, 0x101, 0x102] → s.firm.copiesOf (a 0) = [some x, some x, some x] →
      Replies (exec (.storeStatus p τ) s) (c 0x010A) (.ok [7, x.gen % 2 ^ 32, x.gen % 2 ^ 32, x.gen % 2 ^ 32]) fun u =>
        { u with now := s.now, freeCount := s.freeCount } = s) ∧
    (hears 0x0201 [] → RepliesOnly (exec (.linkSummary p τ) s) s τ (c 0x0201)
      (.ok [linkMask fun n => s.rd (LNK.STAT_STATE n) == 4, linkMask fun n => s.is (LNK.STAT_LLAT_VALID n), linkMask fun n => s.poc n == 2,
        linkMask fun n => s.is (LNK.STAT_LOST_STKY n) || s.is (LNK.POC_STAT_BLOCK_STKY n) || s.is (LNK.POC_STAT_OPEN_STKY n) ||
          s.is (LNK.POC_STAT_OVERCUR n) || s.is (LNK.POC_STAT_SHORT n)])) ∧
    (hears 0x0202 [0] →
      (a 0 < 24 → s.on (LNK.CFG_EN (a 0)) = true → (s.link (a 0)).out = none → (s.link (a 0)).bcq = [] →
        Replies (exec (.linkRestart p τ) s) (c 0x0202) (.ok []) fun u =>
          u.rd (LNK.STAT_BC_UP (a 0)) = 1 ∧ u.rd (LNK.STAT_PWR_ACT (a 0)) = 3 ∧ u.rd (LNK.STAT_RATE_ACT (a 0)) = 0 ∧
          u.rd (LNK.STAT_STATE (a 0)) = (if (s.link (a 0)).sig then 1 else 0) ∧ (u.link (a 0)).idOk = none ∧
          ∀ n, n ≠ a 0 → u.link n = s.link n) ∧
      (24 ≤ a 0 → RepliesOnly (exec (.linkRestart p τ) s) s τ (c 0x0202) (.err 0x0201 0))) ∧
    (hears 0x0301 [0, 1, 2] → s.epoch.armed = none →
      (a 0 ≤ 63 → Replies (exec (.settingsLoad p false τ) s) (c 0x0301) (.staged_ []) fun u =>
        AMap.get [] u.setsStaged (a 0) = s.hostBytes (a64 1) 128 ∧
        (∀ k, k ≠ a 0 → AMap.get [] u.setsStaged k = AMap.get [] s.setsStaged k) ∧ { u with now := s.now, setsStaged := s.setsStaged } = s) ∧
      (63 < a 0 → RepliesOnly (exec (.settingsLoad p false τ) s) s τ (c 0x0301) (.err 0x0201 0)) ∧
      (a 0 ≤ 63 → RepliesOnly (exec (.settingsLoad p true τ) s) s τ (c 0x0301) (.err 0x0603 0))) ∧
    (let first := a 0 % 2 ^ 12
     let n := a 0 / 2 ^ 16 % 2 ^ 13
     (hears 0x0302 [0, 1, 2] → s.epoch.armed = none → 1 ≤ n → first + n ≤ 4096 →
      Replies (exec (.ledgerBulk p false τ) s) (c 0x0302) (.staged_ []) fun u =>
        (∀ k, k < n → u.stagedEnt (first + k) = entOf (s.hostBytes (a64 1 + 32 * k) 32)) ∧
        (∀ i, ¬(first ≤ i ∧ i < first + n) → u.stagedEnt i = s.stagedEnt i) ∧ u.ledger.active = s.ledger.active ∧
        { u with now := s.now, ledger := s.ledger } = s) ∧
     (hears 0x0303 [0, 1, 2] → 1 ≤ n → first + n ≤ 4096 → Replies (exec (.ledgerRead p τ) s) (c 0x0303) (.ok []) fun u =>
        (∀ k, k < n → u.hostBytes (a64 1 + 32 * k) 32 = (s.ent (first + k)).current.bytes) ∧
        (∀ x, ¬(a64 1 ≤ x ∧ x < a64 1 + 32 * n) → u.hostBytes x 1 = s.hostBytes x 1) ∧
        { u with now := s.now, mems := { u.mems with host := s.mems.host } } = s)) ∧
    (let m := a64 0
     let len := a 4
     64 ≤ len → len ≤ 268435456 → len % 64 = 0 → m % 64 = 0 → m + len ≤ s.memTop → s.clean →
      (hears 0x0401 [0, 1, 2, 3, 4] → s0.gddrNamed m len = false → Replies (exec (.gddrWrite p none τ) s) (c 0x0401) (.ok []) fun u =>
        u.memBytes .gddr m len = s.hostBytes (a64 2) len ∧ KeepsBytes .gddr m len s u ∧ u.regs = s.regs) ∧
      (hears 0x0401 [0, 1, 2, 3, 4] → s0.gddrNamed m len = true →
        RepliesOnly (exec (.gddrWrite p none τ) s) s τ (c 0x0401) (.err 0x0203 0)) ∧
      (hears 0x0402 [0, 1, 2, 3, 4] → Replies (exec (.gddrRead p τ) s) (c 0x0402) (.ok []) fun u =>
        u.hostBytes (a64 2) len = s.memBytes .gddr m len ∧ u.mems = { s.mems with host := u.mems.host } ∧
        (∀ x, ¬(a64 2 ≤ x ∧ x < a64 2 + len) → u.hostBytes x 1 = s.hostBytes x 1) ∧ u.regs = s.regs)) ∧
    (∀ e, s.epoch.armed = some e →
      ∀ x ∈ [(Instr.epochCommit p τ, 0x0102, [0, 1, 2, 3, 4]), (.stageDiscard p τ, 0x0105, []), (.settingsLoad p false τ, 0x0301, [0, 1, 2]),
        (.ledgerBulk p false τ, 0x0302, [0, 1, 2]), (.graphLoad p τ, 0x0501, [0, 1]), (.swathLoad p τ, 0x0504, [0, 1]),
        (.streamOpen p τ, 0x0601, [0, 1, 2, 3]), (.streamClose p τ, 0x0602, [0]), (.streamResume p τ, 0x0603, [0]),
        (.streamModify p τ, 0x0604, [0, 1, 2, 3]), (.timeRearm p τ, 0x0801, []), (.fenceChannel p τ, 0x0A01, [0]),
        (.fenceCluster p τ, 0x0A02, [0])],
        hears x.2.1 x.2.2 → RepliesOnly (exec x.1 s) s τ (c x.2.1) (.err 0x0303 (e.number % 65536)))

/-- R212, R218, R234, R238, R253, R254, R296, R300, R337, R339 to R341, R355, R382, R385 to R390: what the commands of areas 0x05 to
0x08, 0x0A and 0x0B reply and change: graphs, flues, swaths, streams, marks, pins, readouts, time, fences, images, attestation and debug
scopes; a halted warden replies FAULT. -/
def Obligations.UnitCommandsReplyAndAct : Prop :=
  ∀ (p : Cmd) (τ : Nat) (s : State),
    let c (op : Nat) := cmdPkt p op τ
    let a (k : Nat) := (cmdPkt p 0 τ).arg k
    let a64 (k : Nat) := (cmdPkt p 0 τ).arg64 k
    let s0 := s.at τ
    let hears (op : Nat) (used : List Nat) := s.Takes (c op) used
    let warden (op : Nat) (used : List Nat) := s.rd CMD.STAT_WARDEN = 1 ∧ (c op).badField used = none
    (let m := a64 0
     let head := s.memBytes .gddr m 64
     m % 64 = 0 → m + 64 ≤ s.memTop → s.clean → s.epoch.armed = none →
      (let n := if leAt head 0 2 = 1 ∧ 64 ≤ leAt head 4 4 ∧ m + leAt head 4 4 ≤ s.memTop then leAt head 4 4 else 64
       let d := s.memBytes .gddr m n
       hears 0x0501 [0, 1] →
        (s0.graphChecks m d = none → Replies (exec (.graphLoad p τ) s) (c 0x0501) (.staged_ [(graphEntry m d).id]) fun u =>
          u.graph = { s.graph with staged := some (graphEntry m d) } ∧ { u with now := s.now, graph := s.graph } = s) ∧
        (∀ k, s0.graphChecks m d = some k → RepliesOnly (exec (.graphLoad p τ) s) s τ (c 0x0501) (.err 0x0601 k))) ∧
      (let n := if leAt head 0 2 = 1 ∧ 64 ≤ leAt head 56 4 ∧ m + leAt head 56 4 ≤ s.memTop then leAt head 56 4 else 64
       let d := s.memBytes .gddr m n
       let k := (swathEntry m d).swath
       hears 0x0504 [0, 1] →
        (s0.swathChecks m d = none → Replies (exec (.swathLoad p τ) s) (c 0x0504) (.staged_ []) fun u =>
          u.swath k = { s.swath k with staged := some (swathEntry m d) } ∧ (∀ j, j ≠ k → u.swath j = s.swath j) ∧
          { u with now := s.now, swaths := s.swaths } = s) ∧
        (∀ j, s0.swathChecks m d = some j → RepliesOnly (exec (.swathLoad p τ) s) s τ (c 0x0504) (.err 0x0602 j)))) ∧
    (hears 0x0502 [0] →
      let f := s.flue s.graph.gen (a 0)
      (a 0 < (s.graph.active.getD {}).flues.length → Replies (exec (.flueStatus p τ) s) (c 0x0502)
        (.ok [f.items.length, b2n f.high + 2 * b2n f.sticky + 256 * f.cross, f.shown % 2 ^ 32]) fun u =>
          u.flue s.graph.gen (a 0) = { f with sticky := false } ∧ u.regs = s.regs ∧ u.mems = s.mems) ∧
      ((s.graph.active.getD {}).flues.length ≤ a 0 → RepliesOnly (exec (.flueStatus p τ) s) s τ (c 0x0502) (.err 0x0201 0))) ∧
    (hears 0x0503 [0] → Replies (exec (.graphEvten p τ) s) (c 0x0503) (.ok []) fun u =>
      u.events.grfEn = a 0 % 256 ∧ { u with now := s.now, events := s.events } = s) ∧
    (let w := a 2 % 2
     let x := s.swath w
     let same (u : State) := (∀ j, j ≠ w → u.swath j = s.swath j) ∧ u.regs = s.regs ∧ u.mems = s.mems
     (s.Takes ((c 0x0505).withBit 0) [0, 1, 2] → x.active = none →
       Replies (exec (.swathClrCnt p τ) s) ((c 0x0505).withBit 0) (.ok []) fun u =>
         (u.swath w).cnt = [] ∧ (u.swath w).evten = a 1 % 2 ^ 32 ∧ same u) ∧
     (∀ d, s.Takes ((c 0x0505).withBit 1) [0, 1, 2] → x.active = some d → s.injLocked = false →
       Replies (exec (.swathInjGap p τ) s) ((c 0x0505).withBit 1) (.ok []) fun u =>
         (u.swath w).dec = x.dec + 1 ∧ same u ∧
         ∃ row : SwRow, (u.swath w).backlog = x.backlog ++ [row] ∧ row.k = x.dec ∧ ∀ i ∈ row.choice, i = none) ∧
     (s.Takes ((c 0x0505).withBit 2) [0, 1, 2] → x.active = none → s.injLocked = false →
       Replies (exec (.swathInjFull p τ) s) ((c 0x0505).withBit 2) (.ok []) fun u => (u.swath w).injFull = true ∧ same u) ∧
     (s.Takes ((c 0x0505).withBit 3) [0, 1, 2] → x.active = none → s.injLocked = false →
       Replies (exec (.swathInjOverspeed p τ) s) ((c 0x0505).withBit 3) (.ok []) fun u => (u.swath w).injOver = true ∧ same u) ∧
     (hears 0x0505 [0, 1, 2] → x.active = none → a 0 = 0 → Replies (exec (.swathEvten p τ) s) (c 0x0505) (.ok []) fun u =>
       u.swath w = { x with evten := a 1 % 2 ^ 32 } ∧ same u)) ∧
    (hears 0x0506 [0, 1, 2] → Replies (exec (.swathStatus p τ) s) (c 0x0506) (.ok []) fun u =>
      u.hostBytes (a64 1) 64 = (s.swath (a 0 % 2)).status ∧ u.regs = s.regs ∧ u.swaths = s.swaths ∧
      ∀ x, ¬(a64 1 ≤ x ∧ x < a64 1 + 64) → u.hostBytes x 1 = s.hostBytes x 1) ∧
    (let q := a 0 % 256
     let k := (c 0).contract
     let tests (op : StreamOp) := let s1 := s0.setDq q { s.dq q with next := some op }; s1.admTests s1.admNext s1.openNext
     let stagedAs (op : StreamOp) (u : State) := u.dq q = { s.dq q with next := some op } ∧ (∀ j, j ≠ q → u.dq j = s.dq j) ∧
       KeepsRegs [DQ.DMIN q] s u
     s.epoch.armed = none → a 0 / 2 ^ 24 % 2 ^ 8 = 0 → q < 62 → admFed (s0.nextGraph.getD {}) s0.rd q = true →
      (hears 0x0601 [0, 1, 2, 3] → s.streamLive q = false → k.inRange = true → tests (.opened k) = none →
        ∃ dm, Replies (exec (.streamOpen p τ) s) (c 0x0601) (.staged_ [dm]) (stagedAs (.opened k))) ∧
      (∀ n, hears 0x0601 [0, 1, 2, 3] → s.streamLive q = false → k.inRange = true → tests (.opened k) = some n →
        Replies (exec (.streamOpen p τ) s) (c 0x0601) (.err 0x0401 n) fun u => u.dlv = s.dlv ∧ KeepsRegs [DQ.DMIN q] s u) ∧
      (hears 0x0604 [0, 1, 2, 3] → s.streamLive q = true → s.rd (DQ.STAT_STATE q) ≠ 0 → k.inRange = true → tests (.modified k) = none →
        ∃ dm, Replies (exec (.streamModify p τ) s) (c 0x0604) (.staged_ [dm]) (stagedAs (.modified k))) ∧
      (hears 0x0603 [0] → a 0 = q → s.streamLive q = true → s.rd (DQ.STAT_STATE q) = 3 → tests .resumed = none →
        Replies (exec (.streamResume p τ) s) (c 0x0603) (.staged_ []) (stagedAs .resumed)) ∧
      (hears 0x0602 [0] → a 0 = q → s.streamLive q = true → s.rd (DQ.STAT_STATE q) ≠ 0 →
        Replies (exec (.streamClose p τ) s) (c 0x0602) (.staged_ []) (stagedAs .closed))) ∧
    (let m := a 0 % 64
     hears 0x0701 [0, 1, 2] → a 0 / 256 % 4 = 0 → Answers (exec (.markSet p τ) s) fun t =>
      t.rd (MK.STAT_VALID m) = 1 ∧ t.rd (MK.STAT_OVERTAKEN m) = 0 ∧
      t.rd (MK.POS_LO_RPOS m) + 2 ^ 32 * t.rd (MK.POS_HI_RPOS m) = s.rcd.wpos % 2 ^ 64) ∧
    (hears 0x0702 [0] → a 0 < 64 → Answers (exec (.markClear p τ) s) fun t => t.rd (MK.STAT_VALID (a 0)) = 0) ∧
    (let n := a 0 % 16
     let x := a 0 / 256 % 64
     let y := a 0 / 2 ^ 16 % 256
     hears 0x0703 [0] → y < 64 → s.pinOn n = false → s.is (MK.STAT_VALID x) = true → s.is (MK.STAT_VALID y) = true →
      s.markPos x ≤ s.markPos y →
      (s.pinned [(s.markPos x / extBytes, s.markPos y / extBytes)]).length ≤ s.rcd.inServ * 7 / 8 →
      Answers (exec (.pinSet p τ) s) fun t => t.pinOn n = true ∧
        t.rd (PN.FIRST_LO_ESEQ n) + 2 ^ 32 * t.rd (PN.FIRST_HI_ESEQ n) = s.markPos x / extBytes % 2 ^ 64 ∧
        t.rd (PN.LAST_LO_ESEQ n) + 2 ^ 32 * t.rd (PN.LAST_HI_ESEQ n) = s.markPos y / extBytes % 2 ^ 64) ∧
    (hears 0x0704 [0] → a 0 < 16 → Answers (exec (.pinClear p τ) s) fun t => t.pinOn (a 0) = false) ∧
    (let q := a 0 % 64
     hears 0x0705 [0, 1, 2, 3, 4, 5] → q < 62 → s.rcd.read = none → s.cfg (DQ.CFG_EN q) ≠ 0 →
      base64 (s.cfg (DQ.DRING_LO_BASE q)) (s.cfg (DQ.DRING_HI_BASE q)) ≠ 0 →
      base64 (s.cfg (DQ.CRING_LO_BASE q)) (s.cfg (DQ.CRING_HI_BASE q)) ≠ 0 → s.rd (DQ.STAT_STATE q) = 0 → (a 0).testBit 8 = true →
      Replies (exec (.readStart p τ) s) (c 0x0705) (.ok []) fun u =>
        (∃ r : RRead, u.rcd = { s.rcd with read := some r } ∧ r.queue = q ∧ r.pos = a64 1 ∧ r.mask = a 3 % 65536 ∧ r.maxb = a 4 ∧
          r.rate = a 5 ∧ r.follow = (a 0).testBit 24) ∧
        u.rd REC.RD_STAT_STATE = 1 ∧ u.rd REC.RD_NREC_NREC = 0 ∧
        u.rd REC.RD_POS_LO_RPOS + 2 ^ 32 * u.rd REC.RD_POS_HI_RPOS = a64 1 % 2 ^ 64) ∧
    (∀ r, hears 0x0706 [] → s.rcd.read = some r → Replies (exec (.readStop p τ) s) (c 0x0706) (.ok []) fun u =>
      u.rcd = { s.rcd with read := none } ∧ u.rd REC.RD_STAT_STATE = 0 ∧ KeepsRegs [REC.RD_STAT_STATE] s u) ∧
    (hears 0x0801 [] → s.epoch.armed = none → Replies (exec (.timeRearm p τ) s) (c 0x0801) (.staged_ []) fun u =>
      u = s0.setTime { s.time with rearm := true }) ∧
    (hears 0x0802 [] → s.rd TIM.STAT_STATE ≠ 3 → RepliesOnly (exec (.timeStatus p τ) s) s τ (c 0x0802)
      (.ok [s.rd TIM.STAT_STATE + 16 * s.rd TIM.STAT_PORT + 256 * s.rd TIM.STAT_STEPGEN + 65536 * s.rd TIM.STAT_CLAMP,
        s.rd TIM.OFFSET_O, 0, s.rd TIM.RATE])) ∧
    (s.epoch.armed = none → s.rd CMD.STAT_WARDEN = 1 →
      (hears 0x0A01 [0] → a 0 ≤ 3 → s0.channelCase = none → Replies (exec (.fenceChannel p τ) s) (c 0x0A01) (.staged_ []) fun u =>
        u = s0.setMemu { s.memu with fenceNext := some (a 0) }) ∧
      (∀ k, hears 0x0A01 [0] → a 0 ≤ 3 → s0.channelCase = some k →
        RepliesOnly (exec (.fenceChannel p τ) s) s τ (c 0x0A01) (.err 0x0402 k)) ∧
      (hears 0x0A02 [0] → a 0 ≤ 15 → s0.clusterCase (a 0) = none → Replies (exec (.fenceCluster p τ) s) (c 0x0A02) (.staged_ []) fun u =>
        u = s0.setDiag { s.diag with clNext := some (a 0) }) ∧
      (∀ k, hears 0x0A02 [0] → a 0 ≤ 15 → s0.clusterCase (a 0) = some k →
        RepliesOnly (exec (.fenceCluster p τ) s) s τ (c 0x0A02) (.err 0x0301 k))) ∧
    (let img := s.hostBytes (a64 1) (a 3)
     let r := if a 0 = 1 then 0x100 else 0x101
     warden 0x0B01 [0, 1, 2, 3] → (a 0 = 1 ∨ a 0 = 2) → a 3 ≤ 16777728 →
      let chk := s0.imageCheck (a 0) true img
      ∀ x, s0.storeFree = true → s.firm.copiesOf r = [some x, some x, some x] →
        if chk = none then Replies (exec (.fwUpdate p false τ) s) (c 0x0B01) (.ok []) fun u =>
          u.firm.copiesOf r = List.replicate 3 (some { gen := x.gen + 1, data := img }) ∧ u.regs = s.regs ∧
          (∀ k, k ≠ r → u.firm.copiesOf k = s.firm.copiesOf k)
        else RepliesOnly (exec (.fwUpdate p false τ) s) s τ (c 0x0B01)
          (if chk = some 6 then .err 0x0802 (imgSvn img) else .err 0x0801 (chk.getD 0))) ∧
    (s.diag.held = [] → (s.dq 63).credits = [] →
      (warden 0x0B02 [0, 1, 2, 3, 4] → (a 4).testBit 0 = false → Replies (exec (.attest p τ) s) (c 0x0B02) (.ok []) fun u =>
        (∃ report : List Nat, u.diag.held = [report] ∧ leAt report 0 2 = 1 ∧
          (report.drop 16).take 16 = (List.range 4).flatMap (fun k => leBytes 4 (a k)) ∧ leAt report 32 8 = s0.dev % 2 ^ 64) ∧
        { u with now := s.now, diag := s.diag } = s) ∧
      (warden 0x0B06 [] → Replies (exec (.securityLog p τ) s) (c 0x0B06) (.ok []) fun u =>
        (∃ report : List Nat, u.diag.held = [report] ∧ leAt report 0 2 = 3) ∧ { u with now := s.now, diag := s.diag } = s)) ∧
    (warden 0x0B03 [] →
      let n := freeValue s.freeCount % 2 ^ 128
      Replies (exec (.debugChallenge p τ) s) (c 0x0B03)
        (.ok [n % 2 ^ 32, n / 2 ^ 32 % 2 ^ 32, n / 2 ^ 64 % 2 ^ 32, n / 2 ^ 96 % 2 ^ 32]) fun u =>
          u.diag = { s.diag with nonce := some (n, max s.now τ) } ∧ u.regs = s.regs) ∧
    (let tok := s.hostBytes (a64 0) 224
     warden 0x0B04 [0, 1] →
      (s.diag.nonce = none → RepliesOnly (exec (.debugUnlock p false τ) s) s τ (c 0x0B04) (.err 0x0803 1)) ∧
      (∀ n at_, s.diag.nonce = some (n, at_) → n = leAt tok 8 16 → max s.now τ < at_ + 60000000000 →
        if tok.getD 28 0 ≤ 3 ∧ sha384 (imgBytes tok 32 96) = otpHash (tok.getD 28 0) ∧ otpDebug (tok.getD 28 0) = true ∧
          ecdsaOk (imgBytes tok 32 96) (imgBytes tok 0 128) (imgBytes tok 128 96) = true ∧ leAt tok 0 8 = factoryEui % 2 ^ 64
        then Replies (exec (.debugUnlock p false τ) s) (c 0x0B04) (.ok [leAt tok 24 4 % 8]) fun u =>
          u.rd CMD.STAT_DEBUG = leAt tok 24 4 % 8 ∧ u.diag.nonce = none ∧ KeepsRegs [CMD.STAT_DEBUG] s u
        else ∃ d ∈ [2, 3, 4], RepliesOnly (exec (.debugUnlock p false τ) s) s τ (c 0x0B04) (.err 0x0803 d))) ∧
    (warden 0x0B05 [] → Replies (exec (.debugLock p τ) s) (c 0x0B05) (.ok []) fun u => u.rd CMD.STAT_DEBUG = 0 ∧ OnlyRegs [CMD.STAT_DEBUG] s u) ∧
    (s.rd CMD.STAT_WARDEN = 3 →
      ∀ x ∈ [(Instr.fwUpdate p false τ, 0x0B01), (.attest p τ, 0x0B02), (.debugChallenge p τ, 0x0B03), (.debugUnlock p false τ, 0x0B04),
        (.debugLock p τ, 0x0B05), (.securityLog p τ, 0x0B06)], RepliesOnly (exec x.1 s) s τ (c x.2) (.err 0x0A01 0))

/-- R21, R64, R376, R379 to R381, R443, R462: in a sample that meets the boundary of an armed epoch whose arm has not lapsed and whose
admission test passes, every staged register value, settings set, swath and graph becomes active, and the number and time of the commit
are reported; one that fails the admission test is dropped; an arm that has lapsed, or an epoch past its expiry, is dropped; a fence that
the warden wants is reported again after a second while its refusal lasts; a tick takes the supply readings, leaves no occurrence waiting,
and drops an armed epoch that stopped service firmware has failed to renew once before. -/
def Obligations.EpochsCommitLapseAndExpire : Prop :=
  ∀ (τ : Nat) (s : State),
    (∀ e, s.epoch.armed = some e → s.boundaryAt e τ = true → s.epochLapsed τ = false → (∀ x ∈ s.diag.autos, τ < x.at_) →
      (s.at τ).admValidOf (s.at τ).admAt = none →
      Answers (exec (.epochCommitSample τ) s) fun t =>
        t.epoch.armed = none ∧ t.rd CMD.STAT_ARMED = 0 ∧ t.rd CMD.EPOCH_ARM_ARM = 0 ∧ t.rd CMD.EPOCH_LAST_LAST = e.number % 2 ^ 32 ∧
        t.rd CMD.EPOCH_TIME_LO_TIME + 2 ^ 32 * t.rd CMD.EPOCH_TIME_HI_TIME = t.dev ∧ t.sets = s.setsStaged ∧
        (∀ f : Fld, stagedFld f.key = some f → f.off < 0x1000000 → (∀ n, n < 8 → f ≠ AX.CTL_PRESET_ARM n ∧ f ≠ AX.CTL_REVERT_ARM n) →
          t.cfg f = s.rd f) ∧
        (∀ n, n < 8 → t.cfg (AX.CTL_PRESET_ARM n) = 0 ∧ t.cfg (AX.CTL_REVERT_ARM n) = 0) ∧
        (∀ w, w < 2 → ∀ d, (s.swath w).staged = some d → (t.swath w).active = some d ∧ (t.swath w).staged = none) ∧
        (∀ g, s.graph.staged = some g → t.graph.staged = none ∧ t.graph.active = some { g with since := max s.now τ })) ∧
    (∀ e k i, s.epoch.armed = some e → s.boundaryAt e τ = true → s.epochLapsed τ = false → (∀ x ∈ s.diag.autos, τ < x.at_) →
      (s.at τ).admValidOf (s.at τ).admAt = some (k, i) → Answers (exec (.epochCommitSample τ) s) fun t =>
        t.epoch.armed = none ∧ t.rd CMD.STAT_ARMED = 0 ∧ t.active = s.active ∧ t.graph = s.graph) ∧
    (∀ e, s.epoch.armed = some e → s.epochLapsed τ = true → Answers (exec (.epochLapse τ) s) fun t =>
      t.epoch = { s.epoch with armed := none } ∧ t.rd CMD.STAT_ARMED = 0 ∧ t.rd CMD.EPOCH_ARM_ARM = 0 ∧
      KeepsRegs [CMD.STAT_ARMED, CMD.EPOCH_ARM_ARM] s t ∧ t.active = s.active) ∧
    (∀ e x, s.epoch.armed = some e → e.expiry = some x → x ≤ τ → Answers (exec (.epochExpiry τ) s) fun t =>
      t.epoch = { s.epoch with armed := none } ∧ t.rd CMD.STAT_ARMED = 0 ∧ t.rd CMD.EPOCH_ARM_ARM = 0 ∧
      KeepsRegs [CMD.STAT_ARMED, CMD.EPOCH_ARM_ARM] s t ∧ t.active = s.active) ∧
    (∀ x, s.diag.wanted = [x] → x.at_ + 1000000000 ≤ τ →
      (∀ k, s.autoCase x.kind x.idx = some k → Answers (exec (.fenceWanted τ) s) fun t =>
        t.diag = { s.diag with wanted := [{ x with case := k, at_ := τ }] } ∧ { t with now := s.now, diag := s.diag, events := s.events } = s) ∧
      (s.autoCase x.kind x.idx = none → Answers (exec (.fenceWanted τ) s) fun t =>
        t.diag = { s.diag with wanted := [] } ∧ { t with now := s.now, diag := s.diag } = s)) ∧
    (∀ x : TickIn, s.ticks = true → s.tickDue τ = true → StillAxes s →
      (((((s.at τ).setPwr { s.pwr with tickAt := some τ }).supplies x).thermTick x).2 = false) → s.pwr.ask = false → s.pwr.resetAsk = 0 →
      s.cmd.running = [] → s.cmd.waiting = [] → s.cmd.smbWait = none → s.rd CMD.CFG_EN = 0 →
      Answers (exec (.managementTick x τ) s) fun t =>
        t.rd SYS.VIN_NOW = x.vin.toNat ∧ t.rd SYS.VIN_MIN = min (s.rd SYS.VIN_MIN) x.vin.toNat % 2 ^ 16 ∧ t.rd SYS.VSUP_VAUX = x.vaux.toNat ∧
        t.rd SYS.VSUP_VCAM = x.vcam.toNat ∧ t.events.pend = [] ∧
        (∀ e, s.epoch.armed = some e → s.svcRunning = false → 1 ≤ e.missed → t.epoch.armed = none))

/-- R102, R104 to R108, R129, R132, R133: signal energy takes an enabled receiver to LOCKING and CDR lock to SEARCH; its loss ends lock (here
of a receiver not ALIGNED). Line bits give words without the bit that follows a run of 24. A sync word makes a candidate, the fourth match
ALIGNED (and begins a burst, but in a near-end loop), the eighth miss LOST; between sync words a cell collects its words. The hit window
ends after 66 words, a bit slip moves the word boundary one bit, and the alignment procedure slips while a window had no hit; 2 ms without
CDR lock the link falls back to R1; a late exit from BANKED ends its wait; the equaliser moves one step toward its preset. -/
def Obligations.LinkReceiversLockAlignAndLose : Prop :=
  ∀ (n : Fin 24) (τ : Nat) (s : State),
    let l := s.link n
    let st := s.rd (LNK.STAT_STATE n)
    (s.flrOn n = true → st = 0 → Answers (exec (.signalDetect n τ) s) fun t =>
      t.rd (LNK.STAT_STATE n) = 1 ∧ t.link n = { l with sig := true } ∧ KeepsRegs [LNK.STAT_STATE n] s t ∧ OnlyLink n s t) ∧
    (st = 1 → Answers (exec (.cdrLock n τ) s) fun t =>
      t.rd (LNK.STAT_STATE n) = 2 ∧ t.rd (LNK.STAT_CDR_LOCK n) = 1 ∧ t.rd (LNK.ALIGN_SLIP n) = 0 ∧ t.rd (LNK.ALIGN_HITS n) = 0 ∧
      t.rd (LNK.ALIGN_DONE n) = 0 ∧ (t.link n).alignProc = some 0 ∧ (t.link n).eq = s.eqPreset n ∧ KeepsRegs (alignRegs n) s t ∧
      OnlyLink n s t) ∧
    (∀ energy, s.is (LNK.STAT_CDR_LOCK n) = true → st ≠ 4 → Answers (exec (.signalLost n energy τ) s) fun t =>
      t.rd (LNK.STAT_CDR_LOCK n) = 0 ∧ t.rd (LNK.STAT_STATE n) = (if energy then 1 else 0) ∧ (t.link n).sig = energy ∧
      KeepsRegs (alignRegs n) s t ∧ OnlyLink n s t) ∧
    (∀ (head rest : List Bool) (ps : Nat) (i : Instr),
      let line := head ++ rest
      (i = .forwardCell n head rest ps τ ∧ l.loop ≠ 1 ∧ l.loop ≠ 2 ∧ s.is (LNK.STAT_CDR_LOCK n) = true) ∨
        (i = .loopPatternCheck n head rest ps τ ∧ (l.loop = 1 ∨ l.loop = 2) ∧ 2 ≤ s.cfg (LNK.LOOP_CFG_PAT n)) →
      ∀ (l' : Link) (x : RxWord), l.rxBits (s.bitTime n) ps line = (l', [x]) → l.injSync = false →
      let begun : Link := { l' with wordPos := 1, cell := [], cellAt := x.at_, cellBad := x.bad }
      (st = 2 → x.w = 0x3A5C96E1 → Answers (exec i s) fun t =>
        t.rd (LNK.STAT_STATE n) = 3 ∧ (t.link n).cand = 1 ∧ (t.link n).wordPos = 1 ∧ KeepsRegs (alignRegs n) s t ∧ OnlyLink n s t) ∧
      (st = 2 → x.w ≠ 0x3A5C96E1 → Answers (exec i s) fun t =>
        t.rd (LNK.STAT_STATE n) = 2 ∧ KeepsRegs (alignRegs n) s t ∧ OnlyLink n s t) ∧
      (st = 3 → l.wordPos < 33 → Answers (exec i s) fun t =>
        t.rd (LNK.STAT_STATE n) = 3 ∧ (t.link n).cand = l.cand ∧ (t.link n).wordPos = l.wordPos + 1 ∧ KeepsRegs (alignRegs n) s t ∧
        OnlyLink n s t) ∧
      (st = 3 → 33 ≤ l.wordPos → x.w = 0x3A5C96E1 → l.cand < 3 → Answers (exec i s) fun t =>
        t.rd (LNK.STAT_STATE n) = 3 ∧ (t.link n).cand = l.cand + 1 ∧ (t.link n).wordPos = 1 ∧ KeepsRegs (alignRegs n) s t ∧
        OnlyLink n s t) ∧
      (st = 3 → 33 ≤ l.wordPos → x.w = 0x3A5C96E1 → 3 ≤ l.cand → Answers (exec i s) fun t =>
        t.rd (LNK.STAT_STATE n) = 4 ∧ t.rd (LNK.STAT_LLAT_VALID n) = 0 ∧ (t.link n).misses = 0 ∧
        (l.loop ≠ 1 → l.loop ≠ 2 → (t.link n).burst.isSome = true)) ∧
      (st = 3 → 33 ≤ l.wordPos → x.w ≠ 0x3A5C96E1 → Answers (exec i s) fun t =>
        t.rd (LNK.STAT_STATE n) = (if l.fromLost then 5 else 2) ∧ (t.link n).cand = 0 ∧ KeepsRegs (alignRegs n) s t ∧ OnlyLink n s t) ∧
      (st = 4 → l.wordPos < 33 → l.cell.length < 31 → exec i s = .next ((s.at τ).setLink n
        { l' with wordPos := l.wordPos + 1, cell := l.cell ++ [x.w], cellBad := l.cellBad || x.bad })) ∧
      (st = 4 → 33 ≤ l.wordPos → bitDiff 32 x.w 0x3A5C96E1 ≤ 2 → Answers (exec i s) fun t =>
        t.link n = { begun with misses := 0 } ∧ t.regs = s.regs ∧ OnlyLink n s t) ∧
      (st = 4 → 33 ≤ l.wordPos → 2 < bitDiff 32 x.w 0x3A5C96E1 → l.misses < 7 → Answers (exec i s) fun t =>
        t.link n = { begun with misses := l.misses + 1, cellBad := true } ∧
        t.rd (LNK.CNT0_SYNC_MISS n) = min (s.rd (LNK.CNT0_SYNC_MISS n) + 1) (2 ^ (LNK.CNT0_SYNC_MISS n).w - 1) ∧
        KeepsRegs [LNK.CNT0_SYNC_MISS n] s t ∧ OnlyLink n s t) ∧
      (st = 4 → 33 ≤ l.wordPos → 2 < bitDiff 32 x.w 0x3A5C96E1 → 7 ≤ l.misses → Answers (exec i s) fun t =>
        t.rd (LNK.STAT_STATE n) = 5 ∧ t.rd (LNK.STAT_LOST_STKY n) = 1 ∧ (t.link n).burst = none)) ∧
    (∀ at_ b, l.runLen = 24 → l.rxBit at_ b = ({ l with runBit := b, runLen := 1, accBad := l.accBad || b == l.runBit }, none)) ∧
    (∀ step at_ (bs : List Bool), l.acc = [] → l.slipBits = 0 → bs.length = 32 →
      (∀ k, k < 32 → (l.rxBits step at_ (bs.take k)).1.runLen ≠ 24) →
      (l.rxBits step at_ bs).2 = [{ w := bs.foldl (fun a b => 2 * a + b2n b) 0, at_ := at_, bad := l.accBad }]) ∧
    (st = 2 ∨ st = 3 ∨ st = 5 → 66 ≤ l.winWords → Answers (exec (.hitWindowDone n τ) s) fun t =>
      t.rd (LNK.ALIGN_DONE n) = 1 ∧ OnlyRegs [LNK.ALIGN_DONE n] s t) ∧
    (st = 2 → Answers (exec (.bitslip n τ) s) fun t =>
      t.rd (LNK.ALIGN_SLIP n) = (s.rd (LNK.ALIGN_SLIP n) + 1) % 32 ∧ t.rd (LNK.ALIGN_HITS n) = 0 ∧ t.rd (LNK.ALIGN_DONE n) = 0 ∧
      t.link n = { l with winWords := 0, slipBits := l.slipBits + 1 } ∧ KeepsRegs (alignRegs n) s t ∧ OnlyLink n s t) ∧
    (∀ k, l.alignProc = some k → s.svcRunning = true → st = 2 → s.is (LNK.ALIGN_DONE n) = true → s.rd (LNK.ALIGN_HITS n) = 0 →
      Answers (exec (.alignProcedure n τ) s) fun t =>
        t.rd (LNK.ALIGN_SLIP n) = (s.rd (LNK.ALIGN_SLIP n) + 1) % 32 ∧
        (t.link n).alignProc = (if k + 1 = 32 then none else some (k + 1)) ∧ KeepsRegs (alignRegs n) s t ∧ OnlyLink n s t) ∧
    (∀ o, l.noLockAt = some o → s.flrOn n = true → s.is (LNK.STAT_CDR_LOCK n) = false → o + 2000000 ≤ τ →
      Answers (exec (.rateFallback n τ) s) fun t =>
        t.rd (LNK.STAT_RATE_ACT n) = 0 ∧ t.rd (LNK.STAT_PWR_ACT n) = 3 ∧ KeepsRegs [LNK.STAT_RATE_ACT n, LNK.STAT_PWR_ACT n] s t ∧
        OnlyLink n s t) ∧
    (∀ e, l.exitBy = some e → e ≤ τ → s.rd (LNK.STAT_PWR_ACT n) = 3 → Answers (exec (.bankExitLate n τ) s) fun t =>
      t.link n = { l with exitBy := none } ∧ t.regs = s.regs ∧ OnlyLink n s t) ∧
    (s.is (LNK.STAT_CDR_LOCK n) = true → l.eq ≠ s.eqPreset n → l.eqAt + 100000 ≤ τ → Answers (exec (.equaliserStep n τ) s) fun t =>
      (t.link n).eq = (if l.eq < s.eqPreset n then l.eq + 1 else l.eq - 1) ∧ t.regs = s.regs ∧ OnlyLink n s t)

/-- R117, R122 to R127, R131, R134, R136 to R139: an outstanding frame ends with its BC_ACK, is sent again up to three times and then fails
(ended and failed ones here: CONFIG frames, with no frame behind them); READ_ID is tried again; the ECHOs of a burst leave one by one
outside frames, their replies give measurements, six good ones give the latency, and a failed burst is tried again; GPIO levels and
telemetry reach their registers; a loop's checker finds its pattern, then counts bits and errors (what the patterns leave open: log 31);
camera power switches start, trip, report an open load and restart on measurements that meet R138, and otherwise only take the
measurement (`held`: log 74). -/
def Obligations.LinkFramesCalibrationAndCameraPower : Prop :=
  ∀ (n : Fin 24) (τ : Nat) (s : State),
    let l := s.link n
    let st := s.rd (LNK.STAT_STATE n)
    let again (f : BcFrame) (t : State) := ∃ (e : Nat) (x : Int), 3 * (max s.now τ : Nat) ≤ x ∧
      t.link n = { l with out := some { f with tries := f.tries + 1, from_ := x, endAt := e }, tx := f.chars, txAt := x } ∧
      t.rd (LNK.CNT2_BC_RETRY n) = min (s.rd (LNK.CNT2_BC_RETRY n) + 1) (2 ^ (LNK.CNT2_BC_RETRY n).w - 1) ∧
      KeepsRegs [LNK.CNT2_BC_RETRY n] s t ∧ OnlyLink n s t
    let failed (t : State) := t.link n = { l with out := none } ∧
      t.rd (LNK.CNT2_BC_FAIL n) = min (s.rd (LNK.CNT2_BC_FAIL n) + 1) (2 ^ (LNK.CNT2_BC_FAIL n).w - 1) ∧
      KeepsRegs [LNK.CNT2_BC_FAIL n] s t ∧ OnlyLink n s t
    (∀ (f : BcFrame) (seq result : BitVec 4) (resp : List Byte), s.heard n = true → l.out = some f →
      (f.seq = seq.toNat → f.held = false → f.who = .config → l.bcq = [] →
        (result = 0 → exec (.bcAck n seq result resp τ) s = .next ((s.at τ).setLink n { l with out := none })) ∧
        (result = 1 → f.tries < 3 → Answers (exec (.bcAck n seq result resp τ) s) (again f)) ∧
        ((result = 2 ∨ (result = 1 ∧ 3 ≤ f.tries)) → Answers (exec (.bcAck n seq result resp τ) s) failed)) ∧
      (f.seq ≠ seq.toNat → exec (.bcAck n seq result resp τ) s = .next (s.at τ))) ∧
    (∀ f, l.out = some f → f.endAt + 20000 ≤ τ →
      (f.tries < 3 → Answers (exec (.bcAckTimeout n τ) s) (again f)) ∧
      (3 ≤ f.tries → f.who = .config → l.bcq = [] → Answers (exec (.bcAckTimeout n τ) s) failed)) ∧
    (∀ r, l.idRetry = some r → r ≤ τ → st = 4 → s.bcAvailable n = true → l.out = none → l.bcq = [] →
      Answers (exec (.readIdRetry n τ) s) fun t =>
        (t.link n).tx = [0x15C, l.seq * 16 + 1, crc8 [l.seq * 16 + 1], 0x1FD] ∧ (t.link n).idRetry = none ∧
        (∃ f, (t.link n).out = some f ∧ f.who = .readId ∧ f.seq = l.seq ∧ f.tries = 0) ∧ t.regs = s.regs ∧ OnlyLink n s t) ∧
    (∀ (b : Burst) (ps : Nat), l.burst = some b → st = 4 → b.next < 8 → b.start + 10000 * b.next ≤ τ → l.freeAt (3 * τ) = true →
      Answers (exec (.echoSend n ps τ) s) fun t =>
        t.link n = { l with burst := some { b with next := b.next + 1, sent := b.sent ++ [(b.next, ps)] }, tx := [0x11C, b.next],
                            txAt := 3 * (τ : Int) } ∧ t.regs = s.regs ∧ OnlyLink n s t) ∧
    (∀ (b : Burst) (id : Byte) (ps p : Nat) (turn tpath : Word), s.heard n = true → l.injEcho = false → l.burst = some b →
      b.sent.find? (fun e => e.1 == id.toNat) = some (id.toNat, p) → p ≤ ps → ps ≤ p + 50000000 →
      Answers (exec (.echoReply n id ps turn tpath τ) s) fun t =>
        t.rd (LNK.ECHO_RTT_RTT n) = (ps - p) % 2 ^ (LNK.ECHO_RTT_RTT n).w ∧ t.rd (LNK.ECHO_TURN_TURN n) = turn.toNat ∧
        t.rd (LNK.ECHO_TPATH_TPATH n) = tpath.toNat ∧
        t.link n = { l with burst := some { b with
          sent := b.sent.filter fun e => e.1 != id.toNat,
          replies := b.replies ++ [((ps - p : Nat) : Int) - turn.toNat + 2 * (tpath.toNat : Int)] } } ∧
        KeepsRegs [LNK.ECHO_RTT_RTT n, LNK.ECHO_TURN_TURN n, LNK.ECHO_TPATH_TPATH n] s t ∧ OnlyLink n s t) ∧
    (∀ (b : Burst) (id : Byte) (ps : Nat), l.burst = some b → Answers (exec (.echoReplyTimeout n id ps τ) s) fun t =>
      t.link n = { l with burst := some { b with sent := b.sent.filter fun e => !(e.1 == id.toNat && decide (e.2 + 50000000 ≤ ps)) } } ∧
      t.regs = s.regs ∧ OnlyLink n s t) ∧
    (∀ b : Burst, l.burst = some b → 8 ≤ b.next → b.sent = [] → l.recover = false →
      let good := goodReplies b.replies (s.echoTol n)
      (6 ≤ good.length → Answers (exec (.echoBurstEnd n τ) s) fun t =>
        t.rd (LNK.LLAT n) = meanLat good % 2 ^ (LNK.LLAT n).w ∧ t.rd (LNK.STAT_LLAT_VALID n) = 1 ∧ (t.link n).burst = none ∧
        (t.link n).fails = 0 ∧ KeepsRegs [LNK.LLAT n, CAM.LINK_LLAT n, LNK.STAT_LLAT_VALID n] s t ∧ OnlyLink n s t) ∧
      (good.length < 6 → Answers (exec (.echoBurstEnd n τ) s) fun t =>
        (t.link n).burst = none ∧ (t.link n).fails = l.fails + 1 ∧
        (t.link n).retryAt = some (max s.now τ + (if l.fails + 1 < 3 then 1000000 else 100000000)) ∧
        (l.fails + 1 = 3 → t.rd (LNK.STAT_LLAT_VALID n) = 0) ∧ KeepsRegs [LNK.STAT_LLAT_VALID n] s t ∧ OnlyLink n s t)) ∧
    (∀ r, l.retryAt = some r → r ≤ τ → st = 4 → l.burst = none → Answers (exec (.echoBurstRetry n τ) s) fun t =>
      t.link n = { l with burst := some { start := max s.now τ }, retryAt := none, perSent := none } ∧ t.regs = s.regs ∧ OnlyLink n s t) ∧
    (s.on (LNK.CFG_EN n) = true → st = 4 → l.burst = none → Answers (exec (.echoNow n τ) s) fun t =>
      t.link n = { l with burst := some { start := max s.now τ }, retryAt := none, perSent := none } ∧ t.regs = s.regs ∧ OnlyLink n s t) ∧
    (∀ ps, st = 4 → s.is (LNK.STAT_LLAT_VALID n) = true → s.on (LNK.CFG_ECHO_EN n) = true → l.burst = none → l.freeAt (3 * τ) = true →
      l.perAt + 1000000 * max 1 (s.cfg (LNK.ECHO_CFG_PERIOD n)) ≤ τ → Answers (exec (.periodicEcho n ps τ) s) fun t =>
        (t.link n).perSent = some ps ∧ (t.link n).perAt = τ ∧ t.regs = s.regs) ∧
    (s.is (LNK.STAT_BC_UP n) = true → l.gpioDue = true ∨ l.gpioAt + 1000000 ≤ τ →
      (l.freeAt (3 * (max s.now τ : Nat)) = true → Answers (exec (.gpioRefresh n τ) s) fun t =>
        t.link n = { l with tx := [0x1F7, s.cfg (LNK.GPIO_OUT n)], txAt := 3 * (max s.now τ : Nat), gpioAt := max s.now τ,
                            gpioDue := false } ∧ t.regs = s.regs ∧ OnlyLink n s t) ∧
      (l.freeAt (3 * (max s.now τ : Nat)) = false → Answers (exec (.gpioRefresh n τ) s) fun t =>
        t.link n = { l with gpioDue := true } ∧ t.regs = s.regs ∧ OnlyLink n s t)) ∧
    (∀ levels : BitVec 4, s.heard n = true → Answers (exec (.gpioIn n levels τ) s) fun t =>
      t.rd (LNK.GPIO_IN n) = levels.toNat ∧ OnlyRegs [LNK.GPIO_IN n] s t) ∧
    (∀ (temp : Byte) (supply bcErr : BitVec 16) (trigBad relock fwdOvf : Byte), s.heard n = true → (l.relock = none ∨ l.relock = some relock.toNat) →
      let fs := [LNK.SER0_TEMP n, LNK.SER0_SUPPLY n, LNK.SER1_BC_ERR n, LNK.SER0_TRIG_BAD n, LNK.SER1_BC_RELOCK n, LNK.SER1_FWD_OVF n]
      let vs := [temp.toNat, supply.toNat, bcErr.toNat, trigBad.toNat, relock.toNat, fwdOvf.toNat]
      Answers (exec (.telemetry n temp supply bcErr trigBad relock fwdOvf τ) s) fun t =>
        fs.map t.rd = vs ∧ t.link n = { l with relock := some relock.toNat } ∧ KeepsRegs fs s t ∧ OnlyLink n s t) ∧
    (∀ (i : Instr) (r : Nat × Nat × Nat × Nat) (full : Nat),
      ((∃ (pairs : Nat) (data flags : List Byte), i = .loopPacket n pairs data flags τ ∧ l.loop = 3 ∧ s.heard n = true ∧ full = 14 ∧
          r = ((loopData (bytePairs (loopPayload pairs data flags)) (l.loopSkip, l.loopFrame)).2.2.flatMap byteBits).foldl (loopBit 7 6)
            (l.chkSt, l.chkRun, 0, 0)) ∨
       (∃ (head rest : List Bool) (ps : Nat), i = .loopPatternCheck n head rest ps τ ∧ (l.loop = 1 ∨ l.loop = 2) ∧
         ((s.cfg (LNK.LOOP_CFG_PAT n) = 0 ∧ full = 14 ∧ r = (l.destuff (head ++ rest)).2.foldl (loopBit 7 6) (l.chkSt, l.chkRun, 0, 0)) ∨
          (s.cfg (LNK.LOOP_CFG_PAT n) = 1 ∧ full = 62 ∧ r = (l.destuff (head ++ rest)).2.foldl (loopBit 31 28) (l.chkSt, l.chkRun, 0, 0))))) →
      (r.2.1 < full → Answers (exec i s) fun t =>
        (t.link n).chkSt = r.1 ∧ (t.link n).chkRun = r.2.1 ∧ t.regs = s.regs ∧ OnlyLink n s t) ∧
      (full ≤ r.2.1 → Answers (exec i s) fun t =>
        (t.link n).chkSt = r.1 ∧ (t.link n).chkRun = r.2.1 ∧ t.rd (LNK.LOOP_STAT_LOCK n) = 1 ∧
        t.rd (LNK.LOOP_BITS_LO_BITS n) + 2 ^ 32 * t.rd (LNK.LOOP_BITS_HI_BITS n) =
          (s.rd (LNK.LOOP_BITS_LO_BITS n) + 2 ^ 32 * s.rd (LNK.LOOP_BITS_HI_BITS n) + r.2.2.1) % 2 ^ 64 ∧
        t.rd (LNK.LOOP_ERR_ERR n) = min (s.rd (LNK.LOOP_ERR_ERR n) + min r.2.2.2 r.2.2.1) (2 ^ 32 - 1) ∧
        KeepsRegs [LNK.LOOP_STAT_LOCK n, LNK.LOOP_BITS_LO_BITS n, LNK.LOOP_BITS_HI_BITS n, LNK.LOOP_ERR_ERR n] s t ∧
        OnlyLink n s t)) ∧
    (∀ (vout iout : BitVec 16) (held : Nat),
      let meas := [LNK.POC_MEAS_VOUT n, LNK.POC_MEAS_IOUT n, LNKG.POC_TOTAL_TOTAL]
      let measured (t : State) := t.rd (LNK.POC_MEAS_VOUT n) = vout.toNat ∧ t.rd (LNK.POC_MEAS_IOUT n) = iout.toNat
      let only (t : State) := measured t ∧ OnlyRegs meas s t
      let for_ := min held (τ - l.pocOnAt)
      let vcam := s.rd SYS.VSUP_VCAM
      (s.poc n = 1 → l.pocWait = none → τ ≤ l.pocAt + 20000000 → 9 * vcam ≤ 10 * vout.toNat →
        Answers (exec (.pocVoutReached n vout iout τ) s) fun t => t.poc n = 2 ∧ measured t ∧ t.link n = { l with pocOnAt := τ } ∧
          KeepsRegs (LNK.POC_STAT_STATE n :: meas) s t ∧ OnlyLink n s t) ∧
      (s.poc n = 1 → l.pocWait = none → τ ≤ l.pocAt + 20000000 → 10 * vout.toNat < 9 * vcam →
        Answers (exec (.pocVoutReached n vout iout τ) s) only) ∧
      ((s.poc n = 2 ∧ (1200 < iout.toNat ∨ (2 * vout.toNat < vcam ∧ 2000 ≤ for_))) ∨
        (s.poc n = 1 ∧ l.pocWait = none ∧ (1200 < iout.toNat ∨ (vout.toNat < 1000 ∧ l.pocAt + 2000000 ≤ τ))) →
        Answers (exec (.pocShort n vout ⟨iout, held⟩ τ) s) fun t => t.poc n = 3 ∧ t.rd (LNK.POC_STAT_SHORT n) = 1 ∧ measured t ∧
          KeepsRegs (LNK.POC_STAT_STATE n :: LNK.POC_STAT_SHORT n :: meas) s t ∧ OnlyLink n s t) ∧
      (s.poc n = 2 →
        (10 * max 10 (min 60 (s.cfg (LNK.POC_CFG_LIM n))) ≤ iout.toNat → 1000000 ≤ for_ →
          Answers (exec (.pocOvercurrent n vout ⟨iout, held⟩ τ) s) fun t =>
            t.poc n = 3 ∧ t.rd (LNK.POC_STAT_OVERCUR n) = 1 ∧ measured t ∧
            KeepsRegs (LNK.POC_STAT_STATE n :: LNK.POC_STAT_OVERCUR n :: meas) s t ∧ OnlyLink n s t) ∧
        (iout.toNat < 10 * max 10 (min 60 (s.cfg (LNK.POC_CFG_LIM n))) ∨ for_ < 1000000 →
          Answers (exec (.pocOvercurrent n vout ⟨iout, held⟩ τ) s) only) ∧
        (iout.toNat < 8 → 10000000 ≤ for_ → Answers (exec (.pocOpen n vout ⟨iout, held⟩ τ) s) fun t =>
          t.poc n = 2 ∧ t.rd (LNK.POC_STAT_OPEN n) = 1 ∧ t.rd (LNK.POC_STAT_OPEN_STKY n) = 1 ∧ measured t ∧
          KeepsRegs (LNK.POC_STAT_OPEN n :: LNK.POC_STAT_OPEN_STKY n :: meas) s t ∧ t.links = s.links) ∧
        (8 ≤ iout.toNat ∨ for_ < 10000000 → Answers (exec (.pocOpen n vout ⟨iout, held⟩ τ) s) only) ∧
        (12 ≤ iout.toNat → 10000000 ≤ for_ → Answers (exec (.pocOpenClear n vout ⟨iout, held⟩ τ) s) fun t =>
          t.rd (LNK.POC_STAT_OPEN n) = 0 ∧ measured t ∧ OnlyRegs (LNK.POC_STAT_OPEN n :: meas) s t) ∧
        (iout.toNat < 12 ∨ for_ < 10000000 → Answers (exec (.pocOpenClear n vout ⟨iout, held⟩ τ) s) only))) ∧
    (s.poc n = 1 → l.pocWait = none → l.pocAt + 20000000 ≤ τ → Answers (exec (.pocStartTimeout n τ) s) fun t =>
      t.poc n = 3 ∧ t.rd (LNK.POC_STAT_OVERCUR n) = 1 ∧
      KeepsRegs [LNK.POC_STAT_STATE n, LNK.POC_STAT_OVERCUR n, LNKG.POC_TOTAL_TOTAL] s t ∧ OnlyLink n s t) ∧
    (∀ live : Bool, Answers (exec (.pocBackfeed n live τ) s) fun t =>
      t.rd (LNK.POC_STAT_BACKFEED n) = b2n live ∧ KeepsRegs [LNK.POC_STAT_BACKFEED n] s t ∧ t.links = s.links) ∧
    (∀ w, l.pocWait = some w → w ≤ τ → s.poc n = 1 → Answers (exec (.pocStaggerStart n τ) s) fun t =>
      t.link n = { l with pocWait := none } ∧ t.regs = s.regs ∧ OnlyLink n s t) ∧
    (s.poc n = 3 → s.is SYS.PWR_STAT_VCAM_FAULT = false → (s.at τ).justSet (LNK.POC_STAT_SHORT n) = 0 →
      (s.at τ).justSet (LNK.POC_STAT_OVERCUR n) = 0 → Answers (exec (.pocFaultClear n τ) s) fun t =>
      t.rd (LNK.POC_STAT_SHORT n) = 0 ∧ t.rd (LNK.POC_STAT_OVERCUR n) = 0 ∧ t.poc n = (if s.on (LNK.POC_CFG_EN n) then 1 else 0) ∧
      KeepsRegs [LNK.POC_STAT_SHORT n, LNK.POC_STAT_OVERCUR n, LNK.POC_STAT_STATE n, LNK.POC_MEAS_IOUT n, LNKG.POC_TOTAL_TOTAL] s t ∧
      OnlyLink n s t)

/-- R258, R262 to R267, R274 to R278, R282: a bucket leaks one correction in the 10 ns clock in which device time reaches a multiple of its
period, and none in another; over memories without errors the patrols read on from where they were and count their passes, and a
migration copies granule after granule; the one GDDR7 word in error that the patrol reads is corrected and counted, or counts as
uncorrectable and stays poisoned; a software scrub takes the register values at GO or is refused with REJ, and at its end or abort
reports the words it read (with no error where memories hold none); the channels adopt the margin set of the band one after
another. -/
def Obligations.MemoryScrubsBucketsAndFences : Prop :=
  ∀ (τ : Nat) (s : State),
    (∀ r : Fin 60,
      let p := 1000000 * max 1 (s.rd (MEMR.LEAK r))
      ((s.at τ).dev % p < 10 → (∀ x, AMap.get none (s.memu.leakAt.map fun e => (e.1, some e.2)) r = some x → x + 10 ≤ max s.now τ) →
        Answers (exec (.ceBucketLeak r τ) s) fun t =>
          t.rd (MEMR.BKT_LEVEL r) = (s.rd (MEMR.BKT_LEVEL r) - 1) % 2 ^ 16 ∧
          t.memu = { s.memu with leakAt := AMap.set s.memu.leakAt r (max s.now τ) } ∧
          OnlyRegs [MEMR.BKT_LEVEL r] s { t with memu := s.memu }) ∧
      (10 ≤ (s.at τ).dev % p → exec (.ceBucketLeak r τ) s = .next s)) ∧
    (∀ words : Word, s.clean →
      (s.memu.sramAt + 1000000 * min 10000 (max 10 (s.rd MEM.PATROL_SPER)) ≤ τ →
        Answers (exec (.patrolScrub true words τ) s) fun t =>
          t.rd MEM.PASS_SRAM = (s.rd MEM.PASS_SRAM + 1) % 2 ^ 16 ∧ t.memu = { s.memu with sramAt := τ } ∧
          OnlyRegs [MEM.PASS_SRAM] s { t with memu := s.memu }) ∧
      (s.is MEM.STAT_MIGRATING = false → 8000 * words.toNat ≤ (τ - s.memu.patrolAt) * s.rd MEM.PATROL_GRATE → words ≠ 0 →
        Answers (exec (.patrolScrub false words τ) s) fun t =>
          t.memu = { s.memu with patrolAt := τ,
                                 patrol := if s.memTop ≤ s.memu.patrol + 8 * words.toNat then 0 else s.memu.patrol + 8 * words.toNat } ∧
          t.rd MEM.PASS_GDDR7 =
            (if s.memTop ≤ s.memu.patrol + 8 * words.toNat then (s.rd MEM.PASS_GDDR7 + 1) % 2 ^ 16 else s.rd MEM.PASS_GDDR7) ∧
          OnlyRegs [MEM.PASS_GDDR7] s { t with memu := s.memu })) ∧
    (∀ (words : Word) (k : Nat) (f : WFault), s.memu.faults = [(k, f)] → s.memu.crc = [] → words ≠ 0 →
      s.is MEM.STAT_MIGRATING = false → 8000 * words.toNat ≤ (τ - s.memu.patrolAt) * s.rd MEM.PATROL_GRATE →
      s.memu.patrol + 8 * words.toNat < s.memTop → s.memu.patrol / 8 ≤ k → 8 * k < s.memu.patrol + 8 * words.toNat → k < 2 ^ 37 →
      let r := s.gddrChannel (8 * k)
      (f.poison = false → f.flips.length ≤ 2 → Answers (exec (.patrolScrub false words τ) s) fun t =>
        t.memu.faults = [] ∧ t.rd (MEMR.CE r) = min (s.rd (MEMR.CE r) + 1) (2 ^ 32 - 1) ∧ t.mems = s.mems) ∧
      (f.poison = true ∨ 2 < f.flips.length → Answers (exec (.patrolScrub false words τ) s) fun t =>
        t.memu.faults = [(k, { f with poison := true })] ∧ t.rd (MEMR.UE r) = min (s.rd (MEMR.UE r) + 1) (2 ^ 32 - 1) ∧
        t.mems = s.mems)) ∧
    (let bad := s.is MEM.SCRUB_STAT_BUSY = true ∨ 48 < s.rd MEM.SCRUB_CTL_TARGET ∨
        (s.rd MEM.SCRUB_CTL_TARGET = 0 ∧ s.is MEM.STAT_MIGRATING = true)
     (bad → Answers (exec (.scrubGo τ) s) fun t => t.rd MEM.SCRUB_STAT_REJ = 1 ∧ OnlyRegs [MEM.SCRUB_STAT_REJ] s t) ∧
     (¬bad → Answers (exec (.scrubGo τ) s) fun t => ∃ c : Scrub,
       t.memu = { s.memu with scrub := some c } ∧ t.rd MEM.SCRUB_STAT_BUSY = 1 ∧ c.target = s.rd MEM.SCRUB_CTL_TARGET ∧
       c.addr = (s.rd MEM.SCRUB_ADDR_LO_ADDR + 2 ^ 32 * s.rd MEM.SCRUB_ADDR_HI_ADDR) / 64 * 64 ∧
       c.len = (s.rd MEM.SCRUB_LEN_LO_LEN + 2 ^ 32 * s.rd MEM.SCRUB_LEN_HI_LEN) / 64 * 64 ∧
       c.rate = max 1 (s.rd MEM.SCRUB_CTL_RATE) ∧ c.start = max s.now τ ∧
       OnlyRegs [MEM.SCRUB_STAT_BUSY] s { t with memu := s.memu })) ∧
    (∀ c, s.memu.scrub = some c →
      let ends (n : Nat) (t : State) : Prop :=
        t.memu.scrub = none ∧ t.rd MEM.SCRUB_STAT_DONE = 1 ∧ t.rd MEM.SCRUB_STAT_BUSY = 0 ∧
        t.rd MEM.SCRUB_WORDS_LO_WORDS + 2 ^ 32 * t.rd MEM.SCRUB_WORDS_HI_WORDS = n / 8 % 2 ^ 64 ∧
        (s.clean → t.rd MEM.SCRUB_CE_CE = 0 ∧ t.rd MEM.SCRUB_UE_UE = 0 ∧
          t.rd MEM.SCRUB_WORST_LO_WORST = 2 ^ 32 - 1 ∧ t.rd MEM.SCRUB_WORST_HI_WORST = 2 ^ 32 - 1 ∧
          t.memu = { s.memu with scrub := none } ∧
          OnlyRegs [MEM.SCRUB_STAT_DONE, MEM.SCRUB_STAT_BUSY, MEM.SCRUB_WORDS_LO_WORDS, MEM.SCRUB_WORDS_HI_WORDS, MEM.SCRUB_CE_CE,
            MEM.SCRUB_UE_UE, MEM.SCRUB_WORST_LO_WORST, MEM.SCRUB_WORST_HI_WORST] s { t with memu := s.memu, events := s.events })
      (c.start + ceilDiv (1000 * s.scrubBytes c) c.rate ≤ τ → Answers (exec (.scrubDone τ) s) (ends (s.scrubBytes c))) ∧
      (∀ words : Word, Answers (exec (.scrubAbort words τ) s)
        (ends (min (min (8 * words.toNat) (s.scrubBytes c)) ((τ - c.start) * c.rate / 1000 / 8 * 8 + 8))))) ∧
    (s.is MEM.STAT_MIGRATING = true → s.clean →
      (1 < s.rd MEM.MIGR_LEFT → s.rd MEM.MIGR_LEFT ≤ 2 ^ 32 → Answers (exec (.granuleMigrate τ) s) fun t =>
        t.memu = { s.memu with copied := s.memu.copied + 1 } ∧ t.rd MEM.MIGR_LEFT = s.rd MEM.MIGR_LEFT - 1 ∧
        OnlyRegs [MEM.MIGR_LEFT] s { t with memu := s.memu }) ∧
      (s.rd MEM.MIGR_LEFT ≤ 1 → Answers (exec (.granuleMigrate τ) s) fun t =>
        t.memu = { s.memu with copied := s.memu.copied + 1, patrol := 0, patrolAt := τ } ∧ t.rd MEM.MIGR_LEFT = 0 ∧
        t.rd MEM.STAT_MIGRATING = 0 ∧
        OnlyRegs [MEM.MIGR_LEFT, MEM.STAT_MIGRATING] s { t with memu := s.memu, events := s.events })) ∧
    (∀ ch : Fin 4, ch.val ∈ s.memu.margin →
      let left := s.memu.margin.filter (fun c => c != ch.val)
      Answers (exec (.marginSwitch ch τ) s) fun t =>
        t.memu = { s.memu with margin := left } ∧
        (left = [] → t.rd MEM.STAT_BAND = s.rd THM.STAT_BAND % 8 ∧
          OnlyRegs [MEM.STAT_BAND] s { t with memu := s.memu, events := s.events }) ∧
        (left ≠ [] → OnlyRegs [] s { t with memu := s.memu }))

/-- R90, R114, R128, R143, R147, R151 to R157, R170: packets of a link that is not ACTIVE change nothing. With no epoch armed a FRAME_START
opens a frame in the slot that serves its pair, where that slot has none open; a line packet without a cut adds to the line being
received, which becomes the ready line with its last pixel or is lost where one is held; lines passed over, out of order, in another
format or beyond WIDTH count, and so do packets without a frame; up to four embedded lines are kept; the datapath serves the ready
lines of a pipeline in turn; a FRAME_END or a timeout closes the frame; the fill line that fell due first and, with credit, a record
are written. -/
def Obligations.IngestFramesOpenFillAndClose : Prop :=
  ∀ (link c : Fin 24) (vc : Fin 4) (τ : Nat) (s : State),
    let x := s.ctx c
    (s.videoOn link = false → ∀ (num : Word) (tseq index fmt : BitVec 8) (valid : Bool) (w h : BitVec 16) (data : List Byte) (bad cut : Bool),
      ∀ i ∈ [Instr.frameStart link vc num tseq valid w h τ, .line link vc w h fmt data bad cut τ, .embedded link vc index data bad τ,
        .frameEnd link vc num w valid τ], exec i s = .next s) ∧
    (∀ (num : Word) (tseq : BitVec 8) (valid : Bool) (w h : BitVec 16), s.videoOn link = true → s.epoch.armed = none →
      (∀ k, k < 24 → k ≠ c.val → ctxServes s.cfg k link vc = false ∧ ctxServes (s.ctx k).conf k link vc = false) →
      (ctxServes s.cfg c link vc = true → x.opened = none → Answers (exec (.frameStart link vc num tseq valid w h τ) s) fun t =>
        ∃ m : Machine.Frm, (t.ctx c).opened = some m ∧ m.num = num.toNat ∧ m.tseq = tseq.toNat ∧ m.link = link ∧ m.vc = vc ∧
          m.sof = s.devAt τ ∧ m.start = max s.now τ ∧ m.use = s.slotUse c ∧ m.lines = [] ∧ m.last = none ∧
          m.flags = 32 * b2n (decide (w.toNat ≠ m.conf (CTX.GEOM_WIDTH c) ∨ h.toNat ≠ m.conf (CTX.GEOM_HEIGHT c))) + 128 * b2n valid ∧
          t.rd (CTX.STAT_OPEN c) = 1 ∧ t.rd (LNK.SOF_TIME_TIME link) = s.devAt τ % 2 ^ 32 ∧ vc.val ∈ (t.link link).open_ ∧
          AMap.get 0 t.lastFrame (4 * link + vc) = num.toNat + 1 ∧ t.mems = s.mems ∧ ∀ k, k ≠ c.val → t.ctx k = s.ctx k) ∧
      (ctxServes s.cfg c link vc = false → ctxServes x.conf c link vc = false →
        Answers (exec (.frameStart link vc num tseq valid w h τ) s) fun t =>
          t.ctxs = s.ctxs ∧ t.rd (LNK.SOF_TIME_TIME link) = s.devAt τ % 2 ^ 32 ∧ t.mems = s.mems)) ∧
    (∀ (num ofs : BitVec 16) (fmt : BitVec 8) (data : List Byte) (bad cut : Bool), fmtValid fmt.toNat = false →
      exec (.line link vc num ofs fmt data bad cut τ) s = .next s) ∧
    (∀ (num ofs : BitVec 16) (fmt : BitVec 8) (data : List Byte) (bad cut : Bool), fmtValid fmt.toNat = true → s.videoOn link = true →
      s.servers link vc = [] → exec (.line link vc num ofs fmt data bad cut τ) s = .next (s.at τ)) ∧
    (s.videoOn link = true → s.servers link vc = [c.val] →
      (∀ (num ofs : BitVec 16) (fmt : BitVec 8) (data : List Byte) (bad cut : Bool), fmtValid fmt.toNat = true → x.opened = none →
        Answers (exec (.line link vc num ofs fmt data bad cut τ) s) fun t =>
          t.rd (CTX.CNT2_ORPHAN c) = min (s.rd (CTX.CNT2_ORPHAN c) + 1) 65535 ∧ t.ctx c = { x with orphan := true } ∧
          OnlyRegs [CTX.CNT2_ORPHAN c] s { t with ctxs := s.ctxs, events := s.events }) ∧
      (∀ (m : Machine.Frm) (num ofs : BitVec 16) (fmt : BitVec 8) (data : List Byte) (bad : Bool), fmtValid fmt.toNat = true → x.InFrame m →
        let px := pixelsOf fmt.toNat (data.map BitVec.toNat)
        let w := ctxW m.conf c
        let gap := num.toNat - m.nextLine
        let lost (t : State) (k : Nat) : Prop :=
          t.rd (CTX.CNT1_LOST_LINES c) = (if k = 0 then s.rd (CTX.CNT1_LOST_LINES c) else min (s.rd (CTX.CNT1_LOST_LINES c) + k) 65535)
        (∀ l, x.recv = some l → l.num = num.toNat → fmt.toNat = m.conf (CTX.SRC_FMT c) → (placePx l.px ofs.toNat px).length < w →
          px.length % 8 = 0 → Answers (exec (.line link vc num ofs fmt data bad false τ) s) fun t =>
            (t.ctx c).recv = some { l with px := placePx l.px ofs.toNat px, bad := l.bad || bad } ∧ lost t 0) ∧
        (x.recv = none → num.toNat < ctxH m.conf c → m.nextLine ≤ num.toNat → ofs = 0 →
          (fmt.toNat ≠ m.conf (CTX.SRC_FMT c) → Answers (exec (.line link vc num ofs fmt data bad false τ) s) fun t =>
            lost t (gap + 1) ∧ (t.ctx c).recv = none ∧ (t.ctx c).ready = x.ready) ∧
          (fmt.toNat = m.conf (CTX.SRC_FMT c) → px.length < w → px.length % 8 = 0 →
            Answers (exec (.line link vc num ofs fmt data bad false τ) s) fun t =>
              (t.ctx c).recv = some { num := num.toNat, px := px, bad := bad } ∧ lost t gap) ∧
          (fmt.toNat = m.conf (CTX.SRC_FMT c) → w ≤ px.length → x.ready = none → x.injDrop = false →
            Answers (exec (.line link vc num ofs fmt data bad false τ) s) fun t =>
              (t.ctx c).recv = none ∧ (t.ctx c).ready = some (m.serial, num.toNat, { px := px.take w, dam := bad, at_ := t.dev }) ∧
              lost t gap) ∧
          (fmt.toNat = m.conf (CTX.SRC_FMT c) → w ≤ px.length → x.ready.isSome = true →
            Answers (exec (.line link vc num ofs fmt data bad false τ) s) fun t =>
              (t.ctx c).recv = none ∧ (t.ctx c).ready = x.ready ∧ lost t (gap + 1) ∧
              t.rd (CTX.CNT3_LINEBUF_OVF c) = min (s.rd (CTX.CNT3_LINEBUF_OVF c) + 1) 65535)) ∧
        (x.recv = none → s.isTail c m num.toNat ofs.toNat = true → Answers (exec (.line link vc num ofs fmt data bad false τ) s) fun t =>
          t.rd (CTX.CNT2_LINE_WIDTH c) = (if x.tail = some (num.toNat, true) then s.rd (CTX.CNT2_LINE_WIDTH c)
            else min (s.rd (CTX.CNT2_LINE_WIDTH c) + 1) 65535) ∧ t.ctx c = { x with tail := some (num.toNat, true) } ∧
          OnlyRegs [CTX.CNT2_LINE_WIDTH c] s { t with ctxs := s.ctxs, events := s.events }) ∧
        (x.recv = none → s.isTail c m num.toNat ofs.toNat = false → num.toNat < ctxH m.conf c → num.toNat < m.nextLine →
          Answers (exec (.line link vc num ofs fmt data bad false τ) s) fun t =>
            t.rd (CTX.CNT2_ORPHAN c) = min (s.rd (CTX.CNT2_ORPHAN c) + 1) 65535 ∧ t.ctxs = s.ctxs)) ∧
      (∀ (index : BitVec 8) (data : List Byte) (mark : Bool) (m : Machine.Frm), x.InFrame m →
        (m.emb.length < 4 → m.emb.any (fun e => e.1 == index.toNat) = false →
          Answers (exec (.embedded link vc index data mark τ) s) fun t =>
            t.frm c m.serial = { m with emb := m.emb ++ [(index.toNat, (data.map BitVec.toNat).take 4096, mark)] } ∧
            OnlyRegs [] s { t with ctxs := s.ctxs }) ∧
        (4 ≤ m.emb.length → exec (.embedded link vc index data mark τ) s = .next (s.at τ))) ∧
      (∀ (num : Word) (lines : BitVec 16) (ovf : Bool), (s.link link).injEnd = false →
        (x.opened = none → Answers (exec (.frameEnd link vc num lines ovf τ) s) fun t =>
          t.rd (CTX.CNT2_ORPHAN c) = min (s.rd (CTX.CNT2_ORPHAN c) + 1) 65535 ∧ t.ctx c = { x with orphan := false }) ∧
        (∀ m, x.InFrame m → Answers (exec (.frameEnd link vc num lines ovf τ) s) fun t =>
          FrameClosed s t c m lines.toNat ∧ vc.val ∉ (t.link link).open_ ∧
          t.rd (CTX.CNT4_FNUM_MISMATCH c) =
            (if num.toNat = m.num then s.rd (CTX.CNT4_FNUM_MISMATCH c) else min (s.rd (CTX.CNT4_FNUM_MISMATCH c) + 1) 255)))) ∧
    (∀ m, x.InFrame m →
      (m.start + 1000000 * max 1 (m.conf (CTX.FILL_TMO c)) ≤ τ → Answers (exec (.frameTimeout c τ) s) fun t =>
        FrameClosed s t c m 0 ∧ m.vc ∉ (t.link m.link).open_ ∧
        ∀ z ∈ (t.ctx c).frames, z.serial = m.serial → z.flags.testBit 3 = true) ∧
      (τ < m.start + 1000000 * max 1 (m.conf (CTX.FILL_TMO c)) → exec (.frameTimeout c τ) s = .next s)) ∧
    (∀ (idle : Bool) (p : Fin 12), (s.ctx (2 * p)).ready = none → (s.ctx (2 * p + 1)).ready = none →
      exec (.datapathTurn p idle τ) s = .next s) ∧
    (∀ (p : Fin 12) (i : Fin 2) (k n : Nat) (l : RLine) (m : Machine.Frm), c.val = 2 * p.val + i.val → x.ready = some (k, n, l) →
      (s.ctx (2 * p.val + (1 - i.val))).ready = none ∨ s.rd (ING.PSTAT_LAST p) = 1 - i.val →
      x.frames.find? (fun z => z.serial == k) = some m → m.closed = none → s.clean →
      Answers (exec (.datapathTurn p false τ) s) fun t =>
        t.rd (ING.PSTAT_LAST p) = i.val ∧ (t.ctx c).ready = none ∧ OtherSlotsKept s t c ∧
        (t.frm c k).lines = AMap.set m.lines n
          { l with px := if l.dam = true ∧ m.conf (CTX.SRC_BADFILL c) = 1 then l.px.map fun _ => none else l.px }) ∧
    (∀ (r : Fin 4) (m : Machine.Frm), x.frames.find? (fun z => rgnOn z.conf c r && !z.done.contains r.val) = some m →
      x.frames.find? (fun z => z.serial == m.serial) = some m →
      (m.closed = none → (((s.at τ).fillDue c).ctx (c.val / 2 * 2)).fillQ.head? = some (4 * c.val + r.val) →
        Answers (exec (.fillLineWrite c r τ) s) fun t =>
          AMap.get 0 m.rgn r < AMap.get 0 (t.frm c m.serial).rgn r ∧ OtherSlotsKept s t c) ∧
      (∀ i, rgnH m.conf c r ≤ AMap.get 0 m.rgn r → m.endAt.isSome = true → s.rgnFlue m c r = some i → m.mute.contains r.val = false →
        s.flueCredit m.gen i = true → r ≠ 0 ∨ m.embOut.contains 0 = true ∨ m.emb = [] →
        Answers (exec (.frameRecordWrite c r τ) s) fun t =>
          (∀ z ∈ (t.ctx c).frames, z.serial = m.serial → r.val ∈ z.done) ∧
          (s.flue m.gen i).claimed < (t.flue m.gen i).claimed ∧ OtherSlotsKept s t c))

/-- R230 to R233: a swap exchanges register and save, a written value replaces the register, a reset latches the result and loads the
initial value, under the active configuration and bound to the flue it names unless a region has the unit; the result register follows. -/
def Obligations.CheckUnitsSwapResetAndLatch : Prop :=
  ∀ (n : Fin 16) (s : State),
    let u := (s.chkUnit n).use
    (Answers (exec (.chkSwap n) s) fun t =>
      t.rd (CHK.VALUE n) = s.rd (CHK.SAVE n) % 2 ^ 32 ∧ t.rd (CHK.SAVE n) = s.rd (CHK.VALUE n) % 2 ^ 32 ∧
      t.rd (CHK.RESULT n) = chkResult u n (t.rd (CHK.VALUE n)) % 2 ^ 32 ∧ OnlyRegs [CHK.VALUE n, CHK.SAVE n, CHK.RESULT n] s t) ∧
    (∀ v : Word, Answers (exec (.chkValueWrite n v) s) fun t =>
      t.rd (CHK.VALUE n) = v.toNat ∧ t.rd (CHK.RESULT n) = chkResult u n v.toNat % 2 ^ 32 ∧
      OnlyRegs [CHK.VALUE n, CHK.RESULT n] s t) ∧
    (let f := if s.chkOfRegion n then u else s.snapshot (0xC0000 + 0x40 * n) (0xC0000 + 0x40 * n + 0x40)
     Answers (exec (.chkReset n) s) fun t =>
       t.rd (CHK.LAST n) = chkResult u n (s.rd (CHK.VALUE n)) % 2 ^ 32 ∧ t.rd (CHK.COUNT n) = 0 ∧
       t.rd (CHK.VALUE n) = useGet f (CHK.INIT n) % 2 ^ chkWidth f n ∧
       t.chkUnit n = { s.chkUnit n with
         use := f
         flue := if s.chkOfRegion n then (s.chkUnit n).flue
           else if s.cfg (CHK.SRC_VALID n) = 1 then some (s.graph.gen, s.cfg (CHK.SRC_FLUE n)) else none } ∧
       (∀ k, k ≠ n.val → t.chkUnit k = s.chkUnit k) ∧
       OnlyRegs [CHK.LAST n, CHK.COUNT n, CHK.VALUE n, CHK.RESULT n] s { t with chk := s.chk })

/-- R239 to R244, R247, R248, R250, R251, R254, over memories without errors: a line item of an input goes into the buffer of its frame, or
marks the frame; a frame record accepts or rejects its frame; rows are decided in order, each with the nearest accepted frame of every
input, closed ones before forced ones; the next row of the backlog, with no item ahead of it, becomes an item that waits for credit, or
with credit goes out, advances NEXT and joins the strip; with DIR at 1 nothing is computed; a strip without a new row for STRIP_TMO ms
closes with its record once credit allows. -/
def Obligations.SwathsDecideAndEmitRowsInOrder : Prop :=
  ∀ (w : Fin 2) (τ : Nat) (s : State) (d : SwDesc), (s.swath w).active = some d → s.clean →
    let x := s.swath w
    (∀ (i : Fin 16) (gen f j : Nat) (it : Item), i.val < d.inputs.length →
      let s1 := s.endpointCatch (3 * 4096 + 16 * w.val + i.val) τ
      s1.clean → s1.endpointNext (3 * 4096 + 16 * w.val + i.val) = some (gen, f, j, it) →
      let b := s1.memBytes (s1.flueDef gen f).mem ((s1.flueDef gen f).slot it.seq + 8) it.len
      let fl := b.getD 7 0
      let num := leAt b 0 4
      (s1.itemIsRec gen f it = false →
        (fl.testBit 2 = true → Answers (exec (.swathLineItem w i τ) s) fun t => t.swaths = s.swaths ∧ t.mems = s1.mems) ∧
        (fl.testBit 2 = false → (x.input i).cur = none → x.injFull = false →
          (x.input i).freeBuf (d.inputs.getD i {}).nbuf = none → b.length ≠ 0 →
          Answers (exec (.swathLineItem w i τ) s) fun t => t.mems = s1.mems ∧ (t.swath w).input i = { x.input i with
            cur := some { num := num, full := true, len := b.length, win := (b.length - 8) / (d.ch * (if fl.testBit 3 then 1 else 2)) } }) ∧
        (∀ fr : SwFrame, fl.testBit 2 = false → (x.input i).cur = some fr → fr.num = num → fr.full = false → fr.big = false → fr.len ≠ 0 →
          let line := leAt b 4 2
          let row := d.ch * fr.win * 2
          let px := if fl.testBit 3 then (b.drop 8).flatMap (fun y => [0, y]) else b.drop 8
          let a := d.sampleAt i fr 0 line 0
          ((d.inputs.getD i {}).bytes < line * row + row → Answers (exec (.swathLineItem w i τ) s) fun t =>
            (t.swath w).input i = { x.input i with cur := some { fr with big := true } } ∧ t.mems = s1.mems) ∧
          (line * row + row ≤ (d.inputs.getD i {}).bytes → fl.testBit 0 = true ∨ b.length ≠ fr.len →
            Answers (exec (.swathLineItem w i τ) s) fun t =>
              (t.swath w).input i = { x.input i with cur := some { fr with lines := AMap.set fr.lines line true } } ∧ t.mems = s1.mems) ∧
          (line * row + row ≤ (d.inputs.getD i {}).bytes → fl.testBit 0 = false → b.length = fr.len →
            Answers (exec (.swathLineItem w i τ) s) fun t =>
              (t.swath w).input i = { x.input i with cur := some { fr with lines := AMap.set fr.lines line false } } ∧
              t.memBytes .gddr a (min row px.length) = px.take row ∧ KeepsBytes .gddr a (min row px.length) s1 t))) ∧
      (s1.itemIsRec gen f it = true → x.injFull = false →
        let rcd := b.drop 8
        let y := x.input i
        let f0 := y.frameOf num
        let fr : SwFrame := { f0 with fault := f0.fault || (leAt rcd 6 2).testBit 8, hin := leAt rcd 26 2 }
        let trig := ((s1.frameTag (4 * rcd.getD 4 0 + rcd.getD 5 0 % 4) (leAt rcd 0 4)).bind (·.trig)).map fun r => (r, (s1.at τ).trigPos r)
        (∀ r, x.reject d i fr trig = some r → Answers (exec (.swathFrameRecord w i τ) s) fun t =>
          (t.swath w).input i = { y with cur := none } ∧
          AMap.get 0 (t.swath w).cnt (7 + r) = min (AMap.get 0 x.cnt (7 + r) + 1) 65535 ∧ t.mems = s1.mems) ∧
        (∀ e, x.reject d i fr trig = none → trig = some e → Answers (exec (.swathFrameRecord w i τ) s) fun t =>
          (t.swath w).input i = { cur := none, frames := y.frames ++ [{ fr with pf := e.2.1 }], hwa := some e.2.1 } ∧
          (t.swath w).cnt = x.cnt ∧ t.mems = s1.mems))) ∧
    (Answers (exec (.swathForceEval w τ) s) fun t => ∃ rows : List SwRow,
      (t.swath w).backlog = x.backlog ++ rows ∧ (t.swath w).dec = x.dec + rows.length ∧ (t.swath w).inputs = x.inputs ∧
      rows.map (·.k) = (List.range rows.length).map (fun i => x.dec + (i : Int)) ∧
      (∀ r ∈ rows, r.choice = (List.range d.inputs.length).map fun i => d.choose i (x.input i).frames r.k) ∧
      x.rowsClosed d ≤ rows.length ∧ (∀ r ∈ rows.take (x.rowsClosed d), r.forced = false) ∧
      (∀ r ∈ rows.drop (x.rowsClosed d), r.forced = true) ∧
      (x.rowsClosed d = 0 → rows.length = (s.at τ).swForced w d) ∧ t.mems = s.mems) ∧
    (∀ (r : SwRow) (rest : List SwRow), x.outq = [] → x.backlog = r :: rest →
      (s.is (AX.STAT_DIR d.axis) = true → exec (.rowCompute w τ) s = .next s) ∧
      (∀ f, s.is (AX.STAT_DIR d.axis) = false → (s.graphOf s.graph.gen).swathOut w = some f →
        (s.flueCredit s.graph.gen f = false → Answers (exec (.rowCompute w τ) s) fun t => ∃ o : SwOut,
          (t.swath w).outq = [o] ∧ (t.swath w).backlog = rest ∧ o.k = some r.k ∧ o.pos = uwrap 64 (d.rowPos r.k) ∧
          o.flags.testBit 2 = r.forced ∧ o.flags.testBit 3 = r.fast ∧ (t.swath w).next = x.next ∧ (t.swath w).strip = x.strip ∧
          (t.swath w).num = x.num ∧ t.mems = s.mems) ∧
        (s.flueCredit s.graph.gen f = true → d.itemLen + 8 ≤ (s.flueDef s.graph.gen f).bytes →
          Answers (exec (.rowCompute w τ) s) fun t =>
            (t.swath w).backlog = rest ∧ (t.swath w).next = r.k + 1 ∧
            AMap.get 0 (t.swath w).cnt 1 = min (AMap.get 0 x.cnt 1 + 1) (2 ^ 32 - 1) ∧
            (s.flue s.graph.gen f).claimed < (t.flue s.graph.gen f).claimed ∧
            (x.strip.rows + 1 < d.rows → (t.swath w).outq = [] ∧ (t.swath w).strip.rows = x.strip.rows + 1 ∧
              (t.swath w).num = x.num)))) ∧
    (x.strip.rows ≠ 0 → x.rowAt + 1000000 * max 1 d.tmo ≤ τ → x.outq = [] →
      (∀ f, (s.graphOf s.graph.gen).swathOut w = some f → s.flueCredit s.graph.gen f = true →
        80 ≤ (s.flueDef s.graph.gen f).bytes → Answers (exec (.stripTimeout w τ) s) fun t =>
          (t.swath w).strip = {} ∧ (t.swath w).num = (x.num + 1) % 2 ^ 32 ∧ (t.swath w).backlog = x.backlog ∧
          AMap.get 0 (t.swath w).cnt 0 = min (AMap.get 0 x.cnt 0 + 1) (2 ^ 32 - 1)) ∧
      (∀ f, (s.graphOf s.graph.gen).swathOut w = some f → s.flueCredit s.graph.gen f = false →
        Answers (exec (.stripTimeout w τ) s) fun t =>
          (t.swath w).outq = [{ rcd := true, wpx := d.w }] ∧ (t.swath w).strip = x.strip ∧ t.mems = s.mems)) ∧
    (x.strip.rows = 0 → exec (.stripTimeout w τ) s = .next s)

/-- R323 to R334, R336, R340, R341, R343, R345: with no erase about to start, a recorder input writes a header unit and an entry for a frame
that finds recording on and room in its bucket, and drops a frame while the state is not RECORDING; the frame record brings the trailer;
an extent that has waited XTMO ms ends with a pad unit; page programs advance their extent, and a failed block abandons it; a due journal
page goes to three copies, and then COMMIT entries make their extents valid; a group that the writer needs is prepared for its erase, its
extents dead, and comes back erased or with a failed block; the readout, with the host link to itself, delivers the next unit or skips an
unreadable header, waits or ends; recovery with clean pages leaves valid and dead extents and the writer at an extent's start. -/
def Obligations.RecorderWritesKeepsAndReadsItsRing : Prop :=
  ∀ (τ : Nat) (s : State),
    let r := s.rcd
    (∀ (n : Fin 16) (gen f j : Nat) (it : Item), s.pwr.st = .up → r.erase ≠ .ready →
      let s1 := s.endpointCatch (5 * 4096 + n.val) τ
      s1.clean → s1.endpointNext (5 * 4096 + n.val) = some (gen, f, j, it) →
      let b := s1.memBytes (s1.flueDef gen f).mem ((s1.flueDef gen f).slot it.seq + 8) it.len
      let entry (k : Nat) := leBytes 4 b.length ++ leBytes 4 k ++ b ++ List.replicate ((8 - b.length % 8) % 8) 0
      ((s.rin n).cur = none → (s.rin n).drops = 0 → s1.itemIsRec gen f it = false → s.rd REC.STAT_STATE = 2 → s.on (IN.CFG_EN n) = true →
        s.rinMaxb n * 1000000 ≤ (s.at τ).rinBucket n → leAt b 4 2 ≠ 0xFFFF → 32 + (entry 0).length ≤ s.rinMaxb n - 136 →
        Answers (exec (.recorderItem n τ) s) fun t => ∃ h e : RUnit,
          t.rcd.units = r.units ++ [h, e] ∧ h.kind = 0 ∧ h.input = n.val ∧ h.rseq = r.rseq ∧ h.pos = r.wpos ∧ h.bytes.length = 32 ∧
          e.kind = 1 ∧ e.rseq = r.rseq ∧ e.pos = r.wpos + 32 ∧ e.bytes = entry 0 ∧ t.rcd.rseq = r.rseq + 1 ∧
          t.rcd.wpos = r.wpos + 32 + (entry 0).length ∧ t.mems = s1.mems) ∧
      ((s.rin n).cur = none → s.rd REC.STAT_STATE ≠ 2 → Answers (exec (.recorderItem n τ) s) fun t =>
        t.rcd.units = r.units ∧ t.rcd.wpos = r.wpos ∧ t.rd (IN.DROP n) = min (s.rd (IN.DROP n) + 1) (2 ^ 32 - 1) ∧
        (t.rin n).drops = (if s.on REC.CFG_EN = true ∧ s.on (IN.CFG_EN n) = true then (s.rin n).drops + 1 else (s.rin n).drops) ∧
        t.mems = s1.mems) ∧
      (∀ c : RRec, (s.rin n).cur = some c → c.open_ = true → c.num = leAt b 0 4 → s1.itemIsRec gen f it = true → leAt b 4 2 = 0xFFFF →
        c.wr + (entry c.count).length ≤ s.rinMaxb n - 136 → Answers (exec (.recorderItem n τ) s) fun t => ∃ e u : RUnit,
          t.rcd.units = r.units ++ [e, u] ∧ e.kind = 1 ∧ e.bytes = entry c.count ∧ e.rseq = c.rseq ∧ u.kind = 2 ∧ u.rseq = c.rseq ∧
          (t.rin n).cur = none ∧ t.rd (IN.REC n) = min (s.rd (IN.REC n) + 1) (2 ^ 32 - 1) ∧ t.mems = s1.mems)) ∧
    (∀ x, r.ext? (r.wpos / extBytes) = some x → x.closed = false → x.gone = false → r.wpos % extBytes ≠ 0 →
      r.wpos % extBytes + 4 ≤ extBytes → r.erase ≠ .ready →
      x.since + 1000000 * max 1 (s.cfg REC.CFG_XTMO) ≤ τ → Answers (exec (.extentTimeout τ) s) fun t =>
        t.rcd.wpos = (r.wpos / extBytes + 1) * extBytes ∧
        t.rcd.units = r.units ++ [{ pos := r.wpos, kind := 4, bytes := [0xFD, 0xFF, 0xFF, 0xFF],
                                    fill := extBytes - r.wpos % extBytes - 4 }] ∧
        ∀ z ∈ t.rcd.exts, z.eseq = x.eseq → z.closed = true) ∧
    (∀ e x, r.prog = some e → r.ext? e = some x → r.injFail = false → r.erase ≠ .ready →
      (Answers (exec (.nandProgramDone false τ) s) fun t => ∃ y, t.rcd.ext? e = some y ∧ y.pages = x.pages + 1 ∧
        y.full = (if x.pages + 1 = 64 then some τ else none) ∧
        (x.pages + 1 = 64 → s.rd REC.STAT_STATE = 3 → ∃ c ∈ t.rcd.jq, c.ty = 1 ∧ c.a = e)) ∧
      (AMap.get 0 r.spares (x.pages % 16) < 48 → Answers (exec (.nandProgramDone true τ) s) fun t =>
        (∀ z, t.rcd.ext? e = some z → z.gone = true) ∧ t.rd REC.CNT_PROG_FAIL = min (s.rd REC.CNT_PROG_FAIL + 1) 65535 ∧
        AMap.get 0 t.rcd.spares (x.pages % 16) = AMap.get 0 r.spares (x.pages % 16) + 1)) ∧
    (r.jq ≠ [] → r.jAt + 10000000 ≤ τ →
      (s.rd REC.STAT_STATE = 3 → Answers (exec (.journalPageTimeout τ) s) fun t => t.rcd.jDue = true ∧ t.rcd.jq = r.jq) ∧
      ((s.at τ).recEval.recHeld = false → r.jprog = none → Answers (exec (.journalPageTimeout τ) s) fun t => ∃ p,
        t.rcd.jprog = some p ∧ p.slot = r.jslot ∧ p.done = 0 ∧ p.page.gen = r.jgen ∧ t.rcd.jslot = (r.jslot + 1) % 2048 ∧
        t.rcd.jgen = r.jgen + 1)) ∧
    (∀ p, r.jprog = some p → p.run = true → r.injSplit = false → (AMap.get [none, none, none] r.slots p.slot).length = 3 →
      (p.done < 2 → Answers (exec (.journalProgramDone τ) s) fun t =>
        t.rcd.jprog = some { p with done := p.done + 1, run := !(s.at τ).recEval.recHeld } ∧
        (AMap.get [] t.rcd.slots p.slot).getD p.done none =
          some { p.page with ents := p.page.ents.map fun e => { e with cmd := none, own := false } }) ∧
      (p.done = 2 → Answers (exec (.journalProgramDone τ) s) fun t => ∀ e ∈ p.page.ents, e.ty = 1 → ∀ z, t.rcd.ext? e.a = some z →
        z.valid = (z.full.isSome && !z.gone))) ∧
    (∀ g, let u := (s.at τ).recEval
      u.rd REC.STAT_STATE = 2 → u.recHeld = false → u.rcd.needsErase = true → 2 ^ 64 ≤ u.rcd.wear → u.nextGroup = some g →
      Answers (exec (.groupErase τ) s) fun t =>
        t.rcd.erase = .journal ∧ t.rcd.eraseG = g ∧ t.rcd.lastG = some g ∧ (∀ x ∈ t.rcd.inGroup g, x.valid = false ∧ x.gone = true) ∧
        t.mems = s.mems) ∧
    (∀ (die : Fin 16), r.erase = .running →
      (Answers (exec (.groupEraseDone false die τ) s) fun t =>
        t.rcd.erase = .idle ∧ (t.rcd.ahead = some r.eraseG ∨ t.rcd.fill = some (r.eraseG, 1)) ∧ t.rcd.units = r.units) ∧
      (Answers (exec (.groupEraseDone true die τ) s) fun t =>
        t.rcd.erase = .idle ∧ t.rd REC.CNT_PROG_FAIL = min (s.rd REC.CNT_PROG_FAIL + 1) 65535 ∧ t.rcd.units = r.units)) ∧
    (r.read = none → exec (.readoutItem [] τ) s = .next s) ∧
    (∀ c : RRead, r.read = some c → c.queue < 62 →
      (r.nextRead c = none → c.follow = false → Answers (exec (.readoutItem [] τ) s) fun t =>
        t.rcd = { r with read := none } ∧ t.rd REC.RD_STAT_STATE = 0 ∧ t.mems = s.mems) ∧
      (r.nextRead c = none → c.follow = true → Answers (exec (.readoutItem [] τ) s) fun t =>
        t.rd REC.RD_STAT_STATE = 2 ∧ OnlyRegs [REC.RD_STAT_STATE] s t) ∧
      (∀ (u : RUnit) (a : Nat × Nat × Nat) (rest : List (Nat × Nat × Nat)), r.nextRead c = some u → s.hostUp = true → s.hostBusy = false → c.at_ ≤ τ →
        c.rate ≠ 0 → (c.follow = true → u.kind = 3) → (s.dq c.queue).credits = a :: rest →
        (r.injUe = false → Answers (exec (.readoutItem [] τ) s) fun t => ∃ y : RRead, t.rcd.read = some y ∧
          y.pos = u.pos + u.size ∧ y.begun = true ∧ y.skip = 0 ∧ t.rd REC.RD_NREC_NREC = (s.rd REC.RD_NREC_NREC + 1) % 2 ^ 32 ∧
          t.rd REC.RD_STAT_STATE = 1 ∧ (t.dq c.queue).credits = rest) ∧
        (r.injUe = true → u.kind = 0 → Answers (exec (.readoutItem [] τ) s) fun t =>
          let n := r.after (u.pos / extBytes)
          t.rcd.read = some { c with pos := n, skip := c.skip + (n - c.pos), begun := true } ∧ t.rcd.injUe = false ∧
          (t.dq c.queue).credits = a :: rest ∧ t.mems = s.mems))) ∧
    (s.rd REC.STAT_STATE ≠ 1 → ∀ ps, exec (.recorderRecovery ps τ) s = .next s) ∧
    (s.rd REC.STAT_STATE = 1 → Answers (exec (.recorderRecovery [] τ) s) fun t =>
      t.rcd.wpos = (r.wpos + extBytes - 1) / extBytes * extBytes ∧ (∀ x ∈ t.rcd.exts, x.valid = !x.gone) ∧
      (s.on REC.CFG_EN = false → t.rd REC.STAT_STATE = 0) ∧
      (s.on REC.CFG_EN = true → t.rd REC.STAT_STATE = (if t.rd REC.STAT_CAUSE = 0 then 2 else 3)) ∧ t.mems = s.mems)

/-- R348 to R352, R355 to R359, R495: a port follows its link; a message of another domain, or at a port that is down, changes nothing; in
FREE the first Sync of the preferred port steps device time; later Syncs give the offset and the state of the servo; Announces and
their absence select roles, and another grandmaster or lost Syncs give HOLDOVER; peer delay exchanges give asCapable; messages
leave at their intervals. -/
def Obligations.TimeFollowsTheGrandmaster : Prop :=
  ∀ (n : Fin 2) (τ : Nat) (s : State),
    let p := s.eth n
    let up := s.ethUp n
    (∀ rate : Fin 5,
      (s.is (ETH.CFG_EN n) = false → exec (.ethLink n rate τ) s = .next s) ∧
      (s.is (ETH.CFG_EN n) = true → s.evAwake = true → Answers (exec (.ethLink n rate τ) s) fun t =>
        t.rd (ETH.STAT_RATE_ACT n) = (if rate.val = 4 then 0 else rate.val) ∧
        t.rd (ETH.STAT_LINK n) = b2n (decide (rate.val ≠ 0 ∧ rate.val ≠ 4)) ∧ (rate.val = 0 ∨ rate.val = 4 → t.is (ETH.STAT_ASCAP n) = false) ∧
        OnlyRegs [ETH.STAT_RATE_ACT n, ETH.STAT_LINK n, ETH.STAT_ASCAP n] s { t with events := s.events })) ∧
    (up = true → Answers (exec (.ethFrameDiscard n τ) s) fun t =>
      t.rd (ETH.CNT0_RX_DISCARD n) = min (s.rd (ETH.CNT0_RX_DISCARD n) + 1) 65535 ∧ OnlyRegs [ETH.CNT0_RX_DISCARD n] s t) ∧
    (∀ (dom : BitVec 7) (seq : BitVec 16) (log : Byte) (two : Bool) (g : GmTime) (turn : Word) (nrr : Int) (out : Nat) (a b : Byte)
        (m : AnnounceMsg), s.ptpIn n dom = false → m.dom = dom →
      ∀ i ∈ [Instr.sync n dom seq log two g τ, .followUp n dom seq g τ, .announce n m τ, .pdelayReq n dom seq out τ,
        .pdelayResp n dom seq turn nrr τ, .signaling n dom a b τ], exec i s = .next s) ∧
    (∀ (dom : BitVec 7) (seq : BitVec 16), s.ptpIn n dom = true →
      let stamp := s.rxStamp n τ
      let offset (st : Nat) (g : GmTime) : Int := (st : Int) - ((g.origin : Int) + g.corr + (s.rd (ETH.PDELAY_DELAY n) : Nat))
      -- what an accepted Sync of the preferred port does
      let accepts (t : State) (o : Int) : Prop :=
        (t.eth n).syncAt = some (max s.now τ) ∧ (t.eth n).lost = false ∧
        (s.rd TIM.STAT_STATE = 0 → t.timeOfs = s.timeOfs - o ∧ t.rd TIM.STAT_STATE = 1 ∧ t.rd TIM.STAT_PORT = n ∧
          t.rd TIM.STAT_STEPGEN = (s.rd TIM.STAT_STEPGEN + 1) % 256) ∧
        (s.rd TIM.STAT_STATE ≠ 0 → t.timeOfs = s.timeOfs ∧ t.rd TIM.STAT_STEPGEN = s.rd TIM.STAT_STEPGEN) ∧
        (s.otherGm n = false → s.rd TIM.STAT_STATE ≠ 0 → s.rd TIM.STAT_STATE ≠ 4 →
          t.rd TIM.OFFSET_O = uwrap 32 (max (-2147483648) (min 2147483647 o)) ∧ t.rd TIM.STAT_PORT = n ∧
          (s.rd TIM.STAT_STATE = 3 → t.rd TIM.STAT_STATE = 1) ∧
          (s.rd TIM.STAT_STATE = 1 → t.rd TIM.STAT_STATE = (if o.natAbs ≤ s.rd TIM.SERVO_LOCKTH ∧ 7 ≤ s.time.near then 2 else 1)) ∧
          (s.rd TIM.STAT_STATE = 2 → t.rd TIM.STAT_STATE = (if s.rd TIM.SERVO_LOCKTH < o.natAbs ∧ 7 ≤ s.time.far then 1 else 2)))
      (∀ (log : Byte) (two : Bool) (g : GmTime),
        (s.timSource n = false → Answers (exec (.sync n dom seq log two g τ) s) fun t =>
          t.rd (ETH.CNT0_RX_PTP n) = min (s.rd (ETH.CNT0_RX_PTP n) + 1) 65535 ∧ t.rd (ETH.RXSTAMP_TIME n) = stamp % 2 ^ 32 ∧
          OnlyRegs [ETH.CNT0_RX_PTP n, ETH.RXSTAMP_TIME n] s t) ∧
        (s.timSource n = true → two = true → Answers (exec (.sync n dom seq log two g τ) s) fun t =>
          (t.eth n).pend = some (seq.toNat, stamp, g.corr) ∧ t.rd (ETH.INTV_SYNCLOG n) = log.toNat ∧
          t.rd (ETH.RXSTAMP_TIME n) = stamp % 2 ^ 32 ∧
          OnlyRegs [ETH.CNT0_RX_PTP n, ETH.RXSTAMP_TIME n, ETH.INTV_SYNCLOG n] s { t with time := s.time }) ∧
        (s.timSource n = true → two = false → s.timSrc = some n.val →
          Answers (exec (.sync n dom seq log two g τ) s) fun t => accepts t (offset stamp g))) ∧
      (∀ (g : GmTime) (q st : Nat) (c : Int), p.pend = some (q, st, c) →
        (q = seq.toNat → s.timSource n = true → s.timSrc = some n.val → Answers (exec (.followUp n dom seq g τ) s) fun t =>
          accepts t (offset st { g with corr := g.corr + c }) ∧ (t.eth n).pend = none) ∧
        (q ≠ seq.toNat → Answers (exec (.followUp n dom seq g τ) s) fun t =>
          t.rd (ETH.CNT0_RX_PTP n) = min (s.rd (ETH.CNT0_RX_PTP n) + 1) 65535 ∧ OnlyRegs [ETH.CNT0_RX_PTP n] s t)) ∧
      (∀ out, τ ≤ out → Answers (exec (.pdelayReq n dom seq out τ) s) fun t =>
        t.eth n = { p with sent := some (3, seq.toNat, s.txStamp n out) } ∧ t.rd (ETH.TXSTAMP_TIME n) = s.txStamp n out % 2 ^ 32 ∧
        t.rd (ETH.RXSTAMP_TIME n) = stamp % 2 ^ 32 ∧
        OnlyRegs [ETH.CNT0_RX_PTP n, ETH.RXSTAMP_TIME n, ETH.TXSTAMP_TIME n] s { t with time := s.time }) ∧
      (∀ (turn : Word) (nrr : Int) (tx : Nat), p.req = some (seq.toNat, tx) → p.injPd = false →
        Answers (exec (.pdelayResp n dom seq turn nrr τ) s) fun t =>
          t.eth n = { p with req := none, missed := 0 } ∧ t.is (ETH.STAT_ASCAP n) = decide (nrr.natAbs ≤ 200000 * 65536) ∧
          OnlyRegs [ETH.CNT0_RX_PTP n, ETH.RXSTAMP_TIME n, ETH.PDELAY_DELAY n, ETH.NRR n, ETH.STAT_ASCAP n] s
            { t with time := s.time, events := s.events }) ∧
      (∀ link sync : Byte, Answers (exec (.signaling n dom link sync τ) s) fun t =>
        t.eth n = { p with pdLog := if link = 128 then p.pdLog else if link = 126 then none else some link.toNat,
                           mute := if sync = 128 then p.mute else sync == 127 } ∧
        t.rd (ETH.INTV_SYNCLOG n) =
          (if sync = 128 ∨ sync = 127 then s.rd (ETH.INTV_SYNCLOG n) else if sync = 126 then 0xFD else sync.toNat) ∧
        OnlyRegs [ETH.CNT0_RX_PTP n, ETH.INTV_SYNCLOG n] s { t with time := s.time }) ∧
      (∀ m : AnnounceMsg, m.dom = dom → s.time.injGm = false → Answers (exec (.announce n m τ) s) fun t =>
        (t.eth n).gm = some m.gm.toNat ∧ (t.eth n).annAt = max s.now τ ∧ t.rd (ETH.STAT_ROLE_ACT n) = t.roleOf n % 4 ∧
        t.rd (ETH.CNT0_RX_PTP n) = min (s.rd (ETH.CNT0_RX_PTP n) + 1) 65535 ∧
        (m.gm.toNat ≠ s.timGm → s.rd TIM.STAT_PORT = n → s.rd TIM.STAT_STATE = 1 ∨ s.rd TIM.STAT_STATE = 2 →
          t.rd (ETH.STAT_ROLE_ACT 0) ≠ 2 → t.rd (ETH.STAT_ROLE_ACT 1) ≠ 2 → t.rd TIM.STAT_STATE = 3))) ∧
    (s.is (ETH.CFG_STATIC n) = false → p.vec.isSome = true → p.annAt + max 1 (s.rd (ETH.INTV_ANNTO n)) * logNs p.annLog ≤ τ →
      Answers (exec (.announceReceiptTimeout n τ) s) fun t =>
        (t.eth n).vec = none ∧ (t.eth n).gm = none ∧ t.rd (ETH.STAT_ROLE_ACT n) = t.roleOf n % 4) ∧
    (up = true → (∀ a, p.reqAt = some a → a + logNs (p.pdLog.getD (s.rd (ETH.INTV_PDLOG n))) ≤ τ) →
      (p.req = none → Answers (exec (.pdelayReqSend n τ) s) fun t =>
        t.eth n = { p with req := some (p.reqSeq, s.txStamp n τ), reqAt := some τ, reqSeq := (p.reqSeq + 1) % 65536,
                           sent := some (2, p.reqSeq, s.txStamp n τ) } ∧
        OnlyRegs [ETH.TXSTAMP_TIME n] s { t with time := s.time }) ∧
      (p.req.isSome = true → p.missed = 2 → Answers (exec (.pdelayReqSend n τ) s) fun t =>
        t.is (ETH.STAT_ASCAP n) = false ∧ t.rd (ETH.CNT1_PDELAY_LOST n) = min (s.rd (ETH.CNT1_PDELAY_LOST n) + 1) 65535 ∧
        (t.eth n).req = some (p.reqSeq, s.txStamp n τ) ∧ (t.eth n).missed = 3)) ∧
    (up = true → s.rd TIM.STAT_STATE = 4 → s.rd (ETH.STAT_ROLE_ACT n) = 2 → p.mute = false →
      (∀ a, p.sentAt = some a → a + logNs (s.rd (ETH.INTV_SYNCLOG n)) ≤ τ) → Answers (exec (.syncSend n τ) s) fun t =>
        t.eth n = { p with sentAt := some τ, syncSeq := (p.syncSeq + 1) % 65536, sent := some (0, p.syncSeq, s.txStamp n τ) } ∧
        t.rd (ETH.TXSTAMP_TIME n) = s.txStamp n τ % 2 ^ 32 ∧ OnlyRegs [ETH.TXSTAMP_TIME n] s { t with time := s.time }) ∧
    (∀ a, p.syncAt = some a → p.lost = false → a + max 1 (s.rd (ETH.INTV_SYNCTO n)) * logNs (s.rd (ETH.INTV_SYNCLOG n)) ≤ τ →
      Answers (exec (.syncTimeout n τ) s) fun t =>
        (t.eth n).lost = true ∧ t.rd (ETH.CNT1_SYNC_TMO n) = min (s.rd (ETH.CNT1_SYNC_TMO n) + 1) 65535 ∧
        (s.rd TIM.STAT_PORT = n → s.rd TIM.STAT_STATE = 1 ∨ s.rd TIM.STAT_STATE = 2 → s.timSource (1 - n.val) = false →
          t.rd TIM.STAT_STATE = 3 ∧ t.time.holdAt = max s.now τ) ∧
        (s.rd TIM.STAT_PORT ≠ n → t.rd TIM.STAT_STATE = s.rd TIM.STAT_STATE)) ∧
    (∀ g, p.gm = some g → s.rd TIM.STAT_PORT = n → s.rd TIM.STAT_STATE = 3 → s.otherGm n = true →
      s.time.holdAt + 1000000000 * s.rd TIM.SERVO2_SETTLE ≤ τ → Answers (exec (.gmSettle τ) s) fun t =>
        t.timGm = g % 2 ^ 64 ∧ t.rd TIM.STAT_STATE = 3 ∧ (t.eth n).isNew = false ∧
        OnlyRegs [TIM.GM_LO_GM, TIM.GM_HI_GM] s { t with time := s.time, events := s.events }) ∧
    (∀ ref, s.is (ETH.CFG_EN n) = true → s.is SYS.PWR_STAT_VIO_OK = true → s.pwr.vioAt + 10000000 ≤ τ → ref + 10000000 ≤ τ →
      Answers (exec (.ethResetRelease n ref τ) s) fun t =>
        t.eth n = { p with rstN := true } ∧ OnlyRegs [] s { t with time := s.time })

/-- R393, R394, R401 to R404, R408 to R414: a TW_XFER refuses a bad port, kind, length, fence or busy port, or starts its transaction and
keeps running; the end of a transaction on a carrier-board port, a timeout and a bus clear give the code of R403; STP serves the
SMBus subset while it answers, refuses a bad PEC, keeps one command, counts abandoned transactions and wakes the module. -/
def Obligations.TwoWirePortsAndTheTargetPort : Prop :=
  ∀ (τ : Nat) (s : State),
    (∀ (pkt : Cmd) (k : Nat) (row : Instr),
      (k, row) ∈ [(0, Instr.twWrite pkt τ), (1, .twRead pkt τ), (2, .twWriteRead pkt τ), (3, .twBlockWrite pkt τ), (4, .twBlockRead pkt τ)] →
      let c := cmdPkt pkt 0x0901 τ
      let p := bitsOf (c.arg 0) 0 5
      let wn := bitsOf (c.arg 0) 16 6
      let rn := bitsOf (c.arg 0) 24 5
      s.Takes c [0, 1, 2, 3, 4, 5, 6, 7, 8, 9] → c.arg 1 / 16 = 0 ∨ c.arg 1 / 16 = 16 →
      (25 < p → RepliesOnly (exec row s) s τ c (.err 0x0201 0)) ∧
      (∀ i, p ≤ 25 → twKindBad k wn rn = some i → RepliesOnly (exec row s) s τ c (.err 0x0201 i)) ∧
      (p ≤ 25 → twKindBad k wn rn = none → s.twFenced p = true → Replies (exec row s) c (.err 0x0A03 8) fun u =>
        u.rd (TWB.STAT_LASTERR p) = 8 ∧ u.rd (TWB.CNT0_XFER p) = min (s.rd (TWB.CNT0_XFER p) + 1) 65535 ∧
        OnlyRegs [TWB.STAT_LASTERR p, TWB.CNT0_XFER p] s u) ∧
      (p < 24 → twKindBad k wn rn = none → s.twFenced p = false → s.bcAvailable p = false →
        RepliesOnly (exec row s) s τ c (.err 0x0A02 p)) ∧
      (p ≤ 25 → twKindBad k wn rn = none → s.twFenced p = false → (p < 24 → s.bcAvailable p = true) → (s.twp p).cur.isSome = true →
        RepliesOnly (exec row s) s τ c (.err 0x0302 0)) ∧
      (p ≤ 25 → twKindBad k wn rn = none → s.twFenced p = false → (p < 24 → s.bcAvailable p = true) → (s.twp p).cur = none →
        (s.twp p).injNack = false → (s.twp p).injScl = false → Answers (exec row s) fun t => ∃ x : TwXfer,
          (t.twp p).cur = some x ∧ x.kind = k ∧ x.addr = bitsOf (c.arg 0) 8 7 ∧ x.pec = (c.arg 1).testBit 8 ∧ x.rn = rn ∧
          x.wr = (((List.range 8).flatMap fun i => leBytes 4 (c.arg (2 + i))).take wn) ∧ t.rd (TWB.STAT_BUSY p) = 1 ∧
          t.cmd.running = s.cmd.running ++ [c] ∧ OnlyRegs [TWB.STAT_BUSY p] s { t with tw := s.tw, cmd := s.cmd, links := s.links })) ∧
    (∀ (p : Fin 26) (how : TwEnd) (rx : List Byte), p.val < 24 ∨ (s.twp p).cur = none → exec (.twXferDone p how rx τ) s = .next s) ∧
    (∀ (p : Fin 26) (x : TwXfer), 24 ≤ p.val → (s.twp p).cur = some x → x.replied = false →
      let ends (how : TwEnd) (rx : List Byte) (code idx : Nat) (d : List Nat) : Prop :=
        Replies (exec (.twXferDone p how rx τ) s) x.pkt
          (if code = 0 then .ok (resWords d) else { status := 0x0A03, detail := code + 256 * (idx % 256), res := resWords d }) fun u =>
          (u.twp p).cur = none ∧ u.rd (TWB.STAT_LASTERR p) = code % 256 ∧ u.rd (TWB.STAT_BUSY p) = 0 ∧
          u.rd (TWB.CNT0_XFER p) = min (s.rd (TWB.CNT0_XFER p) + 1) 65535
      (∀ how rx, s.twDue p x how rx τ = false → exec (.twXferDone p how rx τ) s = .next s) ∧
      (∀ rx, s.twDue p x .acked rx τ = true →
        ends .acked rx (x.judge (rx.map BitVec.toNat)).1 (x.judge (rx.map BitVec.toNat)).2.1 (x.judge (rx.map BitVec.toNat)).2.2) ∧
      (∀ second rx, s.twDue p x (.addrNack second) rx τ = true → ends (.addrNack second) rx 1 (b2n second) []) ∧
      (∀ i rx, s.twDue p x (.dataNack i) rx τ = true → ends (.dataNack i) rx 2 i []) ∧
      (∀ i rx, s.twDue p x (.arbLost i) rx τ = true → ends (.arbLost i) rx 3 i (rx.map BitVec.toNat))) ∧
    (∀ (p : Fin 26) (low : TwLow),
      let sda := low.sda
      let tmo := 1000000 * max 1 (if sda then s.rd (TWB.CFG_TDLTMO p) else s.rd (TWB.CFG_TLOTMO p))
      (p.val < 24 ∨ τ < low.since + tmo → exec (.twTimeout p low τ) s = .next s) ∧
      (24 ≤ p.val → low.since + tmo ≤ τ → Answers (exec (.twTimeout p low τ) s) fun t =>
        t.rd (TWB.CNT1_TIMEOUT p) = min (s.rd (TWB.CNT1_TIMEOUT p) + 1) 65535 ∧ (t.twp p).cur = none ∧
        (sda = false → t.rd (TWB.STAT_SCL_TMO_STKY p) = 1 ∧ t.rd (TWB.STAT_FENCED p) = s.rd (TWB.STAT_FENCED p) ∧
          ((s.twp p).cur.isSome = true → t.rd (TWB.STAT_LASTERR p) = 4)) ∧
        (sda = true → t.rd (TWB.STAT_SDA_TMO_STKY p) = 1 ∧ t.rd (TWB.CNT2_CLEAR p) = min (s.rd (TWB.CNT2_CLEAR p) + 1) 65535 ∧
          ((s.twp p).cur.isSome = true → t.rd (TWB.STAT_LASTERR p) = (if t.rd (TWB.STAT_FENCED p) = 1 then 9 else 5))))) ∧
    (∀ pkt : Cmd,
      let c := cmdPkt pkt 0x0902 τ
      let p := c.arg 0
      s.Takes c [0] →
      (25 < p → RepliesOnly (exec (.twClear pkt τ) s) s τ c (.err 0x0201 0)) ∧
      (p < 24 → s.bcAvailable p = false → RepliesOnly (exec (.twClear pkt τ) s) s τ c (.err 0x0A02 p)) ∧
      (p < 24 → s.bcAvailable p = true → Answers (exec (.twClear pkt τ) s) fun t =>
        t.cmd.running = s.cmd.running ++ [c] ∧ (t.twp p).clearCmd = some c) ∧
      (24 ≤ p → p ≤ 25 → ∃ u : State, u.rd (TWB.CNT2_CLEAR p) = min (s.rd (TWB.CNT2_CLEAR p) + 1) 65535 ∧
        (s.is (TWB.STAT_SDA_LOW p) = false → (s.twp p).injStuck = false → u.rd (TWB.STAT_FENCED p) = 0) ∧
        ((s.twp p).injStuck = true → u.rd (TWB.STAT_FENCED p) = 1) ∧
        exec (.twClear pkt τ) s = .next (u.cmdReply c (if u.is (TWB.STAT_FENCED p) then .err 0x0A03 9 else .ok [])))) ∧
    (s.stpOn τ = false → ∀ (d : List Byte) (q : Option Byte) (since : Nat),
      ∀ i ∈ [Instr.smbusIdent τ, .smbusStatus τ, .smbusSubmit d q τ, .smbusReply τ, .stpAbandon τ, .stpSclTimeout since τ],
        exec i s = .next s) ∧
    (s.stpOn τ = true →
      let a := 2 * s.rd TWBG.STP_STAT_ADDR
      let reads (code : Nat) (d : List Nat) (t : State) : Prop :=
        t.busRead = leNat (d.length :: d ++ [crc8 ([a, code, a + 1] ++ d.length :: d)]) ∧
        { t with now := s.now, busRead := s.busRead, freeCount := s.freeCount } = s
      (Answers (exec (.smbusIdent τ) s) (reads 0x01 (leBytes 4 (s.rd SYS.ID) ++
        [s.rd SYS.STEPPING_DIGIT, s.rd SYS.STEPPING_LETTER] ++ leBytes 2 (s.rd SYS.MODID_ID) ++ leBytes 4 (s.rd CMD.FWVER_WDN_VERSION) ++
        leBytes 4 (s.rd CMD.FWVER_SVC_VERSION)))) ∧
      (Answers (exec (.smbusStatus τ) s) (reads 0x02 [s.stpState, s.rd CMD.STAT_SVC, s.rd TIM.STAT_STATE, s.rd THM.STAT_BAND,
        s.rd CMD.STAT_ARMED + 2 * s.rd CMD.STAT_SEALED_WR + 4 * s.rd CMD.STAT_RINGERR + 16 * s.rd CMD.STAT_DEBUG, 0, 0, 0])) ∧
      (Answers (exec (.stpAbandon τ) s) fun t =>
        t.rd TWBG.STP_CNT_ABANDONED = min (s.rd TWBG.STP_CNT_ABANDONED + 1) 65535 ∧ t.rd TWBG.STP_STAT_ABANDON_STKY = 1 ∧
        t.rd TWBG.STP_STAT_BUSY = 0 ∧
        OnlyRegs [TWBG.STP_CNT_ABANDONED, TWBG.STP_STAT_ABANDON_STKY, TWBG.STP_STAT_BUSY] s { t with events := s.events }) ∧
      (∀ since, since + 1000000 * max 1 (s.rd TWBG.STP_CFG_TLOTMO) ≤ τ → Answers (exec (.stpSclTimeout since τ) s) fun t =>
        t.rd TWBG.STP_STAT_BUSY = 0 ∧ OnlyRegs [TWBG.STP_STAT_BUSY] s t) ∧
      (s.rd SYS.BOOT_FAIL = 0 →
        (s.is CMD.STAT_SMB_BUSY = true → Answers (exec (.smbusReply τ) s) (reads 0x11
          ((Reply.err 0x0902 0).bytes { op := s.cmd.smbOp, cid := s.cmd.smbCid, idx := 0xFFFF } 0))) ∧
        (∀ b, s.is CMD.STAT_SMB_BUSY = false → s.cmd.smbReply = some b → Answers (exec (.smbusReply τ) s) (reads 0x11 b)) ∧
        (∀ (data : List Byte) (q : Option Byte), data.length = 64 →
          let d := data.map BitVec.toNat
          let good := crc8 ([a, 0x10, 64] ++ d)
          (∀ b, q = some b → b.toNat ≠ good → Answers (exec (.smbusSubmit data q τ) s) fun t =>
            t.rd TWBG.STP_CNT_PEC_ERR = min (s.rd TWBG.STP_CNT_PEC_ERR + 1) 65535 ∧ t.rd TWBG.STP_STAT_PEC_STKY = 1 ∧
            OnlyRegs [TWBG.STP_CNT_PEC_ERR, TWBG.STP_STAT_PEC_STKY] s { t with events := s.events }) ∧
          ((∀ b, q = some b → b.toNat = good) →
            (q = none → s.is TWBG.STP_CFG_PEC_REQ = true → exec (.smbusSubmit data q τ) s = .next s) ∧
            ((q = none → s.is TWBG.STP_CFG_PEC_REQ = false) → s.is CMD.STAT_SMB_BUSY = true →
              exec (.smbusSubmit data q τ) s = .next s) ∧
            ((q = none → s.is TWBG.STP_CFG_PEC_REQ = false) → s.is CMD.STAT_SMB_BUSY = false →
              Answers (exec (.smbusSubmit data q τ) s) fun t => ∃ c : CmdPkt,
                t.cmd = { s.cmd with smbWait := some c, smbCid := c.cid, smbOp := c.op, smbReply := none } ∧ c.idx = 0xFFFF ∧
                c.op = leNat (d.take 2) ∧ c.cid = leNat ((d.drop 2).take 2) ∧ c.arg 0 = leNat ((d.drop 8).take 4) ∧
                t.rd CMD.STAT_SMB_BUSY = 1 ∧ OnlyRegs [CMD.STAT_SMB_BUSY] s { t with cmd := s.cmd }))))) ∧
    (s.pwr.st = .smoulder → s.is SYS.PWR_STAT_VIO_OK = true → s.pwr.stpWoke = false → Answers (exec (.stpWake τ) s) fun t =>
      t.pwr.wake.isSome = true ∧ (s.pwr.wake = none → t.pwr.wake = some 2) ∧ t.pwr.stpWoke = true ∧ t.pwr.stpAt = some τ ∧
      t.rd TWBG.STP_STAT_WAKE_STKY = 1 ∧ OnlyRegs [TWBG.STP_STAT_WAKE_STKY] s { t with pwr := s.pwr })

/-- R384, R386, R390, R421, R422, R424, R431, R435, R438 to R442, R448: sensors fail and recover, the model falls back and returns; service
firmware beats, stops and restarts; the standby takes, tests and releases engines, and a result counts; the warden writes telemetry, restarts or
halts on lockstep mismatches, logs blocked accesses and drops an old nonce. -/
def Obligations.TheWardenWatchesSensorsFirmwareAndEngines : Prop :=
  ∀ (τ : Nat) (s : State),
    (s.is THM.STAT_FALLBACK = true → 1000 ≤ s.thm.good → Answers (exec (.modelFallback τ) s) fun t =>
      t.is THM.STAT_FALLBACK = false ∧ t.thm = { s.thm with bigRun := [], good := 0 } ∧
      OnlyRegs [THM.STAT_FALLBACK] s { t with thm := s.thm, events := s.events }) ∧
    (∀ d, s.is THM.STAT_FALLBACK = false → d < 6 → s.sensorOk d = true → 100 ≤ AMap.get 0 s.thm.bigRun d →
      Answers (exec (.modelFallback τ) s) fun t => t.is THM.STAT_FALLBACK = true ∧ t.thm = { s.thm with bigRun := [], good := 0 } ∧
        OnlyRegs [THM.STAT_FALLBACK] s { t with thm := s.thm, events := s.events }) ∧
    (∀ (k : Fin 7) (reading : BitVec 16),
      (s.sensorBad k reading.toNat = false → exec (.sensorFault k reading τ) s = .next s) ∧
      (s.sensorBad k reading.toNat = true → Answers (exec (.sensorFault k reading τ) s) fun t =>
        t.sensorOk k = false ∧ AMap.get 0 t.thm.badAt k = max s.now τ ∧
        (k.val = 6 → s.sensorOk k = true → t.is THM.STAT_NAND_OK = false) ∧
        ∀ j : Fin 7, j ≠ k → t.sensorOk j = s.sensorOk j)) ∧
    (∀ k : Fin 7, s.sensorOk k = false → AMap.get 0 s.thm.badAt k + 1000000000 ≤ τ → Answers (exec (.sensorValid k τ) s) fun t =>
      t.sensorOk k = true ∧ OnlyRegs [sensorInvalid k] s t) ∧
    (∀ w ws rest, s.thm.tlPeek = (w :: ws) :: rest → Answers (exec .telemetryPeekPop s) fun t =>
      t.busRead = w ∧ t.thm = { s.thm with tlPeek := if ws = [] then rest else ws :: rest, tlLast := w } ∧
      t.rd THM.TLPK_DATA_DATA = w % 2 ^ 32 ∧ OnlyRegs [THM.TLPK_DATA_DATA, THM.TLPK_STAT_LEVEL] s { t with thm := s.thm, busRead := s.busRead }) ∧
    (s.thm.tlPeek = [] → Answers (exec .telemetryPeekPop s) fun t =>
      t.busRead = s.thm.tlLast ∧ t.rd THM.TLPK_STAT_UNDERRUN = 1 ∧ OnlyRegs [THM.TLPK_STAT_UNDERRUN] s { t with busRead := s.busRead }) ∧
    (s.svcRunning = true → s.diag.hang = false → Answers (exec (.serviceHeartbeat τ) s) fun t =>
      t.diag = { s.diag with beatAt := τ } ∧ OnlyRegs [] s { t with diag := s.diag }) ∧
    (s.svcRunning = true → s.diag.beatAt + s.svcTmo ≤ τ → Answers (exec (.serviceStopped τ) s) fun t =>
      t.rd DIA.SVC_STAT_STOPPED_STKY = 1 ∧ t.diag.hang = false ∧ (s.is DIA.SVC_CFG_AUTORESTART = false → t.rd CMD.STAT_SVC = 3) ∧
      (t.rd CMD.STAT_SVC = 3 ∨ t.rd CMD.STAT_SVC = 1) ∧ (∀ c ∈ t.cmd.running ++ t.cmd.waiting, c.isWarden = true)) ∧
    (s.pwr.st = .up → s.rd CMD.STAT_SVC = 1 → Answers (exec (.serviceRestarted τ) s) fun t =>
      t.rd CMD.STAT_SVC = 2 ∧ t.rd DIA.SVC_STAT_RESTARTS = min (s.rd DIA.SVC_STAT_RESTARTS + 1) 65535 ∧ t.diag.beatAt = τ ∧
      (∀ f, stagedFld f.key = some f → t.rd f = s.cfg f) ∧ t.mems = s.mems) ∧
    (∀ n : Fin 4,
      let x := s.sby n
      let k := s.rd (DIA.SB_NEXT n)
      s.is DIA.ROT_CFG_EN = true → s.rd CMD.STAT_WARDEN = 1 → s.sbState n = 0 → x.ready = true → x.take = none → x.first = [] →
      k < 128 → s.engFenced k = false → s.testing k = false → s.devAt τ % (1000000 * max 1 (s.rd DIA.ROT_CFG_PERIOD)) = 0 →
      Answers (exec (.rotationTake n τ) s) fun t =>
        t.rd (DIA.SB_NEXT n) = (if k = 32 * n.val + 31 then 32 * n.val else k + 1) ∧ (t.sby n).ready = false ∧
        (s.placed k = true → (t.sby n).take = some (k, τ)) ∧
        (s.placed k = false → t.testing k = true ∧ t.rd (ENG.STAT_STATE k) = 4 ∧ (t.sby n).take = none)) ∧
    (∀ (n : Fin 4) (g a : Nat), (s.sby n).take = some (g, a) → g < 128 →
      (s.takeDrained g = true → s.sbState n ≠ 4 → s.clean → Answers (exec (.standbyTakeover n τ) s) fun t =>
        t.sbState n = 2 ∧ t.rd (DIA.SB_SERVES n) = g ∧ t.rd (ENG.STAT_STATE g) = 4 ∧ t.testing g = true ∧ (t.sby n).take = none ∧
        t.rd (ENG.STAT_SERVING (128 + n)) = 1 ∧ t.rd (ENG.STAT_SERVES (128 + n)) = g ∧ t.engPc (128 + n) = s.engPc g % 2 ^ 32 ∧
        (t.eng (128 + n)).x = (s.eng g).x ∧ (t.eng (128 + n)).v = (s.eng g).v ∧ (t.eng (128 + n)).csr = (s.eng g).csr ∧
        ∀ i, i < 0x8000 → t.memBytes (.dmem (128 + n)) i 1 = s.memBytes (.dmem g) i 1) ∧
      (s.takeDrained g = true → s.sbState n = 4 → Answers (exec (.standbyTakeover n τ) s) fun t =>
        t.sbState n = 4 ∧ t.testing g = true ∧ t.rd (ENG.STAT_STATE g) = 4 ∧ t.mems = s.mems) ∧
      (s.takeDrained g = false → exec (.standbyTakeover n τ) s = .next s) ∧
      (a + s.drainTmo ≤ τ → Answers (exec (.takeoverSkipped n τ) s) fun t =>
        (t.sby n).take = none ∧ t.rd DIA.ROT_CNT_SKIPPED = min (s.rd DIA.ROT_CNT_SKIPPED + 1) 65535 ∧ t.rd DIA.ST_LAST_RESULT = 5 ∧
        t.rd DIA.ST_LAST_ENGINE = g)) ∧
    (∀ (g : Fin 132) (res : Fin 5) (addr : Word) (e : Nat × Nat × Nat), s.diag.tests.find? (fun e => e.1 == g.val) = some e →
      e.2.1 + 24000000 * 1000 ≤ (s.at τ).clocks → s.diag.stFail.contains g.val = false →
      Answers (exec (.selftestDone g res addr τ) s) fun t =>
        t.testing g = false ∧ t.rd DIA.ST_LAST_ENGINE = g ∧ t.rd DIA.ST_LAST_RESULT = res ∧
        t.rd DIA.ST_ADDR_ADDR = (if res.val = 0 then 0 else addr.toNat) ∧
        (128 ≤ g.val → s.sbState (g.val - 128) = 1 → t.sbState (g.val - 128) = (if res.val = 0 then 0 else 4)) ∧
        (g.val < 128 → s.runner g = g → s.engFenced g = false → res.val = 0 → t.rd (ENG.STAT_STATE g) = e.2.2 % 8) ∧
        (g.val < 128 → s.engFenced g = false → res.val ≠ 0 → s.is DIA.AUTO_ENG_EN = true → t.engFenced g = true)) ∧
    (∀ n : Fin 4, let g := s.rd (DIA.SB_SERVES n)
      s.sbState n = 2 ∨ s.sbState n = 3 → g < 128 → (s.sby n).back = true → s.takeDrained (128 + n) = true →
      Answers (exec (.standbyRelease n τ) s) fun t =>
        t.rd (DIA.SB_SERVES n) = 255 ∧ t.rd (ENG.STAT_SERVING (128 + n)) = 0 ∧ (t.sby n).ready = false ∧
        (s.is DIA.ROT_CFG_EN = false → t.sbState n = 0 ∧ t.rd (ENG.STAT_STATE (128 + n)) = 6)) ∧
    (s.pwr.st = .up → s.is DIA.TEL_CFG_EN = true → s.rd CMD.STAT_WARDEN = 1 → s.diag.telAt + s.telPeriod ≤ τ →
      Answers (exec (.telemetryRecord τ) s) fun t =>
        t.rd DIA.TEL_SEQ_SEQ = (s.rd DIA.TEL_SEQ_SEQ + 1) % 2 ^ 32 ∧ t.thm.tlPeek.getLast? = some (toWords (s.at τ).telRecord) ∧
        t.thm.tlPeek.length ≤ 4 ∧ t.diag.telAt = max s.now τ ∧ t.mems = s.mems ∧
        (s.is DIA.TEL_CFG_DQ62 = true → (s.dq 62).credits = [] → t.rd DIA.TEL_DROP_DROP = min (s.rd DIA.TEL_DROP_DROP + 1) (2 ^ 32 - 1))) ∧
    (∀ p : Cmd,
      let c := cmdPkt p 0x0A03 τ
      let g := c.arg 0
      let n := if g < 128 then g / 32 else g - 128
      s.Takes c [0] →
      (131 < g → RepliesOnly (exec (.engineTest p τ) s) s τ c (.err 0x0201 0)) ∧
      (g ≤ 131 → s.sbState n = 1 ∨ ((s.sbState n = 2 ∨ s.sbState n = 3) ∧ s.rd (DIA.SB_SERVES n) ≠ g) →
        RepliesOnly (exec (.engineTest p τ) s) s τ c (.err 0x0302 0)) ∧
      (g ≤ 131 → s.sbState n = 0 ∨ s.sbState n = 4 → (s.sby n).take = none → Answers (exec (.engineTest p τ) s) fun t =>
        t.cmd.running = s.cmd.running ++ [c] ∧ AMap.get {} t.diag.tcmds g = c ∧ (t.testing g = true ∨ ∃ a, (t.sby n).take = some (g, a)))) ∧
    (s.rd CMD.STAT_WARDEN = 3 → exec (.lockstepMismatch τ) s = .next s) ∧
    (s.rd CMD.STAT_WARDEN ≠ 3 → Answers (exec (.lockstepMismatch τ) s) fun t =>
      let again := ∃ a, s.diag.mism = some a ∧ max s.now τ < a + 1000000000
      t.is THM.STAT_NAND_OK = false ∧ t.diag.mism = some (max s.now τ) ∧ (again → t.rd CMD.STAT_WARDEN = 3) ∧
      (¬again → t.rd CMD.STAT_WARDEN = 2) ∧
      (again → s.rd THM.STAT_THROTTLE ≤ 15 → s.rd THM.STAT_BAND ≤ 4 →
        t.rd THM.STAT_THROTTLE = max 8 (s.rd THM.STAT_THROTTLE) ∧ t.rd THM.STAT_BAND = max 3 (s.rd THM.STAT_BAND))) ∧
    (s.rd CMD.STAT_WARDEN = 2 → Answers (exec (.wardenResume τ) s) fun t =>
      t.rd CMD.STAT_WARDEN = 1 ∧ OnlyRegs [CMD.STAT_WARDEN] s t) ∧
    (∀ a : BitVec 64, Answers (exec (.accessViolation a τ) s) fun t =>
      t.busRead = 0 ∧ t.diag = { s.diag with secLog := s.diag.secLog ++ [((s.at τ).dev, 0x0109, a.toNat)] } ∧
      OnlyRegs [] s { t with busRead := s.busRead, diag := s.diag, events := s.events }) ∧
    (∀ n a, s.diag.nonce = some (n, a) → a + 60000000000 ≤ τ → Answers (exec (.debugNonceExpiry τ) s) fun t =>
      t.diag = { s.diag with nonce := none } ∧ OnlyRegs [] s { t with diag := s.diag }) ∧
    (∀ (k : Fin 3) (g : Fin 132),
      ((s.rd CMD.STAT_DEBUG).testBit k = false → exec (.debugPortAccess k g τ) s = .next s) ∧
      ((s.rd CMD.STAT_DEBUG).testBit k = true → s.is SYS.PWR_STAT_VIO_OK = true → Answers (exec (.debugPortAccess k g τ) s) fun t =>
        t.rd (ENG.STAT_STATE g) = (if k = 0 then 7 else s.rd (ENG.STAT_STATE g)) ∧ OnlyRegs [ENG.STAT_STATE g] s t))

/-- R287, R358, R372, R427 to R430, R460 to R475, R497 to R502: host-side resets leave DLV and CMD, but for what CMD shows of the cores, at their reset values and drop what ran;
dips begin, count and end HOLD; supply and thermal shutdowns, SMOULDER, brown-out and the loss of the keep-alive supply leave every other domain at
power-on reset; wake conditions, RESET_N, camera and I/O supplies act; start-up ends stage after stage or is held. -/
def Obligations.PowerStatesResetsAndStartUp : Prop :=
  ∀ (τ : Nat) (s : State),
    (∀ c ∈ [Instr.pcieReset τ, .functionLevelReset τ, .d3hotEntry τ],
      (s.hostLive = false → exec c s = .next s) ∧
      (s.hostLive = true → Answers (exec c s) fun t =>
        (∀ f : Fld, 0x10000 ≤ f.key / 32 → f.key / 32 < 0x40000 → inFields hostKept f.key = false → t.rd f = f.reset) ∧
        (∀ f : Fld, ¬(0x10000 ≤ f.key / 32 ∧ f.key / 32 < 0x40000) → stagedFld f.key = none → f.key ≠ REC.RD_STAT_STATE.key → t.rd f = s.rd f) ∧
        t.cmd = {} ∧ t.dlv.queues = [] ∧ t.epoch.armed = none ∧ t.rcd.read = none ∧ t.events.out = [] ∧ t.diag.nonce = none ∧
        t.graph.staged = none ∧ t.msixPend = 0 ∧ t.mems = s.mems ∧ t.links = s.links ∧ t.engines = s.engines ∧ t.pwr = s.pwr)) ∧
    (∀ since, (s.pwr.st = .off → since + 20000000 ≤ τ → Answers (exec (.powerOn since τ) s) fun t =>
        t.pwr.st = .startup ∧ t.pwr.alive = true ∧ t.pwr.t0 = max s.now τ ∧ t.rd SYS.BOOT_STAGE = 1 ∧ t.rd SYS.BOOT_KIND = 0 ∧
        t.rd SYS.PWR_STAT_WAKE_SRC = 0 ∧ (s.pwr.alive = false → t.dev = 0)) ∧
      (s.pwr.st ≠ .off ∨ τ < since + 20000000 → exec (.powerOn since τ) s = .next s)) ∧
    (∀ c ∈ [Instr.holdEnter τ, .diaInjSysVindip τ],
      (s.pwr.dipAt ≠ none → exec c s = .next s) ∧
      (s.pwr.dipAt = none → s.pwr.st = .up → s.injLocked = false → Answers (exec c s) fun t =>
        t.rd SYS.PWR_STAT_STATE = 1 ∧ t.rd SYS.PWR_STAT_VIN_WARN = 1 ∧ t.rd SYS.DIP_COUNT = min (s.rd SYS.DIP_COUNT + 1) 65535 ∧
        t.pwr.dipAt = some (max s.now τ) ∧
        (s.rd SYS.PWR_STAT_STATE = 1 → t.pwr.holdDips = s.pwr.holdDips + 1 ∧ t.rd SYS.DIP_HOLDS = s.rd SYS.DIP_HOLDS) ∧
        (s.rd SYS.PWR_STAT_STATE ≠ 1 → t.pwr.holdDips = 1 ∧ t.pwr.holdAt = max s.now τ ∧
          t.rd SYS.DIP_HOLDS = min (s.rd SYS.DIP_HOLDS + 1) 65535))) ∧
    (∀ (low : BitVec 16) (a : Nat), s.pwr.dipAt = some a → low.toNat < 8500 → Answers (exec (.vinDip low τ) s) fun t =>
      t.rd SYS.DIP_LAST_US = min ((max τ a - a) / 1000) (2 ^ 32 - 1) ∧
      t.pwr = { s.pwr with dipAt := none, dipMin := low.toNat, dipEnd := max τ a } ∧
      OnlyRegs [SYS.DIP_LAST_US] s { t with pwr := s.pwr, events := s.events }) ∧
    (∀ since, s.pwr.st = .up → s.rd SYS.PWR_STAT_STATE = 1 → s.pwr.dipAt = none →
      (s.pwr.dipEnd ≤ since → since + 20000000 ≤ τ → Answers (exec (.holdExit since τ) s) fun t => t.rd SYS.PWR_STAT_STATE = 0 ∧ t.pwr = s.pwr) ∧
      (τ < since + 20000000 → exec (.holdExit since τ) s = .next s)) ∧
    (s.pwr.st = .up → s.rd SYS.PWR_STAT_STATE = 1 → s.pwr.holdAt + 1000000 * max 20 (s.rd SYS.PWR_CFG_HOLDMAX) ≤ τ →
      Answers (exec (.undervoltageShutdown τ) s) fun t => InDeferral t 3) ∧
    (∀ vin : BitVec 16, vin.toNat < 61000 → Answers (exec (.vinOver false vin τ) s) fun t => t.pwr = { s.pwr with overAt := none } ∧ OnlyRegs [] s { t with pwr := s.pwr }) ∧
    (∀ vin : BitVec 16, s.pwr.overAt = none → 62000 < vin.toNat → Answers (exec (.vinOver true vin τ) s) fun t =>
      t.pwr = { s.pwr with overAt := some τ } ∧ t.is SYS.PWR_STAT_VIN_OVER_STKY = true ∧
      OnlyRegs [SYS.PWR_STAT_VIN_OVER_STKY] s { t with pwr := s.pwr, events := s.events }) ∧
    (∀ a, s.canShut = true → s.pwr.overAt = some a → a + 400000000 ≤ τ →
      Answers (exec (.overvoltageShutdown τ) s) fun t => InDeferral t 5) ∧
    ((s.pwr.st = .off → exec (.brownOut τ) s = .next s) ∧
      (s.pwr.st = .smoulder → Answers (exec (.brownOut τ) s) fun t => t.pwr = { s.pwr with wakeVin := true } ∧ OnlyRegs [] s { t with pwr := s.pwr }) ∧
      (s.pwr.st = .deferral ∨ s.pwr.st = .entering → Answers (exec (.brownOut τ) s) fun t =>
        InSmoulder t ∧ t.rd SYS.PWR_STAT_LAST_DOWN = s.rd SYS.PWR_STAT_LAST_DOWN) ∧
      (s.pwr.st = .up ∨ s.pwr.st = .startup ∨ s.pwr.st = .resetHeld → Answers (exec (.brownOut τ) s) fun t =>
        InSmoulder t ∧ t.rd SYS.PWR_STAT_LAST_DOWN = 4 ∧ t.mems.host = s.mems.host ∧ t.pwr.wakeVin = true)) ∧
    Answers (exec (.keepaliveLoss τ) s) (fun t =>
      t.pwr.st = .off ∧ t.pwr.alive = false ∧ t.mems = { host := s.mems.host } ∧ (∀ f : Fld, t.rd f = f.reset) ∧ t.now = max s.now τ) ∧
    (s.pwr.alive = false → Answers (exec (.keepaliveStart τ) s) fun t => t.dev = 0 ∧ t.pwr = { s.pwr with alive := true } ∧
      { t with now := s.now, timeOfs := s.timeOfs, pwr := s.pwr } = s) ∧
    (∀ low, s.is SYS.PWR_STAT_VAUX_OK = low → Answers (exec (.vauxLow low τ) s) fun t =>
      t.is SYS.PWR_STAT_VAUX_OK = !low ∧ OnlyRegs [SYS.PWR_STAT_VAUX_OK] s { t with events := s.events }) ∧
    (∀ (high : Bool) (vcam : BitVec 16), s.pwr.st ≠ .off → (if high then 17000 < vcam.toNat else vcam.toNat < 8000) → Answers (exec (.vcamFault high vcam τ) s) fun t =>
      t.is SYS.PWR_STAT_VCAM_FAULT = true ∧ (∀ n, n < 24 → t.poc n = if s.on (LNK.POC_CFG_EN n) then 4 else 0)) ∧
    (∀ vcam : VcamSense, s.is SYS.PWR_STAT_VCAM_FAULT = true → 8500 < vcam.mV.toNat → vcam.mV.toNat < 16500 → vcam.since + 10000000 ≤ τ → Answers (exec (.vcamRestore vcam τ) s) fun t =>
      t.is SYS.PWR_STAT_VCAM_FAULT = false ∧ t.pwr.vcamOver = false ∧ t.pwr.vcamLow = false ∧
      (((List.range 24).map fun k => if s.poc k = 3 ∨ s.on (LNK.POC_CFG_EN k) then s.pocLim k else 0).sum ≤ 1400 →
        ∀ n, n < 24 → s.on (LNK.POC_CFG_EN n) = true → s.poc n = 4 → t.poc n = if s.pocFaulty n then 3 else 1)) ∧
    (s.is SYS.PWR_STAT_VIO_OK = true → Answers (exec (.vioLost τ) s) fun t =>
      t.is SYS.PWR_STAT_VIO_OK = false ∧ OnlyRegs [SYS.PWR_STAT_VIO_OK] s { t with events := s.events }) ∧
    (s.is SYS.PWR_STAT_VIO_OK = false → s.pwr.st ≠ .off → Answers (exec (.vioRestored τ) s) fun t =>
      t.is SYS.PWR_STAT_VIO_OK = true ∧ t.pwr = { s.pwr with vioAt := τ } ∧
      OnlyRegs [SYS.PWR_STAT_VIO_OK] s { t with pwr := s.pwr, events := s.events }) ∧
    (s.pwr.st = .entering → s.recIdle = true ∨ s.pwr.downAt + 50000000 ≤ τ → Answers (exec (.smoulderReached τ) s) fun t =>
      InSmoulder t ∧ t.rd SYS.PWR_STAT_LAST_DOWN = s.rd SYS.PWR_STAT_LAST_DOWN ∧ t.mems.host = s.mems.host) ∧
    (s.wakeArmed = true → s.wakeSet 4 = 1 → Answers (exec (.wakeNAssert τ) s) fun t =>
      t.pwr = { s.pwr with wake := s.pwr.wake.or (some 1) } ∧ OnlyRegs [] s { t with pwr := s.pwr }) ∧
    (s.wakeArmed = true → s.wakeSet 2 = 1 → s.wakeSet 6 ≤ s.devAt τ → Answers (exec (.wakeTimer τ) s) fun t =>
      t.pwr = { s.pwr with wake := s.pwr.wake.or (some 4) } ∧ OnlyRegs [] s { t with pwr := s.pwr }) ∧
    (∀ since, s.pwr.st = .smoulder → s.wakeSet 1 = 1 → s.pwr.wakeVin = true → s.pwr.overAt = none → since + 20000000 ≤ τ →
      Answers (exec (.wakeVinReturn since τ) s) fun t =>
        t.pwr = { s.pwr with wake := s.pwr.wake.or (some 5) } ∧ OnlyRegs [] s { t with pwr := s.pwr }) ∧
    (∀ (since : Nat) (case : BitVec 16) (src : Nat), s.pwr.st = .smoulder → s.pwr.wake = some src →
      (s.pwr.thermal = true → 6400 < case.toInt → exec (.wake since case τ) s = .next s) ∧
      (since + 20000000 ≤ τ → s.pwr.thermal = false ∨ case.toInt ≤ 6400 → Answers (exec (.wake since case τ) s) fun t =>
        t.pwr.st = .startup ∧ t.pwr.wake = none ∧ t.pwr.resume = s.pwr.thermal ∧ t.rd SYS.PWR_STAT_WAKE_SRC = src % 8 ∧
        t.rd SYS.BOOT_KIND = 3 ∧ t.rd SYS.BOOT_STAGE = 1 ∧ t.rd SYS.SMLD_MS_MS = min ((τ - s.pwr.downAt) / 1000000) (2 ^ 32 - 1))) ∧
    ((s.hostLive = false → exec (.resetNAssert τ) s = .next s) ∧
      (s.hostLive = true → Answers (exec (.resetNAssert τ) s) fun t =>
        t.pwr.st = .resetHeld ∧ t.rd SYS.BOOT_KIND = 2 ∧ ColdReset [SYS.BOOT_KIND] t ∧ t.mems.host = s.mems.host ∧
        t.pwr.downAt = max s.now τ)) ∧
    (s.pwr.st = .resetHeld → Answers (exec (.resetNRelease τ) s) fun t =>
      t.pwr = { s.pwr with st := .startup, t0 := max τ (s.pwr.downAt + 1000000) } ∧ OnlyRegs [] s { t with pwr := s.pwr }) ∧
    (∀ (lo hi tw : BitVec 4) (lb hb tb : Bool), s.stageDue 1 τ = true → Answers (exec (.stageRom lo lb hi hb tw tb τ) s) fun t =>
      t.rd SYS.MODID_STRAP = 16 * (if hb then 0 else hi.toNat) + (if lb then 0 else lo.toNat) ∧
      t.is SYS.MODID_STRAP_BAD = (lb || hb) ∧ t.rd TWBG.STP_STAT_ADDR = 0x60 + (if tb then 0 else tw.toNat) ∧
      t.is TWBG.STP_STAT_STRAP_BAD = tb ∧ t.rd SYS.BOOT_STAGE = 1 ∧
      ((s.imageSelect 1).1.isSome = true → t.pwr.done = 1 ∧ t.rd SYS.BOOT_FAIL = 0 ∧ t.rd CMD.STAT_WARDEN = 1 ∧ t.thm = {} ∧
        t.pwr.tickAt = some (max s.now τ)) ∧
      ((s.imageSelect 1).1.isSome = false → t.pwr.done = 0 ∧ t.rd SYS.BOOT_FAIL = 1)) ∧
    (s.stageDue 2 τ = true → s.rd CMD.STAT_WARDEN < 2 → Answers (exec (.stageWarden τ) s) fun t =>
      t.rd CMD.STAT_WARDEN = 1 ∧ t.rd SYS.BOOT_STAGE = 2 ∧ t.pwr = { s.pwr with done := 2 } ∧
      OnlyRegs [CMD.STAT_WARDEN, SYS.BOOT_STAGE] s { t with pwr := s.pwr }) ∧
    (∀ fails : BitVec 4, s.stageDue 3 τ = true → s.memTop < 2 ^ 64 → Answers (exec (.stageTrain fails τ) s) fun t =>
      t.rd SYS.BOOT_CHFAIL = fails.toNat ∧
      (fails = 0 → t.rd SYS.BOOT_STAGE = 3 ∧ t.pwr.done = 3 ∧ t.rd MEM.STAT_FENCE = s.rd MEM.STAT_FENCE ∧ t.memTop = s.memTop) ∧
      (∀ c : Fin 4, fails.toNat = 2 ^ c.val → t.rd SYS.BOOT_STAGE = 3 ∧ t.pwr.done = 3 ∧ t.rd MEM.STAT_FENCE = c ∧ t.memTop = s.memTop / 4 * 3) ∧
      (fails.toNat ∉ [0, 1, 2, 4, 8] → t.rd SYS.BOOT_FAIL = 2 ∧ t.pwr.done = 2)) ∧
    (∀ pages, s.stageDue 4 τ = true → Answers (exec (.stageClear pages τ) s) fun t =>
      t.mems = { host := s.mems.host } ∧ t.memu.faults = [] ∧ t.rd REC.STAT_STATE = 1 ∧ t.rd SYS.BOOT_STAGE = 4 ∧ t.pwr.done = 4) ∧
    (s.stageDue 5 τ = true → Answers (exec (.stageService τ) s) fun t =>
      t.rd SYS.BOOT_STAGE = 5 ∧
      ((s.imageSelect 2).1.isSome = true → t.rd CMD.STAT_SVC = 1 ∧ t.pwr.done = 5) ∧
      ((s.imageSelect 2).1.isSome = false → t.rd SYS.BOOT_FAIL = 3 ∧ t.pwr.done = 4)) ∧
    (s.stageDue 6 τ = true → s.rd CMD.STAT_SVC = 1 → Answers (exec (.stageReady τ) s) fun t =>
      t.pwr = { s.pwr with st := .up, done := 6, woken := false, resume := false, stpWoke := false } ∧ t.rd CMD.STAT_SVC = 2 ∧
      t.rd SYS.BOOT_STAGE = 6 ∧ t.rd SYS.BOOT_MS_MS = min ((τ - s.pwr.t0) / 1000000) (2 ^ 32 - 1) ∧ t.diag.beatAt = τ) ∧
    (s.pwr.st = .deferral → (s.rcd.prog = none ∧ s.rcd.jprog = none) ∨ s.pwr.downAt + 3000000 ≤ τ →
      Answers (exec (.shutdownDeferralEnd τ) s) fun t =>
        InSmoulder t ∧ t.rd THM.DEFER_US = (max s.now τ - s.pwr.downAt) / 1000 % 65536 ∧
        t.rd SYS.PWR_STAT_LAST_DOWN = s.rd SYS.PWR_STAT_LAST_DOWN) ∧
    (∀ (k : Fin 6) (r0 r1 : BitVec 16), s.pwr.st = .up → s.sensorOk k = true → 9600 ≤ r0.toInt → 9600 ≤ r1.toInt →
      Answers (exec (.hardwareTrip k r0 r1 τ) s) fun t =>
        InSmoulder t ∧ t.rd SYS.PWR_STAT_LAST_DOWN = 2 ∧ t.rd THM.STAT_SHUT_CAUSE = 2 ∧ t.rd THM.DEFER_US = 0 ∧ t.pwr.thermal = true) ∧
    (∀ (k : Fin 6) (r : BitVec 16), s.pwr.st = .up → s.sensorOk k = true → s.rd CMD.STAT_WARDEN = 3 → 8960 ≤ r.toInt + s.thmOfs →
      Answers (exec (.haltedWardenDiodeTrip k r τ) s) fun t => InDeferral t 2 ∧ t.rd THM.STAT_SHUT_CAUSE = 3 ∧ t.pwr.thermal = true)
end

