-- ==== Sys2Proof/Laws/Memory.lean ====
section
/-! SUPPORT. Sparse data and byte memories: what a read gives after a write, and that every memory operation keeps the canonical
form. -/

namespace Sys2Proof.Machine

/-! ### Sparse data -/

@[simp] theorem amap_get_set_same {α : Type} (d v : α) (m : AMap α) (i : Nat) : AMap.get d (AMap.set m i v) i = v := by
  induction m with
  | nil => simp [AMap.set, AMap.get]
  | cons e m ih =>
    obtain ⟨k, w⟩ := e
    simp only [AMap.set]
    split_ifs with h1 h2
    · simp [AMap.get]
    · simp [AMap.get]
    · simp [AMap.get, Ne.symm h2, ih]

theorem amap_get_set_ne {α : Type} (d v : α) (m : AMap α) {i j : Nat} (h : j ≠ i) :
    AMap.get d (AMap.set m i v) j = AMap.get d m j := by
  induction m with
  | nil => simp [AMap.set, AMap.get, h.symm]
  | cons e m ih =>
    obtain ⟨k, w⟩ := e
    simp only [AMap.set]
    split_ifs with h1 h2
    · simp [AMap.get, h.symm]
    · subst h2
      simp [AMap.get, h.symm]
    · simp only [AMap.get, ih]

@[simp] theorem amap_get_drop_same {α : Type} (d : α) (m : AMap α) (i : Nat) : AMap.get d (m.filter fun c => c.1 != i) i = d := by
  induction m with
  | nil => rfl
  | cons e m ih =>
    obtain ⟨k, w⟩ := e
    by_cases h : k = i
    · simp [List.filter, h, ih]
    · have h' : (k != i) = true := by simp [h]
      simp [List.filter, h', AMap.get, h, ih]

theorem amap_get_drop_ne {α : Type} (d : α) (m : AMap α) {i j : Nat} (h : j ≠ i) :
    AMap.get d (m.filter fun c => c.1 != i) j = AMap.get d m j := by
  induction m with
  | nil => rfl
  | cons e m ih =>
    obtain ⟨k, w⟩ := e
    by_cases hk : k = i
    · subst hk
      simp [List.filter, AMap.get, h.symm, ih]
    · have h' : (k != i) = true := by simp [hk]
      simp [List.filter, h', AMap.get, ih]

/-! ### One byte -/

@[simp] theorem mem_read_write_same (m : Mem) (a : Nat) (b : Byte) : Mem.read (Mem.write m a b) a = b := by
  unfold Mem.read Mem.write
  split_ifs with h
  · simp [h]
  · simp

theorem mem_read_write_ne (m : Mem) {a c : Nat} (b : Byte) (h : c ≠ a) : Mem.read (Mem.write m a b) c = Mem.read m c := by
  unfold Mem.read Mem.write
  split_ifs
  · exact amap_get_drop_ne _ _ h
  · exact amap_get_set_ne _ _ _ h

/-- Bytes outside the range written keep their value. -/
theorem mem_read_writeBytes_out (m : Mem) (a c : Nat) (bs : List Nat) (h : c < a ∨ a + bs.length ≤ c) :
    Mem.read (Mem.writeBytes m a bs) c = Mem.read m c := by
  induction bs generalizing m a with
  | nil => rfl
  | cons b bs ih =>
    have hl : (b :: bs).length = bs.length + 1 := rfl
    rw [Mem.writeBytes, ih _ _ (by omega)]
    exact mem_read_write_ne _ _ (by omega)

/-- A byte inside the range written has the value written there. -/
theorem mem_read_writeBytes_in (m : Mem) (a i : Nat) (bs : List Nat) (h : i < bs.length) :
    Mem.read (Mem.writeBytes m a bs) (a + i) = BitVec.ofNat 8 bs[i] := by
  induction bs generalizing m a i with
  | nil => simp at h
  | cons b bs ih =>
    rw [Mem.writeBytes]
    cases i with
    | zero =>
      rw [mem_read_writeBytes_out _ _ _ _ (by omega)]
      simp
    | succ i =>
      have := ih (Mem.write m a (BitVec.ofNat 8 b)) (a + 1) i (by simpa using h)
      rw [show a + (i + 1) = a + 1 + i by omega, this]
      simp

/-! ### The canonical form -/

theorem mem_wfFrom_mono {m : Mem} {lo lo' : Nat} (h : Mem.wfFrom lo m = true) (hl : lo' ≤ lo) : Mem.wfFrom lo' m = true := by
  cases m with
  | nil => rfl
  | cons e m =>
    obtain ⟨k, c⟩ := e
    simp only [Mem.wfFrom, Bool.and_eq_true, decide_eq_true_eq] at h ⊢
    exact ⟨⟨by omega, h.1.2⟩, h.2⟩

theorem mem_wfFrom_drop {m : Mem} {lo : Nat} (a : Nat) (h : Mem.wfFrom lo m = true) :
    Mem.wfFrom lo (m.filter fun c => c.1 != a) = true := by
  induction m generalizing lo with
  | nil => rfl
  | cons e m ih =>
    obtain ⟨k, c⟩ := e
    simp only [Mem.wfFrom, Bool.and_eq_true, decide_eq_true_eq] at h
    by_cases hk : k = a
    · simp only [List.filter, hk, bne_self_eq_false]
      exact mem_wfFrom_mono (ih h.2) (by omega)
    · have h' : (k != a) = true := by simp [hk]
      simp only [List.filter, h', Mem.wfFrom, Bool.and_eq_true, decide_eq_true_eq]
      exact ⟨h.1, ih h.2⟩

theorem mem_wfFrom_set {m : Mem} {lo a : Nat} {b : Byte} (h : Mem.wfFrom lo m = true) (hl : lo ≤ a) (hb : b ≠ 0) :
    Mem.wfFrom lo (AMap.set m a b) = true := by
  induction m generalizing lo with
  | nil => simpa [AMap.set, Mem.wfFrom, hl] using hb
  | cons e m ih =>
    obtain ⟨k, c⟩ := e
    simp only [Mem.wfFrom, Bool.and_eq_true, decide_eq_true_eq] at h
    simp only [AMap.set]
    split_ifs with h1 h2
    · simp only [Mem.wfFrom, Bool.and_eq_true, decide_eq_true_eq]
      exact ⟨⟨hl, hb⟩, ⟨by omega, h.1.2⟩, h.2⟩
    · subst h2
      simp only [Mem.wfFrom, Bool.and_eq_true, decide_eq_true_eq]
      exact ⟨⟨hl, hb⟩, h.2⟩
    · simp only [Mem.wfFrom, Bool.and_eq_true, decide_eq_true_eq]
      exact ⟨h.1, ih h.2 (by omega)⟩

theorem mem_wf_write {m : Mem} (a : Nat) (b : Byte) (h : Mem.wf m = true) : Mem.wf (Mem.write m a b) = true := by
  unfold Mem.write
  split_ifs with hb
  · exact mem_wfFrom_drop a h
  · exact mem_wfFrom_set h (Nat.zero_le a) hb

theorem mem_wf_writeBytes {m : Mem} (a : Nat) (bs : List Nat) (h : Mem.wf m = true) : Mem.wf (Mem.writeBytes m a bs) = true := by
  induction bs generalizing m a with
  | nil => exact h
  | cons b bs ih => exact ih _ (mem_wf_write _ _ h)

/-- Two memories in canonical form that read alike at every address are one list. -/
theorem mem_ext {m n : Mem} {lo : Nat} (hm : Mem.wfFrom lo m = true) (hn : Mem.wfFrom lo n = true)
    (h : ∀ a, Mem.read m a = Mem.read n a) : m = n := by
  have low : ∀ (m : Mem) (lo a : Nat), Mem.wfFrom lo m = true → a < lo → Mem.read m a = 0 := by
    intro m
    induction m with
    | nil => intros; rfl
    | cons e m ih =>
      intro lo a hw ha
      obtain ⟨k, c⟩ := e
      simp only [Mem.wfFrom, Bool.and_eq_true, decide_eq_true_eq] at hw
      have hk : ¬ k = a := by omega
      simp only [Mem.read, AMap.get, if_neg hk]
      exact ih (k + 1) a hw.2 (by omega)
  induction m generalizing n lo with
  | nil =>
    cases n with
    | nil => rfl
    | cons e n =>
      obtain ⟨k, c⟩ := e
      simp only [Mem.wfFrom, Bool.and_eq_true, decide_eq_true_eq] at hn
      have := h k
      simp only [Mem.read, AMap.get, if_true] at this
      exact absurd this.symm hn.1.2
  | cons e m ih =>
    obtain ⟨k, c⟩ := e
    have hm' := hm
    simp only [Mem.wfFrom, Bool.and_eq_true, decide_eq_true_eq] at hm
    cases n with
    | nil =>
      have := h k
      simp only [Mem.read, AMap.get, if_true] at this
      exact absurd this hm.1.2
    | cons e' n =>
      obtain ⟨k', c'⟩ := e'
      have hn' := hn
      simp only [Mem.wfFrom, Bool.and_eq_true, decide_eq_true_eq] at hn
      have hk : k = k' := by
        by_contra hne
        rcases Nat.lt_or_gt_of_ne hne with hlt | hlt
        · have h1 := h k
          have h2 := low ((k', c') :: n) k' k (by simpa [Mem.wfFrom, hn.2] using hn.1.2) hlt
          rw [h2] at h1
          simp only [Mem.read, AMap.get, if_true] at h1
          exact hm.1.2 h1
        · have h1 := h k'
          have h2 := low ((k, c) :: m) k k' (by simpa [Mem.wfFrom, hm.2] using hm.1.2) hlt
          rw [h2] at h1
          simp only [Mem.read, AMap.get, if_true] at h1
          exact hn.1.2 h1.symm
      subst hk
      have hc : c = c' := by simpa [Mem.read, AMap.get] using h k
      subst hc
      have : m = n := by
        apply ih hm.2 hn.2
        intro a
        by_cases ha : k = a
        · subst ha
          rw [low m (k + 1) k hm.2 (by omega), low n (k + 1) k hn.2 (by omega)]
        · have := h a
          simpa only [Mem.read, AMap.get, if_neg ha] using this
      rw [this]

/-! ### Arrays of memories -/

theorem memsWfFrom_mono {a : AMap Mem} {lo lo' : Nat} (h : memsWfFrom lo a = true) (hl : lo' ≤ lo) : memsWfFrom lo' a = true := by
  cases a with
  | nil => rfl
  | cons e a =>
    obtain ⟨k, m⟩ := e
    simp only [memsWfFrom, Bool.and_eq_true, decide_eq_true_eq] at h ⊢
    exact ⟨⟨⟨by omega, h.1.1.2⟩, h.1.2⟩, h.2⟩

theorem memsWfFrom_drop {a : AMap Mem} {lo : Nat} (i : Nat) (h : memsWfFrom lo a = true) :
    memsWfFrom lo (a.filter fun c => c.1 != i) = true := by
  induction a generalizing lo with
  | nil => rfl
  | cons e a ih =>
    obtain ⟨k, m⟩ := e
    simp only [memsWfFrom, Bool.and_eq_true, decide_eq_true_eq] at h
    by_cases hk : k = i
    · simp only [List.filter, hk, bne_self_eq_false]
      exact memsWfFrom_mono (ih h.2) (by omega)
    · have h' : (k != i) = true := by simp [hk]
      simp only [List.filter, h', memsWfFrom, Bool.and_eq_true, decide_eq_true_eq]
      exact ⟨h.1, ih h.2⟩

theorem memsWfFrom_set {a : AMap Mem} {lo i : Nat} {m : Mem} (h : memsWfFrom lo a = true) (hl : lo ≤ i) (hm : m ≠ [])
    (hw : Mem.wf m = true) : memsWfFrom lo (AMap.set a i m) = true := by
  induction a generalizing lo with
  | nil => simp [AMap.set, memsWfFrom, hl, hm, hw]
  | cons e a ih =>
    obtain ⟨k, c⟩ := e
    simp only [memsWfFrom, Bool.and_eq_true, decide_eq_true_eq] at h
    simp only [AMap.set]
    split_ifs with h1 h2
    · simp only [memsWfFrom, Bool.and_eq_true, decide_eq_true_eq]
      exact ⟨⟨⟨hl, hm⟩, hw⟩, ⟨⟨by omega, h.1.1.2⟩, h.1.2⟩, h.2⟩
    · subst h2
      simp only [memsWfFrom, Bool.and_eq_true, decide_eq_true_eq]
      exact ⟨⟨⟨hl, hm⟩, hw⟩, h.2⟩
    · simp only [memsWfFrom, Bool.and_eq_true, decide_eq_true_eq]
      exact ⟨h.1, ih h.2 (by omega)⟩

theorem memsWf_put {a : AMap Mem} (i : Nat) {m : Mem} (h : memsWf a = true) (hm : Mem.wf m = true) : memsWf (memsPut a i m) = true := by
  unfold memsPut
  split_ifs with he
  · exact memsWfFrom_drop i h
  · exact memsWfFrom_set h (Nat.zero_le i) he hm

theorem mem_wf_of_memsWf {a : AMap Mem} (i : Nat) (h : memsWf a = true) : Mem.wf (AMap.get [] a i) = true := by
  have : ∀ (a : AMap Mem) (lo : Nat), memsWfFrom lo a = true → Mem.wf (AMap.get [] a i) = true := by
    intro a
    induction a with
    | nil => intros; rfl
    | cons e a ih =>
      intro lo h
      obtain ⟨k, m⟩ := e
      simp only [memsWfFrom, Bool.and_eq_true] at h
      simp only [AMap.get]
      split_ifs
      · exact h.1.2
      · exact ih _ h.2
  exact this a 0 h

@[simp] theorem memsPut_get_same (a : AMap Mem) (i : Nat) (m : Mem) : AMap.get [] (memsPut a i m) i = m := by
  unfold memsPut
  split_ifs with h
  · rw [h]; simp
  · simp

theorem memsPut_get_ne (a : AMap Mem) {i j : Nat} (m : Mem) (h : j ≠ i) : AMap.get [] (memsPut a i m) j = AMap.get [] a j := by
  unfold memsPut
  split_ifs
  · exact amap_get_drop_ne _ _ h
  · exact amap_get_set_ne _ _ _ h

/-! ### The memories of the module -/

theorem memsWf_parts {m : Mems} : Mems.wf m = true ↔
    Mem.wf m.host = true ∧ Mem.wf m.gddr = true ∧ memsWf m.sram = true ∧ memsWf m.dmem = true ∧ memsWf m.imem = true := by
  simp only [Mems.wf, Bool.and_eq_true, and_assoc]

theorem hostWrite_wf (s : State) (a : Nat) (bs : List Nat) (h : Mems.wf s.mems = true) : Mems.wf (s.hostWrite a bs).mems = true := by
  rw [memsWf_parts] at h ⊢
  exact ⟨mem_wf_writeBytes _ _ h.1, h.2⟩

theorem gddrWrite_wf (s : State) (a : Nat) (bs : List Nat) (h : Mems.wf s.mems = true) : Mems.wf (s.gddrWrite a bs).mems = true := by
  rw [memsWf_parts] at h ⊢
  exact ⟨h.1, mem_wf_writeBytes _ _ h.2.1, h.2.2⟩

theorem memPut_wf (s : State) (m : MemId) (a : Nat) (bs : List Nat) (h : Mems.wf s.mems = true) :
    Mems.wf (s.memPut m a bs).mems = true := by
  rw [memsWf_parts] at h
  obtain ⟨h1, h2, h3, h4, h5⟩ := h
  cases m <;> simp only [State.memPut, memsWf_parts]
  · exact ⟨h1, mem_wf_writeBytes _ _ h2, h3, h4, h5⟩
  · exact ⟨h1, h2, memsWf_put _ h3 (mem_wf_writeBytes _ _ (mem_wf_of_memsWf _ h3)), h4, h5⟩
  · exact ⟨h1, h2, h3, memsWf_put _ h4 (mem_wf_writeBytes _ _ (mem_wf_of_memsWf _ h4)), h5⟩
  · exact ⟨h1, h2, h3, h4, memsWf_put _ h5 (mem_wf_writeBytes _ _ (mem_wf_of_memsWf _ h5))⟩
  · exact ⟨h1, h2, h3, h4, h5⟩

/-- `memPut` changes memory only. -/
theorem memPut_frame (s : State) (m : MemId) (a : Nat) (bs : List Nat) : { s.memPut m a bs with mems := s.mems } = s := by
  cases m <;> rfl

/-- Host memory is not among the coded memories. -/
@[simp] theorem memPut_host (s : State) (m : MemId) (a : Nat) (bs : List Nat) : (s.memPut m a bs).mems.host = s.mems.host := by
  cases m <;> rfl

end Sys2Proof.Machine
end

