-- ==== Sys2Proof/Laws/NetTime.lean ====
section
/-! SUPPORT. Lemmas of the time unit: what extending a 32-bit time to 64 bits gives (R361). -/

namespace Sys2Proof.Machine

/-- The extension of the low 32 bits of `x` is `x` itself where `x` lies within 2^31 of the reference (R361). -/
theorem extendStamp_near (x r : Nat) (hx : x < 2 ^ 64) (h1 : x < r + 2 ^ 31) (h2 : r ≤ x + 2 ^ 31) :
    extendStamp (x % 2 ^ 32) r = x := by
  unfold extendStamp uwrap
  dsimp only
  split <;> omega

end Sys2Proof.Machine
end

