-- ==== Sys2Proof/Laws/State.lean ====
section
/-! SUPPORT. What each named update of the state does to each of its fields: one lemma for the fields it writes, one for all the
others. No proof needs to unfold a record update. -/

namespace Sys2Proof.Machine

variable (s : State)

@[simp] theorem State.wr_writes (f : Fld) (v : Nat) :
    (s.wr f v).regs = AMap.set s.regs f.key (v % 2 ^ f.w) := rfl

@[simp] theorem State.wr_frame (f : Fld) (v : Nat) :
    (s.wr f v).now = s.now ∧ (s.wr f v).timeOfs = s.timeOfs ∧ (s.wr f v).freeCount = s.freeCount ∧ (s.wr f v).busRead = s.busRead ∧
    (s.wr f v).active = s.active ∧ (s.wr f v).hiLatch = s.hiLatch ∧ (s.wr f v).hiHold = s.hiHold ∧ (s.wr f v).w1cSet = s.w1cSet ∧
    (s.wr f v).mems = s.mems ∧ (s.wr f v).events = s.events ∧ (s.wr f v).ports = s.ports ∧ (s.wr f v).axes = s.axes ∧
    (s.wr f v).ledger = s.ledger ∧ (s.wr f v).setsStaged = s.setsStaged ∧ (s.wr f v).sets = s.sets ∧ (s.wr f v).cams = s.cams ∧
    (s.wr f v).strobes = s.strobes ∧ (s.wr f v).lite = s.lite ∧ (s.wr f v).links = s.links ∧ (s.wr f v).tw = s.tw ∧
    (s.wr f v).swaths = s.swaths ∧ (s.wr f v).coal = s.coal ∧ (s.wr f v).msix = s.msix ∧ (s.wr f v).msixPend = s.msixPend ∧
    (s.wr f v).msixSent = s.msixSent ∧ (s.wr f v).cmd = s.cmd ∧ (s.wr f v).epoch = s.epoch ∧ (s.wr f v).memu = s.memu ∧
    (s.wr f v).graph = s.graph ∧ (s.wr f v).engines = s.engines ∧ (s.wr f v).clk0 = s.clk0 ∧ (s.wr f v).clkAt = s.clkAt ∧
    (s.wr f v).ctxs = s.ctxs ∧ (s.wr f v).frameTags = s.frameTags ∧ (s.wr f v).lastFrame = s.lastFrame ∧ (s.wr f v).chk = s.chk ∧
    (s.wr f v).dlv = s.dlv ∧ (s.wr f v).rcd = s.rcd ∧ (s.wr f v).time = s.time ∧ (s.wr f v).pwr = s.pwr ∧ (s.wr f v).thm = s.thm ∧
    (s.wr f v).diag = s.diag ∧ (s.wr f v).firm = s.firm ∧ (s.wr f v).pending = s.pending :=
    ⟨rfl, rfl, rfl, rfl, rfl, rfl, rfl, rfl, rfl, rfl, rfl, rfl, rfl, rfl, rfl, rfl, rfl, rfl, rfl, rfl, rfl, rfl, rfl, rfl, rfl, rfl,
    rfl, rfl, rfl, rfl, rfl, rfl, rfl, rfl, rfl, rfl, rfl, rfl, rfl, rfl, rfl, rfl, rfl, rfl⟩

@[simp] theorem State.wrActive_writes (f : Fld) (v : Nat) :
    (s.wrActive f v).active = AMap.set s.active f.key (v % 2 ^ f.w) := rfl

@[simp] theorem State.wrActive_reads (f : Fld) (v : Nat) (g : Fld) : (s.wrActive f v).rd g = s.rd g := rfl

@[simp] theorem State.wrActive_frame (f : Fld) (v : Nat) :
    (s.wrActive f v).now = s.now ∧ (s.wrActive f v).timeOfs = s.timeOfs ∧ (s.wrActive f v).freeCount = s.freeCount ∧
    (s.wrActive f v).busRead = s.busRead ∧ (s.wrActive f v).regs = s.regs ∧ (s.wrActive f v).hiLatch = s.hiLatch ∧
    (s.wrActive f v).hiHold = s.hiHold ∧ (s.wrActive f v).w1cSet = s.w1cSet ∧ (s.wrActive f v).mems = s.mems ∧
    (s.wrActive f v).events = s.events ∧ (s.wrActive f v).ports = s.ports ∧ (s.wrActive f v).axes = s.axes ∧
    (s.wrActive f v).ledger = s.ledger ∧ (s.wrActive f v).setsStaged = s.setsStaged ∧ (s.wrActive f v).sets = s.sets ∧
    (s.wrActive f v).cams = s.cams ∧ (s.wrActive f v).strobes = s.strobes ∧ (s.wrActive f v).lite = s.lite ∧
    (s.wrActive f v).links = s.links ∧ (s.wrActive f v).tw = s.tw ∧ (s.wrActive f v).swaths = s.swaths ∧
    (s.wrActive f v).coal = s.coal ∧ (s.wrActive f v).msix = s.msix ∧ (s.wrActive f v).msixPend = s.msixPend ∧
    (s.wrActive f v).msixSent = s.msixSent ∧ (s.wrActive f v).cmd = s.cmd ∧ (s.wrActive f v).epoch = s.epoch ∧
    (s.wrActive f v).memu = s.memu ∧ (s.wrActive f v).graph = s.graph ∧ (s.wrActive f v).engines = s.engines ∧
    (s.wrActive f v).clk0 = s.clk0 ∧ (s.wrActive f v).clkAt = s.clkAt ∧ (s.wrActive f v).ctxs = s.ctxs ∧
    (s.wrActive f v).frameTags = s.frameTags ∧ (s.wrActive f v).lastFrame = s.lastFrame ∧ (s.wrActive f v).chk = s.chk ∧
    (s.wrActive f v).dlv = s.dlv ∧ (s.wrActive f v).rcd = s.rcd ∧ (s.wrActive f v).time = s.time ∧ (s.wrActive f v).pwr = s.pwr ∧
    (s.wrActive f v).thm = s.thm ∧ (s.wrActive f v).diag = s.diag ∧ (s.wrActive f v).firm = s.firm ∧
    (s.wrActive f v).pending = s.pending :=
    ⟨rfl, rfl, rfl, rfl, rfl, rfl, rfl, rfl, rfl, rfl, rfl, rfl, rfl, rfl, rfl, rfl, rfl, rfl, rfl, rfl, rfl, rfl, rfl, rfl, rfl, rfl,
    rfl, rfl, rfl, rfl, rfl, rfl, rfl, rfl, rfl, rfl, rfl, rfl, rfl, rfl, rfl, rfl, rfl, rfl⟩

@[simp] theorem State.wrBoth_writes (f : Fld) (v : Nat) :
    (s.wrBoth f v).regs = AMap.set s.regs f.key (v % 2 ^ f.w) ∧ (s.wrBoth f v).active = AMap.set s.active f.key (v % 2 ^ f.w) := ⟨rfl, rfl⟩

@[simp] theorem State.wrBoth_frame (f : Fld) (v : Nat) :
    (s.wrBoth f v).now = s.now ∧ (s.wrBoth f v).timeOfs = s.timeOfs ∧ (s.wrBoth f v).freeCount = s.freeCount ∧
    (s.wrBoth f v).busRead = s.busRead ∧ (s.wrBoth f v).hiLatch = s.hiLatch ∧ (s.wrBoth f v).hiHold = s.hiHold ∧
    (s.wrBoth f v).w1cSet = s.w1cSet ∧ (s.wrBoth f v).mems = s.mems ∧ (s.wrBoth f v).events = s.events ∧
    (s.wrBoth f v).ports = s.ports ∧ (s.wrBoth f v).axes = s.axes ∧ (s.wrBoth f v).ledger = s.ledger ∧
    (s.wrBoth f v).setsStaged = s.setsStaged ∧ (s.wrBoth f v).sets = s.sets ∧ (s.wrBoth f v).cams = s.cams ∧
    (s.wrBoth f v).strobes = s.strobes ∧ (s.wrBoth f v).lite = s.lite ∧ (s.wrBoth f v).links = s.links ∧ (s.wrBoth f v).tw = s.tw ∧
    (s.wrBoth f v).swaths = s.swaths ∧ (s.wrBoth f v).coal = s.coal ∧ (s.wrBoth f v).msix = s.msix ∧
    (s.wrBoth f v).msixPend = s.msixPend ∧ (s.wrBoth f v).msixSent = s.msixSent ∧ (s.wrBoth f v).cmd = s.cmd ∧
    (s.wrBoth f v).epoch = s.epoch ∧ (s.wrBoth f v).memu = s.memu ∧ (s.wrBoth f v).graph = s.graph ∧
    (s.wrBoth f v).engines = s.engines ∧ (s.wrBoth f v).clk0 = s.clk0 ∧ (s.wrBoth f v).clkAt = s.clkAt ∧
    (s.wrBoth f v).ctxs = s.ctxs ∧ (s.wrBoth f v).frameTags = s.frameTags ∧ (s.wrBoth f v).lastFrame = s.lastFrame ∧
    (s.wrBoth f v).chk = s.chk ∧ (s.wrBoth f v).dlv = s.dlv ∧ (s.wrBoth f v).rcd = s.rcd ∧ (s.wrBoth f v).time = s.time ∧
    (s.wrBoth f v).pwr = s.pwr ∧ (s.wrBoth f v).thm = s.thm ∧ (s.wrBoth f v).diag = s.diag ∧ (s.wrBoth f v).firm = s.firm ∧
    (s.wrBoth f v).pending = s.pending :=
    ⟨rfl, rfl, rfl, rfl, rfl, rfl, rfl, rfl, rfl, rfl, rfl, rfl, rfl, rfl, rfl, rfl, rfl, rfl, rfl, rfl, rfl, rfl, rfl, rfl, rfl, rfl,
    rfl, rfl, rfl, rfl, rfl, rfl, rfl, rfl, rfl, rfl, rfl, rfl, rfl, rfl, rfl, rfl, rfl⟩

@[simp] theorem State.wrB_writes (f : Fld) (b : Bool) :
    (s.wrB f b).regs = AMap.set s.regs f.key (b2n b % 2 ^ f.w) := rfl

@[simp] theorem State.wrB_frame (f : Fld) (b : Bool) :
    (s.wrB f b).now = s.now ∧ (s.wrB f b).timeOfs = s.timeOfs ∧ (s.wrB f b).freeCount = s.freeCount ∧
    (s.wrB f b).busRead = s.busRead ∧ (s.wrB f b).active = s.active ∧ (s.wrB f b).hiLatch = s.hiLatch ∧
    (s.wrB f b).hiHold = s.hiHold ∧ (s.wrB f b).w1cSet = s.w1cSet ∧ (s.wrB f b).mems = s.mems ∧ (s.wrB f b).events = s.events ∧
    (s.wrB f b).ports = s.ports ∧ (s.wrB f b).axes = s.axes ∧ (s.wrB f b).ledger = s.ledger ∧ (s.wrB f b).setsStaged = s.setsStaged ∧
    (s.wrB f b).sets = s.sets ∧ (s.wrB f b).cams = s.cams ∧ (s.wrB f b).strobes = s.strobes ∧ (s.wrB f b).lite = s.lite ∧
    (s.wrB f b).links = s.links ∧ (s.wrB f b).tw = s.tw ∧ (s.wrB f b).swaths = s.swaths ∧ (s.wrB f b).coal = s.coal ∧
    (s.wrB f b).msix = s.msix ∧ (s.wrB f b).msixPend = s.msixPend ∧ (s.wrB f b).msixSent = s.msixSent ∧ (s.wrB f b).cmd = s.cmd ∧
    (s.wrB f b).epoch = s.epoch ∧ (s.wrB f b).memu = s.memu ∧ (s.wrB f b).graph = s.graph ∧ (s.wrB f b).engines = s.engines ∧
    (s.wrB f b).clk0 = s.clk0 ∧ (s.wrB f b).clkAt = s.clkAt ∧ (s.wrB f b).ctxs = s.ctxs ∧ (s.wrB f b).frameTags = s.frameTags ∧
    (s.wrB f b).lastFrame = s.lastFrame ∧ (s.wrB f b).chk = s.chk ∧ (s.wrB f b).dlv = s.dlv ∧ (s.wrB f b).rcd = s.rcd ∧
    (s.wrB f b).time = s.time ∧ (s.wrB f b).pwr = s.pwr ∧ (s.wrB f b).thm = s.thm ∧ (s.wrB f b).diag = s.diag ∧
    (s.wrB f b).firm = s.firm ∧ (s.wrB f b).pending = s.pending :=
    ⟨rfl, rfl, rfl, rfl, rfl, rfl, rfl, rfl, rfl, rfl, rfl, rfl, rfl, rfl, rfl, rfl, rfl, rfl, rfl, rfl, rfl, rfl, rfl, rfl, rfl, rfl,
    rfl, rfl, rfl, rfl, rfl, rfl, rfl, rfl, rfl, rfl, rfl, rfl, rfl, rfl, rfl, rfl, rfl, rfl⟩

@[simp] theorem State.sets1_writes (f : Fld) (m : Nat) :
    (s.sets1 f m).regs = AMap.set s.regs f.key ((s.rd f).lor m % 2 ^ f.w) ∧
    (s.sets1 f m).w1cSet = AMap.set s.w1cSet f.key (s.now, (s.justSet f).lor m) := ⟨rfl, rfl⟩

@[simp] theorem State.sets1_frame (f : Fld) (m : Nat) :
    (s.sets1 f m).now = s.now ∧ (s.sets1 f m).timeOfs = s.timeOfs ∧ (s.sets1 f m).freeCount = s.freeCount ∧
    (s.sets1 f m).busRead = s.busRead ∧ (s.sets1 f m).active = s.active ∧ (s.sets1 f m).hiLatch = s.hiLatch ∧
    (s.sets1 f m).hiHold = s.hiHold ∧ (s.sets1 f m).mems = s.mems ∧ (s.sets1 f m).events = s.events ∧ (s.sets1 f m).ports = s.ports ∧
    (s.sets1 f m).axes = s.axes ∧ (s.sets1 f m).ledger = s.ledger ∧ (s.sets1 f m).setsStaged = s.setsStaged ∧
    (s.sets1 f m).sets = s.sets ∧ (s.sets1 f m).cams = s.cams ∧ (s.sets1 f m).strobes = s.strobes ∧ (s.sets1 f m).lite = s.lite ∧
    (s.sets1 f m).links = s.links ∧ (s.sets1 f m).tw = s.tw ∧ (s.sets1 f m).swaths = s.swaths ∧ (s.sets1 f m).coal = s.coal ∧
    (s.sets1 f m).msix = s.msix ∧ (s.sets1 f m).msixPend = s.msixPend ∧ (s.sets1 f m).msixSent = s.msixSent ∧
    (s.sets1 f m).cmd = s.cmd ∧ (s.sets1 f m).epoch = s.epoch ∧ (s.sets1 f m).memu = s.memu ∧ (s.sets1 f m).graph = s.graph ∧
    (s.sets1 f m).engines = s.engines ∧ (s.sets1 f m).clk0 = s.clk0 ∧ (s.sets1 f m).clkAt = s.clkAt ∧ (s.sets1 f m).ctxs = s.ctxs ∧
    (s.sets1 f m).frameTags = s.frameTags ∧ (s.sets1 f m).lastFrame = s.lastFrame ∧ (s.sets1 f m).chk = s.chk ∧
    (s.sets1 f m).dlv = s.dlv ∧ (s.sets1 f m).rcd = s.rcd ∧ (s.sets1 f m).time = s.time ∧ (s.sets1 f m).pwr = s.pwr ∧
    (s.sets1 f m).thm = s.thm ∧ (s.sets1 f m).diag = s.diag ∧ (s.sets1 f m).firm = s.firm ∧ (s.sets1 f m).pending = s.pending :=
    ⟨rfl, rfl, rfl, rfl, rfl, rfl, rfl, rfl, rfl, rfl, rfl, rfl, rfl, rfl, rfl, rfl, rfl, rfl, rfl, rfl, rfl, rfl, rfl, rfl, rfl, rfl,
    rfl, rfl, rfl, rfl, rfl, rfl, rfl, rfl, rfl, rfl, rfl, rfl, rfl, rfl, rfl, rfl, rfl⟩

@[simp] theorem State.set1_writes (f : Fld) :
    (s.set1 f).regs = AMap.set s.regs f.key ((s.rd f).lor 1 % 2 ^ f.w) ∧
    (s.set1 f).w1cSet = AMap.set s.w1cSet f.key (s.now, (s.justSet f).lor 1) := ⟨rfl, rfl⟩

@[simp] theorem State.set1_frame (f : Fld) :
    (s.set1 f).now = s.now ∧ (s.set1 f).timeOfs = s.timeOfs ∧ (s.set1 f).freeCount = s.freeCount ∧ (s.set1 f).busRead = s.busRead ∧
    (s.set1 f).active = s.active ∧ (s.set1 f).hiLatch = s.hiLatch ∧ (s.set1 f).hiHold = s.hiHold ∧ (s.set1 f).mems = s.mems ∧
    (s.set1 f).events = s.events ∧ (s.set1 f).ports = s.ports ∧ (s.set1 f).axes = s.axes ∧ (s.set1 f).ledger = s.ledger ∧
    (s.set1 f).setsStaged = s.setsStaged ∧ (s.set1 f).sets = s.sets ∧ (s.set1 f).cams = s.cams ∧ (s.set1 f).strobes = s.strobes ∧
    (s.set1 f).lite = s.lite ∧ (s.set1 f).links = s.links ∧ (s.set1 f).tw = s.tw ∧ (s.set1 f).swaths = s.swaths ∧
    (s.set1 f).coal = s.coal ∧ (s.set1 f).msix = s.msix ∧ (s.set1 f).msixPend = s.msixPend ∧ (s.set1 f).msixSent = s.msixSent ∧
    (s.set1 f).cmd = s.cmd ∧ (s.set1 f).epoch = s.epoch ∧ (s.set1 f).memu = s.memu ∧ (s.set1 f).graph = s.graph ∧
    (s.set1 f).engines = s.engines ∧ (s.set1 f).clk0 = s.clk0 ∧ (s.set1 f).clkAt = s.clkAt ∧ (s.set1 f).ctxs = s.ctxs ∧
    (s.set1 f).frameTags = s.frameTags ∧ (s.set1 f).lastFrame = s.lastFrame ∧ (s.set1 f).chk = s.chk ∧ (s.set1 f).dlv = s.dlv ∧
    (s.set1 f).rcd = s.rcd ∧ (s.set1 f).time = s.time ∧ (s.set1 f).pwr = s.pwr ∧ (s.set1 f).thm = s.thm ∧ (s.set1 f).diag = s.diag ∧
    (s.set1 f).firm = s.firm ∧ (s.set1 f).pending = s.pending :=
    ⟨rfl, rfl, rfl, rfl, rfl, rfl, rfl, rfl, rfl, rfl, rfl, rfl, rfl, rfl, rfl, rfl, rfl, rfl, rfl, rfl, rfl, rfl, rfl, rfl, rfl, rfl,
    rfl, rfl, rfl, rfl, rfl, rfl, rfl, rfl, rfl, rfl, rfl, rfl, rfl, rfl, rfl, rfl, rfl⟩

@[simp] theorem State.clear1_frame (f : Fld) (m : Nat) :
    (s.clear1 f m).now = s.now ∧ (s.clear1 f m).timeOfs = s.timeOfs ∧ (s.clear1 f m).freeCount = s.freeCount ∧
    (s.clear1 f m).busRead = s.busRead ∧ (s.clear1 f m).active = s.active ∧ (s.clear1 f m).hiLatch = s.hiLatch ∧
    (s.clear1 f m).hiHold = s.hiHold ∧ (s.clear1 f m).w1cSet = s.w1cSet ∧ (s.clear1 f m).mems = s.mems ∧
    (s.clear1 f m).events = s.events ∧ (s.clear1 f m).ports = s.ports ∧ (s.clear1 f m).axes = s.axes ∧
    (s.clear1 f m).ledger = s.ledger ∧ (s.clear1 f m).setsStaged = s.setsStaged ∧ (s.clear1 f m).sets = s.sets ∧
    (s.clear1 f m).cams = s.cams ∧ (s.clear1 f m).strobes = s.strobes ∧ (s.clear1 f m).lite = s.lite ∧
    (s.clear1 f m).links = s.links ∧ (s.clear1 f m).tw = s.tw ∧ (s.clear1 f m).swaths = s.swaths ∧ (s.clear1 f m).coal = s.coal ∧
    (s.clear1 f m).msix = s.msix ∧ (s.clear1 f m).msixPend = s.msixPend ∧ (s.clear1 f m).msixSent = s.msixSent ∧
    (s.clear1 f m).cmd = s.cmd ∧ (s.clear1 f m).epoch = s.epoch ∧ (s.clear1 f m).memu = s.memu ∧ (s.clear1 f m).graph = s.graph ∧
    (s.clear1 f m).engines = s.engines ∧ (s.clear1 f m).clk0 = s.clk0 ∧ (s.clear1 f m).clkAt = s.clkAt ∧
    (s.clear1 f m).ctxs = s.ctxs ∧ (s.clear1 f m).frameTags = s.frameTags ∧ (s.clear1 f m).lastFrame = s.lastFrame ∧
    (s.clear1 f m).chk = s.chk ∧ (s.clear1 f m).dlv = s.dlv ∧ (s.clear1 f m).rcd = s.rcd ∧ (s.clear1 f m).time = s.time ∧
    (s.clear1 f m).pwr = s.pwr ∧ (s.clear1 f m).thm = s.thm ∧ (s.clear1 f m).diag = s.diag ∧ (s.clear1 f m).firm = s.firm ∧
    (s.clear1 f m).pending = s.pending :=
    ⟨rfl, rfl, rfl, rfl, rfl, rfl, rfl, rfl, rfl, rfl, rfl, rfl, rfl, rfl, rfl, rfl, rfl, rfl, rfl, rfl, rfl, rfl, rfl, rfl, rfl, rfl,
    rfl, rfl, rfl, rfl, rfl, rfl, rfl, rfl, rfl, rfl, rfl, rfl, rfl, rfl, rfl, rfl, rfl, rfl⟩

@[simp] theorem State.addSat_writes (f : Fld) (k : Nat) :
    (s.addSat f k).regs = AMap.set s.regs f.key (min (s.rd f + k) (2 ^ f.w - 1) % 2 ^ f.w) := rfl

@[simp] theorem State.addSat_frame (f : Fld) (k : Nat) :
    (s.addSat f k).now = s.now ∧ (s.addSat f k).timeOfs = s.timeOfs ∧ (s.addSat f k).freeCount = s.freeCount ∧
    (s.addSat f k).busRead = s.busRead ∧ (s.addSat f k).active = s.active ∧ (s.addSat f k).hiLatch = s.hiLatch ∧
    (s.addSat f k).hiHold = s.hiHold ∧ (s.addSat f k).w1cSet = s.w1cSet ∧ (s.addSat f k).mems = s.mems ∧
    (s.addSat f k).events = s.events ∧ (s.addSat f k).ports = s.ports ∧ (s.addSat f k).axes = s.axes ∧
    (s.addSat f k).ledger = s.ledger ∧ (s.addSat f k).setsStaged = s.setsStaged ∧ (s.addSat f k).sets = s.sets ∧
    (s.addSat f k).cams = s.cams ∧ (s.addSat f k).strobes = s.strobes ∧ (s.addSat f k).lite = s.lite ∧
    (s.addSat f k).links = s.links ∧ (s.addSat f k).tw = s.tw ∧ (s.addSat f k).swaths = s.swaths ∧ (s.addSat f k).coal = s.coal ∧
    (s.addSat f k).msix = s.msix ∧ (s.addSat f k).msixPend = s.msixPend ∧ (s.addSat f k).msixSent = s.msixSent ∧
    (s.addSat f k).cmd = s.cmd ∧ (s.addSat f k).epoch = s.epoch ∧ (s.addSat f k).memu = s.memu ∧ (s.addSat f k).graph = s.graph ∧
    (s.addSat f k).engines = s.engines ∧ (s.addSat f k).clk0 = s.clk0 ∧ (s.addSat f k).clkAt = s.clkAt ∧
    (s.addSat f k).ctxs = s.ctxs ∧ (s.addSat f k).frameTags = s.frameTags ∧ (s.addSat f k).lastFrame = s.lastFrame ∧
    (s.addSat f k).chk = s.chk ∧ (s.addSat f k).dlv = s.dlv ∧ (s.addSat f k).rcd = s.rcd ∧ (s.addSat f k).time = s.time ∧
    (s.addSat f k).pwr = s.pwr ∧ (s.addSat f k).thm = s.thm ∧ (s.addSat f k).diag = s.diag ∧ (s.addSat f k).firm = s.firm ∧
    (s.addSat f k).pending = s.pending :=
    ⟨rfl, rfl, rfl, rfl, rfl, rfl, rfl, rfl, rfl, rfl, rfl, rfl, rfl, rfl, rfl, rfl, rfl, rfl, rfl, rfl, rfl, rfl, rfl, rfl, rfl, rfl,
    rfl, rfl, rfl, rfl, rfl, rfl, rfl, rfl, rfl, rfl, rfl, rfl, rfl, rfl, rfl, rfl, rfl, rfl⟩

@[simp] theorem State.wrPair_writes (lo hi : Fld) (v : Nat) :
    (s.wrPair lo hi v).regs = AMap.set (AMap.set s.regs lo.key (v % 2 ^ 32 % 2 ^ lo.w)) hi.key (v / 2 ^ 32 % 2 ^ hi.w) := rfl

@[simp] theorem State.wrPair_frame (lo hi : Fld) (v : Nat) :
    (s.wrPair lo hi v).now = s.now ∧ (s.wrPair lo hi v).timeOfs = s.timeOfs ∧ (s.wrPair lo hi v).freeCount = s.freeCount ∧
    (s.wrPair lo hi v).busRead = s.busRead ∧ (s.wrPair lo hi v).active = s.active ∧ (s.wrPair lo hi v).hiLatch = s.hiLatch ∧
    (s.wrPair lo hi v).hiHold = s.hiHold ∧ (s.wrPair lo hi v).w1cSet = s.w1cSet ∧ (s.wrPair lo hi v).mems = s.mems ∧
    (s.wrPair lo hi v).events = s.events ∧ (s.wrPair lo hi v).ports = s.ports ∧ (s.wrPair lo hi v).axes = s.axes ∧
    (s.wrPair lo hi v).ledger = s.ledger ∧ (s.wrPair lo hi v).setsStaged = s.setsStaged ∧ (s.wrPair lo hi v).sets = s.sets ∧
    (s.wrPair lo hi v).cams = s.cams ∧ (s.wrPair lo hi v).strobes = s.strobes ∧ (s.wrPair lo hi v).lite = s.lite ∧
    (s.wrPair lo hi v).links = s.links ∧ (s.wrPair lo hi v).tw = s.tw ∧ (s.wrPair lo hi v).swaths = s.swaths ∧
    (s.wrPair lo hi v).coal = s.coal ∧ (s.wrPair lo hi v).msix = s.msix ∧ (s.wrPair lo hi v).msixPend = s.msixPend ∧
    (s.wrPair lo hi v).msixSent = s.msixSent ∧ (s.wrPair lo hi v).cmd = s.cmd ∧ (s.wrPair lo hi v).epoch = s.epoch ∧
    (s.wrPair lo hi v).memu = s.memu ∧ (s.wrPair lo hi v).graph = s.graph ∧ (s.wrPair lo hi v).engines = s.engines ∧
    (s.wrPair lo hi v).clk0 = s.clk0 ∧ (s.wrPair lo hi v).clkAt = s.clkAt ∧ (s.wrPair lo hi v).ctxs = s.ctxs ∧
    (s.wrPair lo hi v).frameTags = s.frameTags ∧ (s.wrPair lo hi v).lastFrame = s.lastFrame ∧ (s.wrPair lo hi v).chk = s.chk ∧
    (s.wrPair lo hi v).dlv = s.dlv ∧ (s.wrPair lo hi v).rcd = s.rcd ∧ (s.wrPair lo hi v).time = s.time ∧
    (s.wrPair lo hi v).pwr = s.pwr ∧ (s.wrPair lo hi v).thm = s.thm ∧ (s.wrPair lo hi v).diag = s.diag ∧
    (s.wrPair lo hi v).firm = s.firm ∧ (s.wrPair lo hi v).pending = s.pending :=
    ⟨rfl, rfl, rfl, rfl, rfl, rfl, rfl, rfl, rfl, rfl, rfl, rfl, rfl, rfl, rfl, rfl, rfl, rfl, rfl, rfl, rfl, rfl, rfl, rfl, rfl, rfl,
    rfl, rfl, rfl, rfl, rfl, rfl, rfl, rfl, rfl, rfl, rfl, rfl, rfl, rfl, rfl, rfl, rfl, rfl⟩

@[simp] theorem State.at_writes (t : Nat) :
    (s.at t).now = max s.now t := rfl

@[simp] theorem State.at_reads (t : Nat) (g : Fld) : (s.at t).rd g = s.rd g ∧ (s.at t).cfg g = s.cfg g := ⟨rfl, rfl⟩

@[simp] theorem State.at_frame (t : Nat) :
    (s.at t).timeOfs = s.timeOfs ∧ (s.at t).freeCount = s.freeCount ∧ (s.at t).busRead = s.busRead ∧ (s.at t).regs = s.regs ∧
    (s.at t).active = s.active ∧ (s.at t).hiLatch = s.hiLatch ∧ (s.at t).hiHold = s.hiHold ∧ (s.at t).w1cSet = s.w1cSet ∧
    (s.at t).mems = s.mems ∧ (s.at t).events = s.events ∧ (s.at t).ports = s.ports ∧ (s.at t).axes = s.axes ∧
    (s.at t).ledger = s.ledger ∧ (s.at t).setsStaged = s.setsStaged ∧ (s.at t).sets = s.sets ∧ (s.at t).cams = s.cams ∧
    (s.at t).strobes = s.strobes ∧ (s.at t).lite = s.lite ∧ (s.at t).links = s.links ∧ (s.at t).tw = s.tw ∧
    (s.at t).swaths = s.swaths ∧ (s.at t).coal = s.coal ∧ (s.at t).msix = s.msix ∧ (s.at t).msixPend = s.msixPend ∧
    (s.at t).msixSent = s.msixSent ∧ (s.at t).cmd = s.cmd ∧ (s.at t).epoch = s.epoch ∧ (s.at t).memu = s.memu ∧
    (s.at t).graph = s.graph ∧ (s.at t).engines = s.engines ∧ (s.at t).clk0 = s.clk0 ∧ (s.at t).clkAt = s.clkAt ∧
    (s.at t).ctxs = s.ctxs ∧ (s.at t).frameTags = s.frameTags ∧ (s.at t).lastFrame = s.lastFrame ∧ (s.at t).chk = s.chk ∧
    (s.at t).dlv = s.dlv ∧ (s.at t).rcd = s.rcd ∧ (s.at t).time = s.time ∧ (s.at t).pwr = s.pwr ∧ (s.at t).thm = s.thm ∧
    (s.at t).diag = s.diag ∧ (s.at t).firm = s.firm ∧ (s.at t).pending = s.pending :=
    ⟨rfl, rfl, rfl, rfl, rfl, rfl, rfl, rfl, rfl, rfl, rfl, rfl, rfl, rfl, rfl, rfl, rfl, rfl, rfl, rfl, rfl, rfl, rfl, rfl, rfl, rfl,
    rfl, rfl, rfl, rfl, rfl, rfl, rfl, rfl, rfl, rfl, rfl, rfl, rfl, rfl, rfl, rfl, rfl, rfl⟩

@[simp] theorem State.used_writes :
    (s.used).freeCount = s.freeCount + 1 := rfl

@[simp] theorem State.used_reads (g : Fld) : (s.used).rd g = s.rd g ∧ (s.used).cfg g = s.cfg g := ⟨rfl, rfl⟩

@[simp] theorem State.used_frame :
    (s.used).now = s.now ∧ (s.used).timeOfs = s.timeOfs ∧ (s.used).busRead = s.busRead ∧ (s.used).regs = s.regs ∧
    (s.used).active = s.active ∧ (s.used).hiLatch = s.hiLatch ∧ (s.used).hiHold = s.hiHold ∧ (s.used).w1cSet = s.w1cSet ∧
    (s.used).mems = s.mems ∧ (s.used).events = s.events ∧ (s.used).ports = s.ports ∧ (s.used).axes = s.axes ∧
    (s.used).ledger = s.ledger ∧ (s.used).setsStaged = s.setsStaged ∧ (s.used).sets = s.sets ∧ (s.used).cams = s.cams ∧
    (s.used).strobes = s.strobes ∧ (s.used).lite = s.lite ∧ (s.used).links = s.links ∧ (s.used).tw = s.tw ∧
    (s.used).swaths = s.swaths ∧ (s.used).coal = s.coal ∧ (s.used).msix = s.msix ∧ (s.used).msixPend = s.msixPend ∧
    (s.used).msixSent = s.msixSent ∧ (s.used).cmd = s.cmd ∧ (s.used).epoch = s.epoch ∧ (s.used).memu = s.memu ∧
    (s.used).graph = s.graph ∧ (s.used).engines = s.engines ∧ (s.used).clk0 = s.clk0 ∧ (s.used).clkAt = s.clkAt ∧
    (s.used).ctxs = s.ctxs ∧ (s.used).frameTags = s.frameTags ∧ (s.used).lastFrame = s.lastFrame ∧ (s.used).chk = s.chk ∧
    (s.used).dlv = s.dlv ∧ (s.used).rcd = s.rcd ∧ (s.used).time = s.time ∧ (s.used).pwr = s.pwr ∧ (s.used).thm = s.thm ∧
    (s.used).diag = s.diag ∧ (s.used).firm = s.firm ∧ (s.used).pending = s.pending :=
    ⟨rfl, rfl, rfl, rfl, rfl, rfl, rfl, rfl, rfl, rfl, rfl, rfl, rfl, rfl, rfl, rfl, rfl, rfl, rfl, rfl, rfl, rfl, rfl, rfl, rfl, rfl,
    rfl, rfl, rfl, rfl, rfl, rfl, rfl, rfl, rfl, rfl, rfl, rfl, rfl, rfl, rfl, rfl, rfl, rfl⟩

@[simp] theorem State.hostWrite_writes (a : Nat) (bs : List Nat) :
    (s.hostWrite a bs).mems = { s.mems with host := Mem.writeBytes s.mems.host a bs } := rfl

@[simp] theorem State.hostWrite_reads (a : Nat) (bs : List Nat) (g : Fld) : (s.hostWrite a bs).rd g = s.rd g ∧ (s.hostWrite a bs).cfg g = s.cfg g := ⟨rfl, rfl⟩

@[simp] theorem State.hostWrite_frame (a : Nat) (bs : List Nat) :
    (s.hostWrite a bs).now = s.now ∧ (s.hostWrite a bs).timeOfs = s.timeOfs ∧ (s.hostWrite a bs).freeCount = s.freeCount ∧
    (s.hostWrite a bs).busRead = s.busRead ∧ (s.hostWrite a bs).regs = s.regs ∧ (s.hostWrite a bs).active = s.active ∧
    (s.hostWrite a bs).hiLatch = s.hiLatch ∧ (s.hostWrite a bs).hiHold = s.hiHold ∧ (s.hostWrite a bs).w1cSet = s.w1cSet ∧
    (s.hostWrite a bs).events = s.events ∧ (s.hostWrite a bs).ports = s.ports ∧ (s.hostWrite a bs).axes = s.axes ∧
    (s.hostWrite a bs).ledger = s.ledger ∧ (s.hostWrite a bs).setsStaged = s.setsStaged ∧ (s.hostWrite a bs).sets = s.sets ∧
    (s.hostWrite a bs).cams = s.cams ∧ (s.hostWrite a bs).strobes = s.strobes ∧ (s.hostWrite a bs).lite = s.lite ∧
    (s.hostWrite a bs).links = s.links ∧ (s.hostWrite a bs).tw = s.tw ∧ (s.hostWrite a bs).swaths = s.swaths ∧
    (s.hostWrite a bs).coal = s.coal ∧ (s.hostWrite a bs).msix = s.msix ∧ (s.hostWrite a bs).msixPend = s.msixPend ∧
    (s.hostWrite a bs).msixSent = s.msixSent ∧ (s.hostWrite a bs).cmd = s.cmd ∧ (s.hostWrite a bs).epoch = s.epoch ∧
    (s.hostWrite a bs).memu = s.memu ∧ (s.hostWrite a bs).graph = s.graph ∧ (s.hostWrite a bs).engines = s.engines ∧
    (s.hostWrite a bs).clk0 = s.clk0 ∧ (s.hostWrite a bs).clkAt = s.clkAt ∧ (s.hostWrite a bs).ctxs = s.ctxs ∧
    (s.hostWrite a bs).frameTags = s.frameTags ∧ (s.hostWrite a bs).lastFrame = s.lastFrame ∧ (s.hostWrite a bs).chk = s.chk ∧
    (s.hostWrite a bs).dlv = s.dlv ∧ (s.hostWrite a bs).rcd = s.rcd ∧ (s.hostWrite a bs).time = s.time ∧
    (s.hostWrite a bs).pwr = s.pwr ∧ (s.hostWrite a bs).thm = s.thm ∧ (s.hostWrite a bs).diag = s.diag ∧
    (s.hostWrite a bs).firm = s.firm ∧ (s.hostWrite a bs).pending = s.pending :=
    ⟨rfl, rfl, rfl, rfl, rfl, rfl, rfl, rfl, rfl, rfl, rfl, rfl, rfl, rfl, rfl, rfl, rfl, rfl, rfl, rfl, rfl, rfl, rfl, rfl, rfl, rfl,
    rfl, rfl, rfl, rfl, rfl, rfl, rfl, rfl, rfl, rfl, rfl, rfl, rfl, rfl, rfl, rfl, rfl, rfl⟩

@[simp] theorem State.gddrWrite_writes (a : Nat) (bs : List Nat) :
    (s.gddrWrite a bs).mems = { s.mems with gddr := Mem.writeBytes s.mems.gddr a bs } := rfl

@[simp] theorem State.gddrWrite_reads (a : Nat) (bs : List Nat) (g : Fld) : (s.gddrWrite a bs).rd g = s.rd g ∧ (s.gddrWrite a bs).cfg g = s.cfg g := ⟨rfl, rfl⟩

@[simp] theorem State.gddrWrite_frame (a : Nat) (bs : List Nat) :
    (s.gddrWrite a bs).now = s.now ∧ (s.gddrWrite a bs).timeOfs = s.timeOfs ∧ (s.gddrWrite a bs).freeCount = s.freeCount ∧
    (s.gddrWrite a bs).busRead = s.busRead ∧ (s.gddrWrite a bs).regs = s.regs ∧ (s.gddrWrite a bs).active = s.active ∧
    (s.gddrWrite a bs).hiLatch = s.hiLatch ∧ (s.gddrWrite a bs).hiHold = s.hiHold ∧ (s.gddrWrite a bs).w1cSet = s.w1cSet ∧
    (s.gddrWrite a bs).events = s.events ∧ (s.gddrWrite a bs).ports = s.ports ∧ (s.gddrWrite a bs).axes = s.axes ∧
    (s.gddrWrite a bs).ledger = s.ledger ∧ (s.gddrWrite a bs).setsStaged = s.setsStaged ∧ (s.gddrWrite a bs).sets = s.sets ∧
    (s.gddrWrite a bs).cams = s.cams ∧ (s.gddrWrite a bs).strobes = s.strobes ∧ (s.gddrWrite a bs).lite = s.lite ∧
    (s.gddrWrite a bs).links = s.links ∧ (s.gddrWrite a bs).tw = s.tw ∧ (s.gddrWrite a bs).swaths = s.swaths ∧
    (s.gddrWrite a bs).coal = s.coal ∧ (s.gddrWrite a bs).msix = s.msix ∧ (s.gddrWrite a bs).msixPend = s.msixPend ∧
    (s.gddrWrite a bs).msixSent = s.msixSent ∧ (s.gddrWrite a bs).cmd = s.cmd ∧ (s.gddrWrite a bs).epoch = s.epoch ∧
    (s.gddrWrite a bs).memu = s.memu ∧ (s.gddrWrite a bs).graph = s.graph ∧ (s.gddrWrite a bs).engines = s.engines ∧
    (s.gddrWrite a bs).clk0 = s.clk0 ∧ (s.gddrWrite a bs).clkAt = s.clkAt ∧ (s.gddrWrite a bs).ctxs = s.ctxs ∧
    (s.gddrWrite a bs).frameTags = s.frameTags ∧ (s.gddrWrite a bs).lastFrame = s.lastFrame ∧ (s.gddrWrite a bs).chk = s.chk ∧
    (s.gddrWrite a bs).dlv = s.dlv ∧ (s.gddrWrite a bs).rcd = s.rcd ∧ (s.gddrWrite a bs).time = s.time ∧
    (s.gddrWrite a bs).pwr = s.pwr ∧ (s.gddrWrite a bs).thm = s.thm ∧ (s.gddrWrite a bs).diag = s.diag ∧
    (s.gddrWrite a bs).firm = s.firm ∧ (s.gddrWrite a bs).pending = s.pending :=
    ⟨rfl, rfl, rfl, rfl, rfl, rfl, rfl, rfl, rfl, rfl, rfl, rfl, rfl, rfl, rfl, rfl, rfl, rfl, rfl, rfl, rfl, rfl, rfl, rfl, rfl, rfl,
    rfl, rfl, rfl, rfl, rfl, rfl, rfl, rfl, rfl, rfl, rfl, rfl, rfl, rfl, rfl, rfl, rfl, rfl⟩

@[simp] theorem State.setPort_writes (n : Nat) (x : Port) :
    (s.setPort n x).ports = AMap.set s.ports n x := rfl

@[simp] theorem State.setPort_reads (n : Nat) (x : Port) (g : Fld) : (s.setPort n x).rd g = s.rd g ∧ (s.setPort n x).cfg g = s.cfg g := ⟨rfl, rfl⟩

@[simp] theorem State.setPort_frame (n : Nat) (x : Port) :
    (s.setPort n x).now = s.now ∧ (s.setPort n x).timeOfs = s.timeOfs ∧ (s.setPort n x).freeCount = s.freeCount ∧
    (s.setPort n x).busRead = s.busRead ∧ (s.setPort n x).regs = s.regs ∧ (s.setPort n x).active = s.active ∧
    (s.setPort n x).hiLatch = s.hiLatch ∧ (s.setPort n x).hiHold = s.hiHold ∧ (s.setPort n x).w1cSet = s.w1cSet ∧
    (s.setPort n x).mems = s.mems ∧ (s.setPort n x).events = s.events ∧ (s.setPort n x).axes = s.axes ∧
    (s.setPort n x).ledger = s.ledger ∧ (s.setPort n x).setsStaged = s.setsStaged ∧ (s.setPort n x).sets = s.sets ∧
    (s.setPort n x).cams = s.cams ∧ (s.setPort n x).strobes = s.strobes ∧ (s.setPort n x).lite = s.lite ∧
    (s.setPort n x).links = s.links ∧ (s.setPort n x).tw = s.tw ∧ (s.setPort n x).swaths = s.swaths ∧ (s.setPort n x).coal = s.coal ∧
    (s.setPort n x).msix = s.msix ∧ (s.setPort n x).msixPend = s.msixPend ∧ (s.setPort n x).msixSent = s.msixSent ∧
    (s.setPort n x).cmd = s.cmd ∧ (s.setPort n x).epoch = s.epoch ∧ (s.setPort n x).memu = s.memu ∧ (s.setPort n x).graph = s.graph ∧
    (s.setPort n x).engines = s.engines ∧ (s.setPort n x).clk0 = s.clk0 ∧ (s.setPort n x).clkAt = s.clkAt ∧
    (s.setPort n x).ctxs = s.ctxs ∧ (s.setPort n x).frameTags = s.frameTags ∧ (s.setPort n x).lastFrame = s.lastFrame ∧
    (s.setPort n x).chk = s.chk ∧ (s.setPort n x).dlv = s.dlv ∧ (s.setPort n x).rcd = s.rcd ∧ (s.setPort n x).time = s.time ∧
    (s.setPort n x).pwr = s.pwr ∧ (s.setPort n x).thm = s.thm ∧ (s.setPort n x).diag = s.diag ∧ (s.setPort n x).firm = s.firm ∧
    (s.setPort n x).pending = s.pending :=
    ⟨rfl, rfl, rfl, rfl, rfl, rfl, rfl, rfl, rfl, rfl, rfl, rfl, rfl, rfl, rfl, rfl, rfl, rfl, rfl, rfl, rfl, rfl, rfl, rfl, rfl, rfl,
    rfl, rfl, rfl, rfl, rfl, rfl, rfl, rfl, rfl, rfl, rfl, rfl, rfl, rfl, rfl, rfl, rfl, rfl⟩

@[simp] theorem State.setAxis_writes (n : Nat) (x : Axis) :
    (s.setAxis n x).axes = AMap.set s.axes n x := rfl

@[simp] theorem State.setAxis_reads (n : Nat) (x : Axis) (g : Fld) : (s.setAxis n x).rd g = s.rd g ∧ (s.setAxis n x).cfg g = s.cfg g := ⟨rfl, rfl⟩

@[simp] theorem State.setAxis_frame (n : Nat) (x : Axis) :
    (s.setAxis n x).now = s.now ∧ (s.setAxis n x).timeOfs = s.timeOfs ∧ (s.setAxis n x).freeCount = s.freeCount ∧
    (s.setAxis n x).busRead = s.busRead ∧ (s.setAxis n x).regs = s.regs ∧ (s.setAxis n x).active = s.active ∧
    (s.setAxis n x).hiLatch = s.hiLatch ∧ (s.setAxis n x).hiHold = s.hiHold ∧ (s.setAxis n x).w1cSet = s.w1cSet ∧
    (s.setAxis n x).mems = s.mems ∧ (s.setAxis n x).events = s.events ∧ (s.setAxis n x).ports = s.ports ∧
    (s.setAxis n x).ledger = s.ledger ∧ (s.setAxis n x).setsStaged = s.setsStaged ∧ (s.setAxis n x).sets = s.sets ∧
    (s.setAxis n x).cams = s.cams ∧ (s.setAxis n x).strobes = s.strobes ∧ (s.setAxis n x).lite = s.lite ∧
    (s.setAxis n x).links = s.links ∧ (s.setAxis n x).tw = s.tw ∧ (s.setAxis n x).swaths = s.swaths ∧ (s.setAxis n x).coal = s.coal ∧
    (s.setAxis n x).msix = s.msix ∧ (s.setAxis n x).msixPend = s.msixPend ∧ (s.setAxis n x).msixSent = s.msixSent ∧
    (s.setAxis n x).cmd = s.cmd ∧ (s.setAxis n x).epoch = s.epoch ∧ (s.setAxis n x).memu = s.memu ∧ (s.setAxis n x).graph = s.graph ∧
    (s.setAxis n x).engines = s.engines ∧ (s.setAxis n x).clk0 = s.clk0 ∧ (s.setAxis n x).clkAt = s.clkAt ∧
    (s.setAxis n x).ctxs = s.ctxs ∧ (s.setAxis n x).frameTags = s.frameTags ∧ (s.setAxis n x).lastFrame = s.lastFrame ∧
    (s.setAxis n x).chk = s.chk ∧ (s.setAxis n x).dlv = s.dlv ∧ (s.setAxis n x).rcd = s.rcd ∧ (s.setAxis n x).time = s.time ∧
    (s.setAxis n x).pwr = s.pwr ∧ (s.setAxis n x).thm = s.thm ∧ (s.setAxis n x).diag = s.diag ∧ (s.setAxis n x).firm = s.firm ∧
    (s.setAxis n x).pending = s.pending :=
    ⟨rfl, rfl, rfl, rfl, rfl, rfl, rfl, rfl, rfl, rfl, rfl, rfl, rfl, rfl, rfl, rfl, rfl, rfl, rfl, rfl, rfl, rfl, rfl, rfl, rfl, rfl,
    rfl, rfl, rfl, rfl, rfl, rfl, rfl, rfl, rfl, rfl, rfl, rfl, rfl, rfl, rfl, rfl, rfl, rfl⟩

@[simp] theorem State.setCam_writes (n : Nat) (x : Cam) :
    (s.setCam n x).cams = AMap.set s.cams n x := rfl

@[simp] theorem State.setCam_reads (n : Nat) (x : Cam) (g : Fld) : (s.setCam n x).rd g = s.rd g ∧ (s.setCam n x).cfg g = s.cfg g := ⟨rfl, rfl⟩

@[simp] theorem State.setCam_frame (n : Nat) (x : Cam) :
    (s.setCam n x).now = s.now ∧ (s.setCam n x).timeOfs = s.timeOfs ∧ (s.setCam n x).freeCount = s.freeCount ∧
    (s.setCam n x).busRead = s.busRead ∧ (s.setCam n x).regs = s.regs ∧ (s.setCam n x).active = s.active ∧
    (s.setCam n x).hiLatch = s.hiLatch ∧ (s.setCam n x).hiHold = s.hiHold ∧ (s.setCam n x).w1cSet = s.w1cSet ∧
    (s.setCam n x).mems = s.mems ∧ (s.setCam n x).events = s.events ∧ (s.setCam n x).ports = s.ports ∧ (s.setCam n x).axes = s.axes ∧
    (s.setCam n x).ledger = s.ledger ∧ (s.setCam n x).setsStaged = s.setsStaged ∧ (s.setCam n x).sets = s.sets ∧
    (s.setCam n x).strobes = s.strobes ∧ (s.setCam n x).lite = s.lite ∧ (s.setCam n x).links = s.links ∧ (s.setCam n x).tw = s.tw ∧
    (s.setCam n x).swaths = s.swaths ∧ (s.setCam n x).coal = s.coal ∧ (s.setCam n x).msix = s.msix ∧
    (s.setCam n x).msixPend = s.msixPend ∧ (s.setCam n x).msixSent = s.msixSent ∧ (s.setCam n x).cmd = s.cmd ∧
    (s.setCam n x).epoch = s.epoch ∧ (s.setCam n x).memu = s.memu ∧ (s.setCam n x).graph = s.graph ∧
    (s.setCam n x).engines = s.engines ∧ (s.setCam n x).clk0 = s.clk0 ∧ (s.setCam n x).clkAt = s.clkAt ∧
    (s.setCam n x).ctxs = s.ctxs ∧ (s.setCam n x).frameTags = s.frameTags ∧ (s.setCam n x).lastFrame = s.lastFrame ∧
    (s.setCam n x).chk = s.chk ∧ (s.setCam n x).dlv = s.dlv ∧ (s.setCam n x).rcd = s.rcd ∧ (s.setCam n x).time = s.time ∧
    (s.setCam n x).pwr = s.pwr ∧ (s.setCam n x).thm = s.thm ∧ (s.setCam n x).diag = s.diag ∧ (s.setCam n x).firm = s.firm ∧
    (s.setCam n x).pending = s.pending :=
    ⟨rfl, rfl, rfl, rfl, rfl, rfl, rfl, rfl, rfl, rfl, rfl, rfl, rfl, rfl, rfl, rfl, rfl, rfl, rfl, rfl, rfl, rfl, rfl, rfl, rfl, rfl,
    rfl, rfl, rfl, rfl, rfl, rfl, rfl, rfl, rfl, rfl, rfl, rfl, rfl, rfl, rfl, rfl, rfl, rfl⟩

@[simp] theorem State.setStrobe_writes (n : Nat) (x : Strobe) :
    (s.setStrobe n x).strobes = AMap.set s.strobes n x := rfl

@[simp] theorem State.setStrobe_reads (n : Nat) (x : Strobe) (g : Fld) : (s.setStrobe n x).rd g = s.rd g ∧ (s.setStrobe n x).cfg g = s.cfg g := ⟨rfl, rfl⟩

@[simp] theorem State.setStrobe_frame (n : Nat) (x : Strobe) :
    (s.setStrobe n x).now = s.now ∧ (s.setStrobe n x).timeOfs = s.timeOfs ∧ (s.setStrobe n x).freeCount = s.freeCount ∧
    (s.setStrobe n x).busRead = s.busRead ∧ (s.setStrobe n x).regs = s.regs ∧ (s.setStrobe n x).active = s.active ∧
    (s.setStrobe n x).hiLatch = s.hiLatch ∧ (s.setStrobe n x).hiHold = s.hiHold ∧ (s.setStrobe n x).w1cSet = s.w1cSet ∧
    (s.setStrobe n x).mems = s.mems ∧ (s.setStrobe n x).events = s.events ∧ (s.setStrobe n x).ports = s.ports ∧
    (s.setStrobe n x).axes = s.axes ∧ (s.setStrobe n x).ledger = s.ledger ∧ (s.setStrobe n x).setsStaged = s.setsStaged ∧
    (s.setStrobe n x).sets = s.sets ∧ (s.setStrobe n x).cams = s.cams ∧ (s.setStrobe n x).lite = s.lite ∧
    (s.setStrobe n x).links = s.links ∧ (s.setStrobe n x).tw = s.tw ∧ (s.setStrobe n x).swaths = s.swaths ∧
    (s.setStrobe n x).coal = s.coal ∧ (s.setStrobe n x).msix = s.msix ∧ (s.setStrobe n x).msixPend = s.msixPend ∧
    (s.setStrobe n x).msixSent = s.msixSent ∧ (s.setStrobe n x).cmd = s.cmd ∧ (s.setStrobe n x).epoch = s.epoch ∧
    (s.setStrobe n x).memu = s.memu ∧ (s.setStrobe n x).graph = s.graph ∧ (s.setStrobe n x).engines = s.engines ∧
    (s.setStrobe n x).clk0 = s.clk0 ∧ (s.setStrobe n x).clkAt = s.clkAt ∧ (s.setStrobe n x).ctxs = s.ctxs ∧
    (s.setStrobe n x).frameTags = s.frameTags ∧ (s.setStrobe n x).lastFrame = s.lastFrame ∧ (s.setStrobe n x).chk = s.chk ∧
    (s.setStrobe n x).dlv = s.dlv ∧ (s.setStrobe n x).rcd = s.rcd ∧ (s.setStrobe n x).time = s.time ∧ (s.setStrobe n x).pwr = s.pwr ∧
    (s.setStrobe n x).thm = s.thm ∧ (s.setStrobe n x).diag = s.diag ∧ (s.setStrobe n x).firm = s.firm ∧
    (s.setStrobe n x).pending = s.pending :=
    ⟨rfl, rfl, rfl, rfl, rfl, rfl, rfl, rfl, rfl, rfl, rfl, rfl, rfl, rfl, rfl, rfl, rfl, rfl, rfl, rfl, rfl, rfl, rfl, rfl, rfl, rfl,
    rfl, rfl, rfl, rfl, rfl, rfl, rfl, rfl, rfl, rfl, rfl, rfl, rfl, rfl, rfl, rfl, rfl, rfl⟩

@[simp] theorem State.setEnt_reads (n : Nat) (x : LAct) (g : Fld) : (s.setEnt n x).rd g = s.rd g ∧ (s.setEnt n x).cfg g = s.cfg g := ⟨rfl, rfl⟩

@[simp] theorem State.setEnt_frame (n : Nat) (x : LAct) :
    (s.setEnt n x).now = s.now ∧ (s.setEnt n x).timeOfs = s.timeOfs ∧ (s.setEnt n x).freeCount = s.freeCount ∧
    (s.setEnt n x).busRead = s.busRead ∧ (s.setEnt n x).regs = s.regs ∧ (s.setEnt n x).active = s.active ∧
    (s.setEnt n x).hiLatch = s.hiLatch ∧ (s.setEnt n x).hiHold = s.hiHold ∧ (s.setEnt n x).w1cSet = s.w1cSet ∧
    (s.setEnt n x).mems = s.mems ∧ (s.setEnt n x).events = s.events ∧ (s.setEnt n x).ports = s.ports ∧ (s.setEnt n x).axes = s.axes ∧
    (s.setEnt n x).setsStaged = s.setsStaged ∧ (s.setEnt n x).sets = s.sets ∧ (s.setEnt n x).cams = s.cams ∧
    (s.setEnt n x).strobes = s.strobes ∧ (s.setEnt n x).lite = s.lite ∧ (s.setEnt n x).links = s.links ∧ (s.setEnt n x).tw = s.tw ∧
    (s.setEnt n x).swaths = s.swaths ∧ (s.setEnt n x).coal = s.coal ∧ (s.setEnt n x).msix = s.msix ∧
    (s.setEnt n x).msixPend = s.msixPend ∧ (s.setEnt n x).msixSent = s.msixSent ∧ (s.setEnt n x).cmd = s.cmd ∧
    (s.setEnt n x).epoch = s.epoch ∧ (s.setEnt n x).memu = s.memu ∧ (s.setEnt n x).graph = s.graph ∧
    (s.setEnt n x).engines = s.engines ∧ (s.setEnt n x).clk0 = s.clk0 ∧ (s.setEnt n x).clkAt = s.clkAt ∧
    (s.setEnt n x).ctxs = s.ctxs ∧ (s.setEnt n x).frameTags = s.frameTags ∧ (s.setEnt n x).lastFrame = s.lastFrame ∧
    (s.setEnt n x).chk = s.chk ∧ (s.setEnt n x).dlv = s.dlv ∧ (s.setEnt n x).rcd = s.rcd ∧ (s.setEnt n x).time = s.time ∧
    (s.setEnt n x).pwr = s.pwr ∧ (s.setEnt n x).thm = s.thm ∧ (s.setEnt n x).diag = s.diag ∧ (s.setEnt n x).firm = s.firm ∧
    (s.setEnt n x).pending = s.pending :=
    ⟨rfl, rfl, rfl, rfl, rfl, rfl, rfl, rfl, rfl, rfl, rfl, rfl, rfl, rfl, rfl, rfl, rfl, rfl, rfl, rfl, rfl, rfl, rfl, rfl, rfl, rfl,
    rfl, rfl, rfl, rfl, rfl, rfl, rfl, rfl, rfl, rfl, rfl, rfl, rfl, rfl, rfl, rfl, rfl, rfl⟩

@[simp] theorem State.setStagedEnt_reads (n : Nat) (x : LEnt) (g : Fld) : (s.setStagedEnt n x).rd g = s.rd g ∧ (s.setStagedEnt n x).cfg g = s.cfg g := ⟨rfl, rfl⟩

@[simp] theorem State.setStagedEnt_frame (n : Nat) (x : LEnt) :
    (s.setStagedEnt n x).now = s.now ∧ (s.setStagedEnt n x).timeOfs = s.timeOfs ∧ (s.setStagedEnt n x).freeCount = s.freeCount ∧
    (s.setStagedEnt n x).busRead = s.busRead ∧ (s.setStagedEnt n x).regs = s.regs ∧ (s.setStagedEnt n x).active = s.active ∧
    (s.setStagedEnt n x).hiLatch = s.hiLatch ∧ (s.setStagedEnt n x).hiHold = s.hiHold ∧ (s.setStagedEnt n x).w1cSet = s.w1cSet ∧
    (s.setStagedEnt n x).mems = s.mems ∧ (s.setStagedEnt n x).events = s.events ∧ (s.setStagedEnt n x).ports = s.ports ∧
    (s.setStagedEnt n x).axes = s.axes ∧ (s.setStagedEnt n x).setsStaged = s.setsStaged ∧ (s.setStagedEnt n x).sets = s.sets ∧
    (s.setStagedEnt n x).cams = s.cams ∧ (s.setStagedEnt n x).strobes = s.strobes ∧ (s.setStagedEnt n x).lite = s.lite ∧
    (s.setStagedEnt n x).links = s.links ∧ (s.setStagedEnt n x).tw = s.tw ∧ (s.setStagedEnt n x).swaths = s.swaths ∧
    (s.setStagedEnt n x).coal = s.coal ∧ (s.setStagedEnt n x).msix = s.msix ∧ (s.setStagedEnt n x).msixPend = s.msixPend ∧
    (s.setStagedEnt n x).msixSent = s.msixSent ∧ (s.setStagedEnt n x).cmd = s.cmd ∧ (s.setStagedEnt n x).epoch = s.epoch ∧
    (s.setStagedEnt n x).memu = s.memu ∧ (s.setStagedEnt n x).graph = s.graph ∧ (s.setStagedEnt n x).engines = s.engines ∧
    (s.setStagedEnt n x).clk0 = s.clk0 ∧ (s.setStagedEnt n x).clkAt = s.clkAt ∧ (s.setStagedEnt n x).ctxs = s.ctxs ∧
    (s.setStagedEnt n x).frameTags = s.frameTags ∧ (s.setStagedEnt n x).lastFrame = s.lastFrame ∧ (s.setStagedEnt n x).chk = s.chk ∧
    (s.setStagedEnt n x).dlv = s.dlv ∧ (s.setStagedEnt n x).rcd = s.rcd ∧ (s.setStagedEnt n x).time = s.time ∧
    (s.setStagedEnt n x).pwr = s.pwr ∧ (s.setStagedEnt n x).thm = s.thm ∧ (s.setStagedEnt n x).diag = s.diag ∧
    (s.setStagedEnt n x).firm = s.firm ∧ (s.setStagedEnt n x).pending = s.pending :=
    ⟨rfl, rfl, rfl, rfl, rfl, rfl, rfl, rfl, rfl, rfl, rfl, rfl, rfl, rfl, rfl, rfl, rfl, rfl, rfl, rfl, rfl, rfl, rfl, rfl, rfl, rfl,
    rfl, rfl, rfl, rfl, rfl, rfl, rfl, rfl, rfl, rfl, rfl, rfl, rfl, rfl, rfl, rfl, rfl, rfl⟩

@[simp] theorem State.setLink_writes (n : Nat) (x : Link) :
    (s.setLink n x).links = AMap.set s.links n x := rfl

@[simp] theorem State.setLink_reads (n : Nat) (x : Link) (g : Fld) : (s.setLink n x).rd g = s.rd g ∧ (s.setLink n x).cfg g = s.cfg g := ⟨rfl, rfl⟩

@[simp] theorem State.setLink_frame (n : Nat) (x : Link) :
    (s.setLink n x).now = s.now ∧ (s.setLink n x).timeOfs = s.timeOfs ∧ (s.setLink n x).freeCount = s.freeCount ∧
    (s.setLink n x).busRead = s.busRead ∧ (s.setLink n x).regs = s.regs ∧ (s.setLink n x).active = s.active ∧
    (s.setLink n x).hiLatch = s.hiLatch ∧ (s.setLink n x).hiHold = s.hiHold ∧ (s.setLink n x).w1cSet = s.w1cSet ∧
    (s.setLink n x).mems = s.mems ∧ (s.setLink n x).events = s.events ∧ (s.setLink n x).ports = s.ports ∧
    (s.setLink n x).axes = s.axes ∧ (s.setLink n x).ledger = s.ledger ∧ (s.setLink n x).setsStaged = s.setsStaged ∧
    (s.setLink n x).sets = s.sets ∧ (s.setLink n x).cams = s.cams ∧ (s.setLink n x).strobes = s.strobes ∧
    (s.setLink n x).lite = s.lite ∧ (s.setLink n x).tw = s.tw ∧ (s.setLink n x).swaths = s.swaths ∧ (s.setLink n x).coal = s.coal ∧
    (s.setLink n x).msix = s.msix ∧ (s.setLink n x).msixPend = s.msixPend ∧ (s.setLink n x).msixSent = s.msixSent ∧
    (s.setLink n x).cmd = s.cmd ∧ (s.setLink n x).epoch = s.epoch ∧ (s.setLink n x).memu = s.memu ∧ (s.setLink n x).graph = s.graph ∧
    (s.setLink n x).engines = s.engines ∧ (s.setLink n x).clk0 = s.clk0 ∧ (s.setLink n x).clkAt = s.clkAt ∧
    (s.setLink n x).ctxs = s.ctxs ∧ (s.setLink n x).frameTags = s.frameTags ∧ (s.setLink n x).lastFrame = s.lastFrame ∧
    (s.setLink n x).chk = s.chk ∧ (s.setLink n x).dlv = s.dlv ∧ (s.setLink n x).rcd = s.rcd ∧ (s.setLink n x).time = s.time ∧
    (s.setLink n x).pwr = s.pwr ∧ (s.setLink n x).thm = s.thm ∧ (s.setLink n x).diag = s.diag ∧ (s.setLink n x).firm = s.firm ∧
    (s.setLink n x).pending = s.pending :=
    ⟨rfl, rfl, rfl, rfl, rfl, rfl, rfl, rfl, rfl, rfl, rfl, rfl, rfl, rfl, rfl, rfl, rfl, rfl, rfl, rfl, rfl, rfl, rfl, rfl, rfl, rfl,
    rfl, rfl, rfl, rfl, rfl, rfl, rfl, rfl, rfl, rfl, rfl, rfl, rfl, rfl, rfl, rfl, rfl, rfl⟩

@[simp] theorem State.setTwp_writes (n : Nat) (x : TwPort) :
    (s.setTwp n x).tw = AMap.set s.tw n x := rfl

@[simp] theorem State.setTwp_reads (n : Nat) (x : TwPort) (g : Fld) : (s.setTwp n x).rd g = s.rd g ∧ (s.setTwp n x).cfg g = s.cfg g := ⟨rfl, rfl⟩

@[simp] theorem State.setTwp_frame (n : Nat) (x : TwPort) :
    (s.setTwp n x).now = s.now ∧ (s.setTwp n x).timeOfs = s.timeOfs ∧ (s.setTwp n x).freeCount = s.freeCount ∧
    (s.setTwp n x).busRead = s.busRead ∧ (s.setTwp n x).regs = s.regs ∧ (s.setTwp n x).active = s.active ∧
    (s.setTwp n x).hiLatch = s.hiLatch ∧ (s.setTwp n x).hiHold = s.hiHold ∧ (s.setTwp n x).w1cSet = s.w1cSet ∧
    (s.setTwp n x).mems = s.mems ∧ (s.setTwp n x).events = s.events ∧ (s.setTwp n x).ports = s.ports ∧ (s.setTwp n x).axes = s.axes ∧
    (s.setTwp n x).ledger = s.ledger ∧ (s.setTwp n x).setsStaged = s.setsStaged ∧ (s.setTwp n x).sets = s.sets ∧
    (s.setTwp n x).cams = s.cams ∧ (s.setTwp n x).strobes = s.strobes ∧ (s.setTwp n x).lite = s.lite ∧
    (s.setTwp n x).links = s.links ∧ (s.setTwp n x).swaths = s.swaths ∧ (s.setTwp n x).coal = s.coal ∧ (s.setTwp n x).msix = s.msix ∧
    (s.setTwp n x).msixPend = s.msixPend ∧ (s.setTwp n x).msixSent = s.msixSent ∧ (s.setTwp n x).cmd = s.cmd ∧
    (s.setTwp n x).epoch = s.epoch ∧ (s.setTwp n x).memu = s.memu ∧ (s.setTwp n x).graph = s.graph ∧
    (s.setTwp n x).engines = s.engines ∧ (s.setTwp n x).clk0 = s.clk0 ∧ (s.setTwp n x).clkAt = s.clkAt ∧
    (s.setTwp n x).ctxs = s.ctxs ∧ (s.setTwp n x).frameTags = s.frameTags ∧ (s.setTwp n x).lastFrame = s.lastFrame ∧
    (s.setTwp n x).chk = s.chk ∧ (s.setTwp n x).dlv = s.dlv ∧ (s.setTwp n x).rcd = s.rcd ∧ (s.setTwp n x).time = s.time ∧
    (s.setTwp n x).pwr = s.pwr ∧ (s.setTwp n x).thm = s.thm ∧ (s.setTwp n x).diag = s.diag ∧ (s.setTwp n x).firm = s.firm ∧
    (s.setTwp n x).pending = s.pending :=
    ⟨rfl, rfl, rfl, rfl, rfl, rfl, rfl, rfl, rfl, rfl, rfl, rfl, rfl, rfl, rfl, rfl, rfl, rfl, rfl, rfl, rfl, rfl, rfl, rfl, rfl, rfl,
    rfl, rfl, rfl, rfl, rfl, rfl, rfl, rfl, rfl, rfl, rfl, rfl, rfl, rfl, rfl, rfl, rfl, rfl⟩

@[simp] theorem State.setCtx_writes (n : Nat) (x : Ctx) :
    (s.setCtx n x).ctxs = AMap.set s.ctxs n x := rfl

@[simp] theorem State.setCtx_reads (n : Nat) (x : Ctx) (g : Fld) : (s.setCtx n x).rd g = s.rd g ∧ (s.setCtx n x).cfg g = s.cfg g := ⟨rfl, rfl⟩

@[simp] theorem State.setCtx_frame (n : Nat) (x : Ctx) :
    (s.setCtx n x).now = s.now ∧ (s.setCtx n x).timeOfs = s.timeOfs ∧ (s.setCtx n x).freeCount = s.freeCount ∧
    (s.setCtx n x).busRead = s.busRead ∧ (s.setCtx n x).regs = s.regs ∧ (s.setCtx n x).active = s.active ∧
    (s.setCtx n x).hiLatch = s.hiLatch ∧ (s.setCtx n x).hiHold = s.hiHold ∧ (s.setCtx n x).w1cSet = s.w1cSet ∧
    (s.setCtx n x).mems = s.mems ∧ (s.setCtx n x).events = s.events ∧ (s.setCtx n x).ports = s.ports ∧ (s.setCtx n x).axes = s.axes ∧
    (s.setCtx n x).ledger = s.ledger ∧ (s.setCtx n x).setsStaged = s.setsStaged ∧ (s.setCtx n x).sets = s.sets ∧
    (s.setCtx n x).cams = s.cams ∧ (s.setCtx n x).strobes = s.strobes ∧ (s.setCtx n x).lite = s.lite ∧
    (s.setCtx n x).links = s.links ∧ (s.setCtx n x).tw = s.tw ∧ (s.setCtx n x).swaths = s.swaths ∧ (s.setCtx n x).coal = s.coal ∧
    (s.setCtx n x).msix = s.msix ∧ (s.setCtx n x).msixPend = s.msixPend ∧ (s.setCtx n x).msixSent = s.msixSent ∧
    (s.setCtx n x).cmd = s.cmd ∧ (s.setCtx n x).epoch = s.epoch ∧ (s.setCtx n x).memu = s.memu ∧ (s.setCtx n x).graph = s.graph ∧
    (s.setCtx n x).engines = s.engines ∧ (s.setCtx n x).clk0 = s.clk0 ∧ (s.setCtx n x).clkAt = s.clkAt ∧
    (s.setCtx n x).frameTags = s.frameTags ∧ (s.setCtx n x).lastFrame = s.lastFrame ∧ (s.setCtx n x).chk = s.chk ∧
    (s.setCtx n x).dlv = s.dlv ∧ (s.setCtx n x).rcd = s.rcd ∧ (s.setCtx n x).time = s.time ∧ (s.setCtx n x).pwr = s.pwr ∧
    (s.setCtx n x).thm = s.thm ∧ (s.setCtx n x).diag = s.diag ∧ (s.setCtx n x).firm = s.firm ∧ (s.setCtx n x).pending = s.pending :=
    ⟨rfl, rfl, rfl, rfl, rfl, rfl, rfl, rfl, rfl, rfl, rfl, rfl, rfl, rfl, rfl, rfl, rfl, rfl, rfl, rfl, rfl, rfl, rfl, rfl, rfl, rfl,
    rfl, rfl, rfl, rfl, rfl, rfl, rfl, rfl, rfl, rfl, rfl, rfl, rfl, rfl, rfl, rfl, rfl, rfl⟩

@[simp] theorem State.setChk_writes (n : Nat) (x : ChkUnit) :
    (s.setChk n x).chk = AMap.set s.chk n x := rfl

@[simp] theorem State.setChk_reads (n : Nat) (x : ChkUnit) (g : Fld) : (s.setChk n x).rd g = s.rd g ∧ (s.setChk n x).cfg g = s.cfg g := ⟨rfl, rfl⟩

@[simp] theorem State.setChk_frame (n : Nat) (x : ChkUnit) :
    (s.setChk n x).now = s.now ∧ (s.setChk n x).timeOfs = s.timeOfs ∧ (s.setChk n x).freeCount = s.freeCount ∧
    (s.setChk n x).busRead = s.busRead ∧ (s.setChk n x).regs = s.regs ∧ (s.setChk n x).active = s.active ∧
    (s.setChk n x).hiLatch = s.hiLatch ∧ (s.setChk n x).hiHold = s.hiHold ∧ (s.setChk n x).w1cSet = s.w1cSet ∧
    (s.setChk n x).mems = s.mems ∧ (s.setChk n x).events = s.events ∧ (s.setChk n x).ports = s.ports ∧ (s.setChk n x).axes = s.axes ∧
    (s.setChk n x).ledger = s.ledger ∧ (s.setChk n x).setsStaged = s.setsStaged ∧ (s.setChk n x).sets = s.sets ∧
    (s.setChk n x).cams = s.cams ∧ (s.setChk n x).strobes = s.strobes ∧ (s.setChk n x).lite = s.lite ∧
    (s.setChk n x).links = s.links ∧ (s.setChk n x).tw = s.tw ∧ (s.setChk n x).swaths = s.swaths ∧ (s.setChk n x).coal = s.coal ∧
    (s.setChk n x).msix = s.msix ∧ (s.setChk n x).msixPend = s.msixPend ∧ (s.setChk n x).msixSent = s.msixSent ∧
    (s.setChk n x).cmd = s.cmd ∧ (s.setChk n x).epoch = s.epoch ∧ (s.setChk n x).memu = s.memu ∧ (s.setChk n x).graph = s.graph ∧
    (s.setChk n x).engines = s.engines ∧ (s.setChk n x).clk0 = s.clk0 ∧ (s.setChk n x).clkAt = s.clkAt ∧
    (s.setChk n x).ctxs = s.ctxs ∧ (s.setChk n x).frameTags = s.frameTags ∧ (s.setChk n x).lastFrame = s.lastFrame ∧
    (s.setChk n x).dlv = s.dlv ∧ (s.setChk n x).rcd = s.rcd ∧ (s.setChk n x).time = s.time ∧ (s.setChk n x).pwr = s.pwr ∧
    (s.setChk n x).thm = s.thm ∧ (s.setChk n x).diag = s.diag ∧ (s.setChk n x).firm = s.firm ∧ (s.setChk n x).pending = s.pending :=
    ⟨rfl, rfl, rfl, rfl, rfl, rfl, rfl, rfl, rfl, rfl, rfl, rfl, rfl, rfl, rfl, rfl, rfl, rfl, rfl, rfl, rfl, rfl, rfl, rfl, rfl, rfl,
    rfl, rfl, rfl, rfl, rfl, rfl, rfl, rfl, rfl, rfl, rfl, rfl, rfl, rfl, rfl, rfl, rfl, rfl⟩

@[simp] theorem State.setSwath_writes (n : Nat) (x : Swath) :
    (s.setSwath n x).swaths = AMap.set s.swaths n x := rfl

@[simp] theorem State.setSwath_reads (n : Nat) (x : Swath) (g : Fld) : (s.setSwath n x).rd g = s.rd g ∧ (s.setSwath n x).cfg g = s.cfg g := ⟨rfl, rfl⟩

@[simp] theorem State.setSwath_frame (n : Nat) (x : Swath) :
    (s.setSwath n x).now = s.now ∧ (s.setSwath n x).timeOfs = s.timeOfs ∧ (s.setSwath n x).freeCount = s.freeCount ∧
    (s.setSwath n x).busRead = s.busRead ∧ (s.setSwath n x).regs = s.regs ∧ (s.setSwath n x).active = s.active ∧
    (s.setSwath n x).hiLatch = s.hiLatch ∧ (s.setSwath n x).hiHold = s.hiHold ∧ (s.setSwath n x).w1cSet = s.w1cSet ∧
    (s.setSwath n x).mems = s.mems ∧ (s.setSwath n x).events = s.events ∧ (s.setSwath n x).ports = s.ports ∧
    (s.setSwath n x).axes = s.axes ∧ (s.setSwath n x).ledger = s.ledger ∧ (s.setSwath n x).setsStaged = s.setsStaged ∧
    (s.setSwath n x).sets = s.sets ∧ (s.setSwath n x).cams = s.cams ∧ (s.setSwath n x).strobes = s.strobes ∧
    (s.setSwath n x).lite = s.lite ∧ (s.setSwath n x).links = s.links ∧ (s.setSwath n x).tw = s.tw ∧ (s.setSwath n x).coal = s.coal ∧
    (s.setSwath n x).msix = s.msix ∧ (s.setSwath n x).msixPend = s.msixPend ∧ (s.setSwath n x).msixSent = s.msixSent ∧
    (s.setSwath n x).cmd = s.cmd ∧ (s.setSwath n x).epoch = s.epoch ∧ (s.setSwath n x).memu = s.memu ∧
    (s.setSwath n x).graph = s.graph ∧ (s.setSwath n x).engines = s.engines ∧ (s.setSwath n x).clk0 = s.clk0 ∧
    (s.setSwath n x).clkAt = s.clkAt ∧ (s.setSwath n x).ctxs = s.ctxs ∧ (s.setSwath n x).frameTags = s.frameTags ∧
    (s.setSwath n x).lastFrame = s.lastFrame ∧ (s.setSwath n x).chk = s.chk ∧ (s.setSwath n x).dlv = s.dlv ∧
    (s.setSwath n x).rcd = s.rcd ∧ (s.setSwath n x).time = s.time ∧ (s.setSwath n x).pwr = s.pwr ∧ (s.setSwath n x).thm = s.thm ∧
    (s.setSwath n x).diag = s.diag ∧ (s.setSwath n x).firm = s.firm ∧ (s.setSwath n x).pending = s.pending :=
    ⟨rfl, rfl, rfl, rfl, rfl, rfl, rfl, rfl, rfl, rfl, rfl, rfl, rfl, rfl, rfl, rfl, rfl, rfl, rfl, rfl, rfl, rfl, rfl, rfl, rfl, rfl,
    rfl, rfl, rfl, rfl, rfl, rfl, rfl, rfl, rfl, rfl, rfl, rfl, rfl, rfl, rfl, rfl, rfl, rfl⟩

@[simp] theorem State.setEng_writes (n : Nat) (x : Engine) :
    (s.setEng n x).engines = AMap.set s.engines n x := rfl

@[simp] theorem State.setEng_reads (n : Nat) (x : Engine) (g : Fld) : (s.setEng n x).rd g = s.rd g ∧ (s.setEng n x).cfg g = s.cfg g := ⟨rfl, rfl⟩

@[simp] theorem State.setEng_frame (n : Nat) (x : Engine) :
    (s.setEng n x).now = s.now ∧ (s.setEng n x).timeOfs = s.timeOfs ∧ (s.setEng n x).freeCount = s.freeCount ∧
    (s.setEng n x).busRead = s.busRead ∧ (s.setEng n x).regs = s.regs ∧ (s.setEng n x).active = s.active ∧
    (s.setEng n x).hiLatch = s.hiLatch ∧ (s.setEng n x).hiHold = s.hiHold ∧ (s.setEng n x).w1cSet = s.w1cSet ∧
    (s.setEng n x).mems = s.mems ∧ (s.setEng n x).events = s.events ∧ (s.setEng n x).ports = s.ports ∧ (s.setEng n x).axes = s.axes ∧
    (s.setEng n x).ledger = s.ledger ∧ (s.setEng n x).setsStaged = s.setsStaged ∧ (s.setEng n x).sets = s.sets ∧
    (s.setEng n x).cams = s.cams ∧ (s.setEng n x).strobes = s.strobes ∧ (s.setEng n x).lite = s.lite ∧
    (s.setEng n x).links = s.links ∧ (s.setEng n x).tw = s.tw ∧ (s.setEng n x).swaths = s.swaths ∧ (s.setEng n x).coal = s.coal ∧
    (s.setEng n x).msix = s.msix ∧ (s.setEng n x).msixPend = s.msixPend ∧ (s.setEng n x).msixSent = s.msixSent ∧
    (s.setEng n x).cmd = s.cmd ∧ (s.setEng n x).epoch = s.epoch ∧ (s.setEng n x).memu = s.memu ∧ (s.setEng n x).graph = s.graph ∧
    (s.setEng n x).clk0 = s.clk0 ∧ (s.setEng n x).clkAt = s.clkAt ∧ (s.setEng n x).ctxs = s.ctxs ∧
    (s.setEng n x).frameTags = s.frameTags ∧ (s.setEng n x).lastFrame = s.lastFrame ∧ (s.setEng n x).chk = s.chk ∧
    (s.setEng n x).dlv = s.dlv ∧ (s.setEng n x).rcd = s.rcd ∧ (s.setEng n x).time = s.time ∧ (s.setEng n x).pwr = s.pwr ∧
    (s.setEng n x).thm = s.thm ∧ (s.setEng n x).diag = s.diag ∧ (s.setEng n x).firm = s.firm ∧ (s.setEng n x).pending = s.pending :=
    ⟨rfl, rfl, rfl, rfl, rfl, rfl, rfl, rfl, rfl, rfl, rfl, rfl, rfl, rfl, rfl, rfl, rfl, rfl, rfl, rfl, rfl, rfl, rfl, rfl, rfl, rfl,
    rfl, rfl, rfl, rfl, rfl, rfl, rfl, rfl, rfl, rfl, rfl, rfl, rfl, rfl, rfl, rfl, rfl, rfl⟩

@[simp] theorem State.setMemu_writes (x : MemUnit) :
    (s.setMemu x).memu = x := rfl

@[simp] theorem State.setMemu_reads (x : MemUnit) (g : Fld) : (s.setMemu x).rd g = s.rd g ∧ (s.setMemu x).cfg g = s.cfg g := ⟨rfl, rfl⟩

@[simp] theorem State.setMemu_frame (x : MemUnit) :
    (s.setMemu x).now = s.now ∧ (s.setMemu x).timeOfs = s.timeOfs ∧ (s.setMemu x).freeCount = s.freeCount ∧
    (s.setMemu x).busRead = s.busRead ∧ (s.setMemu x).regs = s.regs ∧ (s.setMemu x).active = s.active ∧
    (s.setMemu x).hiLatch = s.hiLatch ∧ (s.setMemu x).hiHold = s.hiHold ∧ (s.setMemu x).w1cSet = s.w1cSet ∧
    (s.setMemu x).mems = s.mems ∧ (s.setMemu x).events = s.events ∧ (s.setMemu x).ports = s.ports ∧ (s.setMemu x).axes = s.axes ∧
    (s.setMemu x).ledger = s.ledger ∧ (s.setMemu x).setsStaged = s.setsStaged ∧ (s.setMemu x).sets = s.sets ∧
    (s.setMemu x).cams = s.cams ∧ (s.setMemu x).strobes = s.strobes ∧ (s.setMemu x).lite = s.lite ∧ (s.setMemu x).links = s.links ∧
    (s.setMemu x).tw = s.tw ∧ (s.setMemu x).swaths = s.swaths ∧ (s.setMemu x).coal = s.coal ∧ (s.setMemu x).msix = s.msix ∧
    (s.setMemu x).msixPend = s.msixPend ∧ (s.setMemu x).msixSent = s.msixSent ∧ (s.setMemu x).cmd = s.cmd ∧
    (s.setMemu x).epoch = s.epoch ∧ (s.setMemu x).graph = s.graph ∧ (s.setMemu x).engines = s.engines ∧ (s.setMemu x).clk0 = s.clk0 ∧
    (s.setMemu x).clkAt = s.clkAt ∧ (s.setMemu x).ctxs = s.ctxs ∧ (s.setMemu x).frameTags = s.frameTags ∧
    (s.setMemu x).lastFrame = s.lastFrame ∧ (s.setMemu x).chk = s.chk ∧ (s.setMemu x).dlv = s.dlv ∧ (s.setMemu x).rcd = s.rcd ∧
    (s.setMemu x).time = s.time ∧ (s.setMemu x).pwr = s.pwr ∧ (s.setMemu x).thm = s.thm ∧ (s.setMemu x).diag = s.diag ∧
    (s.setMemu x).firm = s.firm ∧ (s.setMemu x).pending = s.pending :=
    ⟨rfl, rfl, rfl, rfl, rfl, rfl, rfl, rfl, rfl, rfl, rfl, rfl, rfl, rfl, rfl, rfl, rfl, rfl, rfl, rfl, rfl, rfl, rfl, rfl, rfl, rfl,
    rfl, rfl, rfl, rfl, rfl, rfl, rfl, rfl, rfl, rfl, rfl, rfl, rfl, rfl, rfl, rfl, rfl, rfl⟩

@[simp] theorem State.setGraph_writes (x : GraphUnit) :
    (s.setGraph x).graph = x := rfl

@[simp] theorem State.setGraph_reads (x : GraphUnit) (g : Fld) : (s.setGraph x).rd g = s.rd g ∧ (s.setGraph x).cfg g = s.cfg g := ⟨rfl, rfl⟩

@[simp] theorem State.setGraph_frame (x : GraphUnit) :
    (s.setGraph x).now = s.now ∧ (s.setGraph x).timeOfs = s.timeOfs ∧ (s.setGraph x).freeCount = s.freeCount ∧
    (s.setGraph x).busRead = s.busRead ∧ (s.setGraph x).regs = s.regs ∧ (s.setGraph x).active = s.active ∧
    (s.setGraph x).hiLatch = s.hiLatch ∧ (s.setGraph x).hiHold = s.hiHold ∧ (s.setGraph x).w1cSet = s.w1cSet ∧
    (s.setGraph x).mems = s.mems ∧ (s.setGraph x).events = s.events ∧ (s.setGraph x).ports = s.ports ∧ (s.setGraph x).axes = s.axes ∧
    (s.setGraph x).ledger = s.ledger ∧ (s.setGraph x).setsStaged = s.setsStaged ∧ (s.setGraph x).sets = s.sets ∧
    (s.setGraph x).cams = s.cams ∧ (s.setGraph x).strobes = s.strobes ∧ (s.setGraph x).lite = s.lite ∧
    (s.setGraph x).links = s.links ∧ (s.setGraph x).tw = s.tw ∧ (s.setGraph x).swaths = s.swaths ∧ (s.setGraph x).coal = s.coal ∧
    (s.setGraph x).msix = s.msix ∧ (s.setGraph x).msixPend = s.msixPend ∧ (s.setGraph x).msixSent = s.msixSent ∧
    (s.setGraph x).cmd = s.cmd ∧ (s.setGraph x).epoch = s.epoch ∧ (s.setGraph x).memu = s.memu ∧ (s.setGraph x).engines = s.engines ∧
    (s.setGraph x).clk0 = s.clk0 ∧ (s.setGraph x).clkAt = s.clkAt ∧ (s.setGraph x).ctxs = s.ctxs ∧
    (s.setGraph x).frameTags = s.frameTags ∧ (s.setGraph x).lastFrame = s.lastFrame ∧ (s.setGraph x).chk = s.chk ∧
    (s.setGraph x).dlv = s.dlv ∧ (s.setGraph x).rcd = s.rcd ∧ (s.setGraph x).time = s.time ∧ (s.setGraph x).pwr = s.pwr ∧
    (s.setGraph x).thm = s.thm ∧ (s.setGraph x).diag = s.diag ∧ (s.setGraph x).firm = s.firm ∧ (s.setGraph x).pending = s.pending :=
    ⟨rfl, rfl, rfl, rfl, rfl, rfl, rfl, rfl, rfl, rfl, rfl, rfl, rfl, rfl, rfl, rfl, rfl, rfl, rfl, rfl, rfl, rfl, rfl, rfl, rfl, rfl,
    rfl, rfl, rfl, rfl, rfl, rfl, rfl, rfl, rfl, rfl, rfl, rfl, rfl, rfl, rfl, rfl, rfl, rfl⟩

@[simp] theorem State.setEpoch_writes (x : EpochUnit) :
    (s.setEpoch x).epoch = x := rfl

@[simp] theorem State.setEpoch_reads (x : EpochUnit) (g : Fld) : (s.setEpoch x).rd g = s.rd g ∧ (s.setEpoch x).cfg g = s.cfg g := ⟨rfl, rfl⟩

@[simp] theorem State.setEpoch_frame (x : EpochUnit) :
    (s.setEpoch x).now = s.now ∧ (s.setEpoch x).timeOfs = s.timeOfs ∧ (s.setEpoch x).freeCount = s.freeCount ∧
    (s.setEpoch x).busRead = s.busRead ∧ (s.setEpoch x).regs = s.regs ∧ (s.setEpoch x).active = s.active ∧
    (s.setEpoch x).hiLatch = s.hiLatch ∧ (s.setEpoch x).hiHold = s.hiHold ∧ (s.setEpoch x).w1cSet = s.w1cSet ∧
    (s.setEpoch x).mems = s.mems ∧ (s.setEpoch x).events = s.events ∧ (s.setEpoch x).ports = s.ports ∧ (s.setEpoch x).axes = s.axes ∧
    (s.setEpoch x).ledger = s.ledger ∧ (s.setEpoch x).setsStaged = s.setsStaged ∧ (s.setEpoch x).sets = s.sets ∧
    (s.setEpoch x).cams = s.cams ∧ (s.setEpoch x).strobes = s.strobes ∧ (s.setEpoch x).lite = s.lite ∧
    (s.setEpoch x).links = s.links ∧ (s.setEpoch x).tw = s.tw ∧ (s.setEpoch x).swaths = s.swaths ∧ (s.setEpoch x).coal = s.coal ∧
    (s.setEpoch x).msix = s.msix ∧ (s.setEpoch x).msixPend = s.msixPend ∧ (s.setEpoch x).msixSent = s.msixSent ∧
    (s.setEpoch x).cmd = s.cmd ∧ (s.setEpoch x).memu = s.memu ∧ (s.setEpoch x).graph = s.graph ∧ (s.setEpoch x).engines = s.engines ∧
    (s.setEpoch x).clk0 = s.clk0 ∧ (s.setEpoch x).clkAt = s.clkAt ∧ (s.setEpoch x).ctxs = s.ctxs ∧
    (s.setEpoch x).frameTags = s.frameTags ∧ (s.setEpoch x).lastFrame = s.lastFrame ∧ (s.setEpoch x).chk = s.chk ∧
    (s.setEpoch x).dlv = s.dlv ∧ (s.setEpoch x).rcd = s.rcd ∧ (s.setEpoch x).time = s.time ∧ (s.setEpoch x).pwr = s.pwr ∧
    (s.setEpoch x).thm = s.thm ∧ (s.setEpoch x).diag = s.diag ∧ (s.setEpoch x).firm = s.firm ∧ (s.setEpoch x).pending = s.pending :=
    ⟨rfl, rfl, rfl, rfl, rfl, rfl, rfl, rfl, rfl, rfl, rfl, rfl, rfl, rfl, rfl, rfl, rfl, rfl, rfl, rfl, rfl, rfl, rfl, rfl, rfl, rfl,
    rfl, rfl, rfl, rfl, rfl, rfl, rfl, rfl, rfl, rfl, rfl, rfl, rfl, rfl, rfl, rfl, rfl, rfl⟩

@[simp] theorem State.setFirm_writes (x : Firm) :
    (s.setFirm x).firm = x := rfl

@[simp] theorem State.setFirm_reads (x : Firm) (g : Fld) : (s.setFirm x).rd g = s.rd g ∧ (s.setFirm x).cfg g = s.cfg g := ⟨rfl, rfl⟩

@[simp] theorem State.setFirm_frame (x : Firm) :
    (s.setFirm x).now = s.now ∧ (s.setFirm x).timeOfs = s.timeOfs ∧ (s.setFirm x).freeCount = s.freeCount ∧
    (s.setFirm x).busRead = s.busRead ∧ (s.setFirm x).regs = s.regs ∧ (s.setFirm x).active = s.active ∧
    (s.setFirm x).hiLatch = s.hiLatch ∧ (s.setFirm x).hiHold = s.hiHold ∧ (s.setFirm x).w1cSet = s.w1cSet ∧
    (s.setFirm x).mems = s.mems ∧ (s.setFirm x).events = s.events ∧ (s.setFirm x).ports = s.ports ∧ (s.setFirm x).axes = s.axes ∧
    (s.setFirm x).ledger = s.ledger ∧ (s.setFirm x).setsStaged = s.setsStaged ∧ (s.setFirm x).sets = s.sets ∧
    (s.setFirm x).cams = s.cams ∧ (s.setFirm x).strobes = s.strobes ∧ (s.setFirm x).lite = s.lite ∧ (s.setFirm x).links = s.links ∧
    (s.setFirm x).tw = s.tw ∧ (s.setFirm x).swaths = s.swaths ∧ (s.setFirm x).coal = s.coal ∧ (s.setFirm x).msix = s.msix ∧
    (s.setFirm x).msixPend = s.msixPend ∧ (s.setFirm x).msixSent = s.msixSent ∧ (s.setFirm x).cmd = s.cmd ∧
    (s.setFirm x).epoch = s.epoch ∧ (s.setFirm x).memu = s.memu ∧ (s.setFirm x).graph = s.graph ∧ (s.setFirm x).engines = s.engines ∧
    (s.setFirm x).clk0 = s.clk0 ∧ (s.setFirm x).clkAt = s.clkAt ∧ (s.setFirm x).ctxs = s.ctxs ∧
    (s.setFirm x).frameTags = s.frameTags ∧ (s.setFirm x).lastFrame = s.lastFrame ∧ (s.setFirm x).chk = s.chk ∧
    (s.setFirm x).dlv = s.dlv ∧ (s.setFirm x).rcd = s.rcd ∧ (s.setFirm x).time = s.time ∧ (s.setFirm x).pwr = s.pwr ∧
    (s.setFirm x).thm = s.thm ∧ (s.setFirm x).diag = s.diag ∧ (s.setFirm x).pending = s.pending :=
    ⟨rfl, rfl, rfl, rfl, rfl, rfl, rfl, rfl, rfl, rfl, rfl, rfl, rfl, rfl, rfl, rfl, rfl, rfl, rfl, rfl, rfl, rfl, rfl, rfl, rfl, rfl,
    rfl, rfl, rfl, rfl, rfl, rfl, rfl, rfl, rfl, rfl, rfl, rfl, rfl, rfl, rfl, rfl, rfl, rfl⟩

@[simp] theorem State.setDiag_writes (x : DiagUnit) :
    (s.setDiag x).diag = x := rfl

@[simp] theorem State.setDiag_reads (x : DiagUnit) (g : Fld) : (s.setDiag x).rd g = s.rd g ∧ (s.setDiag x).cfg g = s.cfg g := ⟨rfl, rfl⟩

@[simp] theorem State.setDiag_frame (x : DiagUnit) :
    (s.setDiag x).now = s.now ∧ (s.setDiag x).timeOfs = s.timeOfs ∧ (s.setDiag x).freeCount = s.freeCount ∧
    (s.setDiag x).busRead = s.busRead ∧ (s.setDiag x).regs = s.regs ∧ (s.setDiag x).active = s.active ∧
    (s.setDiag x).hiLatch = s.hiLatch ∧ (s.setDiag x).hiHold = s.hiHold ∧ (s.setDiag x).w1cSet = s.w1cSet ∧
    (s.setDiag x).mems = s.mems ∧ (s.setDiag x).events = s.events ∧ (s.setDiag x).ports = s.ports ∧ (s.setDiag x).axes = s.axes ∧
    (s.setDiag x).ledger = s.ledger ∧ (s.setDiag x).setsStaged = s.setsStaged ∧ (s.setDiag x).sets = s.sets ∧
    (s.setDiag x).cams = s.cams ∧ (s.setDiag x).strobes = s.strobes ∧ (s.setDiag x).lite = s.lite ∧ (s.setDiag x).links = s.links ∧
    (s.setDiag x).tw = s.tw ∧ (s.setDiag x).swaths = s.swaths ∧ (s.setDiag x).coal = s.coal ∧ (s.setDiag x).msix = s.msix ∧
    (s.setDiag x).msixPend = s.msixPend ∧ (s.setDiag x).msixSent = s.msixSent ∧ (s.setDiag x).cmd = s.cmd ∧
    (s.setDiag x).epoch = s.epoch ∧ (s.setDiag x).memu = s.memu ∧ (s.setDiag x).graph = s.graph ∧ (s.setDiag x).engines = s.engines ∧
    (s.setDiag x).clk0 = s.clk0 ∧ (s.setDiag x).clkAt = s.clkAt ∧ (s.setDiag x).ctxs = s.ctxs ∧
    (s.setDiag x).frameTags = s.frameTags ∧ (s.setDiag x).lastFrame = s.lastFrame ∧ (s.setDiag x).chk = s.chk ∧
    (s.setDiag x).dlv = s.dlv ∧ (s.setDiag x).rcd = s.rcd ∧ (s.setDiag x).time = s.time ∧ (s.setDiag x).pwr = s.pwr ∧
    (s.setDiag x).thm = s.thm ∧ (s.setDiag x).firm = s.firm ∧ (s.setDiag x).pending = s.pending :=
    ⟨rfl, rfl, rfl, rfl, rfl, rfl, rfl, rfl, rfl, rfl, rfl, rfl, rfl, rfl, rfl, rfl, rfl, rfl, rfl, rfl, rfl, rfl, rfl, rfl, rfl, rfl,
    rfl, rfl, rfl, rfl, rfl, rfl, rfl, rfl, rfl, rfl, rfl, rfl, rfl, rfl, rfl, rfl, rfl, rfl⟩

@[simp] theorem State.setSby_writes (n : Nat) (x : Standby) :
    (s.setSby n x).diag = { s.diag with standby := AMap.set s.diag.standby n x } := rfl

@[simp] theorem State.setSby_reads (n : Nat) (x : Standby) (g : Fld) : (s.setSby n x).rd g = s.rd g ∧ (s.setSby n x).cfg g = s.cfg g := ⟨rfl, rfl⟩

@[simp] theorem State.setSby_frame (n : Nat) (x : Standby) :
    (s.setSby n x).now = s.now ∧ (s.setSby n x).timeOfs = s.timeOfs ∧ (s.setSby n x).freeCount = s.freeCount ∧
    (s.setSby n x).busRead = s.busRead ∧ (s.setSby n x).regs = s.regs ∧ (s.setSby n x).active = s.active ∧
    (s.setSby n x).hiLatch = s.hiLatch ∧ (s.setSby n x).hiHold = s.hiHold ∧ (s.setSby n x).w1cSet = s.w1cSet ∧
    (s.setSby n x).mems = s.mems ∧ (s.setSby n x).events = s.events ∧ (s.setSby n x).ports = s.ports ∧ (s.setSby n x).axes = s.axes ∧
    (s.setSby n x).ledger = s.ledger ∧ (s.setSby n x).setsStaged = s.setsStaged ∧ (s.setSby n x).sets = s.sets ∧
    (s.setSby n x).cams = s.cams ∧ (s.setSby n x).strobes = s.strobes ∧ (s.setSby n x).lite = s.lite ∧
    (s.setSby n x).links = s.links ∧ (s.setSby n x).tw = s.tw ∧ (s.setSby n x).swaths = s.swaths ∧ (s.setSby n x).coal = s.coal ∧
    (s.setSby n x).msix = s.msix ∧ (s.setSby n x).msixPend = s.msixPend ∧ (s.setSby n x).msixSent = s.msixSent ∧
    (s.setSby n x).cmd = s.cmd ∧ (s.setSby n x).epoch = s.epoch ∧ (s.setSby n x).memu = s.memu ∧ (s.setSby n x).graph = s.graph ∧
    (s.setSby n x).engines = s.engines ∧ (s.setSby n x).clk0 = s.clk0 ∧ (s.setSby n x).clkAt = s.clkAt ∧
    (s.setSby n x).ctxs = s.ctxs ∧ (s.setSby n x).frameTags = s.frameTags ∧ (s.setSby n x).lastFrame = s.lastFrame ∧
    (s.setSby n x).chk = s.chk ∧ (s.setSby n x).dlv = s.dlv ∧ (s.setSby n x).rcd = s.rcd ∧ (s.setSby n x).time = s.time ∧
    (s.setSby n x).pwr = s.pwr ∧ (s.setSby n x).thm = s.thm ∧ (s.setSby n x).firm = s.firm ∧ (s.setSby n x).pending = s.pending :=
    ⟨rfl, rfl, rfl, rfl, rfl, rfl, rfl, rfl, rfl, rfl, rfl, rfl, rfl, rfl, rfl, rfl, rfl, rfl, rfl, rfl, rfl, rfl, rfl, rfl, rfl, rfl,
    rfl, rfl, rfl, rfl, rfl, rfl, rfl, rfl, rfl, rfl, rfl, rfl, rfl, rfl, rfl, rfl, rfl, rfl⟩

@[simp] theorem State.setDq_writes (n : Nat) (x : DQueue) :
    (s.setDq n x).dlv = { s.dlv with queues := AMap.set s.dlv.queues n x } := rfl

@[simp] theorem State.setDq_reads (n : Nat) (x : DQueue) (g : Fld) : (s.setDq n x).rd g = s.rd g ∧ (s.setDq n x).cfg g = s.cfg g := ⟨rfl, rfl⟩

@[simp] theorem State.setDq_frame (n : Nat) (x : DQueue) :
    (s.setDq n x).now = s.now ∧ (s.setDq n x).timeOfs = s.timeOfs ∧ (s.setDq n x).freeCount = s.freeCount ∧
    (s.setDq n x).busRead = s.busRead ∧ (s.setDq n x).regs = s.regs ∧ (s.setDq n x).active = s.active ∧
    (s.setDq n x).hiLatch = s.hiLatch ∧ (s.setDq n x).hiHold = s.hiHold ∧ (s.setDq n x).w1cSet = s.w1cSet ∧
    (s.setDq n x).mems = s.mems ∧ (s.setDq n x).events = s.events ∧ (s.setDq n x).ports = s.ports ∧ (s.setDq n x).axes = s.axes ∧
    (s.setDq n x).ledger = s.ledger ∧ (s.setDq n x).setsStaged = s.setsStaged ∧ (s.setDq n x).sets = s.sets ∧
    (s.setDq n x).cams = s.cams ∧ (s.setDq n x).strobes = s.strobes ∧ (s.setDq n x).lite = s.lite ∧ (s.setDq n x).links = s.links ∧
    (s.setDq n x).tw = s.tw ∧ (s.setDq n x).swaths = s.swaths ∧ (s.setDq n x).coal = s.coal ∧ (s.setDq n x).msix = s.msix ∧
    (s.setDq n x).msixPend = s.msixPend ∧ (s.setDq n x).msixSent = s.msixSent ∧ (s.setDq n x).cmd = s.cmd ∧
    (s.setDq n x).epoch = s.epoch ∧ (s.setDq n x).memu = s.memu ∧ (s.setDq n x).graph = s.graph ∧ (s.setDq n x).engines = s.engines ∧
    (s.setDq n x).clk0 = s.clk0 ∧ (s.setDq n x).clkAt = s.clkAt ∧ (s.setDq n x).ctxs = s.ctxs ∧
    (s.setDq n x).frameTags = s.frameTags ∧ (s.setDq n x).lastFrame = s.lastFrame ∧ (s.setDq n x).chk = s.chk ∧
    (s.setDq n x).rcd = s.rcd ∧ (s.setDq n x).time = s.time ∧ (s.setDq n x).pwr = s.pwr ∧ (s.setDq n x).thm = s.thm ∧
    (s.setDq n x).diag = s.diag ∧ (s.setDq n x).firm = s.firm ∧ (s.setDq n x).pending = s.pending :=
    ⟨rfl, rfl, rfl, rfl, rfl, rfl, rfl, rfl, rfl, rfl, rfl, rfl, rfl, rfl, rfl, rfl, rfl, rfl, rfl, rfl, rfl, rfl, rfl, rfl, rfl, rfl,
    rfl, rfl, rfl, rfl, rfl, rfl, rfl, rfl, rfl, rfl, rfl, rfl, rfl, rfl, rfl, rfl, rfl, rfl⟩

@[simp] theorem State.setRcd_writes (x : Recorder) :
    (s.setRcd x).rcd = x := rfl

@[simp] theorem State.setRcd_reads (x : Recorder) (g : Fld) : (s.setRcd x).rd g = s.rd g ∧ (s.setRcd x).cfg g = s.cfg g := ⟨rfl, rfl⟩

@[simp] theorem State.setRcd_frame (x : Recorder) :
    (s.setRcd x).now = s.now ∧ (s.setRcd x).timeOfs = s.timeOfs ∧ (s.setRcd x).freeCount = s.freeCount ∧
    (s.setRcd x).busRead = s.busRead ∧ (s.setRcd x).regs = s.regs ∧ (s.setRcd x).active = s.active ∧
    (s.setRcd x).hiLatch = s.hiLatch ∧ (s.setRcd x).hiHold = s.hiHold ∧ (s.setRcd x).w1cSet = s.w1cSet ∧ (s.setRcd x).mems = s.mems ∧
    (s.setRcd x).events = s.events ∧ (s.setRcd x).ports = s.ports ∧ (s.setRcd x).axes = s.axes ∧ (s.setRcd x).ledger = s.ledger ∧
    (s.setRcd x).setsStaged = s.setsStaged ∧ (s.setRcd x).sets = s.sets ∧ (s.setRcd x).cams = s.cams ∧
    (s.setRcd x).strobes = s.strobes ∧ (s.setRcd x).lite = s.lite ∧ (s.setRcd x).links = s.links ∧ (s.setRcd x).tw = s.tw ∧
    (s.setRcd x).swaths = s.swaths ∧ (s.setRcd x).coal = s.coal ∧ (s.setRcd x).msix = s.msix ∧ (s.setRcd x).msixPend = s.msixPend ∧
    (s.setRcd x).msixSent = s.msixSent ∧ (s.setRcd x).cmd = s.cmd ∧ (s.setRcd x).epoch = s.epoch ∧ (s.setRcd x).memu = s.memu ∧
    (s.setRcd x).graph = s.graph ∧ (s.setRcd x).engines = s.engines ∧ (s.setRcd x).clk0 = s.clk0 ∧ (s.setRcd x).clkAt = s.clkAt ∧
    (s.setRcd x).ctxs = s.ctxs ∧ (s.setRcd x).frameTags = s.frameTags ∧ (s.setRcd x).lastFrame = s.lastFrame ∧
    (s.setRcd x).chk = s.chk ∧ (s.setRcd x).dlv = s.dlv ∧ (s.setRcd x).time = s.time ∧ (s.setRcd x).pwr = s.pwr ∧
    (s.setRcd x).thm = s.thm ∧ (s.setRcd x).diag = s.diag ∧ (s.setRcd x).firm = s.firm ∧ (s.setRcd x).pending = s.pending :=
    ⟨rfl, rfl, rfl, rfl, rfl, rfl, rfl, rfl, rfl, rfl, rfl, rfl, rfl, rfl, rfl, rfl, rfl, rfl, rfl, rfl, rfl, rfl, rfl, rfl, rfl, rfl,
    rfl, rfl, rfl, rfl, rfl, rfl, rfl, rfl, rfl, rfl, rfl, rfl, rfl, rfl, rfl, rfl, rfl, rfl⟩

@[simp] theorem State.setRin_writes (n : Nat) (x : RIn) :
    (s.setRin n x).rcd = { s.rcd with ins := AMap.set s.rcd.ins n x } := rfl

@[simp] theorem State.setRin_reads (n : Nat) (x : RIn) (g : Fld) : (s.setRin n x).rd g = s.rd g ∧ (s.setRin n x).cfg g = s.cfg g := ⟨rfl, rfl⟩

@[simp] theorem State.setRin_frame (n : Nat) (x : RIn) :
    (s.setRin n x).now = s.now ∧ (s.setRin n x).timeOfs = s.timeOfs ∧ (s.setRin n x).freeCount = s.freeCount ∧
    (s.setRin n x).busRead = s.busRead ∧ (s.setRin n x).regs = s.regs ∧ (s.setRin n x).active = s.active ∧
    (s.setRin n x).hiLatch = s.hiLatch ∧ (s.setRin n x).hiHold = s.hiHold ∧ (s.setRin n x).w1cSet = s.w1cSet ∧
    (s.setRin n x).mems = s.mems ∧ (s.setRin n x).events = s.events ∧ (s.setRin n x).ports = s.ports ∧ (s.setRin n x).axes = s.axes ∧
    (s.setRin n x).ledger = s.ledger ∧ (s.setRin n x).setsStaged = s.setsStaged ∧ (s.setRin n x).sets = s.sets ∧
    (s.setRin n x).cams = s.cams ∧ (s.setRin n x).strobes = s.strobes ∧ (s.setRin n x).lite = s.lite ∧
    (s.setRin n x).links = s.links ∧ (s.setRin n x).tw = s.tw ∧ (s.setRin n x).swaths = s.swaths ∧ (s.setRin n x).coal = s.coal ∧
    (s.setRin n x).msix = s.msix ∧ (s.setRin n x).msixPend = s.msixPend ∧ (s.setRin n x).msixSent = s.msixSent ∧
    (s.setRin n x).cmd = s.cmd ∧ (s.setRin n x).epoch = s.epoch ∧ (s.setRin n x).memu = s.memu ∧ (s.setRin n x).graph = s.graph ∧
    (s.setRin n x).engines = s.engines ∧ (s.setRin n x).clk0 = s.clk0 ∧ (s.setRin n x).clkAt = s.clkAt ∧
    (s.setRin n x).ctxs = s.ctxs ∧ (s.setRin n x).frameTags = s.frameTags ∧ (s.setRin n x).lastFrame = s.lastFrame ∧
    (s.setRin n x).chk = s.chk ∧ (s.setRin n x).dlv = s.dlv ∧ (s.setRin n x).time = s.time ∧ (s.setRin n x).pwr = s.pwr ∧
    (s.setRin n x).thm = s.thm ∧ (s.setRin n x).diag = s.diag ∧ (s.setRin n x).firm = s.firm ∧ (s.setRin n x).pending = s.pending :=
    ⟨rfl, rfl, rfl, rfl, rfl, rfl, rfl, rfl, rfl, rfl, rfl, rfl, rfl, rfl, rfl, rfl, rfl, rfl, rfl, rfl, rfl, rfl, rfl, rfl, rfl, rfl,
    rfl, rfl, rfl, rfl, rfl, rfl, rfl, rfl, rfl, rfl, rfl, rfl, rfl, rfl, rfl, rfl, rfl, rfl⟩

@[simp] theorem State.setTime_writes (x : TimeUnit) :
    (s.setTime x).time = x := rfl

@[simp] theorem State.setTime_reads (x : TimeUnit) (g : Fld) : (s.setTime x).rd g = s.rd g ∧ (s.setTime x).cfg g = s.cfg g := ⟨rfl, rfl⟩

@[simp] theorem State.setTime_frame (x : TimeUnit) :
    (s.setTime x).now = s.now ∧ (s.setTime x).timeOfs = s.timeOfs ∧ (s.setTime x).freeCount = s.freeCount ∧
    (s.setTime x).busRead = s.busRead ∧ (s.setTime x).regs = s.regs ∧ (s.setTime x).active = s.active ∧
    (s.setTime x).hiLatch = s.hiLatch ∧ (s.setTime x).hiHold = s.hiHold ∧ (s.setTime x).w1cSet = s.w1cSet ∧
    (s.setTime x).mems = s.mems ∧ (s.setTime x).events = s.events ∧ (s.setTime x).ports = s.ports ∧ (s.setTime x).axes = s.axes ∧
    (s.setTime x).ledger = s.ledger ∧ (s.setTime x).setsStaged = s.setsStaged ∧ (s.setTime x).sets = s.sets ∧
    (s.setTime x).cams = s.cams ∧ (s.setTime x).strobes = s.strobes ∧ (s.setTime x).lite = s.lite ∧ (s.setTime x).links = s.links ∧
    (s.setTime x).tw = s.tw ∧ (s.setTime x).swaths = s.swaths ∧ (s.setTime x).coal = s.coal ∧ (s.setTime x).msix = s.msix ∧
    (s.setTime x).msixPend = s.msixPend ∧ (s.setTime x).msixSent = s.msixSent ∧ (s.setTime x).cmd = s.cmd ∧
    (s.setTime x).epoch = s.epoch ∧ (s.setTime x).memu = s.memu ∧ (s.setTime x).graph = s.graph ∧ (s.setTime x).engines = s.engines ∧
    (s.setTime x).clk0 = s.clk0 ∧ (s.setTime x).clkAt = s.clkAt ∧ (s.setTime x).ctxs = s.ctxs ∧
    (s.setTime x).frameTags = s.frameTags ∧ (s.setTime x).lastFrame = s.lastFrame ∧ (s.setTime x).chk = s.chk ∧
    (s.setTime x).dlv = s.dlv ∧ (s.setTime x).rcd = s.rcd ∧ (s.setTime x).pwr = s.pwr ∧ (s.setTime x).thm = s.thm ∧
    (s.setTime x).diag = s.diag ∧ (s.setTime x).firm = s.firm ∧ (s.setTime x).pending = s.pending :=
    ⟨rfl, rfl, rfl, rfl, rfl, rfl, rfl, rfl, rfl, rfl, rfl, rfl, rfl, rfl, rfl, rfl, rfl, rfl, rfl, rfl, rfl, rfl, rfl, rfl, rfl, rfl,
    rfl, rfl, rfl, rfl, rfl, rfl, rfl, rfl, rfl, rfl, rfl, rfl, rfl, rfl, rfl, rfl, rfl, rfl⟩

@[simp] theorem State.setEth_writes (n : Nat) (x : EthPort) :
    (s.setEth n x).time = { s.time with ports := AMap.set s.time.ports n x } := rfl

@[simp] theorem State.setEth_reads (n : Nat) (x : EthPort) (g : Fld) : (s.setEth n x).rd g = s.rd g ∧ (s.setEth n x).cfg g = s.cfg g := ⟨rfl, rfl⟩

@[simp] theorem State.setEth_frame (n : Nat) (x : EthPort) :
    (s.setEth n x).now = s.now ∧ (s.setEth n x).timeOfs = s.timeOfs ∧ (s.setEth n x).freeCount = s.freeCount ∧
    (s.setEth n x).busRead = s.busRead ∧ (s.setEth n x).regs = s.regs ∧ (s.setEth n x).active = s.active ∧
    (s.setEth n x).hiLatch = s.hiLatch ∧ (s.setEth n x).hiHold = s.hiHold ∧ (s.setEth n x).w1cSet = s.w1cSet ∧
    (s.setEth n x).mems = s.mems ∧ (s.setEth n x).events = s.events ∧ (s.setEth n x).ports = s.ports ∧ (s.setEth n x).axes = s.axes ∧
    (s.setEth n x).ledger = s.ledger ∧ (s.setEth n x).setsStaged = s.setsStaged ∧ (s.setEth n x).sets = s.sets ∧
    (s.setEth n x).cams = s.cams ∧ (s.setEth n x).strobes = s.strobes ∧ (s.setEth n x).lite = s.lite ∧
    (s.setEth n x).links = s.links ∧ (s.setEth n x).tw = s.tw ∧ (s.setEth n x).swaths = s.swaths ∧ (s.setEth n x).coal = s.coal ∧
    (s.setEth n x).msix = s.msix ∧ (s.setEth n x).msixPend = s.msixPend ∧ (s.setEth n x).msixSent = s.msixSent ∧
    (s.setEth n x).cmd = s.cmd ∧ (s.setEth n x).epoch = s.epoch ∧ (s.setEth n x).memu = s.memu ∧ (s.setEth n x).graph = s.graph ∧
    (s.setEth n x).engines = s.engines ∧ (s.setEth n x).clk0 = s.clk0 ∧ (s.setEth n x).clkAt = s.clkAt ∧
    (s.setEth n x).ctxs = s.ctxs ∧ (s.setEth n x).frameTags = s.frameTags ∧ (s.setEth n x).lastFrame = s.lastFrame ∧
    (s.setEth n x).chk = s.chk ∧ (s.setEth n x).dlv = s.dlv ∧ (s.setEth n x).rcd = s.rcd ∧ (s.setEth n x).pwr = s.pwr ∧
    (s.setEth n x).thm = s.thm ∧ (s.setEth n x).diag = s.diag ∧ (s.setEth n x).firm = s.firm ∧ (s.setEth n x).pending = s.pending :=
    ⟨rfl, rfl, rfl, rfl, rfl, rfl, rfl, rfl, rfl, rfl, rfl, rfl, rfl, rfl, rfl, rfl, rfl, rfl, rfl, rfl, rfl, rfl, rfl, rfl, rfl, rfl,
    rfl, rfl, rfl, rfl, rfl, rfl, rfl, rfl, rfl, rfl, rfl, rfl, rfl, rfl, rfl, rfl, rfl, rfl⟩

@[simp] theorem State.setPwr_writes (x : PowerUnit) :
    (s.setPwr x).pwr = x := rfl

@[simp] theorem State.setPwr_reads (x : PowerUnit) (g : Fld) : (s.setPwr x).rd g = s.rd g ∧ (s.setPwr x).cfg g = s.cfg g := ⟨rfl, rfl⟩

@[simp] theorem State.setPwr_frame (x : PowerUnit) :
    (s.setPwr x).now = s.now ∧ (s.setPwr x).timeOfs = s.timeOfs ∧ (s.setPwr x).freeCount = s.freeCount ∧
    (s.setPwr x).busRead = s.busRead ∧ (s.setPwr x).regs = s.regs ∧ (s.setPwr x).active = s.active ∧
    (s.setPwr x).hiLatch = s.hiLatch ∧ (s.setPwr x).hiHold = s.hiHold ∧ (s.setPwr x).w1cSet = s.w1cSet ∧ (s.setPwr x).mems = s.mems ∧
    (s.setPwr x).events = s.events ∧ (s.setPwr x).ports = s.ports ∧ (s.setPwr x).axes = s.axes ∧ (s.setPwr x).ledger = s.ledger ∧
    (s.setPwr x).setsStaged = s.setsStaged ∧ (s.setPwr x).sets = s.sets ∧ (s.setPwr x).cams = s.cams ∧
    (s.setPwr x).strobes = s.strobes ∧ (s.setPwr x).lite = s.lite ∧ (s.setPwr x).links = s.links ∧ (s.setPwr x).tw = s.tw ∧
    (s.setPwr x).swaths = s.swaths ∧ (s.setPwr x).coal = s.coal ∧ (s.setPwr x).msix = s.msix ∧ (s.setPwr x).msixPend = s.msixPend ∧
    (s.setPwr x).msixSent = s.msixSent ∧ (s.setPwr x).cmd = s.cmd ∧ (s.setPwr x).epoch = s.epoch ∧ (s.setPwr x).memu = s.memu ∧
    (s.setPwr x).graph = s.graph ∧ (s.setPwr x).engines = s.engines ∧ (s.setPwr x).clk0 = s.clk0 ∧ (s.setPwr x).clkAt = s.clkAt ∧
    (s.setPwr x).ctxs = s.ctxs ∧ (s.setPwr x).frameTags = s.frameTags ∧ (s.setPwr x).lastFrame = s.lastFrame ∧
    (s.setPwr x).chk = s.chk ∧ (s.setPwr x).dlv = s.dlv ∧ (s.setPwr x).rcd = s.rcd ∧ (s.setPwr x).time = s.time ∧
    (s.setPwr x).thm = s.thm ∧ (s.setPwr x).diag = s.diag ∧ (s.setPwr x).firm = s.firm ∧ (s.setPwr x).pending = s.pending :=
    ⟨rfl, rfl, rfl, rfl, rfl, rfl, rfl, rfl, rfl, rfl, rfl, rfl, rfl, rfl, rfl, rfl, rfl, rfl, rfl, rfl, rfl, rfl, rfl, rfl, rfl, rfl,
    rfl, rfl, rfl, rfl, rfl, rfl, rfl, rfl, rfl, rfl, rfl, rfl, rfl, rfl, rfl, rfl, rfl, rfl⟩

@[simp] theorem State.setThm_writes (x : ThermUnit) :
    (s.setThm x).thm = x := rfl

@[simp] theorem State.setThm_reads (x : ThermUnit) (g : Fld) : (s.setThm x).rd g = s.rd g ∧ (s.setThm x).cfg g = s.cfg g := ⟨rfl, rfl⟩

@[simp] theorem State.setThm_frame (x : ThermUnit) :
    (s.setThm x).now = s.now ∧ (s.setThm x).timeOfs = s.timeOfs ∧ (s.setThm x).freeCount = s.freeCount ∧
    (s.setThm x).busRead = s.busRead ∧ (s.setThm x).regs = s.regs ∧ (s.setThm x).active = s.active ∧
    (s.setThm x).hiLatch = s.hiLatch ∧ (s.setThm x).hiHold = s.hiHold ∧ (s.setThm x).w1cSet = s.w1cSet ∧ (s.setThm x).mems = s.mems ∧
    (s.setThm x).events = s.events ∧ (s.setThm x).ports = s.ports ∧ (s.setThm x).axes = s.axes ∧ (s.setThm x).ledger = s.ledger ∧
    (s.setThm x).setsStaged = s.setsStaged ∧ (s.setThm x).sets = s.sets ∧ (s.setThm x).cams = s.cams ∧
    (s.setThm x).strobes = s.strobes ∧ (s.setThm x).lite = s.lite ∧ (s.setThm x).links = s.links ∧ (s.setThm x).tw = s.tw ∧
    (s.setThm x).swaths = s.swaths ∧ (s.setThm x).coal = s.coal ∧ (s.setThm x).msix = s.msix ∧ (s.setThm x).msixPend = s.msixPend ∧
    (s.setThm x).msixSent = s.msixSent ∧ (s.setThm x).cmd = s.cmd ∧ (s.setThm x).epoch = s.epoch ∧ (s.setThm x).memu = s.memu ∧
    (s.setThm x).graph = s.graph ∧ (s.setThm x).engines = s.engines ∧ (s.setThm x).clk0 = s.clk0 ∧ (s.setThm x).clkAt = s.clkAt ∧
    (s.setThm x).ctxs = s.ctxs ∧ (s.setThm x).frameTags = s.frameTags ∧ (s.setThm x).lastFrame = s.lastFrame ∧
    (s.setThm x).chk = s.chk ∧ (s.setThm x).dlv = s.dlv ∧ (s.setThm x).rcd = s.rcd ∧ (s.setThm x).time = s.time ∧
    (s.setThm x).pwr = s.pwr ∧ (s.setThm x).diag = s.diag ∧ (s.setThm x).firm = s.firm ∧ (s.setThm x).pending = s.pending :=
    ⟨rfl, rfl, rfl, rfl, rfl, rfl, rfl, rfl, rfl, rfl, rfl, rfl, rfl, rfl, rfl, rfl, rfl, rfl, rfl, rfl, rfl, rfl, rfl, rfl, rfl, rfl,
    rfl, rfl, rfl, rfl, rfl, rfl, rfl, rfl, rfl, rfl, rfl, rfl, rfl, rfl, rfl, rfl, rfl, rfl⟩

end Sys2Proof.Machine
end

