-- ==== Sys2Proof/Laws/Ops.lean ====
section
/-! SUPPORT. What the operations that every family shares can do: register fields, events, replies. -/

namespace Sys2Proof.Machine

/-! ### Register fields -/

@[simp] theorem rd_wr_same (s : State) (f : Fld) (v : Nat) : (s.wr f v).rd f = v % 2 ^ f.w := by
  simp [State.rd]

theorem rd_wr_ne (s : State) {f g : Fld} (v : Nat) (h : g.key ≠ f.key) : (s.wr f v).rd g = s.rd g := by
  simp [State.rd, amap_get_set_ne _ _ _ h]

@[simp] theorem cfg_wrActive_same (s : State) (f : Fld) (v : Nat) (h : f.staged = true) : (s.wrActive f v).cfg f = v % 2 ^ f.w := by
  simp [State.cfg, h]

/-- A write of the staged copy leaves what the data plane reads (R23). -/
theorem cfg_wr_staged (s : State) (f g : Fld) (v : Nat) (h : g.staged = true) : (s.wr f v).cfg g = s.cfg g := by
  simp [State.cfg, h]

theorem cfg_wr_ne (s : State) {f g : Fld} (v : Nat) (h : g.key ≠ f.key) : (s.wr f v).cfg g = s.cfg g := by
  simp [State.cfg, rd_wr_ne s v h]

@[simp] theorem rd_addSat_same (s : State) (f : Fld) (k : Nat) : (s.addSat f k).rd f = min (s.rd f + k) (2 ^ f.w - 1) := by
  have h : 0 < 2 ^ f.w := Nat.two_pow_pos _
  rw [State.addSat, rd_wr_same]
  exact Nat.mod_eq_of_lt (by omega)

theorem rd_addSat_ne (s : State) {f g : Fld} (k : Nat) (h : g.key ≠ f.key) : (s.addSat f k).rd g = s.rd g := rd_wr_ne s _ h

/-! ### Instances -/

@[simp] theorem port_setPort (s : State) (n : Nat) (x : Port) : (s.setPort n x).port n = x := by simp [State.port]
theorem port_setPort_ne (s : State) {n k : Nat} (x : Port) (h : k ≠ n) : (s.setPort n x).port k = s.port k := by
  simp [State.port, amap_get_set_ne _ _ _ h]
@[simp] theorem axis_setAxis (s : State) (n : Nat) (x : Axis) : (s.setAxis n x).axis n = x := by simp [State.axis]
theorem axis_setAxis_ne (s : State) {n k : Nat} (x : Axis) (h : k ≠ n) : (s.setAxis n x).axis k = s.axis k := by
  simp [State.axis, amap_get_set_ne _ _ _ h]
@[simp] theorem link_setLink (s : State) (n : Nat) (x : Link) : (s.setLink n x).link n = x := by simp [State.link]
theorem link_setLink_ne (s : State) {n k : Nat} (x : Link) (h : k ≠ n) : (s.setLink n x).link k = s.link k := by
  simp [State.link, amap_get_set_ne _ _ _ h]
@[simp] theorem eng_setEng (s : State) (n : Nat) (x : Engine) : (s.setEng n x).eng n = x := by simp [State.eng]
theorem eng_setEng_ne (s : State) {n k : Nat} (x : Engine) (h : k ≠ n) : (s.setEng n x).eng k = s.eng k := by
  simp [State.eng, amap_get_set_ne _ _ _ h]
@[simp] theorem dq_setDq (s : State) (n : Nat) (x : DQueue) : (s.setDq n x).dq n = x := by simp [State.dq]
theorem dq_setDq_ne (s : State) {n k : Nat} (x : DQueue) (h : k ≠ n) : (s.setDq n x).dq k = s.dq k := by
  simp [State.dq, amap_get_set_ne _ _ _ h]
@[simp] theorem twp_setTwp (s : State) (n : Nat) (x : TwPort) : (s.setTwp n x).twp n = x := by simp [State.twp]
theorem twp_setTwp_ne (s : State) {n k : Nat} (x : TwPort) (h : k ≠ n) : (s.setTwp n x).twp k = s.twp k := by
  simp [State.twp, amap_get_set_ne _ _ _ h]
@[simp] theorem eth_setEth (s : State) (n : Nat) (x : EthPort) : (s.setEth n x).eth n = x := by simp [State.eth]
theorem eth_setEth_ne (s : State) {n k : Nat} (x : EthPort) (h : k ≠ n) : (s.setEth n x).eth k = s.eth k := by
  simp [State.eth, amap_get_set_ne _ _ _ h]

/-! ### Events -/

/-- Raising an event can change the occurrences that wait for the tick, and nothing else. -/
theorem raiseBy_frame (s : State) (j : List Nat → List Nat → List Nat × List Nat) (code idx t : Nat) (v : List Nat) :
    { s.raiseBy j code idx t v with events := s.events } = s ∧
    (s.raiseBy j code idx t v).events = { s.events with pend := (s.raiseBy j code idx t v).events.pend } := by
  unfold State.raiseBy
  split_ifs <;> exact ⟨rfl, rfl⟩

theorem raise_frame (s : State) (code idx : Nat) (v : List Nat) :
    { s.raise code idx v with events := s.events } = s ∧
    (s.raise code idx v).events = { s.events with pend := (s.raise code idx v).events.pend } :=
  raiseBy_frame s _ code idx s.now v

@[simp] theorem raise_rd (s : State) (code idx : Nat) (v : List Nat) (f : Fld) : (s.raise code idx v).rd f = s.rd f := by
  unfold State.raise State.raiseBy
  split_ifs <;> rfl

@[simp] theorem raise_cfg (s : State) (code idx : Nat) (v : List Nat) (f : Fld) : (s.raise code idx v).cfg f = s.cfg f := by
  unfold State.raise State.raiseBy
  split_ifs <;> rfl

@[simp] theorem raise_mems (s : State) (code idx : Nat) (v : List Nat) : (s.raise code idx v).mems = s.mems := by
  unfold State.raise State.raiseBy
  split_ifs <;> rfl

@[simp] theorem raise_pending (s : State) (code idx : Nat) (v : List Nat) : (s.raise code idx v).pending = s.pending := by
  unfold State.raise State.raiseBy
  split_ifs <;> rfl

end Sys2Proof.Machine
end

