-- ==== Sys2Proof/Tests/Slice0.lean ====
section
/-! SUPPORT. Tests: single steps on small states, with what the spec says of them; each shows as well that the hypotheses of a
statement of Certificates/Slice0/Obligations.lean can be met. -/

namespace Sys2Proof.Tests

set_option Elab.async false

open Sys2Proof Sys2Proof.Machine

/-- A step goes on in a state with the property. -/
def goesOn (o : Host.Outcome State Fault Refusal) (p : State → Bool) : Bool :=
  match o with
  | .next t => p t
  | _ => false

/-- The reset state with some register fields set. -/
def regs (l : List (Fld × Nat)) : State := l.foldl (fun s x => s.wr x.1 x.2) State.reset

/-- The same with active values. -/
def regsBoth (l : List (Fld × Nat)) : State := l.foldl (fun s x => s.wrBoth x.1 x.2) State.reset

/-- A command packet with some argument words. -/
def pkt (w : List Nat) : Cmd := { cid := 7, flags := 0, resv := 0, idx := 0, w := ((w ++ List.replicate 14 0).take 14).map fun v => BitVec.ofNat 32 v }

/-- An R-format word. -/
def wR (op d a b fn : Nat) : Nat := op * 2 ^ 26 + d * 2 ^ 21 + a * 2 ^ 16 + b * 2 ^ 11 + fn

/-- An I-format word. -/
def wI (op d a imm : Nat) : Nat := op * 2 ^ 26 + d * 2 ^ 21 + a * 2 ^ 16 + imm

/-- Engine 0 is RUNNING at PC 0 with the code words `ws` and the registers `e`. -/
def eng (ws : List Nat) (e : Engine := {}) : State :=
  let s := (regs [(ENG.STAT_STATE 0, 1)]).setEng 0 e
  { s with mems := { s.mems with imem := [(0, Mem.writeBytes [] 0 (ws.flatMap (leBytes 4)))] } }

/-- Engine 0 runs the word `w` normally: `State.Runs` of Safety.lean. -/
def runs (s : State) (w : Nat) : Bool := decide (s.Runs 0 w)

/-- What `KeepsRegs` says, on the keys that either state lists. -/
def keeps (fs : List Fld) (s t : State) : Bool :=
  (s.regs ++ t.regs).all fun x => fs.any (fun f => f.key == x.1) ||
    (s.regs.find? (fun y => y.1 == x.1) == t.regs.find? (fun y => y.1 == x.1))

/-- What `OnlyRegs` says, on the keys that either state lists. -/
def only (fs : List Fld) (s t : State) : Bool := keeps fs s t && { t with regs := s.regs, w1cSet := s.w1cSet, now := s.now } == s

/-- What `RegisterResult` says of engine 0. -/
def regResult (s t : State) (τ w : Nat) (e : Engine) : Bool :=
  let r := loopNext (s.engPc 0) (jeisLen w) e.loops
  t.engPc 0 == r.1 % 2 ^ 32 && retiredCount t 0 == retiredCount s 0 + 1 && t.now == max s.now τ &&
  t.eng 0 == { e with loops := r.2.1, prev := (t.eng 0).prev } && keeps (retireRegs 0) s t &&
  { t with now := s.now, regs := s.regs, engines := s.engines } == s

/-- What `JumpResult` says of engine 0. -/
def jumpResult (s t : State) (x : Nat) (e : Engine) : Bool :=
  t.engPc 0 == x && t.eng 0 == { e with loops := loopsAfterJump e.loops x, prev := (t.eng 0).prev } && keeps (retireRegs 0) s t

/-- X1 and X2 hold two numbers. -/
def xs (a b : Word) : Engine := { x := [(1, a), (2, b)] }

/-- Every row of `ScalarRegisterInstructionsWriteTheirResult` can be met. -/
theorem witness_scalar : ∀ fn ∈ List.range 0x13, let w := wR 1 3 1 (if 0x11 ≤ fn then 0 else 2) fn
    runs (eng [w] (xs 5 3)) w = true ∧ jOp w = 1 ∧ jFn w = fn := by decide +kernel

/-- R189: 0x7FFFFFFF + 1 clamps in ADDS and sets SSAT. -/
theorem test_adds : let w := wR 1 3 1 2 0x0F
    goesOn (exec (.adds 0 9) (eng [w] (xs 0x7FFFFFFF 1))) (fun t =>
      regResult (eng [w] (xs 0x7FFFFFFF 1)) t 9 w ((xs 0x7FFFFFFF 1).setX 3 0x7FFFFFFF |>.flag 2 true)) = true := by decide +kernel

/-- R189: MULH of -1 by 1 is -1; SRA of -8 by 1 is -4; CLZ of 1 is 31. -/
theorem test_scalar_values :
    goesOn (exec (.mulh 0 0) (eng [wR 1 3 1 2 0x0D] (xs 0xFFFFFFFF 1))) (fun t => (t.eng 0).getX 3 == 0xFFFFFFFF) = true ∧
    goesOn (exec (.sra 0 0) (eng [wR 1 3 1 2 0x07] (xs 0xFFFFFFF8 1))) (fun t => (t.eng 0).getX 3 == 0xFFFFFFFC) = true ∧
    goesOn (exec (.clz 0 0) (eng [wR 1 3 1 0 0x11] (xs 1 0))) (fun t => (t.eng 0).getX 3 == 31) = true := by decide +kernel

/-- Every row of `ImmediateInstructionsWriteTheirResult` can be met. -/
theorem witness_immediate :
    (∀ op ∈ [2, 3, 4, 5, 6, 7], let w := wI op 3 (if op = 7 then 0 else 1) 0xFFFF
      runs (eng [w] (xs 5 3)) w = true ∧ jOp w = op) ∧
    (let w := wI 8 3 1 (2 * 32 + 4)
     runs (eng [w] (xs 5 3)) w = true ∧ jOp w = 8) := by decide +kernel

/-- R189: ADDI sign-extends its immediate, ANDI does not. -/
theorem test_immediate :
    goesOn (exec (.addi 0 0) (eng [wI 2 3 1 0xFFFF] (xs 5 3))) (fun t =>
      regResult (eng [wI 2 3 1 0xFFFF] (xs 5 3)) t 0 (wI 2 3 1 0xFFFF) ((xs 5 3).setX 3 4)) = true ∧
    goesOn (exec (.andi 0 0) (eng [wI 3 3 1 0xFFFF] (xs 0xFFFF0005 3))) (fun t => (t.eng 0).getX 3 == 5) = true := by decide +kernel

/-- A long form of `op` with D 3 and A 1. -/
def wL (op : Nat) : Nat := 0x3F * 2 ^ 26 + op * 2 ^ 20 + 3 * 2 ^ 15 + (if op = 7 then 0 else 1) * 2 ^ 10

/-- Every clause of `LongFormTakesAFullImmediate` can be met. -/
theorem witness_long : ∀ op ∈ [2, 3, 4, 5, 6, 7, 0x19, 0x0A, 0x0B],
    let s := eng [wL op, 0x100] (xs 4 3)
    runs s (wL op) = true ∧ jOp (wL op) = 0x3F ∧ lBop (wL op) = op ∧ (s.eng 0).dma = [] ∧
    s.engMem 0 ((s.eng 0).getX 1 + BitVec.ofNat 32 (s.fetchWord 0 4)).toNat 4 = some (.dmem 0, 0x104) := by decide +kernel

/-- R183: a long ADDI takes 8 bytes. -/
theorem test_long : let s := eng [wL 2, 0x12345678] (xs 1 3)
    goesOn (exec (.longForm 0 0) s) (fun t => regResult s t 0 (wL 2) ((xs 1 3).setX 3 0x12345679)) = true := by decide +kernel

/-- Every clause of the load and store statements can be met, misaligned and out of memory as well. -/
theorem witness_loads_stores : ∀ x ∈ [(0x0A, 4), (0x0B, 4), (0x0C, 2), (0x0D, 2), (0x0E, 2), (0x0F, 1), (0x10, 1)],
    let w := wI x.1 3 1 4
    let s := eng [w] (xs 0x104 3)
    let far := eng [w] (xs 0x200000 3)
    let odd := eng [w] (xs 0x7FFD 3)
    runs s w = true ∧ jOp w = x.1 ∧ (s.eng 0).dma = [] ∧ (0x108 : Nat) % x.2 = 0 ∧ s.engMem 0 0x108 x.2 = some (.dmem 0, 0x108) ∧
    runs far w = true ∧ far.engMem 0 0x200004 x.2 = none ∧ runs odd w = true ∧ (x.2 ≠ 1 → (0x8001 : Nat) % x.2 ≠ 0) := by decide +kernel

/-- R192: STB stores one byte, LDH sign-extends, a misaligned LDW raises DALIGN with its address. -/
theorem test_loads_stores :
    goesOn (exec (.stb 0 0) (eng [wI 0x10 2 1 4] (xs 0x100 0x1FE))) (fun t =>
      t.memBytes (.dmem 0) 0x103 3 == [0, 0xFE, 0] && t.engPc 0 == 4) = true ∧
    goesOn (exec (.ldh 0 0) ((eng [wI 0x0C 3 1 0] (xs 0x100 0)).memWrite (.dmem 0) 0x100 [0xFE, 0xFF])) (fun t =>
      (t.eng 0).getX 3 == 0xFFFFFFFE) = true ∧
    goesOn (exec (.ldw 0 0) (eng [wI 0x0A 3 1 2] (xs 0x100 0))) (fun t =>
      t.rd (ENG.STAT_STATE 0) == 3 && t.rd (ENG.EXC_CAUSE 0) == 2 && t.rd (ENG.EXC_ADDR_ADDR 0) == 0x102) = true := by decide +kernel

/-- The atomics of `MisplacedAccessesRaiseTheirException` can be met: odd, and outside cluster SRAM on either side. -/
theorem witness_atomic_misplaced : ∀ fn ∈ [0, 1, 2], ∀ a ∈ [0x100011, 0xFFFFC, 0x200000],
    runs (eng [wR 0x11 3 1 2 fn] (xs (BitVec.ofNat 32 a) 3)) (wR 0x11 3 1 2 fn) = true := by decide +kernel

/-- Every row of the atomic statement can be met; R189: AMOADD gives the old word. -/
theorem witness_atomic :
    (∀ fn ∈ [0, 1, 2], runs (eng [wR 0x11 3 1 2 fn] (xs 0x100010 3)) (wR 0x11 3 1 2 fn) = true) ∧
    goesOn (exec (.amoadd 0 0) ((eng [wR 0x11 3 1 2 0] (xs 0x100010 3)).memWrite (.sram 0) 0x10 [5])) (fun t =>
      (t.eng 0).getX 3 == 5 && t.memBytes (.sram 0) 0x10 4 == [8, 0, 0, 0]) = true := by decide +kernel

/-- Every branch and jump can be met, with its condition true and false. -/
theorem witness_branches : ∀ op ∈ [0x12, 0x13, 0x14, 0x15, 0x16, 0x17],
    runs (eng [wI op 1 2 4] (xs 5 5)) (wI op 1 2 4) = true ∧ runs (eng [wI op 1 2 4] (xs 3 5)) (wI op 1 2 4) = true ∧
    runs (eng [wI 0x18 1 0 4]) (wI 0x18 1 0 4) = true ∧ runs (eng [wI 0x19 1 2 4]) (wI 0x19 1 2 4) = true := by decide +kernel

/-- R189: BLT compares signed numbers and jumps to PC + 4 x OFF16; JAL links PC + 4. -/
theorem test_branches :
    goesOn (exec (.blt 0 0) (eng [wI 0x14 1 2 4] (xs 0xFFFFFFFF 5))) (fun t =>
      jumpResult (eng [wI 0x14 1 2 4] (xs 0xFFFFFFFF 5)) t 16 (xs 0xFFFFFFFF 5)) = true ∧
    goesOn (exec (.bltu 0 0) (eng [wI 0x16 1 2 4] (xs 0xFFFFFFFF 5))) (fun t => t.engPc 0 == 4) = true ∧
    goesOn (exec (.jal 0 0) (eng [wI 0x18 1 0 4])) (fun t => t.engPc 0 == 16 && (t.eng 0).getX 1 == 4) = true := by decide +kernel

/-- Every clause of `LoopFenceAndCsrInstructionsComplete` can be met. -/
theorem witness_loop_csr :
    runs (eng [wI 0x1A 0 1 4] (xs 3 0)) (wI 0x1A 0 1 4) = true ∧ runs (eng [wI 0x1A 0 1 4] (xs 0 0)) (wI 0x1A 0 1 4) = true ∧
    runs (eng [wR 0x1B 0 0 0 1]) (wR 0x1B 0 0 0 1) = true ∧ jFn (wR 0x1B 0 0 0 1) = 1 ∧
    runs (eng [wI 0x1D 3 0 0]) (wI 0x1D 3 0 0) = true ∧ (eng [wI 0x1D 3 0 0]).csrRead 0 0 = some 0 ∧
    runs (eng [wI 0x1D 3 0 2]) (wI 0x1D 3 0 2) = true ∧ runs (eng [wI 0x1D 3 0 4]) (wI 0x1D 3 0 4) = true ∧
    runs (eng [wI 0x1D 3 0 3] { cycHi := some 5 }) (wI 0x1D 3 0 3) = true ∧ runs (eng [wI 0x1D 3 0 5]) (wI 0x1D 3 0 5) = true ∧
    runs (eng [wI 0x1E 0 1 8] (xs 3 0)) (wI 0x1E 0 1 8) = true ∧ csrMask 8 = some 7 := by decide +kernel

/-- R198: a loop of two instructions with count 3 enters its body; with count 0 it passes it. R179: CSRW keeps three bits of FLAGS. -/
theorem test_loop_csr :
    goesOn (exec (.loop 0 0) (eng [wI 0x1A 0 1 2] (xs 3 0))) (fun t => t.engPc 0 == 4 &&
      (t.eng 0).loops == [{ start := 4, fin := 8, left := 3 }]) = true ∧
    goesOn (exec (.loop 0 0) (eng [wI 0x1A 0 1 2] (xs 0 0))) (fun t => t.engPc 0 == 12 && (t.eng 0).loops == []) = true ∧
    goesOn (exec (.csrr 0 0) (eng [wI 0x1D 3 0 3] { cycHi := some 5 })) (fun t => (t.eng 0).getX 3 == 5 && (t.eng 0).cycHi == none) = true ∧
    goesOn (exec (.csrw 0 0) (eng [wI 0x1E 0 1 8] (xs 0xFF 0))) (fun t =>
      regResult (eng [wI 0x1E 0 1 8] (xs 0xFF 0)) t 0 (wI 0x1E 0 1 8) { xs 0xFF 0 with csr := [(8, 7)] }) = true := by decide +kernel

/-- Every clause of `HaltBarAndTrapActOnTheEngine` can be met. -/
theorem witness_halt_bar_trap :
    runs (eng [wR 0x1B 0 0 0 0]) (wR 0x1B 0 0 0 0) = true ∧
    runs (eng [wI 0x1C 0 1 3] (xs 1 0)) (wI 0x1C 0 1 3) = true ∧ (eng [wI 0x1C 0 1 3] (xs 1 0)).rd (CL.STAT_ENGFENCED 0) = 0 ∧ (eng [wI 0x1C 0 1 3] (xs 1 0)).atBarrier 0 3 = [] ∧
    runs (eng [wI 0x1C 0 1 3] (xs 3 0)) (wI 0x1C 0 1 3) = true ∧ (3 : Nat).testBit 0 = true ∧
    runs (eng [wR 0x1B 0 0 2 2] (xs 0 9)) (wR 0x1B 0 0 2 2) = true := by decide +kernel

/-- R199, R200, R203: HALT ends, a lone BAR completes, BAR for two waits, TRAP carries X[B]. -/
theorem test_halt_bar_trap :
    goesOn (exec (.halt 0 0) (eng [wR 0x1B 0 0 0 0])) (fun t => t.rd (ENG.STAT_STATE 0) == 2 && t.engPc 0 == 4 &&
      keeps (ENG.STAT_STATE 0 :: retireRegs 0) (eng [wR 0x1B 0 0 0 0]) t) = true ∧
    goesOn (exec (.bar 0 0) (eng [wI 0x1C 0 1 3] (xs 1 0))) (fun t => t.engPc 0 == 4 && (t.eng 0).wait == none &&
      keeps (CL.STAT_BARWAIT 0 :: retireRegs 0) (eng [wI 0x1C 0 1 3] (xs 1 0)) t) = true ∧
    goesOn (exec (.bar 0 0) (eng [wI 0x1C 0 1 3] (xs 3 0))) (fun t => t.engPc 0 == 0 && (t.eng 0).wait == some (.barrier 3 3)) = true ∧
    goesOn (exec (.trap 0 0) (eng [wR 0x1B 0 0 2 2] (xs 0 9))) (fun t => t.rd (ENG.EXC_CAUSE 0) == 10 &&
      t.rd (ENG.EXC_ADDR_ADDR 0) == 9 && t.rd (ENG.EXC_INSN_INSN 0) == wR 0x1B 0 0 2 2) = true := by decide +kernel

/-- A vector by its lanes. -/
def vec (f : Nat → Nat) : Vec := Vector.ofFn fun i => BitVec.ofNat 16 (f i.val)

/-- V1 holds `f`, V2 holds `h`, P1 selects the even lanes. -/
def vs (f h : Nat → Nat) : Engine := { v := [(1, vec f), (2, vec h)], p := [(1, 0x55555555)], x := [(1, 0x100), (2, 3)] }

/-- What `LaneResult` says of the lanes of Vd. -/
def lanes (e e' : Engine) (d p z : Nat) (f : Nat → BitVec 16) : Bool :=
  (List.range 32).all fun i => lane (e'.getV d) i == if e.on p i then f i else if z = 1 then 0 else lane (e.getV d) i

/-- A word with predicate `p` and Z bit `z`. -/
def wV (op d a b p z fn : Nat) : Nat := wR op d a b fn + p * 256 + z * 128

/-- Every row of the lane statement and of the operand forms can be met. -/
theorem witness_lanes :
    (∀ fn ∈ List.range 0x18, fn ≠ 0x16 → let w := wV 0x28 3 1 (if fn = 0x17 then 0 else 2) 1 0 fn
      runs (eng [w] (vs id id)) w = true ∧ (∃ row ∈ laneTable.map (·.1), row = fn)) ∧
    (∀ op ∈ [0x28, 0x29], runs (eng [wV op 3 1 2 1 0 0x16] (vs id id)) (wV op 3 1 2 1 0 0x16) = true) ∧
    (∀ row ∈ laneTable.map (·.1), let w := wV 0x29 3 1 (if row = 0x17 then 0 else 2) 1 0 row
      runs (eng [w] (vs id id)) w = true) := by decide +kernel

/-- R189: VADDS.S clamps and sets VSAT, the inactive lanes keep their values; VMULQ rounds; VABS.S clamps -32768. -/
theorem test_lanes :
    goesOn (exec (.vaddsS 0 0) (eng [wV 0x28 3 1 2 1 0 2] (vs (fun _ => 32767) (fun i => i)))) (fun t =>
      lanes (vs (fun _ => 32767) (fun i => i)) (t.eng 0) 3 1 0 (fun _ => 32767) && (t.eng 0).getCsr 8 == 1) = true ∧
    goesOn (exec (.vmulq 0 0) (eng [wV 0x28 3 1 2 0 0 0x12] (vs (fun _ => 0x4000) (fun _ => 0xC000)))) (fun t =>
      lanes {} (t.eng 0) 3 0 0 (fun _ => 0xE000)) = true ∧
    goesOn (exec (.vabsS 0 0) (eng [wV 0x28 3 1 0 0 0 0x17] (vs (fun _ => 0x8000) id))) (fun t =>
      lanes {} (t.eng 0) 3 0 0 (fun _ => 0x7FFF) && (t.eng 0).getCsr 8 == 1) = true ∧
    goesOn (exec (.valui 0 0) (eng [wV 0x29 3 1 2 1 1 0] (vs id id))) (fun t =>
      lanes (vs id id) (t.eng 0) 3 1 1 (fun i => BitVec.ofNat 16 (i + 3))) = true := by decide +kernel

/-- R185: 5 >> 1 rounds to 2, 3, 2, 2 and -5 >> 1 to -3, -2, -2, -2 by the four modes. -/
theorem test_rounding : (List.range 4).map (shiftRound 5 1) = [2, 3, 2, 2] ∧ (List.range 4).map (shiftRound (-5) 1) = [-3, -2, -2, -2] := by
  decide +kernel

/-- VSHI and VACC, both compare forms, every lane move, reduction, predicate and accumulator row can be met. -/
theorem witness_vector :
    runs (eng [wI 0x2A 3 1 (2 * 1024 + 256 + 4)] (vs id id)) (wI 0x2A 3 1 (2 * 1024 + 256 + 4)) = true ∧
    runs (eng [wI 0x31 3 1 (1024 + 4)] (vs id id)) (wI 0x31 3 1 (1024 + 4)) = true ∧
    (∀ fn ∈ [0, 1, 2, 3, 4, 5, 8, 9, 10, 11, 12, 13], runs (eng [wV 0x2B 3 1 2 1 0 fn] (vs id id)) (wV 0x2B 3 1 2 1 0 fn) = true) ∧
    (∀ fn ∈ [0, 6, 7, 0xC], runs (eng [wV 0x2C 3 1 0 1 0 fn] (vs id id)) (wV 0x2C 3 1 0 1 0 fn) = true) ∧
    (∀ fn ∈ [2, 3, 5], runs (eng [wV 0x2C 3 1 2 1 0 fn] (vs id id)) (wV 0x2C 3 1 2 1 0 fn) = true) ∧
    runs (eng [wV 0x2C 3 0 0 1 0 4] (vs id id)) (wV 0x2C 3 0 0 1 0 4) = true ∧
    runs (eng [wI 0x2D 3 1 (2 * 32 + 5)] (vs id id)) (wI 0x2D 3 1 (2 * 32 + 5)) = true ∧
    runs (eng [wV 0x2C 3 1 2 0 0 1] (vs id id)) (wV 0x2C 3 1 2 0 0 1) = true ∧
    (∀ fn ∈ [8, 9, 0xA, 0xB], runs (eng [wV 0x2C 3 1 0 1 0 fn] (vs id id)) (wV 0x2C 3 1 0 1 0 fn) = true) := by decide +kernel

/-- Every row of the predicate and accumulator statements can be met. -/
theorem witness_predicates :
    (∀ fn ∈ [0, 1, 2, 3], runs (eng [wV 0x2E 3 1 2 0 0 fn] (vs id id)) (wV 0x2E 3 1 2 0 0 fn) = true) ∧
    (∀ fn ∈ [4, 5, 6, 7], runs (eng [wV 0x2E 3 1 0 0 0 fn] (vs id id)) (wV 0x2E 3 1 0 0 0 fn) = true) ∧
    (∀ fn ∈ [0, 1, 2, 3, 4, 5], runs (eng [wV 0x30 3 1 2 1 0 fn] (vs id id)) (wV 0x30 3 1 2 1 0 fn) = true) ∧
    runs (eng [wV 0x30 3 0 0 1 0 6] (vs id id)) (wV 0x30 3 0 0 1 0 6) = true := by decide +kernel

/-- R189: VCMP against a scalar, VPACKB, VSLDI, VREDADD.S of active lanes, PFIRST, VMAC.S. -/
theorem test_vector :
    goesOn (exec (.vcmp 0 0) (eng [wV 0x2B 3 1 2 0 0 12] (vs id id))) (fun t => (t.eng 0).getP 3 == 7) = true ∧
    goesOn (exec (.vpackb 0 0) (eng [wV 0x2C 3 1 2 0 0 5] (vs (fun i => 255 + i) (fun i => i)))) (fun t =>
      lanes {} (t.eng 0) 3 0 0 (fun i => if i < 16 then 0xFFFF else BitVec.ofNat 16 ((2 * i - 32) + 256 * (2 * i - 31)))) = true ∧
    goesOn (exec (.vsldi 0 0) (eng [wI 0x2D 3 1 (2 * 32 + 5)] (vs id (fun i => 100 + i)))) (fun t =>
      lanes {} (t.eng 0) 3 0 0 (fun i => BitVec.ofNat 16 (if i + 5 < 32 then i + 5 else 100 + i + 5 - 32))) = true ∧
    goesOn (exec (.vredaddS 0 0) (eng [wV 0x2C 3 1 0 1 0 8] (vs (fun _ => 0xFFFF) id))) (fun t => (t.eng 0).getX 3 == 0xFFFFFFF0) = true ∧
    goesOn (exec (.pfirst 0 0) (eng [wV 0x2E 3 2 0 0 0 7] (vs id id))) (fun t => (t.eng 0).getP 3 == 7) = true ∧
    goesOn (exec (.vmacS 0 0) (eng [wV 0x30 3 1 2 0 0 0] (vs (fun _ => 0xFFFF) (fun _ => 5)))) (fun t =>
      accLane ((t.eng 0).getA 3) 7 == BitVec.ofInt 40 (-5)) = true := by decide +kernel

/-- The vector loads and stores and the sampler can be met. -/
theorem witness_vector_memory :
    (∀ op ∈ [0x34, 0x35], let w := wI op 3 1 4; let s := eng [w] (vs id id)
      runs s w = true ∧ (s.eng 0).dma = [] ∧ s.engMem 0 0x108 64 = some (.dmem 0, 0x108)) ∧
    (∀ op ∈ [0x36, 0x37], let w := wV op 3 1 2 1 0 0; let s := eng [w] (vs id (fun i => i % 4))
      runs s w = true ∧ ∀ i ∈ (s.eng 0).active 1,
        let a := ((s.eng 0).getX 1 + BitVec.ofNat 32 (2 * (lane ((s.eng 0).getV 2) i).toNat)).toNat
        a % 2 = 0 ∧ a + 2 ≤ 0x8000) := by decide +kernel

/-- R193: VSCAT of lanes 0 to 31 at four places leaves the highest lane of each; VLD reads 32 halfwords. -/
theorem test_vector_memory :
    goesOn (exec (.vscat 0 0) (eng [wV 0x37 1 1 2 0 0 0] (vs (fun i => 1000 + i) (fun i => i % 4)))) (fun t =>
      t.memBytes (.dmem 0) 0x100 8 == leBytes 2 1028 ++ leBytes 2 1029 ++ leBytes 2 1030 ++ leBytes 2 1031) = true ∧
    goesOn (exec (.vld 0 0) ((eng [wI 0x34 3 1 0] (vs id id)).memWrite (.dmem 0) 0x100 (leBytes 64 0x0403020100))) (fun t =>
      lane ((t.eng 0).getV 3) 0 == 0x0100 && lane ((t.eng 0).getV 3) 2 == 4) = true := by decide +kernel

/-- A 4 x 2 surface of halfwords at 0x200 of DMEM in slot 0. -/
def surf : State :=
  let e : Engine := { vs (fun _ => 16) (fun _ => 0) with csr := [(0x20, 0x200), (0x22, 8), (0x23, 0x20004), (0x24, 0x81), (0x40, 0), (0x41, 0)] }
  (eng [wV 0x3A 3 1 2 0 0 0] e).memWrite (.dmem 0) 0x200 (leBytes 2 10 ++ leBytes 2 30 ++ leBytes 2 50 ++ leBytes 2 70)

/-- R201: half way between two samples of 10 and 30 the sampler gives 20; its statement's hypotheses hold there. -/
theorem test_sampler : runs surf (wV 0x3A 3 1 2 0 0 0) = true ∧
    ((List.range 32).all fun i => (smpTaps (surf.eng 0) (lane ((surf.eng 0).getV 1) i) (lane ((surf.eng 0).getV 2) i)).all fun tap =>
      match surf.smpPlace (surf.eng 0) 0 tap.2.1 tap.2.2 with
      | .inl _ => true
      | .inr a => decide (0 ≤ a) && (surf.engMem 0 a.toNat 2).isSome) = true ∧
    goesOn (exec (.smp 0 0) surf) (fun t => lanes {} (t.eng 0) 3 0 0 (fun _ => 20)) = true := by decide +kernel

/-- A graph of one node on engine 0, which reads flue 0 and writes flue 1, both in SRAM 0. -/
def gr : Graph :=
  { nodes := [{ engines := 1, entry := 8, stack := 0x7F00, parDmem := 0x100, si := [{ used := true, flue := 0 }],
                so := [{ used := true, flue := 1 }] }],
    flues := [{ loc := 0, slots := 2, bytes := 128, base := 0x1000, prod := 0x1000, cons := [0x2000], hiwm := 9 },
              { loc := 0, slots := 2, bytes := 128, base := 0x2000, prod := 0x2000, cons := [0x1000], hiwm := 9 }] }

/-- Engine 0 runs the word `w` on that graph; flue 0 holds an item of ten bytes where `n` is 1. -/
def str (w n : Nat) (e : Engine := {}) : State :=
  let s := eng [w] { e with bound := true }
  let f : Flue := if n = 1 then { items := [{ len := 10, wr := 10, closed := true, vis := some 0, left := [(0, 0)] }], claimed := 1, shown := 1 } else {}
  ({ s with graph := { active := some gr, flues := [(0, f)] } }).memWrite (.sram 0) 0x1008 [1, 2, 3, 4, 5, 6, 7, 8, 9, 10]

/-- SLEN on port 0 to X3, SRDW, SAVAIL, SBEG of X1 bytes, SWRW of X1, SEND; VSRD and VSWR of V1. -/
def wS (d a fn : Nat) : Nat := wR 0x20 d a 0 fn

/-- Both SLEN clauses can be met: with an item and without one. -/
theorem witness_slen :
    runs (str (wS 3 0 0) 1) (wS 3 0 0) = true ∧ ((str (wS 3 0 0) 1).inPort 0 0).isSome = true ∧
    (((((str (wS 3 0 0) 1).at 5).flueCatch 0 0).finishCur 0 0 0).nextItem 0 0 0).isSome = true ∧
    (((((str (wS 3 0 0) 0).at 5).flueCatch 0 0).finishCur 0 0 0).nextItem 0 0 0) = none ∧
    (let s := str (wS 3 0 0) 1 { wait := some (.item 0) }
     runs (s.setEng 0 ((s.eng 0).wake 5)) (wS 3 0 0) = true ∧ s.closeOrder 0 0 = false ∧
      (((((s.setEng 0 ((s.eng 0).wake 5)).at 5).finishCur 0 0 0).nextItem 0 0 0).isSome = true)) := by decide +kernel

/-- R195: SLEN gives the length of the item; without an item it waits, and the wait ends once there is one. -/
theorem test_slen :
    goesOn (exec (.slen 0 5) (str (wS 3 0 0) 1)) (fun t => (t.eng 0).getX 3 == 10 && t.engPc 0 == 4 &&
      AMap.get (0, 1) (t.eng 0).inCur 0 == (0, 0) && (t.eng 0).wdCount 5 == 0) = true ∧
    goesOn (exec (.slen 0 5) (str (wS 3 0 0) 0)) (fun t => (t.eng 0).wait == some (.item 0) && t.engPc 0 == 0) = true ∧
    goesOn (exec (.streamWaitEnd 0 5) (str (wS 3 0 0) 1 { wait := some (.item 0) })) (fun t =>
      (t.eng 0).wait == none && (t.eng 0).getX 3 == 10 && AMap.get (0, 1) (t.eng 0).inCur 0 == (0, 0)) = true := by decide +kernel

/-- The state of the SBEG wait clause; its wait ends with the item open. -/
theorem witness_sbeg_wait : let s := str (wS 0 1 2) 0 { x := [(1, 20)], wait := some (.credit 0) }
    runs (s.setEng 0 ((s.eng 0).wake 5)) (wS 0 1 2) = true ∧ (s.outPort 0 0).isSome = true ∧ s.flueCredit 0 1 = true ∧
    goesOn (exec (.streamWaitEnd 0 5) s) (fun t => (t.eng 0).wait == none && AMap.get 1 (t.eng 0).outCur 0 == 0) = true := by decide +kernel

/-- The engine reads the item from byte 4. -/
def rd4 : Engine := { inCur := [(0, (0, 4))] }

/-- The three clauses of `StreamReadsStepThroughTheItem` can be met. -/
theorem witness_stream_reads : ∀ w ∈ [wS 3 0 1, wS 3 0 5, wR 0x38 3 0 0 0],
    runs (str w 1 rd4) w = true ∧ AMap.get none (((str w 1 rd4).eng 0).inCur.map fun x => (x.1, some x.2)) (jB w) = some (0, 4) := by
  decide +kernel

/-- R195: SRDW gives bytes 4 to 7; VSRD pads with 0 beyond the end. -/
theorem test_stream_reads :
    goesOn (exec (.srdw 0 0) (str (wS 3 0 1) 1 rd4)) (fun t => (t.eng 0).getX 3 == 0x08070605 && (t.eng 0).inCur == [(0, (0, 8))]) = true ∧
    goesOn (exec (.vsrd 0 0) (str (wR 0x38 3 0 0 0) 1 rd4)) (fun t => lane ((t.eng 0).getV 3) 2 == 0x0A09 && lane ((t.eng 0).getV 3) 3 == 0 &&
      (t.eng 0).inCur == [(0, (0, 10))]) = true ∧
    goesOn (exec (.savail 0 0) (str (wS 3 0 5) 1 rd4)) (fun t => (t.eng 0).getX 3 == 0) = true := by decide +kernel

/-- An item of 80 bytes is open on port 0. -/
def opn (w : Nat) : State :=
  let s := str w 0 { x := [(1, 0x01020304)], outCur := [(0, 0)] }
  s.setFlue 0 1 { items := [{ len := 80 }], claimed := 1 }

/-- Without a credit: both slots hold items. -/
def noCredit : State := (str (wS 0 1 2) 0 { x := [(1, 20)] }).setFlue 0 1 { items := [{ seq := 0 }, { seq := 1 }], claimed := 2 }

/-- Every clause of `StreamWritesOpenAppendToAndCloseAnItem` can be met. -/
theorem witness_stream_writes :
    runs (str (wS 0 1 2) 0 { x := [(1, 20)] }) (wS 0 1 2) = true ∧ runs noCredit (wS 0 1 2) = true ∧ noCredit.flueCredit 0 1 = false ∧
    (∀ w ∈ [wS 0 1 3, wS 0 0 4, wR 0x39 1 0 0 0], runs (opn w) w = true ∧ ((opn w).outPort 0 0).isSome = true ∧
      AMap.get none (((opn w).eng 0).outCur.map fun x => (x.1, some x.2)) (jB w) = some 0 ∧
      (((opn w).flue 0 1).item 0).wr + 64 ≤ (((opn w).flue 0 1).item 0).len) := by decide +kernel

/-- R196: SBEG writes the length at the slot, SWRW appends four bytes, SEND closes, and without a credit SBEG waits. -/
theorem test_stream_writes :
    goesOn (exec (.sbeg 0 0) (str (wS 0 1 2) 0 { x := [(1, 20)] })) (fun t => t.memBytes (.sram 0) 0x2000 8 == leBytes 8 20 &&
      (t.flue 0 1).claimed == 1 && AMap.get 1 (t.eng 0).outCur 0 == 0) = true ∧
    goesOn (exec (.sbeg 0 0) noCredit) (fun t => (t.eng 0).wait == some (.credit 0) && t.engPc 0 == 0) = true ∧
    goesOn (exec (.swrw 0 0) (opn (wS 0 1 3))) (fun t => t.memBytes (.sram 0) 0x2008 5 == [4, 3, 2, 1, 0] &&
      t.flue 0 1 == ((opn (wS 0 1 3)).flue 0 1).setItem { len := 80, wr := 4 }) = true ∧
    goesOn (exec (.vswr 0 0) (opn (wR 0x39 1 0 0 0))) (fun t =>
      t.flue 0 1 == ((opn (wS 0 1 3)).flue 0 1).setItem { len := 80, wr := 64 }) = true ∧
    goesOn (exec (.send 0 0) (opn (wS 0 0 4))) (fun t => (t.eng 0).outCur == [] && t.engPc 0 == 4 &&
      ((t.flue 0 1).items.all fun y => y.closed)) = true := by decide +kernel

/-- A descriptor at 0x200: 4 bytes from 0x300 to 0x400. -/
def dmaDesc : List Nat := leBytes 8 0x300 ++ leBytes 8 0x400 ++ leBytes 4 4 ++ leBytes 2 1 ++ leBytes 2 0 ++ leBytes 8 0

/-- Engine 0 with that descriptor, and with its transfer in progress on channel 1. -/
def dmaSt (w : Nat) (e : Engine) : State := ((eng [w] e).memWrite (.dmem 0) 0x200 dmaDesc).memWrite (.dmem 0) 0x300 [1, 2, 3, 4]

/-- The clauses of `TransfersStartAreAwaitedAndMoveTheirBytes` can be met. -/
theorem witness_dma :
    runs (dmaSt (wR 0x1F 0 1 1 0) { x := [(1, 0x200)] }) (wR 0x1F 0 1 1 0) = true ∧
    (dmaOf ((dmaSt (wR 0x1F 0 1 1 0) {}).memBytes (.dmem 0) 0x200 32)).mode % 4 = 0 ∧
    runs (dmaSt (wR 0x1F 0 0 1 1) {}) (wR 0x1F 0 0 1 1) = true ∧
    runs (dmaSt (wR 0x1F 0 0 1 1) { dma := [(1, [dmaOf dmaDesc])] }) (wR 0x1F 0 0 1 1) = true ∧
    (let s := dmaSt 0 { dma := [(1, [dmaOf dmaDesc])] }
     AMap.get [] (s.eng 0).dma 1 = [dmaOf dmaDesc] ∧ s.clean ∧ (dmaOf dmaDesc).rows = 1 ∧ (dmaOf dmaDesc).row = 4 ∧
      ∀ i, i < 4 → (s.engMem 0 (0x300 + i) 1).isSome ∧ s.engMem 0 (0x400 + i) 1 = some (.dmem 0, 0x400 + i)) := by decide +kernel

/-- R197: DMAGO starts the transfer, DMAWT waits for it, and when it is done its bytes are there. -/
theorem test_dma :
    goesOn (exec (.dmago 0 0) (dmaSt (wR 0x1F 0 1 1 0) { x := [(1, 0x200)] })) (fun t => AMap.get [] (t.eng 0).dma 1 == [dmaOf dmaDesc]) = true ∧
    goesOn (exec (.dmawt 0 0) (dmaSt (wR 0x1F 0 0 1 1) { dma := [(1, [dmaOf dmaDesc])] })) (fun t => (t.eng 0).wait == some (.dma 1)) = true ∧
    goesOn (exec (.dmaTransferDone 0 1 7) (dmaSt 0 { dma := [(1, [dmaOf dmaDesc])] })) (fun t =>
      t.memBytes (.dmem 0) 0x3FF 6 == [0, 1, 2, 3, 4, 0] && AMap.get [] (t.eng 0).dma 1 == []) = true := by decide +kernel

/-- The watchdog's clause and the unlocked injections: engine 0 RUNNING with a limit of 1 µs. -/
theorem test_watchdog : let s := eng [0] { wdLim := 1 }
    s.rd (ENG.STAT_STATE 0) = 1 ∧ (s.eng 0).wdLim * 1000 ≤ (s.eng 0).wdCount 1000 ∧ s.injLocked = false ∧
    (regs [(DIA.LOCK_INJ, 1)]).injLocked = true ∧
    goesOn (exec (.watchdog 0 1000) s) (fun t => t.rd (ENG.STAT_STATE 0) == 3 && t.rd (ENG.EXC_CAUSE 0) == 9 &&
      t.rd (ENG.EXC_IMPRECISE 0) == 1 && (t.eng 0).x == []) = true ∧
    goesOn (exec (.engInjWdog 0) s) (fun t => t.rd (ENG.EXC_CAUSE 0) == 9) = true := by decide +kernel

/-- Where the injections of `WatchdogActsAndInjectionsAct` that need a state act, they meet their hypotheses. -/
theorem test_injections :
    (let s := regs [(LNK.POC_STAT_STATE 3, 2), (LNK.STAT_CDR_LOCK 3, 1), (TIM.STAT_PORT, 1), (CMD.STAT_SVC, 2)]
     s.poc 3 = 2 ∧ s.is (LNK.STAT_CDR_LOCK 3) = true ∧ s.svcRunning = true ∧ s.rd CMD.STAT_WARDEN ≠ 3 ∧
      goesOn (exec (.lnkInjPocOpen 3) s) (fun t => only [LNK.POC_STAT_OPEN 3, LNK.POC_STAT_OPEN_STKY 3] s { t with events := s.events }) = true ∧
      goesOn (exec (.lnkInjPocShort 3) s) (fun t => t.poc 3 == 3 && t.rd (LNK.POC_STAT_SHORT 3) == 1) = true ∧
      goesOn (exec (.diaInjLnkCdr 3 0) s) (fun t => t.rd (LNK.STAT_CDR_LOCK 3) == 0) = true ∧
      goesOn (exec (.timInjSyncto 0) s) (fun t => (t.eth 1).lost && t.rd (ETH.CNT1_SYNC_TMO 1) == 1) = true ∧
      goesOn (exec (.cmdInjAccess 5 9) s) (fun t => t.diag.secLog == [(9, 0x109, 5)]) = true ∧
      goesOn (exec (.diaInjSysLockstep 9) s) (fun t => t.rd CMD.STAT_WARDEN == 2 && t.diag.mism == some 9) = true) ∧
    (∀ m ∈ [1, 2, 3, 4, 5], let s := regsBoth [(EP.CFG_MODE 2, m), (EP.CPR 2, 100), (EP.CFG_ZMODE 2, 1)]
      s.portMode 2 = m ∧ s.cfg (EP.CPR 2) ≠ 0 ∧ s.cfg (EP.CFG_ZMODE 2) = 1 ∧
      (m = 1 → goesOn (exec (.diaInjEpDoubleStep 2 5) s) (fun t => t.rd (EP.FCNT0_DOUBLE_STEP 2) == 1) = true ∧
        goesOn (exec (.diaInjEpIndex 2 5) s) (fun t => t.rd (EP.FCNT2_INDEX_MISMATCH 2) == 1) = true) ∧
      (m = 2 → goesOn (exec (.diaInjEpHallInvalid 2 5) s) (fun t => t.rd (EP.FCNT1_HALL_INVALID 2) == 1) = true) ∧
      (3 < m → goesOn (exec (.diaInjEpSerial 2 5) s) (fun t => t.rd (EP.FCNT2_SERIAL_ERR 2) == 1) = true)) ∧
    goesOn (exec (.memInjPage 40) State.reset) (fun t => t.memu.arm == []) = true ∧
    goesOn (exec (.memInjPage 39) State.reset) (fun t => t.memu.arm == [(39, 4)]) = true ∧
    goesOn (exec (.memInj2bit 52) State.reset) (fun t => t.memu.arm == []) = true ∧
    (let s := regsBoth [(EP.CFG_MODE 2, 1), (EP.PWR_EN 2, 1)]
     s.openable 2 0 = true ∧ s.encPower 2 = true ∧ (s.setAxis 2 { slip := some false }).axis 2 = { slip := some false }) := by decide +kernel

/-- The same graph without input ports. -/
def gr0 : Graph := { gr with nodes := gr.nodes.map fun n => { n with si := [] } }

/-- A node to start on engine 0: due at the commit, or still the old graph's and drained, or late. -/
def due (old : Option Graph) (act : Graph) (e : Engine) : State :=
  let s := eng [0] e
  { s with graph := { active := some act, olds := old.toList.map fun g => (0, g), gen := 1, due := [0] } }

/-- The clauses of `KernelsStartWithTheirRegistersSet` can be met. -/
theorem witness_kernels :
    (let s := due none gr {}; s.engOld 0 = false ∧ gr.place 0 = some (0, 0) ∧ s.graph.due.contains 0 = true) ∧
    (let s := due (some gr) gr { bound := true, wait := some (.item 0) }; s.engOld 0 = true ∧ s.engDrained 0 = true) ∧
    (let s := due (some gr) {} { bound := true, wait := some (.item 0) }; s.engOld 0 = true ∧ s.engDrained 0 = true ∧ (({} : Graph).place 0) = none) ∧
    (let s := due (some gr0) gr { bound := true }
     s.engOld 0 = true ∧ s.engDrained 0 = false ∧ (s.eng 0).stopAt = false ∧ (s.eng 0).outCur = [] ∧ s.inFlues 0 = [] ∧ s.nextGen 0 = 1 ∧
      (s.graphOf 1).place 0 = some (0, 0) ∧ (s.graphOf 1).since + 1000000 * max 1 (s.graphOf 1).drain ≤ 1000000) := by decide +kernel

/-- R178: the kernel starts at its entry with X2, X3 and X30 set. -/
theorem test_kernel_start :
    goesOn (exec (.kernelStart 0 3) (due none gr {})) (fun t => t.rd (ENG.STAT_STATE 0) == 1 && t.rd (ENG.PC 0) == 8 &&
      (t.eng 0).getX 2 == 0x7F00 && (t.eng 0).getX 3 == 0x100 && (t.eng 0).bound) = true ∧
    goesOn (exec (.engineChangeover 0 3) (due (some gr) {} { bound := true, wait := some (.item 0) })) (fun t =>
      t.rd (ENG.STAT_STATE 0) == 2 && (t.eng 0).bound == false) = true ∧
    goesOn (exec (.graphDrainLate 0 1000000) (due (some gr0) gr { bound := true })) (fun t => t.rd (ENG.STAT_STATE 0) == 1 &&
      t.rd (ENG.PC 0) == 8 && (t.eng 0).bound) = true := by decide +kernel

/-- R223: a faulted rank that is not left out restarts. -/
theorem test_node_restart :
    let s := { (regs [(CMD.STAT_SVC, 2), (ENG.STAT_STATE 0, 3), (ENG.EXC_CAUSE 0, 9)]).setEng 0 { bound := true } with graph := { active := some gr0 } }
    s.svcRunning = true ∧ ((s.nodeDef 0 0).si.getD 0 {}).used = false ∧ (s.gnode 0 0).gone.contains 0 = false ∧ s.graph.stopped.contains 0 = false ∧
    goesOn (exec (.nodeRestart 0 3) s) (fun t => t.rd (ENG.STAT_STATE 0) == 1 && t.rd (ENG.EXC_CAUSE 0) == 0) = true := by decide +kernel

/-- A port in QUAD mode, with an open-wire check, powered, whose levels read `lv`. -/
def quad (lv : Nat) : State :=
  (regsBoth [(EP.CFG_MODE 2, 1), (EP.CFG_OPEN_EN 2, 1), (EP.CFG_ZMODE 2, 1), (EP.PWR_EN 2, 1)]).wr (EP.STAT_LEVELS 2) lv

/-- No axis depends on port 2 after reset: what `NoAxis` says, as a Bool. -/
def alone (s : State) (p : Nat) : Bool := (List.range 8).all fun k => !s.uses k p && !s.dependsOn k p

/-- What `OnlyPorts` says. -/
def onlyPorts (s t : State) : Bool := { t with now := s.now, regs := s.regs, w1cSet := s.w1cSet, ports := s.ports, events := s.events } == s

/-- What `StillAxes` says, as a Bool. -/
def still (s : State) : Bool := (List.range 8).all fun k => s.comb k != 5 && s.comb k != 6 && (s.axis k).rest == none

/-- The clauses of the port statements can be met. -/
theorem witness_ports :
    alone (quad 0) 2 = true ∧ still (quad 0) = true ∧ ((quad 0).at 9).justSet (EP.PWR_TRIP 2) = 0 ∧ (quad 0).edgeFast 2 5 = false ∧ (quad 0).portMode 2 = 1 ∧ (quad 0).openable 2 1 = true ∧
    (quad 0).encPower 2 = true ∧ alone ((quad 0).wr (EP.STAT_OPEN 2) 2) 2 = true ∧ (quad 0).cfg (EP.CPR 2) = 0 := by decide +kernel

/-- R36: A rising from 00 counts +1; 00 to 11 counts nothing and adds 2 to the uncertainty. R38: the index latches. -/
theorem test_quad :
    goesOn (exec (.encoderEdge 2 1 0 5) (quad 0)) (fun t => t.rd (EP.COUNT 2) == 1 && t.rd (EP.EDGE_TIME_TIME 2) == 5 &&
      onlyPorts (quad 0) t) = true ∧
    goesOn (exec (.encoderEdge 2 0 0 5) (quad 1)) (fun t => t.rd (EP.COUNT 2) == 2 ^ 32 - 1) = true ∧
    goesOn (exec (.encoderEdge 2 3 2 5) (quad 0)) (fun t => t.rd (EP.COUNT 2) == 1 && t.rd (EP.STAT_LEVELS 2) == 1) = true ∧
    goesOn (exec (.encoderEdge 2 6 0 5) ((quad 0).wrBoth (EP.CFG_INV 2) 7)) (fun t => t.rd (EP.COUNT 2) == 1 && t.rd (EP.STAT_LEVELS 2) == 1) = true ∧
    goesOn (exec (.encoderEdge 2 3 0 5) (quad 0)) (fun t => t.rd (EP.COUNT 2) == 0 && t.rd (EP.UNC 2) == 2 &&
      t.rd (EP.FCNT0_DOUBLE_STEP 2) == 1) = true ∧
    goesOn (exec (.indexPulse 2 5) ((quad 0).wr (EP.COUNT 2) 77)) (fun t => t.rd (EP.ZLATCH 2) == 77 && t.rd (EP.COUNT 2) == 77) = true := by
  decide +kernel

/-- R40 to R42: an open wire faults the port, its return clears the fault; a trip turns the supply off until it is cleared. -/
theorem test_open_trip :
    goesOn (exec (.openWire 2 1 5) (quad 0)) (fun t => t.rd (EP.STAT_OPEN 2) == 2 && t.rd (EP.STAT_FAULTED 2) == 1 &&
      goesOn (exec (.openClear 2 1 9) t) (fun u => u.rd (EP.STAT_OPEN 2) == 0 && u.rd (EP.STAT_FAULTED 2) == 0)) = true ∧
    goesOn (exec (.pwrOvercurrent 2 5) (quad 0)) (fun t => t.rd (EP.PWR_TRIP 2) == 1 && !t.encPower 2 && t.rd (EP.STAT_FAULTED 2) == 1 &&
      goesOn (exec (.encPwrTripClear 2 9) t) (fun u => u.encPower 2 && u.rd (EP.STAT_FAULTED 2) == 0)) = true := by decide +kernel

/-- An SSI port of 12 bits whose reading started at 0 and whose previous position was 4095. -/
def ssi (r : Option Nat) : State := (regsBoth [(EP.CFG_MODE 2, 4), (EP.SER_BITS 2, 12)]).setPort 2 { reading := r, serPrev := some 4095 }

/-- R43, R46, R57: the reading starts and gives +2 across the wrap. -/
theorem test_serial :
    alone (ssi none) 2 = true ∧ (ssi none).portMode 2 = 4 ∧ (ssi (some 0)).cfg (EP.SER_ERRBITS 2) = 0 ∧
    (ssi (some 0)).cfg (EP.SER_GRAY 2) = 0 ∧ 0 + 2 * (ssi (some 0)).serHalf 2 * 12 + 1000 * max 1 ((ssi (some 0)).cfg (EP.SER2_TIMEOUT 2)) ≤ 1000000 ∧
    goesOn (exec (.serialReadingStart 2 5) (ssi none)) (fun t => (t.port 2).reading == some 5 && (t.port 2).readAt == some 5) = true ∧
    (let s := (ssi none).setPort 2 { readAt := some 7, readEnd := 8, serPrev := some 9 }
     goesOn (exec (.serialReadingStart 2 (10 ^ 9)) s) (fun t => (t.port 2).readAt == some (10 ^ 9)) = true ∧
      goesOn (exec (.serialReadingStart 2 8) s) (fun t => t == s) = true) ∧
    goesOn (exec (.serialReading 2 true 1 0 0 1000000) ((ssi none).setPort 2 { reading := some 0 })) (fun t => t.rd (EP.COUNT 2) == 0) = true ∧
    goesOn (exec (.serialReading 2 true 1 0 0 1000000) (ssi (some 0))) (fun t => t.rd (EP.COUNT 2) == 2 && (t.port 2).serPrev == some 1 &&
      t.rd (EP.SERDATA_DATA 2) == 1 && onlyPorts (ssi (some 0)) t) = true := by decide +kernel

/-- The four clauses of `MotionTimersActOnPortsAndAxes` can be met, and R54, R56, R50 hold there. -/
theorem test_motion_timers :
    (let s := regs [(EP.STAT_MOTION 2, 3), (EP.SPEED 2, 1000)]
     alone s 2 = true ∧ s.portFaulted 2 = false ∧ s.ssto 2 ≤ 10 ^ 12 ∧
      goesOn (exec (.standstillTimeout 2 (10 ^ 12)) s) (fun t => t.rd (EP.STAT_MOTION 2) == 0 && t.rd (EP.SPEED 2) == 0) = true ∧
      256000000 < 1000000 * (s.portSpeed 2).natAbs ∧
      goesOn (exec (.speedDecay 2 1000000) s) (fun t => t.rd (EP.SPEED 2) == 256 && only [EP.SPEED 2] s t) = true) ∧
    (let s := State.reset.setAxis 2 { slip := some true }
     s.slipTime 2 ≤ 10 ^ 12 ∧ goesOn (exec (.slip 2 (10 ^ 12)) s) (fun t => t.rd (AX.STAT_SLIP 2) == 1) = true) ∧
    (let s := (regs [(AX.STAT_SLIP 2, 1)]).setAxis 2 { slip := some false }
     s.is (AX.STAT_SLIP 2) = true ∧ goesOn (exec (.slipClear 2 (10 ^ 12)) s) (fun t => t.rd (AX.STAT_SLIP 2) == 0) = true) := by decide +kernel

/-- R62: a snapshot of axis 1 copies its position and leaves axis 0's snapshot. R63: CLR_CNT clears. -/
theorem test_snapshot_clear :
    goesOn (exec (.axsSnap 2 5) ((regs [(AX.SPEED 1, 9)]).setAxis 1 { pos := 0x123456789 })) (fun t =>
      t.rd (AX.SNAP_POS_LO_POS 1) == 0x23456789 && t.rd (AX.SNAP_POS_HI_POS 1) == 1 && t.rd (AX.SNAP_SPEED_SPEED 1) == 9 &&
      t.rd (AX.SNAP_TIME_TIME 0) == 0 && t.rd (AX.SNAP_TIME_TIME 1) == 5) = true ∧
    goesOn (exec (.epClrCnt 2) (regs [(EP.FCNT1_HALL_SKIP 2, 3), (EP.UNC 2, 4)])) (fun t => t.rd (EP.FCNT1_HALL_SKIP 2) == 0 &&
      t.rd (EP.UNC 2) == 4) = true ∧
    goesOn (exec .memClrCnt (regs [(MEMR.CE 59, 3)])) (fun t => t.rd (MEMR.CE 59) == 0) = true := by decide +kernel

/-- R51: half units are carried. -/
theorem test_half_units : ((State.reset.movePos 1 5 3).axis 1).pos = 1 ∧ ((State.reset.movePos 1 5 3).axis 1).rem = 1 ∧
    (((State.reset.movePos 1 5 3).movePos 1 5 3).axis 1).pos = 3 ∧
    (let s := (regs [(AXS.EVTEN_EN, 2 ^ 15 - 1)]).setAxis 1 { pos := 2 ^ 63 - 1 }
     (s.movePos 1 5 2).rd (AX.STAT_WRAPPED 1) = 1 ∧ (s.movePos 1 5 1).rd (AX.STAT_WRAPPED 1) = 0 ∧
     s.evOn 0x040C 1 = true ∧ (s.movePos 1 5 2).events.pend.any (fun o => o.code == 0x040C && o.idx == 1) = true) := by decide +kernel

/-- The window clauses can be met: open, and sealed by an armed epoch. -/
theorem test_window :
    (let s := regs [(TRG.WIN_IDX_INDEX, 7), (TRG.WIN_D_D 2, 0x01000008)]
     s.sealed = false ∧ goesOn (exec .ledgerWinWrite s) (fun t => t.stagedEnt 7 == { d2 := 0x01000008 } && t.stagedEnt 6 == {}) = true) ∧
    (let s := { (regs [(TRG.WIN_IDX_INDEX, 7), (TRG.WIN_D_D 2, 0x01000008)]) with epoch := { armed := some {} } }
     s.sealed = true ∧ s.winEnt ≠ s.stagedEnt 7 ∧
      goesOn (exec .ledgerWinWrite s) (fun t => t.rd CMD.STAT_SEALED_WR == 1 && t.ledger == s.ledger) = true) := by decide +kernel

/-- Entry 5 fires camera 3; its issue is predicted for 5000 ns; link 3 can send. -/
def issue : State :=
  ((regsBoth [(TRG.CFG_EN, 1), (LNK.STAT_STATE 3, 4), (LNK.STAT_PWR_ACT 3, 0), (LNK.STAT_LLAT_VALID 3, 1), (LNK.STAT_BC_UP 3, 1), (CAM.MINTI 3, 10)]).setEnt 5
    { w := { d2 := 0x01000008 }, st := .predicting, chan := [(3, .predicted 5000)] })

/-- R75: it freezes 1 µs before; its statement's hypotheses hold. -/
theorem test_freeze : issue.linkReady 3 = true ∧ issue.collides 5 3 5000 = false ∧ issue.on TRG.CFG_EN = true ∧
    AMap.get .waiting (issue.ent 5).chan 3 = .predicted 5000 ∧
    goesOn (exec (.issueFreeze 5 3 4000) issue) (fun t => (t.ent 5).st == .frozen && AMap.get .waiting (t.ent 5).chan 3 == .frozen 5000 &&
      t.ledger.frozen.any fun f => f.entry == 5 && f.chan == 3 && f.at_ == 5000) = true ∧
    goesOn (exec (.issueFreeze 5 3 3999) issue) (fun t => t == issue) = true := by decide +kernel

/-- The frozen issues of camera 3 and strobe 1, and an EXPOSURE_END in its slot. -/
def frozen : State :=
  let s := (regsBoth [(LNK.STAT_BC_UP 3, 1), (TRO.CFG_EN 1, 1)]).setLink 3 { ends := [{ slot := 30, seq := 4, fine := 1 }] }
  { s with ledger := { frozen := [{ entry := 5, chan := 3, at_ := 100, fine := 2, slot := 300 }, { entry := 5, chan := 25, at_ := 100, width := 50 }] },
           cams := [(3, { seq := 255 })] }

/-- R83, R118, R87: TRIGGER leaves with its sequence number, which steps on; a strobe pulse turns on and ends. -/
theorem test_issues : (frozen.due 3 100).isSome = true ∧ (frozen.due 25 100).isSome = true ∧ frozen.strobeGap 1 100 = false ∧
    goesOn (exec (.triggerIssue 3 100) frozen) (fun t => (t.cam 3).seq == 0 && (t.link 3).tx == [0x13C, 255, 2, crc8 [255, 2]] &&
      t.rd TRG.NFIRE == 1 && (t.link 3).txAt == 300) = true ∧
    goesOn (exec (.exposureEndIssue 3 10) frozen) (fun t => (t.link 3).ends == [] && (t.link 3).tx == [0x13C, 4, 129, crc8 [4, 129]]) = true ∧
    goesOn (exec (.strobeIssue 1 100) frozen) (fun t => (t.strobe 1).pulses == [150] && (t.strobe 1).onAt == some 100 &&
      goesOn (exec (.strobePulseEnd 1 150) t) (fun u => u.strobe 1 == { offAt := some 150 }) &&
      goesOn (exec (.strobeClip 1 (10 ^ 10)) t) (fun u => u.strobe 1 == t.strobe 1) &&
      goesOn (exec (.strobeClip 1 1000100) (t.setStrobe 1 { pulses := [1000101], onAt := some 100 }))
        (fun u => u.strobe 1 == { offAt := some 1000100 } && u.rd (TRO.CNT_CLIP 1) == 1)) = true := by
  decide +kernel

/-- A SETTINGS entry for camera 3 and set 2 on axis 1, which moves towards its target. -/
def settings : State :=
  ((regsBoth [(TRG.CFG_EN, 1), (AX.STAT_MOTION 1, 3)]).setAxis 1 { pos := 0x50000 }).setEnt 5
    { w := { d0 := 0x50000, d2 := 0x0B000008, d6 := 0x02000000 }, target := 0x50000, st := .armed }

/-- The clauses of `WindowsSettingsAndLightingFollowTheirTimers` can be met; the set becomes pending. -/
theorem test_windows_lighting :
    (let s : State := { State.reset with cams := [(3, { winOpen := some 0 })] }
     s.blank 3 ≤ 10 ^ 9 ∧ goesOn (exec (.blankingWindowClose 3 (10 ^ 9)) s) (fun t => t.cam 3 == {}) = true) ∧
    settings.movesToward (settings.ent 5).w = true ∧ (settings.ent 5).w.action = 3 ∧ (settings.ent 5).w.channels = [] ∧
    (settings.ent 5).w.d5 = 0 ∧ settings.posAt 1 0 = (settings.ent 5).target ∧
    goesOn (exec (.ledgerTargetReached 5 7) settings) (fun t => (t.ent 5).st == .done && (t.cam 3).pendSet == some (2, 7)) = true ∧
    (let s := regs [(TRG.LITE_STAT_STATE, 1)]
     goesOn (exec (.lightHoldover 9) s) (fun t => t.rd TRG.LITE_STAT_STATE == 2 && t.lite.heldAt == 9) = true) ∧
    (let s := regs [(TRG.LITE_STAT_STATE, 2)]
     s.comb 7 ≠ 6 ∧ 1000000 * max 1 (s.cfg TRG.LITE_CFG_LOSS) ≤ 10 ^ 11 ∧
      goesOn (exec (.lightLost (10 ^ 11)) s) (fun t => t.rd TRG.LITE_STAT_STATE == 0 && t.rd TRG.LITE_STAT_LOST_STKY == 1) = true) ∧
    (let s : State := { State.reset with ctxs := [(4, { winAt := some 0, use := [((CTX.STATCFG_FLK_EN 4).key, 1)] })] }
     (s.ctx 4).conf (CTX.STATCFG_FLK_EN 4) ≠ 0 ∧ bypassed (s.ctx 4).conf 4 3 = false ∧ s.liteOn = false) := by decide +kernel

/-- The module runs: RUN, service firmware and warden running, host link at mode 2. -/
def up (l : List (Fld × Nat)) : State :=
  let s := regsBoth ([(CMD.STAT_SVC, 2), (CMD.STAT_WARDEN, 1), (DLV.LINK_MODE, 2)] ++ l)
  { s with pwr := { s.pwr with st := .up } }

/-- Step: a waiting command runs on the queue's rest; an empty queue idles. -/
theorem test_step :
    goesOn (step { State.reset with pending := [.epClrUnc 2, .epClrUnc 3] }) (fun t => t.pending == [.epClrUnc 3]) = true ∧
    goesOn (step State.reset) (fun t => t == State.reset) = true := by decide +kernel

/-- The clauses of `RegisterWritesFollowTheirFieldTypes` can be met: RW, W1C, RO fields; a pair; a sealed register. -/
theorem witness_writes :
    (up []).barReach 0x41200 = true ∧ writeHook 0x7C = false ∧ writeHook 0x42118 = false ∧ writeHook 0x4211C = false ∧
    (∃ f ∈ fieldsAt 0x42100, f.ty = .rw ∧ f.staged = true) ∧ (∀ f ∈ fieldsAt 0x42100, f.half = .none) ∧ writeHook 0x42100 = false ∧
    fieldsAt 0x42118 = [AX.PRESET_LO_PRESET 1] ∧ fieldsAt 0x4211C = [AX.PRESET_HI_PRESET 1] ∧
    (AX.PRESET_LO_PRESET 1).half = .lo ∧ (AX.PRESET_HI_PRESET 1).half = .hi ∧ (up []).ignores (AX.PRESET_LO_PRESET 1) = false := by decide +kernel

/-- R4, R7, R10: three byte enables do nothing; a staged write while an epoch is armed is discarded; a pair takes effect together. -/
theorem test_writes :
    goesOn (exec (.registerWrite 0x42100 5 7 9) (up [])) (fun t => t == up []) = true ∧
    goesOn (exec (.registerWrite 0x42100 0x111 15 9) (up [])) (fun t => t.rd (AX.CFG_COMB 1) == 1 && only (fieldsAt 0x42100) (up []) t) = true ∧
    goesOn (exec (.registerWrite 0x42100 0x111 15 9) { up [] with epoch := { armed := some {} } }) (fun t =>
      t.rd (AX.CFG_COMB 1) == 0 && t.rd CMD.STAT_SEALED_WR == 1) = true ∧
    goesOn (exec (.registerWrite 0x4211C 0xAB 15 9) (up [])) (fun t => t.rd (AX.PRESET_HI_PRESET 1) == 0 &&
      goesOn (exec (.registerWrite 0x42118 0xCD 15 9) t) (fun u => u.rd (AX.PRESET_HI_PRESET 1) == 0xAB &&
        u.rd (AX.PRESET_LO_PRESET 1) == 0xCD && u.hiHold == [])) = true ∧
    goesOn (exec (.registerWrite 0x41228 0x10000 15 9) (up [(EP.STAT_OPEN_STKY 2, 3)])) (fun t =>
      keeps (fieldsAt 0x41228) (up [(EP.STAT_OPEN_STKY 2, 3)]) t) = true := by decide +kernel

/-- R8: a W1C bit that the device sets at the instant of the write stays set; a later write clears it. -/
theorem test_write_w1c : let s := (up []).set1 SYS.PWR_STAT_VIN_OVER_STKY; let o := BitVec.ofNat 26 SYS.PWR_STAT_VIN_OVER_STKY.off
    goesOn (exec (.registerWrite o 0xFFFFFFFF 15 0) s) (fun t => t.rd SYS.PWR_STAT_VIN_OVER_STKY == 1) = true ∧
    goesOn (exec (.registerWrite o 0xFFFFFFFF 15 1) s) (fun t => t.rd SYS.PWR_STAT_VIN_OVER_STKY == 0) = true := by decide +kernel

/-- R10: a low half written alone leaves the high half. -/
theorem test_write_low :
    goesOn (exec (.registerWrite 0x42118 0xCD 15 9) (up [(AX.PRESET_HI_PRESET 1, 4)])) (fun t => t.rd (AX.PRESET_HI_PRESET 1) == 4 &&
      t.rd (AX.PRESET_LO_PRESET 1) == 0xCD && t.hiHold == []) = true := by decide +kernel

/-- R6, R9: a low half latches the high half; what is not mapped reads 0. -/
theorem test_reads :
    isHalf .lo 0x42118 = true ∧ isHalf .hi 0x4211C = true ∧ fieldsAt 0x30000 = [] ∧
    goesOn (exec (.loReadLatch ⟨0x42118, 4⟩ 9) (up [(AX.PRESET_LO_PRESET 1, 5), (AX.PRESET_HI_PRESET 1, 7)])) (fun t => t.busRead == 5 &&
      goesOn (exec (.loReadLatch ⟨0x4211C, 4⟩ 9) (t.wr (AX.PRESET_HI_PRESET 1) 8)) (fun u => u.busRead == 7 &&
        goesOn (exec (.loReadLatch ⟨0x4211C, 4⟩ 9) u) (fun v => v.busRead == 8))) = true ∧
    (up []).barReach 0x42118 = true ∧ (up []).barReach 0x4211C = true ∧
    goesOn (exec (.loReadLatch ⟨0x30000, 4⟩ 9) (up [])) (fun t => t.busRead == 0) = true := by decide +kernel

/-- R4, R9, R314: a narrow request answers its bytes, a request over two halves 64 bits, one for the peek FIFO pops. -/
theorem test_read_requests :
    isHalf .lo DLV.EVPK_DATA_DATA.off = false ∧ isHalf .hi DLV.EVPK_DATA_DATA.off = false ∧ 
    goesOn (exec (.loReadLatch ⟨0x4211A, 1⟩ 9) (up [(AX.PRESET_LO_PRESET 1, 0xAABBCC)])) (fun t => t.busRead == 0xAA) = true ∧
    goesOn (exec (.loReadLatch ⟨0x4211E, 2⟩ 9) (up [(AX.PRESET_HI_PRESET 1, 0xAABBCC)])) (fun t => t.busRead == 0xAA) = true ∧
    isHalf .lo CMD.EPOCH_TIME_LO_TIME.off = true ∧ isHalf .lo (CMD.EPOCH_TIME_LO_TIME.off + 4) = false ∧ isHalf .hi (CMD.EPOCH_TIME_LO_TIME.off + 4) = true ∧
    CMD.EPOCH_TIME_LO_TIME.off % 4 = 0 ∧ (up []).barReach (CMD.EPOCH_TIME_LO_TIME.off + 4) = true ∧
    goesOn (exec (.loReadLatch ⟨(BitVec.ofNat 26 CMD.EPOCH_TIME_LO_TIME.off), 8⟩ 9) (up [(CMD.EPOCH_TIME_LO_TIME, 5), (CMD.EPOCH_TIME_HI_TIME, 7)]))
      (fun t => t.busRead == 5 + 2 ^ 32 * 7) = true ∧
    goesOn (exec (.loReadLatch ⟨(BitVec.ofNat 26 DLV.EVPK_DATA_DATA.off), 4⟩ 9) { up [] with events := { peek := [[5, 6]] } }) (fun t =>
      t.busRead == 5 && t.events.peek == [[6]]) = true := by decide +kernel

/-- An event record waits and the ring, whose base is 0x1000, is enabled. -/
def evr (head : Nat) : State :=
  let s := up [(DLV.EVR_CFG_EN, 1), (DLV.EVR_BASE_LO_BASE, 0x1000), (DLV.EVR_HEAD_HEAD, head)]
  { s with events := { s.events with out := [{ code := 0x0401, idx := 2, count := 3, time := 77, vals := [9] }] } }

/-- R315, R316: the record is written at TAIL, or lost where the ring is full. -/
theorem test_event_ring : (evr 0).coalN 64 = 1 ∧ (evr 0).lowHeld 32 = false ∧ (evr 0).events.lost = 0 ∧ (up []).cmd.outbox = [] ∧ (up []).lowHeld 32 = false ∧ ((evr 0).msixWord (4 * (evr 0).coalVec 64 + 3)).testBit 0 = true ∧ (evr 0).hostUp = true ∧
    goesOn (exec (.eventRecord 9) (evr 0)) (fun t => t.hostBytes 0x1000 8 == [1, 4, 0, 0, 2, 0, 3, 0] && t.hostBytes 0x1008 12 == [77, 0, 0, 0, 0, 0, 0, 0, 9, 0, 0, 0] &&
      t.rd DLV.EVR_TAIL_TAIL == 1 && t.hostLE 0x101F 1 == 1 && keeps [DLV.EVR_TAIL_TAIL] (evr 0) t) = true ∧
    goesOn (exec (.eventRecord 9) (evr 1)) (fun t => t.events.lost == 1 && t.mems == (evr 1).mems && t.rd DLV.EVR_LOST_LOST == 1) = true ∧
    goesOn (exec .eventPeekPop { State.reset with events := { peek := [[5, 6]] } }) (fun t => t.busRead == 5 && t.events.peek == [[6]] &&
      goesOn (exec .eventPeekPop { t with events := { t.events with peek := [] } }) (fun u => u.busRead == 5 && u.rd DLV.EVPK_STAT_UNDERRUN == 1)) = true ∧
    goesOn (exec .eventRingEnable (up [(DLV.EVR_TAIL_TAIL, 9)])) (fun t => t.rd DLV.EVR_TAIL_TAIL == 0 && t.events.phase == 1) = true := by
  decide +kernel

/-- R317, R368, R371, R374: the remaining ring clauses can be met and hold there. -/
theorem test_rings :
    (let s := { up [(DQ.CFG_COALN 3, 4), (DQ.CFG_VEC 3, 2)] with coal := [(3, { n := 1, at_ := some 0 })], msix := [(8, 0x2000), (10, 0x55), (11, 0)] }
     s.coalN 3 ≠ 0 ∧ s.coalT 3 ≤ 10 ^ 9 ∧ (s.msixWord (4 * s.coalVec 3 + 3)).testBit 0 = false ∧
      goesOn (exec (.coalesceTimeout 3 (10 ^ 9)) s) (fun t => t.hostLE 0x2000 4 == 0x55 && AMap.get {} t.coal 3 == {}) = true ∧
      goesOn (exec (.coalesceTimeout 3 (10 ^ 9)) { s with msix := [] }) (fun t => t.msixPend == 4 && t.mems == s.mems) = true) ∧
    goesOn (exec (.cmdDoorbell 64 9) (up [(CMD.CFG_EN, 1), (CMD.SQ_TAIL_TAIL, 1)])) (fun t => t.rd CMD.STAT_RINGERR == 1 && t.rd CMD.SQ_TAIL_TAIL == 1) = true ∧
    goesOn (exec (.cmdDoorbell 3 9) (up [(CMD.CQ_BASE_LO_BASE, 0x1000)])) (fun t => t.rd CMD.SQ_TAIL_TAIL == 3) = true ∧
    (let t := (up [(CMD.CQ_BASE_LO_BASE, 0x1000)]).cmdReply { op := 0x0101, cid := 7, idx := 2 } (.ok [1, 2, 3, 4])
     t.hostBytes 0x1000 12 = [1, 1, 7, 0, 0, 0, 0, 0, 1, 0, 0, 0] ∧ t.hostLE 0x1018 2 = 2 ∧ t.hostLE 0x101F 1 = 1 ∧ t.rd CMD.CQ_TAIL_TAIL = 1) ∧
    (let c : CmdPkt := { op := 0x0109, cid := 7, idx := 0xFFFF }
     let s := { up [(CMD.STAT_SMB_BUSY, 1)] with cmd := { running := [c] } }
     c.start + c.limit ≤ 10 ^ 11 ∧ goesOn (exec (.commandTimeout (10 ^ 11)) s) (fun t => t.cmd.smbReply == some ((Reply.err 0x0704 0).bytes c 0) &&
       t.rd CMD.STAT_SMB_BUSY == 0 && t.cmd.running == []) = true) := by decide +kernel

/-- Queue 3 is enabled with rings at 0x10000 (descriptors) and 0x20000 (completions), and 3 descriptors are posted. -/
def dlvS (x : DQueue) : State :=
  (up [(DQ.CFG_EN 3, 1), (DQ.DRING_LO_BASE 3, 0x10000), (DQ.CRING_LO_BASE 3, 0x20000), (DQ.STAT_STATE 3, 1), (DQ.MAXB 3, 4096),
    (DLV.ADM_BPA, 1), (DLV.LINK_ASYM_EN, 1), (DLV.ADM2_ITMO, 1)]).setDq 3 { x with posted := 3 }

/-- The host has written the first descriptor of queue 3: address 0x30000 + `o`, 4096 bytes. -/
def dlvD (o : Nat) : State := (dlvS {}).hostWrite 0x10000 (leBytes 8 (0x30000 + o) ++ leBytes 4 4096)

/-- R290: doorbell and descriptor fetch. -/
theorem test_descriptors :
    goesOn (exec (.queueDoorbell 3 9 5) (dlvS {})) (fun t => t.rd (DQ.TAIL 3) == 9 && (t.dq 3).posted == 9 && keeps [DQ.TAIL 3] (dlvS {}) t) = true ∧
    goesOn (exec (.queueDoorbell 3 3 5) (dlvS {})) (fun t => (t.dq 3).posted == 3) = true ∧
    (dlvS {}).dqSize 3 = 64 ∧
    goesOn (exec (.queueDoorbell 3 2 5) ((dlvS {}).setDq 3 { posted := 3 + 62 })) (fun t =>
      { t with now := 0, events := {} } == { (dlvS {}).setDq 3 { posted := 3 + 62 } with events := {} }) = true ∧
    (dlvD 0).hostLE 0x10000 8 = 0x30000 ∧ (dlvD 0).descMin 3 = 4096 ∧
    goesOn (exec (.descriptorFetch 3 5) (dlvD 0)) (fun t => (t.dq 3).credits == [(0, 0x30000, 4096)] && (t.dq 3).fetched == 1 &&
      t.mems == (dlvD 0).mems && keeps (dqRegs 3 ++ wmRegs) (dlvD 0) t) = true ∧ (dlvD 8).CompletesAt 3 0x20000 ∧
    goesOn (exec (.descriptorFetch 3 5) (dlvD 8)) (fun t => (t.dq 3).done == 1 && (t.dq 3).fetched == 1 && t.hostLE 0x20004 2 == 3 &&
      (t.dq 3).credits == [] && keeps (dqRegs 3 ++ wmRegs) (dlvD 8) t) = true := by decide +kernel

/-- An item of stream 3 lies in flue 0 of SRAM bank 0: line header of frame 7, then 3 bytes; its frame is admitted. -/
def dlvI (line : Nat) : State :=
  let g : Graph := { flues := [{ loc := 0, slots := 2, bytes := 128, base := 0x100, cons := [4 * 4096 + 3] }] }
  let f : Flue := { items := [{ len := 19, wr := 19, closed := true, vis := some 0, left := [(0, 255)] }], claimed := 1, shown := 1 }
  let s := (dlvS { items := [{ tag := { num := 7 }, maxb := 4096, desc := 0, buf := 0x30000 }] }).setGraph { active := some g, flues := [(0, f)] }
  s.memWrite (.sram 0) 0x108 (leBytes 4 7 ++ leBytes 2 line ++ [0, 0] ++ [1, 2, 3, 4, 5, 6, 7, 8, 9, 10, 11])

/-- R292, R301: an item read extends the payload of its frame; the frame record closes it. -/
theorem test_delivery_item :
    (((dlvI 2).endpointCatch (4 * 4096 + 3) 5).endpointNext (4 * 4096 + 3)).isSome = true ∧ ((dlvI 2).endpointCatch (4 * 4096 + 3) 5).clean ∧
    ((dlvI 2).endpointCatch (4 * 4096 + 3) 5).dlvFill + 19 + 16 ≤ 524288 ∧
    goesOn (exec (.deliveryItem 3 5) (dlvI 2)) (fun t => (t.dq 3).items.map (fun i => (i.pay.take 12, i.pay.length, i.count, i.rcd)) ==
      [([19, 0, 0, 0, 0, 0, 0, 0, 7, 0, 0, 0], 32, 1, none)] && t.mems == (dlvI 2).mems) = true ∧
    goesOn (exec (.deliveryItem 3 5) (dlvI 0xFFFF)) (fun t => (t.dq 3).items.map (fun i => i.rcd) ==
      [some [1, 2, 3, 4, 5, 6, 7, 8, 9, 10, 11]]) = true := by decide +kernel

/-- An item of 40 bytes with its record, `sent` of them written. -/
def dlvW (sent : Nat) (rcd : Bool) : State :=
  dlvS { fetched := 1, items := [{ tag := { num := 7 }, maxb := 4096, buf := 0x30000, pay := List.replicate 39 3 ++ [9], sent := sent,
                                   rcd := if rcd then some [] else none }] }

/-- R291, R293, R305, R306: chunk, tag and completion record; an INCOMPLETE item. -/
theorem test_delivery_writes :
    ((dlvW 0 true).dlvNext.map (·.1)) = some 3 ∧ (dlvW 0 true).cmd.outbox = [] ∧ (dlvW 40 false).is (DQ.STAT_FLUSHING 3) = false ∧
    (dlvW 40 true).lowHeld 144 = false ∧
    goesOn (exec (.chunkWrite 5) (dlvW 0 true)) (fun t => t.hostBytes 0x300A6 2 == [3, 9] && (t.dq 3).items.map (·.sent) == [40] &&
      keeps wmRegs (dlvW 0 true) t) = true ∧
    (dlvW 40 true).CompletesAt 3 0x20000 ∧
    goesOn (exec (.itemComplete 3 5) (dlvW 40 true)) (fun t => (t.dq 3).done == 1 && (t.dq 3).items == [] && t.hostLE 0x20000 4 == 168 &&
      t.hostLE 0x20004 2 == 0 && t.hostLE 0x30000 2 == 1 && t.hostLE 0x30008 4 == 7 && t.hostLE 0x30060 4 == 40 &&
      t.rd (DQ.BYTES_LO_BYTES 3) == 168 && t.hostBytes 0x20010 16 == (dlvW 40 true).hostBytes 0x20010 16) = true ∧
    goesOn (exec (.itemTimeout 3 1000000) (dlvW 40 false)) (fun t => (t.dq 3).done == 1) = true := by
  decide +kernel

/-- R285, R309 to R311: a flush, a stall, the link's modes. -/
theorem test_flush_stall :
    (dlvS {}).rcd.read = none ∧ goesOn (exec (.queueFlush 3 5) (dlvS {})) (fun t => t.rd (DQ.STAT_FLUSHING 3) == 1 && only [DQ.STAT_FLUSHING 3] (dlvS {}) t) = true ∧
    (let s := (dlvS { credits := [(0, 64, 4096)], fetched := 1 }).wr (DQ.STAT_FLUSHING 3) 1
     s.CompletesAt 3 0x20000 ∧ goesOn (exec (.flushDone 3 5) s) (fun t => t.rd (DQ.STAT_FLUSHING 3) == 0 && (t.dq 3).credits == [] &&
      (t.dq 3).done == 1 && t.hostLE 0x20004 2 == 1 && keeps (DQ.STAT_FLUSHING 3 :: (dqRegs 3 ++ wmRegs)) s t) = true) ∧
    goesOn (exec (.linkStall 1000 5) (dlvS {})) (fun t => t.dlv.stall == 1000 && t.rd DLV.STALL_MAX == 1000 &&
      only [DLV.STALL_MAX] (dlvS {}) { t with dlv := (dlvS {}).dlv }) = true ∧
    goesOn (exec (.linkStall 1001 5) (dlvS {})) (fun t => t.dlv.stall == 1001 && t.rd (DQ.STAT_STATE 3) == 3) = true ∧
    goesOn (exec (.hostLink 0 5) (dlvW 0 true)) (fun t => t.rd DLV.LINK_MODE == 0 && t.rd DLV.ADM_STAT_LINKDOWN == 1 && (t.dq 3).items == [] &&
      t.mems == (dlvW 0 true).mems && t.rd (DQ.STAT_STATE 3) == 3) = true ∧
    goesOn (exec (.hostLink 4 5) (dlvW 0 true)) (fun t => t.rd DLV.LINK_MODE == 4 && t.rd DLV.LINK_LHOST == 9000 && t.mems == (dlvW 0 true).mems) = true := by
  decide +kernel

/-- A command packet sent over SMBus. -/
def pk (w : List Nat) : Cmd := { pkt w with idx := 0xFFFF }

/-- Argument words of a 64-bit value. -/
def w64 (v : Nat) : List Nat := [v % 2 ^ 32, v / 2 ^ 32]

/-- A command replies `r` in a state with the property. -/
def rep (o : Host.Outcome State Fault Refusal) (c : CmdPkt) (r : Reply) (p : State → Bool) : Bool :=
  goesOn o fun t => t.cmd.smbReply == some (r.bytes c 0) && p t

/-- A command only replies `r`. -/
def repOnly (o : Host.Outcome State Fault Refusal) (s : State) (τ : Nat) (c : CmdPkt) (r : Reply) : Bool :=
  goesOn o fun t => t == (s.at τ).cmdReply c r

/-- The registers that a reply over SMBus sets. -/
def smb : List Fld := [CMD.STAT_SMB_BUSY]

/-- R377, R378, R382: identity, arming, cancelling and reporting an epoch; refusals while one is armed. -/
theorem test_epoch_commands :
    (let s := up [(SYS.MODID_ID, 9)]
     repOnly (exec (.sysIdent (pk []) 5) s) s 5 (cmdPkt (pk []) 0x0101 5) (.ok [s.rd SYS.ID, (256 * s.rd SYS.STEPPING_LETTER + s.rd SYS.STEPPING_DIGIT) * 65536 + 9, 0, 0])) = true ∧
    (let p := pk ([3] ++ w64 9000000)
     let s := up []
     s.Takes (cmdPkt p 0x0102 5) [0, 1, 2, 3, 4] ∧ (s.at 5).epochCheck = none ∧ rep (exec (.epochCommit p 5) s) (cmdPkt p 0x0102 5) (.ok [1]) (fun t =>
      t.rd CMD.STAT_ARMED == 1 && t.rd CMD.EPOCH_ARM_ARM == 1 && (t.epoch.armed.map (·.number)) == some 1 && t.epoch.count == 1 &&
      keeps (smb ++ [CMD.STAT_ARMED, CMD.EPOCH_ARM_ARM]) s t) = true ∧
      goesOn (exec (.epochCommit p 5) s) (fun t => rep (exec (.epochCancel (pk []) 6) t) (cmdPkt (pk []) 0x0103 6) (.ok [1]) (fun u =>
        u.epoch.armed == none && u.rd CMD.STAT_ARMED == 0 && u.rd CMD.EPOCH_ARM_ARM == 0) &&
        repOnly (exec (.epochStatus (pk []) 6) t) t 6 (cmdPkt (pk []) 0x0104 6) (.ok [1, 0, 0, 0]) &&
        repOnly (exec (.settingsLoad (pk []) false 6) t) t 6 (cmdPkt (pk []) 0x0301 6) (.err 0x0303 1) &&
        repOnly (exec (.timeRearm (pk []) 6) t) t 6 (cmdPkt (pk []) 0x0801 6) (.err 0x0303 1) &&
        repOnly (exec (.fenceCluster (pk []) 6) t) t 6 (cmdPkt (pk []) 0x0A02 6) (.err 0x0303 1)) = true) ∧
    (let p := pk ([3] ++ w64 9000000)
     let c := cmdPkt p 0x0102 5
     let s := ((up []).wr (IN.CFG_EN 0) 1).wr (IN.RATE 0) 2400001
     let u := (up []).setDq 3 { next := some (.opened {}) }
     (s.at 5).epochCheck = some (0x11, 1, 0) ∧ repOnly (exec (.epochCommit p 5) s) s 5 c { status := 0x0501, detail := 0x1101, res := [0] } = true ∧
     (u.at 5).epochCheck = some (2, 1, 3) ∧ rep (exec (.epochCommit p 5) u) c { status := 0x0501, detail := 513, res := [3] } (fun t =>
       keeps (smb ++ [DQ.DMIN 3]) u t && t.epoch == u.epoch) = true) ∧
    repOnly (exec (.epochCancel (pk []) 5) (up [])) (up []) 5 (cmdPkt (pk []) 0x0103 5) { status := 0x0304, detail := 0, res := [0] } = true := by
  decide +kernel

/-- R383, R502, R503, R470: discard, resets and power states by command. -/
theorem test_reset_commands :
    (let s := (up []).wr (AX.CFG_COMB 1) 1
     rep (exec (.stageDiscard (pk []) 5) s) (cmdPkt (pk []) 0x0105 5) (.ok []) (fun t => t.rd (AX.CFG_COMB 1) == 0 && t.mems == s.mems)) = true ∧
    goesOn (exec (.sysResetWarm (pk [1]) 5) { (up [(TIM.STAT_STATE, 1)]) with pending := [.epClrUnc 2] }) (fun t =>
      t.pwr.st == .startup && t.pwr.done == 3 && t.rd SYS.BOOT_KIND == 1 && t.rd SYS.BOOT_STAGE == 4 && t.cmd == {} && t.pending == [.epClrUnc 2]) = true ∧
    goesOn (exec (.sysResetFull (pk [2]) 5) (up [])) (fun t =>
      t.pwr.st == .startup && t.pwr.done == 0 && t.pwr.t0 == 1000005 && t.rd SYS.BOOT_KIND == 2 && t.cmd == {}) = true ∧
    repOnly (exec (.sysPowerRun (pk [0]) 5) (up [])) (up []) 5 (cmdPkt (pk [0]) 0x0107 5) (.ok []) = true ∧
    rep (exec (.sysPowerSmoulder (pk [2]) 5) (up [])) (cmdPkt (pk [2]) 0x0107 5) (.ok []) (fun t => t.pwr == { (up []).pwr with ask := true }) = true ∧
    (let s := { up [] with epoch := { armed := some {} } }
     repOnly (exec (.sysPowerSmoulder (pk [2]) 5) s) s 5 (cmdPkt (pk [2]) 0x0107 5) (.err 0x0301 3)) = true := by decide +kernel

/-- Record `r` of the store holds the bytes `d` at generation `g` in all copies, and programs are permitted. -/
def storeS (r g : Nat) (d : List Nat) : State :=
  { up [(THM.STAT_NAND_OK, 1)] with firm := { copies := [(r, List.replicate 3 (some { gen := g, data := d }))] } }

/-- R391, R392: store read, write and status. -/
theorem test_store_commands :
    (let p := pk ([0x10] ++ w64 0x5000 ++ [2])
     rep (exec (.storeRead p [] 5) (storeS 0x10 4 [8, 9, 10])) (cmdPkt p 0x0108 5) (.ok [4, 3, 0]) (fun t =>
      t.hostBytes 0x5000 4 == [8, 9, 0, 0] && t.firm == (storeS 0x10 4 [8, 9, 10]).firm && keeps smb (storeS 0x10 4 [8, 9, 10]) t)) = true ∧
    (let p := pk ([7] ++ w64 0x5000 ++ [2])
     repOnly (exec (.storeRead p [] 5) (up [])) (up []) 5 (cmdPkt p 0x0108 5) (.err 0x0201 0)) = true ∧
    (let p := pk ([0x10] ++ w64 0x5000 ++ [2])
     let s := (storeS 0x10 4 [1]).hostWrite 0x5000 [8, 9]
     (s.at 5).storeFree = true ∧ rep (exec (.storeWrite p false 5) s) (cmdPkt p 0x0109 5) (.ok [5]) (fun t =>
      t.firm.copiesOf 0x10 == List.replicate 3 (some { gen := 5, data := [8, 9] }) &&
      { t with now := s.now, firm := s.firm, cmd := s.cmd, regs := s.regs } == s) = true ∧
     repOnly (exec (.storeWrite p true 5) s) s 5 (cmdPkt p 0x0109 5) (.err 0x0603 0) = true ∧
     goesOn (exec (.storeWrite p false 5) (up [])) (fun t => t.cmd.running == [cmdPkt p 0x0109 5]) = true) ∧
    (let p := pk [0x10]
     rep (exec (.storeStatus p 5) (storeS 0x10 4 [1])) (cmdPkt p 0x010A 5) (.ok [7, 4, 4, 4]) (fun t => keeps smb (up [(THM.STAT_NAND_OK, 1)]) t)) = true := by
  decide +kernel

/-- R23, R394: link summary, a link restart. -/
theorem test_link_commands :
    (let s := up [(LNK.STAT_STATE 2, 4), (LNK.STAT_LOST_STKY 3, 1)]
     repOnly (exec (.linkSummary (pk []) 5) s) s 5 (cmdPkt (pk []) 0x0201 5) (.ok [4, 0, 0, 8])) = true ∧
    (let s := up [(LNK.CFG_EN 2, 1), (LNK.STAT_STATE 2, 4), (LNK.STAT_RATE_ACT 2, 3)]
     rep (exec (.linkRestart (pk [2]) 5) s) (cmdPkt (pk [2]) 0x0202 5) (.ok []) (fun u =>
       u.rd (LNK.STAT_BC_UP 2) == 1 && u.rd (LNK.STAT_PWR_ACT 2) == 3 && u.rd (LNK.STAT_RATE_ACT 2) == 0 && u.rd (LNK.STAT_STATE 2) == 0 &&
       (u.link 2).idOk == none && u.link 3 == s.link 3)) = true ∧
    repOnly (exec (.linkRestart (pk [24]) 5) (up [])) (up []) 5 (cmdPkt (pk [24]) 0x0202 5) (.err 0x0201 0) = true := by decide +kernel

/-- R72, R82, R23: settings sets, ledger entries and GDDR7 copies. -/
theorem test_copy_commands :
    (let s := (up []).hostWrite 0x5000 ((List.range 128).map (· + 1))
     let p := pk ([63] ++ w64 0x5000)
     rep (exec (.settingsLoad p false 5) s) (cmdPkt p 0x0301 5) (.staged_ []) (fun t =>
       AMap.get [] t.setsStaged 63 == (List.range 128).map (· + 1) && { t with now := s.now, setsStaged := s.setsStaged, cmd := s.cmd, regs := s.regs } == s) = true ∧
     repOnly (exec (.settingsLoad p true 5) s) s 5 (cmdPkt p 0x0301 5) (.err 0x0603 0) = true ∧
     (let q := pk ([64] ++ w64 0x5000)
      repOnly (exec (.settingsLoad q false 5) s) s 5 (cmdPkt q 0x0301 5) (.err 0x0201 0) = true)) ∧
    (let s := (up []).hostWrite 0x5000 ((List.range 64).map (· + 1))
     let p := pk ([2 * 65536 + 4094] ++ w64 0x5000)
     rep (exec (.ledgerBulk p false 5) s) (cmdPkt p 0x0302 5) (.staged_ []) (fun t =>
       t.stagedEnt 4094 == entOf (s.hostBytes 0x5000 32) && t.stagedEnt 4095 == entOf (s.hostBytes 0x5020 32) && t.stagedEnt 4093 == s.stagedEnt 4093 &&
       t.ledger.active == s.ledger.active && { t with now := s.now, ledger := s.ledger, cmd := s.cmd, regs := s.regs } == s) = true ∧
     rep (exec (.ledgerRead p 5) s) (cmdPkt p 0x0303 5) (.ok []) (fun t =>
       t.hostBytes 0x5020 32 == (s.ent 4095).current.bytes && t.hostBytes 0x5040 1 == [0]) = true) ∧
    (let s := (up [(MEM.TOP_LO_TOP, 0x10000), (MEM.TOP_HI_TOP, 0), (MEM.STAT_BAND, 1)]).hostWrite 0x5000 ((List.range 64).map (· + 1))
     let p := pk (w64 0x40 ++ w64 0x5000 ++ [64])
     s.memTop ≥ 128 ∧ s.clean ∧
     rep (exec (.gddrWrite p none 5) s) (cmdPkt p 0x0401 5) (.ok []) (fun t =>
       t.memBytes .gddr 0x40 64 == (List.range 64).map (· + 1) && t.memBytes .gddr 0 64 == List.replicate 64 0 && keeps smb s t &&
       rep (exec (.gddrRead (pk (w64 0x40 ++ w64 0x6000 ++ [64])) 6) t) (cmdPkt (pk (w64 0x40 ++ w64 0x6000 ++ [64])) 0x0402 6) (.ok []) (fun u =>
         u.hostBytes 0x6000 64 == (List.range 64).map (· + 1) && u.mems.gddr == t.mems.gddr && keeps smb t u)) = true ∧
     (let s := s.setGraph { active := some { addr := 0x40, total := 64 } }
      repOnly (exec (.gddrWrite p none 5) s) s 5 (cmdPkt p 0x0401 5) (.err 0x0203 0)) = true) := by decide +kernel

/-- `len` bytes with values at offsets: offset, width, value. -/
def blob (len : Nat) (l : List (Nat × Nat × Nat)) : List Nat :=
  l.foldl (fun b x => b.take x.1 ++ leBytes x.2.1 x.2.2 ++ b.drop (x.1 + x.2.1)) (List.replicate len 0)

/-- A graph of one library node and one flue from context slot 0 to stream 3, with its CRC. -/
def graphD : List Nat :=
  blob 192 [(0, 2, 1), (2, 2, 9), (4, 4, 192), (8, 2, 1), (10, 2, 1), (14, 2, 1), (16, 4, 64), (20, 4, 128), (24, 4, 192), (28, 4, 192),
    (32, 4, 192), (60, 4, 3924404693), (64, 1, 1), (66, 2, 1), (80, 4, 1), (130, 2, 2), (132, 4, 128), (144, 2, 0x1000), (146, 2, 0x4003), (154, 2, 2),
    (156, 2, 1)]

/-- A swath of 8 columns with one input and a grid of nodes, with its CRC. -/
def swathD : List Nat :=
  blob 1344 [(0, 2, 1), (2, 1, 1), (3, 1, 1), (5, 1, 1), (8, 2, 8), (10, 2, 1000), (12, 4, 1000000), (28, 2, 4), (32, 4, 1000), (40, 2, 1), (42, 2, 100),
    (56, 4, 1344), (60, 4, 2396402118), (144, 1, 2), (148, 4, 64), (152, 4, 192)]

/-- The module runs with 64 KiB of GDDR7 and `b` at 0x1000 there. -/
def gddrS (b : List Nat) : State := (up [(MEM.TOP_LO_TOP, 0x10000), (MEM.TOP_HI_TOP, 0), (MEM.STAT_FENCE, 4)]).memWrite .gddr 0x1000 b

/-- A fold that computes each value before the next. -/
def foldF (f : Nat → Nat → Nat) : Nat → List Nat → Nat
  | a, [] => a
  | a, x :: xs => if f a x = 0 then foldF f 0 xs else foldF f (f a x) xs

theorem foldF_eq (f : Nat → Nat → Nat) (l : List Nat) : ∀ a, l.foldl f a = foldF f a l := by
  induction l with
  | nil => intro a; rfl
  | cons x xs ih => intro a; by_cases h : f a x = 0 <;> simp [foldF, ih, h]

theorem crc32c_foldF (b : List Nat) : crc32c b = (revBits 32 (foldF (chkByte 32 0x1EDC6F41 true) 0xFFFFFFFF b)).xor 0xFFFFFFFF := by
  rw [crc32c, foldF_eq]

/-- R212, R238, R254: descriptors pass the checks, or fail the first. -/
theorem witness_graph : (gddrS graphD).clean ∧ ((gddrS graphD).at 5).graphChecks 0x1000 graphD = none ∧
    (gddrS [2]).graphChecks 0x1000 ((gddrS [2]).memBytes .gddr 0x1000 64) = some 1 := by
  refine ⟨by decide +kernel, ?_, by decide +kernel⟩
  unfold State.graphChecks
  simp only [crc32c_foldF]
  decide +kernel

theorem witness_swath : ((gddrS swathD).at 5).swathChecks 0x1000 swathD = none := by
  unfold State.swathChecks
  simp only [crc32c_foldF]
  decide +kernel

/-- R218, R234, R253, R254: flue status, event enables, swath controls. -/
theorem test_graph_commands :
    (let s := (up []).setGraph { active := some { flues := [{}] }, flues := [(0, { items := [{}], sticky := true, cross := 2, shown := 7 })] }
     rep (exec (.flueStatus (pk [0]) 5) s) (cmdPkt (pk [0]) 0x0502 5) (.ok [1, 514, 7]) (fun t => (t.flue 0 0).sticky == false && keeps smb s t) = true ∧
     repOnly (exec (.flueStatus (pk [1]) 5) s) s 5 (cmdPkt (pk [1]) 0x0502 5) (.err 0x0201 0) = true) ∧
    rep (exec (.graphEvten (pk [9]) 5) (up [])) (cmdPkt (pk [9]) 0x0503 5) (.ok []) (fun t => t.events.grfEn == 9) = true ∧
    (let s := (up []).setSwath 1 { cnt := [(3, 4)] }
     rep (exec (.swathClrCnt (pk [1, 6, 1]) 5) s) ((cmdPkt (pk [1, 6, 1]) 0x0505 5).withBit 0) (.ok []) (fun t => (t.swath 1).cnt == [] && (t.swath 1).evten == 6) = true ∧
     rep (exec (.swathInjFull (pk [4, 6, 1]) 5) s) ((cmdPkt (pk [4, 6, 1]) 0x0505 5).withBit 2) (.ok []) (fun t => (t.swath 1).injFull) = true ∧
     rep (exec (.swathInjOverspeed (pk [8, 6, 1]) 5) s) ((cmdPkt (pk [8, 6, 1]) 0x0505 5).withBit 3) (.ok []) (fun t => (t.swath 1).injOver) = true ∧
     rep (exec (.swathEvten (pk [0, 6, 1]) 5) s) (cmdPkt (pk [0, 6, 1]) 0x0505 5) (.ok []) (fun t => t.swath 1 == { s.swath 1 with evten := 6 }) = true ∧
     rep (exec (.swathStatus (pk ([1] ++ w64 0x5000)) 5) s) (cmdPkt (pk ([1] ++ w64 0x5000)) 0x0506 5) (.ok []) (fun t =>
       t.hostBytes 0x5000 64 == (s.swath 1).status && t.swaths == s.swaths) = true) ∧
    (let s := (up []).setSwath 1 { active := some { ch := 1, w := 8, rows := 4, gsd := 1000, umpc := 1000000, inputs := [{}] } }
     rep (exec (.swathInjGap (pk [2, 6, 1]) 5) s) ((cmdPkt (pk [2, 6, 1]) 0x0505 5).withBit 1) (.ok []) (fun t => (t.swath 1).dec == 1 &&
       (t.swath 1).backlog.map (·.k) == [0] && (t.swath 1).backlog.all (fun r => r.choice.all (· == none)) && keeps smb s t && t.swath 0 == s.swath 0) = true) := by
  decide +kernel

/-- Stream 3 of the active graph is fed by context slot 0; its queue is enabled, its contract in state `st`. -/
def strS (st : Nat) : State :=
  (up [(DQ.CFG_EN 3, 1), (DQ.DRING_LO_BASE 3, 0x10000), (DQ.CRING_LO_BASE 3, 0x20000), (DQ.STAT_STATE 3, st), (DQ.CPARM_BURST 3, 1),
    (DQ.D 3, 20000000), (DQ.RATE 3, 1000), (DQ.MAXB 3, 4096), (DLV.LINK_LHOST, 9000), (MEM.STAT_FENCE, 4)]).setGraph
    { active := some { id := 1, flues := [{ prod := 0x1000, cons := [0x4003] }] } }

/-- A contract of stream 3: RATE `r`, items of 4096 bytes, bound 10 ms. -/
def strP (r : Nat) : Cmd := pk [3 + 1 * 256 + 1 * 65536, 10000000, r, 4096]

/-- R296, R300: contracts staged and refused. -/
theorem test_stream_commands :
    (let c := (cmdPkt (strP 1000) 0 5).contract
     admFed (((strS 0).at 5).nextGraph.getD {}) ((strS 0).at 5).rd 3 = true ∧ (strS 0).streamLive 3 = false ∧ c.inRange = true ∧
     goesOn (exec (.streamOpen (strP 1000) 5) (strS 0)) (fun t => rep (.next t) (cmdPkt (strP 1000) 0x0601 5)
       (.staged_ [t.rd (DQ.DMIN 3)]) (fun t => (t.dq 3).next == some (.opened c) && keeps (smb ++ [DQ.DMIN 3]) (strS 0) t)) = true ∧
     goesOn (exec (.streamOpen (strP 20000000) 5) (strS 0)) (fun t => rep (.next t) (cmdPkt (strP 20000000) 0x0601 5)
       (.err 0x0401 3) (fun t => t.dlv == (strS 0).dlv)) = true ∧
     goesOn (exec (.streamModify (strP 1000) 5) (strS 1)) (fun t => (t.dq 3).next == some (.modified c)) = true ∧
     rep (exec (.streamResume (pk [3]) 5) (strS 3)) (cmdPkt (pk [3]) 0x0603 5) (.staged_ []) (fun t => (t.dq 3).next == some .resumed) = true ∧
     rep (exec (.streamClose (pk [3]) 5) (strS 1)) (cmdPkt (pk [3]) 0x0602 5) (.staged_ []) (fun t => (t.dq 3).next == some .closed) = true) := by
  decide +kernel

/-- R337, R339 to R341: marks, pins and readouts. -/
theorem test_recorder_commands :
    goesOn (exec (.markSet (pk [5, 7, 8]) 5) { up [] with rcd := { wpos := 640 } }) (fun t => t.rd (MK.STAT_VALID 5) == 1 &&
      t.rd (MK.STAT_OVERTAKEN 5) == 0 && t.rd (MK.POS_LO_RPOS 5) == 640) = true ∧
    goesOn (exec (.markClear (pk [5]) 5) (up [(MK.STAT_VALID 5, 1)])) (fun t => t.rd (MK.STAT_VALID 5) == 0) = true ∧
    (let s := up [(MK.STAT_VALID 5, 1), (MK.STAT_VALID 6, 1), (MK.POS_LO_RPOS 6, 3 * extBytes)]
     goesOn (exec (.pinSet (pk [1 + 5 * 256 + 6 * 65536]) 5) s) (fun t => t.pinOn 1 && t.rd (PN.FIRST_LO_ESEQ 1) == 0 && t.rd (PN.LAST_LO_ESEQ 1) == 3) = true) ∧
    goesOn (exec (.pinClear (pk [1]) 5) (up [(REC.PIN_VALID_VALID, 3)])) (fun t => t.rd REC.PIN_VALID_VALID == 1) = true ∧
    (let p := pk ([3 + 256] ++ w64 640 ++ [5, 1024, 9])
     rep (exec (.readStart p 5) (strS 0)) (cmdPkt p 0x0705 5) (.ok []) (fun t => (t.rcd.read.map fun r => (r.queue, r.pos, r.mask, r.maxb, r.rate)) == some (3, 640, 5, 1024, 9) &&
       t.rd REC.RD_STAT_STATE == 1 && t.rd REC.RD_POS_LO_RPOS == 640) = true ∧
     goesOn (exec (.readStart p 5) (strS 0)) (fun t => rep (exec (.readStop (pk []) 6) t) (cmdPkt (pk []) 0x0706 6) (.ok []) (fun u =>
       u.rcd == (strS 0).rcd && u.rd REC.RD_STAT_STATE == 0)) = true) := by decide +kernel

/-- R355, R444, R280: time and fences. -/
theorem test_fence_commands :
    rep (exec (.timeRearm (pk []) 5) (up [])) (cmdPkt (pk []) 0x0801 5) (.staged_ []) (fun t => t.time.rearm) = true ∧
    repOnly (exec (.timeStatus (pk []) 5) (up [(TIM.STAT_STATE, 1), (TIM.OFFSET_O, 3)])) (up [(TIM.STAT_STATE, 1), (TIM.OFFSET_O, 3)]) 5
      (cmdPkt (pk []) 0x0802 5) (.ok [1 + 16 * 3, 3, 0, 0]) = true ∧
    (let s := up [(MEM.STAT_FENCE, 4)]
     (s.at 5).channelCase = none ∧ rep (exec (.fenceChannel (pk [3]) 5) s) (cmdPkt (pk [3]) 0x0A01 5) (.staged_ []) (fun t =>
       t.memu == { s.memu with fenceNext := some 3 }) = true ∧
     (let u := up [(MEM.STAT_FENCE, 2)]
      repOnly (exec (.fenceChannel (pk [3]) 5) u) u 5 (cmdPkt (pk [3]) 0x0A01 5) (.err 0x0402 1) = true) ∧
     rep (exec (.fenceCluster (pk [15]) 5) s) (cmdPkt (pk [15]) 0x0A02 5) (.staged_ []) (fun t => t.diag == { s.diag with clNext := some 15 }) = true ∧
     (let u := up [(CL.STAT_FENCED 15, 1)]
      repOnly (exec (.fenceCluster (pk [15]) 5) u) u 5 (cmdPkt (pk [15]) 0x0A02 5) (.err 0x0301 1) = true)) := by decide +kernel

/-- R385 to R390: the warden's commands. -/
theorem test_warden_commands :
    (let p := pk ([1] ++ w64 0x5000 ++ [4])
     let s := storeS 0x100 4 [1]
     (s.at 5).storeFree = true ∧ s.firm.copiesOf 0x100 = List.replicate 3 (some { gen := 4, data := [1] }) ∧ (cmdPkt p 0x0B01 5).badField [0, 1, 2, 3] = none ∧
     repOnly (exec (.fwUpdate p false 5) s) s 5 (cmdPkt p 0x0B01 5) (.err 0x0801 2) = true) ∧
    (let p := pk [1, 2, 3, 4, 0]
     rep (exec (.attest p 5) (up [])) (cmdPkt p 0x0B02 5) (.ok []) (fun t => (t.diag.held.map fun b => ((b.drop 16).take 16, leAt b 0 2, leAt b 32 8)) ==
       [([1, 0, 0, 0, 2, 0, 0, 0, 3, 0, 0, 0, 4, 0, 0, 0], 1, 5)]) = true) ∧
    rep (exec (.securityLog (pk []) 5) (up [])) (cmdPkt (pk []) 0x0B06 5) (.ok []) (fun t => t.diag.held.length == 1) = true ∧
    goesOn (exec (.debugChallenge (pk []) 5) (up [])) (fun t => t.diag.nonce.isSome) = true ∧
    (let p := pk (w64 0x5000)
     repOnly (exec (.debugUnlock p false 5) (up [])) (up []) 5 (cmdPkt p 0x0B04 5) (.err 0x0803 1) = true ∧
     { up [] with diag := { nonce := some (0, 5) } }.diag.nonce = some (leAt ((up []).hostBytes 0x5000 224) 8 16, 5)) ∧
    rep (exec (.debugLock (pk []) 5) (up [(CMD.STAT_DEBUG, 3)])) (cmdPkt (pk []) 0x0B05 5) (.ok []) (fun t => t.rd CMD.STAT_DEBUG == 0) = true ∧
    (let s := (up []).wr CMD.STAT_WARDEN 3
     repOnly (exec (.attest (pk []) 5) s) s 5 (cmdPkt (pk []) 0x0B02 5) (.err 0x0A01 0) = true ∧
     repOnly (exec (.fwUpdate (pk []) false 5) s) s 5 (cmdPkt (pk []) 0x0B01 5) (.err 0x0A01 0) = true) := by decide +kernel

/-- An epoch is armed for the time 1 ms. -/
def armedS (l : List (Fld × Nat)) : State :=
  { (l.foldl (fun s x => s.wr x.1 x.2) (up [(MEM.STAT_FENCE, 4), (CMD.STAT_ARMED, 1), (CMD.EPOCH_ARM_ARM, 4)])) with
    epoch := { armed := some { number := 4, kind := 3, value := 1000000, expiry := some 5000000 }, count := 4 } }

/-- R376, R379, R380: the commit, the lapse and the expiry. -/
theorem test_epochs :
    (let s := { armedS [(AX.CFG_COMB 1, 1), (AX.CTL_REVERT_ARM 1, 1)] with setsStaged := [(2, [7])] }
     s.boundaryAt { number := 4, kind := 3, value := 1000000 } 1000000 = true ∧ s.epochLapsed 1000000 = false ∧
     (s.at 1000000).admValidOf (s.at 1000000).admAt = none ∧ s.diag.autos = [] ∧ (armedS []).epochLapsed 2000000 = true ∧
     goesOn (exec (.epochCommitSample 1000000) s) (fun t => t.epoch.armed == none && t.rd CMD.STAT_ARMED == 0 && t.rd CMD.EPOCH_ARM_ARM == 0 &&
       t.rd CMD.EPOCH_LAST_LAST == 4 && t.rd CMD.EPOCH_TIME_LO_TIME == 1000000 && t.sets == [(2, [7])] && t.cfg (AX.CFG_COMB 1) == 1 &&
       t.cfg (AX.CTL_REVERT_ARM 1) == 0) = true) ∧
    goesOn (exec (.epochLapse 2000000) (armedS [(AX.CFG_COMB 1, 1)])) (fun t => t.epoch.armed == none && t.rd CMD.STAT_ARMED == 0 &&
      t.active == (armedS []).active && keeps [CMD.STAT_ARMED, CMD.EPOCH_ARM_ARM] (armedS [(AX.CFG_COMB 1, 1)]) t) = true ∧
    goesOn (exec (.epochExpiry 5000000) (armedS [])) (fun t => t.epoch.armed == none && t.rd CMD.EPOCH_ARM_ARM == 0 &&
      keeps [CMD.STAT_ARMED, CMD.EPOCH_ARM_ARM] (armedS []) t) = true := by decide +kernel

/-- R296, R379: an epoch that would open a stream without rings fails the admission test at its commit and is dropped. -/
theorem test_epoch_refused : let s := (armedS []).setDq 3 { next := some (.opened {}) }
    (s.at 1000000).admValidOf (s.at 1000000).admAt = some (1, 3) ∧
    goesOn (exec (.epochCommitSample 1000000) s) (fun t => t.epoch.armed == none && t.rd CMD.STAT_ARMED == 0 && t.active == s.active &&
      t.graph == s.graph) = true := by decide +kernel

/-- What a tick brings: 7 rails, 7 sensors, the supplies. -/
def tickIn (vin : Nat) : TickIn :=
  { rails := List.replicate 7 1000, pin := 60000, diodes := List.replicate 6 1600, case := 1600, gddr := List.replicate 16 1600,
    vin := BitVec.ofNat 16 vin, vaux := 7, vcam := 8, vio := 9, bg := 0 }

/-- R443, R462: a wanted fence is reported each second; a tick reads the supplies. -/
theorem test_fence_tick :
    (let s := { up [(MEM.STAT_FENCE, 2)] with diag := { wanted := [{ kind := 0, idx := 1, case := 1, at_ := 0 }] } }
     goesOn (exec (.fenceWanted 1000000000) s) (fun t => t.diag == { s.diag with wanted := [{ kind := 0, idx := 1, case := 1, at_ := 1000000000 }] } &&
       { t with now := s.now, diag := s.diag, events := s.events } == s) = true ∧
     goesOn (exec (.fenceWanted 1000000000) (s.wr MEM.STAT_FENCE 4)) (fun t => t.diag.wanted == []) = true) ∧
    (let s0 := up [(SYS.VIN_MIN, 50000), (CMD.STAT_WARDEN, 0), (CMD.STAT_SVC, 0)]
     let s := { s0.setPwr { s0.pwr with tickAt := some 0 } with epoch := { armed := some { number := 4, kind := 3, value := 1000000, missed := 1 }, count := 4 } }
     s.ticks = true ∧ s.tickDue 1000000 = true ∧ s.tickDue 1000001 = false ∧ still s = true ∧ s.pwr.ask = false ∧ s.svcRunning = false ∧ s.rd CMD.CFG_EN = 0 ∧
     ((((s.at 1000000).setPwr { s.pwr with tickAt := some 1000000 }).supplies (tickIn 48000)).thermTick (tickIn 48000)).2 = false ∧
     goesOn (exec (.managementTick (tickIn 48000) 1000000) s) (fun t => t.rd SYS.VIN_NOW == 48000 && t.rd SYS.VIN_MIN == 48000 &&
       t.rd SYS.VSUP_VAUX == 7 && t.rd SYS.VSUP_VCAM == 8 && t.events.pend == [] && t.epoch.armed == none) = true) := by decide +kernel

/-- Link 2 is enabled in state `st`, its CDR locked, ACTIVE and calibrated; `x` is what its receiver holds. -/
def linkS (st : Nat) (x : Link := {}) (l : List (Fld × Nat) := []) : State :=
  (up ([(LNK.CFG_EN 2, 1), (LNK.STAT_STATE 2, st), (LNK.STAT_CDR_LOCK 2, if 2 ≤ st then 1 else 0), (LNK.STAT_BC_UP 2, 1), (LNK.STAT_PWR_ACT 2, 0),
    (LNK.STAT_LLAT_VALID 2, 1), (LNK.CFG_ECHO_EN 2, 1)] ++ l)).setLink 2 x

/-- Only link 2 differs, as `OnlyLink` says. -/
def onlyLink (s t : State) : Bool := { t with now := s.now, regs := s.regs, w1cSet := s.w1cSet, links := s.links, events := s.events } == s && t.link 3 == s.link 3

/-- A word on the line, its most significant bit first. -/
def lineW (w : Nat) : List Bool := (List.range 32).map fun i => w.testBit (31 - i)

/-- Link 2 after a word in state `st`, at the end of a cell. -/
def wordTo (st : Nat) (x : Link) (w : Nat) (p : State → Bool) : Bool :=
  goesOn (exec (.forwardCell 2 [] (lineW w) 9 5) (linkS st { x with wordPos := 33 })) p

/-- R104 to R108, R129, R132, R133. -/
theorem test_receiver :
    goesOn (exec (.signalDetect 2 5) (linkS 0)) (fun t => t.rd (LNK.STAT_STATE 2) == 1 && (t.link 2).sig && keeps [LNK.STAT_STATE 2] (linkS 0) t &&
      onlyLink (linkS 0) t) = true ∧ (linkS 0).flrOn 2 = true ∧
    goesOn (exec (.cdrLock 2 5) (linkS 1)) (fun t => t.rd (LNK.STAT_STATE 2) == 2 && t.rd (LNK.STAT_CDR_LOCK 2) == 1 && (t.link 2).alignProc == some 0 &&
      (t.link 2).eq == (linkS 1).eqPreset 2 && keeps (alignRegs 2) (linkS 1) t && onlyLink (linkS 1) t) = true ∧
    goesOn (exec (.signalLost 2 true 5) (linkS 3)) (fun t => t.rd (LNK.STAT_CDR_LOCK 2) == 0 && t.rd (LNK.STAT_STATE 2) == 1 && (t.link 2).sig &&
      keeps (alignRegs 2) (linkS 3) t && onlyLink (linkS 3) t) = true ∧
    wordTo 2 {} 0x3A5C96E1 (fun t => t.rd (LNK.STAT_STATE 2) == 3 && (t.link 2).cand == 1 && keeps (alignRegs 2) (linkS 2) t && onlyLink (linkS 2) t) = true ∧
    wordTo 2 {} 0x55555555 (fun t => t.rd (LNK.STAT_STATE 2) == 2 && keeps (alignRegs 2) (linkS 2) t && onlyLink (linkS 2) t) = true ∧
    wordTo 3 { cand := 2 } 0x3A5C96E1 (fun t => t.rd (LNK.STAT_STATE 2) == 3 && (t.link 2).cand == 3 && keeps (alignRegs 2) (linkS 3) t) = true ∧
    wordTo 3 { cand := 3 } 0x3A5C96E1 (fun t => t.rd (LNK.STAT_STATE 2) == 4 && t.rd (LNK.STAT_LLAT_VALID 2) == 0 && (t.link 2).burst.isSome) = true ∧
    wordTo 3 { cand := 3 } 0x55555555 (fun t => t.rd (LNK.STAT_STATE 2) == 2 && (t.link 2).cand == 0 && keeps (alignRegs 2) (linkS 3) t) = true ∧
    wordTo 3 { cand := 3, fromLost := true } 0x55555555 (fun t => t.rd (LNK.STAT_STATE 2) == 5 && (t.link 2).cand == 0 && keeps (alignRegs 2) (linkS 3) t) = true ∧
    (let l : Link := { misses := 3, wordPos := 33 }
     let r := l.rxBits ((linkS 4).bitTime 2) 9 (lineW 0x3A5C96E2)
     (r.2.map (·.w)) = [0x3A5C96E2] ∧ bitDiff 32 0x3A5C96E2 0x3A5C96E1 = 2 ∧
      wordTo 4 { misses := 3 } 0x3A5C96E2 (fun t => t.link 2 == { r.1 with wordPos := 1, cell := [], cellAt := 9, misses := 0 } && t.regs == (linkS 4).regs) = true) ∧
    goesOn (exec (.forwardCell 2 [] (lineW 5) 9 5) (linkS 3 { cand := 2, wordPos := 4 })) (fun t => (t.link 2).cand == 2 && (t.link 2).wordPos == 4) = true ∧
    goesOn (exec (.forwardCell 2 [] (lineW 0x55555555) 9 5) (linkS 3 { cand := 2, wordPos := 4 })) (fun t => (t.link 2).cand == 2 && (t.link 2).wordPos == 5) = true ∧
    goesOn (exec (.loopPatternCheck 2 [] (lineW 0x3A5C96E1) 9 5) ((linkS 2 { loop := 1 }).wrBoth (LNK.LOOP_CFG_PAT 2) 2)) (fun t => t.rd (LNK.STAT_STATE 2) == 3) = true ∧
    wordTo 4 { misses := 3 } 0x55555555 (fun t => (t.link 2).misses == 4 && (t.link 2).cellBad && t.rd (LNK.CNT0_SYNC_MISS 2) == 1 && keeps [LNK.CNT0_SYNC_MISS 2] (linkS 4) t &&
      onlyLink (linkS 4) t) = true ∧
    wordTo 4 { misses := 7 } 0x55555555 (fun t => t.rd (LNK.STAT_STATE 2) == 5 && t.rd (LNK.STAT_LOST_STKY 2) == 1) = true := by decide +kernel

/-- The hit window, the boundary, the procedure, fallback and equaliser. -/
theorem test_alignment :
    goesOn (exec (.hitWindowDone 2 5) (linkS 2 { winWords := 66 })) (fun t => t.rd (LNK.ALIGN_DONE 2) == 1 && only [LNK.ALIGN_DONE 2] (linkS 2 { winWords := 66 }) t) = true ∧
    goesOn (exec (.bitslip 2 5) (linkS 2 { winWords := 4 } [(LNK.ALIGN_SLIP 2, 31)])) (fun t => t.rd (LNK.ALIGN_SLIP 2) == 0 && (t.link 2).winWords == 0 && (t.link 2).slipBits == 1 &&
      keeps (alignRegs 2) (linkS 2) t) = true ∧
    goesOn (exec (.alignProcedure 2 5) (linkS 2 { alignProc := some 31 } [(LNK.ALIGN_DONE 2, 1)])) (fun t => t.rd (LNK.ALIGN_SLIP 2) == 1 &&
      (t.link 2).alignProc == none && keeps (alignRegs 2) (linkS 2) t) = true ∧
    (let s := linkS 1 { noLockAt := some 0 } [(LNK.STAT_RATE_ACT 2, 2)]
     goesOn (exec (.rateFallback 2 2000000) s) (fun t => t.rd (LNK.STAT_RATE_ACT 2) == 0 && t.rd (LNK.STAT_PWR_ACT 2) == 3 &&
       keeps [LNK.STAT_RATE_ACT 2, LNK.STAT_PWR_ACT 2] s t && onlyLink s t) = true) ∧
    (let s := linkS 1 { exitBy := some 5 } [(LNK.STAT_PWR_ACT 2, 3)]
     goesOn (exec (.bankExitLate 2 5) s) (fun t => t.link 2 == {} && t.regs == s.regs && onlyLink s t) = true) ∧
    (let s := linkS 4 { eq := 9 }
     s.eqPreset 2 ≠ 9 ∧ goesOn (exec (.equaliserStep 2 100000) s) (fun t => (t.link 2).eq == (if 9 < s.eqPreset 2 then 10 else 8) && t.regs == s.regs &&
       onlyLink s t) = true) := by decide +kernel

/-- A CONFIG frame outstanding on link 2, tried `k` times. -/
def outS (k : Nat) : State := linkS 4 { out := some { tw := true, op := 1, who := .config, seq := 6, tries := k, endAt := 10 }, seq := 7 }

/-- R122: a BC_ACK ends the frame, has it sent again, or fails it; so does its absence; READ_ID is retried. -/
theorem test_frames :
    goesOn (exec (.bcAck 2 6 0 [] 20) (outS 0)) (fun t => t == ((outS 0).at 20).setLink 2 { seq := 7 }) = true ∧
    goesOn (exec (.bcAck 2 6 1 [] 20) (outS 2)) (fun t => ((t.link 2).out.map (·.tries)) == some 3 && decide (60 ≤ (t.link 2).txAt) && t.rd (LNK.CNT2_BC_RETRY 2) == 1 &&
      { t.link 2 with out := (linkS 4).link 2 |>.out, tx := [], txAt := 0 } == { seq := 7 } && keeps [LNK.CNT2_BC_RETRY 2] (outS 2) t && onlyLink (outS 2) t) = true ∧
    goesOn (exec (.bcAck 2 6 1 [] 20) (outS 3)) (fun t => t.link 2 == { seq := 7 } && t.rd (LNK.CNT2_BC_FAIL 2) == 1 && keeps [LNK.CNT2_BC_FAIL 2] (outS 3) t &&
      onlyLink (outS 3) t) = true ∧
    goesOn (exec (.bcAck 2 6 2 [] 20) (outS 0)) (fun t => t.link 2 == { seq := 7 } && t.rd (LNK.CNT2_BC_FAIL 2) == 1) = true ∧
    goesOn (exec (.bcAck 2 5 0 [] 20) (outS 0)) (fun t => t == (outS 0).at 20) = true ∧
    goesOn (exec (.bcAckTimeout 2 20010) (outS 0)) (fun t => ((t.link 2).out.map (·.tries)) == some 1 && keeps [LNK.CNT2_BC_RETRY 2] (outS 0) t) = true ∧
    goesOn (exec (.bcAckTimeout 2 20010) (outS 3)) (fun t => t.link 2 == { seq := 7 } && keeps [LNK.CNT2_BC_FAIL 2] (outS 3) t) = true ∧
    (let s := linkS 4 { idRetry := some 5, seq := 3 }
     goesOn (exec (.readIdRetry 2 5) s) (fun t => (t.link 2).tx == [0x15C, 0x31, crc8 [0x31], 0x1FD] && (t.link 2).idRetry == none &&
       ((t.link 2).out.map (fun f => (f.who, f.seq, f.tries))) == some (.readId, 3, 0) && t.regs == s.regs && onlyLink s t) = true) := by decide +kernel

/-- R125 to R127: ECHO bursts. -/
theorem test_echo :
    (let s := linkS 4 { burst := some { next := 7, start := 10 } }
     goesOn (exec (.echoSend 2 99 70010) s) (fun t => t.link 2 == { burst := some { next := 8, start := 10, sent := [(7, 99)] }, tx := [0x11C, 7], txAt := 210030 } &&
       t.regs == s.regs && onlyLink s t) = true) ∧
    (let s := linkS 4 { burst := some { next := 8, sent := [(6, 50), (7, 99)] } }
     goesOn (exec (.echoReply 2 7 1099 100 30 5) s) (fun t => t.rd (LNK.ECHO_RTT_RTT 2) == 1000 && t.rd (LNK.ECHO_TURN_TURN 2) == 100 && t.rd (LNK.ECHO_TPATH_TPATH 2) == 30 &&
       t.link 2 == { burst := some { next := 8, sent := [(6, 50)], replies := [960] } } &&
       keeps [LNK.ECHO_RTT_RTT 2, LNK.ECHO_TURN_TURN 2, LNK.ECHO_TPATH_TPATH 2] s t && onlyLink s t) = true ∧
     goesOn (exec (.echoReplyTimeout 2 7 50000099 5) s) (fun t => t.link 2 == { burst := some { next := 8, sent := [(6, 50)] } } && t.regs == s.regs) = true) ∧
    (let s := linkS 4 { burst := some { next := 8, replies := [100000] }, fails := 2 }
     goesOn (exec (.echoBurstEnd 2 5) s) (fun t => (t.link 2).burst == none && (t.link 2).fails == 3 && (t.link 2).retryAt == some 100000005 &&
       t.rd (LNK.STAT_LLAT_VALID 2) == 0 && keeps [LNK.STAT_LLAT_VALID 2] s t && onlyLink s t) = true) ∧
    (let s := linkS 4 { retryAt := some 5 }
     goesOn (exec (.echoBurstRetry 2 5) s) (fun t => t.link 2 == { burst := some { start := 5 } } && t.regs == s.regs && onlyLink s t) = true) ∧
    goesOn (exec (.echoNow 2 5) (linkS 4)) (fun t => t.link 2 == { burst := some { start := 5 } } && t.regs == (linkS 4).regs && onlyLink (linkS 4) t) = true ∧
    goesOn (exec (.periodicEcho 2 8 10000000000) (linkS 4)) (fun t => (t.link 2).perSent == some 8 && (t.link 2).perAt == 10000000000 && t.regs == (linkS 4).regs) = true := by
  decide +kernel

/-- Six of seven replies are within TOL of their median. -/
theorem witness_burst : (goodReplies [100000, 100002, 100004, 100006, 100008, 100010, 5000000] ((linkS 4).echoTol 2)).length = 6 := by
  have h : (linkS 4).echoTol 2 = 8000 := by decide +kernel
  rw [h]
  unfold goodReplies
  rw [List.mergeSort_of_pairwise (by decide)]
  decide +kernel

/-- R124, R131, R134: GPIO levels, telemetry, loop checks. -/
theorem test_symbols :
    goesOn (exec (.gpioRefresh 2 1000000) (linkS 4)) (fun t => (t.link 2).tx == [0x1F7, 0] && (t.link 2).gpioAt == 1000000 && t.regs == (linkS 4).regs) = true ∧
    goesOn (exec (.gpioIn 2 5 9) (linkS 4)) (fun t => t.rd (LNK.GPIO_IN 2) == 5 && only [LNK.GPIO_IN 2] (linkS 4) t) = true ∧
    (let fs := [LNK.SER0_TEMP 2, LNK.SER0_SUPPLY 2, LNK.SER1_BC_ERR 2, LNK.SER0_TRIG_BAD 2, LNK.SER1_BC_RELOCK 2, LNK.SER1_FWD_OVF 2]
     goesOn (exec (.telemetry 2 1 2 3 4 5 6 9) (linkS 4)) (fun t => fs.map t.rd == [1, 2, 3, 4, 5, 6] && t.link 2 == { relock := some 5 } && keeps fs (linkS 4) t &&
       onlyLink (linkS 4) t) = true) ∧
    (let s := linkS 4 { loop := 3, chkSt := 0x7F, chkRun := 14 }
     let u := linkS 4 { loop := 1 }
     s.heard 2 = true ∧ (linkS 4).heard 2 = true ∧
     goesOn (exec (.loopPacket 2 5 [0xFE, 0x3C, 9, 9, 9] [0, 1, 0, 0, 0] 9) s) (fun t => t.rd (LNK.LOOP_BITS_LO_BITS 2) == 8 && t.rd (LNK.LOOP_STAT_LOCK 2) == 1 &&
       keeps [LNK.LOOP_STAT_LOCK 2, LNK.LOOP_BITS_LO_BITS 2, LNK.LOOP_BITS_HI_BITS 2, LNK.LOOP_ERR_ERR 2] s t) = true ∧
     goesOn (exec (.loopPatternCheck 2 [] (List.replicate 7 true) 300 9) u) (fun t => (t.link 2).chkRun == 7 && (t.link 2).chkSt == 0x7F && t.regs == u.regs) = true) := by
  decide +kernel

/-- R135 to R139: the power switch of link 2. -/
def pocS (st : Nat) (x : Link := {}) : State := linkS 4 x [(LNK.POC_STAT_STATE 2, st), (LNK.POC_CFG_EN 2, 1)]

theorem test_camera_power :
    (let meas := [LNK.POC_MEAS_VOUT 2, LNK.POC_MEAS_IOUT 2, LNKG.POC_TOTAL_TOTAL]
     let vin (s : State) : State := s.wr SYS.VSUP_VCAM 12000
     goesOn (exec (.pocVoutReached 2 10800 34 9) (vin (pocS 1))) (fun t => t.poc 2 == 2 && t.rd (LNK.POC_MEAS_IOUT 2) == 34 && t.link 2 == { pocOnAt := 9 } &&
       keeps (LNK.POC_STAT_STATE 2 :: meas) (vin (pocS 1)) t) = true ∧
     goesOn (exec (.pocVoutReached 2 10799 34 9) (vin (pocS 1))) (fun t => only meas (vin (pocS 1)) t && t.rd (LNK.POC_MEAS_VOUT 2) == 10799) = true ∧
     goesOn (exec (.pocShort 2 900 ⟨34, 5⟩ 2000000) (pocS 1)) (fun t => t.poc 2 == 3 && t.rd (LNK.POC_STAT_SHORT 2) == 1 &&
       keeps (LNK.POC_STAT_STATE 2 :: LNK.POC_STAT_SHORT 2 :: meas) (pocS 1) t && onlyLink (pocS 1) t) = true ∧
     goesOn (exec (.pocShort 2 5999 ⟨34, 2000⟩ 2000) (vin (pocS 2))) (fun t => t.poc 2 == 3) = true ∧
     goesOn (exec (.pocShort 2 6000 ⟨1201, 0⟩ 9) (vin (pocS 2))) (fun t => t.poc 2 == 3) = true ∧
     goesOn (exec (.pocOvercurrent 2 12 ⟨600, 1000000⟩ 1000000) (pocS 2)) (fun t => t.poc 2 == 3 && t.rd (LNK.POC_STAT_OVERCUR 2) == 1 &&
       keeps (LNK.POC_STAT_STATE 2 :: LNK.POC_STAT_OVERCUR 2 :: meas) (pocS 2) t && onlyLink (pocS 2) t) = true ∧
     goesOn (exec (.pocOvercurrent 2 12 ⟨600, 999999⟩ 1000000) (pocS 2)) (fun t => only meas (pocS 2) t) = true ∧
     goesOn (exec (.pocOpen 2 12 ⟨7, 10000000⟩ 10000000) (pocS 2)) (fun t => t.poc 2 == 2 && t.rd (LNK.POC_STAT_OPEN 2) == 1 && t.rd (LNK.POC_STAT_OPEN_STKY 2) == 1 &&
       keeps (LNK.POC_STAT_OPEN 2 :: LNK.POC_STAT_OPEN_STKY 2 :: meas) (pocS 2) t && t.links == (pocS 2).links &&
       goesOn (exec (.pocOpenClear 2 12 ⟨11, 10000000⟩ 10000000) t) (fun u => only meas t u) &&
       goesOn (exec (.pocOpenClear 2 12 ⟨12, 10000000⟩ 10000000) t) (fun u => u.rd (LNK.POC_STAT_OPEN 2) == 0 && u.rd (LNK.POC_MEAS_IOUT 2) == 12 &&
         only (LNK.POC_STAT_OPEN 2 :: meas) t u)) = true ∧
     goesOn (exec (.pocOpen 2 12 ⟨8, 10000000⟩ 10000000) (pocS 2)) (fun t => only meas (pocS 2) t) = true) ∧
    goesOn (exec (.pocStartTimeout 2 20000000) (pocS 1)) (fun t => t.poc 2 == 3 && t.rd (LNK.POC_STAT_OVERCUR 2) == 1 &&
      keeps [LNK.POC_STAT_STATE 2, LNK.POC_STAT_OVERCUR 2, LNKG.POC_TOTAL_TOTAL] (pocS 1) t && onlyLink (pocS 1) t) = true ∧
    goesOn (exec (.pocBackfeed 2 true 9) (pocS 1)) (fun t => t.rd (LNK.POC_STAT_BACKFEED 2) == 1 && keeps [LNK.POC_STAT_BACKFEED 2] (pocS 1) t && t.links == (pocS 1).links) = true ∧
    goesOn (exec (.pocStaggerStart 2 9) (pocS 1 { pocWait := some 9 })) (fun t => t.link 2 == { } && t.regs == (pocS 1).regs) = true ∧
    goesOn (exec (.pocFaultClear 2 9) (pocS 3)) (fun t => t.rd (LNK.POC_STAT_SHORT 2) == 0 && t.poc 2 == (if (pocS 3).on (LNK.POC_CFG_EN 2) then 1 else 0) &&
      keeps [LNK.POC_STAT_SHORT 2, LNK.POC_STAT_OVERCUR 2, LNK.POC_STAT_STATE 2, LNK.POC_MEAS_IOUT 2, LNKG.POC_TOTAL_TOTAL] (pocS 3) t && onlyLink (pocS 3) t) = true := by
  decide +kernel

/-- The module runs with 64 KiB of GDDR7 and some words in error. -/
def memS (f : List (Nat × WFault)) (l : List (Fld × Nat) := []) : State :=
  (up ([(MEM.TOP_LO_TOP, 0x10000), (MEM.TOP_HI_TOP, 0), (MEM.STAT_FENCE, 4), (MEM.PATROL_GRATE, 1000)] ++ l)).setMemu { faults := f }

/-- R263, R274 to R276, R282: buckets, patrol, words in error. -/
theorem test_patrol :
    (let s := memS [] [(MEMR.LEAK 3, 2), (MEMR.BKT_LEVEL 3, 5)]
     ((s.at 4000000).dev % 2000000 < 10 ∧ 10 ≤ (s.at 5000000).dev % 2000000) ∧
     goesOn (exec (.ceBucketLeak 3 4000000) s) (fun t => t.rd (MEMR.BKT_LEVEL 3) == 4 && t.memu == { leakAt := [(3, 4000000)] } &&
       only [MEMR.BKT_LEVEL 3] s { t with memu := s.memu } && goesOn (exec (.ceBucketLeak 3 4000001) t) (fun u => u == t)) = true ∧
     goesOn (exec (.ceBucketLeak 3 5000000) s) (fun u => u == s) = true) ∧
    goesOn (exec (.patrolScrub true 0 10000000000) (memS [])) (fun t => t.rd MEM.PASS_SRAM == 1 && t.memu == { sramAt := 10000000000 } &&
      only [MEM.PASS_SRAM] (memS []) { t with memu := (memS []).memu }) = true ∧
    goesOn (exec (.patrolScrub false 100 1000) (memS [])) (fun t => t.memu == { patrolAt := 1000, patrol := 800 } &&
      only [] (memS []) { t with memu := (memS []).memu }) = true ∧
    goesOn (exec (.patrolScrub false 9000 100000) (memS [])) (fun t => t.memu == { patrolAt := 100000, patrol := 0 } && t.rd MEM.PASS_GDDR7 == 1 &&
      only [MEM.PASS_GDDR7] (memS []) { t with memu := (memS []).memu }) = true ∧
    (memS []).gddrChannel 80 = 0 ∧
    goesOn (exec (.patrolScrub false 100 1000) (memS [(10, { flips := [1, 2] })])) (fun t => t.memu.faults == [] && t.rd (MEMR.CE 0) == 1 && t.rd (MEMR.UE 0) == 0 &&
      t.mems == (memS []).mems) = true ∧
    goesOn (exec (.patrolScrub false 100 1000) (memS [(10, { flips := [1, 2, 3] })])) (fun t => t.memu.faults == [(10, { flips := [1, 2, 3], poison := true })] &&
      t.rd (MEMR.CE 0) == 0 && t.rd (MEMR.UE 0) == 1) = true := by decide +kernel

/-- R277, R278: a software scrub. -/
theorem test_scrub :
    (let s := memS [] [(MEM.SCRUB_ADDR_LO_ADDR, 0x140), (MEM.SCRUB_LEN_LO_LEN, 0x80), (MEM.SCRUB_CTL_RATE, 1000)]
     let b := s.wr MEM.SCRUB_STAT_BUSY 1
     goesOn (exec (.scrubGo 5) b) (fun t => t.rd MEM.SCRUB_STAT_REJ == 1 && only [MEM.SCRUB_STAT_REJ] b t) = true ∧
     goesOn (exec (.scrubGo 5) s) (fun t => t.memu.scrub == some { target := 0, addr := 0x140, len := 0x80, rate := 1000, start := 5 } &&
       t.rd MEM.SCRUB_STAT_BUSY == 1 && only [MEM.SCRUB_STAT_BUSY] s { t with memu := s.memu } &&
       goesOn (exec (.scrubDone 133) t) (fun u => u.memu.scrub == none && u.rd MEM.SCRUB_STAT_DONE == 1 && u.rd MEM.SCRUB_STAT_BUSY == 0 &&
         u.rd MEM.SCRUB_WORDS_LO_WORDS == 16 && u.rd MEM.SCRUB_WORST_LO_WORST == 2 ^ 32 - 1 && u.rd MEM.SCRUB_WORST_HI_WORST == 2 ^ 32 - 1 &&
         only [MEM.SCRUB_STAT_DONE, MEM.SCRUB_STAT_BUSY, MEM.SCRUB_WORDS_LO_WORDS, MEM.SCRUB_WORDS_HI_WORDS, MEM.SCRUB_CE_CE,
            MEM.SCRUB_UE_UE, MEM.SCRUB_WORST_LO_WORST, MEM.SCRUB_WORST_HI_WORST] t { u with memu := t.memu, events := t.events }) &&
       goesOn (exec (.scrubAbort 4 100) t) (fun u => u.memu.scrub == none && u.rd MEM.SCRUB_WORDS_LO_WORDS == 4)) = true) := by decide +kernel

/-- R267, R282: migration and margin sets. -/
theorem test_migration :
    (let s := memS [] [(MEM.STAT_FENCE, 1), (MEM.STAT_MIGRATING, 1), (MEM.MIGR_LEFT, 2)]
     goesOn (exec (.granuleMigrate 5) s) (fun t => t.memu == { copied := 1 } && t.rd MEM.MIGR_LEFT == 1 && only [MEM.MIGR_LEFT] s { t with memu := s.memu } &&
       goesOn (exec (.granuleMigrate 6) t) (fun u => u.memu == { copied := 2, patrol := 0, patrolAt := 6 } && u.rd MEM.MIGR_LEFT == 0 &&
         u.rd MEM.STAT_MIGRATING == 0 && only [MEM.MIGR_LEFT, MEM.STAT_MIGRATING] t { u with memu := t.memu, events := t.events })) = true) ∧
    (let s := (memS [] [(THM.STAT_BAND, 3)]).setMemu { margin := [1, 2] }
     goesOn (exec (.marginSwitch 2 5) s) (fun t => t.memu == { margin := [1] } && only [] s { t with memu := s.memu } &&
       goesOn (exec (.marginSwitch 1 6) t) (fun u => u.memu == {} && u.rd MEM.STAT_BAND == 3 &&
         only [MEM.STAT_BAND] t { u with memu := t.memu, events := t.events })) = true) := by decide +kernel

/-- Slot 4 serves link 5, VC 1 with 16 x 8 pixels of 16 bits; its region 0 writes to flue 0 of the active graph. -/
def ingC : State :=
  (up [(CTX.SRC_EN 4, 1), (CTX.SRC_LINK 4, 5), (CTX.SRC_VC 4, 1), (CTX.SRC_FMT 4, 16), (CTX.GEOM_WIDTH 4, 16), (CTX.GEOM_HEIGHT 4, 8), (CTX.FILL_TMO 4, 2),
    (CTX.RGN_CFG_EN 4 0, 1), (CTX.RGN_WH_W 4 0, 16), (CTX.RGN_WH_H 4 0, 8), (CTX.BYP 4, 15), (LNK.STAT_STATE 5, 4), (LNK.STAT_PWR_ACT 5, 0)]).setGraph
    { active := some { id := 1, flues := [{ loc := 0, slots := 16, bytes := 128, base := 0x1000, prod := 4096 + 16, cons := [0x4003] }] } }

/-- The slot with its configuration in use and what else it holds. -/
def ingS (x : Ctx) : State := ingC.setCtx 4 { x with use := ingC.slotUse 4 }

/-- An open frame, number 7. -/
def frm7 (f : Machine.Frm := {}) : Machine.Frm := { f with num := 7, link := 5, vc := 1, use := ingC.slotUse 4 }

/-- `n` bytes of a packet. -/
def bytesN (n : Nat) : List Byte := List.replicate n 1

/-- R128: a link that is BANKED forwards no packet. -/
theorem test_banked : let s := (ingS {}).wr (LNK.STAT_PWR_ACT 5) 1
    (ingS {}).videoOn 5 = true ∧ s.videoOn 5 = false ∧ goesOn (exec (.frameStart 5 1 7 3 true 16 9 40) s) (fun t => t == s) = true ∧
    goesOn (exec (.line 5 1 2 0 16 (bytesN 32) false false 40) s) (fun t => t == s) = true ∧
    goesOn (exec (.frameEnd 5 1 8 9 false 40) s) (fun t => t == s) = true := by decide +kernel

/-- R152: packets of the line just completed that lie beyond WIDTH count LINE_WIDTH once. -/
theorem test_tail : let s := ingS { frames := [frm7 { last := some 2 }], tail := some (2, false) }
    s.isTail 4 (frm7 { last := some 2 }) 2 16 = true ∧ goesOn (exec (.line 5 1 2 16 16 (bytesN 16) false false 40) s) (fun t =>
      t.rd (CTX.CNT2_LINE_WIDTH 4) == 1 && t.ctx 4 == { s.ctx 4 with tail := some (2, true) } &&
      goesOn (exec (.line 5 1 2 24 16 (bytesN 16) false false 41) t) (fun u => u.rd (CTX.CNT2_LINE_WIDTH 4) == 1 && u.ctxs == t.ctxs)) = true := by decide +kernel

/-- R114, R144, R151: a frame start opens a frame in its slot only. -/
theorem test_frame_start :
    ctxServes ingC.cfg 4 5 1 = true ∧ ctxServes ingC.cfg 4 5 2 = false ∧ (ingS {}).servers 5 1 = [4] ∧ (ingS {}).servers 5 2 = [] ∧
    goesOn (exec (.frameStart 5 1 7 3 true 16 9 40) (ingS {})) (fun t =>
      ((t.ctx 4).opened.map fun m => (m.num, m.tseq, m.link, m.vc, m.sof, m.start, m.flags, m.last)) == some (7, 3, 5, 1, 40, 40, 160, none) &&
      ((t.ctx 4).opened.map fun m => decide (m.use = ingC.slotUse 4)) == some true && t.rd (CTX.STAT_OPEN 4) == 1 && t.rd (LNK.SOF_TIME_TIME 5) == 40 &&
      (t.link 5).open_ == [1] && AMap.get 0 t.lastFrame 21 == 8 && t.mems == (ingS {}).mems && t.ctx 3 == (ingS {}).ctx 3) = true ∧
    goesOn (exec (.frameStart 5 2 7 3 true 16 8 40) (ingS {})) (fun t => t.ctxs == (ingS {}).ctxs && t.rd (LNK.SOF_TIME_TIME 5) == 40) = true := by decide +kernel

/-- R112, R148, R152: line packets of slot 4. -/
theorem test_lines :
    (let s := ingS { frames := [frm7] }
     (s.ctx 4).InFrame frm7 ∧ (ingS {}).clean ∧
     goesOn (exec (.line 5 1 2 0 9 (bytesN 32) false false 40) s) (fun t => t == s) = true ∧
     goesOn (exec (.line 5 2 2 0 16 (bytesN 32) false false 40) s) (fun t => t == s.at 40) = true ∧
     goesOn (exec (.line 5 1 2 0 16 (bytesN 32) false false 40) (ingS {})) (fun t => t.rd (CTX.CNT2_ORPHAN 4) == 1 &&
       t.ctx 4 == { (ingS {}).ctx 4 with orphan := true } && only [CTX.CNT2_ORPHAN 4] (ingS {}) { t with ctxs := (ingS {}).ctxs, events := (ingS {}).events }) = true ∧
     goesOn (exec (.line 5 1 2 0 16 (bytesN 16) true false 40) s) (fun t => (t.ctx 4).recv == some { num := 2, px := List.replicate 8 (some 257), bad := true } &&
       t.rd (CTX.CNT1_LOST_LINES 4) == 2 && goesOn (exec (.line 5 1 2 8 16 (bytesN 16) false false 41) t) (fun u => (u.ctx 4).recv == none &&
         (u.ctx 4).ready == some (0, 2, { px := List.replicate 16 (some 257), dam := true, at_ := 41 }) && u.rd (CTX.CNT1_LOST_LINES 4) == 2)) = true ∧
     goesOn (exec (.line 5 1 2 0 8 (bytesN 16) false false 40) s) (fun t => (t.ctx 4).recv == none && (t.ctx 4).ready == none && t.rd (CTX.CNT1_LOST_LINES 4) == 3) = true ∧
     goesOn (exec (.line 5 1 0 0 16 (bytesN 32) false false 40) s) (fun t => (t.ctx 4).ready == some (0, 0, { px := List.replicate 16 (some 257), at_ := 40 }) &&
       t.rd (CTX.CNT1_LOST_LINES 4) == 0) = true) ∧
    (let s := ingS { frames := [frm7], ready := some (0, 0, {}) }
     goesOn (exec (.line 5 1 0 0 16 (bytesN 32) false false 40) s) (fun t => (t.ctx 4).ready == some (0, 0, {}) && (t.ctx 4).recv == none &&
       t.rd (CTX.CNT1_LOST_LINES 4) == 1 && t.rd (CTX.CNT3_LINEBUF_OVF 4) == 1) = true) ∧
    (let s := ingS { frames := [frm7 { last := some 3 }] }
     goesOn (exec (.line 5 1 3 0 16 (bytesN 32) false false 40) s) (fun t => t.rd (CTX.CNT2_ORPHAN 4) == 1 && t.ctxs == s.ctxs) = true) := by decide +kernel

/-- R153 to R157: embedded lines, frame ends, timeouts. -/
theorem test_frame_end :
    (let s := (ingS { frames := [frm7 { last := some 3 }] }).setLink 5 { open_ := [1, 2] }
     goesOn (exec (.embedded 5 1 2 (bytesN 5) true 40) s) (fun t => t.frm 4 0 == frm7 { last := some 3, emb := [(2, [1, 1, 1, 1, 1], true)] } &&
       only [] s { t with ctxs := s.ctxs }) = true ∧
     goesOn (exec (.frameEnd 5 1 8 9 false 40) s) (fun t => t.rd (CTX.FNUM 4) == 7 && t.rd (CTX.STAT_OPEN 4) == 0 && t.rd (CTX.CNT0_TRUNC 4) == 1 &&
       t.rd (CTX.CNT0_OVERLONG 4) == 1 && t.rd (CTX.CNT4_FNUM_MISMATCH 4) == 1 && (t.link 5).open_ == [2] && t.ctx 3 == s.ctx 3 &&
       (t.ctx 4).frames.all (fun z => z.closed.isSome && z.filled == 4 && z.flags.testBit 0)) = true ∧
     goesOn (exec (.frameTimeout 4 2000000) s) (fun t => t.rd (CTX.FNUM 4) == 7 && t.rd (CTX.CNT0_TRUNC 4) == 1 && t.rd (CTX.CNT0_OVERLONG 4) == 0 &&
       (t.link 5).open_ == [2] && (t.ctx 4).frames.all (fun z => z.closed.isSome && z.filled == 4 && z.flags.testBit 3)) = true ∧
     goesOn (exec (.frameTimeout 4 1999999) s) (fun t => t == s) = true ∧
     goesOn (exec (.frameEnd 5 1 8 9 false 40) (ingS {})) (fun t => t.rd (CTX.CNT2_ORPHAN 4) == 1 && t.ctx 4 == { (ingS {}).ctx 4 with orphan := false }) = true) ∧
    (let m := frm7 { emb := [(0, [], false), (1, [], false), (2, [], false), (3, [], false)] }
     goesOn (exec (.embedded 5 1 4 (bytesN 5) true 40) (ingS { frames := [m] })) (fun t => t == (ingS { frames := [m] }).at 40) = true) := by decide +kernel

/-- R147, R155, R170: datapath turns, fill rows, records. -/
theorem test_datapath :
    (let l : RLine := { px := List.replicate 16 (some 9) }
     let s := ingS { frames := [frm7 { last := some 0 }], ready := some (0, 0, l) }
     goesOn (exec (.datapathTurn 3 true 40) s) (fun t => t == s) = true ∧
     goesOn (exec (.datapathTurn 2 false 40) s) (fun t => t.rd (ING.PSTAT_LAST 2) == 0 && (t.ctx 4).ready == none && t.ctx 5 == s.ctx 5 &&
       (t.frm 4 0).lines == [(0, l)]) = true) ∧
    (let m := frm7 { last := some 0 }
     let s := ingS { frames := [m] }
     (s.ctx 4).rowReady m 4 0 = .fill ∧ ((s.at 40).fillDue 4 |>.ctx 4).fillQ.head? = some 16 ∧
     goesOn (exec (.fillLineWrite 4 0 40) s) (fun t => AMap.get 0 (t.frm 4 0).rgn 0 == 1 && (t.flue 0 0).claimed == 1 && t.ctx 5 == s.ctx 5) = true) ∧
    (let m := frm7 { last := some 7, rgn := [(0, 8)], closed := some 5, endAt := some 6 }
     let s := ingS { frames := [m] }
     s.rgnFlue m 4 0 = some 0 ∧ s.flueCredit 0 0 = true ∧
     goesOn (exec (.frameRecordWrite 4 0 40) s) (fun t => (t.ctx 4).frames == [] && (t.flue 0 0).claimed == 1 && t.ctx 5 == s.ctx 5) = true) := by decide +kernel

/-- R230 to R233: a check unit. -/
theorem test_checks :
    (let s := (up [(CHK.VALUE 3, 5), (CHK.SAVE 3, 6)]).setChk 3 { use := (up []).snapshot 0xC00C0 0xC0100 }
     goesOn (exec (.chkSwap 3) s) (fun t => t.rd (CHK.VALUE 3) == 6 && t.rd (CHK.SAVE 3) == 5 && only [CHK.VALUE 3, CHK.SAVE 3, CHK.RESULT 3] s t) = true ∧
     goesOn (exec (.chkValueWrite 3 9) s) (fun t => t.rd (CHK.VALUE 3) == 9 && only [CHK.VALUE 3, CHK.RESULT 3] s t) = true ∧
     goesOn (exec (.chkReset 3) s) (fun t => t.rd (CHK.LAST 3) == chkResult (s.chkUnit 3).use 3 5 && t.rd (CHK.COUNT 3) == 0 &&
       t.rd (CHK.VALUE 3) == useGet (s.chkUnit 3).use (CHK.INIT 3) % 2 ^ chkWidth (s.chkUnit 3).use 3 && t.chkUnit 3 == { use := s.snapshot 0xC00C0 0xC0100 } && t.chkUnit 4 == s.chkUnit 4 &&
       only [CHK.LAST 3, CHK.COUNT 3, CHK.VALUE 3, CHK.RESULT 3] s { t with chk := s.chk }) = true) := by decide +kernel

/-- A swath of 8 columns with one input of two 64-byte buffers. -/
def swD : SwDesc :=
  { ch := 1, w := 8, gsd := 1000, umpc := 1000000, rows := 2, tmo := 1, rmax := 1000, hi := 100, store := 0x2000, total := 0,
    inputs := [{ h := List.replicate 9 0, zone := 5000, nbuf := 2, bytes := 64, grid := 0x3000 }] }

/-- Swath 0 runs it; flue 0 feeds its input, flue 1 takes its rows; an item with these bytes waits. -/
def swS (x : Swath) (bytes : List Nat) (slot : Nat := 256) : State :=
  let g : Graph := { id := 1, flues := [{ loc := 0, slots := 2, bytes := 128, base := 0x100, cons := [0x3000] },
                                         { loc := 0, slots := 2, bytes := slot, base := 0x4000, prod := 0x3000, cons := [0x4003] }] }
  let f : Flue := { items := [{ len := bytes.length, wr := bytes.length, closed := true, vis := some 0, left := [(0, 255)] }], claimed := 1, shown := 1 }
  (((up [(AX.STAT_DIR 0, 0), (AX.STAT_MOTION 0, 0)]).setGraph { active := some g, flues := [(0, f)] }).setSwath 0 { x with active := some swD }).memWrite (.sram 0) 0x108 bytes

/-- A line item of frame 7. -/
def swL (line flags : Nat) : List Nat := lineHeader 7 line 0 flags ++ List.range 16

/-- A frame of 8 pixels a line that is being collected. -/
def swF : SwFrame := { num := 7, buf := some 1, len := 24, win := 8 }

/-- The input after a step of a line item. -/
def swTo (x : Swath) (b : List Nat) (p : State → SwInput → Bool) : Bool :=
  goesOn (exec (.swathLineItem 0 0 5) (swS x b)) fun t => p t ((t.swath 0).input 0)

/-- R239, R240: line items. -/
theorem test_swath_lines :
    ((swS {} (swL 1 0)).endpointNext 0x3000).isSome = true ∧ (swS {} (swL 1 0)).clean ∧
    swTo {} (swL 1 4) (fun t _ => t.swaths == (swS {} (swL 1 4)).swaths) = true ∧
    swTo { inputs := [(0, { frames := [{ buf := some 0 }, { buf := some 1 }] })] } (swL 1 0) (fun _ y => y.cur == some { num := 7, full := true, len := 24, win := 8 }) = true ∧
    swTo { inputs := [(0, { cur := some swF })] } (swL 4 0) (fun t y => y.cur == some { swF with big := true } && t.mems.gddr == []) = true ∧
    swTo { inputs := [(0, { cur := some swF })] } (swL 3 1) (fun t y => y.cur == some { swF with lines := [(3, true)] } && t.mems.gddr == []) = true ∧
    swTo { inputs := [(0, { cur := some swF })] } (swL 3 0) (fun t y => y.cur == some { swF with lines := [(3, false)] } &&
      t.memBytes .gddr 0x2070 16 == List.range 16 && t.memBytes .gddr 0x2060 16 == List.replicate 16 0) = true := by decide +kernel

/-- The record item of frame 7 of link 5, VC 1. -/
def swR : List Nat := lineHeader 7 0xFFFF 0 0 ++ [7, 0, 0, 0, 5, 1] ++ List.replicate 58 0

/-- R240: frames accepted and rejected. -/
theorem test_swath_frames :
    (swS {} swR).itemIsRec 0 0 { len := 72, wr := 72, closed := true, vis := some 0, left := [(0, 255)] } = true ∧
    goesOn (exec (.swathFrameRecord 0 0 5) (swS { inputs := [(0, { cur := some swF })] } swR)) (fun t => (t.swath 0).input 0 == {} &&
      AMap.get 0 (t.swath 0).cnt 8 == 1) = true ∧
    (let s := { swS { inputs := [(0, { cur := some swF })] } swR with frameTags := [{ cam := 21, num := 7, trig := some { pos := some (9, 0) } }] }
     goesOn (exec (.swathFrameRecord 0 0 5) s) (fun t => (t.swath 0).input 0 == { frames := [{ swF with pf := 9 }], hwa := some 9 } &&
       (t.swath 0).cnt == []) = true) := by decide +kernel

/-- R242, R243: rows that the axis forces. -/
theorem test_swath_rows :
    (let s := swS { dec := -1, inputs := [(0, { frames := [{ swF with pf := 0 }] })] } []
     (s.swath 0).rowsClosed swD = 0 ∧
     goesOn (exec (.swathForceEval 0 5) s) (fun t => (t.swath 0).backlog.map (fun r => (r.k, r.forced)) ==
       (List.range (s.swForced 0 swD)).map (fun i => (-1 + (i : Int), true)) && (t.swath 0).dec == -1 + (s.swForced 0 swD : Int)) = true ∧ s.swForced 0 swD = 2) ∧
    (let s := swS { dec := -2, inputs := [(0, { frames := [{ swF with pf := 0 }], hwa := some 0 })] } []
     (s.swath 0).rowsClosed swD = 3 ∧ goesOn (exec (.swathForceEval 0 5) s) (fun t => (t.swath 0).backlog.map (fun r => (r.k, r.forced)) ==
       [(-2, false), (-1, false), (0, false)] && (t.swath 0).dec == 1) = true) := by decide +kernel

/-- R244, R248, R250, R254: a row goes out with credit, waits without, and is not computed while the axis runs back. -/
theorem test_swath_items :
    let x : Swath := { backlog := [{ k := 4, fast := true, choice := [none] }, { k := 5 }] }
    let s := swS x []
    s.flueCredit 0 1 = true ∧ (s.graphOf 0).swathOut 0 = some 1 ∧ swD.itemLen = 56 ∧
    goesOn (exec (.rowCompute 0 5) s) (fun t => (t.swath 0).next == 5 && (t.swath 0).backlog.map (·.k) == [5] && AMap.get 0 (t.swath 0).cnt 1 == 1 &&
      (t.flue 0 1).claimed == 1 && (t.swath 0).strip.rows == 1 && (t.swath 0).outq == []) = true ∧
    (let u := s.wr (AX.STAT_DIR 0) 1
     goesOn (exec (.rowCompute 0 5) u) (fun t => t == u) = true) ∧
    (let u := s.setFlue 0 1 { items := [{ seq := 0 }, { seq := 1 }], claimed := 2 }
     u.flueCredit 0 1 = false ∧ goesOn (exec (.rowCompute 0 5) u) (fun t => (t.swath 0).outq.map (fun o => (o.k, o.flags)) == [(some 4, 11)] && (t.swath 0).next == 0 &&
       (t.swath 0).strip == {}) = true) := by decide +kernel

/-- R251: the strip closes with its record after ROWS rows, or after STRIP_TMO without one, once credit allows. -/
theorem test_swath_strips :
    (let s := swS { backlog := [{ k := 4, fast := true, choice := [none] }], strip := { rows := 1 }, num := 6 } []
     goesOn (exec (.rowCompute 0 5) s) (fun t => (t.swath 0).outq == [] && (t.swath 0).strip == {} && (t.swath 0).num == 7 && (t.flue 0 1).claimed == 2) = true) ∧
    (let s := swS { strip := { rows := 1 }, num := 6 } []
     goesOn (exec (.stripTimeout 0 1000000) s) (fun t => (t.swath 0).strip == {} && (t.swath 0).num == 7 && AMap.get 0 (t.swath 0).cnt 0 == 1) = true ∧
     goesOn (exec (.stripTimeout 0 999999) s) (fun t => t == s) = true ∧
     (let u := s.setFlue 0 1 { items := [{ seq := 0 }, { seq := 1 }], claimed := 2 }
      goesOn (exec (.stripTimeout 0 1000000) u) (fun t => (t.swath 0).outq == [{ rcd := true, wpx := 8 }] && (t.swath 0).strip == { rows := 1 }) = true) ∧
     goesOn (exec (.stripTimeout 0 1000000) (swS {} [])) (fun t => t == swS {} []) = true) := by decide +kernel

/-- Recorder input 2 reads flue 0, where an item waits; the recorder is in state `st`. -/
def recS (st : Nat) (r : Recorder) (bytes : List Nat) : State :=
  let g : Graph := { id := 1, flues := [{ loc := 0, slots := 2, bytes := 128, base := 0x100, cons := [0x5002], prod := 0x1010 }] }
  let f : Flue := { items := [{ len := bytes.length, wr := bytes.length, closed := true, vis := some 0, left := [(0, 255)] }], claimed := 1, shown := 1 }
  (({ up [(REC.STAT_STATE, st), (REC.CFG_EN, 1), (IN.CFG_EN 2, 1), (IN.MAXB 2, 1024), (THM.STAT_NAND_OK, 1), (REC.CFG_XTMO, 1)] with rcd := r }).setGraph
    { active := some g, flues := [(0, f)] }).memWrite (.sram 0) 0x108 bytes

/-- A line item, and the record item, of frame 7. -/
def recL : List Nat := lineHeader 7 2 0 0 ++ [1, 2, 3]
/-- The record item of frame 7. -/
def recR : List Nat := lineHeader 7 0xFFFF 0 0 ++ List.replicate 64 0

/-- R325 to R329: items become units, or their frame is dropped. -/
theorem test_recorder_items :
    (let s := recS 2 { wpos := 4096, rseq := 5, ins := [(2, { bucket := 1024000000 })], wear := 2 ^ 64 } recL
     (s.endpointNext 0x5002).isSome = true ∧ s.clean ∧ s.rinMaxb 2 * 1000000 ≤ (s.at 5).rinBucket 2 ∧
     goesOn (exec (.recorderItem 2 5) s) (fun t => t.rcd.units.map (fun u => (u.kind, u.input, u.rseq, u.pos, u.bytes.length)) ==
       [(0, 2, 5, 4096, 32), (1, 2, 5, 4128, 24)] && t.rcd.rseq == 6 && t.rcd.wpos == 4152 && t.mems == s.mems) = true) ∧
    (let s := recS 3 { wpos := 4096, rseq := 5 } recL
     goesOn (exec (.recorderItem 2 5) s) (fun t => t.rcd.units == [] && t.rcd.wpos == 4096 && t.rd (IN.DROP 2) == 1 && (t.rin 2).drops == 1) = true) ∧
    (let s := recS 2 { wpos := 4096, rseq := 6, ins := [(2, { cur := some { num := 7, open_ := true, rseq := 5, wr := 32, count := 3 } })], wear := 2 ^ 64 } recR
     goesOn (exec (.recorderItem 2 5) s) (fun t => t.rcd.units.map (fun u => (u.kind, u.rseq, u.pos)) == [(1, 5, 4096), (2, 5, 4176)] && (t.rin 2).cur == none &&
       t.rd (IN.REC 2) == 1) = true) := by decide +kernel

/-- R330 to R332, R336: extents, page programs, journal pages. -/
theorem test_recorder_programs :
    (let s := recS 2 { wpos := 4096, exts := [{ eseq := 0 }], wear := 2 ^ 64 } []
     goesOn (exec (.extentTimeout 1000000) s) (fun t => t.rcd.wpos == extBytes && t.rcd.exts.map (·.closed) == [true] &&
       t.rcd.units == [{ pos := 4096, kind := 4, bytes := [0xFD, 0xFF, 0xFF, 0xFF], fill := extBytes - 4100 }]) = true) ∧
    (let s := recS 3 { prog := some 0, exts := [{ eseq := 0, closed := true, pages := 63, place := some (4, 0) }], fill := some (4, 1) } []
     s.recHeld = true ∧
     goesOn (exec (.nandProgramDone false 9) s) (fun t => t.rcd.exts.map (fun x => (x.pages, x.full)) == [(64, some 9)] && t.rcd.jq.map (fun c => (c.ty, c.a)) == [(1, 0)]) = true ∧
     goesOn (exec (.nandProgramDone true 9) s) (fun t => t.rcd.exts.map (·.gone) == [true] && t.rd REC.CNT_PROG_FAIL == 1 && AMap.get 0 t.rcd.spares 15 == 1) = true) ∧
    (let r : Recorder := { jq := [{ ty := 1, a := 3 }], jslot := 5, jgen := 8, wear := 2 ^ 64 }
     goesOn (exec (.journalPageTimeout 10000000) (recS 3 r [])) (fun t => t.rcd.jDue && t.rcd.jq == r.jq) = true ∧
     goesOn (exec (.journalPageTimeout 10000000) (recS 2 r [])) (fun t => t.rcd.jprog == some { slot := 5, page := { gen := 8, ents := r.jq } } && t.rcd.jslot == 6 &&
       t.rcd.jgen == 9 && goesOn (exec (.journalProgramDone 10000001) t) (fun u => u.rcd.jprog == some { slot := 5, page := { gen := 8, ents := r.jq }, done := 1 } &&
         AMap.get [] u.rcd.slots 5 == [some { gen := 8, ents := r.jq }, none, none])) = true) ∧
    (let s := recS 2 { jprog := some { page := { ents := [{ ty := 1, a := 3 }] }, done := 2 }, exts := [{ eseq := 3, full := some 1, pages := 64 }], wear := 2 ^ 64 } []
     goesOn (exec (.journalProgramDone 9) s) (fun t => t.rcd.exts.map (·.valid) == [true]) = true) := by decide +kernel

/-- R323, R333: group erases. -/
theorem test_recorder_erase :
    (let s := recS 2 { lastG := some 3, wear := 2 ^ 64, exts := [{ eseq := 7, place := some (4, 0), pages := 64 }] } []
     goesOn (exec (.groupErase 9) s) (fun t => t.rcd.erase == .journal && t.rcd.eraseG == 4 && t.rcd.lastG == some 4 && (t.rcd.inGroup 4).map (fun x => (x.eseq, x.valid, x.gone)) == [(7, false, true)]) = true) ∧
    (let s := recS 2 { erase := .running, eraseG := 4, wear := 2 ^ 64 } []
     goesOn (exec (.groupEraseDone false 2 9) s) (fun t => t.rcd.erase == .idle && t.rcd.ahead == some 4) = true ∧
     goesOn (exec (.groupEraseDone true 2 9) s) (fun t => t.rcd.erase == .idle && t.rd REC.CNT_PROG_FAIL == 1) = true) := by decide +kernel

/-- R340 to R343, R345: readout and recovery. -/
theorem test_readout :
    (let u : RUnit := { pos := 64, kind := 3, input := 2, bytes := List.replicate 32 5 }
     let c : RRead := { queue := 3, mask := 4, maxb := 1024, rate := 1, begun := true, lim := some 0 }
     let r : Recorder := { units := [u], exts := [{ eseq := 0, valid := true }], wpos := 96, read := some c }
     let s (r : Recorder) := ({ recS 2 r [] with dlv := (dlvS { credits := [(0, 0x30000, 4096)] }).dlv }).wrBoth (DQ.CFG_EN 3) 1
     r.nextRead c = some u ∧ goesOn (exec (.readoutItem [] 9) (s r)) (fun t => (t.rcd.read.map fun y => (y.pos, y.skip)) == some (96, 0) && t.rd REC.RD_NREC_NREC == 1 &&
       t.rd REC.RD_STAT_STATE == 1 && (t.dq 3).credits == []) = true ∧
     goesOn (exec (.readoutItem [] 9) (s { r with units := [] })) (fun t => t.rcd == { r with units := [], read := none } && t.rd REC.RD_STAT_STATE == 0) = true ∧
     goesOn (exec (.readoutItem [] 9) (s { r with units := [], read := some { c with follow := true } })) (fun t => t.rd REC.RD_STAT_STATE == 2 &&
       only [REC.RD_STAT_STATE] (s { r with units := [], read := some { c with follow := true } }) t) = true ∧
     goesOn (exec (.readoutItem [] 9) (s { r with units := [{ u with kind := 0 }], injUe := true })) (fun t => t.rcd.read == some { c with pos := 96, skip := 96 } &&
       t.rcd.injUe == false && (t.dq 3).credits.length == 1) = true ∧
     goesOn (exec (.readoutItem [] 9) (s { r with read := none })) (fun t => t == s { r with read := none }) = true) ∧
    (let s := recS 1 { wpos := 4096, exts := [{ eseq := 0 }], wear := 2 ^ 64 } []
     goesOn (exec (.recorderRecovery [] 9) s) (fun t => t.rcd.wpos == extBytes && t.rcd.exts == [] && t.rd REC.STAT_STATE == (if t.rd REC.STAT_CAUSE = 0 then 2 else 3)) = true ∧
     goesOn (exec (.recorderRecovery [] 9) (recS 2 {} [])) (fun t => t == recS 2 {} []) = true) := by decide +kernel

/-- Ethernet port 0 is enabled and linked, a slave that is asCapable, with registers `l` and the state `p` beside them. -/
def timS (l : List (Fld × Nat)) (p : EthPort := {}) : State :=
  (up ([(ETH.CFG_EN 0, 1), (ETH.STAT_LINK 0, 1), (ETH.STAT_ROLE_ACT 0, 1), (ETH.STAT_ASCAP 0, 1), (ETH.CFG_DOMAIN 0, 0), (TIM.CFG_SRC, 0),
    (ETH.CFG_STATIC 0, 1), (ETH.CFG_ROLE 0, 1)] ++ l)).setEth 0 p

/-- The grandmaster's time 700 ns. -/
def gm700 : GmTime := { origin := 600, corr := 100, cum := 0 }

/-- R348, R349, R495: links, frames that are discarded, the PHY's reset. -/
theorem test_eth_link :
    (let s := timS []
     s.is (ETH.CFG_EN 0) = true ∧ s.evAwake = true ∧ s.ethUp 0 = true ∧ s.ptpIn 0 0 = true ∧ s.ptpIn 0 3 = false ∧
     goesOn (exec (.ethLink 0 2 9) s) (fun t => t.rd (ETH.STAT_RATE_ACT 0) == 2 && t.is (ETH.STAT_LINK 0) && t.is (ETH.STAT_ASCAP 0)) = true ∧
     goesOn (exec (.ethLink 0 4 9) s) (fun t => t.rd (ETH.STAT_RATE_ACT 0) == 0 && !t.is (ETH.STAT_LINK 0) && !t.is (ETH.STAT_ASCAP 0) &&
       only [ETH.STAT_RATE_ACT 0, ETH.STAT_LINK 0, ETH.STAT_ASCAP 0] s { t with events := s.events }) = true ∧
     goesOn (exec (.ethLink 1 3 9) s) (fun t => t == s) = true ∧
     goesOn (exec (.ethFrameDiscard 0 9) s) (fun t => t.rd (ETH.CNT0_RX_DISCARD 0) == 1 && only [ETH.CNT0_RX_DISCARD 0] s t) = true ∧
     [Instr.sync 0 3 1 0 false gm700 9, .followUp 0 3 1 gm700 9, .pdelayReq 0 3 1 9 9, .pdelayResp 0 3 1 0 0 9, .signaling 0 3 0 0 9].all
       (fun i => goesOn (exec i s) (fun t => t == s)) = true) ∧
    (let s := { timS [(SYS.PWR_STAT_VIO_OK, 1)] with pwr := { (timS []).pwr with vioAt := 0 } }
     s.is SYS.PWR_STAT_VIO_OK = true ∧ s.pwr.vioAt = 0 ∧
     goesOn (exec (.ethResetRelease 0 5 10000005) s) (fun t => (t.eth 0).rstN && only [] s { t with time := s.time }) = true ∧
     goesOn (exec (.ethResetRelease 0 5 10000004) s) (fun t => t == s) = true) := by decide +kernel

/-- R355 to R359: the first Sync steps device time, later ones give offset, lock, its loss and the end of HOLDOVER. -/
theorem test_time_sync :
    (let s := timS [(ETH.CNT0_RX_PTP 0, 65535)]
     s.timSource 0 = true ∧ s.timSrc = some 0 ∧ s.rd TIM.STAT_STATE = 0 ∧ s.otherGm 0 = false ∧
     goesOn (exec (.sync 0 0 4 0xFD false gm700 10000) s) (fun t => t.timeOfs == -(9300 - (s.rxLat 0 : Int)) && t.rd TIM.STAT_STATE == 1 &&
       t.rd TIM.STAT_PORT == 0 && t.rd TIM.STAT_STEPGEN == 1 && t.rd (ETH.CNT0_RX_PTP 0) == 65535 && (t.eth 0).syncAt == some 10000 &&
       t.rd TIM.STEP_NEW_LO_NEW == 700 + s.rxLat 0) = true ∧
     goesOn (exec (.sync 0 0 4 0xFD true gm700 10000) s) (fun t => (t.eth 0).pend == some (4, 10000 - s.rxLat 0, 100) && t.rd TIM.STAT_STATE == 0) = true ∧
     s.timSource 1 = false ∧ s.ptpIn 1 0 = false) ∧
    (let s := timS [(ETH.STAT_ASCAP 0, 0)]
     s.timSource 0 = false ∧ goesOn (exec (.sync 0 0 4 0xFD false gm700 10000) s) (fun t =>
       only [ETH.CNT0_RX_PTP 0, ETH.RXSTAMP_TIME 0] s t && t.rd (ETH.RXSTAMP_TIME 0) == 10000 - s.rxLat 0) = true) ∧
    (let s (st near far dly : Nat) := let s := timS [(TIM.STAT_STATE, st), (TIM.SERVO_LOCKTH, 50), (ETH.PDELAY_DELAY 0, dly)]
       s.setTime { s.time with near := near, far := far }
     let run (st near far dly : Nat) : Nat × Nat := match exec (.sync 0 0 4 0xFD false gm700 1000) (s st near far dly) with
       | .next t => (t.rd TIM.STAT_STATE, t.rd TIM.OFFSET_O)
       | _ => (9, 0)
     (s 1 0 0 0).rxLat 0 < 300 ∧ (let d := 300 - (s 1 0 0 0).rxLat 0
      run 1 7 0 (d - 50) = (2, 50) ∧ run 1 6 0 (d - 50) = (1, 50) ∧ run 1 7 0 (d - 51) = (1, 51) ∧ run 2 0 7 (d - 51) = (1, 51) ∧
      run 2 0 6 (d - 51) = (2, 51) ∧ run 2 0 7 (d + 50) = (2, 2 ^ 32 - 50) ∧ run 3 0 0 d = (1, 0))) := by decide +kernel

/-- R350, R352, R357: a Follow_Up completes its Sync; requests are answered; a response gives the delay; intervals are accepted. -/
theorem test_time_messages :
    (let s := timS [] { pend := some (4, 1000, 7) }
     goesOn (exec (.followUp 0 0 4 gm700 5000) s) (fun t => t.timeOfs == -293 && (t.eth 0).pend == none && (t.eth 0).syncAt == some 5000) = true ∧
     goesOn (exec (.followUp 0 0 5 gm700 5000) s) (fun t => t.rd (ETH.CNT0_RX_PTP 0) == 1 && only [ETH.CNT0_RX_PTP 0] s t) = true) ∧
    (let s := timS []
     goesOn (exec (.pdelayReq 0 0 4 8000 7000) s) (fun t => (t.eth 0).sent == some (3, 4, 8000 + s.txLat 0) && t.rd (ETH.RXSTAMP_TIME 0) == 7000 - s.rxLat 0 &&
       t.rd (ETH.TXSTAMP_TIME 0) == 8000 + s.txLat 0 && only [ETH.CNT0_RX_PTP 0, ETH.RXSTAMP_TIME 0, ETH.TXSTAMP_TIME 0] s { t with time := s.time }) = true ∧
     goesOn (exec (.signaling 0 0 127 126 9) s) (fun t => (t.eth 0).pdLog == some 127 && t.rd (ETH.INTV_SYNCLOG 0) == 0xFD && !(t.eth 0).mute) = true ∧
     goesOn (exec (.signaling 0 0 128 127 9) s) (fun t => (t.eth 0) == { s.eth 0 with mute := true } && only [ETH.CNT0_RX_PTP 0] s { t with time := s.time }) = true) ∧
    (let s := timS [] { req := some (4, 1000), missed := 2 }
     goesOn (exec (.pdelayResp 0 0 4 300 0 2000) s) (fun t => t.rd (ETH.PDELAY_DELAY 0) == (700 - s.rxLat 0) / 2 && (t.eth 0) == {} &&
       only [ETH.CNT0_RX_PTP 0, ETH.RXSTAMP_TIME 0, ETH.PDELAY_DELAY 0, ETH.NRR 0, ETH.STAT_ASCAP 0] s { t with time := s.time, events := s.events }) = true ∧
     goesOn (exec (.pdelayResp 0 0 4 300 (200000 * 65536 + 1) 2000) s) (fun t => !t.is (ETH.STAT_ASCAP 0)) = true) := by decide +kernel

/-- R350, R355, R358: Announces, their absence, lost Syncs, a new grandmaster. -/
theorem test_time_masters :
    (let s := timS [(TIM.STAT_STATE, 2), (TIM.STAT_PORT, 0), (TIM.GM_LO_GM, 5)] { gm := some 5 }
     let m : AnnounceMsg := { dom := 0, log := 0, prio1 := 1, quality := 2, gm := 6, steps := 0 }
     s.time.injGm = false ∧ m.gm.toNat ≠ s.timGm ∧
     goesOn (exec (.announce 0 m 9) s) (fun t => (t.eth 0).gm == some 6 && t.rd TIM.STAT_STATE == 3 && t.rd (ETH.STAT_ROLE_ACT 0) == 1 &&
       t.rd (ETH.STAT_ROLE_ACT 1) != 2) = true ∧
     goesOn (exec (.announce 0 { m with gm := 5 } 9) s) (fun t => t.rd TIM.STAT_STATE == 2 && (t.eth 0).annAt == 9) = true) ∧
    (let s := timS [(ETH.CFG_STATIC 0, 0), (ETH.INTV_ANNTO 0, 3), (ETH.CFG_GMCAP 0, 0)] { vec := some 3, gm := some 5 }
     goesOn (exec (.announceReceiptTimeout 0 3000000000) s) (fun t => (t.eth 0).vec == none && (t.eth 0).gm == none && t.rd (ETH.STAT_ROLE_ACT 0) == 1) = true ∧
     goesOn (exec (.announceReceiptTimeout 0 2999999999) s) (fun t => t == s) = true) ∧
    (let s := timS [(TIM.STAT_STATE, 2), (TIM.STAT_PORT, 0), (ETH.INTV_SYNCTO 0, 3), (ETH.INTV_SYNCLOG 0, 0)] { syncAt := some 0 }
     goesOn (exec (.syncTimeout 0 3000000000) s) (fun t => (t.eth 0).lost && t.rd (ETH.CNT1_SYNC_TMO 0) == 1 && t.rd TIM.STAT_STATE == 3 && t.time.holdAt == 3000000000) = true ∧
     s.timSource 1 = false ∧
     goesOn (exec (.syncTimeout 0 3000000000) (s.wr TIM.STAT_PORT 1)) (fun t => t.rd TIM.STAT_STATE == 2) = true) ∧
    (let s := timS [(TIM.STAT_STATE, 3), (TIM.STAT_PORT, 0), (TIM.SERVO2_SETTLE, 2)] { gm := some 5 }
     s.otherGm 0 = true ∧ goesOn (exec (.gmSettle 2000000000) s) (fun t => t.timGm == 5 && t.rd TIM.STAT_STATE == 3 &&
       only [TIM.GM_LO_GM, TIM.GM_HI_GM] s { t with time := s.time, events := s.events }) = true) := by decide +kernel

/-- R350, R351, R352, R355: requests and Syncs that the module sends. -/
theorem test_time_sends :
    (let s := timS [] { reqSeq := 65535 }
     goesOn (exec (.pdelayReqSend 0 1000) s) (fun t => t.eth 0 == { s.eth 0 with req := some (65535, 1000 + s.txLat 0), reqAt := some 1000, reqSeq := 0, sent := some (2, 65535, 1000 + s.txLat 0) }) = true) ∧
    (let s := timS [(ETH.INTV_PDLOG 0, 0)] { req := some (3, 5), reqAt := some 0, reqSeq := 4, missed := 2 }
     goesOn (exec (.pdelayReqSend 0 1000000000) s) (fun t => !t.is (ETH.STAT_ASCAP 0) && t.rd (ETH.CNT1_PDELAY_LOST 0) == 1 && (t.eth 0).missed == 3 &&
       (t.eth 0).req == some (4, 1000000000 + s.txLat 0)) = true ∧
     goesOn (exec (.pdelayReqSend 0 999999999) s) (fun t => t == s) = true) ∧
    (let s := timS [(TIM.STAT_STATE, 4), (ETH.STAT_ROLE_ACT 0, 2), (ETH.INTV_SYNCLOG 0, 0xFD)] { sentAt := some 0 }
     goesOn (exec (.syncSend 0 125000000) s) (fun t => (t.eth 0).sent == some (0, 0, 125000000 + s.txLat 0) && (t.eth 0).syncSeq == 1 &&
       only [ETH.TXSTAMP_TIME 0] s { t with time := s.time }) = true ∧
     goesOn (exec (.syncSend 0 124999999) s) (fun t => t == s) = true) := by decide +kernel

/-- Carrier-board port 24 is enabled, SDA high and VIO_H present, with the state `x` and registers `l` beside it. -/
def twS (x : TwPort := {}) (l : List (Fld × Nat) := []) : State :=
  (up ([(TWB.CFG_EN 24, 1), (TWB.CFG_EN 25, 0), (SYS.PWR_STAT_VIO_OK, 1)] ++ l)).setTwp 24 x

/-- TW_XFER on port `p`, address 0x50, kind `k`, with PEC, `w` bytes written from 0x04030201, `r` read. -/
def twC (p k w r : Nat) : Cmd := pk [p + 256 * 0x50 + 65536 * w + 2 ^ 24 * r, k + 256, 0x04030201]

/-- The transaction that command starts. -/
def twX (k w r : Nat) : TwXfer :=
  { cid := 7, flags := 0, ring := 0xFFFF, addr := 0x50, kind := k, pec := true, wr := [1, 2, 3, 4].take w, rn := r }

/-- R401, R403, R404: TW_XFER. -/
theorem test_tw_xfer :
    (let s := twS
     (twS.Takes (cmdPkt (twC 24 0 2 0) 0x0901 5) [0, 1, 2, 3, 4, 5, 6, 7, 8, 9]) ∧ twKindBad 4 1 17 = some 0 ∧ (s).twFenced 24 = false ∧ s.twFenced 25 = true ∧
     repOnly (exec (.twWrite (twC 26 0 1 0) 5) s) s 5 (cmdPkt (twC 26 0 1 0) 0x0901 5) (.err 0x0201 0) = true ∧
     repOnly (exec (.twRead (twC 24 1 0 17) 5) s) s 5 (cmdPkt (twC 24 1 0 17) 0x0901 5) (.err 0x0201 0) = true ∧
     rep (exec (.twBlockRead (twC 25 4 1 1) 5) s) (cmdPkt (twC 25 4 1 1) 0x0901 5) (.err 0x0A03 8) (fun t => t.rd (TWB.STAT_LASTERR 25) == 8 &&
       t.rd (TWB.CNT0_XFER 25) == 1 && keeps (smb ++ [TWB.STAT_LASTERR 25, TWB.CNT0_XFER 25]) s t) = true ∧
     repOnly (exec (.twWrite (twC 3 0 1 0) 5) (s.wr (TWB.CFG_EN 3) 1)) (s.wr (TWB.CFG_EN 3) 1) 5 (cmdPkt (twC 3 0 1 0) 0x0901 5) (.err 0x0A02 3) = true ∧
     repOnly (exec (.twWrite (twC 24 0 1 0) 5) (twS { cur := some (twX 0 1 0) })) (twS { cur := some (twX 0 1 0) }) 5 (cmdPkt (twC 24 0 1 0) 0x0901 5) (.err 0x0302 0) = true ∧
     goesOn (exec (.twWriteRead (twC 24 2 3 16) 5) s) (fun t => (t.twp 24).cur == some { twX 2 3 16 with start := 5 } && t.rd (TWB.STAT_BUSY 24) == 1 &&
       t.cmd.running == [cmdPkt (twC 24 2 3 16) 0x0901 5] && only [TWB.STAT_BUSY 24] s { t with tw := s.tw, cmd := s.cmd }) = true) ∧
    (let s := linkS 4 {} [(TWB.CFG_EN 2, 1)]
     s.bcAvailable 2 = true ∧ s.twFenced 2 = false ∧ goesOn (exec (.twBlockWrite (twC 2 3 2 0) 5) s) (fun t => (t.twp 2).cur == some { twX 3 2 0 with start := 5 } &&
       only [TWB.STAT_BUSY 2] s { t with tw := s.tw, cmd := s.cmd, links := s.links }) = true) := by decide +kernel

/-- R398, R402, R403: how a transaction ends; the PEC bytes are worked out with the CRC-8 of R110. -/
theorem test_tw_done :
    (let s (k w r : Nat) := twS { cur := some (twX k w r) }
     rep (exec (.twXferDone 24 .acked [] 1000000) (s 0 2 0)) (twX 0 2 0).pkt (.ok [0, 0, 0, 0]) (fun t => (t.twp 24).cur == none && t.rd (TWB.STAT_LASTERR 24) == 0 &&
       t.rd (TWB.STAT_BUSY 24) == 0 && t.rd (TWB.CNT0_XFER 24) == 1) = true ∧
     rep (exec (.twXferDone 24 .acked [0x2A, 0] 1000000) (s 1 0 1)) (twX 1 0 1).pkt
       (if crc8 [0xA1, 0x2A] = 0 then .ok [0x2A, 0, 0, 0] else { status := 0x0A03, detail := 6, res := [0x2A, 0, 0, 0] })
       (fun t => t.rd (TWB.CNT2_PEC_ERR 24) == 1) = true ∧
     rep (exec (.twXferDone 24 .acked [3, 1, 2, 3, 0] 1000000) (s 4 1 2)) (twX 4 1 2).pkt { status := 0x0A03, detail := 7 + 256 * 3, res := [0, 0, 0, 0] } (fun _ => true) = true ∧
     rep (exec (.twXferDone 24 (.addrNack true) [] 1000000) (s 2 1 1)) (twX 2 1 1).pkt { status := 0x0A03, detail := 1 + 256, res := [0, 0, 0, 0] } (fun t =>
       t.rd (TWB.CNT0_NACK 24) == 1 && t.rd (TWB.STAT_LASTERR 24) == 1) = true ∧
     rep (exec (.twXferDone 24 (.dataNack 3) [] 1000000) (s 0 4 0)) (twX 0 4 0).pkt { status := 0x0A03, detail := 2 + 256 * 3, res := [0, 0, 0, 0] } (fun _ => true) = true ∧
     rep (exec (.twXferDone 24 (.arbLost 1) [9] 1000000) (s 2 1 2)) (twX 2 1 2).pkt { status := 0x0A03, detail := 3 + 256, res := [9, 0, 0, 0] } (fun t =>
       t.rd (TWB.STAT_LASTERR 24) == 3 && t.rd (TWB.STAT_BUSY 24) == 0) = true) ∧
    goesOn (exec (.twXferDone 24 .acked [] 1000000) twS) (fun t => t == twS) = true ∧ goesOn (exec (.twXferDone 3 .acked [] 5) twS) (fun t => t == twS) = true := by
  decide +kernel

/-- R408, R409: timeouts and bus clears. -/
theorem test_tw_timeout :
    (let s := twS { cur := some (twX 0 2 0) }
     goesOn (exec (.twTimeout 24 ⟨false, 0⟩ 30000000) s) (fun t => t.rd (TWB.CNT1_TIMEOUT 24) == 1 && (t.twp 24).cur == none && t.rd (TWB.STAT_SCL_TMO_STKY 24) == 1 &&
       t.rd (TWB.STAT_FENCED 24) == 0 && t.rd (TWB.STAT_LASTERR 24) == 4) = true ∧
     goesOn (exec (.twTimeout 24 ⟨true, 0⟩ 35000000) (twS { cur := some (twX 0 2 0), injStuck := true })) (fun t => t.rd (TWB.STAT_SDA_TMO_STKY 24) == 1 && t.rd (TWB.CNT2_CLEAR 24) == 1 &&
       t.rd (TWB.STAT_FENCED 24) == 1 && t.rd (TWB.STAT_LASTERR 24) == 9 && (t.twp 24).cur == none) = true ∧
     goesOn (exec (.twTimeout 3 ⟨false, 0⟩ 30000000) s) (fun t => t == s) = true ∧
     goesOn (exec (.twTimeout 24 ⟨true, 0⟩ 34999999) s) (fun t => t == s) = true ∧
     s.twDue 24 (twX 0 2 0) .acked [] 91799 = false ∧ s.twDue 24 (twX 0 2 0) .acked [] 91800 = true) ∧
    (twS.Takes (cmdPkt (pk [24]) 0x0902 5) [0]) ∧
    rep (exec (.twClear (pk [24]) 5) (twS {} [(TWB.STAT_FENCED 24, 1)])) (cmdPkt (pk [24]) 0x0902 5) (.ok []) (fun t => t.rd (TWB.STAT_FENCED 24) == 0 && t.rd (TWB.CNT2_CLEAR 24) == 1) = true ∧
    rep (exec (.twClear (pk [24]) 5) (twS { injStuck := true })) (cmdPkt (pk [24]) 0x0902 5) (.err 0x0A03 9) (fun t => t.rd (TWB.STAT_FENCED 24) == 1) = true ∧
    repOnly (exec (.twClear (pk [26]) 5) twS) twS 5 (cmdPkt (pk [26]) 0x0902 5) (.err 0x0201 0) = true ∧
    repOnly (exec (.twClear (pk [3]) 5) twS) twS 5 (cmdPkt (pk [3]) 0x0902 5) (.err 0x0A02 3) = true ∧
    goesOn (exec (.twClear (pk [2]) 5) (linkS 4)) (fun t => t.cmd.running == [cmdPkt (pk [2]) 0x0902 5] && (t.twp 2).clearCmd == some (cmdPkt (pk [2]) 0x0902 5)) = true := by
  decide +kernel

/-- STP answers. -/
def stpS (l : List (Fld × Nat) := []) : State := up ([(SYS.PWR_STAT_VIO_OK, 1), (TWBG.STP_CFG_EN, 1), (TWBG.STP_STAT_ADDR, 0x61)] ++ l)

/-- 64 bytes of a packet: IDENT, CID 0x0203, W0 = 9. -/
def stpD : List Byte := ([1, 1, 3, 2, 0, 0, 0, 0, 9] ++ List.replicate 55 0).map (BitVec.ofNat 8)

/-- R393, R411 to R413, R414: reads, abandoned transactions, the clock-low timeout, wake. -/
theorem test_stp :
    (let s := stpS [(SYS.MODID_ID, 0x1234), (CMD.STAT_ARMED, 1)]
     s.stpOn 5 = true ∧ (up []).stpOn 5 = false ∧ goesOn (exec (.stpAbandon 5) (up [])) (fun t => t == up []) = true ∧
     goesOn (exec (.smbusIdent 5) s) (fun t => t.busRead % 2 ^ 72 == leNat (16 :: leBytes 4 (s.rd SYS.ID) ++ [s.rd SYS.STEPPING_DIGIT, s.rd SYS.STEPPING_LETTER, 0x34, 0x12]) &&
       { t with now := s.now, busRead := s.busRead } == s) = true ∧
     goesOn (exec (.smbusStatus 5) s) (fun t => t.busRead == leNat ([8, s.stpState, 2, 0, s.rd THM.STAT_BAND, 1, 0, 0, 0] ++ [crc8 [0xC2, 2, 0xC3, 8, s.stpState, 2, 0, s.rd THM.STAT_BAND, 1, 0, 0, 0]])) = true ∧
     goesOn (exec (.stpAbandon 5) s) (fun t => t.rd TWBG.STP_CNT_ABANDONED == 1 && t.rd TWBG.STP_STAT_ABANDON_STKY == 1 &&
       only [TWBG.STP_CNT_ABANDONED, TWBG.STP_STAT_ABANDON_STKY, TWBG.STP_STAT_BUSY] s { t with events := s.events }) = true ∧
     goesOn (exec (.stpSclTimeout 5 (5 + 1000000 * max 1 (s.rd TWBG.STP_CFG_TLOTMO))) (s.wr TWBG.STP_STAT_BUSY 1)) (fun t => t.rd TWBG.STP_STAT_BUSY == 0 &&
       only [TWBG.STP_STAT_BUSY] s t) = true) ∧
    (let s := { stpS with pwr := { (stpS).pwr with st := .smoulder } }
     s.pwr.stpWoke = false ∧ goesOn (exec (.stpWake 5) s) (fun t => t.pwr.wake == some 2 && t.pwr.stpWoke && t.pwr.stpAt == some 5 && t.rd TWBG.STP_STAT_WAKE_STKY == 1 &&
       only [TWBG.STP_STAT_WAKE_STKY] s { t with pwr := s.pwr }) = true) := by decide +kernel

/-- R394, R410, R411: one command at a time, with a good PEC or none. -/
theorem test_stp_commands :
    (let s := stpS
     let good := crc8 ([0xC2, 0x10, 64] ++ stpD.map BitVec.toNat)
     s.rd SYS.BOOT_FAIL = 0 ∧ stpD.length = 64 ∧
     goesOn (exec (.smbusSubmit stpD (some (BitVec.ofNat 8 good)) 5) s) (fun t => (t.cmd.smbWait.map fun c => (c.op, c.cid, c.arg 0, c.idx)) == some (0x0101, 0x0203, 9, 0xFFFF) &&
       t.cmd.smbCid == 0x0203 && t.rd CMD.STAT_SMB_BUSY == 1 && only [CMD.STAT_SMB_BUSY] s { t with cmd := s.cmd } &&
       goesOn (exec (.smbusSubmit stpD none 6) t) (fun u => u == t) &&
       goesOn (exec (.smbusReply 6) t) (fun u => u.busRead % 2 ^ 72 == leNat (32 :: ((Reply.err 0x0902 0).bytes { op := 0x0101, cid := 0x0203, idx := 0xFFFF } 0).take 8))) = true ∧
     goesOn (exec (.smbusSubmit stpD (some (BitVec.ofNat 8 (good + 1))) 5) s) (fun t => t.rd TWBG.STP_CNT_PEC_ERR == 1 && t.rd TWBG.STP_STAT_PEC_STKY == 1 &&
       only [TWBG.STP_CNT_PEC_ERR, TWBG.STP_STAT_PEC_STKY] s { t with events := s.events }) = true ∧
     goesOn (exec (.smbusSubmit stpD none 5) (stpS [(TWBG.STP_CFG_PEC_REQ, 1)])) (fun t => t == stpS [(TWBG.STP_CFG_PEC_REQ, 1)]) = true ∧
     goesOn (exec (.smbusReply 5) { s with cmd := { s.cmd with smbReply := some [1, 2] } }) (fun t => t.busRead % 2 ^ 24 == leNat [2, 1, 2]) = true) := by decide +kernel

/-- R421, R422, R431, R448: sensors, the model's fallback, telemetry. -/
theorem test_warden_sensors :
    (let s := { up [(THM.STAT_FALLBACK, 1)] with thm := { good := 1000 } }
     goesOn (exec (.modelFallback 5) s) (fun t => !t.is THM.STAT_FALLBACK && t.thm == {} && only [THM.STAT_FALLBACK] s { t with thm := s.thm, events := s.events }) = true) ∧
    (let s := { up [] with thm := { bigRun := [(2, 100)] } }
     s.is THM.STAT_FALLBACK = false ∧ s.sensorOk 2 = true ∧ goesOn (exec (.modelFallback 5) s) (fun t => t.is THM.STAT_FALLBACK && t.thm == {}) = true) ∧
    (let s := up [(THM.STAT_NAND_OK, 1)]
     s.sensorBad 6 10241 = true ∧ s.sensorBad 6 10240 = false ∧ s.sensorBad 0 11520 = false ∧
     goesOn (exec (.sensorFault 6 10241 5) s) (fun t => !t.sensorOk 6 && !t.is THM.STAT_NAND_OK && t.sensorOk 0 && AMap.get 0 t.thm.badAt 6 == 5 &&
       goesOn (exec (.sensorValid 6 1000000005) t) (fun u => u.sensorOk 6 && only [sensorInvalid 6] t u)) = true ∧
     goesOn (exec (.sensorFault 6 10240 5) s) (fun t => t == s) = true) ∧
    (let s := { up [] with thm := { tlPeek := [[5], [6, 7]] } }
     goesOn (exec .telemetryPeekPop s) (fun t => t.busRead == 5 && t.thm.tlPeek == [[6, 7]] && t.thm.tlLast == 5 && t.rd THM.TLPK_DATA_DATA == 5) = true ∧
     goesOn (exec .telemetryPeekPop (up [])) (fun t => t.busRead == 0 && t.rd THM.TLPK_STAT_UNDERRUN == 1) = true) ∧
    (let s := up [(DIA.TEL_CFG_EN, 1), (DIA.TEL_SEQ_SEQ, 2 ^ 32 - 1), (DIA.TEL_CFG_DQ62, 1)]
     (s.dq 62).credits = [] ∧ s.diag.telAt + s.telPeriod ≤ 10 ^ 10 ∧
     goesOn (exec (.telemetryRecord (10 ^ 10)) s) (fun t => t.rd DIA.TEL_SEQ_SEQ == 0 && t.thm.tlPeek.length == 1 && t.diag.telAt == 10 ^ 10 &&
       t.rd DIA.TEL_DROP_DROP == 1) = true) := by decide +kernel

/-- R435 to R437: service firmware beats, stops, restarts. -/
theorem test_warden_service :
    (let s := up [(DIA.SVC_CFG_AUTORESTART, 0)]
     goesOn (exec (.serviceHeartbeat 5) s) (fun t => t.diag == { s.diag with beatAt := 5 } && only [] s { t with diag := s.diag }) = true ∧
     s.diag.beatAt + s.svcTmo ≤ 10 ^ 9 ∧
     goesOn (exec (.serviceStopped (10 ^ 9)) { s with cmd := { waiting := [{ op := 0x0101 }, { op := 0x0B03 }] } }) (fun t => t.rd DIA.SVC_STAT_STOPPED_STKY == 1 &&
       t.rd CMD.STAT_SVC == 3 && t.cmd.waiting == [{ op := 0x0B03 }]) = true) ∧
    (let s := (up [(CMD.STAT_SVC, 1)]).wr (AX.CFG_COMB 1) 1
     stagedFld (AX.CFG_COMB 1).key = some (AX.CFG_COMB 1) ∧ goesOn (exec (.serviceRestarted 5) s) (fun t => t.rd CMD.STAT_SVC == 2 &&
       t.rd DIA.SVC_STAT_RESTARTS == 1 && t.diag.beatAt == 5 && t.rd (AX.CFG_COMB 1) == 0 && t.mems == s.mems) = true) := by decide +kernel

/-- Rotation is on; standby 1 is `x`, in state `st`; engine 33 waits at an item. -/
def rotS (st : Nat) (x : Standby) (l : List (Fld × Nat) := []) : State :=
  let e : Engine := { wait := some (.item 0), x := [(4, 99)] }
  ((((up ([(DIA.ROT_CFG_EN, 1), (DIA.SB_STATE 1, st), (DIA.SB_NEXT 1, 33), (DIA.SB_SERVES 1, 255), (ENG.STAT_STATE 33, 1), (ENG.PC 33, 16)] ++ l)).setSby 1 x).setEng 33 e).setGraph
    { active := some { id := 1, nodes := [{ engines := 2 ^ 33 }] } }).memPut (.dmem 33) 8 [7]

/-- R438, R439: the standby takes engine 33, or tests one without a placement; takeover, its omission, release. -/
theorem test_warden_rotation :
    (let s := rotS 0 { ready := true }
     s.placed 33 = true ∧ s.placed 34 = false ∧ s.engFenced 33 = false ∧ s.testing 33 = false ∧ s.devAt (10 ^ 9) % (1000000 * max 1 (s.rd DIA.ROT_CFG_PERIOD)) = 0 ∧
     goesOn (exec (.rotationTake 1 (10 ^ 9)) s) (fun t => t.rd (DIA.SB_NEXT 1) == 34 && t.sby 1 == { take := some (33, 10 ^ 9) }) = true ∧
     goesOn (exec (.rotationTake 1 (10 ^ 9)) (s.wr (DIA.SB_NEXT 1) 63)) (fun t => t.rd (DIA.SB_NEXT 1) == 32 && t.testing 63 && t.rd (ENG.STAT_STATE 63) == 4 &&
       t.sby 1 == {}) = true) ∧
    (let s := rotS 0 { take := some (33, 5) }
     s.takeDrained 33 = true ∧ s.clean ∧ s.sbState 1 ≠ 4 ∧
     goesOn (exec (.standbyTakeover 1 9) (s.wr (ENG.STAT_STATE 33) 3)) (fun t => t == s.wr (ENG.STAT_STATE 33) 3) = true ∧
     goesOn (exec (.takeoverSkipped 1 (5 + s.drainTmo)) (s.wr DIA.ROT_CFG_EN 0)) (fun t => t.sby 1 == {} && t.rd DIA.ROT_CNT_SKIPPED == 1 && t.rd DIA.ST_LAST_RESULT == 5 &&
       t.rd DIA.ST_LAST_ENGINE == 33) = true) ∧
    (let s := rotS 4 { take := some (33, 5) }
     s.takeDrained 33 = true ∧ goesOn (exec (.standbyTakeover 1 9) s) (fun t => t.sbState 1 == 4 && t.testing 33 && t.rd (ENG.STAT_STATE 33) == 4 && t.mems == s.mems) = true) ∧
    (let s := (rotS 2 { back := true } [(DIA.SB_SERVES 1, 34), (ENG.STAT_STATE 129, 1), (ENG.STAT_SERVING 129, 1), (ENG.STAT_SERVES 129, 34), (DIA.ROT_CFG_EN, 0)]).setEng 129
       { wait := some (.item 0) }
     s.takeDrained 129 = true ∧ goesOn (exec (.standbyRelease 1 9) s) (fun t => t.rd (DIA.SB_SERVES 1) == 255 && t.rd (ENG.STAT_SERVING 129) == 0 && t.sby 1 == {} &&
       t.sbState 1 == 0 && t.rd (ENG.STAT_STATE 129) == 6) = true) := by decide +kernel

/-- R440 to R442: results, and tests by command. -/
theorem test_warden_selftest :
    (let s (st : Nat) := (rotS st {} [(ENG.STAT_STATE 33, 4), (DIA.AUTO_ENG_EN, 1)]).setDiag { (rotS st {}).diag with tests := [(33, 0, 1), (129, 0, 6)] }
     24000000 * 1000 ≤ ((s 1).at (10 ^ 9)).clocks ∧ (s 1).runner 33 = 33 ∧
     goesOn (exec (.selftestDone 33 0 9 (10 ^ 9)) ((s 1).wr DIA.ROT_CFG_EN 0)) (fun t => !t.testing 33 && t.rd DIA.ST_LAST_ENGINE == 33 && t.rd DIA.ST_LAST_RESULT == 0 && t.rd DIA.ST_ADDR_ADDR == 0 &&
       t.rd (ENG.STAT_STATE 33) == 1) = true ∧
     goesOn (exec (.selftestDone 33 3 9 (10 ^ 9)) ((s 1).wr DIA.ROT_CFG_EN 0)) (fun t => t.rd DIA.ST_LAST_RESULT == 3 && t.rd DIA.ST_ADDR_ADDR == 9 && t.engFenced 33 &&
       t.rd (ENG.STAT_STATE 33) == 5) = true ∧
     goesOn (exec (.selftestDone 129 0 9 (10 ^ 9)) (s 1)) (fun t => t.sbState 1 == 0 && (t.sby 1).ready && t.rd (ENG.STAT_STATE 129) == 6) = true ∧
     goesOn (exec (.selftestDone 129 4 9 (10 ^ 9)) (s 1)) (fun t => t.sbState 1 == 4) = true) ∧
    (let s := rotS 0 {}
     s.Takes (cmdPkt (pk [34]) 0x0A03 5) [0] ∧
     repOnly (exec (.engineTest (pk [132]) 5) s) s 5 (cmdPkt (pk [132]) 0x0A03 5) (.err 0x0201 0) = true ∧
     repOnly (exec (.engineTest (pk [34]) 5) (rotS 1 {})) (rotS 1 {}) 5 (cmdPkt (pk [34]) 0x0A03 5) (.err 0x0302 0) = true ∧
     goesOn (exec (.engineTest (pk [34]) 5) s) (fun t => t.cmd.running == [cmdPkt (pk [34]) 0x0A03 5] && t.testing 34 && AMap.get {} t.diag.tcmds 34 == cmdPkt (pk [34]) 0x0A03 5) = true ∧
     goesOn (exec (.engineTest (pk [33]) 5) s) (fun t => t.sby 1 == { take := some (33, 5) }) = true ∧
     goesOn (exec (.engineTest (pk [129]) 5) s) (fun t => t.testing 129) = true) := by decide +kernel

/-- R384, R386, R390: lockstep, access violations, nonces, the debug port. -/
theorem test_warden_guard :
    (let s := up [(THM.STAT_NAND_OK, 1), (THM.STAT_BAND, 1), (THM.STAT_THROTTLE, 9)]
     goesOn (exec (.lockstepMismatch 5) s) (fun t => t.rd CMD.STAT_WARDEN == 2 && !t.is THM.STAT_NAND_OK && t.diag.mism == some 5 &&
       goesOn (exec (.wardenResume 6) t) (fun u => u.rd CMD.STAT_WARDEN == 1 && only [CMD.STAT_WARDEN] t u &&
         goesOn (exec (.lockstepMismatch 1000000004) u) (fun v => v.rd CMD.STAT_WARDEN == 3 && v.rd THM.STAT_THROTTLE == 9 && v.rd THM.STAT_BAND == 3) &&
         goesOn (exec (.lockstepMismatch 1000000005) u) (fun v => v.rd CMD.STAT_WARDEN == 2))) = true ∧
     goesOn (exec (.lockstepMismatch 5) (s.wr CMD.STAT_WARDEN 3)) (fun t => t == s.wr CMD.STAT_WARDEN 3) = true ∧
     goesOn (exec (.accessViolation 0x1234 5) s) (fun t => t.busRead == 0 && only [] s { t with busRead := s.busRead, diag := s.diag, events := s.events } &&
       t.diag.secLog.length == s.diag.secLog.length + 1) = true) ∧
    (let s := (up []).setDiag { (up []).diag with nonce := some (8, 5) }
     goesOn (exec (.debugNonceExpiry 60000000005) s) (fun t => t == (s.at 60000000005).setDiag { s.diag with nonce := none }) = true) ∧
    (let s := up [(CMD.STAT_DEBUG, 1), (SYS.PWR_STAT_VIO_OK, 1)]
     (s.rd CMD.STAT_DEBUG).testBit 0 = true ∧ (s.rd CMD.STAT_DEBUG).testBit 1 = false ∧
     goesOn (exec (.debugPortAccess 0 3 5) s) (fun t => t.rd (ENG.STAT_STATE 3) == 7 && only [ENG.STAT_STATE 3] s t) = true ∧
     goesOn (exec (.debugPortAccess 1 3 5) s) (fun t => t == s) = true) := by decide +kernel

/-- What `ColdReset` says, on the keys that the state lists. -/
def coldOk (fs : List Fld) (t : State) : Bool :=
  t.regs.all (fun x => aliveKey x.1 || fs.any fun f => f.key == x.1) && t.mems == { host := t.mems.host } && t.engines == [] && t.cmd == {} && t.dlv == {} &&
  t.graph == {} && t.memu == {}

/-- What `InSmoulder` says. -/
def smldOk (t : State) : Bool := t.pwr.st == .smoulder && coldOk [] t && t.rd TIM.STAT_STATE == 3
/-- What `InDeferral` says. -/
def deferOk (t : State) (down : Nat) : Bool := t.pwr.st == .deferral && t.rd SYS.PWR_STAT_LAST_DOWN == down && coldOk [] t

/-- A state with some power state and power unit fields. -/
def pwS (p : PowerUnit) (l : List (Fld × Nat) := []) : State := { up l with pwr := p }

/-- R287, R372: resets from the host's side. -/
theorem test_host_resets :
    (let s := { up [(DQ.CFG_EN 3, 1), (CMD.CFG_EN, 1), (CMD.BOOT_SCNT, 9), (EP.STAT_OPEN 2, 5)] with cmd := { waiting := [{ op := 0x0101 }] }, msixPend := 4, epoch := { armed := some {} } }
     s.hostLive = true ∧ (DQ.CFG_EN 3).key / 32 / 0x10000 = 2 ∧ stagedFld (EP.STAT_OPEN 2).key = none ∧
     [Instr.pcieReset 5, .functionLevelReset 5, .d3hotEntry 5].all (fun c => goesOn (exec c s) fun t => t.rd (DQ.CFG_EN 3) == 0 && t.rd CMD.CFG_EN == 0 && t.rd CMD.BOOT_SCNT == 9 &&
       t.rd (EP.STAT_OPEN 2) == 5 && t.cmd == {} && t.epoch.armed == none && t.msixPend == 0 && t.pwr == s.pwr && t.mems == s.mems) = true ∧
     goesOn (exec (.pcieReset 5) (pwS { st := .smoulder })) (fun t => t == pwS { st := .smoulder }) = true) := by decide +kernel

/-- R460, R464, R466, R467: power on, dips, the keep-alive domain, VAUX, VIN over, VIO_H. -/
theorem test_supplies :
    goesOn (exec (.powerOn 5 20000005) (pwS { st := .off, alive := false })) (fun t => t.pwr.st == .startup && t.pwr.alive && t.pwr.t0 == 20000005 && t.rd SYS.BOOT_STAGE == 1 &&
      t.rd SYS.BOOT_KIND == 0 && t.dev == 0) = true ∧
    goesOn (exec (.powerOn 5 20000004) (pwS { st := .off })) (fun t => t == pwS { st := .off }) = true ∧
    [Instr.holdEnter 5, .diaInjSysVindip 5].all (fun c => goesOn (exec c (up [])) (fun t => t.rd SYS.PWR_STAT_STATE == 1 && t.rd SYS.PWR_STAT_VIN_WARN == 1 && t.rd SYS.DIP_COUNT == 1 &&
      t.rd SYS.DIP_HOLDS == 1 && t.pwr.dipAt == some 5 && t.pwr.holdDips == 1 && t.pwr.holdAt == 5 && goesOn (exec c t) (fun u => u == t) &&
      goesOn (exec (.vinDip 8000 7005) t) (fun u => u.rd SYS.DIP_LAST_US == 7 && u.pwr == { t.pwr with dipAt := none, dipMin := 8000, dipEnd := 7005 } &&
        only [SYS.DIP_LAST_US] t { u with pwr := t.pwr, events := t.events } && goesOn (exec c u) (fun v => v.pwr.holdDips == 2 && v.rd SYS.DIP_HOLDS == 1) &&
        goesOn (exec (.holdExit 7005 20007005) u) (fun v => v.rd SYS.PWR_STAT_STATE == 0 && v.pwr == u.pwr) && goesOn (exec (.holdExit 7006 20007005) u) (fun v => v == u)))) = true ∧
    (let s := pwS { st := .up, holdAt := 5 } [(SYS.PWR_STAT_STATE, 1), (SYS.PWR_CFG_HOLDMAX, 1)]
     goesOn (exec (.undervoltageShutdown 20000005) s) (fun t => deferOk t 3) = true) ∧
    goesOn (exec (.vinOver true 63000 5) (up [])) (fun t => t.pwr.overAt == some 5 && t.is SYS.PWR_STAT_VIN_OVER_STKY &&
      goesOn (exec (.vinOver false 60000 9) t) (fun u => u.pwr.overAt == none && only [] t { u with pwr := t.pwr }) &&
      goesOn (exec (.overvoltageShutdown 400000005) t) (fun u => deferOk u 5)) = true ∧
    goesOn (exec (.keepaliveStart 9) (pwS { alive := false })) (fun t => t.dev == 0 && t.pwr == {}) = true ∧
    goesOn (exec (.vauxLow true 9) (up [(SYS.PWR_STAT_VAUX_OK, 1)])) (fun t => !t.is SYS.PWR_STAT_VAUX_OK) = true ∧
    goesOn (exec (.vioLost 9) (up [(SYS.PWR_STAT_VIO_OK, 1)])) (fun t => !t.is SYS.PWR_STAT_VIO_OK &&
      goesOn (exec (.vioRestored 12) t) (fun u => u.is SYS.PWR_STAT_VIO_OK && u.pwr == { t.pwr with vioAt := 12 })) = true := by decide +kernel

/-- R463: camera power faults and restores. -/
theorem test_vcam :
    (let s := up [(LNK.POC_CFG_EN 2, 1), (LNK.POC_STAT_STATE 2, 2), (LNK.POC_STAT_STATE 3, 2)]
     s.on (LNK.POC_CFG_EN 2) = true ∧ goesOn (exec (.vcamFault true 30000 5) s) (fun t => t.is SYS.PWR_STAT_VCAM_FAULT && t.poc 2 == 4 && t.poc 3 == 0 &&
       goesOn (exec (.vcamRestore ⟨12000, 9⟩ 10000009) t) (fun u => !u.is SYS.PWR_STAT_VCAM_FAULT && !u.pwr.vcamOver && !u.pwr.vcamLow && u.poc 2 == 1)) = true ∧
     ((List.range 24).map fun k => if s.poc k = 3 ∨ s.on (LNK.POC_CFG_EN k) then s.pocLim k else 0).sum ≤ 1400) := by decide +kernel

/-- R427 to R429, R469, R471, R473: brown-out, loss of the keep-alive domain, trips, SMOULDER. -/
theorem test_power_down :
    (let s := up [(AX.CFG_COMB 1, 1), (LNK.STAT_STATE 3, 4), (TIM.STAT_STATE, 2)]
     goesOn (exec (.brownOut 5) s) (fun t => smldOk t && t.rd SYS.PWR_STAT_LAST_DOWN == 4 && t.pwr.wakeVin && t.rd (LNK.STAT_STATE 3) == 0) = true ∧
     goesOn (exec (.keepaliveLoss 5) s) (fun t => t.pwr.st == .off && !t.pwr.alive && t.regs == [] && t.now == 5) = true ∧
     goesOn (exec (.hardwareTrip 2 9600 9600 5) s) (fun t => smldOk t && t.rd SYS.PWR_STAT_LAST_DOWN == 2 && t.rd THM.STAT_SHUT_CAUSE == 2 && t.rd THM.DEFER_US == 0 && t.pwr.thermal) = true ∧
     goesOn (exec (.haltedWardenDiodeTrip 2 8960 5) (s.wr CMD.STAT_WARDEN 3)) (fun t => deferOk t 2 && t.rd THM.STAT_SHUT_CAUSE == 3 && t.pwr.thermal &&
       goesOn (exec (.shutdownDeferralEnd 7005) t) (fun u => smldOk u && u.rd THM.DEFER_US == 7 && u.rd SYS.PWR_STAT_LAST_DOWN == 2)) = true) ∧
    goesOn (exec (.brownOut 5) (pwS { st := .entering } [(SYS.PWR_STAT_LAST_DOWN, 1)])) (fun t => smldOk t && t.rd SYS.PWR_STAT_LAST_DOWN == 1) = true ∧
    goesOn (exec (.brownOut 5) (pwS { st := .smoulder })) (fun t => t.pwr == { st := .smoulder, wakeVin := true }) = true ∧
    goesOn (exec (.smoulderReached 50000000) (pwS { st := .entering } [(SYS.PWR_STAT_LAST_DOWN, 1)])) (fun t => smldOk t && t.rd SYS.PWR_STAT_LAST_DOWN == 1) = true := by
  decide +kernel

/-- R430, R472, R475, R502: wake conditions, wake, RESET_N. -/
theorem test_wake :
    (let s := pwS { st := .smoulder, wakeCfg := [0, 1, 1, 0, 1, 0, 1000], wakeVin := true, downAt := 1000000 }
     s.wakeArmed = true ∧ s.wakeSet 4 = 1 ∧ s.wakeSet 2 = 1 ∧ s.wakeSet 6 = 1000 ∧
     goesOn (exec (.wakeNAssert 5) s) (fun t => t.pwr == { s.pwr with wake := some 1 } && only [] s { t with pwr := s.pwr }) = true ∧
     goesOn (exec (.wakeTimer 1000) s) (fun t => t.pwr == { s.pwr with wake := some 4 }) = true ∧ goesOn (exec (.wakeTimer 999) s) (fun t => t == s) = true ∧
     goesOn (exec (.wakeVinReturn 5 20000005) s) (fun t => t.pwr == { s.pwr with wake := some 5 } &&
       goesOn (exec (.wake 5 9000 22000005) t) (fun u => u.pwr.st == .startup && u.pwr.wake == none && u.rd SYS.PWR_STAT_WAKE_SRC == 5 && u.rd SYS.BOOT_KIND == 3 &&
         u.rd SYS.BOOT_STAGE == 1 && u.rd SYS.SMLD_MS_MS == 21)) = true) ∧
    (let s := pwS { st := .smoulder, wake := some 2, thermal := true }
     goesOn (exec (.wake 5 6401 20000005) s) (fun t => t == s) = true ∧
     goesOn (exec (.wake 5 6400 20000005) s) (fun t => t.pwr.st == .startup && t.pwr.resume && t.rd SYS.PWR_STAT_WAKE_SRC == 2) = true) ∧
    goesOn (exec (.resetNAssert 5) (up [(AX.CFG_COMB 1, 1), (LNK.STAT_STATE 3, 4)])) (fun t => t.pwr.st == .resetHeld && t.rd SYS.BOOT_KIND == 2 && coldOk [SYS.BOOT_KIND] t && t.pwr.downAt == 5 &&
      goesOn (exec (.resetNRelease 9) t) (fun u => u.pwr == { t.pwr with st := .startup, t0 := 1000005 })) = true := by decide +kernel

/-- R497, R499: stages of start-up. -/
theorem test_startup :
    State.reset.stageDue 1 0 = true ∧
    (let s := pwS { st := .startup, done := 1 } [(CMD.STAT_WARDEN, 0)]
     goesOn (exec (.stageWarden 5) s) (fun t => t.rd CMD.STAT_WARDEN == 1 && t.rd SYS.BOOT_STAGE == 2 && t.pwr == { s.pwr with done := 2 }) = true) ∧
    (let s := pwS { st := .startup, done := 2 }
     goesOn (exec (.stageTrain 0 5) s) (fun t => t.rd SYS.BOOT_STAGE == 3 && t.pwr.done == 3 && t.memTop == s.memTop) = true ∧
     goesOn (exec (.stageTrain 4 5) s) (fun t => t.rd SYS.BOOT_STAGE == 3 && t.rd MEM.STAT_FENCE == 2 && t.rd SYS.BOOT_CHFAIL == 4 && t.memTop == s.memTop / 4 * 3) = true ∧
     goesOn (exec (.stageTrain 6 5) s) (fun t => t.rd SYS.BOOT_FAIL == 2 && t.pwr.done == 2 && goesOn (exec (.stageTrain 0 6) t) (fun u => u == t)) = true) ∧
    (let s := pwS { st := .startup, done := 3 }
     s.stageDue 4 5 = true) ∧
    (let s := pwS { st := .startup, done := 4 }
     s.stageDue 5 5 = true) ∧
    (let s := pwS { st := .startup, done := 5, t0 := 1000000 } [(CMD.STAT_SVC, 1)]
     goesOn (exec (.stageReady 8000000) s) (fun t => t.pwr == { s.pwr with st := .up, done := 6 } && t.rd CMD.STAT_SVC == 2 && t.rd SYS.BOOT_STAGE == 6 && t.rd SYS.BOOT_MS_MS == 7 &&
       t.diag.beatAt == 8000000) = true) := by decide +kernel

/-- Each check of `Instr.wf` refuses an ill-formed command and passes one within the range. -/
theorem test_wf :
    (Instr.registerWrite 0x42102 5 15 9).wf = false ∧ (Instr.registerWrite 0x42104 5 15 9).wf = true ∧
    (Instr.loReadLatch ⟨0x42100, 0⟩ 9).wf = false ∧ (Instr.loReadLatch ⟨0x42101, 3⟩ 9).wf = true ∧
    (Instr.loopPacket 2 2 [1] [0, 1] 9).wf = false ∧ (Instr.loopPacket 2 2 [1, 2] [0] 9).wf = false ∧ (Instr.loopPacket 2 2 [1, 2] [0, 1] 9).wf = true ∧
    (Instr.sysIdent { pkt [] with w := [1] } 5).wf = false ∧ (Instr.sysIdent { pkt [] with idx := 4096 } 5).wf = false ∧
    (Instr.sysIdent (pkt []) 5).wf = true ∧ (Instr.sysIdent { pkt [] with idx := 0xFFFF } 5).wf = true ∧
    (Instr.managementTick { tickIn 24000 with rails := [] } 5).wf = false ∧ (Instr.managementTick { tickIn 24000 with diodes := [] } 5).wf = false ∧
    (Instr.managementTick { tickIn 24000 with gddr := List.replicate 17 0 } 5).wf = false ∧ (Instr.managementTick (tickIn 24000) 5).wf = true ∧
    (Instr.twXferDone 24 .acked (List.replicate 257 0) 5).wf = false ∧ (Instr.twXferDone 24 .acked [1] 5).wf = true ∧
    (Instr.smbusSubmit (List.replicate 65 0) none 5).wf = false ∧ (Instr.smbusSubmit stpD none 5).wf = true := by decide +kernel

/-- No word spells a command, so none is placed in the queue. -/
theorem test_decode_none : decodeTableWord 32 5 = none ∧ State.withFetchWord State.reset 32 5 = State.reset := by decide +kernel

/-- A command runs as the first after reset. -/
theorem test_first_command :
    goesOn (step { State.reset with pending := [.epClrUnc 2] }) (fun t => t.pending == []) = true := by decide +kernel

end Sys2Proof.Tests
end

section
/-! SUPPORT. The address map: the fields of a register lie apart from each other, so a write of one leaves the others. -/

namespace Sys2Proof.Machine

/-- Fields that lie apart: no two share a key, each begins within its 32-bit register, and only an RW field drops its six low bits. -/
def FieldsApart (l : List Fld) : Prop := (l.map Fld.key).Nodup ∧ ∀ f ∈ l, f.lo < 32 ∧ (f.al6 = true → f.ty = .rw)

/-- Fields that lie apart, counted from a base. -/
def ApartFrom (b : Nat) (l : List Fld) : Prop :=
  (l.map fun f => (f.off - b) * 32 + f.lo).Nodup ∧ ∀ f ∈ l, f.lo < 32 ∧ (f.al6 = true → f.ty = .rw)

/-- Where a field lies, and what decides how a write acts on it. -/
def Fld.place (f : Fld) : Nat × Nat × Bool × FType := (f.off, f.lo, f.al6, f.ty)

/-- The place of a field of the block at `b0` in the copy of that block at `b`. -/
def Fld.placeAt (b0 b : Nat) (f : Fld) : Nat × Nat × Bool × FType := (b + (f.off - b0), f.lo, f.al6, f.ty)

/-- The fields of an array element at `b` lie as those of the element at `b0` do. -/
def CopyAt (b0 b : Nat) (l0 l : List Fld) : Prop := l.map Fld.place = l0.map (Fld.placeAt b0 b)

theorem exists_place_of_copyAt {b0 b : Nat} {l0 l : List Fld} (h : CopyAt b0 b l0 l) {f : Fld} (hf : f ∈ l) :
    ∃ g ∈ l0, g.placeAt b0 b = f.place :=
  List.mem_map.mp (h ▸ List.mem_map_of_mem hf)

theorem base_le_off_of_copyAt {b0 b : Nat} {l0 l : List Fld} (h : CopyAt b0 b l0 l) {f : Fld} (hf : f ∈ l) : b ≤ f.off := by
  obtain ⟨g, -, hg⟩ := exists_place_of_copyAt h hf
  have hoff : b + (g.off - b0) = f.off := congrArg Prod.fst hg
  omega

/-- The keys of an array element are those of its fields counted from the base, moved by the base. -/
theorem map_key_of_copyAt {b0 b : Nat} {l0 l : List Fld} (h : CopyAt b0 b l0 l) :
    l.map Fld.key = (l0.map fun f => (f.off - b0) * 32 + f.lo).map (b * 32 + ·) := by
  have hkeys := congrArg (List.map fun p => p.1 * 32 + p.2.1) h
  simp only [List.map_map] at hkeys ⊢
  refine hkeys.trans (List.map_congr_left fun f _ => ?_)
  simp only [Function.comp, Fld.placeAt]
  ring

theorem fieldsApart_of_copyAt {b0 b : Nat} {l0 l : List Fld} (h : CopyAt b0 b l0 l)
    (h0 : ApartFrom b0 l0) : FieldsApart l := by
  obtain ⟨hn, hp⟩ := h0
  refine ⟨map_key_of_copyAt h ▸ hn.map fun _ _ => Nat.add_left_cancel, fun f hf => ?_⟩
  obtain ⟨g, hg, hgf⟩ := exists_place_of_copyAt h hf
  simp only [Fld.place, Fld.placeAt, Prod.mk.injEq] at hgf
  obtain ⟨-, hlo, hal, hty⟩ := hgf
  rw [← hlo, ← hal, ← hty]
  exact hp g hg

theorem fieldsApart_nil : FieldsApart [] := ⟨List.nodup_nil, by simp⟩

theorem off_eq_of_key_eq {f g : Fld} (hf : f.lo < 32) (hg : g.lo < 32) (h : f.key = g.key) : f.off = g.off := by
  unfold Fld.key at h
  omega

theorem fieldsApart_append {l m : List Fld} (hl : FieldsApart l) (hm : FieldsApart m) (h : ∀ f ∈ l, ∀ g ∈ m, f.off ≠ g.off) :
    FieldsApart (l ++ m) := by
  refine ⟨?_, fun f hf => (List.mem_append.mp hf).elim (hl.2 f) (hm.2 f)⟩
  rw [List.map_append]
  refine hl.1.append hm.1 fun k hk hk' => ?_
  obtain ⟨f, hf, rfl⟩ := List.mem_map.mp hk
  obtain ⟨g, hg, hkey⟩ := List.mem_map.mp hk'
  exact h f hf g hg (off_eq_of_key_eq (hl.2 f hf).1 (hm.2 g hg).1 hkey.symm)

/-! ### The blocks -/

/-- The first element of each array of the address map with its base, and the blocks that stand once (R505). -/
def blockTable : List (Nat × List Fld) :=
  [(0x41000, EP.fields 0), (0x42000, AX.fields 0), (0x50100, CAM.fields 0), (0x50400, TRO.fields 0),
   (0x80000, LNK.fields 0), (0xA0000, ING.fields 0), (0xA0100, CTX.fields 0), (engBase 0, ENG.fields 0),
   (0x1000000, CL.fields 0), (0xC0000, CHK.fields 0), (0xE0100, MEMR.fields 0), (0x20000, DQ.fields 0),
   (0x110100, MK.fields 0), (0x110500, PN.fields 0), (0x110600, IN.fields 0), (0x120000, ETH.fields 0),
   (0xD0000, TWB.fields 0), (0, SYS.fields), (0, AXS.fields), (0, TRG.fields), (0, LNKG.fields), (0, INGG.fields),
   (0, MEM.fields), (0, DLV.fields), (0, REC.fields), (0, TIM.fields), (0, ETHG.fields), (0, CMD.fields), (0, TWBG.fields),
   (0, THM.fields), (0, DIA.fields)]

theorem apartFrom_of_mem_blockTable : ∀ x ∈ blockTable, ApartFrom x.1 x.2 := by
  unfold ApartFrom
  decide +kernel

theorem fieldsApart_of_mem_blockTable {l : List Fld} (h : (0, l) ∈ blockTable) : FieldsApart l :=
  apartFrom_of_mem_blockTable (0, l) h

/-! ### Array elements -/

theorem ep_fieldsApart (n : Nat) : FieldsApart (EP.fields n) := by
  have hcopy : CopyAt 0x41000 (0x41000 + 0x100 * n) (EP.fields 0) (EP.fields n) := by
    simp only [CopyAt, EP.fields, List.map_append, List.map_cons, List.map_nil]
    rfl
  exact fieldsApart_of_copyAt hcopy (apartFrom_of_mem_blockTable (0x41000, EP.fields 0) (by simp [blockTable]))

theorem ax_fieldsApart (n : Nat) : FieldsApart (AX.fields n) := by
  have hcopy : CopyAt 0x42000 (0x42000 + 0x100 * n) (AX.fields 0) (AX.fields n) := by
    simp only [CopyAt, AX.fields, List.map_append, List.map_cons, List.map_nil]
    rfl
  exact fieldsApart_of_copyAt hcopy (apartFrom_of_mem_blockTable (0x42000, AX.fields 0) (by simp [blockTable]))

theorem cam_fieldsApart (n : Nat) : FieldsApart (CAM.fields n) := by
  have hcopy : CopyAt 0x50100 (0x50100 + 0x20 * n) (CAM.fields 0) (CAM.fields n) := by
    simp only [CopyAt, CAM.fields, List.map_cons, List.map_nil]
    rfl
  exact fieldsApart_of_copyAt hcopy (apartFrom_of_mem_blockTable (0x50100, CAM.fields 0) (by simp [blockTable]))

theorem tro_fieldsApart (n : Nat) : FieldsApart (TRO.fields n) := by
  have hcopy : CopyAt 0x50400 (0x50400 + 0x10 * n) (TRO.fields 0) (TRO.fields n) := by
    simp only [CopyAt, TRO.fields, List.map_cons, List.map_nil]
    rfl
  exact fieldsApart_of_copyAt hcopy (apartFrom_of_mem_blockTable (0x50400, TRO.fields 0) (by simp [blockTable]))

theorem lnk_fieldsApart (n : Nat) : FieldsApart (LNK.fields n) := by
  have hcopy : CopyAt 0x80000 (0x80000 + 0x1000 * n) (LNK.fields 0) (LNK.fields n) := by
    simp only [CopyAt, LNK.fields, List.map_append, List.map_cons, List.map_nil]
    rfl
  exact fieldsApart_of_copyAt hcopy (apartFrom_of_mem_blockTable (0x80000, LNK.fields 0) (by simp [blockTable]))

theorem ing_fieldsApart (n : Nat) : FieldsApart (ING.fields n) := by
  have hcopy : CopyAt 0xA0000 (0xA0000 + 0x1000 * n) (ING.fields 0) (ING.fields n) := by
    simp only [CopyAt, ING.fields, List.map_cons, List.map_nil]
    rfl
  exact fieldsApart_of_copyAt hcopy (apartFrom_of_mem_blockTable (0xA0000, ING.fields 0) (by simp [blockTable]))

theorem ctx_copyAt (n : Nat) : CopyAt 0xA0100 (0xA0100 + 0x1000 * (n / 2) + 0x200 * (n % 2)) (CTX.fields 0) (CTX.fields n) := by
  simp only [CopyAt, CTX.fields, show List.range 4 = [0, 1, 2, 3] from rfl, List.flatMap_cons, List.flatMap_nil, List.map_append,
    List.map_cons, List.map_nil]
  rfl

theorem ctx_fieldsApart (n : Nat) : FieldsApart (CTX.fields n) :=
  fieldsApart_of_copyAt (ctx_copyAt n) (apartFrom_of_mem_blockTable (0xA0100, CTX.fields 0) (by simp [blockTable]))

theorem eng_fieldsApart (n : Nat) : FieldsApart (ENG.fields n) := by
  have hcopy : CopyAt (engBase 0) (engBase n) (ENG.fields 0) (ENG.fields n) := by
    simp only [CopyAt, ENG.fields, List.map_append, List.map_cons, List.map_nil]
    rfl
  exact fieldsApart_of_copyAt hcopy (apartFrom_of_mem_blockTable (engBase 0, ENG.fields 0) (by simp [blockTable]))

theorem cl_fieldsApart (n : Nat) : FieldsApart (CL.fields n) := by
  have hcopy : CopyAt 0x1000000 (0x1000000 + 0x100000 * n) (CL.fields 0) (CL.fields n) := by
    simp only [CopyAt, CL.fields, List.map_cons, List.map_nil]
    rfl
  exact fieldsApart_of_copyAt hcopy (apartFrom_of_mem_blockTable (0x1000000, CL.fields 0) (by simp [blockTable]))

theorem chk_fieldsApart (n : Nat) : FieldsApart (CHK.fields n) := by
  have hcopy : CopyAt 0xC0000 (0xC0000 + 0x40 * n) (CHK.fields 0) (CHK.fields n) := by
    simp only [CopyAt, CHK.fields, List.map_append, List.map_cons, List.map_nil]
    rfl
  exact fieldsApart_of_copyAt hcopy (apartFrom_of_mem_blockTable (0xC0000, CHK.fields 0) (by simp [blockTable]))

theorem memr_fieldsApart (n : Nat) : FieldsApart (MEMR.fields n) := by
  have hcopy : CopyAt 0xE0100 (0xE0100 + 0x10 * n) (MEMR.fields 0) (MEMR.fields n) := by
    simp only [CopyAt, MEMR.fields, List.map_cons, List.map_nil]
    rfl
  exact fieldsApart_of_copyAt hcopy (apartFrom_of_mem_blockTable (0xE0100, MEMR.fields 0) (by simp [blockTable]))

theorem dq_fieldsApart (n : Nat) : FieldsApart (DQ.fields n) := by
  have hcopy : CopyAt 0x20000 (0x20000 + 0x200 * n) (DQ.fields 0) (DQ.fields n) := by
    simp only [CopyAt, DQ.fields, List.map_append, List.map_cons, List.map_nil]
    rfl
  exact fieldsApart_of_copyAt hcopy (apartFrom_of_mem_blockTable (0x20000, DQ.fields 0) (by simp [blockTable]))

theorem mk_fieldsApart (n : Nat) : FieldsApart (MK.fields n) := by
  have hcopy : CopyAt 0x110100 (0x110100 + 0x10 * n) (MK.fields 0) (MK.fields n) := by
    simp only [CopyAt, MK.fields, List.map_cons, List.map_nil]
    rfl
  exact fieldsApart_of_copyAt hcopy (apartFrom_of_mem_blockTable (0x110100, MK.fields 0) (by simp [blockTable]))

theorem pn_fieldsApart (n : Nat) : FieldsApart (PN.fields n) := by
  have hcopy : CopyAt 0x110500 (0x110500 + 0x10 * n) (PN.fields 0) (PN.fields n) := by
    simp only [CopyAt, PN.fields, List.map_cons, List.map_nil]
    rfl
  exact fieldsApart_of_copyAt hcopy (apartFrom_of_mem_blockTable (0x110500, PN.fields 0) (by simp [blockTable]))

theorem in_fieldsApart (n : Nat) : FieldsApart (IN.fields n) := by
  have hcopy : CopyAt 0x110600 (0x110600 + 0x20 * n) (IN.fields 0) (IN.fields n) := by
    simp only [CopyAt, IN.fields, List.map_cons, List.map_nil]
    rfl
  exact fieldsApart_of_copyAt hcopy (apartFrom_of_mem_blockTable (0x110600, IN.fields 0) (by simp [blockTable]))

theorem eth_fieldsApart (n : Nat) : FieldsApart (ETH.fields n) := by
  have hcopy : CopyAt 0x120000 (0x120000 + 0x100 * n) (ETH.fields 0) (ETH.fields n) := by
    simp only [CopyAt, ETH.fields, List.map_append, List.map_cons, List.map_nil]
    rfl
  exact fieldsApart_of_copyAt hcopy (apartFrom_of_mem_blockTable (0x120000, ETH.fields 0) (by simp [blockTable]))

theorem twb_fieldsApart (n : Nat) : FieldsApart (TWB.fields n) := by
  have hcopy : CopyAt 0xD0000 (0xD0000 + 0x40 * n) (TWB.fields 0) (TWB.fields n) := by
    simp only [CopyAt, TWB.fields, List.map_append, List.map_cons, List.map_nil]
    rfl
  exact fieldsApart_of_copyAt hcopy (apartFrom_of_mem_blockTable (0xD0000, TWB.fields 0) (by simp [blockTable]))

/-- The two slots of a pipeline lie above the pipeline's own registers (R505). -/
theorem pipeline_fieldsApart (p k : Nat) (hk : k < 2) : FieldsApart (ING.fields p ++ CTX.fields (2 * p + k)) := by
  refine fieldsApart_append (ing_fieldsApart p) (ctx_fieldsApart _) fun f hf g hg => ?_
  have hf' : f.off < 0xA0100 + 0x1000 * p := by
    simp only [ING.fields, List.mem_cons, List.not_mem_nil, or_false] at hf
    rcases hf with rfl | rfl | rfl <;> simp only [ING.PSTAT_LAST, ING.PSTAT_BUSY, ING.PCTL_CLR_CNT] <;> omega
  have hg' := base_le_off_of_copyAt (ctx_copyAt _) hg
  omega

/-! ### Blocks that stand once -/

theorem sys_fieldsApart : FieldsApart SYS.fields := fieldsApart_of_mem_blockTable (by simp [blockTable])
theorem axs_fieldsApart : FieldsApart AXS.fields := fieldsApart_of_mem_blockTable (by simp [blockTable])
theorem trg_fieldsApart : FieldsApart TRG.fields := fieldsApart_of_mem_blockTable (by simp [blockTable])
theorem lnkg_fieldsApart : FieldsApart LNKG.fields := fieldsApart_of_mem_blockTable (by simp [blockTable])
theorem ingg_fieldsApart : FieldsApart INGG.fields := fieldsApart_of_mem_blockTable (by simp [blockTable])
theorem mem_fieldsApart : FieldsApart MEM.fields := fieldsApart_of_mem_blockTable (by simp [blockTable])
theorem dlv_fieldsApart : FieldsApart DLV.fields := fieldsApart_of_mem_blockTable (by simp [blockTable])
theorem rec_fieldsApart : FieldsApart REC.fields := fieldsApart_of_mem_blockTable (by simp [blockTable])
theorem tim_fieldsApart : FieldsApart TIM.fields := fieldsApart_of_mem_blockTable (by simp [blockTable])
theorem ethg_fieldsApart : FieldsApart ETHG.fields := fieldsApart_of_mem_blockTable (by simp [blockTable])
theorem cmd_fieldsApart : FieldsApart CMD.fields := fieldsApart_of_mem_blockTable (by simp [blockTable])
theorem twbg_fieldsApart : FieldsApart TWBG.fields := fieldsApart_of_mem_blockTable (by simp [blockTable])
theorem thm_fieldsApart : FieldsApart THM.fields := fieldsApart_of_mem_blockTable (by simp [blockTable])
theorem dia_fieldsApart : FieldsApart DIA.fields := fieldsApart_of_mem_blockTable (by simp [blockTable])

/-! ### The fields of a register -/

theorem fieldsApart_ite {c : Prop} [Decidable c] {l m : List Fld} (hl : FieldsApart l) (hm : FieldsApart m) :
    FieldsApart (if c then l else m) := by
  split
  · exact hl
  · exact hm

/-- The offsets of a pipeline: its own registers, then those of its two slots. -/
theorem pipeline_block_fieldsApart (p k : Nat) {c : Prop} [Decidable c] (hk : k < 2) :
    FieldsApart (ING.fields p ++ if c then [] else CTX.fields (2 * p + k)) := by
  split
  · simpa using ing_fieldsApart p
  · exact pipeline_fieldsApart p k hk

/-- The blocks in the order of the address map (R505). -/
theorem blockFields_apart (off : Nat) : FieldsApart (blockFields off) := by
  unfold blockFields
  exact
    fieldsApart_ite sys_fieldsApart <| fieldsApart_ite cmd_fieldsApart <| fieldsApart_ite (dq_fieldsApart _) <|
    fieldsApart_ite dlv_fieldsApart <| fieldsApart_ite fieldsApart_nil <| fieldsApart_ite axs_fieldsApart <|
    fieldsApart_ite (ep_fieldsApart _) <| fieldsApart_ite fieldsApart_nil <| fieldsApart_ite (ax_fieldsApart _) <|
    fieldsApart_ite fieldsApart_nil <| fieldsApart_ite trg_fieldsApart <| fieldsApart_ite (cam_fieldsApart _) <|
    fieldsApart_ite (tro_fieldsApart _) <| fieldsApart_ite trg_fieldsApart <| fieldsApart_ite tim_fieldsApart <|
    fieldsApart_ite (lnk_fieldsApart _) <| fieldsApart_ite lnkg_fieldsApart <|
    fieldsApart_ite (pipeline_block_fieldsApart _ _ (Nat.mod_lt _ (by decide))) <|
    fieldsApart_ite ingg_fieldsApart <| fieldsApart_ite (chk_fieldsApart _) <| fieldsApart_ite fieldsApart_nil <|
    fieldsApart_ite (twb_fieldsApart _) <| fieldsApart_ite twbg_fieldsApart <| fieldsApart_ite mem_fieldsApart <|
    fieldsApart_ite (memr_fieldsApart _) <| fieldsApart_ite fieldsApart_nil <| fieldsApart_ite thm_fieldsApart <|
    fieldsApart_ite dia_fieldsApart <| fieldsApart_ite rec_fieldsApart <| fieldsApart_ite (mk_fieldsApart _) <|
    fieldsApart_ite (pn_fieldsApart _) <| fieldsApart_ite (in_fieldsApart _) <| fieldsApart_ite fieldsApart_nil <|
    fieldsApart_ite (eth_fieldsApart _) <| fieldsApart_ite ethg_fieldsApart <| fieldsApart_ite fieldsApart_nil <|
    fieldsApart_ite
      (fieldsApart_ite (eng_fieldsApart _) <| fieldsApart_ite (fieldsApart_ite (eng_fieldsApart _) fieldsApart_nil) (cl_fieldsApart _))
      fieldsApart_nil

theorem fieldsAt_apart (o : Nat) : FieldsApart (fieldsAt o) := by
  have hsub : (fieldsAt o).Sublist (blockFields o) := List.filter_sublist
  obtain ⟨hnodup, hplain⟩ := blockFields_apart o
  exact ⟨hnodup.sublist (hsub.map Fld.key), fun f hf => hplain f (hsub.subset hf)⟩

theorem off_of_mem_fieldsAt {o : Nat} {f : Fld} (hf : f ∈ fieldsAt o) : f.off = o := by
  have := (List.mem_filter.mp hf).2
  simp only [Bool.and_eq_true, beq_iff_eq] at this
  exact this.1

theorem lo_of_mem_fieldsAt {o : Nat} {f : Fld} (hf : f ∈ fieldsAt o) : f.lo < 32 := ((fieldsAt_apart o).2 f hf).1

theorem al6_of_mem_fieldsAt {o : Nat} {f : Fld} (hf : f ∈ fieldsAt o) (h : f.ty ≠ .rw) : f.al6 = false :=
  Bool.eq_false_iff.mpr fun hal => h (((fieldsAt_apart o).2 f hf).2 hal)

end Sys2Proof.Machine
end

section
/-! SUPPORT. Sampling the axes leaves the epoch and the high halves that wait for their low ones: one lemma per operation that a sample
is made of. -/

namespace Sys2Proof.Machine

/-- What a register write finds beside the register: the epoch (R378) and the high halves that wait for their low ones (R10). -/
def State.writeGate (s : State) : EpochUnit × AMap Nat := (s.epoch, s.hiHold)

theorem writeGate_foldl {α : Type} {f : State → α → State} (h : ∀ s a, (f s a).writeGate = s.writeGate) (l : List α) (s : State) :
    (l.foldl f s).writeGate = s.writeGate := by
  induction l generalizing s with
  | nil => rfl
  | cons a l ih => exact (ih _).trans (h s a)

variable (s : State)

/-! ### Named updates and events -/

@[simp] theorem writeGate_at (t : Nat) : (s.at t).writeGate = s.writeGate := rfl
@[simp] theorem writeGate_wr (f : Fld) (v : Nat) : (s.wr f v).writeGate = s.writeGate := rfl
@[simp] theorem writeGate_wrB (f : Fld) (b : Bool) : (s.wrB f b).writeGate = s.writeGate := rfl
@[simp] theorem writeGate_addSat (f : Fld) (k : Nat) : (s.addSat f k).writeGate = s.writeGate := rfl
@[simp] theorem writeGate_set1 (f : Fld) : (s.set1 f).writeGate = s.writeGate := rfl
@[simp] theorem writeGate_setAxis (n : Nat) (x : Axis) : (s.setAxis n x).writeGate = s.writeGate := rfl
@[simp] theorem writeGate_swaths (l : AMap Swath) : ({ s with swaths := l } : State).writeGate = s.writeGate := rfl
@[simp] theorem writeGate_setLink (n : Nat) (x : Link) : (s.setLink n x).writeGate = s.writeGate := rfl
@[simp] theorem writeGate_setCam (n : Nat) (x : Cam) : (s.setCam n x).writeGate = s.writeGate := rfl
@[simp] theorem writeGate_setEnt (n : Nat) (x : LAct) : (s.setEnt n x).writeGate = s.writeGate := rfl
@[simp] theorem writeGate_setFrozen (l : List Frozen) : (s.setFrozen l).writeGate = s.writeGate := rfl

@[simp] theorem writeGate_raiseBy (j : List Nat → List Nat → List Nat × List Nat) (code idx t : Nat) (v : List Nat) :
    (s.raiseBy j code idx t v).writeGate = s.writeGate := by
  unfold State.raiseBy
  split <;> rfl

@[simp] theorem writeGate_raise (code idx : Nat) (v : List Nat) : (s.raise code idx v).writeGate = s.writeGate :=
  writeGate_raiseBy ..

@[simp] theorem writeGate_raiseJoin (j : List Nat → List Nat → List Nat) (code idx t : Nat) (v : List Nat) :
    (s.raiseJoin j code idx t v).writeGate = s.writeGate := writeGate_raiseBy ..

/-! ### The ledger (R65 to R87) -/

@[simp] theorem writeGate_symbolSlips (n k : Nat) : (s.symbolSlips n k).writeGate = s.writeGate := by
  induction k generalizing s with
  | zero => rfl
  | succ k ih => simp [State.symbolSlips, ih]

@[simp] theorem writeGate_placeFrozen (c : Nat) (f : Frozen) : (s.placeFrozen c f).writeGate = s.writeGate := by
  simp [State.placeFrozen]

@[simp] theorem writeGate_freeze (i c : Nat) (x : Int) : (s.freeze i c x).writeGate = s.writeGate := by
  unfold State.freeze
  split <;> simp

@[simp] theorem writeGate_skip (i c : Nat) (st : ChSt) : (s.skip i c st).writeGate = s.writeGate := by
  unfold State.skip
  split <;> simp

@[simp] theorem writeGate_collide (i c : Nat) : (s.collide i c).writeGate = s.writeGate := by
  simp [State.collide]

@[simp] theorem writeGate_raiseMissed (i : Nat) (a : LAct) (k : Nat) : (s.raiseMissed i a k).writeGate = s.writeGate := by
  unfold State.raiseMissed
  split <;> simp

@[simp] theorem writeGate_entryDone (i : Nat) : (s.entryDone i).writeGate = s.writeGate := by
  simp [State.entryDone]

@[simp] theorem writeGate_charge (i k : Nat) : (s.charge i k).writeGate = s.writeGate := rfl

@[simp] theorem writeGate_advance (i k : Nat) : (s.advance i k).writeGate = s.writeGate := rfl

@[simp] theorem writeGate_endOccurrence (i t : Nat) : (s.endOccurrence i t).writeGate = s.writeGate := by
  unfold State.endOccurrence
  dsimp only
  split_ifs <;> simp

@[simp] theorem writeGate_fireSettings (e : LEnt) : (s.fireSettings e).writeGate = s.writeGate := by
  unfold State.fireSettings
  split
  · exact writeGate_foldl (fun s c => writeGate_setCam s c _) _ _
  · rfl

@[simp] theorem writeGate_fireReached (i t : Nat) : (s.fireReached i t).writeGate = s.writeGate := by
  unfold State.fireReached
  dsimp only
  split_ifs <;> simp

@[simp] theorem writeGate_evalChannel (i t : Nat) (fresh : Bool) (c : Nat) :
    (s.evalChannel i t fresh c).writeGate = s.writeGate := by
  unfold State.evalChannel
  dsimp only
  split_ifs <;> simp

@[simp] theorem writeGate_disarm (i : Nat) : (s.disarm i).writeGate = s.writeGate := by
  unfold State.disarm
  dsimp only
  split <;> simp

@[simp] theorem writeGate_evalBare (i t : Nat) (fresh : Bool) : (s.evalBare i t fresh).writeGate = s.writeGate := by
  unfold State.evalBare
  dsimp only
  split_ifs <;> simp

@[simp] theorem writeGate_evalLoop (i t : Nat) (fresh : Bool) (k : Nat) : (s.evalLoop i t fresh k).writeGate = s.writeGate := by
  induction k generalizing s fresh with
  | zero => rfl
  | succ k ih =>
    have hfold : ∀ l : List Nat, (l.foldl (fun s c => s.evalChannel i t fresh c) s).writeGate = s.writeGate :=
      fun l => writeGate_foldl (fun s c => writeGate_evalChannel s i t fresh c) l s
    unfold State.evalLoop
    dsimp only
    split_ifs <;> simp [ih, hfold]

@[simp] theorem writeGate_evalEntry (t : Nat) (fresh : Bool) (i : Nat) : (s.evalEntry t fresh i).writeGate = s.writeGate := by
  unfold State.evalEntry
  dsimp only
  split_ifs <;> simp

@[simp] theorem writeGate_evalAxis (n t : Nat) : (s.evalAxis n t).writeGate = s.writeGate := by
  refine writeGate_foldl (fun s i => ?_) _ _
  split <;> simp

/-! ### Swaths and axes (R47 to R61, R244) -/

@[simp] theorem writeGate_swathFollow (n t k : Nat) : (s.swathFollow n t k).writeGate = s.writeGate := by
  unfold State.swathFollow
  dsimp only
  split
  · rfl
  · split_ifs <;> simp

@[simp] theorem writeGate_axisChanged (n t : Nat) : (s.axisChanged n t).writeGate = s.writeGate := by
  simp [State.axisChanged, State.swathAxis]

@[simp] theorem writeGate_captureCentres (n t : Nat) : (s.captureCentres n t).writeGate = s.writeGate := rfl

@[simp] theorem writeGate_uncLimit (n old : Nat) : (s.uncLimit n old).writeGate = s.writeGate := by
  unfold State.uncLimit
  dsimp only
  split <;> simp

@[simp] theorem writeGate_setMotion (n m : Nat) : (s.setMotion n m).writeGate = s.writeGate := by
  unfold State.setMotion
  split <;> simp

@[simp] theorem writeGate_setSpeed (n : Nat) (v : Int) : (s.setSpeed n v).writeGate = s.writeGate := rfl

@[simp] theorem writeGate_slipTrack (n t : Nat) : (s.slipTrack n t).writeGate = s.writeGate := by
  unfold State.slipTrack
  dsimp only
  split_ifs <;> simp

@[simp] theorem writeGate_followSources (n t : Nat) : (s.followSources n t).writeGate = s.writeGate := by
  unfold State.followSources
  extract_lets s0 lost s1 s2 s3 s4
  have h1 : s1.writeGate = s.writeGate := by
    unfold s1
    split <;> simp [s0]
  have h2 : s2.writeGate = s.writeGate := by
    unfold s2
    split <;> simp [h1]
  have h3 : s3.writeGate = s.writeGate := by simp [s3, h2]
  have h4 : s4.writeGate = s.writeGate := by
    unfold s4
    split_ifs <;> simp [h3]
  simp [h4]

@[simp] theorem writeGate_axisDerive (t n : Nat) : (s.axisDerive t n).writeGate = s.writeGate := by
  unfold State.axisDerive
  split
  · dsimp only
    split_ifs <;> simp
  · rfl

@[simp] theorem writeGate_axisWrap (t n : Nat) : (s.axisWrap t n).writeGate = s.writeGate := by
  unfold State.axisWrap
  dsimp only
  split <;> simp

theorem writeGate_sampled (t : Nat) : (s.sampled t).writeGate = s.writeGate :=
  (writeGate_foldl (fun s n => by simp) _ _).trans (writeGate_at s t)

theorem writeGate_axisFresh (o : Nat) : (s.axisFresh o).writeGate = s.writeGate := by
  unfold State.axisFresh
  split
  · exact writeGate_sampled ..
  · rfl

end Sys2Proof.Machine
end

section
/-! SUPPORT. What the write of one field, and of several fields that lie apart, does to each field (R7, R8). -/

namespace Sys2Proof.Machine

/-! ### Bits of a number built bit by bit -/

/-- The sum of `2 ^ i` over the `i` below `n` that satisfy a test lies below `2 ^ n`, and its bits are the test's answers. -/
theorem sum_bits_spec (p : Nat → Prop) [DecidablePred p] (n : Nat) :
    (List.range n).foldl (fun a i => if p i then a + 2 ^ i else a) 0 < 2 ^ n ∧
    ∀ i, i < n → ((List.range n).foldl (fun a i => if p i then a + 2 ^ i else a) 0).testBit i = decide (p i) := by
  induction n with
  | zero => exact ⟨by simp, by simp⟩
  | succ n ih =>
    simp only [List.range_succ, List.foldl_append, List.foldl_cons, List.foldl_nil]
    generalize (List.range n).foldl (fun a i => if p i then a + 2 ^ i else a) 0 = x at ih ⊢
    obtain ⟨hlt, hbit⟩ := ih
    refine ⟨by split <;> omega, fun i hi => ?_⟩
    rcases Nat.lt_succ_iff_lt_or_eq.mp hi with hin | rfl
    · rw [← hbit i hin]
      split
      · rw [Nat.add_comm, Nat.testBit_two_pow_add_gt hin]
      · rfl
    · split
      · next hp => rw [Nat.add_comm, Nat.testBit_two_pow_add_eq, Nat.testBit_lt_two_pow hlt, decide_eq_true hp]; rfl
      · next hp => rw [Nat.testBit_lt_two_pow hlt, decide_eq_false hp]

/-! ### One field -/

theorem part_lt (f : Fld) (v : Nat) : f.part v < 2 ^ f.w := by
  have h : v / 2 ^ f.lo % 2 ^ f.w < 2 ^ f.w := Nat.mod_lt _ (Nat.two_pow_pos _)
  unfold Fld.part
  dsimp only
  split <;> omega

theorem testBit_part {f : Fld} (hal : f.al6 = false) (v : Nat) {i : Nat} (hi : i < f.w) :
    (f.part v).testBit i = v.testBit (f.lo + i) := by
  simp [Fld.part, hal, Nat.testBit_mod_two_pow, Nat.testBit_div_two_pow, hi, Nat.add_comm]

/-- The write of a field changes the value of that field and nothing else. -/
theorem exists_fieldWrite_eq (s : State) (v : Nat) (f : Fld) : s.fieldWrite v f = s ∨ ∃ x, s.fieldWrite v f = s.wr f x := by
  unfold State.fieldWrite
  split
  · split
    · exact .inl rfl
    · exact .inr ⟨_, rfl⟩
  · exact .inr ⟨_, rfl⟩
  · exact .inr ⟨_, rfl⟩
  · exact .inr ⟨_, rfl⟩
  · exact .inl rfl

theorem fieldWrite_frame (s : State) (v : Nat) (f : Fld) : { s.fieldWrite v f with regs := s.regs } = s := by
  obtain h | ⟨x, h⟩ := exists_fieldWrite_eq s v f
  · rw [h]
  · rw [h]
    rfl

theorem justSet_fieldWrite (s : State) (v : Nat) (f g : Fld) : (s.fieldWrite v f).justSet g = s.justSet g :=
  (congrArg (State.justSet · g) (fieldWrite_frame s v f) :)

theorem rd_fieldWrite_ne (s : State) (v : Nat) {f g : Fld} (h : g.key ≠ f.key) : (s.fieldWrite v f).rd g = s.rd g := by
  obtain hw | ⟨x, hw⟩ := exists_fieldWrite_eq s v f <;> rw [hw]
  exact rd_wr_ne s x h

theorem rd_fieldWrite_rw (s : State) (v : Nat) {f : Fld} (h : f.ty = .rw) :
    (s.fieldWrite v f).rd f = if s.ignores f then s.rd f else f.part v := by
  simp only [State.fieldWrite, h]
  split
  · rfl
  · rw [rd_wr_same, Nat.mod_eq_of_lt (part_lt f v)]

/-- A bit that the device sets at the instant of the write stays set (R8). -/
theorem testBit_fieldWrite_w1c (s : State) (v : Nat) {f : Fld} (h : f.ty = .w1c) (hal : f.al6 = false) {i : Nat} (hi : i < f.w) :
    ((s.fieldWrite v f).rd f).testBit i = ((s.rd f).testBit i && (!v.testBit (f.lo + i) || (s.justSet f).testBit i)) := by
  obtain ⟨hlt, hbit⟩ := sum_bits_spec
    (fun i => (s.rd f).testBit i = true ∧ ((f.part v).testBit i = false ∨ (s.justSet f).testBit i = true)) f.w
  simp only [State.fieldWrite, h, State.clear1, rd_wr_same, Nat.mod_eq_of_lt hlt, hbit i hi, testBit_part hal v hi]
  simp

theorem testBit_fieldWrite_w1s (s : State) (v : Nat) {f : Fld} (h : f.ty = .w1s) (hal : f.al6 = false) {i : Nat} (hi : i < f.w) :
    ((s.fieldWrite v f).rd f).testBit i = ((s.rd f).testBit i || v.testBit (f.lo + i)) := by
  simp only [State.fieldWrite, h, rd_wr_same]
  change ((s.rd f ||| f.part v) % 2 ^ f.w).testBit i = _
  rw [Nat.testBit_mod_two_pow, Nat.testBit_or, testBit_part hal v hi, decide_eq_true hi, Bool.true_and]

theorem fieldWrite_readOnly (s : State) (v : Nat) {f : Fld} (h : f.ty = .ro ∨ f.ty = .wo) : s.fieldWrite v f = s := by
  rcases h with h | h <;> simp only [State.fieldWrite, h]

/-! ### When a write is ignored -/

/-- The fields that decide whether a write of another field is ignored (R318, R395, R434). -/
def ignoreFlds : List Fld := [DLV.EVR_CFG_EN, CMD.CFG_EN, DIA.LOCK_INJ]

theorem ignores_congr {s t : State} (h : ∀ g ∈ ignoreFlds, t.rd g = s.rd g) (f : Fld) : t.ignores f = s.ignores f := by
  simp only [ignoreFlds, List.forall_mem_cons, List.not_mem_nil, false_implies, implies_true, and_true] at h
  obtain ⟨hev, hcmd, hinj⟩ := h
  simp only [State.ignores, State.injLocked, hev, hcmd, hinj]

/-- What a field holds after its write depends on no field but itself and those of `ignoreFlds`. -/
theorem rd_fieldWrite_congr {s t : State} (v : Nat) {f : Fld} (hig : t.ignores f = s.ignores f) (hrd : t.rd f = s.rd f)
    (hjust : t.justSet f = s.justSet f) : (t.fieldWrite v f).rd f = (s.fieldWrite v f).rd f := by
  unfold State.fieldWrite
  split
  · rw [hig]
    split <;> simp [hrd]
  · simp
  · simp [State.clear1, hrd, hjust]
  · simp [hrd]
  · exact hrd

/-! ### Several fields -/

/-- The fields of a list written in turn from one register value. -/
def State.writeFields (s : State) (v : Nat) (fs : List Fld) : State := fs.foldl (fun s f => s.fieldWrite v f) s

theorem writeFields_cons (s : State) (v : Nat) (f : Fld) (fs : List Fld) :
    s.writeFields v (f :: fs) = (s.fieldWrite v f).writeFields v fs := rfl

theorem writeFields_frame (s : State) (v : Nat) (fs : List Fld) : { s.writeFields v fs with regs := s.regs } = s := by
  induction fs generalizing s with
  | nil => rfl
  | cons f fs ih =>
    calc { (s.fieldWrite v f).writeFields v fs with regs := s.regs }
        = { { (s.fieldWrite v f).writeFields v fs with regs := (s.fieldWrite v f).regs } with regs := s.regs } := rfl
      _ = { s.fieldWrite v f with regs := s.regs } := by rw [ih]
      _ = s := fieldWrite_frame s v f

theorem rd_writeFields_of_notMem (s : State) (v : Nat) {fs : List Fld} {g : Fld} (h : g.key ∉ fs.map Fld.key) :
    (s.writeFields v fs).rd g = s.rd g := by
  induction fs generalizing s with
  | nil => rfl
  | cons f fs ih =>
    obtain ⟨hne, hnot⟩ : g.key ≠ f.key ∧ g.key ∉ fs.map Fld.key := by simpa using h
    rw [writeFields_cons, ih _ hnot, rd_fieldWrite_ne s v hne]

/-- Among fields that lie apart each is written as if it were written alone. -/
theorem rd_writeFields_of_mem (s : State) (v : Nat) {fs : List Fld} (hap : (fs.map Fld.key).Nodup)
    (hig : ∀ g ∈ ignoreFlds, g.key ∉ fs.map Fld.key) {f : Fld} (hf : f ∈ fs) :
    (s.writeFields v fs).rd f = (s.fieldWrite v f).rd f := by
  induction fs generalizing s with
  | nil => simp at hf
  | cons g fs ih =>
    obtain ⟨hg, hap'⟩ := List.nodup_cons.mp hap
    rw [writeFields_cons]
    rcases List.mem_cons.mp hf with rfl | hf'
    · exact rd_writeFields_of_notMem _ v hg
    · have hne : f.key ≠ g.key := fun h => hg (h ▸ List.mem_map_of_mem hf')
      rw [ih _ hap' (fun k hk hm => hig k hk (List.mem_cons_of_mem _ hm)) hf']
      refine rd_fieldWrite_congr v (ignores_congr (fun k hk => rd_fieldWrite_ne s v ?_) f) (rd_fieldWrite_ne s v hne)
        (justSet_fieldWrite s v g f)
      exact fun h => hig k hk (h ▸ List.mem_cons_self)

end Sys2Proof.Machine
end

section
/-! SUPPORT. The write of a register that has no effects of its own, case by case (R4, R10, R378). -/

namespace Sys2Proof.Machine

/-! ### Registers without effects of their own -/

theorem ne_of_writeHook {o n : Nat} (hw : writeHook o = false) (hn : writeHook n = true) : o ≠ n := by
  rintro rfl
  exact Bool.false_ne_true (hw.symm.trans hn)

/-- The blocks of which every register is written with effects of its own. -/
theorem outside_of_writeHook {o : Nat} (hw : writeHook o = false) :
    ¬(0x20000 ≤ o ∧ o < 0x30000) ∧ ¬(0x41000 ≤ o ∧ o < 0x41800) ∧ ¬(0x80000 ≤ o ∧ o < 0x98000) ∧ ¬(0xC0000 ≤ o ∧ o < 0xC0400) ∧
    ¬(0xD0000 ≤ o ∧ o < 0xD0600) := by
  have hr := (Bool.or_eq_false_iff.mp hw).2
  simpa only [List.any_cons, List.any_nil, Bool.or_false, Bool.or_eq_false_iff, decide_eq_false_iff_not] using hr

theorem afterWrite_of_writeHook (s : State) (was : Conf) {o : Nat} (hw : writeHook o = false) : s.afterWrite was o = s := by
  obtain ⟨hdlv, hep, hlnk, -, htwb⟩ := outside_of_writeHook hw
  have hwm : (DLV.WM_CFG_EN 0).off = 0x28040 := rfl
  have hev : ∀ f ∈ [AXS.EVTEN_EN, TRG.EVTEN_EN, LNKG.EVTEN_EN, INGG.EVTEN_EN, CL.EVTEN_EN 0, MEM.EVTEN_EN, DLV.EVTEN_EN, REC.EVTEN_EN,
      TIM.EVTEN_EN, ETHG.EVTEN_EN, CMD.EVTEN_EN, TWBG.EVTEN_EN, THM.EVTEN_EN, DIA.EVTEN_EN, SYS.EVTEN_EN],
      writeHook f.off = true := by decide
  unfold State.afterWrite
  rw [if_neg, if_neg, if_neg, if_neg, if_neg, if_neg, if_neg, if_neg, if_neg, if_neg, if_neg, if_neg]
  iterate 4 omega
  iterate 7 exact ne_of_writeHook hw rfl
  · rw [Bool.not_eq_true, List.any_eq_false]
    exact fun f hf => by simpa using (ne_of_writeHook hw (hev f hf)).symm

theorem regWrite_of_writeHook (s : State) {o : Nat} (v : Nat) (hw : writeHook o = false) : s.regWrite o v = s.plainWrite o v := by
  obtain ⟨hdlv, -, -, hchk, -⟩ := outside_of_writeHook hw
  unfold State.regWrite
  rw [if_neg, if_neg, if_neg, if_neg, if_neg, afterWrite_of_writeHook _ _ hw]
  · omega
  · exact ne_of_writeHook hw rfl
  · omega
  · exact ne_of_writeHook hw rfl
  · omega

theorem exec_registerWrite_of_reach {off : BitVec 26} (v : Word) (τ : Nat) {s : State} {o : Nat} (ho : off.toNat / 4 * 4 = o)
    (hr : s.barReach o = true) (hw : writeHook o = false) :
    exec (.registerWrite off v 15 τ) s = .next (((s.at τ).axisFresh o).plainWrite o v.toNat) := by
  subst ho
  change execRegisterWrite off v 15 τ s = _
  simp only [execRegisterWrite, hr, and_self, if_true, regWrite_of_writeHook _ _ hw]

/-- The fields that decide whether a write is ignored stand in registers with effects of their own. -/
theorem ignoreFlds_notMem {o : Nat} (hw : writeHook o = false) {g : Fld} (hg : g ∈ ignoreFlds) : g.key ∉ (fieldsAt o).map Fld.key := by
  have hhook : ∀ g ∈ ignoreFlds, g.lo < 32 ∧ writeHook g.off = true := by decide
  obtain ⟨hlo, hoff⟩ := hhook g hg
  rintro hmem
  obtain ⟨f, hf, hkey⟩ := List.mem_map.mp hmem
  exact ne_of_writeHook hw hoff ((off_of_mem_fieldsAt hf).symm.trans (off_eq_of_key_eq (lo_of_mem_fieldsAt hf) hlo hkey))

theorem ignores_fieldWrite (s : State) {o : Nat} (v : Nat) (hw : writeHook o = false) {f : Fld} (hf : f ∈ fieldsAt o) (h : Fld) :
    (s.fieldWrite v f).ignores h = s.ignores h := by
  refine ignores_congr (fun g hg => rd_fieldWrite_ne s v fun hkey => ignoreFlds_notMem hw hg ?_) h
  rw [hkey]
  exact List.mem_map_of_mem hf

/-! ### The cases of a plain write -/

theorem openFields_of_unsealed {s : State} (h : s.sealed = false) (fs : List Fld) : s.openFields fs = fs := by
  simp [State.openFields, h]

/-- A register that is no half of a 64-bit quantity: its open fields are written, and what the seal discards is reported (R378). -/
theorem plainWrite_of_whole (s : State) {o : Nat} (v : Nat) (hh : ∀ f ∈ fieldsAt o, f.half = .none) :
    s.plainWrite o v =
      if s.sealed && s.wouldChange v (fieldsAt o) then (s.writeFields v (s.openFields (fieldsAt o))).sealedWrite o
      else s.writeFields v (s.openFields (fieldsAt o)) := by
  have hlo : ((fieldsAt o).any fun f => f.half == .lo && f.ty == .rw) = false :=
    List.any_eq_false.mpr fun f hf => by simp [hh f hf]
  have hhi : ((fieldsAt o).any fun f => f.half == .hi && f.ty == .rw) = false :=
    List.any_eq_false.mpr fun f hf => by simp [hh f hf]
  simp only [State.plainWrite, hlo, hhi, Bool.false_and, Bool.or_false, Bool.false_eq_true, if_false]
  rfl

theorem plainWrite_of_hi {s : State} {o : Nat} (v : Nat) {f : Fld} (hf : fieldsAt o = [f]) (hh : f.half = .hi) (hty : f.ty = .rw)
    (hs : s.sealed = false) (hi : s.ignores f = false) : s.plainWrite o v = { s with hiHold := AMap.set s.hiHold o v } := by
  simp [State.plainWrite, hf, hh, hty, hs, hi]

theorem fieldWrite_hiHold (s : State) (v : Nat) (f : Fld) : (s.fieldWrite v f).hiHold = s.hiHold :=
  (congrArg State.hiHold (fieldWrite_frame s v f) :)

theorem fieldWrite_sealed (s : State) (v : Nat) (f : Fld) : (s.fieldWrite v f).sealed = s.sealed :=
  (congrArg State.sealed (fieldWrite_frame s v f) :)

/-- The write of a low half also writes the high half that waits (R10). -/
theorem plainWrite_of_lo {s : State} {o : Nat} (v : Nat) {f h : Fld} (hf : fieldsAt o = [f]) (hh : f.half = .lo) (hty : f.ty = .rw)
    (hfh : fieldsAt (o + 4) = [h]) (hs : s.sealed = false) :
    s.plainWrite o v = (s.hiHold.find? fun e => e.1 == o + 4).elim (s.fieldWrite v f) fun e =>
      { (s.fieldWrite v f).fieldWrite e.2 h with hiHold := s.hiHold.filter fun x => x.1 != o + 4 } := by
  have hs' : (s.fieldWrite v f).sealed = false := (fieldWrite_sealed s v f).trans hs
  simp only [State.plainWrite, hf, hfh, hs, Bool.false_and, Bool.false_eq_true, if_false, openFields_of_unsealed hs,
    openFields_of_unsealed hs', List.any_cons, List.any_nil, hh, hty, List.foldl_cons, List.foldl_nil, fieldWrite_hiHold]
  cases s.hiHold.find? fun e => e.1 == o + 4 with
  | none => rfl
  | some e => rfl

theorem rd_sealedWrite_same (s : State) (o : Nat) : (s.sealedWrite o).rd CMD.STAT_SEALED_WR = 1 := by
  have hbit : ∀ x : Nat, (x ||| 1) % 2 ^ 1 = 1 := fun x => by
    rw [pow_one, Nat.or_mod_two_eq_one]
    exact .inr rfl
  simp only [State.sealedWrite, raise_rd]
  exact (rd_wr_same s _ _).trans (hbit _)

theorem rd_sealedWrite_ne (s : State) (o : Nat) {f : Fld} (h : f.key ≠ CMD.STAT_SEALED_WR.key) : (s.sealedWrite o).rd f = s.rd f := by
  simp only [State.sealedWrite, raise_rd]
  exact rd_wr_ne s _ h

end Sys2Proof.Machine
end

section
/-! CERTIFICATE. Register writes follow their field types (R4, R7, R8, R10, R378). -/

namespace Sys2Proof

open Machine

/-! ### The clauses, for the state that the write finds -/

theorem onlyRegs_writeFields (u : State) (v : Nat) (fs : List Fld) : OnlyRegs fs u (u.writeFields v fs) :=
  ⟨fun _ hf => rd_writeFields_of_notMem u v hf,
    (congrArg (fun t : State => { t with w1cSet := u.w1cSet, now := u.now }) (writeFields_frame u v fs) :)⟩

/-- Each field of an unhooked register is written as if it stood alone, whichever of its fields are open. -/
theorem rd_writeFields_fieldsAt (u : State) {o : Nat} (v : Nat) (hw : writeHook o = false) {f : Fld} (hf : f ∈ fieldsAt o) :
    (u.writeFields v (fieldsAt o)).rd f = (u.fieldWrite v f).rd f :=
  rd_writeFields_of_mem u v (fieldsAt_apart o).1 (fun _ hg => ignoreFlds_notMem hw hg) hf

/-- R7, R8: an open register. -/
theorem plainWrite_follows_types {u : State} {o : Nat} (v : Nat) (hw : writeHook o = false) (hh : ∀ f ∈ fieldsAt o, f.half = .none)
    (hs : u.sealed = false) :
    (∀ f ∈ fieldsAt o, f.ty = .rw → (u.plainWrite o v).rd f = if u.ignores f then u.rd f else f.part v) ∧
    (∀ f ∈ fieldsAt o, f.ty = .w1c → ∀ i, i < f.w → ((u.plainWrite o v).rd f).testBit i =
      ((u.rd f).testBit i && (!v.testBit (f.lo + i) || (u.justSet f).testBit i))) ∧
    (∀ f ∈ fieldsAt o, f.ty = .w1s → ∀ i, i < f.w → ((u.plainWrite o v).rd f).testBit i =
      ((u.rd f).testBit i || v.testBit (f.lo + i))) ∧
    (∀ f ∈ fieldsAt o, f.ty = .ro ∨ f.ty = .wo → (u.plainWrite o v).rd f = u.rd f) ∧ OnlyRegs (fieldsAt o) u (u.plainWrite o v) := by
  have hp : u.plainWrite o v = u.writeFields v (fieldsAt o) := by
    simp [plainWrite_of_whole u v hh, hs, openFields_of_unsealed hs]
  rw [hp]
  refine ⟨fun f hf hty => ?_, fun f hf hty i hi => ?_, fun f hf hty i hi => ?_, fun f hf hty => ?_, onlyRegs_writeFields u v _⟩
  · rw [rd_writeFields_fieldsAt u v hw hf, rd_fieldWrite_rw u v hty]
  · rw [rd_writeFields_fieldsAt u v hw hf, testBit_fieldWrite_w1c u v hty (al6_of_mem_fieldsAt hf (by simp [hty])) hi]
  · rw [rd_writeFields_fieldsAt u v hw hf, testBit_fieldWrite_w1s u v hty (al6_of_mem_fieldsAt hf (by simp [hty])) hi]
  · rw [rd_writeFields_fieldsAt u v hw hf, fieldWrite_readOnly u v hty]

/-- No staged field shares the key of SEALED_WR. -/
theorem staged_key_ne_sealedWr {o : Nat} {f : Fld} (hf : f ∈ fieldsAt o) (hst : f.staged = true) : f.key ≠ CMD.STAT_SEALED_WR.key := by
  intro hkey
  have hoff := (off_of_mem_fieldsAt hf).symm.trans (off_eq_of_key_eq (lo_of_mem_fieldsAt hf) (by decide) hkey)
  have hnone : ∀ g ∈ fieldsAt CMD.STAT_SEALED_WR.off, g.staged = false := by decide
  exact Bool.false_ne_true ((hnone f (hoff ▸ hf)).symm.trans hst)

/-- R378: a staged field keeps its value under the seal, and the attempt to change it is reported. -/
theorem plainWrite_keeps_staged {u : State} {o : Nat} (v : Nat) (hh : ∀ f ∈ fieldsAt o, f.half = .none) (hs : u.sealed = true)
    (hc : u.wouldChange v (fieldsAt o) = true) :
    (∀ f ∈ fieldsAt o, f.staged = true → (u.plainWrite o v).rd f = u.rd f) ∧ (u.plainWrite o v).rd CMD.STAT_SEALED_WR = 1 ∧
    KeepsRegs (CMD.STAT_SEALED_WR :: fieldsAt o) u (u.plainWrite o v) := by
  have hp : u.plainWrite o v = (u.writeFields v ((fieldsAt o).filter fun f => !f.staged)).sealedWrite o := by
    simp [plainWrite_of_whole u v hh, hs, hc, State.openFields]
  have hsub : ((fieldsAt o).filter fun f => !f.staged).Sublist (fieldsAt o) := List.filter_sublist
  rw [hp]
  refine ⟨fun f hf hst => ?_, rd_sealedWrite_same _ o, fun f hf => ?_⟩
  · rw [rd_sealedWrite_ne _ o (staged_key_ne_sealedWr hf hst), rd_writeFields_of_notMem u v]
    intro hmem
    obtain ⟨g, hg, hkey⟩ := List.mem_map.mp hmem
    obtain ⟨hg, hgst⟩ := List.mem_filter.mp hg
    have hgf : g = f := List.inj_on_of_nodup_map (fieldsAt_apart o).1 hg hf hkey
    simp [hgf, hst] at hgst
  · obtain ⟨hne, hnot⟩ : f.key ≠ CMD.STAT_SEALED_WR.key ∧ f.key ∉ (fieldsAt o).map Fld.key := by simpa using hf
    rw [rd_sealedWrite_ne _ o hne, rd_writeFields_of_notMem u v fun hmem => hnot ((hsub.map Fld.key).subset hmem)]

/-- The halves of a 64-bit quantity are different fields. -/
theorem key_ne_of_halves {o : Nat} {f h : Fld} (hf : f ∈ fieldsAt o) (hh : h ∈ fieldsAt (o + 4)) : h.key ≠ f.key := by
  intro hkey
  have hoff := off_eq_of_key_eq (lo_of_mem_fieldsAt hh) (lo_of_mem_fieldsAt hf) hkey
  rw [off_of_mem_fieldsAt hh, off_of_mem_fieldsAt hf] at hoff
  omega

theorem fieldWrite_twice_frame (u : State) (v x : Nat) (f h : Fld) :
    { (u.fieldWrite v f).fieldWrite x h with regs := u.regs } = u :=
  (congrArg (fun t : State => { t with regs := u.regs }) (fieldWrite_frame (u.fieldWrite v f) x h) :).trans (fieldWrite_frame u v f)

/-- A low half with no high half waiting takes effect alone. -/
theorem plainWrite_lo_alone {u : State} {o : Nat} (v : Nat) {f h : Fld} (hf : fieldsAt o = [f]) (hlo : f.half = .lo)
    (hty : f.ty = .rw) (hfh : fieldsAt (o + 4) = [h]) (hs : u.sealed = false)
    (hfind : (u.hiHold.find? fun e => e.1 == o + 4) = none) :
    u.plainWrite o v = u.fieldWrite v f ∧ u.hiHold.filter (fun e => e.1 != o + 4) = u.hiHold := by
  refine ⟨by rw [plainWrite_of_lo v hf hlo hty hfh hs, hfind]; rfl, ?_⟩
  exact List.filter_eq_self.mpr fun e he => by simpa using List.find?_eq_none.mp hfind e he

/-- R10: the low half and the high half that waits take effect together. -/
theorem plainWrite_applies_pair {u : State} {o : Nat} (v : Nat) {f h : Fld} (hw : writeHook o = false) (hf : fieldsAt o = [f])
    (hlo : f.half = .lo) (hty : f.ty = .rw) (hfh : fieldsAt (o + 4) = [h]) (hhty : h.ty = .rw) (hi : u.ignores f = false)
    (hhi : u.ignores h = false) (hs : u.sealed = false) :
    (u.plainWrite o v).rd f = f.part v ∧
    (u.plainWrite o v).rd h = (u.hiHold.find? fun e => e.1 == o + 4).elim (u.rd h) (fun e => h.part e.2) ∧
    (u.plainWrite o v).hiHold = u.hiHold.filter (fun e => e.1 != o + 4) ∧ KeepsRegs [f, h] u (u.plainWrite o v) ∧
    { u.plainWrite o v with regs := u.regs, hiHold := u.hiHold } = u := by
  have hfm : f ∈ fieldsAt o := hf ▸ List.mem_singleton_self f
  have hhm : h ∈ fieldsAt (o + 4) := hfh ▸ List.mem_singleton_self h
  have hne : h.key ≠ f.key := key_ne_of_halves hfm hhm
  have hf1 : (u.fieldWrite v f).rd f = f.part v := by simp [rd_fieldWrite_rw u v hty, hi]
  cases hfind : u.hiHold.find? fun e => e.1 == o + 4 with
  | none =>
    obtain ⟨hp, hkeep⟩ := plainWrite_lo_alone v hf hlo hty hfh hs hfind
    rw [hp, hkeep]
    refine ⟨hf1, rd_fieldWrite_ne u v hne, fieldWrite_hiHold u v f, fun g hg => rd_fieldWrite_ne u v fun h => hg (by simp [h]), ?_⟩
    exact (congrArg (fun t : State => { t with hiHold := u.hiHold }) (fieldWrite_frame u v f) :)
  | some e =>
    have hp := plainWrite_of_lo v hf hlo hty hfh hs
    rw [hfind, Option.elim_some] at hp
    have hrd : ∀ g, (u.plainWrite o v).rd g = ((u.fieldWrite v f).fieldWrite e.2 h).rd g := fun g => by rw [hp]; rfl
    refine ⟨?_, ?_, by rw [hp], fun g hg => ?_, ?_⟩
    · rw [hrd, rd_fieldWrite_ne _ e.2 hne.symm, hf1]
    · rw [hrd, rd_fieldWrite_rw _ e.2 hhty, ignores_fieldWrite u v hw hfm, hhi]
      rfl
    · obtain ⟨hgf, hgh⟩ : g.key ≠ f.key ∧ g.key ≠ h.key := by simpa using hg
      rw [hrd, rd_fieldWrite_ne _ e.2 hgh, rd_fieldWrite_ne u v hgf]
    · rw [hp]
      exact (congrArg (fun t : State => { t with hiHold := u.hiHold }) (fieldWrite_twice_frame u v e.2 f h) :)

/-- Settles O43: an access to the axis registers samples the axes first, which leaves the epoch and the waiting halves; what the write
then does is `plainWrite`, of which each clause is a case. -/
theorem registerWritesFollowTheirFieldTypes : Obligations.RegisterWritesFollowTheirFieldTypes := by
  intro off v be τ s o fs u
  have hgate : u.epoch = s.epoch ∧ u.hiHold = s.hiHold := Prod.ext_iff.mp (writeGate_axisFresh (s.at τ) o)
  obtain ⟨hepoch, hhold⟩ := hgate
  have hsealed : u.sealed = s.sealed := by simp only [State.sealed, hepoch]
  refine ⟨fun hbe => ?_, ?_⟩
  · change execRegisterWrite off v be τ s = _
    simp only [execRegisterWrite, hbe, false_and, if_false]
  rintro rfl hr hw
  have hexec : exec (.registerWrite off v 15 τ) s = .next (u.plainWrite o v.toNat) := exec_registerWrite_of_reach v τ rfl hr hw
  refine ⟨fun hh hs => ?_, fun hh hs hc => ?_, fun f hf hhi hty hs hi => ?_, fun f h hf hlo hty hfh hhty hi hhi hs => ?_⟩
  · exact ⟨_, hexec, plainWrite_follows_types _ hw hh (hsealed.trans hs)⟩
  · exact ⟨_, hexec, plainWrite_keeps_staged _ hh (hsealed.trans hs) hc⟩
  · rw [plainWrite_of_hi _ hf hhi hty (hsealed.trans hs) hi] at hexec
    exact ⟨_, hexec, amap_get_set_same .., rfl⟩
  · rw [← hhold]
    exact ⟨_, hexec, plainWrite_applies_pair _ hw hf hlo hty hfh hhty hi hhi (hsealed.trans hs)⟩

end Sys2Proof
end

section
/-! CERTIFICATE. A right shift rounds as the table of its mode says (R185). -/

namespace Sys2Proof.Machine

/-! ### One equation per rounding mode -/

@[simp] theorem shiftRound_zero (x : Int) (rm : Nat) : shiftRound x 0 rm = x := rfl

theorem shiftRound_floor (x : Int) {n : Nat} (hn : n ≠ 0) : shiftRound x n 0 = x / 2 ^ n := by
  simp [shiftRound, hn]

/-- The model adds half of `2 ^ n`; the table writes that half as a power of its own. -/
theorem shiftRound_halfUp (x : Int) {n : Nat} (hn : n ≠ 0) : shiftRound x n 1 = (x + 2 ^ (n - 1)) / 2 ^ n := by
  have hhalf : (2 ^ n : Int) / 2 = 2 ^ (n - 1) := Int.ediv_eq_of_eq_mul_left two_ne_zero (pow_sub_one_mul hn 2).symm
  simp [shiftRound, hn, hhalf]

theorem shiftRound_towardZero (x : Int) {n : Nat} (hn : n ≠ 0) : shiftRound x n 3 = x.tdiv (2 ^ n) := by
  simp [shiftRound, hn]

/-- Half to even, with the remainder of the division measured against one half of the divisor. -/
theorem shiftRound_halfEven (x : Int) {n : Nat} (hn : n ≠ 0) :
    shiftRound x n 2 =
      if 2 * (x % 2 ^ n) < 2 ^ n then x / 2 ^ n
      else if 2 ^ n < 2 * (x % 2 ^ n) then x / 2 ^ n + 1
      else x / 2 ^ n + x / 2 ^ n % 2 := by
  simp [shiftRound, hn]

/-! ### Half to even is a nearest integer, and the even one of two -/

/-- What is left of `x` when the quotient is raised by `c`. -/
theorem sub_ediv_add_mul (x m c : Int) : x - (x / m + c) * m = x % m - c * m := by
  rw [Int.emod_def]
  ring

/-- In each of the three cases the quotient is raised by 0 or 1, so that the remainder stays, or falls short by `2 ^ n`. -/
theorem shiftRound_halfEven_nearest (x : Int) {n : Nat} (hn : n ≠ 0) :
    2 * |x - shiftRound x n 2 * 2 ^ n| ≤ 2 ^ n ∧
    (2 * |x - shiftRound x n 2 * 2 ^ n| = 2 ^ n → shiftRound x n 2 % 2 = 0) := by
  have hpos : (0 : Int) < 2 ^ n := by positivity
  have hkeep := sub_ediv_add_mul x (2 ^ n) 0
  have hraise := sub_ediv_add_mul x (2 ^ n) 1
  have hlow := Int.emod_nonneg x hpos.ne'
  have hhigh := Int.emod_lt_of_pos x hpos
  rw [shiftRound_halfEven x hn]
  generalize (2 ^ n : Int) = m at *
  generalize x / m = q at *
  generalize x % m = r at *
  rw [add_zero, zero_mul, sub_zero] at hkeep
  rw [one_mul] at hraise
  split_ifs with hbelow habove
  · rw [hkeep, abs_of_nonneg hlow]
    omega
  · rw [hraise, abs_of_neg (by omega)]
    omega
  · rcases Int.emod_two_eq_zero_or_one q with heven | hodd
    · rw [heven, add_zero, hkeep, abs_of_nonneg hlow]
      omega
    · rw [hodd, hraise, abs_of_neg (by omega)]
      omega

/-- Settles O13: one equation per mode, and for half to even what its three cases leave of `x`. -/
theorem rightShiftsRoundAsTheTableSays : Obligations.RightShiftsRoundAsTheTableSays := by
  intro x n
  refine ⟨shiftRound_zero x, fun hone => ?_⟩
  have hn : n ≠ 0 := Nat.one_le_iff_ne_zero.mp hone
  exact ⟨shiftRound_floor x hn, shiftRound_halfUp x hn, shiftRound_towardZero x hn, shiftRound_halfEven_nearest x hn⟩

end Sys2Proof.Machine
end

section

/-! SUPPORT. What keeps the memories canonical. The three ways a memory byte is written (`hostWrite`, `gddrWrite` and the
engine stores) keep the form by the memory laws; every other operation of the state leaves the memories alone, or is put
together from operations that keep the form. One lemma per function of the model, in the model's order; each is that
function's own composition written with the lemmas of its parts. -/

namespace Sys2Proof.Machine

open State

/-- What an instruction leaves, whichever way it ends, has its memories in canonical form. -/
def JRes.Canonical : JRes → Prop
  | .done s | .jump _ s | .fault _ _ s | .wait _ s => s.canonical

/-- What an access leaves, completed or refused, has its memories in canonical form. -/
def MRes.Canonical : MRes → Prop
  | .ok _ s | .fault _ _ s => s.canonical

theorem canonical_of_eq {α : Type} {x y : α} (P : α → Prop) (heq : x = y) (h : P x) : P y := heq ▸ h

/-- Where a command answers a next state, that state's memories are in canonical form. -/
def NextCanonical : Host.Outcome State Fault Refusal → Prop
  | .next t => t.canonical
  | _ => True

theorem ite_canonical {p : Prop} [Decidable p] {s t : State} (hs : s.canonical) (ht : t.canonical) :
    (if p then s else t).canonical := by
  split
  · exact hs
  · exact ht

theorem mk_canonical {now timeOfs freeCount busRead regs active hiLatch hiHold w1cSet mems events ports axes
    ledger setsStaged
    sets cams strobes lite links tw swaths coal msix msixPend msixSent cmd epoch memu graph engines clk0 clkAt ctxs frameTags
    lastFrame chk dlv rcd time pwr thm diag firm pending : _} (h : Mems.wf mems = true) : (State.mk now timeOfs
        freeCount busRead
    regs active hiLatch hiHold w1cSet mems events ports axes ledger setsStaged sets cams strobes lite links tw swaths
        coal msix
    msixPend msixSent cmd epoch memu graph engines clk0 clkAt ctxs frameTags lastFrame chk dlv rcd time pwr thm diag firm
    pending).canonical := h

theorem foldl_canonical {α : Type} {f : State → α → State} {l : List α} {s : State}
    (hf : ∀ (u : State) (a : α), u.canonical → (f u a).canonical) (hs : s.canonical) : (l.foldl f s).canonical :=
  List.foldlRecOn (motive := State.canonical) l f hs fun u hu a _ => hf u a hu

theorem State.hostWrite_canonical {s : State} {a : Nat} {bs : List Nat} (h : s.canonical) : (s.hostWrite a bs).canonical :=
  hostWrite_wf s a bs h

theorem State.wr_canonical {s : State} {f : Fld} {v : Nat} (h : s.canonical) : (s.wr f v).canonical := mk_canonical h

theorem State.wrActive_canonical {s : State} {f : Fld} {v : Nat} (h : s.canonical) :
    (s.wrActive f v).canonical := mk_canonical h

theorem State.wrBoth_canonical {s : State} {f : Fld} {v : Nat} (h : s.canonical) : (s.wrBoth f v).canonical :=
  wrActive_canonical (wr_canonical h)

theorem State.addSat_canonical {s : State} {f : Fld} {k : Nat} (h : s.canonical) : (s.addSat f k).canonical :=
  wr_canonical h

theorem State.wrB_canonical {s : State} {f : Fld} {b : Bool} (h : s.canonical) : (s.wrB f b).canonical := wr_canonical h

theorem State.times_canonical {s : State} {f : State → State} {n : Nat} (hf : ∀ u : State, u.canonical → (f u).canonical)
    (h : s.canonical) : (s.times f n).canonical := by
  induction n generalizing s with
  | zero => exact h
  | succ n ih => exact ih (hf s h)

theorem State.sets1_canonical {s : State} {f : Fld} {m : Nat} (h : s.canonical) : (s.sets1 f m).canonical :=
  mk_canonical (wr_canonical h)

theorem State.set1_canonical {s : State} {f : Fld} (h : s.canonical) : (s.set1 f).canonical := sets1_canonical h

theorem State.clear1_canonical {s : State} {f : Fld} {m : Nat} (h : s.canonical) : (s.clear1 f m).canonical :=
  wr_canonical h

theorem State.at_canonical {s : State} {t : Nat} (h : s.canonical) : (s.at t).canonical := mk_canonical h

theorem State.used_canonical {s : State} (h : s.canonical) : s.used.canonical := mk_canonical h

theorem State.raiseBy_canonical {s : State} {join : List Nat → List Nat → List Nat × List Nat} {code idx t : Nat}
    {vals : List Nat} (h : s.canonical) : (s.raiseBy join code idx t vals).canonical :=
  ite_canonical (mk_canonical h) h

theorem State.raiseJoin_canonical {s : State} {join : List Nat → List Nat → List Nat} {code idx t : Nat} {vals : List Nat}
    (h : s.canonical) : (s.raiseJoin join code idx t vals).canonical :=
  raiseBy_canonical h

theorem State.raiseFirst_canonical {s : State} {code idx : Nat} {vals : List Nat} (h : s.canonical) :
    (s.raiseFirst code idx vals).canonical :=
  raiseJoin_canonical h

theorem State.raise_canonical {s : State} {code idx : Nat} {vals : List Nat} (h : s.canonical) :
    (s.raise code idx vals).canonical :=
  raiseBy_canonical h

theorem State.setPort_canonical {s : State} {n : Nat} {p : Port} (h : s.canonical) :
    (s.setPort n p).canonical := mk_canonical h

theorem State.setAxis_canonical {s : State} {n : Nat} {a : Axis} (h : s.canonical) :
    (s.setAxis n a).canonical := mk_canonical h

theorem State.setLink_canonical {s : State} {n : Nat} {l : Link} (h : s.canonical) :
    (s.setLink n l).canonical := mk_canonical h

theorem State.symbolSlips_canonical {s : State} {n k : Nat} (h : s.canonical) : (s.symbolSlips n k).canonical := by
  induction k generalizing s with
  | zero => exact h
  | succ k ih => exact ih (raise_canonical h)

theorem State.bcLaunch_canonical {s : State} {n : Nat} {f : BcFrame} (h : s.canonical) : (s.bcLaunch n f).canonical :=
  setLink_canonical h

theorem State.bcNext_canonical {s : State} {n : Nat} (h : s.canonical) : (s.bcNext n).canonical := by
  unfold State.bcNext
  dsimp only
  split
  · exact h
  · split
    · exact h
    · exact bcLaunch_canonical (setLink_canonical h)

theorem State.bcSend_canonical {s : State} {n : Nat} {f : BcFrame} (h : s.canonical) : (s.bcSend n f).canonical :=
  bcNext_canonical (setLink_canonical h)

theorem State.bcControl_canonical {s : State} {n op : Nat} {args : List Nat} {who : Who} (h : s.canonical) :
    (s.bcControl n op args who).canonical :=
  bcSend_canonical h

theorem State.twConfig_canonical {s : State} {n : Nat} (h : s.canonical) : (s.twConfig n).canonical :=
  bcSend_canonical (setLink_canonical h)

theorem State.twConfigDue_canonical {s : State} {n : Nat} (h : s.canonical) : (s.twConfigDue n).canonical :=
  ite_canonical (twConfig_canonical h) h

theorem State.setEnt_canonical {s : State} {i : Nat} {e : LAct} (h : s.canonical) :
    (s.setEnt i e).canonical := mk_canonical h

theorem State.setFrozen_canonical {s : State} {fs : List Frozen} (h : s.canonical) :
    (s.setFrozen fs).canonical := mk_canonical h

theorem State.setCam_canonical {s : State} {c : Nat} {x : Cam} (h : s.canonical) : (s.setCam c x).canonical := mk_canonical h

theorem State.setStrobe_canonical {s : State} {n : Nat} {x : Strobe} (h : s.canonical) : (s.setStrobe n x).canonical :=
  mk_canonical h

theorem State.placeFrozen_canonical {s : State} {c : Nat} {f : Frozen} (h : s.canonical) : (s.placeFrozen c f).canonical :=
  setFrozen_canonical (symbolSlips_canonical (setLink_canonical h))

theorem State.freeze_canonical {s : State} {i c : Nat} {x : Int} (h : s.canonical) : (s.freeze i c x).canonical :=
  ite_canonical (placeFrozen_canonical (setEnt_canonical h)) (setFrozen_canonical (setEnt_canonical h))

theorem State.skip_canonical {s : State} {i c : Nat} {st : ChSt} (h : s.canonical) : (s.skip i c st).canonical :=
  ite_canonical (setCam_canonical (setEnt_canonical h)) (setEnt_canonical h)

theorem State.collide_canonical {s : State} {i c : Nat} (h : s.canonical) : (s.collide i c).canonical :=
  raise_canonical (addSat_canonical (skip_canonical h))

theorem State.raiseMissed_canonical {s : State} {i : Nat} {a : LAct} {charged : Nat} (h : s.canonical) :
    (s.raiseMissed i a charged).canonical :=
  ite_canonical h (raiseJoin_canonical h)

theorem State.entryDone_canonical {s : State} {i : Nat} (h : s.canonical) : (s.entryDone i).canonical :=
  raise_canonical (setEnt_canonical h)

theorem State.charge_canonical {s : State} {i k : Nat} (h : s.canonical) : (s.charge i k).canonical := setEnt_canonical h

theorem State.advance_canonical {s : State} {i k : Nat} (h : s.canonical) : (s.advance i k).canonical :=
  setEnt_canonical (charge_canonical h)

theorem State.endOccurrence_canonical {s : State} {i t : Nat} (h : s.canonical) : (s.endOccurrence i t).canonical := by
  unfold State.endOccurrence
  extract_lets _ _ s1 _ _ _ s2
  have hs1 : s1.canonical := addSat_canonical h
  have hs2 : s2.canonical := addSat_canonical (raiseMissed_canonical hs1)
  exact ite_canonical (entryDone_canonical (charge_canonical (raiseMissed_canonical hs1))) (ite_canonical
      (entryDone_canonical (charge_canonical hs2)) (advance_canonical hs2))

theorem State.fireSettings_canonical {s : State} {e : LEnt} (h : s.canonical) : (s.fireSettings e).canonical :=
  ite_canonical (foldl_canonical (fun _ _ hu => setCam_canonical hu) h) h

theorem State.fireReached_canonical {s : State} {i t : Nat} (h : s.canonical) : (s.fireReached i t).canonical := by
  unfold State.fireReached
  extract_lets _ _ s1
  have hs1 : s1.canonical := fireSettings_canonical h
  exact ite_canonical h (ite_canonical (entryDone_canonical (charge_canonical hs1)) (ite_canonical (entryDone_canonical
      (advance_canonical hs1)) (advance_canonical hs1)))

theorem State.evalChannel_canonical {s : State} {i t : Nat} {fresh : Bool} {c : Nat} (h : s.canonical) :
    (s.evalChannel i t fresh c).canonical := by
  unfold State.evalChannel
  extract_lets
  exact ite_canonical h (ite_canonical (ite_canonical (ite_canonical (ite_canonical (skip_canonical h) (ite_canonical
      (collide_canonical h) (raise_canonical (freeze_canonical h)))) (skip_canonical h)) (ite_canonical (setEnt_canonical h)
      (setEnt_canonical h))) (setEnt_canonical h))

theorem State.disarm_canonical {s : State} {i : Nat} (h : s.canonical) : (s.disarm i).canonical :=
  ite_canonical h (setEnt_canonical h)

theorem State.evalBare_canonical {s : State} {i t : Nat} {fresh : Bool} (h : s.canonical) :
    (s.evalBare i t fresh).canonical :=
  ite_canonical (ite_canonical (fireReached_canonical h) h) (setEnt_canonical (ite_canonical (fireReached_canonical h) h))

theorem State.evalLoop_canonical {s : State} {i t : Nat} {fresh : Bool} {k : Nat} (h : s.canonical) :
    (s.evalLoop i t fresh k).canonical := by
  induction k generalizing s fresh with
  | zero => exact h
  | succ k ih =>
    have hs1 : ((s.ent i).w.channels.foldl (fun s c => s.evalChannel i t fresh c) s).canonical :=
      foldl_canonical (fun _ _ hu => evalChannel_canonical hu) h
    exact ite_canonical (ite_canonical (endOccurrence_canonical hs1) (ih (endOccurrence_canonical hs1))) hs1

theorem State.evalEntry_canonical {s : State} {t : Nat} {fresh : Bool} {i : Nat} (h : s.canonical) :
    (s.evalEntry t fresh i).canonical :=
  ite_canonical h (ite_canonical (disarm_canonical h) (ite_canonical (evalBare_canonical h) (evalLoop_canonical h)))

theorem State.captureCentres_canonical {s : State} {n t : Nat} (h : s.canonical) : (s.captureCentres n t).canonical :=
  mk_canonical h

theorem State.evalAxis_canonical {s : State} {n t : Nat} (h : s.canonical) : (s.evalAxis n t).canonical :=
  foldl_canonical (fun _ _ hu => ite_canonical (evalEntry_canonical hu) hu) h

theorem State.setWin_canonical {s : State} {e : LEnt} (h : s.canonical) : (s.setWin e).canonical :=
  wr_canonical (wr_canonical (wr_canonical (wr_canonical (wr_canonical (wr_canonical (wr_canonical (wr_canonical h)))))))

theorem State.setStagedEnt_canonical {s : State} {i : Nat} {e : LEnt} (h : s.canonical) : (s.setStagedEnt i e).canonical :=
  mk_canonical h

theorem State.sealedWrite_canonical {s : State} {off : Nat} (h : s.canonical) : (s.sealedWrite off).canonical :=
  raise_canonical (set1_canonical h)

theorem State.afterChannel_canonical {s : State} {i t : Nat} (h : s.canonical) : (s.afterChannel i t).canonical := by
  unfold State.afterChannel
  extract_lets s1 s2
  have hs1 : s1.canonical := setEnt_canonical h
  have hs2 : s2.canonical := endOccurrence_canonical hs1
  exact ite_canonical hs1 (ite_canonical (ite_canonical hs2 (evalEntry_canonical hs2)) hs1)

theorem State.issueFreeze_canonical {s : State} {i c t : Nat} (h : s.canonical) : (s.issueFreeze i c t).canonical := by
  unfold State.issueFreeze
  extract_lets s0
  have hs0 : s0.canonical := at_canonical h
  split
  · exact ite_canonical (ite_canonical (afterChannel_canonical (skip_canonical hs0)) (ite_canonical (afterChannel_canonical
        (collide_canonical hs0)) (freeze_canonical hs0))) h
  · exact h

theorem State.issuedOf_canonical {s : State} {f : Frozen} {st : ChSt} {t : Nat} (h : s.canonical) :
    (s.issuedOf f st t).canonical :=
  ite_canonical (afterChannel_canonical (setEnt_canonical h)) h

theorem State.unfreeze_canonical {s : State} {f : Frozen} (h : s.canonical) : (s.unfreeze f).canonical :=
  setFrozen_canonical h

theorem State.windowShut_canonical {s : State} {c : Nat} (h : s.canonical) : (s.windowShut c).canonical :=
  ite_canonical (raise_canonical (setCam_canonical h)) (setCam_canonical h)

theorem State.triggerSend_canonical {s : State} {f : Frozen} {t : Nat} (h : s.canonical) : (s.triggerSend f t).canonical :=
  issuedOf_canonical (addSat_canonical (setCam_canonical (setLink_canonical (windowShut_canonical h))))

theorem execTriggerIssue_canonical {c : Fin 24} {t : Nat} {s : State} (h : s.canonical) :
    NextCanonical (execTriggerIssue c t s) := by
  unfold execTriggerIssue
  extract_lets
  split
  · exact h
  · exact ite_canonical (triggerSend_canonical (unfreeze_canonical (at_canonical h))) (issuedOf_canonical (setCam_canonical
        (unfreeze_canonical (at_canonical h))))

theorem execExposureEndIssue_canonical {c : Fin 24} {t : Nat} {s : State} (h : s.canonical) :
    NextCanonical (execExposureEndIssue c t s) := by
  unfold execExposureEndIssue
  split
  · exact ite_canonical (setLink_canonical (at_canonical h)) h
  · exact h

theorem State.strobePulse_canonical {s : State} {n t width : Nat} (h : s.canonical) : (s.strobePulse n t width).canonical :=
  ite_canonical (raise_canonical (addSat_canonical (setStrobe_canonical h))) (setStrobe_canonical h)

theorem execStrobeIssue_canonical {n : Fin 8} {t : Nat} {s : State} (h : s.canonical) :
    NextCanonical (execStrobeIssue n t s) := by
  unfold execStrobeIssue
  split
  · exact h
  · extract_lets s1
    have hs1 : s1.canonical := addSat_canonical (unfreeze_canonical (at_canonical h))
    exact issuedOf_canonical (ite_canonical (strobePulse_canonical hs1) hs1)

theorem execStrobePulseEnd_canonical {n : Fin 8} {t : Nat} {s : State} (h : s.canonical) :
    NextCanonical (execStrobePulseEnd n t s) :=
  ite_canonical h (ite_canonical (setStrobe_canonical (at_canonical h)) (setStrobe_canonical (at_canonical h)))

theorem State.strobeCuts_canonical {s : State} {n k : Nat} (h : s.canonical) : (s.strobeCuts n k).canonical := by
  induction k generalizing s with
  | zero => exact h
  | succ k ih => exact ih (raise_canonical h)

theorem execStrobeClip_canonical {n : Fin 8} {t : Nat} {s : State} (h : s.canonical) :
    NextCanonical (execStrobeClip n t s) := by
  unfold execStrobeClip
  extract_lets
  split
  · extract_lets
    exact ite_canonical (strobeCuts_canonical (setStrobe_canonical (at_canonical h))) (ite_canonical (strobeCuts_canonical
        (setStrobe_canonical (at_canonical h))) h)
  · exact h

theorem State.swathFollow_canonical {s : State} {n t k : Nat} (h : s.canonical) : (s.swathFollow n t k).canonical := by
  unfold State.swathFollow
  extract_lets x
  clear_value x
  split
  · exact h
  · have hput : ∀ y, ({ s with swaths := AMap.set s.swaths k y } : State).canonical := fun _ => mk_canonical h
    exact ite_canonical h (ite_canonical (ite_canonical h (raise_canonical (hput _)))
      (ite_canonical (ite_canonical (raise_canonical (hput _)) (hput _)) (ite_canonical (hput _) h)))

theorem State.swathAxis_canonical {s : State} {n t : Nat} (h : s.canonical) : (s.swathAxis n t).canonical :=
  swathFollow_canonical (swathFollow_canonical h)

theorem State.wakePend_canonical {s : State} {src : Nat} (h : s.canonical) : (s.wakePend src).canonical := mk_canonical h

theorem State.wakeAxis_canonical {s : State} {n t : Nat} (h : s.canonical) : (s.wakeAxis n t).canonical :=
  ite_canonical (wakePend_canonical h) h

theorem State.setMotion_canonical {s : State} {n m : Nat} (h : s.canonical) : (s.setMotion n m).canonical :=
  ite_canonical h (raise_canonical (wr_canonical h))

theorem State.setSpeed_canonical {s : State} {n : Nat} {v : Int} (h : s.canonical) : (s.setSpeed n v).canonical :=
  wr_canonical h

theorem State.slipTrack_canonical {s : State} {n t : Nat} (h : s.canonical) : (s.slipTrack n t).canonical :=
  ite_canonical h (setAxis_canonical h)

theorem State.uncLimit_canonical {s : State} {n old : Nat} (h : s.canonical) : (s.uncLimit n old).canonical :=
  ite_canonical (raise_canonical (setAxis_canonical h)) h

theorem State.followSources_canonical {s : State} {n t : Nat} (h : s.canonical) : (s.followSources n t).canonical := by
  unfold State.followSources
  extract_lets s0 _ s1 s2 s3 s4
  have hs0 : s0.canonical := captureCentres_canonical h
  have hs1 : s1.canonical := ite_canonical (set1_canonical hs0) hs0
  have hs2 : s2.canonical := ite_canonical (raise_canonical (uncLimit_canonical (addSat_canonical (wr_canonical hs1)))) hs1
  have hs3 : s3.canonical := wrB_canonical hs2
  have hs4 : s4.canonical := ite_canonical (setMotion_canonical hs3) (ite_canonical (setMotion_canonical hs3) (ite_canonical
      (setMotion_canonical hs3) (ite_canonical (setMotion_canonical hs3) hs3)))
  exact slipTrack_canonical (setSpeed_canonical hs4)

theorem State.axisChanged_canonical {s : State} {n t : Nat} (h : s.canonical) : (s.axisChanged n t).canonical :=
  swathAxis_canonical (evalAxis_canonical h)

theorem State.forAxes_canonical {s : State} {f : State → Nat → State} (hf : ∀ (u : State) (k : Nat), u.canonical →
    (f u k).canonical)
    (h : s.canonical) : (s.forAxes f).canonical :=
  foldl_canonical hf h

theorem State.axisDerive_canonical {s : State} {t n : Nat} (h : s.canonical) : (s.axisDerive t n).canonical := by
  unfold State.axisDerive
  extract_lets _ s1
  have hs1 : s1.canonical := setAxis_canonical h
  split
  · exact ite_canonical (ite_canonical (axisChanged_canonical (followSources_canonical hs1)) hs1) h
  · exact h

theorem State.axisWrap_canonical {s : State} {t n : Nat} (h : s.canonical) : (s.axisWrap t n).canonical :=
  ite_canonical (raise_canonical (set1_canonical (setAxis_canonical h))) h

theorem State.shiftPos_canonical {s : State} {n : Nat} {ht : Int} (h : s.canonical) : (s.shiftPos n ht).canonical :=
  ite_canonical (setAxis_canonical h) (raise_canonical (set1_canonical (setAxis_canonical h)))

theorem State.rebase_canonical {s : State} {n : Nat} {add : Int} (h : s.canonical) : (s.rebase n add).canonical :=
  shiftPos_canonical (setAxis_canonical (axisWrap_canonical h))

theorem State.sampled_canonical {s : State} {t : Nat} (h : s.canonical) : (s.sampled t).canonical :=
  forAxes_canonical (fun _ _ hu => axisWrap_canonical (axisDerive_canonical hu)) (at_canonical h)

theorem State.portChanged_canonical {s : State} {p t : Nat} (h : s.canonical) : (s.portChanged p t).canonical :=
  forAxes_canonical (fun _ _ hu => ite_canonical (ite_canonical (followSources_canonical hu) (axisChanged_canonical
      (followSources_canonical hu))) hu) h

theorem State.portFault_canonical {s : State} {p t : Nat} (h : s.canonical) : (s.portFault p t).canonical :=
  ite_canonical h (portChanged_canonical (setPort_canonical (wr_canonical (wr_canonical (wrB_canonical h)))))

theorem State.addUnc_canonical {s : State} {p k : Nat} (h : s.canonical) : (s.addUnc p k).canonical :=
  forAxes_canonical (fun _ _ hu => ite_canonical hu (uncLimit_canonical (addSat_canonical hu))) (addSat_canonical h)

theorem State.portStep_canonical {s : State} {p t : Nat} {d : Int} (h : s.canonical) : (s.portStep p t d).canonical := by
  unfold State.portStep
  extract_lets _ _ s1 _ _ s2
  have hs1 : s1.canonical := wr_canonical (wr_canonical h)
  have hs2 : s2.canonical := wr_canonical (setPort_canonical hs1)
  exact ite_canonical (setPort_canonical hs1) (wr_canonical hs2)

theorem State.movePos_canonical {s : State} {n t : Nat} {ht : Int} (h : s.canonical) : (s.movePos n t ht).canonical :=
  shiftPos_canonical (setAxis_canonical h)

theorem State.axisStep_canonical {s : State} {n p t : Nat} {d : Int} (h : s.canonical) : (s.axisStep n p t d).canonical := by
  unfold State.axisStep
  extract_lets _ s0 s1 _ _ _ s2 s3
  have hs0 : s0.canonical := captureCentres_canonical h
  have hs1 : s1.canonical := movePos_canonical hs0
  have hs2 : s2.canonical := setAxis_canonical (wr_canonical (wrB_canonical hs1))
  have hs3 : s3.canonical := ite_canonical hs2 (setMotion_canonical hs2)
  exact ite_canonical (wakeAxis_canonical (axisChanged_canonical (followSources_canonical hs3))) h

theorem State.axisSkip_canonical {s : State} {n p t : Nat} {d : Int} (h : s.canonical) : (s.axisSkip n p t d).canonical :=
  ite_canonical (wakeAxis_canonical (axisChanged_canonical (shiftPos_canonical (captureCentres_canonical h)))) h

theorem State.countedStep_canonical {s : State} {p t : Nat} {d : Int} (h : s.canonical) :
    (s.countedStep p t d).canonical := by
  unfold State.countedStep
  extract_lets _ s1
  have hs1 : s1.canonical := portStep_canonical h
  exact ite_canonical hs1 (forAxes_canonical (fun _ _ hu => ite_canonical (axisStep_canonical hu) (ite_canonical
      (followSources_canonical hu) hu)) hs1)

theorem State.skippedStep_canonical {s : State} {p t : Nat} {d : Int} (h : s.canonical) : (s.skippedStep p t d).canonical :=
  ite_canonical (wr_canonical h) (forAxes_canonical (fun _ _ hu => axisSkip_canonical hu) (wr_canonical h))

theorem State.edgeFault_canonical {s : State} {p t : Nat} {f : Fld} {code unc : Nat} (h : s.canonical) :
    (s.edgeFault p t f code unc).canonical :=
  addUnc_canonical (raiseJoin_canonical (addSat_canonical h))

theorem State.quadEdge_canonical {s : State} {p t old new : Nat} (h : s.canonical) : (s.quadEdge p t old new).canonical := by
  unfold State.quadEdge
  extract_lets _ _ _ _ s1
  have hs1 : s1.canonical := setPort_canonical h
  exact ite_canonical h (ite_canonical (edgeFault_canonical hs1) (ite_canonical (edgeFault_canonical hs1)
      (countedStep_canonical hs1)))

theorem State.hallEdge_canonical {s : State} {p t old new : Nat} (h : s.canonical) : (s.hallEdge p t old new).canonical := by
  unfold State.hallEdge
  extract_lets _ _ s1 _ s2
  have hs1 : s1.canonical := setPort_canonical h
  have hs2 : s2.canonical := setPort_canonical hs1
  refine ite_canonical h ?_
  split
  · exact ite_canonical (edgeFault_canonical hs1) (edgeFault_canonical hs1)
  · exact ite_canonical (edgeFault_canonical hs2) hs2
  · refine ite_canonical (edgeFault_canonical hs2) ?_
    split
    · exact hs2
    · exact countedStep_canonical hs2
    · exact countedStep_canonical hs2
    · exact skippedStep_canonical (edgeFault_canonical hs2)
    · exact skippedStep_canonical (edgeFault_canonical hs2)
    · exact edgeFault_canonical hs2

theorem State.stepEdge_canonical {s : State} {p t old new : Nat} {mid : Bool} (h : s.canonical) :
    (s.stepEdge p t old new mid).canonical :=
  ite_canonical (ite_canonical (edgeFault_canonical (setPort_canonical h)) (countedStep_canonical (setPort_canonical h))) h

theorem State.indexLatch_canonical {s : State} {p t : Nat} (h : s.canonical) : (s.indexLatch p t).canonical :=
  ite_canonical (ite_canonical (edgeFault_canonical (setPort_canonical (wr_canonical h))) (setPort_canonical (wr_canonical
      h))) h

theorem State.sense_canonical {s : State} {n lv mid : Nat} (h : s.canonical) : (s.sense n lv mid).1.canonical :=
  setPort_canonical h

theorem execEncoderEdge_canonical {n : Fin 8} {lv mid : BitVec 3} {t : Nat} {s : State} (h : s.canonical) :
    NextCanonical (execEncoderEdge n lv mid t s) := by
  unfold execEncoderEdge
  extract_lets _ _ _ s1 s2
  have hs1 : s1.canonical := wr_canonical (sense_canonical (sampled_canonical h))
  have hs2 : s2.canonical := quadEdge_canonical hs1
  refine ite_canonical h ?_
  split
  · exact ite_canonical (indexLatch_canonical hs2) hs2
  · exact hallEdge_canonical hs1
  · exact stepEdge_canonical hs1
  · exact hs1

theorem State.openWire_canonical {s : State} {p g t : Nat} (h : s.canonical) : (s.openWire p g t).canonical :=
  portFault_canonical (raise_canonical (sets1_canonical (wr_canonical h)))

theorem State.encTrip_canonical {s : State} {p t : Nat} (h : s.canonical) : (s.encTrip p t).canonical :=
  portFault_canonical (raise_canonical (set1_canonical h))

theorem State.serialError_canonical {s : State} {p t : Nat} (h : s.canonical) : (s.serialError p t).canonical :=
  portFault_canonical (raise_canonical (addSat_canonical (setPort_canonical h)))

theorem State.serialGood_canonical {s : State} {p t v : Nat} (h : s.canonical) : (s.serialGood p t v).canonical := by
  unfold State.serialGood
  extract_lets _ _ s1 prev _ s2
  have hs1 : s1.canonical := portFault_canonical (wr_canonical (setPort_canonical h))
  have hs2 : s2.canonical := setPort_canonical hs1
  clear_value prev
  split
  · exact hs2
  · exact ite_canonical hs2 (countedStep_canonical hs2)

theorem execSerialReading_canonical {n : Fin 8} {early : Bool} {raw : BitVec 40} {errs : BitVec 2} {crc : BitVec 6} {t : Nat}
    {s : State} (h : s.canonical) : NextCanonical (execSerialReading n early raw errs crc t s) := by
  unfold execSerialReading
  extract_lets _ _ _ s1
  have hs1 : s1.canonical := setPort_canonical (at_canonical h)
  split
  · exact h
  · extract_lets
    exact ite_canonical h (ite_canonical (ite_canonical (serialError_canonical hs1) (serialGood_canonical hs1))
        (ite_canonical (ite_canonical (serialError_canonical hs1) (serialGood_canonical (ite_canonical hs1 (raise_canonical
        hs1)))) hs1))

theorem execStandstillTimeout_canonical {n : Fin 8} {t : Nat} {s : State} (h : s.canonical) :
    NextCanonical (execStandstillTimeout n t s) := by
  unfold execStandstillTimeout
  extract_lets _ _ _ s0 _ s1
  have hs0 : s0.canonical := ite_canonical (at_canonical h) h
  have hs1 : s1.canonical := ite_canonical (setPort_canonical (wr_canonical (wr_canonical hs0))) hs0
  exact forAxes_canonical (fun _ _ hu => ite_canonical (axisChanged_canonical (followSources_canonical (setMotion_canonical
      hu))) (ite_canonical (axisChanged_canonical (followSources_canonical hu)) hu)) hs1

theorem State.snapAxis_canonical {s : State} {t n : Nat} (h : s.canonical) : (s.snapAxis t n).canonical :=
  wr_canonical (wr_canonical (wr_canonical (wr_canonical (wr_canonical (wr_canonical h)))))

theorem State.msixSend_canonical {s : State} {v : Nat} (h : s.canonical) : (s.msixSend v).canonical :=
  ite_canonical (mk_canonical h) (mk_canonical (hostWrite_canonical h))

theorem State.msixWrite_canonical {s : State} {k val : Nat} (h : s.canonical) : (s.msixWrite k val).canonical :=
  ite_canonical (msixSend_canonical (mk_canonical (mk_canonical h))) (mk_canonical h)

theorem State.coalReset_canonical {s : State} {k : Nat} (h : s.canonical) : (s.coalReset k).canonical := mk_canonical h

theorem State.signal_canonical {s : State} {k : Nat} (h : s.canonical) : (s.signal k).canonical :=
  ite_canonical (msixSend_canonical (coalReset_canonical h)) (mk_canonical h)

theorem execCoalesceTimeout_canonical {k : Fin 66} {t : Nat} {s : State} (h : s.canonical) :
    NextCanonical (execCoalesceTimeout k t s) := by
  unfold execCoalesceTimeout
  split
  · exact ite_canonical (msixSend_canonical (coalReset_canonical (at_canonical h))) h
  · exact h

theorem State.evPeek_canonical {s : State} {r : EvRec} (h : s.canonical) : (s.evPeek r).canonical :=
  wr_canonical (mk_canonical (used_canonical h))

theorem State.evRaise_canonical {s : State} {r : EvRec} (h : s.canonical) : (s.evRaise r).canonical :=
  ite_canonical (mk_canonical (evPeek_canonical h)) (addSat_canonical (mk_canonical (evPeek_canonical h)))

theorem State.evTick_canonical {s : State} (h : s.canonical) : s.evTick.canonical :=
  foldl_canonical (fun _ _ hu => evRaise_canonical (used_canonical hu)) (mk_canonical h)

theorem State.lowWrite_canonical {s : State} {n : Nat} (h : s.canonical) : (s.lowWrite n).canonical := mk_canonical h

theorem State.evrWrite_canonical {s : State} {r : EvRec} (h : s.canonical) : (s.evrWrite r).canonical := by
  unfold State.evrWrite
  extract_lets _ _ s1 s2 _ s3
  have hs1 : s1.canonical := hostWrite_canonical h
  have hs2 : s2.canonical := wr_canonical hs1
  have hs3 : s3.canonical := ite_canonical (mk_canonical hs2) hs2
  exact signal_canonical (lowWrite_canonical hs3)

theorem State.evLost_canonical {s : State} (h : s.canonical) : s.evLost.canonical :=
  ite_canonical (evrWrite_canonical (evPeek_canonical (mk_canonical h))) h

theorem execEventRecord_canonical {t : Nat} {s : State} (h : s.canonical) : NextCanonical (execEventRecord t s) := by
  unfold execEventRecord
  extract_lets s1
  have hs1 : s1.canonical := evLost_canonical (at_canonical h)
  refine ite_canonical h ?_
  split
  · exact hs1
  · exact ite_canonical hs1 (ite_canonical (evrWrite_canonical (mk_canonical hs1)) (addSat_canonical (mk_canonical
        (mk_canonical hs1))))

theorem State.evrEnable_canonical {s : State} (h : s.canonical) : s.evrEnable.canonical :=
  ite_canonical h (evLost_canonical (mk_canonical (wr_canonical (wr_canonical h))))

theorem State.evPop_canonical {s : State} (h : s.canonical) : s.evPop.canonical := by
  unfold State.evPop
  split
  · exact wr_canonical (wr_canonical (mk_canonical h))
  · exact set1_canonical (mk_canonical h)

theorem State.cqWrite_canonical {s : State} {bytes : List Nat} (h : s.canonical) : (s.cqWrite bytes).canonical := by
  unfold State.cqWrite
  extract_lets _ _ s1 s2 _ s3
  have hs1 : s1.canonical := hostWrite_canonical h
  have hs2 : s2.canonical := wr_canonical hs1
  have hs3 : s3.canonical := ite_canonical (mk_canonical hs2) hs2
  exact signal_canonical (lowWrite_canonical hs3)

theorem State.cqDrain_canonical {s : State} {k : Nat} (h : s.canonical) : (s.cqDrain k).canonical := by
  induction k generalizing s with
  | zero => exact h
  | succ k ih =>
    unfold State.cqDrain
    split
    · exact h
    · exact ite_canonical h (ih (cqWrite_canonical h))

theorem State.cqFlush_canonical {s : State} (h : s.canonical) : s.cqFlush.canonical := ite_canonical (cqDrain_canonical h) h

theorem State.cmdReply_canonical {s : State} {c : CmdPkt} {r : Reply} (h : s.canonical) : (s.cmdReply c r).canonical :=
  ite_canonical (wr_canonical (mk_canonical (mk_canonical h))) (cqFlush_canonical (mk_canonical (mk_canonical h)))

theorem State.cmdKeep_canonical {s : State} {c : CmdPkt} (h : s.canonical) : (s.cmdKeep c).canonical := mk_canonical h

theorem cmdHostErr_canonical {err : Bool} {body : CmdBody} {c : CmdPkt} {s : State}
    (hbody : ∀ (c : CmdPkt) (s : State), s.canonical → (body c s).1.canonical) (h : s.canonical) :
    (cmdHostErr err body c s).1.canonical := by
  unfold cmdHostErr
  split
  · exact hbody c s h
  · split <;> exact h

theorem State.cmdStart_canonical {s : State} {c : CmdPkt} {used : List Nat} {modeS : Bool} {body : CmdBody}
    (hbody : ∀ (c : CmdPkt) (s : State), s.canonical → (body c s).1.canonical) (h : s.canonical) :
    (s.cmdStart c used modeS body).canonical := by
  unfold State.cmdStart
  split
  · exact cmdReply_canonical h
  · split
    next s1 _ heq =>
      have hs1 : s1.canonical := canonical_of_eq (·.1.canonical) heq (hbody c s h)
      exact cmdReply_canonical hs1
    next s1 heq =>
      have hs1 : s1.canonical := canonical_of_eq (·.1.canonical) heq (hbody c s h)
      exact hs1

theorem State.svcCommand_canonical {s : State} {c : CmdPkt} {used : List Nat} {modeS : Bool} {body : CmdBody}
    (hbody : ∀ (c : CmdPkt) (s : State), s.canonical → (body c s).1.canonical) (h : s.canonical) :
    (s.svcCommand c used modeS body).canonical :=
  ite_canonical (cmdStart_canonical hbody h) (ite_canonical (cmdReply_canonical h) h)

theorem State.anyCommand_canonical {s : State} {c : CmdPkt} {used : List Nat} {body : CmdBody}
    (hbody : ∀ (c : CmdPkt) (s : State), s.canonical → (body c s).1.canonical) (h : s.canonical) :
    (s.anyCommand c used body).canonical :=
  ite_canonical (cmdStart_canonical hbody h) h

theorem State.wardenCommand_canonical {s : State} {c : CmdPkt} {used : List Nat} {body : CmdBody}
    (hbody : ∀ (c : CmdPkt) (s : State), s.canonical → (body c s).1.canonical) (h : s.canonical) :
    (s.wardenCommand c used body).canonical := by
  unfold State.wardenCommand
  split
  · exact cmdStart_canonical hbody h
  · exact cmdReply_canonical h
  · exact h

theorem State.setEng_canonical {s : State} {g : Nat} {e : Engine} (h : s.canonical) :
    (s.setEng g e).canonical := mk_canonical h

theorem State.memPut_canonical {s : State} {m : MemId} {a : Nat} {bs : List Nat} (h : s.canonical) :
    (s.memPut m a bs).canonical :=
  memPut_wf s m a bs h

theorem State.memCorrect_canonical {s : State} {r k : Nat} (h : s.canonical) : (s.memCorrect r k).canonical := by
  induction k with
  | zero => exact h
  | succ k ih => exact ite_canonical (raise_canonical ih) ih

theorem State.autoAsk_canonical {s : State} {kind i : Nat} (h : s.canonical) : (s.autoAsk kind i).canonical :=
  ite_canonical h (mk_canonical h)

theorem State.ueWatch_canonical {s : State} {r : Nat} (h : s.canonical) : (s.ueWatch r).canonical :=
  ite_canonical h (ite_canonical (ite_canonical (autoAsk_canonical (mk_canonical h)) (autoAsk_canonical (mk_canonical h)))
      (mk_canonical h))

theorem State.memUe_canonical {s : State} {r a : Nat} (h : s.canonical) : (s.memUe r a).canonical :=
  ueWatch_canonical (raiseFirst_canonical (addSat_canonical h))

theorem State.setMemu_canonical {s : State} {u : MemUnit} (h : s.canonical) : (s.setMemu u).canonical := mk_canonical h

theorem State.meetWord_canonical {s : State} {m : MemId} {k : Nat} (h : s.canonical) : (s.meetWord m k).1.canonical := by
  unfold State.meetWord
  dsimp only
  split
  · exact h
  · split
    · exact memCorrect_canonical (setMemu_canonical h)
    split
    · exact memCorrect_canonical (setMemu_canonical h)
    · exact memUe_canonical (setMemu_canonical h)

theorem State.meetWords_canonical {s : State} {m : MemId} {ks : List Nat} (h : s.canonical) :
    (s.meetWords m ks).1.canonical :=
  List.foldlRecOn (motive := fun x : State × Bool => x.1.canonical) ks _ h fun _ hx _ _ => meetWord_canonical hx

theorem State.crcCheck_canonical {s : State} {m : MemId} {a n : Nat} (h : s.canonical) : (s.crcCheck m a n).1.canonical := by
  unfold State.crcCheck
  split
  · exact h
  · refine List.foldlRecOn (motive := fun x : State × List Nat => x.1.canonical) _ _ h fun x hx ch _ => ?_
    dsimp only
    split
    · exact hx
    · split <;> exact memCorrect_canonical hx

theorem State.eccInjected_canonical {s : State} {m : MemId} {a n : Nat} (h : s.canonical) :
    (s.eccInjected m a n).canonical := by
  unfold State.eccInjected
  refine ite_canonical h ?_
  dsimp only
  split
  · exact ite_canonical (setMemu_canonical (setEng_canonical h)) h
  · exact ite_canonical (setMemu_canonical (setEng_canonical h)) h
  · exact h

theorem State.memRead_canonical {s : State} {m : MemId} {a n : Nat} (h : s.canonical) : (s.memRead m a n).2.2.canonical :=
  meetWords_canonical (crcCheck_canonical (eccInjected_canonical h))

theorem State.cleanWords_canonical {s : State} {m : MemId} {a n : Nat} (h : s.canonical) : (s.cleanWords m a n).canonical :=
  ite_canonical h (setMemu_canonical h)

theorem State.injWrite_canonical {s : State} {m : MemId} {a n : Nat} (h : s.canonical) : (s.injWrite m a n).canonical := by
  unfold State.injWrite
  refine ite_canonical h ?_
  split
  · exact h
  · exact times_canonical (fun _ hu => used_canonical hu) (setMemu_canonical h)

theorem State.meetPart_canonical {s : State} {m : MemId} {a n : Nat} (h : s.canonical) : (s.meetPart m a n).canonical :=
  ite_canonical h (meetWords_canonical h)

theorem State.memWrite_canonical {s : State} {m : MemId} {a : Nat} {bs : List Nat} (h : s.canonical) :
    (s.memWrite m a bs).canonical :=
  ite_canonical h (injWrite_canonical (meetWords_canonical (crcCheck_canonical (cleanWords_canonical (memPut_canonical
      (meetPart_canonical h))))))

theorem State.memPoison_canonical {s : State} {m : MemId} {a n : Nat} (h : s.canonical) : (s.memPoison m a n).canonical :=
  ite_canonical h (setMemu_canonical h)

theorem State.memCopy_canonical {s : State} {ms : MemId} {a : Nat} {md : MemId} {b n : Nat} (h : s.canonical) :
    (s.memCopy ms a md b n).canonical := by
  unfold State.memCopy
  extract_lets _ s1
  have hs1 : s1.canonical := memWrite_canonical (memRead_canonical h)
  exact ite_canonical (foldl_canonical (fun _ _ hu => memPoison_canonical hu) hs1) hs1

theorem State.setChk_canonical {s : State} {n : Nat} {u : ChkUnit} (h : s.canonical) :
    (s.setChk n u).canonical := mk_canonical h

theorem State.chkShow_canonical {s : State} {n : Nat} (h : s.canonical) : (s.chkShow n).canonical := wr_canonical h

theorem State.chkLatch_canonical {s : State} {n : Nat} (h : s.canonical) : (s.chkLatch n).canonical := wr_canonical h

theorem State.chkAdopt_canonical {s : State} {n : Nat} (h : s.canonical) : (s.chkAdopt n).canonical := setChk_canonical h

theorem State.chkBind_canonical {s : State} {n : Nat} {f : Option (Nat × Nat)} (h : s.canonical) :
    (s.chkBind n f).canonical :=
  setChk_canonical h

theorem State.chkLoad_canonical {s : State} {n : Nat} (h : s.canonical) : (s.chkLoad n).canonical :=
  chkShow_canonical (wr_canonical (wr_canonical h))

theorem State.chkReset_canonical {s : State} {n : Nat} (h : s.canonical) : (s.chkReset n).canonical :=
  chkLoad_canonical (chkLatch_canonical h)

theorem State.chkAbsorb_canonical {s : State} {n : Nat} {bs : List Nat} (h : s.canonical) :
    (s.chkAbsorb n bs).canonical := by
  unfold State.chkAbsorb
  refine ite_canonical h ?_
  dsimp only
  split
  · exact h
  · exact chkShow_canonical (addSat_canonical (wr_canonical (setChk_canonical h)))

theorem State.chkItem_canonical {s : State} {gen f : Nat} {mid : Bool} {bytes : List Nat} {rec : Bool} {n : Nat}
    (h : s.canonical) :
    (s.chkItem gen f mid bytes rec n).1.canonical := by
  unfold State.chkItem
  extract_lets u held named mode reset s1 v
  have h1 : s1.canonical := ite_canonical (chkLoad_canonical (chkBind_canonical (chkAdopt_canonical (chkLatch_canonical
      h)))) h
  split
  · exact h
  split
  · exact h1
  split
  · exact chkLatch_canonical h1
  · exact chkAbsorb_canonical h1

theorem execChkReset_canonical {n : Fin 16} {s : State} (h : s.canonical) : NextCanonical (execChkReset n s) :=
  chkLoad_canonical (ite_canonical (chkLatch_canonical h) (chkBind_canonical (chkAdopt_canonical (chkLatch_canonical h))))

theorem State.setDq_canonical {s : State} {q : Nat} {x : DQueue} (h : s.canonical) :
    (s.setDq q x).canonical := mk_canonical h

theorem State.dqShow_canonical {s : State} {q : Nat} (h : s.canonical) : (s.dqShow q).canonical :=
  wr_canonical (wr_canonical (wr_canonical (wr_canonical h)))

theorem State.putDq_canonical {s : State} {q : Nat} {x : DQueue} (h : s.canonical) : (s.putDq q x).canonical :=
  dqShow_canonical (setDq_canonical h)

theorem State.wmEval1_canonical {s : State} {m : Nat} (h : s.canonical) : (s.wmEval1 m).canonical := by
  unfold State.wmEval1
  extract_lets
  exact ite_canonical h (ite_canonical (raise_canonical (wr_canonical (set1_canonical (wr_canonical h)))) (ite_canonical
      (raise_canonical (wr_canonical h)) h))

theorem State.wmEval_canonical {s : State} (h : s.canonical) : s.wmEval.canonical :=
  wmEval1_canonical (wmEval1_canonical (wmEval1_canonical (wmEval1_canonical h)))

theorem State.compWrite_canonical {s : State} {q : Nat} {c : DComp} (h : s.canonical) : (s.compWrite q c).canonical := by
  unfold State.compWrite
  extract_lets _ _ _ _ s1 s2
  have hs1 : s1.canonical := hostWrite_canonical h
  have hs2 : s2.canonical := signal_canonical (putDq_canonical hs1)
  exact ite_canonical (lowWrite_canonical hs2) hs2

theorem State.compFlush_canonical {s : State} {q k : Nat} (h : s.canonical) : (s.compFlush q k).canonical := by
  induction k generalizing s with
  | zero => exact h
  | succ k ih =>
    refine ite_canonical h ?_
    split
    · exact ih (compWrite_canonical h)
    · exact h

theorem State.complete_canonical {s : State} {q : Nat} {c : DComp} (h : s.canonical) : (s.complete q c).canonical :=
  compFlush_canonical (setDq_canonical h)

theorem State.setBucket_canonical {s : State} {q v : Nat} (h : s.canonical) : (s.setBucket q v).canonical :=
  wr_canonical (setDq_canonical h)

theorem State.bucketBack_canonical {s : State} {q bytes : Nat} (h : s.canonical) : (s.bucketBack q bytes).canonical :=
  setBucket_canonical h

theorem State.capMark_canonical {s : State} (h : s.canonical) : s.capMark.canonical := mk_canonical h

theorem State.dropItem_canonical {s : State} {q : Nat} {i : DItem} (h : s.canonical) : (s.dropItem q i).canonical :=
  setDq_canonical h

theorem State.endItem_canonical {s : State} {q : Nat} {i : DItem} {status flags plen : Nat} (h : s.canonical) :
    (s.endItem q i status flags plen).canonical := by
  unfold State.endItem
  extract_lets _ _ _ s0 s1 s2 _ s3 _ s4 s5 s6 s7
  have hs0 : s0.canonical := hostWrite_canonical h
  have hs1 : s1.canonical := dropItem_canonical hs0
  have hs2 : s2.canonical := ite_canonical (bucketBack_canonical hs1) hs1
  have hs3 : s3.canonical := setDq_canonical (ite_canonical (used_canonical hs2) hs2)
  have hs4 : s4.canonical := wr_canonical (wr_canonical hs3)
  have hs5 : s5.canonical := by
    unfold s5
    split
    · exact wr_canonical hs4
    · exact hs4
  have hs6 : s6.canonical := ite_canonical (raise_canonical (addSat_canonical hs5)) hs5
  have hs7 : s7.canonical := ite_canonical (lowWrite_canonical hs6) hs6
  exact dqShow_canonical (complete_canonical hs7)

theorem State.endCut_canonical {s : State} {q : Nat} {i : DItem} (h : s.canonical) : (s.endCut q i).canonical :=
  endItem_canonical (hostWrite_canonical h)

theorem State.endIncomplete_canonical {s : State} {q : Nat} (h : s.canonical) : (s.endIncomplete q).canonical :=
  foldl_canonical (fun _ _ hu => endCut_canonical hu) h

theorem State.suspend_canonical {s : State} {q cause : Nat} (h : s.canonical) : (s.suspend q cause).canonical :=
  ite_canonical (raise_canonical (wr_canonical h)) h

theorem State.setGraph_canonical {s : State} {g : GraphUnit} (h : s.canonical) : (s.setGraph g).canonical := mk_canonical h

theorem State.setFlue_canonical {s : State} {gen i : Nat} {f : Flue} (h : s.canonical) : (s.setFlue gen i f).canonical :=
  setGraph_canonical h

theorem State.setGnode_canonical {s : State} {gen k : Nat} {n : Node} (h : s.canonical) : (s.setGnode gen k n).canonical :=
  setGraph_canonical h

theorem State.graphEvent_canonical {s : State} {code idx gen : Nat} (h : s.canonical) :
    (s.graphEvent code idx gen).canonical :=
  raise_canonical h

theorem State.flueMarks_canonical {s : State} {gen i : Nat} (h : s.canonical) : (s.flueMarks gen i).canonical :=
  wmEval_canonical (ite_canonical (graphEvent_canonical (setFlue_canonical h)) (ite_canonical (setFlue_canonical h) h))

theorem State.flueClaim_canonical {s : State} {gen i len rank : Nat} (h : s.canonical) :
    (s.flueClaim gen i len rank).canonical :=
  flueMarks_canonical (memWrite_canonical (setFlue_canonical h))

theorem State.flueAppend_canonical {s : State} {gen i seq : Nat} {bs : List Nat} (h : s.canonical) :
    (s.flueAppend gen i seq bs).canonical :=
  setFlue_canonical (memWrite_canonical h)

theorem State.flueFree_canonical {s : State} {gen i seq : Nat} (h : s.canonical) : (s.flueFree gen i seq).canonical :=
  flueMarks_canonical (setFlue_canonical h)

theorem State.flueFinish_canonical {s : State} {gen i seq : Nat} {reader : Nat × Nat} (h : s.canonical) :
    (s.flueFinish gen i seq reader).canonical :=
  ite_canonical (flueFree_canonical h) (setFlue_canonical h)

theorem State.loseFrame_canonical {s : State} {gen k num : Nat} (h : s.canonical) : (s.loseFrame gen k num).canonical :=
  setGnode_canonical h

theorem State.deal_canonical {s : State} {gen i seq : Nat} {rec : Bool} {j : Nat} (h : s.canonical) :
    (s.deal gen i seq rec j).canonical := by
  unfold State.deal
  split
  · exact ite_canonical (graphEvent_canonical (loseFrame_canonical (setFlue_canonical h))) (setFlue_canonical h)

theorem State.stampFault_canonical {s : State} {gen i seq : Nat} (h : s.canonical) : (s.stampFault gen i seq).canonical :=
  ite_canonical h (ite_canonical (memWrite_canonical (setGnode_canonical h)) h)

theorem State.checkItem_canonical {s : State} {gen i seq : Nat} {rec : Bool} (h : s.canonical) :
    (s.checkItem gen i seq rec).canonical := by
  unfold State.checkItem
  extract_lets
  exact ite_canonical h (foldl_canonical (fun _ _ hu => by
      dsimp only
      split
      · exact memWrite_canonical (chkItem_canonical hu)
      · exact chkItem_canonical hu) h)

theorem State.makeVisible_canonical {s : State} {gen i seq : Nat} (h : s.canonical) :
    (s.makeVisible gen i seq).canonical := by
  unfold State.makeVisible
  extract_lets _ _ _ _ s1 s2 s2a _ s3 s4
  have hs1 : s1.canonical := setFlue_canonical h
  have hs2 : s2.canonical := ite_canonical (stampFault_canonical hs1) hs1
  have hs2a : s2a.canonical := checkItem_canonical hs2
  have hs3 : s3.canonical := setFlue_canonical hs2a
  have hs4 : s4.canonical := foldl_canonical (fun _ _ hu => deal_canonical hu) hs3
  exact ite_canonical (flueFree_canonical hs4) hs4

theorem State.flueShow_canonical {s : State} {gen i k : Nat} (h : s.canonical) : (s.flueShow gen i k).canonical := by
  induction k generalizing s with
  | zero => exact h
  | succ k ih =>
    have hvis : ∀ n : Nat, ((s.makeVisible gen i n).flueShow gen i k).canonical := fun _ => ih (makeVisible_canonical h)
    have hturn : ∀ f : Flue, ((s.setFlue gen i f).flueShow gen i k).canonical := fun _ => ih (setFlue_canonical h)
    unfold State.flueShow
    extract_lets f hidden next
    split
    · split
      · clear_value next
        split
        · exact hvis _
        · exact h
      · clear_value hidden
        split
        · exact ite_canonical (hvis _) h
        · exact h
    · extract_lets skip
      refine ite_canonical (hturn _) ?_
      split
      · exact ite_canonical (ih (setFlue_canonical (makeVisible_canonical h))) h
      · exact ite_canonical (hturn _) h

theorem State.flueAdvance_canonical {s : State} {gen i : Nat} (h : s.canonical) : (s.flueAdvance gen i).canonical :=
  flueShow_canonical h

theorem State.flueCatch_canonical {s : State} {gen i : Nat} (h : s.canonical) : (s.flueCatch gen i).canonical :=
  ite_canonical (flueAdvance_canonical h) h

theorem State.flueClose_canonical {s : State} {gen i seq : Nat} (h : s.canonical) : (s.flueClose gen i seq).canonical :=
  flueAdvance_canonical (setFlue_canonical (flueAppend_canonical h))

theorem State.flueDiscard_canonical {s : State} {gen i seq : Nat} (h : s.canonical) : (s.flueDiscard gen i seq).canonical :=
  flueAdvance_canonical (flueFree_canonical h)

theorem State.flueItem_canonical {s : State} {gen i : Nat} {bs : List Nat} (h : s.canonical) :
    (s.flueItem gen i bs).canonical :=
  flueClose_canonical (flueAppend_canonical (flueClaim_canonical h))

theorem State.flueTake_canonical {s : State} {gen i seq j r : Nat} (h : s.canonical) :
    (s.flueTake gen i seq j r).canonical :=
  ite_canonical (setFlue_canonical h) h

theorem State.endpointCatch_canonical {s : State} {w t : Nat} (h : s.canonical) : (s.endpointCatch w t).canonical :=
  foldl_canonical (fun _ _ hu => by split; exacts [ite_canonical (flueAdvance_canonical (at_canonical hu)) hu, hu]) h

theorem State.endpointRead_canonical {s : State} {gen i j : Nat} {x : Item} (h : s.canonical) :
    (s.endpointRead gen i j x).2.2.canonical :=
  flueFinish_canonical (memRead_canonical h)

theorem State.dropReader_canonical {s : State} {gen i j r k : Nat} {x : Item} (h : s.canonical) :
    (s.dropReader gen i j r k x).canonical :=
  ite_canonical (ite_canonical (flueFinish_canonical h) (setFlue_canonical h)) (flueFinish_canonical (graphEvent_canonical
      (loseFrame_canonical h)))

theorem State.dropRank_canonical {s : State} {gen k r : Nat} (h : s.canonical) : (s.dropRank gen k r).canonical :=
  foldl_canonical (fun _ _ hu => ite_canonical (foldl_canonical (fun _ _ hu => dropReader_canonical hu) hu) hu) h

theorem State.graphFail_canonical {s : State} {gen k : Nat} (h : s.canonical) : (s.graphFail gen k).canonical := by
  unfold State.graphFail
  extract_lets _ s1
  have hs1 : s1.canonical := graphEvent_canonical (setGraph_canonical h)
  exact wmEval_canonical (foldl_canonical (fun _ _ hu => ite_canonical (endIncomplete_canonical (suspend_canonical hu)) hu)
      hs1)

theorem State.rankFault_canonical {s : State} {gen k r : Nat} (h : s.canonical) : (s.rankFault gen k r).canonical := by
  unfold State.rankFault
  extract_lets _ _ s1 s2 s3 _ s4 _ s5
  have hs1 : s1.canonical := setGnode_canonical h
  have hs2 : s2.canonical := dropRank_canonical hs1
  have hs3 : s3.canonical := foldl_canonical (fun _ _ hu => ite_canonical (flueAdvance_canonical hu) hu) hs2
  have hs4 : s4.canonical := graphEvent_canonical (setGnode_canonical hs3)
  have hs5 : s5.canonical := capMark_canonical (mk_canonical hs4)
  exact ite_canonical (ite_canonical (graphFail_canonical hs5) hs5) hs3

theorem State.rankRejoin_canonical {s : State} {gen k r : Nat} (h : s.canonical) : (s.rankRejoin gen k r).canonical :=
  foldl_canonical (fun _ _ hu => ite_canonical (setFlue_canonical hu) hu) (setGnode_canonical h)

theorem State.engRead_canonical {s : State} {g a n : Nat} (h : s.canonical) : (s.engRead g a n).Canonical := by
  unfold State.engRead
  split
  · exact h
  · dsimp only
    split
    · exact memRead_canonical h
    · exact ite_canonical (used_canonical (memRead_canonical h)) (memRead_canonical h)

theorem State.engWrite_canonical {s : State} {g a : Nat} {bs : List Nat} (h : s.canonical) :
    (s.engWrite g a bs).Canonical := by
  unfold State.engWrite
  split
  · exact h
  extract_lets n _ first _ last
  have hfirst : first.1.canonical := by
    unfold first
    split
    · exact h
    · exact memRead_canonical h
  have hlast : last.1.canonical := by
    unfold last
    split
    · exact hfirst
    · exact memRead_canonical hfirst
  split
  · exact hlast
  · exact memWrite_canonical hlast

theorem State.barShow_canonical {s : State} {c : Nat} (h : s.canonical) : (s.barShow c).canonical := wr_canonical h

theorem State.testFirst_canonical {s : State} {g cause : Nat} (h : s.canonical) : (s.testFirst g cause).canonical :=
  ite_canonical h (ite_canonical h (mk_canonical h))

theorem State.engStop_canonical {s : State} {g cause : Nat} {addr insn : Option Nat} {imprecise second : Bool}
    (h : s.canonical) : (s.engStop g cause addr insn imprecise second).canonical := by
  unfold State.engStop
  extract_lets _ s0 s1 s2 s3 _ s4 s5 s6
  have hs0 : s0.canonical := used_canonical (used_canonical h)
  have hs1 : s1.canonical := wrB_canonical (wrB_canonical (wr_canonical hs0))
  have hs2 : s2.canonical := wr_canonical (wr_canonical (wr_canonical hs1))
  have hs3 : s3.canonical := setEng_canonical (wr_canonical hs2)
  have hs4 : s4.canonical := ite_canonical (foldl_canonical (fun _ _ hu => flueDiscard_canonical hu) hs3) hs3
  have hs5 : s5.canonical := testFirst_canonical (raise_canonical hs4)
  have hs6 : s6.canonical := ite_canonical (rankFault_canonical hs5) hs5
  exact barShow_canonical hs6

theorem State.barrierFall_canonical {s : State} {c : Nat} {ds : List Nat} {k : Nat} (h : s.canonical) :
    (s.barrierFall c ds k).canonical := by
  induction k generalizing s ds with
  | zero => exact h
  | succ k ih => exact ite_canonical h (ih (foldl_canonical (fun _ _ hu => engStop_canonical hu) h))

theorem State.engExc_canonical {s : State} {g cause : Nat} {addr insn : Option Nat} {imprecise second : Bool}
    (h : s.canonical) : (s.engExc g cause addr insn imprecise second).canonical :=
  barrierFall_canonical (engStop_canonical h)

theorem State.fenceFall_canonical {s : State} {g : Nat} (h : s.canonical) : (s.fenceFall g).canonical :=
  ite_canonical (barrierFall_canonical h) h

theorem State.retired_canonical {s : State} {g : Nat} (h : s.canonical) : (s.retired g).canonical :=
  wr_canonical (wr_canonical h)

theorem State.retire_canonical {s : State} {g len : Nat} {prev : Option Issued} {target : Option Nat} (h : s.canonical) :
    (s.retire g len prev target).canonical := by
  unfold State.retire
  dsimp only
  split
  · exact retired_canonical (wr_canonical (setEng_canonical h))
  · exact retired_canonical (wr_canonical (setEng_canonical h))

theorem State.issue_canonical {s0 : State} {g t : Nat} {mine : Nat → Bool} {act : Nat → State → JRes}
    (hact : ∀ (w : Nat) (u : State), u.canonical → (act w u).Canonical) (h : s0.canonical) :
    (s0.issue g t mine act).canonical := by
  unfold State.issue
  extract_lets s e pc w len r second last next
  have hs : s.canonical := at_canonical h
  have hr : r.2.2.canonical := memRead_canonical hs
  refine ite_canonical h (ite_canonical (engExc_canonical hs) (ite_canonical (engExc_canonical hr) ?_))
  refine ite_canonical (engExc_canonical (setEng_canonical hr)) (ite_canonical (engExc_canonical hr) (ite_canonical h ?_))
  have hdone := hact w _ hr
  split
  next heq => exact ite_canonical (engExc_canonical hr) (engExc_canonical (canonical_of_eq JRes.Canonical heq hdone))
  next heq => exact ite_canonical (engExc_canonical hr) (retire_canonical (canonical_of_eq JRes.Canonical heq hdone))
  next heq => exact ite_canonical (engExc_canonical hr) (retire_canonical (canonical_of_eq JRes.Canonical heq hdone))
  next heq => exact ite_canonical (engExc_canonical hr) (setEng_canonical (canonical_of_eq JRes.Canonical heq hdone))

theorem State.issueReg_canonical {s : State} {g t : Nat} {mine : Nat → Bool} {act : Nat → Engine → Engine} (h : s.canonical) :
    (s.issueReg g t mine act).canonical :=
  issue_canonical (fun _ _ hu => setEng_canonical hu) h

theorem jMem_canonical {g op d a : Nat} {imm : Word} {s : State} (h : s.canonical) : (jMem g op d a imm s).Canonical := by
  unfold jMem
  dsimp only
  split
  · exact h
  split
  · split
    next _ s1 heq =>
      have hs1 : s1.canonical := canonical_of_eq MRes.Canonical heq (engWrite_canonical h)
      exact hs1
    next _ _ s1 heq =>
      have hs1 : s1.canonical := canonical_of_eq MRes.Canonical heq (engWrite_canonical h)
      exact hs1
  · split
    next _ s1 heq =>
      have hs1 : s1.canonical := canonical_of_eq MRes.Canonical heq (engRead_canonical h)
      exact setEng_canonical hs1
    next _ _ s1 heq =>
      have hs1 : s1.canonical := canonical_of_eq MRes.Canonical heq (engRead_canonical h)
      exact hs1

theorem jMemOp_canonical {g w : Nat} {s : State} (h : s.canonical) : (jMemOp g w s).Canonical := jMem_canonical h

theorem jAmo_canonical {g w : Nat} {s : State} (h : s.canonical) : (jAmo g w s).Canonical := by
  unfold jAmo
  dsimp only
  split
  · exact h
  split
  · exact h
  split
  next _ _ s1 heq =>
    have hs1 : s1.canonical := canonical_of_eq MRes.Canonical heq (engRead_canonical h)
    exact hs1
  next _ s1 heq =>
    have hs1 : s1.canonical := canonical_of_eq MRes.Canonical heq (engRead_canonical h)
    split
    next _ _ s2 heq =>
      have hs2 : s2.canonical := canonical_of_eq MRes.Canonical heq (engWrite_canonical hs1)
      exact hs2
    next _ s2 heq =>
      have hs2 : s2.canonical := canonical_of_eq MRes.Canonical heq (engWrite_canonical hs1)
      exact setEng_canonical hs2

theorem jBranch_canonical {g w : Nat} {s : State} (h : s.canonical) : (jBranch g w s).Canonical := by
  unfold jBranch
  dsimp only
  split
  · exact h
  · exact h

theorem jJal_canonical {g w : Nat} {s : State} (h : s.canonical) : (jJal g w s).Canonical := setEng_canonical h

theorem jJalrAt_canonical {g d a len : Nat} {imm : Word} {s : State} (h : s.canonical) :
    (jJalrAt g d a len imm s).Canonical :=
  setEng_canonical h

theorem jJalr_canonical {g w : Nat} {s : State} (h : s.canonical) : (jJalr g w s).Canonical := jJalrAt_canonical h

theorem jLoop_canonical {g w : Nat} {s : State} (h : s.canonical) : (jLoop g w s).Canonical := by
  unfold jLoop
  dsimp only
  split
  · exact h
  split
  · exact used_canonical h
  split
  · exact h
  · exact setEng_canonical h

theorem jHalt_canonical {g : Nat} {s : State} (h : s.canonical) : (jHalt g s).Canonical := by
  unfold jHalt
  dsimp only
  split
  · exact h
  · split
    · exact h
    · exact raise_canonical (wr_canonical h)

theorem jTrap_canonical {g w : Nat} {s : State} (h : s.canonical) : (jTrap g w s).Canonical := h

theorem State.barLeave_canonical {s : State} {g t : Nat} (h : s.canonical) : (s.barLeave g t).canonical :=
  retire_canonical (setEng_canonical h)

theorem jBar_canonical {g t w : Nat} {s : State} (h : s.canonical) : (jBar g t w s).Canonical := by
  unfold jBar
  dsimp only
  split
  · exact h
  split
  · exact barShow_canonical (foldl_canonical (fun _ _ hu => barLeave_canonical hu) h)
  · exact h

theorem State.barrierAll_canonical {s : State} {c id : Nat} (h : s.canonical) : (s.barrierAll c id).canonical :=
  foldl_canonical (fun _ _ hu => ite_canonical (engExc_canonical hu) hu) h

theorem jCsrr_canonical {g w : Nat} {s : State} (h : s.canonical) : (jCsrr g w s).Canonical := by
  unfold jCsrr
  dsimp only
  split
  · exact h
  · exact setEng_canonical h

theorem jCsrw_canonical {g w : Nat} {s : State} (h : s.canonical) : (jCsrw g w s).Canonical := by
  unfold jCsrw
  dsimp only
  split
  · exact h
  · exact setEng_canonical h

theorem jDmago_canonical {g w : Nat} {s : State} (h : s.canonical) : (jDmago g w s).Canonical := by
  unfold jDmago
  dsimp only
  split
  · exact h
  split
  · exact h
  split
  next _ _ s1 heq =>
    have hs1 : s1.canonical := canonical_of_eq MRes.Canonical heq (engRead_canonical h)
    exact hs1
  next _ s1 heq =>
    have hs1 : s1.canonical := canonical_of_eq MRes.Canonical heq (engRead_canonical h)
    split
    · exact setEng_canonical hs1
    · exact setEng_canonical hs1

theorem jDmawt_canonical {g w : Nat} {s : State} (h : s.canonical) : (jDmawt g w s).Canonical := by
  unfold jDmawt
  split <;> exact h

theorem State.dmaRow_canonical {s : State} {g : Nat} {d : Dma} {src dst : Int} {n : Nat} (h : s.canonical) :
    (s.dmaRow g d src dst n).1.canonical := by
  unfold State.dmaRow
  dsimp only
  split
  · exact memCopy_canonical h
  · exact h

theorem State.dmaRows_canonical {s : State} {g : Nat} {d : Dma} {n r : Nat} (h : s.canonical) :
    (s.dmaRows g d n r).1.canonical := by
  induction n generalizing s r with
  | zero => exact h
  | succ n ih =>
    unfold State.dmaRows
    split
    next s1 _ heq =>
      have hs1 : s1.canonical := canonical_of_eq (·.1.canonical) heq (dmaRow_canonical h)
      exact hs1
    next s1 heq =>
      have hs1 : s1.canonical := canonical_of_eq (·.1.canonical) heq (dmaRow_canonical h)
      exact ih hs1

theorem jLong_canonical {g w : Nat} {s : State} (h : s.canonical) : (jLong g w s).Canonical := by
  unfold jLong
  dsimp only
  split
  · exact jJalrAt_canonical h
  split
  · exact jMem_canonical h
  · exact setEng_canonical h

theorem execBar_canonical {g : Fin 132} {t : Nat} {s : State} (h : s.canonical) : NextCanonical (execBar g t s) := by
  unfold execBar
  extract_lets s1
  have hs1 : s1.canonical := issue_canonical (fun _ _ hu => jBar_canonical hu) h
  split
  · exact barShow_canonical hs1
  · exact ite_canonical (barrierAll_canonical hs1) hs1

theorem State.dmaFault_canonical {s : State} {g : Nat} (h : s.canonical) : (s.dmaFault g).canonical := by
  unfold State.dmaFault
  split
  · exact ite_canonical (engExc_canonical h) h
  · exact h

theorem State.outAdvance_canonical {s : State} {gen k : Nat} (h : s.canonical) : (s.outAdvance gen k).canonical :=
  foldl_canonical (fun _ _ hu => ite_canonical (flueAdvance_canonical hu) hu) h

theorem State.finishCur_canonical {s : State} {g p flue : Nat} (h : s.canonical) : (s.finishCur g p flue).canonical := by
  unfold State.finishCur
  dsimp only
  split
  · exact h
  · exact outAdvance_canonical (flueFinish_canonical (setEng_canonical h))

theorem State.takeItem_canonical {s : State} {g p flue : Nat} {x : Item} (h : s.canonical) :
    (s.takeItem g p flue x).canonical :=
  flueTake_canonical (setEng_canonical h)

theorem jSlen_canonical {g t w : Nat} {s : State} (h : s.canonical) : (jSlen g t w s).Canonical := by
  unfold jSlen
  dsimp only
  split
  · exact h
  · split
    · exact finishCur_canonical (flueCatch_canonical h)
    · exact setEng_canonical (takeItem_canonical (finishCur_canonical (flueCatch_canonical h)))

theorem State.streamRead_canonical {s : State} {g p n : Nat} (h : s.canonical) : (s.streamRead g p n).Canonical := by
  unfold State.streamRead
  split
  · exact h
  · dsimp only
    split
    · exact h
    · split
      · exact memRead_canonical h
      · exact setEng_canonical (memRead_canonical h)

theorem jSrdw_canonical {g w : Nat} {s : State} (h : s.canonical) : (jSrdw g w s).Canonical := by
  unfold jSrdw
  split
  next _ _ s1 heq =>
    have hs1 : s1.canonical := canonical_of_eq MRes.Canonical heq (streamRead_canonical h)
    exact hs1
  next _ s1 heq =>
    have hs1 : s1.canonical := canonical_of_eq MRes.Canonical heq (streamRead_canonical h)
    exact setEng_canonical hs1

theorem jSavail_canonical {g w : Nat} {s0 : State} (h : s0.canonical) : (jSavail g w s0).Canonical := by
  unfold jSavail
  dsimp only
  split
  · exact h
  · exact setEng_canonical (flueCatch_canonical h)

theorem jSbeg_canonical {g w : Nat} {s : State} (h : s.canonical) : (jSbeg g w s).Canonical := by
  unfold jSbeg
  dsimp only
  split
  · exact h
  · split
    · exact h
    split
    · exact h
    · exact flueClaim_canonical (setEng_canonical h)

theorem State.streamWrite_canonical {s : State} {g p : Nat} {bs : List Nat} (h : s.canonical) :
    (s.streamWrite g p bs).Canonical := by
  unfold State.streamWrite
  dsimp only
  split
  · split
    · exact h
    · exact flueAppend_canonical h
  · exact h

theorem jSwrw_canonical {g w : Nat} {s : State} (h : s.canonical) : (jSwrw g w s).Canonical := streamWrite_canonical h

theorem jSend_canonical {g t w : Nat} {s : State} (h : s.canonical) : (jSend g t w s).Canonical := by
  unfold jSend
  dsimp only
  split
  · exact flueClose_canonical (setEng_canonical h)
  · exact h

theorem jVsrd_canonical {g w : Nat} {s : State} (h : s.canonical) : (jVsrd g w s).Canonical := by
  unfold jVsrd
  split
  next _ _ s1 heq =>
    have hs1 : s1.canonical := canonical_of_eq MRes.Canonical heq (streamRead_canonical h)
    exact hs1
  next _ s1 heq =>
    have hs1 : s1.canonical := canonical_of_eq MRes.Canonical heq (streamRead_canonical h)
    exact setEng_canonical hs1

theorem jVswr_canonical {g w : Nat} {s : State} (h : s.canonical) : (jVswr g w s).Canonical := streamWrite_canonical h

theorem State.resume_canonical {s : State} {g t : Nat} {mine : Nat → Bool} {act : Nat → State → JRes}
    (hact : ∀ (w : Nat) (u : State), u.canonical → (act w u).Canonical) (h : s.canonical) :
    (s.resume g t mine act).canonical :=
  ite_canonical h (issue_canonical hact h)

theorem execDmaTransferDone_canonical {g : Fin 132} {ch : Fin 4} {t : Nat} {s : State} (h : s.canonical) :
    NextCanonical (execDmaTransferDone g ch t s) := by
  unfold execDmaTransferDone
  split
  · exact h
  · extract_lets _ _ s1
    have hs1 : s1.canonical := setEng_canonical (dmaRows_canonical (at_canonical h))
    split
    · exact dmaFault_canonical hs1
    · refine ite_canonical (dmaFault_canonical (resume_canonical (fun _ _ hu => ?_) hs1)) hs1
      split
      · exact jDmago_canonical hu
      · exact jDmawt_canonical hu
    · exact resume_canonical (fun _ _ hu => jHalt_canonical hu) hs1
    · exact hs1

theorem State.touch_canonical {s : State} {m : MemId} {n : Nat} {xs : List Nat} (h : s.canonical) :
    (s.touch m n xs).1.canonical := by
  induction xs generalizing s with
  | nil => exact h
  | cons x xs ih =>
    unfold State.touch
    dsimp only
    split
    · exact memRead_canonical h
    · exact ih (memRead_canonical h)

theorem State.engReadLanes_canonical {s : State} {g a n : Nat} {offs : List Nat} (h : s.canonical) :
    (s.engReadLanes g a n offs).Canonical := by
  unfold State.engReadLanes
  split
  · exact h
  · split
    next s1 _ heq =>
      have hs1 : s1.canonical := canonical_of_eq (·.1.canonical) heq (touch_canonical h)
      exact hs1
    next s1 heq =>
      have hs1 : s1.canonical := canonical_of_eq (·.1.canonical) heq (touch_canonical h)
      exact ite_canonical (used_canonical hs1) hs1

theorem jVld_canonical {g w : Nat} {s : State} (h : s.canonical) : (jVld g w s).Canonical := by
  unfold jVld
  dsimp only
  split
  · exact setEng_canonical h
  split
  · exact h
  split
  next _ _ s1 heq =>
    have hs1 : s1.canonical := canonical_of_eq MRes.Canonical heq (engReadLanes_canonical h)
    exact hs1
  next _ s1 heq =>
    have hs1 : s1.canonical := canonical_of_eq MRes.Canonical heq (engReadLanes_canonical h)
    exact setEng_canonical hs1

theorem jVst_canonical {g w : Nat} {s : State} (h : s.canonical) : (jVst g w s).Canonical := by
  unfold jVst
  dsimp only
  split
  · exact h
  split
  · exact h
  split
  · exact h
  · split
    next s1 _ heq =>
      have hs1 : s1.canonical := canonical_of_eq (·.1.canonical) heq (touch_canonical h)
      exact hs1
    next s1 heq =>
      have hs1 : s1.canonical := canonical_of_eq (·.1.canonical) heq (touch_canonical h)
      exact foldl_canonical (fun _ _ hu => memWrite_canonical hu) hs1

theorem jVgath_canonical {g w : Nat} {s : State} (h : s.canonical) : (jVgath g w s).Canonical := by
  unfold jVgath
  dsimp only
  split
  · exact h
  · split
    · exact setEng_canonical h
    split
    next _ _ s1 heq =>
      have hs1 : s1.canonical := canonical_of_eq MRes.Canonical heq (engReadLanes_canonical h)
      exact hs1
    next _ s1 heq =>
      have hs1 : s1.canonical := canonical_of_eq MRes.Canonical heq (engReadLanes_canonical h)
      exact setEng_canonical hs1

theorem jVscat_canonical {g w : Nat} {s : State} (h : s.canonical) : (jVscat g w s).Canonical := by
  unfold jVscat
  dsimp only
  split
  · exact h
  · split
    next s1 _ heq =>
      have hs1 : s1.canonical := canonical_of_eq (·.1.canonical) heq (touch_canonical h)
      exact hs1
    next s1 heq =>
      have hs1 : s1.canonical := canonical_of_eq (·.1.canonical) heq (touch_canonical h)
      exact foldl_canonical (fun _ _ hu => memWrite_canonical hu) hs1

theorem State.smpTouch_canonical {s : State} {n : Nat} {xs : List (MemId × Nat)} (h : s.canonical) :
    (s.smpTouch n xs).1.canonical := by
  induction xs generalizing s with
  | nil => exact h
  | cons x xs ih =>
    unfold State.smpTouch
    dsimp only
    split
    · exact memRead_canonical h
    · exact ih (memRead_canonical h)

theorem jSmp_canonical {g w : Nat} {s : State} (h : s.canonical) : (jSmp g w s).Canonical := by
  unfold jSmp
  dsimp only
  split
  · exact h
  split
  · exact h
  · split
    next s1 _ heq =>
      have hs1 : s1.canonical := canonical_of_eq (·.1.canonical) heq (smpTouch_canonical h)
      exact hs1
    next s1 heq =>
      have hs1 : s1.canonical := canonical_of_eq (·.1.canonical) heq (smpTouch_canonical h)
      exact setEng_canonical (used_canonical hs1)

theorem State.undRun_canonical {s : State} {g seed : Nat} {par mesh : List Nat} {base : Nat} {all : Bool} {k : Nat}
    (h : s.canonical) :
    (s.undRun g seed par mesh base all k).1.canonical := by
  induction k generalizing s with
  | zero => exact h
  | succ k ih =>
    unfold State.undRun
    extract_lets e d i
    split
    · exact h
    split
    · exact h
    extract_lets l
    split
    next s1 _ heq =>
      have hs1 : s1.canonical := canonical_of_eq (·.1.canonical) heq (smpTouch_canonical h)
      exact hs1
    next s1 heq =>
      have hs1 : s1.canonical := canonical_of_eq (·.1.canonical) heq (smpTouch_canonical h)
      exact ih hs1

theorem State.undistort_canonical {s : State} {g seed : Nat} {par : List Nat} {line : Option KLine} (h : s.canonical) :
    (s.undistort g seed par line).1.canonical := by
  unfold State.undistort
  extract_lets e d gr _ m at_
  split
  extract_lets size base s1 r
  have h1 : s1.canonical := by
    unfold s1
    split
    · exact h
    · exact ite_canonical h (setEng_canonical (foldl_canonical (fun _ _ hu => memWrite_canonical hu) h))
  split
  · exact h
  split
  · exact h1
  split
  · exact h1
  split
  · exact memRead_canonical h1
  · exact undRun_canonical (memRead_canonical h1)

theorem State.setLib_canonical {s : State} {g : Nat} {l : Lib} (h : s.canonical) : (s.setLib g l).canonical :=
  setEng_canonical h

theorem State.libItem_canonical {s : State} {g p : Nat} {par bs : List Nat} (h : s.canonical) :
    (s.libItem g p par bs).1.canonical := by
  have hlib : ∀ l : Lib, (s.used.setLib g l).canonical := fun _ => setLib_canonical (used_canonical h)
  unfold State.libItem
  extract_lets e d heir seed round isRec num l0 l s0
  split
  · split
    · split
      · exact hlib _
      · exact hlib _
    split
    · split
      next heq => exact canonical_of_eq (·.1.canonical) heq (undistort_canonical (hlib _))
      next heq => exact setLib_canonical (canonical_of_eq (·.1.canonical) heq (undistort_canonical (hlib _)))
    · exact hlib _
  split
  · split
    · exact hlib _
    · exact hlib _
  split
  · exact undistort_canonical (hlib _)
  · exact hlib _

theorem State.libFetch_canonical {s : State} {g : Nat} (h : s.canonical) : (s.libFetch g).1.canonical := by
  unfold State.libFetch
  dsimp only
  split
  · exact engExc_canonical (memRead_canonical h)
  split
  · exact engExc_canonical (setEng_canonical (memRead_canonical h))
  split
  · exact engExc_canonical (memRead_canonical (memRead_canonical h))
  · exact memRead_canonical (memRead_canonical h)

theorem State.libSlen_canonical {s0 : State} {g t : Nat} (h : s0.canonical) : (s0.libSlen g t).canonical := by
  unfold State.libSlen
  extract_lets
  refine ite_canonical h ?_
  split
  next s heq =>
    have hs : s.canonical := canonical_of_eq (·.1.canonical) heq (libFetch_canonical (at_canonical h))
    exact hs
  next s _ heq =>
    have hs : s.canonical := canonical_of_eq (·.1.canonical) heq (libFetch_canonical (at_canonical h))
    extract_lets
    split
    · exact engExc_canonical hs
    · extract_lets s1
      have hs1 : s1.canonical := finishCur_canonical (flueCatch_canonical hs)
      split
      · exact setEng_canonical hs1
      · extract_lets s2
        have hs2 : s2.canonical := takeItem_canonical hs1
        refine ite_canonical (engExc_canonical (memRead_canonical hs2)) ?_
        split
        next s3 heq =>
          have hs3 : s3.canonical := canonical_of_eq (·.1.canonical) heq (libItem_canonical (setEng_canonical
              (memRead_canonical hs2)))
          exact hs3
        next s3 _ _ heq =>
          have hs3 : s3.canonical := canonical_of_eq (·.1.canonical) heq (libItem_canonical (setEng_canonical
              (memRead_canonical hs2)))
          exact engExc_canonical hs3

theorem State.libSend_canonical {s0 : State} {g t : Nat} (h : s0.canonical) : (s0.libSend g t).canonical := by
  unfold State.libSend
  refine ite_canonical h ?_
  split
  · exact h
  · split
    next s heq =>
      have hs : s.canonical := canonical_of_eq (·.1.canonical) heq (libFetch_canonical (at_canonical h))
      exact hs
    next s _ heq =>
      have hs : s.canonical := canonical_of_eq (·.1.canonical) heq (libFetch_canonical (at_canonical h))
      extract_lets _ _ s1
      have hs1 : s1.canonical := setEng_canonical hs
      split
      · exact engExc_canonical hs
      · extract_lets
        exact ite_canonical (engExc_canonical hs) (ite_canonical (setEng_canonical hs) (outAdvance_canonical
            (flueClose_canonical (flueAppend_canonical (flueClaim_canonical hs1)))))

theorem State.libResume_canonical {s : State} {g t : Nat} {act : State → State} (hact : ∀ u : State, u.canonical →
    (act u).canonical)
    (h : s.canonical) : (s.libResume g t act).canonical :=
  ite_canonical h (hact _ h)

theorem execStreamWaitEnd_canonical {g : Fin 132} {t : Nat} {s : State} (h : s.canonical) :
    NextCanonical (execStreamWaitEnd g t s) := by
  have hitem : ∀ u : State, u.canonical →
      (if u.libKernel g then u.libResume g t (·.libSlen g t) else u.resume g t (isR 0x20 0x00) (jSlen g t)).canonical :=
    fun _ hu => ite_canonical (libResume_canonical (fun _ hu => libSlen_canonical hu) hu)
      (resume_canonical (fun _ _ hu => jSlen_canonical hu) hu)
  unfold execStreamWaitEnd
  split
  · refine hitem _ ?_
    split
    · exact ite_canonical (flueAdvance_canonical (at_canonical h)) h
    · exact h
  · exact ite_canonical (libResume_canonical (fun _ hu => libSend_canonical hu) h) (resume_canonical (fun _ _ hu =>
        jSbeg_canonical hu) h)
  · exact h

theorem cmdGraphLoad_canonical {c : CmdPkt} {s : State} (h : s.canonical) : (cmdGraphLoad c s).1.canonical := by
  unfold cmdGraphLoad
  dsimp only
  split
  · exact h
  split
  · exact memRead_canonical h
  · exact setGraph_canonical (memRead_canonical h)

theorem cmdFlueStatus_canonical {c : CmdPkt} {s : State} (h : s.canonical) : (cmdFlueStatus c s).1.canonical := by
  unfold cmdFlueStatus
  dsimp only
  split
  · exact h
  · exact setFlue_canonical h

theorem State.evDiscard_canonical {s : State} (h : s.canonical) : s.evDiscard.canonical := mk_canonical h

theorem cmdGraphEvten_canonical {c : CmdPkt} {s : State} (h : s.canonical) : (cmdGraphEvten c s).1.canonical :=
  evDiscard_canonical (mk_canonical h)

theorem State.engClear_canonical {s : State} {m : MemId} (h : s.canonical) : (s.engClear m).canonical := by
  obtain ⟨hhost, hgddr, hsram, hdmem, himem⟩ := memsWf_parts.mp h
  unfold State.engClear
  split
  · exact memsWf_parts.mpr ⟨hhost, hgddr, hsram, hdmem, memsWf_put _ himem (m := []) rfl⟩
  · exact memsWf_parts.mpr ⟨hhost, hgddr, hsram, memsWf_put _ hdmem (m := []) rfl, himem⟩
  · exact h

theorem State.kernelLoad_canonical {s : State} {n gen node rank limit : Nat} (h : s.canonical) :
    (s.kernelLoad n gen node rank limit).canonical := by
  unfold State.kernelLoad
  extract_lets _ _ _ _ s1 s2 s3 _ s4
  have hs1 : s1.canonical := setMemu_canonical (engClear_canonical h)
  have hs2 : s2.canonical := ite_canonical (memCopy_canonical hs1) hs1
  have hs3 : s3.canonical := memCopy_canonical hs2
  have hs4 : s4.canonical := setEng_canonical hs3
  exact wr_canonical (wr_canonical (wr_canonical hs4))

theorem State.graphStarted_canonical {s : State} (h : s.canonical) : s.graphStarted.canonical :=
  ite_canonical (graphEvent_canonical (setGraph_canonical h)) h

theorem State.kernelChange_canonical {s : State} {n : Nat} (h : s.canonical) : (s.kernelChange n).canonical := by
  unfold State.kernelChange
  dsimp only
  split
  · exact graphStarted_canonical (kernelLoad_canonical (wrBoth_canonical (ite_canonical (setGraph_canonical h) h)))
  · exact graphStarted_canonical (wr_canonical (setEng_canonical (ite_canonical (setGraph_canonical h) h)))

theorem State.graphCommit_canonical {s : State} (h : s.canonical) : s.graphCommit.canonical := by
  unfold State.graphCommit
  split
  · exact h
  · exact graphStarted_canonical (setGraph_canonical h)

theorem State.lateStop_canonical {s : State} {n : Nat} (h : s.canonical) : (s.lateStop n).canonical := by
  unfold State.lateStop
  extract_lets _ _ s1
  have hs1 : s1.canonical := foldl_canonical (fun _ _ hu => flueDiscard_canonical (ite_canonical (loseFrame_canonical hu)
      hu)) h
  exact graphEvent_canonical (barShow_canonical (wr_canonical (setEng_canonical hs1)))

theorem State.forwardRecord_canonical {s : State} {gen k rank num : Nat} {bs : List Nat} (h : s.canonical) :
    (s.forwardRecord gen k rank num bs).canonical :=
  foldl_canonical (fun _ _ hu => flueClose_canonical (flueAppend_canonical (flueClaim_canonical hu))) h

theorem State.lateDrain_canonical {s : State} {n : Nat} (h : s.canonical) : (s.lateDrain n).canonical := by
  unfold State.lateDrain
  extract_lets
  exact foldl_canonical (fun _ _ hu => foldl_canonical (fun _ _ hu => ite_canonical (ite_canonical (flueFinish_canonical hu)
      (ite_canonical (flueFinish_canonical (forwardRecord_canonical hu)) hu)) (flueFinish_canonical (loseFrame_canonical
      hu))) hu) h

theorem execGraphDrainLate_canonical {n : Fin 128} {t : Nat} {s : State} (h : s.canonical) :
    NextCanonical (execGraphDrainLate n t s) := by
  unfold execGraphDrainLate
  extract_lets _ _ s0 s1 s2
  have hs0 : s0.canonical := at_canonical h
  have hs1 : s1.canonical := ite_canonical hs0 (lateStop_canonical hs0)
  have hs2 : s2.canonical := lateDrain_canonical hs1
  exact ite_canonical (ite_canonical hs2 (kernelChange_canonical hs2)) h

theorem execNodeRestart_canonical {n : Fin 128} {t : Nat} {s : State} (h : s.canonical) :
    NextCanonical (execNodeRestart n t s) :=
  ite_canonical (graphEvent_canonical (rankRejoin_canonical (kernelLoad_canonical (at_canonical h)))) h

theorem State.setSwath_canonical {s : State} {k : Nat} {x : Swath} (h : s.canonical) : (s.setSwath k x).canonical :=
  mk_canonical h

theorem cmdSwathLoad_canonical {c : CmdPkt} {s : State} (h : s.canonical) : (cmdSwathLoad c s).1.canonical := by
  unfold cmdSwathLoad
  dsimp only
  split
  · exact h
  split
  · exact memRead_canonical h
  · exact setSwath_canonical (memRead_canonical h)

theorem State.dminShow_canonical {s : State} {q : Nat} {c : Contract} (h : s.canonical) : (s.dminShow q c).canonical :=
  ite_canonical (wr_canonical (used_canonical h)) h

theorem State.dminRefused_canonical {s : State} {b q : Nat} (h : s.canonical) : (s.dminRefused b q).canonical :=
  ite_canonical (dminShow_canonical h) h

theorem State.admShow_canonical {s : State} (h : s.canonical) : s.admShow.canonical := by
  unfold State.admShow
  extract_lets
  exact capMark_canonical (wrB_canonical (wrB_canonical (wrB_canonical (wr_canonical (wr_canonical (wr_canonical
      (wr_canonical (wr_canonical h))))))))

theorem State.shedLoop_canonical {s : State} {k : Nat} (h : s.canonical) : (s.shedLoop k).canonical := by
  induction k generalizing s with
  | zero => exact h
  | succ k ih =>
    unfold State.shedLoop
    dsimp only
    split
    · exact ih (raise_canonical h)
    · exact h

theorem State.restoreLoop_canonical {s : State} {k : Nat} (h : s.canonical) : (s.restoreLoop k).canonical := by
  induction k generalizing s with
  | zero => exact h
  | succ k ih =>
    unfold State.restoreLoop
    split
    · exact h
    · exact ite_canonical (ih h) (ite_canonical (ih (raise_canonical h)) h)

theorem State.admTick_canonical {s : State} (h : s.canonical) : s.admTick.canonical :=
  admShow_canonical (ite_canonical (shedLoop_canonical (mk_canonical h)) (ite_canonical (mk_canonical h)
      (restoreLoop_canonical (mk_canonical h))))

theorem State.stageStream_canonical {s : State} {q : Nat} {op : StreamOp} {c : Contract} {res : Bool} (h : s.canonical) :
    (s.stageStream q op c res).1.canonical := by
  unfold State.stageStream
  dsimp only
  split
  · exact wr_canonical (used_canonical h)
  · exact wr_canonical (used_canonical (setDq_canonical h))

theorem State.admRefuse_canonical {s : State} {q test : Nat} {c : Contract} (h : s.canonical) :
    (s.admRefuse q test c).1.canonical :=
  dminShow_canonical h

theorem cmdStreamOpen_canonical {c : CmdPkt} {s : State} (h : s.canonical) : (cmdStreamOpen c s).1.canonical := by
  unfold cmdStreamOpen
  dsimp only
  split
  · exact h
  split
  · exact admRefuse_canonical h
  split
  · exact admRefuse_canonical h
  · exact stageStream_canonical h

theorem cmdStreamClose_canonical {c : CmdPkt} {s : State} (h : s.canonical) : (cmdStreamClose c s).1.canonical := by
  unfold cmdStreamClose
  dsimp only
  split
  · exact h
  split
  · exact h
  split
  · exact setDq_canonical h
  · exact setDq_canonical h

theorem cmdStreamResume_canonical {c : CmdPkt} {s : State} (h : s.canonical) : (cmdStreamResume c s).1.canonical := by
  unfold cmdStreamResume
  dsimp only
  split
  · exact h
  split
  · exact h
  split
  · exact admRefuse_canonical h
  · exact stageStream_canonical h

theorem cmdStreamModify_canonical {c : CmdPkt} {s : State} (h : s.canonical) : (cmdStreamModify c s).1.canonical := by
  unfold cmdStreamModify
  dsimp only
  split
  · exact h
  split
  · exact h
  split
  · exact admRefuse_canonical h
  split
  · exact admRefuse_canonical h
  split
  · exact stageStream_canonical h
  · exact stageStream_canonical h

theorem State.descErr_canonical {s : State} {q desc : Nat} (h : s.canonical) : (s.descErr q desc).canonical :=
  raise_canonical (complete_canonical h)

theorem State.retestCredits_canonical {s : State} {q : Nat} (h : s.canonical) : (s.retestCredits q).canonical :=
  dqShow_canonical (foldl_canonical (fun _ _ hu => descErr_canonical hu) (setDq_canonical h))

theorem State.setContract_canonical {s : State} {q : Nat} {c : Contract} (h : s.canonical) : (s.setContract q c).canonical :=
  retestCredits_canonical (setBucket_canonical (wr_canonical (wr_canonical (wr_canonical (wr_canonical (wr_canonical h))))))

theorem State.readEnd_canonical {s : State} (h : s.canonical) : s.readEnd.canonical := by
  unfold State.readEnd
  split
  · exact raise_canonical (wr_canonical (mk_canonical h))
  · exact h

theorem State.readQueueEnd_canonical {s : State} {q : Nat} (h : s.canonical) : (s.readQueueEnd q).canonical :=
  ite_canonical (readEnd_canonical h) h

theorem State.flushAsk_canonical {s : State} {q : Nat} (h : s.canonical) : (s.flushAsk q).canonical := wr_canonical h

theorem State.streamCommit_canonical {s : State} {q : Nat} (h : s.canonical) : (s.streamCommit q).canonical := by
  unfold State.streamCommit
  dsimp only
  split
  · exact h
  · exact setContract_canonical (wr_canonical (setDq_canonical (setDq_canonical h)))
  · exact setContract_canonical (setDq_canonical h)
  · exact wr_canonical (setDq_canonical h)
  · exact flushAsk_canonical (setDq_canonical (setDq_canonical h))

theorem State.queueEnable_canonical {s : State} {q : Nat} (h : s.canonical) : (s.queueEnable q).canonical :=
  putDq_canonical h

theorem State.dlvCommit_canonical {s : State} {was : Conf} (h : s.canonical) : (s.dlvCommit was).canonical := by
  unfold State.dlvCommit
  extract_lets s1
  have hs1 : s1.canonical := foldl_canonical (fun _ _ hu => ite_canonical (queueEnable_canonical hu) hu) h
  exact wmEval_canonical (admShow_canonical (foldl_canonical (fun _ _ hu => streamCommit_canonical hu) hs1))

theorem State.refuse_canonical {s : State} {q reason num : Nat} (h : s.canonical) : (s.refuse q reason num).canonical :=
  ite_canonical (wr_canonical (addSat_canonical h)) (raise_canonical (setDq_canonical (wr_canonical (addSat_canonical h))))

theorem State.admitItem_canonical {s : State} {q src cam : Nat} {tag : TagInfo} (h : s.canonical) :
    (s.admitItem q src cam tag).canonical := by
  unfold State.admitItem
  split
  · exact h
  · exact wmEval_canonical (addSat_canonical (putDq_canonical (ite_canonical (setBucket_canonical h) h)))

theorem State.offer_canonical {s : State} {src cam : Nat} {tag : TagInfo} {q : Nat} (h : s.canonical) :
    (s.offer src cam tag q).canonical := by
  unfold State.offer
  dsimp only
  split
  · exact refuse_canonical (ite_canonical h (setDq_canonical h))
  · exact admitItem_canonical (ite_canonical h (setDq_canonical h))

theorem State.offerFrame_canonical {s : State} {g : Graph} {hit : Origin → Bool} {src cam : Nat} {tag : TagInfo}
    (h : s.canonical) : (s.offerFrame g hit src cam tag).canonical :=
  foldl_canonical (fun _ _ hu => offer_canonical hu) h

theorem State.dlvEnd_canonical {s : State} {src num endDev : Nat} (h : s.canonical) : (s.dlvEnd src num endDev).canonical :=
  mk_canonical h

theorem State.dqDoorbell_canonical {s : State} {q v : Nat} (h : s.canonical) : (s.dqDoorbell q v).canonical :=
  ite_canonical (wr_canonical h) (ite_canonical (raise_canonical h) (setDq_canonical (wr_canonical h)))

theorem execDescriptorFetch_canonical {q : Fin 64} {t : Nat} {s : State} (h : s.canonical) :
    NextCanonical (execDescriptorFetch q t s) := by
  unfold execDescriptorFetch
  extract_lets _ _ _ _ s1
  have hs1 : s1.canonical := setDq_canonical (at_canonical h)
  exact ite_canonical (wmEval_canonical (ite_canonical (descErr_canonical hs1) (putDq_canonical hs1))) h

theorem State.putEntry_canonical {s : State} {q : Nat} {i : DItem} {bytes : List Nat} (h : s.canonical) :
    (s.putEntry q i bytes).1.canonical := by
  unfold State.putEntry
  dsimp only
  split
  · exact h
  split
  · exact raise_canonical h
  · exact h

theorem State.setItem_canonical {s : State} {q : Nat} {i : DItem} (h : s.canonical) : (s.setItem q i).canonical :=
  setDq_canonical h

theorem State.dlvTake_canonical {s : State} {q : Nat} {bytes : List Nat} {poison : Bool} (h : s.canonical) :
    (s.dlvTake q bytes poison).canonical := by
  unfold State.dlvTake
  split
  · exact h
  · exact ite_canonical (setItem_canonical h) (setItem_canonical (putEntry_canonical h))

theorem execDeliveryItem_canonical {q : Fin 63} {t : Nat} {s : State} (h : s.canonical) :
    NextCanonical (execDeliveryItem q t s) := by
  unfold execDeliveryItem
  extract_lets s
  have hs : s.canonical := endpointCatch_canonical h
  split
  · exact hs
  · exact ite_canonical hs (wmEval_canonical (dlvTake_canonical (endpointRead_canonical (at_canonical hs))))

theorem execChunkWrite_canonical {t : Nat} {s : State} (h : s.canonical) : NextCanonical (execChunkWrite t s) := by
  unfold execChunkWrite
  split
  · exact h
  · extract_lets _ s1 s2
    have hs1 : s1.canonical := hostWrite_canonical (at_canonical h)
    have hs2 : s2.canonical := setItem_canonical hs1
    exact wmEval_canonical (cqFlush_canonical (ite_canonical (lowWrite_canonical hs2) hs2))

theorem execItemComplete_canonical {q : Fin 64} {t : Nat} {s : State} (h : s.canonical) :
    NextCanonical (execItemComplete q t s) := by
  unfold execItemComplete
  split
  · exact ite_canonical (wmEval_canonical (endItem_canonical (at_canonical h))) h
  · exact h

theorem execItemTimeout_canonical {q : Fin 64} {t : Nat} {s : State} (h : s.canonical) :
    NextCanonical (execItemTimeout q t s) := by
  unfold execItemTimeout
  split
  · exact ite_canonical (wmEval_canonical (raise_canonical (endCut_canonical (at_canonical h)))) h
  · exact h

theorem State.flushRun_canonical {s : State} {q : Nat} (h : s.canonical) : (s.flushRun q).canonical := by
  unfold State.flushRun
  extract_lets s1 _ s2 s3
  have hs1 : s1.canonical := foldl_canonical (fun _ _ hu => endItem_canonical hu) h
  have hs2 : s2.canonical := foldl_canonical (fun _ _ hu => complete_canonical hu) (setDq_canonical hs1)
  have hs3 : s3.canonical := raise_canonical (dqShow_canonical (wr_canonical hs2))
  exact ite_canonical (admShow_canonical (wr_canonical (setDq_canonical hs3))) hs3

theorem State.markItems_canonical {s : State} {bit : Nat} (h : s.canonical) : (s.markItems bit).canonical := mk_canonical h

theorem State.suspendAll_canonical {s : State} {cause : Nat} (h : s.canonical) : (s.suspendAll cause).canonical :=
  mk_canonical (foldl_canonical (fun _ _ hu => suspend_canonical hu) h)

theorem State.countStall_canonical {s : State} {ns : Nat} (h : s.canonical) : (s.countStall ns).canonical := by
  unfold State.countStall
  extract_lets _ _ s1
  have hs1 : s1.canonical := markItems_canonical (wr_canonical (mk_canonical h))
  exact ite_canonical (admShow_canonical (suspendAll_canonical (raise_canonical (mk_canonical hs1)))) hs1

theorem State.stallTick_canonical {s : State} (h : s.canonical) : s.stallTick.canonical :=
  cqFlush_canonical (ite_canonical (countStall_canonical (mk_canonical h)) (mk_canonical h))

theorem State.loseItems_canonical {s : State} {q : Nat} (h : s.canonical) : (s.loseItems q).canonical :=
  dqShow_canonical (foldl_canonical (fun _ _ hu => complete_canonical (ite_canonical (bucketBack_canonical
      (dropItem_canonical hu)) (dropItem_canonical hu))) h)

theorem State.linkBack_canonical {s : State} (h : s.canonical) : s.linkBack.canonical :=
  evLost_canonical (cqFlush_canonical (foldl_canonical (fun _ _ hu => compFlush_canonical hu) h))

theorem execHostLink_canonical {mode : Fin 5} {t : Nat} {s : State} (h : s.canonical) :
    NextCanonical (execHostLink mode t s) := by
  unfold execHostLink
  extract_lets _ s1 s2 s3
  have hs1 : s1.canonical := wr_canonical (wr_canonical (at_canonical h))
  have hs2 : s2.canonical := ite_canonical hs1 (raise_canonical hs1)
  have hs3 : s3.canonical := ite_canonical (foldl_canonical (fun _ _ hu => loseItems_canonical hu) (suspendAll_canonical
      hs2)) (ite_canonical (linkBack_canonical hs2) (markItems_canonical hs2))
  exact ite_canonical h (ite_canonical h (wmEval_canonical (admShow_canonical hs3)))

theorem State.setTwp_canonical {s : State} {p : Nat} {x : TwPort} (h : s.canonical) :
    (s.setTwp p x).canonical := mk_canonical h

theorem State.twOutcome_canonical {s : State} {p code idx : Nat} (h : s.canonical) : (s.twOutcome p code idx).canonical := by
  unfold State.twOutcome
  dsimp only
  split
  · exact set1_canonical (addSat_canonical (addSat_canonical (wr_canonical h)))
  · exact set1_canonical (addSat_canonical (addSat_canonical (wr_canonical h)))
  · exact raise_canonical (set1_canonical (addSat_canonical (addSat_canonical (wr_canonical h))))
  · exact addSat_canonical (addSat_canonical (wr_canonical h))
  · exact addSat_canonical (wr_canonical h)

theorem State.twBusy_canonical {s : State} {p : Nat} (h : s.canonical) : (s.twBusy p).canonical := wr_canonical h

theorem State.twReply_canonical {s : State} {p : Nat} {x : TwXfer} {r : Reply} (h : s.canonical) :
    (s.twReply p x r).canonical :=
  ite_canonical (twBusy_canonical (setTwp_canonical h)) (cmdReply_canonical (twBusy_canonical (setTwp_canonical h)))

theorem State.twEnd_canonical {s : State} {p : Nat} {x : TwXfer} {code idx : Nat} {rd : List Nat} (h : s.canonical) :
    (s.twEnd p x code idx rd).canonical :=
  twReply_canonical (twOutcome_canonical h)

theorem State.twCleared_canonical {s : State} {p k : Nat} (h : s.canonical) : (s.twCleared p k).canonical := by
  unfold State.twCleared
  extract_lets _ s1
  have hs1 : s1.canonical := addSat_canonical (setTwp_canonical h)
  exact ite_canonical (raise_canonical (wr_canonical (wr_canonical hs1))) (raise_canonical (wr_canonical (wr_canonical hs1)))

theorem State.twBusClear_canonical {s : State} {p : Nat} (h : s.canonical) : (s.twBusClear p).canonical :=
  ite_canonical (ite_canonical (bcSend_canonical h) h) (twCleared_canonical (used_canonical h))

theorem State.twReset_canonical {s : State} (h : s.canonical) : s.twReset.canonical :=
  foldl_canonical (fun _ _ hu => ite_canonical (twBusClear_canonical hu) hu) h

theorem State.twTimeout_canonical {s : State} {p kind : Nat} (h : s.canonical) : (s.twTimeout p kind).canonical := by
  unfold State.twTimeout
  extract_lets _ s1 s2
  have hs1 : s1.canonical := raise_canonical (addSat_canonical (set1_canonical h))
  have hs2 : s2.canonical := ite_canonical hs1 (twBusClear_canonical (wr_canonical hs1))
  split
  · exact twEnd_canonical hs2
  · exact hs2

theorem State.twBegin_canonical {s : State} {p : Nat} {x : TwXfer} (h : s.canonical) : (s.twBegin p x).canonical := by
  unfold State.twBegin
  extract_lets _ s1
  have hs1 : s1.canonical := wr_canonical (setTwp_canonical h)
  exact ite_canonical (twEnd_canonical hs1) (ite_canonical (twTimeout_canonical hs1) (ite_canonical (bcSend_canonical
      (twConfigDue_canonical hs1)) hs1))

theorem cmdTwXfer_canonical {kind : Nat} {c : CmdPkt} {s : State} (h : s.canonical) : (cmdTwXfer kind c s).1.canonical := by
  unfold cmdTwXfer
  dsimp only
  split
  · exact h
  split
  · exact h
  split
  · exact h
  · split
    · exact twOutcome_canonical h
    split
    · exact h
    split
    · exact h
    · exact twBegin_canonical (cmdKeep_canonical h)

theorem State.twStart_canonical {s : State} {c : CmdPkt} {kind : Nat} (h : s.canonical) : (s.twStart c kind).canonical := by
  unfold State.twStart
  split
  · exact cmdReply_canonical h
  · split
    next s1 _ heq =>
      have hs1 : s1.canonical := canonical_of_eq (·.1.canonical) heq (cmdTwXfer_canonical h)
      exact cmdReply_canonical hs1
    next s1 heq =>
      have hs1 : s1.canonical := canonical_of_eq (·.1.canonical) heq (cmdTwXfer_canonical h)
      exact hs1

theorem State.twCommand_canonical {s : State} {p : Cmd} {kind t : Nat} (h : s.canonical) :
    (s.twCommand p kind t).canonical :=
  ite_canonical (twStart_canonical (at_canonical h)) (svcCommand_canonical (fun _ _ hu => cmdTwXfer_canonical hu) h)

theorem execTwXferDone_canonical {p : Fin 26} {how : TwEnd} {rx : List Byte} {t : Nat} {s : State} (h : s.canonical) :
    NextCanonical (execTwXferDone p how rx t s) := by
  refine ite_canonical h ?_
  split
  · exact h
  refine ite_canonical h ?_
  split <;> exact twEnd_canonical (wr_canonical (at_canonical h))

theorem cmdTwClear_canonical {c : CmdPkt} {s : State} (h : s.canonical) : (cmdTwClear c s).1.canonical := by
  unfold cmdTwClear
  dsimp only
  split
  · exact h
  split
  · split
    · exact bcSend_canonical (setTwp_canonical h)
    · exact h
  · exact twBusClear_canonical h

theorem execTwTimeout_canonical {p : Fin 26} {low : TwLow} {t : Nat} {s : State} (h : s.canonical) :
    NextCanonical (execTwTimeout p low t s) :=
  ite_canonical h (twTimeout_canonical (ite_canonical (at_canonical h) (wr_canonical (at_canonical h))))

theorem State.setFail_canonical {s : State} {c : Nat} (h : s.canonical) : (s.setFail c).canonical :=
  twBusy_canonical (raise_canonical (wr_canonical (setCam_canonical h)))

theorem State.genDue_canonical {s : State} {c : Nat} (h : s.canonical) : (s.genDue c).canonical :=
  foldl_canonical (fun _ _ hu => wr_canonical (wr_canonical hu)) (setCam_canonical h)

theorem State.setDone_canonical {s : State} {c : Nat} {w : SetWrite} (h : s.canonical) : (s.setDone c w).canonical :=
  ite_canonical (genDue_canonical (setCam_canonical h)) (raise_canonical (genDue_canonical (setCam_canonical h)))

theorem State.twRemote_canonical {s : State} {p code : Nat} (h : s.canonical) : (s.twRemote p code).canonical := by
  unfold State.twRemote
  dsimp only
  split
  · exact raise_canonical (addSat_canonical (set1_canonical h))
  · exact twBusClear_canonical (raise_canonical (addSat_canonical (set1_canonical h)))
  · exact twCleared_canonical (raise_canonical (addSat_canonical (set1_canonical h)))
  · exact h

theorem State.setStep_canonical {s : State} {c : Nat} {w : SetWrite} (h : s.canonical) : (s.setStep c w).canonical := by
  unfold State.setStep
  split
  · exact twBusy_canonical (setDone_canonical h)
  · refine ite_canonical (setFail_canonical (twOutcome_canonical h)) ?_
    refine ite_canonical (setFail_canonical h) ?_
    dsimp only
    split
    · exact setFail_canonical (twOutcome_canonical (twRemote_canonical (setTwp_canonical h)))
    · exact bcSend_canonical (twConfigDue_canonical (twBusy_canonical (setCam_canonical (setTwp_canonical h))))

theorem State.setStart_canonical {s : State} {c : Nat} (h : s.canonical) : (s.setStart c).canonical := by
  unfold State.setStart
  dsimp only
  split
  · exact ite_canonical (ite_canonical (setStep_canonical (setCam_canonical h)) (raise_canonical h)) h
  · exact h

theorem State.windowOpen_canonical {s : State} {c : Nat} (h : s.canonical) : (s.windowOpen c).canonical :=
  ite_canonical (windowShut_canonical (setStart_canonical (setCam_canonical h))) (setStart_canonical (setCam_canonical h))

theorem execBlankingWindowClose_canonical {c : Fin 24} {t : Nat} {s : State} (h : s.canonical) :
    NextCanonical (execBlankingWindowClose c t s) := by
  unfold execBlankingWindowClose
  split
  · exact ite_canonical (windowShut_canonical (at_canonical h)) h
  · exact h

theorem State.genFrame_canonical {s : State} {c : Nat} (h : s.canonical) : (s.genFrame c).canonical :=
  genDue_canonical (setCam_canonical h)

theorem State.setAck_canonical {s : State} {c code idx : Nat} (h : s.canonical) : (s.setAck c code idx).canonical := by
  unfold State.setAck
  extract_lets s1
  have hs1 : s1.canonical := twOutcome_canonical (twRemote_canonical h)
  split
  · exact hs1
  · extract_lets s2
    have hs2 : s2.canonical := ite_canonical (setStep_canonical hs1) (setFail_canonical hs1)
    exact ite_canonical (setStart_canonical hs2) hs2

theorem State.twAck_canonical {s : State} {p : Nat} {resp : List Nat} (h : s.canonical) : (s.twAck p resp).canonical := by
  unfold State.twAck
  dsimp only
  split
  · exact twEnd_canonical (twRemote_canonical h)
  · exact twRemote_canonical h

theorem State.clearAck_canonical {s : State} {p : Nat} {resp : List Nat} (h : s.canonical) :
    (s.clearAck p resp).canonical := by
  unfold State.clearAck
  dsimp only
  split
  · exact cmdReply_canonical (setTwp_canonical (twCleared_canonical (used_canonical h)))
  · exact twCleared_canonical (used_canonical h)

theorem State.setCtx_canonical {s : State} {c : Nat} {x : Ctx} (h : s.canonical) : (s.setCtx c x).canonical := mk_canonical h

theorem State.updFrm_canonical {s : State} {c serial : Nat} {g : Frm → Frm} (h : s.canonical) :
    (s.updFrm c serial g).canonical :=
  setCtx_canonical h

theorem State.frmEvent_canonical {s : State} {code c num : Nat} (h : s.canonical) : (s.frmEvent code c num).canonical :=
  raiseJoin_canonical h

theorem State.rgnCheck_canonical {s : State} {m : Frm} {c r row : Nat} {bytes : List Nat} (h : s.canonical) :
    (s.rgnCheck m c r row bytes).canonical := by
  unfold State.rgnCheck
  split
  · exact h
  · exact chkAbsorb_canonical (ite_canonical (chkReset_canonical (setChk_canonical h)) h)

theorem State.rgnDrop_canonical {s : State} {c r : Nat} {m : Frm} (h : s.canonical) : (s.rgnDrop c r m).canonical :=
  frmEvent_canonical (addSat_canonical (updFrm_canonical h))

theorem State.rgnPut_canonical {s : State} {c r : Nat} {m : Frm} {blocked : Bool} {bytes : List Nat} (h : s.canonical) :
    (s.rgnPut c r m blocked bytes).canonical := by
  unfold State.rgnPut
  split
  · exact h
  · exact ite_canonical h (ite_canonical (rgnDrop_canonical h) (flueItem_canonical h))

theorem State.flkRow_canonical {s : State} {c : Nat} {m : Frm} {i : Nat} {px : List (Option Nat)} (h : s.canonical) :
    (s.flkRow c m i px).canonical :=
  ite_canonical h (ite_canonical h (setCtx_canonical h))

theorem State.rgnRow_canonical {s : State} {c r : Nat} {m : Frm} {blocked : Bool} {st : LineSt} (h : s.canonical) :
    (s.rgnRow c r m blocked st).canonical := by
  unfold State.rgnRow
  extract_lets _ _ _ s1 s2 s3 s4
  have hs1 : s1.canonical := rgnCheck_canonical h
  have hs2 : s2.canonical := rgnPut_canonical hs1
  have hs3 : s3.canonical := ite_canonical (flkRow_canonical hs2) hs2
  have hs4 : s4.canonical := updFrm_canonical hs3
  refine ite_canonical ?_ hs4
  split
  · exact updFrm_canonical (chkLatch_canonical hs4)
  · exact hs4

theorem State.rgnEmbed_canonical {s : State} {c : Nat} {m : Frm} (h : s.canonical) : (s.rgnEmbed c m).canonical :=
  ite_canonical h (updFrm_canonical (foldl_canonical (fun _ _ hu => rgnPut_canonical hu) h))

theorem State.rgnRecord_canonical {s : State} {c r : Nat} {m : Frm} (h : s.canonical) : (s.rgnRecord c r m).canonical := by
  unfold State.rgnRecord
  split
  · exact h
  · extract_lets s1 m1 fin
    have hs1 : s1.canonical := ite_canonical (rgnEmbed_canonical h) h
    have hfin : ∀ u : State, u.canonical → (fin u).canonical := fun _ hu => updFrm_canonical hu
    split
    · exact hfin _ hs1
    · exact ite_canonical (hfin _ hs1) (ite_canonical (flueItem_canonical (hfin _ hs1)) hs1)

theorem State.fillDue_canonical {s : State} {c : Nat} (h : s.canonical) : (s.fillDue c).canonical := setCtx_canonical h

theorem State.rgnRun_canonical {s : State} {c r k : Nat} {ks : List Nat} {blocked : Bool} (h : s.canonical) :
    (s.rgnRun c r k ks blocked).canonical := by
  induction k generalizing s ks blocked with
  | zero => exact h
  | succ k ih =>
    cases ks with
    | nil => exact h
    | cons x ks =>
      refine ite_canonical (ih h) (ite_canonical ?_ (ite_canonical h ?_))
      · split
        · exact ih (rgnRow_canonical h)
        · exact h
      · exact ite_canonical (ih (rgnRecord_canonical h)) (ih (rgnRecord_canonical h))

theorem State.ctxRows_canonical {s : State} {c : Nat} (h : s.canonical) : (s.ctxRows c).canonical :=
  foldl_canonical (fun _ _ hu => rgnRun_canonical hu) h

theorem State.statRecord_canonical {s : State} {c : Nat} {m : Frm} (h : s.canonical) : (s.statRecord c m).canonical :=
  ite_canonical h (updFrm_canonical (memWrite_canonical (setCtx_canonical (used_canonical h))))

theorem State.frmEnd_canonical {s : State} {c : Nat} {m : Frm} {at_ : Nat} (h : s.canonical) :
    (s.frmEnd c m at_).canonical :=
  dlvEnd_canonical (updFrm_canonical h)

theorem State.frmEnds_canonical {s : State} {c : Nat} (h : s.canonical) : (s.frmEnds c).canonical :=
  foldl_canonical (fun _ _ hu => ite_canonical (frmEnd_canonical hu) hu) h

theorem State.ctxSweep_canonical {s : State} {c : Nat} (h : s.canonical) : (s.ctxSweep c).canonical := setCtx_canonical h

theorem State.ctxRun_canonical {s : State} {c : Nat} (h : s.canonical) : (s.ctxRun c).canonical := by
  unfold State.ctxRun
  extract_lets s1 s2
  have hs1 : s1.canonical := frmEnds_canonical (ctxRows_canonical h)
  have hs2 : s2.canonical := ctxRows_canonical hs1
  exact fillDue_canonical (ctxSweep_canonical (foldl_canonical (fun _ _ hu => statRecord_canonical hu) hs2))

theorem State.loseLines_canonical {s : State} {c : Nat} {m : Frm} {k : Nat} (h : s.canonical) :
    (s.loseLines c m k).canonical :=
  ite_canonical h (times_canonical (fun _ hu => frmEvent_canonical hu) (addSat_canonical (updFrm_canonical h)))

theorem State.lineDone_canonical {s : State} {c : Nat} (h : s.canonical) : (s.lineDone c).canonical := by
  unfold State.lineDone
  extract_lets _ s0
  have hs0 : s0.canonical := setCtx_canonical h
  split
  · extract_lets _ s1
    have hs1 : s1.canonical := ite_canonical (frmEvent_canonical (addSat_canonical hs0)) hs0
    exact ite_canonical (loseLines_canonical (frmEvent_canonical (addSat_canonical (setCtx_canonical hs1))))
        (setCtx_canonical (memWrite_canonical hs1))
  · exact mk_canonical h

theorem State.linePart_canonical {s : State} {c : Nat} {m : Frm} {l : RecvLine} {ofs : Nat} {px : List (Option Nat)}
    {bad cut : Bool} (h : s.canonical) : (s.linePart c m l ofs px bad cut).canonical := by
  unfold State.linePart
  extract_lets _ _ s1 s2 _ s3
  have hs1 : s1.canonical := ite_canonical (frmEvent_canonical (addSat_canonical h)) h
  have hs2 : s2.canonical := ite_canonical (addSat_canonical (updFrm_canonical hs1)) hs1
  have hs3 : s3.canonical := setCtx_canonical hs2
  exact ite_canonical (lineDone_canonical hs3) hs3

theorem State.orphanPkt_canonical {s : State} {c : Nat} {isEnd : Bool} (h : s.canonical) : (s.orphanPkt c isEnd).canonical :=
  ite_canonical (setCtx_canonical (addSat_canonical h)) (frmEvent_canonical (setCtx_canonical (addSat_canonical h)))

theorem State.lineNew_canonical {s : State} {c serial num ofs fmt : Nat} {px : List (Option Nat)} {bad cut : Bool}
    (h : s.canonical) : (s.lineNew c serial num ofs fmt px bad cut).canonical := by
  unfold State.lineNew
  extract_lets _ s1 s2 _ s3
  have hs1 : s1.canonical := loseLines_canonical h
  have hs2 : s2.canonical := updFrm_canonical hs1
  have hs3 : s3.canonical := fillDue_canonical (setCtx_canonical hs2)
  exact ite_canonical (updFrm_canonical h) (ite_canonical (addSat_canonical h) (ite_canonical (loseLines_canonical hs3)
      (linePart_canonical hs3)))

theorem State.lineTail_canonical {s : State} {c : Nat} {m : Frm} {num : Nat} (h : s.canonical) :
    (s.lineTail c m num).canonical :=
  ite_canonical h (frmEvent_canonical (addSat_canonical (setCtx_canonical h)))

theorem State.lineArrive_canonical {s : State} {c num ofs fmt : Nat} {data : List Nat} {bad cut : Bool} (h : s.canonical) :
    (s.lineArrive c num ofs fmt data bad cut).canonical := by
  unfold State.lineArrive
  split
  · exact orphanPkt_canonical h
  · dsimp only
    split
    · exact ite_canonical (linePart_canonical h) (lineNew_canonical (lineDone_canonical h))
    · exact ite_canonical (lineTail_canonical h) (lineNew_canonical h)

theorem State.frmClose_canonical {s : State} {c : Nat} {how : Close} (h : s.canonical) : (s.frmClose c how).canonical := by
  unfold State.frmClose
  split
  · exact h
  · extract_lets s0 _ _ _ _ s1 s2 s3 s4 s5 s6 s7
    have hs0 : s0.canonical := lineDone_canonical h
    have hs1 : s1.canonical := updFrm_canonical hs0
    have hs2 : s2.canonical := wr_canonical (wr_canonical hs1)
    have hs3 : s3.canonical := ite_canonical (addSat_canonical hs2) hs2
    have hs4 : s4.canonical := ite_canonical (addSat_canonical hs3) hs3
    have hs5 : s5.canonical := ite_canonical (frmEvent_canonical hs4) hs4
    have hs6 : s6.canonical := by
      unfold s6
      split
      · exact frmEvent_canonical hs5
      · exact frmEvent_canonical hs5
      · exact ite_canonical (frmEvent_canonical hs5) hs5
    have hs7 : s7.canonical := ite_canonical (frmEnd_canonical hs6) hs6
    exact ctxRun_canonical hs7

theorem State.ctxAdopt_canonical {s : State} {c : Nat} (h : s.canonical) : (s.ctxAdopt c).canonical := setCtx_canonical h

theorem State.ctxChange_canonical {s : State} {link vc c : Nat} (h : s.canonical) : (s.ctxChange link vc c).canonical :=
  ite_canonical (ctxAdopt_canonical (ite_canonical h (frmClose_canonical h))) (ite_canonical (ctxAdopt_canonical
      (frmClose_canonical h)) h)

theorem State.readMap_canonical {s : State} {f : Conf} {c : Nat} (h : s.canonical) : (s.readMap f c).2.2.canonical := by
  unfold State.readMap
  split
  · exact h
  · exact ite_canonical (setCtx_canonical (memRead_canonical h)) (memRead_canonical h)

theorem State.readGrid_canonical {s : State} {f : Conf} {c : Nat} (h : s.canonical) : (s.readGrid f c).2.canonical := by
  unfold State.readGrid
  split
  · exact h
  · exact memRead_canonical h

theorem State.matchTrig_canonical {s : State} {link tseq : Nat} {valid : Bool} (h : s.canonical) :
    (s.matchTrig link tseq valid).2.canonical := by
  unfold State.matchTrig
  dsimp only
  split
  · exact h
  · exact setCam_canonical h

theorem State.tagStart_canonical {s : State} {link vc num tseq : Nat} {valid : Bool} {sof : Nat} (h : s.canonical) :
    (s.tagStart link vc num tseq valid sof).canonical :=
  mk_canonical (setCam_canonical (matchTrig_canonical h))

theorem State.frmOpen_canonical {s : State} {c link vc num tseq : Nat} {valid : Bool} {w ht sof : Nat} (h : s.canonical) :
    (s.frmOpen c link vc num tseq valid w ht sof).canonical := by
  unfold State.frmOpen
  extract_lets s1 x f gen g decl s2 tag s3 rm s4 rg m y win
  have h1 : s1.canonical := frmClose_canonical h
  have h2 : s2.canonical := ite_canonical (frmEvent_canonical (addSat_canonical h1)) h1
  have hrm : rm.2.2.canonical := readMap_canonical (offerFrame_canonical h2)
  have h4 : s4.canonical := ite_canonical hrm (frmEvent_canonical (addSat_canonical hrm))
  exact wr_canonical (setCtx_canonical (readGrid_canonical h4))

theorem State.frameStart_canonical {s : State} {link vc num tseq : Nat} {valid : Bool} {w ht sof : Nat} (h : s.canonical) :
    (s.frameStart link vc num tseq valid w ht sof).canonical := by
  unfold State.frameStart
  extract_lets _ s0 s1 _ s2 s3
  have h0 : s0.canonical := setLink_canonical (wr_canonical h)
  have h1 : s1.canonical := ite_canonical (genFrame_canonical h0) h0
  have h3 : s3.canonical := foldl_canonical (fun _ _ hu => ctxChange_canonical hu) (mk_canonical (tagStart_canonical h1))
  split
  · exact frmOpen_canonical h3
  · exact raise_canonical h3

theorem State.lineIn_canonical {s : State} {link vc num ofs fmt : Nat} {data : List Nat} {bad cut : Bool} (h : s.canonical) :
    (s.lineIn link vc num ofs fmt data bad cut).canonical :=
  foldl_canonical (fun _ _ hu => lineArrive_canonical hu) h

theorem State.endArrive_canonical {s : State} {c num lines : Nat} {ovf : Bool} (h : s.canonical) :
    (s.endArrive c num lines ovf).canonical := by
  unfold State.endArrive
  split
  · exact orphanPkt_canonical h
  · extract_lets s1 s2
    have hs1 : s1.canonical := ite_canonical (addSat_canonical (updFrm_canonical h)) h
    have hs2 : s2.canonical := ite_canonical (frmEvent_canonical (updFrm_canonical hs1)) hs1
    exact frmClose_canonical hs2

theorem State.linkShut_canonical {s : State} {link vc : Nat} (h : s.canonical) : (s.linkShut link vc).canonical :=
  setLink_canonical h

theorem State.frameEnd_canonical {s : State} {link vc num lines : Nat} {ovf : Bool} (h : s.canonical) :
    (s.frameEnd link vc num lines ovf).canonical := by
  unfold State.frameEnd
  extract_lets s1
  have hs1 : s1.canonical := foldl_canonical (fun _ _ hu => endArrive_canonical hu) (linkShut_canonical h)
  exact ite_canonical (windowOpen_canonical hs1) hs1

theorem State.embedIn_canonical {s : State} {link vc index : Nat} {data : List Nat} {mark : Bool} (h : s.canonical) :
    (s.embedIn link vc index data mark).canonical :=
  foldl_canonical (fun _ _ hu => by split; exacts [hu, ite_canonical hu (updFrm_canonical hu)]) h

theorem State.markerMissing_canonical {s : State} {link vc : Nat} {start : Bool} (h : s.canonical) :
    (s.markerMissing link vc start).canonical :=
  foldl_canonical (fun _ _ hu => ite_canonical (frmEvent_canonical (setCtx_canonical (frmClose_canonical hu)))
      (frmClose_canonical hu)) (linkShut_canonical h)

theorem State.endPacket_canonical {s : State} {link vc num lines : Nat} {ovf : Bool} (h : s.canonical) :
    (s.endPacket link vc num lines ovf).canonical :=
  ite_canonical (markerMissing_canonical (setLink_canonical h)) (frameEnd_canonical h)

theorem State.linkAbort_canonical {s : State} {link : Nat} (h : s.canonical) : (s.linkAbort link).canonical :=
  foldl_canonical (fun _ _ hu => foldl_canonical (fun _ _ hu => frmClose_canonical hu) (linkShut_canonical hu)) h

theorem State.serveLine_canonical {s : State} {c : Nat} (h : s.canonical) : (s.serveLine c).canonical := by
  unfold State.serveLine
  extract_lets
  split
  · exact h
  · extract_lets _ _ _ _ _ s1 _ s2
    have hs1 : s1.canonical := ite_canonical (addSat_canonical (memRead_canonical h)) (memRead_canonical h)
    have hs2 : s2.canonical := updFrm_canonical (setCtx_canonical hs1)
    exact ctxRun_canonical (wr_canonical hs2)

theorem execDatapathTurn_canonical {p : Fin 12} {idle : Bool} {t : Nat} {s : State} (h : s.canonical) :
    NextCanonical (execDatapathTurn p idle t s) := by
  unfold execDatapathTurn
  split
  · exact serveLine_canonical (at_canonical h)
  · exact h

theorem State.busyTick_canonical {s : State} (h : s.canonical) : s.busyTick.canonical :=
  foldl_canonical (fun _ _ hu => setCtx_canonical (setCtx_canonical (wr_canonical hu))) h

theorem State.fillWrite_canonical {s : State} {c r : Nat} {m : Frm} (h : s.canonical) : (s.fillWrite c r m).canonical :=
  ctxRun_canonical (rgnRow_canonical (setCtx_canonical h))

theorem execFillLineWrite_canonical {c : Fin 24} {r : Fin 4} {t : Nat} {s : State} (h : s.canonical) :
    NextCanonical (execFillLineWrite c r t s) := by
  unfold execFillLineWrite
  dsimp only
  split
  · exact ite_canonical (fillWrite_canonical (fillDue_canonical (at_canonical h))) h
  · exact h

theorem execFrameRecordWrite_canonical {c : Fin 24} {r : Fin 4} {t : Nat} {s : State} (h : s.canonical) :
    NextCanonical (execFrameRecordWrite c r t s) := by
  unfold execFrameRecordWrite
  dsimp only
  split
  · exact ite_canonical (ctxRun_canonical (rgnRecord_canonical (at_canonical h))) h
  · exact h

theorem execFrameTimeout_canonical {c : Fin 24} {t : Nat} {s : State} (h : s.canonical) :
    NextCanonical (execFrameTimeout c t s) := by
  unfold execFrameTimeout
  split
  · exact ite_canonical (frmClose_canonical (linkShut_canonical (at_canonical h))) h
  · exact h

theorem State.liteMove_canonical {s : State} {add : Int} (h : s.canonical) : (s.liteMove add).canonical :=
  ite_canonical (rebase_canonical (captureCentres_canonical h)) h

theorem State.liteFollow_canonical {s : State} (h : s.canonical) : s.liteFollow.canonical :=
  ite_canonical (axisChanged_canonical (followSources_canonical h)) h

theorem State.liteLock_canonical {s : State} {search : Bool} (h : s.canonical) : (s.liteLock search).canonical := by
  unfold State.liteLock
  extract_lets s1
  have hs1 : s1.canonical := wr_canonical h
  exact ite_canonical (liteFollow_canonical (raise_canonical (ite_canonical (movePos_canonical hs1) hs1)))
      (liteFollow_canonical hs1)

theorem State.liteReport_canonical {s : State} {freq bright period : Nat} (h : s.canonical) :
    (s.liteReport freq bright period).canonical := by
  unfold State.liteReport
  extract_lets heard seen _ osc err dp df live s1 run _ s2 s3
  have hheard : ∀ u : State, u.canonical → (heard u).canonical := fun _ hu => mk_canonical hu
  have hs1 : s1.canonical := liteMove_canonical h
  have hs3 : s3.canonical := wr_canonical (wr_canonical (hheard _ (mk_canonical hs1)))
  refine ite_canonical (wr_canonical (hheard _ (mk_canonical h))) ?_
  split
  · exact ite_canonical (liteLock_canonical hs3) hs3
  · exact liteLock_canonical hs3
  · exact liteFollow_canonical hs3

theorem State.liteHold_canonical {s : State} (h : s.canonical) : s.liteHold.canonical := mk_canonical (wr_canonical h)

theorem State.liteBad_canonical {s : State} (h : s.canonical) : s.liteBad.canonical :=
  ite_canonical (liteHold_canonical (mk_canonical h)) (mk_canonical h)

theorem execFlickerReport_canonical {ctx : Fin 24} {t : Nat} {s : State} (h : s.canonical) :
    NextCanonical (execFlickerReport ctx t s) := by
  unfold execFlickerReport
  extract_lets _ _ _ s0
  have hs0 : s0.canonical := at_canonical h
  split
  · exact h
  · extract_lets _ _ _ s1
    have hs1 : s1.canonical :=
        raise_canonical (wrB_canonical (wr_canonical (wr_canonical (wr_canonical (wr_canonical (setCtx_canonical hs0))))))
    exact ite_canonical h (ite_canonical (ite_canonical (liteReport_canonical hs1) (liteBad_canonical hs1)) hs1)

theorem execLightLost_canonical {t : Nat} {s : State} (h : s.canonical) : NextCanonical (execLightLost t s) :=
  ite_canonical (liteFollow_canonical (raise_canonical (mk_canonical (set1_canonical (wr_canonical (liteMove_canonical
      (at_canonical h))))))) h

theorem State.liteStart_canonical {s : State} (h : s.canonical) : s.liteStart.canonical :=
  liteFollow_canonical (mk_canonical (wr_canonical (liteMove_canonical h)))

theorem State.swLine_canonical {s : State} {w i : Nat} {d : SwDesc} {bytes : List Nat} (h : s.canonical) :
    (s.swLine w i d bytes).canonical := by
  unfold State.swLine
  extract_lets fl e x0 r f line row _ keep px
  have hkeep : ∀ g, (keep g).canonical := fun _ => setSwath_canonical h
  exact ite_canonical h (ite_canonical (hkeep _) (ite_canonical (hkeep _) (ite_canonical (hkeep _)
    (memWrite_canonical (hkeep _)))))

theorem State.swPoison_canonical {s : State} {w i : Nat} {bytes : List Nat} (h : s.canonical) :
    (s.swPoison w i bytes).canonical :=
  setSwath_canonical h

theorem execSwathLineItem_canonical {w : Fin 2} {i : Fin 16} {t : Nat} {s : State} (h : s.canonical) :
    NextCanonical (execSwathLineItem w i t s) := by
  unfold execSwathLineItem
  extract_lets s
  have hs : s.canonical := endpointCatch_canonical h
  split
  · extract_lets
    exact ite_canonical hs (ite_canonical (swPoison_canonical (endpointRead_canonical (at_canonical hs))) (swLine_canonical
        (endpointRead_canonical (at_canonical hs))))
  · exact hs

theorem State.swRecord_canonical {s : State} {w i : Nat} {d : SwDesc} {bytes : List Nat} (h : s.canonical) :
    (s.swRecord w i d bytes).canonical := by
  unfold State.swRecord
  extract_lets
  split
  · exact ite_canonical (raise_canonical (raise_canonical (setSwath_canonical h))) (raise_canonical (setSwath_canonical h))
  · exact setSwath_canonical h

theorem State.swDecide_canonical {s : State} {w : Nat} {d : SwDesc} {forced gap : Bool} (h : s.canonical) :
    (s.swDecide w d forced gap).canonical := by
  unfold State.swDecide
  extract_lets _ _ _ _ _ s1 s2
  have hs1 : s1.canonical := setSwath_canonical h
  have hs2 : s2.canonical := ite_canonical (raise_canonical hs1) hs1
  exact ite_canonical (raise_canonical hs2) hs2

theorem State.swDecideN_canonical {s : State} {w : Nat} {d : SwDesc} {forced : Bool} {n : Nat} (h : s.canonical) :
    (s.swDecideN w d forced n).canonical := by
  induction n generalizing s with
  | zero => exact h
  | succ n ih => exact ih (swDecide_canonical h)

theorem State.swEval_canonical {s : State} {w : Nat} {d : SwDesc} (h : s.canonical) : (s.swEval w d).canonical :=
  swDecideN_canonical (swDecideN_canonical h)

theorem execSwathFrameRecord_canonical {w : Fin 2} {i : Fin 16} {t : Nat} {s : State} (h : s.canonical) :
    NextCanonical (execSwathFrameRecord w i t s) := by
  unfold execSwathFrameRecord
  extract_lets s
  have hs : s.canonical := endpointCatch_canonical h
  split
  · extract_lets
    exact ite_canonical hs (swEval_canonical (ite_canonical (endpointRead_canonical (at_canonical hs)) (swRecord_canonical
        (endpointRead_canonical (at_canonical hs)))))
  · exact hs

theorem execSwathForceEval_canonical {w : Fin 2} {t : Nat} {s : State} (h : s.canonical) :
    NextCanonical (execSwathForceEval w t s) := by
  unfold execSwathForceEval
  split
  · exact swEval_canonical (swathFollow_canonical (at_canonical h))
  · exact h

theorem State.swMeet_canonical {s : State} {addrs : List Nat} (h : s.canonical) : (s.swMeet addrs).canonical :=
  ite_canonical h (meetWords_canonical h)

theorem State.swRowOut_canonical {s : State} {w : Nat} {d : SwDesc} {r : SwRow} (h : s.canonical) :
    (s.swRowOut w d r).canonical :=
  setSwath_canonical (ite_canonical h (swMeet_canonical (used_canonical h)))

theorem State.swClose_canonical {s : State} {w : Nat} {d : SwDesc} (h : s.canonical) : (s.swClose w d).canonical :=
  ite_canonical h (setSwath_canonical h)

theorem State.swEmitted_canonical {s : State} {w : Nat} {o : SwOut} (h : s.canonical) : (s.swEmitted w o).canonical :=
  ite_canonical (raiseFirst_canonical (setSwath_canonical h)) (setSwath_canonical h)

theorem State.swNewStrip_canonical {s : State} {w : Nat} {o : SwOut} (h : s.canonical) : (s.swNewStrip w o).canonical :=
  setSwath_canonical h

theorem State.swPut_canonical {s t : State} {w : Nat} (h : s.canonical) (ht : s.swPut w = some t) : t.canonical := by
  unfold State.swPut at ht
  dsimp only at ht
  split at ht
  next o rest f _ _ =>
    have hpop : (s.setSwath w { s.swath w with outq := rest }).canonical := h
    split_ifs at ht <;> obtain rfl := Option.some.inj ht
    · exact swNewStrip_canonical hpop
    · exact swNewStrip_canonical (dlvEnd_canonical (flueItem_canonical hpop))
    · exact swEmitted_canonical (flueItem_canonical (offerFrame_canonical hpop))
    · exact swEmitted_canonical (flueItem_canonical hpop)
  next => cases ht

theorem State.swDrain_canonical {s : State} {w n : Nat} (h : s.canonical) : (s.swDrain w n).canonical := by
  induction n generalizing s with
  | zero => exact h
  | succ n ih =>
    unfold State.swDrain
    split
    next s1 heq => exact ih (swPut_canonical h heq)
    next => exact h

theorem State.swDrainAll_canonical {s : State} {w : Nat} (h : s.canonical) : (s.swDrainAll w).canonical :=
  swDrain_canonical h

theorem execRowCompute_canonical {w : Fin 2} {t : Nat} {s : State} (h : s.canonical) :
    NextCanonical (execRowCompute w t s) := by
  unfold execRowCompute
  dsimp only
  split
  · exact swDrainAll_canonical (at_canonical h)
  · exact ite_canonical h (swDrainAll_canonical (swRowOut_canonical (setSwath_canonical (at_canonical h))))
  · exact h

theorem execStripTimeout_canonical {w : Fin 2} {t : Nat} {s : State} (h : s.canonical) :
    NextCanonical (execStripTimeout w t s) := by
  unfold execStripTimeout
  dsimp only
  split
  · exact ite_canonical (swDrainAll_canonical (swClose_canonical (at_canonical h))) h
  · exact h

theorem State.swRestartOld_canonical {s : State} {w : Nat} (h : s.canonical) : (s.swRestartOld w).canonical := by
  unfold State.swRestartOld
  extract_lets
  split
  · exact h
  · exact swDrainAll_canonical (setSwath_canonical (foldl_canonical (fun _ _ hu => swRowOut_canonical hu) (setSwath_canonical
        (swDecideN_canonical h))))

theorem State.swRestartNew_canonical {s : State} {w : Nat} {fresh preset : Bool} (h : s.canonical) :
    (s.swRestartNew w fresh preset).canonical := by
  unfold State.swRestartNew
  split
  · exact h
  · exact raise_canonical (setSwath_canonical h)

theorem cmdSwathCtl_canonical {c : CmdPkt} {s : State} (h : s.canonical) : (cmdSwathCtl c s).1.canonical := by
  unfold cmdSwathCtl
  extract_lets _ _ _ s1
  have hs1 : s1.canonical := evDiscard_canonical (setSwath_canonical h)
  split
  · exact ite_canonical (swDecide_canonical hs1) hs1
  · exact hs1

theorem cmdSwathStatus_canonical {c : CmdPkt} {s : State} (h : s.canonical) : (cmdSwathStatus c s).1.canonical :=
  hostWrite_canonical h

theorem State.burstStart_canonical {s : State} {n : Nat} (h : s.canonical) : (s.burstStart n).canonical :=
  setLink_canonical h

theorem State.setLlat_canonical {s : State} {n v : Nat} (h : s.canonical) : (s.setLlat n v).canonical :=
  wr_canonical (wr_canonical h)

theorem State.whoFails_canonical {s : State} {n : Nat} {down : Bool} {who : Who} (h : s.canonical) :
    (s.whoFails n down who).canonical := by
  unfold State.whoFails
  split
  · exact setLink_canonical h
  · exact ite_canonical (burstStart_canonical (raise_canonical h)) (raise_canonical h)
  · exact wr_canonical (wr_canonical (wr_canonical (wr_canonical h)))
  · exact ite_canonical (wr_canonical h) h
  · exact h
  · exact h
  · split
    · exact ite_canonical (twReply_canonical h) (twEnd_canonical h)
    · exact h
  · exact ite_canonical (setFail_canonical h) (setAck_canonical h)
  · split
    · exact cmdReply_canonical (setTwp_canonical h)
    · exact h

theorem State.bcStop_canonical {s : State} {n : Nat} (h : s.canonical) : (s.bcStop n).canonical :=
  foldl_canonical (fun _ _ hu => whoFails_canonical hu) (wr_canonical (setLink_canonical h))

theorem State.leaveAligned_canonical {s : State} {n : Nat} (h : s.canonical) : (s.leaveAligned n).canonical :=
  setLink_canonical (ite_canonical (linkAbort_canonical h) h)

theorem State.startLock_canonical {s : State} {n : Nat} (h : s.canonical) : (s.startLock n).canonical :=
  wr_canonical (wr_canonical (setLink_canonical (leaveAligned_canonical h)))

theorem State.linkBank_canonical {s : State} {n : Nat} (h : s.canonical) : (s.linkBank n).canonical :=
  wr_canonical (wr_canonical (wr_canonical (setLink_canonical (bcStop_canonical (leaveAligned_canonical h)))))

theorem State.flrControl_canonical {s : State} {n op : Nat} {args : List Nat} {who : Who} (h : s.canonical) :
    (s.flrControl n op args who).canonical :=
  ite_canonical (bcControl_canonical h) (whoFails_canonical h)

theorem State.linkEnter_canonical {s : State} {n : Nat} (h : s.canonical) : (s.linkEnter n).canonical := by
  unfold State.linkEnter
  dsimp only
  split
  · exact wr_canonical (setLink_canonical h)
  · exact flrControl_canonical (setLink_canonical h)

theorem State.linkEnable_canonical {s : State} {n : Nat} (h : s.canonical) : (s.linkEnable n).canonical := by
  unfold State.linkEnable
  extract_lets _ s1
  have hs1 : s1.canonical :=
      setLlat_canonical (wr_canonical (wr_canonical (wr_canonical (wr_canonical (wr_canonical (wr_canonical h))))))
  exact startLock_canonical (setLink_canonical hs1)

theorem State.linkDisable_canonical {s : State} {n : Nat} (h : s.canonical) : (s.linkDisable n).canonical :=
  wr_canonical (wr_canonical (wr_canonical (setLink_canonical (bcStop_canonical (leaveAligned_canonical h)))))

theorem State.linkRecover_canonical {s : State} {n : Nat} (h : s.canonical) : (s.linkRecover n).canonical :=
  startLock_canonical (setLink_canonical (wr_canonical (leaveAligned_canonical h)))

theorem State.linkRate_canonical {s : State} {n : Nat} (h : s.canonical) : (s.linkRate n).canonical :=
  flrControl_canonical h

theorem State.linkPower_canonical {s : State} {n : Nat} (h : s.canonical) : (s.linkPower n).canonical := by
  unfold State.linkPower
  extract_lets _ s1 _ s1'
  have hs1 : s1.canonical := wr_canonical (wr_canonical h)
  have hs1' : s1'.canonical := wr_canonical h
  split
  · exact ite_canonical (startLock_canonical (setLink_canonical hs1)) (flrControl_canonical (setLink_canonical hs1'))
  · exact ite_canonical (startLock_canonical (setLink_canonical hs1)) (flrControl_canonical (wr_canonical
        (linkAbort_canonical h)))
  · exact ite_canonical h (flrControl_canonical (wr_canonical (linkAbort_canonical h)))

theorem State.hitWindow_canonical {s : State} {n : Nat} (h : s.canonical) : (s.hitWindow n).canonical :=
  wr_canonical (wr_canonical (setLink_canonical h))

theorem State.enterSearch_canonical {s : State} {n : Nat} (h : s.canonical) : (s.enterSearch n).canonical :=
  setLink_canonical (hitWindow_canonical (wr_canonical h))

theorem State.bitslip_canonical {s : State} {n : Nat} (h : s.canonical) : (s.bitslip n).canonical := by
  unfold State.bitslip
  extract_lets _ s0 _ s1
  have hs0 : s0.canonical := hitWindow_canonical (wr_canonical h)
  have hs1 : s1.canonical := setLink_canonical hs0
  exact ite_canonical (ite_canonical (setLink_canonical (wr_canonical hs1)) hs1) h

theorem State.enterAligned_canonical {s : State} {n : Nat} (h : s.canonical) : (s.enterAligned n).canonical := by
  unfold State.enterAligned
  extract_lets _ s1 s2
  have hs1 : s1.canonical := raise_canonical (wr_canonical (wr_canonical (setLink_canonical h)))
  have hs2 : s2.canonical := twConfig_canonical (burstStart_canonical hs1)
  refine ite_canonical hs1 ?_
  split
  · exact flrControl_canonical hs2
  · exact ite_canonical (flrControl_canonical hs2) hs2
  · exact hs2

theorem execSignalDetect_canonical {n : Fin 24} {t : Nat} {s : State} (h : s.canonical) :
    NextCanonical (execSignalDetect n t s) :=
  ite_canonical (wr_canonical (setLink_canonical (at_canonical h))) (setLink_canonical (at_canonical h))

theorem execCdrLock_canonical {n : Fin 24} {t : Nat} {s : State} (h : s.canonical) : NextCanonical (execCdrLock n t s) :=
  ite_canonical (enterSearch_canonical (setLink_canonical (wr_canonical (wr_canonical (at_canonical h))))) h

theorem State.cdrLoss_canonical {s : State} {n : Nat} (h : s.canonical) : (s.cdrLoss n).canonical :=
  ite_canonical (raise_canonical (startLock_canonical h)) (ite_canonical (startLock_canonical h) h)

theorem execAlignProcedure_canonical {n : Fin 24} {t : Nat} {s : State} (h : s.canonical) :
    NextCanonical (execAlignProcedure n t s) := by
  unfold execAlignProcedure
  extract_lets _ s1
  have hs1 : s1.canonical := bitslip_canonical (at_canonical h)
  split
  · exact h
  · exact ite_canonical h (ite_canonical (ite_canonical (ite_canonical (raise_canonical (setLink_canonical hs1))
        (setLink_canonical hs1)) h) (setLink_canonical (at_canonical h)))

theorem execRateFallback_canonical {n : Fin 24} {t : Nat} {s : State} (h : s.canonical) :
    NextCanonical (execRateFallback n t s) := by
  unfold execRateFallback
  dsimp only
  split
  · exact ite_canonical (setLink_canonical (wr_canonical (wr_canonical (at_canonical h)))) h
  · exact h

theorem execBankExitLate_canonical {n : Fin 24} {t : Nat} {s : State} (h : s.canonical) :
    NextCanonical (execBankExitLate n t s) := by
  unfold execBankExitLate
  split
  · exact ite_canonical (raise_canonical (setLink_canonical (at_canonical h))) h
  · exact h

theorem State.bcFail_canonical {s : State} {n : Nat} {f : BcFrame} (h : s.canonical) : (s.bcFail n f).canonical := by
  unfold State.bcFail
  refine bcNext_canonical ?_
  split
  · exact linkBank_canonical (raise_canonical (addSat_canonical (setLink_canonical h)))
  · exact flrControl_canonical (raise_canonical (addSat_canonical (setLink_canonical h)))
  · exact whoFails_canonical (raise_canonical (addSat_canonical (setLink_canonical h)))

theorem State.bcRetry_canonical {s : State} {n : Nat} {f : BcFrame} (h : s.canonical) : (s.bcRetry n f).canonical :=
  ite_canonical (bcFail_canonical h) (bcLaunch_canonical (addSat_canonical h))

theorem State.idDone_canonical {s : State} {n : Nat} {resp : List Nat} (h : s.canonical) : (s.idDone n resp).canonical := by
  unfold State.idDone
  extract_lets _ s1 _ s2
  have hs1 : s1.canonical := wr_canonical (wr_canonical (wr_canonical h))
  have hs2 : s2.canonical := setLink_canonical hs1
  exact ite_canonical (raise_canonical (setLink_canonical hs1)) (ite_canonical (linkRate_canonical hs2) (burstStart_canonical
      hs2))

theorem State.whoDone_canonical {s : State} {n : Nat} {resp : List Nat} {who : Who} (h : s.canonical) :
    (s.whoDone n resp who).canonical := by
  unfold State.whoDone
  split
  · exact idDone_canonical h
  · exact linkRecover_canonical (wr_canonical h)
  · exact linkBank_canonical h
  · exact wr_canonical h
  · exact ite_canonical h (wr_canonical (setLink_canonical h))
  · exact setLink_canonical h
  · exact h
  · exact twAck_canonical h
  · exact setAck_canonical h
  · exact clearAck_canonical h

theorem State.bcAck_canonical {s : State} {n seq result : Nat} {resp : List Nat} (h : s.canonical) :
    (s.bcAck n seq result resp).canonical := by
  unfold State.bcAck
  split
  · exact h
  · refine ite_canonical h ?_
    split
    · exact bcNext_canonical (whoDone_canonical (setLink_canonical h))
    · exact bcRetry_canonical h
    · exact bcFail_canonical h
    · exact h

theorem execBcAckTimeout_canonical {n : Fin 24} {t : Nat} {s : State} (h : s.canonical) :
    NextCanonical (execBcAckTimeout n t s) := by
  unfold execBcAckTimeout
  split
  · exact ite_canonical (bcRetry_canonical (at_canonical h)) h
  · exact h

theorem execReadIdRetry_canonical {n : Fin 24} {t : Nat} {s : State} (h : s.canonical) :
    NextCanonical (execReadIdRetry n t s) := by
  unfold execReadIdRetry
  split
  · exact ite_canonical (flrControl_canonical (setLink_canonical (at_canonical h))) h
  · exact h

theorem execEchoSend_canonical {n : Fin 24} {ps : Nat} {t : Nat} {s : State} (h : s.canonical) :
    NextCanonical (execEchoSend n ps t s) := by
  unfold execEchoSend
  dsimp only
  split
  · exact ite_canonical (setLink_canonical (at_canonical h)) h
  · exact h

theorem State.periodicReply_canonical {s : State} {n : Nat} {m : Int} (h : s.canonical) :
    (s.periodicReply n m).canonical := by
  unfold State.periodicReply
  extract_lets _ _ s1
  have hs1 : s1.canonical := setLink_canonical h
  exact ite_canonical (setLlat_canonical (setLink_canonical h)) (ite_canonical (burstStart_canonical (setLink_canonical hs1))
      hs1)

theorem State.echoReply_canonical {s : State} {n id arr turn tpath : Nat} (h : s.canonical) :
    (s.echoReply n id arr turn tpath).canonical := by
  unfold State.echoReply
  refine ite_canonical (setLink_canonical h) ?_
  dsimp only
  split
  · exact h
  · refine ite_canonical h ?_
    split
    · exact setLink_canonical (wr_canonical (wr_canonical (wr_canonical h)))
    · exact periodicReply_canonical (wr_canonical (wr_canonical (wr_canonical h)))

theorem execEchoReplyTimeout_canonical {n : Fin 24} {id : Byte} {ps : Nat} {t : Nat} {s : State} (h : s.canonical) :
    NextCanonical (execEchoReplyTimeout n id ps t s) := by
  unfold execEchoReplyTimeout
  dsimp only
  split
  · exact setLink_canonical (at_canonical h)
  · exact ite_canonical (setLink_canonical (at_canonical h)) h

theorem State.burstOk_canonical {s : State} {n : Nat} {good : List Int} (h : s.canonical) :
    (s.burstOk n good).canonical := by
  unfold State.burstOk
  extract_lets _ _ _ s1
  have hs1 : s1.canonical := setLink_canonical (wr_canonical (setLlat_canonical h))
  exact ite_canonical (raise_canonical hs1) hs1

theorem State.burstBad_canonical {s : State} {n : Nat} (h : s.canonical) : (s.burstBad n).canonical :=
  ite_canonical (raise_canonical (wr_canonical (setLink_canonical h))) (setLink_canonical h)

theorem execEchoBurstEnd_canonical {n : Fin 24} {t : Nat} {s : State} (h : s.canonical) :
    NextCanonical (execEchoBurstEnd n t s) := by
  unfold execEchoBurstEnd
  split
  · extract_lets _ s1
    have hs1 : s1.canonical := ite_canonical (burstOk_canonical (at_canonical h)) (burstBad_canonical (at_canonical h))
    exact ite_canonical h (ite_canonical (linkEnter_canonical hs1) hs1)
  · exact h

theorem execEchoBurstRetry_canonical {n : Fin 24} {t : Nat} {s : State} (h : s.canonical) :
    NextCanonical (execEchoBurstRetry n t s) := by
  unfold execEchoBurstRetry
  split
  · exact ite_canonical (burstStart_canonical (at_canonical h)) h
  · exact h

theorem State.gpioSend_canonical {s : State} {n : Nat} (h : s.canonical) : (s.gpioSend n).canonical :=
  ite_canonical (setLink_canonical h) (setLink_canonical h)

theorem State.telemetry_canonical {s : State} {n : Nat} {b : List Nat} (h : s.canonical) : (s.telemetry n b).canonical := by
  unfold State.telemetry
  extract_lets _ s1 _ s2
  have hs1 : s1.canonical := wr_canonical (wr_canonical (wr_canonical (wr_canonical (wr_canonical (wr_canonical h)))))
  have hs2 : s2.canonical := setLink_canonical hs1
  exact ite_canonical (burstStart_canonical (wr_canonical hs2)) hs2

theorem State.loopBits_canonical {s : State} {n bits errs : Nat} (h : s.canonical) : (s.loopBits n bits errs).canonical :=
  ite_canonical (raise_canonical (addSat_canonical (wr_canonical (wr_canonical h)))) (addSat_canonical (wr_canonical
      (wr_canonical h)))

theorem State.loopCheck_canonical {s : State} {n full : Nat} {f : Nat × Nat × Nat × Nat → Nat × Nat × Nat × Nat}
    (h : s.canonical) : (s.loopCheck n full f).canonical :=
  ite_canonical (setLink_canonical h) (loopBits_canonical (wr_canonical (setLink_canonical h)))

theorem State.loopPrbs_canonical {s : State} {n : Nat} {prbs31 : Bool} {bs : List Bool} (h : s.canonical) :
    (s.loopPrbs n prbs31 bs).canonical :=
  ite_canonical (loopCheck_canonical h) (loopCheck_canonical h)

theorem State.loopPacket_canonical {s : State} {n : Nat} {bs : List Nat} (h : s.canonical) : (s.loopPacket n bs).canonical :=
  ite_canonical (loopPrbs_canonical (setLink_canonical h)) h

theorem State.loopCommit_canonical {s : State} {n : Nat} {routed : Bool} (h : s.canonical) :
    (s.loopCommit n routed).canonical := by
  unfold State.loopCommit
  extract_lets _ _ s0 _ s1 s2 _ s3
  have hs0 : s0.canonical := wr_canonical h
  have hs1 : s1.canonical := ite_canonical (linkRecover_canonical (setLink_canonical hs0)) (ite_canonical
      (flrControl_canonical (setLink_canonical hs0)) hs0)
  have hs2 : s2.canonical := wr_canonical (wr_canonical (wr_canonical (wr_canonical hs1)))
  have hs3 : s3.canonical := linkAbort_canonical hs2
  exact ite_canonical hs1 (ite_canonical (wr_canonical hs1) (ite_canonical (flrControl_canonical (setLink_canonical hs2))
      (setLink_canonical hs3)))

theorem State.pocSum_canonical {s : State} (h : s.canonical) : s.pocSum.canonical := wr_canonical h

theorem State.pocMeas_canonical {s : State} {n vout iout : Nat} (h : s.canonical) : (s.pocMeas n vout iout).canonical :=
  pocSum_canonical (wr_canonical (wr_canonical h))

theorem State.pocSet_canonical {s : State} {n st : Nat} (h : s.canonical) : (s.pocSet n st).canonical :=
  pocSum_canonical (wr_canonical (setLink_canonical h))

theorem State.pocStart_canonical {s : State} {n k : Nat} (h : s.canonical) : (s.pocStart n k).canonical :=
  pocSum_canonical (wr_canonical (wr_canonical (setLink_canonical h)))

theorem State.pocTrip_canonical {s : State} {n : Nat} {short : Bool} (h : s.canonical) : (s.pocTrip n short).canonical :=
  ite_canonical (raise_canonical (set1_canonical (pocSet_canonical h))) (raise_canonical (set1_canonical (pocSet_canonical
      h)))

theorem State.pocBlock_canonical {s : State} {n : Nat} (h : s.canonical) : (s.pocBlock n).canonical :=
  ite_canonical h (raise_canonical (set1_canonical (pocSet_canonical h)))

theorem State.pocHeld_canonical {s : State} {n : Nat} (h : s.canonical) : (s.pocHeld n).canonical :=
  set1_canonical (pocSet_canonical h)

theorem State.pocCommit_canonical {s : State} (h : s.canonical) : s.pocCommit.canonical := by
  unfold State.pocCommit
  extract_lets offTrip r0
  have h0 : r0.1.canonical := by
    refine List.foldlRecOn (motive := fun y : State × Nat => y.1.canonical) _ _ h fun y hy n _ => ?_
    split
    · split
      · exact pocSet_canonical hy
      · exact hy
    · exact hy
  clear_value r0
  refine List.foldlRecOn (motive := fun y : State × Nat × Nat => y.1.canonical) _ _ h0 fun y hy n _ => ?_
  dsimp only
  split
  · exact hy
  split
  · exact pocSet_canonical hy
  split
  · exact pocBlock_canonical hy
  split
  · exact hy
  split
  · exact pocSet_canonical hy
  split
  · exact pocHeld_canonical hy
  · exact pocStart_canonical hy

theorem State.pocCleared_canonical {s : State} {n : Nat} (h : s.canonical) : (s.pocCleared n).canonical :=
  ite_canonical (ite_canonical (pocSet_canonical h) (ite_canonical (pocHeld_canonical h) (pocStart_canonical h))) h

theorem execPocVoutReached_canonical {n : Fin 24} {vout iout : BitVec 16} {t : Nat} {s : State} (h : s.canonical) :
    NextCanonical (execPocVoutReached n vout iout t s) := by
  unfold execPocVoutReached
  extract_lets s1
  have hs1 : s1.canonical := pocMeas_canonical (at_canonical h)
  exact ite_canonical (ite_canonical (pocTrip_canonical hs1) (ite_canonical (pocSum_canonical (wr_canonical
      (setLink_canonical hs1))) hs1)) h

theorem execPocShort_canonical {n : Fin 24} {vout : BitVec 16} {iout : PocAmps} {t : Nat} {s : State} (h : s.canonical) :
    NextCanonical (execPocShort n vout iout t s) :=
  ite_canonical (ite_canonical (pocTrip_canonical (pocMeas_canonical (at_canonical h))) (pocMeas_canonical (at_canonical
      h))) h

theorem execPocOvercurrent_canonical {n : Fin 24} {vout : BitVec 16} {iout : PocAmps} {t : Nat} {s : State} (h : s.canonical) :
    NextCanonical (execPocOvercurrent n vout iout t s) :=
  ite_canonical (ite_canonical (pocTrip_canonical (pocMeas_canonical (at_canonical h))) (pocMeas_canonical (at_canonical
      h))) h

theorem State.pocOpen_canonical {s : State} {n : Nat} (h : s.canonical) : (s.pocOpen n).canonical :=
  ite_canonical (ite_canonical (set1_canonical (wr_canonical h)) (raise_canonical (set1_canonical (wr_canonical h)))) h

theorem execPocOpen_canonical {n : Fin 24} {vout : BitVec 16} {iout : PocAmps} {t : Nat} {s : State} (h : s.canonical) :
    NextCanonical (execPocOpen n vout iout t s) :=
  ite_canonical (ite_canonical (pocOpen_canonical (pocMeas_canonical (at_canonical h))) (pocMeas_canonical (at_canonical
      h))) h

theorem execPocOpenClear_canonical {n : Fin 24} {vout : BitVec 16} {iout : PocAmps} {t : Nat} {s : State} (h : s.canonical) :
    NextCanonical (execPocOpenClear n vout iout t s) :=
  ite_canonical (ite_canonical (wr_canonical (pocMeas_canonical (at_canonical h))) (pocMeas_canonical (at_canonical h))) h

theorem execPocStaggerStart_canonical {n : Fin 24} {t : Nat} {s : State} (h : s.canonical) :
    NextCanonical (execPocStaggerStart n t s) := by
  unfold execPocStaggerStart
  split
  · exact ite_canonical (setLink_canonical (at_canonical h)) h
  · exact h

theorem execLnkClrCnt_canonical {n : Fin 24} {s : State} (h : s.canonical) : NextCanonical (execLnkClrCnt n s) :=
  wr_canonical (wr_canonical (wr_canonical (wr_canonical (wr_canonical (wr_canonical (wr_canonical (wr_canonical h)))))))

theorem cmdLinkSummary_canonical {c : CmdPkt} {s : State} (h : s.canonical) : (cmdLinkSummary c s).1.canonical := h

theorem cmdLinkRestart_canonical {c : CmdPkt} {s : State} (h : s.canonical) : (cmdLinkRestart c s).1.canonical := by
  unfold cmdLinkRestart
  dsimp only
  split
  · exact h
  · exact ite_canonical (linkEnable_canonical (linkDisable_canonical h)) h

theorem State.linkCommit_canonical {s : State} {was : Conf} {n : Nat} (h : s.canonical) :
    (s.linkCommit was n).canonical := by
  unfold State.linkCommit
  extract_lets _ _ _ _ r s1 s2
  have hr : r.canonical := ite_canonical (linkRate_canonical h) h
  have hs1 : s1.canonical := ite_canonical (linkDisable_canonical h) (ite_canonical (linkEnable_canonical h) (ite_canonical
      (ite_canonical (linkPower_canonical hr) hr) h))
  have hs2 : s2.canonical := ite_canonical (gpioSend_canonical hs1) hs1
  exact ite_canonical hs2 (loopCommit_canonical hs2)

theorem execScrubGo_canonical {t : Nat} {s : State} (h : s.canonical) : NextCanonical (execScrubGo t s) := by
  unfold execScrubGo
  dsimp only
  split
  · exact set1_canonical (at_canonical h)
  · exact wr_canonical (setMemu_canonical (at_canonical h))

theorem State.wrPair_canonical {s : State} {lo hi : Fld} {v : Nat} (h : s.canonical) : (s.wrPair lo hi v).canonical :=
  wr_canonical (wr_canonical h)

theorem ScanSum.word_canonical {x : ScanSum} {m : MemId} {k : Nat} (h : x.s.canonical) : (x.word m k).s.canonical := by
  unfold ScanSum.word
  dsimp only
  split
  · exact meetWord_canonical h
  · exact List.foldlRecOn (motive := fun y : ScanSum => y.s.canonical) _ _ (meetWord_canonical h) fun _ hy _ _ => hy

theorem ScanSum.scan_canonical {x : ScanSum} {m : MemId} {a n : Nat} (h : x.s.canonical) : (x.scan m a n).s.canonical :=
  List.foldlRecOn (motive := fun y : ScanSum => y.s.canonical) _ _ (crcCheck_canonical h) fun _ hy _ _ => word_canonical hy

theorem State.scrubEnd_canonical {s : State} {c : Scrub} {n : Nat} (h : s.canonical) : (s.scrubEnd c n).canonical := by
  unfold State.scrubEnd
  extract_lets x worst s1 s2
  have hx : x.s.canonical :=
    List.foldlRecOn (motive := fun y : ScanSum => y.s.canonical) _ _ h fun _ hy _ _ => ScanSum.scan_canonical hy
  have h1 : s1.canonical := wr_canonical (wrPair_canonical (wrPair_canonical hx))
  exact raise_canonical (setMemu_canonical (wr_canonical (set1_canonical (wr_canonical h1))))

theorem execScrubDone_canonical {t : Nat} {s : State} (h : s.canonical) : NextCanonical (execScrubDone t s) := by
  unfold execScrubDone
  split
  · exact ite_canonical (scrubEnd_canonical (at_canonical h)) h
  · exact h

theorem execScrubAbort_canonical {words : Word} {t : Nat} {s : State} (h : s.canonical) :
    NextCanonical (execScrubAbort words t s) := by
  unfold execScrubAbort
  split
  · exact scrubEnd_canonical (at_canonical h)
  · exact h

theorem execPatrolScrub_canonical {sram : Bool} {words : Word} {t : Nat} {s : State} (h : s.canonical) :
    NextCanonical (execPatrolScrub sram words t s) := by
  unfold execPatrolScrub
  extract_lets u per x n k y wrap _ s1
  have hx : x.s.canonical := List.foldlRecOn (motive := fun y : ScanSum => y.s.canonical) _ _ (setMemu_canonical
      (at_canonical h))
    fun _ hy _ _ => ScanSum.scan_canonical hy
  have h1 : s1.canonical := setMemu_canonical (ScanSum.scan_canonical (at_canonical h))
  split
  · split
    · exact wr_canonical hx
    · exact h
  · split
    · exact h
    · exact ite_canonical (wr_canonical h1) h1

theorem State.fenceCommit_canonical {s : State} {ch : Nat} (h : s.canonical) : (s.fenceCommit ch).canonical :=
  raise_canonical (setMemu_canonical (wr_canonical (wr_canonical (wr_canonical (wrPair_canonical h)))))

theorem State.fenceWhole_canonical {s : State} (h : s.canonical) : s.fenceWhole.canonical :=
  ite_canonical (setMemu_canonical h) h

theorem execGranuleMigrate_canonical {t : Nat} {s : State} (h : s.canonical) : NextCanonical (execGranuleMigrate t s) := by
  unfold execGranuleMigrate
  extract_lets u n ch a x v left s1
  have h1 : s1.canonical := wr_canonical (setMemu_canonical (ScanSum.scan_canonical (at_canonical h)))
  split
  · exact ite_canonical (raise_canonical (wr_canonical (setMemu_canonical h1))) h1
  · exact h

theorem State.marginAsk_canonical {s : State} (h : s.canonical) : s.marginAsk.canonical := setMemu_canonical h

theorem execMarginSwitch_canonical {ch : Fin 4} {t : Nat} {s : State} (h : s.canonical) :
    NextCanonical (execMarginSwitch ch t s) :=
  ite_canonical (ite_canonical (raise_canonical (wr_canonical (setMemu_canonical (at_canonical h)))) (setMemu_canonical
      (at_canonical h))) h

theorem State.memInject_canonical {s : State} {r kind : Nat} (h : s.canonical) : (s.memInject r kind).canonical :=
  ite_canonical h (ite_canonical (setMemu_canonical h) (setMemu_canonical h))

theorem State.setRcd_canonical {s : State} {r : Recorder} (h : s.canonical) : (s.setRcd r).canonical := mk_canonical h

theorem State.nandRead_canonical {s : State} {ch : Nat} {p : NandPage} (h : s.canonical) : (s.nandRead ch p).canonical := by
  unfold State.nandRead
  extract_lets s1
  have hs1 : s1.canonical := ite_canonical (memCorrect_canonical h) h
  exact ite_canonical (memUe_canonical hs1) (ite_canonical (raise_canonical hs1) hs1)

theorem State.recShow_canonical {s : State} (h : s.canonical) : s.recShow.canonical :=
  wrPair_canonical (wr_canonical (wr_canonical (wrPair_canonical (wrPair_canonical h))))

theorem State.setRin_canonical {s : State} {n : Nat} {x : RIn} (h : s.canonical) : (s.setRin n x).canonical :=
  setRcd_canonical h

theorem State.putUnit_canonical {s : State} {u : RUnit} (h : s.canonical) : (s.putUnit u).canonical := setRcd_canonical h

theorem State.padExtent_canonical {s : State} (h : s.canonical) : s.padExtent.canonical :=
  ite_canonical h (putUnit_canonical h)

theorem State.putGap_canonical {s : State} {n : Nat} (h : s.canonical) : (s.putGap n).canonical :=
  ite_canonical h (setRin_canonical (putUnit_canonical h))

theorem State.jPut_canonical {s : State} {e : JEnt} (h : s.canonical) : (s.jPut e).canonical := setRcd_canonical h

theorem State.jStart_canonical {s : State} (h : s.canonical) : s.jStart.canonical :=
  ite_canonical h (ite_canonical (setRcd_canonical h) (ite_canonical h (setRcd_canonical h)))

theorem State.progStart_canonical {s : State} (h : s.canonical) : s.progStart.canonical := by
  unfold State.progStart
  refine ite_canonical h ?_
  dsimp only
  split
  · exact h
  · refine ite_canonical (setRcd_canonical h) ?_
    split
    · refine ite_canonical (setRcd_canonical h) ?_
      split
      · exact setRcd_canonical h
      · exact h
    · exact setRcd_canonical h
    · exact h

theorem State.eraseStart_canonical {s : State} (h : s.canonical) : s.eraseStart.canonical :=
  ite_canonical (setRcd_canonical h) h

theorem State.closeRec_canonical {s : State} {n : Nat} {c : RRec} (h : s.canonical) : (s.closeRec n c).canonical :=
  setRin_canonical h

theorem State.cutRec_canonical {s : State} {n : Nat} (h : s.canonical) : (s.cutRec n).canonical := by
  unfold State.cutRec
  split
  · exact ite_canonical (setRcd_canonical (addSat_canonical (closeRec_canonical h))) h
  · exact h

theorem State.recEval_canonical {s : State} (h : s.canonical) : s.recEval.canonical := by
  unfold State.recEval
  extract_lets _ s1 s2
  have hs1 : s1.canonical := wr_canonical h
  have hs2 : s2.canonical := raise_canonical (wr_canonical hs1)
  exact ite_canonical (foldl_canonical (fun _ _ hu => cutRec_canonical hu) (setRcd_canonical hs2)) hs1

theorem State.recPump_canonical {s : State} (h : s.canonical) : s.recPump.canonical :=
  recShow_canonical (recEval_canonical (eraseStart_canonical (jStart_canonical (progStart_canonical (recEval_canonical h)))))

theorem State.trailer_canonical {s : State} {n : Nat} {c : RRec} {fr : Option (List Nat)} {oversize : Bool} (h : s.canonical) :
    (s.trailer n c fr oversize).canonical :=
  addSat_canonical (closeRec_canonical (putUnit_canonical (ite_canonical (used_canonical h) h)))

theorem State.rinBegin_canonical {s : State} {n gen f num : Nat} (h : s.canonical) : (s.rinBegin n gen f num).canonical := by
  unfold State.rinBegin
  extract_lets _ _ _ _ _ _ _ _ _ _ _ s1 _ s2 _ _ _ s1'
  have hs1 : s1.canonical := setRin_canonical h
  have hs2 : s2.canonical := putGap_canonical (setRcd_canonical hs1)
  have hs1' : s1'.canonical := ite_canonical (setRcd_canonical h) h
  exact ite_canonical (putUnit_canonical hs2) (raiseJoin_canonical (addSat_canonical (setRin_canonical hs1')))

theorem State.rinEntry_canonical {s : State} {n : Nat} {bytes : List Nat} {poison : Bool} (h : s.canonical) :
    (s.rinEntry n bytes poison).canonical := by
  unfold State.rinEntry
  extract_lets
  split
  · exact h
  · extract_lets _ _ s1
    have hs1 : s1.canonical := putUnit_canonical (setRin_canonical h)
    exact ite_canonical h (ite_canonical (setRin_canonical h) (ite_canonical (trailer_canonical h) (ite_canonical
        (trailer_canonical hs1) hs1)))

theorem execRecorderItem_canonical {n : Fin 16} {t : Nat} {s : State} (h : s.canonical) :
    NextCanonical (execRecorderItem n t s) := by
  unfold execRecorderItem
  extract_lets s
  have hs : s.canonical := endpointCatch_canonical h
  split
  · exact hs
  · extract_lets _ _ s1 _ s2 s3 _ s4
    have hs1 : s1.canonical := endpointRead_canonical (at_canonical hs)
    have hs2 : s2.canonical := ite_canonical (rinBegin_canonical (cutRec_canonical hs1)) hs1
    have hs3 : s3.canonical := rinEntry_canonical hs2
    have hs4 : s4.canonical := ite_canonical (setRin_canonical (cutRec_canonical hs3)) hs3
    exact recPump_canonical hs4

theorem State.recTick_canonical {s : State} (h : s.canonical) : s.recTick.canonical := by
  unfold State.recTick
  extract_lets _ _ _ _ _ _ s1 _ s2 _ _ s3 s4 s5
  have hs1 : s1.canonical := setRcd_canonical h
  have hs2 : s2.canonical := wr_canonical (wr_canonical (wr_canonical (wr_canonical hs1)))
  have hs3 : s3.canonical := ite_canonical (raise_canonical (setRcd_canonical hs2)) hs2
  have hs4 : s4.canonical := recEval_canonical hs3
  have hs5 : s5.canonical := ite_canonical (foldl_canonical (fun _ _ hu => putGap_canonical hu) (raise_canonical
      (wr_canonical hs4))) hs4
  exact recPump_canonical hs5

theorem State.recCommit_canonical {s : State} {was : Fld → Nat} (h : s.canonical) : (s.recCommit was).canonical := by
  unfold State.recCommit
  extract_lets s1
  have hs1 : s1.canonical := foldl_canonical (fun _ _ hu => ite_canonical (setRin_canonical hu) hu) h
  exact ite_canonical hs1 (ite_canonical (wr_canonical hs1) (ite_canonical (recPump_canonical (recEval_canonical
      (wr_canonical hs1))) hs1))

theorem execExtentTimeout_canonical {t : Nat} {s : State} (h : s.canonical) : NextCanonical (execExtentTimeout t s) := by
  unfold execExtentTimeout
  split
  · exact ite_canonical (recPump_canonical (padExtent_canonical (at_canonical h))) h
  · exact h

theorem State.blockFail_canonical {s : State} {g die lost : Nat} (h : s.canonical) : (s.blockFail g die lost).canonical := by
  unfold State.blockFail
  extract_lets _ _ s1
  have hs1 : s1.canonical := raise_canonical (addSat_canonical h)
  exact ite_canonical (setRcd_canonical hs1) (raise_canonical (setRcd_canonical hs1))

theorem execNandProgramDone_canonical {fail : Bool} {t : Nat} {s : State} (h : s.canonical) :
    NextCanonical (execNandProgramDone fail t s) := by
  unfold execNandProgramDone
  extract_lets s0
  have hs0 : s0.canonical := at_canonical h
  split
  · exact h
  · extract_lets _ s1 s2 _ s1'
    have hs1 : s1.canonical := setRcd_canonical hs0
    have hs2 : s2.canonical := ite_canonical (padExtent_canonical hs1) hs1
    have hs1' : s1'.canonical := setRcd_canonical hs0
    exact ite_canonical (recPump_canonical (recEval_canonical (blockFail_canonical hs2))) (recPump_canonical (ite_canonical
        (jPut_canonical hs1') hs1'))

theorem State.jDurable_canonical {s : State} {e : JEnt} (h : s.canonical) : (s.jDurable e).canonical := by
  unfold State.jDurable
  dsimp only
  split
  · exact ite_canonical (cmdReply_canonical (ite_canonical (setRcd_canonical h) h)) (ite_canonical (setRcd_canonical h) h)
  · exact ite_canonical (setRcd_canonical h) h

theorem State.jPageDone_canonical {s : State} {p : JPage} (h : s.canonical) : (s.jPageDone p).canonical :=
  ite_canonical (setRcd_canonical (foldl_canonical (fun _ _ hu => jDurable_canonical hu) h)) (foldl_canonical (fun _ _ hu =>
      jDurable_canonical hu) h)

theorem execJournalProgramDone_canonical {t : Nat} {s : State} (h : s.canonical) :
    NextCanonical (execJournalProgramDone t s) := by
  unfold execJournalProgramDone
  extract_lets s0
  have hs0 : s0.canonical := at_canonical h
  split
  · exact h
  · exact ite_canonical h (ite_canonical (recPump_canonical (setRcd_canonical hs0)) (recPump_canonical (jPageDone_canonical
        (setRcd_canonical hs0))))

theorem State.markOvertake_canonical {s : State} {last m : Nat} {es : List RExt} (h : s.canonical) :
    (s.markOvertake last m es).canonical :=
  ite_canonical (jPut_canonical (raise_canonical (wr_canonical (set1_canonical (wrPair_canonical h))))) h

theorem State.readOvertake_canonical {s : State} {last : Nat} {es : List RExt} (h : s.canonical) :
    (s.readOvertake last es).canonical := by
  unfold State.readOvertake
  split
  · exact ite_canonical (raise_canonical (set1_canonical (wrPair_canonical (wrPair_canonical (setRcd_canonical h))))) h
  · exact h

theorem execGroupErase_canonical {t : Nat} {s : State} (h : s.canonical) : NextCanonical (execGroupErase t s) := by
  unfold execGroupErase
  extract_lets s
  have hs : s.canonical := recEval_canonical (at_canonical h)
  refine ite_canonical hs ?_
  split
  · exact hs
  · exact recPump_canonical (readOvertake_canonical (foldl_canonical (fun _ _ hu => markOvertake_canonical hu)
        (jPut_canonical (setRcd_canonical hs))))

theorem execGroupEraseDone_canonical {fail : Bool} {die : Fin 16} {t : Nat} {s : State} (h : s.canonical) :
    NextCanonical (execGroupEraseDone fail die t s) := by
  unfold execGroupEraseDone
  extract_lets s0 _ _ s1
  have hs0 : s0.canonical := at_canonical h
  have hs1 : s1.canonical := setRcd_canonical hs0
  exact ite_canonical (recPump_canonical (recEval_canonical (ite_canonical (blockFail_canonical hs1) hs1))) h

theorem State.jCommand_canonical {s : State} {c : CmdPkt} {e : JEnt} {res : List Nat} (h : s.canonical) :
    (s.jCommand c e res).1.canonical := by
  unfold State.jCommand
  split
  · exact jPut_canonical h
  · exact jPut_canonical h

theorem cmdMarkSet_canonical {c : CmdPkt} {s : State} (h : s.canonical) : (cmdMarkSet c s).1.canonical := by
  unfold cmdMarkSet
  dsimp only
  split
  · exact h
  · exact jCommand_canonical (wr_canonical (wr_canonical (wr_canonical (wr_canonical (wrPair_canonical h)))))

theorem cmdMarkClear_canonical {c : CmdPkt} {s : State} (h : s.canonical) : (cmdMarkClear c s).1.canonical := by
  unfold cmdMarkClear
  split
  · exact h
  · exact jCommand_canonical (wr_canonical h)

theorem cmdPinSet_canonical {c : CmdPkt} {s : State} (h : s.canonical) : (cmdPinSet c s).1.canonical := by
  unfold cmdPinSet
  extract_lets p a b here pa pb s1 s2
  have h2 : s2.canonical := recShow_canonical (wr_canonical (wrPair_canonical (wrPair_canonical h)))
  split
  · exact h
  split
  · exact h
  split
  · exact h
  split
  · exact h
  split
  · exact h
  · exact jCommand_canonical h2

theorem cmdPinClear_canonical {c : CmdPkt} {s : State} (h : s.canonical) : (cmdPinClear c s).1.canonical := by
  unfold cmdPinClear
  split
  · exact h
  · exact jCommand_canonical (recShow_canonical (wr_canonical h))

theorem execMarkSet_canonical {p : Cmd} {t : Nat} {s : State} (h : s.canonical) : NextCanonical (execMarkSet p t s) := by
  unfold execMarkSet
  extract_lets s1
  have hs1 : s1.canonical := svcCommand_canonical (fun _ _ hs => cmdMarkSet_canonical hs) h
  exact ite_canonical (recPump_canonical hs1) hs1

theorem execMarkClear_canonical {p : Cmd} {t : Nat} {s : State} (h : s.canonical) : NextCanonical (execMarkClear p t s) := by
  unfold execMarkClear
  extract_lets s1
  have hs1 : s1.canonical := svcCommand_canonical (fun _ _ hs => cmdMarkClear_canonical hs) h
  exact ite_canonical (recPump_canonical hs1) hs1

theorem execPinSet_canonical {p : Cmd} {t : Nat} {s : State} (h : s.canonical) : NextCanonical (execPinSet p t s) :=
  ite_canonical (recPump_canonical (svcCommand_canonical (fun _ _ hs => cmdPinSet_canonical hs) h)) (svcCommand_canonical
      (fun _ _ hs => cmdPinSet_canonical hs) h)

theorem execPinClear_canonical {p : Cmd} {t : Nat} {s : State} (h : s.canonical) : NextCanonical (execPinClear p t s) := by
  unfold execPinClear
  extract_lets s1
  have hs1 : s1.canonical := svcCommand_canonical (fun _ _ hs => cmdPinClear_canonical hs) h
  exact ite_canonical (recPump_canonical hs1) hs1

theorem cmdReadStart_canonical {c : CmdPkt} {s : State} (h : s.canonical) : (cmdReadStart c s).1.canonical := by
  unfold cmdReadStart
  extract_lets q p _ rd s1 s2
  have h1 : s1.canonical := wr_canonical (wr_canonical (setRcd_canonical h))
  have h2 : s2.canonical := wr_canonical (wrPair_canonical (wrPair_canonical h1))
  split
  · exact h
  split
  · exact h
  split
  · exact h
  split
  · exact h
  · dsimp only
    exact wmEval_canonical (retestCredits_canonical h2)

theorem cmdReadStop_canonical {c : CmdPkt} {s : State} (h : s.canonical) : (cmdReadStop c s).1.canonical :=
  readEnd_canonical h

theorem State.readMove_canonical {s : State} {c : RRead} {pos skip lost : Nat} (h : s.canonical) :
    (s.readMove c pos skip lost).canonical :=
  wrPair_canonical (wrPair_canonical (setRcd_canonical h))

theorem State.readPut_canonical {s : State} {c : RRead} {u : RUnit} {bad : List Nat} {cr : Nat × Nat × Nat} (h : s.canonical) :
    (s.readPut c u bad cr).canonical :=
  readMove_canonical (wr_canonical (wr_canonical (dqShow_canonical (complete_canonical (hostWrite_canonical (setDq_canonical
      h))))))

theorem execReadoutItem_canonical {pages : List NandPage} {t : Nat} {s : State} (h : s.canonical) :
    NextCanonical (execReadoutItem pages t s) := by
  unfold execReadoutItem
  split
  · exact h
  · split
    · exact ite_canonical (wr_canonical h) (readEnd_canonical (at_canonical h))
    · refine ite_canonical h ?_
      refine ite_canonical (wr_canonical h) ?_
      split
      · exact h
      · extract_lets s0 _ _ _ s1
        have hs0 : s0.canonical := foldl_canonical (fun _ _ hu => nandRead_canonical hu) (at_canonical h)
        have hs1 : s1.canonical := setRcd_canonical hs0
        exact ite_canonical (raise_canonical (readMove_canonical hs1)) (readPut_canonical hs1)

theorem State.slotCheck_canonical {s : State} {k : Nat} {c : List (Option JPage)} (h : s.canonical) :
    (s.slotCheck k c).canonical :=
  ite_canonical (raise_canonical (addSat_canonical h)) (ite_canonical (raise_canonical (addSat_canonical h)) h)

theorem State.markRestore_canonical {s : State} {end_ m : Nat} {e : JEnt} (h : s.canonical) :
    (s.markRestore end_ m e).1.canonical :=
  wr_canonical (wr_canonical (wr_canonical (wr_canonical (wrPair_canonical h))))

theorem State.pinRestore_canonical {s : State} {p : Nat} {e : JEnt} (h : s.canonical) : (s.pinRestore p e).canonical :=
  wr_canonical (wrPair_canonical (wrPair_canonical h))

theorem execRecorderRecovery_canonical {pages : List NandPage} {t : Nat} {s : State} (h : s.canonical) :
    NextCanonical (execRecorderRecovery pages t s) := by
  refine ite_canonical h (recPump_canonical (recEval_canonical (raise_canonical ?_)))
  refine foldl_canonical (fun _ _ hu => ?_) ?_
  · split
    · exact pinRestore_canonical hu
    · exact hu
  · refine List.foldlRecOn (motive := fun y : State × Nat => y.1.canonical) _ _ ?_ fun y hy k _ => ?_
    · exact foldl_canonical (fun _ _ hu => slotCheck_canonical hu) (foldl_canonical (fun _ _ hu => nandRead_canonical hu) h)
    · dsimp only
      split
      · exact markRestore_canonical hy
      · exact hy

theorem State.setEth_canonical {s : State} {n : Nat} {p : EthPort} (h : s.canonical) :
    (s.setEth n p).canonical := mk_canonical h

theorem State.setTime_canonical {s : State} {u : TimeUnit} (h : s.canonical) : (s.setTime u).canonical := mk_canonical h

theorem State.ethEvent_canonical {s : State} {n t : Nat} (h : s.canonical) : (s.ethEvent n t).canonical :=
  addSat_canonical (wr_canonical h)

theorem State.setGm_canonical {s : State} {g : Nat} (h : s.canonical) : (s.setGm g).canonical := wrPair_canonical h

theorem State.timHold_canonical {s : State} {cause : Nat} (h : s.canonical) : (s.timHold cause).canonical :=
  ite_canonical h (raise_canonical (wr_canonical (wr_canonical (setTime_canonical h))))

theorem State.timLeave_canonical {s : State} {port st : Nat} (h : s.canonical) : (s.timLeave port st).canonical :=
  wr_canonical (setTime_canonical (ite_canonical (wr_canonical (raise_canonical h)) h))

theorem State.timTick_canonical {s : State} (h : s.canonical) : s.timTick.canonical := ite_canonical (wr_canonical h) h

theorem State.axisTimeStep_canonical {s : State} {step : Int} {n : Nat} (h : s.canonical) :
    (s.axisTimeStep step n).canonical := by
  unfold State.axisTimeStep
  extract_lets s1 _ _ _ s2 s3
  have hs1 : s1.canonical := axisWrap_canonical (captureCentres_canonical h)
  have hs2 : s2.canonical := setAxis_canonical hs1
  have hs3 : s3.canonical := ite_canonical hs2 (raise_canonical (set1_canonical hs2))
  exact ite_canonical h (axisChanged_canonical (raise_canonical hs3))

theorem State.timStep_canonical {s : State} {step : Int} (h : s.canonical) : (s.timStep step).canonical :=
  foldl_canonical (fun _ _ hu => axisTimeStep_canonical hu) (mk_canonical (wr_canonical (wrPair_canonical (wrPair_canonical
      (mk_canonical h)))))

theorem State.timRate_canonical {s : State} {n : Nat} {cum : Int} {o : Int} (h : s.canonical) :
    (s.timRate n cum o).canonical :=
  ite_canonical (wrB_canonical (wr_canonical h)) (raise_canonical (wrB_canonical (wr_canonical h)))

theorem State.timPort_canonical {s : State} {n : Nat} (h : s.canonical) : (s.timPort n).canonical :=
  ite_canonical (wr_canonical h) (raise_canonical (wr_canonical h))

theorem State.timSync_canonical {s : State} {n stamp : Nat} {g : GmTime} (h : s.canonical) :
    (s.timSync n stamp g).canonical := by
  unfold State.timSync
  extract_lets _ s0 _ _ s1 _ s2 s3 s1' s2' _ _ _ _ s3'
  have hs0 : s0.canonical := setEth_canonical h
  have hs1 : s1.canonical := setGm_canonical (wr_canonical hs0)
  have hs2 : s2.canonical := timRate_canonical (setEth_canonical hs1)
  have hs3 : s3.canonical := timStep_canonical hs2
  have hs1' : s1'.canonical := timPort_canonical hs0
  have hs2' : s2'.canonical := timRate_canonical (wr_canonical hs1')
  have hs3' : s3'.canonical := setTime_canonical hs2'
  exact ite_canonical hs0 (ite_canonical (raise_canonical (timLeave_canonical hs3)) (ite_canonical hs0 (ite_canonical
      (timLeave_canonical hs2') (ite_canonical (raise_canonical (wr_canonical hs3')) (ite_canonical
      (wr_canonical hs3') hs3')))))

theorem State.ethReselect_canonical {s : State} (h : s.canonical) : s.ethReselect.canonical := by
  unfold State.ethReselect
  extract_lets s1
  have hs1 : s1.canonical := wr_canonical (wr_canonical h)
  exact ite_canonical (setGm_canonical (wr_canonical (timLeave_canonical hs1))) (ite_canonical (timHold_canonical hs1)
      (ite_canonical (timHold_canonical hs1) hs1))

theorem State.gmCheck_canonical {s : State} {n : Nat} (h : s.canonical) : (s.gmCheck n).canonical :=
  ite_canonical (timHold_canonical h) h

theorem State.setAsCap_canonical {s : State} {n : Nat} {b : Bool} (h : s.canonical) : (s.setAsCap n b).canonical :=
  ite_canonical h (raise_canonical (wrB_canonical h))

theorem State.ethConfig_canonical {s : State} {n : Nat} (h : s.canonical) : (s.ethConfig n).canonical := by
  unfold State.ethConfig
  extract_lets s1
  have hs1 : s1.canonical := ite_canonical (raise_canonical (wr_canonical (wr_canonical h))) h
  exact ite_canonical (ethReselect_canonical h) (ethReselect_canonical (setAsCap_canonical (setEth_canonical hs1)))

theorem execEthLink_canonical {n : Fin 2} {rate : Fin 5} {t : Nat} {s : State} (h : s.canonical) :
    NextCanonical (execEthLink n rate t s) := by
  unfold execEthLink
  extract_lets s0 _ _ s1 s2 s3
  have hs0 : s0.canonical := at_canonical h
  have hs1 : s1.canonical := wrB_canonical (wr_canonical hs0)
  have hs2 : s2.canonical := ite_canonical (raise_canonical hs1) hs1
  have hs3 : s3.canonical := ite_canonical (setAsCap_canonical hs2) hs2
  exact ite_canonical h (ite_canonical (raise_canonical hs3) hs3)

theorem execSync_canonical {n : Fin 2} {dom : BitVec 7} {seq : BitVec 16} {log : Byte} {twoStep : Bool} {g : GmTime}
    {t : Nat} {s : State} (h : s.canonical) : NextCanonical (execSync n dom seq log twoStep g t s) := by
  unfold execSync
  extract_lets s1 s2
  have hs1 : s1.canonical := ethEvent_canonical (at_canonical h)
  have hs2 : s2.canonical := wr_canonical hs1
  exact ite_canonical h (ite_canonical hs1 (ite_canonical (setEth_canonical hs2) (timSync_canonical hs2)))

theorem execFollowUp_canonical {n : Fin 2} {dom : BitVec 7} {seq : BitVec 16} {g : GmTime} {t : Nat} {s : State}
    (h : s.canonical) : NextCanonical (execFollowUp n dom seq g t s) := by
  unfold execFollowUp
  extract_lets s1
  have hs1 : s1.canonical := addSat_canonical (at_canonical h)
  refine ite_canonical h ?_
  split
  · exact ite_canonical (timSync_canonical (setEth_canonical hs1)) hs1
  · exact hs1

theorem execAnnounce_canonical {n : Fin 2} {a : AnnounceMsg} {t : Nat} {s : State} (h : s.canonical) :
    NextCanonical (execAnnounce n a t s) := by
  unfold execAnnounce
  extract_lets s1 _ _ _ _ _ s2
  have hs1 : s1.canonical := addSat_canonical (at_canonical h)
  have hs2 : s2.canonical := setEth_canonical (setTime_canonical (ite_canonical (used_canonical hs1) hs1))
  exact ite_canonical h (gmCheck_canonical (ethReselect_canonical hs2))

theorem State.pdMiss_canonical {s : State} {n : Nat} (h : s.canonical) : (s.pdMiss n).canonical :=
  ite_canonical (setAsCap_canonical (raise_canonical (addSat_canonical (setEth_canonical h)))) (setEth_canonical h)

theorem execPdelayReqSend_canonical {n : Fin 2} {t : Nat} {s : State} (h : s.canonical) :
    NextCanonical (execPdelayReqSend n t s) :=
  ite_canonical h (setEth_canonical (wr_canonical (ite_canonical (pdMiss_canonical (at_canonical h)) (at_canonical h))))

theorem execPdelayResp_canonical {n : Fin 2} {dom : BitVec 7} {seq : BitVec 16} {turn : Word} {nrr : Int} {t : Nat}
    {s : State} (h : s.canonical) : NextCanonical (execPdelayResp n dom seq turn nrr t s) := by
  unfold execPdelayResp
  extract_lets _ s1
  have hs1 : s1.canonical := ethEvent_canonical (at_canonical h)
  refine ite_canonical h ?_
  split
  · exact h
  · extract_lets _ _ _ s2
    have hs2 : s2.canonical := wr_canonical (setEth_canonical hs1)
    exact ite_canonical h (ite_canonical (pdMiss_canonical (setEth_canonical (at_canonical h))) (setAsCap_canonical
        (wr_canonical hs2)))

theorem execSignaling_canonical {n : Fin 2} {dom : BitVec 7} {link sync : Byte} {t : Nat} {s : State} (h : s.canonical) :
    NextCanonical (execSignaling n dom link sync t s) := by
  unfold execSignaling
  extract_lets s1 _ _ s2
  have hs1 : s1.canonical := addSat_canonical (at_canonical h)
  have hs2 : s2.canonical := setEth_canonical hs1
  exact ite_canonical h (ite_canonical hs2 (wr_canonical hs2))

theorem State.syncLost_canonical {s : State} {n : Nat} (h : s.canonical) : (s.syncLost n).canonical := by
  unfold State.syncLost
  extract_lets _ s1
  have hs1 : s1.canonical := raise_canonical (addSat_canonical (setEth_canonical h))
  exact ite_canonical hs1 (ite_canonical (timPort_canonical hs1) (timHold_canonical hs1))

theorem execSyncTimeout_canonical {n : Fin 2} {t : Nat} {s : State} (h : s.canonical) :
    NextCanonical (execSyncTimeout n t s) := by
  unfold execSyncTimeout
  dsimp only
  split
  · exact ite_canonical (syncLost_canonical (at_canonical h)) h
  · exact h

theorem execGmSettle_canonical {t : Nat} {s : State} (h : s.canonical) : NextCanonical (execGmSettle t s) := by
  unfold execGmSettle
  dsimp only
  split
  · exact ite_canonical (raise_canonical (setGm_canonical (setEth_canonical (at_canonical h)))) h
  · exact h

theorem cmdTimeRearm_canonical {c : CmdPkt} {s : State} (h : s.canonical) : (cmdTimeRearm c s).1.canonical :=
  setTime_canonical h

theorem State.timCommit_canonical {s : State} (h : s.canonical) : s.timCommit.canonical :=
  ite_canonical (wr_canonical (timLeave_canonical (setTime_canonical h))) h

theorem cmdTimeStatus_canonical {c : CmdPkt} {s : State} (h : s.canonical) : (cmdTimeStatus c s).1.canonical := h

theorem State.setFirm_canonical {s : State} {f : Firm} (h : s.canonical) : (s.setFirm f).canonical := mk_canonical h

theorem State.setDiag_canonical {s : State} {d : DiagUnit} (h : s.canonical) : (s.setDiag d).canonical := mk_canonical h

theorem State.putCopyOf_canonical {s : State} {rec_ k : Nat} {c : Option StoreCopy} (h : s.canonical) :
    (s.putCopyOf rec_ k c).canonical :=
  setFirm_canonical h

theorem State.storeMend_canonical {s : State} {rec_ : Nat} {c : StoreCopy} (h : s.canonical) :
    (s.storeMend rec_ c).canonical :=
  ite_canonical (setFirm_canonical h) (ite_canonical (setFirm_canonical h) (setFirm_canonical h))

theorem State.storeTick_canonical {s : State} (h : s.canonical) : s.storeTick.canonical :=
  ite_canonical (foldl_canonical (fun _ _ hu => storeMend_canonical hu) h) h

theorem State.storeResolve_canonical {s : State} {rec_ : Nat} {pages : List NandPage} (h : s.canonical) :
    (s.storeResolve rec_ pages).2.2.canonical := by
  unfold State.storeResolve
  extract_lets s0 s1 _ _ _ _ _ s2
  have hs0 : s0.canonical := foldl_canonical (fun _ _ hu => nandRead_canonical hu) h
  have hs1 : s1.canonical := foldl_canonical (fun _ _ hu => putCopyOf_canonical hu) hs0
  have hs2 : s2.canonical := setFirm_canonical hs1
  split
  · exact raise_canonical hs2
  · exact raise_canonical hs2
  · exact storeMend_canonical hs2
  · exact hs2

theorem State.storePut_canonical {s : State} {rec_ : Nat} {data : List Nat} (h : s.canonical) :
    (s.storePut rec_ data).2.canonical :=
  setFirm_canonical (putCopyOf_canonical (putCopyOf_canonical (putCopyOf_canonical h)))

theorem cmdStoreRead_canonical {pages : List NandPage} {c : CmdPkt} {s : State} (h : s.canonical) :
    (cmdStoreRead pages c s).1.canonical := by
  unfold cmdStoreRead
  dsimp only
  split
  · exact h
  split
  · exact hostWrite_canonical (storeResolve_canonical h)
  · exact used_canonical (hostWrite_canonical (storeResolve_canonical h))

theorem State.storeWrite_canonical {s : State} {c : CmdPkt} (h : s.canonical) : (s.storeWrite c).1.canonical :=
  storePut_canonical h

theorem cmdStoreWrite_canonical {c : CmdPkt} {s : State} (h : s.canonical) : (cmdStoreWrite c s).1.canonical := by
  unfold cmdStoreWrite
  split
  · exact h
  split
  · exact h
  split
  · exact storeWrite_canonical h
  · exact h

theorem cmdStoreStatus_canonical {c : CmdPkt} {s : State} (h : s.canonical) : (cmdStoreStatus c s).1.canonical := by
  unfold cmdStoreStatus
  split
  · exact h
  · exact used_canonical (used_canonical (used_canonical h))

theorem execStoreWrite_canonical {p : Cmd} {err : Bool} {t : Nat} {s : State} (h : s.canonical) :
    NextCanonical (execStoreWrite p err t s) :=
  svcCommand_canonical (fun _ _ hu => cmdHostErr_canonical (fun _ _ hs => cmdStoreWrite_canonical hs) hu) h

theorem State.imageSelect_canonical {s : State} {kind : Nat} (h : s.canonical) : (s.imageSelect kind).2.canonical := by
  unfold State.imageSelect
  extract_lets cs verdict s1 seen r from_ img fix _ s2 ver
  have h1 : s1.canonical := foldl_canonical (fun _ _ hu => by split; exacts [raise_canonical hu, hu]) h
  have hfix : fix.canonical := by
    unfold fix
    split
    · exact storeMend_canonical h1
    · exact h1
  have h2 : s2.canonical := by
    unfold s2
    clear_value img
    split
    · exact setFirm_canonical hfix
    · exact hfix
  exact ite_canonical (wr_canonical (wr_canonical (wrB_canonical (wr_canonical h2))))
    (wr_canonical (wr_canonical (wrB_canonical (wr_canonical h2))))

theorem State.fwWrite_canonical {s : State} {c : CmdPkt} (h : s.canonical) : (s.fwWrite c).1.canonical :=
  raise_canonical (storePut_canonical h)

theorem cmdFwUpdate_canonical {c : CmdPkt} {s : State} (h : s.canonical) : (cmdFwUpdate c s).1.canonical := by
  unfold cmdFwUpdate
  dsimp only
  split
  · exact h
  split
  · exact h
  split
  · exact h
  · exact h
  · split
    · exact fwWrite_canonical h
    · exact h

theorem execFwUpdate_canonical {p : Cmd} {err : Bool} {t : Nat} {s : State} (h : s.canonical) :
    NextCanonical (execFwUpdate p err t s) :=
  wardenCommand_canonical (fun _ _ hu => cmdHostErr_canonical (fun _ _ hs => cmdFwUpdate_canonical hs) hu) h

theorem State.ownItem_canonical {s : State} {q kind : Nat} {body : List Nat} (h : s.canonical) :
    (s.ownItem q kind body).canonical := by
  unfold State.ownItem
  split
  · exact h
  · exact wmEval_canonical (putDq_canonical h)

theorem State.wardenPump_canonical {s : State} {k : Nat} (h : s.canonical) : (s.wardenPump k).canonical := by
  induction k generalizing s with
  | zero => exact h
  | succ k ih =>
    unfold State.wardenPump
    split
    · exact ih (ownItem_canonical h)
    · exact h

theorem State.wardenItem_canonical {s : State} {body : List Nat} (h : s.canonical) : (s.wardenItem body).canonical :=
  wardenPump_canonical (setDiag_canonical h)

theorem cmdAttest_canonical {c : CmdPkt} {s : State} (h : s.canonical) : (cmdAttest c s).1.canonical := by
  unfold cmdAttest
  split
  · exact h
  dsimp only
  split
  · exact wardenItem_canonical (wardenItem_canonical h)
  · exact wardenItem_canonical h

theorem cmdSecurityLog_canonical {c : CmdPkt} {s : State} (h : s.canonical) : (cmdSecurityLog c s).1.canonical := by
  unfold cmdSecurityLog
  split
  · exact h
  · exact wardenItem_canonical h

theorem State.secEnter_canonical {s : State} {code v : Nat} (h : s.canonical) : (s.secEnter code v).canonical :=
  setDiag_canonical h

theorem cmdDebugChallenge_canonical {c : CmdPkt} {s : State} (h : s.canonical) : (cmdDebugChallenge c s).1.canonical :=
  setDiag_canonical (used_canonical h)

theorem cmdDebugUnlock_canonical {c : CmdPkt} {s : State} (h : s.canonical) : (cmdDebugUnlock c s).1.canonical := by
  unfold cmdDebugUnlock
  dsimp only
  split
  · exact h
  split
  · exact h
  split
  · exact h
  split
  · exact h
  · exact secEnter_canonical (raise_canonical (wr_canonical (setDiag_canonical h)))

theorem cmdDebugLock_canonical {c : CmdPkt} {s : State} (h : s.canonical) : (cmdDebugLock c s).1.canonical := wr_canonical h

theorem execDebugUnlock_canonical {p : Cmd} {err : Bool} {t : Nat} {s : State} (h : s.canonical) :
    NextCanonical (execDebugUnlock p err t s) :=
  wardenCommand_canonical (fun _ _ hu => cmdHostErr_canonical (fun _ _ hs => cmdDebugUnlock_canonical hs) hu) h

theorem execDebugNonceExpiry_canonical {t : Nat} {s : State} (h : s.canonical) :
    NextCanonical (execDebugNonceExpiry t s) := by
  unfold execDebugNonceExpiry
  split
  · exact ite_canonical (setDiag_canonical (at_canonical h)) h
  · exact h

theorem State.nandPermit_canonical {s : State} {ok : Bool} (h : s.canonical) : (s.nandPermit ok).canonical :=
  ite_canonical h (recEval_canonical (raise_canonical (wrB_canonical h)))

theorem State.setThrottle_canonical {s : State} {n : Nat} (h : s.canonical) : (s.setThrottle n).canonical :=
  ite_canonical h (raise_canonical (wr_canonical (wr_canonical (mk_canonical h))))

theorem State.setBand_canonical {s : State} {b : Nat} (h : s.canonical) : (s.setBand b).canonical :=
  ite_canonical h (marginAsk_canonical (raise_canonical (wr_canonical h)))

theorem State.lockstep_canonical {s : State} (h : s.canonical) : s.lockstep.canonical := by
  unfold State.lockstep
  extract_lets _ _ s1 _ _ _ s3 _ _ s5
  have hs1 : s1.canonical := foldl_canonical (fun _ _ hu => cmdReply_canonical hu) h
  have hs3 : s3.canonical := setDiag_canonical (mk_canonical hs1)
  have hs5 : s5.canonical := nandPermit_canonical (mk_canonical hs3)
  exact ite_canonical (setBand_canonical (setThrottle_canonical (raise_canonical (wr_canonical hs5)))) (raise_canonical
      (wr_canonical hs5))

theorem State.accessViolation_canonical {s : State} {a : Nat} (h : s.canonical) : (s.accessViolation a).canonical :=
  raise_canonical (secEnter_canonical h)

theorem State.setThm_canonical {s : State} {u : ThermUnit} (h : s.canonical) : (s.setThm u).canonical := mk_canonical h

theorem State.sensorFail_canonical {s : State} {k : Nat} (h : s.canonical) : (s.sensorFail k).canonical := by
  unfold State.sensorFail
  extract_lets _ s1 s2
  have hs1 : s1.canonical := setThm_canonical h
  have hs2 : s2.canonical := raise_canonical (wr_canonical hs1)
  exact ite_canonical hs1 (ite_canonical (nandPermit_canonical hs2) hs2)

theorem State.sensorSample_canonical {s : State} {k reading : Nat} (h : s.canonical) :
    (s.sensorSample k reading).canonical :=
  setThm_canonical (ite_canonical (sensorFail_canonical h) (ite_canonical (ite_canonical (wr_canonical h) (wr_canonical h))
      h))

theorem State.modelStep_canonical {s : State} {rails : List Nat} (h : s.canonical) : (s.modelStep rails).canonical :=
  setThm_canonical (used_canonical h)

theorem State.diodeFix_canonical {s : State} {d : Nat} (h : s.canonical) : (s.diodeFix d).canonical :=
  ite_canonical (setThm_canonical h) (setThm_canonical h)

theorem State.bandTick_canonical {s : State} {tb : Int} (h : s.canonical) : (s.bandTick tb).canonical :=
  ite_canonical (setBand_canonical h) (ite_canonical (setBand_canonical h) (ite_canonical (setBand_canonical h) h))

theorem State.throttleTick_canonical {s : State} {tj : Int} (h : s.canonical) : (s.throttleTick tj).canonical := by
  unfold State.throttleTick
  extract_lets _ _ _ s1
  have hs1 : s1.canonical := ite_canonical (setThrottle_canonical h) (ite_canonical (setThrottle_canonical h) h)
  exact ite_canonical (addSat_canonical hs1) hs1

theorem State.thermTick_canonical {s : State} {x : TickIn} (h : s.canonical) : (s.thermTick x).1.canonical := by
  unfold State.thermTick
  extract_lets s0 s1 _ s2 _ s3 s4 s5 _ s6 e tj s7 s8 s9 s10 s11 s12 hot s13
  have h1 : s1.canonical := sensorSample_canonical (foldl_canonical (fun _ _ hu => sensorSample_canonical hu) h)
  have h2 : s2.canonical := ite_canonical (sensorFail_canonical (setThm_canonical h1)) h1
  have h3 : s3.canonical := ite_canonical (sensorFail_canonical (setThm_canonical h2)) h2
  have h4 : s4.canonical := wr_canonical (foldl_canonical (fun _ _ hu => wr_canonical hu) h3)
  have h5 : s5.canonical := foldl_canonical (fun _ _ hu => diodeFix_canonical hu) (modelStep_canonical h4)
  have h8 : s8.canonical :=
    wr_canonical (wr_canonical (wr_canonical (wr_canonical (foldl_canonical (fun _ _ hu => wr_canonical hu) (setThm_canonical
        h5)))))
  have h10 : s10.canonical := bandTick_canonical (ite_canonical (wr_canonical h8) h8)
  have h11 : s11.canonical := ite_canonical (nandPermit_canonical h10) (ite_canonical (nandPermit_canonical h10) h10)
  have h12 : s12.canonical := throttleTick_canonical h11
  split
  · exact h4
  · exact setThm_canonical (ite_canonical (raise_canonical h12) h12)

theorem State.fallback_canonical {s : State} {on : Bool} {d : Nat} (h : s.canonical) : (s.fallback on d).canonical :=
  ite_canonical h (raise_canonical (setThm_canonical (wrB_canonical h)))

theorem execModelFallback_canonical {t : Nat} {s : State} (h : s.canonical) : NextCanonical (execModelFallback t s) := by
  unfold execModelFallback
  refine ite_canonical (ite_canonical (fallback_canonical (at_canonical h)) h) ?_
  split
  · exact fallback_canonical (at_canonical h)
  · exact h

theorem State.tlPop_canonical {s : State} (h : s.canonical) : s.tlPop.canonical := by
  unfold State.tlPop
  split
  · exact wr_canonical (wr_canonical (mk_canonical (setThm_canonical h)))
  · exact set1_canonical (mk_canonical h)

theorem State.regsCommit_canonical {s : State} (h : s.canonical) : s.regsCommit.canonical := mk_canonical h

theorem State.regsDiscard_canonical {s : State} (h : s.canonical) : s.regsDiscard.canonical := mk_canonical h

theorem State.discardStaged_canonical {s : State} (h : s.canonical) : s.discardStaged.canonical :=
  mk_canonical (regsDiscard_canonical h)

theorem State.portRestart_canonical {s : State} {p : Nat} {fresh : Bool} (h : s.canonical) :
    (s.portRestart p fresh).canonical :=
  setPort_canonical (wr_canonical (wr_canonical (wr_canonical h)))

theorem State.portCommit_canonical {s : State} {was : Conf} {p : Nat} (h : s.canonical) : (s.portCommit was p).canonical :=
  portFault_canonical (wr_canonical (ite_canonical (portRestart_canonical h) h))

theorem State.axisCommit_canonical {s : State} {was : Conf} {pos : Quad} {n : Nat} (h : s.canonical) :
    (s.axisCommit was pos n).canonical := by
  unfold State.axisCommit
  extract_lets _ _ s1 s2 _ s3 s4 _ s5
  have hs1 : s1.canonical := ite_canonical (setAxis_canonical h) h
  have hs2 : s2.canonical := ite_canonical (setMotion_canonical hs1) hs1
  have hs3 : s3.canonical := ite_canonical (wr_canonical hs2) hs2
  have hs4 : s4.canonical := ite_canonical (followSources_canonical hs3) hs3
  have hs5 : s5.canonical := ite_canonical (set1_canonical (setAxis_canonical hs4)) hs4
  exact wrBoth_canonical (wrBoth_canonical hs5)

theorem State.axesCommit_canonical {s : State} {was : Conf} {pos : Nat → Quad} (h : s.canonical) :
    (s.axesCommit was pos).canonical :=
  forAxes_canonical (fun _ _ hu => axisCommit_canonical hu) (foldl_canonical (fun _ _ hu => portCommit_canonical hu) h)

theorem State.ledgerReplace_canonical {s : State} {new : List Nat} (h : s.canonical) : (s.ledgerReplace new).canonical :=
  foldl_canonical (fun _ _ hu => setEnt_canonical (mk_canonical hu)) h

theorem State.ledgerEval_canonical {s : State} {new : List Nat} {preset : Nat → Bool} {all : Bool} (h : s.canonical) :
    (s.ledgerEval new preset all).canonical :=
  foldl_canonical (fun _ _ hu => evalEntry_canonical hu) h

theorem State.swTake_canonical {s : State} {w : Nat} (h : s.canonical) : (s.swTake w).canonical := by
  unfold State.swTake
  split
  · exact setSwath_canonical h
  · exact h

theorem State.engFence_canonical {s : State} {g : Nat} (h : s.canonical) : (s.engFence g).canonical :=
  fenceFall_canonical (setEng_canonical (wr_canonical (wr_canonical h)))

theorem State.clusterFence_canonical {s : State} {c : Nat} (h : s.canonical) : (s.clusterFence c).canonical :=
  raise_canonical (setDiag_canonical (wr_canonical (foldl_canonical (fun _ _ hu => engFence_canonical hu) h)))

theorem State.fencesCommit_canonical {s : State} (h : s.canonical) : s.fencesCommit.canonical := by
  unfold State.fencesCommit
  dsimp only
  split
  · refine clusterFence_canonical ?_
    split
    · exact fenceCommit_canonical h
    · exact h
  · split
    · exact fenceCommit_canonical h
    · exact h

theorem State.commitAll_canonical {s : State} (h : s.canonical) : s.commitAll.canonical := by
  unfold State.commitAll
  extract_lets _ _ _ _ _ s1 s2 s3 s4 _ __src s5 s6 s7 _ s8 s9
  have hs1 : s1.canonical := forAxes_canonical (fun _ _ hu => captureCentres_canonical hu) h
  have hs2 : s2.canonical := foldl_canonical (fun _ _ hu => ite_canonical (swRestartOld_canonical hu) hu) hs1
  have hs3 : s3.canonical := regsCommit_canonical hs2
  have hs4 : s4.canonical := axesCommit_canonical hs3
  have h__src : __src.canonical := ledgerReplace_canonical hs4
  have hs5 : s5.canonical := mk_canonical h__src
  have hs6 : s6.canonical := ledgerEval_canonical (pocCommit_canonical (foldl_canonical (fun _ _ hu => linkCommit_canonical
      hu) hs5))
  have hs7 : s7.canonical := foldl_canonical (fun _ _ hu => swTake_canonical hu) hs6
  have hs8 : s8.canonical := foldl_canonical (fun _ _ hu => ite_canonical (swRestartNew_canonical hu) hu) hs7
  have hs9 : s9.canonical := timCommit_canonical (fencesCommit_canonical (recCommit_canonical (dlvCommit_canonical
      (graphCommit_canonical hs8))))
  exact ite_canonical (liteStart_canonical hs9) hs9

theorem State.setEpoch_canonical {s : State} {u : EpochUnit} (h : s.canonical) : (s.setEpoch u).canonical := mk_canonical h

theorem cmdEpochCommit_canonical {c : CmdPkt} {s : State} (h : s.canonical) : (cmdEpochCommit c s).1.canonical := by
  unfold cmdEpochCommit
  split
  · exact h
  · split
    · exact dminRefused_canonical h
    · exact wr_canonical (wr_canonical (setEpoch_canonical h))

theorem State.epochDrop_canonical {s : State} {cause detail : Nat} (h : s.canonical) :
    (s.epochDrop cause detail).canonical := by
  unfold State.epochDrop
  split
  · exact h
  · exact raise_canonical (wr_canonical (wr_canonical (setEpoch_canonical h)))

theorem cmdEpochCancel_canonical {c : CmdPkt} {s : State} (h : s.canonical) : (cmdEpochCancel c s).1.canonical := by
  unfold cmdEpochCancel
  split
  · exact h
  · exact epochDrop_canonical h

theorem cmdEpochStatus_canonical {c : CmdPkt} {s : State} (h : s.canonical) : (cmdEpochStatus c s).1.canonical := h

theorem cmdStageDiscard_canonical {c : CmdPkt} {s : State} (h : s.canonical) : (cmdStageDiscard c s).1.canonical :=
  discardStaged_canonical h

theorem State.epochReport_canonical {s : State} {number kind : Nat} {past : Bool} (h : s.canonical) :
    (s.epochReport number kind past).canonical :=
  raise_canonical (wr_canonical (wr_canonical (wr_canonical h)))

theorem State.epochCommit_canonical {s : State} (h : s.canonical) : s.epochCommit.canonical := by
  unfold State.epochCommit
  split
  · exact h
  · split
    · exact epochDrop_canonical (dminRefused_canonical h)
    · exact epochReport_canonical (commitAll_canonical (wr_canonical (wr_canonical (setEpoch_canonical h))))

theorem State.epochFrame_canonical {s : State} {link vc num : Nat} (h : s.canonical) :
    (s.epochFrame link vc num).canonical := by
  unfold State.epochFrame
  split
  · exact ite_canonical (epochCommit_canonical h) h
  · exact h

theorem State.epochRenew_canonical {s : State} (h : s.canonical) : s.epochRenew.canonical := by
  unfold State.epochRenew
  split
  · exact h
  · refine ite_canonical (epochDrop_canonical h) ?_
    refine ite_canonical (ite_canonical (epochDrop_canonical (mk_canonical h)) (setEpoch_canonical (mk_canonical h))) ?_
    split
    · exact epochDrop_canonical (dminRefused_canonical h)
    · exact setEpoch_canonical h

theorem cmdFenceChannel_canonical {c : CmdPkt} {s : State} (h : s.canonical) : (cmdFenceChannel c s).1.canonical := by
  unfold cmdFenceChannel
  split
  · exact h
  split
  · exact h
  · split
    · exact setMemu_canonical h
    · exact h
    · exact h

theorem cmdFenceCluster_canonical {c : CmdPkt} {s : State} (h : s.canonical) : (cmdFenceCluster c s).1.canonical := by
  unfold cmdFenceCluster
  split
  · exact h
  split
  · exact h
  · split
    · exact setDiag_canonical h
    · exact h
    · exact h

theorem State.fenceWanted_canonical {s : State} {kind i case : Nat} (h : s.canonical) :
    (s.fenceWanted kind i case).canonical :=
  raise_canonical h

theorem State.autoFence_canonical {s : State} {x : AutoFence} (h : s.canonical) : (s.autoFence x).canonical := by
  unfold State.autoFence
  extract_lets _ s1 _ _ _ s2 _ y _ y' _ s3
  have hs1 : s1.canonical := setDiag_canonical h
  have hs2 : s2.canonical := setEpoch_canonical hs1
  have hy : y.canonical := fenceCommit_canonical hs2
  have hy' : y'.canonical := clusterFence_canonical hs2
  have hs3 : s3.canonical := ite_canonical (setMemu_canonical hy) (setDiag_canonical hy')
  refine ite_canonical hs1 ?_
  split
  · exact fenceWanted_canonical (setDiag_canonical hs1)
  · exact epochReport_canonical hs3

theorem State.autoFences_canonical {s : State} (h : s.canonical) : s.autoFences.canonical :=
  foldl_canonical (fun _ _ hu => autoFence_canonical hu) h

theorem execEpochCommitSample_canonical {t : Nat} {s : State} (h : s.canonical) :
    NextCanonical (execEpochCommitSample t s) := by
  unfold execEpochCommitSample
  extract_lets _ _ s1
  have hs1 : s1.canonical := ite_canonical (epochCommit_canonical (at_canonical h)) (at_canonical h)
  exact ite_canonical (ite_canonical (autoFences_canonical hs1) hs1) h

theorem execEpochLapse_canonical {t : Nat} {s : State} (h : s.canonical) : NextCanonical (execEpochLapse t s) := by
  unfold execEpochLapse
  split
  · exact ite_canonical (epochDrop_canonical (at_canonical h)) h
  · exact h

theorem execEpochExpiry_canonical {t : Nat} {s : State} (h : s.canonical) : NextCanonical (execEpochExpiry t s) := by
  unfold execEpochExpiry
  split
  · exact ite_canonical (epochDrop_canonical (at_canonical h)) h
  · exact h

theorem execFenceWanted_canonical {t : Nat} {s : State} (h : s.canonical) : NextCanonical (execFenceWanted t s) := by
  unfold execFenceWanted
  split
  · exact h
  · dsimp only
    split
    · exact fenceWanted_canonical (setDiag_canonical (at_canonical h))
    · exact setDiag_canonical (at_canonical h)

theorem State.cmdForget_canonical {s : State} (h : s.canonical) : s.cmdForget.canonical := mk_canonical h

theorem State.svcStop_canonical {s : State} (h : s.canonical) : s.svcStop.canonical := by
  unfold State.svcStop
  extract_lets _ s1 _ s2 s3 _ _ _ s4
  have hs1 : s1.canonical := foldl_canonical (fun _ _ hu => cmdReply_canonical hu) (wr_canonical (epochDrop_canonical h))
  have hs2 : s2.canonical := cmdForget_canonical (mk_canonical hs1)
  have hs3 : s3.canonical := raise_canonical (set1_canonical hs2)
  have hs4 : s4.canonical := setDiag_canonical hs3
  exact ite_canonical hs4 (ite_canonical (wr_canonical (imageSelect_canonical hs4)) (imageSelect_canonical hs4))

theorem execServiceRestarted_canonical {t : Nat} {s : State} (h : s.canonical) : NextCanonical (execServiceRestarted t s) :=
  ite_canonical (raise_canonical (setDiag_canonical (addSat_canonical (discardStaged_canonical (wr_canonical (at_canonical
      h)))))) h

theorem State.setSby_canonical {s : State} {n : Nat} {x : Standby} (h : s.canonical) : (s.setSby n x).canonical :=
  setDiag_canonical h

theorem State.testBegin_canonical {s : State} {g : Nat} (h : s.canonical) : (s.testBegin g).canonical :=
  wr_canonical (setDiag_canonical h)

theorem State.rotBegin_canonical {s : State} {n : Nat} (h : s.canonical) : (s.rotBegin n).canonical :=
  ite_canonical (wr_canonical (testBegin_canonical h)) h

theorem State.takeNext_canonical {s t : State} {n g : Nat} (h : s.canonical) (ht : s.takeNext n = some (g, t)) :
    t.canonical := by
  unfold State.takeNext at ht
  split at ht
  · obtain ⟨-, rfl⟩ := Prod.mk.inj (Option.some.inj ht)
    exact h
  · obtain ⟨_, _, heq⟩ := Option.map_eq_some_iff.mp ht
    obtain ⟨-, rfl⟩ := Prod.mk.inj heq
    exact h

theorem execRotationTake_canonical {n : Fin 4} {t : Nat} {s : State} (h : s.canonical) :
    NextCanonical (execRotationTake n t s) := by
  unfold execRotationTake
  refine ite_canonical ?_ h
  dsimp only
  split
  · exact h
  next _ s1 heq =>
    have hs1 : s1.canonical := takeNext_canonical (at_canonical h) heq
    exact ite_canonical h (ite_canonical (setSby_canonical hs1) (testBegin_canonical (setSby_canonical hs1)))

theorem State.moveKernel_canonical {s : State} {src dst : Nat} (h : s.canonical) : (s.moveKernel src dst).canonical := by
  obtain ⟨hhost, hgddr, hsram, hdmem, himem⟩ := memsWf_parts.mp h
  unfold State.moveKernel
  extract_lets e clean _ s1 _ s2 s3 inj s4
  have h2 : s2.canonical := memsWf_parts.mpr ⟨hhost, hgddr, hsram, hdmem, memsWf_put _ himem (mem_wf_of_memsWf _ himem)⟩
  exact wr_canonical (wr_canonical (wr_canonical (setEng_canonical (setEng_canonical (memCopy_canonical h2)))))

theorem execStandbyTakeover_canonical {n : Fin 4} {t : Nat} {s : State} (h : s.canonical) :
    NextCanonical (execStandbyTakeover n t s) := by
  unfold execStandbyTakeover
  split
  · exact h
  · extract_lets _ s1 s2 s3
    have hs1 : s1.canonical := setSby_canonical (at_canonical h)
    have hs2 : s2.canonical := wr_canonical (wr_canonical (moveKernel_canonical hs1))
    have hs3 : s3.canonical := wr_canonical (wr_canonical (wr_canonical hs2))
    exact ite_canonical h (ite_canonical (testBegin_canonical hs1) (raise_canonical (testBegin_canonical hs3)))

theorem State.testReply_canonical {s : State} {g res addr : Nat} (h : s.canonical) : (s.testReply g res addr).canonical := by
  unfold State.testReply
  split
  · exact cmdReply_canonical (setDiag_canonical h)
  · exact h

theorem State.testResult_canonical {s : State} {g res addr : Nat} (h : s.canonical) : (s.testResult g res addr).canonical :=
  testReply_canonical (wr_canonical (wr_canonical (wr_canonical h)))

theorem execTakeoverSkipped_canonical {n : Fin 4} {t : Nat} {s : State} (h : s.canonical) :
    NextCanonical (execTakeoverSkipped n t s) := by
  unfold execTakeoverSkipped
  extract_lets _ s1
  have hs1 : s1.canonical := addSat_canonical (setSby_canonical (at_canonical h))
  split
  · exact h
  · exact ite_canonical (rotBegin_canonical (testResult_canonical (raise_canonical hs1))) h

theorem State.fenceEngine_canonical {s : State} {g : Nat} (h : s.canonical) : (s.fenceEngine g).canonical := by
  unfold State.fenceEngine
  extract_lets _ _ s1 s2
  have hs1 : s1.canonical := raise_canonical (wr_canonical (wr_canonical h))
  have hs2 : s2.canonical := fenceFall_canonical hs1
  exact ite_canonical (autoAsk_canonical hs2) hs2

theorem State.rankLost_canonical {s : State} {gen k r : Nat} (h : s.canonical) : (s.rankLost gen k r).canonical := by
  unfold State.rankLost
  extract_lets _ _ s1 s2 s3
  have hs1 : s1.canonical := dropRank_canonical (setGnode_canonical h)
  have hs2 : s2.canonical := foldl_canonical (fun _ _ hu => ite_canonical (flueAdvance_canonical hu) hu) hs1
  have hs3 : s3.canonical := graphEvent_canonical hs2
  exact ite_canonical (graphFail_canonical (mk_canonical hs3)) (mk_canonical hs3)

theorem State.testService_canonical {s : State} {n g res old : Nat} (h : s.canonical) :
    (s.testService n g res old).canonical := by
  unfold State.testService
  extract_lets _ _ s1
  have hs1 : s1.canonical := fenceEngine_canonical h
  exact ite_canonical (wr_canonical h) (ite_canonical (ite_canonical (setSby_canonical h) (wr_canonical h)) (ite_canonical
      (ite_canonical h (wr_canonical h)) (ite_canonical (raise_canonical (setSby_canonical (wr_canonical hs1)))
      (ite_canonical (rankLost_canonical (setEng_canonical hs1)) hs1))))

theorem State.testEnd_canonical {s : State} {g res addr old : Nat} (h : s.canonical) :
    (s.testEnd g res addr old).canonical := by
  unfold State.testEnd
  extract_lets _ s0 s1 s2 _ s3
  have hs0 : s0.canonical := setDiag_canonical h
  have hs1 : s1.canonical := testResult_canonical hs0
  have hs2 : s2.canonical := ite_canonical hs1 (raise_canonical hs1)
  have hs3 : s3.canonical := wr_canonical hs2
  exact ite_canonical (ite_canonical (ite_canonical (setSby_canonical (wr_canonical hs3)) hs3) (raise_canonical
      (setSby_canonical (wr_canonical hs3)))) (rotBegin_canonical (testService_canonical hs2))

theorem execSelftestDone_canonical {g : Fin 132} {res : Fin 5} {addr : Word} {t : Nat} {s : State} (h : s.canonical) :
    NextCanonical (execSelftestDone g res addr t s) := by
  unfold execSelftestDone
  split
  · exact h
  · exact ite_canonical h (testEnd_canonical (setDiag_canonical (at_canonical h)))

theorem execStandbyRelease_canonical {n : Fin 4} {t : Nat} {s : State} (h : s.canonical) :
    NextCanonical (execStandbyRelease n t s) := by
  unfold execStandbyRelease
  extract_lets _ _ _ _ s0 s1 s2 _ s3
  have hs0 : s0.canonical := at_canonical h
  have hs1 : s1.canonical := ite_canonical (wr_canonical (setEng_canonical hs0)) (moveKernel_canonical hs0)
  have hs2 : s2.canonical := wr_canonical (wr_canonical (wr_canonical hs1))
  have hs3 : s3.canonical := setSby_canonical (wr_canonical (wr_canonical hs2))
  exact ite_canonical (rotBegin_canonical (raise_canonical hs3)) h

theorem cmdEngineTest_canonical {c : CmdPkt} {s : State} (h : s.canonical) : (cmdEngineTest c s).1.canonical := by
  unfold cmdEngineTest
  extract_lets g n st other wait
  have hwait : ∀ u : State, u.canonical → (wait u).canonical := fun u hu => setDiag_canonical hu
  split
  · exact h
  split
  · exact h
  split
  · exact hwait _ h
  split
  · exact hwait _ (ite_canonical (wr_canonical (testBegin_canonical h)) (testBegin_canonical h))
  split
  · exact hwait _ (setSby_canonical h)
  · exact hwait _ (testBegin_canonical (setSby_canonical h))

theorem State.telWrite_canonical {s : State} (h : s.canonical) : s.telWrite.canonical := by
  unfold State.telWrite
  extract_lets _ _ _ _ s1 _ s2
  have hs1 : s1.canonical := wr_canonical (wr_canonical (setThm_canonical h))
  have hs2 : s2.canonical := setDiag_canonical hs1
  exact ite_canonical hs2 (ite_canonical (raiseJoin_canonical (addSat_canonical hs2)) (ownItem_canonical hs2))

theorem State.injEp_canonical {s : State} {p t : Nat} {modes : List Nat} {f : State → State}
    (hf : ∀ u : State, u.canonical → (f u).canonical) (h : s.canonical) : (s.injEp p t modes f).canonical :=
  ite_canonical h (hf _ h)

theorem execDiaInjEpHallSkip_canonical {p : Fin 8} {t : Nat} {s : State} (h : s.canonical) :
    NextCanonical (execDiaInjEpHallSkip p t s) :=
  injEp_canonical (fun _ hu => ite_canonical (skippedStep_canonical (edgeFault_canonical (used_canonical hu))) (ite_canonical
      (skippedStep_canonical (edgeFault_canonical (used_canonical hu))) (edgeFault_canonical (used_canonical hu)))) h

theorem State.setPwr_canonical {s : State} {p : PowerUnit} (h : s.canonical) : (s.setPwr p).canonical := mk_canonical h

theorem State.keepRegs_canonical {s : State} {p : Nat → Bool} (h : s.canonical) : (s.keepRegs p).canonical := mk_canonical h

theorem State.hostReset_canonical {s : State} (h : s.canonical) : s.hostReset.canonical := by
  unfold State.hostReset
  extract_lets s1 s2 _ s3
  have hs1 : s1.canonical := readEnd_canonical (epochDrop_canonical h)
  have hs2 : s2.canonical := keepRegs_canonical hs1
  have hs3 : s3.canonical := cmdForget_canonical (mk_canonical hs2)
  exact evDiscard_canonical (discardStaged_canonical (setDiag_canonical hs3))

/-- A reset leaves host memory alone, and an empty memory is in canonical form. -/
theorem hostOnly_canonical {s t : State} (h : s.canonical) (ht : t.mems = { host := s.mems.host }) : t.canonical := by
  rw [State.canonical, ht, memsWf_parts]
  exact ⟨(memsWf_parts.mp h).1, rfl, rfl, rfl, rfl⟩

theorem State.coldReset_canonical {s : State} (h : s.canonical) : s.coldReset.canonical := by
  exact ite_canonical (axisChanged_canonical (followSources_canonical (hostOnly_canonical h rfl))) (hostOnly_canonical h rfl)

theorem State.warmReset_canonical {s : State} (h : s.canonical) : s.warmReset.canonical := by
  unfold State.warmReset
  extract_lets u k _ _ _ _ s1 s2 s3 s4
  have h1 : s1.canonical := hostOnly_canonical (hostReset_canonical h) rfl
  have h2 : s2.canonical := foldl_canonical (fun _ _ hu => ite_canonical (wr_canonical hu) hu) (regsDiscard_canonical h1)
  have h3 : s3.canonical := fenceWhole_canonical (wr_canonical (wr_canonical (wr_canonical (wr_canonical h2))))
  have h4 : s4.twReset.canonical := twReset_canonical (foldl_canonical (fun _ _ hu => wr_canonical hu) h3)
  exact ite_canonical (axisChanged_canonical (followSources_canonical h4)) h4

theorem State.fullReset_canonical {s : State} {held : Bool} (h : s.canonical) : (s.fullReset held).canonical :=
  wr_canonical (setPwr_canonical (coldReset_canonical h))

theorem State.resetPump_canonical {s : State} (h : s.canonical) : s.resetPump.canonical := by
  unfold State.resetPump
  split
  · exact warmReset_canonical h
  · exact fullReset_canonical h
  · exact h

theorem cmdSysReset_canonical {c : CmdPkt} {s : State} (h : s.canonical) : (cmdSysReset c s).1.canonical := by
  unfold cmdSysReset
  split
  · exact setPwr_canonical h
  · exact h

theorem State.evDirect_canonical {s : State} {code : Nat} {vals : List Nat} (h : s.canonical) :
    (s.evDirect code vals).canonical :=
  ite_canonical (evrWrite_canonical h) h

theorem State.latchWake_canonical {s : State} (h : s.canonical) : s.latchWake.canonical := setPwr_canonical h

theorem State.smoulder_canonical {s : State} (h : s.canonical) : s.smoulder.canonical :=
  timHold_canonical (setPwr_canonical (coldReset_canonical h))

theorem State.shutdown_canonical {s : State} {cause : Option Nat} {down : Nat} (h : s.canonical) :
    (s.shutdown cause down).canonical := by
  unfold State.shutdown
  refine setPwr_canonical ?_
  refine mk_canonical ?_
  refine coldReset_canonical ?_
  refine mk_canonical ?_
  split
  · refine wr_canonical ?_
    refine wr_canonical ?_
    split
    · split
      · exact evDirect_canonical h
      · exact evDirect_canonical h
    · refine latchWake_canonical ?_
      split
      · exact evDirect_canonical h
      · exact evDirect_canonical h
  · refine wr_canonical ?_
    split
    · split
      · exact evDirect_canonical h
      · exact evDirect_canonical h
    · refine latchWake_canonical ?_
      split
      · exact evDirect_canonical h
      · exact evDirect_canonical h

theorem State.deferEnd_canonical {s : State} (h : s.canonical) : s.deferEnd.canonical :=
  smoulder_canonical (wr_canonical h)

theorem State.dipBegin_canonical {s : State} (h : s.canonical) : s.dipBegin.canonical := by
  unfold State.dipBegin
  extract_lets _ s1 _ s2
  have hs1 : s1.canonical := setPwr_canonical (set1_canonical (addSat_canonical h))
  have hs2 : s2.canonical := setPwr_canonical (addSat_canonical (wr_canonical hs1))
  exact ite_canonical (ite_canonical (setPwr_canonical hs1) (recEval_canonical (raise_canonical hs2))) (ite_canonical
      (setPwr_canonical hs1) hs1)

theorem execVinDip_canonical {min_ : BitVec 16} {t : Nat} {s : State} (h : s.canonical) :
    NextCanonical (execVinDip min_ t s) := by
  unfold execVinDip
  split
  · exact h
  · exact ite_canonical h (raise_canonical (wr_canonical (setPwr_canonical (at_canonical h))))

theorem execVinOver_canonical {set : Bool} {vin : BitVec 16} {t : Nat} {s : State} (h : s.canonical) :
    NextCanonical (execVinOver set vin t s) := by
  unfold execVinOver
  extract_lets _ s1
  have hs1 : s1.canonical := set1_canonical (setPwr_canonical (at_canonical h))
  exact ite_canonical (ite_canonical (setPwr_canonical (at_canonical h)) h) (ite_canonical h (raiseJoin_canonical hs1))

theorem execBrownOut_canonical {t : Nat} {s : State} (h : s.canonical) : NextCanonical (execBrownOut t s) := by
  unfold execBrownOut
  dsimp only
  split
  · exact h
  · exact setPwr_canonical (at_canonical h)
  · exact smoulder_canonical (at_canonical h)
  · exact smoulder_canonical (at_canonical h)
  · exact smoulder_canonical (wr_canonical (latchWake_canonical (at_canonical h)))

theorem execKeepaliveLoss_canonical {t : Nat} {s : State} (h : s.canonical) : NextCanonical (execKeepaliveLoss t s) :=
  hostOnly_canonical h rfl

theorem State.aliveStart_canonical {s : State} (h : s.canonical) : s.aliveStart.canonical := mk_canonical h

theorem execVcamFault_canonical {high : Bool} {vcam : BitVec 16} {t : Nat} {s : State} (h : s.canonical) :
    NextCanonical (execVcamFault high vcam t s) := by
  unfold execVcamFault
  extract_lets s0 _ s1 s2
  have hs0 : s0.canonical := at_canonical h
  have hs1 : s1.canonical := setPwr_canonical hs0
  have hs2 : s2.canonical := raise_canonical (wr_canonical hs1)
  exact ite_canonical h (foldl_canonical (fun _ _ hu => ite_canonical (pocHeld_canonical hu) (pocSet_canonical hu)) hs2)

theorem execVcamRestore_canonical {vcam : VcamSense} {t : Nat} {s : State} (h : s.canonical) :
    NextCanonical (execVcamRestore vcam t s) :=
  ite_canonical (pocCommit_canonical (raise_canonical (wr_canonical (setPwr_canonical (at_canonical h))))) h

theorem cmdSysPower_canonical {c : CmdPkt} {s : State} (h : s.canonical) : (cmdSysPower c s).1.canonical := by
  unfold cmdSysPower
  split
  · exact h
  · split
    · exact h
    split
    · exact h
    split
    · exact h
    split
    · exact h
    · exact setPwr_canonical h
  · exact h

theorem State.enterSmoulder_canonical {s : State} (h : s.canonical) : s.enterSmoulder.canonical := by
  unfold State.enterSmoulder
  extract_lets s1 _ s3 s4
  have hs1 : s1.canonical := wr_canonical (latchWake_canonical (evDirect_canonical h))
  have hs3 : s3.canonical := foldl_canonical (fun _ _ hu => pocSet_canonical hu) (mk_canonical hs1)
  have hs4 : s4.canonical := padExtent_canonical (foldl_canonical (fun _ _ hu => cutRec_canonical hu) hs3)
  exact recPump_canonical (setPwr_canonical hs4)

theorem State.startUp_canonical {s : State} {kind : Nat} (h : s.canonical) : (s.startUp kind).canonical :=
  wr_canonical (wr_canonical (wr_canonical (wr_canonical (wr_canonical (setPwr_canonical h)))))

theorem execWake_canonical {since : Nat} {case : BitVec 16} {t : Nat} {s : State} (h : s.canonical) :
    NextCanonical (execWake since case t s) := by
  unfold execWake
  extract_lets s0
  have hs0 : s0.canonical := wakeAxis_canonical (at_canonical h)
  split
  · exact ite_canonical (startUp_canonical (setPwr_canonical (wr_canonical (wr_canonical hs0)))) h
  · exact h

theorem execPowerOn_canonical {since t : Nat} {s : State} (h : s.canonical) : NextCanonical (execPowerOn since t s) :=
  ite_canonical (startUp_canonical (wr_canonical (ite_canonical (at_canonical h) (aliveStart_canonical (at_canonical h))))) h

theorem State.stageDone_canonical {s : State} {k : Nat} (h : s.canonical) : (s.stageDone k).canonical :=
  wr_canonical (setPwr_canonical h)

theorem State.stageFail_canonical {s : State} {k fail : Nat} (h : s.canonical) : (s.stageFail k fail).canonical :=
  wr_canonical (wr_canonical h)

theorem State.strapModid_canonical {s : State} {lo hi : Nat} {bad : Bool} (h : s.canonical) :
    (s.strapModid lo hi bad).canonical := by
  unfold State.strapModid
  extract_lets _ s1 _ _ _ s2
  have hs1 : s1.canonical := wrB_canonical (wr_canonical h)
  have hs2 : s2.canonical := wr_canonical (wrB_canonical hs1)
  exact ite_canonical (raise_canonical hs2) hs2

theorem State.strapTw_canonical {s : State} {tw : Nat} {bad : Bool} (h : s.canonical) : (s.strapTw tw bad).canonical :=
  ite_canonical (raise_canonical (wrB_canonical (wr_canonical h))) (wrB_canonical (wr_canonical h))

theorem State.stageTwo_canonical {s : State} (h : s.canonical) : s.stageTwo.canonical :=
  setPwr_canonical (setThm_canonical (wr_canonical h))

theorem execStageRom_canonical {lo : BitVec 4} {loBad : Bool} {hi : BitVec 4} {hiBad : Bool} {tw : BitVec 4} {twBad : Bool}
    {t : Nat} {s : State} (h : s.canonical) : NextCanonical (execStageRom lo loBad hi hiBad tw twBad t s) := by
  unfold execStageRom
  extract_lets s1 s2
  have hs1 : s1.canonical := strapModid_canonical (at_canonical h)
  have hs2 : s2.canonical := twReset_canonical (strapTw_canonical hs1)
  exact ite_canonical (ite_canonical (stageTwo_canonical (stageDone_canonical (imageSelect_canonical hs2)))
      (stageFail_canonical (imageSelect_canonical hs2))) h

theorem execStageTrain_canonical {fails : BitVec 4} {t : Nat} {s : State} (h : s.canonical) :
    NextCanonical (execStageTrain fails t s) := by
  unfold execStageTrain
  extract_lets s1 bad s2
  have hs1 : s1.canonical := wr_canonical (at_canonical h)
  have hs2 : s2.canonical := foldl_canonical (fun _ _ hu => raise_canonical hu) hs1
  refine ite_canonical ?_ h
  clear_value bad
  split
  · exact stageDone_canonical hs2
  · exact stageDone_canonical (fenceWhole_canonical (wr_canonical (wrPair_canonical hs2)))
  · exact stageFail_canonical hs2

theorem execStageClear_canonical {pages : List (Fin 7 × NandPage)} {t : Nat} {s : State} (h : s.canonical) :
    NextCanonical (execStageClear pages t s) :=
  ite_canonical (stageDone_canonical (foldl_canonical (fun _ _ hu => storeResolve_canonical hu) (hostOnly_canonical h
      rfl))) h

theorem execStageService_canonical {t : Nat} {s : State} (h : s.canonical) : NextCanonical (execStageService t s) := by
  unfold execStageService
  extract_lets
  exact ite_canonical (ite_canonical (wr_canonical (stageDone_canonical (imageSelect_canonical (at_canonical h))))
      (stageFail_canonical (imageSelect_canonical (at_canonical h)))) h

theorem execStageReady_canonical {t : Nat} {s : State} (h : s.canonical) : NextCanonical (execStageReady t s) := by
  unfold execStageReady
  extract_lets s1 _ _ s2 s3 s4 s5 _ s6
  have hs1 : s1.canonical := wr_canonical (stageDone_canonical (wr_canonical (at_canonical h)))
  have hs2 : s2.canonical := setPwr_canonical (setDiag_canonical hs1)
  have hs3 : s3.canonical := ite_canonical (raise_canonical hs2) hs2
  have hs4 : s4.canonical := ite_canonical (raise_canonical hs3) hs3
  have hs5 : s5.canonical := ite_canonical (raise_canonical hs4) hs4
  have hs6 : s6.canonical := setPwr_canonical hs5
  exact ite_canonical (foldl_canonical (fun _ _ hu => rotBegin_canonical hu) hs6) h

theorem cmdSysIdent_canonical {c : CmdPkt} {s : State} (h : s.canonical) : (cmdSysIdent c s).1.canonical := h

theorem cmdSettingsLoad_canonical {c : CmdPkt} {s : State} (h : s.canonical) : (cmdSettingsLoad c s).1.canonical := by
  unfold cmdSettingsLoad
  split
  · exact h
  · exact mk_canonical h

theorem cmdLedgerBulk_canonical {c : CmdPkt} {s : State} (h : s.canonical) : (cmdLedgerBulk c s).1.canonical := by
  unfold cmdLedgerBulk
  split
  · exact h
  · exact foldl_canonical (fun _ _ hu => setStagedEnt_canonical hu) h

theorem cmdLedgerRead_canonical {c : CmdPkt} {s : State} (h : s.canonical) : (cmdLedgerRead c s).1.canonical := by
  unfold cmdLedgerRead
  split
  · exact h
  · exact foldl_canonical (fun _ _ hu => hostWrite_canonical hu) h

theorem cmdGddrWrite_canonical {got : Option Nat} {c : CmdPkt} {s : State} (h : s.canonical) :
    (cmdGddrWrite got c s).1.canonical := by
  unfold cmdGddrWrite
  split
  · exact h
  · split
    · exact h
    split
    · exact memWrite_canonical h
    · exact memWrite_canonical h

theorem cmdGddrRead_canonical {c : CmdPkt} {s : State} (h : s.canonical) : (cmdGddrRead c s).1.canonical := by
  unfold cmdGddrRead
  extract_lets _ _ s1
  have hs1 : s1.canonical := hostWrite_canonical (memRead_canonical h)
  split
  · exact h
  · exact foldl_canonical (fun _ _ hu => ite_canonical (hostWrite_canonical (used_canonical hu)) hu) hs1

theorem execSettingsLoad_canonical {p : Cmd} {err : Bool} {t : Nat} {s : State} (h : s.canonical) :
    NextCanonical (execSettingsLoad p err t s) :=
  svcCommand_canonical (fun _ _ hu => cmdHostErr_canonical (fun _ _ hs => cmdSettingsLoad_canonical hs) hu) h

theorem execLedgerBulk_canonical {p : Cmd} {err : Bool} {t : Nat} {s : State} (h : s.canonical) :
    NextCanonical (execLedgerBulk p err t s) :=
  svcCommand_canonical (fun _ _ hu => cmdHostErr_canonical (fun _ _ hs => cmdLedgerBulk_canonical hs) hu) h

theorem cmdRow_canonical {op : Nat} {r : CmdRow} (hr : cmdRow op = some r) {c : CmdPkt} {s : State} (h : s.canonical) :
    (r.body c s).1.canonical := by
  unfold cmdRow at hr
  split at hr <;> cases hr
  · exact cmdSysIdent_canonical (c := c) h
  · exact cmdEpochCommit_canonical (c := c) h
  · exact cmdEpochCancel_canonical (c := c) h
  · exact cmdEpochStatus_canonical (c := c) h
  · exact cmdStageDiscard_canonical (c := c) h
  · exact cmdSysReset_canonical (c := c) h
  · exact cmdSysPower_canonical (c := c) h
  · exact cmdStoreRead_canonical (c := c) h
  · exact cmdStoreWrite_canonical (c := c) h
  · exact cmdStoreStatus_canonical (c := c) h
  · exact cmdLinkSummary_canonical (c := c) h
  · exact cmdLinkRestart_canonical (c := c) h
  · exact cmdSettingsLoad_canonical (c := c) h
  · exact cmdLedgerBulk_canonical (c := c) h
  · exact cmdLedgerRead_canonical (c := c) h
  · exact cmdGddrWrite_canonical (c := c) h
  · exact cmdGddrRead_canonical (c := c) h
  · exact cmdGraphLoad_canonical (c := c) h
  · exact cmdFlueStatus_canonical (c := c) h
  · exact cmdGraphEvten_canonical (c := c) h
  · exact cmdSwathLoad_canonical (c := c) h
  · exact cmdSwathCtl_canonical (c := c) h
  · exact cmdSwathStatus_canonical (c := c) h
  · exact cmdStreamOpen_canonical (c := c) h
  · exact cmdStreamClose_canonical (c := c) h
  · exact cmdStreamResume_canonical (c := c) h
  · exact cmdStreamModify_canonical (c := c) h
  · exact cmdMarkSet_canonical (c := c) h
  · exact cmdMarkClear_canonical (c := c) h
  · exact cmdPinSet_canonical (c := c) h
  · exact cmdPinClear_canonical (c := c) h
  · exact cmdReadStart_canonical (c := c) h
  · exact cmdReadStop_canonical (c := c) h
  · exact cmdTimeRearm_canonical (c := c) h
  · exact cmdTimeStatus_canonical (c := c) h
  · exact cmdTwXfer_canonical (c := c) h
  · exact cmdTwClear_canonical (c := c) h
  · exact cmdFenceChannel_canonical (c := c) h
  · exact cmdFenceCluster_canonical (c := c) h
  · exact cmdEngineTest_canonical (c := c) h
  · exact cmdFwUpdate_canonical (c := c) h
  · exact cmdAttest_canonical (c := c) h
  · exact cmdDebugChallenge_canonical (c := c) h
  · exact cmdDebugUnlock_canonical (c := c) h
  · exact cmdDebugLock_canonical (c := c) h
  · exact cmdSecurityLog_canonical (c := c) h

theorem State.cmdRun_canonical {s : State} {c : CmdPkt} (h : s.canonical) : (s.cmdRun c).canonical := by
  unfold State.cmdRun
  extract_lets c
  split
  · exact ite_canonical (wardenCommand_canonical (fun _ _ hu => hu) h) (ite_canonical (cmdReply_canonical h)
        (cmdReply_canonical h))
  next r heq =>
    have hbody : ∀ (c : CmdPkt) (u : State), u.canonical → (r.body c u).1.canonical := fun _ _ hu => cmdRow_canonical heq hu
    have hsvc : (s.svcCommand c r.used r.modeS r.body).canonical := svcCommand_canonical hbody h
    refine ite_canonical (cmdReply_canonical h) (ite_canonical (wardenCommand_canonical hbody h) ?_)
    refine ite_canonical (twStart_canonical h) (ite_canonical (anyCommand_canonical hbody h) ?_)
    exact ite_canonical (recPump_canonical hsvc) hsvc

theorem State.cmdDoorbell_canonical {s : State} {v : Nat} (h : s.canonical) : (s.cmdDoorbell v).canonical :=
  ite_canonical (raise_canonical (set1_canonical h)) (wr_canonical h)

theorem State.cmdEnable_canonical {s : State} (h : s.canonical) : s.cmdEnable.canonical :=
  wr_canonical (wr_canonical (mk_canonical h))

theorem State.cmdTake_canonical {s : State} {k : Nat} (h : s.canonical) : (s.cmdTake k).canonical := by
  induction k generalizing s with
  | zero => exact h
  | succ k ih => exact ite_canonical h (ih h)

theorem State.cmdPump_canonical {s : State} {k : Nat} (h : s.canonical) : (s.cmdPump k).canonical := by
  induction k generalizing s with
  | zero => exact h
  | succ k ih =>
    unfold State.cmdPump
    split
    · exact h
    · exact ite_canonical h (ih (cmdRun_canonical h))

theorem State.smbPump_canonical {s : State} (h : s.canonical) : s.smbPump.canonical := by
  unfold State.smbPump
  split
  · exact ite_canonical h (cmdRun_canonical (mk_canonical h))
  · exact h

theorem State.cmdRetry_canonical {s : State} {c : CmdPkt} (h : s.canonical) : (s.cmdRetry c).canonical := by
  unfold State.cmdRetry
  split
  · exact ite_canonical (cmdReply_canonical (storeWrite_canonical h)) h
  · exact ite_canonical (cmdReply_canonical (fwWrite_canonical h)) h
  · split
    next s1 _ heq =>
      have hs1 : s1.canonical := canonical_of_eq (·.1.canonical) heq (cmdFenceChannel_canonical h)
      exact cmdReply_canonical hs1
    · exact h
  · split
    next s1 _ heq =>
      have hs1 : s1.canonical := canonical_of_eq (·.1.canonical) heq (cmdFenceCluster_canonical h)
      exact cmdReply_canonical hs1
    · exact h
  · exact h

theorem State.cmdTick_canonical {s : State} (h : s.canonical) : s.cmdTick.canonical := by
  unfold State.cmdTick
  extract_lets s1 s2
  have hs1 : s1.canonical := foldl_canonical (fun _ _ hu => cmdRetry_canonical hu) h
  have hs2 : s2.canonical := ite_canonical (cmdTake_canonical hs1) hs1
  exact ite_canonical h (smbPump_canonical (cmdPump_canonical hs2))

theorem State.cmdTimeout_canonical {s : State} {c : CmdPkt} (h : s.canonical) : (s.cmdTimeout c).canonical :=
  cmdReply_canonical (setDiag_canonical (mk_canonical h))

theorem State.stpRead_canonical {s : State} {code : Nat} {data : List Nat} (h : s.canonical) :
    (s.stpRead code data).canonical :=
  mk_canonical h

theorem execSmbusSubmit_canonical {data : List (BitVec 8)} {pec : Option (BitVec 8)} {t : Nat} {s : State} (h : s.canonical) :
    NextCanonical (execSmbusSubmit data pec t s) := by
  unfold execSmbusSubmit
  extract_lets _ _ _ _ __src
  have h__src : __src.canonical := at_canonical h
  exact ite_canonical h (ite_canonical (raise_canonical (set1_canonical (addSat_canonical (at_canonical h)))) (ite_canonical
      h (ite_canonical h (wr_canonical (mk_canonical h__src)))))

theorem execSmbusReply_canonical {t : Nat} {s : State} (h : s.canonical) : NextCanonical (execSmbusReply t s) := by
  refine ite_canonical h (ite_canonical (stpRead_canonical (at_canonical h)) ?_)
  split
  · exact stpRead_canonical (at_canonical h)
  · exact stpRead_canonical (used_canonical (at_canonical h))

theorem execStpAbandon_canonical {t : Nat} {s : State} (h : s.canonical) : NextCanonical (execStpAbandon t s) :=
  ite_canonical (raise_canonical (wr_canonical (set1_canonical (addSat_canonical (at_canonical h))))) h

theorem State.startPacket_canonical {s : State} {n vc num tseq : Nat} {valid : Bool} {w ht sof : Nat} (h : s.canonical) :
    (s.startPacket n vc num tseq valid w ht sof).canonical :=
  frameStart_canonical (epochFrame_canonical h)

theorem State.loopLine_canonical {s : State} {n ty : Nat} {px : List Nat} (h : s.canonical) :
    (s.loopLine n ty px).canonical :=
  ite_canonical (loopCheck_canonical h) h

theorem State.packetIn_canonical {s : State} {n ty vc : Nat} {p : List Nat} {at_ : Nat} {bad cut : Bool} (h : s.canonical) :
    (s.packetIn n ty vc p at_ bad cut).canonical := by
  unfold State.packetIn
  split
  · exact loopLine_canonical h
  split
  · exact ite_canonical (startPacket_canonical h) h
  · exact ite_canonical (lineIn_canonical h) h
  · exact ite_canonical (endPacket_canonical h) h
  · exact ite_canonical (embedIn_canonical h) h
  · exact bcAck_canonical h
  · exact echoReply_canonical h
  · exact wr_canonical h
  · exact telemetry_canonical h
  · exact loopPacket_canonical h
  · exact h

theorem State.cutPacket_canonical {s : State} {n : Nat} (h : s.canonical) : (s.cutPacket n).canonical :=
  ite_canonical (packetIn_canonical (setLink_canonical h)) (setLink_canonical h)

theorem State.headerBad_canonical {s : State} {n : Nat} (h : s.canonical) : (s.headerBad n).canonical :=
  raise_canonical (addSat_canonical (setLink_canonical h))

theorem State.packetDone_canonical {s : State} {n ty vc : Nat} {pay crc : List Nat} {at_ : Nat} (h : s.canonical) :
    (s.packetDone n ty vc pay crc at_).canonical := by
  unfold State.packetDone
  extract_lets _ _ s1 s2
  have hs1 : s1.canonical := ite_canonical h (setLink_canonical h)
  have hs2 : s2.canonical := raise_canonical (addSat_canonical hs1)
  refine ite_canonical (addSat_canonical h) ?_
  refine ite_canonical (packetIn_canonical hs1) ?_
  split
  · exact packetIn_canonical hs2
  · exact packetIn_canonical hs2
  · exact ite_canonical (markerMissing_canonical hs2) hs2
  · exact ite_canonical (markerMissing_canonical hs2) hs2
  · exact hs2

theorem State.parse_canonical {s : State} {n : Nat} {b : List Nat} {at_ now : Nat} {seen : Bool} {k : Nat}
    (h : s.canonical) :
    (s.parse n b at_ now seen k).canonical := by
  induction k generalizing s b at_ seen with
  | zero => exact h
  | succ k ih =>
    refine ite_canonical h (ite_canonical h (ite_canonical (headerBad_canonical h) (ite_canonical h ?_)))
    exact ih (packetDone_canonical h)

theorem State.cellPayload_canonical {s : State} {n : Nat} {pay : List Nat} {ps : Nat} (h : s.canonical) :
    (s.cellPayload n pay ps).canonical := by
  unfold State.cellPayload
  extract_lets _ _ _ _ s1 _ s2
  have hs1 : s1.canonical := ite_canonical h (cutPacket_canonical (raise_canonical (addSat_canonical h)))
  have hs2 : s2.canonical := setLink_canonical hs1
  exact ite_canonical (headerBad_canonical (cutPacket_canonical hs2)) (ite_canonical (ite_canonical hs2 (parse_canonical
      hs2)) (ite_canonical (parse_canonical hs2) (parse_canonical hs2)))

theorem State.hitWord_canonical {s : State} {n w : Nat} (h : s.canonical) : (s.hitWord n w).canonical :=
  ite_canonical h (ite_canonical (addSat_canonical (setLink_canonical h)) (setLink_canonical h))

theorem State.cellBegin_canonical {s : State} {n : Nat} {x : RxWord} {skip : Bool} (h : s.canonical) :
    (s.cellBegin n x skip).canonical :=
  setLink_canonical h

theorem State.cellWord_canonical {s : State} {n : Nat} {x : RxWord} (h : s.canonical) : (s.cellWord n x).canonical := by
  unfold State.cellWord
  extract_lets _ _ s1 _ s2
  have hs1 : s1.canonical := setLink_canonical h
  have hs2 : s2.canonical := setLink_canonical hs1
  exact ite_canonical (ite_canonical hs2 (cellPayload_canonical hs2)) hs1

theorem State.cellMatch_canonical {s : State} {n : Nat} (h : s.canonical) : (s.cellMatch n).canonical :=
  ite_canonical (enterAligned_canonical h) (setLink_canonical h)

theorem State.cellMiss_canonical {s : State} {n : Nat} (h : s.canonical) : (s.cellMiss n).canonical := by
  unfold State.cellMiss
  extract_lets s1 _ _ s2
  have hs1 : s1.canonical := addSat_canonical h
  have hs2 : s2.canonical := wr_canonical (leaveAligned_canonical hs1)
  exact ite_canonical (setLink_canonical hs1) (raise_canonical (set1_canonical (setLink_canonical hs2)))

theorem State.wordIn_canonical {s : State} {n : Nat} {x : RxWord} (h : s.canonical) : (s.wordIn n x).canonical := by
  unfold State.wordIn
  extract_lets _ st _ _ s0 _ s1
  have hs0 : s0.canonical := ite_canonical (setLink_canonical h) h
  have hs1 : s1.canonical := hitWord_canonical hs0
  clear_value st
  split
  · exact ite_canonical (cellBegin_canonical (wr_canonical (setLink_canonical hs1))) hs1
  · exact ite_canonical (cellBegin_canonical (wr_canonical (setLink_canonical hs1))) hs1
  · exact ite_canonical (cellWord_canonical hs1) (ite_canonical (cellBegin_canonical (cellMatch_canonical hs1))
        (ite_canonical (wr_canonical (setLink_canonical hs1)) (enterSearch_canonical hs1)))
  · exact ite_canonical (cellWord_canonical hs0) (ite_canonical (cellBegin_canonical (cellMiss_canonical hs0))
        (cellBegin_canonical (setLink_canonical hs0)))
  · exact hs0

theorem State.lineBits_canonical {s : State} {n : Nat} {line : List Bool} {ps : Nat} (h : s.canonical) :
    (s.lineBits n line ps).canonical :=
  foldl_canonical (fun _ _ hu => wordIn_canonical hu) (setLink_canonical h)

theorem execLoopPatternCheck_canonical {n : Fin 24} {head rest : List Bool} {ps t : Nat} {s : State} (h : s.canonical) :
    NextCanonical (execLoopPatternCheck n head rest ps t s) :=
  ite_canonical h (ite_canonical (lineBits_canonical (at_canonical h)) (loopPrbs_canonical (setLink_canonical (at_canonical
      h))))

theorem State.supplies_canonical {s : State} {x : TickIn} (h : s.canonical) : (s.supplies x).canonical :=
  wr_canonical (wr_canonical (wr_canonical (wr_canonical (wr_canonical h))))

theorem State.thermalWins_canonical {s : State} {x : TickIn} (h : s.canonical) : (s.thermalWins x).canonical :=
  ite_canonical (setPwr_canonical (wr_canonical (wr_canonical h))) h

theorem State.serviceTick_canonical {s : State} (h : s.canonical) : s.serviceTick.canonical :=
  ite_canonical (epochRenew_canonical h) (cmdTick_canonical (epochRenew_canonical h))

theorem State.unitTick_canonical {s : State} {x : TickIn} (h : s.canonical) : (s.unitTick x).canonical := by
  unfold State.unitTick
  extract_lets s1 s2
  have hs1 : s1.canonical := busyTick_canonical (timTick_canonical (wmEval_canonical (admTick_canonical (stallTick_canonical
      h))))
  have hs2 : s2.canonical := ite_canonical (recTick_canonical hs1) hs1
  exact wr_canonical (wardenPump_canonical (storeTick_canonical hs2))

theorem State.tick_canonical {s : State} {x : TickIn} (h : s.canonical) : (s.tick x).canonical := by
  unfold State.tick
  extract_lets _ s1 s2
  have hs1 : s1.canonical := ite_canonical (enterSmoulder_canonical (thermTick_canonical (supplies_canonical h)))
      (thermTick_canonical (supplies_canonical h))
  have hs2 : s2.canonical := serviceTick_canonical hs1
  exact ite_canonical (shutdown_canonical (thermTick_canonical (supplies_canonical h))) (ite_canonical (resetPump_canonical
      hs2) (evTick_canonical (unitTick_canonical hs2)))

theorem execManagementTick_canonical {x : TickIn} {t : Nat} {s : State} (h : s.canonical) :
    NextCanonical (execManagementTick x t s) := by
  unfold execManagementTick
  extract_lets s1 _ s0
  have hs1 : s1.canonical := sampled_canonical h
  have hs0 : s0.canonical := setPwr_canonical hs1
  exact ite_canonical h (ite_canonical (tick_canonical hs0) (ite_canonical (thermalWins_canonical hs0) h))

theorem State.axisFresh_canonical {s : State} {off : Nat} (h : s.canonical) : (s.axisFresh off).canonical :=
  ite_canonical (sampled_canonical h) h

theorem State.regRead_canonical {s : State} {off : Nat} (h : s.canonical) : (s.regRead off).canonical := by
  unfold State.regRead
  refine ite_canonical (evPop_canonical h) ?_
  refine ite_canonical (tlPop_canonical h) ?_
  refine ite_canonical (mk_canonical h) ?_
  refine ite_canonical ?_ (mk_canonical h)
  split
  · exact mk_canonical h
  · exact mk_canonical h

theorem State.regsRead_canonical {s : State} {os : List Nat} (h : s.canonical) : (s.regsRead os).1.canonical := by
  induction os generalizing s with
  | nil => exact h
  | cons o os ih => exact ih (ite_canonical (regRead_canonical (axisFresh_canonical h)) h)

theorem State.fieldWrite_canonical {s : State} {v : Nat} {f : Fld} (h : s.canonical) : (s.fieldWrite v f).canonical := by
  unfold State.fieldWrite
  split
  · exact ite_canonical h (wr_canonical h)
  · exact wr_canonical h
  · exact clear1_canonical h
  · exact wr_canonical h
  · exact h

theorem State.plainWrite_canonical {s : State} {off v : Nat} (h : s.canonical) : (s.plainWrite off v).canonical := by
  have hfields : ∀ {u : State} {fs : List Fld} {x : Nat}, u.canonical → (fs.foldl (fun s f => s.fieldWrite x f)
      u).canonical :=
    fun hu => foldl_canonical (fun _ _ hu => fieldWrite_canonical hu) hu
  unfold State.plainWrite
  extract_lets fs rwHalf held shut s2 s1
  have h1 : s1.canonical := by
    unfold s1
    refine ite_canonical (ite_canonical h (mk_canonical h)) ?_
    split
    · exact mk_canonical (hfields (hfields h))
    · exact hfields h
  exact ite_canonical (sealedWrite_canonical h1) h1

theorem State.afterWrite_canonical {s : State} {was : Conf} {off : Nat} (h : s.canonical) :
    (s.afterWrite was off).canonical := by
  unfold State.afterWrite
  extract_lets
  exact ite_canonical (evDiscard_canonical h) (ite_canonical (ite_canonical (cmdEnable_canonical h) h) (ite_canonical
      (evLost_canonical h) (ite_canonical (ite_canonical (foldl_canonical (fun _ _ hu => rotBegin_canonical hu) h) h)
      (ite_canonical (ite_canonical (wr_canonical h) h) (ite_canonical (ethReselect_canonical h) (ite_canonical
      (ethConfig_canonical h) (ite_canonical (ethConfig_canonical h) (ite_canonical (wmEval_canonical h) (ite_canonical
      (portFault_canonical h) (ite_canonical (pocCleared_canonical h) (ite_canonical (setLink_canonical h) h)))))))))))

theorem State.regWrite_canonical {s : State} {off v : Nat} (h : s.canonical) : (s.regWrite off v).canonical := by
  unfold State.regWrite
  extract_lets s1
  have hs1 : s1.canonical := plainWrite_canonical h
  exact ite_canonical (msixWrite_canonical h) (ite_canonical (cmdDoorbell_canonical h) (ite_canonical (dqDoorbell_canonical
      h) (ite_canonical (ite_canonical (evrEnable_canonical (wr_canonical hs1)) hs1) (ite_canonical (chkShow_canonical
      (plainWrite_canonical h)) (afterWrite_canonical (plainWrite_canonical h))))))

end Sys2Proof.Machine

end

section

/-! CERTIFICATE. O41: every command, and so every step, keeps the memories canonical. -/

namespace Sys2Proof.Machine

open State

/-- Every command of the machine, whatever its operands, keeps the memories canonical: one row per command. -/
theorem exec_canonical {i : Instr} {s : State} (h : s.canonical) : NextCanonical (exec i s) := by
  cases i with
  | registerWrite => exact ite_canonical (regWrite_canonical (axisFresh_canonical (at_canonical h))) h
  | loReadLatch => exact ite_canonical h (mk_canonical (regsRead_canonical (at_canonical h)))
  | managementTick => exact execManagementTick_canonical h
  | epochCommitSample => exact execEpochCommitSample_canonical h
  | encoderEdge => exact execEncoderEdge_canonical h
  | indexPulse => exact ite_canonical (indexLatch_canonical (wr_canonical (setPort_canonical (at_canonical h)))) h
  | openWire => exact ite_canonical (openWire_canonical (at_canonical h)) h
  | openClear => exact ite_canonical (portFault_canonical (wr_canonical (at_canonical h))) h
  | pwrOvercurrent => exact ite_canonical (encTrip_canonical (at_canonical h)) h
  | encPwrTripClear => exact portFault_canonical (clear1_canonical (at_canonical h))
  | serialReadingStart => exact ite_canonical (setPort_canonical (at_canonical h)) h
  | serialReading => exact execSerialReading_canonical h
  | standstillTimeout => exact execStandstillTimeout_canonical h
  | speedDecay => exact ite_canonical (portChanged_canonical (wr_canonical (at_canonical h))) h
  | slip => exact ite_canonical (raise_canonical (wr_canonical (setAxis_canonical (at_canonical h)))) h
  | slipClear => exact ite_canonical (wr_canonical (at_canonical h)) h
  | axsSnap => exact forAxes_canonical (fun _ _ hu => ite_canonical (snapAxis_canonical hu) hu) (sampled_canonical h)
  | epClrUnc => exact wr_canonical h
  | epClrCnt => exact wr_canonical (wr_canonical (wr_canonical (wr_canonical (wr_canonical (wr_canonical h)))))
  | axClrUnc => exact setAxis_canonical (wr_canonical h)
  | ledgerWinWrite => exact ite_canonical (setStagedEnt_canonical h) (ite_canonical h (sealedWrite_canonical h))
  | ledgerWinReadStaged => exact setWin_canonical h
  | ledgerWinReadActive => exact wrB_canonical (wr_canonical (setWin_canonical h))
  | trgClrCnt => exact wr_canonical (wr_canonical (wr_canonical h))
  | issueFreeze => exact issueFreeze_canonical h
  | triggerIssue => exact execTriggerIssue_canonical h
  | exposureEndIssue => exact execExposureEndIssue_canonical h
  | strobeIssue => exact execStrobeIssue_canonical h
  | strobePulseEnd => exact execStrobePulseEnd_canonical h
  | strobeClip => exact execStrobeClip_canonical h
  | blankingWindowClose => exact execBlankingWindowClose_canonical h
  | flickerReport => exact execFlickerReport_canonical h
  | lightHoldover => exact ite_canonical (liteHold_canonical (at_canonical h)) h
  | lightLost => exact execLightLost_canonical h
  | signalDetect => exact execSignalDetect_canonical h
  | cdrLock => exact execCdrLock_canonical h
  | signalLost => exact cdrLoss_canonical (setLink_canonical (at_canonical h))
  | forwardCell => exact ite_canonical h (lineBits_canonical (at_canonical h))
  | hitWindowDone => exact ite_canonical (wr_canonical (at_canonical h)) h
  | bitslip => exact bitslip_canonical (at_canonical h)
  | alignProcedure => exact execAlignProcedure_canonical h
  | frameStart => exact ite_canonical (startPacket_canonical (at_canonical h)) h
  | line => exact ite_canonical (lineIn_canonical (at_canonical h)) h
  | frameEnd => exact ite_canonical (endPacket_canonical (at_canonical h)) h
  | embedded => exact ite_canonical (embedIn_canonical (at_canonical h)) h
  | bcAck => exact ite_canonical (bcAck_canonical (at_canonical h)) h
  | echoReply => exact ite_canonical (echoReply_canonical (at_canonical h)) h
  | gpioIn => exact ite_canonical (wr_canonical (at_canonical h)) h
  | telemetry => exact ite_canonical (telemetry_canonical (at_canonical h)) h
  | loopPacket => exact ite_canonical (loopPacket_canonical (at_canonical h)) h
  | bcAckTimeout => exact execBcAckTimeout_canonical h
  | readIdRetry => exact execReadIdRetry_canonical h
  | echoSend => exact execEchoSend_canonical h
  | echoReplyTimeout => exact execEchoReplyTimeout_canonical h
  | echoBurstEnd => exact execEchoBurstEnd_canonical h
  | echoBurstRetry => exact execEchoBurstRetry_canonical h
  | periodicEcho => exact ite_canonical (setLink_canonical (used_canonical (at_canonical h))) h
  | echoNow => exact ite_canonical (burstStart_canonical (at_canonical h)) h
  | gpioRefresh => exact ite_canonical (gpioSend_canonical (at_canonical h)) h
  | bankExitLate => exact execBankExitLate_canonical h
  | rateFallback => exact execRateFallback_canonical h
  | pocVoutReached => exact execPocVoutReached_canonical h
  | pocStartTimeout => exact ite_canonical (pocTrip_canonical (at_canonical h)) h
  | pocShort => exact execPocShort_canonical h
  | pocOvercurrent => exact execPocOvercurrent_canonical h
  | pocOpen => exact execPocOpen_canonical h
  | pocOpenClear => exact execPocOpenClear_canonical h
  | pocBackfeed => exact ite_canonical (raise_canonical (wrB_canonical (at_canonical h))) (wrB_canonical (at_canonical h))
  | pocStaggerStart => exact execPocStaggerStart_canonical h
  | pocFaultClear => exact pocCleared_canonical (clear1_canonical (clear1_canonical (at_canonical h)))
  | lnkClrCnt => exact execLnkClrCnt_canonical h
  | lnkInjPocOpen => exact ite_canonical h (pocOpen_canonical h)
  | lnkInjPocShort => exact ite_canonical h (pocTrip_canonical h)
  | lnkInjSync => exact ite_canonical h (setLink_canonical h)
  | lnkInjPcrc => exact ite_canonical h (setLink_canonical h)
  | lnkInjHcrc => exact ite_canonical h (setLink_canonical h)
  | datapathTurn => exact execDatapathTurn_canonical h
  | fillLineWrite => exact execFillLineWrite_canonical h
  | frameRecordWrite => exact execFrameRecordWrite_canonical h
  | frameTimeout => exact execFrameTimeout_canonical h
  | ingClrCnt => exact foldl_canonical (fun _ _ hu => foldl_canonical (fun _ _ hu => wr_canonical hu) hu) h
  | ingInjFlkBad => exact ite_canonical h (setCtx_canonical h)
  | ingInjMaperr => exact ite_canonical h (setCtx_canonical h)
  | ingInjLinedrop => exact ite_canonical h (setCtx_canonical h)
  | kernelStart => exact ite_canonical (kernelChange_canonical (at_canonical h)) h
  | add => exact issueReg_canonical h
  | sub => exact issueReg_canonical h
  | and => exact issueReg_canonical h
  | or => exact issueReg_canonical h
  | xor => exact issueReg_canonical h
  | shl => exact issueReg_canonical h
  | shr => exact issueReg_canonical h
  | sra => exact issueReg_canonical h
  | slt => exact issueReg_canonical h
  | sltu => exact issueReg_canonical h
  | min => exact issueReg_canonical h
  | max => exact issueReg_canonical h
  | mul => exact issueReg_canonical h
  | mulh => exact issueReg_canonical h
  | mulhu => exact issueReg_canonical h
  | adds => exact issueReg_canonical h
  | subs => exact issueReg_canonical h
  | clz => exact issueReg_canonical h
  | popc => exact issueReg_canonical h
  | addi => exact issueReg_canonical h
  | andi => exact issueReg_canonical h
  | ori => exact issueReg_canonical h
  | xori => exact issueReg_canonical h
  | slti => exact issueReg_canonical h
  | lui => exact issueReg_canonical h
  | shi => exact issueReg_canonical h
  | ldw => exact issue_canonical (fun _ _ hu => jMemOp_canonical hu) h
  | stw => exact issue_canonical (fun _ _ hu => jMemOp_canonical hu) h
  | ldh => exact issue_canonical (fun _ _ hu => jMemOp_canonical hu) h
  | ldhu => exact issue_canonical (fun _ _ hu => jMemOp_canonical hu) h
  | sth => exact issue_canonical (fun _ _ hu => jMemOp_canonical hu) h
  | ldbu => exact issue_canonical (fun _ _ hu => jMemOp_canonical hu) h
  | stb => exact issue_canonical (fun _ _ hu => jMemOp_canonical hu) h
  | amoadd => exact issue_canonical (fun _ _ hu => jAmo_canonical hu) h
  | amoswap => exact issue_canonical (fun _ _ hu => jAmo_canonical hu) h
  | amomaxu => exact issue_canonical (fun _ _ hu => jAmo_canonical hu) h
  | beq => exact issue_canonical (fun _ _ hu => jBranch_canonical hu) h
  | bne => exact issue_canonical (fun _ _ hu => jBranch_canonical hu) h
  | blt => exact issue_canonical (fun _ _ hu => jBranch_canonical hu) h
  | bge => exact issue_canonical (fun _ _ hu => jBranch_canonical hu) h
  | bltu => exact issue_canonical (fun _ _ hu => jBranch_canonical hu) h
  | bgeu => exact issue_canonical (fun _ _ hu => jBranch_canonical hu) h
  | jal => exact issue_canonical (fun _ _ hu => jJal_canonical hu) h
  | jalr => exact issue_canonical (fun _ _ hu => jJalr_canonical hu) h
  | loop => exact issue_canonical (fun _ _ hu => jLoop_canonical hu) h
  | halt => exact issue_canonical (fun _ _ hu => jHalt_canonical hu) h
  | fence => exact issue_canonical (fun _ _ hu => hu) h
  | trap => exact issue_canonical (fun _ _ hu => jTrap_canonical hu) h
  | bar => exact execBar_canonical h
  | csrr => exact issue_canonical (fun _ _ hu => jCsrr_canonical hu) h
  | csrw => exact issue_canonical (fun _ _ hu => jCsrw_canonical hu) h
  | dmago => exact dmaFault_canonical (issue_canonical (fun _ _ hu => jDmago_canonical hu) h)
  | dmawt => exact issue_canonical (fun _ _ hu => jDmawt_canonical hu) h
  | dmaTransferDone => exact execDmaTransferDone_canonical h
  | slen => exact ite_canonical (libSlen_canonical h) (issue_canonical (fun _ _ hu => jSlen_canonical hu) h)
  | srdw => exact issue_canonical (fun _ _ hu => jSrdw_canonical hu) h
  | sbeg => exact issue_canonical (fun _ _ hu => jSbeg_canonical hu) h
  | swrw => exact issue_canonical (fun _ _ hu => jSwrw_canonical hu) h
  | send => exact ite_canonical (libSend_canonical h) (issue_canonical (fun _ _ hu => jSend_canonical hu) h)
  | savail => exact issue_canonical (fun _ _ hu => jSavail_canonical hu) h
  | streamWaitEnd => exact execStreamWaitEnd_canonical h
  | vadd => exact issueReg_canonical h
  | vsub => exact issueReg_canonical h
  | vaddsS => exact issueReg_canonical h
  | vaddsU => exact issueReg_canonical h
  | vsubsS => exact issueReg_canonical h
  | vsubsU => exact issueReg_canonical h
  | vand => exact issueReg_canonical h
  | vor => exact issueReg_canonical h
  | vxor => exact issueReg_canonical h
  | vminS => exact issueReg_canonical h
  | vminU => exact issueReg_canonical h
  | vmaxS => exact issueReg_canonical h
  | vmaxU => exact issueReg_canonical h
  | vabsdU => exact issueReg_canonical h
  | vavgU => exact issueReg_canonical h
  | vmul => exact issueReg_canonical h
  | vmulhS => exact issueReg_canonical h
  | vmulhU => exact issueReg_canonical h
  | vmulq => exact issueReg_canonical h
  | vshl => exact issueReg_canonical h
  | vshrU => exact issueReg_canonical h
  | vshrS => exact issueReg_canonical h
  | vsel => exact issueReg_canonical h
  | vabsS => exact issueReg_canonical h
  | valui => exact issueReg_canonical h
  | vshi => exact issueReg_canonical h
  | vcmp => exact issueReg_canonical h
  | vsplat => exact issueReg_canonical h
  | vext => exact issueReg_canonical h
  | vins => exact issueReg_canonical h
  | vperm => exact issueReg_canonical h
  | vidx => exact issueReg_canonical h
  | vpackb => exact issueReg_canonical h
  | vunpkl => exact issueReg_canonical h
  | vunpkh => exact issueReg_canonical h
  | vredaddS => exact issueReg_canonical h
  | vredaddU => exact issueReg_canonical h
  | vredmaxU => exact issueReg_canonical h
  | vredminU => exact issueReg_canonical h
  | vmov => exact issueReg_canonical h
  | vsldi => exact issueReg_canonical h
  | pand => exact issueReg_canonical h
  | por => exact issueReg_canonical h
  | pxor => exact issueReg_canonical h
  | pandn => exact issueReg_canonical h
  | pnot => exact issueReg_canonical h
  | pfromx => exact issueReg_canonical h
  | ptox => exact issueReg_canonical h
  | pfirst => exact issueReg_canonical h
  | vmacS => exact issueReg_canonical h
  | vmacU => exact issueReg_canonical h
  | vmacSu => exact issueReg_canonical h
  | vmsuS => exact issueReg_canonical h
  | vmulaS => exact issueReg_canonical h
  | vmulaU => exact issueReg_canonical h
  | vaclr => exact issueReg_canonical h
  | vacc => exact issueReg_canonical h
  | vld => exact issue_canonical (fun _ _ hu => jVld_canonical hu) h
  | vst => exact issue_canonical (fun _ _ hu => jVst_canonical hu) h
  | vgath => exact issue_canonical (fun _ _ hu => jVgath_canonical hu) h
  | vscat => exact issue_canonical (fun _ _ hu => jVscat_canonical hu) h
  | vsrd => exact issue_canonical (fun _ _ hu => jVsrd_canonical hu) h
  | vswr => exact issue_canonical (fun _ _ hu => jVswr_canonical hu) h
  | smp => exact issue_canonical (fun _ _ hu => jSmp_canonical hu) h
  | longForm => exact issue_canonical (fun _ _ hu => jLong_canonical hu) h
  | watchdog => exact ite_canonical (engExc_canonical (at_canonical h)) h
  | engInjIllegal => exact ite_canonical h (setEng_canonical h)
  | engInjWdog => exact ite_canonical (engExc_canonical h) h
  | engInjDmemEcc => exact ite_canonical h (setEng_canonical h)
  | engInjImemEcc => exact ite_canonical h (setEng_canonical h)
  | engineChangeover => exact ite_canonical (kernelChange_canonical (at_canonical h)) h
  | graphDrainLate => exact execGraphDrainLate_canonical h
  | nodeRestart => exact execNodeRestart_canonical h
  | deliveryItem => exact execDeliveryItem_canonical h
  | chkSwap => exact chkShow_canonical (wr_canonical (wr_canonical h))
  | chkReset => exact execChkReset_canonical h
  | chkValueWrite => exact chkShow_canonical (wr_canonical h)
  | chkInjFlip => exact ite_canonical h (setChk_canonical h)
  | swathLineItem => exact execSwathLineItem_canonical h
  | swathFrameRecord => exact execSwathFrameRecord_canonical h
  | swathForceEval => exact execSwathForceEval_canonical h
  | rowCompute => exact execRowCompute_canonical h
  | stripTimeout => exact execStripTimeout_canonical h
  | patrolScrub => exact execPatrolScrub_canonical h
  | ceBucketLeak => exact ite_canonical (wr_canonical (setMemu_canonical (at_canonical h))) h
  | scrubGo => exact execScrubGo_canonical h
  | scrubAbort => exact execScrubAbort_canonical h
  | scrubDone => exact execScrubDone_canonical h
  | granuleMigrate => exact execGranuleMigrate_canonical h
  | marginSwitch => exact execMarginSwitch_canonical h
  | memClrCnt => exact foldl_canonical (fun _ _ hu => wr_canonical (wr_canonical hu)) h
  | memInj1bit => exact memInject_canonical h
  | memInj2bit => exact memInject_canonical h
  | memInj3bit => exact memInject_canonical h
  | memInjPage => exact memInject_canonical h
  | memInjCrc => exact memInject_canonical h
  | hostLink => exact execHostLink_canonical h
  | pcieReset => exact ite_canonical (hostReset_canonical (at_canonical h)) h
  | functionLevelReset => exact ite_canonical (hostReset_canonical (at_canonical h)) h
  | d3hotEntry => exact ite_canonical (hostReset_canonical (at_canonical h)) h
  | queueDoorbell => exact dqDoorbell_canonical (at_canonical h)
  | descriptorFetch => exact execDescriptorFetch_canonical h
  | chunkWrite => exact execChunkWrite_canonical h
  | itemComplete => exact execItemComplete_canonical h
  | itemTimeout => exact execItemTimeout_canonical h
  | linkStall => exact ite_canonical h (countStall_canonical (at_canonical h))
  | queueFlush => exact flushAsk_canonical (readQueueEnd_canonical (at_canonical h))
  | flushDone => exact ite_canonical (wmEval_canonical (flushRun_canonical (at_canonical h))) h
  | dlvClrCnt => exact wr_canonical (wr_canonical (wr_canonical (wr_canonical (wr_canonical (wr_canonical h)))))
  | dlvInjDesc => exact ite_canonical h (setDq_canonical h)
  | dlvInjLate => exact ite_canonical h (setDq_canonical h)
  | dlvInjRefuse => exact ite_canonical h (setDq_canonical h)
  | dlvInjStall => exact ite_canonical h (mk_canonical h)
  | dlvStallClr => exact wr_canonical h
  | eventPeekPop => exact evPop_canonical h
  | eventRingEnable => exact evrEnable_canonical h
  | eventRecord => exact execEventRecord_canonical h
  | coalesceTimeout => exact execCoalesceTimeout_canonical h
  | recorderItem => exact execRecorderItem_canonical h
  | extentTimeout => exact execExtentTimeout_canonical h
  | nandProgramDone => exact execNandProgramDone_canonical h
  | journalPageTimeout => exact ite_canonical (recPump_canonical (setRcd_canonical (at_canonical h))) h
  | journalProgramDone => exact execJournalProgramDone_canonical h
  | groupErase => rw [exec]; exact execGroupErase_canonical h
  | groupEraseDone => exact execGroupEraseDone_canonical h
  | readoutItem => exact execReadoutItem_canonical h
  | recorderRecovery => exact execRecorderRecovery_canonical h
  | recClrCnt => exact foldl_canonical (fun _ _ hu => wr_canonical (wr_canonical hu)) (wr_canonical (wr_canonical h))
  | recInjJsplit => exact ite_canonical h (setRcd_canonical h)
  | recInjReadUe => exact ite_canonical h (setRcd_canonical h)
  | recInjProgfail => exact ite_canonical h (setRcd_canonical h)
  | ethLink => exact execEthLink_canonical h
  | ethFrameDiscard => exact ite_canonical (addSat_canonical (at_canonical h)) h
  | sync => exact execSync_canonical h
  | followUp => exact execFollowUp_canonical h
  | announce => exact execAnnounce_canonical h
  | pdelayReq => exact ite_canonical h (setEth_canonical (wr_canonical (ethEvent_canonical (at_canonical h))))
  | pdelayResp => exact execPdelayResp_canonical h
  | signaling => exact execSignaling_canonical h
  | pdelayReqSend => exact execPdelayReqSend_canonical h
  | syncSend => exact ite_canonical h (setEth_canonical (wr_canonical (at_canonical h)))
  | syncTimeout => exact execSyncTimeout_canonical h
  | gmSettle => exact execGmSettle_canonical h
  | timInjGmchg => exact ite_canonical h (setTime_canonical h)
  | timInjSyncto => exact ite_canonical h (syncLost_canonical (at_canonical h))
  | ethInjPdelay => exact ite_canonical h (setEth_canonical h)
  | ethClrCnt => exact wr_canonical (wr_canonical (wr_canonical (wr_canonical h)))
  | cmdDoorbell => exact ite_canonical (cmdDoorbell_canonical (at_canonical h)) h
  | commandTimeout => exact foldl_canonical (fun _ _ hu => cmdTimeout_canonical hu) (ite_canonical (at_canonical h) h)
  | sysIdent => exact anyCommand_canonical (fun _ _ hs => cmdSysIdent_canonical hs) h
  | epochCommit => exact svcCommand_canonical (fun _ _ hs => cmdEpochCommit_canonical hs) h
  | epochCancel => exact svcCommand_canonical (fun _ _ hs => cmdEpochCancel_canonical hs) h
  | epochStatus => exact svcCommand_canonical (fun _ _ hs => cmdEpochStatus_canonical hs) h
  | epochLapse => exact execEpochLapse_canonical h
  | epochExpiry => exact execEpochExpiry_canonical h
  | stageDiscard => exact svcCommand_canonical (fun _ _ hs => cmdStageDiscard_canonical hs) h
  | sysResetWarm => exact resetPump_canonical (anyCommand_canonical (fun _ _ hs => cmdSysReset_canonical hs) h)
  | sysResetFull => exact resetPump_canonical (anyCommand_canonical (fun _ _ hs => cmdSysReset_canonical hs) h)
  | sysPowerRun => exact svcCommand_canonical (fun _ _ hs => cmdSysPower_canonical hs) h
  | sysPowerSmoulder => exact svcCommand_canonical (fun _ _ hs => cmdSysPower_canonical hs) h
  | storeRead => exact svcCommand_canonical (fun _ _ hu => cmdStoreRead_canonical hu) h
  | storeWrite => exact execStoreWrite_canonical h
  | storeStatus => exact svcCommand_canonical (fun _ _ hs => cmdStoreStatus_canonical hs) h
  | linkSummary => exact svcCommand_canonical (fun _ _ hs => cmdLinkSummary_canonical hs) h
  | linkRestart => exact svcCommand_canonical (fun _ _ hs => cmdLinkRestart_canonical hs) h
  | settingsLoad => exact execSettingsLoad_canonical h
  | ledgerBulk => exact execLedgerBulk_canonical h
  | ledgerRead => exact svcCommand_canonical (fun _ _ hs => cmdLedgerRead_canonical hs) h
  | gddrWrite => exact svcCommand_canonical (fun _ _ hu => cmdGddrWrite_canonical hu) h
  | gddrRead => exact svcCommand_canonical (fun _ _ hs => cmdGddrRead_canonical hs) h
  | graphLoad => exact svcCommand_canonical (fun _ _ hs => cmdGraphLoad_canonical hs) h
  | flueStatus => exact svcCommand_canonical (fun _ _ hs => cmdFlueStatus_canonical hs) h
  | graphEvten => exact svcCommand_canonical (fun _ _ hs => cmdGraphEvten_canonical hs) h
  | swathLoad => exact svcCommand_canonical (fun _ _ hs => cmdSwathLoad_canonical hs) h
  | swathClrCnt => exact svcCommand_canonical (fun _ _ hs => cmdSwathCtl_canonical hs) h
  | swathInjGap => exact svcCommand_canonical (fun _ _ hs => cmdSwathCtl_canonical hs) h
  | swathInjFull => exact svcCommand_canonical (fun _ _ hs => cmdSwathCtl_canonical hs) h
  | swathInjOverspeed => exact svcCommand_canonical (fun _ _ hs => cmdSwathCtl_canonical hs) h
  | swathEvten => exact svcCommand_canonical (fun _ _ hs => cmdSwathCtl_canonical hs) h
  | swathStatus => exact svcCommand_canonical (fun _ _ hs => cmdSwathStatus_canonical hs) h
  | streamOpen => exact svcCommand_canonical (fun _ _ hs => cmdStreamOpen_canonical hs) h
  | streamClose => exact svcCommand_canonical (fun _ _ hs => cmdStreamClose_canonical hs) h
  | streamResume => exact svcCommand_canonical (fun _ _ hs => cmdStreamResume_canonical hs) h
  | streamModify => exact svcCommand_canonical (fun _ _ hs => cmdStreamModify_canonical hs) h
  | markSet => exact execMarkSet_canonical h
  | markClear => exact execMarkClear_canonical h
  | pinSet => exact execPinSet_canonical h
  | pinClear => exact execPinClear_canonical h
  | readStart => exact svcCommand_canonical (fun _ _ hs => cmdReadStart_canonical hs) h
  | readStop => exact svcCommand_canonical (fun _ _ hs => cmdReadStop_canonical hs) h
  | timeRearm => exact svcCommand_canonical (fun _ _ hs => cmdTimeRearm_canonical hs) h
  | timeStatus => exact svcCommand_canonical (fun _ _ hs => cmdTimeStatus_canonical hs) h
  | twWrite => exact twCommand_canonical h
  | twRead => exact twCommand_canonical h
  | twWriteRead => exact twCommand_canonical h
  | twBlockWrite => exact twCommand_canonical h
  | twBlockRead => exact twCommand_canonical h
  | twXferDone => exact execTwXferDone_canonical h
  | twClear => exact svcCommand_canonical (fun _ _ hs => cmdTwClear_canonical hs) h
  | twTimeout => exact execTwTimeout_canonical h
  | fenceChannel => exact svcCommand_canonical (fun _ _ hs => cmdFenceChannel_canonical hs) h
  | fenceCluster => exact svcCommand_canonical (fun _ _ hs => cmdFenceCluster_canonical hs) h
  | engineTest => exact svcCommand_canonical (fun _ _ hs => cmdEngineTest_canonical hs) h
  | fwUpdate => exact execFwUpdate_canonical h
  | attest => exact wardenCommand_canonical (fun _ _ hs => cmdAttest_canonical hs) h
  | debugChallenge => exact wardenCommand_canonical (fun _ _ hs => cmdDebugChallenge_canonical hs) h
  | debugUnlock => exact execDebugUnlock_canonical h
  | debugLock => exact wardenCommand_canonical (fun _ _ hs => cmdDebugLock_canonical hs) h
  | securityLog => exact wardenCommand_canonical (fun _ _ hs => cmdSecurityLog_canonical hs) h
  | debugNonceExpiry => exact execDebugNonceExpiry_canonical h
  | lockstepMismatch => exact ite_canonical h (lockstep_canonical (at_canonical h))
  | wardenResume => exact ite_canonical (wr_canonical (at_canonical h)) h
  | accessViolation => exact accessViolation_canonical (mk_canonical (at_canonical h))
  | cmdInjLapse => exact ite_canonical h (mk_canonical h)
  | cmdInjSplit => exact ite_canonical h (setFirm_canonical h)
  | cmdInjAccess => exact ite_canonical h (accessViolation_canonical (at_canonical h))
  | smbusIdent => exact ite_canonical (stpRead_canonical (at_canonical h)) h
  | smbusStatus => exact ite_canonical (stpRead_canonical (at_canonical h)) h
  | smbusSubmit => exact execSmbusSubmit_canonical h
  | smbusReply => exact execSmbusReply_canonical h
  | stpAbandon => exact execStpAbandon_canonical h
  | stpWake => exact ite_canonical (setPwr_canonical (set1_canonical (wakePend_canonical (at_canonical h)))) h
  | stpSclTimeout => exact ite_canonical (wr_canonical (at_canonical h)) h
  | twbClrCnt => exact wr_canonical (wr_canonical (wr_canonical (wr_canonical (wr_canonical (wr_canonical h)))))
  | twbInjScltmo => exact ite_canonical h (setTwp_canonical h)
  | twbInjStuck => exact ite_canonical h (setTwp_canonical h)
  | twbInjNack => exact ite_canonical h (setTwp_canonical h)
  | modelFallback => exact execModelFallback_canonical h
  | sensorFault => exact ite_canonical (sensorSample_canonical (at_canonical h)) h
  | sensorValid => exact ite_canonical (wr_canonical (at_canonical h)) h
  | shutdownDeferralEnd => exact ite_canonical (deferEnd_canonical (at_canonical h)) h
  | hardwareTrip => exact ite_canonical (deferEnd_canonical (shutdown_canonical (at_canonical h))) h
  | telemetryPeekPop => exact tlPop_canonical h
  | thmClrShut => exact wr_canonical (wr_canonical h)
  | thmClrPeak => exact wr_canonical h
  | thmInjDiode => exact ite_canonical h (setThm_canonical h)
  | thmInjCase => exact ite_canonical h (setThm_canonical h)
  | thmInjFallback => exact ite_canonical h (fallback_canonical (at_canonical h))
  | serviceHeartbeat => exact ite_canonical (setDiag_canonical (at_canonical h)) h
  | serviceStopped => exact ite_canonical (svcStop_canonical (at_canonical h)) h
  | serviceRestarted => exact execServiceRestarted_canonical h
  | rotationTake => exact execRotationTake_canonical h
  | standbyTakeover => exact execStandbyTakeover_canonical h
  | takeoverSkipped => exact execTakeoverSkipped_canonical h
  | selftestDone => exact execSelftestDone_canonical h
  | standbyRelease => exact execStandbyRelease_canonical h
  | fenceWanted => exact execFenceWanted_canonical h
  | telemetryRecord => exact ite_canonical (telWrite_canonical (at_canonical h)) h
  | diaLock => exact wr_canonical (wr_canonical h)
  | diaInjEpDoubleStep => exact injEp_canonical (fun _ hu => edgeFault_canonical hu) h
  | diaInjEpEdgeFast => exact injEp_canonical (fun _ hu => edgeFault_canonical hu) h
  | diaInjEpHallInvalid => exact injEp_canonical (fun _ hu => edgeFault_canonical hu) h
  | diaInjEpHallSkip => exact execDiaInjEpHallSkip_canonical h
  | diaInjEpOpen => exact ite_canonical h (openWire_canonical (at_canonical h))
  | diaInjEpTrip => exact ite_canonical h (encTrip_canonical (at_canonical h))
  | diaInjEpSerial => exact injEp_canonical (fun _ hu => serialError_canonical hu) h
  | diaInjEpIndex => exact ite_canonical h (injEp_canonical (fun _ hu => edgeFault_canonical (used_canonical hu)) h)
  | diaInjAxSlip => exact ite_canonical h (setAxis_canonical (at_canonical h))
  | diaInjTroSkip => exact ite_canonical h (setStrobe_canonical h)
  | diaInjTroClip => exact ite_canonical h (setStrobe_canonical h)
  | diaInjLnkFrameEnd => exact ite_canonical h (setLink_canonical h)
  | diaInjLnkBcAck => exact ite_canonical h (setLink_canonical h)
  | diaInjLnkEcho => exact ite_canonical h (setLink_canonical h)
  | diaInjLnkCdr => exact ite_canonical h (cdrLoss_canonical (at_canonical h))
  | diaInjSysVindip => exact ite_canonical (dipBegin_canonical (at_canonical h)) h
  | diaInjSysStrapTw => exact ite_canonical h (raise_canonical (wr_canonical (at_canonical h)))
  | diaInjSysStrapMod => exact ite_canonical h (raise_canonical (wr_canonical (at_canonical h)))
  | diaInjSysSvcHang => exact ite_canonical h (setDiag_canonical h)
  | diaInjSysLockstep => exact ite_canonical h (lockstep_canonical (at_canonical h))
  | diaInjStFail => exact ite_canonical h (setDiag_canonical h)
  | powerOn => exact execPowerOn_canonical h
  | holdEnter => exact ite_canonical (dipBegin_canonical (at_canonical h)) h
  | vinDip => exact execVinDip_canonical h
  | holdExit => exact ite_canonical (recEval_canonical (raise_canonical (wr_canonical (at_canonical h)))) h
  | undervoltageShutdown => exact ite_canonical (shutdown_canonical (at_canonical h)) h
  | vinOver => exact execVinOver_canonical h
  | overvoltageShutdown => exact ite_canonical (shutdown_canonical (at_canonical h)) h
  | brownOut => exact execBrownOut_canonical h
  | keepaliveLoss => exact execKeepaliveLoss_canonical h
  | vauxLow => exact ite_canonical h (raise_canonical (wrB_canonical (at_canonical h)))
  | vcamFault => exact execVcamFault_canonical h
  | vcamRestore => exact execVcamRestore_canonical h
  | vioLost => exact ite_canonical (raise_canonical (wr_canonical (at_canonical h))) h
  | vioRestored => exact ite_canonical (raise_canonical (wr_canonical (setPwr_canonical (at_canonical h)))) h
  | smoulderReached => exact ite_canonical (smoulder_canonical (at_canonical h)) h
  | wakeNAssert => exact ite_canonical (wakePend_canonical (at_canonical h)) h
  | wakeTimer => exact ite_canonical (wakePend_canonical (at_canonical h)) h
  | wakeVinReturn => exact ite_canonical (wakePend_canonical (at_canonical h)) h
  | wake => exact execWake_canonical h
  | resetNAssert => exact ite_canonical (fullReset_canonical (at_canonical h)) h
  | resetNRelease => exact ite_canonical (setPwr_canonical (at_canonical h)) h
  | sysClrMin => exact wr_canonical h
  | sysClrDown => exact wr_canonical (wr_canonical h)
  | sysClrCnt => exact wr_canonical (wr_canonical h)
  | stageRom => exact execStageRom_canonical h
  | stageWarden => exact ite_canonical (stageDone_canonical (wr_canonical (at_canonical h))) h
  | stageTrain => exact execStageTrain_canonical h
  | stageClear => exact execStageClear_canonical h
  | stageService => exact execStageService_canonical h
  | stageReady => exact execStageReady_canonical h
  | announceReceiptTimeout => exact ite_canonical (ethReselect_canonical (setEth_canonical (at_canonical h))) h
  | keepaliveStart => exact ite_canonical h (aliveStart_canonical (at_canonical h))
  | ledgerTargetReached => exact ite_canonical (fireReached_canonical (sampled_canonical h)) h
  | equaliserStep => exact ite_canonical (setLink_canonical (at_canonical h)) h
  | haltedWardenDiodeTrip => exact ite_canonical (shutdown_canonical (at_canonical h)) h
  | loopPatternCheck => exact execLoopPatternCheck_canonical h
  | debugPortAccess => exact ite_canonical (ite_canonical (wr_canonical (at_canonical h)) (at_canonical h)) h
  | ethResetRelease => exact ite_canonical (setEth_canonical (at_canonical h)) h

/-- Settles O41: `step` either idles or carries out one command, and every command keeps the form. -/
theorem everyStepKeepsMemoriesCanonical : Obligations.EveryStepKeepsMemoriesCanonical := by
  intro s t h hstep
  unfold step at hstep
  split at hstep
  · exact Host.Outcome.next.inj hstep ▸ h
  next i is _ =>
    have hnext := exec_canonical (i := i) (mk_canonical h : State.canonical { s with pending := is })
    rw [hstep] at hnext
    exact hnext

end Sys2Proof.Machine

end

section

/-! SUPPORT. Issue of an instruction: a read of clean memory changes nothing (R262), a legal word that its row names has that
row's effect (R180 to R183), and what its completion leaves (R198, R207). -/

namespace Sys2Proof.Machine

/-! ### Reads of clean memory -/

/-- No engine memory that `m` names has an injected error waiting (R207). -/
def State.NoInjection (s : State) : MemId → Prop
  | .dmem g => (s.eng g).injDmem = false
  | .imem g => (s.eng g).injImem = false
  | _ => True

theorem eccInjected_eq_self {s : State} {m : MemId} (a n : Nat) (h : s.NoInjection m) : s.eccInjected m a n = s := by
  unfold State.eccInjected
  cases m <;> simp_all [State.NoInjection]

theorem crcCheck_clean {s : State} (m : MemId) (a n : Nat) (h : s.clean) : s.crcCheck m a n = (s, []) := by
  obtain ⟨_, _, hcrc⟩ := h
  simp [State.crcCheck, hcrc]

theorem memRead_clean {s : State} {m : MemId} (a n : Nat) (h : s.clean) (hm : s.NoInjection m) :
    s.memRead m a n = (s.memBytes m a n, false, s) := by
  obtain ⟨hfaults, _, _⟩ := id h
  simp [State.memRead, eccInjected_eq_self a n hm, crcCheck_clean m a n h, State.faultsIn, hfaults, State.meetWords]

/-- A store into clean memory puts its bytes and does nothing else. -/
theorem memWrite_clean {s : State} {m : MemId} (a : Nat) {bs : List Nat} (h : s.clean) (hbs : bs ≠ []) :
    s.memWrite m a bs = s.memPut m a bs := by
  obtain ⟨hfaults, harm, _⟩ := id h
  have hmemu : (s.memPut m a bs).memu = s.memu := by cases m <;> rfl
  have hclean : (s.memPut m a bs).clean := by rwa [State.clean, hmemu]
  simp [State.memWrite, hbs, State.meetPart, hfaults, State.cleanWords, hmemu, crcCheck_clean m a _ hclean,
    State.meetWords, State.injWrite, harm]

/-! ### Completion -/

/-- The four forms of a key of engine `g` that completion writes, told apart. -/
theorem retireRegs_keys (g : Nat) :
    (ENG.PC g).key ≠ (ENG.RET_LO_RET g).key ∧ (ENG.PC g).key ≠ (ENG.RET_HI_RET g).key ∧
    (ENG.RET_LO_RET g).key ≠ (ENG.RET_HI_RET g).key := by
  simp only [Fld.key, ENG.PC, ENG.RET_LO_RET, ENG.RET_HI_RET]
  omega

@[simp] theorem eng_wr (s : State) (f : Fld) (v g : Nat) : (s.wr f v).eng g = s.eng g := rfl

@[simp] theorem rd_setEng (s : State) (g : Nat) (e : Engine) (f : Fld) : (s.setEng g e).rd f = s.rd f := rfl

@[simp] theorem retired_eng (s : State) (g h : Nat) : (s.retired g).eng h = s.eng h := rfl

@[simp] theorem retired_now (s : State) (g : Nat) : (s.retired g).now = s.now := rfl

theorem retired_count (s : State) (g : Nat) : retiredCount (s.retired g) g = (retiredCount s g + 1) % 2 ^ 64 := by
  obtain ⟨_, _, hlohi⟩ := retireRegs_keys g
  unfold retiredCount State.retired
  rw [rd_wr_ne _ _ hlohi, rd_wr_same, rd_wr_same]
  simp only [ENG.RET_LO_RET, ENG.RET_HI_RET]
  omega

theorem retired_rd_ne (s : State) {g : Nat} {f : Fld} (h : f.key ∉ (retireRegs g).map Fld.key) :
    (s.retired g).rd f = s.rd f := by
  simp only [retireRegs, List.map_cons, List.map_nil, List.mem_cons, List.not_mem_nil, or_false, not_or] at h
  obtain ⟨_, hlo, hhi⟩ := h
  unfold State.retired
  rw [rd_wr_ne _ _ hhi, rd_wr_ne _ _ hlo]

theorem retired_engPc (s : State) (g : Nat) : (s.retired g).engPc g = s.engPc g := by
  obtain ⟨hpclo, hpchi, _⟩ := retireRegs_keys g
  unfold State.engPc State.retired
  rw [rd_wr_ne _ _ hpchi, rd_wr_ne _ _ hpclo]

theorem retiredCount_wr_pc (s : State) (g v : Nat) : retiredCount (s.wr (ENG.PC g) v) g = retiredCount s g := by
  obtain ⟨hpclo, hpchi, _⟩ := retireRegs_keys g
  unfold retiredCount
  rw [rd_wr_ne _ _ hpclo.symm, rd_wr_ne _ _ hpchi.symm]

/-- The state in which engine `g` goes on at `pc` as `e'`, one more instruction retired. -/
def State.completed (s : State) (g pc : Nat) (e' : Engine) : State := ((s.setEng g e').wr (ENG.PC g) pc).retired g

@[simp] theorem completed_now (s : State) (g pc : Nat) (e' : Engine) : (s.completed g pc e').now = s.now := rfl
@[simp] theorem completed_mems (s : State) (g pc : Nat) (e' : Engine) : (s.completed g pc e').mems = s.mems := rfl
@[simp] theorem completed_graph (s : State) (g pc : Nat) (e' : Engine) : (s.completed g pc e').graph = s.graph := rfl
@[simp] theorem completed_eng (s : State) (g pc : Nat) (e' : Engine) : (s.completed g pc e').eng g = e' := by
  simp [State.completed]
theorem completed_eng_ne (s : State) {g k : Nat} (pc : Nat) (e' : Engine) (h : k ≠ g) :
    (s.completed g pc e').eng k = s.eng k := by
  simp [State.completed, eng_setEng_ne _ _ h]
theorem completed_engPc (s : State) (g pc : Nat) (e' : Engine) : (s.completed g pc e').engPc g = pc % 2 ^ 32 := by
  rw [State.completed, retired_engPc, State.engPc, rd_wr_same]
  rfl
theorem completed_count (s : State) (g pc : Nat) (e' : Engine) :
    retiredCount (s.completed g pc e') g = (retiredCount s g + 1) % 2 ^ 64 := by
  rw [State.completed, retired_count, retiredCount_wr_pc]
  rfl
theorem completed_rd (s : State) {g : Nat} (pc : Nat) (e' : Engine) {f : Fld} (h : f.key ∉ (retireRegs g).map Fld.key) :
    (s.completed g pc e').rd f = s.rd f := by
  have hpc : f.key ≠ (ENG.PC g).key := fun he => h (by simp [retireRegs, he])
  rw [State.completed, retired_rd_ne _ h, rd_wr_ne _ _ hpc, rd_setEng]

@[simp] theorem completed_memBytes (s : State) (g pc : Nat) (e' : Engine) (m : MemId) (a n : Nat) :
    (s.completed g pc e').memBytes m a n = s.memBytes m a n := rfl

/-- Completion changes engines and registers, nothing else. -/
theorem completed_frame (s : State) (g pc : Nat) (e' : Engine) :
    { s.completed g pc e' with regs := s.regs, engines := s.engines } = s := rfl

theorem retire_next (s : State) (g len : Nat) (prev : Option Issued) :
    ∃ pv, s.retire g len prev none = s.completed g (loopNext (s.engPc g) len (s.eng g).loops).1
      { s.eng g with loops := (loopNext (s.engPc g) len (s.eng g).loops).2.1, prev := pv } := ⟨_, rfl⟩

theorem retire_jump (s : State) (g len x : Nat) (prev : Option Issued) :
    s.retire g len prev (some x) =
      s.completed g x { s.eng g with loops := loopsAfterJump (s.eng g).loops x, prev := none } := rfl

/-- Completion of engine `g` from a state `u` that differs from `s` in its time, in that engine and outside the registers. -/
theorem retired_completed {s u : State} {τ g pc : Nat} {ls : List LoopLvl} {pv : Option Issued} {e : Engine}
    (hnow : u.now = max s.now τ) (hregs : u.regs = s.regs) (heng : ∀ k, k ≠ g → u.eng k = s.eng k) :
    Retired s (u.completed g pc { e with loops := ls, prev := pv }) τ g pc ls e := by
  have hrd : ∀ f, u.rd f = s.rd f := fun f => by unfold State.rd; rw [hregs]
  refine ⟨completed_engPc _ _ _ _, ?_, hnow, by simp, fun k hk => ?_, fun f hf => ?_⟩
  · rw [completed_count, retiredCount, hrd, hrd]
    rfl
  · rw [completed_eng_ne _ _ _ hk, heng k hk]
  · rw [completed_rd _ _ _ hf, hrd]

/-! ### Issue -/

/-- What issue does with the outcome of the effect of a legal word `w` that is not at a place where R198 refuses it. -/
def State.carry (s : State) (g τ w : Nat) (r : JRes) : State :=
  let second := jeisPairs (s.eng g).prev w
  let next := if second then none else some (jeisIssued w)
  match r with
  | .fault c a u => u.engExc g c a (some w) false second
  | .done u => u.retire g (jeisLen w) next none
  | .jump x u => u.retire g (jeisLen w) next (some x)
  | .wait k u => u.setEng g ((u.eng g).waitFor τ k)

theorem runs_ready {s : State} {g w : Nat} (h : s.Runs g w) : s.engReady g = true := h.1
theorem runs_clean {s : State} {g w : Nat} (h : s.Runs g w) : s.clean := by
  obtain ⟨_, _, _, _, _, _, hclean, _⟩ := h
  exact hclean
theorem runs_injDmem {s : State} {g w : Nat} (h : s.Runs g w) : (s.eng g).injDmem = false := by
  obtain ⟨_, _, _, _, _, hdmem, _⟩ := h
  exact hdmem

/-- The engine that runs waits for nothing (R207). -/
theorem runs_wait {s : State} {g w : Nat} (h : s.Runs g w) : (s.eng g).wait = none := by
  have := runs_ready h
  simp only [State.engReady, Bool.and_eq_true, beq_iff_eq] at this
  exact this.1.2

theorem runs_state {s : State} {g w : Nat} (h : s.Runs g w) : s.rd (ENG.STAT_STATE g) = 1 := by
  have := runs_ready h
  simp only [State.engReady, Bool.and_eq_true, beq_iff_eq] at this
  exact this.1.1

/-- The row that the word names carries out its effect on the state at the time of issue. -/
theorem issue_of_runs {s : State} {g w τ : Nat} {mine : Nat → Bool} {act : Nat → State → JRes} (h : s.Runs g w)
    (hmine : mine w = true) : s.issue g τ mine act = s.carry g τ w (act w (s.at τ)) := by
  obtain ⟨hready, hlib, hpc, himem, hill, _, hclean, hword, hlegal, hplace⟩ := h
  have hw : (s.at τ).fetchWord g ((s.at τ).engPc g) = w := hword
  have hread : (s.at τ).memRead (.imem g) ((s.at τ).engPc g) (jeisLen w) =
      ((s.at τ).memBytes (.imem g) ((s.at τ).engPc g) (jeisLen w), false, s.at τ) :=
    memRead_clean _ _ hclean himem
  have hlen : 4 ≤ jeisLen w := by unfold jeisLen; split <;> omega
  have hpc' : ¬ 0x4000 ≤ (s.at τ).engPc g := by
    have : (s.at τ).engPc g = s.engPc g := rfl
    omega
  have hlast : (jeisCtrl w && atLoopEnd ((s.at τ).engPc g) (jeisLen w) ((s.at τ).eng g).loops) = false := hplace
  have hill' : ((s.at τ).eng g).injIll = false := hill
  unfold State.issue
  simp only [hready, hlib, hpc', hw, hread, hill', hlegal, hmine, hlast, State.carry, Bool.false_eq_true, Bool.true_eq_false,
    or_self, if_false, false_and]
  generalize act w (s.at τ) = r
  cases r <;> rfl

section

variable {s u : State} {g w τ : Nat} {mine : Nat → Bool} {act : Nat → State → JRes} {e : Engine}

/-- An effect that leaves the registers and the other engines alone completes. -/
theorem issue_done (h : s.Runs g w) (hmine : mine w = true) (hact : act w (s.at τ) = .done u) (hnow : u.now = max s.now τ)
    (hregs : u.regs = s.regs) (heng : ∀ k, k ≠ g → u.eng k = s.eng k) :
    Retired s (s.issue g τ mine act) τ g (loopNext (s.engPc g) (jeisLen w) (u.eng g).loops).1
      (loopNext (s.engPc g) (jeisLen w) (u.eng g).loops).2.1 (u.eng g) ∧
    { s.issue g τ mine act with regs := u.regs, engines := u.engines } = u := by
  obtain ⟨pv, hretire⟩ := retire_next u g (jeisLen w) (if jeisPairs (s.eng g).prev w then none else some (jeisIssued w))
  have hpc : u.engPc g = s.engPc g := by unfold State.engPc State.rd; rw [hregs]
  rw [issue_of_runs h hmine, hact]
  simp only [State.carry, hretire, hpc]
  exact ⟨retired_completed hnow hregs heng, completed_frame _ _ _ _⟩

/-- An effect on the engine's own registers alone (R189). -/
theorem issue_registerResult (h : s.Runs g w) (hmine : mine w = true) (hact : act w (s.at τ) = .done ((s.at τ).setEng g e)) :
    RegisterResult s (s.issue g τ mine act) τ g w e := by
  obtain ⟨hretired, hframe⟩ := issue_done h hmine hact rfl rfl fun k hk => eng_setEng_ne _ _ hk
  rw [eng_setEng] at hretired
  refine ⟨hretired, ?_⟩
  have := congrArg (fun t : State => { t with now := s.now, regs := s.regs, engines := s.engines }) hframe
  exact this

theorem issueReg_registerResult {act : Nat → Engine → Engine} (h : s.Runs g w) (hmine : mine w = true) :
    RegisterResult s (s.issueReg g τ mine act) τ g w (act w (s.eng g)) := issue_registerResult h hmine rfl

/-- A jump whose effect on the engine's registers leaves `e` (R189, R198). -/
theorem issue_jumpResult {x : Nat} (h : s.Runs g w) (hmine : mine w = true)
    (hact : act w (s.at τ) = .jump x ((s.at τ).setEng g e)) : JumpResult s (s.issue g τ mine act) τ g x e := by
  rw [issue_of_runs h hmine, hact]
  simp only [State.carry, retire_jump, eng_setEng]
  exact ⟨retired_completed rfl rfl fun k hk => eng_setEng_ne _ _ hk, rfl⟩

/-- An effect that waits leaves the instruction to be run again (R207). -/
theorem issue_wait {k : Wait} (h : s.Runs g w) (hmine : mine w = true) (hact : act w (s.at τ) = .wait k u) :
    s.issue g τ mine act = u.setEng g ((u.eng g).waitFor τ k) := by
  rw [issue_of_runs h hmine, hact]
  rfl

/-- An effect that faults raises its exception with the word (R203). -/
theorem issue_fault {c : Nat} {a : Option Nat} (h : s.Runs g w) (hmine : mine w = true)
    (hact : act w (s.at τ) = .fault c a u) :
    s.issue g τ mine act = u.engExc g c a (some w) false (jeisPairs (s.eng g).prev w) := by
  rw [issue_of_runs h hmine, hact]
  rfl

end

theorem answers_next {t : State} {P : State → Prop} (h : P t) : Answers (.next t) P := ⟨t, rfl, h⟩

end Sys2Proof.Machine

end

section

/-! SUPPORT. Results of the scalar operations in the terms of the tables (R184, R189). -/

namespace Sys2Proof.Machine

theorem satS32_ne_iff (x : Int) : (satS32 x ≠ x) ↔ (x < -2147483648 ∨ 2147483647 < x) := by
  unfold satS32 clamp
  omega

/-- The count of leading zeros by the position of the highest 1 bit. -/
theorem clz_eq_log2 (a : Word) : a.clz = BitVec.ofNat 32 (if a.toNat = 0 then 32 else 31 - a.toNat.log2) := by
  split
  next h => rw [BitVec.clz_eq_iff_eq_zero.mpr (BitVec.eq_of_toNat_eq h)]; rfl
  next h =>
    have hne : a ≠ 0#32 := fun he => h (by rw [he]; rfl)
    have hlow := BitVec.two_pow_sub_clz_le_toNat_of_ne_zero (by decide) hne
    have hhigh := BitVec.toNat_lt_two_pow_sub_clz (x := a)
    have hlt : a.clz.toNat < 32 := BitVec.clz_lt_iff_ne_zero.mpr hne
    have hlog : a.toNat.log2 = 31 - a.clz.toNat := by
      rw [Nat.log2_eq_iff h]
      exact ⟨hlow, by rwa [show 31 - a.clz.toNat + 1 = 32 - a.clz.toNat by omega]⟩
    apply BitVec.eq_of_toNat_eq
    rw [hlog, BitVec.toNat_ofNat]
    omega

/-- The population count bit by bit. -/
theorem cpop_eq_length (a : Word) : a.cpop = BitVec.ofNat 32 ((List.range 32).filter fun i => a.toNat.testBit i).length := by
  have count : ∀ n acc, a.cpopNatRec n acc = acc + ((List.range n).filter fun i => a.toNat.testBit i).length := by
    intro n
    induction n with
    | zero => intro acc; simp [BitVec.cpopNatRec_zero_self]
    | succ n ih =>
      intro acc
      rw [BitVec.cpopNatRec_succ, ih, List.range_succ, List.filter_append, List.length_append]
      have hbit : a.getLsbD n = a.toNat.testBit n := rfl
      cases hb : a.toNat.testBit n
      · simp [hbit, hb]
      · simp [hbit, hb]
        omega
  rw [BitVec.cpop, count, Nat.zero_add]

theorem slt_eq_ite (a b : Word) : (if a.toInt < b.toInt then (1 : Word) else 0) = if a.slt b then 1 else 0 := by
  simp [BitVec.slt_iff_toInt_lt]

theorem sle_eq_ite {n : Nat} {α : Type} (a b : BitVec n) (x y : α) :
    (if a.toInt ≤ b.toInt then x else y) = if a.sle b then x else y := by
  simp [BitVec.sle_iff_toInt_le]

theorem scalarAlu_slt (a b : Word) : scalarAlu 0x08 a b = (if a.slt b then 1 else 0, false) :=
  Prod.ext (slt_eq_ite a b) rfl

theorem scalarAlu_min (a b : Word) : scalarAlu 0x0A a b = (if a.sle b then a else b, false) :=
  Prod.ext (sle_eq_ite a b a b) rfl

theorem scalarAlu_max (a b : Word) : scalarAlu 0x0B a b = (if a.sle b then b else a, false) :=
  Prod.ext (sle_eq_ite a b b a) rfl

theorem scalarAlu_mulh (a b : Word) : scalarAlu 0x0D a b = (BitVec.ofInt 32 (a.toInt * b.toInt / 2 ^ 32), false) := by
  norm_num [scalarAlu]

theorem scalarAlu_mulhu (a b : Word) : scalarAlu 0x0E a b = (BitVec.ofNat 32 (a.toNat * b.toNat / 2 ^ 32), false) := by
  norm_num [scalarAlu]

theorem scalarAlu_clz (a b : Word) : scalarAlu 0x11 a b = (a.clz, false) := Prod.ext (clz_eq_log2 a).symm rfl

theorem scalarAlu_popc (a b : Word) : scalarAlu 0x12 a b = (a.cpop, false) := Prod.ext (cpop_eq_length a).symm rfl

/-- ADDS or SUBS of `a` and `b` needs more than 32 bits (R184, R187). -/
def scalarClamps (fn : Nat) (a b : Word) : Bool :=
  let exact : Int := if fn = 0x0F then a.toInt + b.toInt else a.toInt - b.toInt
  decide ((fn = 0x0F ∨ fn = 0x10) ∧ (exact < -2147483648 ∨ 2147483647 < exact))

/-- An operation other than ADDS and SUBS never clamps. -/
theorem scalarAlu_of_plain {fn : Nat} {f : Word → Word → Word} (hfn : fn ≠ 0x0F ∧ fn ≠ 0x10)
    (hrow : ∀ a b, scalarAlu fn a b = (f a b, false)) (a b : Word) : scalarAlu fn a b = (f a b, scalarClamps fn a b) := by
  have hplain : scalarClamps fn a b = false := decide_eq_false (by omega)
  rw [hrow, hplain]

theorem scalarAlu_adds (a b : Word) :
    scalarAlu 0x0F a b = (BitVec.ofInt 32 (satS32 (a.toInt + b.toInt)), scalarClamps 0x0F a b) :=
  Prod.ext rfl (by simp [scalarAlu, scalarClamps, satS32_ne_iff])

theorem scalarAlu_subs (a b : Word) :
    scalarAlu 0x10 a b = (BitVec.ofInt 32 (satS32 (a.toInt - b.toInt)), scalarClamps 0x10 a b) :=
  Prod.ext rfl (by simp [scalarAlu, scalarClamps, satS32_ne_iff])

/-- An R-format scalar instruction whose entry in the operation's table is `f`. -/
theorem scalar_row {g : Fin 132} {τ w fn : Nat} {s : State} {f : Word → Word → Word} {o : Host.Outcome State Fault Refusal}
    (hrow : ∀ a b, scalarAlu fn a b = (f a b, scalarClamps fn a b)) (h : s.Runs g w) (hop : jOp w = 0x01) (hfn : jFn w = fn)
    (ho : o = .next (s.issueReg g τ (isR 0x01 fn) jScalar)) :
    Answers o fun t => RegisterResult s t τ g w
      (((s.eng g).setX (jD w) (f ((s.eng g).getX (jA w)) ((s.eng g).getX (jB w)))).flag 2
        (scalarClamps (jFn w) ((s.eng g).getX (jA w)) ((s.eng g).getX (jB w)))) := by
  have hresult := issueReg_registerResult (τ := τ) (mine := isR 0x01 fn) (act := jScalar) h (by simp [isR, hop, hfn])
  simp only [jScalar, hfn, hrow] at hresult
  exact ho ▸ answers_next (hfn ▸ hresult)

/-- The R-format scalar instructions with their FN and result (R189). -/
def scalarTable : List ((Fin 132 → Nat → Instr) × Nat × (Word → Word → Word)) :=
  [(.add, 0x00, fun a b => a + b), (.sub, 0x01, fun a b => a - b), (.and, 0x02, fun a b => a &&& b),
   (.or, 0x03, fun a b => a ||| b), (.xor, 0x04, fun a b => a ^^^ b),
   (.shl, 0x05, fun a b => a <<< (b.toNat % 32)), (.shr, 0x06, fun a b => a >>> (b.toNat % 32)),
   (.sra, 0x07, fun a b => a.sshiftRight (b.toNat % 32)),
   (.slt, 0x08, fun a b => if a.slt b then 1 else 0), (.sltu, 0x09, fun a b => if a < b then 1 else 0),
   (.min, 0x0A, fun a b => if a.sle b then a else b), (.max, 0x0B, fun a b => if a.sle b then b else a),
   (.mul, 0x0C, fun a b => a * b), (.mulh, 0x0D, fun a b => BitVec.ofInt 32 (a.toInt * b.toInt / 2 ^ 32)),
   (.mulhu, 0x0E, fun a b => BitVec.ofNat 32 (a.toNat * b.toNat / 2 ^ 32)),
   (.adds, 0x0F, fun a b => BitVec.ofInt 32 (satS32 (a.toInt + b.toInt))),
   (.subs, 0x10, fun a b => BitVec.ofInt 32 (satS32 (a.toInt - b.toInt))),
   (.clz, 0x11, fun a _ => a.clz), (.popc, 0x12, fun a _ => a.cpop)]

theorem scalarTable_exec : ∀ row ∈ scalarTable, ∀ (g : Fin 132) (τ : Nat) (s : State),
    exec (row.1 g τ) s = .next (s.issueReg g τ (isR 0x01 row.2.1) jScalar) := by
  simp only [scalarTable, List.forall_mem_cons, List.not_mem_nil, false_implies, implies_true, and_true]
  and_intros
  all_goals exact fun _ _ _ => rfl

theorem scalarTable_alu : ∀ row ∈ scalarTable, ∀ a b, scalarAlu row.2.1 a b = (row.2.2 a b, scalarClamps row.2.1 a b) := by
  have plain {fn : Nat} {f : Word → Word → Word} := @scalarAlu_of_plain fn f
  simp only [scalarTable, List.forall_mem_cons]
  exact ⟨plain (by decide) fun _ _ => rfl, plain (by decide) fun _ _ => rfl, plain (by decide) fun _ _ => rfl,
    plain (by decide) fun _ _ => rfl, plain (by decide) fun _ _ => rfl, plain (by decide) fun _ _ => rfl,
    plain (by decide) fun _ _ => rfl, plain (by decide) fun _ _ => rfl, plain (by decide) scalarAlu_slt,
    plain (by decide) fun _ _ => rfl, plain (by decide) scalarAlu_min, plain (by decide) scalarAlu_max,
    plain (by decide) fun _ _ => rfl, plain (by decide) scalarAlu_mulh, plain (by decide) scalarAlu_mulhu,
    scalarAlu_adds, scalarAlu_subs, plain (by decide) scalarAlu_clz, plain (by decide) scalarAlu_popc,
    fun _ h => absurd h List.not_mem_nil⟩

/-! ### Immediates -/

theorem sint_eq_toInt (n v : Nat) (hn : 0 < n) : sint n v = (BitVec.ofNat n v).toInt := by
  have hpow : 2 ^ n = 2 * 2 ^ (n - 1) := by rw [← pow_succ', Nat.sub_add_cancel hn]
  have hcast : (2 : Int) ^ n = ((2 ^ n : Nat) : Int) := by push_cast; rfl
  simp only [sint, BitVec.toInt, BitVec.toNat_ofNat, hcast]
  split <;> split <;> omega

theorem sext16_eq_signExtend (i : Nat) : sext16 i = BitVec.signExtend 32 (BitVec.ofNat 16 i) := by
  rw [sext16, sint_eq_toInt _ _ (by decide)]
  rfl

theorem zext16_jImm (w : Nat) : BitVec.ofNat 32 (jImm w) = BitVec.zeroExtend 32 (BitVec.ofNat 16 (jImm w)) := by
  apply BitVec.eq_of_toNat_eq
  simp [jImm, bitsOf]

/-- An I-format instruction on registers whose operation takes `v` from A. -/
theorem immediate_row {g : Fin 132} {τ w op : Nat} {s : State} {v : Word} {o : Host.Outcome State Fault Refusal}
    (h : s.Runs g w) (hop : jOp w = op) (ho : o = .next (s.issueReg g τ (isOp op) jImmOp))
    (hrow : jImmAlu op (jD w) (jA w) (immOf op w) (s.eng g) = (s.eng g).setX (jD w) v) :
    Answers o fun t => RegisterResult s t τ g w ((s.eng g).setX (jD w) v) := by
  have hresult := issueReg_registerResult (τ := τ) (mine := isOp op) (act := jImmOp) h (by simp [isOp, hop])
  rw [jImmOp, hop, hrow] at hresult
  exact ho ▸ answers_next hresult

end Sys2Proof.Machine

end

section

/-! CERTIFICATE. O1, O2: the scalar instructions on registers. -/

namespace Sys2Proof.Machine

/-- Settles O1: the table's rows are the model's operation, and each is issued as `scalar_row` says. -/
theorem scalarRegisterInstructionsWriteTheirResult : Obligations.ScalarRegisterInstructionsWriteTheirResult := by
  intro row hrow g τ s w h hop hfn
  exact scalar_row (scalarTable_alu row hrow) h hop hfn (scalarTable_exec row hrow g τ s)

/-- Settles O2: the rows of `immediate_row`, and SHI by the kind that its immediate names. -/
theorem immediateInstructionsWriteTheirResult : Obligations.ImmediateInstructionsWriteTheirResult := by
  unfold Obligations.ImmediateInstructionsWriteTheirResult
  refine ⟨?_, fun g τ s w h hop => ?_⟩
  · simp only [List.forall_mem_cons, -BitVec.reduceOfNat]
    refine ⟨fun g τ s w h hop => immediate_row h hop rfl ?_, fun g τ s w h hop => immediate_row h hop rfl ?_,
      fun g τ s w h hop => immediate_row h hop rfl ?_, fun g τ s w h hop => immediate_row h hop rfl ?_,
      fun g τ s w h hop => immediate_row h hop rfl ?_, fun g τ s w h hop => immediate_row h hop rfl ?_,
      fun _ h => absurd h List.not_mem_nil⟩
    case refine_1 => simp [jImmAlu, immOf, sext16_eq_signExtend]
    case refine_2 | refine_3 | refine_4 | refine_6 => simp [jImmAlu, immOf, zext16_jImm]
    case refine_5 => simp only [jImmAlu, immOf, sext16_eq_signExtend, slt_eq_ite]; rfl
  · have hresult := issueReg_registerResult (τ := τ) (mine := isOp 0x08) (act := jShi) h (by simp [isOp, hop])
    have hkind (k n : Nat) (a : Word) :
        shiftImm k n a = if k = 0 then a <<< n else if k = 1 then a >>> n else a.sshiftRight n := by
      match k with
      | 0 | 1 | k + 2 => rfl
    rw [jShi, hkind] at hresult
    exact answers_next hresult

end Sys2Proof.Machine

end

section

/-! SUPPORT. Bytes of the engine's memories: what a store leaves, and reads and stores of clean memory by an engine with no
transfer under way (R177, R192, R197, R262). -/

namespace Sys2Proof.Machine

/-! ### Little-endian bytes -/

@[simp] theorem length_leBytes (n v : Nat) : (leBytes n v).length = n := by
  induction n generalizing v with
  | zero => rfl
  | succ n ih => simp [leBytes, ih]

theorem leBytes_lt {n v b : Nat} (h : b ∈ leBytes n v) : b < 256 := by
  induction n generalizing v with
  | zero => simp [leBytes] at h
  | succ n ih =>
    rcases List.mem_cons.mp h with h | h
    · omega
    · exact ih h

theorem leNat_lt (bs : List Nat) : leNat bs < 256 ^ bs.length := by
  induction bs with
  | nil => simp [leNat]
  | cons b bs ih =>
    rw [leNat, List.length_cons, pow_succ]
    omega

/-! ### Bytes of a memory -/

@[simp] theorem length_memBytes (s : State) {m : MemId} (a n : Nat) (hm : ∀ k, m ≠ .line k) : (s.memBytes m a n).length = n := by
  cases m with
  | line k => exact absurd rfl (hm k)
  | _ => simp [State.memBytes, Mem.readBytes]

theorem readBytes_writeBytes_same (m : Mem) (a : Nat) {bs : List Nat} (h : ∀ b ∈ bs, b < 256) :
    Mem.readBytes (Mem.writeBytes m a bs) a bs.length = bs := by
  apply List.ext_getElem
  · simp [Mem.readBytes]
  · intro i hi hi'
    have hlt := h _ (List.getElem_mem hi')
    simp only [Mem.readBytes, List.getElem_map, List.getElem_range, mem_read_writeBytes_in m a i bs hi', BitVec.toNat_ofNat]
    omega

theorem readBytes_writeBytes_out (m : Mem) (a x n : Nat) (bs : List Nat) (h : x + n ≤ a ∨ a + bs.length ≤ x) :
    Mem.readBytes (Mem.writeBytes m a bs) x n = Mem.readBytes m x n := by
  unfold Mem.readBytes
  refine List.map_congr_left fun i hi => ?_
  have := List.mem_range.mp hi
  rw [mem_read_writeBytes_out _ _ _ _ (by omega)]

/-- A store is read back. -/
theorem memBytes_memPut_same (s : State) {m : MemId} (a : Nat) {bs : List Nat} (hm : ∀ k, m ≠ .line k) (h : ∀ b ∈ bs, b < 256) :
    (s.memPut m a bs).memBytes m a bs.length = bs := by
  cases m with
  | line k => exact absurd rfl (hm k)
  | _ => simp [State.memPut, State.memBytes, readBytes_writeBytes_same _ _ h]

theorem memBytes_memPut_other (s : State) {m k : MemId} (a x n : Nat) (bs : List Nat) (hk : k ≠ m) :
    (s.memPut m a bs).memBytes k x n = s.memBytes k x n := by
  cases m <;> cases k <;> simp_all [State.memPut, State.memBytes, memsPut_get_ne]

theorem memBytes_memPut_out (s : State) (m : MemId) (a x n : Nat) (bs : List Nat) (h : x + n ≤ a ∨ a + bs.length ≤ x) :
    (s.memPut m a bs).memBytes m x n = s.memBytes m x n := by
  cases m <;> simp [State.memPut, State.memBytes, readBytes_writeBytes_out _ _ _ _ _ h]

/-- A store changes no byte outside its own. -/
theorem memPut_keepsBytes (s : State) (m : MemId) (a : Nat) (bs : List Nat) : KeepsBytes m a bs.length s (s.memPut m a bs) := by
  refine ⟨memPut_host s m a bs, fun k x hout => ?_⟩
  by_cases hk : k = m
  · subst hk
    exact memBytes_memPut_out _ _ _ _ _ _ (by simp at hout; omega)
  · exact memBytes_memPut_other _ _ _ _ _ hk

@[simp] theorem memPut_regs (s : State) (m : MemId) (a : Nat) (bs : List Nat) : (s.memPut m a bs).regs = s.regs := by
  cases m <;> rfl
@[simp] theorem memPut_engines (s : State) (m : MemId) (a : Nat) (bs : List Nat) : (s.memPut m a bs).engines = s.engines := by
  cases m <;> rfl
@[simp] theorem memPut_eng (s : State) (m : MemId) (a : Nat) (bs : List Nat) (g : Nat) : (s.memPut m a bs).eng g = s.eng g := by
  cases m <;> rfl
@[simp] theorem memPut_now (s : State) (m : MemId) (a : Nat) (bs : List Nat) : (s.memPut m a bs).now = s.now := by
  cases m <;> rfl
@[simp] theorem memPut_memu (s : State) (m : MemId) (a : Nat) (bs : List Nat) : (s.memPut m a bs).memu = s.memu := by
  cases m <;> rfl

/-! ### Accesses of an engine -/

/-- An engine addresses DMEM and cluster SRAM only. -/
theorem engMem_cases {s : State} {g a n x : Nat} {m : MemId} (h : s.engMem g a n = some (m, x)) :
    (m = .dmem g ∧ x = a) ∨ (m = .sram (s.clusterOf g) ∧ x = a - 0x100000) := by
  unfold State.engMem at h
  split_ifs at h <;> simp_all

theorem engMem_not_line {s : State} {g a n x : Nat} {m : MemId} (h : s.engMem g a n = some (m, x)) (k : Nat) : m ≠ .line k := by
  rcases engMem_cases h with ⟨rfl, _⟩ | ⟨rfl, _⟩ <;> simp

theorem engMem_noInjection {s : State} {g a n x : Nat} {m : MemId} (h : s.engMem g a n = some (m, x))
    (hinj : (s.eng g).injDmem = false) : s.NoInjection m := by
  rcases engMem_cases h with ⟨rfl, _⟩ | ⟨rfl, _⟩
  · exact hinj
  · trivial

theorem dmaView_idle {s : State} {g : Nat} (a : Nat) (bs : List Nat) (h : (s.eng g).dma = []) : s.dmaView g a bs = bs := by
  simp [State.dmaView, State.dmaBytes, h]

theorem engRead_clean {s : State} {g a n x : Nat} {m : MemId} (hclean : s.clean) (hinj : (s.eng g).injDmem = false)
    (hdma : (s.eng g).dma = []) (hm : s.engMem g a n = some (m, x)) : s.engRead g a n = .ok (s.memBytes m x n) s := by
  simp [State.engRead, hm, memRead_clean _ _ hclean (engMem_noInjection hm hinj), dmaView_idle _ _ hdma, hdma]

theorem engWrite_clean {s : State} {g a x : Nat} {m : MemId} {bs : List Nat} (hclean : s.clean)
    (hinj : (s.eng g).injDmem = false) (hbs : bs ≠ []) (hm : s.engMem g a bs.length = some (m, x)) :
    s.engWrite g a bs = .ok [] (s.memPut m x bs) := by
  simp [State.engWrite, hm, memRead_clean _ _ hclean (engMem_noInjection hm hinj), memWrite_clean x hclean hbs]

end Sys2Proof.Machine

end

section

/-! SUPPORT. Scalar loads, stores and atomics on clean memory (R183, R189, R192). -/

namespace Sys2Proof.Machine

theorem memBytes_of_mems {s t : State} (h : t.mems = s.mems) (m : MemId) (a n : Nat) : t.memBytes m a n = s.memBytes m a n := by
  unfold State.memBytes
  rw [h]

/-- What an instruction leaves that stores `bs` at `x` of `m` and changes its engine to `e`. -/
def StoreResult (s t : State) (τ g w : Nat) (m : MemId) (x : Nat) (bs : List Nat) (e : Engine) : Prop :=
  t.memBytes m x bs.length = bs ∧ KeepsBytes m x bs.length s t ∧
  Retired s t τ g (loopNext (s.engPc g) (jeisLen w) e.loops).1 (loopNext (s.engPc g) (jeisLen w) e.loops).2.1 e ∧
  SameButMemories s t

theorem issue_storeResult {s u : State} {g w τ x : Nat} {mine : Nat → Bool} {act : Nat → State → JRes} {m : MemId}
    {bs : List Nat} (h : s.Runs g w) (hmine : mine w = true) (hact : act w (s.at τ) = .done u)
    (hm : ∀ k, m ≠ .line k) (hbs : ∀ b ∈ bs, b < 256) (hmems : u.mems = (s.memPut m x bs).mems)
    (hrest : { u with now := s.now, engines := s.engines, mems := s.mems } = s) (hnow : u.now = max s.now τ)
    (heng : ∀ k, k ≠ g → u.eng k = s.eng k) : StoreResult s (s.issue g τ mine act) τ g w m x bs (u.eng g) := by
  have hregs : u.regs = s.regs := by
    have := congrArg State.regs hrest
    exact this
  obtain ⟨hretired, hframe⟩ := issue_done h hmine hact hnow hregs heng
  have htmems : (s.issue g τ mine act).mems = (s.memPut m x bs).mems := (congrArg State.mems hframe).trans hmems
  obtain ⟨hhost, hkept⟩ := memPut_keepsBytes s m x bs
  refine ⟨?_, ⟨?_, fun k y hout => ?_⟩, hretired, ?_⟩
  · rw [memBytes_of_mems htmems, memBytes_memPut_same s x hm hbs]
  · rw [htmems, hhost]
  · rw [memBytes_of_mems htmems, hkept k y hout]
  · have := congrArg (fun t : State => { t with now := s.now, regs := s.regs, engines := s.engines, mems := s.mems }) hframe
    exact this.trans (congrArg (fun t : State => { t with regs := s.regs }) hrest)

/-! ### Loads and stores -/

section

variable {s : State} {g d a x : Nat} {imm : Word} {m : MemId}

theorem jMem_load {op : Nat} (hclean : s.clean) (hinj : (s.eng g).injDmem = false) (hdma : (s.eng g).dma = [])
    (hop : ¬(op = 0x0B ∨ op = 0x0E ∨ op = 0x10)) (halign : ((s.eng g).getX a + imm).toNat % memSize op = 0)
    (hm : s.engMem g ((s.eng g).getX a + imm).toNat (memSize op) = some (m, x)) :
    jMem g op d a imm s = .done (s.setEng g ((s.eng g).setX d (loadExt op (leNat (s.memBytes m x (memSize op)))))) := by
  simp only [jMem, halign, hop, engRead_clean hclean hinj hdma hm, ne_eq, not_true_eq_false, if_false]

theorem jMem_store {op : Nat} (hclean : s.clean) (hinj : (s.eng g).injDmem = false)
    (hop : op = 0x0B ∨ op = 0x0E ∨ op = 0x10) (halign : ((s.eng g).getX a + imm).toNat % memSize op = 0)
    (hm : s.engMem g ((s.eng g).getX a + imm).toNat (memSize op) = some (m, x)) :
    jMem g op d a imm s = .done (s.memPut m x (leBytes (memSize op) ((s.eng g).getX d).toNat)) := by
  have hbs : leBytes (memSize op) ((s.eng g).getX d).toNat ≠ [] := by
    rcases hop with rfl | rfl | rfl <;> simp [memSize, leBytes]
  have hwrite := engWrite_clean hclean hinj hbs (by rwa [length_leBytes])
  simp only [jMem, halign, hop, hwrite, ne_eq, not_true_eq_false, if_false, if_true]

end

/-- A load into D of `n` bytes at `x` of `m`. -/
theorem load_result {s : State} {g w τ op d a x : Nat} {imm : Word} {m : MemId} {mine : Nat → Bool} {act : Nat → State → JRes}
    (h : s.Runs g w) (hmine : mine w = true) (hact : act w (s.at τ) = jMem g op d a imm (s.at τ)) (hdma : (s.eng g).dma = [])
    (hop : ¬(op = 0x0B ∨ op = 0x0E ∨ op = 0x10)) (halign : ((s.eng g).getX a + imm).toNat % memSize op = 0)
    (hm : s.engMem g ((s.eng g).getX a + imm).toNat (memSize op) = some (m, x)) :
    RegisterResult s (s.issue g τ mine act) τ g w ((s.eng g).setX d (loadExt op (leNat (s.memBytes m x (memSize op))))) :=
  issue_registerResult h hmine (hact.trans (jMem_load (s := s.at τ) (runs_clean h) (runs_injDmem h) hdma hop halign hm))

/-- A store of the low bytes of D. -/
theorem store_result {s : State} {g w τ op d a x : Nat} {imm : Word} {m : MemId} {mine : Nat → Bool} {act : Nat → State → JRes}
    (h : s.Runs g w) (hmine : mine w = true) (hact : act w (s.at τ) = jMem g op d a imm (s.at τ))
    (hop : op = 0x0B ∨ op = 0x0E ∨ op = 0x10) (halign : ((s.eng g).getX a + imm).toNat % memSize op = 0)
    (hm : s.engMem g ((s.eng g).getX a + imm).toNat (memSize op) = some (m, x)) :
    StoreResult s (s.issue g τ mine act) τ g w m x (leBytes (memSize op) ((s.eng g).getX d).toNat) (s.eng g) := by
  have hput := jMem_store (s := s.at τ) (d := d) (runs_clean h) (runs_injDmem h) hop halign hm
  have hstored := issue_storeResult (m := m) (x := x) (bs := leBytes (memSize op) ((s.eng g).getX d).toNat) h hmine (hact.trans hput)
    (engMem_not_line hm) (fun _ => leBytes_lt) (by cases m <;> rfl) (by cases m <;> rfl) (memPut_now _ _ _ _)
    (fun k _ => memPut_eng _ _ _ _ k)
  rwa [memPut_eng] at hstored

/-! ### Atomics -/

theorem amoNew_eq (fn : Nat) (old b : Word) :
    amoNew fn old b = if fn = 0 then old + b else if fn = 1 then b else if old < b then b else old := by
  match fn with
  | 0 | 1 => rfl
  | fn + 2 =>
    rcases lt_trichotomy old.toNat b.toNat with hlt | heq | hgt
    · simp [amoNew, BitVec.lt_def, hlt, hlt.le]
    · simp [amoNew, BitVec.eq_of_toNat_eq heq]
    · simp [amoNew, BitVec.lt_def, hgt.not_ge, hgt.le]

theorem jAmo_word {s : State} {g w : Nat} (hclean : s.clean) (hinj : (s.eng g).injDmem = false) (hdma : (s.eng g).dma = [])
    (halign : ((s.eng g).getX (jA w)).toNat % 4 = 0) (hlow : 0x100000 ≤ ((s.eng g).getX (jA w)).toNat)
    (hhigh : ((s.eng g).getX (jA w)).toNat + 4 ≤ 0x200000) :
    let m := MemId.sram (s.clusterOf g)
    let x := ((s.eng g).getX (jA w)).toNat - 0x100000
    let old := BitVec.ofNat 32 (leNat (s.memBytes m x 4))
    jAmo g w s = .done ((s.memPut m x (leBytes 4 (amoNew (jFn w) old ((s.eng g).getX (jB w))).toNat)).setEng g
      ((s.eng g).setX (jD w) old)) := by
  intro m x old
  have hm : s.engMem g ((s.eng g).getX (jA w)).toNat 4 = some (m, x) := by
    rw [State.engMem, if_neg (by omega), if_pos ⟨hlow, hhigh⟩]
  have hread := engRead_clean hclean hinj hdma hm
  have hwrite := engWrite_clean (bs := leBytes 4 (amoNew (jFn w) old ((s.eng g).getX (jB w))).toNat) hclean hinj
    (by simp [leBytes]) (by rwa [length_leBytes])
  simp only [jAmo, halign, hread, hwrite, ne_eq, not_true_eq_false, if_false, if_neg (Nat.not_lt.mpr hlow), memPut_eng, old]

end Sys2Proof.Machine

end

section

/-! CERTIFICATE. O4, O5, O6, O3: scalar loads, stores, atomics and the long form. -/

namespace Sys2Proof.Machine

/-- The scalar loads with their OP, size and extension (R189). -/
def loadTable : List ((Fin 132 → Nat → Instr) × Nat × Nat × (Nat → Word)) :=
  [(.ldw, 0x0A, 4, fun v => BitVec.ofNat 32 v), (.ldh, 0x0C, 2, fun v => BitVec.signExtend 32 (BitVec.ofNat 16 v)),
   (.ldhu, 0x0D, 2, fun v => BitVec.zeroExtend 32 (BitVec.ofNat 16 v)),
   (.ldbu, 0x0F, 1, fun v => BitVec.zeroExtend 32 (BitVec.ofNat 8 v))]

theorem loadTable_exec : ∀ row ∈ loadTable, ∀ (g : Fin 132) (τ : Nat) (s : State),
    exec (row.1 g τ) s = .next (s.issue g τ (isOp row.2.1) (jMemOp g)) := by
  simp only [loadTable, List.forall_mem_cons, List.not_mem_nil, false_implies, implies_true, and_true]
  and_intros
  all_goals exact fun _ _ _ => rfl

theorem loadTable_size : ∀ row ∈ loadTable,
    memSize row.2.1 = row.2.2.1 ∧ ¬(row.2.1 = 0x0B ∨ row.2.1 = 0x0E ∨ row.2.1 = 0x10) := by
  simp [loadTable, memSize]

theorem loadTable_ext : ∀ row ∈ loadTable, ∀ v, v < 256 ^ row.2.2.1 → loadExt row.2.1 v = row.2.2.2 v := by
  have zext {n v : Nat} (hn : n ≤ 32) (hv : v < 2 ^ n) : BitVec.ofNat 32 v = BitVec.zeroExtend 32 (BitVec.ofNat n v) := by
    have : 2 ^ n ≤ 2 ^ 32 := Nat.pow_le_pow_right (by decide) hn
    apply BitVec.eq_of_toNat_eq
    rw [BitVec.toNat_setWidth, BitVec.toNat_ofNat, BitVec.toNat_ofNat, Nat.mod_eq_of_lt hv]
  simp only [loadTable, List.forall_mem_cons, List.not_mem_nil, false_implies, implies_true, and_true]
  exact ⟨fun _ _ => rfl, fun v _ => sext16_eq_signExtend v, fun _ hv => zext (by decide) hv, fun _ hv => zext (by decide) hv⟩

/-- Settles O4: each row is `load_result` with its extension. -/
theorem loadsReadAlignedData : Obligations.LoadsReadAlignedData := by
  intro row hrow g τ s w m x h hop hdma ea halign hm
  obtain ⟨hsize, hload⟩ := loadTable_size row hrow
  have hea : ((s.eng g).getX (jA w) + sext16 (jImm w)).toNat = ea := by rw [sext16_eq_signExtend]
  rw [← hsize, ← hea] at halign hm
  have hresult := load_result (τ := τ) (mine := isOp row.2.1) (act := jMemOp g) (d := jD w) h (by simp [isOp, hop])
    (by rw [jMemOp, hop]) hdma hload halign hm
  have hext := loadTable_ext row hrow (leNat (s.memBytes m x row.2.2.1))
    (by simpa [engMem_not_line hm] using leNat_lt (s.memBytes m x row.2.2.1))
  rw [hsize, hext] at hresult
  exact loadTable_exec row hrow g τ s ▸ answers_next hresult

/-- A store's outcome as the statements write it, for an instruction of 4 bytes. -/
theorem StoreResult.stored {s t : State} {τ g w x n v : Nat} {m : MemId} {e : Engine} (hlen : jeisLen w = n)
    {k : Nat} (h : StoreResult s t τ g w m x (leBytes k v) e) :
    t.memBytes m x k = leBytes k v ∧ KeepsBytes m x k s t ∧
      Retired s t τ g (loopNext (s.engPc g) n e.loops).1 (loopNext (s.engPc g) n e.loops).2.1 e ∧ SameButMemories s t := by
  simpa only [StoreResult, length_leBytes, hlen] using h

/-- A store of `n` bytes by its row. -/
theorem store_row {n op : Nat} (hsize : memSize op = n) (hstore : op = 0x0B ∨ op = 0x0E ∨ op = 0x10)
    {i : Fin 132 → Nat → Instr} (hi : ∀ g τ s, exec (i g τ) s = .next (s.issue g τ (isOp op) (jMemOp g))) (g : Fin 132)
    (τ : Nat) (s : State) (w : Nat) (m : MemId) (x : Nat) (h : s.Runs g w) (hop : jOp w = op)
    (halign : ((s.eng g).getX (jA w) + BitVec.signExtend 32 (BitVec.ofNat 16 (jImm w))).toNat % n = 0)
    (hm : s.engMem g ((s.eng g).getX (jA w) + BitVec.signExtend 32 (BitVec.ofNat 16 (jImm w))).toNat n = some (m, x)) :
    Answers (exec (i g τ) s) fun t =>
      t.memBytes m x n = leBytes n ((s.eng g).getX (jD w)).toNat ∧ KeepsBytes m x n s t ∧
      Retired s t τ g (loopNext (s.engPc g) 4 (s.eng g).loops).1 (loopNext (s.engPc g) 4 (s.eng g).loops).2.1 (s.eng g) ∧
      SameButMemories s t := by
  rw [← sext16_eq_signExtend] at halign hm
  subst hsize
  have hlen : jeisLen w = 4 := by rw [jeisLen, hop, if_neg (by omega)]
  have hresult := store_result (τ := τ) (mine := isOp op) (act := jMemOp g) (d := jD w) h (by simp [isOp, hop])
    (by rw [jMemOp, hop]) hstore halign hm
  exact hi g τ s ▸ answers_next (hresult.stored hlen)

/-- Settles O5: each row is `store_row`. -/
theorem storesWriteOnlyTheirBytes : Obligations.StoresWriteOnlyTheirBytes := by
  unfold Obligations.StoresWriteOnlyTheirBytes
  simp only [List.forall_mem_cons, List.not_mem_nil, false_implies, implies_true, and_true]
  exact ⟨store_row rfl (by decide) fun _ _ _ => rfl, store_row rfl (by decide) fun _ _ _ => rfl,
    store_row rfl (by decide) fun _ _ _ => rfl⟩

/-- An atomic by its row: `f` is the word it leaves. -/
theorem atomic_row {fn : Nat} {f : Word → Word → Word} (hf : ∀ old b, amoNew fn old b = f old b)
    {i : Fin 132 → Nat → Instr} (hi : ∀ g τ s, exec (i g τ) s = .next (s.issue g τ (isR 0x11 fn) (jAmo g))) (g : Fin 132)
    (τ : Nat) (s : State) (w : Nat) (h : s.Runs g w) (hop : jOp w = 0x11) (hfn : jFn w = fn) (hdma : (s.eng g).dma = [])
    (halign : ((s.eng g).getX (jA w)).toNat % 4 = 0) (hlow : 0x100000 ≤ ((s.eng g).getX (jA w)).toNat)
    (hhigh : ((s.eng g).getX (jA w)).toNat + 4 ≤ 0x200000) :
    let m := MemId.sram (s.clusterOf g)
    let x := ((s.eng g).getX (jA w)).toNat - 0x100000
    let old := BitVec.ofNat 32 (leNat (s.memBytes m x 4))
    Answers (exec (i g τ) s) fun t =>
      t.memBytes m x 4 = leBytes 4 (f old ((s.eng g).getX (jB w))).toNat ∧ KeepsBytes m x 4 s t ∧
      Retired s t τ g (loopNext (s.engPc g) 4 (s.eng g).loops).1 (loopNext (s.engPc g) 4 (s.eng g).loops).2.1
        ((s.eng g).setX (jD w) old) ∧ SameButMemories s t := by
  intro m x old
  have hlen : jeisLen w = 4 := by rw [jeisLen, hop, if_neg (by decide)]
  have hact := jAmo_word (s := s.at τ) (g := g) (w := w) (runs_clean h) (runs_injDmem h) hdma halign hlow hhigh
  have hstored := issue_storeResult (m := m) (x := x) (bs := leBytes 4 (amoNew (jFn w) old ((s.eng g).getX (jB w))).toNat) h
    (mine := isR 0x11 fn) (by simp [isR, hop, hfn]) hact (by simp [m]) (fun _ => leBytes_lt) rfl rfl rfl
    (fun k hk => eng_setEng_ne _ _ hk)
  rw [eng_setEng, hfn, hf] at hstored
  have hloops : ((s.eng g).setX (jD w) old).loops = (s.eng g).loops := by unfold Engine.setX; split <;> rfl
  have hresult := StoreResult.stored (e := (s.eng g).setX (jD w) old) hlen hstored
  rw [hloops] at hresult
  exact hi g τ s ▸ answers_next hresult

/-- Settles O6: each row is `atomic_row`. -/
theorem atomicsExchangeAWordOfClusterSram : Obligations.AtomicsExchangeAWordOfClusterSram := by
  unfold Obligations.AtomicsExchangeAWordOfClusterSram
  simp only [List.forall_mem_cons, List.not_mem_nil, false_implies, implies_true, and_true]
  exact ⟨atomic_row (amoNew_eq 0) fun _ _ _ => rfl, atomic_row (amoNew_eq 1) fun _ _ _ => rfl,
    atomic_row (amoNew_eq 2) fun _ _ _ => rfl⟩

/-- Settles O3: the operations on registers as in the short form, JALR, and the loads and stores of words. -/
theorem longFormTakesAFullImmediate : Obligations.LongFormTakesAFullImmediate := by
  intro g τ s w h hop e imm a
  have hmine : isOp 0x3F w = true := by simp [isOp, hop]
  have hlen : jeisLen w = 8 := by rw [jeisLen, hop, if_pos rfl]
  have hmem {op : Nat} (hbop : lBop w = op) (hlow : 0x0A ≤ op) (hjalr : op ≠ 0x19) :
      jLong g w (s.at τ) = jMem g op (lD w) (lA w) imm (s.at τ) := by
    simp only [jLong, hbop, if_neg hjalr, if_pos hlow]
    rfl
  refine ⟨fun row hrow hbop => ?_, fun hbop => ?_, fun m x hbop hdma halign hm => ?_, fun m x hbop halign hm => ?_⟩
  · have halu : row.1 < 0x0A ∧ jImmAlu row.1 (lD w) (lA w) imm e = e.setX (lD w) row.2 := by
      revert row
      simp only [List.forall_mem_cons, List.not_mem_nil, false_implies, implies_true, and_true]
      exact ⟨fun _ => ⟨by decide, rfl⟩, fun _ => ⟨by decide, rfl⟩, fun _ => ⟨by decide, rfl⟩, fun _ => ⟨by decide, rfl⟩,
        fun _ => ⟨by decide, congrArg (e.setX (lD w)) (slt_eq_ite a imm)⟩, fun _ => ⟨by decide, rfl⟩⟩
    obtain ⟨hlt, halu⟩ := halu
    refine answers_next (issue_registerResult h hmine ?_)
    rw [← halu]
    simp only [jLong, hbop, if_neg (show ¬ row.1 = 0x19 by omega), if_neg (show ¬ 0x0A ≤ row.1 by omega)]
    rfl
  · refine answers_next (issue_jumpResult h hmine ?_)
    simp only [jLong, hbop, if_true]
    rfl
  · exact answers_next (load_result h hmine (hmem hbop (by decide) (by decide)) hdma (by decide) halign hm)
  · exact answers_next ((store_result h hmine (hmem hbop (by decide) (by decide)) (by decide) halign hm).stored hlen)

end Sys2Proof.Machine

end

section

/-! SUPPORT. Control instructions: effects that leave the engine's registers, branch conditions and targets (R189, R198). -/

namespace Sys2Proof.Machine

section

variable {s : State} {g w τ : Nat} {mine : Nat → Bool} {act : Nat → State → JRes}

/-- An instruction without effect goes on behind it. -/
theorem issue_keeps (h : s.Runs g w) (hmine : mine w = true) (hact : act w (s.at τ) = .done (s.at τ)) :
    RegisterResult s (s.issue g τ mine act) τ g w (s.eng g) := by
  obtain ⟨hretired, hframe⟩ := issue_done h hmine hact rfl rfl fun _ _ => rfl
  refine ⟨hretired, ?_⟩
  have := congrArg (fun t : State => { t with now := s.now, regs := s.regs, engines := s.engines }) hframe
  exact this

/-- A jump that leaves the engine's registers. -/
theorem issue_jumps {x : Nat} (h : s.Runs g w) (hmine : mine w = true) (hact : act w (s.at τ) = .jump x (s.at τ)) :
    JumpResult s (s.issue g τ mine act) τ g x (s.eng g) := by
  rw [issue_of_runs h hmine, hact]
  simp only [State.carry, retire_jump]
  exact ⟨retired_completed rfl rfl fun _ _ => rfl, rfl⟩

end

theorem pcPlus_sint (pc n v : Nat) (hn : 0 < n) :
    pcPlus pc (sint n v) = (BitVec.ofNat 32 pc + 4 * BitVec.signExtend 32 (BitVec.ofNat n v)).toNat := by
  rw [pcPlus, BitVec.ofInt_mul, sint_eq_toInt n v hn]
  rfl

theorem ofNat_bitsOf (w n : Nat) : BitVec.ofNat n (bitsOf w 0 n) = BitVec.ofNat n w := by
  apply BitVec.eq_of_toNat_eq
  simp [bitsOf]

/-- A branch by its row: `c` is the condition that its OP names. -/
theorem branch_row {op : Nat} {c : Word → Word → Bool} (hc : ∀ a b, branchTaken op a b = c a b) {i : Fin 132 → Nat → Instr}
    (hi : ∀ g τ s, exec (i g τ) s = .next (s.issue g τ (isOp op) (jBranch g))) (g : Fin 132) (τ : Nat) (s : State) (w : Nat)
    (h : s.Runs g w) (hop : jOp w = op) :
    let e := s.eng g
    let target := (BitVec.ofNat 32 (s.engPc g) + 4 * BitVec.signExtend 32 (BitVec.ofNat 16 (jImm w))).toNat
    (c (e.getX (jD w)) (e.getX (jA w)) = true → Answers (exec (i g τ) s) fun t => JumpResult s t τ g target e) ∧
    (c (e.getX (jD w)) (e.getX (jA w)) = false → Answers (exec (i g τ) s) fun t => RegisterResult s t τ g w e) := by
  intro e target
  have hmine : isOp op w = true := by simp [isOp, hop]
  have htaken : branchTaken (jOp w) (((s.at τ).eng g).getX (jD w)) (((s.at τ).eng g).getX (jA w)) =
      c (e.getX (jD w)) (e.getX (jA w)) := by rw [hop, hc]; rfl
  have htarget : pcPlus ((s.at τ).engPc g) (sint 16 (jImm w)) = target := pcPlus_sint _ _ _ (by decide)
  rw [hi]
  refine ⟨fun hcond => answers_next (issue_jumps h hmine ?_), fun hcond => answers_next (issue_keeps h hmine ?_)⟩
  · simp only [jBranch, htaken, hcond, htarget, if_true]
  · simp only [jBranch, htaken, hcond, Bool.false_eq_true, if_false]

/-! ### CSRs -/

theorem setX_csr (e : Engine) (r : Nat) (v : Word) (n : Nat) : (e.setX r v).getCsr n = e.getCsr n := by
  unfold Engine.setX
  split <;> rfl

theorem setX_cyc0 (e : Engine) (r : Nat) (v : Word) : (e.setX r v).cyc0 = e.cyc0 := by
  unfold Engine.setX
  split <;> rfl

theorem setX_loops (e : Engine) (r : Nat) (v : Word) : (e.setX r v).loops = e.loops := by
  unfold Engine.setX
  split <;> rfl

theorem ofNat_mod_word (v : Nat) : BitVec.ofNat 32 (v % 2 ^ 32) = BitVec.ofNat 32 v := by
  apply BitVec.eq_of_toNat_eq
  simp

/-- What CSRR reads from a latch, or from the running value where nothing is latched. -/
theorem ofNat_latch (l : Option Word) (v : Nat) :
    BitVec.ofNat 32 ((l.map BitVec.toNat).getD (v % 2 ^ 32)) = l.getD (BitVec.ofNat 32 v) := by
  cases l with
  | none => exact ofNat_mod_word v
  | some x => simp

end Sys2Proof.Machine

end

section

/-! CERTIFICATE. O8, O9: branches, jumps, loops, FENCE and CSRs. -/

namespace Sys2Proof.Machine

/-- Settles O8: the branches by `branch_row`; JAL and JALR are jumps that write their link. -/
theorem branchesAndJumpsMoveThePc : Obligations.BranchesAndJumpsMoveThePc := by
  refine ⟨?_, fun g τ s w h hop => ?_, fun g τ s w h hop => ?_⟩
  · simp only [List.forall_mem_cons, List.not_mem_nil, false_implies, implies_true, and_true]
    exact ⟨branch_row (fun _ _ => rfl) fun _ _ _ => rfl, branch_row (fun _ _ => rfl) fun _ _ _ => rfl,
      branch_row (fun _ _ => rfl) fun _ _ _ => rfl, branch_row (fun _ _ => rfl) fun _ _ _ => rfl,
      branch_row (fun _ _ => rfl) fun _ _ _ => rfl, branch_row (fun _ _ => rfl) fun _ _ _ => rfl⟩
  · have htarget := pcPlus_sint (s.engPc g) 21 (bitsOf w 0 21) (by decide)
    rw [ofNat_bitsOf] at htarget
    rw [← htarget]
    exact answers_next (issue_jumpResult h (by simp [isOp, hop]) rfl)
  · rw [← sext16_eq_signExtend]
    exact answers_next (issue_jumpResult h (by simp [isOp, hop]) rfl)

/-- Reading a CSR whose read has no side effect. -/
theorem jCsrr_plain {s : State} {g w v : Nat} (h2 : jImm w ≠ 2) (h3 : jImm w ≠ 3) (h4 : jImm w ≠ 4) (h5 : jImm w ≠ 5)
    (hv : s.csrRead g (jImm w) = some v) : jCsrr g w s = .done (s.setEng g ((s.eng g).setX (jD w) (BitVec.ofNat 32 v))) := by
  unfold jCsrr
  simp only [hv]

/-- Settles O9: LOOP by its guards, FENCE without effect, and the CSRs by the rows of their table. -/
theorem loopFenceAndCsrInstructionsComplete : Obligations.LoopFenceAndCsrInstructionsComplete := by
  refine ⟨fun g τ s w h => ?_, fun g τ s w h hop => ?_⟩
  · intro e pc fin c
    have hguard (hdepth : e.loops.length < 2) (himm : jImm w ≠ 0) : ¬(2 ≤ e.loops.length ∨ jImm w = 0) := by omega
    have hinner (houter : ∀ l ∈ e.loops, fin ≤ l.fin) :
        ¬((e.loops.any fun l => decide (l.fin < fin)) = true ∧ (s.at τ).free 1 = 1) := by
      rintro ⟨hany, _⟩
      obtain ⟨l, hl, hlt⟩ := List.any_eq_true.mp hany
      exact absurd (houter l hl) (by simpa using hlt)
    have hstep (hdepth : e.loops.length < 2) (himm : jImm w ≠ 0) (houter : ∀ l ∈ e.loops, fin ≤ l.fin) :
        jLoop g w (s.at τ) = if c = 0 then .jump (fin + 4) (s.at τ)
          else .done ((s.at τ).setEng g { e with loops := { start := pc + 4, fin := fin, left := c } :: e.loops }) :=
      (if_neg (hguard hdepth himm)).trans (if_neg (hinner houter))
    refine ⟨fun hop hdepth himm houter hc => ?_, fun hop hdepth himm houter hc => ?_, fun hop hfn => ?_,
      fun v hop h2 h3 h4 h5 hv => ?_, fun m hop hm => ?_⟩
    · exact answers_next (issue_registerResult h (by simp [isOp, hop]) ((hstep hdepth himm houter).trans (if_neg hc)))
    · exact answers_next (issue_jumps h (by simp [isOp, hop]) ((hstep hdepth himm houter).trans (if_pos hc)))
    · exact answers_next (issue_keeps h (by simp [isR, hop, hfn]) rfl)
    · exact answers_next (issue_registerResult h (by simp [isOp, hop]) (jCsrr_plain h2 h3 h4 h5 hv))
    · exact answers_next (issue_registerResult h (by simp [isOp, hop]) (by simp only [jCsrw, hm]; rfl))
  · intro e cyc
    have hmine : isOp 0x1D w = true := by simp [isOp, hop]
    refine ⟨fun hn => ?_, fun hn => ?_, fun hn => ?_, fun hn => ?_⟩
    · refine answers_next (issue_registerResult h hmine ?_)
      simp only [jCsrr, hn, State.csrRead, ofNat_mod_word, setX_cyc0]
      rfl
    · refine answers_next (issue_registerResult h hmine ?_)
      simp only [jCsrr, hn, State.csrRead, ofNat_latch]
      rfl
    · refine answers_next (issue_registerResult h hmine ?_)
      simp only [jCsrr, hn, State.csrRead, ofNat_mod_word]
      rfl
    · refine answers_next (issue_registerResult h hmine ?_)
      simp only [jCsrr, hn, State.csrRead, ofNat_latch]
      rfl

end Sys2Proof.Machine

end

section

/-! SUPPORT. Lanes: what a vector instruction leaves in its destination, and the lane operations in the terms of their table
(R176, R184 to R189). -/

namespace Sys2Proof.Machine

/-! ### Writing lanes -/

theorem lane_lanesOf (f : Nat → BitVec 16) {i : Nat} (hi : i < 32) : lane (lanesOf f) i = f i := by
  simp [lane, lanesOf, hi]

@[simp] theorem getV_setV_same (e : Engine) (r : Nat) (v : Vec) : (e.setV r v).getV r = v := by
  simp [Engine.getV, Engine.setV]

theorem getV_setV_ne (e : Engine) {r d : Nat} (v : Vec) (h : r ≠ d) : (e.setV d v).getV r = e.getV r :=
  amap_get_set_ne _ _ _ h

theorem mem_active {e : Engine} {p i : Nat} : i ∈ e.active p ↔ i < 32 ∧ e.on p i = true := by
  simp [Engine.active]

theorem any_active_congr {e : Engine} {p : Nat} {c c' : Nat → Bool} (h : ∀ i, i < 32 → c i = c' i) :
    (e.active p).any c = (e.active p).any c' := by
  rw [Bool.eq_iff_iff, List.any_eq_true, List.any_eq_true]
  refine exists_congr fun i => and_congr_right fun hi => ?_
  rw [h i (mem_active.mp hi).1]

/-- Only the values of the active lanes matter. -/
theorem laneResult_congr {e e' : Engine} {d p z : Nat} {f f' : Nat → BitVec 16} {c c' : Nat → Bool}
    (hf : ∀ i ∈ e.active p, f i = f' i) (hc : ∀ i, i < 32 → c i = c' i) (h : LaneResult e e' d p z f c) :
    LaneResult e e' d p z f' c' := by
  obtain ⟨hlanes, hregs, hvsat, hcsr, hrest⟩ := h
  refine ⟨fun i hi => ?_, hregs, ?_, hcsr, hrest⟩
  · rw [hlanes i hi]
    split
    next hon => exact hf i (mem_active.mpr ⟨hi, hon⟩)
    next => rfl
  · rw [hvsat, any_active_congr hc]

theorem setLanes_laneResult (e : Engine) (d p z : Nat) (f : Nat → BitVec 16) :
    LaneResult e (e.setLanes d p z f) d p z f (fun _ => false) := by
  refine ⟨fun i hi => ?_, fun r hr => getV_setV_ne _ _ hr, ?_, fun _ _ => rfl, rfl⟩
  · rw [Engine.setLanes, getV_setV_same, lane_lanesOf _ hi]
  · rw [if_neg (by simp)]
    rfl

theorem setSat_laneResult (e : Engine) (d p z : Nat) (f : Nat → BitVec 16 × Bool) :
    LaneResult e (e.setSat d p z f) d p z (fun i => (f i).1) (fun i => (f i).2) := by
  obtain ⟨hlanes, hregs, -, hcsr, hrest⟩ := setLanes_laneResult e d p z fun i => (f i).1
  unfold Engine.setSat Engine.flag
  split
  next hany =>
    refine ⟨hlanes, hregs, ?_, fun n hn => ?_, hrest⟩
    · rw [if_pos hany]
      exact amap_get_set_same _ _ _ _
    · exact (amap_get_set_ne _ _ _ hn).trans (hcsr n hn)
  next hany => exact ⟨hlanes, hregs, (if_neg hany).symm, hcsr, hrest⟩

/-- All lanes are active under P0. -/
theorem on_zero (e : Engine) {i : Nat} (hi : i < 32) : e.on 0 i = true := by
  have hall : (0xFFFFFFFF : Word) = BitVec.allOnes 32 := rfl
  simp only [Engine.on, Engine.getP, if_true]
  rw [hall, BitVec.getLsbD_allOnes]
  simpa using hi

/-- A write of a whole register is a write of all lanes. -/
theorem setV_laneResult (e : Engine) (d : Nat) (f : Nat → BitVec 16) :
    LaneResult e (e.setV d (lanesOf f)) d 0 0 f (fun _ => false) := by
  refine ⟨fun i hi => ?_, fun r hr => getV_setV_ne _ _ hr, ?_, fun _ _ => rfl, rfl⟩
  · rw [getV_setV_same, lane_lanesOf _ hi, if_pos (on_zero e hi)]
  · rw [if_neg (by simp)]
    rfl

/-! ### Saturation -/

theorem decide_satS16_ne (x : Int) : decide (satS16 x ≠ x) = overS16 x := by
  rw [overS16, decide_eq_decide]
  unfold satS16 clamp
  omega

theorem decide_satU16_ne (x : Int) : decide (satU16 x ≠ x) = overU16 x := by
  rw [overU16, decide_eq_decide]
  unfold satU16 clamp
  omega

theorem decide_satS40_ne (x : Int) : decide (satS40 x ≠ x) = overS40 x := by
  rw [overS40, decide_eq_decide]
  unfold satS40 clamp
  omega

/-! ### The table of OP 0x28 -/

section

variable (a b : BitVec 16)

theorem laneAlu_absd : BitVec.ofInt 16 (((a.toNat : Int) - b.toNat).natAbs : Int) = if a.ule b then b - a else a - b := by
  have ha := a.isLt
  have hb := b.isLt
  by_cases h : a.toNat ≤ b.toNat
  · rw [if_pos (by simpa [BitVec.ule] using h)]
    have : (((a.toNat : Int) - b.toNat).natAbs : Int) = ((b.toNat - a.toNat : Nat) : Int) := by omega
    rw [this, BitVec.ofInt_natCast]
    apply BitVec.eq_of_toNat_eq
    rw [BitVec.toNat_ofNat, BitVec.toNat_sub]
    omega
  · rw [if_neg (by simpa [BitVec.ule] using h)]
    have : (((a.toNat : Int) - b.toNat).natAbs : Int) = ((a.toNat - b.toNat : Nat) : Int) := by omega
    rw [this, BitVec.ofInt_natCast]
    apply BitVec.eq_of_toNat_eq
    rw [BitVec.toNat_ofNat, BitVec.toNat_sub]
    omega

theorem laneAlu_avg : BitVec.ofInt 16 (((a.toNat : Int) + b.toNat + 1) / 2) = BitVec.ofNat 16 ((a.toNat + b.toNat + 1) / 2) := by
  rw [show ((a.toNat : Int) + b.toNat + 1) / 2 = ((a.toNat + b.toNat + 1) / 2 : Nat) by push_cast; rfl, BitVec.ofInt_natCast]

theorem laneAlu_mulhU :
    BitVec.ofInt 16 ((a.toNat : Int) * b.toNat / 65536) = BitVec.ofNat 16 (a.toNat * b.toNat / 2 ^ 16) := by
  rw [show (a.toNat : Int) * b.toNat / 65536 = (a.toNat * b.toNat / 2 ^ 16 : Nat) by push_cast; rfl, BitVec.ofInt_natCast]

theorem laneAlu_abs :
    BitVec.ofInt 16 (satS16 (a.toInt.natAbs : Int)) = (if a = 0x8000 then 0x7FFF else if a.msb then -a else a) ∧
    overS16 (a.toInt.natAbs : Int) = (a == 0x8000) := by
  by_cases hmin : a = 0x8000
  · subst hmin
    decide
  · have hne : a.toNat ≠ 0x8000 := fun h => hmin (BitVec.eq_of_toNat_eq h)
    have hlt := a.isLt
    have hint := BitVec.toInt_eq_toNat_cond a
    have hmsb := BitVec.msb_eq_decide a
    have hsat : satS16 (a.toInt.natAbs : Int) = a.toInt.natAbs := by
      unfold satS16 clamp
      split at hint <;> omega
    refine ⟨?_, ?_⟩
    · rw [if_neg hmin, hsat, hmsb]
      split at hint
      next hpos =>
        rw [if_neg (by simp; omega), show (a.toInt.natAbs : Int) = a.toInt by omega, BitVec.ofInt_toInt]
      next hneg =>
        rw [if_pos (by simp; omega), show (a.toInt.natAbs : Int) = -a.toInt by omega, BitVec.ofInt_neg, BitVec.ofInt_toInt]
    · rw [← decide_satS16_ne, hsat]
      simpa using hmin

end

theorem ule_eq_ite (a b : BitVec 16) (x y : BitVec 16) :
    (if (a.toNat : Int) ≤ b.toNat then x else y) = if a.ule b then x else y := by
  simp [BitVec.ule]

/-- Every row of the table is the model's lane operation. -/
theorem laneTable_alu : ∀ row ∈ laneTable, row.1 ≠ 0x16 ∧
    ∀ a b, laneAlu row.1 a b false = (row.2.1 a b, row.2.2 a b) := by
  simp only [laneTable, List.forall_mem_cons, List.not_mem_nil, false_implies, implies_true, and_true]
  have signed (x : Int) : ((BitVec.ofInt 16 (satS16 x), decide (satS16 x ≠ x)) : BitVec 16 × Bool) =
    (BitVec.ofInt 16 (satS16 x), overS16 x) := by rw [decide_satS16_ne]
  have unsigned (x : Int) : ((BitVec.ofInt 16 (satU16 x), decide (satU16 x ≠ x)) : BitVec 16 × Bool) =
    (BitVec.ofInt 16 (satU16 x), overU16 x) := by rw [decide_satU16_ne]
  exact ⟨⟨by decide, fun _ _ => rfl⟩, ⟨by decide, fun _ _ => rfl⟩, ⟨by decide, fun _ _ => signed _⟩,
    ⟨by decide, fun _ _ => unsigned _⟩, ⟨by decide, fun _ _ => signed _⟩, ⟨by decide, fun _ _ => unsigned _⟩,
    ⟨by decide, fun _ _ => rfl⟩, ⟨by decide, fun _ _ => rfl⟩, ⟨by decide, fun _ _ => rfl⟩,
    ⟨by decide, fun a b => Prod.ext (sle_eq_ite a b a b) rfl⟩, ⟨by decide, fun a b => Prod.ext (ule_eq_ite a b a b) rfl⟩,
    ⟨by decide, fun a b => Prod.ext (sle_eq_ite a b b a) rfl⟩, ⟨by decide, fun a b => Prod.ext (ule_eq_ite a b b a) rfl⟩,
    ⟨by decide, fun a b => Prod.ext (laneAlu_absd a b) rfl⟩, ⟨by decide, fun a b => Prod.ext (laneAlu_avg a b) rfl⟩,
    ⟨by decide, fun _ _ => rfl⟩, ⟨by decide, fun _ _ => by norm_num [laneAlu]⟩,
    ⟨by decide, fun a b => Prod.ext (laneAlu_mulhU a b) rfl⟩, ⟨by decide, fun a b => by norm_num [laneAlu, ← decide_satS16_ne]⟩,
    ⟨by decide, fun _ _ => rfl⟩, ⟨by decide, fun _ _ => rfl⟩, ⟨by decide, fun _ _ => rfl⟩,
    ⟨by decide, fun a _ => (signed _).trans (Prod.ext (laneAlu_abs a).1 (laneAlu_abs a).2)⟩⟩

/-- An instruction on the engine's own registers whose effect on them is a write of lanes. -/
theorem issueReg_laneResult {s : State} {g w τ d p z : Nat} {mine : Nat → Bool} {act : Nat → Engine → Engine}
    {f : Nat → BitVec 16} {c : Nat → Bool} (h : s.Runs g w) (hmine : mine w = true)
    (hact : LaneResult (s.eng g) (act w (s.eng g)) d p z f c) :
    Answers (.next (s.issueReg g τ mine act)) fun t => ∃ e', RegisterResult s t τ g w e' ∧ LaneResult (s.eng g) e' d p z f c :=
  answers_next ⟨_, issueReg_registerResult h hmine, hact⟩

/-- A lane operation of OP 0x28 or 0x29 by its row, on B lane by lane. -/
theorem jVAlu_laneResult {w : Nat} (b : Nat → BitVec 16) (e : Engine) {row} (hrow : row ∈ laneTable) (hfn : jFn w = row.1) :
    LaneResult e (jVAlu w b e) (jD w) (jPr w) (jZ w) (fun i => row.2.1 (lane (e.getV (jA w)) i) (b i))
      (fun i => row.2.2 (lane (e.getV (jA w)) i) (b i)) := by
  obtain ⟨hsel, halu⟩ := laneTable_alu row hrow
  have hresult := setSat_laneResult e (jD w) (jPr w) (jZ w) fun i => laneAlu (jFn w) (lane (e.getV (jA w)) i) (b i) false
  rw [hfn] at hresult
  simp only [halu] at hresult
  simpa only [jVAlu, hfn, if_neg hsel, halu] using hresult

/-- VSEL writes every lane by its predicate. -/
theorem jVAlu_vsel {w : Nat} (b : Nat → BitVec 16) (e : Engine) (hfn : jFn w = 0x16) :
    LaneResult e (jVAlu w b e) (jD w) 0 0 (fun i => if e.on (jPr w) i then lane (e.getV (jA w)) i else b i) (fun _ => false) := by
  have hresult := setV_laneResult e (jD w) fun i => if e.on (jPr w) i then lane (e.getV (jA w)) i else b i
  simpa only [jVAlu, hfn, if_true, laneAlu] using hresult

end Sys2Proof.Machine

end

section

/-! CERTIFICATE. O11, O12, O14: lane operations, selects, shifts and narrowing. -/

namespace Sys2Proof.Machine

/-- The lane instructions of OP 0x28 with their FN. -/
def laneCtors : List ((Fin 132 → Nat → Instr) × Nat) :=
  [(.vadd, 0x00), (.vsub, 0x01), (.vaddsS, 0x02), (.vaddsU, 0x03), (.vsubsS, 0x04), (.vsubsU, 0x05), (.vand, 0x06),
   (.vor, 0x07), (.vxor, 0x08), (.vminS, 0x09), (.vminU, 0x0A), (.vmaxS, 0x0B), (.vmaxU, 0x0C), (.vabsdU, 0x0D),
   (.vavgU, 0x0E), (.vmul, 0x0F), (.vmulhS, 0x10), (.vmulhU, 0x11), (.vmulq, 0x12), (.vshl, 0x13), (.vshrU, 0x14),
   (.vshrS, 0x15), (.vabsS, 0x17)]

theorem laneCtors_exec : ∀ ctor ∈ laneCtors, ∀ (g : Fin 132) (τ : Nat) (s : State),
    exec (ctor.1 g τ) s = .next (s.issueReg g τ (isR 0x28 ctor.2) jVec) := by
  simp only [laneCtors, List.forall_mem_cons, List.not_mem_nil, false_implies, implies_true, and_true]
  and_intros
  all_goals exact fun _ _ _ => rfl

/-- Settles O11: every constructor issues the lane operation, whose rows are those of the table. -/
theorem laneInstructionsWriteActiveLanes : Obligations.LaneInstructionsWriteActiveLanes := by
  intro ctor hctor row hrow hfn' g τ s w h hop hfn
  have hact := jVAlu_laneResult (w := w) (lane ((s.eng g).getV (jB w))) (s.eng g) hrow (hfn.trans hfn'.symm)
  exact laneCtors_exec ctor hctor g τ s ▸ issueReg_laneResult h (by simp [isR, hop, hfn]) hact

/-- Settles O12: VSEL and the forms with a scalar operand. -/
theorem selectAndScalarOperandFormsFollowTheTable : Obligations.SelectAndScalarOperandFormsFollowTheTable := by
  refine fun g τ s w h => ⟨fun hop hfn => ?_, fun hop hfn => ?_, fun row hrow hop hfn => ?_⟩
  · exact issueReg_laneResult h (by simp [isR, hop, hfn]) (jVAlu_vsel _ _ hfn)
  · exact issueReg_laneResult h (by simp [isOp, hop]) (jVAlu_vsel _ _ hfn)
  · exact issueReg_laneResult h (by simp [isOp, hop]) (jVAlu_laneResult _ _ hrow hfn)

theorem laneShi_eq (k rm n : Nat) (a : BitVec 16) :
    laneShi k rm n a =
      (if k = 0 then a <<< n else if k = 1 then BitVec.ofInt 16 (satS16 (a.toInt * 2 ^ n))
        else if k = 2 then BitVec.ofInt 16 (shiftRound a.toInt n rm) else BitVec.ofInt 16 (shiftRound a.toNat n rm),
       k == 1 && overS16 (a.toInt * 2 ^ n)) := by
  match k with
  | 0 | 2 => rfl
  | 1 => simp [laneShi, ← decide_satS16_ne]
  | k + 3 => simp [laneShi]

theorem laneAcc_eq (k rm n : Nat) (acc : BitVec 40) :
    laneAcc k rm n acc =
      (BitVec.ofInt 16 (if k = 0 then satS16 (shiftRound acc.toInt n rm) else if k = 1 then satU16 (shiftRound acc.toInt n rm)
        else shiftRound acc.toInt n rm),
       (k == 0 && overS16 (shiftRound acc.toInt n rm)) || (k == 1 && overU16 (shiftRound acc.toInt n rm))) := by
  match k with
  | 0 => simp [laneAcc, ← decide_satS16_ne]
  | 1 => simp [laneAcc, ← decide_satU16_ne]
  | k + 2 => simp [laneAcc]

/-- Settles O14: the shifts and the narrowing of accumulators are writes of lanes with the immediate's operation. -/
theorem shiftAndNarrowInstructionsFollowTheirImmediate : Obligations.ShiftAndNarrowInstructionsFollowTheirImmediate := by
  intro g τ s w h e a acc k rm n r
  refine ⟨fun hop => issueReg_laneResult h (by simp [isOp, hop]) ?_, fun hop => issueReg_laneResult h (by simp [isOp, hop]) ?_⟩
  · have hresult := setSat_laneResult e (jD w) (viPr w) (viZ w) fun i => laneShi k rm n (a i)
    simp only [laneShi_eq] at hresult
    simpa only [jVshi, laneShi_eq] using hresult
  · have hresult := setSat_laneResult e (jD w) (viPr w) (viZ w) fun i => laneAcc k rm (bitsOf w 0 6) (acc i)
    simp only [laneAcc_eq] at hresult
    simpa only [jVacc, laneAcc_eq] using hresult

end Sys2Proof.Machine

end

section

/-! SUPPORT. Predicates, accumulators, bytes of a vector and reductions (R176, R186 to R190). -/

namespace Sys2Proof.Machine

/-! ### Words bit by bit -/

theorem bits_foldl (f : Nat → Bool) (n : Nat) :
    (List.range n).foldl (fun m i => if f i then m + 2 ^ i else m) 0 < 2 ^ n ∧
    ∀ i, i < n → ((List.range n).foldl (fun m i => if f i then m + 2 ^ i else m) 0).testBit i = f i := by
  induction n with
  | zero => exact ⟨by simp, fun i hi => absurd hi (Nat.not_lt_zero i)⟩
  | succ n ih =>
    obtain ⟨hlt, hbits⟩ := ih
    rw [List.range_succ, List.foldl_append]
    set v := (List.range n).foldl (fun m i => if f i then m + 2 ^ i else m) 0
    have hpow : 2 ^ (n + 1) = 2 ^ n + 2 ^ n := by rw [pow_succ]; omega
    simp only [List.foldl_cons, List.foldl_nil]
    cases hf : f n
    · refine ⟨by simp; omega, fun i hi => ?_⟩
      rcases Nat.lt_succ_iff_lt_or_eq.mp hi with hi | rfl
      · simpa using hbits i hi
      · simpa [hf] using Nat.testBit_lt_two_pow hlt
    · refine ⟨by simp; omega, fun i hi => ?_⟩
      rw [if_pos rfl, Nat.add_comm]
      rcases Nat.lt_succ_iff_lt_or_eq.mp hi with hi | rfl
      · rw [Nat.testBit_two_pow_add_gt hi, hbits i hi]
      · rw [Nat.testBit_two_pow_add_eq, Nat.testBit_lt_two_pow hlt, hf]
        rfl

theorem getLsbD_bitsFrom (f : Nat → Bool) {i : Nat} (hi : i < 32) : (bitsFrom f).getLsbD i = f i := by
  rw [bitsFrom, BitVec.getLsbD_ofNat, (bits_foldl f 32).2 i hi]
  simp [hi]

/-! ### Predicates -/

@[simp] theorem getP_zero (e : Engine) : e.getP 0 = 0xFFFFFFFF := rfl

theorem getP_setP_same (e : Engine) {r : Nat} (v : Word) (h : r ≠ 0) : (e.setP r v).getP r = v := by
  simp [Engine.getP, Engine.setP, h]

theorem getP_setP_ne (e : Engine) {r d : Nat} (v : Word) (h : r ≠ d) : (e.setP d v).getP r = e.getP r := by
  unfold Engine.setP Engine.getP
  split_ifs
  · rfl
  · rfl
  · exact amap_get_set_ne _ _ _ h

theorem setP_predicateResult (e : Engine) (d p z : Nat) (f : Nat → Bool) :
    PredicateResult e (e.setP d (bitsFrom fun i => if e.on p i then f i else if z = 1 then false else (e.getP d).getLsbD i))
      d p z f := by
  refine ⟨fun hd i hi => ?_, fun r hr => getP_setP_ne _ _ hr, rfl, ?_⟩
  · rw [getP_setP_same _ _ hd, getLsbD_bitsFrom _ hi]
  · unfold Engine.setP
    split <;> rfl

theorem laneCmp_eq_of_mod (c : Nat) (a b : BitVec 16) : laneCmp (8 + c) a b = laneCmp c a b := by
  simp [laneCmp]

theorem bitsFrom_first (n : Nat) :
    bitsFrom (fun i => decide (i < n)) = if 32 ≤ n then 0xFFFFFFFF else BitVec.ofNat 32 (2 ^ n - 1) := by
  apply BitVec.eq_of_getLsbD_eq
  intro i hi
  rw [getLsbD_bitsFrom _ hi]
  split
  next hn =>
    rw [show (0xFFFFFFFF : Word) = BitVec.allOnes 32 from rfl, BitVec.getLsbD_allOnes]
    simp [hi, show i < n by omega]
  next hn =>
    rw [BitVec.getLsbD_ofNat, Nat.testBit_two_pow_sub_one]
    simp [hi]

/-! ### Accumulators -/

theorem accLane_ofFn (f : Nat → BitVec 40) {i : Nat} (hi : i < 32) :
    accLane (Vector.ofFn fun i : Fin 32 => f i) i = f i := by
  simp [accLane, hi]

/-- The accumulator operations: what they leave before the clamp, and that a product alone needs no clamp (R188). -/
theorem laneMac_eq (fn : Nat) (acc : BitVec 40) (a b : BitVec 16) (x : Int)
    (hx : (fn = 0 ∧ x = acc.toInt + a.toInt * b.toInt) ∨ (fn = 1 ∧ x = acc.toInt + a.toNat * b.toNat) ∨
      (fn = 2 ∧ x = acc.toInt + a.toInt * b.toNat) ∨ (fn = 3 ∧ x = acc.toInt - a.toInt * b.toInt) ∨
      (fn = 4 ∧ x = a.toInt * b.toInt) ∨ (fn = 5 ∧ x = a.toNat * b.toNat) ∨ (fn = 6 ∧ x = 0)) :
    laneMac fn acc a b = (BitVec.ofInt 40 (satS40 x), overS40 x) := by
  have fits (hlow : -2 ^ 39 ≤ x) (hhigh : x < 2 ^ 39) : satS40 x = x ∧ overS40 x = false := by
    have hsat : satS40 x = x := by unfold satS40 clamp; omega
    exact ⟨hsat, by rw [← decide_satS40_ne, hsat]; simp⟩
  rcases hx with ⟨rfl, rfl⟩ | ⟨rfl, rfl⟩ | ⟨rfl, rfl⟩ | ⟨rfl, rfl⟩ | ⟨rfl, hx⟩ | ⟨rfl, hx⟩ | ⟨rfl, hx⟩
  · simp only [laneMac, decide_satS40_ne]
  · simp only [laneMac, decide_satS40_ne]
  · simp only [laneMac, decide_satS40_ne]
  · simp only [laneMac, decide_satS40_ne]
  · have ha := BitVec.toInt_lt (x := a)
    have ha' := BitVec.le_toInt a
    have hb := BitVec.toInt_lt (x := b)
    have hb' := BitVec.le_toInt b
    obtain ⟨hsat, hover⟩ := fits (by rw [hx]; norm_num at *; nlinarith) (by rw [hx]; norm_num at *; nlinarith)
    rw [hsat, hover, hx]
    rfl
  · have ha := a.isLt
    have hb := b.isLt
    have hprod : a.toNat * b.toNat ≤ 65535 * 65535 := Nat.mul_le_mul (by omega) (by omega)
    have hx' : x = (a.toNat * b.toNat : Nat) := by rw [hx]; push_cast; rfl
    obtain ⟨hsat, hover⟩ := fits (by omega) (by omega)
    rw [hsat, hover, hx]
    rfl
  · obtain ⟨hsat, hover⟩ := fits (by omega) (by omega)
    rw [hsat, hover, hx]
    rfl

/-- OP 0x30 with the exact lane values `x` (R187, R188). -/
theorem jMac_accumulatorResult {w : Nat} (e : Engine) (x : Nat → Int)
    (hx : ∀ i, laneMac (jFn w) (accLane (e.getA (jD w)) i) (lane (e.getV (jA w)) i) (lane (e.getV (jB w)) i) =
      (BitVec.ofInt 40 (satS40 (x i)), overS40 (x i))) :
    AccumulatorResult e (jMac w e) (jD w) (jPr w) (jZ w) (fun i => BitVec.ofInt 40 (satS40 (x i))) (fun i => overS40 (x i)) := by
  set v := Vector.ofFn fun i : Fin 32 => if e.on (jPr w) i then BitVec.ofInt 40 (satS40 (x i)) else
    if jZ w = 1 then 0 else accLane (e.getA (jD w)) i with hv
  have hmac : jMac w e = (e.setA (jD w) v).flag 1 ((e.active (jPr w)).any fun i => overS40 (x i)) := by
    simp only [jMac, hx, hv]
  have ha : (jMac w e).a = AMap.set e.a (jD w) v := by
    rw [hmac, Engine.flag]
    split <;> rfl
  refine ⟨fun i hi => ?_, fun r hr => ?_, ?_, fun n hn => ?_, ?_⟩
  · rw [Engine.getA, ha, amap_get_set_same, hv,
      accLane_ofFn (fun i => if e.on (jPr w) i then BitVec.ofInt 40 (satS40 (x i)) else
        if jZ w = 1 then 0 else accLane (e.getA (jD w)) i) hi]
  · rw [Engine.getA, ha, amap_get_set_ne _ _ _ hr]
    rfl
  · rw [hmac, Engine.flag]
    split
    · exact amap_get_set_same _ _ _ _
    · rfl
  · rw [hmac, Engine.flag]
    split
    · exact amap_get_set_ne _ _ _ hn
    · rfl
  · rw [hmac, Engine.flag]
    split <;> rfl

/-! ### Reductions -/

theorem foldl_add_eq_sum {α β : Type} [AddCommMonoid β] (f : α → β) (l : List α) :
    l.foldl (fun n x => n + f x) 0 = (l.map f).sum := by
  rw [List.sum_eq_foldl, List.foldl_map]

theorem foldl_eq_foldr_map {α β : Type} (op : β → β → β) (b : β) (f : α → β) (l : List α) (hc : ∀ x y, op x y = op y x)
    (ha : ∀ x y z, op (op x y) z = op x (op y z)) : l.foldl (fun n x => op n (f x)) b = (l.map f).foldr op b := by
  have : Std.Commutative op := ⟨hc⟩
  have : Std.Associative op := ⟨ha⟩
  rw [← List.foldl_eq_foldr, List.foldl_map]

/-! ### Bytes of a vector -/

@[simp] theorem length_vecBytes (v : Vec) : (vecBytes v).length = 64 := by
  simp [vecBytes, List.length_flatMap]

theorem getD_flatMap_two {α : Type} (f : α → List Nat) (hf : ∀ x, (f x).length = 2) (l : List α) (d : α) {j : Nat}
    (hj : j < 2 * l.length) : (l.flatMap f).getD j 0 = (f (l.getD (j / 2) d)).getD (j % 2) 0 := by
  induction l generalizing j with
  | nil => simp at hj
  | cons x l ih =>
    rw [List.flatMap_cons]
    rcases Nat.lt_or_ge j 2 with h | h
    · rw [List.getD_append _ _ _ _ (by rw [hf]; exact h), Nat.div_eq_of_lt h, Nat.mod_eq_of_lt h]
      rfl
    · rw [List.getD_append_right _ _ _ _ (by rw [hf]; exact h), hf, ih (by simp at hj; omega),
        show j / 2 = (j - 2) / 2 + 1 by omega, List.getD_cons_succ, show (j - 2) % 2 = j % 2 by omega]

theorem getD_leBytes_two (v : Nat) {k : Nat} (hk : k < 2) : (leBytes 2 v).getD k 0 = v / 256 ^ k % 256 := by
  match k with
  | 0 | 1 => simp [leBytes]

theorem getD_vecBytes (v : Vec) {j : Nat} (hj : j < 64) :
    (vecBytes v).getD j 0 = (lane v (j / 2)).toNat / 256 ^ (j % 2) % 256 := by
  rw [vecBytes, getD_flatMap_two _ (fun _ => length_leBytes _ _) _ 0 (by simpa using hj), getD_leBytes_two _ (by omega)]
  rfl

end Sys2Proof.Machine

end

section

/-! CERTIFICATE. O15 to O19: compares, lane moves, reductions, predicates and accumulators. -/

namespace Sys2Proof.Machine

/-- The comparisons by their number. -/
theorem compareTable_cmp : ∀ row ∈ ([(0, fun a b => a == b), (1, fun a b => a != b), (2, fun a b => a.slt b), (3, fun a b => a.sle b),
    (4, fun a b => a.ult b), (5, fun a b => a.ule b)] : List (Nat × (BitVec 16 → BitVec 16 → Bool))),
    row.1 < 8 ∧ ∀ a b, laneCmp row.1 a b = row.2 a b := by
  simp only [List.forall_mem_cons, List.not_mem_nil, false_implies, implies_true, and_true]
  exact ⟨⟨by decide, fun _ _ => rfl⟩, ⟨by decide, fun _ _ => rfl⟩, ⟨by decide, fun _ _ => rfl⟩, ⟨by decide, fun _ _ => rfl⟩,
    ⟨by decide, fun _ _ => rfl⟩, by decide, fun _ _ => rfl⟩

/-- Settles O15: the compare writes the active bits of Pd; its FN names the comparison and the form of B. -/
theorem comparesWritePredicateLanes : Obligations.ComparesWritePredicateLanes := by
  intro row hrow g τ s w h hop e a
  obtain ⟨hlt, hcmp⟩ := compareTable_cmp row hrow
  have hmine : isOp 0x2B w = true := by simp [isOp, hop]
  refine ⟨fun hfn => ?_, fun hfn => ?_⟩
  · refine answers_next ⟨_, issueReg_registerResult h hmine, ?_⟩
    have hresult := setP_predicateResult e (jD w) (jPr w) (jZ w) fun i => row.2 (a i) (lane (e.getV (jB w)) i)
    simpa only [jVcmp, hfn, if_pos hlt, hcmp] using hresult
  · refine answers_next ⟨_, issueReg_registerResult h hmine, ?_⟩
    have hresult := setP_predicateResult e (jD w) (jPr w) (jZ w) fun i => row.2 (a i) (e.half (jB w))
    simp only [jVcmp, hfn, if_neg (show ¬ 8 + row.1 < 8 by omega), laneCmp_eq_of_mod, hcmp]
    exact hresult

/-- Settles O16: each row writes the active lanes with what its table names. -/
theorem laneMovesWriteActiveLanes : Obligations.LaneMovesWriteActiveLanes := by
  intro g τ s w h e a b half sat8 sat8of byte
  have move {fn : Nat} {act : Nat → Engine → Engine} {f f' : Nat → BitVec 16} {o : Host.Outcome State Fault Refusal}
      (ho : o = .next (s.issueReg g τ (isR 0x2C fn) act)) (hact : jFn w = fn → act w e = e.setLanes (jD w) (jPr w) (jZ w) f)
      (hf : ∀ i, i < 32 → f i = f' i) (hop : jOp w = 0x2C) (hfn : jFn w = fn) :
      Answers o fun t => ∃ e', RegisterResult s t τ g w e' ∧ LaneResult e e' (jD w) (jPr w) (jZ w) f' (fun _ => false) := by
    have hlanes := laneResult_congr (fun i hi => hf i (mem_active.mp hi).1) (fun _ _ => rfl) (setLanes_laneResult e (jD w) (jPr w) (jZ w) f)
    rw [← hact hfn] at hlanes
    exact ho ▸ issueReg_laneResult h (by simp [isR, hop, hfn]) hlanes
  refine ⟨?_, fun hop => ?_⟩
  · simp only [List.forall_mem_cons, List.not_mem_nil, false_implies, implies_true, and_true]
    refine ⟨move rfl (fun _ => rfl) fun _ _ => rfl, move rfl (fun _ => rfl) fun _ _ => rfl,
      move rfl (fun _ => rfl) fun _ _ => rfl, move rfl (fun _ => rfl) fun _ _ => rfl, move rfl (fun _ => rfl) ?_,
      move rfl (fun hfn => by rw [jVunpk, hfn]) ?_, move rfl (fun hfn => by rw [jVunpk, hfn]) ?_,
      move rfl (fun _ => rfl) fun _ _ => rfl⟩
    · intro i hi
      have hbyte (k : Nat) : packByte (e.getV (jA w)) (e.getV (jB w)) k = sat8of k := by
        simp only [packByte, sat8of, sat8]
        split <;> rfl
      rw [hbyte, hbyte]
    · intro i hi
      rw [getD_vecBytes _ (by omega)]
      rfl
    · intro i hi
      rw [getD_vecBytes _ (by omega), Nat.add_comm]
  · exact issueReg_laneResult h (by simp [isOp, hop]) (setLanes_laneResult _ _ _ _ _)

/-- Settles O17: a fold over the active lanes is the sum, the maximum or the minimum of their values. -/
theorem reductionsWriteAScalar : Obligations.ReductionsWriteAScalar := by
  intro g τ s w h hop e a ls
  have row {fn : Nat} {act : Nat → Engine → Engine} {v : Word} {o : Host.Outcome State Fault Refusal}
      (ho : o = .next (s.issueReg g τ (isR 0x2C fn) act)) (hact : jFn w = fn → act w e = e.setX (jD w) v) (hfn : jFn w = fn) :
      Answers o fun t => RegisterResult s t τ g w (e.setX (jD w) v) := by
    rw [← hact hfn]
    exact ho ▸ answers_next (issueReg_registerResult h (by simp [isR, hop, hfn]))
  simp only [List.forall_mem_cons, List.not_mem_nil, false_implies, implies_true, and_true]
  refine ⟨row rfl fun _ => ?_, row rfl fun hfn => ?_, row rfl fun hfn => ?_, row rfl fun hfn => ?_, row rfl fun hfn => ?_⟩
  · refine congrArg (e.setX (jD w)) (BitVec.eq_of_toNat_eq ?_)
    rw [BitVec.toNat_ofNat, BitVec.toNat_setWidth]
  · rw [jVred, hfn, ← foldl_add_eq_sum BitVec.toInt]
    rfl
  · rw [jVred, hfn, ← foldl_add_eq_sum BitVec.toNat]
    rfl
  · rw [jVred, hfn, ← foldl_eq_foldr_map max 0 BitVec.toNat ls Nat.max_comm Nat.max_assoc]
    rfl
  · rw [jVred, hfn, ← foldl_eq_foldr_map min 65535 BitVec.toNat ls Nat.min_comm Nat.min_assoc]
    rfl

/-- Settles O18: each FN of OP 0x2E by its branch. -/
theorem predicateInstructionsWriteTheirResult : Obligations.PredicateInstructionsWriteTheirResult := by
  intro g τ s w h hop e a b
  have row {fn : Nat} {e' : Engine} {o : Host.Outcome State Fault Refusal}
      (ho : o = .next (s.issueReg g τ (isR 0x2E fn) jPalu)) (hact : jFn w = fn → jPalu w e = e') (hfn : jFn w = fn) :
      Answers o fun t => RegisterResult s t τ g w e' := by
    rw [← hact hfn]
    exact ho ▸ answers_next (issueReg_registerResult h (by simp [isR, hop, hfn]))
  refine ⟨?_, row rfl fun hfn => by simp only [jPalu, hfn]; rfl⟩
  simp only [List.forall_mem_cons, List.not_mem_nil, false_implies, implies_true, and_true]
  exact ⟨row rfl fun hfn => by simp only [jPalu, hfn]; rfl, row rfl fun hfn => by simp only [jPalu, hfn]; rfl,
    row rfl fun hfn => by simp only [jPalu, hfn]; rfl, row rfl fun hfn => by simp only [jPalu, hfn]; rfl,
    row rfl fun hfn => by simp only [jPalu, hfn]; rfl, row rfl fun hfn => by simp only [jPalu, hfn],
    row rfl fun hfn => by simp only [jPalu, hfn, bitsFrom_first]⟩

/-- Settles O19: each row is `jMac_accumulatorResult` with its exact value. -/
theorem accumulatorInstructionsClampToFortyBits : Obligations.AccumulatorInstructionsClampToFortyBits := by
  intro g τ s w h hop e a b acc
  have row {fn : Nat} {x : Nat → Int} {o : Host.Outcome State Fault Refusal}
      (ho : o = .next (s.issueReg g τ (isR 0x30 fn) jMac))
      (hx : ∀ i, laneMac fn (accLane (e.getA (jD w)) i) (a i) (b i) = (BitVec.ofInt 40 (satS40 (x i)), overS40 (x i)))
      (hfn : jFn w = fn) :
      Answers o fun t => ∃ e', RegisterResult s t τ g w e' ∧
        AccumulatorResult e e' (jD w) (jPr w) (jZ w) (fun i => BitVec.ofInt 40 (satS40 (x i))) (fun i => overS40 (x i)) :=
    ho ▸ answers_next ⟨_, issueReg_registerResult h (by simp [isR, hop, hfn]), jMac_accumulatorResult e x (hfn ▸ hx)⟩
  simp only [List.forall_mem_cons, List.not_mem_nil, false_implies, implies_true, and_true]
  exact ⟨row rfl fun i => laneMac_eq 0 _ _ _ _ (by simp [acc]), row rfl fun i => laneMac_eq 1 _ _ _ _ (by simp [acc]),
    row rfl fun i => laneMac_eq 2 _ _ _ _ (by simp [acc]), row rfl fun i => laneMac_eq 3 _ _ _ _ (by simp [acc]),
    row rfl fun i => laneMac_eq 4 _ _ _ _ (by simp), row rfl fun i => laneMac_eq 5 _ _ _ _ (by simp),
    row rfl fun i => laneMac_eq 6 _ _ _ _ (by simp)⟩

end Sys2Proof.Machine

end

section

/-! SUPPORT. Runs of stores into one memory, and the lanes that vector loads and stores touch (R186, R192, R193). -/

namespace Sys2Proof.Machine

/-! ### Bytes one by one -/

theorem readBytes_split (m : Mem) (a k n : Nat) : Mem.readBytes m a (k + n) = Mem.readBytes m a k ++ Mem.readBytes m (a + k) n := by
  unfold Mem.readBytes
  rw [List.range_add, List.map_append, List.map_map]
  refine congrArg _ (List.map_congr_left fun i _ => ?_)
  simp [Nat.add_assoc]

theorem memBytes_split (s : State) (m : MemId) (a k n : Nat) :
    s.memBytes m a (k + n) = s.memBytes m a k ++ s.memBytes m (a + k) n := by
  cases m with
  | line _ => rfl
  | _ => exact readBytes_split _ _ _ _

theorem memBytes_two (s : State) (m : MemId) (a : Nat) : s.memBytes m a 2 = s.memBytes m a 1 ++ s.memBytes m (a + 1) 1 :=
  memBytes_split s m a 1 1

/-- The byte at an address. -/
def State.byteAt (s : State) (m : MemId) (a : Nat) : Nat := (s.memBytes m a 1).getD 0 0

theorem byteAt_lt (s : State) (m : MemId) (a : Nat) : s.byteAt m a < 256 := by
  cases m <;> simp [State.byteAt, State.memBytes, Mem.readBytes] <;> exact BitVec.isLt _

theorem memBytes_one (s : State) {m : MemId} (a : Nat) (hm : ∀ k, m ≠ .line k) : s.memBytes m a 1 = [s.byteAt m a] := by
  cases m with
  | line k => exact absurd rfl (hm k)
  | _ => rfl

theorem memBytes_pair (s : State) {m : MemId} (a : Nat) (hm : ∀ k, m ≠ .line k) :
    s.memBytes m a 2 = [s.byteAt m a, s.byteAt m (a + 1)] := by
  rw [memBytes_two, memBytes_one _ _ hm, memBytes_one _ _ hm]
  rfl

theorem getD_memBytes (s : State) {m : MemId} (a : Nat) {n j : Nat} (hm : ∀ k, m ≠ .line k) (hj : j < n) :
    (s.memBytes m a n).getD j 0 = s.byteAt m (a + j) := by
  cases m with
  | line k => exact absurd rfl (hm k)
  | _ => simp [State.byteAt, State.memBytes, Mem.readBytes, hj]

theorem leNat_pair (a b : Nat) (ha : a < 256) (hb : b < 256) : leNat [a, b] = a + 256 * b := by
  simp only [leNat]
  omega

theorem byteAt_memPut (s : State) {m : MemId} (a y : Nat) {bs : List Nat} (hm : ∀ k, m ≠ .line k) (h : ∀ b ∈ bs, b < 256) :
    (s.memPut m a bs).byteAt m y = if a ≤ y ∧ y < a + bs.length then bs.getD (y - a) 0 else s.byteAt m y := by
  split
  next hin =>
    have hput := memBytes_memPut_same s a hm h
    have hget := getD_memBytes (s.memPut m a bs) a (j := y - a) (n := bs.length) hm (by omega)
    rw [hput, show a + (y - a) = y by omega] at hget
    exact hget.symm
  next hout => rw [State.byteAt, memBytes_memPut_out _ _ _ _ _ _ (by omega)]; rfl

/-! ### Runs of stores -/

/-- Stores into `m`, one after another. -/
def State.stores (s : State) (m : MemId) (ws : List (Nat × List Nat)) : State := ws.foldl (fun s w => s.memWrite m w.1 w.2) s

section

variable {s : State} {m : MemId} {ws : List (Nat × List Nat)}

theorem stores_cons (w : Nat × List Nat) : s.stores m (w :: ws) = (s.memWrite m w.1 w.2).stores m ws := rfl

theorem stores_append (vs : List (Nat × List Nat)) : s.stores m (vs ++ ws) = (s.stores m vs).stores m ws := List.foldl_append

/-- Stores into clean memory change memory only. -/
theorem stores_frame (hclean : s.clean) (hws : ∀ w ∈ ws, w.2 ≠ []) :
    { s.stores m ws with mems := s.mems } = s ∧ (s.stores m ws).mems.host = s.mems.host := by
  induction ws generalizing s with
  | nil => exact ⟨rfl, rfl⟩
  | cons w ws ih =>
    rw [stores_cons, memWrite_clean _ hclean (hws w List.mem_cons_self)]
    obtain ⟨hframe, hhost⟩ := ih (s := s.memPut m w.1 w.2) (by rwa [State.clean, memPut_memu])
      fun v hv => hws v (List.mem_cons_of_mem _ hv)
    refine ⟨?_, hhost.trans (memPut_host _ _ _ _)⟩
    have := congrArg (fun t : State => { t with mems := s.mems }) hframe
    exact this.trans (memPut_frame _ _ _ _)

theorem stores_clean (hclean : s.clean) (hws : ∀ w ∈ ws, w.2 ≠ []) : (s.stores m ws).clean := by
  have hmemu : (s.stores m ws).memu = s.memu := by
    have := congrArg State.memu (stores_frame (m := m) hclean hws).1
    exact this
  rwa [State.clean, hmemu]

theorem stores_other (hclean : s.clean) (hws : ∀ w ∈ ws, w.2 ≠ []) {k : MemId} (hk : k ≠ m) (y n : Nat) :
    (s.stores m ws).memBytes k y n = s.memBytes k y n := by
  induction ws generalizing s with
  | nil => rfl
  | cons w ws ih =>
    rw [stores_cons, memWrite_clean _ hclean (hws w List.mem_cons_self),
      ih (by rwa [State.clean, memPut_memu]) fun v hv => hws v (List.mem_cons_of_mem _ hv)]
    exact memBytes_memPut_other _ _ _ _ _ hk

theorem stores_outside (hclean : s.clean) (hws : ∀ w ∈ ws, w.2 ≠ []) {y : Nat}
    (hout : ∀ w ∈ ws, ¬(w.1 ≤ y ∧ y < w.1 + w.2.length)) : (s.stores m ws).memBytes m y 1 = s.memBytes m y 1 := by
  induction ws generalizing s with
  | nil => rfl
  | cons w ws ih =>
    rw [stores_cons, memWrite_clean _ hclean (hws w List.mem_cons_self),
      ih (by rwa [State.clean, memPut_memu]) (fun v hv => hws v (List.mem_cons_of_mem _ hv))
        fun v hv => hout v (List.mem_cons_of_mem _ hv)]
    have := hout w List.mem_cons_self
    exact memBytes_memPut_out _ _ _ _ _ _ (by omega)

/-- Stores that agree with `F` at every byte leave `F` where one of them reaches, in whatever order. -/
theorem stores_agree (hclean : s.clean) (hm : ∀ k, m ≠ .line k) (hws : ∀ w ∈ ws, w.2 ≠ []) (hlt : ∀ w ∈ ws, ∀ b ∈ w.2, b < 256)
    {y v : Nat} (hF : ∀ w ∈ ws, w.1 ≤ y → y < w.1 + w.2.length → w.2.getD (y - w.1) 0 = v)
    (hy : s.byteAt m y = v ∨ ∃ w ∈ ws, w.1 ≤ y ∧ y < w.1 + w.2.length) : (s.stores m ws).byteAt m y = v := by
  induction ws generalizing s with
  | nil =>
    rcases hy with hy | ⟨w, hw, _⟩
    · exact hy
    · exact absurd hw List.not_mem_nil
  | cons w ws ih =>
    rw [stores_cons, memWrite_clean _ hclean (hws w List.mem_cons_self)]
    refine ih (by rwa [State.clean, memPut_memu]) (fun v hv => hws v (List.mem_cons_of_mem _ hv))
      (fun v hv => hlt v (List.mem_cons_of_mem _ hv)) (fun v hv => hF v (List.mem_cons_of_mem _ hv)) ?_
    rw [byteAt_memPut _ _ _ hm (hlt w List.mem_cons_self)]
    split
    next hin => exact Or.inl (hF w List.mem_cons_self hin.1 hin.2)
    next hout =>
      rcases hy with hy | ⟨v, hv, hin⟩
      · exact Or.inl hy
      · rcases List.mem_cons.mp hv with rfl | hv
        · exact absurd hin hout
        · exact Or.inr ⟨v, hv, hin⟩

end

/-! ### Runs of lanes -/

theorem laneRuns_cons (x : Nat) (xs : List Nat) :
    laneRuns (x :: xs) = (x, 1) :: laneRuns xs ∨
    ∃ n rest, laneRuns xs = (x + 1, n) :: rest ∧ laneRuns (x :: xs) = (x, n + 1) :: rest := by
  rw [laneRuns]
  split
  next y n rest heq =>
    split
    next hy => exact Or.inr ⟨n, rest, by rw [heq, hy], rfl⟩
    next => exact Or.inl (by rw [heq])
  next heq => exact Or.inl (by rw [heq])

/-- A run names lanes of the list only, and at least one. -/
theorem laneRuns_sound {ls : List Nat} {r : Nat × Nat} (hr : r ∈ laneRuns ls) :
    1 ≤ r.2 ∧ ∀ k, k < r.2 → r.1 + k ∈ ls := by
  induction ls generalizing r with
  | nil => simp [laneRuns] at hr
  | cons x xs ih =>
    rcases laneRuns_cons x xs with heq | ⟨n, rest, hxs, heq⟩
    · rw [heq] at hr
      rcases List.mem_cons.mp hr with rfl | hr
      · exact ⟨le_rfl, fun k hk => by simp at hk; simp [hk]⟩
      · exact ⟨(ih hr).1, fun k hk => List.mem_cons_of_mem _ ((ih hr).2 k hk)⟩
    · rw [heq] at hr
      rcases List.mem_cons.mp hr with rfl | hr
      · refine ⟨by simp, fun k hk => ?_⟩
        cases k with
        | zero => exact List.mem_cons_self
        | succ k =>
          have := (ih (r := (x + 1, n)) (by rw [hxs]; exact List.mem_cons_self)).2 k (by simpa using hk)
          exact List.mem_cons_of_mem _ (by simpa [Nat.add_assoc, Nat.add_comm 1 k] using this)
      · have := ih (r := r) (by rw [hxs]; exact List.mem_cons_of_mem _ hr)
        exact ⟨this.1, fun k hk => List.mem_cons_of_mem _ (this.2 k hk)⟩

/-- Every lane of the list is in a run. -/
theorem laneRuns_complete {ls : List Nat} {i : Nat} (hi : i ∈ ls) : ∃ r ∈ laneRuns ls, r.1 ≤ i ∧ i < r.1 + r.2 := by
  induction ls with
  | nil => exact absurd hi List.not_mem_nil
  | cons x xs ih =>
    rcases laneRuns_cons x xs with heq | ⟨n, rest, hxs, heq⟩
    · rw [heq]
      rcases List.mem_cons.mp hi with rfl | hi
      · exact ⟨(i, 1), List.mem_cons_self, by simp⟩
      · obtain ⟨r, hr, hin⟩ := ih hi
        exact ⟨r, List.mem_cons_of_mem _ hr, hin⟩
    · rw [heq]
      rcases List.mem_cons.mp hi with rfl | hi
      · exact ⟨(i, n + 1), List.mem_cons_self, by simp⟩
      · obtain ⟨r, hr, hin⟩ := ih hi
        rw [hxs] at hr
        rcases List.mem_cons.mp hr with rfl | hr
        · exact ⟨(x, n + 1), List.mem_cons_self, by simp at hin ⊢; omega⟩
        · exact ⟨r, List.mem_cons_of_mem _ hr, hin⟩

/-! ### Reads and stores of lanes -/

theorem touch_clean {s : State} {m : MemId} (n : Nat) (xs : List Nat) (hclean : s.clean) (hm : s.NoInjection m) :
    s.touch m n xs = (s, none) := by
  induction xs with
  | nil => rfl
  | cons x xs ih => simp [State.touch, memRead_clean _ _ hclean hm, ih]

theorem engReadLanes_clean {s : State} {g a n x : Nat} {m : MemId} (offs : List Nat) (hclean : s.clean)
    (hinj : (s.eng g).injDmem = false) (hdma : (s.eng g).dma = []) (hm : s.engMem g a n = some (m, x)) :
    s.engReadLanes g a n offs = .ok (s.memBytes m x n) s := by
  simp [State.engReadLanes, hm, touch_clean _ _ hclean (engMem_noInjection hm hinj), dmaView_idle _ _ hdma, Engine.dmaBusy,
    hdma]

theorem lane_bytesVec (bs : List Nat) {i : Nat} (hi : i < 32) :
    lane (bytesVec bs) i = BitVec.ofNat 16 (bs.getD (2 * i) 0 + 256 * bs.getD (2 * i + 1) 0) := by
  simp [lane, bytesVec, hi]

/-- The halfword at an address, out of a range that holds it. -/
theorem halfword_of_range (s : State) {m : MemId} (x : Nat) {n j : Nat} (hm : ∀ k, m ≠ .line k) (hj : j + 2 ≤ n) :
    BitVec.ofNat 16 ((s.memBytes m x n).getD j 0 + 256 * (s.memBytes m x n).getD (j + 1) 0) =
      BitVec.ofNat 16 (leNat (s.memBytes m (x + j) 2)) := by
  rw [getD_memBytes _ _ hm (by omega), getD_memBytes _ _ hm (by omega), memBytes_pair _ _ hm,
    leNat_pair _ _ (byteAt_lt _ _ _) (byteAt_lt _ _ _), Nat.add_assoc]

/-- What an instruction leaves whose effect changes memory only. -/
theorem issue_memories {s u : State} {g w τ : Nat} {mine : Nat → Bool} {act : Nat → State → JRes} (h : s.Runs g w)
    (hmine : mine w = true) (hact : act w (s.at τ) = .done u) (hu : { u with mems := s.mems } = s.at τ) :
    Retired s (s.issue g τ mine act) τ g (loopNext (s.engPc g) (jeisLen w) (s.eng g).loops).1
      (loopNext (s.engPc g) (jeisLen w) (s.eng g).loops).2.1 (s.eng g) ∧
    SameButMemories s (s.issue g τ mine act) ∧ (s.issue g τ mine act).mems = u.mems := by
  have hnow : u.now = max s.now τ := by
    have := congrArg State.now hu
    exact this
  have hregs : u.regs = s.regs := by
    have := congrArg State.regs hu
    exact this
  have heng : u.engines = s.engines := by
    have := congrArg State.engines hu
    exact this
  have heng' (k : Nat) : u.eng k = s.eng k := by unfold State.eng; rw [heng]
  obtain ⟨hretired, hframe⟩ := issue_done h hmine hact hnow hregs fun k _ => heng' k
  rw [heng'] at hretired
  refine ⟨hretired, ?_, ?_⟩
  · have hsame := congrArg (fun t : State => { t with now := s.now, regs := s.regs, engines := s.engines, mems := s.mems }) hframe
    have hrest := congrArg (fun t : State => { t with now := s.now, regs := s.regs, engines := s.engines, mems := s.mems }) hu
    exact hsame.trans hrest
  · have := congrArg State.mems hframe
    exact this

/-! ### The instructions -/

theorem vAddr_eq (w : Nat) (e : Engine) :
    vAddr w e = (e.getX (jA w) + 2 * BitVec.signExtend 32 (BitVec.ofNat 12 w)).toNat := by
  rw [vAddr, jImm12, BitVec.ofInt_mul, sint_eq_toInt _ _ (by decide), ofNat_bitsOf]
  rfl

/-- Without an active lane any values are the result. -/
theorem setLanes_none {e : Engine} {d p z : Nat} (f f' : Nat → BitVec 16) (h : e.active p = []) :
    LaneResult e (e.setLanes d p z f) d p z f' (fun _ => false) :=
  laneResult_congr (fun i hi => absurd hi (by rw [h]; exact List.not_mem_nil)) (fun _ _ => rfl) (setLanes_laneResult e d p z f)

/-- VLD fills the active lanes from the 64 bytes at its address. -/
theorem vld_result {s : State} {g w τ x : Nat} {m : MemId} (h : s.Runs g w) (hop : jOp w = 0x34) (hdma : (s.eng g).dma = [])
    (halign : vAddr w (s.eng g) % 2 = 0) (hm : s.engMem g (vAddr w (s.eng g)) 64 = some (m, x)) :
    ∃ e', RegisterResult s (s.issue g τ (isOp 0x34) (jVld g)) τ g w e' ∧
      LaneResult (s.eng g) e' (jD w) (viPr w) (viZ w) (fun i => BitVec.ofNat 16 (leNat (s.memBytes m (x + 2 * i) 2)))
        (fun _ => false) := by
  have hmine : isOp 0x34 w = true := by simp [isOp, hop]
  by_cases hnone : (s.eng g).active (viPr w) = []
  · refine ⟨_, issue_registerResult h hmine (if_pos hnone), setLanes_none _ _ hnone⟩
  · have hread := engReadLanes_clean (s := s.at τ) (((s.eng g).active (viPr w)).map (2 * ·)) (runs_clean h) (runs_injDmem h)
      hdma hm
    refine ⟨(s.eng g).setLanes (jD w) (viPr w) (viZ w) (lane (bytesVec (s.memBytes m x 64))), issue_registerResult h hmine ?_, ?_⟩
    · have heng : (s.at τ).eng g = s.eng g := rfl
      simp only [jVld, heng, hnone, halign, hread, if_false, Nat.zero_ne_one]
      rfl
    · refine laneResult_congr (fun i hi => ?_) (fun _ _ => rfl) (setLanes_laneResult _ _ _ _ _)
      obtain ⟨hlt, _⟩ := mem_active.mp hi
      rw [lane_bytesVec _ hlt, halfword_of_range _ _ (engMem_not_line hm) (by omega)]

/-- The stores of VST: the bytes of each run of active lanes. -/
def vstStores (v : Vec) (x : Nat) (ls : List Nat) : List (Nat × List Nat) :=
  (laneRuns ls).map fun r => (x + 2 * r.1, ((vecBytes v).drop (2 * r.1)).take (2 * r.2))

theorem jVst_stores {s : State} {g w x : Nat} {m : MemId} (hclean : s.clean) (hinj : (s.eng g).injDmem = false)
    (halign : vAddr w (s.eng g) % 2 = 0) (hm : s.engMem g (vAddr w (s.eng g)) 64 = some (m, x)) :
    jVst g w s = .done (s.stores m (vstStores ((s.eng g).getV (jD w)) x ((s.eng g).active (viPr w)))) := by
  have htouch := touch_clean 8 (partWords (((s.eng g).active (viPr w)).map (x + 2 * ·))) hclean (engMem_noInjection hm hinj)
  by_cases hnone : (s.eng g).active (viPr w) = []
  · simp [jVst, hnone, vstStores, laneRuns, State.stores]
  · simp only [jVst, hnone, halign, hm, htouch, if_false, Nat.zero_ne_one, State.stores, vstStores, List.foldl_map]

/-- A run of active lanes with its bytes: where they lie and what they are. -/
theorem vstStores_run {v : Vec} {x : Nat} {ls : List Nat} (hls : ∀ i ∈ ls, i < 32) {a : Nat × List Nat}
    (ha : a ∈ vstStores v x ls) : ∃ r ∈ laneRuns ls, a.1 = x + 2 * r.1 ∧ a.2.length = 2 * r.2 ∧ 1 ≤ r.2 ∧ r.1 + r.2 ≤ 32 ∧
      ∀ j, j < 2 * r.2 → a.2.getD j 0 = (vecBytes v).getD (2 * r.1 + j) 0 := by
  obtain ⟨r, hr, rfl⟩ := List.mem_map.mp ha
  obtain ⟨hpos, hsound⟩ := laneRuns_sound hr
  have hend : r.1 + r.2 ≤ 32 := by
    have := hls _ (hsound (r.2 - 1) (by omega))
    omega
  refine ⟨r, hr, rfl, ?_, hpos, hend, fun j hj => ?_⟩
  · simp only [List.length_take, List.length_drop, length_vecBytes]
    omega
  · simp [List.getD_eq_getElem?_getD, List.getElem?_take_of_lt hj]

section

variable {s : State} {v : Vec} {x : Nat} {ls : List Nat} {m : MemId}

theorem vstStores_nonempty (hls : ∀ i ∈ ls, i < 32) {a : Nat × List Nat} (ha : a ∈ vstStores v x ls) : a.2 ≠ [] := by
  obtain ⟨r, _, _, hlen, hpos, _⟩ := vstStores_run hls ha
  exact List.ne_nil_of_length_pos (by omega)

theorem vstStores_bytes {a : Nat × List Nat} (ha : a ∈ vstStores v x ls) : ∀ b ∈ a.2, b < 256 := by
  intro b hb
  obtain ⟨r, _, rfl⟩ := List.mem_map.mp ha
  have hmem := List.mem_of_mem_drop (List.mem_of_mem_take hb)
  obtain ⟨l, _, hl⟩ := List.mem_flatMap.mp hmem
  exact leBytes_lt hl

/-- The byte that VST leaves at a place of an active lane. -/
theorem vstStores_byte (hclean : s.clean) (hm : ∀ k, m ≠ .line k) (hls : ∀ i ∈ ls, i < 32) {i k : Nat} (hi : i ∈ ls) (hk : k < 2) :
    (s.stores m (vstStores v x ls)).byteAt m (x + 2 * i + k) = (vecBytes v).getD (2 * i + k) 0 := by
  refine stores_agree hclean hm (fun a ha => vstStores_nonempty hls ha) (fun a ha => vstStores_bytes ha) (fun a ha h1 h2 => ?_)
    (Or.inr ?_)
  · obtain ⟨r, _, hat, hlen, _, _, hget⟩ := vstStores_run hls ha
    rw [hget _ (by omega), hat]
    congr 1
    omega
  · obtain ⟨r, hr, hlow, hhigh⟩ := laneRuns_complete hi
    have ha := List.mem_map_of_mem (f := fun r : Nat × Nat => (x + 2 * r.1, ((vecBytes v).drop (2 * r.1)).take (2 * r.2))) hr
    have hend : r.1 + r.2 ≤ 32 := by
      have := hls _ ((laneRuns_sound hr).2 (r.2 - 1) (by omega))
      omega
    refine ⟨_, ha, ?_⟩
    simp only [List.length_take, List.length_drop, length_vecBytes]
    omega

/-- VST changes no byte outside its active lanes. -/
theorem vstStores_outside (hclean : s.clean) (hls : ∀ i ∈ ls, i < 32) {y : Nat}
    (hout : ¬∃ i ∈ ls, x + 2 * i ≤ y ∧ y < x + 2 * i + 2) :
    (s.stores m (vstStores v x ls)).memBytes m y 1 = s.memBytes m y 1 := by
  refine stores_outside hclean (fun a ha => vstStores_nonempty hls ha) fun a ha hin => hout ?_
  obtain ⟨r, hr, hat, hlen, _, _, _⟩ := vstStores_run hls ha
  refine ⟨r.1 + (y - a.1) / 2, (laneRuns_sound hr).2 _ (by omega), ?_⟩
  omega

end

/-! ### Gather and scatter -/

/-- The address of a lane of VGATH or VSCAT. -/
def gathAddr (w : Nat) (e : Engine) (i : Nat) : Nat :=
  (e.getX (jA w) + BitVec.ofNat 32 (2 * (lane (e.getV (jB w)) i).toNat)).toNat

theorem gathAddrs_eq (w : Nat) (e : Engine) : gathAddrs w e = (e.active (jPr w)).map fun i => (i, gathAddr w e i) := rfl

theorem gathFault_none {w : Nat} {e : Engine}
    (h : ∀ i ∈ e.active (jPr w), gathAddr w e i % 2 = 0 ∧ gathAddr w e i + 2 ≤ 0x8000) : gathFault (gathAddrs w e) = none := by
  have hodd : (gathAddrs w e).find? (fun x => x.2 % 2 == 1) = none := by
    rw [List.find?_eq_none, gathAddrs_eq]
    simp only [List.mem_map, forall_exists_index, and_imp, forall_apply_eq_imp_iff₂]
    intro i hi
    simp [(h i hi).1]
  have hfar : (gathAddrs w e).find? (fun x => decide (0x8000 < x.2 + 2)) = none := by
    rw [List.find?_eq_none, gathAddrs_eq]
    simp only [List.mem_map, forall_exists_index, and_imp, forall_apply_eq_imp_iff₂]
    intro i hi
    have := (h i hi).2
    simp only [decide_eq_true_eq]
    omega
  simp only [gathFault, hodd, hfar]

theorem find_pair {ls : List Nat} (f : Nat → Nat) {i : Nat} (hi : i ∈ ls) :
    (ls.map fun i => (i, f i)).find? (fun x => x.1 == i) = some (i, f i) := by
  induction ls with
  | nil => exact absurd hi List.not_mem_nil
  | cons j ls ih =>
    rw [List.map_cons, List.find?_cons]
    by_cases hj : j = i
    · simp [hj]
    · simp only [show (j == i) = false by simpa using hj]
      exact ih ((List.mem_cons.mp hi).resolve_left (Ne.symm hj))

/-- VGATH fills the active lanes from the halfwords at their addresses. -/
theorem vgath_result {s : State} {g w τ : Nat} (h : s.Runs g w) (hop : jOp w = 0x36) (hfn : jFn w = 0) (hdma : (s.eng g).dma = [])
    (haddr : ∀ i ∈ (s.eng g).active (jPr w), gathAddr w (s.eng g) i % 2 = 0 ∧ gathAddr w (s.eng g) i + 2 ≤ 0x8000) :
    ∃ e', RegisterResult s (s.issue g τ (isR 0x36 0x00) (jVgath g)) τ g w e' ∧
      LaneResult (s.eng g) e' (jD w) (jPr w) (jZ w)
        (fun i => BitVec.ofNat 16 (leNat (s.memBytes (.dmem g) (gathAddr w (s.eng g) i) 2))) (fun _ => false) := by
  have hmine : isR 0x36 0x00 w = true := by simp [isR, hop, hfn]
  have heng : (s.at τ).eng g = s.eng g := rfl
  have hfault := gathFault_none haddr
  by_cases hnone : gathAddrs w (s.eng g) = []
  · refine ⟨_, issue_registerResult h hmine ?_, setLanes_none (fun _ => 0) _ (List.map_eq_nil_iff.mp hnone)⟩
    simp only [jVgath, heng, hfault, if_pos hnone]
  · have hread := engReadLanes_clean (s := s.at τ) (a := 0) (n := 0x8000) (x := 0) (m := .dmem g)
      ((gathAddrs w (s.eng g)).map (·.2)) (runs_clean h) (runs_injDmem h) hdma rfl
    refine ⟨_, issue_registerResult h hmine ?_,
      laneResult_congr (fun i hi => ?_) (fun _ _ => rfl) (setLanes_laneResult _ _ _ _ fun i =>
        match (gathAddrs w (s.eng g)).find? (fun x => x.1 == i) with
        | some x => BitVec.ofNat 16 ((s.memBytes (.dmem g) 0 0x8000).getD x.2 0 +
            256 * (s.memBytes (.dmem g) 0 0x8000).getD (x.2 + 1) 0)
        | none => 0)⟩
    · simp only [jVgath, heng, hfault, if_neg hnone, hread]
      rfl
    · simp only [gathAddrs_eq, find_pair _ hi]
      rw [halfword_of_range _ _ (by simp) (haddr i hi).2, Nat.zero_add]

/-- The stores of VSCAT, in rising order of the lanes. -/
def vscatStores (w : Nat) (e : Engine) : List (Nat × List Nat) :=
  (e.active (jPr w)).map fun i => (gathAddr w e i, leBytes 2 (lane (e.getV (jD w)) i).toNat)

theorem vscatStores_nonempty {w : Nat} {e : Engine} {a : Nat × List Nat} (ha : a ∈ vscatStores w e) : a.2 ≠ [] := by
  obtain ⟨i, _, rfl⟩ := List.mem_map.mp ha
  simp [leBytes]

theorem jVscat_stores {s : State} {g w : Nat} (hclean : s.clean) (hinj : (s.eng g).injDmem = false)
    (haddr : ∀ i ∈ (s.eng g).active (jPr w), gathAddr w (s.eng g) i % 2 = 0 ∧ gathAddr w (s.eng g) i + 2 ≤ 0x8000) :
    jVscat g w s = .done (s.stores (.dmem g) (vscatStores w (s.eng g))) := by
  have htouch := touch_clean (m := .dmem g) 2 ((gathAddrs w (s.eng g)).map (·.2)) hclean hinj
  simp only [jVscat, gathFault_none haddr, htouch]
  simp only [State.stores, vscatStores, gathAddrs_eq, List.foldl_map]

/-- The active lanes rise. -/
theorem active_pairwise (e : Engine) (p : Nat) : (e.active p).Pairwise (· < ·) :=
  List.Pairwise.filter _ List.pairwise_lt_range

/-- A lane whose address no higher active lane has keeps its halfword. -/
theorem vscatStores_lane {s : State} {g w i : Nat} (hclean : s.clean) (e : Engine)
    (haddr : ∀ i ∈ e.active (jPr w), gathAddr w e i % 2 = 0) (hi : i ∈ e.active (jPr w))
    (hlast : ∀ j ∈ e.active (jPr w), i < j → gathAddr w e j ≠ gathAddr w e i) :
    (s.stores (.dmem g) (vscatStores w e)).memBytes (.dmem g) (gathAddr w e i) 2 = leBytes 2 (lane (e.getV (jD w)) i).toNat := by
  have hrise := active_pairwise e (jPr w)
  obtain ⟨before, after, hsplit⟩ := List.append_of_mem hi
  have hafter : ∀ j ∈ after, i < j := by
    rw [hsplit] at hrise
    exact fun j hj => (List.pairwise_cons.mp (List.pairwise_append.mp hrise).2.1).1 j hj
  let store (j : Nat) : Nat × List Nat := (gathAddr w e j, leBytes 2 (lane (e.getV (jD w)) j).toNat)
  have hnonempty (ls : List Nat) : ∀ a ∈ ls.map store, a.2 ≠ [] := by
    intro a ha
    obtain ⟨j, _, rfl⟩ := List.mem_map.mp ha
    simp [store, leBytes]
  set u := s.stores (.dmem g) (before.map store) with hu
  have huclean : u.clean := stores_clean hclean (hnonempty before)
  set v := u.memPut (.dmem g) (gathAddr w e i) (leBytes 2 (lane (e.getV (jD w)) i).toNat) with hv
  have hall : s.stores (.dmem g) (vscatStores w e) = v.stores (.dmem g) (after.map store) := by
    rw [vscatStores, hsplit, List.map_append, List.map_cons, stores_append, stores_cons, ← hu,
      memWrite_clean _ huclean (by simp [leBytes])]
  have hkept (k : Nat) (hk : k < 2) : (v.stores (.dmem g) (after.map store)).memBytes (.dmem g) (gathAddr w e i + k) 1 =
      v.memBytes (.dmem g) (gathAddr w e i + k) 1 := by
    refine stores_outside (by rwa [State.clean, hv, memPut_memu]) (hnonempty after) fun a ha hin => ?_
    obtain ⟨j, hj, rfl⟩ := List.mem_map.mp ha
    have hjm : j ∈ e.active (jPr w) := by
      rw [hsplit]
      exact List.mem_append_right _ (List.mem_cons_of_mem _ hj)
    have h1 := haddr j hjm
    have h2 := haddr i hi
    have h3 := hlast j hjm (hafter j hj)
    simp only [store, length_leBytes] at hin
    omega
  have hput := memBytes_memPut_same u (m := .dmem g) (gathAddr w e i) (by simp)
    (fun b hb => leBytes_lt (n := 2) (v := (lane (e.getV (jD w)) i).toNat) hb)
  rw [length_leBytes, ← hv] at hput
  rw [hall, memBytes_two, ← Nat.add_zero (gathAddr w e i), hkept 0 (by decide), Nat.add_zero, hkept 1 (by decide), ← memBytes_two,
    hput]

theorem vscatStores_outside {s : State} {g w y : Nat} (hclean : s.clean) (e : Engine)
    (hout : ¬∃ i ∈ e.active (jPr w), gathAddr w e i ≤ y ∧ y < gathAddr w e i + 2) :
    (s.stores (.dmem g) (vscatStores w e)).memBytes (.dmem g) y 1 = s.memBytes (.dmem g) y 1 := by
  refine stores_outside hclean (fun a ha => vscatStores_nonempty ha) fun a ha hin => hout ?_
  obtain ⟨i, hi, rfl⟩ := List.mem_map.mp ha
  exact ⟨i, hi, by simpa using hin⟩

end Sys2Proof.Machine

end

section

/-! CERTIFICATE. O20: vector loads and stores, gather and scatter. -/

namespace Sys2Proof.Machine

theorem fn_of_legal_gather {w : Nat} (h : jeisLegal w = true) (hop : jOp w = 0x36 ∨ jOp w = 0x37) : jFn w = 0 := by
  rcases hop with hop | hop <;> simp only [jeisLegal, hop] at h <;> simp_all

theorem runs_legal {s : State} {g w : Nat} (h : s.Runs g w) : jeisLegal w = true := by
  obtain ⟨_, _, _, _, _, _, _, _, hlegal, _⟩ := h
  exact hlegal

/-- Settles O20: loads give lanes of the bytes read, stores are runs of stores at the lanes' places. -/
theorem vectorMemoryInstructionsMoveActiveLanes : Obligations.VectorMemoryInstructionsMoveActiveLanes := by
  intro g τ s w h hdma e ea at_ half
  have hea : vAddr w e = ea := vAddr_eq w e
  refine ⟨fun m x hop halign hm => ?_, fun m x hop halign hm => ?_, fun hop haddr => ?_, fun hop haddr => ?_⟩
  · rw [← hea] at halign hm
    exact answers_next (vld_result h hop hdma halign hm)
  · rw [← hea] at halign hm
    have hlen : jeisLen w = 4 := by rw [jeisLen, hop, if_neg (by decide)]
    have hls : ∀ i ∈ e.active (viPr w), i < 32 := fun i hi => (mem_active.mp hi).1
    have hact : jVst g w (s.at τ) = .done ((s.at τ).stores m (vstStores (e.getV (jD w)) x (e.active (viPr w)))) :=
      jVst_stores (s := s.at τ) (runs_clean h) (runs_injDmem h) halign hm
    have hframe := stores_frame (s := s.at τ) (m := m) (runs_clean h)
      fun a ha => vstStores_nonempty (v := e.getV (jD w)) (x := x) hls ha
    obtain ⟨hretired, hsame, hmems⟩ := issue_memories (mine := isOp 0x35) h (by simp [isOp, hop]) hact hframe.1
    rw [hlen] at hretired
    refine answers_next ⟨hretired, hsame, fun i hi => ?_, fun k y hout => ?_⟩
    · have hbyte {k : Nat} (hk : k < 2) := vstStores_byte (s := s.at τ) (v := e.getV (jD w)) (x := x) (runs_clean h)
        (engMem_not_line hm) hls hi hk
      have hlt := hls i hi
      rw [memBytes_of_mems hmems, memBytes_pair _ _ (engMem_not_line hm), ← Nat.add_zero (x + 2 * i)]
      rw [hbyte (by decide : 0 < 2), Nat.add_zero (x + 2 * i), hbyte (by decide : 1 < 2), getD_vecBytes _ (by omega),
        getD_vecBytes _ (by omega)]
      simp [leBytes, show (2 * i + 1) / 2 = i by omega, show (2 * i + 1) % 2 = 1 by omega]
    · rw [memBytes_of_mems hmems]
      by_cases hk : k = m
      · subst hk
        exact vstStores_outside (s := s.at τ) (runs_clean h) hls fun hin => hout ⟨rfl, hin⟩
      · exact stores_other (s := s.at τ) (runs_clean h) (fun a ha => vstStores_nonempty hls ha) hk y 1
  · exact answers_next (vgath_result h hop (fn_of_legal_gather (runs_legal h) (Or.inl hop)) hdma haddr)
  · have hlen : jeisLen w = 4 := by rw [jeisLen, hop, if_neg (by decide)]
    have hfn := fn_of_legal_gather (runs_legal h) (Or.inr hop)
    have hact := jVscat_stores (s := s.at τ) (runs_clean h) (runs_injDmem h) haddr
    have hframe := stores_frame (s := s.at τ) (m := .dmem g) (ws := vscatStores w e) (runs_clean h)
      fun a ha => vscatStores_nonempty ha
    obtain ⟨hretired, hsame, hmems⟩ := issue_memories (mine := isR 0x37 0x00) h (by simp [isR, hop, hfn]) hact hframe.1
    rw [hlen] at hretired
    refine answers_next ⟨hretired, hsame, fun i hi hlast => ?_, fun k y hout => ?_⟩
    · rw [memBytes_of_mems hmems]
      exact vscatStores_lane (s := s.at τ) (runs_clean h) e (fun j hj => (haddr j hj).1) hi hlast
    · rw [memBytes_of_mems hmems]
      by_cases hk : k = .dmem g
      · subst hk
        exact vscatStores_outside (s := s.at τ) (runs_clean h) e fun hin => hout ⟨rfl, hin⟩
      · exact stores_other (s := s.at τ) (runs_clean h) (fun a ha => vscatStores_nonempty ha) hk y 1

end Sys2Proof.Machine

end

section

/-! SUPPORT. Runs of register writes: what they show and what they leave alone. -/

namespace Sys2Proof.Machine

theorem KeepsRegs.refl (fs : List Fld) (s : State) : KeepsRegs fs s s := fun _ _ => rfl

theorem keepsRegs_trans {fs gs : List Fld} {s t u : State} (h : KeepsRegs fs s t) (h' : KeepsRegs gs t u) :
    KeepsRegs (fs ++ gs) s u := by
  intro f hf
  rw [List.map_append, List.mem_append, not_or] at hf
  exact (h' f hf.2).trans (h f hf.1)

theorem keepsRegs_mono {fs gs : List Fld} {s t : State} (hsub : ∀ f ∈ fs, f ∈ gs) (h : KeepsRegs fs s t) : KeepsRegs gs s t := by
  intro f hf
  refine h f fun hin => hf ?_
  obtain ⟨g, hg, he⟩ := List.mem_map.mp hin
  exact List.mem_map.mpr ⟨g, hsub g hg, he⟩

theorem keepsRegs_of_regs {s t : State} (fs : List Fld) (h : t.regs = s.regs) : KeepsRegs fs s t := fun f _ => by
  unfold State.rd
  rw [h]

theorem keepsRegs_wr (s : State) (f : Fld) (v : Nat) : KeepsRegs [f] s (s.wr f v) := fun g hg =>
  rd_wr_ne s v (by simpa using hg)

theorem onlyRegs_mono {fs gs : List Fld} {s t : State} (hsub : ∀ f ∈ fs, f ∈ gs) (h : OnlyRegs fs s t) : OnlyRegs gs s t :=
  ⟨keepsRegs_mono hsub h.1, h.2⟩

theorem onlyRegs_wr (s : State) (f : Fld) (v : Nat) : OnlyRegs [f] s (s.wr f v) := ⟨keepsRegs_wr s f v, rfl⟩

theorem onlyRegs_refl (s : State) : OnlyRegs [] s s := ⟨fun _ _ => rfl, rfl⟩

theorem onlyRegs_trans {fs gs : List Fld} {s t u : State} (h : OnlyRegs fs s t) (h' : OnlyRegs gs t u) :
    OnlyRegs (fs ++ gs) s u := by
  refine ⟨keepsRegs_trans h.1 h'.1, ?_⟩
  have := congrArg (fun x : State => { x with regs := s.regs, w1cSet := s.w1cSet, now := s.now }) h'.2
  exact this.trans h.2

/-- Writes of fields, one after another. -/
def State.wrAll (s : State) (ws : List (Fld × Nat)) : State := ws.foldl (fun s w => s.wr w.1 w.2) s

theorem wrAll_append (s : State) (vs ws : List (Fld × Nat)) : s.wrAll (vs ++ ws) = (s.wrAll vs).wrAll ws := List.foldl_append

theorem wrAll_onlyRegs (s : State) (ws : List (Fld × Nat)) : OnlyRegs (ws.map Prod.fst) s (s.wrAll ws) := by
  induction ws generalizing s with
  | nil => exact onlyRegs_refl s
  | cons w ws ih => exact onlyRegs_trans (onlyRegs_wr s w.1 w.2) (ih _)

/-- Fields that no write names keep their values. -/
theorem wrAll_rd_other (s : State) {ws : List (Fld × Nat)} {f : Fld} (h : f.key ∉ ws.map (·.1.key)) :
    (s.wrAll ws).rd f = s.rd f :=
  (wrAll_onlyRegs s ws).1 f (by simpa [List.map_map] using h)

/-- With no field named twice, each shows what was written. -/
theorem wrAll_rd {s : State} {ws : List (Fld × Nat)} (hnodup : (ws.map (·.1.key)).Nodup) {w : Fld × Nat} (hw : w ∈ ws) :
    (s.wrAll ws).rd w.1 = w.2 % 2 ^ w.1.w := by
  induction ws generalizing s with
  | nil => exact absurd hw List.not_mem_nil
  | cons v ws ih =>
    obtain ⟨hv, hrest⟩ := List.nodup_cons.mp hnodup
    rcases List.mem_cons.mp hw with rfl | hw
    · exact (wrAll_rd_other _ hv).trans (rd_wr_same _ _ _)
    · exact ih hrest hw

/-- Writes of 0 leave 0 in every field they name. -/
theorem wrAll_zero (s : State) {fs : List Fld} : ∀ f ∈ fs, (s.wrAll (fs.map (·, 0))).rd f = 0 := by
  have keep : ∀ (fs : List Fld) (s : State) (f : Fld), s.rd f = 0 ∨ f ∈ fs → (s.wrAll (fs.map (·, 0))).rd f = 0 := by
    intro fs
    induction fs with
    | nil => exact fun s f h => h.resolve_right List.not_mem_nil
    | cons g fs ih =>
      intro s f h
      refine ih _ _ ?_
      by_cases hk : f.key = g.key
      · left
        simp [State.rd, hk]
      · rcases h with h | h
        · exact Or.inl ((rd_wr_ne s 0 hk).trans h)
        · exact Or.inr ((List.mem_cons.mp h).resolve_left fun he => hk (by rw [he]))
  exact fun f hf => keep fs s f (Or.inr hf)

/-- Writing 0 to a list of fields clears them and nothing else. -/
theorem clears_of_wrAll {c : Instr} {s : State} {fs : List Fld} (h : exec c s = .next (s.wrAll (fs.map (·, 0)))) :
    Answers (exec c s) fun t => (∀ f ∈ fs, t.rd f = 0) ∧ OnlyRegs fs s t := by
  have honly := wrAll_onlyRegs s (fs.map (·, 0))
  rw [List.map_map, show (Prod.fst ∘ fun f : Fld => (f, 0)) = id from rfl, List.map_id] at honly
  exact h ▸ answers_next ⟨wrAll_zero s, honly⟩

theorem foldl_wrAll {α : Type} (f : α → List Fld) (l : List α) (s : State) :
    l.foldl (fun s a => s.wrAll ((f a).map (·, 0))) s = s.wrAll ((l.flatMap f).map (·, 0)) := by
  induction l generalizing s with
  | nil => rfl
  | cons a l ih => rw [List.foldl_cons, ih, List.flatMap_cons, List.map_append, wrAll_append]

end Sys2Proof.Machine

end

section

/-! CERTIFICATE. O33, O35, O40, O42: clear commands, the ledger window, steps and reset. -/

namespace Sys2Proof.Machine

/-- Settles O40: the two cases of `step`. -/
theorem stepRunsTheFrontCommand : Obligations.StepRunsTheFrontCommand :=
  fun s => ⟨fun c cs h => by rw [step, h], fun h => by rw [step, h]⟩

/-- Settles O42: the model's reset state has no entry in any map. -/
theorem resetIsCanonical : Obligations.ResetIsCanonical :=
  ⟨rfl, rfl, fun f => ⟨rfl, by rw [State.cfg]; split <;> rfl⟩⟩

/-- Settles O33: every clear command is a run of writes of 0, or copies one field into another. -/
theorem clearCommandsClearWhatTheyName : Obligations.ClearCommandsClearWhatTheyName := by
  intro s clears
  refine ⟨fun n => ⟨clears_of_wrAll rfl, clears_of_wrAll rfl, answers_next ?_⟩, fun n => clears_of_wrAll rfl,
    fun p => clears_of_wrAll rfl, clears_of_wrAll ?_, clears_of_wrAll ?_, fun n => clears_of_wrAll rfl,
    fun q => clears_of_wrAll rfl, clears_of_wrAll rfl, fun p => clears_of_wrAll rfl, clears_of_wrAll rfl,
    answers_next ⟨rd_wr_same _ _ _, onlyRegs_wr _ _ _⟩, answers_next ⟨rd_wr_same _ _ _, onlyRegs_wr _ _ _⟩,
    clears_of_wrAll rfl, clears_of_wrAll rfl⟩
  · exact ⟨rd_wr_same _ _ _, keepsRegs_wr _ _ _, axis_setAxis _ _ _, fun k hk => axis_setAxis_ne _ _ hk, rfl⟩
  · rw [← foldl_wrAll]
    rfl
  · rw [List.map_cons, List.map_cons, show ∀ ws, s.wrAll ((REC.CNT_PROG_FAIL, 0) :: (REC.CNT_JOURNAL, 0) :: ws) =
      ((s.wr REC.CNT_PROG_FAIL 0).wr REC.CNT_JOURNAL 0).wrAll ws from fun _ => rfl, ← foldl_wrAll]
    rfl

/-! ### The ledger window -/

/-- The writes that show a ledger entry in the window. -/
def winWrites (e : LEnt) : List (Fld × Nat) :=
  [(TRG.WIN_D_D 0, e.d0), (TRG.WIN_D_D 1, e.d1), (TRG.WIN_D_D 2, e.d2), (TRG.WIN_D_D 3, e.d3), (TRG.WIN_D_D 4, e.d4),
   (TRG.WIN_D_D 5, e.d5), (TRG.WIN_D_D 6, e.d6), (TRG.WIN_D_D 7, e.d7)]

theorem setWin_eq (s : State) (e : LEnt) : s.setWin e = s.wrAll (winWrites e) := rfl

theorem winWrites_nodup (e : LEnt) : ((winWrites e).map (·.1.key)).Nodup := by
  have : (winWrites e).map (·.1.key) = (List.range 8).map fun k => (TRG.WIN_D_D k).key := rfl
  rw [this]
  decide

theorem winWrites_fields (e : LEnt) : (winWrites e).map Prod.fst = (List.range 8).map TRG.WIN_D_D := rfl

/-- The window shows the words of the entry. -/
theorem setWin_rd (s : State) (e : LEnt) : ((List.range 8).map TRG.WIN_D_D).map (s.setWin e).rd =
    [e.d0, e.d1, e.d2, e.d3, e.d4, e.d5, e.d6, e.d7].map (· % 2 ^ 32) := by
  have hread : ∀ w ∈ winWrites e, (s.setWin e).rd w.1 = w.2 % 2 ^ 32 := fun w hw => by
    have hwidth : w.1.w = 32 := by
      simp only [winWrites, List.mem_cons, List.not_mem_nil, or_false] at hw
      rcases hw with rfl | rfl | rfl | rfl | rfl | rfl | rfl | rfl <;> rfl
    rw [setWin_eq, wrAll_rd (winWrites_nodup e) hw, hwidth]
  rw [← winWrites_fields e, List.map_map]
  exact List.map_congr_left hread

theorem sets1_keepsRegs (s : State) (f : Fld) (m : Nat) : KeepsRegs [f] s (s.sets1 f m) := fun g hg => by
  have hne : g.key ≠ f.key := by simpa using hg
  simp [State.rd, amap_get_set_ne _ _ _ hne]

/-- Settles O35: the window's commands are a write of the staged entry, or runs of writes of the window's fields. -/
theorem ledgerWindowMovesEntries : Obligations.LedgerWindowMovesEntries := by
  intro s i
  refine ⟨fun hopen => ?_, fun hsealed hdiff => ?_, ?_, ?_, ?_⟩
  · refine answers_next ?_
    rw [if_pos hopen]
    exact ⟨amap_get_set_same _ _ _ _, fun j hj => amap_get_set_ne _ _ _ hj, rfl, rfl⟩
  · refine answers_next ?_
    rw [if_neg (by simp [hsealed]), if_neg hdiff, State.sealedWrite]
    obtain ⟨hframe, _⟩ := raise_frame (s.set1 CMD.STAT_SEALED_WR) 0x0103 0 (leBytes 4 0x50010)
    refine ⟨?_, ?_, fun f hf => ?_⟩
    · rw [raise_rd]
      have hodd (n : Nat) : n.lor 1 % 2 ^ 1 = 1 := by
        rw [pow_one, Nat.mod_two_eq_one_iff_testBit_zero]
        exact (Nat.testBit_lor n 1 0).trans (by simp)
      simp only [State.set1, State.rd, State.sets1_writes, amap_get_set_same]
      exact hodd _
    · have := congrArg State.ledger hframe
      exact this
    · rw [raise_rd]
      exact sets1_keepsRegs _ _ _ f hf
  · exact answers_next ⟨setWin_rd _ _, wrAll_onlyRegs s (winWrites (s.stagedEnt i))⟩
  · intro a fs
    refine answers_next ⟨?_, ?_, ?_, ?_⟩
    · have hwords : [a.target.toNat, a.target.toNat / 2 ^ 32, a.w.d2, a.w.d3, a.w.d4, a.w.d5, a.w.d6 / 2 ^ 16 * 2 ^ 16 + a.count,
          a.w.d7].map (· % 2 ^ 32) = fs.map (s.setWin a.current).rd := by
        rw [setWin_rd]
        simp [LAct.current]
      rw [hwords]
      refine List.map_congr_left fun f hf => ?_
      obtain ⟨k, hk, rfl⟩ := List.mem_map.mp hf
      have := List.mem_range.mp hk
      rw [State.wrB, rd_wr_ne, rd_wr_ne]
      · simp only [Fld.key, TRG.WIN_D_D, TRG.WIN_STATE_STATE]
        omega
      · simp only [Fld.key, TRG.WIN_D_D, TRG.WIN_STATE_DIFF]
        omega
    · rw [State.wrB, rd_wr_ne _ _ (by decide), rd_wr_same]
      cases a.st <;> rfl
    · rw [State.wrB, rd_wr_same]
      have hflag (b : Bool) : b2n b % 2 ^ TRG.WIN_STATE_DIFF.w = 1 ↔ b = true := by cases b <;> decide
      exact (hflag _).trans decide_eq_true_iff
    · have honly := wrAll_onlyRegs s (winWrites a.current ++ [(TRG.WIN_STATE_STATE, a.st.code),
        (TRG.WIN_STATE_DIFF, b2n (s.stagedEnt i ≠ a.w))])
      refine onlyRegs_mono (fun f hf => ?_) honly
      rw [List.map_append, winWrites_fields] at hf
      simp only [List.mem_append, List.map_cons, List.map_nil, List.mem_cons, List.not_mem_nil, or_false] at hf ⊢
      tauto
  · obtain ⟨t, heq, hzero, honly⟩ := clears_of_wrAll (c := .trgClrCnt) (s := s) (fs := [TRG.NFIRE, TRG.NMISS, TRG.NCOLL]) rfl
    exact ⟨t, heq, hzero _ (by simp), hzero _ (by simp), hzero _ (by simp), honly⟩

end Sys2Proof.Machine

end

section

/-! SUPPORT. The evaluation of ledger entries: which parts of the state it can change (R72 to R86). -/

namespace Sys2Proof.Machine

/-! ### Placing the symbols of frozen issues (R118) -/

/-- What stays of a frozen issue while its symbols move between slots. -/
def Frozen.same (f g : Frozen) : Prop := g.entry = f.entry ∧ g.chan = f.chan ∧ g.at_ = f.at_

theorem batchPlace_same (now3 : Int) (xs : List BatchSym) (l : Link) (fs : List Frozen) {f : Frozen} (hf : f ∈ fs) :
    ∃ g ∈ (batchPlace now3 xs l fs).2, f.same g := by
  have keep : ∀ (xs : List BatchSym) (l : Link) (fs : List Frozen), (∃ g ∈ fs, f.same g) →
      ∃ g ∈ (batchPlace now3 xs l fs).2, f.same g := by
    intro xs
    induction xs with
    | nil => exact fun l fs h => h
    | cons x xs ih =>
      rintro l fs ⟨g, hg, hsame⟩
      rw [batchPlace]
      split
      · exact ih l fs ⟨g, hg, hsame⟩
      next y hy =>
        refine ih _ _ ?_
        obtain ⟨k, hk, hgk⟩ := List.getElem_of_mem hg
        by_cases hx : x.item = k
        · subst hx
          have hyg : y = g := by rw [List.getElem?_eq_getElem hk, hgk] at hy; exact (Option.some.inj hy).symm
          refine ⟨_, List.mem_set hk _, ?_⟩
          subst hyg
          dsimp only
          split <;> exact hsame
        · exact ⟨g, (List.mem_iff_getElem).mpr ⟨k, by simpa using hk, by rw [List.getElem_set_ne hx, hgk]⟩, hsame⟩
  exact keep xs l fs ⟨f, hf, rfl, rfl, rfl⟩

theorem batchPlace_tx (now3 : Int) (xs : List BatchSym) (l : Link) (fs : List Frozen) :
    (batchPlace now3 xs l fs).1.tx = l.tx ∧ (batchPlace now3 xs l fs).1.txAt = l.txAt := by
  induction xs generalizing l fs with
  | nil => exact ⟨rfl, rfl⟩
  | cons x xs ih =>
    rw [batchPlace]
    split
    · exact ih l fs
    · exact ih _ _

/-! ### What an evaluation can change -/

/-- A property that no evaluation of ledger entries can end: it does not depend on the ledger, on event occurrences, on the
symbols placed on links, on the pending settings of cameras and on the counters of missed issues. -/
structure LedgerKeeps (P : State → Prop) : Prop where
  ledger : ∀ (s : State) (l : Ledger), P s → P { s with ledger := l }
  events : ∀ (s : State) (x : EventUnit), P s → P { s with events := x }
  link : ∀ (s : State) (c : Nat) (l : Link), l.tx = (s.link c).tx → l.txAt = (s.link c).txAt → P s → P (s.setLink c l)
  cam : ∀ (s : State) (c : Nat) (x : Cam), x.seq = (s.cam c).seq → x.lastIss = (s.cam c).lastIss → P s → P (s.setCam c x)
  count : ∀ (s : State) (f : Fld) (v : Nat), (f = TRG.NMISS ∨ f = TRG.NCOLL ∨ ∃ n, f = LNK.CNT3_SYMBOL_SLIP n) → P s → P (s.wr f v)

section

variable {P : State → Prop} (hP : LedgerKeeps P) {s : State} {i c t k : Nat} {fresh : Bool}
include hP

theorem LedgerKeeps.setEnt {a : LAct} (h : P s) : P (s.setEnt i a) := hP.ledger _ _ h

theorem LedgerKeeps.raiseBy {j : List Nat → List Nat → List Nat × List Nat} {code idx : Nat} {v : List Nat} (h : P s) :
    P (s.raiseBy j code idx t v) := by
  unfold State.raiseBy
  split
  · exact hP.events _ _ h
  · exact h

theorem LedgerKeeps.raise {code idx : Nat} {v : List Nat} (h : P s) : P (s.raise code idx v) := hP.raiseBy h

theorem LedgerKeeps.skip {x : ChSt} (h : P s) : P (s.skip i c x) := by
  unfold State.skip
  extract_lets a s1
  have hs1 : P s1 := hP.setEnt h
  split
  · exact hP.cam _ _ _ rfl rfl hs1
  · exact hs1

theorem LedgerKeeps.collide (h : P s) : P (s.collide i c) :=
  hP.raise (hP.count _ _ _ (Or.inr (Or.inl rfl)) (hP.skip h))

theorem LedgerKeeps.symbolSlips (h : P s) : P (s.symbolSlips c k) := by
  induction k generalizing s with
  | zero => exact h
  | succ k ih => exact ih (hP.raise (hP.count _ _ _ (Or.inr (Or.inr ⟨c, rfl⟩)) h))

theorem LedgerKeeps.placeFrozen {f : Frozen} (h : P s) : P (s.placeFrozen c f) := by
  unfold State.placeFrozen
  extract_lets here old l l0 fs r slips
  obtain ⟨htx, hat⟩ := batchPlace_tx (3 * (s.now : Int)) (batchOrder fs) l0 fs
  exact hP.ledger _ _ (hP.symbolSlips (hP.link _ _ _ htx hat h))

theorem LedgerKeeps.freeze {x : Int} (h : P s) : P (s.freeze i c x) := by
  unfold State.freeze
  extract_lets a f s1
  have hs1 : P s1 := hP.setEnt h
  split
  · exact hP.placeFrozen hs1
  · exact hP.ledger _ _ hs1

theorem LedgerKeeps.charge (h : P s) : P (s.charge i k) := hP.setEnt h

theorem LedgerKeeps.entryDone (h : P s) : P (s.entryDone i) := hP.raise (hP.setEnt h)

theorem LedgerKeeps.advance (h : P s) : P (s.advance i k) := hP.setEnt (hP.charge h)

theorem LedgerKeeps.raiseMissed {a : LAct} (h : P s) : P (s.raiseMissed i a k) := by
  unfold State.raiseMissed
  split
  · exact h
  · exact hP.raiseBy h

theorem LedgerKeeps.countMissed {n : Nat} (h : P s) : P (s.addSat TRG.NMISS n) := hP.count _ _ _ (Or.inl rfl) h

theorem LedgerKeeps.endOccurrence (h : P s) : P (s.endOccurrence i t) := by
  unfold State.endOccurrence
  extract_lets a n s1 k left charged s2
  have hs1 : P s1 := hP.countMissed h
  have hs2 : P s2 := hP.countMissed (hP.raiseMissed hs1)
  split
  · exact hP.entryDone (hP.charge (hP.raiseMissed hs1))
  · split
    · exact hP.entryDone (hP.charge hs2)
    · exact hP.advance hs2

theorem LedgerKeeps.evalChannel (h : P s) : P (s.evalChannel i t fresh c) := by
  unfold State.evalChannel
  extract_lets a o
  split_ifs
  · exact h
  · exact hP.skip h
  · exact hP.collide h
  · exact hP.raise (hP.freeze h)
  · exact hP.skip h
  · exact hP.setEnt h
  · exact hP.setEnt h
  · exact hP.setEnt h

theorem LedgerKeeps.evalLoop (h : P s) : P (s.evalLoop i t fresh k) := by
  induction k generalizing s fresh with
  | zero => exact h
  | succ k ih =>
    have hs1 : P ((s.ent i).w.channels.foldl (fun s c => s.evalChannel i t fresh c) s) :=
      List.foldlRecOn (motive := P) _ _ h fun _ hu _ _ => hP.evalChannel hu
    have hs2 := hP.setEnt (i := i) (a := (((s.ent i).w.channels.foldl (fun s c => s.evalChannel i t fresh c) s).ent i).settle) hs1
    unfold State.evalLoop
    dsimp only
    split
    · split
      · exact hP.endOccurrence hs2
      · exact ih (hP.endOccurrence hs2)
    · exact hs2

theorem LedgerKeeps.fireReached (h : P s) : P (s.fireReached i t) := by
  unfold State.fireReached
  extract_lets a d s1 m
  have hs1 : P s1 := by
    unfold s1 State.fireSettings
    split
    · exact List.foldlRecOn (motive := P) _ _ h fun _ hu _ _ => hP.cam _ _ _ rfl rfl hu
    · exact h
  split_ifs
  · exact h
  · exact hP.entryDone (hP.charge hs1)
  · exact hP.entryDone (hP.advance hs1)
  · exact hP.advance hs1

theorem LedgerKeeps.evalBare (h : P s) : P (s.evalBare i t fresh) := by
  unfold State.evalBare
  extract_lets e s1
  have hs1 : P s1 := by
    unfold s1
    split
    · exact hP.fireReached h
    · exact h
  split
  · exact hs1
  · exact hP.setEnt hs1

theorem LedgerKeeps.disarm (h : P s) : P (s.disarm i) := by
  unfold State.disarm
  extract_lets a
  split
  · exact h
  · exact hP.setEnt h

theorem LedgerKeeps.evalEntry (h : P s) : P (s.evalEntry t fresh i) := by
  unfold State.evalEntry
  extract_lets a
  split_ifs
  · exact h
  · exact hP.disarm h
  · exact hP.evalBare h
  · exact hP.evalLoop h

theorem LedgerKeeps.afterChannel (h : P s) : P (s.afterChannel i t) := by
  unfold State.afterChannel
  extract_lets s1 s2
  have hs1 : P s1 := hP.setEnt h
  have hs2 : P s2 := hP.endOccurrence hs1
  split_ifs
  · exact hs1
  · exact hs2
  · exact hP.evalEntry hs2
  · exact hs1

/-- An issue's end in its entry. -/
theorem LedgerKeeps.issuedOf {f : Frozen} {x : ChSt} (h : P s) : P (s.issuedOf f x t) := by
  unfold State.issuedOf
  extract_lets a
  split
  · exact hP.afterChannel (hP.setEnt h)
  · exact h

end

end Sys2Proof.Machine

end

section

/-! CERTIFICATE. Frozen issues, triggers, ends of exposures and strobes (R75 to R87, R118 to R121). -/

namespace Sys2Proof.Machine

@[simp] theorem ent_setEnt (s : State) (i : Nat) (a : LAct) : (s.setEnt i a).ent i = a := amap_get_set_same _ _ _ _

theorem ent_setEnt_ne (s : State) {i j : Nat} (a : LAct) (h : j ≠ i) : (s.setEnt i a).ent j = s.ent j := amap_get_set_ne _ _ _ h

@[simp] theorem cam_setCam (s : State) (n : Nat) (x : Cam) : (s.setCam n x).cam n = x := amap_get_set_same _ _ _ _

theorem cam_setCam_ne (s : State) {n k : Nat} (x : Cam) (h : k ≠ n) : (s.setCam n x).cam k = s.cam k := amap_get_set_ne _ _ _ h

@[simp] theorem strobe_setStrobe (s : State) (n : Nat) (x : Strobe) : (s.setStrobe n x).strobe n = x := amap_get_set_same _ _ _ _

theorem strobe_setStrobe_ne (s : State) {n k : Nat} (x : Strobe) (h : k ≠ n) : (s.setStrobe n x).strobe k = s.strobe k :=
  amap_get_set_ne _ _ _ h

/-! ### Freezing -/

/-- Reporting an event changes the event unit alone. -/
theorem raise_eq (s : State) (code idx : Nat) (v : List Nat) : ∃ x, s.raise code idx v = { s with events := x } := by
  unfold State.raise State.raiseBy
  split
  · exact ⟨_, rfl⟩
  · exact ⟨s.events, rfl⟩

theorem raise_ledger (s : State) (code idx : Nat) (v : List Nat) : (s.raise code idx v).ledger = s.ledger := by
  obtain ⟨x, hx⟩ := raise_eq s code idx v
  rw [hx]

theorem symbolSlips_ledger (s : State) (n k : Nat) : (s.symbolSlips n k).ledger = s.ledger := by
  induction k generalizing s with
  | zero => rfl
  | succ k ih => exact (ih _).trans (raise_ledger _ _ _ _)

theorem placeFrozen_entries (s : State) (c : Nat) (f : Frozen) :
    (s.placeFrozen c f).ledger.active = s.ledger.active ∧ (s.placeFrozen c f).ledger.staged = s.ledger.staged := by
  unfold State.placeFrozen
  extract_lets here old l l0 fs r slips
  have h := symbolSlips_ledger (s.setLink c r.1) c (slips r.2 - slips old)
  exact ⟨show ((s.setLink c r.1).symbolSlips c _).ledger.active = _ by rw [h]; rfl,
    show ((s.setLink c r.1).symbolSlips c _).ledger.staged = _ by rw [h]; rfl⟩

theorem placeFrozen_mem (s : State) (c : Nat) (f : Frozen) : ∃ g ∈ (s.placeFrozen c f).ledger.frozen, f.same g := by
  unfold State.placeFrozen
  extract_lets here old l l0 fs r slips
  have hf : { f with madeAt := s.now } ∈ fs := List.mem_append_right _ (List.mem_singleton_self _)
  obtain ⟨g, hg, hsame⟩ := batchPlace_same (3 * s.now) (batchOrder fs) l0 fs hf
  exact ⟨g, List.mem_append_right _ hg, hsame⟩

/-- What a freeze leaves in the ledger. -/
theorem freeze_ledger (s : State) (i c : Nat) (x : Int) :
    (s.freeze i c x).ledger.active = AMap.set s.ledger.active i
      { s.ent i with st := .frozen, chan := AMap.set (s.ent i).chan c (.frozen x) } ∧
    (s.freeze i c x).ledger.staged = s.ledger.staged ∧
    ∃ f ∈ (s.freeze i c x).ledger.frozen, f.entry = i ∧ f.chan = c ∧ f.at_ = x := by
  unfold State.freeze
  extract_lets a f s1
  split
  · obtain ⟨hact, hst⟩ := placeFrozen_entries s1 c f
    exact ⟨hact, hst, placeFrozen_mem s1 c f⟩
  · exact ⟨rfl, rfl, f, List.mem_append_right _ (List.mem_singleton_self _), rfl, rfl, rfl⟩

/-- Settles O36: an issue that freezes enters the ledger with its issue time, wherever its symbols are placed. -/
theorem issuesFreezeOneMicrosecondBefore : Obligations.IssuesFreezeOneMicrosecondBefore := by
  unfold Obligations.IssuesFreezeOneMicrosecondBefore
  intro e ch τ x s hpred hen
  constructor
  · intro hdue hready hcoll
    refine ⟨(s.at τ).freeze e ch x, ?_, ?_⟩
    · have hlink : ¬(ch.val < 24 ∧ s.linkReady ch = false) := fun h => by simp [hready h.1] at h
      show Host.Outcome.next (s.issueFreeze e ch τ) = _
      simp only [State.issueFreeze, hpred, hdue, hen, hlink, hcoll, and_self, if_true, if_false, Bool.false_eq_true]
    · obtain ⟨hact, hst, hf⟩ := freeze_ledger (s.at τ) e ch x
      have hent : ∀ j, ((s.at τ).freeze e ch x).ent j = AMap.get {} (AMap.set s.ledger.active e
          { s.ent e with st := .frozen, chan := AMap.set (s.ent e).chan ch (.frozen x) }) j := fun j => by
        rw [State.ent, hact]; rfl
      refine ⟨?_, ?_, ?_, hf, hst, fun j hj => ?_⟩
      · rw [hent, amap_get_set_same]
      · rw [hent, amap_get_set_same, amap_get_set_same]
      · rw [hent, amap_get_set_same]
      · rw [hent, amap_get_set_ne _ _ _ hj]; rfl
  · intro hlate
    show Host.Outcome.next (s.issueFreeze e ch τ) = _
    simp only [State.issueFreeze, hpred, hlate, false_and, if_false]

/-! ### Issues that are due -/

/-- The issue that is due is one of the channel's frozen issues. -/
theorem due_chan {s : State} {c t : Nat} {f : Frozen} (h : s.due c t = some f) : f.chan = c := by
  have all : ∀ (l : List Frozen) (b : Option Frozen), (∀ g ∈ l, g.chan = c) → (∀ g, b = some g → g.chan = c) →
      ∀ g, l.foldl (fun best f => match best with
        | none => some f
        | some b => if f.at_ < b.at_ then some f else some b) b = some g → g.chan = c := by
    intro l
    induction l with
    | nil => exact fun b _ hb => hb
    | cons y l ih =>
      intro b hl hb
      refine ih _ (fun g hg => hl g (List.mem_cons_of_mem _ hg)) fun g hg => ?_
      have hy := hl y List.mem_cons_self
      cases b with
      | none => exact Option.some.inj hg ▸ hy
      | some z =>
        dsimp only at hg
        split at hg
        · exact Option.some.inj hg ▸ hy
        · exact Option.some.inj hg ▸ hb z rfl
  refine all _ none (fun g hg => ?_) (by simp) f h
  simp only [List.mem_filter, Bool.and_eq_true, beq_iff_eq] at hg
  exact hg.2.1

/-- The trigger fields that an evaluation cannot change: the camera's last issue, what its link last sent, and NFIRE. -/
def TriggerSent (c seq : Nat) (last : Option Int) (tx : List Nat) (slot : Int) (n : Nat) (u : State) : Prop :=
  (u.cam c).seq = seq ∧ (u.cam c).lastIss = last ∧ (u.link c).tx = tx ∧ (u.link c).txAt = slot ∧ u.rd TRG.NFIRE = n

theorem triggerSent_ledgerKeeps (c seq : Nat) (last : Option Int) (tx : List Nat) (slot : Int) (n : Nat) :
    LedgerKeeps (TriggerSent c seq last tx slot n) where
  ledger _ _ h := h
  events _ _ h := h
  link s k l htx hat h := by
    obtain ⟨hseq, hlast, hl, ha, hn⟩ := h
    by_cases hk : c = k
    · subst hk
      exact ⟨hseq, hlast, by simpa [htx] using hl, by simpa [hat] using ha, hn⟩
    · exact ⟨hseq, hlast, by rwa [link_setLink_ne _ _ hk], by rwa [link_setLink_ne _ _ hk], hn⟩
  cam s k x hx hy h := by
    obtain ⟨hseq, hlast, hl, ha, hn⟩ := h
    by_cases hk : c = k
    · subst hk
      exact ⟨by simpa [hx] using hseq, by simpa [hy] using hlast, hl, ha, hn⟩
    · exact ⟨by rwa [cam_setCam_ne _ _ hk], by rwa [cam_setCam_ne _ _ hk], hl, ha, hn⟩
  count s f v hf h := by
    obtain ⟨hseq, hlast, hl, ha, hn⟩ := h
    refine ⟨hseq, hlast, hl, ha, (rd_wr_ne s v ?_).trans hn⟩
    obtain rfl | rfl | ⟨k, rfl⟩ := hf
    · decide
    · decide
    · simp only [TRG.NFIRE, LNK.CNT3_SYMBOL_SLIP, Fld.key]
      omega

/-- The end of a blanking window changes its camera, and reports. -/
theorem windowShut_eq (s : State) (c : Nat) :
    ∃ e, s.windowShut c = { s.setCam c { s.cam c with winOpen := none } with events := e } := by
  unfold State.windowShut
  extract_lets x late s1
  split
  · exact raise_eq s1 0x0504 c []
  · exact ⟨s1.events, rfl⟩

/-- A TRIGGER that leaves takes the camera's next number; the ledger's evaluation after it changes none of that. -/
theorem triggerSend_sent (s : State) (f : Frozen) (t : Nat) :
    TriggerSent f.chan (((s.cam f.chan).seq + 1) % 256) (some f.at_)
      [0x13C, (s.cam f.chan).seq, f.fine, crc8 [(s.cam f.chan).seq, f.fine]] f.slot (min (s.rd TRG.NFIRE + 1) (2 ^ TRG.NFIRE.w - 1))
      (s.triggerSend f t) := by
  obtain ⟨e, hsw⟩ := windowShut_eq s f.chan
  have hseq : ((s.windowShut f.chan).cam f.chan).seq = (s.cam f.chan).seq := by
    rw [hsw]
    show ((s.setCam f.chan { s.cam f.chan with winOpen := none }).cam f.chan).seq = _
    rw [cam_setCam]
  have hfire : (s.windowShut f.chan).rd TRG.NFIRE = s.rd TRG.NFIRE := by rw [hsw]; rfl
  rw [← hseq, ← hfire]
  unfold State.triggerSend
  extract_lets c sw x l chk ends s1 r s2
  exact (triggerSent_ledgerKeeps ..).issuedOf ⟨congrArg Cam.seq (cam_setCam s1 c _), congrArg Cam.lastIss (cam_setCam s1 c _),
    congrArg Link.tx (link_setLink sw c _), congrArg Link.txAt (link_setLink sw c _), rd_addSat_same s2 TRG.NFIRE 1⟩

/-- Settles O37: the TRIGGER's symbol and the camera's number by `triggerSend_sent`, the EXPOSURE_END by its row. -/
theorem triggersLeaveWithTheirSequenceNumber : Obligations.TriggersLeaveWithTheirSequenceNumber := by
  unfold Obligations.TriggersLeaveWithTheirSequenceNumber
  intro c τ s hup
  constructor
  · intro f hdue hlt
    have hc := due_chan hdue
    refine ⟨((s.at τ).unfreeze f).triggerSend f τ, ?_, ?_⟩
    · show execTriggerIssue c τ s = _
      simp only [execTriggerIssue, hdue, hup, if_true]
    · obtain ⟨hseq, hlast, htx, hat, hn⟩ := triggerSend_sent ((s.at τ).unfreeze f) f τ
      rw [hc] at hseq hlast htx hat
      exact ⟨hseq, hlast, htx, hat, hn.trans (Nat.min_eq_left (Nat.le_sub_one_of_lt hlt))⟩
  · intro e hend hslot
    have hstep : exec (.exposureEndIssue c τ) s = .next ((s.at τ).setLink c { s.link c with
        ends := (s.link c).ends.erase e, tx := [0x13C, e.seq, 128 + e.fine, crc8 [e.seq, 128 + e.fine]], txAt := e.slot }) := by
      show execExposureEndIssue c τ s = _
      simp only [execExposureEndIssue, hend, hslot, hup, and_self, if_true]
    exact ⟨_, hstep, link_setLink _ _ _, fun k hk => link_setLink_ne _ _ hk, rfl⟩

/-! ### Strobes -/

theorem strobes_ledgerKeeps (m : AMap Strobe) : LedgerKeeps (fun u => u.strobes = m) where
  ledger _ _ h := h
  events _ _ h := h
  link _ _ _ _ _ h := h
  cam _ _ _ _ _ h := h
  count _ _ _ _ h := h

/-- Cut pulses count up to the counter's bound; nothing else than CLIP and events changes. -/
theorem strobeCuts_spec (s : State) (n k : Nat) :
    (k ≠ 0 → (s.strobeCuts n k).rd (TRO.CNT_CLIP n) = min (s.rd (TRO.CNT_CLIP n) + k) (2 ^ (TRO.CNT_CLIP n).w - 1)) ∧
    (s.strobeCuts n k).strobes = s.strobes ∧ KeepsRegs [TRO.CNT_CLIP n] s (s.strobeCuts n k) := by
  induction k generalizing s with
  | zero => exact ⟨fun h => absurd rfl h, rfl, fun _ _ => rfl⟩
  | succ k ih =>
    obtain ⟨hclip, hstr, hkeep⟩ := ih ((s.addSat (TRO.CNT_CLIP n) 1).raise 0x0506 n [])
    have hrd : ((s.addSat (TRO.CNT_CLIP n) 1).raise 0x0506 n []).rd (TRO.CNT_CLIP n) =
        min (s.rd (TRO.CNT_CLIP n) + 1) (2 ^ (TRO.CNT_CLIP n).w - 1) := by rw [raise_rd, rd_addSat_same]
    rw [State.strobeCuts]
    refine ⟨fun _ => ?_, hstr.trans ?_, fun f hf => ?_⟩
    · by_cases hk : k = 0
      · subst hk; exact hrd
      · rw [hclip hk, hrd]; omega
    · obtain ⟨e, he⟩ := raise_eq (s.addSat (TRO.CNT_CLIP n) 1) 0x0506 n []
      rw [he]; rfl
    · rw [hkeep f hf, raise_rd]
      exact rd_addSat_ne _ _ (by simpa using hf)

theorem filter_end_eq_nil {l : List Nat} {τ : Nat} (h : ∀ e ∈ l, e ≤ τ) : (l.filter fun e => decide (τ < e)) = [] :=
  List.filter_eq_nil_iff.mpr fun e he => by simpa using h e he

/-- Settles O38: the pulse a due issue places, by what evaluations leave alone; its end and the cut by their rows. -/
theorem strobesPulseEndAndClip : Obligations.StrobesPulseEndAndClip := by
  unfold Obligations.StrobesPulseEndAndClip
  intro n τ s x
  refine ⟨fun f hdue hen hgap => ?_, fun hne hall => ?_, fun o hon hcut hlong => ?_⟩
  · let s1 := ((s.at τ).unfreeze f).addSat TRG.NFIRE 1
    have hcfg : s1.cfg (TRO.LIM_MINGAP n) = s.cfg (TRO.LIM_MINGAP n) :=
      cfg_wr_ne _ _ (by simp only [TRG.NFIRE, TRO.LIM_MINGAP, Fld.key]; omega)
    have hgap1 : s1.strobeGap n τ = false := by
      rw [← hgap]
      unfold State.strobeGap
      rw [hcfg]; rfl
    have hpulse : s1.strobePulse n τ (max 10 f.width) =
        s1.setStrobe n { x with pulses := x.pulses ++ [τ + max 10 f.width], onAt := some (x.onAt.getD τ) } := by
      unfold State.strobePulse
      rw [hgap1]; rfl
    have hstep : exec (.strobeIssue n τ) s = .next ((s1.strobePulse n τ (max 10 f.width)).issuedOf f .issued τ) := by
      show execStrobeIssue n τ s = _
      simp only [execStrobeIssue, hdue, hen, if_true]
      rfl
    have hstr : ((s1.strobePulse n τ (max 10 f.width)).issuedOf f .issued τ).strobe n =
        { x with pulses := x.pulses ++ [τ + max 10 f.width], onAt := some (x.onAt.getD τ) } := by
      rw [hpulse, State.strobe, (strobes_ledgerKeeps _).issuedOf rfl]
      exact strobe_setStrobe _ _ _
    exact ⟨_, hstep, by rw [hstr], by rw [hstr]⟩
  · have hnil := filter_end_eq_nil hall
    have hlen : ¬([] : List Nat).length = (s.strobe n).pulses.length := fun h => hne (List.length_eq_zero_iff.mp h.symm)
    have hstep : exec (.strobePulseEnd n τ) s =
        .next ((s.at τ).setStrobe n { x with pulses := [], onAt := none, offAt := some τ }) := by
      show execStrobePulseEnd n τ s = _
      simp only [execStrobePulseEnd, show ((s.strobe n).pulses.filter fun e => decide (τ < e)) = [] from hnil, hlen, if_true, if_false]
      rfl
    exact ⟨_, hstep, strobe_setStrobe _ _ _, fun k hk => strobe_setStrobe_ne _ _ hk, rfl⟩
  · have hl : (x.pulses.filter fun e => decide (o + max (s.cfg (TRO.LIM_MAXW n)) 1 * 1000 < e)) ≠ [] := by
      obtain ⟨e, he, hlt⟩ := hlong
      exact List.ne_nil_of_mem (List.mem_filter.mpr ⟨he, decide_eq_true hlt⟩)
    obtain ⟨hclip, hstr, hkeep⟩ := strobeCuts_spec ((s.at τ).setStrobe n { x with pulses := [], onAt := none, offAt := some τ }) n
      (x.pulses.filter fun e => decide (o + max (s.cfg (TRO.LIM_MAXW n)) 1 * 1000 < e)).length
    have hstep : exec (.strobeClip n τ) s =
        .next (((s.at τ).setStrobe n { x with pulses := [], onAt := none, offAt := some τ }).strobeCuts n
          (x.pulses.filter fun e => decide (o + max (s.cfg (TRO.LIM_MAXW n)) 1 * 1000 < e)).length) := by
      show execStrobeClip n τ s = _
      simp only [execStrobeClip, show (s.strobe n).onAt = some o from hon, hcut, true_and]
      exact congrArg Host.Outcome.next (if_pos hl)
    refine ⟨_, hstep, ?_, fun k hk => ?_, hclip (fun h => hl (List.length_eq_zero_iff.mp h)), hkeep⟩
    · rw [State.strobe, hstr]; exact strobe_setStrobe _ _ _
    · rw [State.strobe, hstr]; exact strobe_setStrobe_ne _ _ hk

end Sys2Proof.Machine

end

section

/-! CERTIFICATE. Blanking windows, SETTINGS entries, the lighting lock and flicker reports (R77, R88 to R93, R167). -/

namespace Sys2Proof.Machine

/-! ### Axes that time does not change -/

/-- Sampling axes that time does not change lets time pass only. -/
theorem sampled_of_still {s : State} (h : StillAxes s) (τ : Nat) : s.sampled τ = s.at τ := by
  have hstep : ∀ n, n < 8 → ((s.at τ).axisDerive (s.at τ).now n).axisWrap (s.at τ).now n = s.at τ := fun n hn => by
    obtain ⟨h5, h6, hrest⟩ := h n hn
    have hd : (s.at τ).axisDerive (s.at τ).now n = s.at τ := by
      unfold State.axisDerive
      rw [show ((s.at τ).axis n).rest = none from hrest]
    rw [hd]
    exact if_neg fun hc => hc.1.elim h5 h6
  have hfold : ∀ l : List Nat, (∀ n ∈ l, n < 8) →
      l.foldl (fun s n => (s.axisDerive s.now n).axisWrap s.now n) (s.at τ) = s.at τ := by
    intro l
    induction l with
    | nil => exact fun _ => rfl
    | cons n l ih =>
      intro hl
      rw [List.foldl_cons, hstep n (hl n List.mem_cons_self)]
      exact ih fun m hm => hl m (List.mem_cons_of_mem _ hm)
  exact hfold (List.range 8) fun n hn => List.mem_range.mp hn

/-! ### A SETTINGS entry fires (R77, R88) -/

/-- The set becomes pending for the cameras of the entry. -/
theorem fireSettings_eq (s : State) (e : LEnt) : ∃ m, s.fireSettings e = { s with cams := m } ∧
    (e.action = 3 → ∀ c, c < 24 → e.cams.testBit c = true → (AMap.get {} m c).pendSet = some (e.set, s.now)) := by
  unfold State.fireSettings
  split
  · have hfold : ∀ (l : List Nat) (u : State), u.now = s.now → ∃ m,
        l.foldl (fun s c => s.setCam c { s.cam c with pendSet := some (e.set, s.now) }) u = { u with cams := m } ∧
        ∀ c, (c ∈ l ∨ (u.cam c).pendSet = some (e.set, s.now)) → (AMap.get {} m c).pendSet = some (e.set, s.now) := by
      intro l
      induction l with
      | nil => exact fun u _ => ⟨u.cams, rfl, fun c hc => hc.elim (fun h => absurd h List.not_mem_nil) id⟩
      | cons k l ih =>
        intro u hu
        obtain ⟨m, hm, hall⟩ := ih (u.setCam k { u.cam k with pendSet := some (e.set, u.now) }) hu
        refine ⟨m, hm, fun c hc => hall c ?_⟩
        by_cases hk : c = k
        · subst hk
          right
          rw [cam_setCam, ← hu]
        · rw [cam_setCam_ne _ _ hk]
          exact hc.imp_left fun h => (List.mem_cons.mp h).resolve_left hk
    obtain ⟨m, hm, hall⟩ := hfold ((List.range 24).filter fun c => e.cams.testBit c) s rfl
    exact ⟨m, hm, fun _ c hc hbit => hall c (Or.inl (List.mem_filter.mpr ⟨List.mem_range.mpr hc, hbit⟩))⟩
  next h => exact ⟨s.cams, rfl, fun h3 => absurd h3 h⟩

/-- An entry with no repeat that fires is done. -/
theorem fireReached_once {s : State} {i t : Nat} (hd : 0 ≤ s.approachSign (s.ent i).w * (s.posAt (s.ent i).w.axis t - (s.ent i).target).toInt)
    (hrep : (s.ent i).w.d5 = 0) :
    s.fireReached i t = ((s.fireSettings (s.ent i).w).charge i 1).entryDone i := by
  unfold State.fireReached
  extract_lets a d s1 m
  rw [if_neg (not_lt.mpr hd), if_pos (Or.inl hrep)]

theorem entryDone_eq (s : State) (i : Nat) : ∃ e, s.entryDone i = { s.setEnt i { s.ent i with st := .done, chan := [] } with events := e } := by
  unfold State.entryDone
  exact raise_eq _ _ _ _

/-! ### The lighting lock (R93) -/

theorem comb_congr {s t : State} {n : Nat} (h : t.cfg (AX.CFG_COMB n) = s.cfg (AX.CFG_COMB n)) : t.comb n = s.comb n := by
  unfold State.comb
  rw [h]

/-- The loss of the lock, of an AX7 that does not follow it. -/
def State.lightLoss (s : State) : State :=
  { (s.wr TRG.LITE_STAT_STATE 0).set1 TRG.LITE_STAT_LOST_STKY with lite := { s.lite with seen := false, run := 0 } }

theorem lightLoss_rd (s : State) : s.lightLoss.rd TRG.LITE_STAT_STATE = 0 ∧ s.lightLoss.rd TRG.LITE_STAT_LOST_STKY = 1 ∧
    KeepsRegs [TRG.LITE_STAT_STATE, TRG.LITE_STAT_LOST_STKY] s s.lightLoss := by
  let u := s.wr TRG.LITE_STAT_STATE 0
  have hk : KeepsRegs [TRG.LITE_STAT_LOST_STKY] u s.lightLoss := sets1_keepsRegs u _ _
  refine ⟨(hk _ (by decide)).trans (rd_wr_same _ _ _), ?_, keepsRegs_trans (keepsRegs_wr s _ _) hk⟩
  have h : s.lightLoss.rd TRG.LITE_STAT_LOST_STKY = (u.rd TRG.LITE_STAT_LOST_STKY).lor 1 % 2 ^ 1 := rd_wr_same u _ _
  have hbit : (u.rd TRG.LITE_STAT_LOST_STKY ||| 1).testBit 0 = true := by rw [Nat.testBit_lor]; simp
  rw [h]
  exact Nat.mod_two_eq_one_iff_testBit_zero.mpr hbit

/-! ### Flicker reports (R167) -/

/-- The largest of some values stands at one of their places. -/
theorem argMax_lt {l : List Nat} (h : 0 < l.length) : argMax l < l.length := by
  have hfold : ∀ (ks : List Nat) (b : Nat), b < l.length → (∀ k ∈ ks, k < l.length) →
      ks.foldl (fun b k => if l.getD b 0 < l.getD k 0 then k else b) b < l.length := by
    intro ks
    induction ks with
    | nil => exact fun b hb _ => hb
    | cons k ks ih =>
      intro b hb hks
      refine ih _ ?_ fun j hj => hks j (List.mem_cons_of_mem _ hj)
      dsimp only
      split
      · exact hks k List.mem_cons_self
      · exact hb
  exact hfold _ 0 h fun k hk => List.mem_range.mp hk

/-- A report's frequency lies between 40 Hz and 2 kHz. -/
theorem flkReport_freq (win : List (Nat × Nat × Nat)) (e thr : Nat) :
    40000 ≤ (flkReport win e thr).freq ∧ (flkReport win e thr).freq ≤ 2000000 := by
  unfold flkReport
  extract_lets rows n bins k m den delta freq z arg past rest
  have hk : k < 197 := by
    have hlen : bins.length = 197 := by simp [bins]
    exact hlen ▸ argMax_lt (l := bins) (by rw [hlen]; decide)
  have hdelta : (k = 0 ∨ k = 196 → delta = 0) ∧ -(2 ^ 19) ≤ delta ∧ delta ≤ 2 ^ 19 := by
    simp only [delta]
    split_ifs with h
    · exact ⟨fun _ => rfl, by decide, by decide⟩
    · refine ⟨fun hk => absurd (hk.elim Or.inl fun h => Or.inr (Or.inl h)) h, by omega, by omega⟩
  obtain ⟨hedge, hlo, hhi⟩ := hdelta
  have hfreq : freq = (((40000 + 10000 * k) * 2 ^ 20 : Nat) + 10000 * delta).toNat := rfl
  show 40000 ≤ (freq + 2 ^ 19) / 2 ^ 20 ∧ (freq + 2 ^ 19) / 2 ^ 20 ≤ 2000000
  rw [hfreq]
  clear_value delta
  omega

theorem flkReport_valid {win : List (Nat × Nat × Nat)} {e thr : Nat} (h : win.length < 64) : (flkReport win e thr).valid = false := by
  unfold flkReport
  extract_lets rows n bins k m den delta freq z arg past rest
  have hn : n = win.length := by simp [n, rows, flkRows]
  simp only [hn, Bool.and_eq_false_iff, decide_eq_false_iff_not]
  exact Or.inl (by omega)

/-- The registers of slot `c` that a report sets. -/
def flickerWrites (c freq bright depth valid : Nat) : List (Fld × Nat) :=
  [(CTX.FLK_FREQ_FREQ c, freq), (CTX.FLK_BRIGHT_LO_TIME c, bright), (CTX.FLK_BRIGHT_HI_TIME c, bright / 2 ^ 32),
   (CTX.FLK_DEPTH_DEPTH c, depth), (CTX.STAT_FLK_VALID c, valid)]

theorem flickerWrites_nodup (c freq bright depth valid : Nat) : ((flickerWrites c freq bright depth valid).map (·.1.key)).Nodup := by
  simp only [flickerWrites, CTX.FLK_FREQ_FREQ, CTX.FLK_BRIGHT_LO_TIME, CTX.FLK_BRIGHT_HI_TIME, CTX.FLK_DEPTH_DEPTH, CTX.STAT_FLK_VALID,
    Fld.key, List.map_cons, List.map_nil, List.nodup_cons, List.mem_cons, List.not_mem_nil, List.nodup_nil, or_false, not_or,
    not_false_eq_true, and_true]
  omega

/-! ### The rows -/

theorem blankingWindowClose_closes {c : Fin 24} {τ o : Nat} {s : State} (hopen : (s.cam c).winOpen = some o) (hdue : o + s.blank c ≤ τ) :
    Answers (exec (.blankingWindowClose c τ) s) fun t =>
      t.cam c = { s.cam c with winOpen := none } ∧ (∀ k, k ≠ c.val → t.cam k = s.cam k) ∧
      { t with now := s.now, cams := s.cams, events := s.events } = s := by
  obtain ⟨ev, hev⟩ := windowShut_eq (s.at τ) c
  have hstep : exec (.blankingWindowClose c τ) s = .next ((s.at τ).windowShut c) := by
    show execBlankingWindowClose c τ s = _
    simp only [execBlankingWindowClose, hopen, hdue, if_true]
  rw [hstep, hev]
  exact ⟨_, rfl, cam_setCam _ _ _, fun k hk => cam_setCam_ne _ _ hk, rfl⟩

theorem ledgerTargetReached_fires {e : Fin 4096} {τ : Nat} {s : State} {a : LAct} (ha : s.ent e = a) (hstill : StillAxes s)
    (hne : a.st ≠ .empty) (hnd : a.st ≠ .done) (hact : a.w.action = 3) (hch : a.w.channels = []) (hen : s.on TRG.CFG_EN = true)
    (hmv : s.movesToward a.w = true) (hpos : 0 ≤ s.approachSign a.w * (s.posAt a.w.axis τ - a.target).toInt) (hrep : a.w.d5 = 0) :
    Answers (exec (.ledgerTargetReached e τ) s) fun t =>
      (t.ent e).st = .done ∧ (∀ c, c < 24 → a.w.cams.testBit c = true → (t.cam c).pendSet = some (a.w.set, max s.now τ)) ∧
      (∀ j, j ≠ e.val → t.ent j = s.ent j) ∧ t.regs = s.regs := by
  subst ha
  have hstep : exec (.ledgerTargetReached e τ) s = .next ((((s.at τ).fireSettings (s.ent e).w).charge e 1).entryDone e) := by
    show execLedgerTargetReached e τ s = _
    simp only [execLedgerTargetReached, sampled_of_still hstill]
    exact (congrArg Host.Outcome.next (if_pos ⟨hne, hnd, hch, hen, hmv, hpos⟩)).trans
      (congrArg Host.Outcome.next (fireReached_once (s := s.at τ) hpos hrep))
  obtain ⟨m, hm, hcams⟩ := fireSettings_eq (s.at τ) (s.ent e).w
  obtain ⟨ev, hev⟩ := entryDone_eq (((s.at τ).fireSettings (s.ent e).w).charge e 1) e
  rw [hstep, hev, hm]
  refine ⟨_, rfl, ?_, hcams hact, fun j hj => ?_, rfl⟩
  · exact congrArg LAct.st (ent_setEnt _ _ _)
  · exact (ent_setEnt_ne _ _ hj).trans (ent_setEnt_ne _ _ hj)

theorem lightHoldover_holds {τ : Nat} {s : State} (hst : s.rd TRG.LITE_STAT_STATE = 1) (hdue : s.lite.lastAt + 4 * s.lite.period ≤ τ) :
    Answers (exec (.lightHoldover τ) s) fun t =>
      t.rd TRG.LITE_STAT_STATE = 2 ∧ t.lite = { s.lite with heldAt := max s.now τ } ∧ KeepsRegs [TRG.LITE_STAT_STATE] s t := by
  have hstep : exec (.lightHoldover τ) s = .next (s.at τ).liteHold := by
    show execLightHoldover τ s = _
    rw [execLightHoldover, if_pos ⟨hst, hdue⟩]
  exact ⟨_, hstep, rd_wr_same _ _ _, rfl, keepsRegs_wr _ _ _⟩

theorem lightLost_loses {τ : Nat} {s : State} (hst : s.rd TRG.LITE_STAT_STATE = 2)
    (hdue : s.lite.heldAt + 1000000 * max 1 (s.cfg TRG.LITE_CFG_LOSS) ≤ τ) (hcomb : s.comb 7 ≠ 6) :
    Answers (exec (.lightLost τ) s) fun t =>
      t.rd TRG.LITE_STAT_STATE = 0 ∧ t.rd TRG.LITE_STAT_LOST_STKY = 1 ∧
      KeepsRegs [TRG.LITE_STAT_STATE, TRG.LITE_STAT_LOST_STKY] s t := by
  have hstep : exec (.lightLost τ) s = .next ((s.at τ).lightLoss.raise 0x0509 0 []) := by
    show execLightLost τ s = _
    have hmove : (s.at τ).liteMove 0 = s.at τ := if_neg hcomb
    rw [execLightLost, if_pos ⟨hst, hdue⟩]
    simp only [hmove]
    refine congrArg Host.Outcome.next (if_neg ?_)
    obtain ⟨ev, hev⟩ := raise_eq (s.at τ).lightLoss 0x0509 0 []
    have hc : ((s.at τ).lightLoss.raise 0x0509 0 []).comb 7 = s.comb 7 := by
      rw [hev]
      exact comb_congr rfl
    exact fun h => hcomb (hc.symm.trans h)
  obtain ⟨hstate, hlost, hkeep⟩ := lightLoss_rd (s.at τ)
  exact ⟨_, hstep, (raise_rd _ _ _ _ _).trans hstate, (raise_rd _ _ _ _ _).trans hlost,
    fun f hf => (raise_rd _ _ _ _ _).trans (hkeep f hf)⟩

theorem flickerReport_reports {ctx : Fin 24} {τ w : Nat} {s : State} {x : Ctx} {e : Nat} (hx : s.ctx ctx = x)
    (he : e = w + flkWindow x.conf ctx) (hwin : x.winAt = some w) (hdue : e ≤ τ) (hen : x.conf (CTX.STATCFG_FLK_EN ctx) ≠ 0)
    (hby : bypassed x.conf ctx 3 = false) (hlite : s.liteOn = false) :
    Answers (exec (.flickerReport ctx τ) s) fun t =>
      40000 ≤ t.rd (CTX.FLK_FREQ_FREQ ctx) ∧ t.rd (CTX.FLK_FREQ_FREQ ctx) ≤ 2000000 ∧
      (x.rows.length < 64 → t.rd (CTX.STAT_FLK_VALID ctx) = 0) ∧ (x.injFlk = true → t.rd (CTX.STAT_FLK_VALID ctx) = 0) ∧
      t.ctx ctx = { x with rows := [], winAt := some e, injFlk := false } ∧ (∀ k, k ≠ ctx.val → t.ctx k = s.ctx k) ∧
      KeepsRegs [CTX.FLK_FREQ_FREQ ctx, CTX.FLK_BRIGHT_LO_TIME ctx, CTX.FLK_BRIGHT_HI_TIME ctx, CTX.FLK_DEPTH_DEPTH ctx,
        CTX.STAT_FLK_VALID ctx] s t := by
  subst he
  let e := w + flkWindow x.conf ctx
  let r := flkReport x.rows ((s.at τ).devAt e) (x.conf (CTX.FLK_THR_THR ctx))
  let s0 := (s.at τ).setCtx ctx { x with rows := [], winAt := some e, injFlk := false }
  let ws := flickerWrites ctx r.freq r.bright r.depth (b2n (r.valid && !x.injFlk))
  have hstep : exec (.flickerReport ctx τ) s = .next ((s0.wrAll ws).raise 0x0A0D ctx []) := by
    show execFlickerReport ctx τ s = _
    have hgo : ¬(τ < w + flkWindow x.conf ctx ∨ x.conf (CTX.STATCFG_FLK_EN ctx) = 0 ∨ bypassed x.conf ctx 3 = true) := by
      rw [hby]
      simpa using ⟨hdue, hen⟩
    simp only [execFlickerReport, hx, hwin, hlite, Bool.false_eq_true, false_and, if_false]
    rw [if_neg hgo]
    rfl
  have hrd : ∀ v ∈ ws, ((s0.wrAll ws).raise 0x0A0D ctx []).rd v.1 = v.2 % 2 ^ v.1.w := fun v hv =>
    (raise_rd _ _ _ _ _).trans (wrAll_rd (flickerWrites_nodup ..) hv)
  obtain ⟨hlo, hhi⟩ := flkReport_freq x.rows ((s.at τ).devAt e) (x.conf (CTX.FLK_THR_THR ctx))
  have hfreq : ((s0.wrAll ws).raise 0x0A0D ctx []).rd (CTX.FLK_FREQ_FREQ ctx) = r.freq :=
    (hrd (CTX.FLK_FREQ_FREQ ctx, r.freq) List.mem_cons_self).trans (Nat.mod_eq_of_lt (show r.freq < 2 ^ 32 from
      lt_of_le_of_lt hhi (by decide)))
  have hvalid : ((s0.wrAll ws).raise 0x0A0D ctx []).rd (CTX.STAT_FLK_VALID ctx) = b2n (r.valid && !x.injFlk) % 2 ^ 1 :=
    hrd (CTX.STAT_FLK_VALID ctx, b2n (r.valid && !x.injFlk)) (by simp only [ws, flickerWrites, List.mem_cons, true_or, or_true])
  obtain ⟨ev, hev⟩ := raise_eq (s0.wrAll ws) 0x0A0D ctx []
  have hctxs : ((s0.wrAll ws).raise 0x0A0D ctx []).ctxs = s0.ctxs := by rw [hev]; rfl
  refine ⟨_, hstep, hfreq ▸ hlo, hfreq ▸ hhi, fun hfew => ?_, fun hinj => ?_, ?_, fun k hk => ?_, fun f hf => ?_⟩
  · rw [hvalid, show r.valid = false from flkReport_valid hfew]; rfl
  · rw [hvalid, hinj, Bool.not_true, Bool.and_false]; rfl
  · rw [State.ctx, hctxs]; exact amap_get_set_same _ _ _ _
  · rw [State.ctx, hctxs]; exact amap_get_set_ne _ _ _ hk
  · exact (raise_rd _ _ _ _ _).trans ((wrAll_onlyRegs s0 ws).1 f hf)

/-- Settles O39, row by row. -/
theorem windowsSettingsAndLightingFollowTheirTimers : Obligations.WindowsSettingsAndLightingFollowTheirTimers :=
  ⟨fun _ _ => ⟨fun _ _ => blankingWindowClose_closes, fun _ hstill => ledgerTargetReached_fires rfl hstill, lightHoldover_holds,
    lightLost_loses⟩, fun _ _ _ _ => flickerReport_reports rfl rfl⟩

end Sys2Proof.Machine

end

section

/-! CERTIFICATE. Read requests of the host (R4, R6, R9, R314). -/

namespace Sys2Proof.Machine

/-! ### Bytes of a register -/

theorem leNat_leBytes_drop_take (n v k m : Nat) (h : k + m ≤ n) : leNat (((leBytes n v).drop k).take m) = v / 2 ^ (8 * k) % 2 ^ (8 * m) := by
  have take : ∀ (m n v : Nat), m ≤ n → leNat ((leBytes n v).take m) = v % 2 ^ (8 * m) := by
    intro m
    induction m with
    | zero => intro n v _; simp [leNat, Nat.mod_one]
    | succ m ih =>
      intro n v hn
      obtain _ | n := n
      · omega
      rw [leBytes, List.take_succ_cons, leNat, ih n _ (by omega), show 8 * (m + 1) = 8 + 8 * m by ring, Nat.pow_add, Nat.mod_mul]
      simp
  induction k generalizing n v with
  | zero => simpa using take m n v (by omega)
  | succ k ih =>
    obtain _ | n := n
    · omega
    rw [leBytes, List.drop_succ_cons, ih n _ (by omega), show 8 * (k + 1) = 8 + 8 * k by ring, Nat.pow_add, Nat.div_div_eq_div_mul]

/-- The addressed bytes of a register value. -/
theorem leNat_part (v k len : Nat) (h : k + len ≤ 4) :
    leNat (((leBytes 4 v ++ []).drop k).take len) = v % 2 ^ 32 / 2 ^ (8 * k) % 2 ^ (8 * len) := by
  rw [List.append_nil, leNat_leBytes_drop_take 4 v k len h]
  have h32 : (2 : Nat) ^ 32 = 2 ^ (8 * k) * 2 ^ (32 - 8 * k) := by rw [← Nat.pow_add]; congr 1; omega
  rw [h32, Nat.mod_mul_right_div_self, Nat.mod_mod_of_dvd _ (Nat.pow_dvd_pow 2 (by omega))]

/-- Both halves, read at once. -/
theorem leNat_halves (a b : Nat) :
    leNat (((leBytes 4 a ++ (leBytes 4 b ++ [])).drop 0).take 8) = a % 2 ^ 32 + 2 ^ 32 * (b % 2 ^ 32) := by
  have hsum : leBytes 4 a ++ (leBytes 4 b ++ []) = leBytes 8 (a % 2 ^ 32 + 2 ^ 32 * (b % 2 ^ 32)) := by
    simp only [leBytes, List.append_nil, List.cons_append, List.nil_append, List.cons.injEq, and_true]
    omega
  rw [hsum, leNat_leBytes_drop_take 8 _ 0 8 (by decide)]
  simp only [Nat.mul_zero, Nat.pow_zero, Nat.div_one]
  omega

theorem find_amap_set {α : Type} (m : AMap α) (i : Nat) (v : α) : (AMap.set m i v).find? (fun e => e.1 == i) = some (i, v) := by
  induction m with
  | nil => simp [AMap.set]
  | cons x m ih =>
    obtain ⟨k, w⟩ := x
    rw [AMap.set]
    split_ifs with hlt heq
    · simp
    · simp
    · rw [List.find?_cons_of_neg (by simpa using Ne.symm heq)]
      exact ih

/-! ### Requests -/

theorem regsOf_one {off len : Nat} (hlen : 1 ≤ len) (h : off % 4 + len ≤ 4) : regsOf off len = [off / 4 * 4] := by
  have h1 : (off % 4 + len + 3) / 4 = 1 := by omega
  rw [regsOf, h1]
  simp

theorem regsOf_two {off : Nat} (h : off % 4 = 0) : regsOf off 8 = [off / 4 * 4, off / 4 * 4 + 4] := by
  have h2 : (off % 4 + 8 + 3) / 4 = 2 := by omega
  rw [regsOf, h2]
  simp [List.range_succ]

/-- A request within one register is the read of that register. -/
theorem loReadLatch_one {off : BitVec 26} {len τ : Nat} {s : State} (hlive : s.hostLive = true)
    (hreach : s.barReach (off.toNat / 4 * 4) = true) (hlen : 1 ≤ len) (hfit : off.toNat % 4 + len ≤ 4) :
    exec (.loReadLatch ⟨off, len⟩ τ) s = .next
      { ((s.at τ).axisFresh (off.toNat / 4 * 4)).regRead (off.toNat / 4 * 4) with
        busRead := (((s.at τ).axisFresh (off.toNat / 4 * 4)).regRead (off.toNat / 4 * 4)).busRead % 2 ^ 32 /
          2 ^ (8 * (off.toNat % 4)) % 2 ^ (8 * len) } := by
  show execLoReadLatch ⟨off, len⟩ τ s = _
  have hreach' : (s.at τ).barReach (off.toNat / 4 * 4) = true := hreach
  simp only [execLoReadLatch, hlive, Bool.true_eq_false, if_false, regsOf_one hlen hfit, State.regsRead, hreach', if_true,
    leNat_part _ _ _ hfit]

theorem isHalf_lo_evpk : isHalf .lo DLV.EVPK_DATA_DATA.off = false := by decide
theorem isHalf_hi_evpk : isHalf .hi DLV.EVPK_DATA_DATA.off = false := by decide
theorem isHalf_lo_tlpk : isHalf .lo THM.TLPK_DATA_DATA.off = false := by decide
theorem isHalf_hi_tlpk : isHalf .hi THM.TLPK_DATA_DATA.off = false := by decide
theorem isHalf_hi_axes : isHalf .hi 0x42000 = false := by decide

/-- A half is not the data register of a peek FIFO. -/
theorem not_peek_of_half {h : Half} (hh : h = .lo ∨ h = .hi) {o : Nat} (ho : isHalf h o = true) :
    ¬o = DLV.EVPK_DATA_DATA.off ∧ ¬o = THM.TLPK_DATA_DATA.off := by
  constructor <;> rintro rfl
  · obtain rfl | rfl := hh
    · rw [isHalf_lo_evpk] at ho; cases ho
    · rw [isHalf_hi_evpk] at ho; cases ho
  · obtain rfl | rfl := hh
    · rw [isHalf_lo_tlpk] at ho; cases ho
    · rw [isHalf_hi_tlpk] at ho; cases ho

section

variable {u : State} {o : Nat}

theorem regRead_lo (hlo : isHalf .lo o = true) :
    u.regRead o = { u with busRead := u.regValue o, hiLatch := AMap.set u.hiLatch (o + 4) (u.regValue (o + 4)) } := by
  obtain ⟨hev, htl⟩ := not_peek_of_half (Or.inl rfl) hlo
  simp only [State.regRead, hev, htl, hlo, if_true, if_false]

theorem regRead_hi_latched (hlo : isHalf .lo o = false) (hhi : isHalf .hi o = true) {x : Nat}
    (hx : u.hiLatch.find? (fun e => e.1 == o) = some (o, x)) :
    u.regRead o = { u with busRead := x, hiLatch := u.hiLatch.filter fun e => e.1 != o } := by
  obtain ⟨hev, htl⟩ := not_peek_of_half (Or.inr rfl) hhi
  simp only [State.regRead, hev, htl, hlo, hhi, hx, if_true, if_false, Bool.false_eq_true]

theorem regRead_hi_live (hlo : isHalf .lo o = false) (hhi : isHalf .hi o = true) (hx : u.hiLatch.find? (fun e => e.1 == o) = none) :
    u.regRead o = { u with busRead := u.regValue o } := by
  obtain ⟨hev, htl⟩ := not_peek_of_half (Or.inr rfl) hhi
  simp only [State.regRead, hev, htl, hlo, hhi, hx, if_true, if_false, Bool.false_eq_true]

theorem regRead_plain (hpeek : ¬(o = DLV.EVPK_DATA_DATA.off ∨ o = THM.TLPK_DATA_DATA.off)) (hlo : isHalf .lo o = false)
    (hhi : isHalf .hi o = false) : u.regRead o = { u with busRead := u.regValue o } := by
  obtain ⟨hev, htl⟩ := not_or.mp hpeek
  simp only [State.regRead, hev, htl, hlo, hhi, if_false, Bool.false_eq_true]

/-- Where no register is mapped, 0. -/
theorem regValue_unmapped (hempty : fieldsAt o = []) (hfar : ¬(0x2C000 ≤ o ∧ o < 0x2D008)) : u.regValue o = 0 := by
  rw [State.regValue, if_neg (by omega), if_neg (by omega), if_neg (by omega), hempty]
  rfl

theorem isHalf_unmapped (hempty : fieldsAt o = []) (h : Half) : isHalf h o = false := by
  rw [isHalf, hempty]; rfl

theorem evPop_some {w : Nat} {ws : List Nat} {rest : List (List Nat)} (h : u.events.peek = (w :: ws) :: rest) :
    u.evPop = (({ u with events := { u.events with peek := if ws = [] then rest else ws :: rest, peekLast := w }, busRead := w }).wr
      DLV.EVPK_DATA_DATA w).wr DLV.EVPK_STAT_LEVEL (if ws = [] then rest else ws :: rest).length := by
  simp only [State.evPop, h]

end

/-- The low half read latches the high one, which the second read takes. -/
theorem regsRead_both {u : State} {o : Nat} (hal : o % 4 = 0) (hreach : u.barReach o = true) (hreach4 : u.barReach (o + 4) = true)
    (hax : ¬(0x42000 ≤ o ∧ o < 0x42800)) (hlo : isHalf .lo o = true) (hlo4 : isHalf .lo (o + 4) = false)
    (hhi4 : isHalf .hi (o + 4) = true) :
    (u.regsRead [o, o + 4]).2 = leBytes 4 (u.regValue o) ++ (leBytes 4 (u.regValue (o + 4)) ++ []) := by
  have hax4 : ¬(0x42000 ≤ o + 4 ∧ o + 4 < 0x42800) := fun h => by
    rw [show o + 4 = 0x42000 by omega, isHalf_hi_axes] at hhi4
    cases hhi4
  have hfirst : (u.axisFresh o).regRead o =
      { u with busRead := u.regValue o, hiLatch := AMap.set u.hiLatch (o + 4) (u.regValue (o + 4)) } := by
    rw [State.axisFresh, if_neg hax, regRead_lo hlo]
  generalize hu1 : ({ u with busRead := u.regValue o, hiLatch := AMap.set u.hiLatch (o + 4) (u.regValue (o + 4)) } : State) = u1
    at hfirst
  have hreach1 : u1.barReach (o + 4) = true := by rw [← hu1]; exact hreach4
  have hlatch : u1.hiLatch.find? (fun e => e.1 == o + 4) = some (o + 4, u.regValue (o + 4)) := by
    rw [← hu1]; exact find_amap_set _ _ _
  have hval : u1.busRead = u.regValue o := by rw [← hu1]
  rw [State.regsRead, if_pos hreach, hfirst, State.regsRead, if_pos hreach1, State.axisFresh, if_neg hax4,
    regRead_hi_latched hlo4 hhi4 hlatch, State.regsRead]
  simp only [hval]

theorem loReadLatch_both {off : BitVec 26} {τ : Nat} {s : State} (hlive : s.hostLive = true)
    (hreach : s.barReach (off.toNat / 4 * 4) = true) (hreach4 : s.barReach (off.toNat / 4 * 4 + 4) = true) (hk : off.toNat % 4 = 0)
    (hax : ¬(0x42000 ≤ off.toNat / 4 * 4 ∧ off.toNat / 4 * 4 < 0x42800)) (hlo : isHalf .lo (off.toNat / 4 * 4) = true)
    (hlo4 : isHalf .lo (off.toNat / 4 * 4 + 4) = false) (hhi4 : isHalf .hi (off.toNat / 4 * 4 + 4) = true) :
    Answers (exec (.loReadLatch ⟨off, 8⟩ τ) s) fun t =>
      t.busRead = (s.at τ).regValue (off.toNat / 4 * 4) % 2 ^ 32 + 2 ^ 32 * ((s.at τ).regValue (off.toNat / 4 * 4 + 4) % 2 ^ 32) := by
  have hbytes := regsRead_both (u := s.at τ) (Nat.mul_mod_left _ 4) hreach hreach4 hax hlo hlo4 hhi4
  rw [← regsOf_two hk] at hbytes
  have hstep : exec (.loReadLatch ⟨off, 8⟩ τ) s = .next { ((s.at τ).regsRead (regsOf off.toNat 8)).1 with
      busRead := leNat ((((s.at τ).regsRead (regsOf off.toNat 8)).2.drop (off.toNat % 4)).take 8) } := by
    show execLoReadLatch ⟨off, 8⟩ τ s = _
    rw [execLoReadLatch, if_neg (by simp [hlive])]
  refine ⟨_, hstep, ?_⟩
  show leNat _ = _
  rw [hbytes, hk]
  exact leNat_halves _ _

/-- Settles O44: each kind of register by what one read of it does, the eight-byte request by `loReadLatch_both`. -/
theorem registerReadsLatchTheHighHalf : Obligations.RegisterReadsLatchTheHighHalf := by
  unfold Obligations.RegisterReadsLatchTheHighHalf
  intro off len τ s o k u part peek
  refine ⟨fun hdead => ?_, fun hlive hreach hlen hfit => ?_, fun hlive hreach hreach4 hk hl hax hlo hlo4 hhi4 => ?_⟩
  · show execLoReadLatch ⟨off, len⟩ τ s = _
    rw [execLoReadLatch, if_pos hdead]
  · have hone := loReadLatch_one (τ := τ) hlive hreach hlen hfit
    have hread : ∀ v, u.regRead o = v → exec (.loReadLatch ⟨off, len⟩ τ) s = .next { v with busRead := part v.busRead } :=
      fun v hv => hv ▸ hone
    refine ⟨fun _ hlo => ?_, fun _ hlo hhi => ⟨fun x hx => ?_, fun hx => ?_⟩, fun hpeek hlo hhi => ?_, fun hpeek hempty hfar => ?_,
      fun w ws rest ho hpk => ?_⟩
    · exact ⟨_, hread _ (regRead_lo hlo), rfl, amap_get_set_same _ _ _ _, rfl⟩
    · exact ⟨_, hread _ (regRead_hi_latched hlo hhi hx), rfl, rfl, rfl⟩
    · exact ⟨_, hread _ (regRead_hi_live hlo hhi hx), rfl, rfl⟩
    · exact ⟨_, hread _ (regRead_plain hpeek hlo hhi), rfl, rfl⟩
    · refine ⟨_, hread _ (regRead_plain hpeek (isHalf_unmapped hempty _) (isHalf_unmapped hempty _)), ?_⟩
      show part (u.regValue o) = 0
      rw [regValue_unmapped hempty hfar]
      simp [part]
    · have hu : u = s.at τ := if_neg (by rw [ho]; decide)
      have hpop : u.regRead o = u.evPop := by rw [State.regRead, if_pos ho]
      exact ⟨_, hread _ (hpop.trans (evPop_some (u := u) (by rw [hu]; exact hpk))), rfl, rfl⟩
  · subst hl
    exact loReadLatch_both hlive hreach hreach4 hk hax hlo hlo4 hhi4

end Sys2Proof.Machine

end

section

/-! CERTIFICATE. The check-value units (R230 to R233). -/

namespace Sys2Proof.Machine

/-- The registers of a check unit are different ones. -/
theorem chk_keys_ne (n : Nat) :
    (CHK.SAVE n).key ≠ (CHK.VALUE n).key ∧ (CHK.RESULT n).key ≠ (CHK.VALUE n).key ∧ (CHK.RESULT n).key ≠ (CHK.SAVE n).key ∧
    (CHK.LAST n).key ≠ (CHK.VALUE n).key ∧ (CHK.LAST n).key ≠ (CHK.COUNT n).key ∧ (CHK.LAST n).key ≠ (CHK.RESULT n).key ∧
    (CHK.COUNT n).key ≠ (CHK.VALUE n).key ∧ (CHK.COUNT n).key ≠ (CHK.RESULT n).key := by
  simp only [CHK.VALUE, CHK.SAVE, CHK.RESULT, CHK.LAST, CHK.COUNT, Fld.key]
  omega

/-- The running register after a reset of the unit with the configuration `u`. -/
theorem chkLoad_spec (s : State) (n : Nat) :
    (s.chkLoad n).rd (CHK.VALUE n) = useGet (s.chkUnit n).use (CHK.INIT n) % 2 ^ chkWidth (s.chkUnit n).use n ∧
    (s.chkLoad n).rd (CHK.COUNT n) = 0 ∧ (s.chkLoad n).rd (CHK.LAST n) = s.rd (CHK.LAST n) ∧
    OnlyRegs [CHK.VALUE n, CHK.COUNT n, CHK.RESULT n] s (s.chkLoad n) := by
  obtain ⟨_, hRV, _, hLV, hLC, hLR, hCV, hCR⟩ := chk_keys_ne n
  have hfit : useGet (s.chkUnit n).use (CHK.INIT n) % 2 ^ chkWidth (s.chkUnit n).use n < 2 ^ 32 :=
    lt_of_lt_of_le (Nat.mod_lt _ (Nat.two_pow_pos _)) (Nat.pow_le_pow_right (by decide) (Nat.min_le_left _ _))
  unfold State.chkLoad State.chkShow
  extract_lets u
  refine ⟨?_, ?_, ?_, onlyRegs_trans (onlyRegs_wr _ _ _) (onlyRegs_trans (onlyRegs_wr _ _ _) (onlyRegs_wr _ _ _))⟩
  · rw [rd_wr_ne _ _ hRV.symm, rd_wr_ne _ _ hCV.symm, rd_wr_same]
    exact Nat.mod_eq_of_lt hfit
  · rw [rd_wr_ne _ _ hCR, rd_wr_same]; rfl
  · rw [rd_wr_ne _ _ hLR, rd_wr_ne _ _ hLC, rd_wr_ne _ _ hLV]

/-- Settles O54: each row is a few register writes, of which the last shows the result. -/
theorem checkUnitsSwapResetAndLatch : Obligations.CheckUnitsSwapResetAndLatch := by
  unfold Obligations.CheckUnitsSwapResetAndLatch
  intro n s u
  obtain ⟨hSV, hRV, hRS, hLV, hLC, hLR, hCV, hCR⟩ := chk_keys_ne n
  refine ⟨?_, fun v => ?_, ?_⟩
  · let t := (s.wr (CHK.VALUE n) (s.rd (CHK.SAVE n))).wr (CHK.SAVE n) (s.rd (CHK.VALUE n))
    have hvalue : t.rd (CHK.VALUE n) = s.rd (CHK.SAVE n) % 2 ^ 32 := (rd_wr_ne _ _ hSV.symm).trans (rd_wr_same _ _ _)
    refine ⟨t.chkShow n, rfl, (rd_wr_ne t _ hRV.symm).trans hvalue, (rd_wr_ne t _ hRS.symm).trans (rd_wr_same _ _ _), ?_,
      onlyRegs_trans (onlyRegs_trans (onlyRegs_wr _ _ _) (onlyRegs_wr _ _ _)) (onlyRegs_wr _ _ _)⟩
    have hkeep : (t.chkShow n).rd (CHK.VALUE n) = t.rd (CHK.VALUE n) := rd_wr_ne t _ hRV.symm
    rw [hkeep]
    exact rd_wr_same t _ _
  · let t := s.wr (CHK.VALUE n) v.toNat
    have hvalue : t.rd (CHK.VALUE n) = v.toNat := (rd_wr_same _ _ _).trans (Nat.mod_eq_of_lt v.isLt)
    refine ⟨t.chkShow n, rfl, (rd_wr_ne t _ hRV.symm).trans hvalue, ?_, onlyRegs_trans (onlyRegs_wr _ _ _) (onlyRegs_wr _ _ _)⟩
    rw [← hvalue]
    exact rd_wr_same t _ _
  · intro f
    let s1 := s.chkLatch n
    let b := if s.cfg (CHK.SRC_VALID n) = 1 then some (s.graph.gen, s.cfg (CHK.SRC_FLUE n)) else none
    have hlast : s1.rd (CHK.LAST n) = chkResult u n (s.rd (CHK.VALUE n)) % 2 ^ 32 := rd_wr_same s _ _
    by_cases hreg : s.chkOfRegion n = true
    · have hstep : exec (.chkReset n) s = .next (s1.chkLoad n) := by
        show execChkReset n s = _
        unfold execChkReset
        exact congrArg (fun x : State => Host.Outcome.next (x.chkLoad n)) (if_pos hreg)
      have hf : f = u := if_pos hreg
      obtain ⟨hvalue, hcount, hkeep, honly⟩ := chkLoad_spec s1 n
      refine ⟨_, hstep, hkeep.trans hlast, hcount, by rw [hf]; exact hvalue, ?_, fun k _ => rfl, ?_⟩
      · rw [hf, if_pos hreg]; rfl
      · exact onlyRegs_mono (by simp) (onlyRegs_trans (onlyRegs_wr s (CHK.LAST n) _) honly)
    · let s2 := (s1.chkAdopt n).chkBind n b
      have hstep : exec (.chkReset n) s = .next (s2.chkLoad n) := by
        show execChkReset n s = _
        unfold execChkReset
        exact congrArg (fun x : State => Host.Outcome.next (x.chkLoad n)) (if_neg hreg)
      have hf : f = s.snapshot (0xC0000 + 0x40 * n) (0xC0000 + 0x40 * n + 0x40) := if_neg hreg
      have hunit : s2.chkUnit n = { s.chkUnit n with use := f, flue := b } := by
        rw [hf]
        simp only [s2, State.chkBind, State.chkAdopt, State.chkUnit, State.setChk, amap_get_set_same]
        rfl
      obtain ⟨hvalue, hcount, hkeep, honly⟩ := chkLoad_spec s2 n
      rw [hunit] at hvalue
      refine ⟨_, hstep, hkeep.trans hlast, hcount, hvalue, ?_, fun k hk => ?_, ?_⟩
      · rw [if_neg hreg]; exact hunit
      · exact (amap_get_set_ne _ _ _ hk).trans (amap_get_set_ne _ _ _ hk)
      · obtain ⟨hkept, hrest⟩ := honly
        have hload : OnlyRegs [CHK.VALUE n, CHK.COUNT n, CHK.RESULT n] s1 { s2.chkLoad n with chk := s.chk } :=
          ⟨hkept, congrArg (fun x : State => { x with chk := s.chk }) hrest⟩
        exact onlyRegs_mono (by simp) (onlyRegs_trans (onlyRegs_wr s (CHK.LAST n) _) hload)

end Sys2Proof.Machine

end

section

/-! SUPPORT. Encoder ports that no axis uses (R32 to R58). -/

namespace Sys2Proof.Machine

/-! ### Axes that do not depend on a port -/

/-- No axis depends on port `p`. -/
def State.apart (s : State) (p : Nat) : Prop := ∀ k, k < 8 → s.dependsOn k p = false

theorem apart_of_noAxis {s : State} {p : Nat} (h : NoAxis s p) : s.apart p := fun k hk => (h k hk).2

theorem comb_of_active {s t : State} (h : t.active = s.active) (n : Nat) : t.comb n = s.comb n := by
  simp only [State.comb, State.cfg, AX.CFG_COMB, if_true, h]

theorem src_of_active {s t : State} (h : t.active = s.active) (n k : Nat) : t.src n k = s.src n k := by
  simp only [State.src, State.cfg, AX.CFG_SRC0, AX.CFG_SRC1, if_true, h]

/-- What an axis depends on is configuration. -/
theorem State.apart.of_active {s t : State} {p : Nat} (hp : s.apart p) (h : t.active = s.active) : t.apart p := fun k hk => by
  rw [← hp k hk]
  simp only [State.dependsOn, comb_of_active h, src_of_active h]

theorem forAxes_id {s : State} {f : State → Nat → State} (h : ∀ k, k < 8 → f s k = s) : s.forAxes f = s := by
  have hfold : ∀ l : List Nat, (∀ k ∈ l, k < 8) → l.foldl f s = s := by
    intro l
    induction l with
    | nil => exact fun _ => rfl
    | cons k l ih =>
      intro hl
      rw [List.foldl_cons, h k (hl k List.mem_cons_self)]
      exact ih fun j hj => hl j (List.mem_cons_of_mem _ hj)
  exact hfold _ fun k hk => List.mem_range.mp hk

section

variable {s : State} {p : Nat} (hp : s.apart p)
include hp

/-- A source of an axis is a port that the axis depends on. -/
theorem State.apart.usedSources_ne {k : Nat} (hk : k < 8) : ∀ x ∈ s.usedSources k, x.2 ≠ p := by
  intro x hx hxp
  have hd := hp k hk
  unfold State.usedSources State.sources at hx
  unfold State.dependsOn at hd
  split at hx
  next h2 =>
    simp only [h2, Bool.or_eq_false_iff, beq_eq_false_iff_ne] at hd
    simp only [List.mem_cons, List.not_mem_nil, or_false] at hx
    rcases hx with rfl | rfl
    · exact hd.1 hxp
    · exact hd.2 hxp
  next hne =>
    split at hx
    next h1 =>
      simp only [h1, beq_eq_false_iff_ne] at hd
      rw [List.mem_singleton.mp hx] at hxp
      exact hd hxp
    next h3 =>
      simp only [h3, Bool.or_eq_false_iff, beq_eq_false_iff_ne] at hd
      rw [List.mem_singleton.mp hx] at hxp
      exact hd.1 hxp
    next h4 =>
      simp only [h4, Bool.or_eq_false_iff, beq_eq_false_iff_ne] at hd
      rw [List.mem_singleton.mp hx] at hxp
      unfold State.useSrc at hxp
      split at hxp
      · exact hd.2 hxp
      · exact hd.1 hxp
    next h2 => exact absurd h2 hne
    · exact absurd hx List.not_mem_nil

theorem State.apart.uses_eq {k : Nat} (hk : k < 8) : s.uses k p = false := by
  have hne := hp.usedSources_ne hk
  rw [State.uses, List.any_eq_false]
  intro x hx
  have hmem : x ∈ s.usedSources k := by
    unfold State.usedSources
    split
    next h2 =>
      unfold State.sources at hx
      simp only [h2] at hx
      exact (List.mem_filter.mp hx).1
    · exact hx
  simpa using hne x hmem

theorem State.apart.portChanged_eq (t : Nat) : s.portChanged p t = s :=
  forAxes_id fun k hk => by simp only [hp k hk, Bool.false_eq_true, if_false]

theorem State.apart.addUnc_eq (k : Nat) : s.addUnc p k = s.addSat (EP.UNC p) k := by
  refine forAxes_id fun n hn => if_pos (Or.inl ?_)
  have hne := (hp.of_active (t := s.addSat (EP.UNC p) k) rfl).usedSources_ne hn
  rw [List.filter_eq_nil_iff.mpr fun x hx => by simpa using hne x hx]
  rfl

end

theorem portStep_active (s : State) (p t : Nat) (d : Int) : (s.portStep p t d).active = s.active := by
  unfold State.portStep
  extract_lets x neg s1 m w s2
  split <;> rfl

theorem State.apart.countedStep_eq {s : State} {p : Nat} (hp : s.apart p) (t : Nat) (d : Int) :
    s.countedStep p t d = s.portStep p t (s.signed p d) := by
  have hp1 : (s.portStep p t (s.signed p d)).apart p := hp.of_active (portStep_active _ _ _ _)
  unfold State.countedStep
  extract_lets e s1
  split
  · rfl
  · exact forAxes_id fun k hk => by
      simp only [s1, e, hp1.uses_eq hk, hp1 k hk, Bool.false_eq_true, if_false]

/-! ### Registers of a port -/

/-- The live fields of port `p` are different registers. -/
def portFlds (p : Nat) : List Fld :=
  [EP.COUNT p, EP.ZLATCH p, EP.STAT_MOTION p, EP.STAT_FAULTED p, EP.STAT_OPEN_STKY p, EP.STAT_OPEN p, EP.STAT_LEVELS p,
   EP.FCNT0_DOUBLE_STEP p, EP.UNC p, EP.SPEED p, EP.EDGE_TIME_TIME p, EP.SERDATA_DATA p, EP.PWR_TRIP p]

theorem portFlds_nodup (p : Nat) : ((portFlds p).map Fld.key).Nodup := by
  have h : (portFlds p).map Fld.key = ((portFlds 0).map Fld.key).map (· + 0x2000 * p) := by
    simp only [portFlds, EP.COUNT, EP.ZLATCH, EP.STAT_MOTION, EP.STAT_FAULTED, EP.STAT_OPEN_STKY, EP.STAT_OPEN, EP.STAT_LEVELS,
      EP.FCNT0_DOUBLE_STEP, EP.UNC, EP.SPEED, EP.EDGE_TIME_TIME, EP.SERDATA_DATA, EP.PWR_TRIP, Fld.key, List.map_cons, List.map_nil,
      List.cons.injEq, and_true]
    omega
  rw [h]
  exact List.Nodup.map (fun a b hab => Nat.add_right_cancel hab) (by decide)

/-- Fields at different places of a list without repetition have different keys. -/
theorem key_ne_of_nodup {l : List Fld} (h : (l.map Fld.key).Nodup) {i j : Nat} {f g : Fld} (hi : l[i]? = some f) (hj : l[j]? = some g)
    (hij : i ≠ j) : f.key ≠ g.key := by
  intro hk
  have hfi : (l.map Fld.key)[i]? = some f.key := by rw [List.getElem?_map, hi]; rfl
  have hgj : (l.map Fld.key)[j]? = some f.key := by rw [List.getElem?_map, hj, hk]; rfl
  obtain ⟨hil, _⟩ := List.getElem?_eq_some_iff.mp hfi
  exact hij ((List.getElem?_inj hil h).mp (hfi.trans hgj.symm))

theorem port_key_ne (p i j : Nat) {f g : Fld} (hi : (portFlds p)[i]? = some f) (hj : (portFlds p)[j]? = some g) (hij : i ≠ j) :
    f.key ≠ g.key := key_ne_of_nodup (portFlds_nodup p) hi hj hij

/-- The fields that a counted step sets. -/
def stepFlds (p : Nat) : List Fld := [EP.COUNT p, EP.EDGE_TIME_TIME p, EP.STAT_MOTION p, EP.SPEED p]

/-- What a counted step leaves: registers, port. -/
theorem portStep_spec (s : State) (p t : Nat) (d : Int) :
    (s.portStep p t d).rd (EP.COUNT p) = uwrap 32 (sint 32 (s.rd (EP.COUNT p)) + d) % 2 ^ 32 ∧
    (s.portStep p t d).rd (EP.EDGE_TIME_TIME p) = s.stamp t % 2 ^ 32 ∧ KeepsRegs (stepFlds p) s (s.portStep p t d) ∧
    ((s.portStep p t d).port p).serPrev = (s.port p).serPrev ∧ ((s.portStep p t d).port p).serErr = (s.port p).serErr ∧
    ((s.portStep p t d).port p).reading = (s.port p).reading ∧ OnlyPorts s (s.portStep p t d) := by
  unfold State.portStep
  extract_lets x neg s1 m w s2
  have hcount : s1.rd (EP.COUNT p) = uwrap 32 (sint 32 (s.rd (EP.COUNT p)) + d) % 2 ^ 32 :=
    (rd_wr_ne _ _ (port_key_ne p 0 10 rfl rfl (by decide))).trans (rd_wr_same _ _ _)
  have htime : s1.rd (EP.EDGE_TIME_TIME p) = s.stamp t % 2 ^ 32 := rd_wr_same _ _ _
  have hkeep : KeepsRegs [EP.COUNT p, EP.EDGE_TIME_TIME p] s s1 := keepsRegs_trans (keepsRegs_wr _ _ _) (keepsRegs_wr _ _ _)
  split
  · have hport : ∀ y : Port, (s1.setPort p y).port p = y := fun y => port_setPort s1 p y
    refine ⟨hcount, htime, keepsRegs_mono (by simp [stepFlds]) hkeep, ?_, ?_, ?_, rfl⟩ <;> rw [hport]
  · have hport : ∀ y : Port, (s1.setPort p y).port p = y := fun y => port_setPort s1 p y
    refine ⟨?_, ?_, keepsRegs_mono (by simp [stepFlds]) (keepsRegs_trans hkeep
      (keepsRegs_trans (keepsRegs_wr (s1.setPort p _) (EP.STAT_MOTION p) m) (keepsRegs_wr s2 (EP.SPEED p) _))), ?_, ?_, ?_, rfl⟩
    · rw [rd_wr_ne _ _ (port_key_ne p 0 9 rfl rfl (by decide)), rd_wr_ne _ _ (port_key_ne p 0 2 rfl rfl (by decide))]
      exact hcount
    · rw [rd_wr_ne _ _ (port_key_ne p 10 9 rfl rfl (by decide)), rd_wr_ne _ _ (port_key_ne p 10 2 rfl rfl (by decide))]
      exact htime
    all_goals exact (congrArg _ (hport _)).trans rfl

end Sys2Proof.Machine

end

section

/-! CERTIFICATE. Ports that no axis uses: edges, faults, serial readings and timers (R28 to R58). -/

namespace Sys2Proof.Machine

/-! ### Faults (R42) -/

theorem portFaulted_eq_true {s : State} {p : Nat} (h : s.portFaulted p = true) : s.rd (EP.STAT_FAULTED p) = 1 := by
  simpa [State.portFaulted, State.is] using h

/-- The fault bit follows the causes of a fault. -/
theorem portFault_spec {s : State} {p : Nat} (hp : s.apart p) (t : Nat) :
    (s.faultCond p = true → (s.portFault p t).rd (EP.STAT_FAULTED p) = 1) ∧
    (s.faultCond p = false → (s.portFault p t).rd (EP.STAT_FAULTED p) ≠ 1) ∧
    KeepsRegs [EP.STAT_FAULTED p, EP.STAT_MOTION p, EP.SPEED p] s (s.portFault p t) ∧ OnlyPorts s (s.portFault p t) ∧
    (s.portFault p t).active = s.active ∧ (s.portFault p t).pwr = s.pwr := by
  unfold State.portFault
  extract_lets f _ s1
  split
  next h =>
    refine ⟨fun hc => portFaulted_eq_true (h ▸ hc), fun hc hone => ?_, fun _ _ => rfl, rfl, rfl, rfl⟩
    have hf : s.portFaulted p = true := by simp [State.portFaulted, State.is, hone]
    rw [← h] at hf
    exact absurd (hf.symm.trans hc) (by decide)
  · have hp1 : s1.apart p := hp.of_active rfl
    rw [hp1.portChanged_eq]
    have hfault : s1.rd (EP.STAT_FAULTED p) = b2n f % 2 ^ 1 :=
      (rd_wr_ne _ _ (port_key_ne p 3 9 rfl rfl (by decide))).trans ((rd_wr_ne _ _ (port_key_ne p 3 2 rfl rfl (by decide))).trans
        (rd_wr_same _ _ _))
    refine ⟨fun hc => ?_, fun hc => ?_, ?_, rfl, rfl, rfl⟩
    · rw [hfault, show f = true from hc]; rfl
    · rw [hfault, show f = false from hc]; decide
    · exact keepsRegs_trans (keepsRegs_trans (keepsRegs_wr s (EP.STAT_FAULTED p) _) (keepsRegs_wr _ (EP.STAT_MOTION p) 0))
        (keepsRegs_wr _ (EP.SPEED p) 0)

theorem onlyPorts_trans {s t u : State} (h : OnlyPorts s t) (h' : OnlyPorts t u) : OnlyPorts s u := by
  have := congrArg (fun x : State => { x with now := s.now, regs := s.regs, w1cSet := s.w1cSet, ports := s.ports, events := s.events }) h'
  exact this.trans h

theorem onlyPorts_raise {s u : State} (h : OnlyPorts s u) (code idx : Nat) (v : List Nat) : OnlyPorts s (u.raise code idx v) := by
  obtain ⟨e, he⟩ := raise_eq u code idx v
  rw [he]
  exact h

theorem raise_active (s : State) (code idx : Nat) (v : List Nat) : (s.raise code idx v).active = s.active := by
  obtain ⟨e, he⟩ := raise_eq s code idx v
  rw [he]

/-- A register read in `fs` of port `p` is not changed by its fault bit. -/
theorem portFault_rd {s : State} {p : Nat} (hp : s.apart p) (t : Nat) {f : Fld}
    (hf : f.key ∉ [EP.STAT_FAULTED p, EP.STAT_MOTION p, EP.SPEED p].map Fld.key) : (s.portFault p t).rd f = s.rd f := by
  obtain ⟨_, _, hkeep, _⟩ := portFault_spec hp t
  exact hkeep f hf

theorem stat_open_notMem (p : Nat) : (EP.STAT_OPEN p).key ∉ [EP.STAT_FAULTED p, EP.STAT_MOTION p, EP.SPEED p].map Fld.key := by
  simpa using ⟨port_key_ne p 5 3 rfl rfl (by decide), port_key_ne p 5 2 rfl rfl (by decide), port_key_ne p 5 9 rfl rfl (by decide)⟩

theorem stat_open_stky_notMem (p : Nat) :
    (EP.STAT_OPEN_STKY p).key ∉ [EP.STAT_FAULTED p, EP.STAT_MOTION p, EP.SPEED p].map Fld.key := by
  simpa using ⟨port_key_ne p 4 3 rfl rfl (by decide), port_key_ne p 4 2 rfl rfl (by decide), port_key_ne p 4 9 rfl rfl (by decide)⟩

theorem pwr_trip_notMem (p : Nat) : (EP.PWR_TRIP p).key ∉ [EP.STAT_FAULTED p, EP.STAT_MOTION p, EP.SPEED p].map Fld.key := by
  simpa using ⟨port_key_ne p 12 3 rfl rfl (by decide), port_key_ne p 12 2 rfl rfl (by decide), port_key_ne p 12 9 rfl rfl (by decide)⟩

theorem count_notMem (p : Nat) : (EP.COUNT p).key ∉ [EP.STAT_FAULTED p, EP.STAT_MOTION p, EP.SPEED p].map Fld.key := by
  simpa using ⟨port_key_ne p 0 3 rfl rfl (by decide), port_key_ne p 0 2 rfl rfl (by decide), port_key_ne p 0 9 rfl rfl (by decide)⟩

section

variable {n : Fin 8} {sig : Fin 3} {τ : Nat} {s : State}

theorem indexPulse_latches (hmode : s.portMode n = 1) (hlev : s.rd (EP.STAT_LEVELS n) / 4 = 0) (hz : s.cfg (EP.CFG_ZMODE n) = 1)
    (hcpr : s.cfg (EP.CPR n) = 0) :
    Answers (exec (.indexPulse n τ) s) fun t =>
      t.rd (EP.ZLATCH n) = s.rd (EP.COUNT n) % 2 ^ 32 ∧ t.rd (EP.COUNT n) = s.rd (EP.COUNT n) ∧ OnlyPorts s t := by
  let c := 1 - bitsOf (s.cfg (EP.CFG_INV n)) 2 1
  let x := s.port n
  let u := ((s.at τ).setPort n { x with raw := x.raw % 4 + 4 * c, mid := x.mid % 4, held := x.held % 4 + 4 * c }).wr (EP.STAT_LEVELS n)
    (s.rd (EP.STAT_LEVELS n) % 4 + 4)
  have hcount : u.rd (EP.COUNT n) = s.rd (EP.COUNT n) := rd_wr_ne _ _ (port_key_ne n 0 6 rfl rfl (by decide))
  have hlatch : u.indexLatch n τ = (u.wr (EP.ZLATCH n) (u.rd (EP.COUNT n))).setPort n { u.port n with zSeen := true } := by
    unfold State.indexLatch
    extract_lets z lv old new cpr seen s1 d
    have hz1 : z = 1 := hz
    have hcpr0 : cpr = 0 := hcpr
    rw [if_pos (Or.inl hz1), if_neg (by rw [hcpr0]; simp)]
  have hstep : exec (.indexPulse n τ) s = .next (u.indexLatch n τ) := by
    show execIndexPulse n τ s = _
    rw [execIndexPulse, if_pos ⟨hmode, hlev⟩]
  rw [hstep, hlatch]
  refine ⟨_, rfl, ?_, ?_, rfl⟩
  · exact (rd_wr_same u _ _).trans (by rw [hcount]; rfl)
  · exact (rd_wr_ne u _ (port_key_ne n 0 1 rfl rfl (by decide))).trans hcount

theorem testBit_lor_pow (v g w : Nat) (hg : g < w) : (v.lor (2 ^ g) % 2 ^ w).testBit g = true := by
  rw [Nat.testBit_mod_two_pow]
  simp [hg]

theorem ne_zero_of_testBit {v g : Nat} (h : v.testBit g = true) : v ≠ 0 := by
  rintro rfl
  simp at h

theorem openWire_faults (hp : s.apart n) (hopen : s.openable n sig = true) (hwas : (s.rd (EP.STAT_OPEN n)).testBit sig = false) :
    Answers (exec (.openWire n sig τ) s) fun t =>
      (t.rd (EP.STAT_OPEN n)).testBit sig = true ∧ (t.rd (EP.STAT_OPEN_STKY n)).testBit sig = true ∧
      t.rd (EP.STAT_FAULTED n) = 1 ∧ OnlyPorts s t := by
  let u0 := (s.at τ).wr (EP.STAT_OPEN n) ((s.rd (EP.STAT_OPEN n)).lor (2 ^ sig.val))
  let u1 := (u0.sets1 (EP.STAT_OPEN_STKY n) (2 ^ sig.val)).raise 0x0405 n []
  have hstep : exec (.openWire n sig τ) s = .next (u1.portFault n τ) := by
    show execOpenWire n sig τ s = _
    rw [execOpenWire, if_pos ⟨hopen, hwas⟩]
    rfl
  have hp1 : u1.apart n := hp.of_active (raise_active _ _ _ _)
  have hlive : (u1.rd (EP.STAT_OPEN n)).testBit sig = true := by
    have hrd : u1.rd (EP.STAT_OPEN n) = (s.rd (EP.STAT_OPEN n)).lor (2 ^ sig.val) % 2 ^ 3 :=
      (raise_rd _ _ _ _ _).trans ((sets1_keepsRegs u0 _ _ _ (by
        simpa using port_key_ne n 5 4 rfl rfl (by decide))).trans (rd_wr_same _ _ _))
    rw [hrd]
    exact testBit_lor_pow _ _ _ sig.isLt
  have hstky : (u1.rd (EP.STAT_OPEN_STKY n)).testBit sig = true := by
    have hrd : u1.rd (EP.STAT_OPEN_STKY n) = (u0.rd (EP.STAT_OPEN_STKY n)).lor (2 ^ sig.val) % 2 ^ 3 :=
      (raise_rd _ _ _ _ _).trans (rd_wr_same u0 _ _)
    rw [hrd]
    exact testBit_lor_pow _ _ _ sig.isLt
  have hcond : u1.faultCond n = true := by
    simp [State.faultCond, ne_zero_of_testBit hlive]
  obtain ⟨hfault, _, _, honly, _⟩ := portFault_spec hp1 τ
  refine ⟨_, hstep, ?_, ?_, hfault hcond, 
    onlyPorts_trans (onlyPorts_raise (show OnlyPorts s (u0.sets1 (EP.STAT_OPEN_STKY n) (2 ^ sig.val)) from rfl) _ _ _) honly⟩
  · rw [portFault_rd hp1 τ (stat_open_notMem n)]; exact hlive
  · rw [portFault_rd hp1 τ (stat_open_stky_notMem n)]; exact hstky

theorem openClear_recovers (hp : s.apart n) (hopen : s.rd (EP.STAT_OPEN n) = 2 ^ sig.val) (htrip : s.rd (EP.PWR_TRIP n) = 0)
    (hserial : (s.port n).serErr < 3) :
    Answers (exec (.openClear n sig τ) s) fun t => t.rd (EP.STAT_OPEN n) = 0 ∧ t.rd (EP.STAT_FAULTED n) ≠ 1 ∧ OnlyPorts s t := by
  let u := (s.at τ).wr (EP.STAT_OPEN n) 0
  have hstep : exec (.openClear n sig τ) s = .next (u.portFault n τ) := by
    show execOpenClear n sig τ s = _
    simp only [execOpenClear, hopen, Nat.testBit_two_pow_self, if_true, Nat.sub_self]
    rfl
  have hp1 : u.apart n := hp.of_active rfl
  have hzero : u.rd (EP.STAT_OPEN n) = 0 := rd_wr_same _ _ _
  have hcond : u.faultCond n = false := by
    have ht : u.rd (EP.PWR_TRIP n) = 0 := (rd_wr_ne _ _ (port_key_ne n 12 5 rfl rfl (by decide))).trans htrip
    have hs : (u.port n).serErr < 3 := hserial
    simp [State.faultCond, State.is, hzero, ht, hs]
  obtain ⟨_, hclear, _, honly, _⟩ := portFault_spec hp1 τ
  refine ⟨_, hstep, ?_, hclear hcond, onlyPorts_trans (t := u) rfl honly⟩
  rw [portFault_rd hp1 τ (stat_open_notMem n)]; exact hzero

theorem pwrOvercurrent_trips (hp : s.apart n) (hon : s.encPower n = true) :
    Answers (exec (.pwrOvercurrent n τ) s) fun t =>
      t.rd (EP.PWR_TRIP n) = 1 ∧ t.encPower n = false ∧ t.rd (EP.STAT_FAULTED n) = 1 ∧ OnlyPorts s t := by
  let u0 := (s.at τ).set1 (EP.PWR_TRIP n)
  let u := u0.raise 0x0406 n []
  have hstep : exec (.pwrOvercurrent n τ) s = .next (u.portFault n τ) := by
    show execPwrOvercurrent n τ s = _
    rw [execPwrOvercurrent, if_pos hon]
    rfl
  have hp1 : u.apart n := hp.of_active (raise_active _ _ _ _)
  have htrip : u.rd (EP.PWR_TRIP n) = 1 := by
    have hrd : u.rd (EP.PWR_TRIP n) = (s.rd (EP.PWR_TRIP n)).lor (2 ^ 0) % 2 ^ 1 := (raise_rd _ _ _ _ _).trans (rd_wr_same (s.at τ) _ _)
    have hbit := testBit_lor_pow (s.rd (EP.PWR_TRIP n)) 0 1 (by decide)
    rw [hrd]
    rw [Nat.testBit_zero, decide_eq_true_eq] at hbit
    omega
  have hcond : u.faultCond n = true := by simp [State.faultCond, State.is, htrip]
  obtain ⟨hfault, _, _, honly, _, hpwr⟩ := portFault_spec hp1 τ
  have htrip' : (u.portFault n τ).rd (EP.PWR_TRIP n) = 1 := (portFault_rd hp1 τ (pwr_trip_notMem n)).trans htrip
  exact ⟨_, hstep, htrip', by simp [State.encPower, State.is, htrip'], hfault hcond,
    onlyPorts_trans (onlyPorts_raise (show OnlyPorts s u0 from rfl) _ _ _) honly⟩

theorem encPwrTripClear_recovers (hp : s.apart n) (hopen : s.rd (EP.STAT_OPEN n) = 0) (hserial : (s.port n).serErr < 3)
    (hjust : (s.at τ).justSet (EP.PWR_TRIP n) = 0) :
    Answers (exec (.encPwrTripClear n τ) s) fun t =>
      t.rd (EP.PWR_TRIP n) = 0 ∧ t.rd (EP.STAT_FAULTED n) ≠ 1 ∧ OnlyPorts s t := by
  let u := (s.at τ).clear1 (EP.PWR_TRIP n) 1
  have hp1 : u.apart n := hp.of_active rfl
  have hzero : u.rd (EP.PWR_TRIP n) = 0 := by
    refine (rd_wr_same _ _ _).trans ?_
    rw [hjust]
    simp [EP.PWR_TRIP, List.range_succ]
  have hcond : u.faultCond n = false := by
    have ho : u.rd (EP.STAT_OPEN n) = 0 := (rd_wr_ne _ _ (port_key_ne n 5 12 rfl rfl (by decide))).trans hopen
    have hs : (u.port n).serErr < 3 := hserial
    simp [State.faultCond, State.is, hzero, ho, hs]
  obtain ⟨_, hclear, _, honly, _⟩ := portFault_spec hp1 τ
  exact ⟨_, rfl, (portFault_rd hp1 τ (pwr_trip_notMem n)).trans hzero, hclear hcond, onlyPorts_trans (t := u) rfl honly⟩

end

/-- Settles O29, row by row. -/
theorem portInputsLatchFaultAndRecover : Obligations.PortInputsLatchFaultAndRecover := fun _ _ _ _ hnone =>
  have hp := apart_of_noAxis hnone
  ⟨indexPulse_latches, openWire_faults hp, openClear_recovers hp, pwrOvercurrent_trips hp, encPwrTripClear_recovers hp⟩

/-! ### Timers (R50, R54, R56) -/

theorem freeFit_lt (x : Int) : fit32 x < 2 ^ 32 := by
  unfold fit32
  split
  · unfold uwrap; omega
  · exact BitVec.isLt _

theorem axisHit_false {s : State} {p : Nat} (hp : s.apart p) {k : Nat} (hk : k < 8) :
    ((s.comb k == 1 || s.comb k == 3 || s.comb k == 4) && s.src k (s.useSrc k) == p) = false := by
  have hne := hp.usedSources_ne hk
  rw [Bool.and_eq_false_iff]
  by_cases hc : (s.comb k == 1 || s.comb k == 3 || s.comb k == 4) = true
  · right
    have hmem : (s.useSrc k, s.src k (s.useSrc k)) ∈ s.usedSources k := by
      simp only [Bool.or_eq_true, beq_iff_eq] at hc
      obtain (h | h) | h := hc
      · simp [State.usedSources, State.sources, State.useSrc, h]
      · simp [State.usedSources, State.sources, State.useSrc, h]
      · simp [State.usedSources, State.sources, h]
    simpa using hne _ hmem
  · exact Or.inl (by simpa using hc)

section

variable {n : Fin 8} {τ : Nat} {s : State}

theorem standstillTimeout_stops (hp : s.apart n) (hdue : (s.port n).stepAt + s.ssto n ≤ τ) (hmotion : s.rd (EP.STAT_MOTION n) ≠ 0)
    (hok : s.portFaulted n = false) :
    Answers (exec (.standstillTimeout n τ) s) fun t =>
      t.rd (EP.STAT_MOTION n) = 0 ∧ t.rd (EP.SPEED n) = 0 ∧ t.rd (EP.COUNT n) = s.rd (EP.COUNT n) ∧ OnlyPorts s t := by
  let u := (((s.at τ).wr (EP.STAT_MOTION n) 0).wr (EP.SPEED n) 0).setPort n { (s.at τ).port n with win := [] }
  have hpu : u.apart n := hp.of_active rfl
  have hstep : exec (.standstillTimeout n τ) s = .next u := by
    show execStandstillTimeout n τ s = _
    have hhit : (decide ((s.port n).stepAt + s.ssto n ≤ τ) && decide (s.rd (EP.STAT_MOTION n) ≠ 0) && !s.portFaulted n) = true := by
      simp [hdue, hmotion, hok]
    unfold execStandstillTimeout
    extract_lets hit axisHit any s0 src s1
    have hany : any = true := by simp only [any, hit, hhit, Bool.true_or]
    have hs1 : s1 = u := by
      simp only [s1, src, s0, hany, hit, hhit, if_true]
      rfl
    rw [hs1]
    refine congrArg Host.Outcome.next (forAxes_id fun k hk => ?_)
    have hmiss : axisHit u k = false := by
      simp only [axisHit, axisHit_false hpu hk, Bool.false_and]
    simp only [hmiss, hpu k hk, Bool.false_eq_true, and_false, if_false]
  refine ⟨u, hstep, ?_, rd_wr_same _ _ _, ?_, rfl⟩
  · exact (rd_wr_ne _ _ (port_key_ne n 2 9 rfl rfl (by decide))).trans (rd_wr_same _ _ _)
  · exact (rd_wr_ne _ _ (port_key_ne n 0 9 rfl rfl (by decide))).trans (rd_wr_ne _ _ (port_key_ne n 0 2 rfl rfl (by decide)))

theorem speedDecay_decays (hp : s.apart n) (hmotion : s.rd (EP.STAT_MOTION n) = 3)
    (hlong : 256000000 < (τ - (s.port n).stepAt) * (s.portSpeed n).natAbs) :
    Answers (exec (.speedDecay n τ) s) fun t =>
      (0 < s.portSpeed n → t.rd (EP.SPEED n) = fit32 (roundDiv 256000000 (τ - (s.port n).stepAt))) ∧
      (s.portSpeed n < 0 → t.rd (EP.SPEED n) = fit32 (-roundDiv 256000000 (τ - (s.port n).stepAt))) ∧ OnlyRegs [EP.SPEED n] s t := by
  let m := roundDiv 256000000 (τ - (s.port n).stepAt)
  let u := (s.at τ).wr (EP.SPEED n) (fit32 (if s.portSpeed n < 0 then -m else m))
  have hstep : exec (.speedDecay n τ) s = .next u := by
    show execSpeedDecay n τ s = _
    unfold execSpeedDecay
    extract_lets e v m'
    rw [if_pos ⟨hmotion, hlong⟩]
    exact congrArg Host.Outcome.next (State.apart.portChanged_eq (s := u) (hp.of_active rfl) τ)
  have hspeed : u.rd (EP.SPEED n) = fit32 (if s.portSpeed n < 0 then -m else m) :=
    (rd_wr_same _ _ _).trans (Nat.mod_eq_of_lt (freeFit_lt _))
  refine ⟨u, hstep, fun h => ?_, fun h => ?_, keepsRegs_wr _ _ _, rfl⟩
  · rw [hspeed, if_neg (by omega)]
  · rw [hspeed, if_pos h]

theorem slip_sets (hslip : (s.axis n).slip = some true) (hdue : (s.axis n).slipAt + s.slipTime n ≤ τ)
    (hwas : s.is (AX.STAT_SLIP n) = false) :
    Answers (exec (.slip n τ) s) fun t => t.rd (AX.STAT_SLIP n) = 1 ∧ KeepsRegs [AX.STAT_SLIP n] s t := by
  have hstep : exec (.slip n τ) s =
      .next ((((s.at τ).setAxis n { s.axis n with slipInj := false }).wr (AX.STAT_SLIP n) 1).raise 0x0409 n []) := by
    show execSlip n τ s = _
    rw [execSlip, if_pos ⟨Or.inl hslip, hdue, hwas⟩]
  exact ⟨_, hstep, (raise_rd _ _ _ _ _).trans (rd_wr_same _ _ _), fun f hf => (raise_rd _ _ _ _ _).trans (keepsRegs_wr _ _ _ f hf)⟩

theorem slipClear_clears (hslip : (s.axis n).slip = some false) (hinj : (s.axis n).slipInj = false)
    (hdue : (s.axis n).slipAt + s.slipTime n ≤ τ) (hwas : s.is (AX.STAT_SLIP n) = true) :
    Answers (exec (.slipClear n τ) s) fun t => t.rd (AX.STAT_SLIP n) = 0 ∧ OnlyRegs [AX.STAT_SLIP n] s t := by
  have hstep : exec (.slipClear n τ) s = .next ((s.at τ).wr (AX.STAT_SLIP n) 0) := by
    show execSlipClear n τ s = _
    rw [execSlipClear, if_pos ⟨hslip, hinj, hdue, hwas⟩]
  exact ⟨_, hstep, rd_wr_same _ _ _, keepsRegs_wr _ _ _, rfl⟩

end

/-- Settles O31, row by row. -/
theorem motionTimersActOnPortsAndAxes : Obligations.MotionTimersActOnPortsAndAxes := fun _ _ _ =>
  ⟨fun hnone => standstillTimeout_stops (apart_of_noAxis hnone), fun hnone => speedDecay_decays (apart_of_noAxis hnone), slip_sets,
    slipClear_clears⟩

end Sys2Proof.Machine

end

section

/-! CERTIFICATE. Edges in QUAD mode and serial readings (R32 to R36, R43 to R46, R57). -/

namespace Sys2Proof.Machine

/-! ### Sensed levels (R32, R33) -/

/-- Three bits as a number. -/
def bits3 (b : Nat → Bool) : Nat := b2n (b 0) + 2 * b2n (b 1) + 4 * b2n (b 2)

theorem bits3_lt (b : Nat → Bool) : bits3 b < 8 := by
  unfold bits3 b2n
  split <;> split <;> split <;> decide

theorem mod8_eq_bits3 (v : Nat) : v % 8 = bits3 v.testBit := by
  have h : ∀ i, b2n (v.testBit i) = v / 2 ^ i % 2 := fun i => by
    rw [Nat.testBit_eq_decide_div_mod_eq]
    unfold b2n
    split <;> rename_i h <;> simp only [decide_eq_true_eq] at h <;> omega
  rw [bits3, h, h, h]
  omega

theorem bits3_xor (a b : Nat → Bool) : (bits3 a).xor (bits3 b) = bits3 fun g => a g != b g := by
  have h : ∀ a0 a1 a2 b0 b1 b2 : Bool, (b2n a0 + 2 * b2n a1 + 4 * b2n a2).xor (b2n b0 + 2 * b2n b1 + 4 * b2n b2) =
      b2n (a0 != b0) + 2 * b2n (a1 != b1) + 4 * b2n (a2 != b2) := by decide
  exact h ..

/-- What the filter takes of the levels at the inputs. -/
theorem sense_eq (s : State) (n : Nat) (lv mid : BitVec 3) :
    (∃ y, s.sense n lv.toNat mid.toNat = (s.setPort n y, bits3 fun g =>
      (if mid.getLsbD g then (s.port n).held.testBit g else lv.getLsbD g) != (s.cfg (EP.CFG_INV n)).testBit g) ∧
      y.prevObs = (s.port n).prevObs) := by
  unfold State.sense
  extract_lets x held
  have hheld : held = bits3 fun g => if mid.getLsbD g then x.held.testBit g else lv.getLsbD g := by
    have hbit : ∀ g, (if mid.toNat.testBit g then x.held else lv.toNat).testBit g =
        if mid.getLsbD g then x.held.testBit g else lv.getLsbD g := fun g => by
      rw [BitVec.testBit_toNat]
      split <;> rfl
    simp only [held, List.range_succ, List.range_zero, List.nil_append, List.cons_append, List.foldl_cons, List.foldl_nil, hbit, bits3]
    generalize (if mid.getLsbD 0 then x.held.testBit 0 else lv.getLsbD 0) = c0
    generalize (if mid.getLsbD 1 then x.held.testBit 1 else lv.getLsbD 1) = c1
    generalize (if mid.getLsbD 2 then x.held.testBit 2 else lv.getLsbD 2) = c2
    cases c0 <;> cases c1 <;> cases c2 <;> rfl
  refine ⟨{ x with raw := lv.toNat, mid := mid.toNat, held := held }, ?_, rfl⟩
  rw [mod8_eq_bits3, hheld, bits3_xor]

/-! ### Counts -/

theorem uwrap_lt (w : Nat) (x : Int) : uwrap w x < 2 ^ w := by
  unfold uwrap
  have hpos : (0 : Int) < ((2 ^ w : Nat) : Int) := by exact_mod_cast Nat.two_pow_pos w
  have h1 := Int.emod_lt_of_pos x hpos
  have h0 := Int.emod_nonneg x hpos.ne'
  omega

/-- A count that moves by `d`, modulo 2^32. -/
theorem count_moved (c : Nat) (d : Int) : ((uwrap 32 (sint 32 c + d) % 2 ^ 32 : Nat) : Int) = ((c : Int) + d) % 2 ^ 32 := by
  rw [Nat.mod_eq_of_lt (uwrap_lt 32 _)]
  unfold uwrap sint
  split <;> omega

theorem stamp_lt (s : State) (t : Nat) : s.stamp t < 2 ^ 32 := Nat.mod_lt _ (by decide)

theorem step_notMem (p j : Nat) (f : Fld) (h : (portFlds p)[j]? = some f) (hj : j ≠ 0 ∧ j ≠ 10 ∧ j ≠ 2 ∧ j ≠ 9) :
    f.key ∉ (stepFlds p).map Fld.key := by
  obtain ⟨h0, h10, h2, h9⟩ := hj
  simpa [stepFlds] using ⟨port_key_ne p j 0 h rfl h0, port_key_ne p j 10 h rfl h10, port_key_ne p j 2 h rfl h2, port_key_ne p j 9 h rfl h9⟩

/-- The state of a port after the filter has accepted new levels. -/
def State.accepted (s : State) (n : Nat) (τ sensed : Nat) (y : Port) : State :=
  ((s.at (τ + 10 * s.cfg (EP.CFG_FILT n))).setPort n y).wr (EP.STAT_LEVELS n) sensed

section

variable {s : State} {n τ sensed : Nat} {y : Port}

theorem accepted_rd {j : Nat} {f : Fld} (hf : (portFlds n)[j]? = some f) (hj : j ≠ 6) : (s.accepted n τ sensed y).rd f = s.rd f :=
  rd_wr_ne _ _ (port_key_ne n j 6 hf rfl hj)

/-- An accepted edge that counts one step. -/
theorem countedEdge_spec {d turn : Int} {u : State}
    (hu : u = ((s.accepted n τ sensed y).setPort n { y with prevObs := some τ }).portStep n τ (d * turn)) (hs : sensed < 8) :
    (u.rd (EP.COUNT n) : Int) = ((s.rd (EP.COUNT n) : Int) + d * turn) % 2 ^ 32 ∧ u.rd (EP.EDGE_TIME_TIME n) = s.stamp τ ∧
    u.rd (EP.STAT_LEVELS n) = sensed ∧ u.rd (EP.UNC n) = s.rd (EP.UNC n) ∧ OnlyPorts s u := by
  subst hu
  obtain ⟨hcount, htime, hkeep, _, _, _, honly⟩ :=
    portStep_spec ((s.accepted n τ sensed y).setPort n { y with prevObs := some τ }) n τ (d * turn)
  refine ⟨?_, ?_, ?_, ?_,
    onlyPorts_trans (show OnlyPorts s ((s.accepted n τ sensed y).setPort n { y with prevObs := some τ }) from rfl) honly⟩
  · rw [hcount]
    rw [show ((s.accepted n τ sensed y).setPort n { y with prevObs := some τ }).rd (EP.COUNT n) = s.rd (EP.COUNT n) from
      accepted_rd (j := 0) rfl (by decide)]
    exact count_moved _ _
  · rw [htime]
    exact Nat.mod_eq_of_lt (stamp_lt s τ)
  · rw [hkeep _ (step_notMem n 6 _ rfl (by decide))]
    exact (rd_wr_same _ _ _).trans (Nat.mod_eq_of_lt hs)
  · rw [hkeep _ (step_notMem n 8 _ rfl (by decide))]
    exact accepted_rd (j := 8) rfl (by decide)

end

/-- Places of the sequence that lie one apart, and those that lie two apart. -/
theorem quadPos_forward : ∀ x ∈ [(0, 1), (1, 3), (3, 2), (2, 0)], x.1 ≠ x.2 ∧ (quadPos x.2 + 4 - quadPos x.1) % 4 = 1 := by decide
theorem quadPos_back : ∀ x ∈ [(1, 0), (3, 1), (2, 3), (0, 2)], x.1 ≠ x.2 ∧ (quadPos x.2 + 4 - quadPos x.1) % 4 = 3 := by decide
theorem quadPos_double : ∀ x ∈ [(0, 3), (3, 0), (1, 2), (2, 1)], x.1 ≠ x.2 ∧ (quadPos x.2 + 4 - quadPos x.1) % 4 = 2 := by decide

section

variable {n : Fin 8} {lv mid : BitVec 3} {τ : Nat} {s : State}

/-- An edge of a QUAD port that changes the levels of A and B leaves the row at `quadEdge`. -/
theorem encoderEdge_quad {sensed : Nat} (hmode : s.portMode n = 1) (hstill : StillAxes s)
    (hobs : (s.port n).prevObs.elim true (fun q => decide (q < τ)) = true)
    (hsensed : sensed = bits3 fun g =>
      (if mid.getLsbD g then (s.port n).held.testBit g else lv.getLsbD g) != (s.cfg (EP.CFG_INV n)).testBit g)
    (hc : s.rd (EP.STAT_LEVELS n) / 4 = sensed / 4) :
    ∃ y : Port, y.prevObs = (s.port n).prevObs ∧ exec (.encoderEdge n lv mid τ) s =
      .next ((s.accepted n τ sensed y).quadEdge n τ (s.rd (EP.STAT_LEVELS n)) sensed) := by
  obtain ⟨y, hy, hprev⟩ := sense_eq (s.at (τ + 10 * s.cfg (EP.CFG_FILT n))) n lv mid
  refine ⟨y, hprev, ?_⟩
  have hgo : ¬(s.port n).prevObs.elim false (fun q => decide (τ ≤ q)) = true := by
    cases hq : (s.port n).prevObs with
    | none => simp
    | some q => rw [hq] at hobs; simpa using hobs
  show execEncoderEdge n lv mid τ s = _
  unfold execEncoderEdge
  rw [sampled_of_still hstill, hy]
  extract_lets old r new s1 s2
  have hnew : new = sensed := hsensed.symm
  have hz : ¬(old / 4 = 0 ∧ new / 4 = 1) := fun h => by
    rw [hnew, ← hc] at h
    exact absurd (h.1.symm.trans h.2) (by decide)
  rw [if_neg hgo]
  simp only [hmode]
  rw [if_neg hz]
  simp only [s2, s1, hnew]
  rfl

theorem signed_of_cfg {u : State} (h : u.active = s.active) (d : Int) :
    u.signed n d = d * if s.on (EP.CFG_DIRINV n) then -1 else 1 := by
  have hon : u.on (EP.CFG_DIRINV n) = s.on (EP.CFG_DIRINV n) := by simp only [State.on, State.cfg, EP.CFG_DIRINV, if_true, h]
  rw [State.signed, hon]
  split
  · ring
  · ring

/-- An accepted edge that is not too fast. -/
theorem accepted_edgeFast {sensed : Nat} {y : Port} (hy : y.prevObs = (s.port n).prevObs) :
    (s.accepted n τ sensed y).edgeFast n τ = s.edgeFast n τ := by
  have hport : (s.accepted n τ sensed y).port n = y := port_setPort (s.at _) n y
  unfold State.edgeFast
  rw [hport, hy]
  rfl

/-- One place in the sequence counts one step. -/
theorem quadEdge_step {sensed old : Nat} {y : Port} (hp : s.apart n) (hfast : s.edgeFast n τ = false) (hy : y.prevObs = (s.port n).prevObs)
    {b : Bool} (hne : old % 4 ≠ sensed % 4) (hd : (quadPos (sensed % 4) + 4 - quadPos (old % 4)) % 4 = if b then 1 else 3) :
    (s.accepted n τ sensed y).quadEdge n τ old sensed =
      ((s.accepted n τ sensed y).setPort n { y with prevObs := some τ }).portStep n τ
        ((if b then 1 else -1) * if s.on (EP.CFG_DIRINV n) then -1 else 1) := by
  have hport : (s.accepted n τ sensed y).port n = y := port_setPort (s.at _) n y
  unfold State.quadEdge
  extract_lets a b' fast src s1 d
  have hd' : d = if b then 1 else 3 := hd
  have hs1 : s1 = (s.accepted n τ sensed y).setPort n { y with prevObs := some τ } := by simp only [s1, src, hport]
  rw [if_neg hne, if_neg (by rw [hd']; cases b <;> decide), if_neg (by rw [show fast = false from (accepted_edgeFast hy).trans hfast]; decide),
    State.apart.countedStep_eq (s := s1) (hp.of_active rfl), signed_of_cfg (s := s) (u := s1) rfl, hs1, hd']
  cases b <;> rfl

/-- Two places in the sequence report a fault. -/
theorem quadEdge_double {sensed old : Nat} {y : Port} (hp : s.apart n) (hne : old % 4 ≠ sensed % 4)
    (hd : (quadPos (sensed % 4) + 4 - quadPos (old % 4)) % 4 = 2) :
    ∃ e z, (s.accepted n τ sensed y).quadEdge n τ old sensed = ({ ((s.accepted n τ sensed y).setPort n z).addSat
      (EP.FCNT0_DOUBLE_STEP n) 1 with events := e }).addSat (EP.UNC n) 2 := by
  unfold State.quadEdge
  extract_lets a b fast _ s1 d
  rw [if_neg hne, if_pos (show d = 2 from hd), State.edgeFault]
  have hraise : ∃ e, (s1.addSat (EP.FCNT0_DOUBLE_STEP n) 1).raiseJoin (fun a _ => a) 0x0401 n τ [] =
      { s1.addSat (EP.FCNT0_DOUBLE_STEP n) 1 with events := e } := by
    unfold State.raiseJoin State.raiseBy
    split
    · exact ⟨_, rfl⟩
    · exact ⟨s1.events, rfl⟩
  obtain ⟨e, he⟩ := hraise
  rw [he]
  exact ⟨e, _, State.apart.addUnc_eq (s := { s1.addSat (EP.FCNT0_DOUBLE_STEP n) 1 with events := e }) (hp.of_active rfl) 2⟩

end

/-- Settles O28: the three kinds of edges through `countedEdge_spec` and `quadEdge_double`. -/
theorem quadratureEdgesCountOrReport : Obligations.QuadratureEdgesCountOrReport := by
  unfold Obligations.QuadratureEdgesCountOrReport
  intro n lv mid τ s hmode hnone hstill hobs hfast inv level sensed hc old new count turn
  have hp := apart_of_noAxis hnone
  obtain ⟨y, hy, hstep⟩ := encoderEdge_quad (lv := lv) (mid := mid) hmode hstill hobs rfl hc
  have hlt : sensed < 8 := bits3_lt _
  refine ⟨fun hmove => ?_, fun hmove => ?_, fun hmove hunc hcnt => ?_⟩
  · obtain ⟨hne, hd⟩ := quadPos_forward _ hmove
    have h := countedEdge_spec (s := s) (y := y) (d := 1) (turn := turn)
      ((quadEdge_step (τ := τ) hp hfast hy (b := true) hne hd).trans rfl) hlt
    rw [one_mul] at h
    exact ⟨_, hstep, h⟩
  · obtain ⟨hne, hd⟩ := quadPos_back _ hmove
    have h := countedEdge_spec (s := s) (y := y) (d := -1) (turn := turn)
      ((quadEdge_step (τ := τ) hp hfast hy (b := false) hne hd).trans rfl) hlt
    rw [neg_one_mul, ← Int.sub_eq_add_neg] at h
    exact ⟨_, hstep, h⟩
  · obtain ⟨hne, hd⟩ := quadPos_double _ hmove
    obtain ⟨e, z, he⟩ := quadEdge_double (s := s) (n := n) (τ := τ) (y := y) hp hne hd
    refine ⟨_, hstep.trans (congrArg Host.Outcome.next he), ?_, ?_, ?_, rfl⟩
    · rw [rd_addSat_ne _ _ (port_key_ne n 0 8 rfl rfl (by decide))]
      exact (rd_addSat_ne _ _ (port_key_ne n 0 7 rfl rfl (by decide))).trans (accepted_rd (j := 0) rfl (by decide))
    · have hu : (({ ((s.accepted n τ sensed y).setPort n z).addSat (EP.FCNT0_DOUBLE_STEP n) 1 with events := e } : State)).rd (EP.UNC n) =
          s.rd (EP.UNC n) := (rd_addSat_ne _ _ (port_key_ne n 8 7 rfl rfl (by decide))).trans (accepted_rd (j := 8) rfl (by decide))
      rw [rd_addSat_same, hu]
      exact Nat.min_eq_left (Nat.le_sub_one_of_lt hunc)
    · have hf : (s.accepted n τ sensed y).rd (EP.FCNT0_DOUBLE_STEP n) = s.rd (EP.FCNT0_DOUBLE_STEP n) := accepted_rd (j := 7) rfl (by decide)
      rw [rd_addSat_ne _ _ (port_key_ne n 7 8 rfl rfl (by decide))]
      refine (rd_addSat_same ((s.accepted n τ sensed y).setPort n z) _ _).trans ?_
      show min ((s.accepted n τ sensed y).rd (EP.FCNT0_DOUBLE_STEP n) + 1) _ = _
      rw [hf]
      exact Nat.min_eq_left (Nat.le_sub_one_of_lt hcnt)

/-! ### Serial readings (R43 to R46, R57) -/

section

variable {n : Fin 8} {raw : BitVec 40} {errs : BitVec 2} {crc : BitVec 6} {τ start : Nat} {s : State}

theorem serialReadingStart_starts (hmode : s.portMode n = 4 ∨ s.portMode n = 5) (hidle : (s.port n).reading = none)
    (hdue : (s.port n).readAt = none ∨ ∃ a, (s.port n).readAt = some a ∧ a + 1000 * max 2 (min 10000 (s.cfg (EP.SER2_PERIOD n))) ≤ τ ∧
      ((s.port n).readEnd ≤ a + 1000 * max 2 (min 10000 (s.cfg (EP.SER2_PERIOD n))) ∨ (s.port n).readEnd + 1000 ≤ τ)) :
    Answers (exec (.serialReadingStart n τ) s) fun t =>
      (t.port n).reading = some τ ∧ (t.port n).readAt = some τ ∧ (∀ k, k ≠ n.val → t.port k = s.port k) ∧
      { t with now := s.now, ports := s.ports } = s := by
  have hmode' : (s.portMode n == 4 || s.portMode n == 5) = true := by simpa using hmode
  have hstep : exec (.serialReadingStart n τ) s = .next ((s.at τ).setPort n { s.port n with reading := some τ, readAt := some τ }) := by
    show execSerialReadingStart n τ s = _
    unfold execSerialReadingStart
    extract_lets x ready
    refine congrArg Host.Outcome.next (if_pos ?_)
    obtain hnone | ⟨a, ha, hper, hend⟩ := hdue
    · simp only [ready, x, hmode', hidle, hnone, Option.isNone_none, Option.elim_none, Bool.and_self]
    · rw [Nat.mul_comm] at hper hend
      have hper' : a + s.serPeriod n ≤ τ := hper
      have hend' : (s.port n).readEnd ≤ a + s.serPeriod n ∨ (s.port n).readEnd + 1000 ≤ τ := hend
      have hor : (decide ((s.port n).readEnd ≤ a + s.serPeriod n) || decide ((s.port n).readEnd + 1000 ≤ τ)) = true := by
        simpa using hend'
      simp only [ready, x, hmode', hidle, ha, Option.isNone_none, Option.elim_some, hper', decide_true, Bool.true_and, hor]
  have hport : ((s.at τ).setPort n { s.port n with reading := some τ, readAt := some τ }).port n =
      { s.port n with reading := some τ, readAt := some τ } := port_setPort _ _ _
  exact ⟨_, hstep, by rw [hport], by rw [hport], fun k hk => port_setPort_ne (s.at τ) _ hk, rfl⟩

theorem serialReadingStart_early {a : Nat} (ha : (s.port n).readAt = some a)
    (hearly : τ < a + 1000 * max 2 (min 10000 (s.cfg (EP.SER2_PERIOD n)))) : exec (.serialReadingStart n τ) s = .next s := by
  show execSerialReadingStart n τ s = _
  unfold execSerialReadingStart
  extract_lets x ready
  refine congrArg Host.Outcome.next (if_neg ?_)
  rw [Nat.mul_comm] at hearly
  have hnot : ¬a + s.serPeriod n ≤ τ := Nat.not_le_of_lt hearly
  simp only [ready, x, ha, Option.elim_some, hnot, decide_false, Bool.false_and, Bool.and_false, Bool.false_eq_true, not_false_eq_true]

/-- A good reading of position `v`, before its counts. -/
def State.readingTaken (s : State) (n v : Nat) : State :=
  ((s.setPort n { s.port n with serErr := 0 }).wr (EP.SERDATA_DATA n) v).setPort n { s.port n with serErr := 0, serPrev := some v }

/-- A good reading of a port without faults: the count moves by the difference from the previous one. -/
theorem serialGood_eq {n v t : Nat} (hopen : s.rd (EP.STAT_OPEN n) = 0) (htrip : s.rd (EP.PWR_TRIP n) = 0)
    (hok : s.rd (EP.STAT_FAULTED n) = 0) (hp : s.apart n) :
    s.serialGood n t v = (match (s.port n).serPrev with
      | none => s.readingTaken n v
      | some q => if sint (s.serBits n) (v + 2 ^ s.serBits n - q) = 0 then s.readingTaken n v
        else (s.readingTaken n v).portStep n t ((s.readingTaken n v).signed n (sint (s.serBits n) (v + 2 ^ s.serBits n - q)))) := by
  let s1 := (s.setPort n { s.port n with serErr := 0 }).wr (EP.SERDATA_DATA n) v
  have hport1 : s1.port n = { s.port n with serErr := 0 } := port_setPort s n _
  have hfault : s1.portFault n t = s1 := by
    have ho : s1.rd (EP.STAT_OPEN n) = 0 := (rd_wr_ne _ _ (port_key_ne n 5 11 rfl rfl (by decide))).trans hopen
    have ht : s1.rd (EP.PWR_TRIP n) = 0 := (rd_wr_ne _ _ (port_key_ne n 12 11 rfl rfl (by decide))).trans htrip
    have hf : s1.rd (EP.STAT_FAULTED n) = 0 := (rd_wr_ne _ _ (port_key_ne n 3 11 rfl rfl (by decide))).trans hok
    have hcond : s1.faultCond n = s1.portFaulted n := by
      simp [State.faultCond, State.portFaulted, State.is, ho, ht, hf, hport1]
    exact if_pos hcond
  have hpu : (s.readingTaken n v).apart n := hp.of_active rfl
  have htaken : s1.setPort n { s1.port n with serPrev := some v } = s.readingTaken n v := by rw [hport1]; rfl
  unfold State.serialGood
  extract_lets b _ s1' prev src s2
  have hs1 : s1' = s1 := hfault
  have hprev : prev = (s.port n).serPrev := by simp only [prev, hs1, hport1]
  have hs2 : s2 = s.readingTaken n v := by rw [← htaken]; simp only [s2, src, hs1]
  rw [hprev, hs2]
  cases (s.port n).serPrev with
  | none => rfl
  | some q =>
    dsimp only
    split
    · rfl
    · exact hpu.countedStep_eq t _

theorem readingTaken_spec (s : State) (n v : Nat) :
    (s.readingTaken n v).rd (EP.SERDATA_DATA n) = v % 2 ^ (EP.SERDATA_DATA n).w ∧
    (s.readingTaken n v).rd (EP.COUNT n) = s.rd (EP.COUNT n) ∧
    (s.readingTaken n v).port n = { s.port n with serErr := 0, serPrev := some v } ∧ OnlyPorts s (s.readingTaken n v) :=
  ⟨rd_wr_same (s.setPort n _) _ _, rd_wr_ne (s.setPort n _) _ (port_key_ne n 0 11 rfl rfl (by decide)), port_setPort _ _ _, rfl⟩

/-- The state in which an SSI reading has ended. -/
def State.readingEnded (s : State) (n τ : Nat) : State := (s.at τ).setPort n { s.port n with reading := none, readEnd := τ }

/-- A good SSI reading in binary with no status bits reaches `serialGood`. -/
theorem serialReading_ssi (hmode : s.portMode n = 4) (hreading : (s.port n).reading = some start)
    (herr : s.cfg (EP.SER_ERRBITS n) = 0) (hgray : s.cfg (EP.SER_GRAY n) = 0)
    (hend : start + 2 * s.serHalf n * s.serBits n + s.serTimeout n ≤ τ) :
    exec (.serialReading n true raw errs crc τ) s =
      .next ((s.readingEnded n τ).serialGood n (start - s.cfg (EP.SLAT n)) (raw.toNat % 2 ^ s.serBits n)) := by
  show execSerialReading n true raw errs crc τ s = _
  have hdue : ¬τ < s.serEnd n start true := by
    have he : s.serEnd n start true = start + 2 * s.serHalf n * s.serBits n + s.serTimeout n := by
      simp [State.serEnd, hmode, herr]
    rw [he]
    exact Nat.not_lt.mpr hend
  have hbin : s.on (EP.SER_GRAY n) = false := by simp [State.on, hgray]
  unfold execSerialReading
  simp only [hreading, hdue, hmode, herr, hbin, if_true, if_false, Bool.true_eq_false, Bool.false_eq_true, Nat.min_zero,
    Nat.pow_zero, Nat.mod_one, ne_eq, not_true_eq_false, or_self]
  rfl

end

/-- Settles O30: starts by the row's condition, readings through `serialGood_eq`. -/
theorem serialReadingsGivePositions : Obligations.SerialReadingsGivePositions := by
  unfold Obligations.SerialReadingsGivePositions
  intro n raw errs crc τ start s hnone b v period half monoflop
  have hp := apart_of_noAxis hnone
  refine ⟨fun hmode hidle hdue => serialReadingStart_starts hmode hidle hdue, fun a ha hearly => serialReadingStart_early ha hearly,
    fun hmode hreading herr hgray hend hopen htrip hok => ?_⟩
  have hmono : s.serTimeout n = monoflop := Nat.mul_comm _ _
  have hstep := serialReading_ssi (raw := raw) (errs := errs) (crc := crc) hmode hreading herr hgray (hmono ▸ hend)
  let s1 := s.readingEnded n τ
  have hport1 : s1.port n = { s.port n with reading := none, readEnd := τ } := port_setPort (s.at τ) n _
  have hp1 : s1.apart n := hp.of_active rfl
  obtain ⟨hdata, hcount, hport, honly⟩ := readingTaken_spec s1 n v
  rw [show (s.readingEnded n τ).serialGood n _ _ = _ from serialGood_eq (s := s1) hopen htrip hok hp1] at hstep
  have hprev1 : (s1.port n).serPrev = (s.port n).serPrev := by rw [hport1]
  rw [show (s.readingEnded n τ).port n = s1.port n from rfl, hprev1] at hstep
  have honly1 : OnlyPorts s (s1.readingTaken n v) := onlyPorts_trans (show OnlyPorts s s1 from rfl) honly
  cases hprev : (s.port n).serPrev with
  | none =>
    rw [hprev] at hstep
    refine ⟨_, hstep, hdata, ?_, ?_, ?_, honly1, fun _ => hcount, fun q hq => by cases hq⟩
    · exact congrArg Port.serPrev hport
    · exact congrArg Port.serErr hport
    · exact (congrArg Port.reading hport).trans (by rw [hport1])
  | some q =>
    rw [hprev] at hstep
    dsimp only at hstep
    let d := sint b (v + 2 ^ b - q)
    by_cases hd : d = 0
    · refine ⟨_, hstep.trans (congrArg Host.Outcome.next (if_pos hd)), hdata, ?_, ?_, ?_, honly1, fun h => (by cases h), fun q' hq' _ hlt => ?_⟩
      · exact congrArg Port.serPrev hport
      · exact congrArg Port.serErr hport
      · exact (congrArg Port.reading hport).trans (by rw [hport1])
      · cases hq'
        intro d'
        have hd0 : d' = 0 := hd
        refine (congrArg Nat.cast hcount).trans ?_
        rw [hd0, neg_zero, ite_self, add_zero]
        exact (Int.emod_eq_of_lt (Int.natCast_nonneg _) (by exact_mod_cast hlt)).symm
    · obtain ⟨hcnt, _, hkeep, hsp, hse, hrd, hstepOnly⟩ := portStep_spec (s1.readingTaken n v) n (start - s.cfg (EP.SLAT n))
        ((s1.readingTaken n v).signed n d)
      refine ⟨_, hstep.trans (congrArg Host.Outcome.next (if_neg hd)), ?_, ?_, ?_, ?_, onlyPorts_trans honly1 hstepOnly, fun h => (by cases h), fun q' hq' _ hlt => ?_⟩
      · exact (hkeep _ (step_notMem n 11 _ rfl (by decide))).trans hdata
      · exact hsp.trans (congrArg Port.serPrev hport)
      · exact hse.trans (congrArg Port.serErr hport)
      · exact hrd.trans ((congrArg Port.reading hport).trans (by rw [hport1]))
      · cases hq'
        intro d'
        refine (congrArg Nat.cast hcnt).trans ?_
        refine (count_moved _ _).trans ?_
        rw [hcount]
        rfl

end Sys2Proof.Machine

end

section

/-! SUPPORT. What moving items through flues leaves alone: engines, and the registers of other units,
those of the clusters among them (R214 to R223). -/

namespace Sys2Proof.Machine

/-- Where the registers of delivery, of the check units and of the memories lie. -/
def AsideKey (k : Nat) : Prop :=
  (2 ^ 22 ≤ k ∧ k < 0x30000 * 32) ∨ (0xC0000 * 32 ≤ k ∧ k < 0xD0000 * 32) ∨ (0xE0000 * 32 ≤ k ∧ k < 0xF0000 * 32)

theorem not_asideKey_of_le {k : Nat} (h : 2 ^ 25 ≤ k) : ¬AsideKey k := by
  unfold AsideKey
  omega

/-- From `s` to `t` only what flues, deliveries, check units, memory errors and events own has changed. -/
structure Aside (s t : State) : Prop where
  regs : ∀ f : Fld, ¬AsideKey f.key → t.rd f = s.rd f
  rest : { t with
    freeCount := s.freeCount, regs := s.regs, w1cSet := s.w1cSet, mems := s.mems, events := s.events, coal := s.coal,
    msixPend := s.msixPend, msixSent := s.msixSent, memu := s.memu, graph := s.graph, chk := s.chk, dlv := s.dlv,
    diag := s.diag } = s
  graph : { t.graph with flues := s.graph.flues, nodes := s.graph.nodes, stopped := s.graph.stopped } = s.graph
  claims : ∀ k, (AMap.get {} s.graph.flues k : Flue).claimed ≤ (AMap.get {} t.graph.flues k : Flue).claimed

theorem Aside.refl (s : State) : Aside s s := ⟨fun _ _ => rfl, rfl, rfl, fun _ => le_rfl⟩

theorem Aside.trans {s t u : State} (h : Aside s t) (h' : Aside t u) : Aside s u where
  regs f hf := (h'.regs f hf).trans (h.regs f hf)
  rest := by
    have := congrArg (fun x : State => { x with
      freeCount := s.freeCount, regs := s.regs, w1cSet := s.w1cSet, mems := s.mems, events := s.events, coal := s.coal,
      msixPend := s.msixPend, msixSent := s.msixSent, memu := s.memu, graph := s.graph, chk := s.chk, dlv := s.dlv,
      diag := s.diag }) h'.rest
    exact this.trans h.rest
  graph := by
    have := congrArg (fun x : GraphUnit => { x with flues := s.graph.flues, nodes := s.graph.nodes, stopped := s.graph.stopped }) h'.graph
    exact this.trans h.graph
  claims k := (h.claims k).trans (h'.claims k)

theorem Aside.engines {s t : State} (h : Aside s t) : t.engines = s.engines := by
  have := congrArg State.engines h.rest
  exact this

theorem Aside.eng {s t : State} (h : Aside s t) (g : Nat) : t.eng g = s.eng g := by rw [State.eng, h.engines]; rfl

theorem Aside.now {s t : State} (h : Aside s t) : t.now = s.now := by
  have := congrArg State.now h.rest
  exact this

/-- A memory in which flues lie. -/
def MemId.shared (m : MemId) : Prop := m = .gddr ∨ ∃ c, c < 16 ∧ m = .sram c

theorem shared_mem (d : GFlue) : d.mem.shared := by
  unfold GFlue.mem MemId.shared
  split
  next h => exact Or.inr ⟨_, h, rfl⟩
  · exact Or.inl rfl

theorem channelOf_lt (a : Nat) : channelOf a < 4 := by
  have hmod : ∀ x : Nat, x % 4 < 2 ^ 2 := fun x => Nat.mod_lt x (by decide)
  exact Nat.xor_lt_two_pow (Nat.xor_lt_two_pow (hmod _) (hmod _)) (hmod _)

theorem gddrChannel_lt (s : State) (a : Nat) : s.gddrChannel a < 4 := by
  unfold State.gddrChannel
  split <;> exact channelOf_lt _

theorem region_lt {m : MemId} (hm : m.shared) (s : State) (a : Nat) : s.region m a < 20 := by
  obtain rfl | ⟨c, hc, rfl⟩ := hm
  · exact (gddrChannel_lt s a).trans (by decide)
  · simp only [State.region]; omega

/-- Every place of the memory lies in a region with counters of its own. -/
def MemId.charted (m : MemId) : Prop := ∀ (s : State) (a : Nat), s.region m a < 64

theorem charted_of_shared {m : MemId} (hm : m.shared) : m.charted := fun s a => (region_lt hm s a).trans (by decide)

theorem charted_line {n : Nat} (hn : n < 24) : (MemId.line n).charted := fun _ _ => by
  simp only [State.region]
  omega

section

variable {s t : State} (h : Aside s t)
include h

/-! ### Parts of the state -/

theorem Aside.wr {f : Fld} (v : Nat) (hf : AsideKey f.key) : Aside s (t.wr f v) :=
  h.trans ⟨fun _ hg => rd_wr_ne t v fun hkey => hg (hkey ▸ hf), rfl, rfl, fun _ => le_rfl⟩

theorem Aside.addSat {f : Fld} (k : Nat) (hf : AsideKey f.key) : Aside s (t.addSat f k) := h.wr _ hf

theorem Aside.set1 {f : Fld} (hf : AsideKey f.key) : Aside s (t.set1 f) :=
  h.trans ⟨fun g hg => rd_wr_ne (s := t) (f := f) (g := g) _ fun hkey => hg (hkey ▸ hf), rfl, rfl, fun _ => le_rfl⟩

theorem Aside.events (x : EventUnit) : Aside s { t with events := x } := h.trans ⟨fun _ _ => rfl, rfl, rfl, fun _ => le_rfl⟩
theorem Aside.used : Aside s t.used := h.trans ⟨fun _ _ => rfl, rfl, rfl, fun _ => le_rfl⟩
theorem Aside.mems (x : Mems) : Aside s { t with mems := x } := h.trans ⟨fun _ _ => rfl, rfl, rfl, fun _ => le_rfl⟩
theorem Aside.coal (x : AMap Coal) : Aside s { t with coal := x } := h.trans ⟨fun _ _ => rfl, rfl, rfl, fun _ => le_rfl⟩
theorem Aside.setMemu (x : MemUnit) : Aside s (t.setMemu x) := h.trans ⟨fun _ _ => rfl, rfl, rfl, fun _ => le_rfl⟩
theorem Aside.setChk (n : Nat) (x : ChkUnit) : Aside s (t.setChk n x) := h.trans ⟨fun _ _ => rfl, rfl, rfl, fun _ => le_rfl⟩
theorem Aside.setDq (q : Nat) (x : DQueue) : Aside s (t.setDq q x) := h.trans ⟨fun _ _ => rfl, rfl, rfl, fun _ => le_rfl⟩
theorem Aside.diag (x : DiagUnit) : Aside s { t with diag := x } := h.trans ⟨fun _ _ => rfl, rfl, rfl, fun _ => le_rfl⟩
theorem Aside.dlv (x : Deliv) : Aside s { t with dlv := x } := h.trans ⟨fun _ _ => rfl, rfl, rfl, fun _ => le_rfl⟩
theorem Aside.capMark : Aside s t.capMark := h.dlv _
theorem Aside.setFlue (gen i : Nat) (x : Flue) (hx : (t.flue gen i).claimed ≤ x.claimed) : Aside s (t.setFlue gen i x) := by
  refine h.trans ⟨fun _ _ => rfl, rfl, rfl, fun k => ?_⟩
  by_cases hk : k = 128 * gen + i
  · subst hk
    exact hx.trans_eq (congrArg Flue.claimed (amap_get_set_same _ _ _ _)).symm
  · exact (congrArg Flue.claimed (amap_get_set_ne _ _ _ hk)).ge

theorem Aside.setGnode (gen k : Nat) (x : Node) : Aside s (t.setGnode gen k x) := h.trans ⟨fun _ _ => rfl, rfl, rfl, fun _ => le_rfl⟩

theorem Aside.raiseBy (j : List Nat → List Nat → List Nat × List Nat) (code idx τ : Nat) (v : List Nat) :
    Aside s (t.raiseBy j code idx τ v) := by
  unfold State.raiseBy
  split
  · exact h.events _
  · exact h

theorem Aside.raise (code idx : Nat) (v : List Nat) : Aside s (t.raise code idx v) := h.raiseBy ..
theorem Aside.raiseFirst (code idx : Nat) (v : List Nat) : Aside s (t.raiseFirst code idx v) := h.raiseBy ..
theorem Aside.graphEvent (code idx gen : Nat) : Aside s (t.graphEvent code idx gen) := h.raise ..

theorem Aside.foldl {α : Type} {f : State → α → State} {l : List α} (hf : ∀ u, Aside s u → ∀ x ∈ l, Aside s (f u x)) :
    Aside s (l.foldl f t) := List.foldlRecOn (motive := Aside s) l f h fun u hu x hx => hf u hu x hx

omit h in
theorem Aside.ite {c : Prop} [Decidable c] {a b : State} (ha : Aside s a) (hb : Aside s b) : Aside s (if c then a else b) := by
  split
  · exact ha
  · exact hb

omit h in
theorem Aside.ite_fst {α : Type} {c : Prop} [Decidable c] {a b : State × α} (ha : Aside s a.1) (hb : Aside s b.1) :
    Aside s (if c then a else b).1 := by
  split
  · exact ha
  · exact hb

/-! ### Memory errors (R257 to R262) -/

theorem Aside.memCorrect {r : Nat} (hr : r < 64) (k : Nat) : Aside s (t.memCorrect r k) := by
  have hkey : AsideKey (MEMR.CE r).key ∧ AsideKey (MEMR.BKT_LEVEL r).key ∧ AsideKey (MEMR.LEAK_OVF_STKY r).key := by
    simp only [AsideKey, MEMR.CE, MEMR.BKT_LEVEL, MEMR.LEAK_OVF_STKY, Fld.key]
    omega
  obtain ⟨hce, hbkt, hovf⟩ := hkey
  induction k with
  | zero => exact h
  | succ k ih =>
    unfold State.memCorrect
    extract_lets s0 s1
    have hs1 : Aside s s1 := (ih.addSat 1 hce).addSat 1 hbkt
    split
    · exact ((hs1.wr 0 hbkt).set1 hovf).raise ..
    · exact hs1

theorem Aside.autoAsk (kind i : Nat) : Aside s (t.autoAsk kind i) := by
  unfold State.autoAsk
  split
  · exact h
  · exact h.diag _

theorem Aside.ueWatch (r : Nat) : Aside s (t.ueWatch r) := by
  unfold State.ueWatch
  extract_lets ch cl xs full _ s1
  have hs1 : Aside s s1 := h.diag _
  split_ifs
  · exact h
  · exact hs1.autoAsk ..
  · exact hs1.autoAsk ..
  · exact hs1

theorem Aside.memUe {r : Nat} (hr : r < 64) (a : Nat) : Aside s (t.memUe r a) :=
  ((h.addSat 1 (by simp only [AsideKey, MEMR.UE, Fld.key]; omega)).raiseFirst ..).ueWatch r

theorem Aside.meetWord {m : MemId} (hm : m.charted) (k : Nat) : Aside s (t.meetWord m k).1 := by
  have hr : ∀ a, t.region m a < 64 := hm t
  unfold State.meetWord
  extract_lets a r u
  split
  · exact h
  · split_ifs
    · exact (h.setMemu _).memCorrect (hr _) 1
    · exact (h.setMemu _).memCorrect (hr _) 1
    · exact (h.setMemu _).memUe (hr _) a

theorem Aside.meetWords {m : MemId} (hm : m.charted) (ks : List Nat) : Aside s (t.meetWords m ks).1 := by
  have hfold : ∀ (ks : List Nat) (x : State × Bool), Aside s x.1 →
      Aside s (ks.foldl (fun x k => let y := x.1.meetWord m k; (y.1, x.2 || y.2)) x).1 := by
    intro ks
    induction ks with
    | nil => exact fun _ hx => hx
    | cons k ks ih => exact fun x hx => ih _ (Aside.meetWord hx hm k)
  exact hfold ks (t, false) h

theorem Aside.meetPart {m : MemId} (hm : m.charted) (a n : Nat) : Aside s (t.meetPart m a n) := by
  unfold State.meetPart
  split
  · exact h
  · exact h.meetWords hm _

theorem Aside.memPut (m : MemId) (a : Nat) (bs : List Nat) : Aside s (t.memPut m a bs) := by
  unfold State.memPut
  split
  · exact h.mems _
  · exact h.mems _
  · exact h.mems _
  · exact h.mems _
  · exact h

theorem Aside.cleanWords (m : MemId) (a n : Nat) : Aside s (t.cleanWords m a n) := by
  unfold State.cleanWords
  extract_lets lo hi
  split
  · exact h
  · exact h.setMemu _

theorem Aside.crcCheck (m : MemId) (a n : Nat) : Aside s (t.crcCheck m a n).1 := by
  unfold State.crcCheck
  split
  · exact h
  · refine List.foldlRecOn (motive := fun x : State × List Nat => Aside s x.1) _ _ h fun x hx ch hch => ?_
    have hr : ch < 64 := lt_trans (List.mem_range.mp hch) (by decide)
    dsimp only
    split
    · exact hx
    · split
      · exact (hx.setMemu _).memCorrect hr _
      · exact ((hx.setMemu _).memCorrect hr _).setMemu _

theorem Aside.times {f : State → State} (hf : ∀ u, Aside s u → Aside s (f u)) (k : Nat) : Aside s (t.times f k) := by
  induction k generalizing t with
  | zero => exact h
  | succ k ih => exact ih (hf t h)

theorem Aside.injWrite (m : MemId) (a n : Nat) : Aside s (t.injWrite m a n) := by
  unfold State.injWrite
  split
  · exact h
  · split
    · exact h
    · exact (h.setMemu _).times (fun _ hu => hu.used) 3

theorem Aside.memWriteTo {m : MemId} (hm : m.charted) (a : Nat) (bs : List Nat) : Aside s (t.memWrite m a bs) := by
  unfold State.memWrite
  split
  · exact h
  · exact ((((((h.meetPart hm ..).memPut ..).cleanWords ..).crcCheck ..).meetWords hm _).injWrite ..)

theorem Aside.memWrite {m : MemId} (hm : m.shared) (a : Nat) (bs : List Nat) : Aside s (t.memWrite m a bs) :=
  h.memWriteTo (charted_of_shared hm) a bs

/-! ### Delivery (R291, R305, R311, R317) -/

theorem Aside.hostWrite (a : Nat) (bs : List Nat) : Aside s (t.hostWrite a bs) := h.mems _
theorem Aside.lowWrite (n : Nat) : Aside s (t.lowWrite n) := h.trans ⟨fun _ _ => rfl, rfl, rfl, fun _ => le_rfl⟩

theorem Aside.msixSend (v : Nat) : Aside s (t.msixSend v) := by
  unfold State.msixSend
  split
  · exact h.trans ⟨fun _ _ => rfl, rfl, rfl, fun _ => le_rfl⟩
  · exact h.trans ⟨fun _ _ => rfl, rfl, rfl, fun _ => le_rfl⟩

theorem Aside.signal (k : Nat) : Aside s (t.signal k) := by
  unfold State.signal
  extract_lets c
  split
  · exact (h.coal _).msixSend _
  · exact h.coal _

end

theorem dq_key_lt {q : Nat} (hq : q < 64) :
    AsideKey (DQ.PTR_DONE q).key ∧ AsideKey (DQ.PTR_RESV q).key ∧ AsideKey (DQ.CREDIT q).key ∧ AsideKey (DQ.STAT_INFLIGHT q).key ∧
    AsideKey (DQ.BUCKET_LEVEL q).key ∧ AsideKey (DQ.BYTES_LO_BYTES q).key ∧ AsideKey (DQ.BYTES_HI_BYTES q).key ∧
    AsideKey (DQ.WORST q).key ∧ AsideKey (DQ.NLATE q).key ∧ AsideKey (DQ.STAT_STATE q).key := by
  simp only [AsideKey, DQ.PTR_DONE, DQ.PTR_RESV, DQ.CREDIT, DQ.STAT_INFLIGHT, DQ.BUCKET_LEVEL, DQ.BYTES_LO_BYTES,
    DQ.BYTES_HI_BYTES, DQ.WORST, DQ.NLATE, DQ.STAT_STATE, Fld.key]
  omega

section

variable {s t : State} (h : Aside s t) {q : Nat} (hq : q < 64)
include h hq

theorem Aside.dqShow : Aside s (t.dqShow q) := by
  obtain ⟨hdone, hresv, hcredit, hin, _⟩ := dq_key_lt hq
  exact (((h.wr _ hdone).wr _ hresv).wr _ hcredit).wr _ hin

theorem Aside.putDq (x : DQueue) : Aside s (t.putDq q x) := (h.setDq q x).dqShow hq

theorem Aside.compWrite (c : DComp) : Aside s (t.compWrite q c) := by
  unfold State.compWrite
  extract_lets x size base phase s1 s2
  have hs2 : Aside s s2 := ((h.hostWrite ..).putDq hq _).signal q
  split
  · exact hs2.lowWrite _
  · exact hs2

theorem Aside.compFlush (k : Nat) : Aside s (t.compFlush q k) := by
  induction k generalizing t with
  | zero => exact h
  | succ k ih =>
    unfold State.compFlush
    split
    · exact h
    · split
      · exact ih (h.compWrite hq _)
      · exact h

theorem Aside.complete (c : DComp) : Aside s (t.complete q c) := (h.setDq q _).compFlush hq _

theorem Aside.bucketBack (n : Nat) : Aside s (t.bucketBack q n) := by
  obtain ⟨_, _, _, _, hbucket, _⟩ := dq_key_lt hq
  exact (h.setDq q _).wr _ hbucket

theorem Aside.endItem (i : DItem) (status flags plen : Nat) : Aside s (t.endItem q i status flags plen) := by
  obtain ⟨_, _, _, _, _, hlo, hhi, hworst, hlate, _⟩ := dq_key_lt hq
  unfold State.endItem
  extract_lets actual late len s0 s1 s2 _ s3 bytes s4 s5 s6 s7
  have hs2 : Aside s s2 := by
    have hs1 : Aside s s1 := (h.hostWrite ..).setDq q _
    unfold s2
    split
    · exact hs1.bucketBack hq _
    · exact hs1
  have hs3 : Aside s s3 := by
    refine Aside.setDq ?_ q _
    split
    · exact hs2.used
    · exact hs2
  have hs5 : Aside s s5 := by
    have hs4 : Aside s s4 := (hs3.wr _ hlo).wr _ hhi
    unfold s5
    split
    · exact hs4.wr _ hworst
    · exact hs4
  have hs6 : Aside s s6 := by
    unfold s6
    split
    · exact (hs5.addSat 1 hlate).raise ..
    · exact hs5
  have hs7 : Aside s s7 := by
    unfold s7
    split
    · exact hs6.lowWrite _
    · exact hs6
  exact (hs7.complete hq _).dqShow hq

theorem Aside.endIncomplete : Aside s (t.endIncomplete q) :=
  h.foldl fun _ hu _ _ => (hu.hostWrite ..).endItem hq ..

theorem Aside.suspend (cause : Nat) : Aside s (t.suspend q cause) := by
  obtain ⟨_, _, _, _, _, _, _, _, _, hstate⟩ := dq_key_lt hq
  unfold State.suspend
  split
  · exact (h.wr _ hstate).raise ..
  · exact h

end

/-! ### Watermarks and check units (R231, R312) -/

section

variable {s t : State} (h : Aside s t)
include h

theorem Aside.wmEval1 {m : Nat} (hm : m < 4) : Aside s (t.wmEval1 m) := by
  have hkey : AsideKey (DLV.WM_STAT_LIVE m).key ∧ AsideKey (DLV.WM_STAT_STKY m).key ∧ AsideKey (DLV.WM_STAT_CROSS m).key := by
    simp only [AsideKey, DLV.WM_STAT_LIVE, DLV.WM_STAT_STKY, DLV.WM_STAT_CROSS, Fld.key]
    omega
  obtain ⟨hlive, hstky, hcross⟩ := hkey
  unfold State.wmEval1
  extract_lets v inv hi lo live
  exact .ite h (.ite ((((h.wr _ hlive).set1 hstky).wr _ hcross).raise ..) (.ite ((h.wr _ hlive).raise ..) h))

theorem Aside.wmEval : Aside s t.wmEval :=
  (((h.wmEval1 (by decide)).wmEval1 (by decide)).wmEval1 (by decide)).wmEval1 (by decide)

theorem Aside.chkShow {n : Nat} (hn : n < 16) : Aside s (t.chkShow n) :=
  h.wr _ (by simp only [AsideKey, CHK.RESULT, Fld.key]; omega)

theorem Aside.chkLatch {n : Nat} (hn : n < 16) : Aside s (t.chkLatch n) := h.wr _ (by simp only [AsideKey, CHK.LAST, Fld.key]; omega)

theorem Aside.chkLoad {n : Nat} (hn : n < 16) : Aside s (t.chkLoad n) :=
  ((h.wr _ (by simp only [AsideKey, CHK.VALUE, Fld.key]; omega)).wr 0 (by simp only [AsideKey, CHK.COUNT, Fld.key]; omega)).chkShow hn

theorem Aside.chkAbsorb {n : Nat} (hn : n < 16) (bs : List Nat) : Aside s (t.chkAbsorb n bs) := by
  unfold State.chkAbsorb
  extract_lets u
  split
  · exact h
  · split
    · exact h
    · exact (((h.setChk n _).wr _ (by simp only [AsideKey, CHK.VALUE, Fld.key]; omega)).addSat _ (by
        simp only [AsideKey, CHK.COUNT, Fld.key]; omega)).chkShow hn

theorem Aside.chkItem (gen f : Nat) (mid : Bool) (bytes : List Nat) (rec : Bool) {n : Nat} (hn : n < 16) :
    Aside s (t.chkItem gen f mid bytes rec n).1 := by
  unfold State.chkItem
  split
  · exact h
  · extract_lets u held named mode reset s1 v
    have hs1 : Aside s s1 := by
      unfold s1
      split
      · exact (((h.chkLatch hn).setChk n _).setChk n _).chkLoad hn
      · exact h
    exact .ite_fst hs1 (.ite_fst (hs1.chkLatch hn) (hs1.chkAbsorb hn _))

theorem Aside.checkItem (gen i seq : Nat) (rec : Bool) : Aside s (t.checkItem gen i seq rec) := by
  unfold State.checkItem
  split
  · exact h
  · refine h.foldl fun u hu n hn => ?_
    have hitem := fun mid bytes => hu.chkItem gen i mid bytes rec (List.mem_range.mp hn)
    dsimp only
    split
    · exact (hitem _ _).memWrite (shared_mem _) _ _
    · exact hitem _ _

end

section

variable (s : State)

theorem graph_raiseBy (j : List Nat → List Nat → List Nat × List Nat) (code idx τ : Nat) (v : List Nat) :
    (s.raiseBy j code idx τ v).graph = s.graph := by
  unfold State.raiseBy
  split <;> rfl

theorem graph_memCorrect (r k : Nat) : (s.memCorrect r k).graph = s.graph := by
  induction k with
  | zero => rfl
  | succ k ih =>
    unfold State.memCorrect
    extract_lets s0 s1
    split
    · exact (graph_raiseBy _ _ _ _ _ _).trans ih
    · exact ih

theorem graph_ueWatch (r : Nat) : (s.ueWatch r).graph = s.graph := by
  unfold State.ueWatch State.autoAsk
  extract_lets
  split_ifs <;> rfl

theorem graph_memUe (r a : Nat) : (s.memUe r a).graph = s.graph :=
  (graph_ueWatch _ _).trans (graph_raiseBy _ _ _ _ _ _)

theorem graph_meetWord (m : MemId) (k : Nat) : (s.meetWord m k).1.graph = s.graph := by
  unfold State.meetWord
  extract_lets
  split
  · rfl
  · split_ifs
    · exact graph_memCorrect _ _ _
    · exact graph_memCorrect _ _ _
    · exact graph_memUe _ _ _

theorem graph_meetWords (m : MemId) (ks : List Nat) : (s.meetWords m ks).1.graph = s.graph :=
  List.foldlRecOn (motive := fun x : State × Bool => x.1.graph = s.graph) ks _ rfl fun x hx k _ => (graph_meetWord x.1 m k).trans hx

theorem graph_meetPart (m : MemId) (a n : Nat) : (s.meetPart m a n).graph = s.graph := by
  unfold State.meetPart
  split
  · rfl
  · exact graph_meetWords _ _ _

theorem graph_memPut (m : MemId) (a : Nat) (bs : List Nat) : (s.memPut m a bs).graph = s.graph := by
  cases m <;> rfl

theorem graph_cleanWords (m : MemId) (a n : Nat) : (s.cleanWords m a n).graph = s.graph := by
  unfold State.cleanWords
  split <;> rfl

theorem graph_crcCheck (m : MemId) (a n : Nat) : (s.crcCheck m a n).1.graph = s.graph := by
  unfold State.crcCheck
  split
  · rfl
  · refine List.foldlRecOn (motive := fun x : State × List Nat => x.1.graph = s.graph) _ _ rfl fun x hx ch _ => ?_
    dsimp only
    split
    · exact hx
    · split
      · exact (graph_memCorrect _ _ _).trans hx
      · exact (graph_memCorrect _ _ _).trans hx

theorem graph_injWrite (m : MemId) (a n : Nat) : (s.injWrite m a n).graph = s.graph := by
  unfold State.injWrite
  split
  · rfl
  · split <;> rfl

/-- Writing a memory leaves the graph's flues and nodes. -/
theorem graph_memWrite (m : MemId) (a : Nat) (bs : List Nat) : (s.memWrite m a bs).graph = s.graph := by
  unfold State.memWrite
  split
  · rfl
  · exact (graph_injWrite _ _ _ _).trans ((graph_meetWords _ _ _).trans ((graph_crcCheck _ _ _ _).trans
      ((graph_cleanWords _ _ _ _).trans ((graph_memPut _ _ _ _).trans (graph_meetPart _ _ _ _)))))

theorem flue_memWrite (m : MemId) (a : Nat) (bs : List Nat) (gen i : Nat) : (s.memWrite m a bs).flue gen i = s.flue gen i := by
  rw [State.flue, graph_memWrite]
  rfl

end

section

variable {s t : State} (h : Aside s t)
include h

/-! ### Flues (R215 to R223) -/

theorem Aside.flueMarks (gen i : Nat) : Aside s (t.flueMarks gen i) := by
  unfold State.flueMarks
  extract_lets f d n s1
  refine Aside.wmEval ?_
  unfold s1
  split_ifs
  · exact (h.setFlue _ _ _ (by exact le_rfl)).graphEvent ..
  · exact h.setFlue _ _ _ (by exact le_rfl)
  · exact h

theorem Aside.flueFree (gen i seq : Nat) : Aside s (t.flueFree gen i seq) := (h.setFlue _ _ _ (by exact le_rfl)).flueMarks ..

theorem Aside.loseFrame (gen k num : Nat) : Aside s (t.loseFrame gen k num) := h.setGnode ..

theorem Aside.deal (gen i seq : Nat) (rec : Bool) (j : Nat) : Aside s (t.deal gen i seq rec j) := by
  unfold State.deal
  split
  extract_lets f x _ s1 k
  have hs1 : Aside s s1 := h.setFlue _ _ _ (by exact le_rfl)
  split
  · exact (hs1.loseFrame ..).graphEvent ..
  · exact hs1

theorem Aside.stampFault (gen i seq : Nat) : Aside s (t.stampFault gen i seq) := by
  unfold State.stampFault
  extract_lets d k p n l num a b
  split_ifs
  · exact h
  · exact (h.setGnode ..).memWrite (shared_mem _) _ _
  · exact h

theorem Aside.makeVisible (gen i seq : Nat) : Aside s (t.makeVisible gen i seq) := by
  unfold State.makeVisible
  extract_lets f x rec_ _ s1 s2 s2a _ s3 s4
  have hs2 : Aside s s2 := by
    unfold s2
    split
    · exact (h.setFlue _ _ _ (by exact le_rfl)).stampFault ..
    · exact h.setFlue _ _ _ (by exact le_rfl)
  have hs4 : Aside s s4 := Aside.foldl ((hs2.checkItem ..).setFlue _ _ _ (by exact le_rfl)) fun _ hu j _ => hu.deal ..
  split
  · exact hs4.flueFree ..
  · exact hs4

theorem Aside.flueShow (gen i fuel : Nat) : Aside s (t.flueShow gen i fuel) := by
  induction fuel generalizing t with
  | zero => exact h
  | succ fuel ih =>
    have hvis : ∀ x : Item, Aside s ((t.makeVisible gen i x.seq).flueShow gen i fuel) := fun x => ih (h.makeVisible ..)
    have hskip : ∀ f' : Flue, f'.claimed = (t.flue gen i).claimed → Aside s ((t.setFlue gen i f').flueShow gen i fuel) :=
      fun _ hf => ih (h.setFlue _ _ _ hf.ge)
    unfold State.flueShow
    extract_lets f hidden next
    clear_value next hidden
    split
    · split
      · cases next with
        | none => exact h
        | some x => exact hvis x
      · cases hidden with
        | nil => exact h
        | cons x _ => exact .ite (hvis x) h
    · extract_lets skip
      split
      · exact hskip _ rfl
      · split
        · split
          · exact ih ((h.makeVisible ..).setFlue _ _ _ (by exact le_rfl))
          · exact h
        · exact .ite (hskip _ rfl) h

theorem Aside.flueAdvance (gen i : Nat) : Aside s (t.flueAdvance gen i) := h.flueShow ..

theorem Aside.flueAppend (gen i seq : Nat) (bs : List Nat) : Aside s (t.flueAppend gen i seq bs) := by
  unfold State.flueAppend
  extract_lets f d x
  exact (h.memWrite (shared_mem _) ..).setFlue _ _ _ (congrArg Flue.claimed (flue_memWrite ..)).le

theorem Aside.flueClose (gen i seq : Nat) : Aside s (t.flueClose gen i seq) := by
  unfold State.flueClose
  extract_lets f x s1 g y
  exact ((h.flueAppend ..).setFlue _ _ _ (by exact le_rfl)).flueAdvance ..

theorem Aside.flueClaim (gen i len rank : Nat) : Aside s (t.flueClaim gen i len rank) := by
  unfold State.flueClaim
  extract_lets f d s1
  exact ((h.setFlue _ _ _ (Nat.le_succ _)).memWrite (shared_mem _) ..).flueMarks ..

theorem Aside.flueItem (gen i : Nat) (bs : List Nat) : Aside s (t.flueItem gen i bs) :=
  ((h.flueClaim ..).flueAppend ..).flueClose ..

theorem Aside.flueDiscard (gen i seq : Nat) : Aside s (t.flueDiscard gen i seq) := (h.flueFree ..).flueAdvance ..

theorem Aside.flueCatch (gen i : Nat) : Aside s (t.flueCatch gen i) := by
  unfold State.flueCatch
  split
  · exact h.flueAdvance ..
  · exact h

theorem Aside.flueFinish (gen i seq : Nat) (r : Nat × Nat) : Aside s (t.flueFinish gen i seq r) := by
  unfold State.flueFinish
  extract_lets f x left
  split
  · exact h.flueFree ..
  · exact h.setFlue _ _ _ (by exact le_rfl)

theorem Aside.outAdvance (gen k : Nat) : Aside s (t.outAdvance gen k) :=
  h.foldl fun u hu p _ => by
    dsimp only
    split
    · exact hu.flueAdvance ..
    · exact hu

/-! ### Ranks that fault (R205, R221, R222) -/

theorem Aside.dropReader (gen i j r k : Nat) (x : Item) : Aside s (t.dropReader gen i j r k x) := by
  unfold State.dropReader
  split
  · extract_lets f heir all
    split
    · exact h.flueFinish ..
    · exact h.setFlue _ _ _ (by exact le_rfl)
  · exact ((h.loseFrame ..).graphEvent ..).flueFinish ..

theorem Aside.dropRank (gen k r : Nat) : Aside s (t.dropRank gen k r) :=
  h.foldl fun u hu p _ => by
    dsimp only
    split
    · exact hu.foldl fun w hw x _ => hw.dropReader ..
    · exact hu

theorem Aside.graphFail (gen k : Nat) : Aside s (t.graphFail gen k) := by
  unfold State.graphFail
  extract_lets u s1
  have hstop : Aside s (t.setGraph { u with stopped := if u.stopped.contains gen then u.stopped else u.stopped ++ [gen] }) :=
    h.trans ⟨fun _ _ => rfl, rfl, rfl, fun _ => le_rfl⟩
  have hs1 : Aside s s1 := hstop.graphEvent 0x1407 k gen
  refine (hs1.foldl fun w hw q hq => ?_).wmEval
  have hlt : q < 64 := lt_trans (List.mem_range.mp hq) (by decide)
  split
  · exact (hw.suspend hlt _).endIncomplete hlt
  · exact hw

theorem Aside.rankFault (gen k r : Nat) : Aside s (t.rankFault gen k r) := by
  unfold State.rankFault
  extract_lets n recent s1 s2 s3 m s4 _ s5
  have hs3 : Aside s s3 := Aside.foldl ((h.setGnode ..).dropRank ..) fun u hu p _ => by
    dsimp only
    split
    · exact hu.flueAdvance ..
    · exact hu
  have hs5 : Aside s s5 := (((hs3.setGnode gen k _).graphEvent 0x1406 k gen).dlv _).capMark
  split_ifs
  · exact hs5.graphFail ..
  · exact hs5
  · exact hs3

theorem Aside.testFirst (g cause : Nat) : Aside s (t.testFirst g cause) := by
  unfold State.testFirst
  extract_lets x
  split_ifs
  · exact h
  · exact h
  · exact h.diag _

end

end Sys2Proof.Machine

end

section

/-! SUPPORT. What an exception leaves: the exception registers, the stopped engine, and the engines that do not wait with it (R199, R203). -/

namespace Sys2Proof.Machine

/-- The registers that an exception of engine `g` sets. -/
def stopFlds (g : Nat) : List Fld :=
  [ENG.EXC_CAUSE g, ENG.EXC_IMPRECISE g, ENG.EXC_SECOND g, ENG.EXC_PC_PC g, ENG.EXC_ADDR_ADDR g, ENG.EXC_INSN_INSN g, ENG.STAT_STATE g]

/-- A register field in the block of engine `g`. -/
def Fld.ofEngine (f : Fld) (g : Nat) : Prop := engBase g * 32 ≤ f.key ∧ f.key < (engBase g + 0x1000) * 32

theorem stopFlds_key (g : Nat) : (stopFlds g).map Fld.key = ([256, 271, 270, 384, 512, 640, 0] : List Nat).map (engBase g * 32 + ·) := by
  simp [stopFlds, ENG.EXC_CAUSE, ENG.EXC_IMPRECISE, ENG.EXC_SECOND, ENG.EXC_PC_PC, ENG.EXC_ADDR_ADDR, ENG.EXC_INSN_INSN,
    ENG.STAT_STATE, Fld.key, Nat.add_mul, Nat.add_assoc]

theorem stopFlds_nodup (g : Nat) : ((stopFlds g).map Fld.key).Nodup := by
  rw [stopFlds_key]
  exact List.Nodup.map (fun a b hab => Nat.add_left_cancel hab) (by decide)

theorem stopFlds_ofEngine {g : Nat} : ∀ f ∈ stopFlds g, f.ofEngine g := by
  intro f hf
  have hk : f.key ∈ (stopFlds g).map Fld.key := List.mem_map_of_mem hf
  rw [stopFlds_key] at hk
  obtain ⟨c, hc, he⟩ := List.mem_map.mp hk
  have hc' : c < 0x1000 * 32 := by
    revert c
    simp
  unfold Fld.ofEngine
  omega

theorem stop_key_ne (g i j : Nat) {f k : Fld} (hi : (stopFlds g)[i]? = some f) (hj : (stopFlds g)[j]? = some k) (hij : i ≠ j) :
    f.key ≠ k.key := key_ne_of_nodup (stopFlds_nodup g) hi hj hij

theorem two_pow_le_of_ofEngine {g : Nat} {f : Fld} (h : f.ofEngine g) : 2 ^ 25 ≤ f.key := by
  obtain ⟨hlo, _⟩ := h
  unfold engBase at hlo
  split at hlo <;> omega

/-- The blocks of two engines do not meet. -/
theorem ofEngine_key_ne {g h : Nat} (hne : h ≠ g) {f k : Fld} (hf : f.ofEngine g) (hk : k.ofEngine h) : f.key ≠ k.key := by
  obtain ⟨f1, f2⟩ := hf
  obtain ⟨k1, k2⟩ := hk
  unfold engBase at f1 f2 k1 k2
  split at f1 <;> split at k1 <;> simp only [*, if_true, if_false] at f2 k2 <;> omega

/-- The state of a cluster's barriers lies in no engine's block. -/
theorem ofEngine_ne_barwait {g : Nat} (c : Nat) {f : Fld} (hf : f.ofEngine g) : f.key ≠ (CL.STAT_BARWAIT c).key := by
  obtain ⟨f1, f2⟩ := hf
  simp only [CL.STAT_BARWAIT, Fld.key] at *
  unfold engBase at f1 f2
  split at f1 <;> simp only [*, if_true, if_false] at f2 <;> omega

theorem barwait_high (c : Nat) : 2 ^ 25 ≤ (CL.STAT_BARWAIT c).key := by
  simp only [CL.STAT_BARWAIT, Fld.key]
  omega

/-- What a stopped engine keeps. -/
def Engine.stopped (e : Engine) : Engine := { e with wait := none, outCur := [], dmaErr := none, prev := none }

/-- The exception registers as engine `g` stops. -/
def State.stopWrites (s : State) (g cause : Nat) (addr insn : Option Nat) (imprecise second : Bool) : List (Fld × Nat) :=
  [(ENG.EXC_CAUSE g, cause), (ENG.EXC_IMPRECISE g, b2n imprecise), (ENG.EXC_SECOND g, b2n second), (ENG.EXC_PC_PC g, s.engPc g),
   (ENG.EXC_ADDR_ADDR g, addr.getD (s.free 32)), (ENG.EXC_INSN_INSN g, insn.getD (s.used.free 32)), (ENG.STAT_STATE g, 3)]

theorem stopWrites_fields (s : State) (g cause : Nat) (addr insn : Option Nat) (imprecise second : Bool) :
    (s.stopWrites g cause addr insn imprecise second).map Prod.fst = stopFlds g := rfl

/-- Engine `g` with its exception registers set, before its items are discarded. -/
def State.stopRegs (s : State) (g cause : Nat) (addr insn : Option Nat) (imprecise second : Bool) : State :=
  (s.used.used.wrAll (s.stopWrites g cause addr insn imprecise second)).setEng g (s.eng g).stopped

section

variable (s : State) (g cause : Nat) (addr insn : Option Nat) (imprecise second : Bool)

theorem engStop_eq : ∃ u, Aside (s.stopRegs g cause addr insn imprecise second) u ∧
    s.engStop g cause addr insn imprecise second = u.barShow (s.clusterOf g) := by
  refine ⟨_, ?_, rfl⟩
  let s3 := s.stopRegs g cause addr insn imprecise second
  have h4 : Aside s3 (if (s.eng g).bound then (s.eng g).outCur.foldl (fun u o => u.flueDiscard (s.eng g).gen
      ((s.nodeDef (s.eng g).gen (s.eng g).node).so.getD o.1 {}).flue o.2) s3 else s3) :=
    .ite ((Aside.refl s3).foldl fun _ hu _ _ => hu.flueDiscard ..) (Aside.refl s3)
  have h5 := (h4.raise 0x1301 g (leBytes 4 cause ++ leBytes 4 (s.engPc g))).testFirst g cause
  exact .ite (h5.rankFault ..) h5

/-- Registers beyond the first MByte, but for those of a cluster's barriers. -/
theorem engStop_rd {f : Fld} (hf : 2 ^ 25 ≤ f.key) (hb : f.key ≠ (CL.STAT_BARWAIT (s.clusterOf g)).key) :
    (s.engStop g cause addr insn imprecise second).rd f = (s.stopRegs g cause addr insn imprecise second).rd f := by
  obtain ⟨u, hu, he⟩ := engStop_eq s g cause addr insn imprecise second
  rw [he]
  exact (rd_wr_ne _ _ hb).trans (hu.regs f (not_asideKey_of_le hf))

theorem engStop_eng (k : Nat) :
    (s.engStop g cause addr insn imprecise second).eng k = if k = g then (s.eng g).stopped else s.eng k := by
  obtain ⟨u, hu, he⟩ := engStop_eq s g cause addr insn imprecise second
  have h : (s.engStop g cause addr insn imprecise second).eng k = (s.stopRegs g cause addr insn imprecise second).eng k := by
    rw [he]
    exact hu.eng k
  rw [h]
  split
  next hk => subst hk; exact eng_setEng _ _ _
  next hk =>
    refine (eng_setEng_ne _ _ hk).trans ?_
    obtain ⟨_, honly⟩ := wrAll_onlyRegs s.used.used (s.stopWrites g cause addr insn imprecise second)
    have := congrArg State.engines honly
    unfold State.eng
    rw [show (s.used.used.wrAll _).engines = s.engines from this]

/-- An exception register of the stopped engine. -/
theorem engStop_rd_own {w : Fld × Nat} (hw : w ∈ s.stopWrites g cause addr insn imprecise second) :
    (s.engStop g cause addr insn imprecise second).rd w.1 = w.2 % 2 ^ w.1.w := by
  have hmem : w.1 ∈ stopFlds g := by
    rw [← stopWrites_fields s g cause addr insn imprecise second]
    exact List.mem_map_of_mem hw
  have hof := stopFlds_ofEngine w.1 hmem
  rw [engStop_rd s g cause addr insn imprecise second (two_pow_le_of_ofEngine hof) (ofEngine_ne_barwait _ hof)]
  have hkeys : (s.stopWrites g cause addr insn imprecise second).map (·.1.key) = (stopFlds g).map Fld.key := rfl
  exact wrAll_rd (s := s.used.used) (hkeys ▸ stopFlds_nodup g) hw

/-- A register that is none of its exception registers. -/
theorem engStop_rd_other {f : Fld} (hf : 2 ^ 25 ≤ f.key) (hn : f.key ∉ (stopFlds g).map Fld.key)
    (hb : f.key ≠ (CL.STAT_BARWAIT (s.clusterOf g)).key) : (s.engStop g cause addr insn imprecise second).rd f = s.rd f := by
  rw [engStop_rd s g cause addr insn imprecise second hf hb]
  exact wrAll_rd_other s.used.used hn

end

theorem runner_congr {s t : State}
    (h : ∀ k, t.rd (ENG.STAT_SERVING k) = s.rd (ENG.STAT_SERVING k) ∧ t.rd (ENG.STAT_SERVES k) = s.rd (ENG.STAT_SERVES k)) (n : Nat) :
    t.runner n = s.runner n := by
  unfold State.runner State.is
  simp only [fun k => (h k).1, fun k => (h k).2]

theorem serving_key (k : Nat) : (ENG.STAT_SERVING k).key % 32 = 23 ∧ (ENG.STAT_SERVES k).key % 32 = 16 := by
  simp only [ENG.STAT_SERVING, ENG.STAT_SERVES, Fld.key]
  omega

/-- Who runs an engine's kernel is not changed by an exception. -/
theorem engStop_runner (s : State) (g cause : Nat) (addr insn : Option Nat) (imprecise second : Bool) (n : Nat) :
    (s.engStop g cause addr insn imprecise second).runner n = s.runner n := by
  have hkeep := fun (f : Fld) => engStop_rd_other s g cause addr insn imprecise second (f := f)
  have hserv : ∀ k, (ENG.STAT_SERVING k).ofEngine k ∧ (ENG.STAT_SERVES k).ofEngine k := fun k => by
    simp only [Fld.ofEngine, ENG.STAT_SERVING, ENG.STAT_SERVES, Fld.key]
    omega
  have hne : ∀ f : Fld, f.key % 32 = 23 ∨ f.key % 32 = 16 → f.key ∉ (stopFlds g).map Fld.key := by
    intro f hmod hmem
    rw [stopFlds_key] at hmem
    obtain ⟨c, hc, he⟩ := List.mem_map.mp hmem
    simp only [List.mem_cons, List.not_mem_nil, or_false] at hc
    omega
  refine runner_congr (fun k => ?_) n
  obtain ⟨h1, h2⟩ := hserv k
  obtain ⟨hm1, hm2⟩ := serving_key k
  exact ⟨hkeep _ (two_pow_le_of_ofEngine h1) (hne _ (Or.inl hm1)) (ofEngine_ne_barwait _ h1),
    hkeep _ (two_pow_le_of_ofEngine h2) (hne _ (Or.inr hm2)) (ofEngine_ne_barwait _ h2)⟩

/-- Engine `g`, its registers, and who runs which kernel are as before. -/
def KeepsEngine (g : Nat) (s t : State) : Prop :=
  t.eng g = s.eng g ∧ (∀ f : Fld, f.ofEngine g → t.rd f = s.rd f) ∧ ∀ n, t.runner n = s.runner n

theorem KeepsEngine.trans {g : Nat} {s t u : State} (h : KeepsEngine g s t) (h' : KeepsEngine g t u) : KeepsEngine g s u :=
  ⟨h'.1.trans h.1, fun f hf => (h'.2.1 f hf).trans (h.2.1 f hf), fun n => (h'.2.2 n).trans (h.2.2 n)⟩

theorem engStop_keepsEngine (s : State) {g h : Nat} (hne : h ≠ g) (cause : Nat) (addr insn : Option Nat) (imprecise second : Bool) :
    KeepsEngine g s (s.engStop h cause addr insn imprecise second) := by
  refine ⟨(engStop_eng ..).trans (if_neg hne.symm), fun f hf => engStop_rd_other s h cause addr insn imprecise second
    (two_pow_le_of_ofEngine hf) (fun hmem => ?_) (ofEngine_ne_barwait _ hf),
    fun n => engStop_runner s h cause addr insn imprecise second n⟩
  obtain ⟨k, hk, he⟩ := List.mem_map.mp hmem
  exact ofEngine_key_ne hne hf (stopFlds_ofEngine k hk) he.symm

/-- Barriers that fall stop only engines that wait at a barrier. -/
theorem barrierFall_keepsEngine {g : Nat} (c : Nat) (ds : List Nat) (k : Nat) (s : State) (hwait : (s.eng g).wait = none) :
    KeepsEngine g s (s.barrierFall c ds k) := by
  induction k generalizing s ds with
  | zero => exact ⟨rfl, fun _ _ => rfl, fun _ => rfl⟩
  | succ k ih =>
    unfold State.barrierFall
    extract_lets hit
    split
    · exact ⟨rfl, fun _ _ => rfl, fun _ => rfl⟩
    · have hhit : ∀ d ∈ hit, s.runner (8 * c + d) ≠ g := fun d hd he => by
        have hmem := (List.mem_filter.mp hd).2
        rw [he, hwait] at hmem
        cases hmem
      have hfold : ∀ (l : List Nat) (u : State), KeepsEngine g s u → (∀ d ∈ l, s.runner (8 * c + d) ≠ g) →
          KeepsEngine g s (l.foldl (fun s d =>
            let g := s.runner (8 * c + d)
            let id := match (s.eng g).wait with
              | some (.barrier id _) => id
              | _ => 0
            s.engStop g 6 (some id) (some (leNat (s.memBytes (.imem g) (s.engPc g) 4))) false false) u) := by
        intro l
        induction l with
        | nil => exact fun u hu _ => hu
        | cons d l ihl =>
          intro u hu hl
          refine ihl _ (hu.trans (engStop_keepsEngine u ?_ ..)) fun d' hd' => hl d' (List.mem_cons_of_mem _ hd')
          rw [hu.2.2]
          exact hl d List.mem_cons_self
      have hs := hfold hit s ⟨rfl, fun _ _ => rfl, fun _ => rfl⟩ hhit
      refine hs.trans (ih hit _ ?_)
      rw [hs.1]
      exact hwait

/-- What an exception leaves of its engine. -/
theorem engExc_spec (s : State) (g cause : Nat) (addr insn : Option Nat) (imprecise second : Bool) :
    let t := s.engExc g cause addr insn imprecise second
    t.rd (ENG.STAT_STATE g) = 3 ∧ t.rd (ENG.EXC_CAUSE g) = cause % 2 ^ 8 ∧ t.rd (ENG.EXC_IMPRECISE g) = b2n imprecise % 2 ∧
    t.rd (ENG.EXC_PC_PC g) = s.engPc g % 2 ^ 32 ∧ (∀ a, addr = some a → t.rd (ENG.EXC_ADDR_ADDR g) = a % 2 ^ 32) ∧
    (∀ i, insn = some i → t.rd (ENG.EXC_INSN_INSN g) = i % 2 ^ 32) ∧ t.eng g = (s.eng g).stopped := by
  have heng : (s.engStop g cause addr insn imprecise second).eng g = (s.eng g).stopped := (engStop_eng ..).trans (if_pos rfl)
  have hwait : ((s.engStop g cause addr insn imprecise second).eng g).wait = none := by rw [heng]; rfl
  obtain ⟨hkeng, hkregs, _⟩ := barrierFall_keepsEngine (s.clusterOf g) [s.servedBy g % 8] 9 _ hwait
  have hof : ∀ w ∈ s.stopWrites g cause addr insn imprecise second,
      (s.engExc g cause addr insn imprecise second).rd w.1 = w.2 % 2 ^ w.1.w := fun w hw => by
    have hmem : w.1 ∈ stopFlds g := by
      rw [← stopWrites_fields s g cause addr insn imprecise second]
      exact List.mem_map_of_mem hw
    exact (hkregs w.1 (stopFlds_ofEngine _ hmem)).trans (engStop_rd_own s g cause addr insn imprecise second hw)
  refine ⟨hof (ENG.STAT_STATE g, 3) (by simp [State.stopWrites]), hof (ENG.EXC_CAUSE g, cause) (by simp [State.stopWrites]),
    hof (ENG.EXC_IMPRECISE g, b2n imprecise) (by simp [State.stopWrites]), hof (ENG.EXC_PC_PC g, s.engPc g) (by simp [State.stopWrites]),
    ?_, ?_, hkeng.trans heng⟩
  · rintro a rfl
    exact hof (ENG.EXC_ADDR_ADDR g, a) (by simp [State.stopWrites])
  · rintro i rfl
    exact hof (ENG.EXC_INSN_INSN g, i) (by simp [State.stopWrites])

end Sys2Proof.Machine

end

section

/-! CERTIFICATE. O7, O10: misplaced accesses, HALT, BAR and TRAP. -/

namespace Sys2Proof.Machine

/-! ### Exceptions (R203) -/

/-- The registers of a precise exception of engine `g` with its cause and address. -/
def Raised (s t : State) (g cause addr : Nat) : Prop :=
  t.rd (ENG.STAT_STATE g) = 3 ∧ t.rd (ENG.EXC_CAUSE g) = cause ∧ t.rd (ENG.EXC_ADDR_ADDR g) = addr ∧
  t.rd (ENG.EXC_PC_PC g) = s.engPc g ∧ t.rd (ENG.EXC_IMPRECISE g) = 0

theorem runs_pc_lt {s : State} {g w : Nat} (h : s.Runs g w) : s.engPc g < 2 ^ 32 := by
  obtain ⟨_, _, hpc, _⟩ := h
  omega

theorem engExc_raised (s : State) {g cause addr : Nat} (insn : Option Nat) (second : Bool) (hc : cause < 2 ^ 8) (ha : addr < 2 ^ 32)
    (hpc : s.engPc g < 2 ^ 32) : Raised s (s.engExc g cause (some addr) insn false second) g cause addr := by
  obtain ⟨hstate, hcause, himp, hexcpc, haddr, _, _⟩ := engExc_spec s g cause (some addr) insn false second
  exact ⟨hstate, hcause.trans (Nat.mod_eq_of_lt hc), (haddr addr rfl).trans (Nat.mod_eq_of_lt ha),
    hexcpc.trans (Nat.mod_eq_of_lt hpc), himp⟩

theorem issue_raised {s : State} {g w τ cause addr : Nat} {mine : Nat → Bool} {act : Nat → State → JRes} (h : s.Runs g w)
    (hmine : mine w = true) (hact : act w (s.at τ) = .fault cause (some addr) (s.at τ)) (hc : cause < 2 ^ 8) (ha : addr < 2 ^ 32) :
    Raised s (s.issue g τ mine act) g cause addr := by
  rw [issue_fault h hmine hact]
  exact engExc_raised (s := s.at τ) (some w) _ hc ha (runs_pc_lt h)

/-! ### Misplaced accesses (R192, R203) -/

theorem engRead_outside {s : State} {g a n : Nat} (h : s.engMem g a n = none) : s.engRead g a n = .fault 3 a s := by
  simp only [State.engRead, h]

theorem engWrite_outside {s : State} {g a : Nat} {bs : List Nat} (h : s.engMem g a bs.length = none) :
    s.engWrite g a bs = .fault 3 a s := by
  simp only [State.engWrite, h]

theorem jMem_misaligned {s : State} {g op d a : Nat} {imm : Word} (h : ((s.eng g).getX a + imm).toNat % memSize op ≠ 0) :
    jMem g op d a imm s = .fault 2 (some ((s.eng g).getX a + imm).toNat) s := by
  simp only [jMem, if_pos h]

theorem jMem_outside {s : State} {g op d a : Nat} {imm : Word} (h : ((s.eng g).getX a + imm).toNat % memSize op = 0)
    (hm : s.engMem g ((s.eng g).getX a + imm).toNat (memSize op) = none) :
    jMem g op d a imm s = .fault 3 (some ((s.eng g).getX a + imm).toNat) s := by
  have hw : s.engWrite g ((s.eng g).getX a + imm).toNat (leBytes (memSize op) ((s.eng g).getX d).toNat) =
      .fault 3 ((s.eng g).getX a + imm).toNat s := engWrite_outside (by rwa [length_leBytes])
  simp only [jMem, h, ne_eq, not_true_eq_false, if_false, hw, engRead_outside hm, ite_self]

theorem misplaced_row {s : State} {g : Fin 132} {w τ op : Nat} (h : s.Runs g w) (hop : jOp w = op) :
    let ea := ((s.eng g).getX (jA w) + BitVec.signExtend 32 (BitVec.ofNat 16 (jImm w))).toNat
    let t := s.issue g τ (isOp op) (jMemOp g)
    (ea % memSize op ≠ 0 → Raised s t g 2 ea) ∧ (ea % memSize op = 0 → s.engMem g ea (memSize op) = none → Raised s t g 3 ea) := by
  intro ea t
  have hea : ((s.eng g).getX (jA w) + sext16 (jImm w)).toNat = ea := by rw [sext16_eq_signExtend]
  have hmine : isOp op w = true := by simp [isOp, hop]
  have hact : jMemOp g w (s.at τ) = jMem g op (jD w) (jA w) (sext16 (jImm w)) (s.at τ) := by rw [jMemOp, hop]
  refine ⟨fun hmis => issue_raised h hmine (hact.trans ?_) (by decide) (BitVec.isLt _), fun hal hm =>
    issue_raised h hmine (hact.trans ?_) (by decide) (BitVec.isLt _)⟩
  · exact (jMem_misaligned (s := s.at τ) (by rwa [← hea] at hmis)).trans (by rw [← hea]; rfl)
  · rw [← hea] at hal hm ⊢
    exact jMem_outside (s := s.at τ) hal hm

theorem misplaced_atomic {s : State} {g : Fin 132} {w τ fn : Nat} (h : s.Runs g w) (hop : jOp w = 0x11) (hfn : jFn w = fn) :
    let ea := ((s.eng g).getX (jA w)).toNat
    let t := s.issue g τ (isR 0x11 fn) (jAmo g)
    (ea % 4 ≠ 0 → Raised s t g 2 ea) ∧ (ea % 4 = 0 → ¬(0x100000 ≤ ea ∧ ea + 4 ≤ 0x200000) → Raised s t g 3 ea) := by
  intro ea t
  have hmine : isR 0x11 fn w = true := by simp [isR, hop, hfn]
  have hea : ea < 2 ^ 32 := BitVec.isLt _
  refine ⟨fun hmis => issue_raised h hmine ?_ (by decide) hea, fun hal hout => issue_raised h hmine ?_ (by decide) hea⟩
  · exact if_pos hmis
  · refine (if_neg (not_not.mpr hal)).trans ?_
    by_cases hlow : ea < 0x100000
    · exact if_pos hlow
    · refine (if_neg hlow).trans ?_
      have hm : (s.at τ).engMem g ea 4 = none := by
        rw [State.engMem, if_neg (by omega), if_neg hout]
      rw [show ((s.at τ).eng g).getX (jA w) = (s.eng g).getX (jA w) from rfl, engRead_outside hm]

/-- Settles O7: by the address, as `jMem` and `jAmo` test it. -/
theorem misplacedAccessesRaiseTheirException : Obligations.MisplacedAccessesRaiseTheirException := by
  unfold Obligations.MisplacedAccessesRaiseTheirException
  have row {i : Fin 132 → Nat → Instr} {op n : Nat}
      (hi : ∀ g τ s, exec (i g τ) s = .next (s.issue g τ (isOp op) (jMemOp g))) (hn : memSize op = n) (g : Fin 132) (τ : Nat)
      (s : State) (w : Nat) (h : s.Runs g w) (hop : jOp w = op) := by
    obtain ⟨hmis, hout⟩ := misplaced_row (τ := τ) h hop
    rw [hn] at hmis hout
    exact And.intro (fun h1 => (⟨_, hi g τ s, hmis h1⟩ : Answers _ fun t => Raised s t g 2 _))
      fun h1 h2 => (⟨_, hi g τ s, hout h1 h2⟩ : Answers _ fun t => Raised s t g 3 _)
  have amo {i : Fin 132 → Nat → Instr} {fn : Nat}
      (hi : ∀ g τ s, exec (i g τ) s = .next (s.issue g τ (isR 0x11 fn) (jAmo g))) (g : Fin 132) (τ : Nat) (s : State) (w : Nat)
      (h : s.Runs g w) (hop : jOp w = 0x11) (hfn : jFn w = fn) := by
    obtain ⟨hmis, hout⟩ := misplaced_atomic (τ := τ) h hop hfn
    exact And.intro (fun h1 => (⟨_, hi g τ s, hmis h1⟩ : Answers _ fun t => Raised s t g 2 _))
      fun h1 h2 => (⟨_, hi g τ s, hout h1 h2⟩ : Answers _ fun t => Raised s t g 3 _)
  simp only [List.forall_mem_cons, List.not_mem_nil, false_implies, implies_true, and_true]
  exact ⟨⟨row (fun _ _ _ => rfl) rfl, row (fun _ _ _ => rfl) rfl, row (fun _ _ _ => rfl) rfl, row (fun _ _ _ => rfl) rfl,
    row (fun _ _ _ => rfl) rfl, row (fun _ _ _ => rfl) rfl, row (fun _ _ _ => rfl) rfl⟩,
    amo fun _ _ _ => rfl, amo fun _ _ _ => rfl, amo fun _ _ _ => rfl⟩

/-! ### HALT, BAR and TRAP (R199, R200, R203) -/

theorem jeisLen_short {w : Nat} (hop : jOp w ≠ 0x3F) : jeisLen w = 4 := by
  rw [jeisLen, if_neg hop]

/-- An effect that writes one register, and changes no engine and no memory, completes. -/
theorem issue_oneRegister {s u : State} {g w τ : Nat} {mine : Nat → Bool} {act : Nat → State → JRes} {f : Fld} (h : s.Runs g w)
    (hmine : mine w = true) (hact : act w (s.at τ) = .done u) (hu : KeepsRegs [f] s u) (heng : u.engines = s.engines)
    (hmems : u.mems = s.mems) (hf : f.key ∉ (retireRegs g).map Fld.key) :
    let t := s.issue g τ mine act
    t.rd f = u.rd f ∧ t.engPc g = (loopNext (s.engPc g) (jeisLen w) (s.eng g).loops).1 % 2 ^ 32 ∧
    retiredCount t g = (retiredCount s g + 1) % 2 ^ 64 ∧ (∃ ls pv, t.eng g = { s.eng g with loops := ls, prev := pv }) ∧
    t.mems = s.mems ∧ KeepsRegs (f :: retireRegs g) s t := by
  intro t
  have hkeep : ∀ k ∈ retireRegs g, u.rd k = s.rd k := fun k hk => hu k (by
    simpa using fun he : k.key = f.key => hf (he ▸ List.mem_map_of_mem hk))
  have hpc : u.engPc g = s.engPc g := hkeep _ (by simp [retireRegs])
  have hcount : retiredCount u g = retiredCount s g := by
    unfold retiredCount
    rw [hkeep _ (by simp [retireRegs]), hkeep _ (by simp [retireRegs])]
  have hug : u.eng g = s.eng g := by unfold State.eng; rw [heng]
  obtain ⟨pv, hretire⟩ := retire_next u g (jeisLen w) (if jeisPairs (s.eng g).prev w then none else some (jeisIssued w))
  have ht : t = u.completed g (loopNext (s.engPc g) (jeisLen w) (s.eng g).loops).1
      { s.eng g with loops := (loopNext (s.engPc g) (jeisLen w) (s.eng g).loops).2.1, prev := pv } := by
    rw [show t = _ from issue_of_runs h hmine, hact]
    simp only [State.carry, hretire, hpc, hug]
  rw [ht]
  refine ⟨completed_rd _ _ _ hf, completed_engPc _ _ _ _, ?_, ⟨_, pv, completed_eng _ _ _ _⟩, hmems, fun k hk => ?_⟩
  · rw [completed_count, hcount]
  · rw [List.map_cons, List.mem_cons, not_or] at hk
    rw [completed_rd _ _ _ hk.2]
    exact hu k (by simpa using hk.1)

theorem halt_row {s : State} {g : Fin 132} {τ w : Nat} (h : s.Runs g w) (hop : jOp w = 0x1B) (hfn : jFn w = 0)
    (hout : (s.eng g).outCur = []) (hdma : (s.eng g).dmaBusy = false) :
    Answers (exec (.halt g τ) s) fun t =>
      t.rd (ENG.STAT_STATE g) = 2 ∧ t.engPc g = (loopNext (s.engPc g) 4 (s.eng g).loops).1 % 2 ^ 32 ∧
      retiredCount t g = (retiredCount s g + 1) % 2 ^ 64 ∧ (t.eng g).x = (s.eng g).x ∧ (t.eng g).v = (s.eng g).v ∧ t.mems = s.mems ∧
      KeepsRegs (ENG.STAT_STATE g :: retireRegs g) s t := by
  have hact : jHalt g (s.at τ) = .done (((s.at τ).wr (ENG.STAT_STATE g) 2).raise 0x1302 g []) := by
    simp only [jHalt, show ((s.at τ).eng g) = s.eng g from rfl, hout, hdma]
    rfl
  obtain ⟨x, hx⟩ := raise_eq ((s.at τ).wr (ENG.STAT_STATE g) 2) 0x1302 g []
  rw [hx] at hact
  have hne : (ENG.STAT_STATE g).key ∉ (retireRegs g).map Fld.key := by
    simp only [retireRegs, List.map_cons, List.map_nil, List.mem_cons, List.not_mem_nil, or_false, ENG.STAT_STATE, ENG.PC,
      ENG.RET_LO_RET, ENG.RET_HI_RET, Fld.key]
    omega
  obtain ⟨hst, hpc, hcount, ⟨ls, pv, heng⟩, hmems, hkeep⟩ := issue_oneRegister (mine := isR 0x1B 0)
    (act := fun _ => jHalt g) h (by simp [isR, hop, hfn]) hact (keepsRegs_wr (s.at τ) _ 2) rfl rfl hne
  rw [jeisLen_short (by omega)] at hpc
  exact answers_next ⟨hst.trans (rd_wr_same _ _ _), hpc, hcount, by rw [heng], by rw [heng], hmems, hkeep⟩

theorem testBit_of_land_eq_zero {a b d : Nat} (h : a.land b = 0) (hb : b.testBit d = true) : a.testBit d = false := by
  have := congrArg (Nat.testBit · d) h
  simpa [Nat.testBit_land, show a.land b = a &&& b from rfl, hb] using this

/-- The barrier that no other engine has reached, by its mask. -/
theorem jBar_alone {s : State} {g τ w : Nat} (hmine : ((((s.eng g).getX (jA w)).toNat % 256).testBit (s.servedBy g % 8)) = true)
    (hfenced : (s.rd (CL.STAT_ENGFENCED (s.clusterOf g))).land (((s.eng g).getX (jA w)).toNat % 256) = 0)
    (hthere : s.atBarrier (s.clusterOf g) (jImm w % 8) = []) :
    jBar g τ w s =
      if (List.range 8).all (fun d => !(((s.eng g).getX (jA w)).toNat % 256).testBit d || d == s.servedBy g % 8) then
        .done (s.barShow (s.clusterOf g))
      else .wait (.barrier (jImm w % 8) (((s.eng g).getX (jA w)).toNat % 256)) s := by
  have hlost : ((List.range 8).any fun d => (((s.eng g).getX (jA w)).toNat % 256).testBit d &&
      (s.rd (CL.STAT_ENGFENCED (s.clusterOf g))).testBit d && s.runner (8 * s.clusterOf g + d) == 8 * s.clusterOf g + d) = false := by
    rw [List.any_eq_false]
    intro d _
    cases hd : (((s.eng g).getX (jA w)).toNat % 256).testBit d
    · simp
    · simp [testBit_of_land_eq_zero hfenced hd]
  simp only [jBar, hthere, hlost, hmine, List.any_nil, List.foldl_nil, Bool.not_true, Bool.or_false, Bool.false_eq_true, if_false]

theorem mask_eq_of_all {m d : Nat} (hm : m < 256) (hd : d < 8) (hmine : m.testBit d = true) :
    ((List.range 8).all fun k => !m.testBit k || k == d) = true ↔ m = 2 ^ d := by
  rw [List.all_eq_true]
  constructor
  · intro h
    refine Nat.eq_of_testBit_eq fun k => ?_
    rw [Nat.testBit_two_pow]
    by_cases hk : k < 8
    · have := h k (List.mem_range.mpr hk)
      by_cases hkd : d = k
      · subst hkd
        simp [hmine]
      · have : m.testBit k = false := by simpa [show ¬ k = d from fun e => hkd e.symm] using this
        simp [this, hkd]
    · have : m.testBit k = false := Nat.testBit_lt_two_pow (by
        have : 2 ^ 8 ≤ 2 ^ k := Nat.pow_le_pow_right (by decide) (by omega)
        omega)
      simp [this, show ¬ d = k by omega]
  · rintro rfl k _
    by_cases hkd : k = d
    · simp [hkd]
    · simp [Ne.symm hkd]

theorem bar_alone_row {s : State} {g : Fin 132} {τ w : Nat} (h : s.Runs g w) (hop : jOp w = 0x1C)
    (hmask : ((s.eng g).getX (jA w)).toNat % 256 = 2 ^ (s.servedBy g % 8))
    (hfenced : (s.rd (CL.STAT_ENGFENCED (s.clusterOf g))).land (((s.eng g).getX (jA w)).toNat % 256) = 0)
    (hthere : s.atBarrier (s.clusterOf g) (jImm w % 8) = []) :
    Answers (exec (.bar g τ) s) fun t =>
      t.engPc g = (loopNext (s.engPc g) 4 (s.eng g).loops).1 % 2 ^ 32 ∧ (t.eng g).wait = none ∧ (t.eng g).x = (s.eng g).x ∧
      t.mems = s.mems ∧ KeepsRegs (CL.STAT_BARWAIT (s.clusterOf g) :: retireRegs g) s t := by
  have hbit : (((s.eng g).getX (jA w)).toNat % 256).testBit (s.servedBy g % 8) = true := by
    rw [hmask, Nat.testBit_two_pow_self]
  have hact : jBar g τ w (s.at τ) = .done ((s.at τ).barShow (s.clusterOf g)) := by
    refine (jBar_alone (s := s.at τ) hbit hfenced hthere).trans (if_pos ?_)
    exact (mask_eq_of_all (Nat.mod_lt _ (by decide)) (Nat.mod_lt _ (by decide)) hbit).mpr hmask
  have hne : (CL.STAT_BARWAIT (s.clusterOf g)).key ∉ (retireRegs g).map Fld.key := by
    intro hmem
    obtain ⟨k, hk, he⟩ := List.mem_map.mp hmem
    refine ofEngine_ne_barwait (g := g) (s.clusterOf g) (f := k) ?_ he
    revert k
    simp only [retireRegs, List.forall_mem_cons, List.not_mem_nil, false_implies, implies_true, and_true, Fld.ofEngine, ENG.PC,
      ENG.RET_LO_RET, ENG.RET_HI_RET, Fld.key]
    omega
  obtain ⟨_, hpc, _, ⟨ls, pv, heng⟩, hmems, hkeep⟩ := issue_oneRegister (mine := isOp 0x1C) (act := jBar g τ) h
    (by simp [isOp, hop]) hact (keepsRegs_wr (s.at τ) _ _) rfl rfl hne
  rw [jeisLen_short (by omega)] at hpc
  have hw : ((s.issue g τ (isOp 0x1C) (jBar g τ)).eng g).wait = none := by rw [heng]; exact runs_wait h
  have hst : (s.issue g τ (isOp 0x1C) (jBar g τ)).rd (ENG.STAT_STATE g) = 1 := by
    refine (hkeep _ ?_).trans (runs_state h)
    simp only [retireRegs, List.map_cons, List.map_nil, List.mem_cons, List.not_mem_nil, or_false, not_or]
    refine ⟨ofEngine_ne_barwait (g := g) _ (stopFlds_ofEngine _ (by simp [stopFlds])), ?_⟩
    simp only [ENG.STAT_STATE, ENG.PC, ENG.RET_LO_RET, ENG.RET_HI_RET, Fld.key]
    omega
  refine ⟨s.issue g τ (isOp 0x1C) (jBar g τ), ?_, hpc, hw, by rw [heng], hmems, hkeep⟩
  show execBar g τ s = _
  simp only [execBar, runs_wait h, hw, hst, OfNat.one_ne_ofNat, false_and, and_false, if_false]

theorem bar_waits_row {s : State} {g : Fin 132} {τ w : Nat} (h : s.Runs g w) (hop : jOp w = 0x1C)
    (hbit : (((s.eng g).getX (jA w)).toNat % 256).testBit (s.servedBy g % 8) = true)
    (hmask : ((s.eng g).getX (jA w)).toNat % 256 ≠ 2 ^ (s.servedBy g % 8))
    (hfenced : (s.rd (CL.STAT_ENGFENCED (s.clusterOf g))).land (((s.eng g).getX (jA w)).toNat % 256) = 0)
    (hthere : s.atBarrier (s.clusterOf g) (jImm w % 8) = []) :
    Answers (exec (.bar g τ) s) fun t =>
      (t.eng g).wait = some (.barrier (jImm w % 8) (((s.eng g).getX (jA w)).toNat % 256)) ∧ t.engPc g = s.engPc g ∧
      (t.eng g).x = (s.eng g).x ∧ t.mems = s.mems ∧ KeepsRegs [CL.STAT_BARWAIT (s.clusterOf g)] s t := by
  have hact : jBar g τ w (s.at τ) = .wait (.barrier (jImm w % 8) (((s.eng g).getX (jA w)).toNat % 256)) (s.at τ) := by
    refine (jBar_alone (s := s.at τ) hbit hfenced hthere).trans (if_neg fun hall => hmask ?_)
    exact (mask_eq_of_all (Nat.mod_lt _ (by decide)) (Nat.mod_lt _ (by decide)) hbit).mp hall
  have hissue := issue_wait (mine := isOp 0x1C) h (by simp [isOp, hop]) hact
  have hw : ((s.issue g τ (isOp 0x1C) (jBar g τ)).eng g).wait =
      some (.barrier (jImm w % 8) (((s.eng g).getX (jA w)).toNat % 256)) := by
    rw [hissue, eng_setEng]
    rfl
  have hstep : exec (.bar g τ) s = .next ((s.issue g τ (isOp 0x1C) (jBar g τ)).barShow (s.clusterOf g)) := by
    show execBar g τ s = _
    simp only [execBar, runs_wait h, hw]
  have hkeep := keepsRegs_wr (s.issue g τ (isOp 0x1C) (jBar g τ)) (CL.STAT_BARWAIT (s.clusterOf g))
  refine ⟨_, hstep, (congrArg Engine.wait (eng_wr ..)).trans hw, ?_, ?_, ?_, ?_⟩
  · refine (rd_wr_ne _ _ (ofEngine_ne_barwait (g := g) _ ?_)).trans (by rw [hissue]; rfl)
    simp only [Fld.ofEngine, ENG.PC, Fld.key]
    omega
  · refine (congrArg Engine.x (eng_wr ..)).trans ?_
    rw [hissue, eng_setEng]
    rfl
  · show (s.issue g τ (isOp 0x1C) (jBar g τ)).mems = s.mems
    rw [hissue]
    rfl
  · refine keepsRegs_trans (fs := []) (keepsRegs_of_regs [] ?_) (keepsRegs_wr _ _ _)
    rw [hissue]
    rfl

theorem trap_row {s : State} {g : Fin 132} {τ w : Nat} (h : s.Runs g w) (hop : jOp w = 0x1B) (hfn : jFn w = 2) :
    Answers (exec (.trap g τ) s) fun t =>
      t.rd (ENG.STAT_STATE g) = 3 ∧ t.rd (ENG.EXC_CAUSE g) = 0x0A ∧ t.rd (ENG.EXC_ADDR_ADDR g) = ((s.eng g).getX (jB w)).toNat ∧
      t.rd (ENG.EXC_INSN_INSN g) = w % 2 ^ 32 ∧ t.rd (ENG.EXC_PC_PC g) = s.engPc g ∧ t.rd (ENG.EXC_IMPRECISE g) = 0 ∧
      (t.eng g).x = (s.eng g).x ∧ (t.eng g).v = (s.eng g).v ∧ (t.eng g).p = (s.eng g).p ∧ (t.eng g).a = (s.eng g).a := by
  have hfault := issue_fault (τ := τ) (mine := isR 0x1B 2) (act := jTrap g) h (by simp [isR, hop, hfn]) rfl
  have hraised := issue_raised (τ := τ) (mine := isR 0x1B 2) (act := jTrap g) h (by simp [isR, hop, hfn]) rfl (by decide)
    (BitVec.isLt ((s.eng g).getX (jB w)))
  obtain ⟨hstate, hcause, haddr, hpc, himp⟩ := hraised
  obtain ⟨_, _, _, _, _, hinsn, heng⟩ := engExc_spec (s.at τ) g 0x0A (some ((s.eng g).getX (jB w)).toNat) (some w) false
    (jeisPairs (s.eng g).prev w)
  have he : (s.issue g τ (isR 0x1B 2) (jTrap g)).eng g = (s.eng g).stopped := by rw [hfault]; exact heng
  have hi : (s.issue g τ (isR 0x1B 2) (jTrap g)).rd (ENG.EXC_INSN_INSN g) = w % 2 ^ 32 := by rw [hfault]; exact hinsn w rfl
  exact answers_next ⟨hstate, hcause, haddr, hi, hpc, himp, by rw [he]; rfl, by rw [he]; rfl, by rw [he]; rfl, by rw [he]; rfl⟩

/-- Settles O10: a clause for HALT, two for BAR and one for TRAP. -/
theorem haltBarAndTrapActOnTheEngine : Obligations.HaltBarAndTrapActOnTheEngine := fun _ _ _ _ h =>
  ⟨halt_row h, bar_alone_row h, bar_waits_row h, trap_row h⟩

end Sys2Proof.Machine

end

section

/-! SUPPORT. Streams: where ports, flues and memories stay as they are while items move (R195, R196, R211, R217). -/

namespace Sys2Proof.Machine

/-! ### Flue definitions -/

section

variable {s t : State} (h : Aside s t)
include h

theorem Aside.graphOf (gen : Nat) : t.graphOf gen = s.graphOf gen := by
  have hgen := congrArg (fun u : GraphUnit => u.gen) h.graph
  have hactive := congrArg (fun u : GraphUnit => u.active) h.graph
  have holds := congrArg (fun u : GraphUnit => u.olds) h.graph
  dsimp only at hgen hactive holds
  unfold State.graphOf
  rw [hgen, hactive, holds]

theorem Aside.flueDef (gen i : Nat) : t.flueDef gen i = s.flueDef gen i := by rw [State.flueDef, h.graphOf]; rfl
theorem Aside.nodeDef (gen k : Nat) : t.nodeDef gen k = s.nodeDef gen k := by rw [State.nodeDef, h.graphOf]; rfl
theorem Aside.inSlot (g p i : Nat) : t.inSlot g p i = s.inSlot g p i := by simp only [State.inSlot, h.eng, h.flueDef]
theorem Aside.engPc {g : Nat} : t.engPc g = s.engPc g := h.regs _ (by
  simp only [AsideKey, ENG.PC, Fld.key, engBase]
  split <;> omega)

end

theorem shared_noInjection {m : MemId} (hm : m.shared) (s : State) : s.NoInjection m := by
  obtain rfl | ⟨c, _, rfl⟩ := hm <;> trivial

theorem shared_ne_line {m : MemId} (hm : m.shared) (n : Nat) : m ≠ .line n := by
  obtain rfl | ⟨c, _, rfl⟩ := hm <;> simp

@[simp] theorem amap_set_get {α : Type} (d : α) (m : AMap α) (k : Nat) (v : α) : AMap.get d (AMap.set m k v) k = v :=
  amap_get_set_same _ _ _ _

/-- An entry that a lookup with a default `none` finds is found with any default. -/
theorem amap_get_of_some {α : Type} {m : AMap α} {k : Nat} {v : α} (d : α)
    (h : AMap.get none (m.map fun x => (x.1, some x.2)) k = some v) : AMap.get d m k = v := by
  induction m with
  | nil => exact absurd h (by simp [AMap.get])
  | cons x m ih =>
    obtain ⟨i, y⟩ := x
    simp only [List.map_cons, AMap.get] at h ⊢
    split at h
    next hi => rw [if_pos hi]; exact Option.some.inj h
    next hi => rw [if_neg hi]; exact ih h

theorem amap_set_set {α : Type} (m : AMap α) (k : Nat) (v v' : α) : AMap.set (AMap.set m k v) k v' = AMap.set m k v' := by
  induction m with
  | nil => simp [AMap.set]
  | cons x m ih =>
    obtain ⟨i, y⟩ := x
    simp only [AMap.set]
    split
    · simp [AMap.set]
    next hlt =>
      split
      next heq => simp [AMap.set, heq]
      next hne => simp only [AMap.set, if_neg hlt, if_neg hne, ih]

theorem setEng_setEng (s : State) (g : Nat) (e e' : Engine) : (s.setEng g e).setEng g e' = s.setEng g e' := by
  unfold State.setEng
  simp only [amap_set_set]

/-! ### Issue -/

/-- An instruction whose effect leaves `u` completes there. -/
theorem issue_completed {s u : State} {g w τ : Nat} {mine : Nat → Bool} {act : Nat → State → JRes} (h : s.Runs g w)
    (hmine : mine w = true) (hact : act w (s.at τ) = .done u) :
    ∃ pv, s.issue g τ mine act = u.completed g (loopNext (u.engPc g) (jeisLen w) (u.eng g).loops).1
      { u.eng g with loops := (loopNext (u.engPc g) (jeisLen w) (u.eng g).loops).2.1, prev := pv } := by
  rw [issue_of_runs h hmine, hact]
  exact retire_next u g (jeisLen w) _

theorem issue_completed_eng {s u : State} {g w τ : Nat} {mine : Nat → Bool} {act : Nat → State → JRes} (h : s.Runs g w)
    (hmine : mine w = true) (hact : act w (s.at τ) = .done u) :
    ∃ ls pv, (s.issue g τ mine act).eng g = { u.eng g with loops := ls, prev := pv } := by
  obtain ⟨pv, ht⟩ := issue_completed h hmine hact
  exact ⟨(loopNext (u.engPc g) (jeisLen w) (u.eng g).loops).2.1, pv, by rw [ht, completed_eng]⟩

/-- An instruction that leaves `u` but for its engine's own registers. -/
theorem issue_registerResult_from {s u : State} {g w τ : Nat} {e : Engine} {mine : Nat → Bool} {act : Nat → State → JRes} (h : s.Runs g w)
    (hmine : mine w = true) (hact : act w (s.at τ) = .done (u.setEng g e)) (hnow : τ ≤ u.now) :
    RegisterResult u (s.issue g τ mine act) τ g w e := by
  obtain ⟨pv, ht⟩ := issue_completed h hmine hact
  have hpc : (u.setEng g e).engPc g = u.engPc g := rfl
  rw [ht, eng_setEng, hpc]
  refine ⟨retired_completed (s := u) (Nat.max_eq_left hnow).symm rfl fun k hk => eng_setEng_ne _ _ hk, ?_⟩
  have := congrArg (fun t : State => { t with now := u.now, regs := u.regs, engines := u.engines })
    (completed_frame (u.setEng g e) g (loopNext (u.engPc g) (jeisLen w) e.loops).1
      { e with loops := (loopNext (u.engPc g) (jeisLen w) e.loops).2.1, prev := pv })
  exact this

end Sys2Proof.Machine

end

section

/-! CERTIFICATE. O23: reads of streams. -/

namespace Sys2Proof.Machine

/-- The engine after it has read `k` more bytes of the current item of port `p`. -/
def Engine.advanced (e : Engine) (p seq pos k : Nat) : Engine := { e with inCur := AMap.set e.inCur p (seq, pos + k) }

theorem streamRead_clean {s : State} {g p seq pos : Nat} {q : GPort} (n : Nat) (hclean : s.clean) (hq : s.inPort g p = some q)
    (hcur : AMap.get none ((s.eng g).inCur.map fun x => (x.1, some x.2)) p = some (seq, pos)) :
    let d := s.flueDef (s.eng g).gen q.flue
    let left := ((s.flue (s.eng g).gen q.flue).item seq).len - pos
    s.streamRead g p n = .ok (s.memBytes d.mem (d.slot seq + 8 + pos) (min n left) ++ List.replicate (n - left) 0)
      (s.setEng g ((s.eng g).advanced p seq pos (min n left))) := by
  intro d left
  have hread := fun a k => memRead_clean (m := d.mem) a k hclean (shared_noInjection (shared_mem d) s)
  have hrest : n - min n left = n - left := by omega
  simp only [State.streamRead, hq, hcur, show s.flueDef (s.eng g).gen q.flue = d from rfl,
    show ((s.flue (s.eng g).gen q.flue).item seq).len - pos = left from rfl, hread, hrest, Bool.false_eq_true, if_false,
    Engine.advanced]

/-- The vector stream instructions have FN 0 (R182). -/
theorem fn_of_legal_stream {w : Nat} (h : jeisLegal w = true) (hop : jOp w = 0x38 ∨ jOp w = 0x39) : jFn w = 0 := by
  rcases hop with hop | hop <;> simp_all [jeisLegal]

theorem savail_row {s : State} {g : Fin 132} {τ w seq pos : Nat} {q : GPort} (h : s.Runs g w) (hq : s.inPort g (jB w) = some q)
    (hcur : AMap.get none ((s.eng g).inCur.map fun x => (x.1, some x.2)) (jB w) = some (seq, pos)) (hop : jOp w = 0x20)
    (hfn : jFn w = 5) :
    let s1 := (s.at τ).flueCatch (s.eng g).gen q.flue
    RegisterResult s1 (s.issue g τ (isR 0x20 5) (jSavail g)) τ g w ((s.eng g).setX (jD w) (BitVec.ofNat 32
      (((s1.flue (s.eng g).gen q.flue).waiting (s.inSlot g (jB w) q.flue) (s.eng g).rank).filter fun x => x.seq != seq).length)) := by
  intro s1
  have haside : Aside (s.at τ) s1 := (Aside.refl _).flueCatch ..
  have heng : s1.eng g = s.eng g := haside.eng g
  have hslot : s1.inSlot g (jB w) q.flue = s.inSlot g (jB w) q.flue := haside.inSlot ..
  have hget : ∀ d : Nat × Nat, AMap.get d (s.eng g).inCur (jB w) = (seq, pos) := fun d => amap_get_of_some d hcur
  have hact : jSavail g w (s.at τ) = .done (s1.setEng g ((s.eng g).setX (jD w) (BitVec.ofNat 32
      (((s1.flue (s.eng g).gen q.flue).waiting (s.inSlot g (jB w) q.flue) (s.eng g).rank).filter
        fun x => x.seq != seq).length))) := by
    have hport : (s.at τ).inPort g (jB w) = some q := hq
    simp only [jSavail, hport, show (s.at τ).eng g = s.eng g from rfl, show (s.at τ).flueCatch (s.eng g).gen q.flue = s1 from rfl,
      heng, hslot, hget, bne_comm (a := seq)]
  refine issue_registerResult_from h (by simp [isR, hop, hfn]) hact ?_
  rw [haside.now]
  exact Nat.le_max_right _ _

/-- Settles O23: the two reads through `streamRead_clean`, SAVAIL by `savail_row`. -/
theorem streamReadsStepThroughTheItem : Obligations.StreamReadsStepThroughTheItem := by
  intro g τ s w seq pos q h hq hcur e d len next moved
  have hread := fun n => streamRead_clean (s := s.at τ) n (runs_clean h) hq hcur
  refine ⟨fun hop hfn => ?_, fun hop => ?_, fun hop hfn => ?_⟩
  · refine answers_next (issue_registerResult (mine := isR 0x20 1) h (by simp [isR, hop, hfn]) ?_)
    simp only [jSrdw, hread, eng_setEng, setEng_setEng]
    rfl
  · refine answers_next (issue_registerResult (mine := isR 0x38 0) h ?_ ?_)
    · simp [isR, hop, fn_of_legal_stream (runs_legal h) (Or.inl hop)]
    · simp only [jVsrd, hread, eng_setEng, setEng_setEng]
      rfl
  · exact answers_next (savail_row h hq hcur hop hfn)

end Sys2Proof.Machine

end

section

/-! CERTIFICATE. O22: SLEN, and the ends of waits for an item and for a credit. -/

namespace Sys2Proof.Machine

theorem getX_setX (e : Engine) (d r : Nat) (v : Word) : (e.setX d v).getX r = if r = d ∧ d ≠ 0 then v else e.getX r := by
  unfold Engine.getX Engine.setX
  by_cases hd : d = 0
  · simp [hd]
  · by_cases hr : r = d
    · subst hr
      simp [hd]
    · simp [hd, hr, amap_get_set_ne _ _ _ hr]

theorem setX_kick (e : Engine) (d τ : Nat) (v : Word) :
    (e.setX d v).kick τ = { e with x := if d = 0 then e.x else AMap.set e.x d v, wdHeld := 0, wdAt := τ } := by
  unfold Engine.setX
  split <;> rfl

theorem runs_mine {s : State} {g w : Nat} (h : s.Runs g w) : s.libKernel g = false := by
  obtain ⟨_, hlib, _⟩ := h
  exact hlib

theorem stream_length {w : Nat} (hop : jOp w = 0x20) : jeisLen w = 4 := jeisLen_short (by omega)

theorem finishCur_spec (s : State) (g p f : Nat) :
    (∃ ic, (s.finishCur g p f).eng g = { s.eng g with inCur := ic }) ∧ (s.finishCur g p f).engPc g = s.engPc g := by
  unfold State.finishCur
  extract_lets e
  split
  · exact ⟨⟨_, rfl⟩, rfl⟩
  next c _ =>
    have haside : Aside (s.setEng g { e with inCur := AMap.del e.inCur p })
        (((s.setEng g { e with inCur := AMap.del e.inCur p }).flueFinish e.gen f c.1 (s.inSlot g p f, e.rank)).outAdvance e.gen
          e.node) := ((Aside.refl _).flueFinish ..).outAdvance ..
    exact ⟨⟨_, (haside.eng g).trans (eng_setEng _ _ _)⟩, haside.engPc⟩

theorem takeItem_spec (s : State) (g p f : Nat) (x : Item) :
    (s.takeItem g p f x).eng g = { s.eng g with inCur := AMap.set (s.eng g).inCur p (x.seq, 0) } ∧
    (s.takeItem g p f x).engPc g = s.engPc g ∧ (s.takeItem g p f x).mems = s.mems := by
  unfold State.takeItem State.flueTake
  extract_lets e y z
  split
  · exact ⟨eng_setEng _ _ _, rfl, rfl⟩
  · exact ⟨eng_setEng _ _ _, rfl, rfl⟩

section

variable {s s1 : State} {g : Fin 132} {τ w : Nat} {q : GPort} (h : s.Runs g w) (hop : jOp w = 0x20)
include h hop

/-- SLEN where an item is there. -/
theorem slen_takes {x : Item} (hfn : jFn w = 0) (hq : s.inPort g (jB w) = some q)
    (hs1 : s1 = ((s.at τ).flueCatch (s.eng g).gen q.flue).finishCur g (jB w) q.flue) (hx : s1.nextItem g (jB w) q.flue = some x) :
    let t := s.issue g τ (isR 0x20 0) (jSlen g τ)
    (t.eng g).getX (jD w) = (if jD w = 0 then 0 else BitVec.ofNat 32 x.len) ∧
    (∀ r, r ≠ jD w → (t.eng g).getX r = (s.eng g).getX r) ∧ AMap.get (0, 1) (t.eng g).inCur (jB w) = (x.seq, 0) ∧
    (t.eng g).wdCount τ = 0 ∧ t.engPc g = (loopNext (s.engPc g) 4 (s.eng g).loops).1 % 2 ^ 32 ∧ t.mems = s1.mems ∧
    (t.eng g).wait = none := by
  intro t
  obtain ⟨htake, htpc, htmems⟩ := takeItem_spec s1 g (jB w) q.flue x
  have hact : jSlen g τ w (s.at τ) = .done ((s1.takeItem g (jB w) q.flue x).setEng g
      ((((s1.takeItem g (jB w) q.flue x).eng g).setX (jD w) (BitVec.ofNat 32 x.len)).kick τ)) := by
    have hport : (s.at τ).inPort g (jB w) = some q := hq
    have hsame : ((s.at τ).flueCatch ((s.at τ).eng g).gen q.flue).finishCur g (jB w) q.flue = s1 := hs1.symm
    simp only [jSlen, hport, hsame, hx]
  obtain ⟨pv, ht⟩ := issue_completed (mine := isR 0x20 0) h (by simp [isR, hop, hfn]) hact
  have hcatch : Aside (s.at τ) ((s.at τ).flueCatch (s.eng g).gen q.flue) := (Aside.refl _).flueCatch ..
  obtain ⟨⟨ic, hic⟩, hpc⟩ := finishCur_spec ((s.at τ).flueCatch (s.eng g).gen q.flue) g (jB w) q.flue
  rw [← hs1] at hic hpc
  rw [hcatch.eng g] at hic
  rw [hcatch.engPc] at hpc
  have hown : t.eng g = { s.eng g with
      x := if jD w = 0 then (s.eng g).x else AMap.set (s.eng g).x (jD w) (BitVec.ofNat 32 x.len),
      inCur := AMap.set (s1.eng g).inCur (jB w) (x.seq, 0),
      wdHeld := 0, wdAt := τ, loops := (t.eng g).loops, prev := pv } := by
    rw [show t = _ from ht, completed_eng, eng_setEng, setX_kick, htake, hic]
    rfl
  have hx' : ∀ r, (t.eng g).getX r = ((s.eng g).setX (jD w) (BitVec.ofNat 32 x.len)).getX r := fun r => by
    rw [hown]
    by_cases hd : jD w = 0 <;> simp only [Engine.getX, Engine.setX, hd, if_true, if_false]
  have hwait : (t.eng g).wait = none := by
    rw [hown]
    exact runs_wait h
  refine ⟨?_, fun r hr => ?_, ?_, ?_, ?_, ?_, hwait⟩
  · rw [hx', getX_setX]
    by_cases hd : jD w = 0
    · simp [hd, Engine.getX]
    · simp [hd]
  · rw [hx', getX_setX, if_neg fun hc => hr hc.1]
  · rw [hown]
    exact amap_set_get _ _ _ _
  · unfold Engine.wdCount
    rw [hwait, hown]
    show 0 + (τ - τ) = 0
    omega
  · have hpc2 : ∀ e, ((s1.takeItem g (jB w) q.flue x).setEng g e).engPc g = s.engPc g := fun _ => htpc.trans hpc
    rw [show t = _ from ht, completed_engPc, hpc2, eng_setEng, setX_kick, htake, hic, stream_length hop]
    rfl
  · rw [show t = _ from ht, completed_mems]
    exact htmems

/-- SLEN where no item is there. -/
theorem slen_waits (hfn : jFn w = 0) (hq : s.inPort g (jB w) = some q)
    (hs1 : s1 = ((s.at τ).flueCatch (s.eng g).gen q.flue).finishCur g (jB w) q.flue) (hx : s1.nextItem g (jB w) q.flue = none) :
    let t := s.issue g τ (isR 0x20 0) (jSlen g τ)
    (t.eng g).wait = some (.item (jB w)) ∧ t.engPc g = s.engPc g ∧ (t.eng g).x = (s.eng g).x ∧ t.mems = s1.mems := by
  intro t
  have hact : jSlen g τ w (s.at τ) = .wait (.item (jB w)) s1 := by
    have hport : (s.at τ).inPort g (jB w) = some q := hq
    have hsame : ((s.at τ).flueCatch ((s.at τ).eng g).gen q.flue).finishCur g (jB w) q.flue = s1 := hs1.symm
    simp only [jSlen, hport, hsame, hx]
  have ht : t = s1.setEng g ((s1.eng g).waitFor τ (.item (jB w))) := issue_wait h (by simp [isR, hop, hfn]) hact
  have hcatch : Aside (s.at τ) ((s.at τ).flueCatch (s.eng g).gen q.flue) := (Aside.refl _).flueCatch ..
  obtain ⟨⟨ic, hic⟩, hpc⟩ := finishCur_spec ((s.at τ).flueCatch (s.eng g).gen q.flue) g (jB w) q.flue
  rw [← hs1] at hic hpc
  rw [hcatch.eng g] at hic
  rw [hcatch.engPc] at hpc
  rw [ht, eng_setEng, hic]
  exact ⟨rfl, hpc, rfl, rfl⟩

omit h hop

/-- SBEG where the flue has a credit. -/
theorem jSbeg_opens (hq : s.outPort g (jB w) = some q) (hlo : 1 ≤ ((s.eng g).getX (jA w)).toNat)
    (hhi : ((s.eng g).getX (jA w)).toNat ≤ 65536) (hopen : ∀ o ∈ (s.eng g).outCur, o.1 ≠ jB w)
    (hfit : ((s.eng g).getX (jA w)).toNat + 8 ≤ (s.flueDef (s.eng g).gen q.flue).bytes) :
    jSbeg g w (s.at τ) =
      if s.flueCredit (s.eng g).gen q.flue = false then .wait (.credit (jB w)) (s.at τ)
      else .done (((s.at τ).setEng g { s.eng g with
        outCur := AMap.set (s.eng g).outCur (jB w) (s.flue (s.eng g).gen q.flue).claimed }).flueClaim (s.eng g).gen q.flue
          ((s.eng g).getX (jA w)).toNat (s.eng g).rank) := by
  have hport : (s.at τ).outPort g (jB w) = some q := hq
  have hany : ((s.at τ).eng g).outCur.any (fun o => o.1 == jB w) = false := by
    rw [List.any_eq_false]
    exact fun o ho => by simpa using hopen o ho
  have hbad : ¬((((s.at τ).eng g).getX (jA w)).toNat = 0 ∨ 65536 < (((s.at τ).eng g).getX (jA w)).toNat ∨
      (((s.at τ).eng g).outCur.any (fun o => o.1 == jB w)) = true ∨
      ((s.at τ).flueDef ((s.at τ).eng g).gen q.flue).bytes < (((s.at τ).eng g).getX (jA w)).toNat + 8) := by
    rw [hany]
    show ¬(((s.eng g).getX (jA w)).toNat = 0 ∨ 65536 < ((s.eng g).getX (jA w)).toNat ∨ false = true ∨
      (s.flueDef (s.eng g).gen q.flue).bytes < ((s.eng g).getX (jA w)).toNat + 8)
    simp only [Bool.false_eq_true, false_or]
    omega
  simp only [jSbeg, hport, if_neg hbad]
  rfl

theorem claim_aside (u : State) (gen i n r : Nat) : Aside u (u.flueClaim gen i n r) :=
  (Aside.refl u).flueClaim gen i n r

/-- What SBEG leaves of its engine where the flue has a credit. -/
theorem sbeg_eng (h : s.Runs g w) (hop : jOp w = 0x20) (hfn : jFn w = 2) (hq : s.outPort g (jB w) = some q)
    (hlo : 1 ≤ ((s.eng g).getX (jA w)).toNat) (hhi : ((s.eng g).getX (jA w)).toNat ≤ 65536)
    (hopen : ∀ o ∈ (s.eng g).outCur, o.1 ≠ jB w)
    (hfit : ((s.eng g).getX (jA w)).toNat + 8 ≤ (s.flueDef (s.eng g).gen q.flue).bytes)
    (hcredit : s.flueCredit (s.eng g).gen q.flue = true) :
    ∃ ls pv, (s.issue g τ (isR 0x20 2) (jSbeg g)).eng g = { s.eng g with
      outCur := AMap.set (s.eng g).outCur (jB w) (s.flue (s.eng g).gen q.flue).claimed, loops := ls, prev := pv } := by
  have hact := (jSbeg_opens (τ := τ) hq hlo hhi hopen hfit).trans (if_neg (by simp [hcredit]))
  obtain ⟨ls, pv, hissued⟩ := issue_completed_eng (mine := isR 0x20 2) (act := jSbeg g) h (by simp [isR, hop, hfn]) hact
  refine ⟨ls, pv, ?_⟩
  rw [hissued, (claim_aside _ _ _ _ _).eng g, eng_setEng]

end

/-- An engine that waits runs its instruction again. -/
theorem resume_completes {s : State} {g τ : Nat} {mine : Nat → Bool} {act : Nat → State → JRes}
    (h : (((s.setEng g ((s.eng g).wake τ)).issue g τ mine act).eng g).wait = none) :
    s.resume g τ mine act = (s.setEng g ((s.eng g).wake τ)).issue g τ mine act := by
  simp only [State.resume, h, Option.isSome_none, Bool.false_eq_true, if_false]

theorem libKernel_wake (s : State) (g τ : Nat) : (s.setEng g ((s.eng g).wake τ)).libKernel g = s.libKernel g := by
  simp only [State.libKernel, eng_setEng]
  rfl

section

variable {s : State} {g : Fin 132} {τ w : Nat} {q : GPort} (h : (s.setEng g ((s.eng g).wake τ)).Runs g w) (hop : jOp w = 0x20)
include h hop

theorem itemWait_ends {x : Item} (hwait : (s.eng g).wait = some (.item (jB w))) (hfn : jFn w = 0) (hq : s.inPort g (jB w) = some q)
    (hclose : s.closeOrder (s.eng g).gen q.flue = false)
    (hx : ((((s.setEng g ((s.eng g).wake τ)).at τ).finishCur g (jB w) q.flue).nextItem g (jB w) q.flue) = some x) :
    Answers (exec (.streamWaitEnd g τ) s) fun t =>
      (t.eng g).wait = none ∧ (t.eng g).getX (jD w) = (if jD w = 0 then 0 else BitVec.ofNat 32 x.len) ∧
      AMap.get (0, 1) (t.eng g).inCur (jB w) = (x.seq, 0) ∧
      t.mems = (((s.setEng g ((s.eng g).wake τ)).at τ).finishCur g (jB w) q.flue).mems := by
  have heng : (s.setEng g ((s.eng g).wake τ)).eng g = (s.eng g).wake τ := eng_setEng _ _ _
  have hport : (s.setEng g ((s.eng g).wake τ)).inPort g (jB w) = some q := by
    rw [State.inPort, heng]
    exact hq
  have hcatch : ((s.setEng g ((s.eng g).wake τ)).at τ).flueCatch (s.eng g).gen q.flue = (s.setEng g ((s.eng g).wake τ)).at τ := by
    refine if_neg ?_
    show ¬ s.closeOrder (s.eng g).gen q.flue = true
    simp [hclose]
  obtain ⟨hd, _, hcur, _, _, hmems, hnone⟩ := slen_takes h hop hfn hport (by
    rw [heng]
    exact (congrArg (fun u => State.finishCur u g (jB w) q.flue) hcatch).symm) hx
  refine ⟨(s.setEng g ((s.eng g).wake τ)).issue g τ (isR 0x20 0) (jSlen g τ), ?_, hnone, hd, hcur, hmems⟩
  have hlib : s.libKernel g = false := (libKernel_wake s g τ).symm.trans (runs_mine h)
  show execStreamWaitEnd g τ s = _
  simp only [execStreamWaitEnd, hwait, hq, hclose, hlib, Bool.false_eq_true, if_false, resume_completes hnone]

theorem creditWait_ends (hwait : (s.eng g).wait = some (.credit (jB w))) (hfn : jFn w = 2) (hq : s.outPort g (jB w) = some q)
    (hlo : 1 ≤ ((s.eng g).getX (jA w)).toNat) (hhi : ((s.eng g).getX (jA w)).toNat ≤ 65536)
    (hopen : ∀ o ∈ (s.eng g).outCur, o.1 ≠ jB w)
    (hfit : ((s.eng g).getX (jA w)).toNat + 8 ≤ (s.flueDef (s.eng g).gen q.flue).bytes)
    (hcredit : s.flueCredit (s.eng g).gen q.flue = true) :
    Answers (exec (.streamWaitEnd g τ) s) fun t => (t.eng g).wait = none ∧
      AMap.get ((s.flue (s.eng g).gen q.flue).claimed + 1) (t.eng g).outCur (jB w) = (s.flue (s.eng g).gen q.flue).claimed := by
  have heng : (s.setEng g ((s.eng g).wake τ)).eng g = (s.eng g).wake τ := eng_setEng _ _ _
  have hport : (s.setEng g ((s.eng g).wake τ)).outPort g (jB w) = some q := by
    rw [State.outPort, heng]
    exact hq
  have hopens := sbeg_eng (τ := τ) h hop hfn hport
  rw [heng] at hopens
  obtain ⟨ls, pv, hissued⟩ := hopens hlo hhi hopen hfit hcredit
  have hnone : (((s.setEng g ((s.eng g).wake τ)).issue g τ (isR 0x20 2) (jSbeg g)).eng g).wait = none := by
    rw [hissued]
    rfl
  refine ⟨(s.setEng g ((s.eng g).wake τ)).issue g τ (isR 0x20 2) (jSbeg g), ?_, hnone, ?_⟩
  · have hlib : s.libKernel g = false := (libKernel_wake s g τ).symm.trans (runs_mine h)
    show execStreamWaitEnd g τ s = _
    simp only [execStreamWaitEnd, hwait, hlib, Bool.false_eq_true, if_false, resume_completes hnone]
  · rw [hissued]
    exact amap_set_get _ _ _ _

end

/-- Settles O22: SLEN by whether an item is there, and its wait and that of SBEG through the same instructions. -/
theorem slenTakesTheNextItemAndWaitsEnd : Obligations.SlenTakesTheNextItemAndWaitsEnd := by
  unfold Obligations.SlenTakesTheNextItemAndWaitsEnd
  refine ⟨?_, ?_⟩
  · intro g τ s w q h hop hfn hq s1
    have hstep : exec (.slen g τ) s = .next (s.issue g τ (isR 0x20 0) (jSlen g τ)) := by
      show execSlen g τ s = _
      simp only [execSlen, runs_mine h, Bool.false_eq_true, if_false]
    refine ⟨fun x hx => ?_, fun hx => ⟨_, hstep, slen_waits h hop hfn hq rfl hx⟩⟩
    obtain ⟨hd, hr, hcur, hwd, hpc, hmems, _⟩ := slen_takes h hop hfn hq rfl hx
    exact ⟨_, hstep, hd, hr, hcur, hwd, hpc, hmems⟩
  · intro g τ s w q s0 h hop
    exact ⟨fun x => itemWait_ends h hop, creditWait_ends h hop⟩

end Sys2Proof.Machine

end

section

/-! SUPPORT. What an item that is shown leaves in its flue: an item that is closed stays closed (R216 to R221). -/

namespace Sys2Proof.Machine

theorem flue_setFlue (s : State) (gen i : Nat) (f : Flue) : (s.setFlue gen i f).flue gen i = f := amap_get_set_same _ _ _ _

/-- Flues and the memories' errors are as before. -/
def Beside (s t : State) : Prop := t.memu = s.memu ∧ t.graph.flues = s.graph.flues

theorem Beside.trans {s t u : State} (h : Beside s t) (h' : Beside t u) : Beside s u := ⟨h'.1.trans h.1, h'.2.trans h.2⟩

theorem Beside.ite {s a b : State} {c : Prop} [Decidable c] (ha : Beside s a) (hb : Beside s b) : Beside s (if c then a else b) := by
  split
  · exact ha
  · exact hb

theorem Beside.clean {s t : State} (h : Beside s t) (hs : s.clean) : t.clean := by
  unfold State.clean
  rwa [h.1]

theorem Beside.flue {s t : State} (h : Beside s t) (gen i : Nat) : t.flue gen i = s.flue gen i := by
  unfold State.flue
  rw [h.2]

theorem beside_raise (s : State) (code idx : Nat) (v : List Nat) : Beside s (s.raise code idx v) := by
  obtain ⟨x, hx⟩ := raise_eq s code idx v
  rw [hx]
  exact ⟨rfl, rfl⟩

theorem beside_graphEvent (s : State) (code idx gen : Nat) : Beside s (s.graphEvent code idx gen) := beside_raise ..

theorem beside_memPut (s : State) (m : MemId) (a : Nat) (bs : List Nat) : Beside s (s.memPut m a bs) := by
  cases m <;> exact ⟨rfl, rfl⟩

theorem beside_memWrite {s : State} (hs : s.clean) (m : MemId) (a : Nat) (bs : List Nat) : Beside s (s.memWrite m a bs) := by
  by_cases hbs : bs = []
  · rw [State.memWrite, if_pos hbs]
    exact ⟨rfl, rfl⟩
  · rw [memWrite_clean a hs hbs]
    exact beside_memPut s m a bs

theorem beside_foldl {α : Type} {f : State → α → State} {l : List α} {s : State} (hs : s.clean)
    (hf : ∀ u, u.clean → ∀ x, Beside u (f u x)) : Beside s (l.foldl f s) :=
  List.foldlRecOn (motive := Beside s) l f ⟨rfl, rfl⟩ fun u hu x _ => hu.trans (hf u (hu.clean hs) x)

theorem beside_wr (s : State) (f : Fld) (v : Nat) : Beside s (s.wr f v) := ⟨rfl, rfl⟩
theorem beside_set1 (s : State) (f : Fld) : Beside s (s.set1 f) := ⟨rfl, rfl⟩

theorem beside_wmEval1 (s : State) (m : Nat) : Beside s (s.wmEval1 m) := by
  unfold State.wmEval1
  extract_lets v inv hi lo live
  exact .ite ⟨rfl, rfl⟩ (.ite ((((beside_wr ..).trans (beside_set1 ..)).trans (beside_wr ..)).trans (beside_raise ..))
    (.ite ((beside_wr ..).trans (beside_raise ..)) ⟨rfl, rfl⟩))

theorem beside_wmEval (s : State) : Beside s s.wmEval :=
  (((beside_wmEval1 s 0).trans (beside_wmEval1 _ 1)).trans (beside_wmEval1 _ 2)).trans (beside_wmEval1 _ 3)

theorem beside_chkAbsorb (s : State) (n : Nat) (bs : List Nat) : Beside s (s.chkAbsorb n bs) := by
  unfold State.chkAbsorb
  extract_lets u
  split
  · exact ⟨rfl, rfl⟩
  · split <;> exact ⟨rfl, rfl⟩

theorem beside_chkItem (s : State) (gen f : Nat) (mid : Bool) (bytes : List Nat) (rec : Bool) (n : Nat) :
    Beside s (s.chkItem gen f mid bytes rec n).1 := by
  unfold State.chkItem
  split
  · exact ⟨rfl, rfl⟩
  · extract_lets u held named mode reset s1 v
    have hs1 : Beside s s1 := by
      unfold s1
      split <;> exact ⟨rfl, rfl⟩
    split_ifs
    · exact hs1
    · exact hs1.trans ⟨rfl, rfl⟩
    · exact hs1.trans ⟨rfl, rfl⟩
    · exact hs1.trans (beside_chkAbsorb ..)
    · exact hs1.trans (beside_chkAbsorb ..)

theorem beside_checkItem {s : State} (hs : s.clean) (gen i seq : Nat) (rec : Bool) : Beside s (s.checkItem gen i seq rec) := by
  unfold State.checkItem
  split
  · exact ⟨rfl, rfl⟩
  · refine beside_foldl hs fun u hu n => ?_
    have hitem := fun mid bytes => beside_chkItem u gen i mid bytes rec n
    dsimp only
    split
    · exact (hitem _ _).trans (beside_memWrite ((hitem _ _).clean hu) ..)
    · exact hitem _ _

theorem beside_stampFault {s : State} (hs : s.clean) (gen i seq : Nat) : Beside s (s.stampFault gen i seq) := by
  unfold State.stampFault
  extract_lets d k p n l num a b
  split_ifs
  · exact ⟨rfl, rfl⟩
  · have hn : Beside s (s.setGnode gen k { n with lost := AMap.set n.lost p (l.erase num) }) := ⟨rfl, rfl⟩
    exact hn.trans (beside_memWrite (hn.clean hs) ..)
  · exact ⟨rfl, rfl⟩

theorem flueMarks_spec (s : State) (gen i : Nat) :
    (s.flueMarks gen i).memu = s.memu ∧ ∃ hi st cr, (s.flueMarks gen i).flue gen i =
      { s.flue gen i with high := hi, sticky := st, cross := cr } := by
  unfold State.flueMarks
  extract_lets f d n s1
  have hwm := beside_wmEval s1
  suffices h : s1.memu = s.memu ∧ ∃ hi st cr, s1.flue gen i = { s.flue gen i with high := hi, sticky := st, cross := cr } by
    rw [hwm.1, hwm.flue]
    exact h
  unfold s1
  split_ifs
  · have hevent := beside_graphEvent (s.setFlue gen i { f with high := true, sticky := true, cross := (f.cross + 1) % 256 }) 0x1403 i gen
    exact ⟨hevent.1, _, _, _, (hevent.flue gen i).trans (flue_setFlue _ _ _ _)⟩
  · exact ⟨rfl, _, _, _, flue_setFlue _ _ _ _⟩
  · exact ⟨rfl, _, _, _, rfl⟩

/-! ### Items of a flue -/

/-- The items with serial number `n` are closed. -/
def Flue.closedAt (f : Flue) (n : Nat) : Prop := ∀ y ∈ f.items, y.seq = n → y.closed = true

/-- The flue holds an item with serial number `k`. -/
def Flue.holds (f : Flue) (k : Nat) : Prop := ∃ y ∈ f.items, y.seq = k

theorem Flue.holds.item {f : Flue} {k : Nat} (h : f.holds k) : f.item k ∈ f.items ∧ (f.item k).seq = k := by
  obtain ⟨y, hy, hk⟩ := h
  unfold Flue.item
  cases hfind : f.items.find? (fun x => x.seq == k) with
  | none => exact absurd (List.find?_eq_none.mp hfind y hy) (by simp [hk])
  | some x => exact ⟨List.mem_of_find?_eq_some hfind, by simpa using List.find?_some hfind⟩

theorem Flue.setItem_closedAt {f : Flue} {x : Item} {n : Nat} (h : f.closedAt n) (hx : x.seq = n → x.closed = true) :
    (f.setItem x).closedAt n := by
  intro y hy hn
  obtain ⟨z, hz, rfl⟩ := List.mem_map.mp hy
  by_cases hzx : z.seq = x.seq
  · rw [if_pos hzx] at hn ⊢
    exact hx hn
  · rw [if_neg hzx] at hn ⊢
    exact h z hz hn

theorem Flue.setItem_holds {f : Flue} {x : Item} {k : Nat} (h : f.holds k) : (f.setItem x).holds k := by
  obtain ⟨y, hy, rfl⟩ := h
  refine ⟨_, List.mem_map_of_mem (f := fun y => if y.seq = x.seq then x else y) hy, ?_⟩
  split
  next he => exact he.symm
  · rfl

/-- In clean memory, the items with serial number `n` of a flue are closed. -/
def State.closedItems (s : State) (gen i n : Nat) : Prop := s.clean ∧ (s.flue gen i).closedAt n

section

variable {s : State} {gen i n : Nat} (h : s.closedItems gen i n)
include h

theorem closedItems_setFlue {f : Flue} (hf : f.closedAt n) : (s.setFlue gen i f).closedItems gen i n :=
  ⟨h.1, by rwa [flue_setFlue]⟩

theorem closedItems_beside {t : State} (ht : Beside s t) : t.closedItems gen i n := ⟨ht.clean h.1, by rw [ht.flue]; exact h.2⟩

theorem closedItems_flueMarks : (s.flueMarks gen i).closedItems gen i n := by
  obtain ⟨hmemu, hi, st, cr, hflue⟩ := flueMarks_spec s gen i
  refine ⟨by rw [State.clean, hmemu]; exact h.1, ?_⟩
  rw [hflue]
  exact h.2

theorem closedItems_flueFree (k : Nat) : (s.flueFree gen i k).closedItems gen i n :=
  closedItems_flueMarks (closedItems_setFlue h fun y hy => h.2 y (List.mem_filter.mp hy).1)

/-- Flues hold what they held when an item is dealt to a consumer. -/
theorem closedItems_deal (k : Nat) (hk : (s.flue gen i).holds k) (rec : Bool) (j : Nat) :
    (s.deal gen i k rec j).closedItems gen i n ∧ ((s.deal gen i k rec j).flue gen i).holds k := by
  obtain ⟨hmem, hseq⟩ := hk.item
  unfold State.deal
  split
  next add lost _ =>
    extract_lets f x f' s1 q
    have hf' : f'.closedAt n ∧ f'.holds k :=
      ⟨Flue.setItem_closedAt h.2 fun hn => h.2 x hmem hn, Flue.setItem_holds hk⟩
    have hs1 : s1.closedItems gen i n ∧ (s1.flue gen i).holds k := by
      refine ⟨closedItems_setFlue h hf'.1, ?_⟩
      rw [flue_setFlue]
      exact hf'.2
    split
    · have hb : Beside s1 ((s1.loseFrame gen q (s1.itemFrame gen i x)).graphEvent 0x1404 q gen) :=
        Beside.trans (t := s1.loseFrame gen q (s1.itemFrame gen i x)) ⟨rfl, rfl⟩ (beside_raise ..)
      exact ⟨closedItems_beside hs1.1 hb, by rw [hb.flue]; exact hs1.2⟩
    · exact hs1

theorem closedItems_makeVisible (k : Nat) (hk : (s.flue gen i).holds k) : (s.makeVisible gen i k).closedItems gen i n := by
  obtain ⟨hmem, hseq⟩ := hk.item
  unfold State.makeVisible
  extract_lets f x rec_ f1 s1 s2 s2a f3 s3 s4
  have hs1 : s1.closedItems gen i n ∧ (s1.flue gen i).holds k := by
    refine ⟨closedItems_setFlue h (Flue.setItem_closedAt h.2 fun hn => h.2 x hmem hn), ?_⟩
    rw [flue_setFlue]
    exact Flue.setItem_holds hk
  have hs2 : Beside s1 s2 := by
    unfold s2
    split
    · exact beside_stampFault hs1.1.1 ..
    · exact ⟨rfl, rfl⟩
  have hs2a : Beside s1 s2a := hs2.trans (beside_checkItem (hs2.clean hs1.1.1) ..)
  have hs3 : s3.closedItems gen i n ∧ (s3.flue gen i).holds k := by
    have hf3 : f3.closedAt n ∧ f3.holds k := by
      rw [show f3 = s1.flue gen i from hs2a.flue gen i]
      exact ⟨hs1.1.2, hs1.2⟩
    refine ⟨closedItems_setFlue (closedItems_beside hs1.1 hs2a) hf3.1, ?_⟩
    rw [flue_setFlue]
    exact hf3.2
  have hs4 : s4.closedItems gen i n ∧ (s4.flue gen i).holds k := by
    refine List.foldlRecOn (motive := fun u : State => u.closedItems gen i n ∧ (u.flue gen i).holds k) _ _ hs3 fun u hu j _ => ?_
    obtain ⟨hclosed, hholds⟩ := hu
    exact closedItems_deal hclosed k hholds rec_ j
  split
  · exact closedItems_flueFree hs4.1 k
  · exact hs4.1

end

/-- A fold that keeps its value or takes an element ends with an element. -/
theorem foldl_pick_mem {α : Type} {f : Option α → α → Option α} (hf : ∀ b x, f b x = some x ∨ f b x = b) (l : List α) (b : Option α)
    {x : α} (h : l.foldl f b = some x) : x ∈ l ∨ b = some x := by
  induction l generalizing b with
  | nil => exact Or.inr h
  | cons z l ih =>
    rcases ih _ h with hmem | hb
    · exact Or.inl (List.mem_cons_of_mem _ hmem)
    · rcases hf b z with hz | hz
      · exact Or.inl (by simp [Option.some.inj (hz.symm.trans hb)])
      · exact Or.inr (hz.symm.trans hb)

theorem closedItems_flueShow {s : State} {gen i n : Nat} (h : s.closedItems gen i n) (fuel : Nat) :
    (s.flueShow gen i fuel).closedItems gen i n := by
  induction fuel generalizing s with
  | zero => exact h
  | succ fuel ih =>
    have hvis : ∀ x ∈ (s.flue gen i).items, ((s.makeVisible gen i x.seq).flueShow gen i fuel).closedItems gen i n :=
      fun x hx => ih (closedItems_makeVisible h x.seq ⟨x, hx, rfl⟩)
    have hhid : ∀ x ∈ (s.flue gen i).items.filter (fun x => x.vis == none), x ∈ (s.flue gen i).items :=
      fun x hx => (List.mem_filter.mp hx).1
    unfold State.flueShow
    extract_lets f hidden next
    split
    · split
      · cases hnext : next with
        | none => exact h
        | some x =>
          have hpick : ∀ (b : Option Item) (x : Item), (match b with
              | none => some x
              | some y => if x.clAt < y.clAt ∨ (x.clAt = y.clAt ∧ x.rank < y.rank) then some x else some y) = some x ∨ (match b with
              | none => some x
              | some y => if x.clAt < y.clAt ∨ (x.clAt = y.clAt ∧ x.rank < y.rank) then some x else some y) = b := by
            intro b x
            cases b with
            | none => exact Or.inl rfl
            | some y => exact (em _).imp (fun hc => if_pos hc) fun hc => if_neg hc
          refine hvis x (hhid x ?_)
          rcases foldl_pick_mem hpick _ none hnext with hmem | hno
          · exact (List.mem_filter.mp hmem).1
          · cases hno
      · cases hh : hidden with
        | nil => exact h
        | cons x l =>
          dsimp only
          split
          · exact hvis x (hhid x (by rw [show List.filter _ _ = hidden from rfl, hh]; exact List.mem_cons_self))
          · exact h
    next k m chunk _ =>
      have hskip := fun f' (hf' : Flue.closedAt f' n) => ih (closedItems_setFlue h hf')
      extract_lets skip
      split
      · exact hskip _ h.2
      · split
        next x hx =>
          split
          · have hvisible := closedItems_makeVisible h x.seq ⟨x, hhid x (List.mem_of_find?_eq_some hx), rfl⟩
            have hitems : ∀ y ∈ ((s.makeVisible gen i x.seq).flue gen i).items, y.seq = n → y.closed = true := hvisible.2
            refine ih (closedItems_setFlue hvisible ?_)
            exact hitems
          · exact h
        next =>
          split
          · exact hskip _ h.2
          · exact h

end Sys2Proof.Machine

end

section

/-! CERTIFICATE. O24: writes of streams. -/

namespace Sys2Proof.Machine

theorem flueMarks_mems (s : State) (gen i : Nat) : (s.flueMarks gen i).mems = s.mems := by
  have hevent : ∀ u : State, ∀ code, (u.graphEvent code i gen).mems = u.mems := fun u code => by
    obtain ⟨x, hx⟩ := raise_eq u code i (leBytes 4 (u.graphOf gen).id)
    rw [State.graphEvent, hx]
  have hwm : ∀ (u : State) (m : Nat), (u.wmEval1 m).mems = u.mems := fun u m => by
    have hraise : ∀ (v : State) code val, (v.raise code m val).mems = v.mems := fun v code val => by
      obtain ⟨x, hx⟩ := raise_eq v code m val
      rw [hx]
    unfold State.wmEval1
    extract_lets v inv hi lo live
    split
    · rfl
    · rw [apply_ite State.mems, apply_ite State.mems, hraise, hraise]
      exact (ite_congr rfl (fun _ => rfl) fun _ => ite_self _).trans (ite_self _)
  unfold State.flueMarks
  extract_lets f d n s1
  have hs1 : s1.mems = s.mems := by
    unfold s1
    split_ifs
    · exact hevent _ _
    · rfl
    · rfl
  rw [State.wmEval, hwm, hwm, hwm, hwm, hs1]

theorem flueClaim_clean {s : State} (hclean : s.clean) (gen i n r : Nat) :
    let d := s.flueDef gen i
    let seq := (s.flue gen i).claimed
    ((s.flueClaim gen i n r).flue gen i).claimed = seq + 1 ∧
    (s.flueClaim gen i n r).mems = (s.memPut d.mem (d.slot seq) (leBytes 8 n)).mems := by
  intro d seq
  unfold State.flueClaim
  extract_lets f s1
  have hs1 : s1.clean := hclean
  rw [memWrite_clean _ hs1 (by simp [leBytes])]
  obtain ⟨_, hi, st, cr, hflue⟩ := flueMarks_spec (s1.memPut d.mem (d.slot f.claimed) (leBytes 8 n)) gen i
  refine ⟨?_, (flueMarks_mems _ _ _).trans ?_⟩
  · rw [hflue]
    show ((s1.memPut d.mem (d.slot f.claimed) (leBytes 8 n)).flue gen i).claimed = seq + 1
    rw [(beside_memPut ..).flue, flue_setFlue]
  · cases d.mem <;> rfl

theorem completed_flue (s : State) (g pc : Nat) (e' : Engine) (gen i : Nat) : (s.completed g pc e').flue gen i = s.flue gen i := rfl

/-- A close leaves no item of that number open, whatever it shows (R216). -/
theorem flueClose_closes {s : State} (hclean : s.clean) (gen i seq : Nat) : (s.flueClose gen i seq).closedItems gen i seq := by
  unfold State.flueClose
  extract_lets f x s1 f1 _ y f2
  have hs1 : s1.clean := (beside_memWrite hclean _ _ _).clean hclean
  refine closedItems_flueShow (s := s1.setFlue gen i _) ⟨hs1, ?_⟩ _
  rw [flue_setFlue]
  intro z hz hseq
  obtain ⟨v, hv, rfl⟩ := List.mem_map.mp (show z ∈ f1.items.map _ from hz)
  by_cases hvy : v.seq = y.seq
  · rw [if_pos hvy]
  · rw [if_neg hvy] at hseq ⊢
    exact absurd (hseq.trans (Flue.holds.item ⟨v, hv, hseq⟩).2.symm) hvy

/-- SBEG where the flue has a credit. -/
theorem sbeg_opens {s : State} {g : Fin 132} {τ w : Nat} {q : GPort} (h : s.Runs g w) (hop : jOp w = 0x20) (hfn : jFn w = 2)
    (hq : s.outPort g (jB w) = some q) (hlo : 1 ≤ ((s.eng g).getX (jA w)).toNat)
    (hhi : ((s.eng g).getX (jA w)).toNat ≤ 65536) (hopen : ∀ o ∈ (s.eng g).outCur, o.1 ≠ jB w)
    (hfit : ((s.eng g).getX (jA w)).toNat + 8 ≤ (s.flueDef (s.eng g).gen q.flue).bytes)
    (hcredit : s.flueCredit (s.eng g).gen q.flue = true) :
    let t := s.issue g τ (isR 0x20 2) (jSbeg g)
    let d := s.flueDef (s.eng g).gen q.flue
    let seq := (s.flue (s.eng g).gen q.flue).claimed
    AMap.get (seq + 1) (t.eng g).outCur (jB w) = seq ∧ (t.flue (s.eng g).gen q.flue).claimed = seq + 1 ∧
    t.memBytes d.mem (d.slot seq) 8 = leBytes 8 ((s.eng g).getX (jA w)).toNat ∧ KeepsBytes d.mem (d.slot seq) 8 s t ∧
    (t.eng g).x = (s.eng g).x ∧ t.engPc g = (loopNext (s.engPc g) 4 (s.eng g).loops).1 % 2 ^ 32 := by
  intro t d seq
  have hclean : s.clean := runs_clean h
  have hact := (jSbeg_opens (τ := τ) hq hlo hhi hopen hfit).trans (if_neg (by simp [hcredit]))
  obtain ⟨pv, ht⟩ := issue_completed (mine := isR 0x20 2) (act := jSbeg g) h (by simp [isR, hop, hfn]) hact
  obtain ⟨ls, _, heng⟩ := sbeg_eng (τ := τ) h hop hfn hq hlo hhi hopen hfit hcredit
  have haside := claim_aside ((s.at τ).setEng g { s.eng g with outCur := AMap.set (s.eng g).outCur (jB w) seq }) (s.eng g).gen q.flue
    ((s.eng g).getX (jA w)).toNat (s.eng g).rank
  obtain ⟨hclaimed, hmems⟩ := flueClaim_clean
    (s := (s.at τ).setEng g { s.eng g with outCur := AMap.set (s.eng g).outCur (jB w) seq }) hclean (s.eng g).gen q.flue
    ((s.eng g).getX (jA w)).toNat (s.eng g).rank
  have htmems : t.mems = (s.memPut d.mem (d.slot seq) (leBytes 8 ((s.eng g).getX (jA w)).toNat)).mems := by
    rw [show t = _ from ht, completed_mems]
    refine hmems.trans ?_
    show (State.memPut _ d.mem (d.slot seq) _).mems = _
    cases d.mem <;> rfl
  obtain ⟨hhost, hkept⟩ := memPut_keepsBytes s d.mem (d.slot seq) (leBytes 8 ((s.eng g).getX (jA w)).toNat)
  rw [length_leBytes] at hkept
  refine ⟨?_, ?_, ?_, ⟨?_, fun k y hout => ?_⟩, ?_, ?_⟩
  · rw [show t.eng g = _ from heng]
    exact amap_set_get _ _ _ _
  · rw [show t = _ from ht, completed_flue]
    exact hclaimed
  · rw [memBytes_of_mems htmems]
    have := memBytes_memPut_same s (m := d.mem) (d.slot seq) (bs := leBytes 8 ((s.eng g).getX (jA w)).toNat)
      (shared_ne_line (shared_mem _)) fun _ => leBytes_lt
    rwa [length_leBytes] at this
  · rw [htmems, hhost]
  · rw [memBytes_of_mems htmems, hkept k y hout]
  · rw [show t.eng g = _ from heng]
  · rw [show t = _ from ht, completed_engPc, haside.engPc, haside.eng g, eng_setEng, stream_length hop]
    rfl

/-- SBEG where the flue has none. -/
theorem sbeg_waits {s : State} {g : Fin 132} {τ w : Nat} {q : GPort} (h : s.Runs g w) (hop : jOp w = 0x20) (hfn : jFn w = 2)
    (hq : s.outPort g (jB w) = some q) (hlo : 1 ≤ ((s.eng g).getX (jA w)).toNat)
    (hhi : ((s.eng g).getX (jA w)).toNat ≤ 65536) (hopen : ∀ o ∈ (s.eng g).outCur, o.1 ≠ jB w)
    (hfit : ((s.eng g).getX (jA w)).toNat + 8 ≤ (s.flueDef (s.eng g).gen q.flue).bytes)
    (hcredit : s.flueCredit (s.eng g).gen q.flue = false) :
    let t := s.issue g τ (isR 0x20 2) (jSbeg g)
    (t.eng g).wait = some (.credit (jB w)) ∧ t.engPc g = s.engPc g ∧ t.mems = s.mems := by
  intro t
  have hact := (jSbeg_opens (τ := τ) hq hlo hhi hopen hfit).trans (if_pos hcredit)
  rw [show t = _ from issue_wait (mine := isR 0x20 2) (act := jSbeg g) h (by simp [isR, hop, hfn]) hact, eng_setEng]
  exact ⟨rfl, rfl, rfl⟩

section

variable {s : State} {g : Fin 132} {τ w seq : Nat} {q : GPort} (h : s.Runs g w) (hq : s.outPort g (jB w) = some q)
  (hcur : AMap.get none ((s.eng g).outCur.map fun x => (x.1, some x.2)) (jB w) = some seq)
include h hq hcur

/-- An append that fits the open item. -/
theorem stream_appends {mine : Nat → Bool} {act : Nat → State → JRes} {bs : List Nat} (hmine : mine w = true)
    (hact : act w (s.at τ) = (s.at τ).streamWrite g (jB w) bs) (hbs : bs ≠ []) (hbytes : ∀ b ∈ bs, b < 256)
    (hfit : ((s.flue (s.eng g).gen q.flue).item seq).wr + bs.length ≤ ((s.flue (s.eng g).gen q.flue).item seq).len) :
    let t := s.issue g τ mine act
    let f := s.flue (s.eng g).gen q.flue
    let d := s.flueDef (s.eng g).gen q.flue
    let place := d.slot seq + 8 + (f.item seq).wr
    t.memBytes d.mem place bs.length = bs ∧ KeepsBytes d.mem place bs.length s t ∧
    t.flue (s.eng g).gen q.flue = f.setItem { f.item seq with wr := (f.item seq).wr + bs.length } ∧
    Retired s t τ g (loopNext (s.engPc g) (jeisLen w) (s.eng g).loops).1 (loopNext (s.engPc g) (jeisLen w) (s.eng g).loops).2.1
      (s.eng g) := by
  intro t f d place
  have happend : (s.at τ).streamWrite g (jB w) bs = .done (((s.at τ).memPut d.mem place bs).setFlue (s.eng g).gen q.flue
      (f.setItem { f.item seq with wr := (f.item seq).wr + bs.length })) := by
    have hport : (s.at τ).outPort g (jB w) = some q := hq
    have hopen : AMap.get none (((s.at τ).eng g).outCur.map fun x => (x.1, some x.2)) (jB w) = some seq := hcur
    have hlen : ¬ (((s.at τ).flue ((s.at τ).eng g).gen q.flue).item seq).len <
        (((s.at τ).flue ((s.at τ).eng g).gen q.flue).item seq).wr + bs.length := Nat.not_lt.mpr hfit
    have hput := memWrite_clean (s := s.at τ) (m := d.mem) place (runs_clean h) hbs
    simp only [State.streamWrite, hport, hopen, if_neg hlen]
    exact congrArg (fun u : State => JRes.done (u.setFlue (s.eng g).gen q.flue
      (f.setItem { f.item seq with wr := (f.item seq).wr + bs.length }))) hput
  obtain ⟨hretired, hframe⟩ := issue_done h hmine (hact.trans happend) (memPut_now _ _ _ _) (memPut_regs _ _ _ _)
    fun k _ => memPut_eng _ _ _ _ k
  have hmems : t.mems = (s.memPut d.mem place bs).mems := (congrArg State.mems hframe).trans (by cases d.mem <;> rfl)
  have hgraph := congrArg (fun u : State => u.flue (s.eng g).gen q.flue) hframe
  obtain ⟨hhost, hkept⟩ := memPut_keepsBytes s d.mem place bs
  refine ⟨?_, ⟨?_, fun k y hout => ?_⟩, ?_, ?_⟩
  · rw [memBytes_of_mems hmems]
    exact memBytes_memPut_same s place (shared_ne_line (shared_mem _)) hbytes
  · rw [hmems, hhost]
  · rw [memBytes_of_mems hmems, hkept k y hout]
  · exact hgraph.trans (flue_setFlue _ _ _ _)
  · rwa [show ∀ f', (((s.at τ).memPut d.mem place bs).setFlue (s.eng g).gen q.flue f').eng g = s.eng g from
      fun _ => memPut_eng _ _ _ _ g] at hretired

/-- SEND. -/
theorem send_closes (hop : jOp w = 0x20) (hfn : jFn w = 4) :
    let t := s.issue g τ (isR 0x20 4) (jSend g τ)
    (∀ o ∈ (t.eng g).outCur, o.1 ≠ jB w) ∧ (t.eng g).wdCount τ = 0 ∧ (t.eng g).x = (s.eng g).x ∧
    (∀ y ∈ (t.flue (s.eng g).gen q.flue).items, y.seq = seq → y.closed = true) ∧
    t.engPc g = (loopNext (s.engPc g) 4 (s.eng g).loops).1 % 2 ^ 32 := by
  intro t
  have hclean : s.clean := runs_clean h
  let e' : Engine := { s.eng g with outCur := AMap.del (s.eng g).outCur (jB w) }.kick τ
  have hact : jSend g τ w (s.at τ) = .done (((s.at τ).setEng g e').flueClose (s.eng g).gen q.flue seq) := by
    have hport : (s.at τ).outPort g (jB w) = some q := hq
    have hopen : AMap.get none (((s.at τ).eng g).outCur.map fun x => (x.1, some x.2)) (jB w) = some seq := hcur
    simp only [jSend, hport, hopen]
    rfl
  obtain ⟨pv, ht⟩ := issue_completed (mine := isR 0x20 4) h (by simp [isR, hop, hfn]) hact
  have haside : Aside ((s.at τ).setEng g e') (((s.at τ).setEng g e').flueClose (s.eng g).gen q.flue seq) :=
    (Aside.refl _).flueClose _ _ _
  have hown : t.eng g = { e' with loops := (t.eng g).loops, prev := pv } := by
    rw [show t = _ from ht, completed_eng, haside.eng g, eng_setEng]
  refine ⟨fun o ho => ?_, ?_, ?_, ?_, ?_⟩
  · rw [hown] at ho
    have := (List.mem_filter.mp ho).2
    simpa using this
  · have hwait : (t.eng g).wait = none := by
      rw [hown]
      exact runs_wait h
    unfold Engine.wdCount
    rw [hwait, hown]
    show 0 + (τ - τ) = 0
    omega
  · rw [hown]
    rfl
  · rw [show t = _ from ht, completed_flue]
    exact (flueClose_closes (s := (s.at τ).setEng g e') hclean (s.eng g).gen q.flue seq).2
  · rw [show t = _ from ht, completed_engPc, haside.engPc, haside.eng g, eng_setEng, stream_length hop]
    rfl

end

theorem vecBytes_lt (v : Vec) : ∀ b ∈ vecBytes v, b < 256 := by
  intro b hb
  obtain ⟨_, _, hb⟩ := List.mem_flatMap.mp hb
  exact leBytes_lt hb

/-- Settles O24: SBEG by its credit, SWRW and VSWR by `stream_appends`, SEND by `send_closes`. -/
theorem streamWritesOpenAppendToAndCloseAnItem : Obligations.StreamWritesOpenAppendToAndCloseAnItem := by
  unfold Obligations.StreamWritesOpenAppendToAndCloseAnItem
  refine ⟨?_, ?_⟩
  · intro g τ s w q h hop hfn hq e n d seq hlo hhi hopen hfit
    exact ⟨fun hcredit => answers_next (sbeg_opens h hop hfn hq hlo hhi hopen hfit hcredit),
      fun hcredit => answers_next (sbeg_waits h hop hfn hq hlo hhi hopen hfit hcredit)⟩
  · intro g τ s w seq q h hq hcur e f x d at_
    refine ⟨fun hop hfn hfit => ?_, fun hop hfit => ?_, fun hop hfn => ?_⟩
    · have hdone := stream_appends (τ := τ) (mine := isR 0x20 3) (act := jSwrw g) (bs := leBytes 4 (e.getX (jA w)).toNat) h hq hcur
        (by simp [isR, hop, hfn]) rfl (by simp [leBytes]) (fun _ => leBytes_lt) (by simpa using hfit)
      rw [stream_length hop] at hdone
      simp only [length_leBytes] at hdone
      exact answers_next hdone
    · have hlen : jeisLen w = 4 := jeisLen_short (by omega)
      have hdone := stream_appends (τ := τ) (mine := isR 0x39 0) (act := jVswr g) (bs := vecBytes (e.getV (jD w))) h hq hcur
        (by simp [isR, hop, fn_of_legal_stream (runs_legal h) (Or.inr hop)]) rfl
        (fun hnil => by simpa [hnil] using length_vecBytes (e.getV (jD w))) (vecBytes_lt _) (by rwa [length_vecBytes])
      rw [hlen, length_vecBytes] at hdone
      exact answers_next hdone
    · have hstep : exec (.send g τ) s = .next (s.issue g τ (isR 0x20 4) (jSend g τ)) := by
        show execSend g τ s = _
        simp only [execSend, runs_mine h, Bool.false_eq_true, if_false]
      exact ⟨_, hstep, send_closes h hq hcur hop hfn⟩

end Sys2Proof.Machine

end

section

/-! SUPPORT. Reads and stores of engine memories whose words may be in error: bytes move as in clean memory (R257 to R264). -/

namespace Sys2Proof.Machine

/-- Memories and engines are as before. -/
def KeepsBoth (s t : State) : Prop := t.mems = s.mems ∧ t.engines = s.engines

theorem KeepsBoth.trans {s t u : State} (h : KeepsBoth s t) (h' : KeepsBoth t u) : KeepsBoth s u := ⟨h'.1.trans h.1, h'.2.trans h.2⟩

theorem KeepsBoth.ite {s a b : State} {c : Prop} [Decidable c] (ha : KeepsBoth s a) (hb : KeepsBoth s b) :
    KeepsBoth s (if c then a else b) := by
  split
  · exact ha
  · exact hb

theorem keepsBoth_raiseBy (s : State) (j : List Nat → List Nat → List Nat × List Nat) (code idx τ : Nat) (v : List Nat) :
    KeepsBoth s (s.raiseBy j code idx τ v) := by
  unfold State.raiseBy
  split <;> exact ⟨rfl, rfl⟩

theorem keepsBoth_raise (s : State) (code idx : Nat) (v : List Nat) : KeepsBoth s (s.raise code idx v) := keepsBoth_raiseBy ..

theorem keepsBoth_raiseFirst (s : State) (code idx : Nat) (v : List Nat) : KeepsBoth s (s.raiseFirst code idx v) :=
  keepsBoth_raiseBy ..

theorem keepsBoth_setMemu (s : State) (x : MemUnit) : KeepsBoth s (s.setMemu x) := ⟨rfl, rfl⟩

theorem keepsBoth_memCorrect (s : State) (r k : Nat) : KeepsBoth s (s.memCorrect r k) := by
  induction k with
  | zero => exact ⟨rfl, rfl⟩
  | succ k ih =>
    unfold State.memCorrect
    extract_lets s0 s1
    have hs1 : KeepsBoth s s1 := ih.trans ⟨rfl, rfl⟩
    refine .ite (hs1.trans ?_) hs1
    exact KeepsBoth.trans (t := (s1.wr (MEMR.BKT_LEVEL r) 0).set1 (MEMR.LEAK_OVF_STKY r)) ⟨rfl, rfl⟩ (keepsBoth_raise ..)

theorem keepsBoth_ueWatch (s : State) (r : Nat) : KeepsBoth s (s.ueWatch r) := by
  unfold State.ueWatch State.autoAsk
  extract_lets ch cl xs full u s1
  split_ifs <;> exact ⟨rfl, rfl⟩

theorem keepsBoth_memUe (s : State) (r a : Nat) : KeepsBoth s (s.memUe r a) :=
  (KeepsBoth.trans (t := s.addSat (MEMR.UE r) 1) ⟨rfl, rfl⟩ (keepsBoth_raiseFirst ..)).trans (keepsBoth_ueWatch ..)

theorem keepsBoth_meetWord (s : State) (m : MemId) (k : Nat) : KeepsBoth s (s.meetWord m k).1 := by
  unfold State.meetWord
  extract_lets a r u
  split
  · exact ⟨rfl, rfl⟩
  · split_ifs
    · exact (keepsBoth_setMemu s _).trans (keepsBoth_memCorrect ..)
    · exact (keepsBoth_setMemu s _).trans (keepsBoth_memCorrect ..)
    · exact (keepsBoth_setMemu s _).trans (keepsBoth_memUe ..)

theorem keepsBoth_meetWords (s : State) (m : MemId) (ks : List Nat) : KeepsBoth s (s.meetWords m ks).1 :=
  List.foldlRecOn (motive := fun x : State × Bool => KeepsBoth s x.1) ks _ ⟨rfl, rfl⟩
    fun x hx k _ => hx.trans (keepsBoth_meetWord x.1 m k)

theorem keepsBoth_meetPart (s : State) (m : MemId) (a n : Nat) : KeepsBoth s (s.meetPart m a n) :=
  .ite ⟨rfl, rfl⟩ (keepsBoth_meetWords ..)

theorem crcCheck_of_ne {s : State} {m : MemId} (hm : m ≠ .gddr) (a n : Nat) : s.crcCheck m a n = (s, []) :=
  if_pos (Or.inl hm)

/-- Engines but for the marks of an injected error. -/
def SpoilOnly (s t : State) : Prop :=
  t.mems = s.mems ∧ ∀ k, ∃ b c, t.eng k = { s.eng k with injDmem := b, injImem := c }

theorem spoilOnly_of_keepsBoth {s t : State} (h : KeepsBoth s t) : SpoilOnly s t :=
  ⟨h.1, fun k => ⟨_, _, by unfold State.eng; rw [h.2]⟩⟩

theorem SpoilOnly.trans {s t u : State} (h : SpoilOnly s t) (h' : SpoilOnly t u) : SpoilOnly s u := by
  refine ⟨h'.1.trans h.1, fun k => ?_⟩
  obtain ⟨b, c, hk⟩ := h.2 k
  obtain ⟨b', c', hk'⟩ := h'.2 k
  exact ⟨b', c', by rw [hk', hk]⟩

theorem spoilOnly_setEng (s : State) (g : Nat) (b c : Bool) :
    SpoilOnly s (s.setEng g { s.eng g with injDmem := b, injImem := c }) := by
  refine ⟨rfl, fun k => ?_⟩
  by_cases hk : k = g
  · subst hk
    exact ⟨b, c, eng_setEng _ _ _⟩
  · exact ⟨_, _, eng_setEng_ne _ _ hk⟩

theorem spoilOnly_eccInjected (s : State) (m : MemId) (a n : Nat) : SpoilOnly s (s.eccInjected m a n) := by
  unfold State.eccInjected
  extract_lets _ spoil
  have hspoil : ∀ g b c, SpoilOnly s (spoil g { s.eng g with injDmem := b, injImem := c }) := fun g b c =>
    (spoilOnly_setEng s g b c).trans (spoilOnly_of_keepsBoth ⟨rfl, rfl⟩)
  split
  · exact spoilOnly_of_keepsBoth ⟨rfl, rfl⟩
  · split
    · extract_lets e
      split
      · exact hspoil _ _ _
      · exact spoilOnly_of_keepsBoth ⟨rfl, rfl⟩
    · extract_lets e
      split
      · exact hspoil _ _ _
      · exact spoilOnly_of_keepsBoth ⟨rfl, rfl⟩
    · exact spoilOnly_of_keepsBoth ⟨rfl, rfl⟩

/-- A read gives the bytes of the memory and leaves every byte. -/
theorem memRead_spoilOnly (s : State) {m : MemId} (hm : m ≠ .gddr) (a n : Nat) :
    (s.memRead m a n).1 = s.memBytes m a n ∧ SpoilOnly s (s.memRead m a n).2.2 := by
  refine ⟨rfl, ?_⟩
  unfold State.memRead
  simp only [crcCheck_of_ne hm]
  exact (spoilOnly_eccInjected s m a n).trans (spoilOnly_of_keepsBoth (keepsBoth_meetWords ..))

theorem memPut_of_keepsBoth {s t : State} (h : KeepsBoth s t) (m : MemId) (a : Nat) (bs : List Nat) :
    (t.memPut m a bs).mems = (s.memPut m a bs).mems ∧ (t.memPut m a bs).engines = s.engines := by
  obtain ⟨hmems, hengs⟩ := h
  cases m <;> exact ⟨by simp only [State.memPut, hmems], hengs⟩

theorem keepsBoth_times {s : State} {f : State → State} (hf : ∀ u, KeepsBoth u (f u)) (k : Nat) : KeepsBoth s (s.times f k) := by
  induction k generalizing s with
  | zero => exact ⟨rfl, rfl⟩
  | succ k ih => exact (hf s).trans ih

theorem keepsBoth_injWrite (s : State) (m : MemId) (a n : Nat) : KeepsBoth s (s.injWrite m a n) := by
  unfold State.injWrite
  split
  · exact ⟨rfl, rfl⟩
  · split
    · exact ⟨rfl, rfl⟩
    · exact (keepsBoth_setMemu s _).trans (keepsBoth_times (s := s.setMemu _) (f := State.used) (fun _ => ⟨rfl, rfl⟩) 3)

theorem keepsBoth_cleanWords (s : State) (m : MemId) (a n : Nat) : KeepsBoth s (s.cleanWords m a n) :=
  .ite ⟨rfl, rfl⟩ (keepsBoth_setMemu s _)

theorem memWrite_eq (s : State) {m : MemId} (hm : m ≠ .gddr) (a : Nat) {bs : List Nat} (hbs : bs ≠ []) :
    s.memWrite m a bs = (((s.meetPart m a bs.length).memPut m a bs).cleanWords m a bs.length).injWrite m a bs.length := by
  rw [State.memWrite, if_neg hbs]
  simp only [crcCheck_of_ne hm, State.meetWords, List.foldl_nil]

/-- A store puts its bytes and changes no other. -/
theorem memWrite_mems (s : State) {m : MemId} (hm : m ≠ .gddr) (a : Nat) {bs : List Nat} (hbs : bs ≠ []) :
    (s.memWrite m a bs).mems = (s.memPut m a bs).mems ∧ (s.memWrite m a bs).engines = s.engines := by
  obtain ⟨hmems, hengs⟩ := memPut_of_keepsBoth (keepsBoth_meetPart s m a bs.length) m a bs
  have hclean := keepsBoth_cleanWords ((s.meetPart m a bs.length).memPut m a bs) m a bs.length
  obtain ⟨hmems', hengs'⟩ := hclean.trans (keepsBoth_injWrite _ m a bs.length)
  rw [memWrite_eq s hm a hbs]
  exact ⟨hmems'.trans hmems, hengs'.trans hengs⟩

theorem keepsBoth_memPoison (s : State) (m : MemId) (a n : Nat) : KeepsBoth s (s.memPoison m a n) :=
  .ite ⟨rfl, rfl⟩ (keepsBoth_setMemu s _)

/-- A copy puts the bytes of its source, in error or not. -/
theorem memCopy_mems (s : State) {ms md : MemId} (hms : ms ≠ .gddr) (hmd : md ≠ .gddr) (hline : ∀ k, ms ≠ .line k) (a b : Nat) {n : Nat}
    (hn : 0 < n) :
    (s.memCopy ms a md b n).mems = (s.memPut md b (s.memBytes ms a n)).mems ∧
    ∀ k, ∃ x y, (s.memCopy ms a md b n).eng k = { s.eng k with injDmem := x, injImem := y } := by
  obtain ⟨hbytes, hspoil⟩ := memRead_spoilOnly s hms a n
  have hne : s.memBytes ms a n ≠ [] := fun hnil => by
    have := length_memBytes s a n hline
    rw [hnil] at this
    exact hn.ne this
  obtain ⟨hmems, hengs⟩ := memWrite_mems (s.memRead ms a n).2.2 hmd b hne
  have hpoison : KeepsBoth ((s.memRead ms a n).2.2.memWrite md b (s.memBytes ms a n)) (s.memCopy ms a md b n) := by
    unfold State.memCopy
    extract_lets r s1
    refine .ite ?_ ⟨rfl, rfl⟩
    exact List.foldlRecOn (motive := KeepsBoth s1) _ _ ⟨rfl, rfl⟩ fun u hu e _ => hu.trans (keepsBoth_memPoison ..)
  have hput : ((s.memRead ms a n).2.2.memPut md b (s.memBytes ms a n)).mems = (s.memPut md b (s.memBytes ms a n)).mems := by
    obtain ⟨hsame, _⟩ := hspoil
    cases md <;> simp only [State.memPut, hsame]
  refine ⟨hpoison.1.trans (hmems.trans hput), fun k => ?_⟩
  obtain ⟨x, y, hk⟩ := hspoil.2 k
  exact ⟨x, y, by rw [← hk, State.eng, hpoison.2, hengs]; rfl⟩

end Sys2Proof.Machine

end

section

/-! CERTIFICATE. O25: transfers. -/

namespace Sys2Proof.Machine

/-! ### DMAGO and DMAWT -/

theorem dma_length {w : Nat} (hop : jOp w = 0x1F) : jeisLen w = 4 := jeisLen_short (by omega)

theorem dmago_row {s : State} {g : Fin 132} {τ w : Nat} (h : s.Runs g w) (hop : jOp w = 0x1F) (hfn : jFn w = 0)
    (hdma : (s.eng g).dma = []) (herr : (s.eng g).dmaErr = none) (hfit : ((s.eng g).getX (jA w)).toNat + 32 ≤ 0x8000)
    (hmode : (dmaOf (s.memBytes (.dmem g) ((s.eng g).getX (jA w)).toNat 32)).mode % 4 ≠ 3) :
    Answers (exec (.dmago g τ) s) fun t => RegisterResult s t τ g w { s.eng g with
      dma := AMap.set (s.eng g).dma (jB w) [dmaOf (s.memBytes (.dmem g) ((s.eng g).getX (jA w)).toNat 32)] } := by
  have hread : (s.at τ).engRead g ((s.eng g).getX (jA w)).toNat 32 =
      .ok (s.memBytes (.dmem g) ((s.eng g).getX (jA w)).toNat 32) (s.at τ) :=
    engRead_clean (s := s.at τ) (runs_clean h) (runs_injDmem h) hdma (if_pos hfit)
  have hidle : AMap.get [] (s.eng g).dma (jB w) = [] := by
    rw [hdma]
    rfl
  have hact : jDmago g w (s.at τ) = .done ((s.at τ).setEng g { s.eng g with
      dma := AMap.set (s.eng g).dma (jB w) [dmaOf (s.memBytes (.dmem g) ((s.eng g).getX (jA w)).toNat 32)] }) := by
    simp only [jDmago, show (s.at τ).eng g = s.eng g from rfl, hidle, ne_eq, not_true_eq_false, if_false,
      if_neg (Nat.not_lt.mpr hfit), hread, if_neg hmode]
  have hresult := issue_registerResult (mine := isR 0x1F 0) h (by simp [isR, hop, hfn]) hact
  refine ⟨s.issue g τ (isR 0x1F 0) (jDmago g), ?_, hresult⟩
  obtain ⟨⟨_, _, _, heng, _⟩, _⟩ := hresult
  have hnone : ((s.issue g τ (isR 0x1F 0) (jDmago g)).eng g).dmaErr = none := by rw [heng]; exact herr
  show execDmago g τ s = _
  simp only [execDmago, State.dmaFault, hnone]

theorem dmawt_done {s : State} {g : Fin 132} {τ w : Nat} (h : s.Runs g w) (hop : jOp w = 0x1F) (hfn : jFn w = 1)
    (hidle : AMap.get [] (s.eng g).dma (jB w) = []) :
    Answers (exec (.dmawt g τ) s) fun t => RegisterResult s t τ g w (s.eng g) := by
  have hact : jDmawt g w (s.at τ) = .done (s.at τ) := if_neg (not_not.mpr hidle)
  obtain ⟨hretired, hframe⟩ := issue_done (mine := isR 0x1F 1) h (by simp [isR, hop, hfn]) hact rfl rfl fun _ _ => rfl
  refine answers_next ⟨hretired, ?_⟩
  have := congrArg (fun t : State => { t with now := s.now, regs := s.regs, engines := s.engines }) hframe
  exact this

theorem dmawt_waits {s : State} {g : Fin 132} {τ w : Nat} (h : s.Runs g w) (hop : jOp w = 0x1F) (hfn : jFn w = 1)
    (hbusy : AMap.get [] (s.eng g).dma (jB w) ≠ []) :
    Answers (exec (.dmawt g τ) s) fun t => (t.eng g).wait = some (.dma (jB w)) ∧ t.engPc g = s.engPc g ∧
      (t.eng g).x = (s.eng g).x ∧ t.mems = s.mems := by
  have hact : jDmawt g w (s.at τ) = .wait (.dma (jB w)) (s.at τ) := if_pos hbusy
  refine answers_next ?_
  rw [issue_wait (mine := isR 0x1F 1) h (by simp [isR, hop, hfn]) hact, eng_setEng]
  exact ⟨rfl, rfl, rfl, rfl⟩

/-! ### A row -/

theorem engMem_next {s : State} {g a x : Nat} {m : MemId} (h : s.engMem g a 1 = some (m, x)) (h' : (s.engMem g (a + 1) 1).isSome) :
    s.engMem g (a + 1) 1 = some (m, x + 1) := by
  unfold State.engMem at h h' ⊢
  split_ifs at h h' ⊢ <;> simp_all <;> omega

/-- Bytes at adjacent addresses that the engine can reach lie next to each other in one memory. -/
theorem engMem_run {s : State} {g a x n : Nat} {m : MemId} (h0 : s.engMem g a 1 = some (m, x))
    (h : ∀ i, i < n → (s.engMem g (a + i) 1).isSome) : ∀ i, i < n → s.engMem g (a + i) 1 = some (m, x + i) := by
  intro i hi
  induction i with
  | zero => exact h0
  | succ i ih => exact engMem_next (ih (by omega)) (h (i + 1) hi)

theorem engMem_ne_gddr {s : State} {g a n x : Nat} {m : MemId} (h : s.engMem g a n = some (m, x)) : m ≠ .gddr := by
  rcases engMem_cases h with ⟨rfl, _⟩ | ⟨rfl, _⟩ <;> simp

theorem dmaPlace_nat (s : State) (g a i : Nat) (b : Nat) : s.dmaPlace g false b ((a : Int) + i) = s.engMem g (a + i) 1 := by
  have hneg : ¬ ((a : Int) + i < 0) := by omega
  have hnat : ((a : Int) + i).toNat = a + i := by omega
  simp only [State.dmaPlace, if_neg hneg, Bool.false_eq_true, if_false, hnat]

/-- A row between places of the engine's memories is one copy. -/
theorem dmaRow_copies {s : State} {g : Nat} {d : Dma} {src dst n x y : Nat} {ms md : MemId} (hmode : d.mode % 4 = 0) (hn : 0 < n)
    (hsrc : ∀ i, i < n → s.engMem g (src + i) 1 = some (ms, x + i)) (hdst : ∀ i, i < n → s.engMem g (dst + i) 1 = some (md, y + i)) :
    s.dmaRow g d src dst n = (s.memCopy ms x md y n, none) := by
  have h0 : (d.mode % 2 == 1) = false := by simp; omega
  have h1 : (d.mode / 2 % 2 == 1) = false := by simp; omega
  have hfrom : ∀ i : Nat, s.dmaPlace g (d.mode % 2 == 1) 0 ((src : Int) + i) = s.engMem g (src + i) 1 := fun i => by
    rw [h0, dmaPlace_nat]
  have hto : ∀ i : Nat, s.dmaPlace g (d.mode / 2 % 2 == 1) 1 ((dst : Int) + i) = s.engMem g (dst + i) 1 := fun i => by
    rw [h1, dmaPlace_nat]
  have hstop : ((List.range n).find? fun i => (s.engMem g (src + i) 1).isNone || (s.engMem g (dst + i) 1).isNone) = none := by
    rw [List.find?_eq_none]
    intro i hi
    have := List.mem_range.mp hi
    simp [hsrc i this, hdst i this]
  have hs0 : s.engMem g src 1 = some (ms, x) := hsrc 0 hn
  have hd0 : s.engMem g dst 1 = some (md, y) := hdst 0 hn
  obtain ⟨k, rfl⟩ : ∃ k, n = k + 1 := ⟨n - 1, by omega⟩
  simp only [State.dmaRow, hfrom, hto, hstop, hs0, hd0, Option.getD_none, Option.map_none, Nat.add_zero]

theorem amap_get_del {α : Type} (d : α) (m : AMap α) (k : Nat) : AMap.get d (AMap.del m k) k = d := by
  induction m with
  | nil => rfl
  | cons x m ih =>
    obtain ⟨i, y⟩ := x
    by_cases hi : i = k
    · rw [AMap.del, List.filter_cons_of_neg (by simpa using hi)]
      exact ih
    · simp only [AMap.del, List.filter_cons, show (i != k) = true by simpa using hi, if_true, AMap.get, if_neg hi]
      exact ih

/-- The bytes of a copy, one by one. -/
theorem memPut_memBytes_one (s : State) {ms md : MemId} (hms : ∀ k, ms ≠ .line k) (hmd : ∀ k, md ≠ .line k) (x y n : Nat) {i : Nat}
    (hi : i < n) : (s.memPut md y (s.memBytes ms x n)).memBytes md (y + i) 1 = s.memBytes ms (x + i) 1 := by
  have hlen := length_memBytes s x n hms
  have hlt : ∀ b ∈ s.memBytes ms x n, b < 256 := by
    intro b hb
    obtain ⟨j, hj, rfl⟩ := List.getElem_of_mem hb
    rw [← List.getD_eq_getElem _ 0 hj, getD_memBytes _ _ hms (hlen ▸ hj)]
    exact byteAt_lt _ _ _
  rw [memBytes_one _ _ hmd, memBytes_one _ _ hms, byteAt_memPut _ _ _ hmd hlt, if_pos (by omega), Nat.add_sub_cancel_left,
    getD_memBytes _ _ hms hi]

theorem transfer_row {s : State} {g : Fin 132} {ch : Fin 4} {τ y : Nat} {d : Dma} {md : MemId}
    (hch : AMap.get [] (s.eng g).dma ch = [d]) (hwait : (s.eng g).wait = none) (hmode : d.mode % 4 = 0) (hrows : d.rows = 1)
    (hrow : 1 ≤ d.row) (hsrc : ∀ i, i < d.row → (s.engMem g (d.src + i) 1).isSome)
    (hdst : ∀ i, i < d.row → s.engMem g (d.dst + i) 1 = some (md, y + i)) :
    Answers (exec (.dmaTransferDone g ch τ) s) fun t =>
      AMap.get [] (t.eng g).dma ch = [] ∧ (t.eng g).x = (s.eng g).x ∧ KeepsBytes md y d.row s t ∧
      ∀ i, i < d.row → ∀ m x, s.engMem g (d.src + i) 1 = some (m, x) → t.memBytes md (y + i) 1 = s.memBytes m x 1 := by
  obtain ⟨⟨ms, x⟩, h0⟩ := Option.isSome_iff_exists.mp (hsrc 0 hrow)
  have hrun := engMem_run h0 hsrc
  have hdrow : (s.at τ).dmaRows g d d.rows 0 = ((s.at τ).memCopy ms x md y d.row, none) := by
    have hcopy := dmaRow_copies (s := s.at τ) (g := g) hmode hrow hrun hdst
    rw [Nat.add_zero] at hcopy
    rw [hrows]
    simp only [State.dmaRows, Nat.cast_zero, zero_mul, add_zero, hcopy]
  obtain ⟨hmems, hengs⟩ := memCopy_mems (s.at τ) (engMem_ne_gddr h0) (engMem_ne_gddr (hdst 0 hrow)) (engMem_not_line h0) x y hrow
  obtain ⟨b, c, heng⟩ := hengs g
  have hputmems : ((s.at τ).memPut md y ((s.at τ).memBytes ms x d.row)).mems = (s.memPut md y (s.memBytes ms x d.row)).mems := by
    cases md <;> rfl
  have hstep : exec (.dmaTransferDone g ch τ) s = .next (((s.at τ).memCopy ms x md y d.row).setEng g
      { ((s.at τ).memCopy ms x md y d.row).eng g with
        dma := AMap.del (((s.at τ).memCopy ms x md y d.row).eng g).dma ch, dmaErr := (((s.at τ).memCopy ms x md y d.row).eng g).dmaErr }) := by
    have hw : (((s.at τ).memCopy ms x md y d.row).eng g).wait = none := by rw [heng]; exact hwait
    show execDmaTransferDone g ch τ s = _
    simp only [execDmaTransferDone, hch, hdrow, hw, Option.orElse_none]
  refine ⟨_, hstep, ?_⟩
  have hm : ∀ e, (((s.at τ).memCopy ms x md y d.row).setEng g e).mems = (s.memPut md y (s.memBytes ms x d.row)).mems :=
    fun _ => hmems.trans hputmems
  obtain ⟨hhost, hkept⟩ := memPut_keepsBytes s md y (s.memBytes ms x d.row)
  rw [length_memBytes _ _ _ (engMem_not_line h0)] at hkept
  refine ⟨?_, ?_, ⟨?_, fun k z hout => ?_⟩, fun i hi m z hz => ?_⟩
  · rw [eng_setEng]
    exact amap_get_del _ _ _
  · rw [eng_setEng, heng]
    rfl
  · rw [hm, hhost]
  · rw [memBytes_of_mems (hm _), hkept k z hout]
  · rw [memBytes_of_mems (hm _), memPut_memBytes_one s (engMem_not_line h0) (engMem_not_line (hdst 0 hrow)) x y d.row hi]
    obtain ⟨rfl, rfl⟩ := Prod.mk.inj (Option.some.inj ((hrun i hi).symm.trans hz))
    rfl

/-- Settles O25: DMAGO and DMAWT as issue runs them, the transfer as one copy. -/
theorem transfersStartAreAwaitedAndMoveTheirBytes : Obligations.TransfersStartAreAwaitedAndMoveTheirBytes := by
  unfold Obligations.TransfersStartAreAwaitedAndMoveTheirBytes
  refine ⟨?_, ?_⟩
  · intro g τ s w h hop e a
    exact ⟨dmago_row h hop, dmawt_done h hop, dmawt_waits h hop⟩
  · intro g ch τ s d md y _ hch hwait hmode hrows hrow _ hsrc hdst
    exact transfer_row hch hwait hmode hrows hrow hsrc hdst

end Sys2Proof.Machine

end

section

/-! CERTIFICATE. O27: kernels start with their registers set. -/

namespace Sys2Proof.Machine

theorem runner_wr (s : State) {f : Fld} (v n : Nat)
    (hf : ∀ k, (ENG.STAT_SERVING k).key ≠ f.key ∧ (ENG.STAT_SERVES k).key ≠ f.key) : (s.wr f v).runner n = s.runner n :=
  runner_congr (fun k => ⟨rd_wr_ne _ _ (hf k).1, rd_wr_ne _ _ (hf k).2⟩) n

/-- Fields at the bottom of their words do not say who runs an engine's kernel. -/
theorem serving_ne_of_mod {f : Fld} (hf : f.key % 32 = 0) (k : Nat) :
    (ENG.STAT_SERVING k).key ≠ f.key ∧ (ENG.STAT_SERVES k).key ≠ f.key := by
  have := serving_key k
  omega

theorem serving_ne_barwait (c k : Nat) :
    (ENG.STAT_SERVING k).key ≠ (CL.STAT_BARWAIT c).key ∧ (ENG.STAT_SERVES k).key ≠ (CL.STAT_BARWAIT c).key := by
  constructor <;> refine ofEngine_ne_barwait (g := k) c ?_ <;>
    simp only [Fld.ofEngine, ENG.STAT_SERVING, ENG.STAT_SERVES, Fld.key] <;> omega

/-- Engine `g` has started as rank `r` of node `k` of generation `gen`. -/
def Started (s t : State) (g gen k r : Nat) : Prop :=
  t.rd (ENG.STAT_STATE g) = 1 ∧
  t.rd (ENG.PC g) = (if (s.nodeDef gen k).kind = 0 then (s.nodeDef gen k).entry % 2 ^ 32 else 0) ∧
  (t.eng g).getX 2 = BitVec.ofNat 32 (s.nodeDef gen k).stack ∧ (t.eng g).getX 3 = BitVec.ofNat 32 (s.nodeDef gen k).parDmem ∧
  (t.eng g).getX 30 = BitVec.ofNat 32 r ∧ (∀ i, i ≠ 2 → i ≠ 3 → i ≠ 30 → (t.eng g).getX i = 0) ∧
  (∀ i, (t.eng g).getV i = zeroVec) ∧ (t.eng g).bound = true ∧ (t.eng g).gen = gen ∧ (t.eng g).node = k ∧ (t.eng g).rank = r

theorem Started.congr {s t u : State} {g gen k r : Nat} (h : Started s t g gen k r) (hregs : u.regs = t.regs)
    (hengs : u.engines = t.engines) : Started s u g gen k r := by
  unfold Started State.rd State.eng at *
  rwa [hregs, hengs]

theorem started_keys (g : Nat) : (ENG.STAT_STATE g).key ≠ (ENG.EXC_CAUSE g).key ∧ (ENG.STAT_STATE g).key ≠ (ENG.PC g).key ∧
    (ENG.EXC_CAUSE g).key ≠ (ENG.PC g).key := by
  simp only [ENG.STAT_STATE, ENG.EXC_CAUSE, ENG.PC, Fld.key]
  omega

/-- The engine as a kernel finds it (R178); armed injections stay. -/
def Engine.launched (e : Engine) (d : GNode) (gen node rank limit clocks now : Nat) : Engine :=
  { x := [(2, BitVec.ofNat 32 d.stack), (3, BitVec.ofNat 32 d.parDmem), (30, BitVec.ofNat 32 rank)], cyc0 := clocks, gen := gen,
    node := node, rank := rank, bound := true, wdLim := limit, wdAt := now, injIll := e.injIll, injDmem := e.injDmem,
    injImem := e.injImem }

theorem kernelLoad_eq (s : State) (n gen node rank limit : Nat) :
    ∃ u : State, s.kernelLoad n gen node rank limit = (((u.setEng (s.runner n)
      ((s.eng (s.runner n)).launched (s.nodeDef gen node) gen node rank limit s.clocks s.now)).wr (ENG.STAT_STATE (s.runner n)) 1).wr
        (ENG.EXC_CAUSE (s.runner n)) 0).wr (ENG.PC (s.runner n))
          (if (s.nodeDef gen node).kind = 0 then (s.nodeDef gen node).entry else 0) := ⟨_, rfl⟩

theorem launched_getX (e : Engine) (d : GNode) (gen node rank limit clocks now i : Nat) (h2 : i ≠ 2) (h3 : i ≠ 3) (h30 : i ≠ 30) :
    (e.launched d gen node rank limit clocks now).getX i = 0 := by
  simp only [Engine.getX, Engine.launched, AMap.get, if_neg h2.symm, if_neg h3.symm, if_neg h30.symm, ite_self]

theorem kernelLoad_started (s : State) (n gen node rank limit : Nat) :
    Started s (s.kernelLoad n gen node rank limit) (s.runner n) gen node rank ∧
    (s.kernelLoad n gen node rank limit).rd (ENG.EXC_CAUSE (s.runner n)) = 0 := by
  obtain ⟨u, hu⟩ := kernelLoad_eq s n gen node rank limit
  obtain ⟨hsc, hsp, hcp⟩ := started_keys (s.runner n)
  have heng : (s.kernelLoad n gen node rank limit).eng (s.runner n) =
      (s.eng (s.runner n)).launched (s.nodeDef gen node) gen node rank limit s.clocks s.now := by
    rw [hu, eng_wr, eng_wr, eng_wr, eng_setEng]
  have hstate : (s.kernelLoad n gen node rank limit).rd (ENG.STAT_STATE (s.runner n)) = 1 := by
    rw [hu, rd_wr_ne _ _ hsp, rd_wr_ne _ _ hsc, rd_wr_same]
    rfl
  have hpc : (s.kernelLoad n gen node rank limit).rd (ENG.PC (s.runner n)) =
      (if (s.nodeDef gen node).kind = 0 then (s.nodeDef gen node).entry % 2 ^ 32 else 0) := by
    rw [hu, rd_wr_same, apply_ite (· % 2 ^ (ENG.PC (s.runner n)).w)]
    rfl
  have hcause : (s.kernelLoad n gen node rank limit).rd (ENG.EXC_CAUSE (s.runner n)) = 0 := by
    rw [hu, rd_wr_ne _ _ hcp, rd_wr_same]
    rfl
  refine ⟨⟨hstate, hpc, ?_⟩, hcause⟩
  rw [heng]
  exact ⟨rfl, rfl, rfl, launched_getX _ _ _ _ _ _ _ _, fun _ => rfl, rfl, rfl, rfl, rfl⟩

theorem graphStarted_eq (s : State) : ∃ x u, s.graphStarted = { s with events := x, graph := u } := by
  unfold State.graphStarted
  extract_lets g
  split
  · obtain ⟨x, hx⟩ := raise_eq (s.setGraph { s.graph with owed := false }) 0x1401 0
      (leBytes 4 ((s.setGraph { s.graph with owed := false }).graphOf s.graph.gen).id)
    exact ⟨x, _, hx⟩
  · exact ⟨s.events, s.graph, rfl⟩

theorem Started.graphStarted {s t : State} {g gen k r : Nat} (h : Started s t g gen k r) : Started s t.graphStarted g gen k r := by
  obtain ⟨x, u, hx⟩ := graphStarted_eq t
  rw [hx]
  exact h.congr rfl rfl

theorem kernelLoad_started_of {s t : State} {n gen node : Nat} (hrun : t.runner n = s.runner n)
    (hnode : t.nodeDef gen node = s.nodeDef gen node) (rank limit : Nat) :
    Started s (t.kernelLoad n gen node rank limit) (s.runner n) gen node rank := by
  have hloaded := (kernelLoad_started t n gen node rank limit).1
  unfold Started at hloaded ⊢
  rwa [hrun, hnode] at hloaded

/-- The state of a change of kernels before the kernel is loaded. -/
def State.changing (s : State) (n : Nat) : State :=
  if s.nextGen n = s.graph.gen then s.setGraph { s.graph with due := s.graph.due.erase n } else s

theorem changing_graphOf (s : State) (n gen : Nat) : (s.changing n).graphOf gen = s.graphOf gen := by
  unfold State.changing
  split <;> rfl

theorem changing_runner (s : State) (n k : Nat) : (s.changing n).runner k = s.runner k := by
  unfold State.changing
  split <;> rfl

theorem kernelChange_starts {s : State} {n k r : Nat} (h : (s.graphOf (s.nextGen n)).place n = some (k, r)) :
    Started s (s.kernelChange n) (s.runner n) (s.nextGen n) k r := by
  have hchange : s.kernelChange n = (((s.changing n).wrBoth (ENG.WDOG_LIMIT n) (s.nodeDef (s.nextGen n) k).wdog).kernelLoad n
      (s.nextGen n) k r (s.nodeDef (s.nextGen n) k).wdog).graphStarted := by
    simp only [State.kernelChange, h, State.changing]
  have hrun : ((s.changing n).wrBoth (ENG.WDOG_LIMIT n) (s.nodeDef (s.nextGen n) k).wdog).runner n = s.runner n :=
    (runner_wr (s.changing n) _ n (serving_ne_of_mod (by simp only [ENG.WDOG_LIMIT, Fld.key]; omega))).trans (changing_runner s n n)
  have hnode : ((s.changing n).wrBoth (ENG.WDOG_LIMIT n) (s.nodeDef (s.nextGen n) k).wdog).nodeDef (s.nextGen n) k =
      s.nodeDef (s.nextGen n) k := congrArg (fun x : Graph => x.nodes.getD k {}) (changing_graphOf s n (s.nextGen n))
  rw [hchange]
  exact (kernelLoad_started_of hrun hnode r _).graphStarted

theorem kernelChange_halts {s : State} {n : Nat} (h : (s.graphOf (s.nextGen n)).place n = none) :
    (s.kernelChange n).rd (ENG.STAT_STATE (s.runner n)) = 2 ∧ ((s.kernelChange n).eng (s.runner n)).bound = false := by
  have hchange : s.kernelChange n = (((s.changing n).setEng (s.runner n) { s.eng (s.runner n) with wait := none, bound := false }).wr
      (ENG.STAT_STATE (s.runner n)) 2).graphStarted := by
    simp only [State.kernelChange, h, State.changing]
  obtain ⟨x, u, hx⟩ := graphStarted_eq (((s.changing n).setEng (s.runner n)
    { s.eng (s.runner n) with wait := none, bound := false }).wr (ENG.STAT_STATE (s.runner n)) 2)
  rw [hchange, hx]
  exact ⟨rd_wr_same _ _ _, congrArg Engine.bound (eng_setEng _ _ _)⟩

/-- A late engine with nothing open, stopped. -/
def State.lateStopped (s : State) (n : Nat) : State :=
  ((s.setEng (s.runner n) { s.eng (s.runner n) with wait := none, outCur := [], inCur := [], stopAt := true }).wr
    (ENG.STAT_STATE (s.runner n)) 2).barShow (s.clusterOf (s.runner n))

theorem lateStop_eq {s : State} {n : Nat} (hout : (s.eng (s.runner n)).outCur = []) :
    ∃ x, s.lateStop n = { s.lateStopped n with events := x } := by
  unfold State.lateStop
  simp only [hout, List.foldl_nil]
  exact raise_eq _ _ _ _

theorem lateStopped_runner (s : State) (n k : Nat) : (s.lateStopped n).runner k = s.runner k := by
  refine (runner_wr _ _ k (serving_ne_barwait _)).trans (runner_wr _ _ k (serving_ne_of_mod ?_))
  simp only [ENG.STAT_STATE, Fld.key]
  omega

theorem late_changes {s : State} {n : Nat} (hout : (s.eng (s.runner n)).outCur = []) (hin : s.inFlues (s.runner n) = []) :
    ((s.lateStop n).lateDrain n).lateLeft n = false ∧ ((s.lateStop n).lateDrain n).runner n = s.runner n ∧
    ((s.lateStop n).lateDrain n).nextGen n = s.nextGen n ∧ ∀ gen, ((s.lateStop n).lateDrain n).graphOf gen = s.graphOf gen := by
  obtain ⟨x, hx⟩ := lateStop_eq hout
  have hrun : (s.lateStop n).runner n = s.runner n := by
    rw [hx]
    exact lateStopped_runner s n n
  have heng : (s.lateStop n).eng (s.runner n) =
      { s.eng (s.runner n) with wait := none, outCur := [], inCur := [], stopAt := true } := by
    rw [hx]
    exact eng_setEng _ _ _
  have hgraph : (s.lateStop n).graph = s.graph := by
    rw [hx]
    rfl
  have hof : ∀ gen, (s.lateStop n).graphOf gen = s.graphOf gen := fun gen => by
    unfold State.graphOf
    rw [hgraph]
  have hflues : (s.lateStop n).inFlues (s.runner n) = [] := by
    rw [← hin]
    unfold State.inFlues State.nodeDef
    simp only [heng, hof]
  have hdrain : (s.lateStop n).lateDrain n = s.lateStop n := by
    unfold State.lateDrain
    simp only [hrun, hflues, List.foldl_nil]
  rw [hdrain]
  refine ⟨?_, hrun, ?_, hof⟩
  · unfold State.lateLeft
    simp only [hrun, hflues, List.any_nil]
  · unfold State.nextGen State.gens
    simp only [hrun, heng, hgraph, hof]

theorem rankRejoin_spec (s : State) (gen k r : Nat) :
    (s.rankRejoin gen k r).regs = s.regs ∧ (s.rankRejoin gen k r).engines = s.engines ∧
    ((s.rankRejoin gen k r).gnode gen k).faulted.contains r = false := by
  unfold State.rankRejoin
  extract_lets n s1
  have hs1 : (s1.gnode gen k).faulted.contains r = false := by
    rw [show s1.gnode gen k = { n with faulted := n.faulted.filter fun x => x != r } from amap_get_set_same _ _ _ _]
    simp
  refine List.foldlRecOn (motive := fun t : State => t.regs = s.regs ∧ t.engines = s.engines ∧
    (t.gnode gen k).faulted.contains r = false) _ _ ⟨rfl, rfl, hs1⟩ fun u hu p _ => ?_
  dsimp only
  split
  · exact hu
  · exact hu

theorem nodeRestart_row {s : State} {n : Fin 128} {τ : Nat}
    (hgo : s.svcRunning ∧ s.rd (ENG.STAT_STATE (s.runner n)) = 3 ∧ (s.eng (s.runner n)).bound ∧
      s.graph.stopped.contains (s.eng (s.runner n)).gen = false ∧
      (!((s.nodeDef (s.eng (s.runner n)).gen (s.eng (s.runner n)).node).si.getD 0 {}).used ||
        AMap.get 0 (s.flue (s.eng (s.runner n)).gen
          ((s.nodeDef (s.eng (s.runner n)).gen (s.eng (s.runner n)).node).si.getD 0 {}).flue).deal
          ((s.flueDef (s.eng (s.runner n)).gen
            ((s.nodeDef (s.eng (s.runner n)).gen (s.eng (s.runner n)).node).si.getD 0 {}).flue).consumer
            (2 * 4096 + 4 * (s.eng (s.runner n)).node)) == 0) ∧
      (s.gnode (s.eng (s.runner n)).gen (s.eng (s.runner n)).node).gone.contains (s.eng (s.runner n)).rank = false) :
    Answers (exec (.nodeRestart n τ) s) fun t =>
      t.rd (ENG.STAT_STATE (s.runner n)) = 1 ∧ t.rd (ENG.EXC_CAUSE (s.runner n)) = 0 ∧
      (t.eng (s.runner n)).node = (s.eng (s.runner n)).node ∧ (t.eng (s.runner n)).rank = (s.eng (s.runner n)).rank ∧
      (t.gnode (s.eng (s.runner n)).gen (s.eng (s.runner n)).node).faulted.contains (s.eng (s.runner n)).rank = false := by
  obtain ⟨⟨hstate, _, _, _, _, _, _, _, _, hnode, hrank⟩, hcause⟩ := kernelLoad_started (s.at τ) n (s.eng (s.runner n)).gen
    (s.eng (s.runner n)).node (s.eng (s.runner n)).rank (s.cfg (ENG.WDOG_LIMIT n))
  obtain ⟨hregs, hengs, hfaulted⟩ := rankRejoin_spec ((s.at τ).kernelLoad n (s.eng (s.runner n)).gen (s.eng (s.runner n)).node
    (s.eng (s.runner n)).rank (s.cfg (ENG.WDOG_LIMIT n))) (s.eng (s.runner n)).gen (s.eng (s.runner n)).node (s.eng (s.runner n)).rank
  have hstep : exec (.nodeRestart n τ) s = .next ((((s.at τ).kernelLoad n (s.eng (s.runner n)).gen (s.eng (s.runner n)).node
      (s.eng (s.runner n)).rank (s.cfg (ENG.WDOG_LIMIT n))).rankRejoin (s.eng (s.runner n)).gen (s.eng (s.runner n)).node
      (s.eng (s.runner n)).rank).graphEvent 0x1405 (s.eng (s.runner n)).node (s.eng (s.runner n)).gen) :=
    congrArg Host.Outcome.next (if_pos hgo)
  refine ⟨_, hstep, ?_⟩
  obtain ⟨x, hx⟩ := raise_eq (((s.at τ).kernelLoad n (s.eng (s.runner n)).gen (s.eng (s.runner n)).node
      (s.eng (s.runner n)).rank (s.cfg (ENG.WDOG_LIMIT n))).rankRejoin (s.eng (s.runner n)).gen (s.eng (s.runner n)).node
      (s.eng (s.runner n)).rank) 0x1405 (s.eng (s.runner n)).node
    (leBytes 4 ((((s.at τ).kernelLoad n (s.eng (s.runner n)).gen (s.eng (s.runner n)).node
      (s.eng (s.runner n)).rank (s.cfg (ENG.WDOG_LIMIT n))).rankRejoin (s.eng (s.runner n)).gen (s.eng (s.runner n)).node
      (s.eng (s.runner n)).rank).graphOf (s.eng (s.runner n)).gen).id)
  rw [State.graphEvent, hx]
  unfold State.rd State.eng at *
  simp only [hregs, hengs]
  exact ⟨hstate, hcause, hnode, hrank, hfaulted⟩

theorem late_row {s : State} {n : Fin 128} {τ k r : Nat} (hdue : s.graph.due.contains n.val = true) (hold : s.engOld n = true)
    (hlate : (s.graphOf ((s.eng (s.runner n)).gen + 1)).since +
      1000000 * max 1 (s.graphOf ((s.eng (s.runner n)).gen + 1)).drain ≤ τ)
    (hdrained : s.engDrained (s.runner n) = false) (hstop : (s.eng (s.runner n)).stopAt = false)
    (hout : (s.eng (s.runner n)).outCur = []) (hin : s.inFlues (s.runner n) = [])
    (hplace : (s.graphOf (s.nextGen n)).place n = some (k, r)) :
    Answers (exec (.graphDrainLate n τ) s) fun t => Started s t (s.runner n) (s.nextGen n) k r := by
  obtain ⟨hleft, hrun, hgen, hof⟩ := late_changes (s := s.at τ) (n := n) hout hin
  have hstep : exec (.graphDrainLate n τ) s = .next ((((s.at τ).lateStop n).lateDrain n).kernelChange n) := by
    show execGraphDrainLate n τ s = _
    simp only [execGraphDrainLate, if_pos (show _ ∧ _ ∧ _ ∧ (_ ∨ _) from ⟨hdue, hold, hlate, Or.inr hdrained⟩), hstop,
      Bool.false_eq_true, if_false, hleft]
  have hchange := kernelChange_starts (s := ((s.at τ).lateStop n).lateDrain n) (n := n) (k := k) (r := r) (by
    rw [hgen, hof]
    exact hplace)
  unfold Started State.nodeDef at hchange
  rw [hrun, hgen] at hchange
  simp only [hof] at hchange
  exact ⟨_, hstep, hchange⟩

/-- Settles O27: by the row, with `kernelChange_starts` and `kernelLoad_started`. -/
theorem kernelsStartWithTheirRegistersSet : Obligations.KernelsStartWithTheirRegistersSet := by
  intro n τ s g e gen place d by_ q started
  refine ⟨fun hdue => ⟨fun k r hold hplace => ?_, fun k r hold hdrained hplace => ?_, fun hold hdrained hplace => ?_,
    fun k r hold hlate hdrained hstop hout hin hplace => late_row hdue hold hlate hdrained hstop hout hin hplace⟩,
    fun hsvc hfault hbound hstopped hframe hgone => ?_⟩
  · have hstep : exec (.kernelStart n τ) s = .next ((s.at τ).kernelChange n) := congrArg Host.Outcome.next (if_pos ⟨hdue, hold⟩)
    exact ⟨_, hstep, kernelChange_starts (s := s.at τ) hplace⟩
  · have hstep : exec (.engineChangeover n τ) s = .next ((s.at τ).kernelChange n) :=
      congrArg Host.Outcome.next (if_pos ⟨hdue, hold, hdrained⟩)
    exact ⟨_, hstep, kernelChange_starts (s := s.at τ) hplace⟩
  · have hstep : exec (.engineChangeover n τ) s = .next ((s.at τ).kernelChange n) :=
      congrArg Host.Outcome.next (if_pos ⟨hdue, hold, hdrained⟩)
    exact ⟨_, hstep, kernelChange_halts (s := s.at τ) hplace⟩
  · refine nodeRestart_row ⟨hsvc, hfault, hbound, hstopped, ?_, hgone⟩
    by_cases hused : q.used = true
    · simp only [Bool.or_eq_true, beq_iff_eq]
      exact Or.inr (hframe hused)
    · have hunused : q.used = false := by simpa using hused
      simp only [Bool.or_eq_true, Bool.not_eq_true']
      exact Or.inl hunused

end Sys2Proof.Machine

end

section

/-! CERTIFICATE. O21: the sampler. -/

namespace Sys2Proof.Machine

/-! ### Places and weights -/

theorem clamp_of_mem {lo hi x : Int} (h : lo ≤ x) (h' : x ≤ hi) : clamp lo hi x = x := by
  unfold clamp
  omega

/-- The weights of the four taps add to 1024 around the sampling point (steps 1, 2 and 5). -/
theorem smpTaps_weights (e : Engine) (x y : BitVec 16) : ∃ u v fx fy : Int,
    32 * u + fx = (e.getCsr 0x40).toInt * 32 + x.toInt ∧ 0 ≤ fx ∧ fx < 32 ∧
    32 * v + fy = (e.getCsr 0x41).toInt * 32 + y.toInt ∧ 0 ≤ fy ∧ fy < 32 ∧
    (smpTaps e x y).map (fun t => ((t.1 : Int), t.2)) =
      [((32 - fx) * (32 - fy), u, v), (fx * (32 - fy), u + 1, v), ((32 - fx) * fy, u, v + 1), (fx * fy, u + 1, v + 1)] := by
  unfold smpTaps
  extract_lets sx sy fx fy u v
  have hx : (fx : Int) = sx % 32 := Int.toNat_of_nonneg (Int.emod_nonneg _ (by decide))
  have hy : (fy : Int) = sy % 32 := Int.toNat_of_nonneg (Int.emod_nonneg _ (by decide))
  have hcast : ∀ k : Nat, k ≤ 32 → ((32 - k : Nat) : Int) = 32 - k := fun k hk => by omega
  have hfx : fx ≤ 32 := by omega
  have hfy : fy ≤ 32 := by omega
  refine ⟨u, v, fx, fy, by omega, by omega, by omega, by omega, by omega, by omega, ?_⟩
  simp only [List.map_cons, List.map_nil, Nat.cast_mul, hcast fx hfx, hcast fy hfy]

/-- Where a sample lies: BORDER, or its own or the clamped sample (steps 3 and 4). -/
theorem smpPlace_cases (s : State) (e : Engine) (n : Nat) (u v : Int) :
    let c (k : Nat) := (e.getCsr (0x20 + 8 * n + k)).toNat
    let W : Int := c 3 % 65536
    let H : Int := c 3 / 65536
    let cu := max 0 (min (W - 1) u)
    let cv := max 0 (min (H - 1) v)
    let step (b : Nat) : Int := if (c 4).testBit b then 2 else 1
    let ph (b : Nat) : Int := if (c 4).testBit b then 1 else 0
    let e_ : Int := if (c 4).testBit 0 then 2 else 1
    let address (u v : Int) : Int :=
      (c 0 : Int) + 2 ^ 32 * (c 1 : Int) + (v * step 3 + ph 5) * ((c 2 % 2 ^ 24 : Nat) : Int) + (u * step 2 + ph 4) * e_
    (0 ≤ u → u < W → 0 ≤ v → v < H → s.smpPlace e n u v = .inr (address u v)) ∧
    (¬(0 ≤ u ∧ u < W ∧ 0 ≤ v ∧ v < H) → (c 4).testBit 6 = true → s.smpPlace e n u v = .inl (c 5 % 65536)) ∧
    (¬(0 ≤ u ∧ u < W ∧ 0 ≤ v ∧ v < H) → (c 4).testBit 6 = false → 0 < W → 0 < H →
      s.smpPlace e n u v = .inr (address cu cv)) := by
  intro c W H cu cv step ph e_ address
  have hplace : s.smpPlace e n u v =
      if !decide (0 ≤ u ∧ u < W ∧ 0 ≤ v ∧ v < H) ∧ (c 4).testBit 6 then .inl (c 5 % 65536)
      else if !decide (0 ≤ u ∧ u < W ∧ 0 ≤ v ∧ v < H) ∧ (W = 0 ∨ H = 0) then .inl (s.free 16)
      else .inr (address (clamp 0 (W - 1) u) (clamp 0 (H - 1) v)) := by
    rfl
  refine ⟨fun h1 h2 h3 h4 => ?_, fun hout hbit => ?_, fun hout hbit hW hH => ?_⟩
  · have hin : 0 ≤ u ∧ u < W ∧ 0 ≤ v ∧ v < H := ⟨h1, h2, h3, h4⟩
    rw [hplace, decide_eq_true hin, clamp_of_mem h1 (by omega), clamp_of_mem h3 (by omega)]
    rfl
  · rw [hplace, decide_eq_false hout]
    exact if_pos ⟨rfl, hbit⟩
  · rw [hplace, if_neg (by rw [hbit]; simp), if_neg (by omega)]
    rfl

/-! ### SMP on clean memory -/

theorem smpTouch_clean {s : State} (hclean : s.clean) (n : Nat) (xs : List (MemId × Nat)) (hxs : ∀ x ∈ xs, s.NoInjection x.1) :
    s.smpTouch n xs = (s, none) := by
  induction xs with
  | nil => rfl
  | cons x xs ih =>
    simp only [State.smpTouch, memRead_clean _ _ hclean (hxs x List.mem_cons_self), Bool.false_eq_true, if_false]
    exact ih fun y hy => hxs y (List.mem_cons_of_mem _ hy)

theorem smpMem_noInjection {s : State} {g n x : Nat} {gddr : Bool} {a : Int} {m : MemId} (hinj : (s.eng g).injDmem = false)
    (h : s.smpMem g gddr a n = some (m, x)) : s.NoInjection m := by
  unfold State.smpMem at h
  split_ifs at h
  · obtain ⟨rfl, _⟩ := Prod.mk.inj (Option.some.inj h)
    trivial
  · exact engMem_noInjection h hinj

/-- The sample of a place of surface memory. -/
def State.smpSample (s : State) (g n sz : Nat) (gddr : Bool) (u v : Int) : Nat :=
  match s.smpPlace (s.eng g) n u v with
  | .inl k => k
  | .inr a => match s.smpMem g gddr a sz with
    | some (m, x) => leNat (s.memBytes m x sz)
    | none => 0

theorem foldl_weighted {α : Type} (f : Nat × α → Nat) (l : List (Nat × α)) (k : Nat) :
    l.foldl (fun n t => n + t.1 * f t) k = (l.map fun t => t.1 * f t).sum + k := by
  induction l generalizing k with
  | nil => exact (Nat.zero_add k).symm
  | cons t l ih =>
    rw [List.foldl_cons, ih, List.map_cons, List.sum_cons]
    omega

theorem jSmp_clean {s : State} {g w : Nat} (hclean : s.clean) (hinj : (s.eng g).injDmem = false) (hdma : (s.eng g).dma = [])
    (hvalid : ((s.eng g).getCsr (0x24 + 8 * (jFn w % 4))).toNat.testBit 7 = true) (hin : s.smpOutside g (jFn w % 4) = false)
    (hmem : ∀ i ∈ (s.eng g).active (jPr w), ∀ tap ∈ smpTaps (s.eng g) (lane ((s.eng g).getV (jA w)) i) (lane ((s.eng g).getV (jB w)) i),
      match s.smpPlace (s.eng g) (jFn w % 4) tap.2.1 tap.2.2 with
      | .inl _ => True
      | .inr a => (s.smpMem g (((s.eng g).getCsr (0x24 + 8 * (jFn w % 4))).toNat.testBit 1) a
          (if ((s.eng g).getCsr (0x24 + 8 * (jFn w % 4))).toNat.testBit 0 then 2 else 1)).isSome) :
    let fmt := ((s.eng g).getCsr (0x24 + 8 * (jFn w % 4))).toNat
    let sz := if fmt.testBit 0 then 2 else 1
    jSmp g w s = .done (s.used.setEng g ((s.eng g).setLanes (jD w) (jPr w) (jZ w) fun i => BitVec.ofNat 16
      ((((smpTaps (s.eng g) (lane ((s.eng g).getV (jA w)) i) (lane ((s.eng g).getV (jB w)) i)).map fun tap =>
        tap.1 * s.smpSample g (jFn w % 4) sz (fmt.testBit 1) tap.2.1 tap.2.2).sum + 512) / 1024))) := by
  intro fmt sz
  unfold jSmp
  extract_lets e n fmt' gddr sz' a b taps refs
  have hrefs : ∀ x ∈ refs, (s.smpMem g gddr x sz).isSome := by
    intro x hx
    obtain ⟨tap, htap, hplace⟩ := List.mem_filterMap.mp hx
    obtain ⟨i, hi, htap⟩ := List.mem_flatMap.mp htap
    have hsome := hmem i hi tap htap
    rw [show s.smpPlace (s.eng g) (jFn w % 4) tap.2.1 tap.2.2 = .inr x from Sum.getRight?_eq_some_iff.mp hplace] at hsome
    exact hsome
  have hfind : refs.find? (fun x => (s.smpMem g gddr x sz).isNone) = none := by
    rw [List.find?_eq_none]
    intro x hx
    simpa [Option.isNone_iff_eq_none] using Option.isSome_iff_ne_none.mp (hrefs x hx)
  have htouch : s.smpTouch sz (refs.filterMap fun x => s.smpMem g gddr x sz) = (s, none) := by
    refine smpTouch_clean hclean sz _ fun x hx => ?_
    obtain ⟨y, _, hy⟩ := List.mem_filterMap.mp hx
    exact smpMem_noInjection hinj hy
  rw [if_neg (by
    rw [not_or]
    exact ⟨by rw [show fmt'.testBit 7 = true from hvalid]; decide, by rw [show s.smpOutside g n = false from hin]; decide⟩)]
  rw [hfind]
  dsimp only
  rw [show s.smpTouch sz' _ = (s, none) from htouch]
  dsimp only
  refine congrArg (fun f => JRes.done (s.used.setEng g ((s.eng g).setLanes (jD w) (jPr w) (jZ w) f))) (funext fun i => ?_)
  refine congrArg (fun k => BitVec.ofNat 16 (k / 1024)) ((foldl_weighted _ _ 512).trans ?_)
  refine congrArg (fun l : List Nat => l.sum + 512) (List.map_congr_left fun tap _ => congrArg (tap.1 * ·) ?_)
  simp only [State.smpSample, dmaView_idle _ _ hdma, ite_self]
  rfl

/-- Settles O21: SMP by `jSmp_clean`; weights and places as the sampler computes them. -/
theorem samplerInterpolatesFourSamplesOfItsSurface : Obligations.SamplerInterpolatesFourSamplesOfItsSurface := by
  unfold Obligations.SamplerInterpolatesFourSamplesOfItsSurface
  refine ⟨?_, smpTaps_weights, smpPlace_cases⟩
  intro g τ s w h hop hdma e n fmt sz taps sample hvalid hin hmem
  have hact := jSmp_clean (s := s.at τ) (g := g) (w := w) (runs_clean h) (runs_injDmem h) hdma hvalid hin hmem
  obtain ⟨hretired, hframe⟩ := issue_done (mine := isOp 0x3A) h (by simp [isOp, hop]) hact rfl rfl fun k hk => eng_setEng_ne _ _ hk
  rw [eng_setEng, jeisLen_short (by omega)] at hretired
  have hmems := congrArg State.mems hframe
  refine ⟨s.issue g τ (isOp 0x3A) (jSmp g), rfl, _, hretired, hmems, ?_⟩
  exact setLanes_laneResult ..

end Sys2Proof.Machine

end

section

/-! SUPPORT. Host memory after a record has been written there (R3, R315). -/

namespace Sys2Proof.Machine

theorem readBytes_writeBytes_slice (m : Mem) (a k n : Nat) (bs : List Nat) (h : k + n ≤ bs.length) :
    Mem.readBytes (Mem.writeBytes m a bs) (a + k) n = ((bs.drop k).take n).map (· % 256) := by
  apply List.ext_getElem
  · simp [Mem.readBytes]
    omega
  · intro i hi hi'
    have hlt : i < n := by simpa [Mem.readBytes] using hi
    simp only [Mem.readBytes, List.getElem_map, List.getElem_range, Nat.add_assoc, List.getElem_take, List.getElem_drop,
      mem_read_writeBytes_in m a (k + i) bs (by omega), BitVec.toNat_ofNat]

theorem readLE_eq (m : Mem) (a n : Nat) : Mem.readLE m a n = leNat (Mem.readBytes m a n) := by
  induction n generalizing a with
  | zero => rfl
  | succ n ih =>
    have hlt : (Mem.read m a).toNat < 256 := (Mem.read m a).isLt
    have hrest : Mem.readBytes m a (n + 1) = (Mem.read m a).toNat :: Mem.readBytes m (a + 1) n := by
      simp [Mem.readBytes, List.range_succ_eq_map, Function.comp_def, Nat.add_assoc, Nat.add_comm 1]
    rw [Mem.readLE, ih, hrest, leNat, Nat.mod_eq_of_lt hlt]

theorem leNat_leBytes (n v : Nat) : leNat (leBytes n v) = v % 256 ^ n := by
  have h := leNat_leBytes_drop_take n v 0 n (by omega)
  rw [List.drop_zero, List.take_of_length_le (by simp)] at h
  rw [h, Nat.mul_zero, Nat.pow_zero, Nat.div_one, Nat.pow_mul]

theorem map_mod_leBytes (n v : Nat) : (leBytes n v).map (· % 256) = leBytes n v := by
  induction n generalizing v with
  | zero => rfl
  | succ n ih => simp [leBytes, ih]

/-- A little-endian field of what was written. -/
theorem readLE_writeBytes_field (m : Mem) (a k n v : Nat) {bs : List Nat} (hlen : k + n ≤ bs.length)
    (hfield : (bs.drop k).take n = leBytes n v) : Mem.readLE (Mem.writeBytes m a bs) (a + k) n = v % 256 ^ n := by
  rw [readLE_eq, readBytes_writeBytes_slice _ _ _ _ _ hlen, hfield, map_mod_leBytes, leNat_leBytes]

theorem readBytes_writeBytes_frame (m : Mem) (a n : Nat) {bs : List Nat} (hlen : bs.length = n) :
    ∀ x, ¬(a ≤ x ∧ x < a + n) → Mem.readBytes (Mem.writeBytes m a bs) x 1 = Mem.readBytes m x 1 := fun x hx =>
  readBytes_writeBytes_out _ _ _ _ _ (by omega)

end Sys2Proof.Machine

end

section

/-! CERTIFICATE. The rings of events, commands and replies (R313 to R320, R344 to R350). -/

namespace Sys2Proof.Machine

/-- A status bit that the device sets reads 1. -/
theorem rd_set1 (s : State) {f : Fld} (hw : f.w = 1) : (s.set1 f).rd f = 1 := by
  show (s.wr f ((s.rd f).lor 1)).rd f = 1
  have hodd : (s.rd f ||| 1) % 2 = 1 := by
    rw [Nat.or_mod_two_eq_one]
    exact .inr rfl
  rw [rd_wr_same, hw]
  exact hodd

/-! ### Messages (R317, R318) -/

theorem msixSend_masked {s : State} {v : Nat} (h : (s.msixWord (4 * v + 3)).testBit 0 = true) :
    s.msixSend v = { s with msixPend := s.msixPend.lor (2 ^ v) } := if_pos h

theorem msixSend_sent {s : State} {v : Nat} (h : (s.msixWord (4 * v + 3)).testBit 0 = false) : s.msixSend v =
    { s.hostWrite (s.msixWord (4 * v) / 4 * 4 + 2 ^ 32 * s.msixWord (4 * v + 1)) (leBytes 4 (s.msixWord (4 * v + 2))) with
      msixSent := AMap.set s.msixSent v (AMap.get 0 s.msixSent v + 1) } := if_neg (by rw [h]; exact Bool.false_ne_true)

/-- A completion that sends no message to host memory touches only the coalescing and the pending bits. -/
theorem signal_quiet {s : State} {k : Nat} (h : s.quiet k) : ∃ c p, s.signal k = { s with coal := c, msixPend := p } := by
  by_cases hdue : s.coalN k ≠ 0 ∧ s.coalN k ≤ (AMap.get {} s.coal k).n + 1
  · exact ⟨_, _, (if_pos hdue).trans (msixSend_masked (h hdue.1 hdue.2))⟩
  · exact ⟨_, _, if_neg hdue⟩

theorem coalesceTimeout_sends {s : State} {k : Fin 66} {o τ : Nat} (hat : (AMap.get {} s.coal k.val).at_ = some o)
    (hdue : o + s.coalT k ≤ τ) (hn : s.coalN k ≠ 0) (hup : s.hostUp = true) :
    exec (.coalesceTimeout k τ) s = .next (((s.at τ).coalReset k).msixSend (s.coalVec k)) := by
  have hmode : s.rd DLV.LINK_MODE ≠ 0 := of_decide_eq_true hup
  show Host.Outcome.next _ = _
  rw [hat]
  exact congrArg _ (if_pos ⟨hdue, hn, hmode⟩)

theorem quiet_congr {s t : State} {k : Nat} (hn : t.coalN k = s.coalN k) (hv : t.coalVec k = s.coalVec k) (hcoal : t.coal = s.coal)
    (hmsix : t.msix = s.msix) (h : s.quiet k) : t.quiet k := by
  intro h1 h2
  rw [hn, hcoal] at h2
  rw [hn] at h1
  rw [hv, State.msixWord, hmsix]
  exact h h1 h2

/-- A ring entry has gone out without a message: the coalescing, the pending bits and the count of bytes written. -/
theorem lowWrite_signal {s : State} {k : Nat} (n : Nat) (h : s.quiet k) :
    ∃ d c m, (s.lowWrite n).signal k = { s with dlv := d, coal := c, msixPend := m } := by
  obtain ⟨c, m, hsig⟩ := signal_quiet (s := s.lowWrite n) (k := k) h
  exact ⟨_, c, m, hsig⟩

/-! ### The event ring (R313 to R316) -/

/-- The event ring turns its phase where it wraps. -/
def State.evrTurn (s : State) (wraps : Prop) [Decidable wraps] : State :=
  if wraps then { s with events := { s.events with phase := 1 - s.events.phase } } else s

theorem evrTurn_eq (s : State) (wraps : Prop) [Decidable wraps] :
    ∃ p, s.evrTurn wraps = { s with events := { s.events with phase := p } } := by
  by_cases hw : wraps
  · exact ⟨_, if_pos hw⟩
  · exact ⟨_, if_neg hw⟩

/-- Where the next event record goes. -/
def State.evrAt (s : State) : Nat :=
  s.rd DLV.EVR_BASE_LO_BASE / 64 * 64 + 2 ^ 32 * s.rd DLV.EVR_BASE_HI_BASE + 32 * (s.rd DLV.EVR_TAIL_TAIL % s.evrSize)

def State.evrPut (s : State) (r : EvRec) : State :=
  (s.hostWrite s.evrAt (s.evBytes r s.events.phase)).wr DLV.EVR_TAIL_TAIL ((s.rd DLV.EVR_TAIL_TAIL % s.evrSize + 1) % s.evrSize)

theorem evrWrite_eq (s : State) (r : EvRec) :
    s.evrWrite r = (((s.evrPut r).evrTurn (s.rd DLV.EVR_TAIL_TAIL % s.evrSize + 1 = s.evrSize)).lowWrite 32).signal 64 := rfl

theorem quiet_evrPut {s : State} {r : EvRec} (h : s.quiet 64) : (s.evrPut r).quiet 64 :=
  quiet_congr (rd_wr_ne _ _ (by decide)) (rd_wr_ne _ _ (by decide)) rfl rfl h

theorem evrWrite_quiet {s : State} {r : EvRec} (h : s.quiet 64) : ∃ p d c m, s.evrWrite r =
    { s.evrPut r with events := { s.events with phase := p }, dlv := d, coal := c, msixPend := m } := by
  have hq := quiet_evrPut (r := r) h
  obtain ⟨p, hp⟩ := evrTurn_eq (s.evrPut r) (s.rd DLV.EVR_TAIL_TAIL % s.evrSize + 1 = s.evrSize)
  obtain ⟨d, c, m, hsig⟩ := lowWrite_signal (s := { s.evrPut r with events := { s.events with phase := p } }) 32 hq
  exact ⟨p, d, c, m, (evrWrite_eq s r).trans ((congrArg (fun u => (State.lowWrite u 32).signal 64) hp).trans hsig)⟩

theorem length_evVals (v : List Nat) : (evVals v).length = 12 := by simp [evVals]

theorem length_evBytes (s : State) (r : EvRec) (p : Nat) : (s.evBytes r p).length = 32 := by
  simp [State.evBytes, length_evVals]

theorem evBytes_drop (s : State) (r : EvRec) (p : Nat) : (s.evBytes r p).drop 16 = evVals r.vals ++ [0, 0, 0, p % 2] := rfl

theorem evBytes_vals (s : State) (r : EvRec) (p : Nat) : ((s.evBytes r p).drop 16).take 12 = evVals r.vals := by
  rw [evBytes_drop, List.take_left' (length_evVals _)]

theorem evBytes_phase (s : State) (r : EvRec) (p : Nat) : ((s.evBytes r p).drop 31).take 1 = [p % 2] := by
  rw [show 31 = 16 + 15 from rfl, ← List.drop_drop, evBytes_drop, List.drop_append, length_evVals,
    List.drop_eq_nil_of_le (by rw [length_evVals]; decide)]
  rfl

theorem phase_byte (p : Nat) : [p % 2] = leBytes 1 (p % 2) := by
  simp only [leBytes, List.cons.injEq, and_true]
  omega

/-- R314, R315: the record written. -/
theorem evrPut_record (s : State) (r : EvRec) :
    (s.evrPut r).hostLE s.evrAt 2 = r.code % 2 ^ 16 ∧ (s.evrPut r).hostLE (s.evrAt + 2) 2 = s.moduleId % 2 ^ 16 ∧
    (s.evrPut r).hostLE (s.evrAt + 4) 2 = r.idx % 2 ^ 16 ∧ (s.evrPut r).hostLE (s.evrAt + 6) 2 = r.count % 2 ^ 16 ∧
    (s.evrPut r).hostLE (s.evrAt + 8) 8 = r.time % 2 ^ 64 ∧
    (s.evrPut r).hostBytes (s.evrAt + 16) 12 = (evVals r.vals).map (· % 256) ∧
    (s.evrPut r).hostLE (s.evrAt + 31) 1 = s.events.phase % 2 := by
  have hlen := length_evBytes s r s.events.phase
  have hle : ∀ k n v, k + n ≤ 32 → ((s.evBytes r s.events.phase).drop k).take n = leBytes n v →
      (s.evrPut r).hostLE (s.evrAt + k) n = v % 256 ^ n := fun k n v hk hf =>
    readLE_writeBytes_field _ _ _ _ _ (by omega) hf
  refine ⟨hle 0 2 _ (by decide) rfl, hle 2 2 _ (by decide) rfl, hle 4 2 _ (by decide) rfl, hle 6 2 _ (by decide) rfl,
    hle 8 8 _ (by decide) rfl, ?_, ?_⟩
  · exact (readBytes_writeBytes_slice _ _ _ _ _ (by omega)).trans (congrArg _ (evBytes_vals s r _))
  · rw [hle 31 1 _ (by decide) ((evBytes_phase s r _).trans (phase_byte _))]
    omega

theorem evrPut_tail (s : State) (r : EvRec) :
    (s.evrPut r).rd DLV.EVR_TAIL_TAIL = (s.rd DLV.EVR_TAIL_TAIL % s.evrSize + 1) % s.evrSize := by
  have hsize : s.evrSize ≤ 2 ^ DLV.EVR_TAIL_TAIL.w := Nat.pow_le_pow_right (by decide) (by show _ ≤ 16; omega)
  have hlt := Nat.mod_lt (s.rd DLV.EVR_TAIL_TAIL % s.evrSize + 1) (show 0 < s.evrSize from Nat.two_pow_pos _)
  rw [State.evrPut, rd_wr_same, Nat.mod_eq_of_lt (lt_of_lt_of_le hlt hsize)]

theorem evrPut_keepsRegs (s : State) (r : EvRec) : KeepsRegs [DLV.EVR_TAIL_TAIL] s (s.evrPut r) :=
  keepsRegs_wr (s.hostWrite ..) _ _

theorem eventRecord_takes {s : State} {τ : Nat} {r : EvRec} {rs : List EvRec} (hout : s.events.out = r :: rs)
    (hlost : s.events.lost = 0) (hup : s.hostUp = true) (hlow : s.lowHeld 32 = false) :
    exec (.eventRecord τ) s = .next (if ({ s.at τ with events := { s.events with out := rs } } : State).evrRoom
      then ({ s.at τ with events := { s.events with out := rs } } : State).evrWrite r
      else ({ s.at τ with events := { s.events with out := rs, lost := s.events.lost + 1 } } : State).addSat DLV.EVR_LOST_LOST 1) := by
  have hfree : (s.at τ).evLost = s.at τ := if_neg fun hc => hc.1 hlost
  have hopen : ¬(s.rd DLV.EVR_CFG_EN = 1 ∧ (s.hostUp = false ∨ s.lowHeld 32 = true)) := fun hc =>
    hc.2.elim (fun h => by simp [hup] at h) (fun h => by simp [hlow] at h)
  have hopen' : ¬((s.at τ).rd DLV.EVR_CFG_EN = 1 ∧ (s.at τ).lowHeld 32 = true) := fun hc => hopen ⟨hc.1, .inr hc.2⟩
  have hout' : (s.at τ).events.out = r :: rs := hout
  show execEventRecord τ s = _
  unfold execEventRecord
  dsimp only
  rw [if_neg hopen, hfree, hout']
  exact congrArg _ (if_neg hopen')

/-- The ring and its next entry stay where they were while a record is taken from the queue. -/
theorem evrRoom_iff {s : State} (hen : s.rd DLV.EVR_CFG_EN = 1) (hup : s.hostUp = true) :
    s.evrRoom = true ↔ (s.rd DLV.EVR_TAIL_TAIL + 1) % s.evrSize ≠ s.rd DLV.EVR_HEAD_HEAD % s.evrSize := by
  simp [State.evrRoom, hen, hup]

theorem eventRecord_written {s : State} {τ : Nat} {r : EvRec} {rs : List EvRec} (hout : s.events.out = r :: rs)
    (hlost : s.events.lost = 0) (hup : s.hostUp = true) (hlow : s.lowHeld 32 = false) (hen : s.rd DLV.EVR_CFG_EN = 1)
    (hq : s.quiet 64) (hroom : (s.rd DLV.EVR_TAIL_TAIL + 1) % s.evrSize ≠ s.rd DLV.EVR_HEAD_HEAD % s.evrSize) :
    Answers (exec (.eventRecord τ) s) fun t => t.events.out = rs ∧
      t.rd DLV.EVR_TAIL_TAIL = (s.rd DLV.EVR_TAIL_TAIL % s.evrSize + 1) % s.evrSize ∧ t.hostLE s.evrAt 2 = r.code % 2 ^ 16 ∧
      t.hostLE (s.evrAt + 2) 2 = s.moduleId % 2 ^ 16 ∧ t.hostLE (s.evrAt + 4) 2 = r.idx % 2 ^ 16 ∧
      t.hostLE (s.evrAt + 6) 2 = r.count % 2 ^ 16 ∧ t.hostLE (s.evrAt + 8) 8 = r.time % 2 ^ 64 ∧
      t.hostBytes (s.evrAt + 16) 12 = (evVals r.vals).map (· % 256) ∧ t.hostLE (s.evrAt + 31) 1 = s.events.phase % 2 ∧
      (∀ x, ¬(s.evrAt ≤ x ∧ x < s.evrAt + 32) → t.hostBytes x 1 = s.hostBytes x 1) ∧ KeepsRegs [DLV.EVR_TAIL_TAIL] s t := by
  obtain ⟨u, hu⟩ : ∃ u : State, u = { s.at τ with events := { s.events with out := rs } } := ⟨_, rfl⟩
  have hat : u.evrAt = s.evrAt := by rw [hu]; rfl
  have hstep : exec (.eventRecord τ) s = .next (u.evrWrite r) := by
    rw [eventRecord_takes hout hlost hup hlow, ← hu, if_pos]
    rw [hu]
    exact (evrRoom_iff hen hup).mpr hroom
  obtain ⟨p, d, c, m, hw⟩ := evrWrite_quiet (s := u) (r := r) (by rw [hu]; exact hq)
  have hrec := evrPut_record u r
  rw [hat] at hrec
  refine ⟨_, hstep, ?_⟩
  rw [hw]
  obtain ⟨h0, h2, h4, h6, h8, h16, h31⟩ := hrec
  refine ⟨by rw [hu], ?_, h0, ?_, h4, h6, h8, h16, ?_, ?_, ?_⟩
  · have hsz : u.evrSize = s.evrSize := by rw [hu]; rfl
    have htl : u.rd DLV.EVR_TAIL_TAIL = s.rd DLV.EVR_TAIL_TAIL := by rw [hu]; rfl
    rw [← hsz, ← htl]
    exact evrPut_tail u r
  · exact h2.trans (by rw [hu]; rfl)
  · exact h31.trans (by rw [hu])
  · subst hu
    exact readBytes_writeBytes_frame _ _ _ (length_evBytes ..)
  · intro f hf
    exact (evrPut_keepsRegs u r f hf).trans (by rw [hu]; rfl)

theorem eventRecord_lost {s : State} {τ : Nat} {r : EvRec} {rs : List EvRec} (hout : s.events.out = r :: rs)
    (hlost : s.events.lost = 0) (hup : s.hostUp = true) (hlow : s.lowHeld 32 = false) (hen : s.rd DLV.EVR_CFG_EN = 1)
    (hfull : (s.rd DLV.EVR_TAIL_TAIL + 1) % s.evrSize = s.rd DLV.EVR_HEAD_HEAD % s.evrSize) :
    Answers (exec (.eventRecord τ) s) fun t =>
      t.events.out = rs ∧ t.events.lost = 1 ∧ t.mems = s.mems ∧ KeepsRegs [DLV.EVR_LOST_LOST] s t := by
  have hroom : ¬({ s.at τ with events := { s.events with out := rs } } : State).evrRoom = true := fun h =>
    (evrRoom_iff hen hup).mp h hfull
  refine ⟨_, (eventRecord_takes hout hlost hup hlow).trans (congrArg _ (if_neg hroom)), rfl, ?_, rfl, ?_⟩
  · exact congrArg (· + 1) hlost
  · exact keepsRegs_wr ({ s.at τ with events := { s.events with out := rs, lost := s.events.lost + 1 } } : State) _ _

/-- R316: the peek FIFO. -/
theorem eventPeekPop_word {s : State} {w : Nat} {ws : List Nat} {rest : List (List Nat)} (h : s.events.peek = (w :: ws) :: rest) :
    Answers (exec .eventPeekPop s) fun t => t.busRead = w ∧ t.rd DLV.EVPK_DATA_DATA = w % 2 ^ 32 ∧
      t.events.peek = (if ws = [] then rest else ws :: rest) ∧ KeepsRegs [DLV.EVPK_DATA_DATA, DLV.EVPK_STAT_LEVEL] s t := by
  refine ⟨_, congrArg Host.Outcome.next (evPop_some h), rfl, ?_, rfl, ?_⟩
  · rw [rd_wr_ne _ _ (by decide)]
    exact rd_wr_same _ _ _
  · exact keepsRegs_trans (keepsRegs_wr ({ s with busRead := w } : State) _ _) (keepsRegs_wr _ _ _)

theorem eventPeekPop_empty {s : State} (h : s.events.peek = []) :
    Answers (exec .eventPeekPop s) fun t => t.busRead = s.events.peekLast ∧ t.rd DLV.EVPK_STAT_UNDERRUN = 1 ∧
      t.events = s.events ∧ KeepsRegs [DLV.EVPK_STAT_UNDERRUN] s t := by
  have hpop : s.evPop = ({ s with busRead := s.events.peekLast } : State).set1 DLV.EVPK_STAT_UNDERRUN := by
    unfold State.evPop
    rw [h]
  exact ⟨_, congrArg Host.Outcome.next hpop, rfl, rd_set1 _ rfl, rfl, sets1_keepsRegs ({ s with busRead := _ } : State) _ _⟩

theorem eventRingEnable_restarts {s : State} (hen : s.rd DLV.EVR_CFG_EN = 0) (hlost : s.events.lost = 0) :
    Answers (exec .eventRingEnable s) fun t => t.rd DLV.EVR_CFG_EN = 1 ∧ t.rd DLV.EVR_TAIL_TAIL = 0 ∧
      t.events = { s.events with phase := 1 } ∧ KeepsRegs [DLV.EVR_CFG_EN, DLV.EVR_TAIL_TAIL] s t := by
  have hring : s.evrEnable = { (s.wr DLV.EVR_CFG_EN 1).wr DLV.EVR_TAIL_TAIL 0 with events := { s.events with phase := 1 } } :=
    (if_neg (by rw [hen]; decide)).trans (if_neg fun hc => hc.1 hlost)
  refine ⟨_, congrArg Host.Outcome.next hring, ?_, rd_wr_same _ _ _, rfl, ?_⟩
  · exact (rd_wr_ne _ _ (by decide)).trans (rd_wr_same _ _ _)
  · exact keepsRegs_trans (keepsRegs_wr s _ _) (keepsRegs_wr _ _ _)

/-! ### The command ring (R344 to R350) -/

theorem coalesceTimeout_message {s : State} {k : Fin 66} {o τ : Nat} (hat : (AMap.get {} s.coal k.val).at_ = some o)
    (hdue : o + s.coalT k ≤ τ) (hn : s.coalN k ≠ 0) (hup : s.hostUp = true) :
    Answers (exec (.coalesceTimeout k τ) s) fun t => AMap.get {} t.coal k.val = {} ∧ t.regs = s.regs ∧ t.cmd = s.cmd ∧
      ((s.msixWord (4 * s.coalVec k + 3)).testBit 0 = true → t.msixPend = s.msixPend.lor (2 ^ s.coalVec k) ∧ t.mems = s.mems) ∧
      ((s.msixWord (4 * s.coalVec k + 3)).testBit 0 = false →
        t.hostLE (s.msixWord (4 * s.coalVec k) / 4 * 4 + 2 ^ 32 * s.msixWord (4 * s.coalVec k + 1)) 4 =
          s.msixWord (4 * s.coalVec k + 2) % 2 ^ 32) := by
  refine ⟨_, coalesceTimeout_sends hat hdue hn hup, ?_⟩
  cases hmask : (s.msixWord (4 * s.coalVec k + 3)).testBit 0 with
  | true =>
    rw [msixSend_masked (s := (s.at τ).coalReset k) hmask]
    exact ⟨amap_get_set_same _ _ _ _, rfl, rfl, fun _ => ⟨rfl, rfl⟩, fun h => absurd h (by decide)⟩
  | false =>
    rw [msixSend_sent (s := (s.at τ).coalReset k) hmask]
    refine ⟨amap_get_set_same _ _ _ _, rfl, rfl, fun h => absurd h (by decide), fun _ => ?_⟩
    exact readLE_writeBytes_field s.mems.host _ 0 4 _ (by simp) rfl

theorem cmdDoorbell_full {s : State} {tail : BitVec 16} {τ : Nat} (hlive : s.hostLive = true) (hen : s.rd CMD.CFG_EN = 1)
    (hfills : tail.toNat % s.cmdSize = s.rd CMD.SQ_HEAD_HEAD % s.cmdSize ∧ tail.toNat % s.cmdSize ≠ s.rd CMD.SQ_TAIL_TAIL % s.cmdSize) :
    Answers (exec (.cmdDoorbell tail τ) s) fun t => t.rd CMD.STAT_RINGERR = 1 ∧ KeepsRegs [CMD.STAT_RINGERR] s t := by
  obtain ⟨x, hx⟩ := raise_eq ((s.at τ).set1 CMD.STAT_RINGERR) 0x010B 0 (leBytes 4 tail.toNat)
  have hbell : (s.at τ).cmdDoorbell tail.toNat = { (s.at τ).set1 CMD.STAT_RINGERR with events := x } :=
    (if_pos ⟨hen, hfills⟩).trans hx
  refine ⟨_, congrArg Host.Outcome.next ((if_pos hlive).trans hbell), rd_set1 (s.at τ) rfl, sets1_keepsRegs (s.at τ) _ _⟩

theorem cmdDoorbell_posted {s : State} {tail : BitVec 16} {τ : Nat} (hlive : s.hostLive = true)
    (hfits : ¬(s.rd CMD.CFG_EN = 1 ∧ tail.toNat % s.cmdSize = s.rd CMD.SQ_HEAD_HEAD % s.cmdSize ∧
      tail.toNat % s.cmdSize ≠ s.rd CMD.SQ_TAIL_TAIL % s.cmdSize)) :
    Answers (exec (.cmdDoorbell tail τ) s) fun t => t.rd CMD.SQ_TAIL_TAIL = tail.toNat ∧ OnlyRegs [CMD.SQ_TAIL_TAIL] s t := by
  have hbell : (s.at τ).cmdDoorbell tail.toNat = (s.at τ).wr CMD.SQ_TAIL_TAIL tail.toNat := if_neg hfits
  refine ⟨_, congrArg Host.Outcome.next ((if_pos hlive).trans hbell), ?_, ?_⟩
  · exact (rd_wr_same _ _ _).trans (Nat.mod_eq_of_lt tail.isLt)
  · exact ⟨keepsRegs_wr (s.at τ) _ _, rfl⟩

theorem cmdReply_smbus (s : State) {c : CmdPkt} (r : Reply) (hc : c.idx = 0xFFFF) :
    s.cmdReply c r = ({ s with cmd := { s.cmd with
      running := s.cmd.running.filter fun x => !(x.idx == c.idx && x.cid == c.cid && x.op == c.op),
      smbReply := some (r.bytes c 0) } } : State).wr CMD.STAT_SMB_BUSY 0 := if_pos hc

/-- The command ring turns its phase where it wraps. -/
def State.cqTurn (s : State) (wraps : Prop) [Decidable wraps] : State :=
  if wraps then { s with cmd := { s.cmd with phase := 1 - s.cmd.phase } } else s

theorem cqTurn_eq (s : State) (wraps : Prop) [Decidable wraps] :
    ∃ p, s.cqTurn wraps = { s with cmd := { s.cmd with phase := p } } := by
  by_cases hw : wraps
  · exact ⟨_, if_pos hw⟩
  · exact ⟨_, if_neg hw⟩

/-- Where the next reply goes. -/
def State.cqAt (s : State) : Nat :=
  s.rd CMD.CQ_BASE_LO_BASE / 64 * 64 + 2 ^ 32 * s.rd CMD.CQ_BASE_HI_BASE + 32 * (s.rd CMD.CQ_TAIL_TAIL % s.cmdSize)

def State.cqPut (s : State) (bytes : List Nat) : State :=
  (s.hostWrite s.cqAt (bytes.take 31 ++ [s.cmd.phase % 2])).wr CMD.CQ_TAIL_TAIL ((s.rd CMD.CQ_TAIL_TAIL % s.cmdSize + 1) % s.cmdSize)

theorem cqWrite_eq (s : State) (bytes : List Nat) :
    s.cqWrite bytes = (((s.cqPut bytes).cqTurn (s.rd CMD.CQ_TAIL_TAIL % s.cmdSize + 1 = s.cmdSize)).lowWrite 32).signal 65 := rfl

theorem quiet_cqPut {s : State} {bytes : List Nat} (h : s.quiet 65) : (s.cqPut bytes).quiet 65 :=
  quiet_congr (rd_wr_ne _ _ (by decide)) (rd_wr_ne _ _ (by decide)) rfl rfl h

theorem cqWrite_quiet {s : State} {bytes : List Nat} (h : s.quiet 65) : ∃ p d c m, s.cqWrite bytes =
    { s.cqPut bytes with cmd := { s.cmd with phase := p }, dlv := d, coal := c, msixPend := m } := by
  have hq := quiet_cqPut (bytes := bytes) h
  obtain ⟨p, hp⟩ := cqTurn_eq (s.cqPut bytes) (s.rd CMD.CQ_TAIL_TAIL % s.cmdSize + 1 = s.cmdSize)
  obtain ⟨d, c, m, hsig⟩ := lowWrite_signal (s := { s.cqPut bytes with cmd := { s.cmd with phase := p } }) 32 hq
  exact ⟨p, d, c, m, (cqWrite_eq s bytes).trans ((congrArg (fun u => (State.lowWrite u 32).signal 65) hp).trans hsig)⟩

theorem cqPut_tail (s : State) (bytes : List Nat) :
    (s.cqPut bytes).rd CMD.CQ_TAIL_TAIL = (s.rd CMD.CQ_TAIL_TAIL % s.cmdSize + 1) % s.cmdSize := by
  have hsize : s.cmdSize ≤ 2 ^ CMD.CQ_TAIL_TAIL.w := Nat.pow_le_pow_right (by decide) (by show _ ≤ 16; omega)
  have hlt := Nat.mod_lt (s.rd CMD.CQ_TAIL_TAIL % s.cmdSize + 1) (show 0 < s.cmdSize from Nat.two_pow_pos _)
  rw [State.cqPut, rd_wr_same, Nat.mod_eq_of_lt (lt_of_lt_of_le hlt hsize)]

/-- The bytes of a reply, its phase bit last (R347). -/
theorem length_replyBytes (r : Reply) (c : CmdPkt) (p q : Nat) : ((r.bytes c q).take 31 ++ [p]).length = 32 := rfl

theorem cqPut_field (s : State) (r : Reply) (c : CmdPkt) (k n v : Nat) (hk : k + n ≤ 32)
    (hf : (((r.bytes c 0).take 31 ++ [s.cmd.phase % 2]).drop k).take n = leBytes n v) :
    (s.cqPut (r.bytes c 0)).hostLE (s.cqAt + k) n = v % 256 ^ n :=
  readLE_writeBytes_field _ _ _ _ _ (le_of_le_of_eq hk (length_replyBytes ..).symm) hf

theorem cqPut_results (s : State) (r : Reply) (c : CmdPkt) {k : Nat} (hk : k < 4) :
    (s.cqPut (r.bytes c 0)).hostLE (s.cqAt + 8 + 4 * k) 4 = r.res.getD k 0 % 2 ^ 32 := by
  match k, hk with
  | 0, _ => exact cqPut_field s r c 8 4 _ (by decide) rfl
  | 1, _ => exact cqPut_field s r c 12 4 _ (by decide) rfl
  | 2, _ => exact cqPut_field s r c 16 4 _ (by decide) rfl
  | 3, _ => exact cqPut_field s r c 20 4 _ (by decide) rfl

theorem cqPut_phase (s : State) (r : Reply) (c : CmdPkt) :
    (s.cqPut (r.bytes c 0)).hostLE (s.cqAt + 31) 1 = s.cmd.phase % 2 := by
  rw [cqPut_field s r c 31 1 (s.cmd.phase % 2) (by decide) (phase_byte _)]
  omega

/-- A reply with nothing held back goes into the ring at once. -/
theorem cmdReply_ring {s : State} {c : CmdPkt} (r : Reply) (hc : c.idx ≠ 0xFFFF) (hout : s.cmd.outbox = []) (hup : s.hostUp = true)
    (hlow : s.lowHeld 32 = false) : s.cmdReply c r = ({ s with cmd := { s.cmd with
      running := s.cmd.running.filter fun x => !(x.idx == c.idx && x.cid == c.cid && x.op == c.op), outbox := [] } } : State).cqWrite
        (r.bytes c 0) := by
  obtain ⟨u, hu⟩ : ∃ u : State, u = { s with cmd := { s.cmd with
    running := s.cmd.running.filter fun x => !(x.idx == c.idx && x.cid == c.cid && x.op == c.op),
    outbox := s.cmd.outbox ++ [r.bytes c 0] } } := ⟨_, rfl⟩
  have hreply : s.cmdReply c r = u.cqFlush := by rw [hu]; exact if_neg hc
  have hbox : u.cmd.outbox = [r.bytes c 0] := by rw [hu]; show s.cmd.outbox ++ _ = _; rw [hout]; rfl
  have hup' : u.hostUp = true := by rw [hu]; exact hup
  have hlow' : ¬u.lowHeld 32 = true := by rw [hu]; exact fun h => by rw [show s.lowHeld 32 = true from h] at hlow; cases hlow
  rw [hreply, State.cqFlush, if_pos hup', hbox]
  show State.cqDrain u 1 = _
  rw [State.cqDrain, hbox]
  dsimp only
  rw [if_neg hlow', State.cqDrain, hu]

theorem cmdReply_queued {s : State} {c : CmdPkt} (r : Reply) (hc : c.idx ≠ 0xFFFF) (hout : s.cmd.outbox = []) (hup : s.hostUp = true)
    (hlow : s.lowHeld 32 = false) (hq : s.quiet 65) :
    (s.cmdReply c r).rd CMD.CQ_TAIL_TAIL = (s.rd CMD.CQ_TAIL_TAIL % s.cmdSize + 1) % s.cmdSize ∧
    (s.cmdReply c r).hostLE s.cqAt 2 = c.op % 2 ^ 16 ∧ (s.cmdReply c r).hostLE (s.cqAt + 2) 2 = c.cid % 2 ^ 16 ∧
    (s.cmdReply c r).hostLE (s.cqAt + 4) 2 = r.status % 2 ^ 16 ∧ (s.cmdReply c r).hostLE (s.cqAt + 6) 2 = r.detail % 2 ^ 16 ∧
    (∀ k, k < 4 → (s.cmdReply c r).hostLE (s.cqAt + 8 + 4 * k) 4 = r.res.getD k 0 % 2 ^ 32) ∧
    (s.cmdReply c r).hostLE (s.cqAt + 24) 2 = c.idx % 2 ^ 16 ∧ (s.cmdReply c r).hostLE (s.cqAt + 31) 1 = s.cmd.phase % 2 ∧
    (∀ x, ¬(s.cqAt ≤ x ∧ x < s.cqAt + 32) → (s.cmdReply c r).hostBytes x 1 = s.hostBytes x 1) ∧
    KeepsRegs [CMD.CQ_TAIL_TAIL] s (s.cmdReply c r) := by
  rw [cmdReply_ring r hc hout hup hlow]
  obtain ⟨u, hu⟩ : ∃ u : State, u = { s with cmd := { s.cmd with
    running := s.cmd.running.filter fun x => !(x.idx == c.idx && x.cid == c.cid && x.op == c.op), outbox := [] } } := ⟨_, rfl⟩
  have hat : u.cqAt = s.cqAt := by rw [hu]; rfl
  have hsz : u.cmdSize = s.cmdSize := by rw [hu]; rfl
  have htl : u.rd CMD.CQ_TAIL_TAIL = s.rd CMD.CQ_TAIL_TAIL := by rw [hu]; rfl
  have hph : u.cmd.phase = s.cmd.phase := by rw [hu]
  obtain ⟨p, d, cc, m, hw⟩ := cqWrite_quiet (s := u) (bytes := r.bytes c 0) (by rw [hu]; exact hq)
  rw [← hu, ← hat, ← hsz, ← htl, ← hph]
  generalize hv : u.cqWrite (r.bytes c 0) = v at hw ⊢
  have hreg : ∀ f, v.rd f = (u.cqPut (r.bytes c 0)).rd f := fun f => by rw [hw]; rfl
  have hle : ∀ x n, v.hostLE x n = (u.cqPut (r.bytes c 0)).hostLE x n := fun x n => by rw [hw]; rfl
  have hbytes : ∀ x n, v.hostBytes x n = (u.cqPut (r.bytes c 0)).hostBytes x n := fun x n => by rw [hw]; rfl
  simp only [hreg, hle, hbytes]
  refine ⟨cqPut_tail u _, cqPut_field u r c 0 2 _ (by decide) rfl, cqPut_field u r c 2 2 _ (by decide) rfl,
    cqPut_field u r c 4 2 _ (by decide) rfl, cqPut_field u r c 6 2 _ (by decide) rfl, fun k hk => cqPut_results u r c hk,
    cqPut_field u r c 24 2 _ (by decide) rfl, cqPut_phase u r c, fun x hx => ?_, fun f hf => ?_⟩
  · exact (readBytes_writeBytes_frame _ _ _ (length_replyBytes r c _ 0) x hx).trans (by rw [hu]; rfl)
  · rw [hreg f]
    exact (keepsRegs_wr (u.hostWrite _ _) _ _ f hf).trans (by rw [hu]; rfl)

theorem commandTimeout_smbus {s : State} {c : CmdPkt} {τ : Nat} (hrun : s.cmd.running = [c]) (hc : c.idx = 0xFFFF)
    (hdue : c.start + c.limit ≤ τ) :
    Answers (exec (.commandTimeout τ) s) fun t => t.cmd.running = [] ∧ t.rd CMD.STAT_SMB_BUSY = 0 ∧
      t.cmd.smbReply = some ((Reply.err (if c.op = 0x0109 ∨ c.op = 0x0B01 then 0x0704 else 0x0901) 0).bytes c 0) := by
  have hstep : exec (.commandTimeout τ) s = .next ((s.at τ).cmdTimeout c) := by
    show execCommandTimeout τ s = _
    unfold execCommandTimeout
    rw [hrun]
    simp [hdue]
  refine ⟨_, hstep, ?_⟩
  rw [State.cmdTimeout, cmdReply_smbus _ _ hc]
  refine ⟨?_, rd_wr_same _ _ _, rfl⟩
  show (s.cmd.running.filter _) = []
  rw [hrun]
  simp

/-- Settles O45: each clause is one rule above; the layouts of a record and of a reply are read off the bytes written. -/
theorem ringsCarryEventsCommandsAndReplies : Obligations.RingsCarryEventsCommandsAndReplies := by
  unfold Obligations.RingsCarryEventsCommandsAndReplies
  intro τ s
  refine ⟨?_, fun w ws rest h => eventPeekPop_word h, eventPeekPop_empty, eventRingEnable_restarts,
    fun k o hat hdue hn hup => coalesceTimeout_message hat hdue hn hup, ?_, ?_, ?_,
    fun c hrun hc hdue => commandTimeout_smbus hrun hc hdue⟩
  · intro r rs hout hlost hup hlow hen hq n i a
    exact ⟨fun hroom => eventRecord_written hout hlost hup hlow hen hq hroom,
      fun hfull => eventRecord_lost hout hlost hup hlow hen hfull⟩
  · intro tail hlive n fills
    exact ⟨fun hen hfills => cmdDoorbell_full hlive hen hfills, fun hfits => cmdDoorbell_posted hlive hfits⟩
  · intro c r hc t
    rw [show t = _ from cmdReply_smbus s r hc]
    exact ⟨rfl, rd_wr_same _ _ _, keepsRegs_wr { s with cmd := _ } _ _, rfl⟩
  · intro c r hc hout hup hlow hq n i a t
    exact cmdReply_queued r hc hout hup hlow hq

end Sys2Proof.Machine

end

section

/-! CERTIFICATE. Scrubbing, the leaky buckets and the fencing of a channel (R262 to R282). -/

namespace Sys2Proof.Machine

theorem rd_of_regs {s t : State} (h : t.regs = s.regs) (f : Fld) : t.rd f = s.rd f := by
  rw [State.rd, h]
  rfl

theorem onlyRegs_restore {fs : List Fld} {s t u : State} (h : OnlyRegs fs s t)
    (hu : ∃ w, u = { t with w1cSet := w, memu := s.memu, events := s.events }) :
    OnlyRegs fs s u := by
  obtain ⟨w, rfl⟩ := hu
  exact ⟨h.1, congrArg (fun v : State => { v with memu := s.memu, events := s.events }) h.2⟩

/-! ### Scans -/

/-- A scan of memories that hold no errors meets nothing. -/
theorem scan_clean {x : ScanSum} (m : MemId) (a n : Nat) (h : x.s.clean) : x.scan m a n = x := by
  obtain ⟨hfaults, _, _⟩ := id h
  have hnone : x.s.faultsIn m a n = [] := by simp [State.faultsIn, hfaults]
  rw [ScanSum.scan, crcCheck_clean _ _ _ h]
  dsimp only
  rw [hnone]
  rfl

theorem foldl_scan_clean {α : Type} (l : List α) (f : α → MemId × Nat × Nat) {x : ScanSum} (h : x.s.clean) :
    l.foldl (fun (x : ScanSum) r => x.scan (f r).1 (f r).2.1 (f r).2.2) x = x :=
  List.foldlRecOn (motive := fun y => y = x) l _ rfl fun y hy r _ => by
    rw [hy]
    exact scan_clean _ _ _ h

/-- A part of GDDR7 in which one word is in error: the scan meets that word. -/
theorem scan_one {x : ScanSum} {a n k : Nat} {f : WFault} (hfaults : x.s.memu.faults = [(k, f)]) (hcrc : x.s.memu.crc = [])
    (hn : n ≠ 0) (hlo : a / 8 ≤ k) (hhi : 8 * k < a + n) : x.scan .gddr a n = x.word .gddr k := by
  have hkey : decide (wordKey .gddr a ≤ k ∧ k ≤ wordKey .gddr (a + n - 1)) = true := by
    refine decide_eq_true ?_
    simp only [wordKey, MemId.code]
    omega
  have hmet : x.s.faultsIn .gddr a n = [(k, f)] := by
    rw [State.faultsIn, if_neg hn, hfaults]
    exact List.filter_cons_of_pos hkey
  have hcheck : x.s.crcCheck .gddr a (min n 4096) = (x.s, []) := if_pos (Or.inr hcrc)
  rw [ScanSum.scan, hcheck]
  dsimp only
  rw [hmet]
  rfl

/-! ### Counting (R262, R263) -/

theorem memCorrect_one (s : State) (r : Nat) : (s.memCorrect r 1).memu = s.memu ∧ (s.memCorrect r 1).mems = s.mems ∧
    (s.memCorrect r 1).rd (MEMR.CE r) = min (s.rd (MEMR.CE r) + 1) (2 ^ 32 - 1) := by
  have hce : ((s.addSat (MEMR.CE r) 1).addSat (MEMR.BKT_LEVEL r) 1).rd (MEMR.CE r) = min (s.rd (MEMR.CE r) + 1) (2 ^ 32 - 1) := by
    rw [rd_addSat_ne _ _ (by simp only [MEMR.CE, MEMR.BKT_LEVEL, Fld.key]; omega), rd_addSat_same]
    rfl
  unfold State.memCorrect State.memCorrect
  dsimp only
  split
  · obtain ⟨x, hx⟩ := raise_eq ((((s.addSat (MEMR.CE r) 1).addSat (MEMR.BKT_LEVEL r) 1).wr (MEMR.BKT_LEVEL r) 0).set1
      (MEMR.LEAK_OVF_STKY r)) 0x0E01 r []
    rw [hx]
    refine ⟨rfl, rfl, ?_⟩
    exact (rd_wr_ne _ _ (by simp only [MEMR.CE, MEMR.LEAK_OVF_STKY, Fld.key]; omega)).trans
      ((rd_wr_ne _ _ (by simp only [MEMR.CE, MEMR.BKT_LEVEL, Fld.key]; omega)).trans hce)
  · exact ⟨rfl, rfl, hce⟩

theorem ueWatch_eq (s : State) (r : Nat) : ∃ d, s.ueWatch r = { s with diag := d } := by
  unfold State.ueWatch State.autoAsk
  extract_lets ch cl xs full u s1
  split_ifs <;> exact ⟨_, rfl⟩

theorem memUe_spec (s : State) (r a : Nat) : (s.memUe r a).memu = s.memu ∧ (s.memUe r a).mems = s.mems ∧
    (s.memUe r a).rd (MEMR.UE r) = min (s.rd (MEMR.UE r) + 1) (2 ^ 32 - 1) := by
  have hue := rd_addSat_same s (MEMR.UE r) 1
  have hraise : ∃ x, (s.addSat (MEMR.UE r) 1).raiseFirst 0x0E02 r (leBytes 8 a) = { s.addSat (MEMR.UE r) 1 with events := x } := by
    unfold State.raiseFirst State.raiseJoin State.raiseBy
    split <;> exact ⟨_, rfl⟩
  obtain ⟨x, hx⟩ := hraise
  obtain ⟨d, hd⟩ := ueWatch_eq ((s.addSat (MEMR.UE r) 1).raiseFirst 0x0E02 r (leBytes 8 a)) r
  rw [State.memUe, hd, hx]
  exact ⟨rfl, rfl, hue⟩

section

variable {x : ScanSum} {k : Nat} {f : WFault}

/-- The only word in error, met by a scan, is corrected (R262). -/
theorem word_corrected (hfaults : x.s.memu.faults = [(k, f)]) (hk : k < 2 ^ 37) (hpoison : f.poison = false)
    (hbits : f.flips.length ≤ 2) : (x.word .gddr k).s =
      (x.s.setMemu { x.s.memu with faults := [] }).memCorrect (x.s.gddrChannel (8 * k)) 1 := by
  have hmeet : x.s.meetWord .gddr k = ((x.s.setMemu { x.s.memu with faults := [] }).memCorrect (x.s.gddrChannel (8 * k)) 1, false) := by
    unfold State.meetWord
    dsimp only
    rw [hfaults, Nat.mod_eq_of_lt hk]
    simp [hpoison, hbits, MemId.corrects, State.region]
  unfold ScanSum.word
  rw [hmeet]
  dsimp only
  rw [if_neg Bool.false_ne_true]
  exact List.foldlRecOn (motive := fun z : ScanSum => z.s = _) _ _ rfl fun z hz e _ => hz

/-- The only word in error, met by a scan, is uncorrectable and stays poisoned (R263). -/
theorem word_poisoned (hfaults : x.s.memu.faults = [(k, f)]) (hk : k < 2 ^ 37) (hbad : f.poison = true ∨ 2 < f.flips.length) :
    (x.word .gddr k).s =
      (x.s.setMemu { x.s.memu with faults := [(k, { f with poison := true })] }).memUe (x.s.gddrChannel (8 * k)) (8 * k) := by
  have hbits : ¬(f.poison = false ∧ f.flips.length ≤ 2) := fun h => hbad.elim (fun hp => by simp [hp] at h) (fun hl => by omega)
  have hmeet : x.s.meetWord .gddr k =
      ((x.s.setMemu { x.s.memu with faults := [(k, { f with poison := true })] }).memUe (x.s.gddrChannel (8 * k)) (8 * k), true) := by
    unfold State.meetWord
    dsimp only
    rw [hfaults, Nat.mod_eq_of_lt hk]
    simp [hbits, MemId.corrects, MemId.paged, State.region, AMap.set]
  unfold ScanSum.word
  rw [hmeet]
  rfl

end

/-! ### Buckets and patrols (R264, R275, R276) -/

section

variable {τ : Nat} {s : State}

theorem ceBucketLeak_leaks {r : Fin 60} (hnow : (s.at τ).dev % (1000000 * max 1 (s.rd (MEMR.LEAK r))) < 10)
    (hlast : ∀ x, AMap.get none (s.memu.leakAt.map fun e => (e.1, some e.2)) r = some x → x + 10 ≤ max s.now τ) :
    Answers (exec (.ceBucketLeak r τ) s) fun t => t.rd (MEMR.BKT_LEVEL r) = (s.rd (MEMR.BKT_LEVEL r) - 1) % 2 ^ 16 ∧
      t.memu = { s.memu with leakAt := AMap.set s.memu.leakAt r (max s.now τ) } ∧
      OnlyRegs [MEMR.BKT_LEVEL r] s { t with memu := s.memu } := by
  have hall : (AMap.get none (s.memu.leakAt.map fun e => (e.1, some e.2)) r).all (fun x => decide (x + 10 ≤ max s.now τ)) = true := by
    cases hx : AMap.get none (s.memu.leakAt.map fun e => (e.1, some e.2)) r with
    | none => rfl
    | some x => exact decide_eq_true (hlast x hx)
  refine ⟨_, congrArg Host.Outcome.next (if_pos ⟨hnow, hall⟩), rd_wr_same _ _ _, rfl, ?_⟩
  exact ⟨keepsRegs_wr (s.at τ) _ _, rfl⟩

theorem patrolScrub_sram (words : Word) (hs : s.clean)
    (hdue : s.memu.sramAt + 1000000 * min 10000 (max 10 (s.rd MEM.PATROL_SPER)) ≤ τ) :
    Answers (exec (.patrolScrub true words τ) s) fun t => t.rd MEM.PASS_SRAM = (s.rd MEM.PASS_SRAM + 1) % 2 ^ 16 ∧
      t.memu = { s.memu with sramAt := τ } ∧ OnlyRegs [MEM.PASS_SRAM] s { t with memu := s.memu } := by
  obtain ⟨u, hu⟩ : ∃ u, u = (s.at τ).setMemu { s.memu with sramAt := τ } := ⟨_, rfl⟩
  have hclean : u.clean := by rw [hu]; exact hs
  have hscan := foldl_scan_clean patrolMems (fun m => (m.1, 0, m.2)) (x := { s := u }) hclean
  have hstep : exec (.patrolScrub true words τ) s = .next (u.wr MEM.PASS_SRAM (u.rd MEM.PASS_SRAM + 1)) := by
    show execPatrolScrub true words τ s = _
    unfold execPatrolScrub
    dsimp only
    rw [if_pos rfl, if_pos hdue, ← hu]
    exact congrArg (fun x : ScanSum => Host.Outcome.next (x.s.wr MEM.PASS_SRAM (x.s.rd MEM.PASS_SRAM + 1))) hscan
  subst hu
  refine ⟨_, hstep, rd_wr_same _ _ _, rfl, ?_⟩
  exact ⟨keepsRegs_wr (s.at τ) _ _, rfl⟩

/-- What a patrol that has read the next `n` bytes and left `u` leaves of `s`. -/
def State.patrolled (s u : State) (n τ : Nat) : State :=
  let s1 := u.setMemu { u.memu with patrol := if s.memTop ≤ s.memu.patrol + n then 0 else s.memu.patrol + n, patrolAt := τ }
  if s.memTop ≤ s.memu.patrol + n then s1.wr MEM.PASS_GDDR7 (s1.rd MEM.PASS_GDDR7 + 1) else s1

/-- The GDDR7 patrol reads on, as far as the memory reaches. -/
theorem patrolScrub_gddr {words : Word} (hmig : s.is MEM.STAT_MIGRATING = false)
    (hrate : 8000 * words.toNat ≤ (τ - s.memu.patrolAt) * s.rd MEM.PATROL_GRATE) (hwords : words ≠ 0) :
    exec (.patrolScrub false words τ) s = .next (s.patrolled (({ s := s.at τ } : ScanSum).scan .gddr s.memu.patrol
      (min (8 * words.toNat) (s.memTop - s.memu.patrol))).s (8 * words.toNat) τ) := by
  have hn : 0 < words.toNat := Nat.pos_of_ne_zero fun h => hwords (BitVec.eq_of_toNat_eq h)
  have hgo : ¬(s.is MEM.STAT_MIGRATING = true ∨ (τ - s.memu.patrolAt) * s.rd MEM.PATROL_GRATE < 1000 * (8 * words.toNat) ∨
      8 * words.toNat = 0) := by
    rw [hmig]
    simp only [Bool.false_eq_true, false_or, not_or]
    omega
  show execPatrolScrub false words τ s = _
  unfold execPatrolScrub State.patrolled
  dsimp only
  rw [if_neg Bool.false_ne_true, if_neg hgo]
  by_cases hwrap : s.memTop ≤ s.memu.patrol + 8 * words.toNat
  · have hwrap' : s.memTop ≤ s.memu.patrol + min (8 * words.toNat) (s.memTop - s.memu.patrol) := by omega
    simp only [hwrap, hwrap', decide_true, if_true]
  · have hwrap' : ¬s.memTop ≤ s.memu.patrol + min (8 * words.toNat) (s.memTop - s.memu.patrol) := by omega
    have hmin : min (8 * words.toNat) (s.memTop - s.memu.patrol) = 8 * words.toNat := by omega
    simp only [hwrap, hmin, decide_false, if_false, Bool.false_eq_true]

theorem patrolScrub_clean {words : Word} (hs : s.clean) (hmig : s.is MEM.STAT_MIGRATING = false)
    (hrate : 8000 * words.toNat ≤ (τ - s.memu.patrolAt) * s.rd MEM.PATROL_GRATE) (hwords : words ≠ 0) :
    Answers (exec (.patrolScrub false words τ) s) fun t =>
      t.memu = { s.memu with patrolAt := τ,
                             patrol := if s.memTop ≤ s.memu.patrol + 8 * words.toNat then 0 else s.memu.patrol + 8 * words.toNat } ∧
      t.rd MEM.PASS_GDDR7 =
        (if s.memTop ≤ s.memu.patrol + 8 * words.toNat then (s.rd MEM.PASS_GDDR7 + 1) % 2 ^ 16 else s.rd MEM.PASS_GDDR7) ∧
      OnlyRegs [MEM.PASS_GDDR7] s { t with memu := s.memu } := by
  have hstep := patrolScrub_gddr hmig hrate hwords
  rw [scan_clean (x := { s := s.at τ }) _ _ _ hs] at hstep
  refine ⟨_, hstep, ?_⟩
  unfold State.patrolled
  split
  · exact ⟨rfl, rd_wr_same _ _ _, keepsRegs_wr (s.at τ) _ _, rfl⟩
  · exact ⟨rfl, rfl, fun _ _ => rfl, rfl⟩

def State.patrolTo (s : State) (a τ : Nat) : State := s.setMemu { s.memu with patrol := a, patrolAt := τ }

section

variable {words : Word} {k : Nat} {f : WFault} (hfaults : s.memu.faults = [(k, f)]) (hcrc : s.memu.crc = []) (hwords : words ≠ 0)
  (hmig : s.is MEM.STAT_MIGRATING = false) (hrate : 8000 * words.toNat ≤ (τ - s.memu.patrolAt) * s.rd MEM.PATROL_GRATE)
  (htop : s.memu.patrol + 8 * words.toNat < s.memTop) (hlo : s.memu.patrol / 8 ≤ k) (hhi : 8 * k < s.memu.patrol + 8 * words.toNat)
include hfaults hcrc hwords hmig hrate htop hlo hhi

/-- The patrol meets the one word in error and does not reach the end of the memory. -/
theorem patrolScrub_one : ∃ p q, exec (.patrolScrub false words τ) s =
    .next ((({ s := s.at τ } : ScanSum).word .gddr k).s.patrolTo p q) := by
  have hn : 0 < words.toNat := Nat.pos_of_ne_zero fun h => hwords (BitVec.eq_of_toNat_eq h)
  have hmin : min (8 * words.toNat) (s.memTop - s.memu.patrol) = 8 * words.toNat := by omega
  have hstep := patrolScrub_gddr hmig hrate hwords
  rw [hmin, scan_one (x := { s := s.at τ }) hfaults hcrc (by omega) hlo hhi] at hstep
  exact ⟨_, _, hstep.trans (congrArg _ (if_neg (by omega)))⟩

theorem patrolScrub_corrects (hk : k < 2 ^ 37) (hpoison : f.poison = false) (hbits : f.flips.length ≤ 2) :
    Answers (exec (.patrolScrub false words τ) s) fun t => t.memu.faults = [] ∧
      t.rd (MEMR.CE (s.gddrChannel (8 * k))) = min (s.rd (MEMR.CE (s.gddrChannel (8 * k))) + 1) (2 ^ 32 - 1) ∧ t.mems = s.mems := by
  obtain ⟨p, q, hstep⟩ := patrolScrub_one (τ := τ) hfaults hcrc hwords hmig hrate htop hlo hhi
  rw [word_corrected (x := { s := s.at τ }) hfaults hk hpoison hbits] at hstep
  obtain ⟨hmemu, hmems, hce⟩ := memCorrect_one ((s.at τ).setMemu { s.memu with faults := [] }) (s.gddrChannel (8 * k))
  exact ⟨_, hstep, congrArg MemUnit.faults hmemu, hce, hmems⟩

theorem patrolScrub_poisons (hk : k < 2 ^ 37) (hbad : f.poison = true ∨ 2 < f.flips.length) :
    Answers (exec (.patrolScrub false words τ) s) fun t => t.memu.faults = [(k, { f with poison := true })] ∧
      t.rd (MEMR.UE (s.gddrChannel (8 * k))) = min (s.rd (MEMR.UE (s.gddrChannel (8 * k))) + 1) (2 ^ 32 - 1) ∧ t.mems = s.mems := by
  obtain ⟨p, q, hstep⟩ := patrolScrub_one (τ := τ) hfaults hcrc hwords hmig hrate htop hlo hhi
  rw [word_poisoned (x := { s := s.at τ }) hfaults hk hbad] at hstep
  obtain ⟨hmemu, hmems, hue⟩ :=
    memUe_spec ((s.at τ).setMemu { s.memu with faults := [(k, { f with poison := true })] }) (s.gddrChannel (8 * k)) (8 * k)
  exact ⟨_, hstep, congrArg MemUnit.faults hmemu, hue, hmems⟩

end

/-! ### Software scrubs (R277, R278) -/

theorem scrubGo_rejected (hbad : s.is MEM.SCRUB_STAT_BUSY = true ∨ 48 < s.rd MEM.SCRUB_CTL_TARGET ∨
      (s.rd MEM.SCRUB_CTL_TARGET = 0 ∧ s.is MEM.STAT_MIGRATING = true)) :
    Answers (exec (.scrubGo τ) s) fun t => t.rd MEM.SCRUB_STAT_REJ = 1 ∧ OnlyRegs [MEM.SCRUB_STAT_REJ] s t :=
  ⟨_, if_pos hbad, rd_set1 (s.at τ) rfl, sets1_keepsRegs (s.at τ) _ _, rfl⟩

theorem scrubGo_starts (hgood : ¬(s.is MEM.SCRUB_STAT_BUSY = true ∨ 48 < s.rd MEM.SCRUB_CTL_TARGET ∨
      (s.rd MEM.SCRUB_CTL_TARGET = 0 ∧ s.is MEM.STAT_MIGRATING = true))) :
    Answers (exec (.scrubGo τ) s) fun t => ∃ c : Scrub,
      t.memu = { s.memu with scrub := some c } ∧ t.rd MEM.SCRUB_STAT_BUSY = 1 ∧ c.target = s.rd MEM.SCRUB_CTL_TARGET ∧
      c.addr = (s.rd MEM.SCRUB_ADDR_LO_ADDR + 2 ^ 32 * s.rd MEM.SCRUB_ADDR_HI_ADDR) / 64 * 64 ∧
      c.len = (s.rd MEM.SCRUB_LEN_LO_LEN + 2 ^ 32 * s.rd MEM.SCRUB_LEN_HI_LEN) / 64 * 64 ∧
      c.rate = max 1 (s.rd MEM.SCRUB_CTL_RATE) ∧ c.start = max s.now τ ∧
      OnlyRegs [MEM.SCRUB_STAT_BUSY] s { t with memu := s.memu } :=
  ⟨_, if_neg hgood, _, rfl, rd_wr_same _ _ _, rfl, rfl, rfl, rfl, rfl, keepsRegs_wr (s.at τ) _ _, rfl⟩

/-- The registers that the end of a scrub writes. -/
def scrubWrites (n ce ue worst done_ : Nat) : List (Fld × Nat) :=
  [(MEM.SCRUB_WORDS_LO_WORDS, n / 8 % 2 ^ 32), (MEM.SCRUB_WORDS_HI_WORDS, n / 8 / 2 ^ 32), (MEM.SCRUB_WORST_LO_WORST, worst % 2 ^ 32),
    (MEM.SCRUB_WORST_HI_WORST, worst / 2 ^ 32), (MEM.SCRUB_CE_CE, min ce (2 ^ 32 - 1)), (MEM.SCRUB_UE_UE, min ue (2 ^ 32 - 1)),
    (MEM.SCRUB_STAT_DONE, done_), (MEM.SCRUB_STAT_BUSY, 0)]

theorem scrubWrites_nodup (n ce ue worst done_ : Nat) : ((scrubWrites n ce ue worst done_).map (·.1.key)).Nodup := by
  show ([MEM.SCRUB_WORDS_LO_WORDS, MEM.SCRUB_WORDS_HI_WORDS, MEM.SCRUB_WORST_LO_WORST, MEM.SCRUB_WORST_HI_WORST, MEM.SCRUB_CE_CE,
    MEM.SCRUB_UE_UE, MEM.SCRUB_STAT_DONE, MEM.SCRUB_STAT_BUSY].map Fld.key).Nodup
  decide

/-- The words that a scrub of `n` bytes meets. -/
def State.scrubScan (s : State) (c : Scrub) (n : Nat) : ScanSum :=
  (cutRanges n (s.scrubRanges c)).foldl (fun (x : ScanSum) r => x.scan r.1 r.2.1 r.2.2) { s := s }

def ScanSum.worstAt (x : ScanSum) : Nat :=
  match x.bad, x.worst with
  | some a, _ => a
  | none, some (_, a) => a
  | none, none => 2 ^ 64 - 1

theorem set1_wr_eq (s : State) (f g : Fld) (v : Nat) :
    ∃ w d, (s.set1 f).wr g v = { (s.wr f (d ||| 1)).wr g v with w1cSet := w } := ⟨_, s.rd f, rfl⟩

/-- A scrub's summary before DONE. -/
def ScanSum.shown (x : ScanSum) (n : Nat) : State :=
  x.s.wrAll [(MEM.SCRUB_WORDS_LO_WORDS, n / 8 % 2 ^ 32), (MEM.SCRUB_WORDS_HI_WORDS, n / 8 / 2 ^ 32),
    (MEM.SCRUB_WORST_LO_WORST, x.worstAt % 2 ^ 32), (MEM.SCRUB_WORST_HI_WORST, x.worstAt / 2 ^ 32),
    (MEM.SCRUB_CE_CE, min x.ce (2 ^ 32 - 1)), (MEM.SCRUB_UE_UE, min x.ue (2 ^ 32 - 1))]

def ScanSum.finish (x : ScanSum) (n : Nat) : State :=
  (((x.shown n).set1 MEM.SCRUB_STAT_DONE).wr MEM.SCRUB_STAT_BUSY 0).setMemu { x.s.memu with scrub := none }

theorem scrubEnd_raise (s : State) (c : Scrub) (n : Nat) : s.scrubEnd c n = ((s.scrubScan c n).finish n).raise 0x0E03 c.target
    (leBytes 4 (n / 8) ++ leBytes 4 (s.scrubScan c n).ce ++ leBytes 4 (s.scrubScan c n).ue) := rfl

theorem finish_eq (x : ScanSum) (n : Nat) : ∃ w d v, v = x.s.wrAll (scrubWrites n x.ce x.ue x.worstAt (d ||| 1)) ∧
    x.finish n = { v with memu := { x.s.memu with scrub := none }, w1cSet := w } := by
  obtain ⟨w, d, hw⟩ := set1_wr_eq (x.shown n) MEM.SCRUB_STAT_DONE MEM.SCRUB_STAT_BUSY 0
  exact ⟨w, d, _, rfl, congrArg (fun u => u.setMemu { x.s.memu with scrub := none }) hw⟩

/-- The end of a scrub: its writes, then the rest. -/
theorem scrubEnd_eq (s : State) (c : Scrub) (n : Nat) : ∃ ev w d v,
    v = (s.scrubScan c n).s.wrAll
      (scrubWrites n (s.scrubScan c n).ce (s.scrubScan c n).ue (s.scrubScan c n).worstAt (d ||| 1)) ∧
    s.scrubEnd c n = { v with memu := { (s.scrubScan c n).s.memu with scrub := none }, w1cSet := w, events := ev } := by
  obtain ⟨w, d, v, hv, hfin⟩ := finish_eq (s.scrubScan c n) n
  obtain ⟨ev, hev⟩ := raise_eq ((s.scrubScan c n).finish n) 0x0E03 c.target
    (leBytes 4 (n / 8) ++ leBytes 4 (s.scrubScan c n).ce ++ leBytes 4 (s.scrubScan c n).ue)
  exact ⟨ev, w, d, v, hv, ((scrubEnd_raise s c n).trans hev).trans (congrArg (fun u : State => { u with events := ev }) hfin)⟩

theorem scrubWrites_rd {s v : State} {n ce ue worst d : Nat} (hv : v = s.wrAll (scrubWrites n ce ue worst (d ||| 1))) :
    v.rd MEM.SCRUB_STAT_DONE = 1 ∧ v.rd MEM.SCRUB_STAT_BUSY = 0 ∧
    v.rd MEM.SCRUB_WORDS_LO_WORDS + 2 ^ 32 * v.rd MEM.SCRUB_WORDS_HI_WORDS = n / 8 % 2 ^ 64 ∧
    v.rd MEM.SCRUB_CE_CE = min ce (2 ^ 32 - 1) ∧ v.rd MEM.SCRUB_UE_UE = min ue (2 ^ 32 - 1) ∧
    v.rd MEM.SCRUB_WORST_LO_WORST = worst % 2 ^ 32 ∧ v.rd MEM.SCRUB_WORST_HI_WORST = worst / 2 ^ 32 % 2 ^ 32 := by
  have hodd : (d ||| 1) % 2 = 1 := by
    rw [Nat.or_mod_two_eq_one]
    exact .inr rfl
  have hrd : ∀ f x, (f, x) ∈ scrubWrites n ce ue worst (d ||| 1) → v.rd f = x % 2 ^ f.w := fun f x he => by
    rw [hv]
    exact wrAll_rd (scrubWrites_nodup n ce ue worst (d ||| 1)) he
  have hdone := hrd MEM.SCRUB_STAT_DONE (d ||| 1) (by simp [scrubWrites])
  have hbusy := hrd MEM.SCRUB_STAT_BUSY 0 (by simp [scrubWrites])
  have hlo := hrd MEM.SCRUB_WORDS_LO_WORDS (n / 8 % 2 ^ 32) (by simp [scrubWrites])
  have hhi := hrd MEM.SCRUB_WORDS_HI_WORDS (n / 8 / 2 ^ 32) (by simp [scrubWrites])
  have hce := hrd MEM.SCRUB_CE_CE (min ce (2 ^ 32 - 1)) (by simp [scrubWrites])
  have hue := hrd MEM.SCRUB_UE_UE (min ue (2 ^ 32 - 1)) (by simp [scrubWrites])
  have hwlo := hrd MEM.SCRUB_WORST_LO_WORST (worst % 2 ^ 32) (by simp [scrubWrites])
  have hwhi := hrd MEM.SCRUB_WORST_HI_WORST (worst / 2 ^ 32) (by simp [scrubWrites])
  simp only [MEM.SCRUB_STAT_DONE, MEM.SCRUB_STAT_BUSY, MEM.SCRUB_WORDS_LO_WORDS, MEM.SCRUB_WORDS_HI_WORDS, MEM.SCRUB_CE_CE,
    MEM.SCRUB_UE_UE, MEM.SCRUB_WORST_LO_WORST, MEM.SCRUB_WORST_HI_WORST] at hdone hbusy hlo hhi hce hue hwlo hwhi ⊢
  rw [hdone, hbusy, hlo, hhi, hce, hue, hwlo, hwhi]
  omega

theorem scrubScan_clean {s : State} (c : Scrub) (n : Nat) (hs : s.clean) : s.scrubScan c n = { s := s } :=
  foldl_scan_clean _ id (x := { s := s }) hs

theorem scrubEnd_ends (s : State) (c : Scrub) (n : Nat) :
    (s.scrubEnd c n).memu.scrub = none ∧ (s.scrubEnd c n).rd MEM.SCRUB_STAT_DONE = 1 ∧ (s.scrubEnd c n).rd MEM.SCRUB_STAT_BUSY = 0 ∧
    (s.scrubEnd c n).rd MEM.SCRUB_WORDS_LO_WORDS + 2 ^ 32 * (s.scrubEnd c n).rd MEM.SCRUB_WORDS_HI_WORDS = n / 8 % 2 ^ 64 := by
  obtain ⟨ev, w, d, v, hv, hend⟩ := scrubEnd_eq s c n
  obtain ⟨hdone, hbusy, hwords, -⟩ := scrubWrites_rd hv
  rw [hend]
  exact ⟨rfl, hdone, hbusy, hwords⟩

theorem worstAt_clean (s : State) : ({ s := s } : ScanSum).worstAt = 2 ^ 64 - 1 := rfl

/-- Over memories without errors a scrub shows none and leaves the memories' state as it was. -/
theorem scrubEnd_clean {s : State} (c : Scrub) (n : Nat) (hs : s.clean) :
    (s.scrubEnd c n).rd MEM.SCRUB_CE_CE = 0 ∧ (s.scrubEnd c n).rd MEM.SCRUB_UE_UE = 0 ∧
    (s.scrubEnd c n).rd MEM.SCRUB_WORST_LO_WORST = 2 ^ 32 - 1 ∧ (s.scrubEnd c n).rd MEM.SCRUB_WORST_HI_WORST = 2 ^ 32 - 1 ∧
    (s.scrubEnd c n).memu = { s.memu with scrub := none } ∧
    OnlyRegs [MEM.SCRUB_STAT_DONE, MEM.SCRUB_STAT_BUSY, MEM.SCRUB_WORDS_LO_WORDS, MEM.SCRUB_WORDS_HI_WORDS, MEM.SCRUB_CE_CE,
      MEM.SCRUB_UE_UE, MEM.SCRUB_WORST_LO_WORST, MEM.SCRUB_WORST_HI_WORST] s
      { s.scrubEnd c n with memu := s.memu, events := s.events } := by
  obtain ⟨ev, w, d, v, hv, hend⟩ := scrubEnd_eq s c n
  rw [scrubScan_clean c n hs] at hv hend
  obtain ⟨-, -, -, hce, hue, hlo, hhi⟩ := scrubWrites_rd hv
  rw [worstAt_clean] at hlo hhi
  have honly := wrAll_onlyRegs s (scrubWrites n 0 0 (2 ^ 64 - 1) (d ||| 1))
  rw [← show v = s.wrAll (scrubWrites n 0 0 (2 ^ 64 - 1) (d ||| 1)) from hv] at honly
  rw [hend]
  refine ⟨hce.trans (by simp), hue.trans (by simp), hlo.trans (by norm_num), hhi.trans (by norm_num), rfl,
    onlyRegs_mono ?_ (onlyRegs_restore honly ⟨w, rfl⟩)⟩
  simp [scrubWrites]

variable {τ : Nat} {s : State}

theorem scrubDone_eq {c : Scrub} (hc : s.memu.scrub = some c) (hdue : c.start + ceilDiv (1000 * s.scrubBytes c) c.rate ≤ τ) :
    exec (.scrubDone τ) s = .next ((s.at τ).scrubEnd c (s.scrubBytes c)) := by
  show execScrubDone τ s = _
  unfold execScrubDone
  rw [hc]
  exact congrArg _ (if_pos hdue)

theorem scrubAbort_eq {c : Scrub} (words : Word) (hc : s.memu.scrub = some c) : exec (.scrubAbort words τ) s =
    .next ((s.at τ).scrubEnd c (min (min (8 * words.toNat) (s.scrubBytes c)) ((τ - c.start) * c.rate / 1000 / 8 * 8 + 8))) := by
  show execScrubAbort words τ s = _
  unfold execScrubAbort
  rw [hc]

/-! ### Fencing a channel (R270, R280 to R282) -/

theorem granuleMigrate_copies (hmig : s.is MEM.STAT_MIGRATING = true) (hs : s.clean) (hleft : 1 < s.rd MEM.MIGR_LEFT)
    (hmax : s.rd MEM.MIGR_LEFT ≤ 2 ^ 32) : Answers (exec (.granuleMigrate τ) s) fun t =>
      t.memu = { s.memu with copied := s.memu.copied + 1 } ∧ t.rd MEM.MIGR_LEFT = s.rd MEM.MIGR_LEFT - 1 ∧
      OnlyRegs [MEM.MIGR_LEFT] s { t with memu := s.memu } := by
  have hstep : exec (.granuleMigrate τ) s = .next
      (((s.at τ).setMemu { s.memu with copied := s.memu.copied + 1 }).wr MEM.MIGR_LEFT (s.rd MEM.MIGR_LEFT - 1)) := by
    show execGranuleMigrate τ s = _
    unfold execGranuleMigrate
    dsimp only
    rw [if_pos hmig, scan_clean (x := { s := s.at τ }) _ _ _ hs]
    exact congrArg _ (if_neg (show ¬s.rd MEM.MIGR_LEFT - 1 = 0 by omega))
  refine ⟨_, hstep, rfl, ?_, keepsRegs_wr (s.at τ) _ _, rfl⟩
  exact (rd_wr_same _ _ _).trans (Nat.mod_eq_of_lt (show s.rd MEM.MIGR_LEFT - 1 < 2 ^ 32 by omega))

theorem granuleMigrate_last (hmig : s.is MEM.STAT_MIGRATING = true) (hs : s.clean) (hleft : s.rd MEM.MIGR_LEFT ≤ 1) :
    Answers (exec (.granuleMigrate τ) s) fun t =>
      t.memu = { s.memu with copied := s.memu.copied + 1, patrol := 0, patrolAt := τ } ∧ t.rd MEM.MIGR_LEFT = 0 ∧
      t.rd MEM.STAT_MIGRATING = 0 ∧ OnlyRegs [MEM.MIGR_LEFT, MEM.STAT_MIGRATING] s { t with memu := s.memu, events := s.events } := by
  obtain ⟨u, hu⟩ : ∃ u : State, u = (s.at τ).wr MEM.MIGR_LEFT (s.rd MEM.MIGR_LEFT - 1) := ⟨_, rfl⟩
  obtain ⟨v, hv⟩ : ∃ v : State, v = u.wr MEM.STAT_MIGRATING 0 := ⟨_, rfl⟩
  obtain ⟨ev, hev⟩ := raise_eq ({ v with memu := { s.memu with copied := s.memu.copied + 1, patrol := 0, patrolAt := τ } } : State)
    0x0E06 (s.rd MEM.STAT_FENCE) (leBytes 4 (s.memu.poisoned + 0))
  have hstep : exec (.granuleMigrate τ) s = .next
      { v with memu := { s.memu with copied := s.memu.copied + 1, patrol := 0, patrolAt := τ }, events := ev } := by
    rw [← hev, hv, hu]
    show execGranuleMigrate τ s = _
    unfold execGranuleMigrate
    dsimp only
    rw [if_pos hmig, scan_clean (x := { s := s.at τ }) _ _ _ hs]
    exact congrArg _ (if_pos (show s.rd MEM.MIGR_LEFT - 1 = 0 by omega))
  have hmigr : v.rd MEM.MIGR_LEFT = 0 := by
    rw [hv, rd_wr_ne _ _ (by decide), hu, rd_wr_same, show s.rd MEM.MIGR_LEFT - 1 = 0 by omega]
    rfl
  have honly : OnlyRegs [MEM.MIGR_LEFT, MEM.STAT_MIGRATING] s v := by
    rw [hv, hu]
    have hat : OnlyRegs [MEM.MIGR_LEFT] s ((s.at τ).wr MEM.MIGR_LEFT (s.rd MEM.MIGR_LEFT - 1)) := ⟨keepsRegs_wr (s.at τ) _ _, rfl⟩
    exact onlyRegs_trans hat (onlyRegs_wr _ _ _)
  refine ⟨_, hstep, rfl, hmigr, ?_, onlyRegs_restore honly ⟨_, rfl⟩⟩
  exact (congrArg (fun x : State => x.rd MEM.STAT_MIGRATING) hv).trans (rd_wr_same _ _ _)

theorem marginSwitch_adopts {ch : Fin 4} (hch : ch.val ∈ s.memu.margin) : Answers (exec (.marginSwitch ch τ) s) fun t =>
    t.memu = { s.memu with margin := s.memu.margin.filter (fun c => c != ch.val) } ∧
    (s.memu.margin.filter (fun c => c != ch.val) = [] → t.rd MEM.STAT_BAND = s.rd THM.STAT_BAND % 8 ∧
      OnlyRegs [MEM.STAT_BAND] s { t with memu := s.memu, events := s.events }) ∧
    (s.memu.margin.filter (fun c => c != ch.val) ≠ [] → OnlyRegs [] s { t with memu := s.memu }) := by
  have hin : s.memu.margin.contains ch.val = true := by simpa using hch
  obtain ⟨u, hu⟩ : ∃ u : State, u = (s.at τ).setMemu { s.memu with margin := s.memu.margin.filter (fun c => c != ch.val) } :=
    ⟨_, rfl⟩
  by_cases hleft : s.memu.margin.filter (fun c => c != ch.val) = []
  · obtain ⟨ev, hev⟩ := raise_eq (u.wr MEM.STAT_BAND (u.rd THM.STAT_BAND)) 0x0E04 0 []
    have hstep : exec (.marginSwitch ch τ) s = .next { u.wr MEM.STAT_BAND (u.rd THM.STAT_BAND) with events := ev } := by
      rw [← hev, hu]
      exact congrArg Host.Outcome.next ((if_pos hin).trans (if_pos hleft))
    refine ⟨_, hstep, by rw [hu]; rfl, fun _ => ⟨?_, ?_⟩, fun h => absurd hleft h⟩
    · exact (rd_wr_same u _ _).trans (by rw [hu]; rfl)
    · subst hu
      exact ⟨keepsRegs_wr (s.at τ) _ _, rfl⟩
  · have hstep : exec (.marginSwitch ch τ) s = .next u := by
      rw [hu]
      exact congrArg Host.Outcome.next ((if_pos hin).trans (if_neg hleft))
    refine ⟨_, hstep, by rw [hu]; rfl, fun h => absurd h hleft, fun _ => ?_⟩
    subst hu
    exact ⟨fun _ _ => rfl, rfl⟩

end

/-- Settles O52: scans over clean memory meet nothing, and one word in error is met once; each clause is one rule above. -/
theorem memoryScrubsBucketsAndFences : Obligations.MemoryScrubsBucketsAndFences := by
  unfold Obligations.MemoryScrubsBucketsAndFences
  intro τ s
  refine ⟨?_, ?_, ?_, ?_, ?_, ?_, fun ch hch => marginSwitch_adopts hch⟩
  · intro r p
    refine ⟨fun hnow hlast => ceBucketLeak_leaks hnow hlast, fun hnot => ?_⟩
    exact congrArg Host.Outcome.next (if_neg fun h => absurd h.1 (Nat.not_lt.mpr hnot))
  · exact fun words hs => ⟨patrolScrub_sram words hs, fun hmig hrate hwords => patrolScrub_clean hs hmig hrate hwords⟩
  · intro words k f hfaults hcrc hwords hmig hrate htop hlo hhi hk r
    exact ⟨patrolScrub_corrects hfaults hcrc hwords hmig hrate htop hlo hhi hk,
      patrolScrub_poisons hfaults hcrc hwords hmig hrate htop hlo hhi hk⟩
  · exact ⟨scrubGo_rejected, scrubGo_starts⟩
  · intro c hc ends
    have hends : ∀ n, ends n ((s.at τ).scrubEnd c n) := fun n => by
      obtain ⟨h1, h2, h3, h4⟩ := scrubEnd_ends (s.at τ) c n
      refine ⟨h1, h2, h3, h4, fun hs => ?_⟩
      obtain ⟨g1, g2, g3, g4, g5, g6⟩ := scrubEnd_clean (s := s.at τ) c n hs
      exact ⟨g1, g2, g3, g4, g5, g6.1, congrArg (fun u : State => { u with now := s.now }) g6.2⟩
    exact ⟨fun hdue => ⟨_, scrubDone_eq hc hdue, hends _⟩, fun words => ⟨_, scrubAbort_eq words hc, hends _⟩⟩
  · exact fun hmig hs => ⟨granuleMigrate_copies hmig hs, granuleMigrate_last hmig hs⟩

end Sys2Proof.Machine

end

section

/-! SUPPORT. Steps of one link: its part of the state and a few registers (R101 to R108). -/

namespace Sys2Proof.Machine

/-- From `s` to `t` the registers are written by `ws`, link `n` becomes `l`, and otherwise only elapsed time and occurrences move. -/
structure LinkStep (n : Nat) (ws : List (Fld × Nat)) (l : Link) (s t : State) : Prop where
  regs : t.regs = (s.wrAll ws).regs
  link : t.link n = l
  others : ∀ k, k ≠ n → t.link k = s.link k
  rest : { t with now := s.now, regs := s.regs, w1cSet := s.w1cSet, links := s.links, events := s.events } = s

theorem wrAll_regs {s t : State} (h : t.regs = s.regs) (ws : List (Fld × Nat)) : (t.wrAll ws).regs = (s.wrAll ws).regs := by
  induction ws generalizing s t with
  | nil => exact h
  | cons w ws ih =>
    refine ih ?_
    show AMap.set t.regs _ _ = AMap.set s.regs _ _
    rw [h]

/-- Different places of a list without repetitions hold different values. -/
theorem nodup_of_places {base ks : List Nat} (hbase : base.Nodup) (is : List Nat) (hks : ks = is.map fun i => base.getD i 0)
    (hnodup : is.Nodup) (hlt : ∀ i ∈ is, i < base.length) : ks.Nodup := by
  rw [hks]
  refine List.Nodup.map_on (fun i hi j hj hij => ?_) hnodup
  rw [List.getD_eq_getElem _ _ (hlt i hi), List.getD_eq_getElem _ _ (hlt j hj)] at hij
  exact (List.Nodup.getElem_inj_iff hbase).mp hij

theorem LinkStep.refl (n : Nat) (s : State) : LinkStep n [] (s.link n) s s := ⟨rfl, rfl, fun _ _ => rfl, rfl⟩

section

variable {n : Nat} {ws : List (Fld × Nat)} {l : Link} {s t : State} (h : LinkStep n ws l s t)
include h

theorem LinkStep.onlyLink : OnlyLink n s t := ⟨h.rest, h.others⟩

theorem LinkStep.rd (f : Fld) : t.rd f = (s.wrAll ws).rd f := rd_of_regs h.regs f

theorem LinkStep.keepsRegs {fs : List Fld} (hfs : ∀ w ∈ ws, w.1 ∈ fs) : KeepsRegs fs s t := fun f hf => by
  rw [h.rd, wrAll_rd_other s]
  intro hmem
  obtain ⟨w, hw, hkey⟩ := List.mem_map.mp hmem
  exact hf (List.mem_map.mpr ⟨w.1, hfs w hw, hkey⟩)

/-- A register that the step writes once. -/
theorem LinkStep.wrote {f : Fld} {v : Nat} (hnodup : (ws.map (·.1.key)).Nodup) (hw : (f, v) ∈ ws) : t.rd f = v % 2 ^ f.w := by
  rw [h.rd]
  exact wrAll_rd hnodup hw

theorem LinkStep.at_ (τ : Nat) : LinkStep n ws l s (t.at τ) :=
  ⟨h.regs, h.link, h.others, (congrArg (fun u : State => { u with now := s.now }) h.rest :)⟩

theorem LinkStep.wr (f : Fld) (v : Nat) : LinkStep n (ws ++ [(f, v)]) l s (t.wr f v) where
  regs := by
    rw [wrAll_append]
    show AMap.set t.regs f.key _ = AMap.set (s.wrAll ws).regs f.key _
    rw [h.regs]
  link := h.link
  others := h.others
  rest := (congrArg (fun u : State => { u with regs := s.regs }) h.rest :)

theorem LinkStep.setLink (l' : Link) : LinkStep n ws l' s (t.setLink n l') where
  regs := h.regs
  link := link_setLink ..
  others k hk := (link_setLink_ne _ _ hk).trans (h.others k hk)
  rest := h.rest

theorem LinkStep.events (x : EventUnit) : LinkStep n ws l s { t with events := x } := ⟨h.regs, h.link, h.others, h.rest⟩

theorem LinkStep.raise (code idx : Nat) (v : List Nat) : LinkStep n ws l s (t.raise code idx v) := by
  obtain ⟨x, hx⟩ := raise_eq t code idx v
  rw [hx]
  exact h.events x

theorem LinkStep.set1 (f : Fld) : LinkStep n (ws ++ [(f, t.rd f ||| 1)]) l s (t.set1 f) :=
  have := h.wr f (t.rd f ||| 1)
  ⟨this.regs, this.link, this.others, this.rest⟩

theorem LinkStep.trans {ws' : List (Fld × Nat)} {l' : Link} {u : State} (h' : LinkStep n ws' l' t u) :
    LinkStep n (ws ++ ws') l' s u where
  regs := by rw [h'.regs, wrAll_regs h.regs, wrAll_append]
  link := h'.link
  others k hk := (h'.others k hk).trans (h.others k hk)
  rest := by
    have := congrArg (fun u : State => { u with
      now := s.now, regs := s.regs, w1cSet := s.w1cSet, links := s.links, events := s.events }) h'.rest
    exact this.trans h.rest

end

end Sys2Proof.Machine

end

section

/-! CERTIFICATE. Receivers that lock, align and lose the link (R101 to R108, R132 to R134). -/

namespace Sys2Proof.Machine

/-! ### Words out of line bits (R102) -/

/-- What the assembly of words leaves of a link. -/
def Link.assembled (l m : Link) : Prop :=
  { m with runBit := l.runBit, runLen := l.runLen, acc := l.acc, accAt := l.accAt, accBad := l.accBad, slipBits := l.slipBits } = l

theorem Link.assembled_trans {k l m : Link} (h : k.assembled l) (h' : l.assembled m) : k.assembled m := by
  have := congrArg (fun x : Link => { x with
    runBit := k.runBit, runLen := k.runLen, acc := k.acc, accAt := k.accAt, accBad := k.accBad, slipBits := k.slipBits }) h'
  exact this.trans h

theorem rxBit_assembled (l : Link) (at_ : Nat) (b : Bool) : l.assembled (l.rxBit at_ b).1 := by
  unfold Link.rxBit
  dsimp only
  split_ifs <;> rfl

theorem rxBits_assembled (l : Link) (step at_ : Nat) (bs : List Bool) : l.assembled (l.rxBits step at_ bs).1 := by
  induction bs generalizing l at_ with
  | nil => rfl
  | cons b bs ih => exact Link.assembled_trans (rxBit_assembled l at_ b) (ih ..)

/-- The bit after a run of 24 is removed. -/
theorem rxBit_stuffed {l : Link} (at_ : Nat) (b : Bool) (h : l.runLen = 24) :
    l.rxBit at_ b = ({ l with runBit := b, runLen := 1, accBad := l.accBad || b == l.runBit }, none) := if_pos h

/-- A bit of a word in progress. -/
theorem rxBit_taken {l : Link} (at_ : Nat) (b : Bool) (hrun : l.runLen ≠ 24) (hslip : l.slipBits = 0) (hshort : l.acc.length < 31) :
    (l.rxBit at_ b).2 = none ∧ (l.rxBit at_ b).1.acc = l.acc ++ [b] ∧ (l.rxBit at_ b).1.slipBits = 0 ∧
    (l.rxBit at_ b).1.accBad = l.accBad ∧ (l.rxBit at_ b).1.accAt = (if l.acc = [] then at_ else l.accAt) := by
  have hlen : ¬(l.acc ++ [b]).length = 32 := by rw [List.length_append, List.length_singleton]; omega
  unfold Link.rxBit
  dsimp only
  rw [if_neg hrun, if_neg (by omega), if_neg hlen]
  exact ⟨rfl, rfl, hslip, rfl, rfl⟩

/-- The last bit of a word. -/
theorem rxBit_completes {l : Link} (at_ : Nat) (b : Bool) (hrun : l.runLen ≠ 24) (hslip : l.slipBits = 0) (hfull : l.acc.length = 31) :
    (l.rxBit at_ b).2 = some { w := bitsNat (l.acc ++ [b]), at_ := l.accAt, bad := l.accBad } := by
  have hlen : (l.acc ++ [b]).length = 32 := by rw [List.length_append, List.length_singleton]; omega
  have hne : l.acc ≠ [] := fun h => by rw [h] at hfull; cases hfull
  unfold Link.rxBit
  dsimp only
  rw [if_neg hrun, if_neg (by omega), if_pos hlen, if_neg hne]

/-- The rest of a word of 32 bits, `acc` of which have come. -/
theorem rxBits_word (l : Link) (step at_ : Nat) (bs : List Bool) (hne : l.acc ≠ []) (hslip : l.slipBits = 0) (hbs : bs ≠ [])
    (hlen : l.acc.length + bs.length = 32) (hruns : ∀ k, k < bs.length → (l.rxBits step at_ (bs.take k)).1.runLen ≠ 24) :
    (l.rxBits step at_ bs).2 = [{ w := bitsNat (l.acc ++ bs), at_ := l.accAt, bad := l.accBad }] := by
  induction bs generalizing l at_ with
  | nil => exact absurd rfl hbs
  | cons b bs ih =>
    have hrun : l.runLen ≠ 24 := hruns 0 (by simp)
    rw [List.length_cons] at hlen
    rw [Link.rxBits]
    dsimp only
    by_cases hlast : bs = []
    · subst hlast
      rw [rxBit_completes at_ b hrun hslip (by simpa using hlen)]
      rfl
    · have hpos : 0 < bs.length := List.length_pos_iff.mpr hlast
      obtain ⟨hnone, hacc, hslip', hbad, hat⟩ := rxBit_taken at_ b hrun hslip (by omega)
      rw [hnone, ih _ _ (by rw [hacc]; simp) hslip' hlast (by rw [hacc]; simp; omega) fun k hk => hruns (k + 1) (by simpa using hk),
        hacc, hbad, hat, if_neg hne]
      simp

/-- 32 line bits without a stuff bit are a word (R102). -/
theorem rxBits_fresh {l : Link} (step at_ : Nat) {bs : List Bool} (hacc : l.acc = []) (hslip : l.slipBits = 0) (hlen : bs.length = 32)
    (hruns : ∀ k, k < 32 → (l.rxBits step at_ (bs.take k)).1.runLen ≠ 24) :
    (l.rxBits step at_ bs).2 = [{ w := bitsNat bs, at_ := at_, bad := l.accBad }] := by
  cases bs with
  | nil => cases hlen
  | cons b bs =>
    rw [List.length_cons] at hlen
    obtain ⟨hnone, hacc', hslip', hbad, hat⟩ := rxBit_taken (l := l) at_ b (hruns 0 (by decide)) hslip (by rw [hacc]; decide)
    rw [hacc] at hacc'
    rw [if_pos hacc] at hat
    rw [Link.rxBits]
    dsimp only
    rw [hnone, rxBits_word _ _ _ bs (by rw [hacc']; simp) hslip' (fun h => by rw [h] at hlen; cases hlen) (by rw [hacc']; simp; omega)
      fun k hk => hruns (k + 1) (by omega), hacc', hbad, hat]
    rfl

/-! ### Registers of a receiver -/

/-- The registers of link `n` that its receiver writes. -/
def rxFlds (n : Nat) : List Fld :=
  [LNK.STAT_STATE n, LNK.STAT_CDR_LOCK n, LNK.ALIGN_SLIP n, LNK.ALIGN_HITS n, LNK.ALIGN_DONE n, LNK.STAT_RATE_ACT n, LNK.STAT_PWR_ACT n,
    LNK.STAT_LLAT_VALID n, LNK.STAT_LOST_STKY n, LNK.CNT0_SYNC_MISS n]

theorem rxFlds_nodup (n : Nat) : ((rxFlds n).map Fld.key).Nodup := by
  simp only [rxFlds, LNK.STAT_STATE, LNK.STAT_CDR_LOCK, LNK.ALIGN_SLIP, LNK.ALIGN_HITS, LNK.ALIGN_DONE, LNK.STAT_RATE_ACT,
    LNK.STAT_PWR_ACT, LNK.STAT_LLAT_VALID, LNK.STAT_LOST_STKY, LNK.CNT0_SYNC_MISS, Fld.key, List.map_cons, List.map_nil]
  simp only [List.nodup_cons, List.mem_cons, List.not_mem_nil, not_or, or_false, List.nodup_nil, and_true, not_false_eq_true]
  omega

/-- Writes to different registers of a receiver, named by their places in `rxFlds`. -/
theorem rx_nodup {n : Nat} {ks : List Nat} (is : List Nat) (hks : ks = is.map fun i => ((rxFlds n).map Fld.key).getD i 0)
    (hnodup : is.Nodup) (hlt : ∀ i ∈ is, i < 10) : ks.Nodup := nodup_of_places (rxFlds_nodup n) is hks hnodup hlt

/-! ### Locking (R104, R107) -/

/-- A fresh hit window. -/
def Link.windowed (l : Link) : Link := { l with winWords := 0 }

theorem hitWindow_step {n : Nat} {ws : List (Fld × Nat)} {l : Link} {s t : State} (h : LinkStep n ws l s t) :
    LinkStep n (ws ++ [(LNK.ALIGN_HITS n, 0)] ++ [(LNK.ALIGN_DONE n, 0)]) l.windowed s (t.hitWindow n) := by
  obtain rfl := h.link
  exact ((h.setLink _).wr _ _).wr _ _

def Link.searching (l : Link) : Link :=
  { l with winWords := 0, cand := 0, fromLost := false, alignProc := some (l.alignProc.getD 0) }

theorem enterSearch_step {n : Nat} {ws : List (Fld × Nat)} {l : Link} {s t : State} (h : LinkStep n ws l s t) :
    LinkStep n (ws ++ [(LNK.STAT_STATE n, 2)] ++ [(LNK.ALIGN_HITS n, 0)] ++ [(LNK.ALIGN_DONE n, 0)]) l.searching s (t.enterSearch n) := by
  have hwin := hitWindow_step (h.wr (LNK.STAT_STATE n) 2)
  unfold State.enterSearch
  dsimp only
  rw [hwin.link]
  exact hwin.setLink _

theorem enterSearch_state (s : State) (n : Nat) : (s.enterSearch n).rd (LNK.STAT_STATE n) = 2 :=
  (enterSearch_step (LinkStep.refl n s)).wrote (v := 2) (rx_nodup [0, 3, 4] rfl (by decide) (by decide)) (by simp)

/-- Leaving any state but ALIGNED touches no frame. -/
theorem leaveAligned_step {n : Nat} {s : State} (hst : s.rd (LNK.STAT_STATE n) ≠ 4) :
    ∃ l, LinkStep n [] l s (s.leaveAligned n) ∧ l.sig = (s.link n).sig := by
  unfold State.leaveAligned
  rw [if_neg hst]
  exact ⟨_, (LinkStep.refl n s).setLink _, rfl⟩

theorem startLock_step {n : Nat} {s : State} (hst : s.rd (LNK.STAT_STATE n) ≠ 4) :
    ∃ l, LinkStep n [(LNK.STAT_CDR_LOCK n, 0), (LNK.STAT_STATE n, if (s.link n).sig then 1 else 0)] l s (s.startLock n) ∧
      l.sig = (s.link n).sig := by
  obtain ⟨l, hl, hsig⟩ := leaveAligned_step hst
  unfold State.startLock
  dsimp only
  rw [hl.link, ← hsig]
  exact ⟨_, ((hl.setLink _).wr _ _).wr _ _, rfl⟩

section

variable {n : Fin 24} {τ : Nat} {s : State}

theorem signalDetect_locks (hon : s.flrOn n = true) (hst : s.rd (LNK.STAT_STATE n) = 0) :
    Answers (exec (.signalDetect n τ) s) fun t => t.rd (LNK.STAT_STATE n) = 1 ∧ t.link n = { s.link n with sig := true } ∧
      KeepsRegs [LNK.STAT_STATE n] s t ∧ OnlyLink n s t := by
  have hstep := (((LinkStep.refl n s).at_ τ).setLink { s.link n with sig := true }).wr (LNK.STAT_STATE n) 1
  refine ⟨_, congrArg Host.Outcome.next (if_pos ⟨hon, hst⟩), rd_wr_same _ _ _, hstep.link, hstep.keepsRegs ?_, hstep.onlyLink⟩
  simp

theorem cdrLock_searches (hst : s.rd (LNK.STAT_STATE n) = 1) : Answers (exec (.cdrLock n τ) s) fun t =>
    t.rd (LNK.STAT_STATE n) = 2 ∧ t.rd (LNK.STAT_CDR_LOCK n) = 1 ∧ t.rd (LNK.ALIGN_SLIP n) = 0 ∧ t.rd (LNK.ALIGN_HITS n) = 0 ∧
    t.rd (LNK.ALIGN_DONE n) = 0 ∧ (t.link n).alignProc = some 0 ∧ (t.link n).eq = s.eqPreset n ∧ KeepsRegs (alignRegs n) s t ∧
    OnlyLink n s t := by
  refine ⟨_, congrArg Host.Outcome.next (if_pos hst), ?_⟩
  have hstep := enterSearch_step (((((LinkStep.refl n s).at_ τ).wr (LNK.STAT_CDR_LOCK n) 1).wr (LNK.ALIGN_SLIP n) 0).setLink
    { s.link n with noLockAt := none, eq := s.eqPreset n, eqAt := (s.at τ).now, alignProc := none, runBit := false, runLen := 0,
                    acc := [], accBad := false, slipBits := 0, wordPos := 0, cell := [], cellBad := false })
  have hnodup := rx_nodup (n := n) [1, 2, 0, 3, 4] rfl (by decide) (by decide)
  have hwrote := fun f v => hstep.wrote (f := f) (v := v) hnodup
  exact ⟨hwrote _ 2 (by simp), hwrote _ 1 (by simp), hwrote _ 0 (by simp), hwrote _ 0 (by simp), hwrote _ 0 (by simp),
    congrArg Link.alignProc hstep.link, congrArg Link.eq hstep.link, hstep.keepsRegs (by simp [alignRegs]), hstep.onlyLink⟩

theorem signalLost_unlocks (energy : Bool) (hlock : s.is (LNK.STAT_CDR_LOCK n) = true) (hst : s.rd (LNK.STAT_STATE n) ≠ 4) :
    Answers (exec (.signalLost n energy τ) s) fun t => t.rd (LNK.STAT_CDR_LOCK n) = 0 ∧
      t.rd (LNK.STAT_STATE n) = (if energy then 1 else 0) ∧ (t.link n).sig = energy ∧ KeepsRegs (alignRegs n) s t ∧
      OnlyLink n s t := by
  have hsig := ((LinkStep.refl n s).at_ τ).setLink { s.link n with sig := energy }
  obtain ⟨l, hlock', hl⟩ := startLock_step (n := n) (s := (s.at τ).setLink n { s.link n with sig := energy }) hst
  rw [hsig.link] at hlock' hl
  have hstep := (hsig.trans hlock').raise 0x0803 n []
  have hwrote := fun f v => hstep.wrote (f := f) (v := v) (rx_nodup (n := n) [1, 0] rfl (by decide) (by decide))
  refine ⟨_, congrArg Host.Outcome.next (if_pos hlock), hwrote _ 0 (by simp), ?_, ?_, hstep.keepsRegs (by simp [alignRegs]),
    hstep.onlyLink⟩
  · refine (hwrote _ (if energy then 1 else 0) (by simp)).trans ?_
    cases energy <;> rfl
  · exact (congrArg Link.sig hstep.link).trans hl

end

/-! ### Words (R105, R106) -/

section

variable {n : Nat} {u : State} {x : RxWord} (hinj : (u.link n).injSync = false)
include hinj

theorem wordIn_search (hst : u.rd (LNK.STAT_STATE n) = 2) : u.wordIn n x =
    if x.w = syncWord then (((u.hitWord n x.w).setLink n { (u.hitWord n x.w).link n with cand := 1, fromLost := false }).wr
      (LNK.STAT_STATE n) 3).cellBegin n x false
    else u.hitWord n x.w := by
  unfold State.wordIn
  simp [hst, hinj]

theorem wordIn_candidate (hst : u.rd (LNK.STAT_STATE n) = 3) : u.wordIn n x =
    if (u.link n).wordPos < 33 then (u.hitWord n x.w).cellWord n x
    else if x.w = syncWord then ((u.hitWord n x.w).cellMatch n).cellBegin n x false
    else if (u.link n).fromLost then
      ((u.hitWord n x.w).setLink n { (u.hitWord n x.w).link n with cand := 0 }).wr (LNK.STAT_STATE n) 5
    else (u.hitWord n x.w).enterSearch n := by
  unfold State.wordIn
  simp [hst, hinj]

theorem wordIn_aligned (hst : u.rd (LNK.STAT_STATE n) = 4) : u.wordIn n x =
    if (u.link n).wordPos < 33 then u.cellWord n x
    else if 2 < bitDiff 32 x.w syncWord then (u.cellMiss n).cellBegin n x true
    else (u.setLink n { u.link n with misses := 0 }).cellBegin n x false := by
  unfold State.wordIn
  simp [hst, hinj]

end

/-- A word that passes the hit window counts there at most. -/
theorem hitWord_step {n : Nat} {ws : List (Fld × Nat)} {l : Link} {s t : State} (h : LinkStep n ws l s t) (w : Nat) :
    ∃ hits k, (hits = [] ∨ ∃ v, hits = [(LNK.ALIGN_HITS n, v)]) ∧
      LinkStep n (ws ++ hits) { l with winWords := k } s (t.hitWord n w) := by
  obtain rfl := h.link
  unfold State.hitWord
  dsimp only
  split
  · exact ⟨[], _, .inl rfl, by rw [List.append_nil]; exact h⟩
  · have hset := h.setLink { t.link n with winWords := (t.link n).winWords + 1 }
    split
    · exact ⟨_, _, .inr ⟨_, rfl⟩, hset.wr _ _⟩
    · exact ⟨[], _, .inl rfl, by rw [List.append_nil]; exact hset⟩

theorem hits_aligning {n : Nat} {hits : List (Fld × Nat)} (hhits : hits = [] ∨ ∃ v, hits = [(LNK.ALIGN_HITS n, v)]) :
    ∀ w ∈ [] ++ hits, w.1 ∈ alignRegs n := by
  rcases hhits with rfl | ⟨v, rfl⟩ <;> simp [alignRegs]

theorem hits_keep_state {n : Nat} {hits : List (Fld × Nat)} {l : Link} {s t : State}
    (hhits : hits = [] ∨ ∃ v, hits = [(LNK.ALIGN_HITS n, v)]) (h : LinkStep n ([] ++ hits) l s t) :
    t.rd (LNK.STAT_STATE n) = s.rd (LNK.STAT_STATE n) := by
  rw [h.rd]
  rcases hhits with rfl | ⟨v, rfl⟩
  · rfl
  · exact rd_wr_ne _ _ (key_ne_of_nodup (rxFlds_nodup n) (i := 0) (j := 3) rfl rfl (by decide))

/-- A link with one more word in its cell. -/
def Link.extended (l : Link) (x : RxWord) : Link :=
  { l with wordPos := l.wordPos + 1, cell := l.cell ++ [x.w], cellBad := l.cellBad || x.bad }

/-- A word that does not complete a cell in ALIGNED. -/
theorem cellWord_short {n : Nat} {s : State} {x : RxWord}
    (h : s.rd (LNK.STAT_STATE n) ≠ 4 ∨ ((s.link n).cell ++ [x.w]).length ≠ 32) :
    s.cellWord n x = s.setLink n ((s.link n).extended x) := if_neg fun hc => h.elim (· hc.1) (· hc.2)

/-- A link at the beginning of a cell. -/
def Link.begun (l : Link) (x : RxWord) (skip : Bool) : Link :=
  { l with wordPos := 1, cell := [], cellAt := x.at_, cellBad := x.bad || skip }

theorem cellBegin_step {n : Nat} {ws : List (Fld × Nat)} {l : Link} {s t : State} (h : LinkStep n ws l s t) (x : RxWord) (skip : Bool) :
    LinkStep n ws (l.begun x skip) s (t.cellBegin n x skip) := by
  obtain rfl := h.link
  exact h.setLink _

theorem setLink_setLink (s : State) (n : Nat) (l l' : Link) : (s.setLink n l).setLink n l' = s.setLink n l' := by
  simp only [State.setLink, amap_set_set]

/-- Line bits reach the receiver from the line, or in a test loop with a cell pattern from the loop. -/
theorem lineBits_step {n : Fin 24} {τ ps : Nat} {s : State} {head rest : List Bool} {i : Instr} {m : Link} {x : RxWord}
    (hi : (i = .forwardCell n head rest ps τ ∧ (s.link n).loop ≠ 1 ∧ (s.link n).loop ≠ 2 ∧ s.is (LNK.STAT_CDR_LOCK n) = true) ∨
      (i = .loopPatternCheck n head rest ps τ ∧ ((s.link n).loop = 1 ∨ (s.link n).loop = 2) ∧ 2 ≤ s.cfg (LNK.LOOP_CFG_PAT n)))
    (hbits : (s.link n).rxBits (s.bitTime n) ps (head ++ rest) = (m, [x])) :
    exec i s = .next (((s.at τ).setLink n m).wordIn n x) := by
  have hline : (s.at τ).lineBits n (head ++ rest) ps = ((s.at τ).setLink n m).wordIn n x := by
    have hbits' : ((s.at τ).link n).rxBits ((s.at τ).bitTime n) ps (head ++ rest) = (m, [x]) := hbits
    unfold State.lineBits
    rw [hbits']
    rfl
  rw [← hline]
  rcases hi with ⟨rfl, h1, h2, hlock⟩ | ⟨rfl, hloop, hpat⟩
  · refine congrArg Host.Outcome.next (if_neg ?_)
    rw [hlock]
    exact fun h => h.elim h1 fun h => h.elim h2 (by decide)
  · refine congrArg Host.Outcome.next ((if_neg ?_).trans (if_pos hpat))
    exact fun h => hloop.elim h.1 h.2

section

variable {n : Fin 24} {s u : State} {m : Link} {x : RxWord} (hu : LinkStep n [] m s u) (hm : (s.link n).assembled m)
  (hinj : (s.link n).injSync = false)
include hu hm hinj

theorem received_fields : (u.link n).injSync = false ∧ (u.link n).wordPos = (s.link n).wordPos ∧ (u.link n).cand = (s.link n).cand ∧
    (u.link n).misses = (s.link n).misses ∧ (u.link n).fromLost = (s.link n).fromLost ∧ (u.link n).loop = (s.link n).loop ∧
    (u.link n).cell = (s.link n).cell ∧ (u.link n).cellBad = (s.link n).cellBad := by
  have hfld : ∀ {α : Type} (f : Link → α), f { m with
      runBit := (s.link n).runBit, runLen := (s.link n).runLen, acc := (s.link n).acc, accAt := (s.link n).accAt,
      accBad := (s.link n).accBad, slipBits := (s.link n).slipBits } = f (s.link n) := fun f => congrArg f hm
  rw [hu.link]
  exact ⟨(hfld Link.injSync).trans hinj, hfld Link.wordPos, hfld Link.cand, hfld Link.misses, hfld Link.fromLost, hfld Link.loop,
    hfld Link.cell, hfld Link.cellBad⟩

theorem word_found (hst : s.rd (LNK.STAT_STATE n) = 2) (hw : x.w = syncWord) :
    (u.wordIn n x).rd (LNK.STAT_STATE n) = 3 ∧ ((u.wordIn n x).link n).cand = 1 ∧ ((u.wordIn n x).link n).wordPos = 1 ∧
    KeepsRegs (alignRegs n) s (u.wordIn n x) ∧ OnlyLink n s (u.wordIn n x) := by
  obtain ⟨hinj', -⟩ := received_fields hu hm hinj
  rw [wordIn_search hinj' ((hu.rd _).trans hst), if_pos hw]
  obtain ⟨hits, k, hhits, hhit⟩ := hitWord_step hu x.w
  have hstep := cellBegin_step
    ((hhit.setLink { (u.hitWord n x.w).link n with cand := 1, fromLost := false }).wr (LNK.STAT_STATE n) 3) x false
  refine ⟨rd_wr_same _ _ _, congrArg Link.cand hstep.link, congrArg Link.wordPos hstep.link, hstep.keepsRegs ?_, hstep.onlyLink⟩
  rcases hhits with rfl | ⟨v, rfl⟩ <;> simp [alignRegs]

theorem word_missed (hst : s.rd (LNK.STAT_STATE n) = 2) (hw : x.w ≠ syncWord) :
    (u.wordIn n x).rd (LNK.STAT_STATE n) = 2 ∧ KeepsRegs (alignRegs n) s (u.wordIn n x) ∧ OnlyLink n s (u.wordIn n x) := by
  obtain ⟨hinj', -⟩ := received_fields hu hm hinj
  rw [wordIn_search hinj' ((hu.rd _).trans hst), if_neg hw]
  obtain ⟨hits, k, hhits, hhit⟩ := hitWord_step hu x.w
  exact ⟨(hits_keep_state hhits hhit).trans hst, hhit.keepsRegs (hits_aligning hhits), hhit.onlyLink⟩

theorem word_in_candidate (hst : s.rd (LNK.STAT_STATE n) = 3) (hpos : (s.link n).wordPos < 33) :
    (u.wordIn n x).rd (LNK.STAT_STATE n) = 3 ∧ ((u.wordIn n x).link n).cand = (s.link n).cand ∧
    ((u.wordIn n x).link n).wordPos = (s.link n).wordPos + 1 ∧ KeepsRegs (alignRegs n) s (u.wordIn n x) ∧
    OnlyLink n s (u.wordIn n x) := by
  obtain ⟨hinj', hpos', hcand, -⟩ := received_fields hu hm hinj
  rw [wordIn_candidate hinj' ((hu.rd _).trans hst), if_pos (by rw [hpos']; exact hpos)]
  obtain ⟨hits, k, hhits, hhit⟩ := hitWord_step hu x.w
  have hstate := (hits_keep_state hhits hhit).trans hst
  rw [cellWord_short (.inl (by rw [hstate]; decide)), hhit.link]
  have hstep := hhit.setLink (Link.extended { m with winWords := k } x)
  rw [hu.link] at hpos' hcand
  exact ⟨hstate, (congrArg Link.cand hstep.link).trans hcand, (congrArg Link.wordPos hstep.link).trans (congrArg (· + 1) hpos'),
    hstep.keepsRegs (hits_aligning hhits), hstep.onlyLink⟩

theorem word_matched (hst : s.rd (LNK.STAT_STATE n) = 3) (hpos : 33 ≤ (s.link n).wordPos) (hw : x.w = syncWord)
    (hcand : (s.link n).cand < 3) :
    (u.wordIn n x).rd (LNK.STAT_STATE n) = 3 ∧ ((u.wordIn n x).link n).cand = (s.link n).cand + 1 ∧
    ((u.wordIn n x).link n).wordPos = 1 ∧ KeepsRegs (alignRegs n) s (u.wordIn n x) ∧ OnlyLink n s (u.wordIn n x) := by
  obtain ⟨hinj', hpos', hcand', -⟩ := received_fields hu hm hinj
  rw [wordIn_candidate hinj' ((hu.rd _).trans hst), if_neg (by rw [hpos']; omega), if_pos hw]
  obtain ⟨hits, k, hhits, hhit⟩ := hitWord_step hu x.w
  have hstate := (hits_keep_state hhits hhit).trans hst
  rw [hu.link] at hcand'
  have hmatch : (u.hitWord n x.w).cellMatch n = (u.hitWord n x.w).setLink n { m with winWords := k, cand := m.cand + 1 } := by
    unfold State.cellMatch
    rw [hhit.link]
    exact if_neg (by dsimp only; omega)
  rw [hmatch]
  have hstep := cellBegin_step (hhit.setLink { m with winWords := k, cand := m.cand + 1 }) x false
  exact ⟨hstate, (congrArg Link.cand hstep.link).trans (congrArg (· + 1) hcand'), congrArg Link.wordPos hstep.link,
    hstep.keepsRegs (hits_aligning hhits), hstep.onlyLink⟩

theorem word_unmatched (hst : s.rd (LNK.STAT_STATE n) = 3) (hpos : 33 ≤ (s.link n).wordPos) (hw : x.w ≠ syncWord) :
    (u.wordIn n x).rd (LNK.STAT_STATE n) = (if (s.link n).fromLost then 5 else 2) ∧ ((u.wordIn n x).link n).cand = 0 ∧
    KeepsRegs (alignRegs n) s (u.wordIn n x) ∧ OnlyLink n s (u.wordIn n x) := by
  obtain ⟨hinj', hpos', -, -, hlost, -⟩ := received_fields hu hm hinj
  rw [wordIn_candidate hinj' ((hu.rd _).trans hst), if_neg (by rw [hpos']; omega), if_neg hw, hlost]
  obtain ⟨hits, k, hhits, hhit⟩ := hitWord_step hu x.w
  cases (s.link n).fromLost with
  | true =>
    have hstep := (hhit.setLink { (u.hitWord n x.w).link n with cand := 0 }).wr (LNK.STAT_STATE n) 5
    refine ⟨rd_wr_same _ _ _, congrArg Link.cand hstep.link, hstep.keepsRegs ?_, hstep.onlyLink⟩
    rcases hhits with rfl | ⟨v, rfl⟩ <;> simp [alignRegs]
  | false =>
    have hstep := enterSearch_step hhit
    refine ⟨?_, congrArg Link.cand hstep.link, hstep.keepsRegs ?_, hstep.onlyLink⟩
    · exact enterSearch_state _ _
    · rcases hhits with rfl | ⟨v, rfl⟩ <;> simp [alignRegs]

theorem word_in_aligned (hst : s.rd (LNK.STAT_STATE n) = 4) (hpos : (s.link n).wordPos < 33) (hcell : (s.link n).cell.length < 31) :
    u.wordIn n x = u.setLink n (m.extended x) := by
  obtain ⟨hinj', hpos', -, -, -, -, hcell', -⟩ := received_fields hu hm hinj
  rw [wordIn_aligned hinj' ((hu.rd _).trans hst), if_pos (by rw [hpos']; exact hpos), cellWord_short (.inr ?_), hu.link]
  rw [hcell', List.length_append, List.length_singleton]
  omega

theorem word_synced (hst : s.rd (LNK.STAT_STATE n) = 4) (hpos : 33 ≤ (s.link n).wordPos) (hw : bitDiff 32 x.w syncWord ≤ 2) :
    (u.wordIn n x).link n = { m with wordPos := 1, cell := [], cellAt := x.at_, cellBad := x.bad, misses := 0 } ∧
    (u.wordIn n x).regs = s.regs ∧ OnlyLink n s (u.wordIn n x) := by
  obtain ⟨hinj', hpos', -⟩ := received_fields hu hm hinj
  rw [wordIn_aligned hinj' ((hu.rd _).trans hst), if_neg (by rw [hpos']; omega), if_neg (by omega), hu.link]
  have hstep := cellBegin_step (hu.setLink { m with misses := 0 }) x false
  exact ⟨by rw [hstep.link, Link.begun, Bool.or_false], hstep.regs, hstep.onlyLink⟩

theorem word_off (hst : s.rd (LNK.STAT_STATE n) = 4) (hpos : 33 ≤ (s.link n).wordPos) (hw : 2 < bitDiff 32 x.w syncWord)
    (hmiss : (s.link n).misses < 7) :
    (u.wordIn n x).link n =
      { m with wordPos := 1, cell := [], cellAt := x.at_, cellBad := true, misses := (s.link n).misses + 1 } ∧
    (u.wordIn n x).rd (LNK.CNT0_SYNC_MISS n) = min (s.rd (LNK.CNT0_SYNC_MISS n) + 1) (2 ^ (LNK.CNT0_SYNC_MISS n).w - 1) ∧
    KeepsRegs [LNK.CNT0_SYNC_MISS n] s (u.wordIn n x) ∧ OnlyLink n s (u.wordIn n x) := by
  obtain ⟨hinj', hpos', -, hmiss', -⟩ := received_fields hu hm hinj
  rw [wordIn_aligned hinj' ((hu.rd _).trans hst), if_neg (by rw [hpos']; omega), if_pos hw]
  rw [hu.link] at hmiss'
  obtain ⟨v, hv⟩ : ∃ v, v = u.addSat (LNK.CNT0_SYNC_MISS n) 1 := ⟨_, rfl⟩
  have hcount : LinkStep n [(LNK.CNT0_SYNC_MISS n, min (u.rd (LNK.CNT0_SYNC_MISS n) + 1) (2 ^ (LNK.CNT0_SYNC_MISS n).w - 1))] m s v := by
    rw [hv]
    exact hu.wr _ _
  have hcellMiss : u.cellMiss n = v.setLink n { m with misses := (s.link n).misses + 1 } := by
    unfold State.cellMiss
    dsimp only
    rw [← hv, hcount.link, hmiss']
    exact if_pos (by omega)
  rw [hcellMiss]
  have hstep := cellBegin_step (hcount.setLink { m with misses := (s.link n).misses + 1 }) x true
  refine ⟨by rw [hstep.link, Link.begun, Bool.or_true], ?_, hstep.keepsRegs (by simp), hstep.onlyLink⟩
  show v.rd _ = _
  rw [hv, rd_addSat_same, hu.rd]
  rfl

/-- The eighth miss loses the link. -/
theorem word_lost (hst : s.rd (LNK.STAT_STATE n) = 4) (hpos : 33 ≤ (s.link n).wordPos) (hw : 2 < bitDiff 32 x.w syncWord)
    (hmiss : 7 ≤ (s.link n).misses) :
    (u.wordIn n x).rd (LNK.STAT_STATE n) = 5 ∧ (u.wordIn n x).rd (LNK.STAT_LOST_STKY n) = 1 ∧ ((u.wordIn n x).link n).burst = none := by
  obtain ⟨hinj', hpos', -, hmiss', -⟩ := received_fields hu hm hinj
  rw [wordIn_aligned hinj' ((hu.rd _).trans hst), if_neg (by rw [hpos']; omega), if_pos hw]
  obtain ⟨v, hv⟩ : ∃ v, v = (u.addSat (LNK.CNT0_SYNC_MISS n) 1).leaveAligned n := ⟨_, rfl⟩
  have hburst : (v.link n).burst = none := by
    rw [hv, State.leaveAligned, link_setLink]
  have hstep := ((((LinkStep.refl n v).wr (LNK.STAT_STATE n) 5).setLink { v.link n with alignProc := some 0 }).set1
    (LNK.STAT_LOST_STKY n)).raise 0x0802 n []
  have hcellMiss : u.cellMiss n = (((v.wr (LNK.STAT_STATE n) 5).setLink n { v.link n with alignProc := some 0 }).set1
      (LNK.STAT_LOST_STKY n)).raise 0x0802 n [] := by
    unfold State.cellMiss
    dsimp only
    rw [← hv]
    exact if_neg (show ¬(u.link n).misses + 1 < 8 by rw [hmiss']; omega)
  rw [hcellMiss]
  have hcell := cellBegin_step hstep x true
  refine ⟨hcell.wrote (v := 5) (rx_nodup [0, 8] rfl (by decide) (by decide)) (by simp), ?_, ?_⟩
  · refine (hcell.rd _).trans ((rd_set1 ((v.wr (LNK.STAT_STATE n) 5).setLink n _) rfl : State.rd (State.wr _ _ _) _ = 1))
  · rw [hcell.link]
    exact hburst

end

/-! ### The fourth match (R105, R121 to R124) -/

/-- What the back channel leaves of a link. -/
def Link.aside (l m : Link) : Prop := m.misses = l.misses ∧ m.burst = l.burst

section

variable {n : Nat} {ws : List (Fld × Nat)} {l : Link} {s t : State} (h : LinkStep n ws l s t)
include h

theorem bcNext_step : ∃ m, LinkStep n ws m s (t.bcNext n) ∧ l.aside m := by
  obtain rfl := h.link
  unfold State.bcNext
  dsimp only
  split
  · exact ⟨_, h, rfl, rfl⟩
  · split
    · exact ⟨_, h, rfl, rfl⟩
    next f _ =>
      have hset := h.setLink { t.link n with bcq := (t.link n).bcq.erase f, seq := ((t.link n).seq + 1) % 16, injAck := false }
      unfold State.bcLaunch
      dsimp only
      rw [hset.link]
      exact ⟨_, hset.setLink _, rfl, rfl⟩

theorem bcSend_step (f : BcFrame) : ∃ m, LinkStep n ws m s (t.bcSend n f) ∧ l.aside m := by
  obtain rfl := h.link
  obtain ⟨m, hm, ha⟩ := bcNext_step (h.setLink { t.link n with bcq := (t.link n).bcq ++ [f] })
  exact ⟨m, hm, ha⟩

theorem twConfig_step : ∃ m, LinkStep n ws m s (t.twConfig n) ∧ l.aside m := by
  obtain rfl := h.link
  obtain ⟨m, hm, ha⟩ := bcSend_step (h.setLink { t.link n with cfgDue := false })
    { tw := true, op := 1, body := t.twConfigBody n, who := .config }
  exact ⟨m, hm, ha⟩

theorem flrControl_step (op : Nat) (args : List Nat) {who : Who} (hwho : who = .readId ∨ who = .setPower 0) :
    ∃ m, LinkStep n ws m s (t.flrControl n op args who) ∧ l.aside m := by
  unfold State.flrControl
  split
  · exact bcSend_step h _
  · rcases hwho with rfl | rfl
    · obtain rfl := h.link
      exact ⟨_, h.setLink _, rfl, rfl⟩
    · exact ⟨_, h, rfl, rfl⟩

theorem burstStart_step : ∃ m, LinkStep n ws m s (t.burstStart n) ∧ m.misses = l.misses ∧ m.burst.isSome = true := by
  obtain rfl := h.link
  exact ⟨_, h.setLink _, rfl, rfl⟩

theorem enterAligned_step : ∃ m, LinkStep n (ws ++ [(LNK.STAT_STATE n, 4)] ++ [(LNK.STAT_LLAT_VALID n, 0)]) m s (t.enterAligned n) ∧
    m.misses = 0 ∧ (l.loop ≠ 1 → l.loop ≠ 2 → m.burst.isSome = true) := by
  have hlink := h.link
  have hin := (((h.setLink { l with misses := 0, cand := 0, alignProc := none, part := [], cseq := none, resync := true }).wr
    (LNK.STAT_STATE n) 4).wr (LNK.STAT_LLAT_VALID n) 0).raise 0x0801 n []
  unfold State.enterAligned
  dsimp only
  rw [hlink]
  split
  next hloop => exact ⟨_, hin, rfl, fun h1 h2 => (hloop.elim h1 h2).elim⟩
  · obtain ⟨m1, h1, hm1, hb1⟩ := burstStart_step hin
    obtain ⟨m2, h2, hm2, hb2⟩ := twConfig_step h1
    have hmisses : m2.misses = 0 := hm2.trans hm1
    have hburst : m2.burst.isSome = true := by rw [hb2]; exact hb1
    have done : ∀ {m : Link}, m2.aside m → m.misses = 0 ∧ (l.loop ≠ 1 → l.loop ≠ 2 → m.burst.isSome = true) :=
      fun ha => ⟨ha.1.trans hmisses, fun _ _ => by rw [ha.2]; exact hburst⟩
    split
    · obtain ⟨m3, h3, ha⟩ := flrControl_step h2 1 [] (.inl rfl)
      exact ⟨m3, h3, done ha⟩
    · split
      · obtain ⟨m3, h3, ha⟩ := flrControl_step h2 3 [0] (.inr rfl)
        exact ⟨m3, h3, done ha⟩
      · exact ⟨m2, h2, done ⟨rfl, rfl⟩⟩
    · exact ⟨m2, h2, done ⟨rfl, rfl⟩⟩

end

/-- The fourth match in a row aligns the receiver. -/
theorem word_aligns {n : Fin 24} {s u : State} {m : Link} {x : RxWord} (hu : LinkStep n [] m s u) (hm : (s.link n).assembled m)
    (hinj : (s.link n).injSync = false) (hst : s.rd (LNK.STAT_STATE n) = 3) (hpos : 33 ≤ (s.link n).wordPos) (hw : x.w = syncWord)
    (hcand : 3 ≤ (s.link n).cand) :
    (u.wordIn n x).rd (LNK.STAT_STATE n) = 4 ∧ (u.wordIn n x).rd (LNK.STAT_LLAT_VALID n) = 0 ∧ ((u.wordIn n x).link n).misses = 0 ∧
    ((s.link n).loop ≠ 1 → (s.link n).loop ≠ 2 → ((u.wordIn n x).link n).burst.isSome = true) := by
  obtain ⟨hinj', hpos', hcand', -, -, hloop, -⟩ := received_fields hu hm hinj
  rw [wordIn_candidate hinj' ((hu.rd _).trans hst), if_neg (by rw [hpos']; omega), if_pos hw]
  obtain ⟨hits, k, hhits, hhit⟩ := hitWord_step hu x.w
  rw [hu.link] at hcand' hloop
  have hmatch : (u.hitWord n x.w).cellMatch n = (u.hitWord n x.w).enterAligned n := by
    unfold State.cellMatch
    rw [hhit.link]
    exact if_pos (by dsimp only; omega)
  rw [hmatch, ← hloop]
  have hlink := hhit.link
  obtain ⟨p, hp, hmisses, hburst⟩ := enterAligned_step (LinkStep.refl n (u.hitWord n x.w))
  rw [hlink] at hburst
  have hcell := cellBegin_step hp x false
  have hwrote := fun f v => hcell.wrote (f := f) (v := v) (rx_nodup (n := n) [0, 7] rfl (by decide) (by decide))
  refine ⟨hwrote _ 4 (by simp), hwrote _ 0 (by simp), ?_, ?_⟩
  · rw [hcell.link]
    exact hmisses
  · rw [hcell.link]
    exact hburst

/-! ### Hit windows, slips, fallback and the equaliser (R107, R108, R133, R134) -/

theorem bitslip_step {n : Nat} {s : State} (hst : s.rd (LNK.STAT_STATE n) = 2) :
    LinkStep n [(LNK.ALIGN_SLIP n, (s.rd (LNK.ALIGN_SLIP n) + 1) % 32), (LNK.ALIGN_HITS n, 0), (LNK.ALIGN_DONE n, 0)]
      { s.link n with winWords := 0, slipBits := (s.link n).slipBits + 1 } s (s.bitslip n) := by
  have hwin := hitWindow_step ((LinkStep.refl n s).wr (LNK.ALIGN_SLIP n) ((s.rd (LNK.ALIGN_SLIP n) + 1) % 32))
  unfold State.bitslip
  dsimp only
  rw [if_pos (Or.inl hst), if_neg (by omega), hwin.link]
  exact hwin.setLink _

section

variable {n : Fin 24} {τ : Nat} {s : State}

theorem hitWindowDone_shows (hst : s.rd (LNK.STAT_STATE n) = 2 ∨ s.rd (LNK.STAT_STATE n) = 3 ∨ s.rd (LNK.STAT_STATE n) = 5)
    (hfull : 66 ≤ (s.link n).winWords) :
    Answers (exec (.hitWindowDone n τ) s) fun t => t.rd (LNK.ALIGN_DONE n) = 1 ∧ OnlyRegs [LNK.ALIGN_DONE n] s t :=
  ⟨_, congrArg Host.Outcome.next (if_pos ⟨hst, hfull⟩), rd_wr_same _ _ _, keepsRegs_wr (s.at τ) _ _, rfl⟩

theorem slip_value (s : State) (n : Nat) :
    (s.rd (LNK.ALIGN_SLIP n) + 1) % 32 % 2 ^ (LNK.ALIGN_SLIP n).w = (s.rd (LNK.ALIGN_SLIP n) + 1) % 32 :=
  Nat.mod_mod _ 32

theorem bitslip_slips (hst : s.rd (LNK.STAT_STATE n) = 2) : Answers (exec (.bitslip n τ) s) fun t =>
    t.rd (LNK.ALIGN_SLIP n) = (s.rd (LNK.ALIGN_SLIP n) + 1) % 32 ∧ t.rd (LNK.ALIGN_HITS n) = 0 ∧ t.rd (LNK.ALIGN_DONE n) = 0 ∧
    t.link n = { s.link n with winWords := 0, slipBits := (s.link n).slipBits + 1 } ∧ KeepsRegs (alignRegs n) s t ∧ OnlyLink n s t := by
  have hstep := ((LinkStep.refl n s).at_ τ).trans (bitslip_step (n := n) (s := s.at τ) hst)
  have hwrote := fun f v => hstep.wrote (f := f) (v := v) (rx_nodup (n := n) [2, 3, 4] rfl (by decide) (by decide))
  exact ⟨_, rfl, (hwrote _ _ (.head _)).trans (slip_value s n), hwrote _ 0 (by simp), hwrote _ 0 (by simp), hstep.link,
    hstep.keepsRegs (by simp [alignRegs]), hstep.onlyLink⟩

theorem alignProcedure_slips {k : Nat} (hk : (s.link n).alignProc = some k) (hsvc : s.svcRunning = true)
    (hst : s.rd (LNK.STAT_STATE n) = 2) (hdone : s.is (LNK.ALIGN_DONE n) = true) (hhits : s.rd (LNK.ALIGN_HITS n) = 0) :
    Answers (exec (.alignProcedure n τ) s) fun t => t.rd (LNK.ALIGN_SLIP n) = (s.rd (LNK.ALIGN_SLIP n) + 1) % 32 ∧
      (t.link n).alignProc = (if k + 1 = 32 then none else some (k + 1)) ∧ KeepsRegs (alignRegs n) s t ∧ OnlyLink n s t := by
  have hslip := ((LinkStep.refl n s).at_ τ).trans (bitslip_step (n := n) (s := s.at τ) hst)
  have hstep : exec (.alignProcedure n τ) s = .next (if k + 1 = 32 then
      (((s.at τ).bitslip n).setLink n { ((s.at τ).bitslip n).link n with alignProc := none }).raise 0x0804 n []
      else ((s.at τ).bitslip n).setLink n { ((s.at τ).bitslip n).link n with alignProc := some (k + 1) }) := by
    show execAlignProcedure n τ s = _
    unfold execAlignProcedure
    rw [hk]
    dsimp only
    rw [if_neg (by rw [hsvc, hst]; decide), if_pos (Or.inl hst), if_pos ⟨hdone, hhits⟩]
  have hnodup := rx_nodup (n := n) [2, 3, 4] rfl (by decide) (by decide)
  by_cases hlast : k + 1 = 32
  · rw [if_pos hlast] at hstep
    have hend := (hslip.setLink { ((s.at τ).bitslip n).link n with alignProc := none }).raise 0x0804 n []
    exact ⟨_, hstep, (hend.wrote hnodup (.head _)).trans (slip_value s n), by rw [hend.link, if_pos hlast],
      hend.keepsRegs (by simp [alignRegs]), hend.onlyLink⟩
  · rw [if_neg hlast] at hstep
    have hend := hslip.setLink { ((s.at τ).bitslip n).link n with alignProc := some (k + 1) }
    exact ⟨_, hstep, (hend.wrote hnodup (.head _)).trans (slip_value s n), by rw [hend.link, if_neg hlast],
      hend.keepsRegs (by simp [alignRegs]), hend.onlyLink⟩

theorem rateFallback_falls {o : Nat} (ho : (s.link n).noLockAt = some o) (hon : s.flrOn n = true)
    (hlock : s.is (LNK.STAT_CDR_LOCK n) = false) (hdue : o + 2000000 ≤ τ) : Answers (exec (.rateFallback n τ) s) fun t =>
      t.rd (LNK.STAT_RATE_ACT n) = 0 ∧ t.rd (LNK.STAT_PWR_ACT n) = 3 ∧ KeepsRegs [LNK.STAT_RATE_ACT n, LNK.STAT_PWR_ACT n] s t ∧
      OnlyLink n s t := by
  have hset := (((LinkStep.refl n s).at_ τ).wr (LNK.STAT_RATE_ACT n) 0).wr (LNK.STAT_PWR_ACT n) 3
  have hstep := hset.setLink { s.link n with
    idOk := if (s.link n).idOk = some false then some false else none, recover := false, noLockAt := some (s.at τ).now }
  have hwrote := fun f v => hstep.wrote (f := f) (v := v) (rx_nodup (n := n) [5, 6] rfl (by decide) (by decide))
  refine ⟨_, ?_, hwrote _ 0 (by simp), hwrote _ 3 (by simp), hstep.keepsRegs (by simp), hstep.onlyLink⟩
  show execRateFallback n τ s = _
  unfold execRateFallback
  dsimp only
  rw [ho]
  exact congrArg Host.Outcome.next (if_pos ⟨hon, hlock, hdue⟩)

theorem bankExitLate_ends {e : Nat} (he : (s.link n).exitBy = some e) (hdue : e ≤ τ) (hpwr : s.rd (LNK.STAT_PWR_ACT n) = 3) :
    Answers (exec (.bankExitLate n τ) s) fun t => t.link n = { s.link n with exitBy := none } ∧ t.regs = s.regs ∧ OnlyLink n s t := by
  have hstep := (((LinkStep.refl n s).at_ τ).setLink { s.link n with exitBy := none }).raise 0x0811 n []
  refine ⟨_, ?_, hstep.link, hstep.regs, hstep.onlyLink⟩
  show execBankExitLate n τ s = _
  unfold execBankExitLate
  rw [he]
  exact congrArg Host.Outcome.next (if_pos ⟨hdue, hpwr⟩)

theorem equaliserStep_moves (hlock : s.is (LNK.STAT_CDR_LOCK n) = true) (hne : (s.link n).eq ≠ s.eqPreset n)
    (hdue : (s.link n).eqAt + 100000 ≤ τ) : Answers (exec (.equaliserStep n τ) s) fun t =>
      (t.link n).eq = (if (s.link n).eq < s.eqPreset n then (s.link n).eq + 1 else (s.link n).eq - 1) ∧ t.regs = s.regs ∧
      OnlyLink n s t := by
  have hstep := ((LinkStep.refl n s).at_ τ).setLink { s.link n with
    eq := if (s.link n).eq < s.eqPreset n then (s.link n).eq + 1 else (s.link n).eq - 1, eqAt := τ }
  exact ⟨_, congrArg Host.Outcome.next (if_pos ⟨hlock, hne, hdue⟩), congrArg Link.eq hstep.link, hstep.regs, hstep.onlyLink⟩

end

/-- Settles O50: each word runs one case of the receiver; every case is a chain of writes to the link's registers and its part of
the state. -/
theorem linkReceiversLockAlignAndLose : Obligations.LinkReceiversLockAlignAndLose := by
  unfold Obligations.LinkReceiversLockAlignAndLose
  intro n τ s l st
  refine ⟨signalDetect_locks, cdrLock_searches, signalLost_unlocks, ?_, fun at_ b h => rxBit_stuffed at_ b h,
    fun step at_ bs hacc hslip hlen hruns => rxBits_fresh step at_ hacc hslip hlen hruns, hitWindowDone_shows, bitslip_slips,
    fun k hk hsvc hst hdone hhits => alignProcedure_slips hk hsvc hst hdone hhits,
    fun o ho hon hlock hdue => rateFallback_falls ho hon hlock hdue, fun e he hdue hpwr => bankExitLate_ends he hdue hpwr,
    equaliserStep_moves⟩
  intro head rest ps i line hi m x hbits hinj begun
  have hstep := lineBits_step hi hbits
  have hu := ((LinkStep.refl n s).at_ τ).setLink m
  have hm : (s.link n).assembled m := by
    have := rxBits_assembled (s.link n) (s.bitTime n) ps line
    rwa [hbits] at this
  refine ⟨fun hst hw => ⟨_, hstep, word_found hu hm hinj hst hw⟩, fun hst hw => ⟨_, hstep, word_missed hu hm hinj hst hw⟩,
    fun hst hpos => ⟨_, hstep, word_in_candidate hu hm hinj hst hpos⟩,
    fun hst hpos hw hcand => ⟨_, hstep, word_matched hu hm hinj hst hpos hw hcand⟩,
    fun hst hpos hw hcand => ⟨_, hstep, word_aligns hu hm hinj hst hpos hw hcand⟩,
    fun hst hpos hw => ⟨_, hstep, word_unmatched hu hm hinj hst hpos hw⟩,
    fun hst hpos hcell => ?_,
    fun hst hpos hw => ⟨_, hstep, word_synced (m := m) hu hm hinj hst hpos hw⟩,
    fun hst hpos hw hmiss => ⟨_, hstep, word_off (m := m) hu hm hinj hst hpos hw hmiss⟩,
    fun hst hpos hw hmiss => ⟨_, hstep, word_lost hu hm hinj hst hpos hw hmiss⟩⟩
  obtain ⟨-, hpos', -, -, -, -, hcell', hbad'⟩ := received_fields hu hm hinj
  rw [hu.link] at hpos' hcell' hbad'
  rw [hstep, word_in_aligned hu hm hinj hst hpos hcell, Link.extended, hpos', hcell', hbad', setLink_setLink]

end Sys2Proof.Machine

end

section

/-! CERTIFICATE. Frames of the back channel, latency calibration, test loops and camera power (R115 to R140). -/

namespace Sys2Proof.Machine

/-! ### Frames (R115 to R117) -/

theorem le_frameSlot (l : Link) (now : Nat) (tw : Bool) : 3 * (now : Int) ≤ l.frameSlot now tw := by
  unfold Link.frameSlot
  have hslot : (0 : Int) < slotLen := by decide
  have hceil := Int.ediv_mul_le (-((3 * now : Int) - l.phase)) (ne_of_gt hslot)
  have hx : (3 * now : Int) ≤ l.phase + slotLen * (-(-((3 * now : Int) - l.phase) / slotLen)) := by
    rw [mul_comm] at hceil
    linarith
  have hpos : ∀ c : Prop, [Decidable c] → (0 : Int) ≤ if c then 2 * slotLen else 0 := fun c _ => by
    split <;> decide
  have h1 := hpos (l.echoDue now = true)
  have h2 := hpos (tw = true ∧ l.gpioDue = true)
  dsimp only
  split <;> omega

/-- A frame leaves in the slot found for it. -/
theorem bcLaunch_step {n : Nat} {ws : List (Fld × Nat)} {l : Link} {s t : State} (h : LinkStep n ws l s t) (f : BcFrame) :
    ∃ (e : Nat) (x : Int), 3 * (t.now : Int) ≤ x ∧
      LinkStep n ws { l with out := some { f with from_ := x, endAt := e }, tx := f.chars, txAt := x } s (t.bcLaunch n f) := by
  obtain rfl := h.link
  exact ⟨_, _, le_frameSlot _ _ _, h.setLink _⟩

/-- Nothing waits to be sent. -/
theorem bcNext_idle {s : State} {n : Nat} (hq : (s.link n).bcq = []) : s.bcNext n = s := by
  unfold State.bcNext
  dsimp only
  rw [hq]
  split <;> rfl

section

variable {n : Nat} {ws : List (Fld × Nat)} {l : Link} {s t : State} {f : BcFrame} (h : LinkStep n ws l s t)
include h

theorem bcRetry_again (htries : f.tries < 3) : ∃ (e : Nat) (x : Int), 3 * (t.now : Int) ≤ x ∧
    LinkStep n (ws ++ [(LNK.CNT2_BC_RETRY n, min (t.rd (LNK.CNT2_BC_RETRY n) + 1) (2 ^ (LNK.CNT2_BC_RETRY n).w - 1))])
      { l with out := some { f with tries := f.tries + 1, from_ := x, endAt := e }, tx := f.chars, txAt := x } s (t.bcRetry n f) := by
  obtain ⟨e, x, hx, hstep⟩ := bcLaunch_step (h.wr (LNK.CNT2_BC_RETRY n) (min (t.rd (LNK.CNT2_BC_RETRY n) + 1)
    (2 ^ (LNK.CNT2_BC_RETRY n).w - 1))) { f with tries := f.tries + 1 }
  refine ⟨e, x, hx, ?_⟩
  rw [State.bcRetry, if_neg (by omega)]
  exact hstep

theorem bcFail_config (hwho : f.who = .config) (hq : l.bcq = []) :
    LinkStep n (ws ++ [(LNK.CNT2_BC_FAIL n, min (t.rd (LNK.CNT2_BC_FAIL n) + 1) (2 ^ (LNK.CNT2_BC_FAIL n).w - 1))])
      { l with out := none } s (t.bcFail n f) := by
  obtain rfl := h.link
  have hstep := ((h.setLink { t.link n with out := none }).wr (LNK.CNT2_BC_FAIL n) (min (t.rd (LNK.CNT2_BC_FAIL n) + 1)
    (2 ^ (LNK.CNT2_BC_FAIL n).w - 1))).raise 0x0808 n []
  unfold State.bcFail
  rw [hwho]
  dsimp only
  rw [State.whoFails, bcNext_idle]
  · exact hstep
  · exact (congrArg Link.bcq hstep.link).trans hq

end

/-- A saturating count. -/
theorem LinkStep.counted {n : Nat} {f : Fld} {l : Link} {s t : State}
    (h : LinkStep n ([] ++ [(f, min (s.rd f + 1) (2 ^ f.w - 1))]) l s t) : t.rd f = min (s.rd f + 1) (2 ^ f.w - 1) := by
  rw [h.rd]
  exact rd_addSat_same s f 1

/-- A frame for which nothing else waits leaves at once. -/
theorem bcSend_idle {n : Nat} {ws : List (Fld × Nat)} {l : Link} {s t : State} {f : BcFrame} (h : LinkStep n ws l s t)
    (hout : l.out = none) (hq : l.bcq = []) (htw : f.tw = false) : ∃ (m : Link) (e : Nat) (x : Int), LinkStep n ws m s (t.bcSend n f) ∧
      m.out = some { f with seq := l.seq, held := l.injAck, from_ := x, endAt := e } ∧
      m.tx = ({ f with seq := l.seq, held := l.injAck } : BcFrame).chars ∧ m.idRetry = l.idRetry := by
  have hset := (h.setLink { l with bcq := [f] }).setLink
    { l with bcq := [f].erase f, seq := (l.seq + 1) % 16, injAck := false }
  obtain ⟨e, x, -, hlaunch⟩ := bcLaunch_step hset { f with seq := l.seq, held := l.injAck }
  have hsend : t.bcSend n f = ((t.setLink n { l with bcq := [f] }).setLink n
      { l with bcq := [f].erase f, seq := (l.seq + 1) % 16, injAck := false }).bcLaunch n { f with seq := l.seq, held := l.injAck } := by
    unfold State.bcSend
    dsimp only
    rw [h.link, hq]
    unfold State.bcNext
    dsimp only
    rw [link_setLink]
    dsimp only
    rw [hout]
    simp [htw, List.range, List.range.loop]
  rw [hsend]
  exact ⟨_, e, x, hlaunch, rfl, rfl, rfl⟩

section

variable {n : Fin 24} {τ : Nat} {s : State}

/-- A frame sent again. -/
def BcAgain (n τ : Nat) (s : State) (f : BcFrame) (t : State) : Prop :=
  ∃ (e : Nat) (x : Int), 3 * (max s.now τ : Nat) ≤ x ∧
    t.link n = { s.link n with out := some { f with tries := f.tries + 1, from_ := x, endAt := e }, tx := f.chars, txAt := x } ∧
    t.rd (LNK.CNT2_BC_RETRY n) = min (s.rd (LNK.CNT2_BC_RETRY n) + 1) (2 ^ (LNK.CNT2_BC_RETRY n).w - 1) ∧
    KeepsRegs [LNK.CNT2_BC_RETRY n] s t ∧ OnlyLink n s t

/-- A frame given up. -/
def BcFailed (n : Nat) (s t : State) : Prop :=
  t.link n = { s.link n with out := none } ∧
    t.rd (LNK.CNT2_BC_FAIL n) = min (s.rd (LNK.CNT2_BC_FAIL n) + 1) (2 ^ (LNK.CNT2_BC_FAIL n).w - 1) ∧
    KeepsRegs [LNK.CNT2_BC_FAIL n] s t ∧ OnlyLink n s t

theorem bcRetry_spec (n τ : Nat) (s : State) {f : BcFrame} (htries : f.tries < 3) : BcAgain n τ s f ((s.at τ).bcRetry n f) := by
  obtain ⟨e, x, hx, hstep⟩ := bcRetry_again ((LinkStep.refl n s).at_ τ) htries
  exact ⟨e, x, hx, hstep.link, hstep.counted, hstep.keepsRegs (by simp), hstep.onlyLink⟩

theorem bcFail_spec (τ : Nat) {n : Nat} {s : State} {f : BcFrame} (hwho : f.who = .config) (hq : (s.link n).bcq = []) :
    BcFailed n s ((s.at τ).bcFail n f) := by
  have hstep := bcFail_config ((LinkStep.refl n s).at_ τ) hwho hq
  exact ⟨hstep.link, hstep.counted, hstep.keepsRegs (by simp), hstep.onlyLink⟩

theorem bcAck_eq (seq result : BitVec 4) (resp : List Byte) (hheard : s.heard n = true) :
    exec (.bcAck n seq result resp τ) s = .next ((s.at τ).bcAck n seq.toNat result.toNat (resp.map BitVec.toNat)) :=
  congrArg Host.Outcome.next (if_pos hheard)

theorem bcAck_answered {u : State} {f : BcFrame} {seq result : Nat} {resp : List Nat} (hout : (u.link n).out = some f)
    (hseq : f.seq = seq) (hheld : f.held = false) : u.bcAck n seq result resp = match result with
      | 0 => ((u.setLink n { u.link n with out := none }).whoDone n resp f.who).bcNext n
      | 1 => u.bcRetry n f
      | 2 => u.bcFail n f
      | _ => u := by
  unfold State.bcAck
  rw [hout]
  exact if_neg (by simp [hseq, hheld])

section

variable {f : BcFrame} {seq result : BitVec 4} {resp : List Byte} (hheard : s.heard n = true) (hout : (s.link n).out = some f)
include hheard hout

theorem bcAck_other (hseq : f.seq ≠ seq.toNat) : exec (.bcAck n seq result resp τ) s = .next (s.at τ) := by
  rw [bcAck_eq seq result resp hheard]
  have hout' : ((s.at τ).link n).out = some f := hout
  unfold State.bcAck
  rw [hout']
  exact congrArg Host.Outcome.next (if_pos (Or.inl hseq))

variable (hseq : f.seq = seq.toNat) (hheld : f.held = false)
include hseq hheld

theorem bcAck_ends (hwho : f.who = .config) (hq : (s.link n).bcq = []) (hres : result = 0) :
    exec (.bcAck n seq result resp τ) s = .next ((s.at τ).setLink n { s.link n with out := none }) := by
  rw [bcAck_eq seq result resp hheard, bcAck_answered (u := s.at τ) hout hseq hheld, hres]
  show Host.Outcome.next (State.bcNext (State.whoDone _ n _ f.who) n) = _
  rw [hwho]
  refine congrArg Host.Outcome.next (bcNext_idle (s := (s.at τ).setLink n { s.link n with out := none }) ?_)
  rw [link_setLink]
  exact hq

theorem bcAck_retries (hres : result = 1) (htries : f.tries < 3) :
    Answers (exec (.bcAck n seq result resp τ) s) (BcAgain n τ s f) := by
  refine ⟨_, bcAck_eq seq result resp hheard, ?_⟩
  rw [bcAck_answered (u := s.at τ) hout hseq hheld, hres]
  exact bcRetry_spec n τ s htries

theorem bcAck_fails (hwho : f.who = .config) (hq : (s.link n).bcq = []) (hres : result = 2 ∨ (result = 1 ∧ 3 ≤ f.tries)) :
    Answers (exec (.bcAck n seq result resp τ) s) (BcFailed n s) := by
  refine ⟨_, bcAck_eq seq result resp hheard, ?_⟩
  rw [bcAck_answered (u := s.at τ) hout hseq hheld]
  rcases hres with hres | ⟨hres, htries⟩
  · rw [hres]
    exact bcFail_spec τ hwho hq
  · rw [hres]
    show BcFailed n s ((s.at τ).bcRetry n f)
    rw [State.bcRetry, if_pos htries]
    exact bcFail_spec τ hwho hq

end

theorem bcAckTimeout_eq {f : BcFrame} (hout : (s.link n).out = some f) (hdue : f.endAt + 20000 ≤ τ) :
    exec (.bcAckTimeout n τ) s = .next ((s.at τ).bcRetry n f) := by
  show execBcAckTimeout n τ s = _
  unfold execBcAckTimeout
  rw [hout]
  exact congrArg Host.Outcome.next (if_pos hdue)

theorem readIdRetry_sends {r : Nat} (hr : (s.link n).idRetry = some r) (hdue : r ≤ τ) (hst : s.rd (LNK.STAT_STATE n) = 4)
    (havail : s.bcAvailable n = true) (hout : (s.link n).out = none) (hq : (s.link n).bcq = []) :
    Answers (exec (.readIdRetry n τ) s) fun t =>
      (t.link n).tx = [0x15C, (s.link n).seq * 16 + 1, crc8 [(s.link n).seq * 16 + 1], 0x1FD] ∧ (t.link n).idRetry = none ∧
      (∃ f, (t.link n).out = some f ∧ f.who = .readId ∧ f.seq = (s.link n).seq ∧ f.tries = 0) ∧ t.regs = s.regs ∧
      OnlyLink n s t := by
  obtain ⟨u, hu⟩ : ∃ u : State, u = (s.at τ).setLink n { s.link n with idRetry := none } := ⟨_, rfl⟩
  have hin : LinkStep n [] { s.link n with idRetry := none } s u := by
    rw [hu]
    exact ((LinkStep.refl n s).at_ τ).setLink _
  have hstep : exec (.readIdRetry n τ) s = .next (u.flrControl n 1 [] .readId) := by
    rw [hu]
    show execReadIdRetry n τ s = _
    unfold execReadIdRetry
    rw [hr]
    exact congrArg Host.Outcome.next (if_pos ⟨hdue, hst⟩)
  have havail' : u.bcAvailable n = true := by rw [hu]; exact havail
  have hsend : u.flrControl n 1 [] .readId = u.bcSend n { op := 1, body := [], who := .readId } := if_pos havail'
  rw [hsend] at hstep
  obtain ⟨m, e, x, hm, hmout, hmtx, hmid⟩ := bcSend_idle hin hout hq (f := { op := 1, body := [], who := .readId }) rfl
  refine ⟨_, hstep, ?_, ?_, ?_, hm.regs, hm.onlyLink⟩
  · rw [hm.link, hmtx]
    rfl
  · rw [hm.link, hmid]
  · rw [hm.link]
    exact ⟨_, hmout, rfl, rfl, rfl⟩

/-! ### Latency calibration (R121 to R126) -/

/-- The registers that calibration and telemetry write. -/
def calFlds (n : Nat) : List Fld :=
  [LNK.ECHO_RTT_RTT n, LNK.ECHO_TURN_TURN n, LNK.ECHO_TPATH_TPATH n, LNK.LLAT n, LNK.STAT_LLAT_VALID n, LNK.SER0_TEMP n,
    LNK.SER0_SUPPLY n, LNK.SER1_BC_ERR n, LNK.SER0_TRIG_BAD n, LNK.SER1_BC_RELOCK n, LNK.SER1_FWD_OVF n, CAM.LINK_LLAT n]

theorem calFlds_nodup {n : Nat} (hn : n < 24) : ((calFlds n).map Fld.key).Nodup := by
  simp only [calFlds, LNK.ECHO_RTT_RTT, LNK.ECHO_TURN_TURN, LNK.ECHO_TPATH_TPATH, LNK.LLAT, LNK.STAT_LLAT_VALID, LNK.SER0_TEMP,
    LNK.SER0_SUPPLY, LNK.SER1_BC_ERR, LNK.SER0_TRIG_BAD, LNK.SER1_BC_RELOCK, LNK.SER1_FWD_OVF, CAM.LINK_LLAT, Fld.key, List.map_cons,
    List.map_nil]
  simp only [List.nodup_cons, List.mem_cons, List.not_mem_nil, not_or, or_false, List.nodup_nil, and_true, not_false_eq_true]
  omega

theorem cal_nodup {n : Nat} (hn : n < 24) {ks : List Nat} (is : List Nat) (hks : ks = is.map fun i => ((calFlds n).map Fld.key).getD i 0)
    (hnodup : is.Nodup) (hlt : ∀ i ∈ is, i < 12) : ks.Nodup := nodup_of_places (calFlds_nodup hn) is hks hnodup hlt

theorem echoSend_next {b : Burst} (ps : Nat) (hb : (s.link n).burst = some b) (hst : s.rd (LNK.STAT_STATE n) = 4) (hnext : b.next < 8)
    (hdue : b.start + 10000 * b.next ≤ τ) (hfree : (s.link n).freeAt (3 * τ) = true) :
    Answers (exec (.echoSend n ps τ) s) fun t =>
      t.link n = { s.link n with burst := some { b with next := b.next + 1, sent := b.sent ++ [(b.next, ps)] }, tx := [0x11C, b.next],
                                 txAt := 3 * (τ : Int) } ∧ t.regs = s.regs ∧ OnlyLink n s t := by
  have hset := ((LinkStep.refl n s).at_ τ).setLink { s.link n with
    burst := some { b with next := b.next + 1, sent := b.sent ++ [(b.next, ps)] }, tx := [0x11C, b.next], txAt := 3 * (τ : Int) }
  refine ⟨_, ?_, hset.link, hset.regs, hset.onlyLink⟩
  show execEchoSend n ps τ s = _
  unfold execEchoSend
  dsimp only
  rw [hb]
  exact congrArg Host.Outcome.next (if_pos ⟨hnext, hdue, hst, hfree⟩)

theorem echoReply_measures {b : Burst} {id : Byte} {ps p : Nat} (turn tpath : Word) (hheard : s.heard n = true)
    (hinj : (s.link n).injEcho = false) (hb : (s.link n).burst = some b)
    (hsent : b.sent.find? (fun e => e.1 == id.toNat) = some (id.toNat, p)) (hlo : p ≤ ps) (hhi : ps ≤ p + 50000000) :
    Answers (exec (.echoReply n id ps turn tpath τ) s) fun t =>
      t.rd (LNK.ECHO_RTT_RTT n) = (ps - p) % 2 ^ (LNK.ECHO_RTT_RTT n).w ∧ t.rd (LNK.ECHO_TURN_TURN n) = turn.toNat ∧
      t.rd (LNK.ECHO_TPATH_TPATH n) = tpath.toNat ∧
      t.link n = { s.link n with burst := some { b with
        sent := b.sent.filter fun e => e.1 != id.toNat,
        replies := b.replies ++ [((ps - p : Nat) : Int) - turn.toNat + 2 * (tpath.toNat : Int)] } } ∧
      KeepsRegs [LNK.ECHO_RTT_RTT n, LNK.ECHO_TURN_TURN n, LNK.ECHO_TPATH_TPATH n] s t ∧ OnlyLink n s t := by
  have hset := ((((LinkStep.refl n s).at_ τ).wr (LNK.ECHO_RTT_RTT n) (ps - p)).wr (LNK.ECHO_TURN_TURN n) turn.toNat).wr
    (LNK.ECHO_TPATH_TPATH n) tpath.toNat
  have hend := hset.setLink { s.link n with burst := some { b with
    sent := b.sent.filter fun e => e.1 != id.toNat,
    replies := b.replies ++ [((ps - p : Nat) : Int) - turn.toNat + 2 * (tpath.toNat : Int)] } }
  have hstep : exec (.echoReply n id ps turn tpath τ) s = .next
      (((((s.at τ).wr (LNK.ECHO_RTT_RTT n) (ps - p)).wr (LNK.ECHO_TURN_TURN n) turn.toNat).wr (LNK.ECHO_TPATH_TPATH n)
          tpath.toNat).setLink n
        { s.link n with burst := some { b with
          sent := b.sent.filter fun e => e.1 != id.toNat,
          replies := b.replies ++ [((ps - p : Nat) : Int) - turn.toNat + 2 * (tpath.toNat : Int)] } }) := by
    refine (congrArg Host.Outcome.next (if_pos hheard)).trans ?_
    have hb' : ((s.at τ).link n).burst = some b := hb
    have hinj' : ¬((s.at τ).link n).injEcho = true := by rw [show ((s.at τ).link n).injEcho = false from hinj]; decide
    unfold State.echoReply
    dsimp only
    rw [if_neg hinj', hb']
    dsimp only
    rw [hsent]
    dsimp only [Option.map_some]
    rw [if_neg (by omega)]
    rfl
  have hwrote := fun f v => hend.wrote (f := f) (v := v) (cal_nodup n.isLt [0, 1, 2] rfl (by decide) (by decide))
  exact ⟨_, hstep, hwrote _ _ (.head _), (hwrote _ _ (.tail _ (.head _))).trans (Nat.mod_eq_of_lt turn.isLt),
    (hwrote _ _ (.tail _ (.tail _ (.head _)))).trans (Nat.mod_eq_of_lt tpath.isLt), hend.link, hend.keepsRegs (by simp), hend.onlyLink⟩

theorem echoReplyTimeout_drops {b : Burst} (id : Byte) (ps : Nat) (hb : (s.link n).burst = some b) :
    Answers (exec (.echoReplyTimeout n id ps τ) s) fun t =>
      t.link n = { s.link n with burst := some { b with
        sent := b.sent.filter fun e => !(e.1 == id.toNat && decide (e.2 + 50000000 ≤ ps)) } } ∧ t.regs = s.regs ∧ OnlyLink n s t := by
  have hset := ((LinkStep.refl n s).at_ τ).setLink { s.link n with burst := some { b with
    sent := b.sent.filter fun e => !(e.1 == id.toNat && decide (e.2 + 50000000 ≤ ps)) } }
  refine ⟨_, ?_, hset.link, hset.regs, hset.onlyLink⟩
  show execEchoReplyTimeout n id ps τ s = _
  unfold execEchoReplyTimeout
  dsimp only
  rw [hb]

/-- Six good replies give the latency. -/
theorem burstOk_step (n : Nat) (s : State) (good : List Int) : ∃ m,
    LinkStep n [(LNK.LLAT n, meanLat good), (CAM.LINK_LLAT n, meanLat good), (LNK.STAT_LLAT_VALID n, 1)] m s (s.burstOk n good) ∧
    m.burst = none ∧ m.fails = 0 ∧ m.recover = (s.link n).recover := by
  have hset := ((((LinkStep.refl n s).wr (LNK.LLAT n) (meanLat good)).wr (CAM.LINK_LLAT n) (meanLat good)).wr
    (LNK.STAT_LLAT_VALID n) 1).setLink { s.link n with
      burst := none, fails := 0, retryAt := none, everOk := true, ms := [], outTol := 0, perAt := s.now }
  unfold State.burstOk
  dsimp only
  split
  · exact ⟨_, hset.raise _ _ _, rfl, rfl, rfl⟩
  · exact ⟨_, hset, rfl, rfl, rfl⟩

/-- A failed burst is tried again, later from the third on. -/
theorem burstBad_step (n : Nat) (s : State) : ∃ ws m, LinkStep n ws m s (s.burstBad n) ∧
    (ws = if (s.link n).fails + 1 = 3 then [(LNK.STAT_LLAT_VALID n, 0)] else []) ∧
    m = { s.link n with burst := none, fails := (s.link n).fails + 1,
                        retryAt := some (s.now + (if (s.link n).fails + 1 < 3 then 1000000 else 100000000)) } := by
  have hset := (LinkStep.refl n s).setLink { s.link n with
    burst := none, fails := (s.link n).fails + 1,
    retryAt := some (s.now + (if (s.link n).fails + 1 < 3 then 1000000 else 100000000)) }
  unfold State.burstBad
  dsimp only
  split
  · exact ⟨_, _, (hset.wr _ _).raise _ _ _, rfl, rfl⟩
  · exact ⟨_, _, hset, rfl, rfl⟩

theorem echoBurstEnd_eq {b : Burst} (hb : (s.link n).burst = some b) (hnext : 8 ≤ b.next) (hsent : b.sent = []) {u : State}
    (hu : u = if 6 ≤ (goodReplies b.replies (s.echoTol n)).length then (s.at τ).burstOk n (goodReplies b.replies (s.echoTol n))
      else (s.at τ).burstBad n) (hrec : (u.link n).recover = false) : exec (.echoBurstEnd n τ) s = .next u := by
  show execEchoBurstEnd n τ s = _
  unfold execEchoBurstEnd
  rw [hb]
  dsimp only
  rw [if_neg (by rw [hsent]; simp; omega), ← hu, if_neg (by rw [hrec]; simp)]

theorem echoBurstEnd_good {b : Burst} (hb : (s.link n).burst = some b) (hnext : 8 ≤ b.next) (hsent : b.sent = [])
    (hrec : (s.link n).recover = false) (hgood : 6 ≤ (goodReplies b.replies (s.echoTol n)).length) :
    Answers (exec (.echoBurstEnd n τ) s) fun t =>
      t.rd (LNK.LLAT n) = meanLat (goodReplies b.replies (s.echoTol n)) % 2 ^ (LNK.LLAT n).w ∧ t.rd (LNK.STAT_LLAT_VALID n) = 1 ∧
      (t.link n).burst = none ∧ (t.link n).fails = 0 ∧ KeepsRegs [LNK.LLAT n, CAM.LINK_LLAT n, LNK.STAT_LLAT_VALID n] s t ∧
      OnlyLink n s t := by
  obtain ⟨m, hm, hburst, hfails, hmrec⟩ := burstOk_step n (s.at τ) (goodReplies b.replies (s.echoTol n))
  have hstep := ((LinkStep.refl n s).at_ τ).trans hm
  have hwrote := fun f v => hstep.wrote (f := f) (v := v) (cal_nodup n.isLt [3, 11, 4] rfl (by decide) (by decide))
  refine ⟨_, echoBurstEnd_eq hb hnext hsent (if_pos hgood).symm ?_, hwrote _ _ (.head _), hwrote _ 1 (by simp), ?_, ?_,
    hstep.keepsRegs (by simp), hstep.onlyLink⟩
  · rw [hstep.link, hmrec]
    exact hrec
  · rw [hstep.link, hburst]
  · rw [hstep.link, hfails]

theorem echoBurstEnd_bad {b : Burst} (hb : (s.link n).burst = some b) (hnext : 8 ≤ b.next) (hsent : b.sent = [])
    (hrec : (s.link n).recover = false) (hgood : (goodReplies b.replies (s.echoTol n)).length < 6) :
    Answers (exec (.echoBurstEnd n τ) s) fun t =>
      (t.link n).burst = none ∧ (t.link n).fails = (s.link n).fails + 1 ∧
      (t.link n).retryAt = some (max s.now τ + (if (s.link n).fails + 1 < 3 then 1000000 else 100000000)) ∧
      ((s.link n).fails + 1 = 3 → t.rd (LNK.STAT_LLAT_VALID n) = 0) ∧ KeepsRegs [LNK.STAT_LLAT_VALID n] s t ∧ OnlyLink n s t := by
  obtain ⟨ws, m, hm, hws, hml⟩ := burstBad_step n (s.at τ)
  have hstep := ((LinkStep.refl n s).at_ τ).trans hm
  refine ⟨_, echoBurstEnd_eq hb hnext hsent (if_neg (by omega)).symm ?_, ?_, ?_, ?_, fun hthird => ?_, hstep.keepsRegs ?_,
    hstep.onlyLink⟩
  · rw [hstep.link, hml]
    exact hrec
  · rw [hstep.link, hml]
  · rw [hstep.link, hml]
    rfl
  · rw [hstep.link, hml]
    rfl
  · have hws' : ws = [(LNK.STAT_LLAT_VALID n, 0)] := hws.trans (if_pos hthird)
    rw [hstep.rd, hws']
    exact rd_wr_same _ _ _
  · rw [hws]
    split <;> simp

theorem burstStart_fresh (n τ : Nat) (s : State) : ((s.at τ).burstStart n).link n =
      { s.link n with burst := some { start := max s.now τ }, retryAt := none, perSent := none } ∧
    ((s.at τ).burstStart n).regs = s.regs ∧ OnlyLink n s ((s.at τ).burstStart n) := by
  have hset := ((LinkStep.refl n s).at_ τ).setLink { s.link n with
    burst := some { start := max s.now τ }, retryAt := none, perSent := none }
  exact ⟨hset.link, hset.regs, hset.onlyLink⟩

theorem echoBurstRetry_eq {r : Nat} (hr : (s.link n).retryAt = some r) (hdue : r ≤ τ) (hst : s.rd (LNK.STAT_STATE n) = 4)
    (hb : (s.link n).burst = none) : exec (.echoBurstRetry n τ) s = .next ((s.at τ).burstStart n) := by
  show execEchoBurstRetry n τ s = _
  unfold execEchoBurstRetry
  rw [hr]
  exact congrArg Host.Outcome.next (if_pos ⟨hdue, hst, hb⟩)

theorem periodicEcho_sends {ps : Nat} (hst : s.rd (LNK.STAT_STATE n) = 4) (hvalid : s.is (LNK.STAT_LLAT_VALID n) = true)
    (hen : s.on (LNK.CFG_ECHO_EN n) = true) (hb : (s.link n).burst = none) (hfree : (s.link n).freeAt (3 * τ) = true)
    (hdue : (s.link n).perAt + 1000000 * max 1 (s.cfg (LNK.ECHO_CFG_PERIOD n)) ≤ τ) :
    Answers (exec (.periodicEcho n ps τ) s) fun t => (t.link n).perSent = some ps ∧ (t.link n).perAt = τ ∧ t.regs = s.regs := by
  refine ⟨_, congrArg Host.Outcome.next (if_pos ⟨hst, hvalid, hen, hb, hfree, hdue⟩), ?_, ?_, rfl⟩ <;> rw [link_setLink]

/-! ### GPIO and telemetry (R127 to R129) -/

theorem gpioRefresh_eq (hup : s.is (LNK.STAT_BC_UP n) = true) (hdue : (s.link n).gpioDue = true ∨ (s.link n).gpioAt + 1000000 ≤ τ) :
    exec (.gpioRefresh n τ) s = .next ((s.at τ).gpioSend n) := congrArg Host.Outcome.next (if_pos ⟨hup, hdue⟩)

theorem gpioRefresh_sends (hup : s.is (LNK.STAT_BC_UP n) = true) (hdue : (s.link n).gpioDue = true ∨ (s.link n).gpioAt + 1000000 ≤ τ)
    (hfree : (s.link n).freeAt (3 * (max s.now τ : Nat)) = true) : Answers (exec (.gpioRefresh n τ) s) fun t =>
      t.link n = { s.link n with tx := [0x1F7, s.cfg (LNK.GPIO_OUT n)], txAt := 3 * (max s.now τ : Nat), gpioAt := max s.now τ,
                                 gpioDue := false } ∧ t.regs = s.regs ∧ OnlyLink n s t := by
  have hset := ((LinkStep.refl n s).at_ τ).setLink { s.link n with
    tx := [0x1F7, s.cfg (LNK.GPIO_OUT n)], txAt := 3 * (max s.now τ : Nat), gpioAt := max s.now τ, gpioDue := false }
  exact ⟨_, (gpioRefresh_eq hup hdue).trans (congrArg _ (if_pos hfree)), hset.link, hset.regs, hset.onlyLink⟩

theorem gpioRefresh_waits (hup : s.is (LNK.STAT_BC_UP n) = true) (hdue : (s.link n).gpioDue = true ∨ (s.link n).gpioAt + 1000000 ≤ τ)
    (hfree : (s.link n).freeAt (3 * (max s.now τ : Nat)) = false) : Answers (exec (.gpioRefresh n τ) s) fun t =>
      t.link n = { s.link n with gpioDue := true } ∧ t.regs = s.regs ∧ OnlyLink n s t := by
  have hset := ((LinkStep.refl n s).at_ τ).setLink { s.link n with gpioDue := true }
  have hbusy : ¬((s.at τ).link n).freeAt (3 * ((s.at τ).now : Nat)) = true := by
    rw [show ((s.at τ).link n).freeAt (3 * ((s.at τ).now : Nat)) = false from hfree]
    decide
  exact ⟨_, (gpioRefresh_eq hup hdue).trans (congrArg _ (if_neg hbusy)), hset.link, hset.regs, hset.onlyLink⟩

theorem gpioIn_shows (levels : BitVec 4) (hheard : s.heard n = true) : Answers (exec (.gpioIn n levels τ) s) fun t =>
    t.rd (LNK.GPIO_IN n) = levels.toNat ∧ OnlyRegs [LNK.GPIO_IN n] s t :=
  ⟨_, congrArg Host.Outcome.next (if_pos hheard), (rd_wr_same _ _ _).trans (Nat.mod_eq_of_lt levels.isLt),
    keepsRegs_wr (s.at τ) _ _, rfl⟩

theorem telemetry_shows (temp : Byte) (supply bcErr : BitVec 16) (trigBad relock fwdOvf : Byte) (hheard : s.heard n = true)
    (hrel : (s.link n).relock = none ∨ (s.link n).relock = some relock.toNat) :
    Answers (exec (.telemetry n temp supply bcErr trigBad relock fwdOvf τ) s) fun t =>
      [LNK.SER0_TEMP n, LNK.SER0_SUPPLY n, LNK.SER1_BC_ERR n, LNK.SER0_TRIG_BAD n, LNK.SER1_BC_RELOCK n, LNK.SER1_FWD_OVF n].map t.rd =
        [temp.toNat, supply.toNat, bcErr.toNat, trigBad.toNat, relock.toNat, fwdOvf.toNat] ∧
      t.link n = { s.link n with relock := some relock.toNat } ∧
      KeepsRegs [LNK.SER0_TEMP n, LNK.SER0_SUPPLY n, LNK.SER1_BC_ERR n, LNK.SER0_TRIG_BAD n, LNK.SER1_BC_RELOCK n, LNK.SER1_FWD_OVF n]
        s t ∧ OnlyLink n s t := by
  obtain ⟨v, hv⟩ : ∃ v : State, v = ((((((s.at τ).wr (LNK.SER0_TEMP n) temp.toNat).wr (LNK.SER0_SUPPLY n) supply.toNat).wr
    (LNK.SER1_BC_ERR n) bcErr.toNat).wr (LNK.SER0_TRIG_BAD n) trigBad.toNat).wr (LNK.SER1_BC_RELOCK n) relock.toNat).wr
    (LNK.SER1_FWD_OVF n) fwdOvf.toNat := ⟨_, rfl⟩
  have hset := (((((((LinkStep.refl n s).at_ τ).wr (LNK.SER0_TEMP n) temp.toNat).wr (LNK.SER0_SUPPLY n) supply.toNat).wr
    (LNK.SER1_BC_ERR n) bcErr.toNat).wr (LNK.SER0_TRIG_BAD n) trigBad.toNat).wr (LNK.SER1_BC_RELOCK n) relock.toNat).wr
    (LNK.SER1_FWD_OVF n) fwdOvf.toNat
  rw [← hv] at hset
  have hend := hset.setLink { s.link n with relock := some relock.toNat }
  have hbytes : ∀ x : BitVec 16, leNat (leBytes 2 x.toNat) = x.toNat := fun x => by
    rw [leNat_leBytes]
    exact Nat.mod_eq_of_lt x.isLt
  have hstep : exec (.telemetry n temp supply bcErr trigBad relock fwdOvf τ) s =
      .next (v.setLink n { s.link n with relock := some relock.toNat }) := by
    refine (congrArg Host.Outcome.next (if_pos hheard)).trans (congrArg Host.Outcome.next ?_)
    have hsup : leAt ([temp.toNat] ++ leBytes 2 supply.toNat ++ leBytes 2 bcErr.toNat ++
      [trigBad.toNat, relock.toNat, fwdOvf.toNat]) 1 2 = supply.toNat := hbytes supply
    have herr : leAt ([temp.toNat] ++ leBytes 2 supply.toNat ++ leBytes 2 bcErr.toNat ++
      [trigBad.toNat, relock.toNat, fwdOvf.toNat]) 3 2 = bcErr.toNat := hbytes bcErr
    have hsame : ¬((s.link n).relock.elim false fun r => r != relock.toNat) = true := by
      rcases hrel with h | h <;> simp [h]
    unfold State.telemetry
    rw [hsup, herr]
    rw [hv]
    exact if_neg hsame
  have hwrote := fun f v => hend.wrote (f := f) (v := v) (cal_nodup n.isLt [5, 6, 7, 8, 9, 10] rfl (by decide) (by decide))
  refine ⟨_, hstep, ?_, hend.link, hend.keepsRegs (by simp), hend.onlyLink⟩
  simp only [List.map_cons, List.map_nil, List.cons.injEq, and_true]
  exact ⟨(hwrote _ temp.toNat (by simp)).trans (Nat.mod_eq_of_lt temp.isLt),
    (hwrote _ supply.toNat (by simp)).trans (Nat.mod_eq_of_lt supply.isLt),
    (hwrote _ bcErr.toNat (by simp)).trans (Nat.mod_eq_of_lt bcErr.isLt),
    (hwrote _ trigBad.toNat (by simp)).trans (Nat.mod_eq_of_lt trigBad.isLt),
    (hwrote _ relock.toNat (by simp)).trans (Nat.mod_eq_of_lt relock.isLt),
    (hwrote _ fwdOvf.toNat (by simp)).trans (Nat.mod_eq_of_lt fwdOvf.isLt)⟩

/-! ### Test loops (R135, R136) -/

theorem destuff_chk (l : Link) (bs : List Bool) : (l.destuff bs).1.chkSt = l.chkSt ∧ (l.destuff bs).1.chkRun = l.chkRun := by
  induction bs generalizing l with
  | nil => exact ⟨rfl, rfl⟩
  | cons b bs ih => exact ih _

/-- A step of a loop's checker, with what it finds in the bits. -/
def LoopRun (n : Nat) (s : State) (i : Instr) (r : Nat × Nat × Nat × Nat) (full : Nat) : Prop :=
  ∃ u l f, exec i s = .next (u.loopCheck n full f) ∧ LinkStep n [] l s u ∧ f (l.chkSt, l.chkRun, 0, 0) = r

theorem loopPacket_runs {pairs : Nat} {data flags : List Byte} (hloop : (s.link n).loop = 3) (hheard : s.heard n = true) :
    LoopRun n s (.loopPacket n pairs data flags τ)
      (((loopData (bytePairs (loopPayload pairs data flags)) ((s.link n).loopSkip, (s.link n).loopFrame)).2.2.flatMap byteBits).foldl
        (loopBit 7 6) ((s.link n).chkSt, (s.link n).chkRun, 0, 0)) 14 := by
  have hloop' : ((s.at τ).link n).loop = 3 := hloop
  refine ⟨_, _, fun c => ((loopData (bytePairs (loopPayload pairs data flags)) ((s.link n).loopSkip, (s.link n).loopFrame)).2.2.flatMap
    byteBits).foldl (loopBit 7 6) c, ?_, ((LinkStep.refl n s).at_ τ).setLink { s.link n with
    loopSkip := (loopData (bytePairs (loopPayload pairs data flags)) ((s.link n).loopSkip, (s.link n).loopFrame)).1
    loopFrame := (loopData (bytePairs (loopPayload pairs data flags)) ((s.link n).loopSkip, (s.link n).loopFrame)).2.1 }, rfl⟩
  refine (congrArg Host.Outcome.next (if_pos ⟨hloop, hheard⟩)).trans (congrArg Host.Outcome.next ?_)
  exact (if_pos hloop').trans (if_neg Bool.false_ne_true)

theorem loopPattern_runs {head rest : List Bool} {ps : Nat} (hloop : (s.link n).loop = 1 ∨ (s.link n).loop = 2) {prbs31 : Bool}
    (hpat : s.cfg (LNK.LOOP_CFG_PAT n) = if prbs31 then 1 else 0) :
    LoopRun n s (.loopPatternCheck n head rest ps τ)
      (((s.link n).destuff (head ++ rest)).2.foldl (if prbs31 then loopBit 31 28 else loopBit 7 6)
        ((s.link n).chkSt, (s.link n).chkRun, 0, 0)) (if prbs31 then 62 else 14) := by
  obtain ⟨hchk, hrun⟩ := destuff_chk (s.link n) (head ++ rest)
  have hstep : exec (.loopPatternCheck n head rest ps τ) s = .next (((s.at τ).setLink n ((s.link n).destuff (head ++ rest)).1).loopPrbs n
      prbs31 ((s.link n).destuff (head ++ rest)).2) := by
    refine congrArg Host.Outcome.next ((if_neg fun h => hloop.elim h.1 h.2).trans ((if_neg ?_).trans ?_))
    · rw [hpat]
      cases prbs31 <;> decide
    · rw [hpat]
      cases prbs31 <;> rfl
  cases prbs31
  · refine ⟨_, _, _, hstep.trans (congrArg Host.Outcome.next (if_neg Bool.false_ne_true)), ((LinkStep.refl n s).at_ τ).setLink _, ?_⟩
    rw [hchk, hrun]
    rfl
  · refine ⟨_, _, _, hstep.trans (congrArg Host.Outcome.next (if_pos rfl)), ((LinkStep.refl n s).at_ τ).setLink _, ?_⟩
    rw [hchk, hrun]
    rfl

/-- The registers of a loop's checker. -/
def loopFlds (n : Nat) : List Fld := [LNK.LOOP_STAT_LOCK n, LNK.LOOP_BITS_LO_BITS n, LNK.LOOP_BITS_HI_BITS n, LNK.LOOP_ERR_ERR n]

theorem loopFlds_nodup (n : Nat) : ((loopFlds n).map Fld.key).Nodup := by
  simp only [loopFlds, LNK.LOOP_STAT_LOCK, LNK.LOOP_BITS_LO_BITS, LNK.LOOP_BITS_HI_BITS, LNK.LOOP_ERR_ERR, Fld.key, List.map_cons,
    List.map_nil]
  simp only [List.nodup_cons, List.mem_cons, List.not_mem_nil, not_or, or_false, List.nodup_nil, and_true, not_false_eq_true]
  omega

theorem loopBits_step {m : Nat} {ws : List (Fld × Nat)} {l : Link} {s t : State} (h : LinkStep m ws l s t) (bits errs : Nat) :
    LinkStep m (ws ++
      [(LNK.LOOP_BITS_LO_BITS m, t.rd (LNK.LOOP_BITS_LO_BITS m) + 2 ^ 32 * t.rd (LNK.LOOP_BITS_HI_BITS m) + bits)] ++
      [(LNK.LOOP_BITS_HI_BITS m, (t.rd (LNK.LOOP_BITS_LO_BITS m) + 2 ^ 32 * t.rd (LNK.LOOP_BITS_HI_BITS m) + bits) / 2 ^ 32)] ++
      [(LNK.LOOP_ERR_ERR m, min (t.rd (LNK.LOOP_ERR_ERR m) + min errs bits) (2 ^ 32 - 1))]) l s (t.loopBits m bits errs) := by
  have hset := (h.wr (LNK.LOOP_BITS_LO_BITS m) (t.rd (LNK.LOOP_BITS_LO_BITS m) + 2 ^ 32 * t.rd (LNK.LOOP_BITS_HI_BITS m) + bits)).wr
    (LNK.LOOP_BITS_HI_BITS m) ((t.rd (LNK.LOOP_BITS_LO_BITS m) + 2 ^ 32 * t.rd (LNK.LOOP_BITS_HI_BITS m) + bits) / 2 ^ 32)
  obtain ⟨v, hv⟩ : ∃ v : State, v = (t.wr (LNK.LOOP_BITS_LO_BITS m) (t.rd (LNK.LOOP_BITS_LO_BITS m) +
    2 ^ 32 * t.rd (LNK.LOOP_BITS_HI_BITS m) + bits)).wr (LNK.LOOP_BITS_HI_BITS m)
      ((t.rd (LNK.LOOP_BITS_LO_BITS m) + 2 ^ 32 * t.rd (LNK.LOOP_BITS_HI_BITS m) + bits) / 2 ^ 32) := ⟨_, rfl⟩
  have herr : v.rd (LNK.LOOP_ERR_ERR m) = t.rd (LNK.LOOP_ERR_ERR m) := by
    rw [hv, rd_wr_ne _ _ (key_ne_of_nodup (loopFlds_nodup m) (i := 3) (j := 2) rfl rfl (by decide)),
      rd_wr_ne _ _ (key_ne_of_nodup (loopFlds_nodup m) (i := 3) (j := 1) rfl rfl (by decide))]
  rw [← hv] at hset
  have hend := hset.wr (LNK.LOOP_ERR_ERR m) (min (v.rd (LNK.LOOP_ERR_ERR m) + min errs bits) (2 ^ 32 - 1))
  rw [herr] at hend
  have hsat : v.addSat (LNK.LOOP_ERR_ERR m) (min errs bits) =
      v.wr (LNK.LOOP_ERR_ERR m) (min (t.rd (LNK.LOOP_ERR_ERR m) + min errs bits) (2 ^ 32 - 1)) := by
    rw [State.addSat, herr]
    rfl
  unfold State.loopBits
  dsimp only
  rw [← hv, hsat]
  split
  · exact hend.raise _ _ _
  · exact hend

section

variable {i : Instr} {r : Nat × Nat × Nat × Nat} {full : Nat} (hrun : LoopRun n s i r full)
include hrun

theorem loop_searches (hr : r.2.1 < full) : Answers (exec i s) fun t =>
    (t.link n).chkSt = r.1 ∧ (t.link n).chkRun = r.2.1 ∧ t.regs = s.regs ∧ OnlyLink n s t := by
  obtain ⟨u, l, f, hstep, hu, hf⟩ := hrun
  have hset := hu.setLink { l with chkSt := r.1, chkRun := r.2.1 }
  refine ⟨_, hstep, ?_⟩
  have hcheck : u.loopCheck n full f = u.setLink n { l with chkSt := r.1, chkRun := r.2.1 } := by
    unfold State.loopCheck
    dsimp only
    rw [hu.link, hf]
    exact if_pos hr
  rw [hcheck]
  exact ⟨congrArg Link.chkSt hset.link, congrArg Link.chkRun hset.link, hset.regs, hset.onlyLink⟩

theorem loop_counts (hr : full ≤ r.2.1) : Answers (exec i s) fun t =>
    (t.link n).chkSt = r.1 ∧ (t.link n).chkRun = r.2.1 ∧ t.rd (LNK.LOOP_STAT_LOCK n) = 1 ∧
    t.rd (LNK.LOOP_BITS_LO_BITS n) + 2 ^ 32 * t.rd (LNK.LOOP_BITS_HI_BITS n) =
      (s.rd (LNK.LOOP_BITS_LO_BITS n) + 2 ^ 32 * s.rd (LNK.LOOP_BITS_HI_BITS n) + r.2.2.1) % 2 ^ 64 ∧
    t.rd (LNK.LOOP_ERR_ERR n) = min (s.rd (LNK.LOOP_ERR_ERR n) + min r.2.2.2 r.2.2.1) (2 ^ 32 - 1) ∧
    KeepsRegs [LNK.LOOP_STAT_LOCK n, LNK.LOOP_BITS_LO_BITS n, LNK.LOOP_BITS_HI_BITS n, LNK.LOOP_ERR_ERR n] s t ∧ OnlyLink n s t := by
  obtain ⟨u, l, f, hstep, hu, hf⟩ := hrun
  obtain ⟨v, hv⟩ : ∃ v : State, v = (u.setLink n { l with chkSt := r.1, chkRun := r.2.1 }).wr (LNK.LOOP_STAT_LOCK n) 1 := ⟨_, rfl⟩
  have hcheck : u.loopCheck n full f = v.loopBits n r.2.2.1 r.2.2.2 := by
    unfold State.loopCheck
    dsimp only
    rw [hu.link, hf, hv]
    exact if_neg (by omega)
  have hset := (hu.setLink { l with chkSt := r.1, chkRun := r.2.1 }).wr (LNK.LOOP_STAT_LOCK n) 1
  rw [← hv] at hset
  have hkeep : ∀ j : Nat, ∀ g, (loopFlds n)[j]? = some g → j ≠ 0 → v.rd g = s.rd g := fun j g hg hj => by
    rw [hset.rd]
    exact rd_wr_ne _ _ (key_ne_of_nodup (loopFlds_nodup n) hg (j := 0) rfl hj)
  have hend := loopBits_step hset r.2.2.1 r.2.2.2
  rw [hkeep 1 _ rfl (by decide), hkeep 2 _ rfl (by decide), hkeep 3 _ rfl (by decide), ← hcheck] at hend
  have hwrote := fun f v => hend.wrote (f := f) (v := v)
    (nodup_of_places (loopFlds_nodup n) [0, 1, 2, 3] rfl (by decide) (show ∀ i ∈ [0, 1, 2, 3], i < 4 by decide))
  refine ⟨_, hstep, congrArg Link.chkSt hend.link, congrArg Link.chkRun hend.link, hwrote _ 1 (by simp), ?_, ?_,
    hend.keepsRegs (by simp), hend.onlyLink⟩
  · rw [hwrote _ _ (.tail _ (.head _)), hwrote _ _ (.tail _ (.tail _ (.head _)))]
    show _ % 2 ^ 32 + 2 ^ 32 * (_ / 2 ^ 32 % 2 ^ 32) = _
    omega
  · rw [hwrote _ _ (.tail _ (.tail _ (.tail _ (.head _))))]
    exact Nat.mod_eq_of_lt (show _ < 2 ^ 32 by omega)

end

/-! ### Camera power (R137 to R139) -/

/-- The registers of a camera's supply. -/
def pocFlds (n : Nat) : List Fld :=
  [LNK.POC_STAT_STATE n, LNK.POC_STAT_SHORT n, LNK.POC_STAT_OVERCUR n, LNK.POC_STAT_OPEN n, LNK.POC_STAT_OPEN_STKY n,
    LNK.POC_MEAS_VOUT n, LNK.POC_MEAS_IOUT n, LNKG.POC_TOTAL_TOTAL]

theorem pocFlds_nodup {n : Nat} (_ : n < 24) : ((pocFlds n).map Fld.key).Nodup := by
  simp only [pocFlds, LNK.POC_STAT_STATE, LNK.POC_STAT_SHORT, LNK.POC_STAT_OVERCUR, LNK.POC_STAT_OPEN, LNK.POC_STAT_OPEN_STKY,
    LNK.POC_MEAS_VOUT, LNK.POC_MEAS_IOUT, LNKG.POC_TOTAL_TOTAL, Fld.key, List.map_cons, List.map_nil]
  simp only [List.nodup_cons, List.mem_cons, List.not_mem_nil, not_or, or_false, List.nodup_nil, and_true, not_false_eq_true]
  omega

theorem poc_nodup {n : Nat} (hn : n < 24) {ws : List (Fld × Nat)} (is : List Nat)
    (hws : ws.map Prod.fst = is.map fun i => (pocFlds n).getD i LNKG.POC_TOTAL_TOTAL) (hnodup : is.Nodup) (hlt : ∀ i ∈ is, i < 8) :
    (ws.map (·.1.key)).Nodup := by
  refine nodup_of_places (pocFlds_nodup hn) is ?_ hnodup hlt
  have hkeys := congrArg (List.map Fld.key) hws
  rw [List.map_map, List.map_map] at hkeys
  refine hkeys.trans (List.map_congr_left fun i hi => ?_)
  have hi8 : i < (pocFlds n).length := hlt i hi
  rw [List.getD_eq_getElem _ _ (by rw [List.length_map]; exact hi8), List.getElem_map]
  exact congrArg Fld.key (List.getD_eq_getElem _ _ hi8)

/-- What a measurement shows. -/
def Measured (n : Nat) (vout iout : BitVec 16) (t : State) : Prop :=
  t.rd (LNK.POC_MEAS_VOUT n) = vout.toNat ∧ t.rd (LNK.POC_MEAS_IOUT n) = iout.toNat

theorem Measured.kept {vout iout : BitVec 16} {u t : State} (h : Measured n vout iout u) (is : List Nat) {fs : List Fld}
    (hfs : fs = is.map fun i => (pocFlds n).getD i LNKG.POC_TOTAL_TOTAL) (hlt : ∀ i ∈ is, i < 8 ∧ i ≠ 5 ∧ i ≠ 6)
    (hkeep : KeepsRegs fs u t) : Measured n vout iout t := by
  have hout : ∀ j g, (pocFlds n)[j]? = some g → (j = 5 ∨ j = 6) → g.key ∉ fs.map Fld.key := by
    intro j g hg hj hmem
    obtain ⟨f, hf, hkey⟩ := List.mem_map.mp hmem
    rw [hfs] at hf
    obtain ⟨i, hi, rfl⟩ := List.mem_map.mp hf
    obtain ⟨hlt8, h5, h6⟩ := hlt i hi
    have hlen : i < (pocFlds n).length := hlt8
    have hget : (pocFlds n)[i]? = some ((pocFlds n).getD i LNKG.POC_TOTAL_TOTAL) := by
      rw [List.getElem?_eq_getElem hlen, List.getD_eq_getElem _ _ hlen]
    exact key_ne_of_nodup (pocFlds_nodup n.isLt) hget hg (by omega) hkey
  exact ⟨(hkeep _ (hout 5 _ rfl (.inl rfl))).trans h.1, (hkeep _ (hout 6 _ rfl (.inr rfl))).trans h.2⟩

/-- The registers that a measurement writes. -/
def measFlds (n : Nat) : List Fld := [LNK.POC_MEAS_VOUT n, LNK.POC_MEAS_IOUT n, LNKG.POC_TOTAL_TOTAL]

theorem LinkStep.onlyRegs {m : Nat} {ws : List (Fld × Nat)} {l : Link} {u t : State} {fs : List Fld} (h : LinkStep m ws l u t)
    (hfs : ∀ w ∈ ws, w.1 ∈ fs) (hlinks : t.links = u.links) (hevents : t.events = u.events) : OnlyRegs fs u t := by
  have hrest := h.rest
  rw [← hlinks, ← hevents] at hrest
  exact ⟨h.keepsRegs hfs, hrest⟩

theorem pocMeas_step (m τ : Nat) (u : State) (vout iout : Nat) : ∃ x,
    LinkStep m [(LNK.POC_MEAS_VOUT m, vout), (LNK.POC_MEAS_IOUT m, iout), (LNKG.POC_TOTAL_TOTAL, x)] (u.link m) u
      ((u.at τ).pocMeas m vout iout) := ⟨_, ((((LinkStep.refl m u).at_ τ).wr _ _).wr _ _).wr _ _⟩

theorem pocMeas_measured (n : Fin 24) (τ : Nat) (s : State) (vout iout : BitVec 16) :
    Measured n vout iout ((s.at τ).pocMeas n vout.toNat iout.toNat) := by
  obtain ⟨x, hx⟩ := pocMeas_step n τ s vout.toNat iout.toNat
  have hwrote := fun f v => hx.wrote (f := f) (v := v) (poc_nodup n.isLt [5, 6, 7] rfl (by decide) (by decide))
  exact ⟨(hwrote _ vout.toNat (by simp)).trans (Nat.mod_eq_of_lt vout.isLt),
    (hwrote _ iout.toNat (by simp)).trans (Nat.mod_eq_of_lt iout.isLt)⟩

theorem pocMeas_only (m τ : Nat) (s : State) (vout iout : Nat) : OnlyRegs (measFlds m) s ((s.at τ).pocMeas m vout iout) := by
  obtain ⟨x, hx⟩ := pocMeas_step m τ s vout iout
  exact hx.onlyRegs (by simp [measFlds]) rfl rfl

section

variable {ws : List (Fld × Nat)} {l : Link} {t : State}

theorem pocSet_step {m : Nat} (h : LinkStep m ws l s t) (st : Nat) :
    ∃ x, LinkStep m (ws ++ [(LNK.POC_STAT_STATE m, st)] ++ [(LNKG.POC_TOTAL_TOTAL, x)]) { l with pocWait := none } s (t.pocSet m st) := by
  obtain rfl := h.link
  exact ⟨_, ((h.setLink _).wr _ _).wr _ _⟩

/-- A trip switches the supply off and shows its cause. -/
theorem pocTrip_step {m : Nat} (h : LinkStep m ws l s t) (short : Bool) :
    ∃ x d, LinkStep m (ws ++ [(LNK.POC_STAT_STATE m, 3)] ++ [(LNKG.POC_TOTAL_TOTAL, x)] ++
      [((if short then LNK.POC_STAT_SHORT m else LNK.POC_STAT_OVERCUR m), d ||| 1)]) { l with pocWait := none } s (t.pocTrip m short) := by
  obtain ⟨x, hx⟩ := pocSet_step h 3
  cases short
  · exact ⟨x, _, (hx.set1 (LNK.POC_STAT_OVERCUR m)).raise 0x080D m []⟩
  · exact ⟨x, _, (hx.set1 (LNK.POC_STAT_SHORT m)).raise 0x080C m []⟩

end

theorem or_one_mod_two (d : Nat) : (d ||| 1) % 2 = 1 := by
  rw [Nat.or_mod_two_eq_one]
  exact .inr rfl

/-- The register that shows a trip's cause. -/
def tripFld (n : Nat) (short : Bool) : Fld := if short then LNK.POC_STAT_SHORT n else LNK.POC_STAT_OVERCUR n

theorem pocTrip_spec (u : State) (short : Bool) : (u.pocTrip n short).poc n = 3 ∧ (u.pocTrip n short).rd (tripFld n short) = 1 ∧
    KeepsRegs [LNK.POC_STAT_STATE n, tripFld n short, LNKG.POC_TOTAL_TOTAL] u (u.pocTrip n short) ∧ OnlyLink n u (u.pocTrip n short) := by
  obtain ⟨x, d, hstep⟩ := pocTrip_step (LinkStep.refl n u) short
  cases short
  · have hwrote := fun f v => hstep.wrote (f := f) (v := v) (poc_nodup n.isLt [0, 7, 2] rfl (by decide) (by decide))
    exact ⟨hwrote _ 3 (by simp), (hwrote (LNK.POC_STAT_OVERCUR n) (d ||| 1) (by simp)).trans (or_one_mod_two d),
      hstep.keepsRegs (by simp [tripFld]), hstep.onlyLink⟩
  · have hwrote := fun f v => hstep.wrote (f := f) (v := v) (poc_nodup n.isLt [0, 7, 1] rfl (by decide) (by decide))
    exact ⟨hwrote _ 3 (by simp), (hwrote (LNK.POC_STAT_SHORT n) (d ||| 1) (by simp)).trans (or_one_mod_two d),
      hstep.keepsRegs (by simp [tripFld]), hstep.onlyLink⟩

theorem onlyLink_trans {m : Nat} {u v t : State} (h : OnlyLink m u v) (h' : OnlyLink m v t) : OnlyLink m u t := by
  refine ⟨?_, fun k hk => (h'.2 k hk).trans (h.2 k hk)⟩
  have := congrArg (fun x : State => { x with
    now := u.now, regs := u.regs, w1cSet := u.w1cSet, links := u.links, events := u.events }) h'.1
  exact this.trans h.1

theorem onlyLink_of_onlyRegs {m : Nat} {fs : List Fld} {u t : State} (h : OnlyRegs fs u t) : OnlyLink m u t := by
  have hlinks : t.links = u.links := (congrArg State.links h.2 :)
  refine ⟨?_, fun k _ => by rw [State.link, hlinks]; rfl⟩
  exact congrArg (fun x : State => { x with links := u.links, events := u.events }) h.2

/-- A supply that trips after a measurement. -/
theorem pocTrip_measured (τ : Nat) (s : State) (vout iout : BitVec 16) (short : Bool) {t : State}
    (ht : t = ((s.at τ).pocMeas n vout.toNat iout.toNat).pocTrip n short) : t.poc n = 3 ∧
      t.rd (tripFld n short) = 1 ∧ Measured n vout iout t ∧ KeepsRegs (LNK.POC_STAT_STATE n :: tripFld n short :: measFlds n) s t ∧
      OnlyLink n s t := by
  obtain ⟨hpoc, htrip, hkeep, honly⟩ := pocTrip_spec (n := n) ((s.at τ).pocMeas n vout.toNat iout.toNat) short
  have hmeas := pocMeas_only n τ s vout.toNat iout.toNat
  rw [← ht] at hpoc htrip hkeep honly
  refine ⟨hpoc, htrip, ?_, ?_, onlyLink_trans (onlyLink_of_onlyRegs hmeas) honly⟩
  · cases short
    · exact (pocMeas_measured n τ s vout iout).kept [0, 2, 7] rfl (by decide) hkeep
    · exact (pocMeas_measured n τ s vout iout).kept [0, 1, 7] rfl (by decide) hkeep
  · refine keepsRegs_mono ?_ (keepsRegs_trans hmeas.1 hkeep)
    simp [measFlds]

section

variable {vout iout : BitVec 16} {held : Nat}

/-- The measurement alone. -/
def MeasuredOnly (n : Nat) (vout iout : BitVec 16) (s t : State) : Prop := Measured n vout iout t ∧ OnlyRegs (measFlds n) s t

theorem pocMeas_alone (n : Fin 24) (τ : Nat) (s : State) (vout iout : BitVec 16) :
    MeasuredOnly n vout iout s ((s.at τ).pocMeas n vout.toNat iout.toNat) :=
  ⟨pocMeas_measured n τ s vout iout, pocMeas_only n τ s vout.toNat iout.toNat⟩

theorem pocVoutReached_starts (hpoc : s.poc n = 1) (hwait : (s.link n).pocWait = none) (hin : τ ≤ (s.link n).pocAt + 20000000)
    (hv : 9 * s.rd SYS.VSUP_VCAM ≤ 10 * vout.toNat) : Answers (exec (.pocVoutReached n vout iout τ) s) fun t =>
      t.poc n = 2 ∧ Measured n vout iout t ∧ t.link n = { s.link n with pocOnAt := τ } ∧
      KeepsRegs (LNK.POC_STAT_STATE n :: measFlds n) s t ∧ OnlyLink n s t := by
  have hmeas := pocMeas_measured n τ s vout iout
  obtain ⟨x, hx⟩ := pocMeas_step n τ s vout.toNat iout.toNat
  obtain ⟨u, hu⟩ : ∃ u, u = (s.at τ).pocMeas n vout.toNat iout.toNat := ⟨_, rfl⟩
  rw [← hu] at hmeas hx
  have hsecond : ∃ y, LinkStep n [(LNK.POC_STAT_STATE n, 2), (LNKG.POC_TOTAL_TOTAL, y)] { u.link n with pocOnAt := τ } u
      (((u.setLink n { u.link n with pocOnAt := τ }).wr (LNK.POC_STAT_STATE n) 2).pocSum) :=
    ⟨_, (((LinkStep.refl n u).setLink _).wr _ _).wr _ _⟩
  obtain ⟨y, hy⟩ := hsecond
  have hend := hx.trans hy
  refine ⟨_, congrArg Host.Outcome.next ((if_pos ⟨hpoc, hwait⟩).trans ((if_neg (by omega)).trans ((if_pos hv).trans
    (congrArg (fun u : State => (((u.setLink n { u.link n with pocOnAt := τ }).wr (LNK.POC_STAT_STATE n) 2).pocSum)) hu.symm)))), ?_⟩
  refine ⟨?_, ?_, ?_, hend.keepsRegs (by simp [measFlds]), hend.onlyLink⟩
  · exact hy.wrote (v := 2) (poc_nodup n.isLt [0, 7] rfl (by decide) (by decide)) (by simp)
  · exact hmeas.kept [0, 7] (fs := [LNK.POC_STAT_STATE n, LNKG.POC_TOTAL_TOTAL]) rfl (by decide) (hy.keepsRegs (by simp))
  · rw [hend.link, hx.link]

theorem pocVoutReached_waits (hpoc : s.poc n = 1) (hwait : (s.link n).pocWait = none) (hin : τ ≤ (s.link n).pocAt + 20000000)
    (hv : 10 * vout.toNat < 9 * s.rd SYS.VSUP_VCAM) :
    Answers (exec (.pocVoutReached n vout iout τ) s) (MeasuredOnly n vout iout s) :=
  ⟨_, congrArg Host.Outcome.next ((if_pos ⟨hpoc, hwait⟩).trans ((if_neg (by omega)).trans (if_neg (by omega)))),
    pocMeas_alone n τ s vout iout⟩

theorem pocShort_trips (hshort : (s.poc n = 2 ∧ (1200 < iout.toNat ∨
        (2 * vout.toNat < s.rd SYS.VSUP_VCAM ∧ 2000 ≤ min held (τ - (s.link n).pocOnAt)))) ∨
      (s.poc n = 1 ∧ (s.link n).pocWait = none ∧ (1200 < iout.toNat ∨ (vout.toNat < 1000 ∧ (s.link n).pocAt + 2000000 ≤ τ)))) :
    Answers (exec (.pocShort n vout ⟨iout, held⟩ τ) s) fun t =>
      t.poc n = 3 ∧ t.rd (LNK.POC_STAT_SHORT n) = 1 ∧ Measured n vout iout t ∧
      KeepsRegs (LNK.POC_STAT_STATE n :: LNK.POC_STAT_SHORT n :: measFlds n) s t ∧ OnlyLink n s t := by
  have hon : s.poc n = 1 ∨ s.poc n = 2 := hshort.elim (fun h => .inr h.1) (fun h => .inl h.1)
  have his : s.pocIsShort n vout.toNat iout.toNat held τ = true := by
    unfold State.pocIsShort State.pocHeldFor
    rcases hshort with ⟨hpoc, h⟩ | ⟨hpoc, hwait, h⟩
    · simp only [hpoc]
      simpa using h
    · simp only [hpoc, hwait]
      simpa using h
  exact ⟨_, congrArg Host.Outcome.next ((if_pos hon).trans (if_pos his)), pocTrip_measured τ s vout iout true rfl⟩

section

variable (hpoc : s.poc n = 2)
include hpoc

theorem pocOvercurrent_trips (hi : 10 * max 10 (min 60 (s.cfg (LNK.POC_CFG_LIM n))) ≤ iout.toNat)
    (hheld : 1000000 ≤ min held (τ - (s.link n).pocOnAt)) : Answers (exec (.pocOvercurrent n vout ⟨iout, held⟩ τ) s) fun t =>
      t.poc n = 3 ∧ t.rd (LNK.POC_STAT_OVERCUR n) = 1 ∧ Measured n vout iout t ∧
      KeepsRegs (LNK.POC_STAT_STATE n :: LNK.POC_STAT_OVERCUR n :: measFlds n) s t ∧ OnlyLink n s t :=
  ⟨_, congrArg Host.Outcome.next ((if_pos hpoc).trans (if_pos ⟨hi, hheld⟩)), pocTrip_measured τ s vout iout false rfl⟩

theorem pocOvercurrent_measures (h : iout.toNat < 10 * max 10 (min 60 (s.cfg (LNK.POC_CFG_LIM n))) ∨
      min held (τ - (s.link n).pocOnAt) < 1000000) :
    Answers (exec (.pocOvercurrent n vout ⟨iout, held⟩ τ) s) (MeasuredOnly n vout iout s) :=
  ⟨_, congrArg Host.Outcome.next ((if_pos hpoc).trans (if_neg fun hc => h.elim (Nat.not_lt.mpr hc.1) (Nat.not_lt.mpr hc.2))),
    pocMeas_alone n τ s vout iout⟩

theorem pocOpen_reports (hi : iout.toNat < 8) (hheld : 10000000 ≤ min held (τ - (s.link n).pocOnAt)) :
    Answers (exec (.pocOpen n vout ⟨iout, held⟩ τ) s) fun t =>
      t.poc n = 2 ∧ t.rd (LNK.POC_STAT_OPEN n) = 1 ∧ t.rd (LNK.POC_STAT_OPEN_STKY n) = 1 ∧ Measured n vout iout t ∧
      KeepsRegs (LNK.POC_STAT_OPEN n :: LNK.POC_STAT_OPEN_STKY n :: measFlds n) s t ∧ t.links = s.links := by
  have hmeas := pocMeas_alone n τ s vout iout
  obtain ⟨u, hu⟩ : ∃ u, u = (s.at τ).pocMeas n vout.toNat iout.toNat := ⟨_, rfl⟩
  rw [← hu] at hmeas
  have hupoc : u.poc n = 2 := by
    refine (hmeas.2.1 _ ?_).trans hpoc
    simp only [measFlds, LNK.POC_STAT_STATE, LNK.POC_MEAS_VOUT, LNK.POC_MEAS_IOUT, LNKG.POC_TOTAL_TOTAL, Fld.key, List.map_cons,
      List.map_nil, List.mem_cons, List.not_mem_nil, or_false]
    omega
  obtain ⟨x, hx⟩ : ∃ x, u.pocOpen n = { (u.wr (LNK.POC_STAT_OPEN n) 1).set1 (LNK.POC_STAT_OPEN_STKY n) with events := x } := by
    unfold State.pocOpen
    rw [if_pos hupoc]
    dsimp only
    split
    · exact ⟨_, rfl⟩
    · exact raise_eq ..
  have hset := (((LinkStep.refl n u).wr (LNK.POC_STAT_OPEN n) 1).set1 (LNK.POC_STAT_OPEN_STKY n)).events x
  have hwrote := fun f v => hset.wrote (f := f) (v := v) (poc_nodup n.isLt [3, 4] rfl (by decide) (by decide))
  have hkeep : KeepsRegs [LNK.POC_STAT_OPEN n, LNK.POC_STAT_OPEN_STKY n] u _ := hset.keepsRegs (by simp)
  have hstep : exec (.pocOpen n vout ⟨iout, held⟩ τ) s = .next (u.pocOpen n) := by
    rw [hu]
    exact congrArg Host.Outcome.next ((if_pos hpoc).trans (if_pos ⟨hi, hheld⟩))
  refine ⟨_, hstep.trans (congrArg _ hx), ?_, hwrote _ 1 (by simp), ?_, hmeas.1.kept [3, 4] rfl (by decide) hkeep, ?_, ?_⟩
  · refine (hkeep _ ?_).trans hupoc
    simp only [LNK.POC_STAT_STATE, LNK.POC_STAT_OPEN, LNK.POC_STAT_OPEN_STKY, Fld.key, List.map_cons, List.map_nil, List.mem_cons,
      List.not_mem_nil, or_false]
    omega
  · exact (hwrote _ _ (.tail _ (.head _))).trans (or_one_mod_two _)
  · exact keepsRegs_mono (by simp; tauto) (keepsRegs_trans hmeas.2.1 hkeep)
  · exact (congrArg State.links hmeas.2.2 :)

theorem pocOpen_measures (h : 8 ≤ iout.toNat ∨ min held (τ - (s.link n).pocOnAt) < 10000000) :
    Answers (exec (.pocOpen n vout ⟨iout, held⟩ τ) s) (MeasuredOnly n vout iout s) :=
  ⟨_, congrArg Host.Outcome.next ((if_pos hpoc).trans (if_neg fun hc => h.elim (Nat.not_le.mpr hc.1) (Nat.not_lt.mpr hc.2))),
    pocMeas_alone n τ s vout iout⟩

theorem pocOpenClear_clears (hi : 12 ≤ iout.toNat) (hheld : 10000000 ≤ min held (τ - (s.link n).pocOnAt)) :
    Answers (exec (.pocOpenClear n vout ⟨iout, held⟩ τ) s) fun t =>
      t.rd (LNK.POC_STAT_OPEN n) = 0 ∧ Measured n vout iout t ∧ OnlyRegs (LNK.POC_STAT_OPEN n :: measFlds n) s t := by
  obtain ⟨hmeas, honly⟩ := pocMeas_alone n τ s vout iout
  refine ⟨_, congrArg Host.Outcome.next ((if_pos hpoc).trans (if_pos ⟨hi, hheld⟩)), rd_wr_same _ _ _,
    hmeas.kept [3] rfl (by decide) (keepsRegs_wr _ _ _), onlyRegs_mono ?_ (onlyRegs_trans honly (onlyRegs_wr _ _ _))⟩
  simp
  tauto

theorem pocOpenClear_measures (h : iout.toNat < 12 ∨ min held (τ - (s.link n).pocOnAt) < 10000000) :
    Answers (exec (.pocOpenClear n vout ⟨iout, held⟩ τ) s) (MeasuredOnly n vout iout s) :=
  ⟨_, congrArg Host.Outcome.next ((if_pos hpoc).trans (if_neg fun hc => h.elim (Nat.not_lt.mpr hc.1) (Nat.not_lt.mpr hc.2))),
    pocMeas_alone n τ s vout iout⟩

end

end

theorem pocStartTimeout_trips (hpoc : s.poc n = 1) (hwait : (s.link n).pocWait = none) (hdue : (s.link n).pocAt + 20000000 ≤ τ) :
    Answers (exec (.pocStartTimeout n τ) s) fun t => t.poc n = 3 ∧ t.rd (LNK.POC_STAT_OVERCUR n) = 1 ∧
      KeepsRegs [LNK.POC_STAT_STATE n, LNK.POC_STAT_OVERCUR n, LNKG.POC_TOTAL_TOTAL] s t ∧ OnlyLink n s t := by
  obtain ⟨h3, htrip, hkeep, honly⟩ := pocTrip_spec (n := n) (s.at τ) false
  exact ⟨_, congrArg Host.Outcome.next (if_pos ⟨hpoc, hwait, hdue⟩), h3, htrip, hkeep,
    onlyLink_trans ((LinkStep.refl n s).at_ τ).onlyLink honly⟩

theorem pocBackfeed_shows (live : Bool) : Answers (exec (.pocBackfeed n live τ) s) fun t =>
    t.rd (LNK.POC_STAT_BACKFEED n) = b2n live ∧ KeepsRegs [LNK.POC_STAT_BACKFEED n] s t ∧ t.links = s.links := by
  have hb : b2n live % 2 ^ (LNK.POC_STAT_BACKFEED n).w = b2n live := by cases live <;> rfl
  obtain ⟨u, hu⟩ : ∃ u, u = (s.at τ).wrB (LNK.POC_STAT_BACKFEED n) live := ⟨_, rfl⟩
  obtain ⟨x, hx⟩ : ∃ x, (if live ∧ s.is (LNK.POC_STAT_BACKFEED n) = false then u.raise 0x080F n [] else u) =
      { u with events := x } := by
    split
    · exact raise_eq ..
    · exact ⟨_, rfl⟩
  refine ⟨{ u with events := x }, ?_, ?_, ?_, ?_⟩
  · rw [← hx, hu]
    rfl
  · rw [hu]
    exact (rd_wr_same (s.at τ) _ _).trans hb
  · rw [hu]
    exact keepsRegs_wr (s.at τ) _ _
  · rw [hu]
    rfl

theorem pocStaggerStart_starts {w : Nat} (hw : (s.link n).pocWait = some w) (hdue : w ≤ τ) (hpoc : s.poc n = 1) :
    Answers (exec (.pocStaggerStart n τ) s) fun t =>
      t.link n = { s.link n with pocWait := none } ∧ t.regs = s.regs ∧ OnlyLink n s t := by
  have hset := ((LinkStep.refl n s).at_ τ).setLink { s.link n with pocWait := none }
  refine ⟨_, ?_, hset.link, hset.regs, hset.onlyLink⟩
  show execPocStaggerStart n τ s = _
  unfold execPocStaggerStart
  rw [hw]
  exact congrArg Host.Outcome.next (if_pos ⟨hdue, hpoc⟩)

/-- A cause that was not set again in this clock is cleared. -/
theorem clear1_zero {u : State} {f : Fld} (hw : f.w = 1) (hjust : u.justSet f = 0) : u.clear1 f 1 = u.wr f 0 := by
  unfold State.clear1
  rw [hjust, hw]
  simp [List.range, List.range.loop]

theorem pocFaultClear_restarts (hpoc : s.poc n = 3) (hcam : s.is SYS.PWR_STAT_VCAM_FAULT = false)
    (hshort : (s.at τ).justSet (LNK.POC_STAT_SHORT n) = 0) (hover : (s.at τ).justSet (LNK.POC_STAT_OVERCUR n) = 0) :
    Answers (exec (.pocFaultClear n τ) s) fun t =>
      t.rd (LNK.POC_STAT_SHORT n) = 0 ∧ t.rd (LNK.POC_STAT_OVERCUR n) = 0 ∧ t.poc n = (if s.on (LNK.POC_CFG_EN n) then 1 else 0) ∧
      KeepsRegs [LNK.POC_STAT_SHORT n, LNK.POC_STAT_OVERCUR n, LNK.POC_STAT_STATE n, LNK.POC_MEAS_IOUT n, LNKG.POC_TOTAL_TOTAL] s t ∧
      OnlyLink n s t := by
  obtain ⟨u, hu⟩ : ∃ u, u = ((s.at τ).wr (LNK.POC_STAT_SHORT n) 0).wr (LNK.POC_STAT_OVERCUR n) 0 := ⟨_, rfl⟩
  have hne := fun i j f g hi hj hij => key_ne_of_nodup (pocFlds_nodup n.isLt) (i := i) (j := j) (f := f) (g := g) hi hj hij
  have hstep : exec (.pocFaultClear n τ) s = .next (u.pocCleared n) := by
    show Host.Outcome.next (State.pocCleared (State.clear1 (State.clear1 (s.at τ) _ 1) _ 1) n) = _
    rw [clear1_zero rfl hshort, clear1_zero (u := (s.at τ).wr (LNK.POC_STAT_SHORT n) 0) rfl hover, ← hu]
  have hS : u.rd (LNK.POC_STAT_SHORT n) = 0 := by
    rw [hu, rd_wr_ne _ _ (hne 1 2 _ _ rfl rfl (by decide)), rd_wr_same]
    rfl
  have hO : u.rd (LNK.POC_STAT_OVERCUR n) = 0 := by rw [hu, rd_wr_same]; rfl
  have hP : u.poc n = 3 := by
    rw [State.poc, hu, rd_wr_ne _ _ (hne 0 2 _ _ rfl rfl (by decide)), rd_wr_ne _ _ (hne 0 1 _ _ rfl rfl (by decide))]
    exact hpoc
  have hsound : u.pocFaulty n = false := by
    rw [State.pocFaulty, State.is, State.is, hS, hO]
    rfl
  have hcam' : u.is SYS.PWR_STAT_VCAM_FAULT = false := by
    rw [State.is, hu, rd_wr_ne, rd_wr_ne]
    · exact hcam
    · simp only [LNK.POC_STAT_SHORT, SYS.PWR_STAT_VCAM_FAULT, Fld.key]; omega
    · simp only [LNK.POC_STAT_OVERCUR, SYS.PWR_STAT_VCAM_FAULT, Fld.key]; omega
  have hon : u.on (LNK.POC_CFG_EN n) = s.on (LNK.POC_CFG_EN n) := by rw [hu]; rfl
  have hin := (((LinkStep.refl n s).at_ τ).wr (LNK.POC_STAT_SHORT n) 0).wr (LNK.POC_STAT_OVERCUR n) 0
  rw [← hu] at hin
  have hcleared : u.pocCleared n = if s.on (LNK.POC_CFG_EN n) = false then u.pocSet n 0 else u.pocStart n 0 := by
    unfold State.pocCleared
    rw [if_pos ⟨hP, hsound⟩, hon, hcam']
    rfl
  rw [hstep, hcleared]
  cases s.on (LNK.POC_CFG_EN n) with
  | false =>
    obtain ⟨x, hx⟩ := pocSet_step hin 0
    have hwrote := fun f v => hx.wrote (f := f) (v := v) (poc_nodup n.isLt [1, 2, 0, 7] rfl (by decide) (by decide))
    exact ⟨_, rfl, hwrote _ 0 (by simp), hwrote _ 0 (by simp), hwrote _ 0 (by simp), hx.keepsRegs (by simp), hx.onlyLink⟩
  | true =>
    have hx : ∃ x, LinkStep n ([] ++ [(LNK.POC_STAT_SHORT n, 0)] ++ [(LNK.POC_STAT_OVERCUR n, 0)] ++ [(LNK.POC_MEAS_IOUT n, 0)] ++
        [(LNK.POC_STAT_STATE n, 1)] ++ [(LNKG.POC_TOTAL_TOTAL, x)]) { u.link n with pocAt := u.now + 100000 * 0, pocWait := none } s
          (u.pocStart n 0) := ⟨_, (((hin.setLink _).wr _ _).wr _ _).wr _ _⟩
    obtain ⟨x, hx⟩ := hx
    have hwrote := fun f v => hx.wrote (f := f) (v := v) (poc_nodup n.isLt [1, 2, 6, 0, 7] rfl (by decide) (by decide))
    exact ⟨_, rfl, hwrote _ 0 (by simp), hwrote _ 0 (by simp), hwrote _ 1 (by simp), hx.keepsRegs (by simp), hx.onlyLink⟩

end

/-- Settles O51: a frame, an echo or a supply is one chain of writes to its link; a loop's checker counts what its run over the bits
finds. -/
theorem linkFramesCalibrationAndCameraPower : Obligations.LinkFramesCalibrationAndCameraPower := by
  unfold Obligations.LinkFramesCalibrationAndCameraPower
  intro n τ s l st again failed
  refine ⟨?_, ?_, fun r hr hdue hst havail hout hq => readIdRetry_sends hr hdue hst havail hout hq,
    fun b ps hb hst hnext hdue hfree => echoSend_next ps hb hst hnext hdue hfree,
    fun b id ps p turn tpath hheard hinj hb hsent hlo hhi => echoReply_measures turn tpath hheard hinj hb hsent hlo hhi,
    fun b id ps hb => echoReplyTimeout_drops id ps hb,
    fun b hb hnext hsent hrec => ⟨echoBurstEnd_good hb hnext hsent hrec, echoBurstEnd_bad hb hnext hsent hrec⟩,
    fun r hr hdue hst hb => ⟨_, echoBurstRetry_eq hr hdue hst hb, burstStart_fresh n τ s⟩,
    fun hen hst hb => ⟨_, congrArg Host.Outcome.next (if_pos ⟨hen, hst, hb⟩), burstStart_fresh n τ s⟩,
    fun ps hst hvalid hen hb hfree hdue => periodicEcho_sends hst hvalid hen hb hfree hdue,
    fun hup hdue => ⟨gpioRefresh_sends hup hdue, gpioRefresh_waits hup hdue⟩, fun levels hheard => gpioIn_shows levels hheard,
    fun temp supply bcErr trigBad relock fwdOvf hheard hrel => telemetry_shows temp supply bcErr trigBad relock fwdOvf hheard hrel, ?_,
    ?_, pocStartTimeout_trips, pocBackfeed_shows, fun w hw hdue hpoc => pocStaggerStart_starts hw hdue hpoc, pocFaultClear_restarts⟩
  · intro f seq result resp hheard hout
    refine ⟨fun hseq hheld hwho hq => ⟨bcAck_ends hheard hout hseq hheld hwho hq, bcAck_retries hheard hout hseq hheld,
      bcAck_fails hheard hout hseq hheld hwho hq⟩, bcAck_other hheard hout⟩
  · intro f hout hdue
    have hstep := bcAckTimeout_eq hout hdue
    refine ⟨fun htries => ⟨_, hstep, bcRetry_spec n τ s htries⟩, fun htries hwho hq => ⟨_, hstep, ?_⟩⟩
    rw [State.bcRetry, if_pos htries]
    exact bcFail_spec τ hwho hq
  · intro i r full hi
    have hrun : LoopRun n s i r full := by
      rcases hi with ⟨pairs, data, flags, rfl, hloop, hheard, rfl, rfl⟩ |
        ⟨head, rest, ps, rfl, hloop, ⟨hpat, rfl, rfl⟩ | ⟨hpat, rfl, rfl⟩⟩
      · exact loopPacket_runs hloop hheard
      · exact loopPattern_runs (prbs31 := false) hloop hpat
      · exact loopPattern_runs (prbs31 := true) hloop hpat
    exact ⟨loop_searches hrun, loop_counts hrun⟩
  · intro vout iout held meas measured only for_ vcam
    exact ⟨pocVoutReached_starts, pocVoutReached_waits, pocShort_trips, fun hpoc => ⟨pocOvercurrent_trips hpoc,
      pocOvercurrent_measures hpoc, pocOpen_reports hpoc, pocOpen_measures hpoc, pocOpenClear_clears hpoc, pocOpenClear_measures hpoc⟩⟩

end Sys2Proof.Machine

end

section

/-! SUPPORT. Chains of register writes seen through the registers alone, what a command's reply may touch, and how a command starts
(R367 to R373). -/

namespace Sys2Proof.Machine

/-! ### Chains of register writes -/

/-- The registers of `t` are those of `s` after the writes `ws`. -/
def Wrote (ws : List (Fld × Nat)) (s t : State) : Prop := t.regs = (s.wrAll ws).regs

theorem Wrote.refl (s : State) : Wrote [] s s := rfl

theorem Wrote.of_regs {ws : List (Fld × Nat)} {s t u : State} (h : Wrote ws s t) (hu : u.regs = t.regs) : Wrote ws s u := hu.trans h

theorem Wrote.wr {ws : List (Fld × Nat)} {s t : State} (h : Wrote ws s t) (f : Fld) (v : Nat) : Wrote (ws ++ [(f, v)]) s (t.wr f v) := by
  show AMap.set t.regs f.key (v % 2 ^ f.w) = _
  rw [h, wrAll_append]
  rfl

theorem Wrote.set1 {ws : List (Fld × Nat)} {s t : State} (h : Wrote ws s t) (f : Fld) :
    Wrote (ws ++ [(f, (t.rd f).lor 1)]) s (t.set1 f) := h.wr f _

theorem Wrote.addSat {ws : List (Fld × Nat)} {s t : State} (h : Wrote ws s t) (f : Fld) (k : Nat) :
    Wrote (ws ++ [(f, min (t.rd f + k) (2 ^ f.w - 1))]) s (t.addSat f k) := h.wr f _

theorem Wrote.raise {ws : List (Fld × Nat)} {s t : State} (h : Wrote ws s t) (code idx : Nat) (v : List Nat) :
    Wrote ws s (t.raise code idx v) := by
  obtain ⟨x, hx⟩ := raise_eq t code idx v
  rw [hx]
  exact h

theorem Wrote.keepsRegs {ws : List (Fld × Nat)} {s t : State} (h : Wrote ws s t) : KeepsRegs (ws.map Prod.fst) s t :=
  fun f hf => (rd_of_regs h f).trans ((wrAll_onlyRegs s ws).1 f hf)

theorem Wrote.rd {ws : List (Fld × Nat)} {s t : State} (h : Wrote ws s t) (hnodup : (ws.map (·.1.key)).Nodup) {w : Fld × Nat}
    (hw : w ∈ ws) : t.rd w.1 = w.2 % 2 ^ w.1.w := (rd_of_regs h w.1).trans (wrAll_rd hnodup hw)

theorem set1_eq (s : State) (f : Fld) : ∃ w, s.set1 f = { s.wr f ((s.rd f).lor 1) with w1cSet := w } := ⟨_, rfl⟩

theorem onlyRegs_set1 (s : State) (f : Fld) : OnlyRegs [f] s (s.set1 f) := ⟨sets1_keepsRegs s f 1, rfl⟩

theorem onlyRegs_addSat (s : State) (f : Fld) (k : Nat) : OnlyRegs [f] s (s.addSat f k) := onlyRegs_wr s f _

theorem min_mod_counter (a : Nat) (w : Nat) : min a (2 ^ w - 1) % 2 ^ w = min a (2 ^ w - 1) :=
  Nat.mod_eq_of_lt (lt_of_le_of_lt (Nat.min_le_right _ _) (Nat.sub_lt Nat.one_le_two_pow Nat.one_pos))

/-- Only register fields of the list, event occurrences and elapsed time differ. -/
def OnlyRegsEvents (fs : List Fld) (s t : State) : Prop := OnlyRegs fs s { t with events := s.events }

theorem OnlyRegsEvents.of_onlyRegs {fs : List Fld} {s t : State} (h : OnlyRegs fs s t) : OnlyRegsEvents fs s t :=
  ⟨h.1, congrArg (fun u : State => { u with events := s.events }) h.2⟩

theorem OnlyRegsEvents.trans {fs gs : List Fld} {s t u : State} (h : OnlyRegsEvents fs s t) (h' : OnlyRegsEvents gs t u) :
    OnlyRegsEvents (fs ++ gs) s u :=
  ⟨(onlyRegs_trans ⟨h.1, h.2⟩ (t := { t with events := s.events }) (u := { u with events := s.events })
    ⟨h'.1, congrArg (fun v : State => { v with events := s.events }) h'.2⟩).1,
   (onlyRegs_trans ⟨h.1, h.2⟩ (t := { t with events := s.events }) (u := { u with events := s.events })
    ⟨h'.1, congrArg (fun v : State => { v with events := s.events }) h'.2⟩).2⟩

theorem OnlyRegsEvents.with_events {fs : List Fld} {s t : State} (h : OnlyRegs fs s t) (x : EventUnit) :
    OnlyRegsEvents fs s { t with events := x } := ⟨h.1, congrArg (fun u : State => { u with events := s.events }) h.2⟩

theorem OnlyRegsEvents.raise (s : State) (code idx : Nat) (v : List Nat) : OnlyRegsEvents [] s (s.raise code idx v) := by
  obtain ⟨x, hx⟩ := raise_eq s code idx v
  rw [hx]
  exact ⟨fun _ _ => rfl, rfl⟩

theorem OnlyRegsEvents.mono {fs gs : List Fld} {s t : State} (hsub : ∀ f ∈ fs, f ∈ gs) (h : OnlyRegsEvents fs s t) :
    OnlyRegsEvents gs s t := onlyRegs_mono hsub h

theorem onlyRegs_from_at {fs : List Fld} {s t : State} {τ : Nat} (h : OnlyRegs fs (s.at τ) t) : OnlyRegs fs s t :=
  ⟨h.1, congrArg (fun u : State => { u with now := s.now }) h.2⟩

/-! ### What a reply touches -/

/-- The two registers that a reply writes. -/
def replyFlds : List Fld := [CMD.STAT_SMB_BUSY, CMD.CQ_TAIL_TAIL]

/-- A reply touches the command unit and its rings, messages to the host and its memory, and nothing else. -/
def Told (s t : State) : Prop :=
  KeepsRegs replyFlds s t ∧
  { t with regs := s.regs, cmd := s.cmd, coal := s.coal, msixPend := s.msixPend, msixSent := s.msixSent,
           mems := { t.mems with host := s.mems.host }, dlv := s.dlv } = s

theorem Told.refl (s : State) : Told s s := ⟨fun _ _ => rfl, rfl⟩

theorem Told.trans {s t u : State} (h : Told s t) (h' : Told t u) : Told s u := by
  refine ⟨fun f hf => (h'.1 f hf).trans (h.1 f hf), ?_⟩
  have := congrArg (fun x : State => { x with
    regs := s.regs, cmd := s.cmd, coal := s.coal, msixPend := s.msixPend, msixSent := s.msixSent,
    mems := { x.mems with host := s.mems.host }, dlv := s.dlv }) h'.2
  exact this.trans h.2

theorem Told.of_eq {s t : State} (hregs : t.regs = s.regs)
    (h : { t with cmd := s.cmd, coal := s.coal, msixPend := s.msixPend, msixSent := s.msixSent,
                  mems := { t.mems with host := s.mems.host }, dlv := s.dlv } = s) : Told s t :=
  ⟨keepsRegs_of_regs _ hregs, congrArg (fun x : State => { x with regs := s.regs }) h⟩

theorem Told.wr {f : Fld} (hf : f ∈ replyFlds) (s : State) (v : Nat) : Told s (s.wr f v) :=
  ⟨keepsRegs_mono (by simpa using hf) (keepsRegs_wr s f v), rfl⟩

theorem hostWrite_told (s : State) (a : Nat) (bs : List Nat) : Told s (s.hostWrite a bs) := .of_eq rfl rfl

theorem coalReset_told (s : State) (k : Nat) : Told s (s.coalReset k) := .of_eq rfl rfl

theorem lowWrite_told (s : State) (n : Nat) : Told s (s.lowWrite n) := .of_eq rfl rfl

theorem cmd_told {s t : State} {x : CmdUnit} (h : Told { s with cmd := x } t) : Told s t :=
  .trans (t := { s with cmd := x }) (.of_eq rfl rfl) h

theorem msixSend_told (s : State) (v : Nat) : Told s (s.msixSend v) := by
  unfold State.msixSend
  split <;> exact Told.of_eq rfl rfl

theorem signal_told (s : State) (k : Nat) : Told s (s.signal k) := by
  unfold State.signal
  dsimp only
  split
  · exact (coalReset_told s k).trans (msixSend_told _ _)
  · exact Told.of_eq rfl rfl

theorem cqTurn_told (s : State) (wraps : Prop) [Decidable wraps] : Told s (s.cqTurn wraps) := by
  unfold State.cqTurn
  split
  · exact Told.of_eq rfl rfl
  · exact Told.refl s

theorem cqPut_told (s : State) (bytes : List Nat) : Told s (s.cqPut bytes) :=
  (hostWrite_told _ _ _).trans (Told.wr (f := CMD.CQ_TAIL_TAIL) (by simp [replyFlds]) _ _)

theorem cqWrite_told (s : State) (bytes : List Nat) : Told s (s.cqWrite bytes) := by
  rw [cqWrite_eq]
  have hput := (cqPut_told s bytes).trans (cqTurn_told _ (s.rd CMD.CQ_TAIL_TAIL % s.cmdSize + 1 = s.cmdSize))
  exact (hput.trans (lowWrite_told _ 32)).trans (signal_told _ 65)

theorem cqDrain_told (s : State) (k : Nat) : Told s (s.cqDrain k) := by
  induction k generalizing s with
  | zero => exact Told.refl s
  | succ k ih =>
    unfold State.cqDrain
    split
    · exact Told.refl s
    · split
      · exact Told.refl s
      · exact cmd_told ((cqWrite_told _ _).trans (ih _))

theorem cqFlush_told (s : State) : Told s s.cqFlush := by
  unfold State.cqFlush
  split
  · exact cqDrain_told _ _
  · exact Told.refl _

theorem cmdReply_told (s : State) (c : CmdPkt) (r : Reply) : Told s (s.cmdReply c r) := by
  unfold State.cmdReply
  dsimp only
  split
  · exact cmd_told (Told.wr (f := CMD.STAT_SMB_BUSY) (by simp [replyFlds]) _ _)
  · exact cmd_told (cqFlush_told _)

/-! ### Commands of service firmware -/

section

variable {s : State} {c : CmdPkt} {used : List Nat} {body : CmdBody} (htakes : s.Takes c used)
include htakes

theorem svcCommand_replies {s1 : State} {r : Reply} (h : body c (s.at c.start) = (s1, some r)) :
    s.svcCommand c used false body = s1.cmdReply c r := by
  refine (if_pos htakes.1).trans ?_
  unfold State.cmdStart State.cmdRefuses
  rw [htakes.2]
  cases harm : (s.at c.start).epoch.armed <;> simp [h]

theorem svcCommand_keeps {s1 : State} (h : body c (s.at c.start) = (s1, none)) :
    s.svcCommand c used false body = s1.cmdKeep c := by
  refine (if_pos htakes.1).trans ?_
  unfold State.cmdStart State.cmdRefuses
  rw [htakes.2]
  cases harm : (s.at c.start).epoch.armed <;> simp [h]

end

/-! ### Frames queued on a link -/

theorem bcLaunch_links (s : State) (n : Nat) (f : BcFrame) : ∃ ls, s.bcLaunch n f = { s with links := ls } := ⟨_, rfl⟩

theorem bcNext_links (s : State) (n : Nat) : ∃ ls, s.bcNext n = { s with links := ls } := by
  unfold State.bcNext
  dsimp only
  split
  · exact ⟨_, rfl⟩
  · split
    · exact ⟨_, rfl⟩
    · exact bcLaunch_links _ _ _

theorem bcSend_links (s : State) (n : Nat) (f : BcFrame) : ∃ ls, s.bcSend n f = { s with links := ls } :=
  bcNext_links _ _

theorem twConfigDue_links (s : State) (n : Nat) : ∃ ls, s.twConfigDue n = { s with links := ls } := by
  unfold State.twConfigDue
  split
  · exact bcSend_links _ _ _
  · exact ⟨_, rfl⟩

end Sys2Proof.Machine

end

section

/-! CERTIFICATE. Two-wire transfers, their ends, time-outs and bus clears, and the target port STP (R394 to R410). -/

namespace Sys2Proof.Machine

/-! ### Taking a transfer (R394, R396) -/

section

variable {pkt : Cmd} {k τ : Nat} {row : Instr} {s : State} {c : CmdPkt} {p wn rn : Nat}

theorem twRow_exec (h : (k, row) ∈ [(0, Instr.twWrite pkt τ), (1, .twRead pkt τ), (2, .twWriteRead pkt τ), (3, .twBlockWrite pkt τ),
    (4, .twBlockRead pkt τ)]) : exec row s = .next (s.twCommand pkt k τ) := by
  simp only [List.mem_cons, Prod.mk.injEq, List.not_mem_nil, or_false] at h
  rcases h with ⟨rfl, rfl⟩ | ⟨rfl, rfl⟩ | ⟨rfl, rfl⟩ | ⟨rfl, rfl⟩ | ⟨rfl, rfl⟩ <;> rfl

section

variable (htakes : s.Takes (cmdPkt pkt 0x0901 τ) [0, 1, 2, 3, 4, 5, 6, 7, 8, 9])
include htakes

theorem twCommand_started : s.twCommand pkt k τ = (match cmdTwXfer k (cmdPkt pkt 0x0901 τ) (s.at τ) with
    | (s1, some r) => s1.cmdReply (cmdPkt pkt 0x0901 τ) r
    | (s1, none) => s1) := by
  refine (if_pos htakes.1).trans ?_
  unfold State.twStart State.cmdRefuses
  rw [htakes.2]
  cases harm : (s.at τ).epoch.armed <;> simp <;> rfl

theorem twCommand_replies {s1 : State} {r : Reply} (h : cmdTwXfer k (cmdPkt pkt 0x0901 τ) (s.at τ) = (s1, some r)) :
    s.twCommand pkt k τ = s1.cmdReply (cmdPkt pkt 0x0901 τ) r := by
  rw [twCommand_started htakes, h]

theorem twCommand_runs {s1 : State} (h : cmdTwXfer k (cmdPkt pkt 0x0901 τ) (s.at τ) = (s1, none)) :
    s.twCommand pkt k τ = s1 := by
  rw [twCommand_started htakes, h]

end

/-- What the argument words ask for, taken from the packet. -/
structure TwAsks (c : CmdPkt) (p wn rn : Nat) : Prop where
  flags : c.arg 1 / 16 = 0 ∨ c.arg 1 / 16 = 16
  port : bitsOf (c.arg 0) 0 5 = p
  writes : bitsOf (c.arg 0) 16 6 = wn
  reads : bitsOf (c.arg 0) 24 5 = rn

/-- The transfer that a command starts. -/
def twAsked (c : CmdPkt) (k now wn rn : Nat) : TwXfer :=
  { cid := c.cid, flags := c.flags, ring := c.idx, addr := bitsOf (c.arg 0) 8 7, kind := k, pec := (c.arg 1).testBit 8,
    wr := ((List.range 8).flatMap fun k => leBytes 4 (c.arg (2 + k))).take wn, rn := rn, start := now }

section

variable (hasks : TwAsks c p wn rn)
include hasks

theorem cmdTwXfer_flags : ¬(c.arg 1 / 16 ≠ 0 ∧ c.arg 1 / 16 ≠ 16) := fun h => hasks.flags.elim h.1 h.2

theorem cmdTwXfer_badPort (hp : 25 < p) : cmdTwXfer k c s = (s, some (.err 0x0201 0)) := by
  obtain ⟨-, rfl, -, -⟩ := id hasks
  exact (if_neg (cmdTwXfer_flags hasks)).trans (if_pos hp)

theorem cmdTwXfer_badKind (hp : p ≤ 25) {i : Nat} (hk : twKindBad k wn rn = some i) : cmdTwXfer k c s = (s, some (.err 0x0201 i)) := by
  obtain ⟨-, rfl, rfl, rfl⟩ := id hasks
  refine (if_neg (cmdTwXfer_flags hasks)).trans ((if_neg (by omega)).trans ?_)
  rw [hk]

section

variable (hp : p ≤ 25) (hk : twKindBad k wn rn = none)
include hp hk

theorem cmdTwXfer_good : cmdTwXfer k c s =
    if s.twFenced p then (s.twOutcome p 8 0, some (.err 0x0A03 8))
    else if p < 24 ∧ s.bcAvailable p = false then (s, some (.err 0x0A02 p))
    else if (s.twp p).cur.isSome then (s, some (.err 0x0302 0))
    else ((s.cmdKeep c).twBegin p (twAsked c k s.now wn rn), none) := by
  obtain ⟨-, rfl, rfl, rfl⟩ := id hasks
  refine (if_neg (cmdTwXfer_flags hasks)).trans ((if_neg (by omega)).trans ?_)
  rw [hk]
  rfl

theorem cmdTwXfer_fenced (hf : s.twFenced p = true) : cmdTwXfer k c s = (s.twOutcome p 8 0, some (.err 0x0A03 8)) :=
  (cmdTwXfer_good hasks hp hk).trans (if_pos hf)

variable (hf : s.twFenced p = false)
include hf

theorem cmdTwXfer_unavailable (hcam : p < 24) (hbc : s.bcAvailable p = false) : cmdTwXfer k c s = (s, some (.err 0x0A02 p)) :=
  (cmdTwXfer_good hasks hp hk).trans ((if_neg (by simp [hf])).trans (if_pos ⟨hcam, hbc⟩))

variable (hbc : p < 24 → s.bcAvailable p = true)
include hbc

theorem cmdTwXfer_busy (hcur : (s.twp p).cur.isSome = true) : cmdTwXfer k c s = (s, some (.err 0x0302 0)) :=
  (cmdTwXfer_good hasks hp hk).trans ((if_neg (by simp [hf])).trans ((if_neg fun h => by simp [hbc h.1] at h).trans (if_pos hcur)))

theorem cmdTwXfer_begins (hcur : (s.twp p).cur = none) :
    cmdTwXfer k c s = ((s.cmdKeep c).twBegin p (twAsked c k s.now wn rn), none) :=
  (cmdTwXfer_good hasks hp hk).trans
    ((if_neg (by simp [hf])).trans ((if_neg fun h => by simp [hbc h.1] at h).trans (if_neg (by simp [hcur]))))

end
end

/-! ### The port while it runs (R397) -/

/-- The port as a transfer that starts leaves it. -/
def State.twTake (s : State) (p : Nat) (x : TwXfer) : State :=
  (s.setTwp p { s.twp p with cur := some x, injNack := false, injScl := false }).wr (TWB.STAT_BUSY p) 1

/-- A transfer that starts takes its port; on a camera's port it leaves as a frame of the back channel. -/
theorem twBegin_taken {x : TwXfer} (hnack : (s.twp p).injNack = false) (hscl : (s.twp p).injScl = false) :
    ∃ ls : AMap Link, s.twBegin p x = { s.twTake p x with links := ls } := by
  have hbegin : s.twBegin p x = _ := (if_neg (by simp [hnack])).trans (if_neg (by simp [hscl]))
  rw [hbegin]
  split
  · obtain ⟨ls, hls⟩ := twConfigDue_links (s.twTake p x) p
    obtain ⟨ls', hls'⟩ := bcSend_links { s.twTake p x with links := ls } p _
    exact ⟨ls', (congrArg (fun u : State => u.bcSend p _) hls).trans hls'⟩
  · exact ⟨s.links, rfl⟩

/-- The counts that every outcome takes. -/
def State.twCounted (s : State) (p code : Nat) : State := (s.wr (TWB.STAT_LASTERR p) code).addSat (TWB.CNT0_XFER p) 1

theorem twCounted_lastErr (s : State) (p code : Nat) : (s.twCounted p code).rd (TWB.STAT_LASTERR p) = code % 256 :=
  (rd_wr_ne _ _ (by simp only [TWB.STAT_LASTERR, TWB.CNT0_XFER, Fld.key]; omega)).trans (rd_wr_same _ _ _)

theorem twCounted_transfers (s : State) (p code : Nat) :
    (s.twCounted p code).rd (TWB.CNT0_XFER p) = min (s.rd (TWB.CNT0_XFER p) + 1) 65535 := by
  refine (rd_wr_same _ _ _).trans ((min_mod_counter _ 16).trans ?_)
  rw [rd_wr_ne _ _ (by simp only [TWB.STAT_LASTERR, TWB.CNT0_XFER, Fld.key]; omega)]
  rfl

theorem twCounted_only (s : State) (p code : Nat) : OnlyRegs [TWB.STAT_LASTERR p, TWB.CNT0_XFER p] s (s.twCounted p code) :=
  onlyRegs_trans (onlyRegs_wr _ _ _) (onlyRegs_addSat _ _ _)

/-- What single outcomes set beside the counts. -/
def outcomeFlds (p : Nat) : List Fld :=
  [TWB.CNT0_NACK p, TWB.STAT_NACK_STKY p, TWB.CNT1_ARB_LOST p, TWB.STAT_ARB_STKY p, TWB.CNT2_PEC_ERR p]

theorem twOutcome_counted (s : State) (p code idx : Nat) :
    OnlyRegsEvents (outcomeFlds p) (s.twCounted p code) (s.twOutcome p code idx) := by
  have hnack (t : State) : OnlyRegsEvents (outcomeFlds p) t ((t.addSat (TWB.CNT0_NACK p) 1).set1 (TWB.STAT_NACK_STKY p)) :=
    .mono (by simp [outcomeFlds]) (.of_onlyRegs (onlyRegs_trans (onlyRegs_addSat _ _ _) (onlyRegs_set1 _ _)))
  unfold State.twOutcome
  dsimp only
  split
  · exact hnack _
  · exact hnack _
  · exact .mono (by simp [outcomeFlds])
      ((OnlyRegsEvents.of_onlyRegs (onlyRegs_trans (onlyRegs_addSat _ _ _) (onlyRegs_set1 _ _))).trans (.raise _ _ _ _))
  · exact .mono (by simp [outcomeFlds]) (.of_onlyRegs (onlyRegs_addSat _ (TWB.CNT2_PEC_ERR p) 1))
  · exact .mono (by simp) (.of_onlyRegs (onlyRegs_refl _))

/-- A port that ends its transfer, before it replies. -/
def State.twReleased (s : State) (p : Nat) : State := (s.setTwp p { s.twp p with cur := none }).twBusy p

theorem twReleased_cur (s : State) (p : Nat) : ((s.twReleased p).twp p).cur = none :=
  congrArg TwPort.cur (twp_setTwp s p { s.twp p with cur := none })

theorem twReleased_busy (s : State) {p : Nat} (hp : 24 ≤ p) : (s.twReleased p).rd (TWB.STAT_BUSY p) = 0 := by
  refine (rd_wr_same _ _ _).trans ?_
  rw [twp_setTwp, decide_eq_false (by omega : ¬p < 24)]
  rfl

theorem twReleased_keeps (s : State) (p : Nat) : KeepsRegs [TWB.STAT_BUSY p] s (s.twReleased p) := keepsRegs_wr _ _ _

/-- The fields that the end of a transfer writes. -/
def endFlds (p : Nat) : List Fld := TWB.STAT_BUSY p :: TWB.STAT_LASTERR p :: TWB.CNT0_XFER p :: outcomeFlds p

/-- A port after the outcome `code`, its transfer gone. -/
structure Ended (p code : Nat) (s u : State) : Prop where
  cur : (u.twp p).cur = none
  lastErr : u.rd (TWB.STAT_LASTERR p) = code % 256
  busy : u.rd (TWB.STAT_BUSY p) = 0
  transfers : u.rd (TWB.CNT0_XFER p) = min (s.rd (TWB.CNT0_XFER p) + 1) 65535
  keeps : KeepsRegs (endFlds p) s u

theorem twOutcome_ended (s : State) {p : Nat} (hp : 24 ≤ p) (code idx : Nat) :
    Ended p code s ((s.twOutcome p code idx).twReleased p) := by
  have hlater : KeepsRegs (TWB.STAT_BUSY p :: outcomeFlds p) (s.twCounted p code) ((s.twOutcome p code idx).twReleased p) :=
    keepsRegs_mono (by simp [or_comm]) (keepsRegs_trans (twOutcome_counted s p code idx).1 (twReleased_keeps _ p))
  refine ⟨twReleased_cur _ p, (hlater _ ?_).trans (twCounted_lastErr s p code), twReleased_busy _ hp,
    (hlater _ ?_).trans (twCounted_transfers s p code),
    keepsRegs_mono (fun f hf => ?_) (keepsRegs_trans (twCounted_only s p code).1 hlater)⟩
  · simp [outcomeFlds, TWB.STAT_LASTERR, TWB.STAT_BUSY, TWB.CNT0_NACK, TWB.STAT_NACK_STKY, TWB.CNT1_ARB_LOST, TWB.STAT_ARB_STKY,
      TWB.CNT2_PEC_ERR, Fld.key]
    omega
  · simp [outcomeFlds, TWB.CNT0_XFER, TWB.STAT_BUSY, TWB.CNT0_NACK, TWB.STAT_NACK_STKY, TWB.CNT1_ARB_LOST, TWB.STAT_ARB_STKY,
      TWB.CNT2_PEC_ERR, Fld.key]
    omega
  · simp only [endFlds, List.mem_append, List.mem_cons, List.not_mem_nil, or_false] at hf ⊢
    tauto

/-- What a transfer on a carrier-board port replies. -/
def endReply (code idx : Nat) (d : List Nat) : Reply :=
  if code = 0 then .ok (resWords d) else { status := 0x0A03, detail := code + 256 * (idx % 256), res := resWords d }

theorem twEnd_replies {x : TwXfer} (hx : x.replied = false) (s : State) (p code idx : Nat) (d : List Nat) :
    s.twEnd p x code idx d = ((s.twOutcome p code idx).twReleased p).cmdReply x.pkt (endReply code idx d) :=
  if_neg (by simp [hx])

theorem twEnd_ends (s : State) {p : Nat} (hp : 24 ≤ p) (x : TwXfer) (code idx : Nat) (d : List Nat) :
    ((s.twEnd p x code idx d).twp p).cur = none ∧ (s.twEnd p x code idx d).rd (TWB.STAT_LASTERR p) = code % 256 ∧
    KeepsRegs (endFlds p ++ replyFlds) s (s.twEnd p x code idx d) := by
  have hended := twOutcome_ended s hp code idx
  have htold : Told ((s.twOutcome p code idx).twReleased p) (s.twEnd p x code idx d) := by
    show Told _ (if _ then _ else _)
    split
    · exact Told.refl _
    · exact cmdReply_told _ _ _
  have htw : (s.twEnd p x code idx d).tw = ((s.twOutcome p code idx).twReleased p).tw := (congrArg State.tw htold.2 :)
  refine ⟨?_, (htold.1 _ ?_).trans hended.lastErr, keepsRegs_trans hended.keeps htold.1⟩
  · rw [State.twp, htw]
    exact hended.cur
  · simp [replyFlds, TWB.STAT_LASTERR, CMD.STAT_SMB_BUSY, CMD.CQ_TAIL_TAIL, Fld.key]
    omega

/-! ### The end of a transaction (R397, R403) -/

section

variable {τ : Nat} {s : State} {p : Fin 26} {x : TwXfer}

theorem twXferDone_idle {how : TwEnd} {rx : List Byte} (h : p.val < 24 ∨ (s.twp p).cur = none) :
    exec (.twXferDone p how rx τ) s = .next s := by
  show execTwXferDone p how rx τ s = _
  unfold execTwXferDone
  rcases h with h | h
  · rw [if_pos h]
  · rw [h, ite_self]

section

variable (hp : 24 ≤ p.val) (hcur : (s.twp p).cur = some x)
include hp hcur

theorem twXferDone_early {how : TwEnd} {rx : List Byte} (hdue : s.twDue p x how rx τ = false) :
    exec (.twXferDone p how rx τ) s = .next s := by
  show execTwXferDone p how rx τ s = _
  unfold execTwXferDone
  rw [if_neg (by omega), hcur]
  exact congrArg _ (if_pos hdue)

/-- The code, the index and the data of a transaction's end. -/
def TwXfer.verdict (x : TwXfer) (rx : List Nat) : TwEnd → Nat × Nat × List Nat
  | .acked => x.judge rx
  | .addrNack second => (1, b2n second, [])
  | .dataNack i => (2, i, [])
  | .arbLost i => (3, i, rx)

theorem twXferDone_due {how : TwEnd} {rx : List Byte} (hdue : s.twDue p x how rx τ = true) : exec (.twXferDone p how rx τ) s =
    .next (((s.at τ).wr (TWB.STAT_SCL_LOW p) 0).twEnd p x (x.verdict (rx.map BitVec.toNat) how).1
      (x.verdict (rx.map BitVec.toNat) how).2.1 (x.verdict (rx.map BitVec.toNat) how).2.2) := by
  show execTwXferDone p how rx τ s = _
  unfold execTwXferDone
  rw [if_neg (by omega), hcur]
  refine congrArg _ ((if_neg (by simp [hdue])).trans ?_)
  cases how <;> rfl

theorem twXferDone_ends (hx : x.replied = false) {how : TwEnd} {rx : List Byte} (hdue : s.twDue p x how rx τ = true)
    {code idx : Nat} {d : List Nat} (hverdict : x.verdict (rx.map BitVec.toNat) how = (code, idx, d)) :
    Replies (exec (.twXferDone p how rx τ) s) x.pkt (endReply code idx d) fun u =>
      (u.twp p).cur = none ∧ u.rd (TWB.STAT_LASTERR p) = code % 256 ∧ u.rd (TWB.STAT_BUSY p) = 0 ∧
      u.rd (TWB.CNT0_XFER p) = min (s.rd (TWB.CNT0_XFER p) + 1) 65535 := by
  have hended := twOutcome_ended ((s.at τ).wr (TWB.STAT_SCL_LOW p) 0) hp code idx
  refine ⟨_, (twXferDone_due hp hcur hdue).trans (congrArg _ ?_), hended.cur, hended.lastErr, hended.busy, hended.transfers.trans ?_⟩
  · rw [hverdict, twEnd_replies hx]
  · rw [rd_wr_ne _ _ (by simp only [TWB.STAT_SCL_LOW, TWB.CNT0_XFER, Fld.key]; omega)]
    rfl

end
end

/-! ### Time-outs and bus clears (R402 to R404) -/

section

variable {s : State} {p : Nat}

/-- The fields that a bus clear writes. -/
def clearedFlds (p : Nat) : List Fld := [TWB.CNT2_CLEAR p, TWB.STAT_FENCED p, TWB.STAT_SDA_LOW p]

/-- Without a list of its parts: what a bus clear of `k` pulses does. -/
theorem twCleared_eq (s : State) (p k : Nat) : ∃ x, s.twCleared p k =
    { (((s.setTwp p { s.twp p with injStuck := false }).addSat (TWB.CNT2_CLEAR p) 1).wr (TWB.STAT_FENCED p) (if 9 < k then 1 else 0)).wr
      (TWB.STAT_SDA_LOW p) (if 9 < k then 1 else 0) with events := x } := by
  by_cases hk : 9 < k
  · obtain ⟨x, hx⟩ := raise_eq ((((s.setTwp p { s.twp p with injStuck := false }).addSat (TWB.CNT2_CLEAR p) 1).wr
      (TWB.STAT_FENCED p) 1).wr (TWB.STAT_SDA_LOW p) 1) 0x0D02 p []
    simp only [if_pos hk]
    exact ⟨x, (if_pos hk).trans hx⟩
  · obtain ⟨x, hx⟩ := raise_eq ((((s.setTwp p { s.twp p with injStuck := false }).addSat (TWB.CNT2_CLEAR p) 1).wr
      (TWB.STAT_FENCED p) 0).wr (TWB.STAT_SDA_LOW p) 0) 0x0D04 p [k]
    simp only [if_neg hk]
    exact ⟨x, (if_neg hk).trans hx⟩

/-- The port after a bus clear that took `k` pulses. -/
structure Cleared (p k : Nat) (s u : State) : Prop where
  count : u.rd (TWB.CNT2_CLEAR p) = min (s.rd (TWB.CNT2_CLEAR p) + 1) 65535
  fenced : u.rd (TWB.STAT_FENCED p) = if 9 < k then 1 else 0
  keeps : KeepsRegs (clearedFlds p) s u
  cur : (u.twp p).cur = (s.twp p).cur

theorem clearedFlds_nodup (p : Nat) : ((clearedFlds p).map Fld.key).Nodup := by
  simp only [clearedFlds, TWB.CNT2_CLEAR, TWB.STAT_FENCED, TWB.STAT_SDA_LOW, Fld.key, List.map_cons, List.map_nil]
  simp only [List.nodup_cons, List.mem_cons, List.not_mem_nil, not_or, or_false, List.nodup_nil, and_true, not_false_eq_true]
  omega

theorem twCleared_cleared (s : State) (p k : Nat) : Cleared p k s (s.twCleared p k) := by
  obtain ⟨x, hx⟩ := twCleared_eq s p k
  obtain ⟨u, hu⟩ : ∃ u, u = s.setTwp p { s.twp p with injStuck := false } := ⟨_, rfl⟩
  have hregs : u.regs = s.regs := by rw [hu]; rfl
  have htwp : (u.twp p).cur = (s.twp p).cur := by rw [hu, twp_setTwp]
  have hbit : (if 9 < k then 1 else 0) % 2 = if 9 < k then 1 else 0 := by split <;> rfl
  obtain ⟨b, hb⟩ : ∃ b, b = if 9 < k then 1 else 0 := ⟨_, rfl⟩
  rw [← hb, ← hu] at hx
  rw [← hb] at hbit
  rw [hx]
  have hwrote := ((((Wrote.refl u).addSat (TWB.CNT2_CLEAR p) 1).wr (TWB.STAT_FENCED p) b).wr (TWB.STAT_SDA_LOW p) b).of_regs
    (u := { (((u.addSat (TWB.CNT2_CLEAR p) 1).wr (TWB.STAT_FENCED p) b).wr (TWB.STAT_SDA_LOW p) b) with events := x }) rfl
  have hrd := fun w => hwrote.rd (w := w) (clearedFlds_nodup p)
  have hcount := hrd _ (.head _)
  rw [min_mod_counter, rd_of_regs hregs] at hcount
  exact ⟨hcount, (hrd _ (.tail _ (.head _))).trans (hbit.trans hb),
    fun f hf => (hwrote.keepsRegs f hf).trans (rd_of_regs hregs f), htwp⟩

/-- A port after a time-out, before the end of its transfer. -/
def State.twTimed (s : State) (p kind : Nat) : State :=
  let s1 := ((s.set1 (if kind = 0 then TWB.STAT_SCL_TMO_STKY p else TWB.STAT_SDA_TMO_STKY p)).addSat (TWB.CNT1_TIMEOUT p) 1).raise
    0x0D01 p [kind]
  if kind = 0 then s1 else (s1.wr (TWB.STAT_SDA_LOW p) 1).twBusClear p

/-- The sticky bit of a time-out. -/
def tmoFld (p kind : Nat) : Fld := if kind = 0 then TWB.STAT_SCL_TMO_STKY p else TWB.STAT_SDA_TMO_STKY p

/-- What a time-out of either kind notes. -/
structure TimedOut (p kind : Nat) (s u : State) : Prop where
  sticky : u.rd (tmoFld p kind) = 1
  count : u.rd (TWB.CNT1_TIMEOUT p) = min (s.rd (TWB.CNT1_TIMEOUT p) + 1) 65535
  keeps : KeepsRegs [tmoFld p kind, TWB.CNT1_TIMEOUT p] s u
  tw : u.tw = s.tw

theorem timeout_noted (s : State) (p kind : Nat) :
    TimedOut p kind s (((s.set1 (tmoFld p kind)).addSat (TWB.CNT1_TIMEOUT p) 1).raise 0x0D01 p [kind]) := by
  obtain ⟨x, hx⟩ := raise_eq ((s.set1 (tmoFld p kind)).addSat (TWB.CNT1_TIMEOUT p) 1) 0x0D01 p [kind]
  have hne : (tmoFld p kind).key ≠ (TWB.CNT1_TIMEOUT p).key := by
    unfold tmoFld
    split <;> simp only [TWB.STAT_SCL_TMO_STKY, TWB.STAT_SDA_TMO_STKY, TWB.CNT1_TIMEOUT, Fld.key] <;> omega
  have hw : (tmoFld p kind).w = 1 := by
    unfold tmoFld
    split <;> rfl
  rw [hx]
  refine ⟨(rd_addSat_ne _ 1 hne).trans (rd_set1 s hw), ?_, keepsRegs_trans (onlyRegs_set1 s _).1 (onlyRegs_addSat _ _ _).1, rfl⟩
  refine (rd_wr_same _ _ _).trans ((min_mod_counter _ 16).trans ?_)
  rw [(onlyRegs_set1 s _).1 _ (by simpa using hne.symm)]
  rfl

theorem twTimed_scl (s : State) (p : Nat) : TimedOut p 0 s (s.twTimed p 0) := timeout_noted s p 0

theorem twBusClear_cleared (s : State) {p : Nat} (hp : 24 ≤ p) : Cleared p (s.twPulses p) s (s.twBusClear p) := by
  have hcleared := twCleared_cleared s.used p (s.twPulses p)
  rw [show s.twBusClear p = s.used.twCleared p (s.twPulses p) from if_neg (by omega)]
  exact ⟨hcleared.count, hcleared.fenced, hcleared.keeps, hcleared.cur⟩

theorem twTimed_sda (s : State) {p : Nat} (hp : 24 ≤ p) : (s.twTimed p 1).rd (TWB.STAT_SDA_TMO_STKY p) = 1 ∧
    (s.twTimed p 1).rd (TWB.CNT1_TIMEOUT p) = min (s.rd (TWB.CNT1_TIMEOUT p) + 1) 65535 ∧
    (s.twTimed p 1).rd (TWB.CNT2_CLEAR p) = min (s.rd (TWB.CNT2_CLEAR p) + 1) 65535 ∧
    ((s.twTimed p 1).twp p).cur = (s.twp p).cur := by
  have hnoted := timeout_noted s p 1
  obtain ⟨u, hu⟩ : ∃ u, u = ((s.set1 (tmoFld p 1)).addSat (TWB.CNT1_TIMEOUT p) 1).raise 0x0D01 p [1] := ⟨_, rfl⟩
  rw [← hu] at hnoted
  have htimed : s.twTimed p 1 = (u.wr (TWB.STAT_SDA_LOW p) 1).twBusClear p := by rw [hu]; rfl
  have hcleared := twBusClear_cleared (u.wr (TWB.STAT_SDA_LOW p) 1) hp
  rw [← htimed] at hcleared
  have hlater : KeepsRegs (clearedFlds p) u (s.twTimed p 1) := fun f hf =>
    (hcleared.keeps f hf).trans (rd_wr_ne _ _ fun h => hf (by simp [clearedFlds, h]))
  refine ⟨(hlater _ ?_).trans hnoted.sticky, (hlater _ ?_).trans hnoted.count, hcleared.count.trans ?_, hcleared.cur.trans ?_⟩
  · simp [clearedFlds, TWB.STAT_SDA_TMO_STKY, TWB.CNT2_CLEAR, TWB.STAT_FENCED, TWB.STAT_SDA_LOW, Fld.key]
    omega
  · simp [clearedFlds, TWB.CNT1_TIMEOUT, TWB.CNT2_CLEAR, TWB.STAT_FENCED, TWB.STAT_SDA_LOW, Fld.key]
    omega
  · rw [rd_wr_ne _ _ (by simp only [TWB.CNT2_CLEAR, TWB.STAT_SDA_LOW, Fld.key]; omega), hnoted.keeps]
    simp [tmoFld, TWB.STAT_SDA_TMO_STKY, TWB.CNT1_TIMEOUT, TWB.CNT2_CLEAR, Fld.key]
    omega
  · show (u.twp p).cur = _
    rw [State.twp, hnoted.tw]
    rfl

/-- A time-out ends the transfer of its port. -/
theorem twTimeout_ends (s : State) {p : Nat} (hp : 24 ≤ p) (kind : Nat) (hcur : ((s.twTimed p kind).twp p).cur = (s.twp p).cur) :
    ((s.twTimeout p kind).twp p).cur = none ∧ KeepsRegs (endFlds p ++ replyFlds) (s.twTimed p kind) (s.twTimeout p kind) ∧
    ((s.twp p).cur.isSome = true → (s.twTimeout p kind).rd (TWB.STAT_LASTERR p) =
      if kind = 0 then 4 else if (s.twTimed p kind).is (TWB.STAT_FENCED p) then 9 else 5) := by
  cases hx : (s.twp p).cur with
  | none =>
    have htimeout : s.twTimeout p kind = s.twTimed p kind := by
      unfold State.twTimeout
      rw [hx]
      rfl
    rw [htimeout]
    exact ⟨hcur.trans hx, fun _ _ => rfl, by simp⟩
  | some x =>
    have htimeout : s.twTimeout p kind = (s.twTimed p kind).twEnd p x
        (if kind = 0 then 4 else if (s.twTimed p kind).is (TWB.STAT_FENCED p) then 9 else 5) 0 [] := by
      unfold State.twTimeout
      rw [hx]
      rfl
    obtain ⟨hnone, herr, hkeeps⟩ := twEnd_ends (s.twTimed p kind) hp x
      (if kind = 0 then 4 else if (s.twTimed p kind).is (TWB.STAT_FENCED p) then 9 else 5) 0 []
    rw [← htimeout] at hnone herr hkeeps
    refine ⟨hnone, hkeeps, fun _ => herr.trans ?_⟩
    split
    · rfl
    · split <;> rfl

end

/-- Fields of the port that the end of a transfer leaves. -/
theorem twStays_notMem {p : Nat} {f : Fld} (h : f ∈ [TWB.CNT1_TIMEOUT p, TWB.STAT_SCL_TMO_STKY p, TWB.STAT_FENCED p,
    TWB.STAT_SDA_TMO_STKY p, TWB.CNT2_CLEAR p]) : f.key ∉ (endFlds p ++ replyFlds).map Fld.key := by
  simp only [List.mem_cons, List.not_mem_nil, or_false] at h
  simp only [endFlds, outcomeFlds, replyFlds, List.map_append, List.map_cons, List.map_nil, List.mem_append, List.mem_cons,
    List.not_mem_nil, or_false]
  rcases h with rfl | rfl | rfl | rfl | rfl <;>
  · simp only [TWB.CNT1_TIMEOUT, TWB.STAT_SCL_TMO_STKY, TWB.STAT_FENCED, TWB.STAT_SDA_TMO_STKY, TWB.CNT2_CLEAR, TWB.STAT_BUSY,
      TWB.STAT_LASTERR, TWB.CNT0_XFER, TWB.CNT0_NACK, TWB.STAT_NACK_STKY, TWB.CNT1_ARB_LOST, TWB.STAT_ARB_STKY, TWB.CNT2_PEC_ERR,
      CMD.STAT_SMB_BUSY, CMD.CQ_TAIL_TAIL, Fld.key]
    omega

section

variable {τ : Nat} {s : State} {p : Fin 26} {low : TwLow}

/-- How long a line has to be low, in ns. -/
def State.twLowFor (s : State) (p : Nat) (sda : Bool) : Nat :=
  1000000 * max 1 (if sda then s.rd (TWB.CFG_TDLTMO p) else s.rd (TWB.CFG_TLOTMO p))

theorem twTimeout_early (h : p.val < 24 ∨ τ < low.since + s.twLowFor p low.sda) : exec (.twTimeout p low τ) s = .next s :=
  congrArg _ (if_pos h)

variable (hp : 24 ≤ p.val) (hlow : low.since + s.twLowFor p low.sda ≤ τ)
include hp hlow

theorem twTimeout_acts : exec (.twTimeout p low τ) s =
    .next ((if low.sda then s.at τ else (s.at τ).wr (TWB.STAT_SCL_LOW p) 1).twTimeout p (b2n low.sda)) :=
  congrArg _ (if_neg (not_or.mpr ⟨by omega, Nat.not_lt.mpr hlow⟩))

/-- SCL held low (R402). -/
theorem twTimeout_scl (hsda : low.sda = false) : Answers (exec (.twTimeout p low τ) s) fun t =>
    t.rd (TWB.CNT1_TIMEOUT p) = min (s.rd (TWB.CNT1_TIMEOUT p) + 1) 65535 ∧ (t.twp p).cur = none ∧
    t.rd (TWB.STAT_SCL_TMO_STKY p) = 1 ∧ t.rd (TWB.STAT_FENCED p) = s.rd (TWB.STAT_FENCED p) ∧
    ((s.twp p).cur.isSome = true → t.rd (TWB.STAT_LASTERR p) = 4) := by
  have hacts := twTimeout_acts hp hlow
  rw [hsda] at hacts
  have hnoted := twTimed_scl ((s.at τ).wr (TWB.STAT_SCL_LOW p) 1) p
  obtain ⟨hcur, hkeeps, herr⟩ := twTimeout_ends ((s.at τ).wr (TWB.STAT_SCL_LOW p) 1) hp 0 (by rw [State.twp, hnoted.tw]; rfl)
  have hlater {f : Fld} (hf : f ∈ _) := hkeeps f (twStays_notMem hf)
  refine ⟨_, hacts, (hlater (by simp)).trans (hnoted.count.trans ?_), hcur, (hlater (by simp)).trans hnoted.sticky,
    (hlater (by simp)).trans ((hnoted.keeps _ ?_).trans (rd_wr_ne _ _ ?_)), herr⟩
  · rw [rd_wr_ne _ _ (by simp only [TWB.CNT1_TIMEOUT, TWB.STAT_SCL_LOW, Fld.key]; omega)]
    rfl
  · simp [tmoFld, TWB.STAT_FENCED, TWB.STAT_SCL_TMO_STKY, TWB.CNT1_TIMEOUT, Fld.key]
    omega
  · simp only [TWB.STAT_FENCED, TWB.STAT_SCL_LOW, Fld.key]
    omega

/-- SDA held low: the port clears its bus (R402, R403). -/
theorem twTimeout_sda (hsda : low.sda = true) : Answers (exec (.twTimeout p low τ) s) fun t =>
    t.rd (TWB.CNT1_TIMEOUT p) = min (s.rd (TWB.CNT1_TIMEOUT p) + 1) 65535 ∧ (t.twp p).cur = none ∧
    t.rd (TWB.STAT_SDA_TMO_STKY p) = 1 ∧ t.rd (TWB.CNT2_CLEAR p) = min (s.rd (TWB.CNT2_CLEAR p) + 1) 65535 ∧
    ((s.twp p).cur.isSome = true → t.rd (TWB.STAT_LASTERR p) = (if t.rd (TWB.STAT_FENCED p) = 1 then 9 else 5)) := by
  have hacts : exec (.twTimeout p low τ) s = .next ((s.at τ).twTimeout p 1) := by
    have hrow := twTimeout_acts hp hlow
    rw [hsda] at hrow
    exact hrow
  obtain ⟨hsticky, hcount, hclear, htw⟩ := twTimed_sda (s.at τ) hp
  obtain ⟨hcur, hkeeps, herr⟩ := twTimeout_ends (s.at τ) hp 1 htw
  have hlater {f : Fld} (hf : f ∈ _) := hkeeps f (twStays_notMem hf)
  refine ⟨_, hacts, (hlater (by simp)).trans hcount, hcur, (hlater (by simp)).trans hsticky, (hlater (by simp)).trans hclear,
    fun hsome => (herr hsome).trans ?_⟩
  rw [hlater (f := TWB.STAT_FENCED p) (by simp)]
  simp [State.is]

end

section

variable {pkt : Cmd} {τ : Nat} {s : State} {p : Nat}
  (htakes : s.Takes (cmdPkt pkt 0x0902 τ) [0]) (hport : (cmdPkt pkt 0x0902 τ).arg 0 = p)
include htakes hport

theorem twClear_badPort (hp : 25 < p) : RepliesOnly (exec (.twClear pkt τ) s) s τ (cmdPkt pkt 0x0902 τ) (.err 0x0201 0) := by
  subst hport
  exact congrArg _ (svcCommand_replies htakes (if_pos hp))

theorem twClear_unavailable (hp : p < 24) (hbc : s.bcAvailable p = false) :
    RepliesOnly (exec (.twClear pkt τ) s) s τ (cmdPkt pkt 0x0902 τ) (.err 0x0A02 p) := by
  subst hport
  exact congrArg _ (svcCommand_replies htakes ((if_neg (by omega)).trans ((if_pos hp).trans (if_neg fun h => by
    exact absurd (h.symm.trans hbc) (by decide)))))

theorem twClear_sends (hp : p < 24) (hbc : s.bcAvailable p = true) : Answers (exec (.twClear pkt τ) s) fun t =>
    t.cmd.running = s.cmd.running ++ [cmdPkt pkt 0x0902 τ] ∧ (t.twp p).clearCmd = some (cmdPkt pkt 0x0902 τ) := by
  subst hport
  refine ⟨_, congrArg Host.Outcome.next (svcCommand_keeps htakes ((if_neg (by omega)).trans ((if_pos hp).trans (if_pos hbc)))), ?_⟩
  obtain ⟨u, hu⟩ : ∃ u, u = (s.at τ).setTwp ((cmdPkt pkt 0x0902 τ).arg 0)
    { (s.at τ).twp ((cmdPkt pkt 0x0902 τ).arg 0) with clearCmd := some (cmdPkt pkt 0x0902 τ) } := ⟨_, rfl⟩
  have hclear : (u.twp ((cmdPkt pkt 0x0902 τ).arg 0)).clearCmd = some (cmdPkt pkt 0x0902 τ) := by rw [hu, twp_setTwp]
  have hcmd : u.cmd = s.cmd := by rw [hu]; rfl
  obtain ⟨ls, hls⟩ := bcSend_links u ((cmdPkt pkt 0x0902 τ).arg 0) { tw := true, op := 3, who := .clear }
  have hsent : _ = { u with links := ls } :=
    (congrArg (fun v : State => v.bcSend _ { tw := true, op := 3, who := .clear }) hu.symm).trans hls
  refine (congrArg (fun v : State => (v.cmdKeep _).cmd.running = _ ∧ ((v.cmdKeep _).twp _).clearCmd = _) hsent).mpr ⟨?_, hclear⟩
  rw [← hcmd]
  rfl

theorem twClear_clears (hp : 24 ≤ p) (hp' : p ≤ 25) : ∃ u : State,
    u.rd (TWB.CNT2_CLEAR p) = min (s.rd (TWB.CNT2_CLEAR p) + 1) 65535 ∧
    (s.is (TWB.STAT_SDA_LOW p) = false → (s.twp p).injStuck = false → u.rd (TWB.STAT_FENCED p) = 0) ∧
    ((s.twp p).injStuck = true → u.rd (TWB.STAT_FENCED p) = 1) ∧
    exec (.twClear pkt τ) s = .next (u.cmdReply (cmdPkt pkt 0x0902 τ) (if u.is (TWB.STAT_FENCED p) then .err 0x0A03 9 else .ok [])) := by
  subst hport
  have hcleared := twBusClear_cleared (s.at τ) hp
  refine ⟨_, hcleared.count, fun hsda hstuck => hcleared.fenced.trans (if_neg ?_), fun hstuck => hcleared.fenced.trans (if_pos ?_),
    congrArg _ (svcCommand_replies htakes ((if_neg (by omega)).trans (if_neg (by omega))))⟩
  · have hpulses : (s.at τ).twPulses ((cmdPkt pkt 0x0902 τ).arg 0) = 0 :=
      (if_neg fun h : (s.twp _).injStuck = true => by rw [hstuck] at h; exact absurd h (by decide)).trans
        (if_neg fun h : s.is _ = true => by rw [hsda] at h; exact absurd h (by decide))
    omega
  · have hpulses : (s.at τ).twPulses ((cmdPkt pkt 0x0902 τ).arg 0) = 10 := if_pos hstuck
    omega

end

end

/-! ### The target port STP (R405 to R410) -/

section

variable {τ : Nat} {s : State}

theorem stpOff (hoff : s.stpOn τ = false) (d : List Byte) (q : Option Byte) (since : Nat) :
    ∀ i ∈ [Instr.smbusIdent τ, .smbusStatus τ, .smbusSubmit d q τ, .smbusReply τ, .stpAbandon τ, .stpSclTimeout since τ],
      exec i s = .next s := by
  have hne : ¬(s.stpOn τ = true) := by simp [hoff]
  simp only [List.forall_mem_cons, List.not_mem_nil, false_implies, implies_true, and_true]
  exact ⟨congrArg _ (if_neg hne), congrArg _ (if_neg hne), congrArg _ (if_pos (.inl hoff)), congrArg _ (if_pos (.inl hoff)),
    congrArg _ (if_neg hne), congrArg _ (if_neg fun h => hne h.1)⟩

/-- What a read of STP leaves on the bus, and nothing else changes. -/
def StpReads (s : State) (code : Nat) (d : List Nat) (t : State) : Prop :=
  t.busRead = leNat (d.length :: d ++
    [crc8 ([2 * s.rd TWBG.STP_STAT_ADDR, code, 2 * s.rd TWBG.STP_STAT_ADDR + 1] ++ d.length :: d)]) ∧
  { t with now := s.now, busRead := s.busRead, freeCount := s.freeCount } = s

theorem stpRead_reads (s : State) (τ code : Nat) (d : List Nat) : StpReads s code d ((s.at τ).stpRead code d) := ⟨rfl, rfl⟩

section

variable (hon : s.stpOn τ = true)
include hon

theorem smbusIdent_reads : Answers (exec (.smbusIdent τ) s) (StpReads s 0x01 (leBytes 4 (s.rd SYS.ID) ++
    [s.rd SYS.STEPPING_DIGIT, s.rd SYS.STEPPING_LETTER] ++ leBytes 2 (s.rd SYS.MODID_ID) ++ leBytes 4 (s.rd CMD.FWVER_WDN_VERSION) ++
    leBytes 4 (s.rd CMD.FWVER_SVC_VERSION))) :=
  ⟨_, congrArg Host.Outcome.next (if_pos hon), stpRead_reads s τ _ _⟩

theorem smbusStatus_reads : Answers (exec (.smbusStatus τ) s) (StpReads s 0x02 [s.stpState, s.rd CMD.STAT_SVC, s.rd TIM.STAT_STATE,
    s.rd THM.STAT_BAND, s.rd CMD.STAT_ARMED + 2 * s.rd CMD.STAT_SEALED_WR + 4 * s.rd CMD.STAT_RINGERR + 16 * s.rd CMD.STAT_DEBUG,
    0, 0, 0]) :=
  ⟨_, congrArg Host.Outcome.next (if_pos hon), stpRead_reads s τ _ _⟩

theorem stpAbandon_counts : Answers (exec (.stpAbandon τ) s) fun t =>
    t.rd TWBG.STP_CNT_ABANDONED = min (s.rd TWBG.STP_CNT_ABANDONED + 1) 65535 ∧ t.rd TWBG.STP_STAT_ABANDON_STKY = 1 ∧
    t.rd TWBG.STP_STAT_BUSY = 0 ∧
    OnlyRegs [TWBG.STP_CNT_ABANDONED, TWBG.STP_STAT_ABANDON_STKY, TWBG.STP_STAT_BUSY] s { t with events := s.events } := by
  obtain ⟨u, hu⟩ : ∃ u, u = (s.at τ).addSat TWBG.STP_CNT_ABANDONED 1 := ⟨_, rfl⟩
  have hcount : u.rd TWBG.STP_CNT_ABANDONED = min (s.rd TWBG.STP_CNT_ABANDONED + 1) 65535 := by
    rw [hu]
    exact (rd_wr_same _ _ _).trans (min_mod_counter _ 16)
  have honly : OnlyRegs [TWBG.STP_CNT_ABANDONED] s u := by
    rw [hu]
    exact onlyRegs_addSat s _ 1
  obtain ⟨x, hx⟩ := raise_eq ((u.set1 TWBG.STP_STAT_ABANDON_STKY).wr TWBG.STP_STAT_BUSY 0) 0x0D06 26 []
  refine ⟨{ (u.set1 TWBG.STP_STAT_ABANDON_STKY).wr TWBG.STP_STAT_BUSY 0 with events := x }, ?_, ?_, ?_, ?_, ?_⟩
  · rw [← hx, hu]
    exact congrArg _ (if_pos hon)
  · exact ((rd_wr_ne _ _ (by decide)).trans ((onlyRegs_set1 u _).1 _ (by decide))).trans hcount
  · exact (rd_wr_ne (u.set1 TWBG.STP_STAT_ABANDON_STKY) _ (by decide)).trans (rd_set1 u rfl)
  · exact rd_wr_same _ _ _
  · have hall := onlyRegs_trans (onlyRegs_trans honly (onlyRegs_set1 u TWBG.STP_STAT_ABANDON_STKY)) (onlyRegs_wr _ TWBG.STP_STAT_BUSY 0)
    exact OnlyRegsEvents.with_events hall x

theorem stpSclTimeout_ends {since : Nat} (h : since + 1000000 * max 1 (s.rd TWBG.STP_CFG_TLOTMO) ≤ τ) :
    Answers (exec (.stpSclTimeout since τ) s) fun t => t.rd TWBG.STP_STAT_BUSY = 0 ∧ OnlyRegs [TWBG.STP_STAT_BUSY] s t :=
  ⟨_, congrArg Host.Outcome.next (if_pos ⟨hon, h⟩), rd_wr_same _ _ _, onlyRegs_wr s _ _⟩

section

variable (hboot : s.rd SYS.BOOT_FAIL = 0)
include hboot

theorem smbusReply_on : ¬(s.stpOn τ = false ∨ s.rd SYS.BOOT_FAIL ≠ 0) := by simp [hon, hboot]

theorem smbusReply_busy (hbusy : s.is CMD.STAT_SMB_BUSY = true) : Answers (exec (.smbusReply τ) s) (StpReads s 0x11
    ((Reply.err 0x0902 0).bytes { op := s.cmd.smbOp, cid := s.cmd.smbCid, idx := 0xFFFF } 0)) :=
  ⟨_, congrArg Host.Outcome.next ((if_neg (smbusReply_on hon hboot)).trans (if_pos hbusy)), stpRead_reads s τ _ _⟩

theorem smbusReply_reads {b : List Nat} (hbusy : s.is CMD.STAT_SMB_BUSY = false) (hreply : s.cmd.smbReply = some b) :
    Answers (exec (.smbusReply τ) s) (StpReads s 0x11 b) := by
  refine ⟨(s.at τ).stpRead 0x11 b, ?_, stpRead_reads s τ _ _⟩
  show execSmbusReply τ s = _
  unfold execSmbusReply
  rw [hreply, hbusy]
  exact congrArg Host.Outcome.next (if_neg (smbusReply_on hon hboot))

section

variable {data : List Byte} {q : Option Byte} (hlen : data.length = 64)
include hlen

/-- The packet error code that a command of 64 bytes has to carry. -/
def State.stpPec (s : State) (data : List Byte) : Nat := crc8 ([2 * s.rd TWBG.STP_STAT_ADDR, 0x10, 64] ++ data.map BitVec.toNat)

theorem smbusSubmit_on : ¬(s.stpOn τ = false ∨ s.rd SYS.BOOT_FAIL ≠ 0 ∨ (data.map BitVec.toNat).length ≠ 64) := by
  simp [hon, hboot, hlen]

theorem smbusSubmit_wrongPec {b : Byte} (hb : b.toNat ≠ s.stpPec data) : Answers (exec (.smbusSubmit data (some b) τ) s) fun t =>
    t.rd TWBG.STP_CNT_PEC_ERR = min (s.rd TWBG.STP_CNT_PEC_ERR + 1) 65535 ∧ t.rd TWBG.STP_STAT_PEC_STKY = 1 ∧
    OnlyRegs [TWBG.STP_CNT_PEC_ERR, TWBG.STP_STAT_PEC_STKY] s { t with events := s.events } := by
  have hwrong : ((some b).elim false fun p => p.toNat != crc8 ([2 * s.rd TWBG.STP_STAT_ADDR, 0x10, (data.map BitVec.toNat).length] ++
      data.map BitVec.toNat)) = true := by
    rw [List.length_map, hlen]
    simpa [State.stpPec] using hb
  obtain ⟨u, hu⟩ : ∃ u, u = (s.at τ).addSat TWBG.STP_CNT_PEC_ERR 1 := ⟨_, rfl⟩
  have hcount : u.rd TWBG.STP_CNT_PEC_ERR = min (s.rd TWBG.STP_CNT_PEC_ERR + 1) 65535 := by
    rw [hu]
    exact (rd_wr_same _ _ _).trans (min_mod_counter _ 16)
  have honly : OnlyRegs [TWBG.STP_CNT_PEC_ERR] s u := by
    rw [hu]
    exact onlyRegs_addSat s _ 1
  obtain ⟨x, hx⟩ := raise_eq (u.set1 TWBG.STP_STAT_PEC_STKY) 0x0D05 26 (leBytes 4 0x10)
  refine ⟨{ u.set1 TWBG.STP_STAT_PEC_STKY with events := x }, ?_, ?_, rd_set1 u rfl,
    OnlyRegsEvents.with_events (onlyRegs_trans honly (onlyRegs_set1 u _)) x⟩
  · rw [← hx, hu]
    exact congrArg _ ((if_neg (smbusSubmit_on hon hboot hlen)).trans (if_pos hwrong))
  · exact ((onlyRegs_set1 u _).1 _ (by decide)).trans hcount

section

variable (hgood : ∀ b, q = some b → b.toNat = s.stpPec data)
include hgood

omit hon hboot in
theorem smbusSubmit_rightPec : ¬((q.elim false fun p => p.toNat != crc8 ([2 * s.rd TWBG.STP_STAT_ADDR, 0x10,
    (data.map BitVec.toNat).length] ++ data.map BitVec.toNat)) = true) := by
  rw [List.length_map, hlen]
  cases q with
  | none => simp
  | some b => simpa [State.stpPec] using hgood b rfl

theorem smbusSubmit_pecRequired (hq : q = none) (hreq : s.is TWBG.STP_CFG_PEC_REQ = true) : exec (.smbusSubmit data q τ) s = .next s :=
  congrArg _ ((if_neg (smbusSubmit_on hon hboot hlen)).trans ((if_neg (smbusSubmit_rightPec hlen hgood)).trans
    (if_pos ⟨hq, hreq⟩)))

variable (hreq : q = none → s.is TWBG.STP_CFG_PEC_REQ = false)
include hreq

omit hon hboot hlen hgood in
theorem smbusSubmit_checked : ¬(q = none ∧ s.is TWBG.STP_CFG_PEC_REQ = true) := fun h => by
  simp [hreq h.1] at h

theorem smbusSubmit_busy (hbusy : s.is CMD.STAT_SMB_BUSY = true) : exec (.smbusSubmit data q τ) s = .next s :=
  congrArg _ ((if_neg (smbusSubmit_on hon hboot hlen)).trans ((if_neg (smbusSubmit_rightPec hlen hgood)).trans
    ((if_neg (smbusSubmit_checked hreq)).trans (if_pos hbusy))))

theorem smbusSubmit_keeps (hbusy : s.is CMD.STAT_SMB_BUSY = false) : Answers (exec (.smbusSubmit data q τ) s) fun t => ∃ c : CmdPkt,
    t.cmd = { s.cmd with smbWait := some c, smbCid := c.cid, smbOp := c.op, smbReply := none } ∧ c.idx = 0xFFFF ∧
    c.op = leNat ((data.map BitVec.toNat).take 2) ∧ c.cid = leNat (((data.map BitVec.toNat).drop 2).take 2) ∧
    c.arg 0 = leNat (((data.map BitVec.toNat).drop 8).take 4) ∧
    t.rd CMD.STAT_SMB_BUSY = 1 ∧ OnlyRegs [CMD.STAT_SMB_BUSY] s { t with cmd := s.cmd } :=
  ⟨_, congrArg Host.Outcome.next ((if_neg (smbusSubmit_on hon hboot hlen)).trans
      ((if_neg (smbusSubmit_rightPec hlen hgood)).trans ((if_neg (smbusSubmit_checked hreq)).trans
        (if_neg (by simp [hbusy]))))), _, rfl, rfl, rfl, rfl, rfl, rd_wr_same _ _ _, onlyRegs_wr s _ _⟩

end
end
end

end

/-- Traffic on STP wakes a module in SMOULDER (R410). -/
theorem stpWake_wakes (hst : s.pwr.st = .smoulder) (hvio : s.is SYS.PWR_STAT_VIO_OK = true) (hwoke : s.pwr.stpWoke = false) :
    Answers (exec (.stpWake τ) s) fun t =>
      t.pwr.wake.isSome = true ∧ (s.pwr.wake = none → t.pwr.wake = some 2) ∧ t.pwr.stpWoke = true ∧ t.pwr.stpAt = some τ ∧
      t.rd TWBG.STP_STAT_WAKE_STKY = 1 ∧ OnlyRegs [TWBG.STP_STAT_WAKE_STKY] s { t with pwr := s.pwr } := by
  have hset := onlyRegs_set1 ((s.at τ).wakePend 2) TWBG.STP_STAT_WAKE_STKY
  refine ⟨_, congrArg Host.Outcome.next (if_pos ⟨hst, hvio, hwoke⟩), ?_, fun h => ?_, rfl, rfl,
    rd_set1 ((s.at τ).wakePend 2) rfl, hset.1, rfl⟩
  · show (s.pwr.wake.or (some 2)).isSome = true
    simp
  · show s.pwr.wake.or (some 2) = some 2
    rw [h]
    rfl

end

/-- Settles O58: a transfer walks the tests of its command in the order of the table; its end writes its outcome, then replies; STP's
rows each meet one of their guards. -/
theorem twoWirePortsAndTheTargetPort : Obligations.TwoWirePortsAndTheTargetPort := by
  unfold Obligations.TwoWirePortsAndTheTargetPort
  intro τ s
  refine ⟨?_, fun p how rx h => twXferDone_idle h, ?_, ?_, ?_, fun hoff d q since => stpOff hoff d q since, ?_, stpWake_wakes⟩
  · intro pkt k row hrow c p wn rn htakes hflags
    have hasks : TwAsks c p wn rn := ⟨hflags, rfl, rfl, rfl⟩
    have hexec := twRow_exec hrow (s := s)
    refine ⟨fun hp => hexec.trans (congrArg _ (twCommand_replies htakes (cmdTwXfer_badPort hasks hp))),
      fun i hp hk => hexec.trans (congrArg _ (twCommand_replies htakes (cmdTwXfer_badKind hasks hp hk))),
      fun hp hk hf => ⟨_, hexec.trans (congrArg _ (twCommand_replies htakes (cmdTwXfer_fenced hasks hp hk hf))),
        twCounted_lastErr (s.at τ) p 8, twCounted_transfers (s.at τ) p 8, onlyRegs_from_at (twCounted_only (s.at τ) p 8)⟩,
      fun hp hk hf hbc => hexec.trans (congrArg _ (twCommand_replies htakes
        (cmdTwXfer_unavailable hasks (by omega) hk hf hp hbc))),
      fun hp hk hf hbc hcur => hexec.trans (congrArg _ (twCommand_replies htakes (cmdTwXfer_busy hasks hp hk hf hbc hcur))), ?_⟩
    intro hp hk hf hbc hcur hnack hscl
    obtain ⟨ls, hls⟩ := twBegin_taken (s := (s.at τ).cmdKeep c) (p := p) (x := twAsked c k (s.at τ).now wn rn) hnack hscl
    refine ⟨_, hexec.trans (congrArg _ ((twCommand_runs htakes (cmdTwXfer_begins hasks hp hk hf hbc hcur)).trans hls)), _,
      congrArg TwPort.cur (twp_setTwp _ _ _), rfl, rfl, rfl, rfl, rfl, rd_wr_same _ _ _, rfl, ?_⟩
    exact ⟨keepsRegs_wr s _ _, rfl⟩
  · intro p x hp hcur hx ends
    exact ⟨fun how rx hdue => twXferDone_early hp hcur hdue, fun rx hdue => twXferDone_ends hp hcur hx hdue rfl,
      fun second rx hdue => twXferDone_ends hp hcur hx hdue rfl, fun i rx hdue => twXferDone_ends hp hcur hx hdue rfl,
      fun i rx hdue => twXferDone_ends hp hcur hx hdue rfl⟩
  · intro p low sda tmo
    refine ⟨twTimeout_early, fun hp hlow => ?_⟩
    cases hsda : low.sda with
    | false =>
      obtain ⟨t, ht, hcount, hcur, hrest⟩ := twTimeout_scl hp hlow hsda
      exact ⟨t, ht, hcount, hcur, fun _ => hrest, fun h => absurd (hsda.symm.trans h) (by decide)⟩
    | true =>
      obtain ⟨t, ht, hcount, hcur, hrest⟩ := twTimeout_sda hp hlow hsda
      exact ⟨t, ht, hcount, hcur, fun h => absurd (hsda.symm.trans h) (by decide), fun _ => hrest⟩
  · intro pkt c p htakes
    exact ⟨twClear_badPort htakes rfl, twClear_unavailable htakes rfl, twClear_sends htakes rfl, twClear_clears htakes rfl⟩
  · intro hon a reads
    refine ⟨smbusIdent_reads hon, smbusStatus_reads hon, stpAbandon_counts hon, fun since => stpSclTimeout_ends hon, fun hboot =>
      ⟨smbusReply_busy hon hboot, fun b => smbusReply_reads hon hboot, fun data q hlen => ⟨fun b hq hb => ?_, fun hgood =>
        ⟨smbusSubmit_pecRequired hon hboot hlen hgood, smbusSubmit_busy hon hboot hlen hgood,
          smbusSubmit_keeps hon hboot hlen hgood⟩⟩⟩⟩
    subst hq
    exact smbusSubmit_wrongPec hon hboot hlen hb

end Sys2Proof.Machine

end

section

/-! SUPPORT. What the rows, the frame record and the statistics of a slot leave alone once its lines have been taken (R145 to R168). -/

namespace Sys2Proof.Machine

/-! ### What the run of a slot changes -/

/-- A frame without the parts that its output advances. -/
def Frm.core (m : Frm) : Frm :=
  { m with drops := [], rgn := [], done := [], chkAt := [], statOk := false, embOut := [], endAt := none }

/-- One frame of `x` as the run of its slot leaves it. -/
structure FrmStep (x : Ctx) (m m' : Frm) : Prop where
  core : m'.core = m.core
  done : ∀ r ∈ m.done, r ∈ m'.done
  rgn : m'.rgn = m.rgn ∨ ∃ r z, x.frames.find? (fun y => y.serial == m.serial) = some z ∧
    m'.rgn = AMap.set m.rgn r (AMap.get 0 z.rgn r + 1)

theorem FrmStep.refl (x : Ctx) (m : Frm) : FrmStep x m m := ⟨rfl, fun _ h => h, .inl rfl⟩

theorem FrmStep.serial {x : Ctx} {m m' : Frm} (h : FrmStep x m m') : m'.serial = m.serial := (congrArg Frm.serial h.core :)

/-- A slot whose frames advance. -/
def CtxStep (x y : Ctx) : Prop :=
  { y with frames := x.frames, rows := x.rows, ring := x.ring } = x ∧
  ∃ g : Frm → Frm, y.frames = x.frames.map g ∧ ∀ m ∈ x.frames, FrmStep x m (g m)

theorem CtxStep.of_frames {x y : Ctx} (h : { y with rows := x.rows, ring := x.ring } = x) : CtxStep x y := by
  have hframes : y.frames = x.frames := (congrArg Ctx.frames h :)
  refine ⟨(congrArg (fun z : Ctx => { z with frames := x.frames }) h :), id, ?_, fun m _ => .refl x m⟩
  rw [hframes, List.map_id]

/-- A property that the rows and records of slot `c` keep. -/
structure RunKeeps (c : Nat) (P : State → Prop) : Prop where
  aside : ∀ s t, Aside s t → P s → P t
  flueFull : ∀ (s : State) v, P s → P (s.wr (CTX.CNT3_FLUE_FULL c) v)
  ctx : ∀ (s : State) x, CtxStep (s.ctx c) x → P s → P (s.setCtx c x)

/-- A property that the whole run of slot `c` keeps. -/
structure FedKeeps (c : Nat) (P : State → Prop) : Prop extends RunKeeps c P where
  sweep : ∀ s : State, P s → P (s.ctxSweep c)
  fillQ : ∀ (s : State) q, P s → P (s.setCtx (c / 2 * 2) { s.ctx (c / 2 * 2) with fillQ := q })

section

variable {c : Nat} {P : State → Prop} (hP : RunKeeps c P) {s : State}
include hP

theorem RunKeeps.updFrm {serial : Nat} {g : Frm → Frm} (hg : ∀ m ∈ (s.ctx c).frames, m.serial = serial → FrmStep (s.ctx c) m (g m))
    (h : P s) : P (s.updFrm c serial g) := by
  refine hP.ctx s _ ⟨rfl, _, rfl, fun m hm => ?_⟩ h
  split
  next hserial => exact hg m hm hserial
  · exact .refl _ m

theorem RunKeeps.raiseBy {j : List Nat → List Nat → List Nat × List Nat} {code i τ : Nat} {v : List Nat} (h : P s) :
    P (s.raiseBy j code i τ v) := hP.aside s _ ((Aside.refl s).raiseBy ..) h

theorem RunKeeps.flueItem {gen i : Nat} {bs : List Nat} (h : P s) : P (s.flueItem gen i bs) :=
  hP.aside s _ ((Aside.refl s).flueItem ..) h

theorem RunKeeps.rgnDrop {r : Nat} {m : Frm} (h : P s) : P (s.rgnDrop c r m) :=
  hP.raiseBy (hP.flueFull _ _ (hP.updFrm (fun _ _ _ => ⟨rfl, fun _ h => h, .inl rfl⟩) h))

theorem RunKeeps.rgnPut {r : Nat} {m : Frm} {blocked : Bool} {bs : List Nat} (h : P s) : P (s.rgnPut c r m blocked bs) := by
  unfold State.rgnPut
  split
  · exact h
  · split_ifs
    · exact h
    · exact hP.rgnDrop h
    · exact hP.flueItem h

omit hP in
theorem rgnChk_lt {f : Conf} {c r n : Nat} (h : rgnChk f c r = some n) : n < 16 := by
  unfold rgnChk at h
  split at h
  next hlt =>
    obtain rfl := Option.some.inj h
    exact hlt.2
  · exact absurd h (by simp)

omit hP in
theorem rgnCheck_aside (s : State) (m : Frm) (c r row : Nat) (bs : List Nat) : Aside s (s.rgnCheck m c r row bs) := by
  unfold State.rgnCheck
  split
  · exact .refl s
  next n hn =>
    have hlt := rgnChk_lt hn
    dsimp only
    split
    · exact ((((Aside.refl s).setChk n _).chkLatch hlt).chkLoad hlt).chkAbsorb hlt bs
    · exact (Aside.refl s).chkAbsorb hlt bs

theorem RunKeeps.rgnCheck {m : Frm} {r row : Nat} {bs : List Nat} (h : P s) : P (s.rgnCheck m c r row bs) :=
  hP.aside s _ (rgnCheck_aside s m c r row bs) h

theorem RunKeeps.flkRow {m : Frm} {i : Nat} {px : List (Option Nat)} (h : P s) : P (s.flkRow c m i px) := by
  unfold State.flkRow
  extract_lets f
  split
  · exact h
  · split
    split
    extract_lets vs
    split
    · exact h
    · exact hP.ctx s _ (.of_frames rfl) h

end

/-- The frames of slot `c` as before but for parts other than their rows. -/
def RgnKept (c : Nat) (s t : State) : Prop :=
  ∃ g : Frm → Frm, (t.ctx c).frames = (s.ctx c).frames.map g ∧ ∀ m, (g m).serial = m.serial ∧ (g m).rgn = m.rgn

theorem RgnKept.of_frames {c : Nat} {s t : State} (h : (t.ctx c).frames = (s.ctx c).frames) : RgnKept c s t :=
  ⟨id, by rw [h, List.map_id], fun _ => ⟨rfl, rfl⟩⟩

theorem RgnKept.trans {c : Nat} {s t u : State} (h : RgnKept c s t) (h' : RgnKept c t u) : RgnKept c s u := by
  obtain ⟨g, hg, hkept⟩ := h
  obtain ⟨g', hg', hkept'⟩ := h'
  refine ⟨g' ∘ g, by rw [hg', hg, List.map_map], fun m => ?_⟩
  exact ⟨(hkept' (g m)).1.trans (hkept m).1, (hkept' (g m)).2.trans (hkept m).2⟩

theorem Aside.ctx {s t : State} (h : Aside s t) (c : Nat) : t.ctx c = s.ctx c := by
  have hctxs : t.ctxs = s.ctxs := (congrArg State.ctxs h.rest :)
  rw [State.ctx, hctxs]
  rfl

theorem ctx_setCtx (s : State) (c : Nat) (x : Ctx) : (s.setCtx c x).ctx c = x := amap_get_set_same ..

theorem ctx_setCtx_ne (s : State) {c k : Nat} (x : Ctx) (h : k ≠ c) : (s.setCtx c x).ctx k = s.ctx k := amap_get_set_ne _ _ _ h

section

variable (s : State) (c : Nat)

theorem updFrm_rgnKept (serial : Nat) {g : Frm → Frm} (hg : ∀ m, (g m).serial = m.serial ∧ (g m).rgn = m.rgn) :
    RgnKept c s (s.updFrm c serial g) := by
  refine ⟨_, congrArg Ctx.frames (ctx_setCtx s c _), fun m => ?_⟩
  split
  · exact hg m
  · exact ⟨rfl, rfl⟩

theorem rgnPut_rgnKept (r : Nat) (m : Frm) (blocked : Bool) (bs : List Nat) : RgnKept c s (s.rgnPut c r m blocked bs) := by
  unfold State.rgnPut
  split
  · exact .of_frames rfl
  · split_ifs
    · exact .of_frames rfl
    · refine (updFrm_rgnKept s c m.serial (g := fun z => { z with drops := AMap.set z.drops r (AMap.get 0 z.drops r + 1) })
        fun _ => ⟨rfl, rfl⟩).trans (.of_frames ?_)
      exact congrArg Ctx.frames (Aside.ctx ((Aside.refl _).raiseBy ..) c)
    · exact .of_frames (congrArg Ctx.frames (Aside.ctx ((Aside.refl s).flueItem ..) c))

theorem flkRow_rgnKept (m : Frm) (i : Nat) (px : List (Option Nat)) : RgnKept c s (s.flkRow c m i px) := by
  unfold State.flkRow
  extract_lets f
  split
  · exact .of_frames rfl
  · split
    split
    extract_lets vs
    split
    · exact .of_frames rfl
    · exact .of_frames (by rw [ctx_setCtx])

end

section

variable {c : Nat} {P : State → Prop} (hP : RunKeeps c P) {s : State}
include hP

theorem RunKeeps.rgnRow {r : Nat} {m : Frm} {blocked : Bool} {st : LineSt}
    (hm : (s.ctx c).frames.find? (fun y => y.serial == m.serial) = some m) (h : P s) : P (s.rgnRow c r m blocked st) := by
  unfold State.rgnRow
  extract_lets i px bytes s1 s2 s3 s4
  have hs2 : P s2 := hP.rgnPut (hP.rgnCheck h)
  have hk2 : RgnKept c s s2 :=
    (RgnKept.of_frames (congrArg Ctx.frames ((rgnCheck_aside s m c r i bytes).ctx c))).trans (rgnPut_rgnKept s1 c r m blocked _)
  have hs3 : P s3 ∧ RgnKept c s s3 := by
    unfold s3
    split
    · exact ⟨hP.flkRow hs2, hk2.trans (flkRow_rgnKept s2 c m i px)⟩
    · exact ⟨hs2, hk2⟩
  obtain ⟨hs3, g, hg, hkept⟩ := hs3
  have hs4 : P s4 := by
    refine hP.updFrm (fun y _ hy => ⟨rfl, fun _ h => h, .inr ⟨r, g m, ?_, ?_⟩⟩) hs3
    · rw [hg, List.find?_map]
      have hpred : ((fun x : Frm => x.serial == y.serial) ∘ g) = fun x => x.serial == m.serial := by
        funext x
        simp [(hkept x).1, hy]
      rw [hpred, hm]
      rfl
    · rw [(hkept m).2]
  clear_value s4
  split
  · split
    next n hn =>
      exact hP.updFrm (fun _ _ _ => ⟨rfl, fun _ h => h, .inl rfl⟩) (hP.aside _ _ ((Aside.refl _).chkLatch (rgnChk_lt hn)) hs4)
    · exact hs4
  · exact hs4

omit hP in
theorem RunKeeps.foldl {α : Type} {f : State → α → State} (hf : ∀ s a, P s → P (f s a)) (l : List α) (h : P s) : P (l.foldl f s) :=
  List.foldlRecOn l f h fun s hs a _ => hf s a hs

theorem RunKeeps.rgnEmbed {m : Frm} (h : P s) : P (s.rgnEmbed c m) := by
  unfold State.rgnEmbed
  split
  · exact h
  · exact hP.updFrm (fun _ _ _ => ⟨rfl, fun _ h => h, .inl rfl⟩) (RunKeeps.foldl (fun _ _ hs => hP.rgnPut hs) _ h)

theorem RunKeeps.rgnRecord {r : Nat} {m : Frm} (h : P s) : P (s.rgnRecord c r m) := by
  have hfin : ∀ u : State, P u → P (u.updFrm c m.serial fun m => { m with done := m.done ++ [r] }) := fun u hu =>
    hP.updFrm (fun _ _ _ => ⟨rfl, fun _ h => List.mem_append_left _ h, .inl rfl⟩) hu
  unfold State.rgnRecord
  split
  · exact h
  · extract_lets s1 m1 fin
    have hs1 : P s1 := by
      unfold s1
      split
      · exact hP.rgnEmbed h
      · exact h
    split
    · exact hfin _ hs1
    · split_ifs
      · exact hfin _ hs1
      · exact hP.flueItem (hfin _ hs1)
      · exact hs1

end

/-- Every serial number of the list names a frame of the slot. -/
def Named (c : Nat) (ks : List Nat) (s : State) : Prop :=
  ∀ k ∈ ks, ∃ z, (s.ctx c).frames.find? (fun y => y.serial == k) = some z

theorem find_serial {l : List Frm} {k : Nat} {z : Frm} (h : l.find? (fun y => y.serial == k) = some z) : z.serial = k := by
  simpa using List.find?_some h

theorem find_map_serial {l : List Frm} {g : Frm → Frm} (hg : ∀ m ∈ l, (g m).serial = m.serial) (k : Nat) :
    (l.map g).find? (fun y => y.serial == k) = (l.find? (fun y => y.serial == k)).map g := by
  induction l with
  | nil => rfl
  | cons m l ih =>
    have htail := ih fun x hx => hg x (.tail _ hx)
    simp only [List.map_cons, List.find?_cons, hg m (.head _)]
    split
    · rfl
    · exact htail

theorem named_keeps (c : Nat) (ks : List Nat) : RunKeeps c (Named c ks) where
  aside s t h hs k hk := by
    rw [h.ctx]
    exact hs k hk
  flueFull s v hs := hs
  ctx s x h hs k hk := by
    obtain ⟨-, g, hg, hstep⟩ := h
    obtain ⟨z, hz⟩ := hs k hk
    exact ⟨g z, by rw [ctx_setCtx, hg, find_map_serial fun m hm => (hstep m hm).serial, hz]; rfl⟩

theorem named_all (s : State) (c : Nat) : Named c ((s.ctx c).frames.map (·.serial)) s := fun k hk => by
  obtain ⟨m, hm, rfl⟩ := List.mem_map.mp hk
  exact Option.isSome_iff_exists.mp (List.find?_isSome.mpr ⟨m, hm, by simp⟩)

theorem RunKeeps.and {c : Nat} {P Q : State → Prop} (hP : RunKeeps c P) (hQ : RunKeeps c Q) : RunKeeps c fun s => P s ∧ Q s where
  aside s t h hs := ⟨hP.aside s t h hs.1, hQ.aside s t h hs.2⟩
  flueFull s v hs := ⟨hP.flueFull s v hs.1, hQ.flueFull s v hs.2⟩
  ctx s x h hs := ⟨hP.ctx s x h hs.1, hQ.ctx s x h hs.2⟩

section

variable {c : Nat} {P : State → Prop} (hP : RunKeeps c P) {s : State}
include hP

theorem RunKeeps.rgnRun {r fuel : Nat} {ks : List Nat} {blocked : Bool} (hks : Named c ks s) (h : P s) :
    P (s.rgnRun c r fuel ks blocked) := by
  induction fuel generalizing s ks blocked with
  | zero => exact h
  | succ fuel ih =>
    cases ks with
    | nil => exact h
    | cons k ks =>
      have htail : ∀ {u : State}, Named c (k :: ks) u → Named c ks u := fun hu j hj => hu j (.tail _ hj)
      have hfrm : (s.ctx c).frames.find? (fun y => y.serial == (s.frm c k).serial) = some (s.frm c k) := by
        obtain ⟨z, hz⟩ := hks k (.head _)
        have hz' : s.frm c k = z := by rw [State.frm, hz]; rfl
        rw [hz', find_serial hz, hz]
      have hboth := hP.and (named_keeps c (k :: ks))
      have hrec : P (s.rgnRecord c r (s.frm c k)) ∧ Named c (k :: ks) (s.rgnRecord c r (s.frm c k)) := hboth.rgnRecord ⟨h, hks⟩
      unfold State.rgnRun
      extract_lets m s1
      split_ifs
      · exact ih (htail hks) h
      · split
        next l _ =>
          have hrow : P _ ∧ Named c (k :: ks) _ := hboth.rgnRow (r := r) (blocked := blocked) (st := .got l) hfrm ⟨h, hks⟩
          exact ih hrow.2 hrow.1
        · exact h
      · exact h
      · exact ih (htail hrec.2) hrec.1
      · exact ih (htail hrec.2) hrec.1

theorem RunKeeps.ctxRows (h : P s) : P (s.ctxRows c) := by
  exact RunKeeps.foldl (fun u r hu => hP.rgnRun (named_all u c) hu) _ h

theorem RunKeeps.frmEnd {m : Frm} {at_ : Nat} (h : P s) : P (s.frmEnd c m at_) :=
  hP.aside _ _ ((Aside.refl _).dlv _) (hP.updFrm (fun _ _ _ => ⟨rfl, fun _ h => h, .inl rfl⟩) h)

theorem RunKeeps.frmEnds (h : P s) : P (s.frmEnds c) :=
  RunKeeps.foldl (fun u m hu => by
    split
    · exact hP.frmEnd hu
    · exact hu) _ h

theorem RunKeeps.statRecord {m : Frm} (h : P s) : P (s.statRecord c m) := by
  unfold State.statRecord
  extract_lets f thru st sum n mean x addr flk s1
  split
  · exact h
  · have hs1 : P s1 := hP.ctx _ _ (.of_frames rfl) (hP.aside _ _ (Aside.refl s).used h)
    exact hP.updFrm (fun _ _ _ => ⟨rfl, fun _ h => h, .inl rfl⟩) (hP.aside _ _ ((Aside.refl _).memWrite (.inl rfl) _ _) hs1)

end

section

variable {c : Nat} {P : State → Prop} (hP : FedKeeps c P) {s : State}
include hP

/-- What holds of a state and is kept by rows, records and statistics holds after the run of the slot. -/
theorem FedKeeps.ctxRun (h : P s) : P (s.ctxRun c) := by
  have hrun := hP.toRunKeeps
  unfold State.ctxRun
  extract_lets s1 s2
  have hs2 : P s2 := hrun.ctxRows (hrun.frmEnds (hrun.ctxRows h))
  exact hP.fillQ _ _ (hP.sweep _ (RunKeeps.foldl (fun u m hu => hrun.statRecord hu) _ hs2))

end

/-! ### What a slot's work leaves of the rest of the state -/

/-- A slot's registers. -/
def SlotKey (c k : Nat) : Prop :=
  (0xA0100 + 0x1000 * (c / 2) + 0x200 * (c % 2)) * 32 ≤ k ∧ k < (0xA0300 + 0x1000 * (c / 2) + 0x200 * (c % 2)) * 32

/-- From `s` to `t` only slot `c` has changed, the fill queue of its pipeline, and what moving items changes. -/
structure Fed (c : Nat) (s t : State) : Prop where
  regs : ∀ f : Fld, ¬AsideKey f.key → ¬SlotKey c f.key → t.rd f = s.rd f
  rest : { t with
    freeCount := s.freeCount, regs := s.regs, w1cSet := s.w1cSet, mems := s.mems, events := s.events, coal := s.coal,
    msixPend := s.msixPend, msixSent := s.msixSent, memu := s.memu, graph := s.graph, chk := s.chk, dlv := s.dlv,
    diag := s.diag, ctxs := s.ctxs } = s
  others : OtherSlotsKept s t c
  claims : ∀ k, (AMap.get {} s.graph.flues k : Flue).claimed ≤ (AMap.get {} t.graph.flues k : Flue).claimed

theorem Fed.refl (c : Nat) (s : State) : Fed c s s := ⟨fun _ _ _ => rfl, rfl, fun _ _ => rfl, fun _ => le_rfl⟩

theorem Fed.trans {c : Nat} {s t u : State} (h : Fed c s t) (h' : Fed c t u) : Fed c s u where
  regs f hf hc := (h'.regs f hf hc).trans (h.regs f hf hc)
  rest := by
    have := congrArg (fun x : State => { x with
      freeCount := s.freeCount, regs := s.regs, w1cSet := s.w1cSet, mems := s.mems, events := s.events, coal := s.coal,
      msixPend := s.msixPend, msixSent := s.msixSent, memu := s.memu, graph := s.graph, chk := s.chk, dlv := s.dlv,
      diag := s.diag, ctxs := s.ctxs }) h'.rest
    exact this.trans h.rest
  others k hk := by
    have := congrArg (fun x : Ctx => { x with fillQ := (s.ctx k).fillQ }) (h'.others k hk)
    exact this.trans (h.others k hk)
  claims k := (h.claims k).trans (h'.claims k)

theorem Aside.fed {c : Nat} {s t : State} (h : Aside s t) : Fed c s t where
  regs f hf _ := h.regs f hf
  rest := by
    have := congrArg (fun x : State => { x with ctxs := s.ctxs }) h.rest
    exact this
  others k _ := by rw [h.ctx]
  claims := h.claims

theorem Fed.links {c : Nat} {s t : State} (h : Fed c s t) : t.links = s.links := (congrArg State.links h.rest :)

theorem Fed.now {c : Nat} {s t : State} (h : Fed c s t) : t.now = s.now := (congrArg State.now h.rest :)

theorem Fed.dev {c : Nat} {s t : State} (h : Fed c s t) : t.dev = s.dev := by
  have hofs : t.timeOfs = s.timeOfs := (congrArg State.timeOfs h.rest :)
  rw [State.dev, State.devAt, hofs, h.now]
  rfl

section

variable {c : Nat} {s t : State} (h : Fed c s t)
include h

theorem Fed.aside {u : State} (h' : Aside t u) : Fed c s u := h.trans h'.fed

theorem Fed.setCtx (x : Ctx) : Fed c s (t.setCtx c x) :=
  h.trans ⟨fun _ _ _ => rfl, rfl, fun k hk => by rw [ctx_setCtx_ne _ _ hk], fun _ => le_rfl⟩

theorem Fed.fillQ (p : Nat) (q : List Nat) : Fed c s (t.setCtx p { t.ctx p with fillQ := q }) := by
  refine h.trans ⟨fun _ _ _ => rfl, rfl, fun k _ => ?_, fun _ => le_rfl⟩
  by_cases hk : k = p
  · rw [hk, ctx_setCtx]
  · rw [ctx_setCtx_ne _ _ hk]

theorem Fed.wr {f : Fld} (v : Nat) (hf : SlotKey c f.key) : Fed c s (t.wr f v) :=
  h.trans ⟨fun _ _ hg => rd_wr_ne t v fun hkey => hg (hkey ▸ hf), rfl, fun _ _ => rfl, fun _ => le_rfl⟩

theorem Fed.addSat {f : Fld} (k : Nat) (hf : SlotKey c f.key) : Fed c s (t.addSat f k) := h.wr _ hf

theorem Fed.frmEvent (code k num : Nat) : Fed c s (t.frmEvent code k num) := h.aside ((Aside.refl t).raiseBy ..)

theorem Fed.updFrm (serial : Nat) (g : Frm → Frm) : Fed c s (t.updFrm c serial g) := h.setCtx _

end

theorem fed_keeps (c : Nat) (s : State) : FedKeeps c (Fed c s) where
  aside _ _ h hs := hs.aside h
  flueFull _ v hs := hs.wr v (by simp only [SlotKey, CTX.CNT3_FLUE_FULL, Fld.key]; omega)
  ctx _ x _ hs := hs.setCtx x
  sweep _ hs := hs.setCtx _
  fillQ _ q hs := hs.fillQ _ q

section

variable {c : Nat} {s t : State} (h : Fed c s t)
include h

theorem Fed.ctxRun : Fed c s (t.ctxRun c) := (fed_keeps c s).ctxRun h

theorem Fed.fillDue : Fed c s (t.fillDue c) := h.fillQ _ _

theorem Fed.times {f : State → State} (hf : ∀ u, Fed c s u → Fed c s (f u)) (k : Nat) : Fed c s (t.times f k) := by
  induction k generalizing t with
  | zero => exact h
  | succ k ih => exact ih (hf t h)

theorem Fed.loseLines (m : Frm) (k : Nat) : Fed c s (t.loseLines c m k) := by
  unfold State.loseLines
  split
  · exact h
  · exact ((h.updFrm ..).addSat _ (by simp only [SlotKey, CTX.CNT1_LOST_LINES, Fld.key]; omega)).times (fun _ hu => hu.frmEvent ..) k

theorem Fed.lineDone (hc : c < 48) : Fed c s (t.lineDone c) := by
  have hwidth : SlotKey c (CTX.CNT2_LINE_WIDTH c).key := by simp only [SlotKey, CTX.CNT2_LINE_WIDTH, Fld.key]; omega
  have hovf : SlotKey c (CTX.CNT3_LINEBUF_OVF c).key := by simp only [SlotKey, CTX.CNT3_LINEBUF_OVF, Fld.key]; omega
  unfold State.lineDone
  extract_lets x s0
  split
  · extract_lets w s1 y line
    have hs1 : Fed c s s1 := by
      unfold s1
      split
      · exact ((h.setCtx _).addSat 1 hwidth).frmEvent ..
      · exact h.setCtx _
    split
    · exact (((hs1.setCtx _).addSat 1 hovf).frmEvent ..).loseLines ..
    · exact (hs1.aside ((Aside.refl s1).memWriteTo (charted_line (by omega)) ..)).setCtx _
  · exact h.setCtx _

/-- Closing a frame stays within its slot. -/
theorem Fed.frmClose (hc : c < 48) (how : Close) : Fed c s (t.frmClose c how) := by
  have hkey : SlotKey c (CTX.FNUM c).key ∧ SlotKey c (CTX.STAT_OPEN c).key ∧ SlotKey c (CTX.CNT0_TRUNC c).key ∧
      SlotKey c (CTX.CNT0_OVERLONG c).key := by
    simp only [SlotKey, CTX.FNUM, CTX.STAT_OPEN, CTX.CNT0_TRUNC, CTX.CNT0_OVERLONG, Fld.key]
    omega
  obtain ⟨hnum, hopen, htrunc, hlong⟩ := hkey
  unfold State.frmClose
  split
  · exact h
  · extract_lets s0 m filled long flags s1 s2 s3 s4 s5 s6 s7
    have hs2 : Fed c s s2 := (((h.lineDone hc).updFrm ..).wr _ hnum).wr _ hopen
    have hs3 : Fed c s s3 := by
      unfold s3
      split
      · exact hs2.addSat 1 htrunc
      · exact hs2
    have hs5 : Fed c s s5 := by
      unfold s5 s4
      split
      · exact (hs3.addSat 1 hlong).frmEvent ..
      · exact hs3
    have hs6 : Fed c s s6 := by
      unfold s6
      split
      · exact hs5.frmEvent ..
      · exact hs5.frmEvent ..
      · split
        · exact hs5.frmEvent ..
        · exact hs5
    have hs7 : Fed c s s7 := by
      unfold s7
      split
      · exact (hs6.updFrm ..).aside ((Aside.refl _).dlv _)
      · exact hs6
    exact hs7.ctxRun

end

/-! ### A link whose open frames are closed -/

/-- Where the registers of the pipelines and their slots lie. -/
def IngestKey (k : Nat) : Prop := 0xA0000 * 32 ≤ k ∧ k < 0xB8000 * 32

/-- From `s` to `t` only frames, what moving items changes, and the list of open frames of link `n` have changed. -/
structure Shut (n : Nat) (s t : State) : Prop where
  regs : ∀ f : Fld, ¬AsideKey f.key → ¬IngestKey f.key → t.rd f = s.rd f
  rest : { t with
    freeCount := s.freeCount, regs := s.regs, w1cSet := s.w1cSet, mems := s.mems, events := s.events, coal := s.coal,
    msixPend := s.msixPend, msixSent := s.msixSent, memu := s.memu, graph := s.graph, chk := s.chk, dlv := s.dlv,
    diag := s.diag, ctxs := s.ctxs, links := s.links } = s
  link : { t.link n with open_ := (s.link n).open_ } = s.link n
  others : ∀ k, k ≠ n → t.link k = s.link k

theorem Shut.refl (n : Nat) (s : State) : Shut n s s := ⟨fun _ _ _ => rfl, rfl, rfl, fun _ _ => rfl⟩

theorem Shut.trans {n : Nat} {s t u : State} (h : Shut n s t) (h' : Shut n t u) : Shut n s u where
  regs f hf hc := (h'.regs f hf hc).trans (h.regs f hf hc)
  rest := by
    have := congrArg (fun x : State => { x with
      freeCount := s.freeCount, regs := s.regs, w1cSet := s.w1cSet, mems := s.mems, events := s.events, coal := s.coal,
      msixPend := s.msixPend, msixSent := s.msixSent, memu := s.memu, graph := s.graph, chk := s.chk, dlv := s.dlv,
      diag := s.diag, ctxs := s.ctxs, links := s.links }) h'.rest
    exact this.trans h.rest
  link := by
    have := congrArg (fun x : Link => { x with open_ := (s.link n).open_ }) h'.link
    exact this.trans h.link
  others k hk := (h'.others k hk).trans (h.others k hk)

theorem link_of_links {s t : State} (h : t.links = s.links) (k : Nat) : t.link k = s.link k := by
  rw [State.link, h]
  rfl

theorem Fed.shut {c n : Nat} (hc : c < 24) {s t : State} (h : Fed c s t) : Shut n s t where
  regs f hf hi := h.regs f hf fun hslot => hi (by
    unfold SlotKey at hslot
    unfold IngestKey
    omega)
  rest := by
    have := congrArg (fun x : State => { x with links := s.links }) h.rest
    exact this
  link := by rw [link_of_links h.links]
  others k _ := link_of_links h.links k

theorem linkShut_shut (s : State) (n vc : Nat) : Shut n s (s.linkShut n vc) where
  regs _ _ _ := rfl
  rest := rfl
  link := by rw [State.linkShut, link_setLink]
  others k hk := link_setLink_ne _ _ hk

theorem lt_of_mem_servers {s : State} {n vc c : Nat} (h : c ∈ s.servers n vc) : c < 24 :=
  List.mem_range.mp (List.mem_filter.mp h).1

theorem linkAbort_shut (s : State) (n : Nat) : Shut n s (s.linkAbort n) :=
  List.foldlRecOn (motive := Shut n s) _ _ (Shut.refl n s) fun u hu vc _ =>
    List.foldlRecOn (motive := Shut n s) _ _ (hu.trans (linkShut_shut u n vc)) fun w hw c hc =>
      have hlt := lt_of_mem_servers hc
      hw.trans (((Fed.refl c w).frmClose (by omega) .abort).shut hlt)

/-- Leaving ALIGNED: the parts of a link that its frames and its alignment use are as after reset. -/
theorem leaveAligned_shut (s : State) (n : Nat) : ∃ u, Shut n s u ∧ s.leaveAligned n = u.setLink n
    { u.link n with open_ := [], burst := none, retryAt := none, perSent := none, idRetry := none, part := [], cseq := none,
                    resync := true, misses := 0, cand := 0, alignProc := none } := by
  unfold State.leaveAligned
  split
  · exact ⟨_, linkAbort_shut s n, rfl⟩
  · exact ⟨_, Shut.refl n s, rfl⟩

end Sys2Proof.Machine

end

section

/-! CERTIFICATE. Frames of the ingest pipelines: opening, lines, the turn of the datapath, rows, records and closing (R141 to R168). -/

namespace Sys2Proof.Machine

/-! ### Admission and reads while a frame opens -/

section

variable {s t : State} (h : Aside s t)
include h

theorem Aside.refuse {q : Nat} (hq : q < 64) (reason num : Nat) : Aside s (t.refuse q reason num) := by
  unfold State.refuse
  extract_lets s1 x
  have hs1 : Aside s s1 :=
    (h.addSat 1 (by simp only [AsideKey, DQ.NREF, Fld.key]; omega)).wr _ (by simp only [AsideKey, DQ.STAT_LASTREF, Fld.key]; omega)
  split
  · exact hs1
  · exact (hs1.setDq _ _).raise ..

theorem Aside.setBucket {q : Nat} (hq : q < 64) (v : Nat) : Aside s (t.setBucket q v) :=
  (h.setDq _ _).wr _ (by simp only [AsideKey, DQ.BUCKET_LEVEL, Fld.key]; omega)

theorem Aside.admitItem {q : Nat} (hq : q < 64) (src cam : Nat) (tag : TagInfo) : Aside s (t.admitItem q src cam tag) := by
  unfold State.admitItem
  split
  · exact h
  · extract_lets s1 x i
    have hs1 : Aside s s1 := by
      unfold s1
      split
      · exact h.setBucket hq _
      · exact h
    exact ((hs1.putDq hq _).addSat 1 (by simp only [AsideKey, DQ.NADM, Fld.key]; omega)).wmEval

theorem Aside.offer {q : Nat} (hq : q < 64) (src cam : Nat) (tag : TagInfo) : Aside s (t.offer src cam tag q) := by
  unfold State.offer
  extract_lets x s1
  have hs1 : Aside s s1 := by
    unfold s1
    split
    · exact h
    · exact h.setDq _ _
  split
  · exact hs1.refuse hq ..
  · exact hs1.admitItem hq ..

theorem Aside.offerFrame (g : Graph) (hit : Origin → Bool) (src cam : Nat) (tag : TagInfo) :
    Aside s (t.offerFrame g hit src cam tag) :=
  h.foldl fun _ hu q hq => hu.offer (by have := List.mem_range.mp (List.mem_filter.mp hq).1; omega) ..

theorem Aside.memRead_gddr (a n : Nat) : Aside s (t.memRead .gddr a n).2.2 := by
  have hecc : t.eccInjected .gddr a n = t := by
    unfold State.eccInjected
    extract_lets
    split <;> rfl
  unfold State.memRead
  rw [hecc]
  exact (h.crcCheck ..).meetWords (charted_of_shared (.inl rfl)) _

end

theorem mems_crcCheck (s : State) (m : MemId) (a n : Nat) : (s.crcCheck m a n).1.mems = s.mems := by
  unfold State.crcCheck
  split
  · rfl
  · refine List.foldlRecOn (motive := fun x : State × List Nat => x.1.mems = s.mems) _ _ rfl fun x hx ch _ => ?_
    dsimp only
    split
    · exact hx
    · split
      · exact (keepsBoth_memCorrect _ _ _).1.trans hx
      · exact (keepsBoth_memCorrect _ _ _).1.trans hx

theorem mems_memRead_gddr (s : State) (a n : Nat) : (s.memRead .gddr a n).2.2.mems = s.mems := by
  have hecc : s.eccInjected .gddr a n = s := by
    unfold State.eccInjected
    extract_lets
    split <;> rfl
  unfold State.memRead
  rw [hecc]
  exact (keepsBoth_meetWords _ _ _).1.trans (mems_crcCheck _ _ _ _)

theorem mems_raiseBy (s : State) (j : List Nat → List Nat → List Nat × List Nat) (code idx τ : Nat) (v : List Nat) :
    (s.raiseBy j code idx τ v).mems = s.mems := (keepsBoth_raiseBy s j code idx τ v).1

theorem keepsBoth_wmEval1 (s : State) (m : Nat) : KeepsBoth s (s.wmEval1 m) := by
  unfold State.wmEval1
  extract_lets v inv hi lo live
  refine .ite ⟨rfl, rfl⟩ (.ite (.trans ?_ (keepsBoth_raise ..)) (.ite (.trans ?_ (keepsBoth_raise ..)) ⟨rfl, rfl⟩)) <;> exact ⟨rfl, rfl⟩

theorem mems_wmEval1 (s : State) (m : Nat) : (s.wmEval1 m).mems = s.mems := (keepsBoth_wmEval1 s m).1

theorem mems_wmEval (s : State) : s.wmEval.mems = s.mems :=
  (mems_wmEval1 _ 3).trans ((mems_wmEval1 _ 2).trans ((mems_wmEval1 _ 1).trans (mems_wmEval1 s 0)))

theorem mems_wr (s : State) (f : Fld) (v : Nat) : (s.wr f v).mems = s.mems := rfl

theorem mems_addSat (s : State) (f : Fld) (k : Nat) : (s.addSat f k).mems = s.mems := mems_wr ..

theorem mems_putDq (s : State) (q : Nat) (x : DQueue) : (s.putDq q x).mems = s.mems :=
  (mems_wr _ _ _).trans ((mems_wr _ _ _).trans ((mems_wr _ _ _).trans (mems_wr (s.setDq q x) _ _)))

theorem mems_offer (s : State) (src cam : Nat) (tag : TagInfo) (q : Nat) : (s.offer src cam tag q).mems = s.mems := by
  have hrefuse : ∀ (u : State) reason, (u.refuse q reason tag.num).mems = u.mems := fun u reason => by
    unfold State.refuse
    extract_lets s1 x
    split
    · rfl
    · exact mems_raiseBy ..
  have hadmit : ∀ u : State, (u.admitItem q src cam tag).mems = u.mems := fun u => by
    unfold State.admitItem
    split
    · rfl
    · extract_lets s1 x i
      have hs1 : s1.mems = u.mems := by
        unfold s1
        split <;> rfl
      exact (mems_wmEval _).trans ((mems_addSat _ _ _).trans ((mems_putDq s1 q _).trans hs1))
  unfold State.offer
  extract_lets x s1
  have hs1 : s1.mems = s.mems := by
    unfold s1
    split <;> rfl
  split
  · exact (hrefuse s1 _).trans hs1
  · exact (hadmit s1).trans hs1

theorem mems_offerFrame (s : State) (g : Graph) (hit : Origin → Bool) (src cam : Nat) (tag : TagInfo) :
    (s.offerFrame g hit src cam tag).mems = s.mems :=
  List.foldlRecOn (motive := fun u : State => u.mems = s.mems) _ _ rfl fun u hu q _ => (mems_offer u src cam tag q).trans hu

/-! ### The maps a slot reads -/

section

variable {c : Nat} {s t : State} (h : Fed c s t) (f : Conf)
include h

theorem Fed.readMap : Fed c s (t.readMap f c).2.2 := by
  unfold State.readMap
  split
  · exact h
  · extract_lets a n r bad es late
    have hr : Fed c s r.2.2 := h.aside ((Aside.refl t).memRead_gddr ..)
    show Fed c s (if _ then _ else _)
    split
    · exact hr.setCtx _
    · exact hr

theorem Fed.readGrid : Fed c s (t.readGrid f c).2 := by
  unfold State.readGrid
  split
  · exact h
  · exact h.aside ((Aside.refl t).memRead_gddr ..)

end

section

variable (s : State) (f : Conf) (c : Nat)

theorem mems_readMap : (s.readMap f c).2.2.mems = s.mems := by
  unfold State.readMap
  split
  · rfl
  · extract_lets a n r bad es late
    have hr : r.2.2.mems = s.mems := mems_memRead_gddr s a (4 * n)
    show State.mems (if _ then _ else _) = _
    split
    · exact hr
    · exact hr

theorem mems_readGrid : (s.readGrid f c).2.mems = s.mems := by
  unfold State.readGrid
  split
  · rfl
  · exact mems_memRead_gddr ..

/-- The marker of an injected map error aside, the slot keeps what it has while its map is read. -/
theorem ctx_readMap : ∃ b, (s.readMap f c).2.2.ctx c = { s.ctx c with injMap := b } := by
  unfold State.readMap
  split
  · exact ⟨_, rfl⟩
  · extract_lets a n r bad es late
    have hr : r.2.2.ctx c = s.ctx c := ((Aside.refl s).memRead_gddr a (4 * n)).ctx c
    dsimp only
    split
    · exact ⟨_, (ctx_setCtx _ _ _).trans (congrArg (fun x : Ctx => { x with injMap := false }) hr)⟩
    · exact ⟨_, hr⟩

theorem ctx_readMap_ne {k : Nat} (hk : k ≠ c) : (s.readMap f c).2.2.ctx k = s.ctx k := by
  unfold State.readMap
  split
  · rfl
  · extract_lets a n r bad es late
    have hr : r.2.2.ctx k = s.ctx k := ((Aside.refl s).memRead_gddr a (4 * n)).ctx k
    dsimp only
    split
    · exact (ctx_setCtx_ne _ _ hk).trans hr
    · exact hr

theorem ctx_readGrid (k : Nat) : (s.readGrid f c).2.ctx k = s.ctx k := by
  unfold State.readGrid
  split
  · rfl
  · exact ((Aside.refl s).memRead_gddr ..).ctx k

end

/-! ### A frame opens (R142 to R144) -/

section

variable {c link vc num tseq : Nat} {valid : Bool} {w h sof : Nat} {s : State}

theorem frmClose_none {how : Close} (hx : (s.ctx c).opened = none) : s.frmClose c how = s := by
  unfold State.frmClose
  rw [hx]

/-- The frame that a FRAME_START opens in a slot without an open one, and what else it changes. -/
theorem frmOpen_opens (hopen : (s.ctx c).opened = none) : ∃ m : Frm,
    ((s.frmOpen c link vc num tseq valid w h sof).ctx c).opened = some m ∧ m.num = num ∧ m.tseq = tseq ∧ m.link = link ∧ m.vc = vc ∧
    m.sof = sof ∧ m.start = s.now ∧ m.use = (s.ctx c).use ∧ m.lines = [] ∧ m.last = none ∧
    m.flags = 32 * b2n (decide (w ≠ m.conf (CTX.GEOM_WIDTH c) ∨ h ≠ m.conf (CTX.GEOM_HEIGHT c))) + 128 * b2n valid ∧
    (s.frmOpen c link vc num tseq valid w h sof).rd (CTX.STAT_OPEN c) = 1 ∧
    Fed c s (s.frmOpen c link vc num tseq valid w h sof) ∧
    (∀ k, k ≠ c → (s.frmOpen c link vc num tseq valid w h sof).ctx k = s.ctx k) ∧ (s.frmOpen c link vc num tseq valid w h sof).mems = s.mems := by
  have hdecl : SlotKey c (CTX.CNT4_GEOM_DECL c).key ∧ SlotKey c (CTX.CNT4_MAP_ORDER c).key ∧ SlotKey c (CTX.STAT_OPEN c).key := by
    simp only [SlotKey, CTX.CNT4_GEOM_DECL, CTX.CNT4_MAP_ORDER, CTX.STAT_OPEN, Fld.key]
    omega
  obtain ⟨hgeom, hmap, hstat⟩ := hdecl
  unfold State.frmOpen
  rw [frmClose_none hopen]
  extract_lets s1 x f gen g decl s2 tag s3 rm s4 rg m y win
  have hs2 : Fed c s s2 ∧ (∀ k, s2.ctx k = s.ctx k) ∧ s2.mems = s.mems := by
    unfold s2
    split
    · exact ⟨((Fed.refl c s).addSat 1 hgeom).frmEvent .., fun k => Aside.ctx ((Aside.refl _).raiseBy ..) k, mems_raiseBy ..⟩
    · exact ⟨Fed.refl c s, fun _ => rfl, rfl⟩
  have hs3 : Fed c s s3 ∧ (∀ k, s3.ctx k = s.ctx k) ∧ s3.mems = s.mems :=
    ⟨hs2.1.aside ((Aside.refl s2).offerFrame ..), fun k => (((Aside.refl s2).offerFrame ..).ctx k).trans (hs2.2.1 k),
      (mems_offerFrame ..).trans hs2.2.2⟩
  have hrm : Fed c s rm.2.2 ∧ (∃ b, rm.2.2.ctx c = { s.ctx c with injMap := b }) ∧ rm.2.2.mems = s.mems := by
    refine ⟨hs3.1.readMap f, ?_, (mems_readMap s3 f c).trans hs3.2.2⟩
    rw [← hs3.2.1 c]
    exact ctx_readMap s3 f c
  have hs4 : Fed c s s4 ∧ (∃ b, s4.ctx c = { s.ctx c with injMap := b }) ∧ s4.mems = s.mems := by
    unfold s4
    split
    · exact hrm
    · exact ⟨(hrm.1.addSat _ hmap).frmEvent .., hrm.2.1.imp fun b hb => (Aside.ctx ((Aside.refl _).raiseBy ..) c).trans hb,
        (mems_raiseBy ..).trans hrm.2.2⟩
  have hrg : Fed c s rg.2 ∧ (∃ b, rg.2.ctx c = { s.ctx c with injMap := b }) ∧ rg.2.mems = s.mems :=
    ⟨hs4.1.readGrid f, hs4.2.1.imp fun b hb => (ctx_readGrid s4 f c c).trans hb, (mems_readGrid s4 f c).trans hs4.2.2⟩
  have hothers : ∀ k, k ≠ c → rg.2.ctx k = s.ctx k := fun k hk => by
    refine (ctx_readGrid s4 f c k).trans (Eq.trans ?_ ((ctx_readMap_ne s3 f c hk).trans (hs3.2.1 k)))
    unfold s4
    split
    · rfl
    · exact Aside.ctx ((Aside.refl _).raiseBy ..) k
  obtain ⟨hfed, ⟨b, hctx⟩, hmems⟩ := hrg
  have hframes : y.frames = (s.ctx c).frames := (congrArg Ctx.frames hctx :)
  refine ⟨m, ?_, rfl, rfl, rfl, rfl, rfl, rfl, rfl, rfl, rfl, rfl, rd_wr_same _ _ _, (hfed.setCtx _).wr 1 hstat,
    fun k hk => (ctx_setCtx_ne _ _ hk).trans (hothers k hk), hmems⟩
  have hlast : ((rg.2.setCtx c { y with serial := x.serial + 1, frames := y.frames ++ [m], orphan := false, winAt := win }).ctx
      c).opened = (y.frames ++ [m]).find? fun z => z.closed.isNone := congrArg Ctx.opened (ctx_setCtx _ _ _)
  refine hlast.trans ?_
  rw [hframes, List.find?_append, show (s.ctx c).frames.find? (fun z => z.closed.isNone) = none from hopen]
  rfl

end

/-- What a FRAME_START notes of its link and camera before its slot turns to it. -/
structure Noted (n vc sof num : Nat) (s u : State) : Prop where
  rest : { u with regs := s.regs, cams := s.cams, frameTags := s.frameTags, lastFrame := s.lastFrame, links := s.links } = s
  stamp : u.rd (LNK.SOF_TIME_TIME n) = sof % 2 ^ 32
  open_ : vc ∈ (u.link n).open_
  last : u.lastFrame = AMap.set s.lastFrame (4 * n + vc) (num + 1)

theorem genFrame_eq (s : State) (n : Nat) : ∃ cs rs, s.genFrame n = { s with cams := cs, regs := rs } ∧
    ∀ f : Fld, f.key ≠ (CAM.GEN n).key → f.key ≠ (CAM.GEN_SET n).key → (s.genFrame n).rd f = s.rd f := by
  unfold State.genFrame State.genDue
  extract_lets x due s1
  refine List.foldlRecOn (motive := fun u : State => ∃ cs rs, u = { s with cams := cs, regs := rs } ∧
    ∀ f : Fld, f.key ≠ (CAM.GEN n).key → f.key ≠ (CAM.GEN_SET n).key → u.rd f = s.rd f) _ _ ⟨_, _, rfl, fun _ _ _ => rfl⟩ ?_
  rintro u ⟨cs, rs, rfl, hu⟩ g -
  exact ⟨_, _, rfl, fun f hgen hset => (rd_wr_ne _ _ hset).trans ((rd_wr_ne _ _ hgen).trans (hu f hgen hset))⟩

/-- The state in which the slots of a link meet a FRAME_START. -/
def State.frameNoted (s : State) (n vc num tseq : Nat) (valid : Bool) (sof : Nat) : State :=
  let s0 := (s.wr (LNK.SOF_TIME_TIME n) (sof % 2 ^ 32)).setLink n
    { s.link n with open_ := if (s.link n).open_.contains vc then (s.link n).open_ else (s.link n).open_ ++ [vc] }
  let s1 := if vc = 0 then s0.genFrame n else s0
  { (s1.tagStart n vc num tseq valid sof) with lastFrame := AMap.set s.lastFrame (4 * n + vc) (num + 1) }

theorem tagStart_eq (s : State) (n vc num tseq : Nat) (valid : Bool) (sof : Nat) :
    ∃ cs ts, s.tagStart n vc num tseq valid sof = { s with cams := cs, frameTags := ts } := by
  unfold State.tagStart State.matchTrig
  split <;> exact ⟨_, _, rfl⟩

theorem frameNoted_noted (s : State) (n vc num tseq : Nat) (valid : Bool) (sof : Nat) :
    Noted n vc sof num s (s.frameNoted n vc num tseq valid sof) := by
  unfold State.frameNoted
  extract_lets x s0 s1
  have hs0 : ({ s0 with regs := s.regs, links := s.links } : State) = s := rfl
  have hstamp : s0.rd (LNK.SOF_TIME_TIME n) = sof % 2 ^ 32 := (rd_wr_same s _ _).trans (Nat.mod_mod _ _)
  have hopen : vc ∈ (s0.link n).open_ := by
    rw [link_setLink]
    dsimp only
    split
    next h => simpa using h
    · simp
  have hs1 : ({ s1 with regs := s.regs, links := s.links, cams := s.cams } : State) = s ∧
      s1.rd (LNK.SOF_TIME_TIME n) = sof % 2 ^ 32 ∧ vc ∈ (s1.link n).open_ := by
    unfold s1
    split
    · obtain ⟨cs, rs, heq, hrd⟩ := genFrame_eq s0 n
      refine ⟨by rw [heq]; exact hs0, (hrd _ ?_ ?_).trans hstamp, by rw [heq]; exact hopen⟩
      · simp only [LNK.SOF_TIME_TIME, CAM.GEN, Fld.key]
        omega
      · simp only [LNK.SOF_TIME_TIME, CAM.GEN_SET, Fld.key]
        omega
    · exact ⟨rfl, hstamp, hopen⟩
  clear_value s1
  obtain ⟨cs, ts, heq⟩ := tagStart_eq s1 n vc num tseq valid sof
  show Noted n vc sof num s { s1.tagStart n vc num tseq valid sof with lastFrame := AMap.set s.lastFrame (4 * n + vc) (num + 1) }
  rw [heq]
  exact ⟨congrArg (fun u : State => { u with frameTags := s.frameTags, lastFrame := s.lastFrame }) hs1.1, hs1.2.1, hs1.2.2, rfl⟩

/-! ### Which slot serves a pair (R141, R143) -/

theorem amap_get_append {α : Type} (d : α) (a b : AMap α) (i : Nat) : AMap.get d (a ++ b) i = AMap.get (AMap.get d b i) a i := by
  induction a with
  | nil => rfl
  | cons e a ih =>
    show (if e.1 = i then e.2 else AMap.get d (a ++ b) i) = if e.1 = i then e.2 else AMap.get (AMap.get d b i) a i
    rw [ih]

theorem amap_get_filter {α : Type} (d : α) (m : AMap α) (p : Nat → Bool) (i : Nat) :
    AMap.get d (m.filter fun e => p e.1) i = if p i = true then AMap.get d m i else d := by
  induction m with
  | nil => simp [AMap.get]
  | cons e m ih =>
    by_cases he : e.1 = i
    · subst he
      cases hp : p e.1 <;> simp [hp, AMap.get, ih]
    · cases hp : p e.1 <;> simp [hp, AMap.get, ih, he]

theorem cfg_of_active {s u : State} (h : u.active = s.active) {f : Fld} (hf : f.staged = true) : u.cfg f = s.cfg f := by
  simp [State.cfg, hf, h]

/-- A frame's settings are the active ones of its slot. -/
theorem useGet_slotUse (s : State) {c : Nat} {f : Fld} (hf : f.staged = true)
    (hkey : (0xA0100 + 0x1000 * (c / 2) + 0x200 * (c % 2)) * 32 ≤ f.key ∧
      f.key < (0xA0100 + 0x1000 * (c / 2) + 0x200 * (c % 2) + 0xA0) * 32) (hc : c < 24) : useGet (s.slotUse c) f = s.cfg f := by
  unfold useGet State.slotUse State.snapshot
  rw [amap_get_append, amap_get_filter _ _ fun k => decide (0xC0000 * 32 ≤ k ∧ k < 0xC0400 * 32),
    amap_get_filter _ _ fun k => decide ((0xA0100 + 0x1000 * (c / 2) + 0x200 * (c % 2)) * 32 ≤ k ∧
      k < (0xA0100 + 0x1000 * (c / 2) + 0x200 * (c % 2) + 0xA0) * 32), if_pos (by simpa using hkey), if_neg (by simp; omega)]
  exact (if_pos hf).symm

theorem ctxServes_congr {f g : Conf} {c n vc : Nat} (hen : f (CTX.SRC_EN c) = g (CTX.SRC_EN c))
    (hlink : f (CTX.SRC_LINK c) = g (CTX.SRC_LINK c)) (hvc : f (CTX.SRC_VC c) = g (CTX.SRC_VC c)) :
    ctxServes f c n vc = ctxServes g c n vc := by
  simp only [ctxServes, ctxOn, ctxPair, hen, hlink, hvc]

theorem ctxServes_active {s u : State} (h : u.active = s.active) (c n vc : Nat) : ctxServes u.cfg c n vc = ctxServes s.cfg c n vc :=
  ctxServes_congr (cfg_of_active h rfl) (cfg_of_active h rfl) (cfg_of_active h rfl)

theorem ctxServes_adopted (s : State) {c : Nat} (hc : c < 24) (n vc : Nat) :
    ctxServes (fun f => useGet (s.slotUse c) f) c n vc = ctxServes s.cfg c n vc :=
  ctxServes_congr (useGet_slotUse s rfl (by simp only [CTX.SRC_EN, Fld.key]; omega) hc)
    (useGet_slotUse s rfl (by simp only [CTX.SRC_LINK, Fld.key]; omega) hc)
    (useGet_slotUse s rfl (by simp only [CTX.SRC_VC, Fld.key]; omega) hc)

/-- A fold in which one element of the list acts at most. -/
theorem foldl_only {α β : Type} [DecidableEq β] {f : α → β → α} {l : List β} {a : α} {b : β} (hl : l.Nodup) (hb : b ∈ l)
    (h1 : ∀ x ∈ l, x ≠ b → f a x = a) (h2 : ∀ x ∈ l, x ≠ b → f (f a b) x = f a b) : l.foldl f a = f a b := by
  have hstill : ∀ (l : List β) (a : α), (∀ x ∈ l, f a x = a) → l.foldl f a = a := by
    intro l a h
    induction l with
    | nil => rfl
    | cons x l ih => rw [List.foldl_cons, h x (.head _), ih fun y hy => h y (.tail _ hy)]
  induction l with
  | nil => exact absurd hb (by simp)
  | cons x l ih =>
    obtain ⟨hx, hl⟩ := List.nodup_cons.mp hl
    rw [List.foldl_cons]
    by_cases hxb : x = b
    · subst hxb
      exact hstill l _ fun y hy => h2 y (.tail _ hy) fun h => hx (h ▸ hy)
    · rw [h1 x (.head _) hxb]
      exact ih hl ((List.mem_cons.mp hb).resolve_left (Ne.symm hxb)) (fun y hy => h1 y (.tail _ hy)) fun y hy => h2 y (.tail _ hy)

section

variable {c n vc num tseq : Nat} {valid : Bool} {w h sof : Nat} {s : State}

/-- The state of the slots once they have met a FRAME_START. -/
def State.frameTurned (s : State) (n vc num tseq : Nat) (valid : Bool) (sof : Nat) : State :=
  (List.range 24).foldl (fun s c => s.ctxChange n vc c) (s.frameNoted n vc num tseq valid sof)

theorem frameStart_served (hfind : (List.range 24).find? (fun c =>
    ctxServes ((s.frameTurned n vc num tseq valid sof).ctx c).conf c n vc) = some c) :
    s.frameStart n vc num tseq valid w h sof = (s.frameTurned n vc num tseq valid sof).frmOpen c n vc num tseq valid w h sof := by
  unfold State.frameStart
  extract_lets _ s0 s1 _ s2 s3
  have hs3 : s3 = s.frameTurned n vc num tseq valid sof := by unfold State.frameTurned State.frameNoted; with_reducible rfl
  rw [hs3, hfind]

theorem frameStart_unserved (hfind : (List.range 24).find? (fun c =>
    ctxServes ((s.frameTurned n vc num tseq valid sof).ctx c).conf c n vc) = none) :
    s.frameStart n vc num tseq valid w h sof = (s.frameTurned n vc num tseq valid sof).raise 0x0A0E n [] := by
  unfold State.frameStart
  extract_lets _ s0 s1 _ s2 s3
  have hs3 : s3 = s.frameTurned n vc num tseq valid sof := by unfold State.frameTurned State.frameNoted; with_reducible rfl
  rw [hs3, hfind]

theorem ctxChange_idle {u : State} {k : Nat} (hcfg : ctxServes u.cfg k n vc = false) (hconf : ctxServes (u.ctx k).conf k n vc = false) :
    u.ctxChange n vc k = u := by
  unfold State.ctxChange
  rw [hcfg]
  exact (if_neg (by simp)).trans (if_neg (by simp [hconf]))

theorem ctxChange_adopts {u : State} (hcfg : ctxServes u.cfg c n vc = true) (hopen : (u.ctx c).opened = none) :
    u.ctxChange n vc c = u.ctxAdopt c := by
  unfold State.ctxChange
  rw [hcfg, frmClose_none hopen]
  exact (if_pos rfl).trans (by rw [ite_self])

theorem find_only {α : Type} {p : α → Bool} {l : List α} {a : α} (ha : a ∈ l) (hp : p a = true)
    (h : ∀ x ∈ l, x ≠ a → p x = false) : l.find? p = some a := by
  induction l with
  | nil => exact absurd ha (by simp)
  | cons x l ih =>
    by_cases hx : x = a
    · subst hx
      exact List.find?_cons_of_pos hp
    · rw [List.find?_cons_of_neg (by simp [h x (.head _) hx])]
      exact ih ((List.mem_cons.mp ha).resolve_left (Ne.symm hx)) fun y hy => h y (.tail _ hy)

theorem Noted.ctx {u : State} (h : Noted n vc sof num s u) (k : Nat) : u.ctx k = s.ctx k := by
  rw [State.ctx, show u.ctxs = s.ctxs from (congrArg State.ctxs h.rest :)]
  rfl

theorem Noted.active {u : State} (h : Noted n vc sof num s u) : u.active = s.active := (congrArg State.active h.rest :)

/-- No slot but `c` serves the pair, now or by its settings. -/
def OnlySlot (s : State) (c n vc : Nat) : Prop :=
  ∀ k, k < 24 → k ≠ c → ctxServes s.cfg k n vc = false ∧ ctxServes (s.ctx k).conf k n vc = false

theorem OnlySlot.idle (h : OnlySlot s c n vc) {u : State} (hact : u.active = s.active) (hctx : ∀ k, k ≠ c → u.ctx k = s.ctx k) :
    ∀ k ∈ List.range 24, k ≠ c → u.ctxChange n vc k = u := fun k hk hne => by
  obtain ⟨hcfg, hconf⟩ := h k (List.mem_range.mp hk) hne
  exact ctxChange_idle ((ctxServes_active hact ..).trans hcfg) (by rw [hctx k hne]; exact hconf)

section

variable (honly : OnlySlot s c n vc) (hc : c < 24)
include honly hc

theorem frameTurned_adopts (hserves : ctxServes s.cfg c n vc = true) (hopen : (s.ctx c).opened = none) :
    s.frameTurned n vc num tseq valid sof = (s.frameNoted n vc num tseq valid sof).ctxAdopt c ∧
    (List.range 24).find? (fun k => ctxServes ((s.frameTurned n vc num tseq valid sof).ctx k).conf k n vc) = some c := by
  obtain ⟨u, hu⟩ : ∃ u, u = s.frameNoted n vc num tseq valid sof := ⟨_, rfl⟩
  have hnoted := frameNoted_noted s n vc num tseq valid sof
  rw [← hu] at hnoted
  have hself : u.ctxChange n vc c = u.ctxAdopt c :=
    ctxChange_adopts ((ctxServes_active hnoted.active ..).trans hserves) (by rw [hnoted.ctx]; exact hopen)
  have hothers : ∀ k, k ≠ c → (u.ctxAdopt c).ctx k = s.ctx k := fun k hk => (ctx_setCtx_ne _ _ hk).trans (hnoted.ctx k)
  have hturned : s.frameTurned n vc num tseq valid sof = u.ctxAdopt c := by
    unfold State.frameTurned
    rw [← hu, foldl_only List.nodup_range (List.mem_range.mpr hc) (honly.idle hnoted.active fun k _ => hnoted.ctx k), hself]
    rw [hself]
    exact honly.idle hnoted.active hothers
  refine ⟨hturned.trans (by rw [hu]), ?_⟩
  rw [hturned]
  refine find_only (List.mem_range.mpr hc) ?_ fun k hk hne => ?_
  · rw [State.ctxAdopt, ctx_setCtx]
    exact (ctxServes_adopted u hc n vc).trans ((ctxServes_active hnoted.active ..).trans hserves)
  · rw [hothers k hne]
    exact (honly k (List.mem_range.mp hk) hne).2

theorem frameTurned_idle (hcfg : ctxServes s.cfg c n vc = false) (hconf : ctxServes (s.ctx c).conf c n vc = false) :
    s.frameTurned n vc num tseq valid sof = s.frameNoted n vc num tseq valid sof ∧
    (List.range 24).find? (fun k => ctxServes ((s.frameTurned n vc num tseq valid sof).ctx k).conf k n vc) = none := by
  obtain ⟨u, hu⟩ : ∃ u, u = s.frameNoted n vc num tseq valid sof := ⟨_, rfl⟩
  have hnoted := frameNoted_noted s n vc num tseq valid sof
  rw [← hu] at hnoted
  have hself : u.ctxChange n vc c = u :=
    ctxChange_idle ((ctxServes_active hnoted.active ..).trans hcfg) (by rw [hnoted.ctx]; exact hconf)
  have hidle := honly.idle hnoted.active fun k _ => hnoted.ctx k
  have hturned : s.frameTurned n vc num tseq valid sof = u := by
    unfold State.frameTurned
    rw [← hu, foldl_only List.nodup_range (List.mem_range.mpr hc) hidle, hself]
    rw [hself]
    exact hidle
  refine ⟨hturned.trans hu, List.find?_eq_none.mpr fun k hk => ?_⟩
  rw [hturned, hnoted.ctx]
  by_cases hne : k = c
  · rw [hne, hconf]
    decide
  · rw [(honly k (List.mem_range.mp hk) hne).2]
    decide

end

end

section

variable {link c : Fin 24} {vc : Fin 4} {τ : Nat} {s : State} {num : Word} {tseq : BitVec 8} {valid : Bool} {w h : BitVec 16}
  (hvideo : s.videoOn link = true) (harm : s.epoch.armed = none)
  (honly : ∀ k, k < 24 → k ≠ c.val → ctxServes s.cfg k link vc = false ∧ ctxServes (s.ctx k).conf k link vc = false)
include hvideo harm

theorem frameStart_row : exec (.frameStart link vc num tseq valid w h τ) s =
    .next ((s.at τ).frameStart link vc num.toNat tseq.toNat valid w.toNat h.toNat (s.devAt τ)) := by
  refine congrArg Host.Outcome.next ((if_pos hvideo).trans ?_)
  unfold State.startPacket State.epochFrame
  rw [show (s.at τ).epoch.armed = none from harm]

include honly

theorem frameStart_opens (hserves : ctxServes s.cfg c link vc = true) (hopen : (s.ctx c).opened = none) :
    Answers (exec (.frameStart link vc num tseq valid w h τ) s) fun t =>
      ∃ m : Frm, (t.ctx c).opened = some m ∧ m.num = num.toNat ∧ m.tseq = tseq.toNat ∧ m.link = link ∧ m.vc = vc ∧
        m.sof = s.devAt τ ∧ m.start = max s.now τ ∧ m.use = s.slotUse c ∧ m.lines = [] ∧ m.last = none ∧
        m.flags = 32 * b2n (decide (w.toNat ≠ m.conf (CTX.GEOM_WIDTH c) ∨ h.toNat ≠ m.conf (CTX.GEOM_HEIGHT c))) + 128 * b2n valid ∧
        t.rd (CTX.STAT_OPEN c) = 1 ∧ t.rd (LNK.SOF_TIME_TIME link) = s.devAt τ % 2 ^ 32 ∧ vc.val ∈ (t.link link).open_ ∧
        AMap.get 0 t.lastFrame (4 * link + vc) = num.toNat + 1 ∧ t.mems = s.mems ∧ ∀ k, k ≠ c.val → t.ctx k = s.ctx k := by
  have hfind := frameTurned_adopts (s := s.at τ) (num := num.toNat) (tseq := tseq.toNat) (valid := valid) (sof := s.devAt τ)
    honly c.isLt hserves hopen
  have hnoted := frameNoted_noted (s.at τ) link vc num.toNat tseq.toNat valid (s.devAt τ)
  refine ⟨_, (frameStart_row hvideo harm).trans (congrArg _ (frameStart_served hfind.2)), ?_⟩
  rw [hfind.1]
  obtain ⟨u, hu⟩ : ∃ u, u = (s.at τ).frameNoted link vc num.toNat tseq.toNat valid (s.devAt τ) := ⟨_, rfl⟩
  rw [← hu] at hnoted ⊢
  have huse : u.slotUse c = s.slotUse c := by
    unfold State.slotUse State.snapshot
    rw [hnoted.active]
    rfl
  have hctx : (u.ctxAdopt c).ctx c = { s.ctx c with use := s.slotUse c } := by
    rw [State.ctxAdopt, ctx_setCtx, hnoted.ctx, huse]
    rfl
  have hopen' : ((u.ctxAdopt c).ctx c).opened = none := by
    rw [hctx]
    exact hopen
  obtain ⟨m, hm, hnum, htseq, hlink, hvc, hsof, hstart, huse', hlines, hlast, hflags, hstat, hfed, hothers, hmems⟩ :=
    frmOpen_opens (link := link) (vc := vc) (num := num.toNat) (tseq := tseq.toNat) (valid := valid) (w := w.toNat) (h := h.toNat)
      (sof := s.devAt τ) hopen'
  have hnow : u.now = max s.now τ := (congrArg State.now hnoted.rest :)
  refine ⟨m, hm, hnum, htseq, hlink, hvc, hsof, hstart.trans hnow, huse'.trans (by rw [hctx]), hlines, hlast, hflags, hstat, ?_, ?_, ?_,
    hmems.trans (congrArg State.mems hnoted.rest :), fun k hk => (hothers k hk).trans ((ctx_setCtx_ne _ _ hk).trans (hnoted.ctx k))⟩
  · refine (hfed.regs _ ?_ ?_).trans hnoted.stamp
    · simp only [AsideKey, LNK.SOF_TIME_TIME, Fld.key]
      omega
    · simp only [SlotKey, LNK.SOF_TIME_TIME, Fld.key]
      omega
  · rw [link_of_links hfed.links]
    exact hnoted.open_
  · rw [show _ = u.lastFrame from (congrArg State.lastFrame hfed.rest :), hnoted.last, amap_get_set_same]

theorem frameStart_lost (hcfg : ctxServes s.cfg c link vc = false) (hconf : ctxServes (s.ctx c).conf c link vc = false) :
    Answers (exec (.frameStart link vc num tseq valid w h τ) s) fun t =>
      t.ctxs = s.ctxs ∧ t.rd (LNK.SOF_TIME_TIME link) = s.devAt τ % 2 ^ 32 ∧ t.mems = s.mems := by
  have hfind := frameTurned_idle (s := s.at τ) (num := num.toNat) (tseq := tseq.toNat) (valid := valid) (sof := s.devAt τ)
    honly c.isLt hcfg hconf
  have hnoted := frameNoted_noted (s.at τ) link vc num.toNat tseq.toNat valid (s.devAt τ)
  refine ⟨_, (frameStart_row hvideo harm).trans (congrArg _ (frameStart_unserved hfind.2)), ?_⟩
  rw [hfind.1]
  obtain ⟨u, hu⟩ : ∃ u, u = (s.at τ).frameNoted link vc num.toNat tseq.toNat valid (s.devAt τ) := ⟨_, rfl⟩
  rw [← hu] at hnoted ⊢
  obtain ⟨x, hx⟩ := raise_eq u 0x0A0E link []
  rw [hx]
  exact ⟨(congrArg State.ctxs hnoted.rest :), hnoted.stamp, (congrArg State.mems hnoted.rest :)⟩

end

end Sys2Proof.Machine

end

section

/-! CERTIFICATE. Lines, embedded data and the end of a frame (R148 to R157). -/

namespace Sys2Proof.Machine

/-! ### Frames of a slot under change -/

/-- A slot whose frames of one serial number change. -/
def Ctx.upd (x : Ctx) (serial : Nat) (g : Frm → Frm) : Ctx :=
  { x with frames := x.frames.map fun m => if m.serial = serial then g m else m }

theorem ctx_updFrm (s : State) (c serial : Nat) (g : Frm → Frm) : (s.updFrm c serial g).ctx c = (s.ctx c).upd serial g :=
  ctx_setCtx ..

theorem Ctx.InFrame.upd {x : Ctx} {m : Frm} (h : x.InFrame m) {g : Frm → Frm} (hserial : ∀ z, (g z).serial = z.serial)
    (hclosed : ∀ z, (g z).closed = z.closed) : (x.upd m.serial g).InFrame (g m) := by
  obtain ⟨hopen, hfind⟩ := h
  have hmap : ∀ (p : Frm → Bool), (∀ z, p (g z) = p z) → x.frames.find? p = some m →
      (x.upd m.serial g).frames.find? p = some (g m) := fun p hp hm => by
    have hfun : (p ∘ fun z => if z.serial = m.serial then g z else z) = p := by
      funext z
      show p (if z.serial = m.serial then g z else z) = p z
      split
      · exact hp z
      · rfl
    rw [Ctx.upd, List.find?_map, hfun, hm]
    exact congrArg some (if_pos rfl)
  refine ⟨hmap _ (fun z => by rw [hclosed]) hopen, hmap _ (fun z => ?_) ?_⟩
  · rw [hserial]
  · rw [hserial]
    exact hfind

theorem frm_of_find {s : State} {c k : Nat} {m : Frm} (h : (s.ctx c).frames.find? (fun z => z.serial == k) = some m) : s.frm c k = m := by
  rw [State.frm, h]
  rfl

/-! ### What a line leaves -/

/-- A counter of lost lines after `k` more. -/
def lostAfter (r k : Nat) : Nat := if k = 0 then r else min (r + k) 65535

theorem lostAfter_add (r j k : Nat) : lostAfter (lostAfter r j) k = lostAfter r (j + k) := by
  unfold lostAfter
  split_ifs <;> omega

/-- From `s` the slot `c` has come to `x` and lost `k` lines. -/
structure LineAt (c : Nat) (s t : State) (x : Ctx) (k : Nat) : Prop where
  ctx : t.ctx c = x
  lost : t.rd (CTX.CNT1_LOST_LINES c) = lostAfter (s.rd (CTX.CNT1_LOST_LINES c)) k
  ovf : t.rd (CTX.CNT3_LINEBUF_OVF c) = s.rd (CTX.CNT3_LINEBUF_OVF c)
  fed : Fed c s t

theorem LineAt.refl (c : Nat) (s : State) : LineAt c s s (s.ctx c) 0 := ⟨rfl, rfl, rfl, Fed.refl c s⟩

section

variable {c : Nat} {s t : State} {x : Ctx} {k : Nat} (h : LineAt c s t x k)
include h

theorem LineAt.setCtx (y : Ctx) : LineAt c s (t.setCtx c y) y k := ⟨ctx_setCtx .., h.lost, h.ovf, h.fed.setCtx y⟩

theorem LineAt.updFrm (serial : Nat) (g : Frm → Frm) : LineAt c s (t.updFrm c serial g) (x.upd serial g) k := by
  refine ⟨?_, h.lost, h.ovf, h.fed.updFrm ..⟩
  rw [ctx_updFrm, h.ctx]

theorem LineAt.wr {f : Fld} (v : Nat) (hslot : SlotKey c f.key) (hlost : f.key ≠ (CTX.CNT1_LOST_LINES c).key)
    (hovf : f.key ≠ (CTX.CNT3_LINEBUF_OVF c).key) : LineAt c s (t.wr f v) x k :=
  ⟨h.ctx, (rd_wr_ne t v hlost.symm).trans h.lost, (rd_wr_ne t v hovf.symm).trans h.ovf, h.fed.wr v hslot⟩

theorem LineAt.aside (hc : c < 24) {u : State} (hu : Aside t u) : LineAt c s u x k := by
  refine ⟨(hu.ctx c).trans h.ctx, (hu.regs _ ?_).trans h.lost, (hu.regs _ ?_).trans h.ovf, h.fed.aside hu⟩
  · simp only [AsideKey, CTX.CNT1_LOST_LINES, Fld.key]
    omega
  · simp only [AsideKey, CTX.CNT3_LINEBUF_OVF, Fld.key]
    omega

theorem LineAt.frmEvent (hc : c < 24) (code i num : Nat) : LineAt c s (t.frmEvent code i num) x k :=
  h.aside hc ((Aside.refl t).raiseBy ..)

theorem LineAt.fillDue : ∃ q, LineAt c s (t.fillDue c) { x with fillQ := q } k := by
  unfold State.fillDue
  extract_lets p y old new
  by_cases hp : p = c
  · refine ⟨old ++ new, ?_⟩
    have hy : y = x := by unfold y; rw [hp, h.ctx]
    rw [hp, hy]
    exact h.setCtx _
  · refine ⟨x.fillQ, ?_⟩
    exact ⟨(ctx_setCtx_ne _ _ (Ne.symm hp)).trans h.ctx, h.lost, h.ovf, h.fed.fillQ p (old ++ new)⟩

theorem LineAt.countLost (j : Nat) (hj : j ≠ 0) : LineAt c s (t.addSat (CTX.CNT1_LOST_LINES c) j) x (k + j) := by
  refine ⟨h.ctx, ?_, (rd_wr_ne t _ (by simp only [CTX.CNT1_LOST_LINES, CTX.CNT3_LINEBUF_OVF, Fld.key]; omega)).trans h.ovf,
    h.fed.addSat j (by simp only [SlotKey, CTX.CNT1_LOST_LINES, Fld.key]; omega)⟩
  refine (rd_wr_same _ _ _).trans ((min_mod_counter _ 16).trans ?_)
  rw [h.lost, ← lostAfter_add]
  exact (if_neg hj).symm

theorem LineAt.times (hc : c < 24) (code num j : Nat) : LineAt c s (t.times (fun s => s.frmEvent code c num) j) x k := by
  induction j generalizing t with
  | zero => exact h
  | succ j ih => exact ih (h.frmEvent hc ..)

/-- Lines passed over are counted at their frame and at the slot. -/
theorem LineAt.loseLines (hc : c < 24) (m : Frm) (j : Nat) : LineAt c s (t.loseLines c m j)
    (if j = 0 then x else x.upd m.serial fun z => { z with lost := min (z.lost + j) 65535 }) (k + j) := by
  unfold State.loseLines
  split
  next hj =>
    subst hj
    exact h
  next hj => exact ((h.updFrm ..).countLost j hj).times hc ..

end

/-- A slot in whose frame only the counts of its lines have changed. -/
structure SameFrame (x y : Ctx) (m n : Frm) : Prop where
  frame : y.InFrame n
  serial : n.serial = m.serial
  use : n.use = m.use
  recv : y.recv = x.recv
  ready : y.ready = x.ready
  injDrop : y.injDrop = x.injDrop

theorem SameFrame.refl {x : Ctx} {m : Frm} (h : x.InFrame m) : SameFrame x x m m := ⟨h, rfl, rfl, rfl, rfl, rfl⟩

theorem SameFrame.upd {x y : Ctx} {m n : Frm} (h : SameFrame x y m n) {g : Frm → Frm} (hserial : ∀ z, (g z).serial = z.serial)
    (hclosed : ∀ z, (g z).closed = z.closed) (huse : ∀ z, (g z).use = z.use) : SameFrame x (y.upd m.serial g) m (g n) := by
  have hframe := h.frame.upd hserial hclosed
  rw [h.serial] at hframe
  exact ⟨hframe, (hserial n).trans h.serial, (huse n).trans h.use, h.recv, h.ready, h.injDrop⟩

section

variable {c : Nat} {s : State} {x : Ctx} {m : Frm}

theorem conf_of_use {m n : Frm} (h : n.use = m.use) : n.conf = m.conf := by
  unfold Frm.conf
  rw [h]

/-- A line that a frame still expects: the lines before it are lost, and it is the last one met. -/
theorem lineNew_expected {t : State} {k : Nat} (hc : c < 24) (h : LineAt c s t x k) (hin : x.InFrame m) {num ofs fmt : Nat} {px : List (Option Nat)}
    {bad cut : Bool} (hnum : num < ctxH m.conf c) (hnext : m.nextLine ≤ num) : ∃ u y n,
      LineAt c s u y (k + (num - m.nextLine)) ∧ SameFrame x y m n ∧
      t.lineNew c m.serial num ofs fmt px bad cut =
        if fmt ≠ m.conf (CTX.SRC_FMT c) then u.loseLines c m 1 else u.linePart c m { num := num } ofs px bad cut := by
  have hfrm : t.frm c m.serial = m := frm_of_find (by rw [h.ctx]; exact hin.2)
  have hlast : ¬((m.last.elim false fun k => decide (num ≤ k)) = true) := by
    unfold Frm.nextLine at hnext
    cases hm : m.last <;> simp [hm] at hnext ⊢
    omega
  have hlost := h.loseLines hc m (num - m.nextLine)
  have hsame : ∃ n, SameFrame x (if num - m.nextLine = 0 then x else
      x.upd m.serial fun z => { z with lost := min (z.lost + (num - m.nextLine)) 65535 }) m n := by
    split
    · exact ⟨m, .refl hin⟩
    · exact ⟨_, (SameFrame.refl hin).upd (fun _ => rfl) (fun _ => rfl) fun _ => rfl⟩
  obtain ⟨n, hn⟩ := hsame
  generalize (if num - m.nextLine = 0 then x else x.upd m.serial fun z => { z with lost := min (z.lost + (num - m.nextLine)) 65535 }) = x1
    at hlost hn
  have hmark := (hlost.updFrm m.serial fun z => { z with last := some num })
  have hmark' := hn.upd (g := fun z => { z with last := some num }) (fun _ => rfl) (fun _ => rfl) fun _ => rfl
  have hfill := LineAt.fillDue (hmark.setCtx { x1.upd m.serial fun z => { z with last := some num } with tail := none })
  obtain ⟨q, hq⟩ := hfill
  refine ⟨_, _, _, hq, ⟨hmark'.frame, hmark'.serial, hmark'.use, hmark'.recv, hmark'.ready, hmark'.injDrop⟩, ?_⟩
  unfold State.lineNew
  rw [hfrm]
  extract_lets m1 s1 s2 y s3
  refine (if_neg (Nat.not_le.mpr hnum)).trans ((if_neg hlast).trans ?_)
  have hs3 : s3 = (((t.loseLines c m (num - m.nextLine)).updFrm c m.serial fun z => { z with last := some num }).setCtx c
      { x1.upd m.serial fun z => { z with last := some num } with tail := none }).fillDue c := by
    have hy : y = x1.upd m.serial fun z => { z with last := some num } := hmark.ctx
    rw [← hy]
    rfl
  rw [hs3]

/-- A packet's pixels join the line being received. -/
theorem linePart_places {t : State} {y : Ctx} {n : Frm} {k : Nat} (hc : c < 24) (h : LineAt c s t y k) (hsame : SameFrame x y m n)
    {l : RecvLine} {ofs : Nat} {px : List (Option Nat)} {bad cut : Bool} : ∃ u z n', LineAt c s u z k ∧
      SameFrame { x with recv := some { l with px := (placePx l.px ofs px).take (ctxW m.conf c), bad := l.bad || bad } } z m n' ∧
      t.linePart c m l ofs px bad cut =
        if ctxW m.conf c ≤ (placePx l.px ofs px).length ∨ cut = true ∨ px.length % 8 ≠ 0 then u.lineDone c else u := by
  unfold State.linePart
  extract_lets w all s1 s2 v s3
  have hs1 : LineAt c s s1 y k := by
    unfold s1
    split
    · exact (h.wr _ (by simp only [SlotKey, CTX.CNT2_LINE_WIDTH, Fld.key]; omega)
        (by simp only [CTX.CNT2_LINE_WIDTH, CTX.CNT1_LOST_LINES, Fld.key]; omega)
        (by simp only [CTX.CNT2_LINE_WIDTH, CTX.CNT3_LINEBUF_OVF, Fld.key]; omega)).frmEvent hc ..
    · exact h
  have hs2 : ∃ y' n', LineAt c s s2 y' k ∧ SameFrame x y' m n' := by
    unfold s2
    split
    · exact ⟨_, _, (hs1.updFrm ..).wr _ (by simp only [SlotKey, CTX.CNT1_DAMAGED, Fld.key]; omega)
        (by simp only [CTX.CNT1_DAMAGED, CTX.CNT1_LOST_LINES, Fld.key]; omega)
        (by simp only [CTX.CNT1_DAMAGED, CTX.CNT3_LINEBUF_OVF, Fld.key]; omega),
        hsame.upd (fun _ => rfl) (fun _ => rfl) fun _ => rfl⟩
    · exact ⟨y, n, hs1, hsame⟩
  obtain ⟨y', n', hs2, hsame'⟩ := hs2
  have hv : v = y' := hs2.ctx
  refine ⟨s3, _, n', hs2.setCtx _, ⟨?_, hsame'.serial, hsame'.use, rfl, ?_, ?_⟩, rfl⟩
  · rw [hv]
    exact hsame'.frame
  · rw [hv]
    exact hsame'.ready
  · rw [hv]
    exact hsame'.injDrop

theorem lineDone_eq {t : State} {z : Ctx} {n : Frm} {l : RecvLine} (hctx : t.ctx c = z) (hrecv : z.recv = some l) (hin : z.InFrame n)
    (hw : ctxW n.conf c ≤ l.px.length) : t.lineDone c =
      (let s0 := t.setCtx c { z with recv := none }
       if z.injDrop = true ∨ z.ready.isSome = true then
         (((s0.setCtx c { z with recv := none, injDrop := false }).addSat (CTX.CNT3_LINEBUF_OVF c) 1).frmEvent 0x0A08 c n.num).loseLines c n 1
       else
         (s0.memWrite (.line (c / 2)) (lineBufAt c) (List.replicate (2 * ctxW n.conf c) 0)).setCtx c
           { z with recv := none, ready := some (n.serial, l.num, { px := l.px.take (ctxW n.conf c), dam := l.bad, at_ := t.dev }) }) := by
  unfold State.lineDone
  rw [hctx]
  dsimp only
  rw [hrecv, hin.1]
  have hpx : (l.px ++ List.replicate (ctxW n.conf c - l.px.length) none).take (ctxW n.conf c) = l.px.take (ctxW n.conf c) :=
    List.take_append_of_le_length hw
  dsimp only
  rw [if_neg (Nat.not_lt.mpr hw), hpx, ctx_setCtx]

/-- A complete line waits for its turn. -/
theorem lineDone_waits {t : State} {z : Ctx} {n : Frm} {k : Nat} (hc : c < 24) (h : LineAt c s t z k) {l : RecvLine}
    (hrecv : z.recv = some l) (hin : z.InFrame n) (hw : ctxW n.conf c ≤ l.px.length) (hready : z.ready = none)
    (hdrop : z.injDrop = false) : LineAt c s (t.lineDone c)
      { z with recv := none, ready := some (n.serial, l.num, { px := l.px.take (ctxW n.conf c), dam := l.bad, at_ := t.dev }) } k := by
  rw [lineDone_eq h.ctx hrecv hin hw]
  dsimp only
  rw [if_neg (by simp [hready, hdrop])]
  exact ((h.setCtx _).aside hc ((Aside.refl _).memWriteTo (charted_line (by omega)) ..)).setCtx _

/-- A complete line that finds another waiting is lost. -/
theorem lineDone_drops {t : State} {z : Ctx} {n : Frm} {k : Nat} (hc : c < 24) (h : LineAt c s t z k) {l : RecvLine}
    (hrecv : z.recv = some l) (hin : z.InFrame n) (hw : ctxW n.conf c ≤ l.px.length) (hready : z.ready.isSome = true) :
    ((t.lineDone c).ctx c).recv = none ∧ ((t.lineDone c).ctx c).ready = z.ready ∧
    (t.lineDone c).rd (CTX.CNT1_LOST_LINES c) = lostAfter (s.rd (CTX.CNT1_LOST_LINES c)) (k + 1) ∧
    (t.lineDone c).rd (CTX.CNT3_LINEBUF_OVF c) = min (s.rd (CTX.CNT3_LINEBUF_OVF c) + 1) 65535 := by
  rw [lineDone_eq h.ctx hrecv hin hw]
  dsimp only
  rw [if_pos (.inr hready)]
  have hcleared := (h.setCtx { z with recv := none }).setCtx { z with recv := none, injDrop := false }
  generalize (t.setCtx c { z with recv := none }).setCtx c { z with recv := none, injDrop := false } = u at hcleared
  have hend := ((LineAt.refl c (u.addSat (CTX.CNT3_LINEBUF_OVF c) 1)).frmEvent hc 0x0A08 c n.num).loseLines hc n 1
  have huctx : (u.addSat (CTX.CNT3_LINEBUF_OVF c) 1).ctx c = { z with recv := none, injDrop := false } := hcleared.ctx
  rw [huctx] at hend
  refine ⟨?_, ?_, ?_, ?_⟩
  · rw [hend.ctx]
    rfl
  · rw [hend.ctx]
    rfl
  · rw [hend.lost, rd_addSat_ne _ _ (by simp only [CTX.CNT1_LOST_LINES, CTX.CNT3_LINEBUF_OVF, Fld.key]; omega), hcleared.lost,
      lostAfter_add]
  · rw [hend.ovf]
    refine (rd_wr_same _ _ _).trans ((min_mod_counter _ 16).trans ?_)
    rw [hcleared.ovf]
    rfl

end

/-- A packet without a frame counts as an orphan. -/
theorem orphanPkt_eq (s : State) (c : Nat) (isEnd : Bool) : ∃ ev, s.orphanPkt c isEnd =
    { (s.addSat (CTX.CNT2_ORPHAN c) 1).setCtx c { s.ctx c with orphan := !isEnd } with events := ev } := by
  unfold State.orphanPkt
  dsimp only
  split
  · exact ⟨_, rfl⟩
  · unfold State.frmEvent State.raiseJoin State.raiseBy
    split <;> exact ⟨_, rfl⟩

/-! ### Line packets (R148 to R152) -/

section

variable {link c : Fin 24} {vc : Fin 4} {τ : Nat} {s : State} (hvideo : s.videoOn link = true)
include hvideo

section

variable {num ofs : BitVec 16} {fmt : BitVec 8} {data : List Byte} {bad cut : Bool} (hfmt : fmtValid fmt.toNat = true)
include hfmt

theorem line_row : exec (.line link vc num ofs fmt data bad cut τ) s =
    .next ((s.at τ).lineIn link vc num.toNat ofs.toNat fmt.toNat (data.map BitVec.toNat) bad cut) :=
  congrArg _ (if_pos ⟨hvideo, hfmt⟩)

theorem line_unserved (hserves : s.servers link vc = []) : exec (.line link vc num ofs fmt data bad cut τ) s = .next (s.at τ) := by
  rw [line_row hvideo hfmt]
  exact congrArg _ (congrArg (fun l => List.foldl _ (s.at τ) l) (show (s.at τ).servers link vc = [] from hserves))

variable (hserves : s.servers link vc = [c.val])
include hserves

theorem line_served : exec (.line link vc num ofs fmt data bad cut τ) s =
    .next ((s.at τ).lineArrive c num.toNat ofs.toNat fmt.toNat (data.map BitVec.toNat) bad cut) := by
  rw [line_row hvideo hfmt]
  exact congrArg _ (congrArg (fun l => List.foldl _ (s.at τ) l) (show (s.at τ).servers link vc = [c.val] from hserves))

end

section

variable {num ofs : BitVec 16} {fmt : BitVec 8} {data : List Byte} {bad cut : Bool} (hfmt : fmtValid fmt.toNat = true)
  (hserves : s.servers link vc = [c.val])
include hfmt hserves

theorem line_orphan (hopen : (s.ctx c).opened = none) : Answers (exec (.line link vc num ofs fmt data bad cut τ) s) fun t =>
    t.rd (CTX.CNT2_ORPHAN c) = min (s.rd (CTX.CNT2_ORPHAN c) + 1) 65535 ∧ t.ctx c = { s.ctx c with orphan := true } ∧
    OnlyRegs [CTX.CNT2_ORPHAN c] s { t with ctxs := s.ctxs, events := s.events } := by
  obtain ⟨ev, hev⟩ := orphanPkt_eq (s.at τ) c false
  have hrow : (s.at τ).lineArrive c num.toNat ofs.toNat fmt.toNat (data.map BitVec.toNat) bad cut = (s.at τ).orphanPkt c false := by
    unfold State.lineArrive
    rw [show ((s.at τ).ctx c).opened = none from hopen]
  refine ⟨_, (line_served hvideo hfmt hserves).trans (congrArg _ (hrow.trans hev)), (rd_wr_same _ _ _).trans (min_mod_counter _ 16),
    ctx_setCtx ((s.at τ).addSat (CTX.CNT2_ORPHAN c) 1) c _, keepsRegs_wr _ _ _, rfl⟩

section

variable {m : Frm} (hin : (s.ctx c).InFrame m)
include hin

/-- A packet that continues the line being received (R150). -/
theorem line_continues {l : RecvLine} (hrecv : (s.ctx c).recv = some l) (hnum : l.num = num.toNat)
    (hconf : fmt.toNat = m.conf (CTX.SRC_FMT c))
    (hlen : (placePx l.px ofs.toNat (pixelsOf fmt.toNat (data.map BitVec.toNat))).length < ctxW m.conf c)
    (hpx : (pixelsOf fmt.toNat (data.map BitVec.toNat)).length % 8 = 0) :
    Answers (exec (.line link vc num ofs fmt data bad false τ) s) fun t =>
      (t.ctx c).recv = some { l with px := placePx l.px ofs.toNat (pixelsOf fmt.toNat (data.map BitVec.toNat)), bad := l.bad || bad } ∧
      t.rd (CTX.CNT1_LOST_LINES c) = lostAfter (s.rd (CTX.CNT1_LOST_LINES c)) 0 := by
  obtain ⟨u, z, n', hu, hsame, hpart⟩ := linePart_places (ofs := ofs.toNat) (px := pixelsOf fmt.toNat (data.map BitVec.toNat))
    (bad := bad) (cut := false) (l := l) c.isLt (LineAt.refl c (s.at τ)) (SameFrame.refl hin)
  have hrow : (s.at τ).lineArrive c num.toNat ofs.toNat fmt.toNat (data.map BitVec.toNat) bad false = u := by
    refine Eq.trans ?_ (hpart.trans (if_neg (by simp only [hpx]; simpa using hlen)))
    unfold State.lineArrive
    rw [show ((s.at τ).ctx c).opened = some m from hin.1]
    dsimp only
    rw [show ((s.at τ).ctx c).recv = some l from hrecv]
    exact if_pos ⟨hnum, hconf⟩
  refine ⟨u, (line_served hvideo hfmt hserves).trans (congrArg _ hrow), ?_, hu.lost⟩
  rw [hu.ctx, hsame.recv, List.take_of_length_le hlen.le]

section

variable (hrecv : (s.ctx c).recv = none)
include hrecv

omit hvideo hfmt hserves in
theorem line_fresh : (s.at τ).lineArrive c num.toNat ofs.toNat fmt.toNat (data.map BitVec.toNat) bad cut =
    if s.isTail c m num.toNat ofs.toNat = true then (s.at τ).lineTail c m num.toNat
    else (s.at τ).lineNew c m.serial num.toNat ofs.toNat fmt.toNat (pixelsOf fmt.toNat (data.map BitVec.toNat)) bad cut := by
  unfold State.lineArrive
  rw [show ((s.at τ).ctx c).opened = some m from hin.1]
  dsimp only
  rw [show ((s.at τ).ctx c).recv = none from hrecv]
  rfl

/-- What a new line leads to, once the lines before it are lost (R151). -/
theorem line_begins (hnum : num.toNat < ctxH m.conf c) (hnext : m.nextLine ≤ num.toNat) (hofs : ofs = 0) : ∃ u y n,
    LineAt c (s.at τ) u y (num.toNat - m.nextLine) ∧ SameFrame (s.ctx c) y m n ∧
    exec (.line link vc num ofs fmt data bad cut τ) s = .next (if fmt.toNat ≠ m.conf (CTX.SRC_FMT c) then u.loseLines c m 1
      else u.linePart c m { num := num.toNat } 0 (pixelsOf fmt.toNat (data.map BitVec.toNat)) bad cut) := by
  have htail : ¬(s.isTail c m num.toNat ofs.toNat = true) := by
    have hw : 1 ≤ ctxW m.conf c := Nat.le_max_left _ _
    subst hofs
    simp only [State.isTail, Bool.and_eq_true, decide_eq_true_eq, not_and]
    intro _
    exact fun h => absurd (hw.trans h) (by decide)
  obtain ⟨u, y, n, hu, hsame, hnew⟩ := lineNew_expected (ofs := ofs.toNat) (fmt := fmt.toNat)
    (px := pixelsOf fmt.toNat (data.map BitVec.toNat)) (bad := bad) (cut := cut) c.isLt (LineAt.refl c (s.at τ)) hin hnum hnext
  rw [Nat.zero_add] at hu
  refine ⟨u, y, n, hu, hsame, (line_served hvideo hfmt hserves).trans (congrArg _
    ((line_fresh hin hrecv).trans ((if_neg htail).trans (hnew.trans ?_))))⟩
  rw [hofs]
  rfl

end

end

end

end

end Sys2Proof.Machine

end

section

/-! CERTIFICATE. Lines that begin, tails, embedded data (R148 to R157). -/

namespace Sys2Proof.Machine

theorem placePx_nil (px : List (Option Nat)) : placePx [] 0 px = px := by
  simp [placePx]

theorem frmEvent_eq (s : State) (code i num : Nat) : ∃ ev, s.frmEvent code i num = { s with events := ev } := by
  unfold State.frmEvent State.raiseJoin State.raiseBy
  split <;> exact ⟨_, rfl⟩

section

variable {link c : Fin 24} {vc : Fin 4} {τ : Nat} {s : State} (hvideo : s.videoOn link = true)
  {num ofs : BitVec 16} {fmt : BitVec 8} {data : List Byte} {bad : Bool} (hfmt : fmtValid fmt.toNat = true)
  (hserves : s.servers link vc = [c.val]) {m : Frm} (hin : (s.ctx c).InFrame m) (hrecv : (s.ctx c).recv = none)
  (hnum : num.toNat < ctxH m.conf c) (hnext : m.nextLine ≤ num.toNat) (hofs : ofs = 0)
include hvideo hfmt hserves hin hrecv hnum hnext hofs

/-- A line in another format is lost (R151). -/
theorem line_otherFormat (hconf : fmt.toNat ≠ m.conf (CTX.SRC_FMT c)) :
    Answers (exec (.line link vc num ofs fmt data bad false τ) s) fun t =>
      t.rd (CTX.CNT1_LOST_LINES c) = lostAfter (s.rd (CTX.CNT1_LOST_LINES c)) (num.toNat - m.nextLine + 1) ∧
      (t.ctx c).recv = none ∧ (t.ctx c).ready = (s.ctx c).ready := by
  obtain ⟨u, y, n, hu, hsame, hrow⟩ := line_begins (data := data) (bad := bad) (cut := false) (τ := τ) hvideo hfmt hserves hin hrecv hnum
    hnext hofs
  have hlost := hu.loseLines c.isLt m 1
  rw [if_neg one_ne_zero] at hlost
  refine ⟨_, hrow.trans (congrArg _ (if_pos hconf)), hlost.lost, ?_, ?_⟩
  · rw [hlost.ctx]
    exact hsame.recv.trans hrecv
  · rw [hlost.ctx]
    exact hsame.ready

/-- The first packet of a line, placed (R150). -/
theorem line_placed (hconf : fmt.toNat = m.conf (CTX.SRC_FMT c)) : ∃ u z n',
    LineAt c (s.at τ) u z (num.toNat - m.nextLine) ∧
    SameFrame { s.ctx c with recv := some { num := num.toNat, px := (pixelsOf fmt.toNat (data.map BitVec.toNat)).take (ctxW m.conf c),
                                            bad := bad } } z m n' ∧
    exec (.line link vc num ofs fmt data bad false τ) s =
      .next (if ctxW m.conf c ≤ (pixelsOf fmt.toNat (data.map BitVec.toNat)).length ∨
          (pixelsOf fmt.toNat (data.map BitVec.toNat)).length % 8 ≠ 0 then u.lineDone c else u) := by
  obtain ⟨u, y, n, hu, hsame, hrow⟩ := line_begins (data := data) (bad := bad) (cut := false) (τ := τ) hvideo hfmt hserves hin hrecv hnum
    hnext hofs
  obtain ⟨v, z, n', hv, hsame', hpart⟩ := linePart_places (ofs := 0) (px := pixelsOf fmt.toNat (data.map BitVec.toNat)) (bad := bad)
    (cut := false) (l := { num := num.toNat }) c.isLt hu hsame
  refine ⟨v, z, n', hv, ?_, hrow.trans (congrArg _ ((if_neg (not_not.mpr hconf)).trans (hpart.trans ?_)))⟩
  · have hpx := placePx_nil (pixelsOf fmt.toNat (data.map BitVec.toNat))
    simpa only [hpx, Bool.false_or] using hsame'
  · rw [placePx_nil]
    simp only [Bool.false_eq_true, false_or]

theorem line_short (hconf : fmt.toNat = m.conf (CTX.SRC_FMT c))
    (hlen : (pixelsOf fmt.toNat (data.map BitVec.toNat)).length < ctxW m.conf c)
    (hpx : (pixelsOf fmt.toNat (data.map BitVec.toNat)).length % 8 = 0) :
    Answers (exec (.line link vc num ofs fmt data bad false τ) s) fun t =>
      (t.ctx c).recv = some { num := num.toNat, px := pixelsOf fmt.toNat (data.map BitVec.toNat), bad := bad } ∧
      t.rd (CTX.CNT1_LOST_LINES c) = lostAfter (s.rd (CTX.CNT1_LOST_LINES c)) (num.toNat - m.nextLine) := by
  obtain ⟨u, z, n, hu, hsame, hrow⟩ := line_placed (data := data) (bad := bad) (τ := τ) hvideo hfmt hserves hin hrecv hnum hnext hofs hconf
  refine ⟨u, hrow.trans (congrArg _ (if_neg (by omega))), ?_, hu.lost⟩
  rw [hu.ctx, hsame.recv, List.take_of_length_le hlen.le]

theorem line_ready (hconf : fmt.toNat = m.conf (CTX.SRC_FMT c))
    (hlen : ctxW m.conf c ≤ (pixelsOf fmt.toNat (data.map BitVec.toNat)).length) (hready : (s.ctx c).ready = none)
    (hdrop : (s.ctx c).injDrop = false) : Answers (exec (.line link vc num ofs fmt data bad false τ) s) fun t =>
      (t.ctx c).recv = none ∧ (t.ctx c).ready = some (m.serial, num.toNat,
        { px := (pixelsOf fmt.toNat (data.map BitVec.toNat)).take (ctxW m.conf c), dam := bad, at_ := t.dev }) ∧
      t.rd (CTX.CNT1_LOST_LINES c) = lostAfter (s.rd (CTX.CNT1_LOST_LINES c)) (num.toNat - m.nextLine) := by
  obtain ⟨u, z, n, hu, hsame, hrow⟩ := line_placed (data := data) (bad := bad) (τ := τ) hvideo hfmt hserves hin hrecv hnum hnext hofs hconf
  have hw : ctxW n.conf c = ctxW m.conf c := by rw [conf_of_use hsame.use]
  have hdone := lineDone_waits c.isLt hu hsame.recv hsame.frame
    (by rw [hw, List.length_take]; exact le_min le_rfl hlen) (hsame.ready.trans hready) (hsame.injDrop.trans hdrop)
  refine ⟨_, hrow.trans (congrArg _ (if_pos (.inl hlen))), ?_, ?_, hdone.lost⟩
  · rw [hdone.ctx]
  · rw [hdone.ctx, hdone.fed.dev, ← hu.fed.dev]
    dsimp only
    rw [hw, hsame.serial, List.take_take, Nat.min_self]

theorem line_overflows (hconf : fmt.toNat = m.conf (CTX.SRC_FMT c))
    (hlen : ctxW m.conf c ≤ (pixelsOf fmt.toNat (data.map BitVec.toNat)).length) (hready : (s.ctx c).ready.isSome = true) :
    Answers (exec (.line link vc num ofs fmt data bad false τ) s) fun t =>
      (t.ctx c).recv = none ∧ (t.ctx c).ready = (s.ctx c).ready ∧
      t.rd (CTX.CNT1_LOST_LINES c) = lostAfter (s.rd (CTX.CNT1_LOST_LINES c)) (num.toNat - m.nextLine + 1) ∧
      t.rd (CTX.CNT3_LINEBUF_OVF c) = min (s.rd (CTX.CNT3_LINEBUF_OVF c) + 1) 65535 := by
  obtain ⟨u, z, n, hu, hsame, hrow⟩ := line_placed (data := data) (bad := bad) (τ := τ) hvideo hfmt hserves hin hrecv hnum hnext hofs hconf
  have hw : ctxW n.conf c = ctxW m.conf c := by rw [conf_of_use hsame.use]
  have hz : z.ready = (s.ctx c).ready := hsame.ready
  obtain ⟨hnone, hkept, hlost, hovf⟩ := lineDone_drops c.isLt hu hsame.recv hsame.frame
    (by rw [hw, List.length_take]; exact le_min le_rfl hlen) (by rw [hz]; exact hready)
  exact ⟨_, hrow.trans (congrArg _ (if_pos (.inl hlen))), hnone, hkept.trans hz, hlost, hovf⟩

end

section

variable {link c : Fin 24} {vc : Fin 4} {τ : Nat} {s : State} (hvideo : s.videoOn link = true)
  (hserves : s.servers link vc = [c.val]) {m : Frm} (hin : (s.ctx c).InFrame m)
include hvideo hserves hin

section

variable {num ofs : BitVec 16} {fmt : BitVec 8} {data : List Byte} {bad cut : Bool} (hfmt : fmtValid fmt.toNat = true)
  (hrecv : (s.ctx c).recv = none)
include hfmt hrecv

/-- A packet beyond the line's width counts once for its line (R150). -/
theorem line_tail (htail : s.isTail c m num.toNat ofs.toNat = true) :
    Answers (exec (.line link vc num ofs fmt data bad cut τ) s) fun t =>
      t.rd (CTX.CNT2_LINE_WIDTH c) = (if (s.ctx c).tail = some (num.toNat, true) then s.rd (CTX.CNT2_LINE_WIDTH c)
        else min (s.rd (CTX.CNT2_LINE_WIDTH c) + 1) 65535) ∧ t.ctx c = { s.ctx c with tail := some (num.toNat, true) } ∧
      OnlyRegs [CTX.CNT2_LINE_WIDTH c] s { t with ctxs := s.ctxs, events := s.events } := by
  refine ⟨_, (line_served hvideo hfmt hserves).trans (congrArg _ ((line_fresh hin hrecv).trans (if_pos htail))), ?_⟩
  unfold State.lineTail
  by_cases hcounted : (s.ctx c).tail = some (num.toNat, true)
  · have hrow : ((s.at τ).ctx c).tail = some (num.toNat, true) := hcounted
    dsimp only
    rw [if_pos hrow, if_pos hcounted]
    refine ⟨rfl, ?_, fun _ _ => rfl, rfl⟩
    rw [← hcounted]
    rfl
  · have hrow : ¬((s.at τ).ctx c).tail = some (num.toNat, true) := hcounted
    dsimp only
    rw [if_neg hrow, if_neg hcounted]
    obtain ⟨ev, hev⟩ := frmEvent_eq (((s.at τ).setCtx c { (s.at τ).ctx c with tail := some (num.toNat, true) }).addSat
      (CTX.CNT2_LINE_WIDTH c) 1) 0x0A07 c m.num
    rw [hev]
    exact ⟨(rd_wr_same _ _ _).trans (min_mod_counter _ 16), ctx_setCtx (s.at τ) c _, keepsRegs_wr _ _ _, rfl⟩

/-- A packet of a line that is past (R151). -/
theorem line_past (htail : s.isTail c m num.toNat ofs.toNat = false) (hnum : num.toNat < ctxH m.conf c) (hnext : num.toNat < m.nextLine) :
    Answers (exec (.line link vc num ofs fmt data bad cut τ) s) fun t =>
      t.rd (CTX.CNT2_ORPHAN c) = min (s.rd (CTX.CNT2_ORPHAN c) + 1) 65535 ∧ t.ctxs = s.ctxs := by
  have hfrm : (s.at τ).frm c m.serial = m := frm_of_find hin.2
  have hlast : (m.last.elim false fun k => decide (num.toNat ≤ k)) = true := by
    unfold Frm.nextLine at hnext
    cases hm : m.last <;> simp [hm] at hnext ⊢
    omega
  have hnew : (s.at τ).lineNew c m.serial num.toNat ofs.toNat fmt.toNat (pixelsOf fmt.toNat (data.map BitVec.toNat)) bad cut =
      (s.at τ).addSat (CTX.CNT2_ORPHAN c) 1 := by
    unfold State.lineNew
    rw [hfrm]
    exact (if_neg (Nat.not_le.mpr hnum)).trans (if_pos hlast)
  exact ⟨_, (line_served hvideo hfmt hserves).trans (congrArg _ ((line_fresh hin hrecv).trans
    ((if_neg (by simp [htail])).trans hnew))), (rd_wr_same _ _ _).trans (min_mod_counter _ 16), rfl⟩

end

section

variable {index : BitVec 8} {data : List Byte} {mark : Bool}

theorem embedded_row : exec (.embedded link vc index data mark τ) s =
    .next (if 4 ≤ m.emb.length ∨ m.emb.any (fun e => e.1 == index.toNat) then s.at τ
      else (s.at τ).updFrm c m.serial fun m => { m with emb := m.emb ++ [(index.toNat, (data.map BitVec.toNat).take 4096, mark)] }) := by
  refine congrArg Host.Outcome.next ((if_pos hvideo).trans ?_)
  unfold State.embedIn
  rw [show (s.at τ).servers link vc = [c.val] from hserves]
  show (match ((s.at τ).ctx c).opened with | none => _ | some m => _) = _
  rw [show ((s.at τ).ctx c).opened = some m from hin.1]

theorem embedded_kept (hlen : m.emb.length < 4) (hnew : m.emb.any (fun e => e.1 == index.toNat) = false) :
    Answers (exec (.embedded link vc index data mark τ) s) fun t =>
      t.frm c m.serial = { m with emb := m.emb ++ [(index.toNat, (data.map BitVec.toNat).take 4096, mark)] } ∧
      OnlyRegs [] s { t with ctxs := s.ctxs } := by
  refine ⟨_, (embedded_row hvideo hserves hin).trans (congrArg _ (if_neg (by simp [hnew, hlen]))), ?_, fun _ _ => rfl, rfl⟩
  refine frm_of_find ?_
  rw [ctx_updFrm]
  exact (hin.upd (m := m) (g := fun m => { m with emb := m.emb ++ [(index.toNat, (data.map BitVec.toNat).take 4096, mark)] })
    (fun _ => rfl) (fun _ => rfl)).2

theorem embedded_full (hlen : 4 ≤ m.emb.length) : exec (.embedded link vc index data mark τ) s = .next (s.at τ) :=
  (embedded_row hvideo hserves hin).trans (congrArg _ (if_pos (.inl hlen)))

end

end

end Sys2Proof.Machine

end

section

/-! SUPPORT. What the writing of a settings set to a camera leaves alone (R80, R398). -/

namespace Sys2Proof.Machine

/-- Registers of the cameras and of the two-wire ports. -/
def SetKey (k : Nat) : Prop := (0x50100 * 32 ≤ k ∧ k < 0x50400 * 32) ∨ (0xD0000 * 32 ≤ k ∧ k < 0xD1000 * 32)

/-- From `s` to `t` only cameras, two-wire ports, what waits on a link and events have changed. -/
structure SetPath (s t : State) : Prop where
  regs : ∀ f : Fld, ¬SetKey f.key → t.rd f = s.rd f
  rest : { t with regs := s.regs, cams := s.cams, tw := s.tw, links := s.links, events := s.events, freeCount := s.freeCount,
                  w1cSet := s.w1cSet } = s
  open_ : ∀ k, (t.link k).open_ = (s.link k).open_

theorem SetPath.refl (s : State) : SetPath s s := ⟨fun _ _ => rfl, rfl, fun _ => rfl⟩

theorem link_open_set (s : State) (n : Nat) {l : Link} (h : l.open_ = (s.link n).open_) (k : Nat) :
    ((s.setLink n l).link k).open_ = (s.link k).open_ := by
  by_cases hk : k = n
  · rw [hk, link_setLink, h]
  · rw [link_setLink_ne _ _ hk]

theorem SetPath.trans {s t u : State} (h : SetPath s t) (h' : SetPath t u) : SetPath s u where
  regs f hf := (h'.regs f hf).trans (h.regs f hf)
  rest := by
    have := congrArg (fun x : State => { x with
      regs := s.regs, cams := s.cams, tw := s.tw, links := s.links, events := s.events, freeCount := s.freeCount,
      w1cSet := s.w1cSet }) h'.rest
    exact this.trans h.rest
  open_ k := (h'.open_ k).trans (h.open_ k)

section

variable {s t : State} (h : SetPath s t)
include h

theorem SetPath.wr {f : Fld} (v : Nat) (hf : SetKey f.key) : SetPath s (t.wr f v) :=
  h.trans ⟨fun _ hg => rd_wr_ne t v fun hkey => hg (hkey ▸ hf), rfl, fun _ => rfl⟩

theorem SetPath.addSat {f : Fld} (k : Nat) (hf : SetKey f.key) : SetPath s (t.addSat f k) := h.wr _ hf

theorem SetPath.set1 {f : Fld} (hf : SetKey f.key) : SetPath s (t.set1 f) := by
  obtain ⟨w, hw⟩ := set1_eq t f
  rw [hw]
  exact (h.wr _ hf).trans ⟨fun _ _ => rfl, rfl, fun _ => rfl⟩

theorem SetPath.raise (code idx : Nat) (v : List Nat) : SetPath s (t.raise code idx v) := by
  obtain ⟨x, hx⟩ := raise_eq t code idx v
  rw [hx]
  exact h.trans ⟨fun _ _ => rfl, rfl, fun _ => rfl⟩

theorem SetPath.setCam (c : Nat) (x : Cam) : SetPath s (t.setCam c x) := h.trans ⟨fun _ _ => rfl, rfl, fun _ => rfl⟩

theorem SetPath.setTwp (p : Nat) (x : TwPort) : SetPath s (t.setTwp p x) := h.trans ⟨fun _ _ => rfl, rfl, fun _ => rfl⟩

theorem SetPath.used : SetPath s t.used := h.trans ⟨fun _ _ => rfl, rfl, fun _ => rfl⟩

theorem SetPath.setLink (n : Nat) {l : Link} (hl : l.open_ = (t.link n).open_) : SetPath s (t.setLink n l) :=
  h.trans ⟨fun _ _ => rfl, rfl, link_open_set t n hl⟩

theorem SetPath.bcNext (n : Nat) : SetPath s (t.bcNext n) := by
  unfold State.bcNext
  dsimp only
  split
  · exact h
  · split
    · exact h
    next f _ =>
      unfold State.bcLaunch
      refine (h.setLink n ?_).setLink n ?_
      · rfl
      · rfl

theorem SetPath.bcSend (n : Nat) (f : BcFrame) : SetPath s (t.bcSend n f) := SetPath.bcNext (h.setLink n (by rfl)) n

theorem SetPath.twConfigDue (n : Nat) : SetPath s (t.twConfigDue n) := by
  unfold State.twConfigDue
  split
  · exact SetPath.bcSend (h.setLink n (by rfl)) ..
  · exact h

end

/-- A register of a camera. -/
theorem setKey_cam {c : Nat} (hc : c < 24) : SetKey (CAM.GEN c).key ∧ SetKey (CAM.GEN_SET c).key := by
  simp only [SetKey, CAM.GEN, CAM.GEN_SET, Fld.key]
  omega

/-- The registers of a two-wire port that a transaction writes. -/
def twFlds (p : Nat) : List Fld :=
  [TWB.STAT_LASTERR p, TWB.CNT0_XFER p, TWB.CNT0_NACK p, TWB.STAT_NACK_STKY p, TWB.CNT1_ARB_LOST p, TWB.STAT_ARB_STKY p,
   TWB.CNT2_PEC_ERR p, TWB.STAT_BUSY p, TWB.STAT_SCL_TMO_STKY p, TWB.STAT_SDA_TMO_STKY p, TWB.CNT1_TIMEOUT p, TWB.CNT2_CLEAR p,
   TWB.STAT_FENCED p, TWB.STAT_SDA_LOW p]

theorem setKey_tw {p : Nat} (hp : p < 28) {f : Fld} (hf : f ∈ twFlds p) : SetKey f.key := by
  have hkey : ∀ g ∈ twFlds p, 0xD0000 * 32 ≤ g.key ∧ g.key < 0xD1000 * 32 := by
    simp only [twFlds, List.forall_mem_cons, TWB.STAT_LASTERR, TWB.CNT0_XFER, TWB.CNT0_NACK, TWB.STAT_NACK_STKY, TWB.CNT1_ARB_LOST,
      TWB.STAT_ARB_STKY, TWB.CNT2_PEC_ERR, TWB.STAT_BUSY, TWB.STAT_SCL_TMO_STKY, TWB.STAT_SDA_TMO_STKY, TWB.CNT1_TIMEOUT,
      TWB.CNT2_CLEAR, TWB.STAT_FENCED, TWB.STAT_SDA_LOW, Fld.key]
    refine ⟨?_, ?_, ?_, ?_, ?_, ?_, ?_, ?_, ?_, ?_, ?_, ?_, ?_, ?_, by simp⟩ <;> omega
  exact .inr (hkey f hf)

section

variable {s t : State} (h : SetPath s t) {p : Nat} (hp : p < 28)
include h hp

theorem SetPath.twBusy : SetPath s (t.twBusy p) := h.wr _ (setKey_tw hp (by simp [twFlds]))

theorem SetPath.twOutcome (code idx : Nat) : SetPath s (t.twOutcome p code idx) := by
  have hs1 := (h.wr code (setKey_tw hp (f := TWB.STAT_LASTERR p) (by simp [twFlds]))).addSat 1
    (setKey_tw hp (f := TWB.CNT0_XFER p) (by simp [twFlds]))
  have hnack := (hs1.addSat 1 (setKey_tw hp (f := TWB.CNT0_NACK p) (by simp [twFlds]))).set1
    (setKey_tw hp (f := TWB.STAT_NACK_STKY p) (by simp [twFlds]))
  unfold State.twOutcome
  extract_lets s1
  split
  · exact hnack
  · exact hnack
  · exact ((hs1.addSat 1 (setKey_tw hp (f := TWB.CNT1_ARB_LOST p) (by simp [twFlds]))).set1
      (setKey_tw hp (f := TWB.STAT_ARB_STKY p) (by simp [twFlds]))).raise ..
  · exact hs1.addSat 1 (setKey_tw hp (f := TWB.CNT2_PEC_ERR p) (by simp [twFlds]))
  · exact hs1

theorem SetPath.twCleared (k : Nat) : SetPath s (t.twCleared p k) := by
  have hs1 := (h.setTwp p { t.twp p with injStuck := false }).addSat 1 (setKey_tw hp (f := TWB.CNT2_CLEAR p) (by simp [twFlds]))
  have hend : ∀ v code bs, SetPath s ((((((t.setTwp p { t.twp p with injStuck := false }).addSat (TWB.CNT2_CLEAR p) 1).wr
      (TWB.STAT_FENCED p) v).wr (TWB.STAT_SDA_LOW p) v)).raise code p bs) := fun v code bs =>
    ((hs1.wr v (setKey_tw hp (by simp [twFlds]))).wr v (setKey_tw hp (by simp [twFlds]))).raise code p bs
  unfold State.twCleared
  extract_lets s1
  split
  · exact hend 1 ..
  · exact hend 0 ..

theorem SetPath.twBusClear : SetPath s (t.twBusClear p) := by
  unfold State.twBusClear
  split
  · split
    · exact h.bcSend ..
    · exact h
  · exact SetPath.twCleared h.used hp _

theorem SetPath.twRemote (code : Nat) : SetPath s (t.twRemote p code) := by
  have htmo : ∀ f ∈ twFlds p, ∀ kind, SetPath s (((t.set1 f).addSat (TWB.CNT1_TIMEOUT p) 1).raise 0x0D01 p [kind]) := fun f hf kind =>
    ((h.set1 (setKey_tw hp hf)).addSat 1 (setKey_tw hp (f := TWB.CNT1_TIMEOUT p) (by simp [twFlds]))).raise ..
  unfold State.twRemote
  extract_lets tmo
  split
  · exact htmo _ (by simp [twFlds]) 0
  · exact SetPath.twBusClear (htmo _ (by simp [twFlds]) 1) hp
  · exact SetPath.twCleared (htmo _ (by simp [twFlds]) 1) hp 10
  · exact h

end

section

variable {s t : State} (h : SetPath s t) {c : Nat} (hc : c < 24)
include h hc

theorem SetPath.genDue : SetPath s (t.genDue c) := by
  unfold State.genDue
  extract_lets x due s1
  refine List.foldlRecOn (motive := SetPath s) _ _ (h.setCam c _) fun u hu g _ => ?_
  exact (hu.wr _ (setKey_cam hc).1).wr _ (setKey_cam hc).2

theorem SetPath.setFail : SetPath s (t.setFail c) :=
  SetPath.twBusy (((h.setCam c _).wr _ (setKey_cam hc).1).raise ..) (by omega)

theorem SetPath.setDone (w : SetWrite) : SetPath s (t.setDone c w) := by
  unfold State.setDone
  extract_lets x inTime eff s1
  have hs1 : SetPath s s1 := SetPath.genDue (h.setCam c _) hc
  split
  · exact hs1
  · exact hs1.raise ..

theorem SetPath.setStep (w : SetWrite) : SetPath s (t.setStep c w) := by
  have hp : c < 28 := by omega
  unfold State.setStep
  split
  · exact SetPath.twBusy (h.setDone hc w) hp
  · split_ifs
    · exact SetPath.setFail (h.twOutcome hp 8 0) hc
    · exact h.setFail hc
    · extract_lets y s1
      have hs1 : SetPath s s1 := h.setTwp c { y with injNack := false, injScl := false }
      clear_value s1
      split
      · exact SetPath.setFail (SetPath.twOutcome (hs1.twRemote hp _) hp ..) hc
      · exact SetPath.bcSend (SetPath.twConfigDue (SetPath.twBusy (hs1.setCam c _) hp) c) ..

theorem SetPath.setStart : SetPath s (t.setStart c) := by
  unfold State.setStart
  extract_lets x
  split
  · split_ifs
    · exact SetPath.setStep (h.setCam c _) hc _
    · exact h.raise ..
    · exact h
  · exact h

theorem SetPath.windowOpen : SetPath s (t.windowOpen c) := by
  have hs1 : SetPath s ((t.setCam c { t.cam c with winOpen := some t.now, winFrame := (t.cam c).frameNo + 1 }).setStart c) :=
    SetPath.setStart (h.setCam c _) hc
  unfold State.windowOpen
  extract_lets s1
  split
  · unfold State.windowShut
    extract_lets x late s2
    have hs2 : SetPath s s2 := SetPath.setCam hs1 c _
    split
    · exact hs2.raise ..
    · exact hs2
  · exact hs1

end

theorem SetPath.ctx {s t : State} (h : SetPath s t) (c : Nat) : t.ctx c = s.ctx c := by
  have hctxs : t.ctxs = s.ctxs := (congrArg State.ctxs h.rest :)
  rw [State.ctx, hctxs]
  rfl

end Sys2Proof.Machine

end

section

/-! CERTIFICATE. Frames that close (R153). -/

namespace Sys2Proof.Machine

/-- The counters of a slot that lines and full flues advance. -/
def countFlds (c : Nat) : List Fld := [CTX.CNT3_FLUE_FULL c, CTX.CNT2_LINE_WIDTH c, CTX.CNT3_LINEBUF_OVF c, CTX.CNT1_LOST_LINES c]

/-- Registers other than those counters, and than what moving items writes, are kept. -/
def Counts (c : Nat) (s t : State) : Prop :=
  ∀ f : Fld, ¬AsideKey f.key → (∀ g ∈ countFlds c, f.key ≠ g.key) → t.rd f = s.rd f

theorem Counts.refl (c : Nat) (s : State) : Counts c s s := fun _ _ _ => rfl

section

variable {c : Nat} {s t : State} (h : Counts c s t)
include h

theorem Counts.aside {u : State} (h' : Aside t u) : Counts c s u := fun f hf hg => (h'.regs f hf).trans (h f hf hg)

theorem Counts.addSat {g : Fld} (hmem : g ∈ countFlds c) (k : Nat) : Counts c s (t.addSat g k) := fun f hf hg =>
  (rd_wr_ne t _ (hg g hmem)).trans (h f hf hg)

theorem Counts.times (code num k : Nat) : Counts c s (t.times (fun s => s.frmEvent code c num) k) := by
  induction k generalizing t with
  | zero => exact h
  | succ k ih => exact ih (h.aside ((Aside.refl t).raiseBy ..))

theorem Counts.loseLines (m : Frm) (k : Nat) : Counts c s (t.loseLines c m k) := by
  unfold State.loseLines
  split
  · exact h
  · refine Counts.times (t := (t.updFrm c m.serial _).addSat _ k) ?_ 0x0A06 m.num k
    exact Counts.addSat (t := t.updFrm c m.serial _) h (by simp [countFlds]) k

end

/-! ### The line being received ends with its frame -/

/-- The open frame may have lost another line. -/
structure FrameHeld (c : Nat) (m : Frm) (s t : State) : Prop where
  regs : Counts c s t
  frm : ∃ k, (t.ctx c).frames.find? (fun z => z.serial == m.serial) = some { m with lost := k }

section

variable {c : Nat} {m : Frm} {s t : State} (h : FrameHeld c m s t)
include h

theorem FrameHeld.setCtx {x : Ctx} (hx : x.frames = (t.ctx c).frames) : FrameHeld c m s (t.setCtx c x) :=
  ⟨h.regs, by rw [ctx_setCtx, hx]; exact h.frm⟩

theorem FrameHeld.addSat {g : Fld} (hmem : g ∈ countFlds c) (k : Nat) : FrameHeld c m s (t.addSat g k) :=
  ⟨h.regs.addSat hmem k, h.frm⟩

theorem FrameHeld.aside {u : State} (h' : Aside t u) : FrameHeld c m s u := ⟨h.regs.aside h', by rw [h'.ctx]; exact h.frm⟩

theorem FrameHeld.frmEvent (code i num : Nat) : FrameHeld c m s (t.frmEvent code i num) := h.aside ((Aside.refl t).raiseBy ..)

theorem FrameHeld.loseLines (hc : c < 24) {z : Frm} (hz : z.serial = m.serial) (k : Nat) : FrameHeld c m s (t.loseLines c z k) := by
  refine ⟨Counts.loseLines h.regs z k, ?_⟩
  obtain ⟨j, hj⟩ := h.frm
  rw [((LineAt.refl c t).loseLines hc z k).ctx, hz]
  split
  · exact ⟨j, hj⟩
  · refine ⟨min (j + k) 65535, ?_⟩
    have hserial : ∀ z : Frm, (if z.serial = m.serial then { z with lost := min (z.lost + k) 65535 } else z).serial = z.serial :=
        fun z => by
      split <;> rfl
    exact (find_map_serial (fun z _ => hserial z) m.serial).trans ((congrArg (Option.map _) hj).trans (congrArg some (if_pos rfl)))

theorem FrameHeld.lineDone (hc : c < 24) (hopen : (t.ctx c).opened.elim True fun z => z.serial = m.serial) :
    FrameHeld c m s (t.lineDone c) := by
  unfold State.lineDone
  extract_lets x s0
  split
  next l z hrecv hx =>
    have hz : z.serial = m.serial := by
      rw [hx] at hopen
      exact hopen
    extract_lets w s1 y line
    have hs1 : FrameHeld c m s s1 := by
      unfold s1
      split
      · exact ((h.setCtx (by rfl)).addSat (by simp [countFlds]) 1).aside ((Aside.refl _).raiseBy ..)
      · exact h.setCtx (by rfl)
    clear_value s1
    split
    · have hcleared := (hs1.setCtx (x := { y with injDrop := false }) (by rfl)).addSat
        (g := CTX.CNT3_LINEBUF_OVF c) (by simp [countFlds]) 1
      exact FrameHeld.loseLines (hcleared.frmEvent ..) hc hz 1
    · refine (hs1.aside ((Aside.refl s1).memWriteTo (charted_line (by omega)) ..)).setCtx ?_
      have hkept := ((Aside.refl s1).memWriteTo (charted_line (n := c / 2) (by omega)) (lineBufAt c) (List.replicate (2 * w) 0)).ctx c
      rw [hkept]
  · exact h.setCtx (by rfl)

end

/-! ### A frame closes -/

/-- The lines that an end packet says were sent. -/
def Close.lines : Close → Nat
  | .frameEnd n => n
  | _ => 0

/-- The registers of a slot that show how its frames closed. -/
def closeFlds (c : Nat) : List Fld :=
  [CTX.FNUM c, CTX.STAT_OPEN c, CTX.CNT0_TRUNC c, CTX.CNT0_OVERLONG c, CTX.CNT4_FNUM_MISMATCH c]

theorem closeFlds_apart {c : Nat} (hc : c < 24) {f : Fld} (hf : f ∈ closeFlds c) :
    ¬AsideKey f.key ∧ ∀ g ∈ countFlds c, f.key ≠ g.key := by
  have hkeys : ∀ f ∈ closeFlds c, ¬AsideKey f.key ∧ ∀ g ∈ countFlds c, f.key ≠ g.key := by
    simp only [closeFlds, countFlds, List.forall_mem_cons, AsideKey, CTX.FNUM, CTX.STAT_OPEN, CTX.CNT0_TRUNC, CTX.CNT0_OVERLONG,
      CTX.CNT4_FNUM_MISMATCH, CTX.CNT3_FLUE_FULL, CTX.CNT2_LINE_WIDTH, CTX.CNT3_LINEBUF_OVF, CTX.CNT1_LOST_LINES, Fld.key]
    refine ⟨⟨?_, ?_, ?_, ?_, ?_, by simp⟩, ⟨?_, ?_, ?_, ?_, ?_, by simp⟩, ⟨?_, ?_, ?_, ?_, ?_, by simp⟩,
      ⟨?_, ?_, ?_, ?_, ?_, by simp⟩, ⟨?_, ?_, ?_, ?_, ?_, by simp⟩, by simp⟩ <;> omega
  exact hkeys f hf

/-- The slot's registers show what `base` shows, and the frame of serial number `k` has closed. -/
structure Shown (c k : Nat) (base : State) (filled flags : Nat) (u : State) : Prop where
  regs : ∀ f ∈ closeFlds c, u.rd f = base.rd f
  frames : ∀ z ∈ (u.ctx c).frames, z.serial = k → z.closed.isSome = true ∧ z.filled = filled ∧ z.flags = flags

theorem shown_keeps {c : Nat} (hc : c < 24) (k : Nat) (base : State) (filled flags : Nat) :
    FedKeeps c (Shown c k base filled flags) where
  aside t u h hs := ⟨fun f hf => (h.regs f (closeFlds_apart hc hf).1).trans (hs.regs f hf), by rw [h.ctx]; exact hs.frames⟩
  flueFull t v hs := ⟨fun f hf => (rd_wr_ne t v ((closeFlds_apart hc hf).2 _ (by simp [countFlds]))).trans (hs.regs f hf), hs.frames⟩
  ctx t x h hs := by
    refine ⟨hs.regs, fun z hz hserial => ?_⟩
    obtain ⟨-, g, hg, hstep⟩ := h
    rw [ctx_setCtx, hg] at hz
    obtain ⟨y, hy, rfl⟩ := List.mem_map.mp hz
    have hcore := (hstep y hy).core
    obtain ⟨hclosed, hfilled, hflags⟩ := hs.frames y hy ((hstep y hy).serial.symm.trans hserial)
    exact ⟨(congrArg (fun w : Frm => w.closed.isSome) hcore :).trans hclosed, (congrArg Frm.filled hcore :).trans hfilled,
      (congrArg Frm.flags hcore :).trans hflags⟩
  sweep t hs := by
    refine ⟨hs.regs, fun z hz => hs.frames z ?_⟩
    rw [State.ctxSweep, ctx_setCtx] at hz
    exact (List.mem_filter.mp hz).1
  fillQ t q hs := by
    refine ⟨hs.regs, fun z hz => hs.frames z ?_⟩
    by_cases hc : c = c / 2 * 2
    · rw [← hc, ctx_setCtx] at hz
      exact hz
    · rwa [ctx_setCtx_ne _ _ hc] at hz

theorem testBit_b2n (p : Prop) [Decidable p] : (b2n (decide p)).testBit 0 = decide p ∧ (b2n (decide p)).testBit 1 = false := by
  by_cases h : p
  · rw [decide_eq_true h]
    decide
  · rw [decide_eq_false h]
    decide

/-- The flags of a closing frame. -/
def closeFlags (flags filled : Nat) (long : Bool) (how : Close) : Nat :=
  ((flags.lor (b2n (decide (0 < filled)))).lor (2 * b2n long)).lor (match how with | .abort => 4 | .timeout => 8 | _ => 0)

theorem closeFlags_bits (flags filled : Nat) (long : Bool) (how : Close) :
    (0 < filled → (closeFlags flags filled long how).testBit 0 = true) ∧
    (closeFlags flags filled long how).testBit 1 = (flags.testBit 1 || long) ∧
    (how = .timeout → (closeFlags flags filled long how).testBit 3 = true) := by
  have hor : ∀ a b i, (Nat.lor a b).testBit i = (a.testBit i || b.testBit i) := fun a b i => Nat.testBit_or ..
  have hlong : (2 * b2n long).testBit 1 = long := by cases long <;> decide
  have hbits := testBit_b2n (0 < filled)
  unfold closeFlags
  simp only [hor, hlong, hbits.1, hbits.2]
  refine ⟨fun h => by simp [h], ?_, fun h => ?_⟩
  · cases how <;> simp [show Nat.testBit 4 1 = false from rfl, show Nat.testBit 8 1 = false from rfl]
  · subst h
    have : Nat.testBit 8 3 = true := by decide
    simp [this]

section

variable {s : State} {c : Nat} (hc : c < 24) {m : Frm} (hin : (s.ctx c).InFrame m) (how : Close)
include hc hin

/-- Does a frame close as too long? -/
def Frm.long (m : Frm) (c : Nat) (how : Close) : Bool := decide (0 < m.extra) || decide (ctxH m.conf c < how.lines)

theorem frmClose_shown : ∃ base, Shown c m.serial base (ctxH m.conf c - m.nextLine)
      (closeFlags m.flags (ctxH m.conf c - m.nextLine) (m.long c how) how) (s.frmClose c how) ∧
    base.rd (CTX.FNUM c) = m.num % 2 ^ 32 ∧ base.rd (CTX.STAT_OPEN c) = 0 ∧
    base.rd (CTX.CNT0_TRUNC c) =
      (if m.nextLine < ctxH m.conf c then min (s.rd (CTX.CNT0_TRUNC c) + 1) 65535 else s.rd (CTX.CNT0_TRUNC c)) ∧
    base.rd (CTX.CNT0_OVERLONG c) =
      (if (m.flags.testBit 1 || m.long c how) = true then min (s.rd (CTX.CNT0_OVERLONG c) + 1) 65535 else s.rd (CTX.CNT0_OVERLONG c)) ∧
    base.rd (CTX.CNT4_FNUM_MISMATCH c) = s.rd (CTX.CNT4_FNUM_MISMATCH c) := by
  obtain ⟨hopen, hfind⟩ := hin
  have hheld : FrameHeld c m s (s.lineDone c) := by
    refine FrameHeld.lineDone ⟨.refl c s, m.lost, hfind⟩ hc ?_
    rw [hopen]
    rfl
  obtain ⟨j, hj⟩ := hheld.frm
  obtain ⟨u, hu⟩ : ∃ u, u = s.frmClose c how := ⟨_, rfl⟩
  rw [← hu]
  unfold State.frmClose at hu
  split at hu
  next hnone => exact absurd (hnone.symm.trans hopen) (by simp)
  next m0 hsome =>
  obtain rfl : m = m0 := Option.some.inj (hopen.symm.trans hsome)
  extract_lets v y filled long flags s1 s2 s3 s4 s5 s6 s7 at hu
  have hy : y = { m with lost := j } := frm_of_find hj
  clear_value y
  subst hy
  have hkept : ∀ f ∈ closeFlds c, v.rd f = s.rd f := fun f hf =>
    hheld.regs f (closeFlds_apart hc hf).1 (closeFlds_apart hc hf).2
  clear_value v
  have hlong : long = m.long c how := by
    cases how with
    | frameEnd n => rfl
    | _ => exact (Bool.or_false _).trans (by simp [Frm.long, Close.lines])
  have hflags : flags = closeFlags m.flags (ctxH m.conf c - m.nextLine) (m.long c how) how := by
    rw [← hlong]
    rfl
  have hrun := shown_keeps hc m.serial s4 filled flags
  have hs4 : Shown c m.serial s4 filled flags s4 := by
    refine ⟨fun _ _ => rfl, ?_⟩
    have hframes : s4.ctx c = s1.ctx c := by
      unfold s4 s3
      split <;> split <;> rfl
    rw [hframes]
    intro z hz hserial
    rw [show s1.ctx c = _ from ctx_updFrm v c m.serial _] at hz
    obtain ⟨y, hy, rfl⟩ := List.mem_map.mp hz
    split at hserial
    next hy =>
      rw [if_pos hy]
      exact ⟨rfl, rfl, rfl⟩
    next hy => exact absurd hserial hy
  have hs5 : Shown c m.serial s4 filled flags s5 := by
    unfold s5
    split
    · exact hrun.raiseBy hs4
    · exact hs4
  have hs6 : Shown c m.serial s4 filled flags s6 := by
    unfold s6
    split
    · exact hrun.raiseBy hs5
    · exact hrun.raiseBy hs5
    · split
      · exact hrun.raiseBy hs5
      · exact hs5
  have hs7 : Shown c m.serial s4 filled flags s7 := by
    unfold s7
    split
    · exact hrun.frmEnd hs6
    · exact hs6
  refine ⟨s4, ?_, ?_⟩
  · rw [hu, ← hflags]
    exact hrun.ctxRun hs7
  have hs4rd : ∀ f : Fld, f.key ≠ (CTX.CNT0_TRUNC c).key → f.key ≠ (CTX.CNT0_OVERLONG c).key → s4.rd f = s2.rd f :=
      fun f htrunc hover => by
    have hs3 : s3.rd f = s2.rd f := by
      unfold s3
      split
      · exact rd_wr_ne _ _ htrunc
      · rfl
    unfold s4
    split
    · exact (rd_wr_ne _ _ hover).trans hs3
    · exact hs3
  have hs2rd : ∀ f ∈ closeFlds c, f.key ≠ (CTX.FNUM c).key → f.key ≠ (CTX.STAT_OPEN c).key → s2.rd f = s.rd f :=
      fun f hf hnum hstat =>
    (rd_wr_ne _ _ hstat).trans ((rd_wr_ne s1 _ hnum).trans (hkept f hf))
  have htrunc : s3.rd (CTX.CNT0_TRUNC c) =
      if m.nextLine < ctxH m.conf c then min (s.rd (CTX.CNT0_TRUNC c) + 1) 65535 else s.rd (CTX.CNT0_TRUNC c) := by
    have hbase := hs2rd (CTX.CNT0_TRUNC c) (by simp [closeFlds]) (by simp only [CTX.CNT0_TRUNC, CTX.FNUM, Fld.key]; omega)
      (by simp only [CTX.CNT0_TRUNC, CTX.STAT_OPEN, Fld.key]; omega)
    have hiff : 0 < filled ↔ m.nextLine < ctxH m.conf c := Nat.sub_pos_iff_lt
    unfold s3
    rw [if_congr hiff rfl rfl]
    split
    · exact (rd_wr_same _ _ _).trans ((min_mod_counter _ 16).trans (by rw [hbase]; rfl))
    · exact hbase
  have hover : s4.rd (CTX.CNT0_OVERLONG c) =
      if (m.flags.testBit 1 || m.long c how) = true then min (s.rd (CTX.CNT0_OVERLONG c) + 1) 65535 else s.rd (CTX.CNT0_OVERLONG c) := by
    have hbase := hs2rd (CTX.CNT0_OVERLONG c) (by simp [closeFlds]) (by simp only [CTX.CNT0_OVERLONG, CTX.FNUM, Fld.key]; omega)
      (by simp only [CTX.CNT0_OVERLONG, CTX.STAT_OPEN, Fld.key]; omega)
    have hs3 : s3.rd (CTX.CNT0_OVERLONG c) = s.rd (CTX.CNT0_OVERLONG c) := by
      refine Eq.trans ?_ hbase
      unfold s3
      split
      · exact rd_wr_ne _ _ (by simp only [CTX.CNT0_OVERLONG, CTX.CNT0_TRUNC, Fld.key]; omega)
      · rfl
    rw [← (closeFlags_bits m.flags (ctxH m.conf c - m.nextLine) (m.long c how) how).2.1, ← hflags]
    unfold s4
    split
    · exact (rd_wr_same _ _ _).trans ((min_mod_counter _ 16).trans (by rw [hs3]; rfl))
    · exact hs3
  refine ⟨?_, ?_, ?_, hover, ?_⟩
  · rw [hs4rd _ (by simp only [CTX.CNT0_TRUNC, CTX.FNUM, Fld.key]; omega) (by simp only [CTX.CNT0_OVERLONG, CTX.FNUM, Fld.key]; omega)]
    exact (rd_wr_ne _ _ (by simp only [CTX.STAT_OPEN, CTX.FNUM, Fld.key]; omega)).trans (rd_wr_same s1 _ _)
  · rw [hs4rd _ (by simp only [CTX.CNT0_TRUNC, CTX.STAT_OPEN, Fld.key]; omega)
      (by simp only [CTX.CNT0_OVERLONG, CTX.STAT_OPEN, Fld.key]; omega)]
    exact rd_wr_same _ _ _
  · refine Eq.trans ?_ htrunc
    unfold s4
    split
    · exact rd_wr_ne _ _ (by simp only [CTX.CNT0_OVERLONG, CTX.CNT0_TRUNC, Fld.key]; omega)
    · rfl
  · rw [hs4rd _ (by simp only [CTX.CNT0_TRUNC, CTX.CNT4_FNUM_MISMATCH, Fld.key]; omega)
      (by simp only [CTX.CNT0_OVERLONG, CTX.CNT4_FNUM_MISMATCH, Fld.key]; omega)]
    exact hs2rd _ (by simp [closeFlds]) (by simp only [CTX.CNT4_FNUM_MISMATCH, CTX.FNUM, Fld.key]; omega)
      (by simp only [CTX.CNT4_FNUM_MISMATCH, CTX.STAT_OPEN, Fld.key]; omega)

theorem frmClose_closes : FrameClosed s (s.frmClose c how) c m how.lines ∧
    (s.frmClose c how).rd (CTX.CNT4_FNUM_MISMATCH c) = s.rd (CTX.CNT4_FNUM_MISMATCH c) ∧
    (how = .timeout → ∀ z ∈ ((s.frmClose c how).ctx c).frames, z.serial = m.serial → z.flags.testBit 3 = true) := by
  obtain ⟨base, hshown, hnum, hstat, htrunc, hover, hmis⟩ := frmClose_shown hc hin how
  have hbits := closeFlags_bits m.flags (ctxH m.conf c - m.nextLine) (m.long c how) how
  refine ⟨⟨?_, ?_, ?_, ?_, fun z hz hserial => ?_, ((Fed.refl c s).frmClose (by omega) how).others⟩, ?_, fun h z hz hserial => ?_⟩
  · rw [hshown.regs _ (by simp [closeFlds]), hnum]
  · rw [hshown.regs _ (by simp [closeFlds]), hstat]
  · rw [hshown.regs _ (by simp [closeFlds]), htrunc]
  · rw [hshown.regs _ (by simp [closeFlds]), hover]
    simp only [Frm.long, Bool.or_eq_true, decide_eq_true_eq]
  · obtain ⟨hclosed, hfilled, hflags⟩ := hshown.frames z hz hserial
    exact ⟨hclosed, hfilled, fun h => by rw [hflags]; exact hbits.1 (Nat.sub_pos_of_lt h)⟩
  · rw [hshown.regs _ (by simp [closeFlds]), hmis]
  · rw [(hshown.frames z hz hserial).2.2]
    exact hbits.2.2 h

end

end Sys2Proof.Machine

end

section

/-! CERTIFICATE. The end of a frame, the turn of the datapath, fill lines and records (R147, R153 to R155, R170). -/

namespace Sys2Proof.Machine

section

variable {link c : Fin 24} {vc : Fin 4} {τ : Nat} {s : State} (hvideo : s.videoOn link = true)
  (hserves : s.servers link vc = [c.val]) {num : Word} {lines : BitVec 16} {ovf : Bool} (hinj : (s.link link).injEnd = false)
include hvideo hserves hinj

/-- An end packet reaches its slot; a camera whose window it opens may then write a settings set. -/
theorem frameEnd_row : Answers (exec (.frameEnd link vc num lines ovf τ) s) fun t =>
    SetPath (((s.at τ).linkShut link vc).endArrive c num.toNat lines.toNat ovf) t := by
  have hidle : ¬((s.at τ).link link).injEnd = true := by
    rw [show ((s.at τ).link link).injEnd = false from hinj]
    simp
  have hlist : ((s.at τ).linkShut link vc).servers link vc = [c.val] := hserves
  refine ⟨_, congrArg Host.Outcome.next ((if_pos hvideo).trans ((if_neg hidle).trans rfl)), ?_⟩
  unfold State.frameEnd
  extract_lets s1
  have hs1 : s1 = ((s.at τ).linkShut link vc).endArrive c num.toNat lines.toNat ovf := by
    unfold s1
    rw [hlist]
    rfl
  rw [← hs1]
  split
  · exact SetPath.windowOpen (.refl s1) link.isLt
  · exact .refl s1

theorem frameEnd_orphan (hopen : (s.ctx c).opened = none) : Answers (exec (.frameEnd link vc num lines ovf τ) s) fun t =>
    t.rd (CTX.CNT2_ORPHAN c) = min (s.rd (CTX.CNT2_ORPHAN c) + 1) 65535 ∧ t.ctx c = { s.ctx c with orphan := false } := by
  obtain ⟨t, ht, hpath⟩ := frameEnd_row (num := num) (lines := lines) (ovf := ovf) (τ := τ) hvideo hserves hinj
  obtain ⟨ev, hev⟩ := orphanPkt_eq ((s.at τ).linkShut link vc) c true
  have hend : ((s.at τ).linkShut link vc).endArrive c num.toNat lines.toNat ovf =
      ((s.at τ).linkShut link vc).orphanPkt c true := by
    unfold State.endArrive
    rw [show (((s.at τ).linkShut link vc).ctx c).opened = none from hopen]
  rw [hend, hev] at hpath
  refine ⟨t, ht, (hpath.regs _ ?_).trans ((rd_wr_same _ _ _).trans (min_mod_counter _ 16)), (hpath.ctx c).trans ?_⟩
  · simp only [SetKey, CTX.CNT2_ORPHAN, Fld.key]
    omega
  · exact ctx_setCtx (((s.at τ).linkShut link vc).addSat (CTX.CNT2_ORPHAN c) 1) c _

end

/-- An end packet that closes a frame: what it says of the frame's number and of an overflow is noted first. -/
theorem endArrive_notes {u : State} {c : Nat} (hc : c < 24) {m : Frm} (hin : (u.ctx c).InFrame m) (num lines : Nat) (ovf : Bool) :
    ∃ v flags, u.endArrive c num lines ovf = v.frmClose c (.frameEnd lines) ∧ (v.ctx c).InFrame { m with flags := flags } ∧
      flags.testBit 1 = m.flags.testBit 1 ∧ Fed c u v ∧ v.rd (CTX.CNT0_TRUNC c) = u.rd (CTX.CNT0_TRUNC c) ∧
      v.rd (CTX.CNT0_OVERLONG c) = u.rd (CTX.CNT0_OVERLONG c) ∧
      v.rd (CTX.CNT4_FNUM_MISMATCH c) = (if num = m.num then u.rd (CTX.CNT4_FNUM_MISMATCH c)
        else min (u.rd (CTX.CNT4_FNUM_MISMATCH c) + 1) 255) := by
  have hor : ∀ a b i, (Nat.lor a b).testBit i = (a.testBit i || b.testBit i) := fun a b i => Nat.testBit_or ..
  have hflag : ∀ a, (Nat.lor a 64).testBit 1 = a.testBit 1 ∧ (Nat.lor a 16).testBit 1 = a.testBit 1 := fun a => by
    rw [hor, hor, show Nat.testBit 64 1 = false from rfl, show Nat.testBit 16 1 = false from rfl, Bool.or_false]
    exact ⟨rfl, rfl⟩
  obtain ⟨w, hw⟩ : ∃ w, w = u.endArrive c num lines ovf := ⟨_, rfl⟩
  rw [← hw]
  unfold State.endArrive at hw
  split at hw
  next hnone => exact absurd (hnone.symm.trans hin.1) (by simp)
  next m0 hsome =>
  obtain rfl : m = m0 := Option.some.inj (hin.1.symm.trans hsome)
  extract_lets s1 s2 at hw
  subst hw
  have hs1 : ∃ flags, (s1.ctx c).InFrame { m with flags := flags } ∧ flags.testBit 1 = m.flags.testBit 1 ∧ Fed c u s1 ∧
      s1.rd (CTX.CNT0_TRUNC c) = u.rd (CTX.CNT0_TRUNC c) ∧ s1.rd (CTX.CNT0_OVERLONG c) = u.rd (CTX.CNT0_OVERLONG c) ∧
      s1.rd (CTX.CNT4_FNUM_MISMATCH c) = (if num = m.num then u.rd (CTX.CNT4_FNUM_MISMATCH c)
        else min (u.rd (CTX.CNT4_FNUM_MISMATCH c) + 1) 255) := by
    unfold s1
    by_cases hnum : num = m.num
    · rw [if_neg (by simpa using hnum), if_pos hnum]
      exact ⟨m.flags, hin, rfl, Fed.refl c u, rfl, rfl, rfl⟩
    · rw [if_pos hnum, if_neg hnum]
      refine ⟨m.flags.lor 64, ?_, (hflag _).1, ((Fed.refl c u).updFrm m.serial _).addSat 1
        (by simp only [SlotKey, CTX.CNT4_FNUM_MISMATCH, Fld.key]; omega), rd_addSat_ne _ _ ?_, rd_addSat_ne _ _ ?_,
        (rd_wr_same _ _ _).trans (min_mod_counter _ 8)⟩
      · have hupd := hin.upd (g := fun m => { m with flags := m.flags.lor 64 }) (fun _ => rfl) fun _ => rfl
        rw [← ctx_updFrm] at hupd
        exact hupd
      · simp only [CTX.CNT0_TRUNC, CTX.CNT4_FNUM_MISMATCH, Fld.key]
        omega
      · simp only [CTX.CNT0_OVERLONG, CTX.CNT4_FNUM_MISMATCH, Fld.key]
        omega
  obtain ⟨flags, hin1, hbit, hfed, htrunc, hover, hmis⟩ := hs1
  unfold s2
  split
  · have hupd := hin1.upd (g := fun m => { m with flags := m.flags.lor 16 }) (fun _ => rfl) fun _ => rfl
    have haside : Aside (s1.updFrm c m.serial fun m => { m with flags := m.flags.lor 16 })
      ((s1.updFrm c m.serial fun m => { m with flags := m.flags.lor 16 }).frmEvent 0x0A0B c m.num) := (Aside.refl _).raiseBy ..
    refine ⟨_, flags.lor 16, rfl, ?_, (hflag _).2.trans hbit, (hfed.updFrm m.serial _).aside haside, (haside.regs _ ?_).trans htrunc,
      (haside.regs _ ?_).trans hover, (haside.regs _ ?_).trans hmis⟩
    · rw [haside.ctx, ctx_updFrm]
      exact hupd
    · exact (closeFlds_apart hc (by simp [closeFlds])).1
    · exact (closeFlds_apart hc (by simp [closeFlds])).1
    · exact (closeFlds_apart hc (by simp [closeFlds])).1
  · exact ⟨s1, flags, rfl, hin1, hbit, hfed, htrunc, hover, hmis⟩

section

variable {c : Nat} {s u t : State} {m : Frm} {lines : Nat}

theorem FrameClosed.after_setPath (hc : c < 24) (h : FrameClosed s u c m lines) (hpath : SetPath u t) : FrameClosed s t c m lines := by
  have hkey : ∀ f ∈ closeFlds c, ¬SetKey f.key := by
    simp only [closeFlds, List.forall_mem_cons, SetKey, CTX.FNUM, CTX.STAT_OPEN, CTX.CNT0_TRUNC, CTX.CNT0_OVERLONG,
      CTX.CNT4_FNUM_MISMATCH, Fld.key]
    refine ⟨?_, ?_, ?_, ?_, ?_, by simp⟩ <;> omega
  obtain ⟨hnum, hstat, htrunc, hover, hframes, hothers⟩ := h
  refine ⟨(hpath.regs _ (hkey _ (by simp [closeFlds]))).trans hnum, (hpath.regs _ (hkey _ (by simp [closeFlds]))).trans hstat,
    (hpath.regs _ (hkey _ (by simp [closeFlds]))).trans htrunc, (hpath.regs _ (hkey _ (by simp [closeFlds]))).trans hover, ?_,
    fun k hk => ?_⟩
  · rw [hpath.ctx]
    exact hframes
  · rw [hpath.ctx]
    exact hothers k hk

end

section

variable {link c : Fin 24} {vc : Fin 4} {τ : Nat} {s : State} {m : Frm} (hin : (s.ctx c).InFrame m)
include hin

omit hin in
theorem link_shut (u : State) (n v : Nat) : v ∉ ((u.linkShut n v).link n).open_ := by
  rw [State.linkShut, link_setLink]
  simp

theorem frameEnd_closes (hvideo : s.videoOn link = true) (hserves : s.servers link vc = [c.val]) {num : Word} {lines : BitVec 16}
    {ovf : Bool} (hinj : (s.link link).injEnd = false) : Answers (exec (.frameEnd link vc num lines ovf τ) s) fun t =>
      FrameClosed s t c m lines.toNat ∧ vc.val ∉ (t.link link).open_ ∧
      t.rd (CTX.CNT4_FNUM_MISMATCH c) =
        (if num.toNat = m.num then s.rd (CTX.CNT4_FNUM_MISMATCH c) else min (s.rd (CTX.CNT4_FNUM_MISMATCH c) + 1) 255) := by
  obtain ⟨t, ht, hpath⟩ := frameEnd_row (num := num) (lines := lines) (ovf := ovf) (τ := τ) hvideo hserves hinj
  obtain ⟨v, flags, hend, hin', hbit, hfed, htrunc, hover, hmis⟩ :=
    endArrive_notes (u := (s.at τ).linkShut link vc) c.isLt hin num.toNat lines.toNat ovf
  rw [hend] at hpath
  obtain ⟨⟨hnum, hstat, htrunc', hover', hframes, hothers⟩, hmis', -⟩ := frmClose_closes c.isLt hin' (.frameEnd lines.toNat)
  have hmiskey : ¬SetKey (CTX.CNT4_FNUM_MISMATCH c).key := by
    simp only [SetKey, CTX.CNT4_FNUM_MISMATCH, Fld.key]
    omega
  have hclosed : FrameClosed s (v.frmClose c (.frameEnd lines.toNat)) c m lines.toNat := by
    refine ⟨hnum, hstat, ?_, ?_, hframes, fun k hk => ?_⟩
    · rw [htrunc', htrunc]
      rfl
    · rw [hover', hover]
      dsimp only
      rw [hbit]
      rfl
    · exact (hfed.trans ((Fed.refl c v).frmClose (by omega) _)).others k hk
  refine ⟨t, ht, FrameClosed.after_setPath c.isLt hclosed hpath, ?_, ((hpath.regs _ hmiskey).trans hmis').trans hmis⟩
  rw [hpath.open_, link_of_links (hfed.trans ((Fed.refl c v).frmClose (by omega) _)).links]
  exact link_shut _ _ _

theorem frameTimeout_closes (hdue : m.start + 1000000 * max 1 (m.conf (CTX.FILL_TMO c)) ≤ τ) :
    Answers (exec (.frameTimeout c τ) s) fun t =>
      FrameClosed s t c m 0 ∧ m.vc ∉ (t.link m.link).open_ ∧
        ∀ z ∈ (t.ctx c).frames, z.serial = m.serial → z.flags.testBit 3 = true := by
  obtain ⟨hclosed, -, hflag⟩ := frmClose_closes (s := (s.at τ).linkShut m.link m.vc) c.isLt hin .timeout
  have hrow : exec (.frameTimeout c τ) s = .next (((s.at τ).linkShut m.link m.vc).frmClose c .timeout) := by
    show Host.Outcome.next (match (s.ctx c).opened with | some m => _ | none => _) = _
    rw [hin.1]
    exact congrArg _ (if_pos hdue)
  refine ⟨_, hrow, hclosed, ?_, hflag rfl⟩
  rw [link_of_links ((Fed.refl c ((s.at τ).linkShut m.link m.vc)).frmClose (by omega) .timeout).links]
  exact link_shut _ _ _

theorem frameTimeout_early (hdue : τ < m.start + 1000000 * max 1 (m.conf (CTX.FILL_TMO c))) :
    exec (.frameTimeout c τ) s = .next s := by
  show Host.Outcome.next (match (s.ctx c).opened with | some m => _ | none => _) = _
  rw [hin.1]
  exact congrArg _ (if_neg (Nat.not_le.mpr hdue))

end

/-! ### A frame while its slot runs -/

/-- Slot `c` holds an open frame of serial number `k` with property `Q`. -/
structure Holds (c k : Nat) (Q : Frm → Prop) (u : State) : Prop where
  frm : ∃ z, (u.ctx c).frames.find? (fun y => y.serial == k) = some z ∧ z.closed = none ∧ Q z

theorem find_filter {l : List Frm} {p q : Frm → Bool} {z : Frm} (h : l.find? p = some z) (hq : q z = true) :
    (l.filter q).find? p = some z := by
  induction l with
  | nil => exact absurd h (by simp)
  | cons y l ih =>
    rw [List.find?_cons] at h
    cases hp : p y with
    | true =>
      rw [hp] at h
      obtain rfl : y = z := Option.some.inj h
      simp [hq, hp]
    | false =>
      rw [hp] at h
      have hrest := ih h
      cases hy : q y with
      | true => simp [hy, hp, hrest]
      | false => simp [hy, hrest]

theorem holds_keeps (c k : Nat) {Q : Frm → Prop}
    (hQ : ∀ (x : Ctx) z z', x.frames.find? (fun y => y.serial == k) = some z → FrmStep x z z' → Q z → Q z') :
    FedKeeps c (Holds c k Q) where
  aside t u h hs := ⟨by rw [h.ctx]; exact hs.frm⟩
  flueFull t v hs := ⟨hs.frm⟩
  ctx t x h hs := by
    obtain ⟨-, g, hg, hstep⟩ := h
    obtain ⟨z, hz, hclosed, hQz⟩ := hs.frm
    have hmem := List.mem_of_find?_eq_some hz
    refine ⟨⟨g z, ?_, (congrArg Frm.closed (hstep z hmem).core :).trans hclosed, hQ _ _ _ hz (hstep z hmem) hQz⟩⟩
    rw [ctx_setCtx, hg, find_map_serial fun m hm => (hstep m hm).serial, hz]
    rfl
  sweep t hs := by
    obtain ⟨z, hz, hclosed, hQz⟩ := hs.frm
    refine ⟨⟨z, ?_, hclosed, hQz⟩⟩
    rw [State.ctxSweep, ctx_setCtx]
    exact find_filter hz (by simp [hclosed])
  fillQ t q hs := by
    refine ⟨?_⟩
    by_cases hc : c = c / 2 * 2
    · rw [← hc, ctx_setCtx]
      exact hs.frm
    · rw [ctx_setCtx_ne _ _ hc]
      exact hs.frm

/-- Rows that a frame has written stay written. -/
theorem rowsBeyond_keeps (c k r i : Nat) : FedKeeps c (Holds c k fun z => i < AMap.get 0 z.rgn r) :=
  holds_keeps c k fun x z z' hz hstep hi => by
    have hserial := find_serial hz
    obtain hsame | ⟨r', y, hy, hrgn⟩ := hstep.rgn
    · rw [hsame]
      exact hi
    · obtain rfl : z = y := Option.some.inj (hz.symm.trans (by rw [← hserial]; exact hy))
      rw [hrgn]
      by_cases hr : r = r'
      · rw [hr, amap_get_set_same, ← hr]
        exact Nat.lt_succ_of_lt hi
      · rw [amap_get_set_ne _ _ _ hr]
        exact hi

/-- The slot has no ready line. -/
def Unready (c : Nat) (u : State) : Prop := (u.ctx c).ready = none

theorem unready_keeps (c : Nat) : FedKeeps c (Unready c) where
  aside t u h hs := by
    unfold Unready
    rw [h.ctx]
    exact hs
  flueFull t v hs := hs
  ctx t x h hs := by
    have hready : x.ready = (t.ctx c).ready := (congrArg Ctx.ready h.1 :)
    unfold Unready
    rw [ctx_setCtx, hready]
    exact hs
  sweep t hs := by
    unfold Unready
    rw [State.ctxSweep, ctx_setCtx]
    exact hs
  fillQ t q hs := by
    unfold Unready
    by_cases hc : c = c / 2 * 2
    · rw [← hc, ctx_setCtx]
      exact hs
    · rw [ctx_setCtx_ne _ _ hc]
      exact hs

/-! ### The turn of the datapath (R147) -/

section

variable {s : State} {τ : Nat} {p : Fin 12}

theorem datapathTurn_idle (idle : Bool) (h0 : (s.ctx (2 * p)).ready = none) (h1 : (s.ctx (2 * p + 1)).ready = none) :
    exec (.datapathTurn p idle τ) s = .next s := by
  have htie : s.turnTie p = none := by
    unfold State.turnTie
    rw [h0]
  have hturn : s.turnOf p = none := by
    unfold State.turnOf
    rw [h0, h1]
    rfl
  show Host.Outcome.next (match (if idle then (s.turnTie p).orElse fun _ => s.turnOf p else s.turnOf p) with
    | some c => (s.at τ).serveLine c | none => s) = _
  rw [htie, hturn]
  cases idle <;> rfl

theorem turnOf_ready {i : Fin 2} (hready : (s.ctx (2 * p.val + i.val)).ready.isSome = true)
    (hother : (s.ctx (2 * p.val + (1 - i.val))).ready = none ∨ s.rd (ING.PSTAT_LAST p) = 1 - i.val) :
    s.turnOf p = some (2 * p.val + i.val) := by
  unfold State.turnOf
  match i with
  | 0 =>
    rw [show (2 * p.val + (0 : Fin 2).val) = 2 * p.val from rfl] at hready ⊢
    rw [show 2 * p.val + (1 - (0 : Fin 2).val) = 2 * p.val + 1 from rfl] at hother
    dsimp only
    obtain h | h := hother
    · simp [hready, h]
    · rw [h]
      simp [hready]
  | 1 =>
    rw [show (2 * p.val + (1 : Fin 2).val) = 2 * p.val + 1 from rfl] at hready ⊢
    rw [show 2 * p.val + (1 - (1 : Fin 2).val) = 2 * p.val from rfl] at hother
    dsimp only
    obtain h | h := hother
    · simp [hready, h]
    · rw [h]
      simp [hready]

theorem ctx_wr (s : State) (f : Fld) (v c : Nat) : (s.wr f v).ctx c = s.ctx c := rfl

theorem otherSlotsKept_trans {s t u : State} {c : Nat} (h : OtherSlotsKept s t c)
    (h' : ∀ k, k ≠ c → { u.ctx k with fillQ := (t.ctx k).fillQ } = t.ctx k) : OtherSlotsKept s u c := fun k hk => by
  have := congrArg (fun x : Ctx => { x with fillQ := (s.ctx k).fillQ }) (h' k hk)
  exact this.trans (h k hk)

/-- A line as it joins its frame: its pixels are marked where it is damaged and BADFILL is set (R152). -/
def RLine.served (l : RLine) (m : Frm) (c : Nat) : RLine :=
  { l with px := if l.dam = true ∧ m.conf (CTX.SRC_BADFILL c) = 1 then l.px.map fun _ => none else l.px }

/-- A line whose buffer reads back well joins its frame. -/
theorem serveLine_clean {u : State} {c k n : Nat} {l : RLine} {m : Frm} (hready : (u.ctx c).ready = some (k, n, l))
    (hfrm : u.frm c k = m) (hclean : u.clean) : u.serveLine c =
      (((u.setCtx c { u.ctx c with ready := none, turned := true }).updFrm c k fun z => { z with
        lines := AMap.set z.lines n (l.served m c) }).wr (ING.PSTAT_LAST (c / 2)) (c % 2)).ctxRun c := by
  unfold State.serveLine
  dsimp only
  rw [hready]
  dsimp only
  rw [hfrm, memRead_clean (m := .line (c / 2)) _ _ hclean trivial]
  simp only [Bool.false_and, Bool.or_false, Bool.false_eq_true, if_false]
  rfl

theorem datapathTurn_serves {c : Fin 24} {i : Fin 2} {k n : Nat} {l : RLine} {m : Frm} (hc : c.val = 2 * p.val + i.val)
    (hready : (s.ctx c).ready = some (k, n, l))
    (hother : (s.ctx (2 * p.val + (1 - i.val))).ready = none ∨ s.rd (ING.PSTAT_LAST p) = 1 - i.val)
    (hfind : (s.ctx c).frames.find? (fun z => z.serial == k) = some m) (hopen : m.closed = none) (hclean : s.clean) :
    Answers (exec (.datapathTurn p false τ) s) fun t =>
      t.rd (ING.PSTAT_LAST p) = i.val ∧ (t.ctx c).ready = none ∧ OtherSlotsKept s t c ∧
      (t.frm c k).lines = AMap.set m.lines n (l.served m c) := by
  have hturn : s.turnOf p = some c.val := by
    rw [hc]
    exact turnOf_ready (by rw [← hc, hready]; rfl) hother
  have hrow : exec (.datapathTurn p false τ) s = .next ((s.at τ).serveLine c) := by
    show Host.Outcome.next (match s.turnOf p with | some c => (s.at τ).serveLine c | none => s) = _
    rw [hturn]
  rw [serveLine_clean (u := s.at τ) hready (frm_of_find hfind) hclean] at hrow
  obtain ⟨v, hv⟩ : ∃ v, v = ((s.at τ).setCtx c { (s.at τ).ctx c with ready := none, turned := true }).updFrm c k fun z => { z with
      lines := AMap.set z.lines n (l.served m c) } := ⟨_, rfl⟩
  rw [← hv] at hrow
  have hctx : v.ctx c = Ctx.upd { s.ctx c with ready := none, turned := true } k fun z => { z with
      lines := AMap.set z.lines n (l.served m c) } := by
    rw [hv, ctx_updFrm, ctx_setCtx]
    rfl
  have hfed : Fed c (s.at τ) v := by
    rw [hv]
    exact ((Fed.refl c (s.at τ)).setCtx _).updFrm ..
  have hrun := (Fed.refl c.val (v.wr (ING.PSTAT_LAST (c.val / 2)) (c.val % 2))).ctxRun
  have hhalf : c.val / 2 = p.val ∧ c.val % 2 = i.val := by omega
  refine ⟨_, hrow, ?_, ?_, fun j hj => ?_, ?_⟩
  · refine (hrun.regs _ ?_ ?_).trans ?_
    · simp only [AsideKey, ING.PSTAT_LAST, Fld.key]
      omega
    · simp only [SlotKey, ING.PSTAT_LAST, Fld.key]
      omega
    · rw [hhalf.1, hhalf.2]
      exact (rd_wr_same _ _ _).trans (Nat.mod_eq_of_lt (by show i.val < 2 ^ 1; omega))
  · refine (unready_keeps c).ctxRun (s := v.wr (ING.PSTAT_LAST (c.val / 2)) (c.val % 2)) ?_
    show (v.ctx c).ready = none
    rw [hctx]
    rfl
  · exact otherSlotsKept_trans hfed.others (fun j hj => (hrun.others j hj).trans (ctx_wr ..)) j hj
  · have hQ : FedKeeps c.val (Holds c k fun z => z.lines = AMap.set m.lines n (l.served m c)) :=
      holds_keeps c k fun _ z z' _ hstep hz => (congrArg Frm.lines hstep.core :).trans hz
    have hheld : Holds c k (fun z => z.lines = AMap.set m.lines n (l.served m c)) (v.wr (ING.PSTAT_LAST (c.val / 2)) (c.val % 2)) := by
      have hserial : ∀ z : Frm, (if z.serial = k then { z with lines := AMap.set z.lines n (l.served m c) } else z).serial = z.serial :=
        fun z => by
          split <;> rfl
      refine ⟨⟨{ m with lines := AMap.set m.lines n (l.served m c) }, ?_, hopen, rfl⟩⟩
      show (v.ctx c).frames.find? _ = _
      rw [hctx]
      exact (find_map_serial (fun z _ => hserial z) k).trans
        ((congrArg (Option.map _) hfind).trans (congrArg some (if_pos (find_serial hfind))))
    obtain ⟨z, hz, -, hlines⟩ := (hQ.ctxRun hheld).frm
    rw [frm_of_find hz]
    exact hlines

end

/-! ### Fill lines and records (R155, R170) -/

/-- The next row of a region, once the frame is known to hold. -/
theorem rgnRow_advances {u : State} {c r : Nat} {m : Frm} {st : LineSt} {blocked : Bool}
    (hm : (u.ctx c).frames.find? (fun y => y.serial == m.serial) = some m) (hopen : m.closed = none) :
    Holds c m.serial (fun z => AMap.get 0 m.rgn r < AMap.get 0 z.rgn r) (u.rgnRow c r m blocked st) := by
  have hrun : RunKeeps c (Holds c m.serial fun _ => True) := (holds_keeps c m.serial fun _ _ _ _ _ h => h).toRunKeeps
  unfold State.rgnRow
  extract_lets i px bytes s1 s2 s3 s4
  have hs2 : Holds c m.serial (fun _ => True) s2 := hrun.rgnPut (hrun.rgnCheck ⟨⟨m, hm, hopen, trivial⟩⟩)
  have hs3 : Holds c m.serial (fun _ => True) s3 := by
    unfold s3
    split
    · exact hrun.flkRow hs2
    · exact hs2
  have hs4 : Holds c m.serial (fun z => i < AMap.get 0 z.rgn r) s4 := by
    obtain ⟨z, hz, hclosed, -⟩ := hs3.frm
    have hserial : ∀ z : Frm, (if z.serial = m.serial then { z with rgn := AMap.set z.rgn r (i + 1) } else z).serial = z.serial :=
      fun z => by
        split <;> rfl
    refine ⟨⟨{ z with rgn := AMap.set z.rgn r (i + 1) }, ?_, hclosed, ?_⟩⟩
    · rw [ctx_updFrm]
      exact (find_map_serial (fun z _ => hserial z) m.serial).trans
        ((congrArg (Option.map _) hz).trans (congrArg some (if_pos (find_serial hz))))
    · show i < AMap.get 0 (AMap.set z.rgn r (i + 1)) r
      rw [amap_get_set_same]
      exact Nat.lt_succ_self i
  have hkeep : RunKeeps c (Holds c m.serial fun z => i < AMap.get 0 z.rgn r) := (rowsBeyond_keeps c m.serial r i).toRunKeeps
  clear_value s4
  split
  · split
    next n hn =>
      exact hkeep.updFrm (fun _ _ _ => ⟨rfl, fun _ h => h, .inl rfl⟩) (hkeep.aside _ _ ((Aside.refl _).chkLatch (rgnChk_lt hn)) hs4)
    · exact hs4
  · exact hs4

/-- A frame whose embedded data have gone, or that has none, keeps all but the mark of it. -/
theorem rgnEmbed_sent {s : State} {c : Nat} {m : Frm} (hfind : (s.ctx c).frames.find? (fun z => z.serial == m.serial) = some m)
    (hemb : m.embOut.contains 0 = true ∨ m.emb = []) : Fed c s (s.rgnEmbed c m) ∧ (s.rgnEmbed c m).graph = s.graph ∧
    ∃ out, ((s.rgnEmbed c m).ctx c).frames.find? (fun z => z.serial == m.serial) = some { m with embOut := out } := by
  unfold State.rgnEmbed
  split
  next => exact ⟨Fed.refl c s, rfl, m.embOut, hfind⟩
  next hout =>
    have hnone : m.emb.mergeSort (fun a b => decide (a.1 ≤ b.1)) = [] := by rw [hemb.resolve_left hout, List.mergeSort_nil]
    rw [hnone]
    refine ⟨(Fed.refl c s).updFrm .., rfl, [0], ?_⟩
    have hserial : ∀ z : Frm, (if z.serial = m.serial then { z with embOut := [0] } else z).serial = z.serial := fun z => by
      split <;> rfl
    dsimp only
    rw [List.foldl_nil, ctx_updFrm]
    exact (find_map_serial (fun z _ => hserial z) m.serial).trans ((congrArg (Option.map _) hfind).trans (congrArg some (if_pos rfl)))

theorem rgnFlue_of_graph {s t : State} (h : t.graph = s.graph) (m : Frm) (c r : Nat) : t.rgnFlue m c r = s.rgnFlue m c r := by
  unfold State.rgnFlue State.flueDef State.graphOf
  rw [h]

theorem flueCredit_of_graph {s t : State} (h : t.graph = s.graph) (gen i : Nat) : t.flueCredit gen i = s.flueCredit gen i := by
  unfold State.flueCredit State.flue State.flueDef State.graphOf
  rw [h]

/-- The record of a region goes to its flue, once the frame's embedded data have gone or where there are none. -/
theorem rgnRecord_writes {s : State} {c r i : Nat} {m : Frm} (hfind : (s.ctx c).frames.find? (fun z => z.serial == m.serial) = some m)
    (hend : m.endAt.isSome = true) (hflue : s.rgnFlue m c r = some i) (hmute : m.mute.contains r = false)
    (hcredit : s.flueCredit m.gen i = true) (hemb : r ≠ 0 ∨ m.embOut.contains 0 = true ∨ m.emb = []) : ∃ u bs,
      s.rgnRecord c r m = (u.updFrm c m.serial fun z => { z with done := z.done ++ [r] }).flueItem m.gen i bs ∧
      Fed c s u ∧ u.graph = s.graph := by
  obtain ⟨e, he⟩ := Option.isSome_iff_exists.mp hend
  obtain ⟨w, hw⟩ : ∃ w, w = s.rgnRecord c r m := ⟨_, rfl⟩
  rw [← hw]
  unfold State.rgnRecord at hw
  rw [he] at hw
  extract_lets s1 m1 fin at hw
  have hs1 : Fed c s s1 ∧ s1.graph = s.graph ∧
      ∃ out, (s1.ctx c).frames.find? (fun z => z.serial == m.serial) = some { m with embOut := out } := by
    unfold s1
    split
    next hr => exact rgnEmbed_sent hfind (hemb.resolve_left (not_not.mpr hr))
    next => exact ⟨Fed.refl c s, rfl, m.embOut, hfind⟩
  obtain ⟨hfed, hgraph, out, hout⟩ := hs1
  have hm1 : m1 = { m with embOut := out } := frm_of_find hout
  have hflue1 : s1.rgnFlue m1 c r = some i := by
    rw [hm1, rgnFlue_of_graph hgraph]
    exact hflue
  have hcredit1 : s1.flueCredit m1.gen i = true := by
    rw [hm1, flueCredit_of_graph hgraph]
    exact hcredit
  have hmute1 : ¬(m1.mute.contains r = true) := by
    rw [hm1]
    simpa using hmute
  rw [hflue1] at hw
  dsimp only at hw
  rw [if_neg hmute1, if_pos hcredit1] at hw
  rw [show m1.gen = m.gen from (congrArg Frm.gen hm1 :)] at hw
  exact ⟨s1, _, hw, hfed, hgraph⟩

theorem flueItem_claims (s : State) (gen i : Nat) (bs : List Nat) :
    (s.flue gen i).claimed < ((s.flueItem gen i bs).flue gen i).claimed := by
  unfold State.flueItem State.flueClaim
  extract_lets seq f d s1
  have hs1 : (s1.flue gen i).claimed = (s.flue gen i).claimed + 1 := congrArg Flue.claimed (amap_get_set_same ..)
  have hrest := (((((Aside.refl s1).memWrite (shared_mem d) (d.slot f.claimed) (leBytes 8 bs.length)).flueMarks gen i).flueAppend gen i seq
    bs).flueClose gen i seq).claims (128 * gen + i)
  exact lt_of_lt_of_le (lt_of_lt_of_eq (Nat.lt_succ_self _) hs1.symm) hrest

/-- The frame of serial number `k` has sent its record of region `r`. -/
def Recorded (c k r : Nat) (u : State) : Prop := ∀ z ∈ (u.ctx c).frames, z.serial = k → r ∈ z.done

theorem recorded_keeps (c k r : Nat) : FedKeeps c (Recorded c k r) where
  aside t u h hs := by
    unfold Recorded
    rw [h.ctx]
    exact hs
  flueFull t v hs := hs
  ctx t x h hs z hz hserial := by
    obtain ⟨-, g, hg, hstep⟩ := h
    rw [ctx_setCtx, hg] at hz
    obtain ⟨y, hy, rfl⟩ := List.mem_map.mp hz
    exact (hstep y hy).done r (hs y hy ((hstep y hy).serial.symm.trans hserial))
  sweep t hs z hz hserial := by
    rw [State.ctxSweep, ctx_setCtx] at hz
    exact hs z (List.mem_filter.mp hz).1 hserial
  fillQ t q hs := by
    unfold Recorded
    by_cases hc : c = c / 2 * 2
    · rw [← hc, ctx_setCtx]
      exact hs
    · rw [ctx_setCtx_ne _ _ hc]
      exact hs

section

variable {s : State} {τ : Nat} {c : Fin 24} {r : Fin 4} {m : Frm}
  (hframe : (s.ctx c).frames.find? (fun z => rgnOn z.conf c r && !z.done.contains r.val) = some m)
  (hfind : (s.ctx c).frames.find? (fun z => z.serial == m.serial) = some m)
include hframe hfind

theorem fillLineWrite_writes (hopen : m.closed = none)
    (hhead : (((s.at τ).fillDue c).ctx (c.val / 2 * 2)).fillQ.head? = some (4 * c.val + r.val)) :
    Answers (exec (.fillLineWrite c r τ) s) fun t =>
      AMap.get 0 m.rgn r < AMap.get 0 (t.frm c m.serial).rgn r ∧ OtherSlotsKept s t c := by
  obtain ⟨q, hq⟩ := (LineAt.refl c.val (s.at τ)).fillDue
  obtain ⟨u, hu⟩ : ∃ u, u = (s.at τ).fillDue c := ⟨_, rfl⟩
  rw [← hu] at hq hhead
  have hrow : exec (.fillLineWrite c r τ) s = .next (u.fillWrite c r m) := by
    show Host.Outcome.next (match (((s.at τ).fillDue c).ctx c).rgnFrame c r with | some m => _ | none => _) = _
    rw [← hu, hq.ctx, show Ctx.rgnFrame { (s.at τ).ctx c with fillQ := q } c r = some m from hframe]
    exact congrArg _ (if_pos hhead)
  have hdrop := hq.fed.fillQ (c.val / 2 * 2) ((u.ctx (c.val / 2 * 2)).fillQ.drop 1)
  obtain ⟨v, hv⟩ : ∃ v, v = u.setCtx (c.val / 2 * 2) { u.ctx (c.val / 2 * 2) with fillQ := (u.ctx (c.val / 2 * 2)).fillQ.drop 1 } :=
    ⟨_, rfl⟩
  have hvfind : (v.ctx c).frames.find? (fun z => z.serial == m.serial) = some m := by
    have hframes : (v.ctx c).frames = (s.ctx c).frames := by
      rw [hv]
      by_cases hc : c.val = c.val / 2 * 2
      · rw [← hc, ctx_setCtx, hq.ctx]
        rfl
      · rw [ctx_setCtx_ne _ _ hc, hq.ctx]
        rfl
    rw [hframes]
    exact hfind
  have hbase : u.fillWrite c r m = (v.rgnRow c r m false .fill).ctxRun c := by
    rw [hv]
    rfl
  rw [← hv] at hdrop
  have hheld := (rowsBeyond_keeps c m.serial r (AMap.get 0 m.rgn r)).ctxRun
    (rgnRow_advances (r := r) (blocked := false) (st := .fill) hvfind hopen)
  obtain ⟨z, hz, -, hlt⟩ := hheld.frm
  refine ⟨_, hrow.trans (congrArg _ hbase), ?_, ?_⟩
  · rw [frm_of_find hz]
    exact hlt
  · exact ((fed_keeps c (s.at τ)).ctxRun ((fed_keeps c (s.at τ)).toRunKeeps.rgnRow hvfind hdrop)).others

/-- The record of a region's oldest frame is written. -/
theorem frameRecordWrite_writes {i : Nat} (hrows : rgnH m.conf c r ≤ AMap.get 0 m.rgn r) (hend : m.endAt.isSome = true)
    (hflue : s.rgnFlue m c r = some i) (hmute : m.mute.contains r.val = false) (hcredit : s.flueCredit m.gen i = true)
    (hemb : r ≠ 0 ∨ m.embOut.contains 0 = true ∨ m.emb = []) : Answers (exec (.frameRecordWrite c r τ) s) fun t =>
      (∀ z ∈ (t.ctx c).frames, z.serial = m.serial → r.val ∈ z.done) ∧
      (s.flue m.gen i).claimed < (t.flue m.gen i).claimed ∧ OtherSlotsKept s t c := by
  have hrow : exec (.frameRecordWrite c r τ) s = .next (((s.at τ).rgnRecord c r m).ctxRun c) := by
    show Host.Outcome.next (match (s.ctx c).rgnFrame c r with | some m => _ | none => _) = _
    rw [show (s.ctx c).rgnFrame c r = some m from hframe]
    exact congrArg _ (if_pos ⟨hrows, hend⟩)
  obtain ⟨u, bs, hrecord, hfed, hgraph⟩ := rgnRecord_writes (s := s.at τ) (r := r.val) hfind hend hflue hmute hcredit
    (hemb.imp_left fun h hr => h (Fin.ext hr))
  obtain ⟨v, hv⟩ : ∃ v, v = u.updFrm c m.serial fun z => { z with done := z.done ++ [r.val] } := ⟨_, rfl⟩
  rw [← hv] at hrecord
  have hrecorded : Recorded c m.serial r v := by
    intro z hz hserial
    rw [hv, ctx_updFrm] at hz
    obtain ⟨y, -, rfl⟩ := List.mem_map.mp hz
    split
    · exact List.mem_append_right _ (.head _)
    next hy =>
      rw [if_neg hy] at hserial
      exact absurd hserial hy
  have hflues : (v.flue m.gen i).claimed = (s.flue m.gen i).claimed := by
    have hvgraph : v.graph = s.graph := by
      rw [hv]
      exact hgraph
    unfold State.flue
    rw [hvgraph]
  have hfedv : Fed c (s.at τ) v := by
    rw [hv]
    exact hfed.updFrm ..
  have hitem := (Aside.refl v).flueItem m.gen i bs
  have hrun := (Fed.refl c.val (v.flueItem m.gen i bs)).ctxRun
  rw [hrecord] at hrow
  refine ⟨_, hrow, (recorded_keeps c m.serial r).ctxRun ((recorded_keeps c m.serial r).aside _ _ hitem hrecorded), ?_, ?_⟩
  · rw [← hflues]
    exact lt_of_lt_of_le (flueItem_claims v m.gen i bs) (hrun.claims (128 * m.gen + i))
  · exact ((hfedv.aside hitem).trans hrun).others

end

/-- Settles O53: each packet and each turn is one of the rules above. -/
theorem ingestFramesOpenFillAndClose : Obligations.IngestFramesOpenFillAndClose := by
  unfold Obligations.IngestFramesOpenFillAndClose
  intro link c vc τ s x
  refine ⟨fun hvideo num tseq index fmt valid w h data bad cut i hi => ?_,
    fun num tseq valid w h hvideo harm honly => ⟨frameStart_opens hvideo harm honly, frameStart_lost hvideo harm honly⟩,
    fun num ofs fmt data bad cut hfmt => congrArg Host.Outcome.next (if_neg (by simp [hfmt])),
    fun num ofs fmt data bad cut hfmt hvideo hserves => line_unserved hvideo hfmt hserves,
    fun hvideo hserves => ⟨fun num ofs fmt data bad cut hfmt hopen => line_orphan hvideo hfmt hserves hopen,
      ?_,
      fun index data mark m hin => ⟨embedded_kept hvideo hserves hin, embedded_full hvideo hserves hin⟩,
      fun num lines ovf hinj => ⟨frameEnd_orphan hvideo hserves hinj, fun m hin => frameEnd_closes hin hvideo hserves hinj⟩⟩,
    fun m hin => ⟨frameTimeout_closes hin, frameTimeout_early hin⟩,
    fun idle p h0 h1 => datapathTurn_idle idle h0 h1,
    fun p i k n l m hc hready hother hfind hopen hclean => datapathTurn_serves hc hready hother hfind hopen hclean,
    fun r m hframe hfind => ⟨fillLineWrite_writes hframe hfind,
      fun i hrows hend hflue hmute hcredit hemb => frameRecordWrite_writes hframe hfind hrows hend hflue hmute hcredit hemb⟩⟩
  · simp only [List.mem_cons, List.not_mem_nil, or_false] at hi
    obtain rfl | rfl | rfl | rfl := hi
    · exact congrArg Host.Outcome.next (if_neg (by simp [hvideo]))
    · exact congrArg Host.Outcome.next (if_neg (by simp [hvideo]))
    · exact congrArg Host.Outcome.next (if_neg (by simp [hvideo]))
    · exact congrArg Host.Outcome.next (if_neg (by simp [hvideo]))
  · intro m num ofs fmt data bad hfmt hin px w gap lost
    refine ⟨fun l hrecv hnum hconf hlen hpx => line_continues hvideo hfmt hserves hin hrecv hnum hconf hlen hpx,
      fun hrecv hnum hnext hofs => ⟨line_otherFormat hvideo hfmt hserves hin hrecv hnum hnext hofs,
        line_short hvideo hfmt hserves hin hrecv hnum hnext hofs, line_ready hvideo hfmt hserves hin hrecv hnum hnext hofs,
        line_overflows hvideo hfmt hserves hin hrecv hnum hnext hofs⟩,
      fun hrecv htail => line_tail hvideo hserves hin hfmt hrecv htail,
      fun hrecv htail hnum hnext => line_past hvideo hserves hin hfmt hrecv htail hnum hnext⟩

end Sys2Proof.Machine

end
